-- ==== Sys2Proof/Word.lean ====
section
/-!
DEFINITION. The word types of the MLF-9440 and their plainest arithmetic.

Registers are 32 bits wide (R5), a register pair or a phase word is 64 bits (R6, R10), on-chip memory is addressed by bytes.
-/
namespace Sys2Proof

/-- One register (R5). -/
abbrev Word := BitVec 32

/-- A register pair, a phase word or a value of device time (R6, R10). -/
abbrev DWord := BitVec 64

/-- One byte of an on-chip memory, a descriptor or a message. -/
abbrev Byte := BitVec 8

/-- Sparse data by key: strictly rising keys, no entry equal to the value an unlisted key reads as. -/
abbrev SMap (α : Type) := List (Nat × α)

/-- Bits [31:0] of a 64-bit quantity (name_LO, R6). -/
def loHalf (d : DWord) : Word := d.setWidth 32

/-- Bits [63:32] of a 64-bit quantity (name_HI, R6). -/
def hiHalf (d : DWord) : Word := (d >>> 32).setWidth 32

/-- The 64-bit quantity of a pair (R6). -/
def joinHalves (hi lo : Word) : DWord := hi ++ lo

end Sys2Proof
end

