-- ==== Sys2Proof/Syntax.lean ====
section
/-!
DEFINITION. The commands of the MLF-9440: one constructor per row of the opcode table, with the operands of each event.

Every operand is what the sender of the command decides: the unit meant, the value written, the requester, the dtu of the
current tick at which an event falls, and what the world outside the device answers.
-/
namespace Sys2Proof

/-- A requester of a register or view access: an agent (R37) or the debugger (R516). -/
inductive Requester where
  | agent (code : BitVec 4)
  | debugger
deriving DecidableEq, Repr

/-- A consumer of memory data (R364, R370): a queue, a queue with its logical Facet, a Region network port, an agent, or the
memory test of a channel with the agent that started it. -/
inductive Consumer where
  | queue (q : Nat)
  | facet (q lg : Nat)
  | port (rg p : Nat)
  | agent (a : Nat)
  | test (ch a : Nat)
deriving DecidableEq, Repr

/-- What external memory returns to a protection engine: what was last written there, or how it differs (R331, R358, R366 to
R375): a corrected metadata error, poisoned data, a line whose tag does not match, a tree block whose tag does not match, a
poisoned tree block, both Culet copies failed. -/
inductive Fetch where
  | intact
  | corrected
  | poison
  | badTag
  | treeFail (level index : Nat)
  | treeUe (level index : Nat)
  | culet
deriving DecidableEq, Repr


/-- Where a packet enters or leaves the network (R300): a network port of a Region, a die's queue manager, or another unit of the die. -/
inductive NetPort where
  | port (rg p : Nat)
  | queues
  | unit (n : Nat)
deriving DecidableEq, Repr

/-- The flow a packet belongs to: source and destination, each with its die, and the virtual channel (R301, R304). -/
structure Flow where
  src   : Nat × NetPort
  dst   : Nat × NetPort
  chan  : Nat
deriving DecidableEq, Repr

/-- A packet at a die: of a flow that enters or leaves the network there (R300, R301). -/
structure Packet where
  die  : Fin 5
  flow : Flow
deriving DecidableEq, Repr

/-- A crossing flit: the DT at which its source groups were sampled, the words of its 32 groups, whether its CRC failed (R306, R307). -/
structure Flit where
  x      : BitVec 64
  words  : List (BitVec 32)
  failed : Bool
deriving DecidableEq, Repr

/-- The reset of a crossing FIFO: its request, or the acknowledgement by a side, the read side or the write side (R187). -/
inductive FifoReset where
  | request
  | acknowledged (read : Bool)
deriving DecidableEq, Repr

/-- A queue whose oldest descriptor is done, and whether that came in the tick in which its timeout elapsed (R12, R318). -/
structure Done where
  q    : Fin 8192
  late : Bool
deriving DecidableEq, Repr

/-- How a CXL request was answered: as unsupported, and whether in the tick in which its timeout elapsed (R12, R346). -/
structure CxlEnd where
  unsupported : Bool
  late        : Bool
deriving DecidableEq, Repr

/-- A Phase Link frame (R401); the unused bits are 0 and the CRC follows from the rest. -/
structure Frame where
  sync  : Nat
  seq   : Nat
  nd    : Nat
  ne    : Nat
  mst   : Bool
  aln   : Bool
  dt    : Nat
  eseq  : Nat
  edt   : Nat
  /-- The turn slot: domain, bits [63:40] of its phase word. -/
  turn  : Nat × Nat
  /-- Domain slots: domain, state, direction, phase bits [39:0]. -/
  doms  : List (Nat × Nat × Bool × Nat)
  events : List Nat
deriving DecidableEq, Repr

/-- Modes of a block-memory port that reads and writes at one edge (R184). -/
inductive WriteMode where
  | writeFirst | readFirst | noChange
deriving DecidableEq, Repr

/-- What a memory port is given at a clock edge (R180, R188): its enable, width in bits, word address, write enable, lanes written,
data, its mode, and whether the output register is used. -/
structure PortAccess where
  en    : Bool
  width : Nat
  addr  : Nat
  write : Bool
  mask  : Nat
  data  : Nat
  mode  : WriteMode
  oreg  : Bool
deriving DecidableEq, Repr

/-- What a MAC slice is given in one cycle (R189 to R192): pre-adder selection (0 U, 1 V, 2 U + V, 3 U − V, 4 V − U) and shift,
whether U comes by the operand chain, operands, addend source (0 zero, 1 ACC, 2 W, 3 CHI), the addend input, subtract, scl, rnd, sat,
and the reset input. -/
structure MacOp where
  sel   : Nat
  shr   : Bool
  chain : Bool
  u     : BitVec 24
  v     : BitVec 24
  k     : BitVec 24
  src   : Nat
  w     : BitVec 56
  neg   : Bool
  scl   : Nat
  rnd   : Bool
  sat   : Bool
  reset : Bool
deriving DecidableEq, Repr

/-- What happened to a memory of a Facet before a bundle issues (R211, R234): nothing; a parity error in the bundle; an uncorrectable
error in the word its first or its second move reads; a single-bit error there, which the read corrects. -/
inductive Upset where
  | none | program | dataA | dataB | single
deriving DecidableEq, Repr

/-- A Facet that issues a bundle, and what its memories turn out to hold (R211, R220). -/
structure ParIssue where
  p     : Fin 272
  upset : Upset := .none
deriving DecidableEq, Repr

/-- A segment as it is written to its target: decrypted and decompressed (R447, R448). -/
structure Segment where
  target : Nat
  die    : Nat
  index  : Nat
  addr   : Nat
  data   : List Byte
deriving DecidableEq, Repr

/-- How a load ended, as its checks gave it (R475, R477): 0, or the code of CFGF_STAT (1 to 5, where 4 is found by comparing);
the CRC formed over the frames; for a port load its class, `home`, `reloc`, `rg_crc`, header hash and segments. -/
structure LoadEnd where
  code : Nat
  cls  : Nat
  home : Nat
  reloc : Bool
  crc  : Nat
  want : Nat
  hash : Nat
  segs : List Segment
deriving DecidableEq, Repr

/-- A token: the public key it is checked with and its signature (R499, R525, R533). -/
structure Token where
  pub : List Byte
  sig : List Byte
deriving DecidableEq, Repr

/-- The provisioning block of R500 as it unwraps: hashes of the owner image keys, debug key, password and UUT CA key; the two
secrets; whether they unwrap. -/
structure Provisioning where
  imageKeys : List Nat
  debugKey  : Nat
  password  : Nat
  uutca     : Option Nat
  kek       : Nat
  signKey   : Nat
  unwraps   : Bool
deriving DecidableEq, Repr

/-- A signed image that Bezel reads by address or from a segment (R469, R518, R520): the outcome of the checks on its form,
its header fields, the hash of its public key, whether signature, key unwrap and segment tags verify, its segments. -/
structure Image where
  formOk  : Bool
  whole   : Bool
  family  : Nat
  device  : Nat
  speed   : Nat
  temp    : Nat
  stepMin : Nat
  secure  : Bool
  reloc   : Bool
  selftest : Bool
  cert    : Bool
  cls     : Nat
  home    : Nat
  ver     : Nat
  arb     : Nat
  keySrc  : Nat
  keyIdx  : Nat
  keyHash : Nat
  sigOk   : Bool
  unwrapOk : Bool
  tagsOk  : Bool
  crc     : Nat
  hash    : Nat
  segs    : List Segment
deriving DecidableEq, Repr

/-- A slot entry of an image directory (R439). -/
structure SlotEntry where
  offset : Nat
  size   : Nat
  order  : Nat
  valid  : Bool
deriving DecidableEq, Repr

/-- A usable directory copy (R439, R440): its generation and its slots 0 to 3. -/
structure Directory where
  gen   : Nat
  slots : List SlotEntry
deriving DecidableEq, Repr

/-- A segment table entry (R447); `zeros`: its reserved bits are 0. -/
structure SegEntry where
  stored : Nat
  raw    : Nat
  target : Nat
  die    : Nat
  index  : Nat
  packed : Bool
  zeros  : Bool
  addr   : Nat
deriving DecidableEq, Repr

/-- An image header and its segment table as they were read (R442), with the outcome of what is checked by cryptography: the
hash of the public key, whether the signature verifies and whether `k1_wrap` unwraps; `zeros`: reserved bytes and bits are 0. -/
structure Header where
  magic   : Nat
  hdrVer  : Nat
  zeros   : Bool
  nseg    : Nat
  family  : Nat
  device  : Nat
  speed   : Nat
  temp    : Nat
  stepMin : Nat
  secure  : Bool
  commit  : Bool
  ver     : Nat
  arb     : Nat
  xtalKhz : Nat
  spineB  : Bool
  dieReq  : Nat
  ddrIlv  : Nat
  ddrReq  : Nat
  ddrCfg  : List (BitVec 32)
  cxl     : Nat
  epId    : List Nat
  mpeD    : List Nat
  split   : Nat
  cdBase  : Nat
  cdSize  : Nat
  libSize : Nat
  libBase : Nat
  keySrc  : Nat
  keyIdx  : Nat
  keyHash : Nat
  sigOk   : Bool
  k1Ok    : Bool
  imgLen  : Nat
  appEntry : Nat
  rt0Entry : Nat
  rt1Entry : Nat
  hash    : Nat
  table   : List SegEntry
deriving DecidableEq, Repr

/-- A stored segment as it arrives (R449, R450, R458): its first 8 bytes are erased, its sync word is right, its tag verifies, its
payload has the stated form, the key tail is 0; the payload's bytes, or the image a LIBRARY or BEZEL_FW segment holds; whether
data came in the cycle of the timeout. -/
structure SegIn where
  erased : Bool
  sync   : Bool
  tag    : Bool
  form   : Bool
  tail0  : Bool
  bytes  : List Byte
  image  : Option Image
  late   : Bool
deriving DecidableEq, Repr

/-- Levels at the pads of the straps (R571). -/
structure Straps where
  dual     : Bool
  failDone : Bool
deriving DecidableEq, Repr

/-- An item of work that waits for admission (R287): a request in the ready queue of a Region's dispatcher, or a job by its kind
(0 scrub, 1 configuration, 2 Loupe readout, 3 retraining, 4 memory test, 5 self-test, 6 logging) and die. -/
inductive Work where
  | request (die rg i : Nat)
  | job (kind die : Nat)
deriving DecidableEq, Repr

/-- A destination endpoint (R312). -/
inductive Endpoint where
  | regionPort (rg port : Nat)
  | facetBank (lg bank : Nat)
  | memory
  | host (port : Nat)
  | remote (die : Nat)
deriving DecidableEq, Repr

/-- The commands, in the order of the opcode table. -/
inductive Instr where
  /-- SPINE_TICK (R11). -/
  | spineTick (missed : List (Fin 4))
  /-- REGISTER_WRITE (R7). -/
  | registerWrite (r : Requester) (addr : Nat) (size : Nat) (w : BitVec 32)
  /-- PAIR_LO_WRITE (R6). -/
  | pairLoWrite (r : Requester) (addr : Nat) (w : BitVec 32)
  /-- PAIR_HI_WRITE (R6). -/
  | pairHiWrite (r : Requester) (addr : Nat) (w : BitVec 32)
  /-- PAIR_LO_READ (R6). -/
  | pairLoRead (r : Requester) (addr : Nat)
  /-- PAIR_HI_READ (R6). -/
  | pairHiRead (r : Requester) (addr : Nat)
  /-- READ_CLEAR (R7). -/
  | readClear (r : Requester) (addr : Nat) (size : Nat)
  /-- READ_POP (R7). -/
  | readPop (r : Requester) (addr : Nat)
  /-- CAPABILITY_DESCRIPTOR (R20). -/
  | capabilityDescriptor (die : Fin 6) (m : Fin 15) (d : List (BitVec 8))
  /-- MODULE_UP (R22). -/
  | moduleUp (m : Fin 15) (late : Bool)
  /-- TRAINING_TIMEOUT (R22). -/
  | trainingTimeout (m : Fin 15)
  /-- MODULE_RETRAIN (R22). -/
  | moduleRetrain (r : Requester) (die : Fin 6) (m : Fin 15) (w : BitVec 32)
  /-- MODULE_DOWN_LOST (R41). -/
  | moduleDownLost (m : Fin 15)
  /-- DIE_LOSS (R41). -/
  | dieLoss (die : Fin 4)
  /-- FAILOVER_SWITCH (R41). -/
  | failoverSwitch
  /-- DIE_REJOIN (R44). -/
  | dieRejoin (die : Fin 4)
  /-- DIE_READY (R44). -/
  | dieReady (die : Fin 4)
  /-- CD_RESET (R46). -/
  | cdReset
  /-- LOCKSTEP_DISAGREEMENT (R35). -/
  | lockstepDisagreement (pair : Fin 2)
  /-- CORE_START (R38). -/
  | coreStart (r : Requester) (w : BitVec 32)
  /-- MBX_PUSH (R37). -/
  | mbxPush (r : Requester) (n : Fin 32) (msg : BitVec 32)
  /-- MBX_POP (R37). -/
  | mbxPop (r : Requester) (n : Fin 32)
  /-- MAILBOX_DISABLE (R37). -/
  | mailboxDisable (r : Requester) (n : Fin 32) (w : BitVec 32)
  /-- USER_MODE_ENTRY (R456). -/
  | userModeEntry (us : Nat)
  /-- QUAD_COUNT (R54). -/
  | quadCount (dom : Fin 16) (k : Nat) (rev : Bool) (width : Nat)
  /-- QUALIFIED_Z (R54). -/
  | qualifiedZ (dom : Fin 16) (k : Nat) (width : Nat)
  /-- TOOTH_EDGE (R55). -/
  | toothEdge (dom : Fin 16) (k : Nat) (width : Nat)
  /-- PULSE_EDGE (R56). -/
  | pulseEdge (dom : Fin 16) (k : Nat) (width : Nat)
  /-- RESOLVER_SAMPLE (R57). -/
  | resolverSample (dom : Fin 16) (k : Nat) (angle : BitVec 32) (err : BitVec 32) (lowAmp : Bool)
  /-- FABRIC_INCREMENT (R60). -/
  | fabricIncrement (rg : Fin 64) (inc : BitVec 32)
  /-- STALL_TIMEOUT (R70). -/
  | stallTimeout (dom : Fin 16)
  /-- HOLDOVER_TIMEOUT (R68). -/
  | holdoverTimeout (dom : Fin 16)
  /-- LINK_FRAME_LOSS (R68). -/
  | linkFrameLoss (dom : Fin 16)
  /-- DOMAIN_ENABLE (R71). -/
  | domainEnable (r : Requester) (dom : Fin 16)
  /-- DOMAIN_DISABLE (R71). -/
  | domainDisable (r : Requester) (dom : Fin 16)
  /-- DOMAIN_REACQUIRE (R71). -/
  | domainReacquire (r : Requester) (dom : Fin 16)
  /-- DOMAIN_FREEZE (R71). -/
  | domainFreeze (r : Requester) (dom : Fin 16)
  /-- DOMAIN_UNFREEZE (R71). -/
  | domainUnfreeze (r : Requester) (dom : Fin 16)
  /-- VELOCITY_WRITE (R59). -/
  | velocityWrite (r : Requester) (dom : Fin 16) (d : BitVec 64)
  /-- ACCELERATION_WRITE (R59). -/
  | accelerationWrite (r : Requester) (dom : Fin 16) (d : BitVec 64)
  /-- PHASE_LOAD (R73). -/
  | phaseLoad (r : Requester) (dom : Fin 16) (d : BitVec 64)
  /-- SPINE_RECALIBRATE (R50). -/
  | spineRecalibrate (r : Requester) (die : Fin 4)
  /-- CALENDAR_ACTION_DELIVERY (R81). -/
  | calendarActionDelivery
  /-- PULSE_END (R91). -/
  | pulseEnd (die : Fin 4) (direct : Bool) (n : Fin 256)
  /-- WINDOW_CLOSE (R118). -/
  | windowClose (die : Fin 4) (pin : Fin 240)
  /-- ENTRY_WRITE (R95). -/
  | entryWrite (r : Requester) (die : Fin 8) (entry : Fin 16448) (word : Fin 8) (w : BitVec 32)
  /-- ENTRY_ARM (R97). -/
  | entryArm (r : Requester) (die : Fin 8) (entry : Fin 16448) (w : BitVec 32)
  /-- ENTRY_READ (R96). -/
  | entryRead (r : Requester) (die : Fin 8) (entry : Fin 16448)
  /-- STAGED_WRITE (R100). -/
  | stagedWrite (r : Requester) (die : Fin 4) (entry : Fin 16384)
  /-- STAGED_READ (R100). -/
  | stagedRead (r : Requester) (die : Fin 4) (entry : Fin 16384)
  /-- GROUP_ARM (R101). -/
  | groupArm (r : Requester) (die : Fin 4) (grp : Fin 16) (timed : Bool)
  /-- GROUP_DISARM (R101). -/
  | groupDisarm (r : Requester) (die : Fin 4) (grp : Fin 16) (timed : Bool)
  /-- GROUP_SHIFT (R101). -/
  | groupShift (r : Requester) (die : Fin 4) (grp : Fin 16) (timed : Bool)
  /-- CALENDAR_ENABLE (R104). -/
  | calendarEnable (r : Requester) (die : Fin 4) (w : BitVec 32)
  /-- TIO_MODE_CHANGE (R111). -/
  | tioModeChange (r : Requester) (die : Fin 4) (pin : Fin 240) (w : BitVec 32)
  /-- INPUT_EDGE (R117). -/
  | inputEdge (die : Fin 4) (pin : Fin 240) (k : Nat) (level : Bool) (width : Nat)
  /-- MEASUREMENT_TIMEOUT (R120). -/
  | measurementTimeout (die : Fin 4) (pin : Fin 240)
  /-- OUTPUT_FIFO_WRITE (R121). -/
  | outputFifoWrite (r : Requester) (die : Fin 4) (pin : Fin 240) (d : BitVec 64)
  /-- OUTPUT_FIFO_RELEASE (R122). -/
  | outputFifoRelease (die : Fin 4) (pin : Fin 240)
  /-- OUTPUT_FIFO_FLUSH (R137). -/
  | outputFifoFlush (r : Requester) (die : Fin 4) (pin : Fin 240)
  /-- CAPTURE_HEAD_READ (R112). -/
  | captureHeadRead (r : Requester) (die : Fin 4) (pin : Fin 240)
  /-- CAPTURE_POP (R112). -/
  | capturePop (r : Requester) (die : Fin 4) (pin : Fin 240)
  /-- RECORD_DRAIN (R138). -/
  | recordDrain (die : Fin 4) (pin : Fin 240)
  /-- PWM_UPDATE (R128). -/
  | pwmUpdate (r : Requester) (die : Fin 4) (pin : Fin 240)
  /-- PWM_SHADOW_MOVE (R128). -/
  | pwmShadowMove (die : Fin 4) (pin : Fin 240) (k : Nat)
  /-- ENCODER_COUNT_STEP (R130). -/
  | encoderCountStep (die : Fin 4) (pin : Fin 240) (k : Nat)
  /-- EMULATION_OFFSET_WRITE (R132). -/
  | emulationOffsetWrite (r : Requester) (die : Fin 4) (pin : Fin 240) (w : BitVec 32)
  /-- PATTERN_WRITE (R134). -/
  | patternWrite (r : Requester) (die : Fin 4) (n : Fin 128) (w : BitVec 32)
  /-- PAD_FUNCTION_WRITE (R155). -/
  | padFunctionWrite (r : Requester) (die : Fin 4) (pin : Fin 240) (w : BitVec 32)
  /-- CHANGEOVER_END (R154). -/
  | changeoverEnd (die : Fin 4) (pin : Fin 240)
  /-- CROSSBAR_SOURCE_WRITE (R149). -/
  | crossbarSourceWrite (r : Requester) (die : Fin 4) (pin : Fin 240) (w : BitVec 32)
  /-- CROSSBAR_INPUT_WRITE (R150). -/
  | crossbarInputWrite (r : Requester) (die : Fin 4) (pin : Fin 240) (w : BitVec 32)
  /-- PAD_LOCK_TAG1 (R165). -/
  | padLockTag1 (r : Requester) (die : Fin 4) (pin : Fin 256)
  /-- PAD_LOCK_TAG2 (R165). -/
  | padLockTag2 (r : Requester) (die : Fin 4) (pin : Fin 256)
  /-- PAD_LOCK_READ (R167). -/
  | padLockRead (r : Requester) (die : Fin 4)
  /-- PAD_SNAPSHOT_READ (R160). -/
  | padSnapshotRead (r : Requester) (die : Fin 4)
  /-- ADC_CONVERSION (R159). -/
  | adcConversion (die : Fin 4) (code : BitVec 12)
  /-- INITIAL_VALUE_RESTORE (R178). -/
  | initialValueRestore (r : Requester) (die : Fin 4) (mask : BitVec 16)
  /-- RESTORE_COMPLETE (R178). -/
  | restoreComplete (die : Fin 4)
  /-- CROSSING_FIFO_WRITE (R186). -/
  | crossingFifoWrite (die : Fin 4) (rg : Fin 16) (m : Fin 288) (width : Nat) (data : Nat) (crossed : Nat)
  /-- CROSSING_FIFO_READ (R186). -/
  | crossingFifoRead (die : Fin 4) (rg : Fin 16) (m : Fin 288) (crossed : Nat)
  /-- CROSSING_FIFO_RESET (R187). -/
  | crossingFifoReset (die : Fin 4) (rg : Fin 16) (m : Fin 288) (e : FifoReset)
  /-- BLOCK_MEMORY_ACCESS (R184). -/
  | blockMemoryAccess (die : Fin 4) (rg : Fin 16) (m : Fin 288) (ecc : Bool) (same : Bool) (a : Option PortAccess) (b : Option PortAccess)
  /-- MAC_OPERATION (R189). -/
  | macOperation (die : Fin 4) (rg : Fin 16) (slice : Fin 192) (o : MacOp)
  /-- LOUPE_GO (R199). -/
  | loupeGo (r : Requester) (die : Fin 4) (prof : Fin 16)
  /-- LOUPE_CAPTURE_EDGE (R200). -/
  | loupeCaptureEdge (die : Fin 4) (k : Nat) (late : Bool)
  /-- LOUPE_CAPTURE_TIMEOUT (R201). -/
  | loupeCaptureTimeout (die : Fin 4)
  /-- LOUPE_RELEASE (R201). -/
  | loupeRelease (r : Requester) (die : Fin 4)
  /-- LOUPE_QUEUE_READOUT (R205). -/
  | loupeQueueReadout (r : Requester) (die : Fin 4)
  /-- READOUT_COMPLETE (R205). -/
  | readoutComplete (die : Fin 4)
  /-- TASK_REQUEST (R235). -/
  | taskRequest (die : Fin 4) (rg : Fin 16) (task : Fin 64) (param : BitVec 16)
  /-- FDSP_REQ (R235). -/
  | fdspReq (r : Requester) (die : Fin 4) (rg : Fin 16) (w : BitVec 32)
  /-- DISPATCH_ASSIGN (R236). -/
  | dispatchAssign (die : Fin 4) (rg : Fin 16)
  /-- DEADLINE_EXPIRY (R237). -/
  | deadlineExpiry (die : Fin 4) (rg : Fin 16) (waiting : Bool) (n : Nat)
  /-- URGENT_ACCEPT (R230). -/
  | urgentAccept (die : Fin 4) (p : Fin 272)
  /-- FACET_HALT_ACCEPT (R233). -/
  | facetHaltAccept (die : Fin 4) (p : Fin 272)
  /-- TASK_WATCHDOG_EXPIRY (R239). -/
  | taskWatchdogExpiry (die : Fin 4) (p : Fin 272)
  /-- FACET_ABORT (R228). -/
  | facetAbort (r : Requester) (die : Fin 4) (p : Fin 272)
  /-- FACET_RESET (R228). -/
  | facetReset (r : Requester) (die : Fin 4) (p : Fin 272)
  /-- FACET_URGENT (R230). -/
  | facetUrgent (r : Requester) (die : Fin 4) (p : Fin 272) (code : BitVec 16)
  /-- FACET_ENABLE (R228). -/
  | facetEnable (r : Requester) (die : Fin 4) (p : Fin 272) (w : BitVec 32)
  /-- FDSP_REMAP (R241). -/
  | fdspRemap (r : Requester) (die : Fin 4) (rg : Fin 16) (w : BitVec 32)
  /-- REMAP_COMPLETE (R241). -/
  | remapComplete (die : Fin 4) (rg : Fin 16)
  /-- VIEW_BANK_ACCESS (R211). -/
  | viewBankAccess (r : Requester) (die : Fin 4) (p : Fin 272) (bankB : Bool) (n : Fin 8192) (w : Option (BitVec 32))
  /-- PROGRAM_BUNDLE_WRITE (R211). -/
  | programBundleWrite (r : Requester) (die : Fin 4) (p : Fin 272) (n : Fin 8192) (w : BitVec 32)
  /-- STREAM_IN_PUSH (R216). -/
  | streamInPush (die : Fin 4) (rg : Fin 16) (l : Fin 16) (port : Fin 2) (v : BitVec 24)
  /-- STREAM_OUT_POP (R216). -/
  | streamOutPop (die : Fin 4) (rg : Fin 16) (l : Fin 16) (port : Fin 2)
  /-- PAR_BUNDLE (R250). -/
  | parBundle (die : Fin 4) (i : ParIssue)
  /-- IMM (R263). -/
  | imm (die : Fin 4) (p : Fin 272)
  /-- BR (R266). -/
  | br (die : Fin 4) (p : Fin 272)
  /-- BRI (R266). -/
  | bri (die : Fin 4) (p : Fin 272)
  /-- CALL (R266). -/
  | call (die : Fin 4) (p : Fin 272)
  /-- CALLI (R266). -/
  | calli (die : Fin 4) (p : Fin 272)
  /-- RET (R266). -/
  | ret (die : Fin 4) (p : Fin 272)
  /-- RTU (R266). -/
  | rtu (die : Fin 4) (p : Fin 272)
  /-- WAIT (R229). -/
  | wait (die : Fin 4) (p : Fin 272)
  /-- LOOP (R267). -/
  | loop (die : Fin 4) (p : Fin 272)
  /-- LPOP (R266). -/
  | lpop (die : Fin 4) (p : Fin 272)
  /-- REP (R220). -/
  | rep (die : Fin 4) (p : Fin 272)
  /-- SIGNAL (R268). -/
  | signal (die : Fin 4) (p : Fin 272)
  /-- SNOP (R269). -/
  | snop (die : Fin 4) (p : Fin 272)
  /-- MRS (R269). -/
  | mrs (die : Fin 4) (p : Fin 272)
  /-- SRS (R269). -/
  | srs (die : Fin 4) (p : Fin 272)
  /-- MVX (R270). -/
  | mvx (die : Fin 4) (p : Fin 272)
  /-- MXV (R270). -/
  | mxv (die : Fin 4) (p : Fin 272)
  /-- PADD (R269). -/
  | padd (die : Fin 4) (p : Fin 272)
  /-- SCNT (R269). -/
  | scnt (die : Fin 4) (p : Fin 272)
  /-- QKICK (R271). -/
  | qkick (die : Fin 4) (p : Fin 272)
  /-- QKICKD (R271). -/
  | qkickd (die : Fin 4) (p : Fin 272)
  /-- REC (R271). -/
  | record (die : Fin 4) (p : Fin 272)
  /-- DOMAIN_RUN_ENABLE (R277). -/
  | domainRunEnable (r : Requester) (g : Fin 165) (w : BitVec 32)
  /-- DOMAIN_FORCE (R277). -/
  | domainForce (r : Requester) (g : Fin 165) (w : BitVec 32)
  /-- AUTO_SLEEP (R277). -/
  | autoSleep (g : Fin 165) (work : Bool)
  /-- AUTO_DEEP_SLEEP (R277). -/
  | autoDeepSleep (g : Fin 165) (work : Bool)
  /-- DOMAIN_WAKE (R277). -/
  | domainWake (g : Fin 165) (pb : Bool)
  /-- ISLAND_LEVEL_SETTLED (R274). -/
  | islandLevelSettled (j : Fin 92)
  /-- DEEP_SLEEP (R279). -/
  | deepSleep (r : Requester)
  /-- DEVICE_WAKE (R279). -/
  | deviceWake
  /-- CREDIT_WINDOW (R283). -/
  | creditWindow (isl : List (Nat × Nat)) (temps : List Nat)
  /-- CHUNK_GRANT (R284). -/
  | chunkGrant (purse : Fin 5)
  /-- WORK_ADMISSION (R287). -/
  | workAdmission (w : Work)
  /-- THERMAL_TRIP (R291). -/
  | thermalTrip
  /-- PMBUS_POLL (R293). -/
  | pmbusPoll (replies : List (Nat × Nat))
  /-- PMBUS_ALERT (R293). -/
  | pmbusAlert (replies : List (Nat × Nat))
  /-- PMBUS_TIMEOUT (R295). -/
  | pmbusTimeout (dev : Fin 9) (reply : Option Nat)
  /-- ISLAND_FAULT (R297). -/
  | islandFault (j : Fin 92)
  /-- PACKET_ARRIVAL (R301). -/
  | packetArrival (p : Packet) (corrected : Bool) (uncorrectable : Bool)
  /-- CROSSING_FLIT (R307). -/
  | crossingFlit (die : Fin 6) (m : Fin 15) (quarter : Fin 4) (f : Flit)
  /-- DOORBELL (R310). -/
  | doorbell (r : Requester) (q : Fin 8192) (w : BitVec 32)
  /-- QM_KICK (R317). -/
  | qmKick (r : Requester) (q : Fin 8192)
  /-- KICK_ARRIVAL (R317). -/
  | kickArrival (q : Fin 8192)
  /-- DESCRIPTOR_FETCH_COMPLETE (R310). -/
  | descriptorFetchComplete (q : Fin 8192) (f : Fetch)
  /-- SOURCE_READ_RETURN (R312). -/
  | sourceReadReturn (q : Fin 8192) (data : List (BitVec 8)) (poison : Bool) (answered : Bool) (fs : List Fetch)
  /-- STREAM_PUSH (R311). -/
  | streamPush (q : Fin 8192) (bytes : List (BitVec 8)) (flush : Bool)
  /-- CELL_TRANSFER (R316). -/
  | cellTransfer (die : Fin 5)
  /-- CREDIT_RETURN (R312). -/
  | creditReturn (home : Fin 5) (ep : Endpoint)
  /-- DESCRIPTOR_COMPLETE (R318). -/
  | descriptorComplete (d : Done)
  /-- COMPLETION_POINTER_WRITE (R318). -/
  | completionPointerWrite (r : Requester) (q : Fin 8192) (w : BitVec 32)
  /-- QUEUE_TIMEOUT (R321). -/
  | queueTimeout (q : Fin 8192)
  /-- STREAM_FLUSH_TIMEOUT (R311). -/
  | streamFlushTimeout (q : Fin 8192)
  /-- QUEUE_ENABLE (R320). -/
  | queueEnable (r : Requester) (q : Fin 8192)
  /-- QUEUE_PAUSE (R320). -/
  | queuePause (r : Requester) (q : Fin 8192)
  /-- QUEUE_RESUME (R320). -/
  | queueResume (r : Requester) (q : Fin 8192)
  /-- QUEUE_SKIP (R320). -/
  | queueSkip (r : Requester) (q : Fin 8192)
  /-- QUEUE_RESET (R320). -/
  | queueReset (r : Requester) (q : Fin 8192)
  /-- SET_ENABLE (R320). -/
  | setEnable (r : Requester) (set : Fin 64) (grp : Fin 16)
  /-- SET_PAUSE (R320). -/
  | setPause (r : Requester) (set : Fin 64) (grp : Fin 16)
  /-- SET_RESUME (R320). -/
  | setResume (r : Requester) (set : Fin 64) (grp : Fin 16)
  /-- SET_RESET (R320). -/
  | setReset (r : Requester) (set : Fin 64) (grp : Fin 16)
  /-- SET_KICK (R317). -/
  | setKick (r : Requester) (set : Fin 64) (grp : Fin 16)
  /-- MEMORY_READ (R332). -/
  | memoryRead (addr : Nat) (bank : Nat) (row : Nat) (out : Fin 3)
  /-- MEMORY_WRITE (R332). -/
  | memoryWrite (addr : Nat) (bank : Nat) (row : Nat) (prio : Nat)
  /-- REFRESH (R335). -/
  | refresh (c : Fin 4)
  /-- MR4_POLL (R335). -/
  | mr4Poll (c : Fin 4) (hot : Bool)
  /-- ACTIVATION_TABLE_CLEAR (R337). -/
  | activationTableClear (c : Fin 4)
  /-- CHANNEL_TRAINING (R338). -/
  | channelTraining (c : Fin 4)
  /-- CHANNEL_TRAINING_COMPLETE (R338). -/
  | channelTrainingComplete (c : Fin 4) (eyes : List (BitVec 32)) (rfmThr : Nat)
  /-- CHANNEL_INIT (R341). -/
  | channelInit (r : Requester) (c : Fin 4) (w : BitVec 32)
  /-- DDR_RETRAIN (R339). -/
  | ddrRetrain (r : Requester) (c : Fin 4) (w : BitVec 32)
  /-- RETRAIN_SLOT (R339). -/
  | retrainSlot (c : Fin 4) (eyes : List (BitVec 32))
  /-- RETRAIN_ABORT (R340). -/
  | retrainAbort (r : Requester) (c : Fin 4) (w : BitVec 32)
  /-- MEMORY_TEST_WRITE (R342). -/
  | memoryTestWrite (r : Requester) (c : Fin 4) (pat : Fin 4) (kid : Fin 64)
  /-- MEMORY_TEST_CHECK (R342). -/
  | memoryTestCheck (r : Requester) (c : Fin 4) (pat : Fin 4) (kid : Fin 64)
  /-- MEMORY_TEST_WRITE_CHECK (R342). -/
  | memoryTestWriteCheck (r : Requester) (c : Fin 4) (pat : Fin 4) (kid : Fin 64)
  /-- MEMORY_TEST_COMPLETE (R342). -/
  | memoryTestComplete (c : Fin 4)
  /-- CXL_LINK_UP (R343). -/
  | cxlLinkUp (p : Fin 2) (linkB : Bool) (rate : Fin 8) (width : Fin 32) (cxl : Bool)
  /-- CXL_LINK_DOWN (R346). -/
  | cxlLinkDown (p : Fin 2) (linkB : Bool) (next : Fin 2)
  /-- LINK_HOT_RESET (R346). -/
  | linkHotReset (r : Requester) (p : Fin 2) (linkB : Bool) (w : BitVec 32)
  /-- CONFIG_REQUEST (R345). -/
  | configRequest (r : Requester) (p : Fin 2) (w : Option (BitVec 32))
  /-- DEVICE_REGISTER_REQUEST (R345). -/
  | deviceRegisterRequest (r : Requester) (p : Fin 2) (w : Option (BitVec 32))
  /-- CXL_COMPLETION (R346). -/
  | cxlCompletion (p : Fin 2) (linkB : Bool) (data : BitVec 32) (poison : Bool) (e : CxlEnd)
  /-- COMPLETION_TIMEOUT (R346). -/
  | completionTimeout (p : Fin 2) (linkB : Bool)
  /-- ENDPOINT_INTERRUPT (R347). -/
  | endpointInterrupt (r : Requester) (p : Fin 2) (v : Fin 64)
  /-- FUNCTION_LEVEL_RESET (R347). -/
  | functionLevelReset (p : Fin 2)
  /-- PROTECTED_READ (R358). -/
  | protectedRead (addr : Nat) (c : Consumer) (f : Fetch)
  /-- PROTECTED_WRITE (R357). -/
  | protectedWrite (addr : Nat) (bytes : List (BitVec 8)) (poison : Bool) (c : Consumer) (f : Fetch)
  /-- REENCRYPTION_COMPLETE (R362). -/
  | reencryptionComplete (e : Fin 6)
  /-- SPECULATIVE_CHECK (R368). -/
  | speculativeCheck (e : Fin 6)
  /-- SUBTREE_REINIT (R374). -/
  | subtreeReinit (r : Requester) (e : Fin 6) (n : Fin 64)
  /-- SUBTREE_REINIT_COMPLETE (R374). -/
  | subtreeReinitComplete (e : Fin 6)
  /-- KEY_RETIREMENT (R376). -/
  | keyRetirement (r : Requester) (kid : Fin 64)
  /-- RETIREMENT_COMPLETE (R376). -/
  | retirementComplete
  /-- TREE_INITIALISATION (R361). -/
  | treeInitialisation (e : Fin 6)
  /-- TREE_INITIALISATION_COMPLETE (R361). -/
  | treeInitialisationComplete (e : Fin 6)
  /-- ALARM_LOG_HEAD_READ (R369). -/
  | alarmLogHeadRead (r : Requester) (e : Fin 6)
  /-- REGION_ENTRY_WRITE (R363). -/
  | regionEntryWrite (r : Requester) (n : Fin 256) (w : BitVec 32)
  /-- LANE_ENABLE (R392). -/
  | laneEnable (r : Requester) (die : Fin 4) (l : Fin 16) (w : BitVec 32)
  /-- CALIBRATION_DONE (R392). -/
  | calibrationDone (die : Fin 4) (l : Fin 16)
  /-- CDR_LOCK (R392). -/
  | cdrLock (die : Fin 4) (l : Fin 16) (late : Bool)
  /-- CDR_TIMEOUT (R392). -/
  | cdrTimeout (die : Fin 4) (l : Fin 16)
  /-- ADAPTATION_DONE (R392). -/
  | adaptationDone (die : Fin 4) (l : Fin 16) (eq : List (BitVec 32)) (late : Bool)
  /-- ADAPT_FAIL (R392). -/
  | adaptFail (die : Fin 4) (l : Fin 16)
  /-- LOSS_OF_LOCK (R392). -/
  | lossOfLock (die : Fin 4) (l : Fin 16)
  /-- LANE_PLL_UNLOCK (R392). -/
  | lanePllUnlock (die : Fin 4) (q : Fin 4) (b : Bool)
  /-- BLOCK_LOCK_LOSS (R389). -/
  | blockLockLoss (die : Fin 4) (l : Fin 16)
  /-- RECAL (R394). -/
  | recal (r : Requester) (die : Fin 4) (l : Fin 16)
  /-- SLIP (R390). -/
  | slip (r : Requester) (die : Fin 4) (l : Fin 16)
  /-- PRBS_CLEAR (R391). -/
  | prbsClear (r : Requester) (die : Fin 4) (l : Fin 16)
  /-- LOOPBACK_SELECT (R391). -/
  | loopbackSelect (r : Requester) (die : Fin 4) (l : Fin 16) (path : Fin 8)
  /-- TX_EQUALISER_WRITE (R385). -/
  | txEqualiserWrite (r : Requester) (die : Fin 4) (l : Fin 16) (w : BitVec 32)
  /-- EYE_SCAN (R388). -/
  | eyeScan (r : Requester) (die : Fin 4) (l : Fin 16) (w : BitVec 32)
  /-- EYE_SCAN_DONE (R388). -/
  | eyeScanDone (die : Fin 4) (l : Fin 16) (errors : Nat)
  /-- EFOM_MEASUREMENT (R387). -/
  | efomMeasurement (die : Fin 4) (l : Fin 16) (efom : Nat) (eq : List (BitVec 32)) (errors : Nat)
  /-- PORT_ENABLE (R399). -/
  | portEnable (r : Requester) (p : Fin 4) (w : BitVec 32)
  /-- PORT_DISABLE (R409). -/
  | portDisable (r : Requester) (p : Fin 4) (w : BitVec 32)
  /-- FRAME_TRANSMIT (R400). -/
  | frameTransmit (p : Fin 4) (k : Nat)
  /-- FRAME_RECEIVE (R402). -/
  | frameReceive (p : Fin 4) (k : Nat) (f : Frame) (crcOk : Bool) (ppm : Int) (late : Bool)
  /-- EVENT_MESSAGE_SEND (R403). -/
  | eventMessageSend (r : Requester) (p : Fin 4) (msg : BitVec 16)
  /-- EVENT_HEAD_READ (R403). -/
  | eventHeadRead (r : Requester)
  /-- UPSTREAM_LOSS (R405). -/
  | upstreamLoss
  /-- FREQUENCY_ERROR (R407). -/
  | frequencyError
  /-- AMPLITUDE_DETECT (R415). -/
  | amplitudeDetect (byp : Bool) (wait : Fin 8)
  /-- POR_RELEASE (R428). -/
  | porRelease (x : Straps)
  /-- REFERENCE_LOSS (R422). -/
  | referenceLoss (n : Fin 23)
  /-- REFERENCE_RETURN (R419). -/
  | referenceReturn (n : Fin 23) (us : Nat)
  /-- PLL_RELOCK (R424). -/
  | pllRelock (us : Nat)
  /-- HOLD_RELEASE (R424). -/
  | holdRelease (r : Requester)
  /-- RESUME_PIN (R570). -/
  | resumePin (level : Bool)
  /-- FREQUENCY_CHECK (R419). -/
  | frequencyCheck (n : Fin 23)
  /-- FABRIC_PLL_LOSS (R418). -/
  | fabricPllLoss (die : Fin 4) (n : Fin 8)
  /-- POR (R427). -/
  | por
  /-- DEVICE_RESET (R427). -/
  | deviceReset (cause : Fin 16)
  /-- DIE_RESET (R427). -/
  | dieReset (die : Fin 6)
  /-- REGION_RESET (R428). -/
  | regionReset (r : Requester) (die : Fin 4) (mask : BitVec 16)
  /-- REGION_RESET_DONE (R428). -/
  | regionResetDone (die : Fin 4)
  /-- UNIT_RESET (R429). -/
  | unitReset (r : Requester) (die : Fin 6) (unit : Fin 32) (inst : Fin 4096)
  /-- DIE_RELEASE (R434). -/
  | dieRelease (r : Requester) (mask : BitVec 4)
  /-- DIRECTORY_READ (R440). -/
  | directoryRead (c0 : Option Directory) (c1 : Option Directory)
  /-- IMAGE_HEADER_READ (R443). -/
  | imageHeaderRead (h : Header)
  /-- SEGMENT_RECEIVE (R449). -/
  | segmentReceive (g : SegIn)
  /-- SEGMENT_TIMEOUT (R458). -/
  | segmentTimeout
  /-- DONE_RELEASE (R452). -/
  | doneRelease (fits : List Bool)
  /-- JTAG_CONFIGURATION (R462). -/
  | jtagConfiguration (h : Header)
  /-- NVM_COMMAND (R463). -/
  | nvmCommand (r : Requester) (w : BitVec 32)
  /-- NVM_COMMAND_COMPLETE (R463). -/
  | nvmCommandComplete (data : List (BitVec 8))
  /-- REGION_LOAD (R475). -/
  | regionLoad (r : Requester) (die : Fin 4) (rg : Fin 16) (userPort : Bool)
  /-- LOAD_COMPLETE (R475). -/
  | loadComplete (die : Fin 4) (rg : Fin 16) (e : LoadEnd)
  /-- USER_PORT_TIMEOUT (R477). -/
  | userPortTimeout (die : Fin 4) (arrived : Bool)
  /-- REGION_RELEASE (R475). -/
  | regionRelease (r : Requester) (die : Fin 4) (rg : Fin 16) (timed : Bool)
  /-- REGION_OFFLINE (R474). -/
  | regionOffline (r : Requester) (die : Fin 4) (rg : Fin 16) (timed : Bool)
  /-- REGION_SELFTEST (R485). -/
  | regionSelftest (r : Requester) (die : Fin 4) (rg : Fin 16)
  /-- REGION_ABORT (R474). -/
  | regionAbort (r : Requester) (die : Fin 4) (rg : Fin 16)
  /-- TIMED_COMMAND_DUE (R474). -/
  | timedCommandDue (die : Fin 4) (rg : Fin 16)
  /-- SELFTEST_RESULT (R485). -/
  | selftestResult (die : Fin 4) (rg : Fin 16) (sig : Nat) (us : Nat) (pass : Bool)
  /-- SELFTEST_TIMEOUT (R485). -/
  | selftestTimeout (die : Fin 4) (rg : Fin 16)
  /-- FACET_TEST (R486). -/
  | facetTest (r : Requester) (die : Fin 4) (p : Fin 512)
  /-- FACET_TEST_DONE (R486). -/
  | facetTestDone (die : Fin 4) (pass : Bool)
  /-- SCRUB_PASS_START (R480). -/
  | scrubPassStart (die : Fin 4) (n : Fin 2)
  /-- FRAME_SCRUB (R479). -/
  | frameScrub (die : Fin 4) (n : Fin 2) (err : Nat) (bad : List Nat)
  /-- CRITICAL_SCRUB (R481). -/
  | criticalScrub (die : Fin 4) (n : Fin 2) (rewritten : Bool)
  /-- SCRUBBER_AUDIT (R482). -/
  | scrubberAudit (die : Fin 4) (n : Fin 2) (holders : List (BitVec 32))
  /-- FRAME_REPAIR (R483). -/
  | frameRepair (die : Fin 4) (n : Fin 2) (poison : Bool)
  /-- REGION_REPAIR (R483). -/
  | regionRepair (die : Fin 4) (n : Fin 2) (crc : Nat) (poison : Bool)
  /-- SCRUBBER_RESTART (R482). -/
  | scrubberRestart (r : Requester) (die : Fin 4) (n : Fin 2) (w : BitVec 32)
  /-- CD_BANK_CONFIRM (R489). -/
  | cdBankConfirm (r : Requester) (w : BitVec 32)
  /-- TRIAL_TIMEOUT (R489). -/
  | trialTimeout
  /-- BEZEL_COMMAND_GO (R507). -/
  | bezelCommandGo (r : Requester) (chan : Fin 4) (w : BitVec 32)
  /-- KEY_GEN (R509). -/
  | keyGen
  /-- KEY_IMPORT (R504). -/
  | keyImport
  /-- KEY_EXPORT (R504). -/
  | keyExport
  /-- KEY_DELETE (R509). -/
  | keyDelete
  /-- MPE_LOAD (R505). -/
  | mpeLoad
  /-- MPE_GRANT (R505). -/
  | mpeGrant
  /-- SIGN_RECORD (R515). -/
  | signRecord
  /-- TRANSFER_WRAP (R516). -/
  | transferWrap
  /-- ATTEST (R514). -/
  | attest
  /-- GET_CERT (R512). -/
  | getCert
  /-- IMAGE_LIB (R520). -/
  | imageLib (img : Image)
  /-- IMAGE_CD (R520). -/
  | imageCd (img : Image)
  /-- FW_ACTIVATE (R519). -/
  | fwActivate (img : Image)
  /-- RANDOM (R509). -/
  | random
  /-- ARB_ADVANCE (R517). -/
  | arbAdvance
  /-- OTP_SET (R525). -/
  | otpSet (t : Token)
  /-- LC_CHANGE (R501). -/
  | lcChange (ts : List Token) (block : Option Provisioning)
  /-- SENSOR_EVENT (R521). -/
  | sensorEvent (cls : Fin 8)
  /-- EXTEST (R528). -/
  | extest (cells : List (Fin 960 × Bool × Bool))
  /-- IDCODE (R528). -/
  | idcode
  /-- SAMPLE_PRELOAD (R528). -/
  | samplePreload (cells : List (Fin 960 × Bool × Bool))
  /-- CLAMP (R528). -/
  | clamp
  /-- HIGHZ (R528). -/
  | highz
  /-- EXTEST_PULSE (R528). -/
  | extestPulse (cells : List (Fin 960 × Bool × Bool))
  /-- EXTEST_TRAIN (R528). -/
  | extestTrain (cells : List (Fin 960 × Bool × Bool))
  /-- DAG (R528). -/
  | dag
  /-- CFG_DATA (R528). -/
  | cfgData
  /-- BYPASS (R528). -/
  | bypass
  /-- TAP_RESET (R528). -/
  | tapReset
  /-- DAG_ACCESS (R534). -/
  | dagAccess (op : Fin 4) (addr : BitVec 48) (data : BitVec 32) (tag : BitVec 64)
  /-- PASSWORD (R531). -/
  | password (scope : BitVec 8)
  /-- CHALLENGE (R532). -/
  | challenge (scope : BitVec 8)
  /-- RESPONSE (R532). -/
  | response (scope : BitVec 8) (zfill : Bool) (late : Bool)
  /-- CLOSE (R535). -/
  | close
  /-- CHALLENGE_EXPIRY (R532). -/
  | challengeExpiry
  /-- AUTH_DELAY_END (R531). -/
  | authDelayEnd
  /-- CORE_HALT_REQUEST (R536). -/
  | coreHaltRequest (r : Requester) (n : Fin 6)
  /-- CORE_HALT (R536). -/
  | coreHalt (n : Fin 6)
  /-- CORE_RESUME_REQUEST (R536). -/
  | coreResumeRequest (r : Requester) (n : Fin 6)
  /-- EBREAK (R536). -/
  | ebreak (n : Fin 6) (pc : BitVec 64)
  /-- ABSTRACT_ACCESS (R536). -/
  | abstractAccess (r : Requester) (n : Fin 6) (w : BitVec 32)
  /-- FACET_HALT (R537). -/
  | facetHalt (r : Requester)
  /-- FACET_RESUME (R537). -/
  | facetResume (r : Requester)
  /-- FACET_STEP (R537). -/
  | facetStep (r : Requester)
  /-- FACET_REGISTER_ACCESS (R537). -/
  | facetRegisterAccess (r : Requester) (w : BitVec 32)
  /-- WATCHDOG_KICK (R539). -/
  | watchdogKick (r : Requester) (n : Fin 6)
  /-- WATCHDOG_EXPIRY (R539). -/
  | watchdogExpiry (n : Fin 6)
  /-- DEBUG_LINE_EDGE (R542). -/
  | debugLineEdge (n : Fin 16)
  /-- TERMINAL_TX_PUSH (R543). -/
  | terminalTxPush (r : Requester) (b : BitVec 8)
  /-- TERMINAL_TX_POP (R543). -/
  | terminalTxPop
  /-- TERMINAL_RX_PUSH (R543). -/
  | terminalRxPush (b : BitVec 8)
  /-- TERMINAL_RX_POP (R543). -/
  | terminalRxPop (r : Requester)
  /-- RECORD_ARRIVAL (R548). -/
  | recordArrival (picks : List Nat)
  /-- RECORD_STORE (R552). -/
  | recordStore (sev7 : Bool)
  /-- RECORDER_FREEZE (R554). -/
  | recorderFreeze (r : Requester)
  /-- RECORDER_UNFREEZE (R554). -/
  | recorderUnfreeze (r : Requester)
  /-- RECORDER_CLEAR (R555). -/
  | recorderClear (r : Requester)
  /-- FREEZE_LIMIT_EXPIRY (R554). -/
  | freezeLimitExpiry
  /-- BROWNOUT (R563). -/
  | brownout
  /-- VCCIO_ARRIVAL (R565). -/
  | vccioArrival (die : Fin 4) (bank : Fin 10) (mv : Nat)
  /-- VCCIO_LOSS (R565). -/
  | vccioLoss (die : Fin 4) (bank : Fin 10)
  /-- SPINE_PLL_LOCK (R47). -/
  | spinePllLock
  /-- QUAD_PLL_LOCK (R392). -/
  | quadPllLock (die : Fin 4) (q : Fin 4) (b : Bool)
  /-- FABRIC_PLL_LOCK (R418). -/
  | fabricPllLock (die : Fin 4) (n : Fin 8)
  /-- BLOCK_LOCK (R389). -/
  | blockLock (die : Fin 4) (l : Fin 16)
  /-- LOCAL_REFERENCE_LOSS (R420). -/
  | localReferenceLoss (n : Fin 23)
  /-- FABRIC_BYPASS_OUTPUT (R149). -/
  | fabricBypassOutput (die : Fin 4) (line : Fin 128) (level : Bool)
deriving DecidableEq, Repr

end Sys2Proof
end

