-- ==== Sys2Proof/WellFormed.lean ====
section
/-!
DEFINITION. When a command is well formed: its operands name something that exists and fit the widths the specification gives.
Most operands carry their range in their type; what is left is checked here. A command that is not well formed has a meaning all
the same (`exec` is total), but stands for nothing a sender can send.
-/
namespace Sys2Proof

/-- A dtu of a tick: 1 to 31, 32 or 33 (R47, R48, R52). -/
def dtuOk (k : Nat) : Bool := decide (1 ≤ k ∧ k ≤ 33)

/-- An address of the system address space, or of the control die's interrupt controller beside it, and an access size in bytes; 64 for a
cache-block instruction (R5, R24, R34, R36). -/
def accessOk (addr size : Nat) : Bool := decide (addr < 2 ^ 48 + 2 ^ 26) && [1, 2, 4, 64].contains size

/-- A memory port's aspect, word address and lanes (R180, R188). -/
def PortAccess.ok (p : PortAccess) : Bool :=
  [1, 2, 4, 9, 18, 36, 72].contains p.width && decide (p.mask < 2 ^ 8 ∧ p.data < 2 ^ p.width ∧ p.addr < 32768)

/-- A MAC operation's selections (R189 to R192). -/
def MacOp.ok (o : MacOp) : Bool := decide (o.sel ≤ 4 ∧ o.src ≤ 3 ∧ o.scl ≤ 3)

/-- The field widths of a Phase Link frame (R401). -/
def Frame.ok (f : Frame) : Bool :=
  decide (f.sync < 2 ^ 8 ∧ f.seq < 2 ^ 8 ∧ f.nd ≤ 16 ∧ f.ne ≤ 64 ∧ f.doms.length = f.nd ∧ f.events.length = f.ne ∧ f.dt < 2 ^ 48 ∧ f.eseq < 2 ^ 8 ∧ f.edt < 2 ^ 48) &&
  decide (f.turn.1 < 16 ∧ f.turn.2 < 2 ^ 24) &&
  f.doms.all (fun d => decide (d.1 < 16 ∧ d.2.1 < 8 ∧ d.2.2.2 < 2 ^ 40)) && f.events.all (fun e => decide (e < 2 ^ 16))

/-- A destination endpoint that exists (R312). -/
def Endpoint.ok : Endpoint → Bool
  | .regionPort rg port => decide (rg < 64 ∧ port < 4)
  | .facetBank lg bank => decide (lg < 1024 ∧ bank < 2)
  | .memory => true
  | .host port => decide (port < 2)
  | .remote die => decide (die < 6)

/-- A consumer that exists (R364). -/
def Consumer.ok : Consumer → Bool
  | .queue q => decide (q < 8192)
  | .facet q lg => decide (q < 8192 ∧ lg < 1024)
  | .port rg p => decide (rg < 64 ∧ p < 4)
  | .agent a => decide (a < 16)
  | .test ch a => decide (ch < 4 ∧ a < 16)

/-- An item of work that may exist (R287). -/
def Work.ok : Work → Bool
  | .request die rg _ => decide (die < 4 ∧ rg < 16)
  | .job kind die => decide (kind < 7 ∧ die < 5)

/-- A flow that may exist (R300, R301): its ends on dies of the package, ports of local Regions, one of four virtual channels. -/
def Flow.ok (f : Flow) : Bool :=
  let endOk (e : Nat × NetPort) : Bool := decide (e.1 < 6) && match e.2 with | .port rg p => decide (e.1 < 4 ∧ rg < 16 ∧ p < 4) | _ => true
  endOk f.src && endOk f.dst && decide (f.chan < 4)

/-- How a load may end (R475). -/
def LoadEnd.ok (e : LoadEnd) : Bool := decide (e.code ≤ 5 ∧ e.cls ≤ 1 ∧ e.home < 64)

/-- The words a power device answers with: device 0 to 8, 16 bits (R295). -/
def repliesOk (l : List (Nat × Nat)) : Bool := l.all (fun r => decide (r.1 < 9 ∧ r.2 < 2 ^ 16))

/-- A write of 1 to 64 bytes inside one line of memory (R331). -/
def lineOk (addr len : Nat) : Bool := decide (1 ≤ len ∧ addr % 64 + len ≤ 64)

/-- A command is well formed. -/
def Instr.wellFormed : Instr → Bool
  | .registerWrite _ addr size _ | .readClear _ addr size => accessOk addr size
  | .pairLoWrite _ addr _ | .pairHiWrite _ addr _ | .pairLoRead _ addr | .pairHiRead _ addr | .readPop _ addr => accessOk addr 4
  | .capabilityDescriptor _ _ d => d.length == 64
  | .quadCount _ k _ _ | .qualifiedZ _ k _ | .toothEdge _ k _ | .pulseEdge _ k _ | .resolverSample _ k _ _ _
  | .inputEdge _ _ k _ _ | .pwmShadowMove _ _ k | .encoderCountStep _ _ k | .loupeCaptureEdge _ k _ | .frameTransmit _ k => dtuOk k
  | .frameReceive _ k f _ _ _ => dtuOk k && f.ok
  | .crossingFifoWrite _ _ _ width data _ => [9, 18, 36, 72].contains width && decide (data < 2 ^ width)
  | .blockMemoryAccess _ _ _ _ _ a b => a.all PortAccess.ok && b.all PortAccess.ok
  | .macOperation _ _ _ o => o.ok
  | .creditWindow isl temps => decide (isl.length ≤ 92 ∧ temps.length ≤ 92)
  | .workAdmission w => w.ok
  | .pmbusPoll replies | .pmbusAlert replies => repliesOk replies
  | .creditReturn _ ep => ep.ok
  | .packetArrival p _ _ => p.flow.ok
  | .crossingFlit _ _ _ f => f.words.length == 32
  | .protectedRead addr c _ => decide (addr < 2 ^ 48) && c.ok
  | .protectedWrite addr bytes _ c _ => decide (addr < 2 ^ 48) && lineOk addr bytes.length && c.ok
  | .memoryRead addr _ _ _ => decide (addr < 2 ^ 48)
  | .memoryWrite addr _ _ prio => decide (addr < 2 ^ 48 ∧ prio < 16)
  | .loadComplete _ _ e => e.ok
  | _ => true

end Sys2Proof
end

