-- ==== Sys2Proof/Decode.lean ====
section
/-!
DEFINITION. Decoding. The opcode table gives no row any bits: a command is an event, an access or an operation of a unit, and the
device has no instruction words at this level. No word therefore spells a command. (The words the device itself decodes are state
read by the units: Facet bundles, Machine/FacetBundle.lean; calendar entries, Machine/Calendar.lean; descriptors,
Machine/Network.lean.)
-/
namespace Sys2Proof

/-- The command that a word spells by the table's bits: none, as no row has bits. [Log 2 DESIGN CHOICE] -/
def decodeTableWord (_nbits _w : Nat) : Option Instr := none

end Sys2Proof
end

