-- ==== Sys2Proof/Machine/State.lean ====
section
/-!
DEFINITION. The state of the MLF-9440: everything the specification gives the device, as plain data.

Registers stand in one sparse file, `State.csr`, keyed by their CSR window offset (R27); what a register only mirrors (a count,
a level, a state code) is computed from the structures below when it is read. The queue `pending` holds the commands that wait.
-/
namespace Sys2Proof.Machine

/-- The responses of a CSR or on-chip view access (R33). -/
inductive Resp where
  | ok | partialOk | noTarget | refused | unreachable | denied
deriving DecidableEq, Repr

/-- A completion as the outside host sees it (R33, R453). -/
inductive HostCompletion where
  | successful | unsupportedRequest | configurationRetry
deriving DecidableEq, Repr

/-- The bus side: the completion of the last access and what the device keeps for each requester (R6, R33, R96, R112). -/
structure Bus where
  /-- The response and data with which the last access completed (R33). -/
  reply : Option (Resp × Word) := none
  /-- How the last access of the outside host completed for it (R33, R453). -/
  completion : Option HostCompletion := none
  /-- Captures of R6, keyed by `32 * pair + requester`. -/
  capt : SMap (Option DWord) := []
  /-- Held low halves of R6, keyed likewise. -/
  held : SMap (Option Word) := []
  /-- Captures of more than two words: TIO_CAP, calendar entries, MPE_ALM, PL_EVRX, PAD_SNAP (R96, R112, R160, R369, R403). -/
  wide : SMap (List Word) := []
deriving DecidableEq, Repr

/-- A record as its source raises it (R545, R546). -/
structure Raised where
  code : Nat
  sev  : Nat
  trig : Nat
  die  : Nat
  inst : Nat
  dt   : DWord
  phase : DWord
  flags : Nat := 0
  late : Bool := false
  /-- Raised while the recorder's clock was stopped (R422). -/
  held : Bool := false
deriving DecidableEq, Repr

/-! ## Phase Spine -/

/-- Domain states (R67). -/
inductive DomState where
  | off | acquire | locked | holdover | stalled | frozen
deriving DecidableEq, Repr

/-- Commands of a domain engine (R71). -/
inductive DomCmd where
  | enable | disable | reacquire | freeze | unfreeze
deriving DecidableEq, Repr

/-- A piece of a phase trajectory (R48, R62, R63). -/
inductive Seg where
  /-- The phase is held. -/
  | hold (p : DWord)
  /-- An edge source after the edge `e` at `te`, with velocity, acceleration and the next arrival phase (R62, R66). -/
  | edge (e te : DWord) (v : Nat) (a : Int) (f : DWord) (rev : Bool)
  /-- VIRTUAL and FABRIC: linear from `p16` (16 fraction bits below one pu) at `x0`, `v16` per tick (R59, R60). -/
  | ramp (p16 : Nat) (x0 : DWord) (v16 : Nat)
  /-- RESOLVER and LINK: interpolation between known points, `lag` dtu behind; after a re-entry held at a phase until the carried
  position has passed it (R57, R58, R69). -/
  | follow (lag : Nat) (held : Option DWord) (rev : Bool)
  /-- HOLDOVER: extrapolation from `p` at `x0`, `num` pu in `den` dtu (R65). -/
  | extrap (p x0 : DWord) (num : Int) (den : Nat)
deriving DecidableEq, Repr

/-- One domain engine (R51 to R72). -/
structure Dom where
  state : DomState := .off
  /-- DOM_STAT.dir: reverse running. -/
  rev : Bool := false
  frzDbg : Bool := false
  frzCmd : Bool := false
  /-- The phase at the start of the current tick: prev(t), which is cur of the last completed tick (R48). -/
  phase : DWord := 0
  /-- The estimator: last edge, its stamp, velocity Q32.16, acceleration Q16.32, next expected edge (R61). -/
  e : DWord := 0
  te : DWord := 0
  v : Nat := 0
  a : Int := 0
  f : DWord := 0
  vmPrev : Option Nat := none
  ddtPrev : Nat := 0
  /-- The next taken edge is a first edge (after ENABLE, STALLED, a reversal or a held excursion). -/
  restart : Bool := true
  /-- QUAD: the highest edge at or below the counted position, and whether it has been set since ENABLE. -/
  pos : Int := 0
  posKnown : Bool := false
  /-- Levels of lines A, B and Z behind the glitch filter, before inversion (R53). -/
  la : Bool := false
  lb : Bool := false
  lz : Bool := false
  /-- QUAD: the last edge taken, which bounds a held reverse excursion (R66). -/
  taken : Int := 0
  /-- QUAD: the last count, its direction and its stamp. RESOLVER: the direction of the newest point. -/
  lastRev : Bool := false
  lastCount : Option DWord := none
  /-- TOOTH: slot of the last tooth; stamp and interval of the last tooth; teeth since the last gap; runs between gaps. -/
  slot : Nat := 0
  lastTooth : Option DWord := none
  lastGap : Option Nat := none
  teeth : Nat := 0
  gapSeen : Bool := false
  runs : List Nat := []
  /-- RESOLVER and LINK: known points, newest first (stamp, phase). -/
  pts : List (DWord × DWord) := []
  /-- RESOLVER: the last angle, the unwrapped position, samples below threshold, samples of low amplitude. -/
  angle : Word := 0
  raw : DWord := 0
  good : Nat := 0
  low : Nat := 0
  /-- LINK: consecutive valid frames. -/
  frames : Nat := 0
  /-- VIRTUAL: fraction below one pu (16 bits), velocity with 32 fraction bits, and written values not yet in use. -/
  frac : Nat := 0
  vx : Nat := 0
  newVel : Option Nat := none
  newAcc : Option Int := none
  /-- FABRIC: the last sum applied (DOM_VEL, R60). -/
  lastSum : Nat := 0
  /-- The stamp from which STALL_TIMEOUT runs, as it stood at the start of the tick, and now (R70). -/
  actOld : DWord := 0
  act : DWord := 0
  arrived : Bool := false
  /-- Ticks spent in HOLDOVER. -/
  holdTicks : Nat := 0
  /-- Trajectory of the current tick: the segment at its start, then segments by their first dtu, oldest first. -/
  base : Seg := .hold 0
  segs : List (Nat × Seg) := []
  /-- Commands that act at step 2 of the current tick, oldest first (R71). -/
  cmds : List DomCmd := []
deriving DecidableEq, Repr

/-- Where a pulse or a window ends (R91): at a DT, or where a domain's phase has advanced by `width` from `p`. -/
inductive EndAt where
  | time (x : DWord)
  | phase (dom : Nat) (p : DWord) (width : Nat) (placed : DWord)
deriving DecidableEq, Repr

/-- One output line: a pin's timed I/O unit, a calendar direct line, an encoder line. Transitions are kept newest first
as (DT placed, level, driver enabled); they leave the pad 640 dtu later (R49, R115). -/
structure Line where
  level : Bool := false
  oe    : Bool := false
  moves : List (DWord × Bool × Bool) := []
  /-- The level and driver state before the oldest transition kept, and the DT the newest action asked for. -/
  start : Bool × Bool := (false, false)
  asked : Option DWord := none
  /-- The end of the PIN_PULSE in progress and the inactive level. -/
  pulse : Option (EndAt × Bool) := none
deriving DecidableEq, Repr

/-- The values of one tick as the spine ports of the Regions present them (R196): DT, cur and state code of each domain, the tick bit. -/
structure SpineWord where
  dt     : DWord := 0
  cur    : List DWord := []
  states : List Nat := []
  tick   : Bool := false
deriving DecidableEq, Repr

/-- Device time and the phase domains (chapter Phase Spine). -/
structure Spine where
  /-- DT at the start of the current tick (R47). -/
  dt : DWord := 0
  /-- Length of the current tick in dtu: 32, or 31 or 33 in a slewed tick of a follower (R406). -/
  len : Nat := 32
  pllLock : Bool := false
  /-- DT advances. -/
  run : Bool := false
  doms : SMap Dom := []
  /-- Increment sums per Region: this tick's first, then the 16 before it (R60). -/
  incs : SMap (List Nat) := []
  /-- Ticks until the recalibration of a die's receiver ends (SRX_CTL.recal, R50). -/
  recal : SMap Nat := []
  /-- Whether a die's receiver is deskewed, uses its secondary path, its residual skew in ps and its path switches. -/
  deskewed : SMap Bool := []
  second : SMap Bool := []
  skew : SMap Nat := []
  switches : SMap Nat := []
  /-- Levels of the phase input lines, keyed by `16 * die + line` (R53). -/
  phi : SMap Line := []
  /-- What the spine ports have been given, newest first (R196). -/
  port : List SpineWord := []
deriving DecidableEq, Repr

/-! ## Event Calendar -/

/-- One calendar entry (R77): the fields of words 0 to 7, and what the slice keeps beside them. -/
structure CalEntry where
  target : DWord := 0
  step   : DWord := 0
  arg    : Word := 0
  width  : Word := 0
  count  : Nat := 0
  chain  : Nat := 0
  /-- Word 7 [20:0]; bit 0 is `armed`. -/
  ctl    : Nat := 0
  pend   : Bool := false
  latef  : Bool := false
  hov    : Bool := false
  errf   : Bool := false
  /-- Not evaluated since it was armed (R99). -/
  fresh  : Bool := false
  /-- The next occurrence is due at once as a late firing, in the running direction given (R86). -/
  catchUp : Option Bool := none
deriving DecidableEq, Repr

/-- An occurrence that waits in a slice's backlog (R90): local entry, DT of the tick it was due in, occurrence, reverse. -/
structure Waiting where
  entry : Nat
  due   : DWord
  occ   : DWord
  rev   : Bool
deriving DecidableEq, Repr

/-- What waits for the next tick boundary of the slices it names, in arrival order (R94). -/
inductive CalWrite where
  /-- A write of one word of an entry, with the requester and the address its completion answers; shadow entry n stands as
  entry 16,384 + n. In the list of slices, 7 stands for a member that could not be reached (R586). -/
  | word (entry word : Nat) (value : Word) (req addr : Nat)
  /-- A write of CAL_CTL.en (R104). -/
  | enable (en : Bool)
deriving DecidableEq, Repr

/-- A chain or CHAIN_ARM arming on its way to its boundary (R81, R98). -/
structure Arming where
  /-- Local entry, or group when `grp`. -/
  index  : Nat
  grp    : Bool := false
  disarm : Bool := false
  /-- Placement DT, occurrence and domain of the firing that armed it; no domain for a time entry. -/
  dt     : DWord := 0
  occ    : DWord := 0
  dom    : Option Nat := none
deriving DecidableEq, Repr

/-- Operations of an output FIFO entry (TIO_OUT_HI.op). -/
inductive OutOp where
  | low | high | toggle | release | drive
deriving DecidableEq, Repr

/-- What an action does to an output line (R78, R121). -/
inductive PinOp where
  | set | clear | toggle
  | pulse (active : Bool) (e : EndAt)
  | fifo (op : OutOp)
deriving DecidableEq, Repr

/-- One calendar slice (R75 to R107). -/
structure CalSlice where
  table  : SMap CalEntry := []
  shadow : SMap CalEntry := []
  /-- Results of the shadow entries (R105). -/
  results : SMap DWord := []
  /-- CAL_CTL.en as it acts (R104). -/
  en     : Bool := false
  backlog : List Waiting := []
  /-- A staged operation: true for WRITE, and its entry (R100). -/
  stage  : Option (Bool × Nat) := none
  /-- A group command: op, group, and the DT it waits for (R101). -/
  gcmd   : Option (Nat × Nat × Option DWord) := none
  arms   : List Arming := []
  /-- Calendar direct lines 0 to 255 (R79). -/
  lines  : SMap Line := []
  /-- DT and phases of the last evaluation before a debug freeze (R103). -/
  frozen : Option (DWord × List DWord) := none
  /-- Pin actions and windows of the current tick, in firing order: direct line or pin, index, DT, action (R79). -/
  pinOps : List (Bool × Nat × DWord × PinOp) := []
  winOps : List (Nat × DWord × EndAt) := []
  /-- Task requests that reach their dispatchers at the end of the tick: Region, task, parameter, deadline, by DISPATCH (R81). -/
  reqs : List (Nat × Nat × Nat × Option EndAt × Bool) := []
  /-- An error of `cfg_err`, or of `act_err`, has been reported since the flag was cleared (R106). -/
  cfgSeen : Bool := false
  actSeen : Bool := false
deriving DecidableEq, Repr

/-- An action on the phase virtual channel (R81). -/
inductive Flight where
  | domain (die entry dom cmd : Nat)
  | kick (die entry queue : Nat)
  | kickSet (die entry set : Nat)
  | record (r : Raised)
  | arm (die : Nat) (a : Arming)
deriving DecidableEq, Repr

/-! ## Timed I/O -/

/-- One capture record (R112). -/
structure Capture where
  dt    : DWord
  kind  : Nat
  gap   : Bool
  lvl   : Bool
  phase : DWord
deriving DecidableEq, Repr

/-- What waits for the next tick boundary of the timed I/O units of a die, in arrival order (R111, R132, R134): a write of TIO_CTL or of
TIO_EMU_OFS of local pin `n`, a write of word `n` of the tooth-wheel patterns. -/
inductive TioWrite where
  | ctl (die n : Nat) (w : Word)
  | offset (die n : Nat) (w : Word)
  | pattern (die n : Nat) (w : Word)
deriving DecidableEq, Repr

/-- The die of a waiting write. -/
def TioWrite.die : TioWrite → Nat
  | .ctl die _ _ => die
  | .offset die _ _ => die
  | .pattern die _ _ => die

/-- One timed I/O unit (R108 to R141). TIO_CTL as last written is its register; `ctl` and `mode` are in effect (R111). -/
structure Tio where
  ctl     : Word := 0
  mode    : Nat := 0
  /-- A flush waits for the boundary (R137). -/
  flush   : Bool := false
  outq    : List (Nat × OutOp) := []
  caps    : List Capture := []
  /-- Sequence number of the FIFO head: how many records have left, so that a capture knows its record (TIO_CAP3). -/
  popped  : Nat := 0
  /-- Numbers of the records after which a window closed whose queue cell is still to be flushed (R138). -/
  ends    : List Nat := []
  /-- Records lost since the last stored one (R140). -/
  gap     : Bool := false
  line    : Line := {}
  /-- The open window's end (R118). -/
  window  : Option EndAt := none
  /-- The level outside drives at the pad, if it drives one, and its transitions of this tick and the last ones, oldest first; the level
  the unit saw last, and when (R109). -/
  ext     : Option Bool := none
  /-- That level as it was before the oldest transition kept. -/
  ext0    : Option Bool := none
  edges   : List (DWord × Bool) := []
  input   : Bool := false
  lastIn  : DWord := 0
  /-- PWM_MEASURE: stamp of the period's first edge and whether it is recorded, high time so far, last active edge, timeouts. -/
  period  : Option (DWord × Bool) := none
  high    : Nat := 0
  active  : Option DWord := none
  timeouts : Nat := 0
  /-- PWM: period, A, B and origin in use; an update waits, usable from the DT given; output held by a debug freeze. -/
  per : Nat := 0
  pa  : Nat := 0
  pb  : Nat := 0
  org : DWord := 0
  upd : Option DWord := none
  held : Bool := false
  /-- ENC_EMU and PULSE_EMU: emitted count, offset in use (the signed changes of R132 summed), DT of the last step, taken over as pin B. -/
  count : Int := 0
  ofs   : DWord := 0
  stepAt : DWord := 0
  slave : Bool := false
  /-- MIRROR: transitions waiting for their DT, oldest first. -/
  mirror : List (DWord × Bool) := []
deriving DecidableEq, Repr

/-! ## Pads and crossbar -/

/-- What has the pad from a placement DT on (R154, R164). -/
inductive PadPhase where
  /-- A pad function with its `sel`. -/
  | fn (func sel : Nat)
  /-- The changeover after function `func`: its level at `start` is held, or high-Z where the new function does not drive. -/
  | leave (func sel : Nat) (start : DWord) (drives : Bool)
  /-- The changeover after a sleep or safe state, whose level and pull (0 none, 1 up, 2 down) are held. -/
  | held (level oe : Bool) (pull : Nat)
deriving DecidableEq, Repr

/-- One pad (R142 to R167). -/
structure Pad where
  /-- Who has the pad, newest first; empty: the reset function (R143). -/
  phases : List (DWord × PadPhase) := []
  /-- The switch that waits (R156). -/
  wait   : Option (Nat × Nat) := none
  /-- The edge at which the last PAD_SWITCH begins, and the edge and function of the last PAD_FUNC write (R156). -/
  calEdge : Option DWord := none
  asked   : Option (DWord × Nat × Nat) := none
  /-- Crossbar sources by the pad-control edge at which each took over, newest first (R149). -/
  srcs   : List (DWord × Nat) := []
  /-- Level and driver state held since a sleep or safe state was entered (R161). -/
  hold   : Option (Bool × Bool) := none
  /-- The locked set-up: PAD_FUNC, PAD_CFG, XBAR_SRC, XBAR_IN as copied at step 3 (R167). -/
  lock   : Option (List Word) := none
deriving DecidableEq, Repr

/-- Causes of the safe state that hold for every die or for one (R163). -/
structure SafeCauses where
  startHold : Bool := true
  failed    : Bool := false
  reference : Bool := false
  thermal   : Bool := false
  security  : Bool := false
  die       : SMap Bool := []
deriving DecidableEq, Repr

/-- Pads, crossbar and system monitor of the four fabric dies. -/
structure Pins where
  pads : SMap Pad := []
  safe : SafeCauses := {}
  /-- A lock sequence in progress on a die: requester, pin, steps done (R165). -/
  lockSeq : SMap (Option (Nat × Nat × Nat)) := []
  /-- The pin that feeds a phase input line, keyed by `16 * die + line`, as last judged at a pad-control edge (R144, R150). -/
  phiPin : SMap (Option Nat) := []
  /-- The pin that feeds a crossbar input alone, keyed by `512 * die + input`, and the inputs of a die with two feeders or more, as last
  judged at a pad-control edge (R150, R152, R153). -/
  fed  : SMap (Option Nat) := []
  conf : SMap (List Nat) := []
  /-- Fabric bypass outputs, keyed by `128 * die + line` (R149). -/
  fbo : SMap Line := []
  /-- Hub service signals on their way to the pads, by source code less 0x1A0; the level is kept against the signal's idle level (R149). -/
  hub : SMap Line := []
  /-- Whether a bank's VCCIO is present, and its measured value in mV, keyed by `10 * die + bank` (R157, R565). -/
  vok : SMap Bool := []
  vccio : SMap Nat := []
  /-- System monitor: next channel, and sum and count of the conversions averaged, keyed by `10 * die + channel` (R159). -/
  adcNext : SMap Nat := []
  adcSum : SMap (Nat × Nat) := []
deriving DecidableEq, Repr

/-! ## Logic fabric and Loupe -/

/-- One port of a block memory or deep memory: read stages and the output register (R182, R188). Bits [71:0] are the word,
bit 72 `sbe` and bit 73 `dbe` (R183). -/
structure MemOut where
  early : Nat := 0
  latch : Nat := 0
  reg   : Nat := 0
deriving DecidableEq, Repr

/-- A block memory in crossing-FIFO mode (R185 to R187). -/
structure XFifo where
  /-- Words held, oldest first. -/
  held   : List Nat := []
  /-- Newest words the read side does not see yet, and freed places the write side does not see yet (R186). -/
  hidden : Nat := 0
  owed   : Nat := 0
  /-- The last word read. -/
  last   : Nat := 0
  wrErr  : Bool := false
  rdErr  : Bool := false
  /-- init_busy on the write side and on the read side. -/
  initW  : Bool := false
  initR  : Bool := false
  /-- The one width of both sides, once used (R185). -/
  width  : Nat := 0
deriving DecidableEq, Repr

/-- A MAC slice (R189 to R192). -/
structure Mac where
  acc : BitVec 56 := 0
  q   : BitVec 24 := 0
  lim : Bool := false
  v   : Bool := false
  /-- U of the last cycle, which the operand chain carries to the next slice up (R192). -/
  u   : BitVec 24 := 0
deriving DecidableEq, Repr

/-- What a Region's flip-flops held when they were copied: zero, the initial values of its frames, or the design's own
state at that edge, which is the free value drawn then (R177, R198). -/
inductive Flops where
  | zero | initial (frames : Nat) | running (draw : Nat)
deriving DecidableEq, Repr

/-- The shadow of one Region (R198, R203, R204): global Region, profile, capture DT, coverage, flip-flops, output registers, and the
load whose initial values the output registers not listed held. -/
structure Shadow where
  region : Nat := 0
  prof   : Nat := 0
  dt     : DWord := 0
  nocap  : Bool := false
  secure : Bool := false
  flops  : Flops := .zero
  outs   : SMap (Option MemOut) := []
  frames : Nat := 0
deriving DecidableEq, Repr

/-- Loupe's states (R201). -/
inductive LpState where
  | idle | pending | held | readout
deriving DecidableEq, Repr

/-- Loupe of one fabric die (R198 to R206). -/
structure Loupe where
  state  : LpState := .idle
  prof   : Nat := 0
  /-- Local Regions that wait for their capture edge, and the DT the capture is requested for (R199). -/
  waits  : List Nat := []
  from_  : DWord := 0
  /-- Regions that were restoring when the trigger fell (R179). -/
  restored : List Nat := []
  shadows : SMap Shadow := []
  /-- The readout queue of the run in progress. -/
  queue  : Nat := 0
  /-- Rank of the trigger taken (0 calendar, 1 debugger, 2 CSR) and the start of the tick in which it came (R202). -/
  rank   : Nat := 0
  took   : DWord := 0
  /-- Calendar triggers on their way: requested DT and profile (R199). -/
  due    : List (DWord × Nat) := []
deriving DecidableEq, Repr

/-- The last assertion of a Region's strobe port: its edge, the lines, the placement on the DT bus and `ovr` (R195). -/
structure Strobe where
  edge  : DWord := 0
  lines : List Nat := []
  dt    : DWord := 0
  ovr   : Bool := false
deriving DecidableEq, Repr

/-- The capture port of a Region: the record it delivered last with its local pin, and how many it has delivered (R197). -/
structure CapturePort where
  record : List Byte := []
  pin    : Nat := 0
  count  : Nat := 0
deriving DecidableEq, Repr

/-- The logic fabric of the four fabric dies. Keys: Region 16 × die + local; block memory m of a Region 512 × Region + m;
deep memory m 512 × Region + 256 + m; MAC slice 256 × Region + slice. -/
structure Fabric where
  /-- Lanes of 9 bits, keyed by memory × 32,768 + lane (R181, R188); a lane not listed is as its Region was loaded. -/
  lanes : SMap (Option Nat) := []
  /-- BLOCK_MEM contents a Region was loaded with (R448): offset and bytes of each segment. -/
  images : SMap (List (Nat × List Byte)) := []
  /-- Ports, keyed by 2 × memory + port; one not listed holds its initial value. -/
  outs  : SMap (Option MemOut) := []
  fifos : SMap XFifo := []
  macs  : SMap Mac := []
  /-- Regions in the restore of R178. -/
  restoring : SMap Bool := []
  /-- The configuration frames a Region holds, by the number of the load that brought them; 0: the boot image (R177). -/
  frames : SMap Nat := []
  /-- Whether a Region's initial values have been released to its design, which runs on from them (R177). -/
  ran    : SMap Bool := []
  /-- The load whose declared defaults a Region's isolation cells hold (R475). -/
  cells  : SMap Nat := []
  loupe  : SMap Loupe := []
  /-- FABRIC_STROBE actions that wait for the edge of a Region's strobe clock: line and placement; and each port's last assertion (R195). -/
  strobes : SMap (List (Nat × DWord)) := []
  strobed : SMap Strobe := []
  capture : SMap CapturePort := []
deriving DecidableEq, Repr

/-! ## Facets -/

/-- Facet states (R227). -/
inductive FState where
  | off | idle | running | urgent | halted | faulted | stopped
deriving DecidableEq, Repr

/-- One loop-stack entry (R212, R221). -/
structure LoopEntry where
  start : Nat
  stop  : Nat
  count : Nat
deriving DecidableEq, Repr

/-- Where a branch goes after its delay slots (R219). -/
inductive After where
  | goto (pc : Nat)
  | finish
  | leave (pc : Nat)
deriving DecidableEq, Repr

/-- A write on its way to a Facet register (R218, R255). -/
inductive FWrite where
  | d (n : Nat) (v : BitVec 24)
  /-- An accumulator; `chain`: by a compute operation, which an accumulating operation sees one bundle later. -/
  | a (n : Nat) (v : BitVec 56) (chain : Bool)
  | p (n : Nat) (v : BitVec 13)
  | s (n : Nat) (v : BitVec 13)
  | l (n : Nat) (v : BitVec 13)
  | lc (v : BitVec 16)
  | mr (mask v : BitVec 12)
  | sr (mask v : BitVec 5)
deriving DecidableEq, Repr

/-- What a task carries with it from its assignment on (R229, R237 to R239). -/
structure TaskRun where
  task   : Nat := 0
  param  : Nat := 0
  cls    : Nat := 0
  wdog   : Nat := 0
  chain  : Option Nat := none
  irq    : Bool := false
  cost   : Nat := 0
  deadline : Option EndAt := none
  started : Bool := false
  late   : Bool := false
deriving DecidableEq, Repr

/-- One physical Facet (R209 to R242). -/
structure Facet where
  state : FState := .off
  d : SMap (BitVec 24) := []
  a : SMap (BitVec 56) := []
  p : SMap (BitVec 13) := []
  s : SMap (BitVec 13) := []
  l : SMap (BitVec 13) := []
  sr : BitVec 5 := 0x10
  mr : BitVec 12 := 0
  lc : BitVec 16 := 0
  pc : Nat := 0
  task  : Nat := 0
  param : Nat := 0
  /-- EVT [15:0], [16] and [17], and the code of the pending event. -/
  evt   : Nat := 0
  pend  : Bool := false
  ovr   : Bool := false
  code  : Nat := 0
  /-- Cycles until the pending event may be accepted (R230, R268). -/
  wait  : Nat := 0
  loops : List LoopEntry := []
  calls : List Nat := []
  /-- Repetitions of the next bundle still to issue (R220). -/
  rep   : Nat := 0
  /-- Delay slots still to issue, and what follows them. -/
  slot  : Option (Nat × After) := none
  /-- The last bundle was the last of a LOOP iteration that branched back. -/
  back  : Bool := false
  stall : Bool := false
  /-- Number of the next bundle in issue order, and the writes on their way with the bundle that first sees each. -/
  idx   : Nat := 0
  wr    : List (Nat × FWrite) := []
  /-- The running handler was entered from IDLE. -/
  fromIdle : Bool := false
  /-- HALT raised by the debugger and by debug freeze; the state it halted from (R233). -/
  haltDbg : Bool := false
  haltFrz : Bool := false
  haltedFrom : FState := .idle
  /-- Cycles since the task's first issue, and whether the watchdog has ended for this task (R239). -/
  wcyc  : Nat := 0
  wdone : Bool := false
  cyc   : Nat := 0
  run   : TaskRun := {}
  prog  : SMap (BitVec 64) := []
  /-- Bundles with a parity error. -/
  badProg : SMap Bool := []
  bankA : SMap (BitVec 24) := []
  bankB : SMap (BitVec 24) := []
  /-- Data words (bank B from 8,192) with an uncorrectable error. -/
  badData : SMap Bool := []
  /-- The built-in test failed: no remap chooses the Facet (R486). -/
  broken : Bool := false
  /-- Held low halves of bundle writes, keyed by 32 × bundle + requester (R211). -/
  low   : SMap (Option Word) := []
deriving DecidableEq, Repr

/-- The stream ports of one logical Facet, oldest word first (R216). -/
structure Ports where
  in0 : List (BitVec 24) := []
  in1 : List (BitVec 24) := []
  out0 : List (BitVec 24) := []
  out1 : List (BitVec 24) := []
deriving DecidableEq, Repr

/-- A request in a ready queue (R235, R236). -/
structure Request where
  task  : Nat
  param : Nat
  deadline : Option EndAt := none
  late  : Bool := false
  admitted : Bool := false
  /-- Windows a BE request has waited (R288). -/
  age   : Nat := 0
deriving DecidableEq, Repr

/-- One Region's dispatcher: its ready queue, oldest first, and the remap that copies: logical, physical (R236, R241). -/
structure Dispatcher where
  ready : List Request := []
  remap : Option (Nat × Nat) := none
deriving DecidableEq, Repr

/-- The Facets of the four fabric dies: physical 272 × die + local, logical 256 × die + 16 × Region + index, dispatcher
16 × die + Region. -/
structure Facets where
  phys  : SMap Facet := []
  ports : SMap Ports := []
  disp  : SMap Dispatcher := []
deriving DecidableEq, Repr

/-! ## Power domains and governor -/

/-- Power domains, islands and the governor (R273 to R297). -/
structure Power where
  /-- Domain states by global number: 0 RUN, 1 SLEEP, 2 DEEP_SLEEP, 3 OFF (R276). -/
  dom    : SMap Nat := []
  /-- Wakes that wait for their island to settle (R296). -/
  wakes  : SMap Bool := []
  /-- Present level of each island (R274); V2 where not listed. -/
  lvl    : SMap Nat := []
  /-- Device deep sleep, its request, and the states the domains held before it (R279). -/
  deepSleep : Bool := false
  deepReq : Bool := false
  before : SMap Nat := []
  /-- Purses of FD0 to FD3 and HD: what is left of the PB share and of the general credit (R284). -/
  share  : SMap Nat := []
  credit : SMap Nat := []
  /-- General pool G and overdraft O left in the window, costs admitted in it, and B of the window (R283). -/
  pool   : Nat := 0
  ovd    : Nat := 0
  charged : Nat := 0
  budget : Nat := 0
  /-- Windows without shortfall in a row (R290); whether a PB item waited in this window. -/
  calm   : Nat := 0
  pbWaited : Bool := false
  /-- PMBus: last READ_POUT values in units of 2^-16 W, last polled cap in W, failed polls in a row (R293 to R295). -/
  pout   : SMap Nat := []
  polled : Option Nat := none
  fails  : SMap Nat := []
  /-- A transaction ran on the PMBus in this tick (R147). -/
  busActive : Bool := false
  /-- The thermal trip is in force, and when it fell (R291). -/
  trip   : Bool := false
  tripDt : DWord := 0
  /-- Units of work admitted to a job and not used yet, keyed by 8 × job kind + purse (R285). -/
  jobs   : SMap Nat := []
deriving DecidableEq, Repr

/-! ## Memory: DDR5, CXL, protection engines -/

/-- A line of 64 bytes as it was last written: its data, the key identifier of its tag, its poison flag (R353). [Log 228 DEDUCED] -/
structure MemLine where
  data   : Nat := 0
  kid    : Nat := 0
  poison : Bool := false
  /-- Stored unencrypted, in a PLAIN range (R363). -/
  plain  : Bool := false
deriving DecidableEq, Repr

/-- The leaf block of a page: major counter and minor counters by line (R353). -/
structure Page where
  major  : Nat := 0
  minors : SMap Nat := []
deriving DecidableEq, Repr

/-- An alarm-log entry (R369, MPE_ALM0 to MPE_ALM3). -/
structure Alarm where
  cls   : Nat
  kid   : Nat
  kind  : Nat
  spec  : Bool
  queue : Nat
  addr  : Nat
  id    : Nat
  taint : Nat
  seq   : Nat
deriving DecidableEq, Repr

/-- A speculative line whose check is pending (R368): consumer, address, key, the class its check will give. -/
structure SpecCheck where
  consumer : Consumer
  addr : Nat
  kid  : Nat
  cls  : Nat
deriving DecidableEq, Repr

/-- A write that waits for the re-encryption it started (R362). -/
structure HeldWrite where
  line  : Nat
  data  : Nat
  kid   : Nat
  poison : Bool
deriving DecidableEq, Repr

/-- One memory protection engine (R351 to R377). Blocks are keyed by level × 2^40 + index, leaf blocks at level 0. -/
structure Engine where
  lines : SMap MemLine := []
  pages : SMap Page := []
  /-- Counter of the child at a level and index: node counters, and the Culet at the top (R353, R360). -/
  counters : SMap Nat := []
  verified : SMap Bool := []
  dirty : SMap Bool := []
  /-- Blocks whose counter would pass 2^56 − 1 (R359). -/
  stuck : List Nat := []
  /-- High-water marks by region entry (R360). -/
  marks : SMap Nat := []
  /-- Rebuilt subtrees, newest first: level, index, major by region entry, major elsewhere (R374). -/
  floors : List (Nat × Nat × SMap Nat × Nat) := []
  reenc : List (Nat × HeldWrite) := []
  pending : List SpecCheck := []
  log : List Alarm := []
  seq : Nat := 0
  /-- How often TK has been drawn (R355, R361). -/
  tk : Nat := 0
  /-- The MPE_PLIST entry whose subtree is being rebuilt. -/
  reinit : Option Nat := none
deriving DecidableEq, Repr

/-- DDR5 channel states (R341). -/
inductive ChState where
  | off | init | ready | retrain | sref | failed
deriving DecidableEq, Repr

/-- A write in a channel's write queue (R332): bank (rank, sub-channel and bank together), row, priority, line. -/
structure MemReq where
  bank : Nat
  row  : Nat
  prio : Nat
  line : Nat
  /-- DT at which it entered the queue (R333). -/
  at_  : DWord := 0
deriving DecidableEq, Repr

/-- One DDR5 channel (R329 to R342). -/
structure Channel where
  state : ChState := .off
  /-- Write queues by sub-channel, oldest first. -/
  wq0 : List MemReq := []
  wq1 : List MemReq := []
  /-- Open row of each bank, none listed: closed. -/
  opened : SMap (Option Nat) := []
  /-- Activation-count tables by bank: row and count, by table index (R337). -/
  acts : SMap (List (Nat × Nat)) := []
  /-- Rolling accumulated activation counts, and the device's threshold (R336). -/
  raa : SMap Nat := []
  rfmThr : Nat := 0
  /-- Refreshes pulled in before a retraining slot, and the bank group next in SAME_BANK (R335, R339). -/
  pulled : Nat := 0
  group : Nat := 0
  /-- DT of the last retraining slot (R339). -/
  slotAt : DWord := 0
  /-- The memory test that runs: operation (DDR_MT_CTL.op), and the agent that started it. -/
  test : Option (Nat × Nat) := none
deriving DecidableEq, Repr

/-- An outstanding CXL.io request: link B, requester, a write, the address accessed. -/
structure CxlReq where
  linkB : Bool
  req   : Nat
  write : Bool
  addr  : Nat
deriving DecidableEq, Repr

/-- One PCIe/CXL port (R343 to R347). -/
structure CxlPort where
  outstanding : List CxlReq := []
  /-- The root port's own Type-1 function, by link × 4,096 + offset. -/
  own : SMap Word := []
  /-- MSI-X vectors raised to the host. -/
  msix : List Nat := []
deriving DecidableEq, Repr

/-- What a protected access completes with. -/
structure MemReply where
  resp   : Resp := .ok
  data   : Nat := 0
  poison : Bool := false
  cls    : Nat := 0
deriving DecidableEq, Repr

/-- Memory behind HD. -/
structure Mem where
  chans : SMap Channel := []
  ports : SMap CxlPort := []
  engines : SMap Engine := []
  /-- The key identifier being retired (R376). -/
  retiring : Option Nat := none
  reply : Option MemReply := none
deriving DecidableEq, Repr

/-! ## Queues and network -/

/-- Queue states (R319). -/
inductive QState where
  | disabled | run | paused | stalled | peerLost | alarmed | error
deriving DecidableEq, Repr

/-- A descriptor (R310). -/
structure Desc where
  src   : Nat := 0
  dst   : Nat := 0
  len   : Nat := 0
  flags : Nat := 0
  tag   : Nat := 0
  seq   : Nat := 0
deriving DecidableEq, Repr

/-- An open descriptor, or a stream segment up to its flush (R311, R315): its number, bytes read so far, bytes sent. -/
structure OpenDesc where
  ord  : Nat
  desc : Desc
  read : Nat := 0
  sent : Nat := 0
  skipped : Bool := false
  /-- Stream: the segment has ended at a flush (R311). -/
  closed : Bool := true
deriving DecidableEq, Repr

/-- A cell in the home buffer (R312): destination, bytes, order of arrival, open descriptor it belongs to. -/
structure Cell where
  dst   : Nat
  bytes : List Byte
  poison : Bool := false
  age   : Nat
  ord   : Nat
deriving DecidableEq, Repr

/-- One queue (R308 to R323). -/
structure Queue where
  state : QState := .disabled
  code  : Nat := 0
  tail  : Nat := 0
  head  : Nat := 0
  fin   : Nat := 0
  open_ : List OpenDesc := []
  cells : List Cell := []
  /-- Descriptors released by kicks and not started (R317). -/
  freed : Nat := 0
  /-- Number of the next descriptor or segment to open; the descriptor in error (R320). -/
  next  : Nat := 0
  failed : Option Desc := none
  /-- Stream: bytes of the cell being filled, cells since the last completion, flushes, offset in the buffer. -/
  fill  : List Byte := []
  sinceCells : Nat := 0
  flushes : Nat := 0
  offset : Nat := 0
  /-- Stream: bytes that each record of the completion ring reported and firmware has not consumed, oldest first (R318); whether a
  producer was told to wait (R321). -/
  reported : List Nat := []
  offered : Bool := false
  /-- Kicks that wait for their descriptor (QM_KICK.pend). -/
  kicks : Nat := 0
  cwr   : Nat := 0
  crd   : Nat := 0
  ccnt  : Nat := 0
  /-- Windows a BE head has waited (R288). -/
  age   : Nat := 0
  /-- DT of the last progress (R321). -/
  last  : DWord := 0
deriving DecidableEq, Repr

/-- A flow under way (R300 to R304): whether it runs on the failover route, the network quarters it uses as
4 × module + quarter, the routers it passes as (die, router), and the packets sent and not acknowledged, oldest first. -/
structure FlowState where
  flow     : Flow
  failover : Bool := false
  quarters : List Nat := []
  path     : List (Nat × Nat) := []
  held     : List Nat := []
  next     : Nat := 0
deriving DecidableEq, Repr

/-- A flit of a crossing quarter as it came to one side (R306, R307): DT at which its groups were sampled, their signals, and
whether its CRC failed. -/
structure LaneFlit where
  at_    : DWord
  words  : List (BitVec 32)
  failed : Bool
deriving DecidableEq, Repr

/-- The network and the queue managers. -/
structure Net where
  queues : SMap Queue := []
  /-- End-to-end credits in use, by home die and endpoint (R312). -/
  used   : List ((Nat × Endpoint) × Nat) := []
  /-- Depth in cells the image declares for a Region port, by 4 × Region + port (R312). -/
  depth  : SMap Nat := []
  /-- Order in which cells came. -/
  arrivals : Nat := 0
  /-- Crossing-lane groups that present their defaults with xl_valid = 0, by 4 × module + quarter, 2 × for the side (R307). -/
  xlBad  : SMap Bool := []
  /-- Failed descriptors of each module end in a row (R20), and the failover routes in use (R303), keyed by 8 × module + die and
  8 × die + destination. -/
  descFails : SMap Nat := []
  /-- The capabilities both ends of a module advertise, by the bits of `mandatory`, keyed by 8 × module + die (R20). -/
  common : SMap Nat := []
  /-- Flows under way (R304), and the newest 32 flits of each crossing quarter at each side, newest first (R306). -/
  flows  : List FlowState := []
  flits  : SMap (List LaneFlit) := []
  failover : SMap Bool := []
  /-- Queue sets frozen by debug (R538). -/
  frozen : SMap Bool := []
deriving DecidableEq, Repr

/-! ## Transceivers and Phase Link -/

/-- Lane states (R392). -/
inductive LaneState where
  | off | cal | acq | adapt | ready | fault
deriving DecidableEq, Repr

/-- One fabric-die lane (R382 to R396). -/
structure Lane where
  state : LaneState := .off
  /-- 64B66B block lock, the fault code (R393), the last eye figure of merit, the word boundary modulo W. -/
  blk   : Bool := false
  fault : Nat := 0
  efom  : Nat := 0
  slip  : Nat := 0
  /-- An eye scan runs. -/
  scan  : Bool := false
  /-- Words presented to the Region without `rx_valid` in READY, one for each slip, and pulses of `lol` (R384, R390). -/
  gaps  : Nat := 0
  lols  : Nat := 0
  /-- The adapted values of XCVR_RXEQ and XCVR_DFE0 to XCVR_DFE2 (R386). -/
  eq    : List Word := []
deriving DecidableEq, Repr

/-- Port states (PL_PSTAT.state). -/
inductive PortState where
  | down | training | up
deriving DecidableEq, Repr

/-- One Phase Link port (R398 to R404). -/
structure Port where
  state : PortState := .down
  /-- The transmit event FIFO, oldest first. -/
  tx    : List Nat := []
  /-- Number of the next frame, and the frames sent with their stamps t1, newest first. -/
  seq   : Nat := 0
  sent  : List (Nat × DWord) := []
  /-- Number and arrival stamp of the last peer frame. -/
  got   : Option (Nat × DWord) := none
  /-- RTT and offset of the last 16 exchanges in 1/16 dtu, newest first. -/
  exch  : List (Int × Int) := []
  /-- Words of the peer's domains since the port entered UP, by domain (R402). -/
  words : SMap (Option DWord) := []
  /-- The frame sent last. -/
  frame : Option Frame := none
deriving DecidableEq, Repr

/-- Alignment states of a follower (R405). -/
inductive AlignState where
  | free | locking | aligning | aligned | hold
deriving DecidableEq, Repr

/-- Lanes, quads and Phase Link. Lanes are keyed by 16 × die + lane, quad PLLs by 8 × die + 2 × quad, plus 1 for PLL B. -/
structure Serial where
  lanes : SMap Lane := []
  locks : SMap Bool := []
  ports : SMap Port := []
  /-- The receive event FIFO, oldest first: message, port, sender's DT (R403). -/
  rx    : List (Nat × Nat × DWord) := []
  align : AlignState := .free
  /-- Exchanges taken in LOCKING; consecutive frames within 4 dtu, beyond 16 dtu, and beyond half the slew rate. -/
  taken : Nat := 0
  near  : Nat := 0
  far   : Nat := 0
  freq  : Nat := 0
  /-- Missing frames in a row for each LINK domain (R408). -/
  missing : SMap Nat := []
  /-- The step of DT that waits for the tick boundary (R406), and ticks since the last slewed one. -/
  step  : Option Int := none
  slew  : Nat := 0
deriving DecidableEq, Repr

/-! ## Clocks and resets -/

/-- The clock controller: power-on reset, references and CLOCK_HOLD (R414 to R426). PLL locks and references present are
register bits. [Log 129 DESIGN CHOICE] -/
structure Clocks where
  /-- Power-on reset is asserted; the amplitude detector has tripped (R415). -/
  por  : Bool := true
  amp  : Bool := false
  hold : Bool := false
  /-- First lost selected reference; selected references lost in the hold and not present again. -/
  cause : Nat := 0
  lost : List Nat := []
  relocked : Bool := false
  relPend  : Bool := false
  /-- XTAL, or the spine reference, was lost in this hold (R425). -/
  xtalLost : Bool := false
  spineLost : Bool := false
  /-- The hold's length in µs up to the relock, and DT then (CLK_HOLDLEN). -/
  heldUs : Nat := 0
  relockDt : DWord := 0
  /-- Straps as last sampled: XO_BYP, XO_WAIT (R571). -/
  xoByp : Bool := false
  xoWait : Nat := 0
  /-- DIE_RESETs requested during a hold (R426), and a DEVICE_RESET that waits for the references, with its cause. -/
  dieReq : List Nat := []
  devReq : Option Nat := none
  /-- RESUME is high. -/
  resume : Bool := false
  /-- References that a die's own copy has lost: die, index (R421). -/
  copies : List (Nat × Nat) := []
deriving DecidableEq, Repr

/-! ## Regions, configuration port, scrubbers, library -/

/-- Region states (R473). -/
inductive RegionState where
  | active | loading | loaded | offline | selftest | failed
deriving DecidableEq, Repr

/-- One Region (R473 to R478). -/
structure Region where
  state : RegionState := .active
  /-- RELEASE (true) or OFFLINE that waits: for the next tick boundary, or for a DT. -/
  cmd   : Option (Bool × Option DWord) := none
  /-- The timed command, while an untimed one is in `cmd`. -/
  kept  : Option (Bool × Option DWord) := none
  /-- Library entry loaded (CFGF_RGSTAT.entry); the entry, or none for the user port, of the load in progress. -/
  entry : Nat := 0
  load  : Option Nat := none
  /-- The self-test image is in place and runs. -/
  runs  : Bool := false
  /-- A REGION_RESET is in progress (R428). -/
  reset : Bool := false
deriving DecidableEq, Repr

/-- What waits for the configuration port of a die, or uses it (R472). -/
inductive PortJob where
  | load (rg : Nat)
  | readout
deriving DecidableEq, Repr

/-- One scrubber (R479 to R483). -/
structure Scrubber where
  running : Bool := false
  pos  : Nat := 0
  lost : Bool := false
  /-- Repair list, oldest first: a frame address, or 2^20 + local Region for a CRC mismatch. -/
  list : List Nat := []
  /-- Regions in which this pass found an uncorrectable frame. -/
  seen : List Nat := []
deriving DecidableEq, Repr

/-- A library entry (R466, R467): kind 0 free, 1 partial image, 2 die base. -/
structure LibEntry where
  kind   : Nat := 0
  cls    : Nat := 0
  reloc  : Bool := false
  selftest : Bool := false
  secure : Bool := false
  home   : Nat := 0
  ver    : Nat := 0
  arb    : Nat := 0
  crc    : Nat := 0
  /-- The header hash of the image. -/
  hash   : Nat := 0
  segs   : List Segment := []
deriving DecidableEq, Repr

/-- Live change. Regions are keyed by 16 × die + local, scrubbers by 2 × die + number. -/
structure Live where
  regions : SMap Region := []
  ports   : SMap (List PortJob) := []
  scrub   : SMap Scrubber := []
  lib     : SMap LibEntry := []
  /-- Loads done: the number a Region's frames carry (R177); 1 stands for zeroed frames. -/
  loads   : Nat := 1
  /-- The CD boot in progress is a trial (R489), and its time is up. -/
  trial   : Bool := false
  expired : Bool := false
deriving DecidableEq, Repr

/-! ## Start-up -/

/-- A line of 64 bytes in the application cores' caches, coherent among the four (R34): its bytes, and whether they were written. -/
structure CacheLine where
  bytes : List Byte
  dirty : Bool := false
deriving DecidableEq, Repr

/-- The interrupt controller (R36, RISC-V PLIC): priorities by source, pending sources, sources claimed and not completed, enables by
1,024 × context + source, and thresholds by context. [Log 162 PRESUMED] -/
structure Plic where
  prio    : SMap Nat := []
  pending : SMap Bool := []
  claimed : SMap Bool := []
  enable  : SMap Bool := []
  thresh  : SMap Nat := []
deriving DecidableEq, Repr

/-- Start-up (R436 to R463). Its state code, slot, tries, segment and failure code stand in CFG_STAT. -/
structure Boot where
  /-- The loaded image's header carries the secure flag (R206). -/
  secure : Bool := false
  /-- Slots of the directory in use by number, and those still to try, in order (R439 to R441). -/
  slots  : List SlotEntry := []
  left   : List Nat := []
  /-- The checked header, whether streaming began (R459), and how far each part of the segment order has come (R448). -/
  header : Option Header := none
  stream : Bool := false
  phase  : Nat := 0
  order  : SMap Nat := []
  /-- Segments received; engines whose tree has been initialised (R361). -/
  seg    : Nat := 0
  trees  : SMap Bool := []
  /-- Records held until entry to user mode, in record order (R451). -/
  held   : List (Nat × Word) := []
  /-- Phase A is over and the memories are ready (R452 step 6); core 0 has been released (step 7). -/
  memOk  : Bool := false
  handed : Bool := false
  /-- Dies that reported ready (R145, R452). -/
  ready  : SMap Bool := []
  /-- DONE is released; CFG_ERR_N is low; an image is awaited from the TAP, instead of NVM (R455, R460, R462). -/
  done   : Bool := false
  errLow : Bool := false
  jtag   : Bool := false
  /-- The loaded image: anti-rollback counter, key source, size of the control-die region in MiB, its two banks (R489). -/
  arb    : Nat := 0
  keySrc : Nat := 0
  cdSize : Nat := 0
  bankA  : List Segment := []
  bankB  : List Segment := []
  /-- The boot descriptor (R39) and the real-time pairs' TCMs by byte: pair × 2^18 + offset. -/
  desc   : List Byte := []
  tcm    : SMap Byte := []
  /-- The NVM data FIFO (R463), oldest byte first. -/
  nvm    : List Byte := []
  /-- Phase A has been applied (R452, R453). -/
  phaseA : Bool := false
  /-- The device and the device address of each NVM read of the last step of start-up (R437). -/
  reads  : List (Nat × Nat) := []
  /-- Lines of DDR5 the application cores' caches hold, by line number (R34), and the interrupt controller (R36). -/
  cache  : SMap (Option CacheLine) := []
  plic   : Plic := {}
deriving DecidableEq, Repr

/-! ## Security -/

/-- A key in the vault (R503): type 0 AES, 1 ECC, 2 SECRET, 3 HMAC; usage bits; value and its length in bytes. -/
structure VaultKey where
  kind   : Nat
  usage  : Nat
  value  : Nat
  length : Nat
deriving DecidableEq, Repr

/-- A Bezel command taken at `go` (R507, R509). -/
structure BzCommand where
  chan  : Nat
  agent : Nat
  op    : Nat
  arg   : Nat
  kid   : Nat
  input : List Byte
  addr  : Nat
  len   : Nat
deriving DecidableEq, Repr

/-- OTP as Bezel reads it (R496, R497). [Log 10 DESIGN CHOICE] -/
structure Otp where
  owner    : Bool := false
  pwdOff   : Bool := false
  serial   : Nat := 0
  /-- Hashes of the Quanas image key and token key, of the owner image keys by slot, debug key, password and UUT CA key. -/
  imageKey : Nat := 0
  tokenKey : Nat := 0
  ownerKeys : SMap Nat := []
  revoked  : Nat := 0
  debugKey : Nat := 0
  password : Nat := 0
  uutca    : Option Nat := none
  /-- The owner's two secrets, as they unwrap inside the boundary. -/
  kek      : Nat := 0
  signKey  : Nat := 0
  /-- Anti-rollback counters. -/
  quanasArb : Nat := 0
  ownerArb  : Nat := 0
  cert     : List Byte := []
deriving DecidableEq, Repr

/-- Bezel (R494 to R527). -/
structure Security where
  /-- Life-cycle code (R498). -/
  lc : Nat := 0
  otp : Otp := {}
  /-- Services are available (BZ_STAT.ready); firmware version and its `cert` flag (R518); boot digest (R512). -/
  ready : Bool := false
  fwVer : Nat := 0
  fwCert : Bool := false
  bootDigest : Nat := 0
  vault : SMap (Option VaultKey) := []
  /-- The keys loaded into the engines, by identifier (R505). -/
  keys : SMap Nat := []
  /-- Commands in order of `go`; the requester whose sequence runs on a channel (R507). -/
  cmds : List BzCommand := []
  owner : SMap (Option Nat) := []
  /-- Signatures made since start-up (R515). -/
  signed : Nat := 0
  /-- A WIPE response runs until its DEVICE_RESET (R522, R523). -/
  wiping : Bool := false
  /-- BZ_RESP.lock. -/
  locked : Bool := false
  /-- An OTP event since POR (BZ_OTPSTAT.otp_err). -/
  otpErr : Bool := false
  /-- The runtime log, oldest first: kind, Region or entry, DT, hash; all events so far; its digest (R513). -/
  log : List (Nat × Nat × DWord × Nat) := []
  logTotal : Nat := 0
  logDigest : Nat := 0
deriving DecidableEq, Repr

/-! ## Control die and debug -/

/-- What a core or a pair does (CORE_RSTAT). -/
inductive CoreRun where
  | reset | running | halted
deriving DecidableEq, Repr

/-- An application core (0 to 3) or a real-time pair (4, 5) as the device sees it (R34 to R39, R536, R539). [Log 145 DESIGN CHOICE] -/
structure Core where
  run   : CoreRun := .reset
  /-- Cause of the last halt; a halt that is requested and not taken, with its cause. -/
  cause : Nat := 0
  want  : Option Nat := none
  /-- A resume runs one instruction (CORE_RC.step). -/
  steps : Bool := false
  /-- Privilege mode: 0 user, 1 supervisor, 3 machine (R38). -/
  priv  : Nat := 3
  /-- Registers by the numbers of R536; the program counter is CSR 0x7B1, `mbuserr` CSR 0x7C0. -/
  regs  : SMap (BitVec 64) := []
  /-- Watchdog: the first expiry has passed, and it is paused by a halt (R539). -/
  second : Bool := false
  paused : Bool := false
deriving DecidableEq, Repr

/-- The access the DAG register reports (R534). -/
structure Dag where
  addr : Nat := 0
  data : Word := 0
  resp : Nat := 0
  tag  : Nat := 0
  /-- It is still running, and the key and counter its response tag is formed with, in a TOKEN session. -/
  run  : Bool := false
  own  : Option (Nat × Nat) := none
deriving DecidableEq, Repr

/-- The debug access gate (R528 to R535, R543). -/
structure Session where
  /-- DBG_ASTAT.state, mode, scope, busy, erased and fails. -/
  state : Nat := 0
  mode  : Nat := 0
  scope : Nat := 0
  busy  : Bool := false
  erased : Bool := false
  fails : Nat := 0
  /-- The challenge: nonce and the device's ephemeral scalar. -/
  challenge : Option (Nat × Nat) := none
  /-- SK, the transaction counter, consecutive tag mismatches. -/
  key   : Nat := 0
  count : Nat := 0
  bad   : Nat := 0
  /-- The session that opens at the release of the reset of R533: scope, SK. -/
  opening : Option (Nat × Nat) := none
  last  : Dag := {}
  /-- The TAP's instruction (R528); what the boundary register's cells drive at fabric pins: level and driver by 240 × die + pin. -/
  ir    : Nat := 0x01
  cells : SMap (Bool × Bool) := []
  /-- The TAP's data register of an instruction that captures a constant: IDCODE (R2, R528). -/
  dr    : Nat := 0x294403AB
  /-- Virtual terminal FIFOs, oldest byte first. -/
  tx    : List Byte := []
  rx    : List Byte := []
deriving DecidableEq, Repr

/-! ## Event recorder -/

/-- A record (R545, R546). -/
structure Rec where
  seq   : Nat
  sev   : Nat
  trig  : Nat
  die   : Nat
  inst  : Nat
  code  : Nat
  dt    : DWord
  phase : DWord
  /-- Snapshot words 0 to 7; none: not valid. -/
  snap  : List (Option Word)
  flags : Nat
  late  : Bool
  /-- Written after the recorder's clock returned (R422). -/
  held  : Bool
deriving DecidableEq, Repr

/-- The event recorder (R544 to R556). -/
structure Recorder where
  /-- Accepted records that wait for the store: severities 0 to 6, and 7. -/
  fifo  : List Rec := []
  fifo7 : List Rec := []
  seq   : Nat := 0
  /-- The store by slot, with each record's place in the order of writing, and the next place. -/
  store : SMap (Option (Rec × Nat)) := []
  age   : Nat := 0
  /-- A freeze in force, and when it began. -/
  frozen : Bool := false
  since : DWord := 0
  /-- DT of the last record accepted, by severity (the pulse of DBG_XTRIG.src 10). -/
  pulses : SMap (Option DWord) := []
deriving DecidableEq, Repr

/-! ## The device -/

/-- The whole device: its registers and the structures behind them, and the queue of waiting commands. -/
structure State where
  /-- Commands that wait, first in, first out. -/
  pending : List Instr := []
  /-- Registers by CSR window offset; an unlisted register holds its reset value. -/
  csr : SMap Word := []
  bus : Bus := {}
  /-- How many free values have been drawn: the model's own field, not the specification's. -/
  free : Nat := 0
  /-- Records raised and not yet at the recorder, oldest first (R548). -/
  raised : List Raised := []
  spine : Spine := {}
  /-- Spine ticks since DT began. -/
  tick : Nat := 0
  cal : SMap CalSlice := []
  /-- Table writes and CAL_CTL.en writes that wait for the next tick boundary, in arrival order, with their slices (R94). -/
  calWrites : List (List Nat × CalWrite) := []
  tio : SMap Tio := []
  /-- Writes of timed I/O registers that wait for the next tick boundary, in arrival order (R111, R132, R134). -/
  tioWrites : List TioWrite := []
  /-- Encoder-emulation lines, keyed by `16 * die + line` (R129). -/
  ez : SMap Line := []
  pins : Pins := {}
  /-- Actions on the phase virtual channel with the tick in which they act, oldest first (R81). -/
  flights : List (Nat × Flight) := []
  fabric : Fabric := {}
  facets : Facets := {}
  power : Power := {}
  mem : Mem := {}
  net : Net := {}
  serial : Serial := {}
  clk : Clocks := {}
  boot : Boot := {}
  live : Live := {}
  sec : Security := {}
  session : Session := {}
  recorder : Recorder := {}
  /-- Cores and pairs 0 to 5, and mailboxes 0 to 31, oldest message first. -/
  cores : SMap Core := []
  boxes : SMap (List Word) := []
  /-- Die states by die (DIE_DSTAT, R434): 0 ACTIVE, 1 LOST, 2 REJOINING, 3 HELD, 4 ISOLATED. -/
  dies : SMap Nat := []
  /-- The part's speed grade, 1 to 3, and whether its temperature grade is I, as its OTP holds them (R1). -/
  grade : Nat := 1
  gradeI : Bool := false
deriving DecidableEq, Repr

/-- Why a command stops the device: it never does. The device has no stop of that kind, every command ends in a next state, and
what the specification refuses is answered on the bus or in the command's reply. [Log 6 DEDUCED] -/
inductive Fault where
deriving DecidableEq, Repr

/-- Why the model gives a command no meaning. [Log 6 DEDUCED] -/
inductive Refusal where
  /-- The command's meaning is not written. `exec` would raise it, safe; no arm does, every command has its meaning. -/
  | notModelled (mnemonic : String)
deriving DecidableEq, Repr

/-- The device right after power-on reset. [Log 7 DESIGN CHOICE, 9 DESIGN CHOICE, 10 DESIGN CHOICE, 134 DEDUCED] -/
def State.reset : State := {}

end Sys2Proof.Machine
end

