-- ==== Sys2Proof/Machine/Operands.lean ====
section
/-!
DEFINITION. Fields of words, sparse maps, and the arithmetic of phases and trajectories (R10, R48, R52, R62, R64).
-/
namespace Sys2Proof.Machine

/-! ## Fields of a register word -/

/-- Bit `i` of a word. -/
def wbit (w : Word) (i : Nat) : Bool := w.getLsbD i

/-- The field of `n` bits from bit `lo`, as a number. -/
def wfld (w : Word) (lo n : Nat) : Nat := w.toNat / 2 ^ lo % 2 ^ n

/-- A word with the field of `n` bits from bit `lo` set to `v` modulo 2^n. -/
def wset (w : Word) (lo n v : Nat) : Word :=
  BitVec.ofNat 32 (w.toNat - wfld w lo n * 2 ^ lo + v % 2 ^ n * 2 ^ lo)

/-- A word with bit `i` set to `b`. -/
def wsetBit (w : Word) (i : Nat) (b : Bool) : Word :=
  if b then w ||| (BitVec.ofNat 32 (2 ^ i)) else w &&& ~~~(BitVec.ofNat 32 (2 ^ i))

/-- A Boolean as one bit. -/
def b2n (b : Bool) : Nat := if b then 1 else 0

/-- The signed value of the low `n` bits of a number. -/
def signed (n v : Nat) : Int := if v % 2 ^ n < 2 ^ (n - 1) then (v % 2 ^ n : Nat) else ((v % 2 ^ n : Nat) : Int) - (2 ^ n : Nat)

end Sys2Proof.Machine

/-! ## Sparse maps -/

namespace Sys2Proof

/-- The value at a key; `d` where the key is not listed. -/
def SMap.get {α : Type} (m : SMap α) (k : Nat) (d : α) : α :=
  match m with
  | [] => d
  | (a, x) :: t => if a = k then x else SMap.get t k d

/-- Every entry but those of key `k`. -/
def SMap.del {α : Type} (m : SMap α) (k : Nat) : SMap α := m.filter (fun p => !(p.1 == k))

/-- Insert a key that is not listed, before the first greater one. -/
def SMap.ins {α : Type} (m : SMap α) (k : Nat) (v : α) : SMap α :=
  match m with
  | [] => [(k, v)]
  | (a, x) :: t => if k < a then (k, v) :: (a, x) :: t else (a, x) :: SMap.ins t k v

/-- Set a key; the default value removes the entry, so that equal contents are equal data. -/
def SMap.set {α : Type} [DecidableEq α] (m : SMap α) (k : Nat) (v d : α) : SMap α :=
  if v = d then m.del k else (m.del k).ins k v

/-- The canonical form: keys strictly rising, no entry equal to the default. -/
def SMap.wf {α : Type} [DecidableEq α] (m : SMap α) (d : α) : Bool :=
  m.Pairwise (fun p q => p.1 < q.1) && m.all (fun p => p.2 != d)

/-- Apply a function to every listed value. -/
def SMap.mapVals {α : Type} [DecidableEq α] (m : SMap α) (d : α) (f : Nat → α → α) : SMap α :=
  (m.map (fun p => (p.1, f p.1 p.2))).filter (fun p => p.2 != d)

/-- Keep the entries whose key passes. -/
def SMap.keep {α : Type} (m : SMap α) (p : Nat → Bool) : SMap α := m.filter (fun e => p e.1)

end Sys2Proof

namespace Sys2Proof.Machine

/-- Insertion into a list sorted by a strict order, after every element it does not precede. -/
def insertBy {α : Type} (lt : α → α → Bool) (x : α) : List α → List α
  | [] => [x]
  | y :: t => if lt x y then x :: y :: t else y :: insertBy lt x t

/-- Stable insertion sort. -/
def sortBy {α : Type} (lt : α → α → Bool) (l : List α) : List α := l.foldl (fun acc x => insertBy lt x acc) []

/-- Lexicographic order of two lists of numbers. -/
def lexLt : List Nat → List Nat → Bool
  | [], [] => false
  | [], _ :: _ => true
  | _ :: _, [] => false
  | a :: s, b :: t => a < b || (a == b && lexLt s t)

/-! ## Phases and trajectories -/

/-- Signed distance from `p` to `q` on the 64-bit circle. -/
def distance (p q : DWord) : Int := (q - p).toInt

/-- f(k): the turn fraction of edge `k` of `n` (R52). -/
def turnFraction (n k : Nat) : Nat := k * 2 ^ 32 / n

/-- The arrival phase of a forward crossing of edge `c`, counted over turns of `n` edges, with offset `ofs` (R52). -/
def arrival (n : Nat) (ofs : Word) (c : Int) : DWord :=
  BitVec.ofInt 64 (c / n * 2 ^ 32 + turnFraction n (c % n).toNat + ofs.toNat)

/-- adv(e) of R62 before its running maximum: the phase gained `e` dtu after an edge, truncated. -/
def advAt (v : Nat) (a : Int) (e : Nat) : Int := (v * e * 2 ^ 22 + a * (e * e)).tdiv (2 ^ 43)

/-- adv(e) of R62: never decreasing. A falling parabola has its maximum beside e = v × 2^21 / |a|. -/
def adv (v : Nat) (a : Int) (e : Nat) : Nat :=
  if 0 ≤ a then (advAt v a e).toNat
  else
    let top := v * 2 ^ 21 / a.natAbs
    max (advAt v a (min e top)).toNat (advAt v a (min e (top + 1))).toNat

/-- Linear interpolation at `y` between known points, newest first (stamp, phase) (R57, R58); after the newest point the newest, before
the oldest the oldest. [Log 163 DESIGN CHOICE] -/
def interpolate (pts : List (DWord × DWord)) (y : DWord) : DWord :=
  match pts with
  | [] => 0
  | [(_, p)] => p
  | (s1, p1) :: (s0, p0) :: t =>
    if s1 ≤ y then p1
    else if s0 ≤ y then
      p0 + BitVec.ofInt 64 ((distance p0 p1 * (y - s0).toNat).tdiv ((s1 - s0).toNat))
    else interpolate ((s0, p0) :: t) y

/-- The phase of a segment at DT `x` (R48, R57 to R62, R65, R66). -/
def Seg.at (g : Seg) (pts : List (DWord × DWord)) (len : Nat) (x : DWord) : DWord :=
  match g with
  | .hold p => p
  | .edge e te v a f rev =>
    let gain := adv v a (x - te).toNat
    if rev then e - BitVec.ofNat 64 (min gain ((e - f).toNat - 1))
    else e + BitVec.ofNat 64 (min gain ((f - e).toNat - 1))
  | .ramp p16 x0 v16 => BitVec.ofNat 64 ((p16 * len + v16 * (x - x0).toNat) / (len * 2 ^ 16))
  | .follow lag held rev =>
    let p := interpolate pts (x - BitVec.ofNat 64 lag)
    match held with
    | none => p
    | some h => if rev then (if h < p then h else p) else (if p < h then h else p)
  | .extrap p x0 num den => p + BitVec.ofInt 64 ((num * (x - x0).toNat).tdiv den)

/-- Whether a segment stands at its fence at DT `x` (R62, R66). -/
def Seg.fenced (g : Seg) (x : DWord) : Bool :=
  match g with
  | .edge e te v a f rev =>
    decide (((if rev then e - f else f - e).toNat - 1) ≤ adv v a (x - te).toNat)
  | _ => false

/-- The segment in force at dtu `k` of the tick. -/
def Dom.segAt (d : Dom) (k : Nat) : Seg :=
  d.segs.foldl (fun g p => if p.1 ≤ k then p.2 else g) d.base

/-- Whether the domain publishes movement (R67). -/
def Dom.running (d : Dom) : Bool := d.state == .locked || d.state == .holdover

/-- ph(32t + k): the phase at dtu `k` of the current tick (R48, R63). A domain that does not run holds prev(t) (R588). -/
def Dom.ph (d : Dom) (dt : DWord) (len k : Nat) : DWord :=
  if k = 0 then d.phase
  else if d.running then (d.segAt k).at d.pts len (dt + BitVec.ofNat 64 k) else d.phase

/-- cur(t) (R48). -/
def Dom.cur (d : Dom) (dt : DWord) (len : Nat) : DWord := d.ph dt len len

/-- The jump instants of the current tick: the first dtu of each later segment (R88). -/
def Dom.jumps (d : Dom) : List Nat := d.segs.map (·.1)

/-- The first dtu in `k` .. `k + n` at which a test holds. -/
def firstDtu (test : Nat → Bool) : Nat → Nat → Option Nat
  | k, 0 => if test k then some k else none
  | k, n + 1 => if test k then some k else firstDtu test (k + 1) n

/-- The dtu at which the trajectory first reaches `p`, forward or in reverse (R64). -/
def Dom.reach (d : Dom) (dt : DWord) (len : Nat) (p : DWord) (rev : Bool) : Option Nat :=
  firstDtu (fun k => if rev then decide (d.ph dt len k ≤ p) else decide (p ≤ d.ph dt len k)) 1 (len - 1)

end Sys2Proof.Machine
end

