-- ==== Sys2Proof/Machine/Flags.lean ====
section
/-!
DEFINITION. The arithmetic of Facets and MAC slices: results, limits and flags (R189 to R192, R223 to R226, R256 to R262).
-/
namespace Sys2Proof.Machine

/-- `fit` of R256, which R191 and R226 share: the 56-bit result and whether `v` sets. -/
def fit (sat : Bool) (x : Int) : BitVec 56 × Bool :=
  if sat then
    if x > 2 ^ 47 - 1 then (BitVec.ofInt 56 (2 ^ 47 - 1), true)
    else if x < -(2 ^ 47) then (BitVec.ofInt 56 (-(2 ^ 47)), true)
    else (BitVec.ofInt 56 x, false)
  else (BitVec.ofInt 56 x, decide (x > 2 ^ 55 - 1 ∨ x < -(2 ^ 55)))

/-- Rounding of a number shifted right by `n` bits: half up, or convergent (R225). -/
def roundShift (n : Nat) (halfUp : Bool) (y : Int) : Int :=
  let q := y / (2 ^ n : Nat)
  let r := (y % (2 ^ n : Nat)).toNat
  if halfUp then (if 2 ^ (n - 1) ≤ r then q + 1 else q)
  else if 2 ^ (n - 1) < r ∨ (r = 2 ^ (n - 1) ∧ q % 2 = 1) then q + 1 else q

/-- A 24-bit value limited to 0x7F_FFFF or 0x80_0000, and whether it was limited (R190, R225). -/
def limit24 (q : Int) : BitVec 24 × Bool :=
  if q > 2 ^ 23 - 1 then (0x7FFFFF, true) else if q < -(2 ^ 23) then (0x800000, true) else (BitVec.ofInt 24 q, false)

/-- The move out of an accumulator (R225): the data word and whether `lim` sets. `scl` acts only with `sat` = 0. -/
def moveOut (scl : Nat) (halfUp sat : Bool) (acc : BitVec 56) : BitVec 24 × Bool :=
  let y : Int := match (if sat then 0 else scl) with
    | 1 => acc.toInt / 2
    | 2 => acc.toInt / 4
    | 3 => acc.toInt * 2
    | _ => acc.toInt
  limit24 (roundShift 23 halfUp y)

/-- A data word placed into an accumulator (R224). -/
def placed (d : BitVec 24) : BitVec 56 := BitVec.ofInt 56 (d.toInt * 2 ^ 23)

/-- A raw field of an accumulator as a data word: 0 R zero-extended, 1 M as held, 2 X sign-extended (R224). -/
def rawField (f : Nat) (a : BitVec 56) : BitVec 24 :=
  match f with
  | 0 => (a.extractLsb' 0 23).setWidth 24
  | 1 => a.extractLsb' 23 24
  | _ => (a.extractLsb' 47 9).signExtend 24

/-- An accumulator with one raw field written (R224). -/
def setRawField (f : Nat) (a : BitVec 56) (d : BitVec 24) : BitVec 56 :=
  match f with
  | 0 => (a.extractLsb' 23 33) ++ (d.extractLsb' 0 23)
  | 1 => (a.extractLsb' 47 9) ++ d ++ (a.extractLsb' 0 23)
  | _ => (d.extractLsb' 0 9) ++ (a.extractLsb' 0 47)

/-- `z` and `n` of a signed result (R257). -/
def zn (x : Int) : Bool × Bool := (x == 0, decide (x < 0))

/-- The pre-adder of a MAC slice (R190): U, V, U + V, U − V or V − U by `sel`, halved with `shr`; and whether `lim` sets. -/
def preAdd (sel : Nat) (shr halfUp : Bool) (u v : BitVec 24) : BitVec 24 × Bool :=
  let s : Int := match sel with
    | 0 => u.toInt
    | 1 => v.toInt
    | 2 => u.toInt + v.toInt
    | 3 => u.toInt - v.toInt
    | _ => v.toInt - u.toInt
  if shr then (BitVec.ofInt 24 (roundShift 1 halfUp s), false) else limit24 s

end Sys2Proof.Machine
end

