-- ==== Sys2Proof/Machine/FacetBundle.lean ====
section
/-!
DEFINITION. The 64-bit bundles of a Facet: their formats, their decoding and what makes one ILLEGAL (R247 to R254, R258 to R270).
-/
namespace Sys2Proof.Machine

/-- A move slot (R251). -/
inductive Move where
  | none
  /-- Memory moves: D register or accumulator, pointer, update code (R252). -/
  | ld (r p upd : Nat)
  | st (r p upd : Nat)
  | ldp (r p upd : Nat)
  | stp (r p upd : Nat)
  | lda (r p upd : Nat)
  | sta (r p upd : Nat)
  | mov (r s : Nat)
  /-- Stream transfers: D register or accumulator, port 0 or 1, word pair. -/
  | inp (r port : Nat) (pair : Bool)
  | out (r port : Nat) (pair : Bool)
  | outa (r port : Nat)
deriving DecidableEq, Repr

/-- The compute part of a PAR bundle (R250). -/
structure Compute where
  op  : Nat := 0
  ax  : Nat := 0
  ay  : Nat := 0
  da  : Nat := 0
  db  : Nat := 0
  dc  : Nat := 0
  neg : Bool := false
  ln  : Nat := 0
  sh  : Nat := 0
deriving DecidableEq, Repr

/-- Control operations (R266). -/
inductive Ctl where
  | br (cc tgt : Nat)
  | bri (cc r : Nat)
  | call (cc tgt : Nat)
  | calli (cc r : Nat)
  | ret (cc : Nat)
  | rtu
  | wait
  | loop (lc : Bool) (count tgt : Nat)
  | lpop
  | rep (n : Nat)
  | signal (urg : Bool) (task f r : Nat)
deriving DecidableEq, Repr

/-- System operations (R269). -/
inductive Sys where
  | snop
  | mrs (mask val : Nat)
  | srs (mask val : Nat)
  | mvx (cls r n : Nat)
  | mxv (cls r n : Nat)
  | padd (n : Nat) (imm : Nat)
  | scnt (r port : Nat)
  | qkick (q : Nat)
  | qkickd (r : Nat)
  | recd (sev code r : Nat)
deriving DecidableEq, Repr

/-- A register named by an immediate load: class 0 D, 1 P, 2 S, 3 L, and number (R263). -/
structure ImmLoad where
  cls : Nat
  n   : Nat
  v   : Nat
deriving DecidableEq, Repr

/-- A bundle (R247). -/
inductive Bundle where
  | par (c : Compute) (a b : Move)
  | imm (x : ImmLoad) (y : Option ImmLoad)
  | ctl (c : Ctl)
  | sys (c : Sys)
deriving DecidableEq, Repr

/-- The field of `n` bits from bit `lo` of a bundle. -/
def bfld (w : BitVec 64) (lo n : Nat) : Nat := w.toNat / 2 ^ lo % 2 ^ n

/-- Whether a bundle's bits outside a mask are all 0 (R247). -/
def onlyBits (w : BitVec 64) (mask : Nat) : Bool := w &&& ~~~(BitVec.ofNat 64 mask) == 0

/-! ## PAR -/

/-- A move slot of 16 bits (R251). -/
def decodeMove (m : Nat) : Option Move :=
  let r := m / 512 % 16
  let p := m / 64 % 8
  let upd := m / 16 % 4
  let s := m % 16
  match m / 8192 % 8 with
  | 0 => if m % 8192 = 0 then some .none else none
  | 1 => if s = 0 then some (.ld r p upd) else none
  | 2 => if s = 0 then some (.st r p upd) else none
  | 3 => if s = 0 ∧ r % 2 = 0 then some (.ldp r p upd) else none
  | 4 => if s = 0 ∧ r % 2 = 0 then some (.stp r p upd) else none
  | 5 => if s = 0 ∧ r < 4 then some (.lda r p upd) else none
  | 6 => if s = 0 ∧ r < 4 then some (.sta r p upd) else none
  | _ =>
    if upd ≠ 0 then none
    else
      let pair := decide (s / 2 % 2 = 1)
      match p with
      | 0 => some (.mov r s)
      | 1 => if s < 4 ∧ (!pair || r % 2 == 0) then some (.inp r (s % 2) pair) else none
      | 2 => if s < 4 ∧ (!pair || r % 2 == 0) then some (.out r (s % 2) pair) else none
      | 3 => if s < 2 ∧ r < 4 then some (.outa r (s % 2)) else none
      | _ => none

/-- The bits of [55:32] a compute operation uses; none for a reserved code (R258 to R262). -/
def computeFields (op : Nat) : Option Nat :=
  let ax := 0xC00000; let ay := 0x300000; let da := 0xF0000; let db := 0xF000; let dc := 0xF00
  let neg := 0x80; let ln := 0x60; let sh := 0x1F
  if op = 0 then some 0
  else if op ≤ 2 then some (ax + da + db + neg)
  else if op ≤ 6 then some (ax + da + db + neg + ln)
  else if op ≤ 0xA then some (ax + da + db + neg)
  else if op = 0x10 then some (ax + ln)
  else if op = 0x11 then some (ax + ay + neg)
  else if op = 0x12 then some (ax + da + neg)
  else if op = 0x13 then some (ax + da)
  else if op = 0x14 ∨ op = 0x15 then some ax
  else if op = 0x16 ∨ op = 0x17 then some (ax + sh)
  else if op = 0x18 then some (ax + ay)
  else if op = 0x19 then some ax
  else if 0x20 ≤ op ∧ op ≤ 0x24 then some (dc + da + db)
  else if 0x25 ≤ op ∧ op ≤ 0x27 then some (dc + da + sh)
  else if op = 0x28 ∨ op = 0x29 then some (dc + da + db)
  else if op = 0x2A then some (da + db)
  else if op = 0x30 ∨ op = 0x31 then some (dc + ax + ln)
  else if op = 0x32 then some (ax + da + ln)
  else none

/-- Lanes of a vector operation. -/
def Compute.lanes (c : Compute) : Nat := c.ln + 1

/-- Register ranges and parities of R258 to R262. -/
def Compute.inRange (c : Compute) : Bool :=
  let n := c.lanes
  if c.op = 3 ∨ c.op = 4 then decide (c.ax + n ≤ 4 ∧ c.da + n ≤ 16 ∧ c.db + n ≤ 16)
  else if c.op = 5 ∨ c.op = 6 then decide (c.ax + n ≤ 4 ∧ c.da + n ≤ 16)
  else if 7 ≤ c.op ∧ c.op ≤ 0xA then decide (c.ax % 2 = 0 ∧ c.da % 2 = 0 ∧ c.db % 2 = 0)
  else if c.op = 0x10 then decide (c.ax + n ≤ 4)
  else if c.op = 0x30 then decide (c.ax + n ≤ 4 ∧ c.dc + n ≤ 16)
  else if c.op = 0x31 ∨ c.op = 0x32 then decide (c.ln < 3)
  else true

/-- Registers `n` .. `n + k − 1`. -/
def span (n k : Nat) : List Nat := (List.range k).map (n + ·)

/-- D registers a compute operation writes. -/
def Compute.writesD (c : Compute) : List Nat :=
  if 0x20 ≤ c.op ∧ c.op ≤ 0x29 then [c.dc]
  else if c.op = 0x30 then span c.dc c.lanes
  else if c.op = 0x31 then [c.dc]
  else []

/-- Accumulators a compute operation writes. -/
def Compute.writesA (c : Compute) : List Nat :=
  if c.op = 1 ∨ c.op = 2 then [c.ax]
  else if 3 ≤ c.op ∧ c.op ≤ 6 then span c.ax c.lanes
  else if 7 ≤ c.op ∧ c.op ≤ 0xA then [c.ax, c.ax + 1]
  else if c.op = 0x10 then span c.ax c.lanes
  else if 0x11 ≤ c.op ∧ c.op ≤ 0x17 then [c.ax]
  else if c.op = 0x32 then [c.ax]
  else []

/-- D registers, accumulators and pointers a move slot writes. -/
def Move.writesD : Move → List Nat
  | .ld r _ _ => [r]
  | .ldp r _ _ => [r, r + 1]
  | .mov r _ => [r]
  | .inp r _ pair => if pair then [r, r + 1] else [r]
  | _ => []

def Move.writesA : Move → List Nat
  | .lda r _ _ => [r]
  | _ => []

def Move.writesP : Move → List Nat
  | .ld _ p u | .st _ p u | .ldp _ p u | .stp _ p u | .lda _ p u | .sta _ p u => if u = 0 then [] else [p]
  | _ => []

/-- Whether no register is written by two parts of a bundle (R254). -/
def writesOnce (c : Compute) (a b : Move) : Bool :=
  (c.writesD ++ a.writesD ++ b.writesD).Pairwise (· ≠ ·) && (c.writesA ++ a.writesA ++ b.writesA).Pairwise (· ≠ ·) &&
  (a.writesP ++ b.writesP).Pairwise (· ≠ ·)

/-- A PAR bundle (R250); none: ILLEGAL. -/
def decodePar (w : BitVec 64) : Option Bundle :=
  let c : Compute := { op := bfld w 56 6, ax := bfld w 54 2, ay := bfld w 52 2, da := bfld w 48 4, db := bfld w 44 4, dc := bfld w 40 4, neg := w.getLsbD 39, ln := bfld w 37 2, sh := bfld w 32 5 }
  match computeFields c.op, decodeMove (bfld w 16 16), decodeMove (bfld w 0 16) with
  | some f, some a, some b =>
    if onlyBits w (0xFF000000FFFFFFFF + f * 2 ^ 32) && c.inRange && writesOnce c a b then some (.par c a b) else none
  | _, _, _ => none

/-! ## IMM, CTL and SYS -/

/-- The range rules of one immediate load (R263). -/
def ImmLoad.ok (x : ImmLoad) : Bool :=
  match x.cls with
  | 0 => true
  | 2 => decide (x.n < 8) && (decide (x.v / 4096 = 0) || decide (x.v / 4096 = 0xFFF))
  | _ => decide (x.n < 8 ∧ x.v < 8192)

/-- An IMM bundle (R263). -/
def decodeImm (w : BitVec 64) : Option Bundle :=
  let x : ImmLoad := ⟨bfld w 60 2, bfld w 56 4, bfld w 32 24⟩
  let y : ImmLoad := ⟨bfld w 28 2, bfld w 24 4, bfld w 0 24⟩
  if !x.ok then none
  else if w.getLsbD 31 then
    if w.getLsbD 30 || !y.ok || (x.cls == y.cls && x.n == y.n) then none else some (.imm x (some y))
  else if bfld w 0 31 = 0 then some (.imm x none) else none

/-- A CTL bundle (R264, R266). -/
def decodeCtl (w : BitVec 64) : Option Bundle :=
  let cc := bfld w 53 4
  let r := bfld w 49 4
  let tgt := bfld w 0 12
  let op := 0xFE00000000000000
  let ccm := 0x01E0000000000000
  let rm := 0x001E000000000000
  let ok (mask : Nat) (c : Ctl) : Option Bundle := if onlyBits w (op + mask) && cc != 15 then some (.ctl c) else none
  match bfld w 57 5 with
  | 0x00 => ok (ccm + 0xFFF) (.br cc tgt)
  | 0x01 => ok (ccm + rm) (.bri cc r)
  | 0x02 => ok (ccm + 0xFFF) (.call cc tgt)
  | 0x03 => ok (ccm + rm) (.calli cc r)
  | 0x04 => ok ccm (.ret cc)
  | 0x05 => ok 0 .rtu
  | 0x06 => ok 0 .wait
  | 0x07 =>
    let count := bfld w 33 16
    if w.getLsbD 32 && count != 0 then none
    else ok (0x1FFFF00000000 + 0xFFF) (.loop (w.getLsbD 32) count tgt)
  | 0x08 => ok 0 .lpop
  | 0x09 => ok 0x3FF000 (.rep (bfld w 12 10 + 1))
  | 0x0A =>
    if w.getLsbD 48 then ok (rm + 0x1000000000000 + 0x3C000000000) (.signal true 0 (bfld w 38 4) r)
    else ok (rm + 0xFC0000000000) (.signal false (bfld w 42 6) 0 r)
  | _ => none

/-- The register classes of MVX and MXV, with the direction (R270): whether the class and number are legal. -/
def classOk (cls n : Nat) (write : Bool) : Bool :=
  if cls ≤ 2 then decide (n < 8)
  else if cls ≤ 5 then decide (n = 0)
  else if cls ≤ 9 then !write && decide (n = 0)
  else false

/-- A SYS bundle (R269). -/
def decodeSys (w : BitVec 64) : Option Bundle :=
  let op := 0xFF00000000000000
  let ok (mask : Nat) (c : Sys) : Option Bundle := if onlyBits w (op + mask) then some (.sys c) else none
  let r := bfld w 4 4
  match bfld w 56 6 with
  | 0x00 => ok 0 .snop
  | 0x01 => ok 0xFFFFFF (.mrs (bfld w 12 12) (bfld w 0 12))
  | 0x02 => ok 0x1F001F (.srs (bfld w 16 5) (bfld w 0 5))
  | 0x03 => if classOk (bfld w 8 4) (bfld w 0 4) true then ok 0xFFF (.mvx (bfld w 8 4) r (bfld w 0 4)) else none
  | 0x04 => if classOk (bfld w 8 4) (bfld w 0 4) false then ok 0xFFF (.mxv (bfld w 8 4) r (bfld w 0 4)) else none
  | 0x05 => ok 0xFFFF (.padd (bfld w 0 3) (bfld w 3 13))
  | 0x08 => ok 0xF3 (.scnt r (bfld w 0 2))
  | 0x10 => ok 0x1FFF (.qkick (bfld w 0 13))
  | 0x11 => ok 0xF0 (.qkickd r)
  | 0x18 => if bfld w 8 3 = 7 then none else ok 0xFF07F0 (.recd (bfld w 8 3) (bfld w 16 8) r)
  | _ => none

/-- The bundle a 64-bit word encodes; none: ILLEGAL (R247). -/
def decodeBundle (w : BitVec 64) : Option Bundle :=
  match bfld w 62 2 with
  | 0 => decodePar w
  | 1 => decodeImm w
  | 2 => decodeCtl w
  | _ => decodeSys w

end Sys2Proof.Machine
end

