-- ==== Sys2Proof/Machine/FacetExec.lean ====
section
/-!
DEFINITION. What one bundle does to its Facet: register visibility, addressing, compute, moves, control (R212 to R226, R250 to R272).
-/
namespace Sys2Proof.Machine

/-! ## Registers and their visibility -/

/-- A write that lands (R218). -/
def Facet.apply (f : Facet) : FWrite → Facet
  | .d n v => { f with d := f.d.set n v 0 }
  | .a n v _ => { f with a := f.a.set n v 0 }
  | .p n v => { f with p := f.p.set n v 0 }
  | .s n v => { f with s := f.s.set n v 0 }
  | .l n v => { f with l := f.l.set n v 0 }
  | .lc v => { f with lc := v }
  | .mr m v => { f with mr := (f.mr &&& ~~~m) ||| (v &&& m) }
  | .sr m v => { f with sr := (f.sr &&& ~~~m) ||| (v &&& m) }

/-- Land every write the next bundle sees; of two for one register the later bundle's lands last (R255). -/
def Facet.land (f : Facet) : Facet :=
  (f.wr.filter (fun w => decide (w.1 ≤ f.idx))).foldl (fun g w => g.apply w.2) { f with wr := f.wr.filter (fun w => decide (f.idx < w.1)) }

/-- Land every write on its way: cycles pass in which no bundle issues. -/
def Facet.settle (f : Facet) : Facet :=
  (sortBy (fun x y => decide (x.1 < y.1)) f.wr).foldl (fun g w => g.apply w.2) { f with wr := [] }

/-- Schedule writes that the `n`-th bundle from this one first sees. -/
def Facet.sched (f : Facet) (n : Nat) (ws : List FWrite) : Facet := { f with wr := f.wr ++ ws.map (fun w => (f.idx + n, w)) }

def Facet.dreg (f : Facet) (n : Nat) : BitVec 24 := f.d.get n 0
def Facet.areg (f : Facet) (n : Nat) : BitVec 56 := f.a.get n 0
def Facet.preg (f : Facet) (n : Nat) : Nat := (f.p.get n 0).toNat
def Facet.sreg (f : Facet) (n : Nat) : Int := (f.s.get n 0).toInt
def Facet.lreg (f : Facet) (n : Nat) : Nat := (f.l.get n 0).toNat

/-- The value of accumulator `x` an accumulating operation reads: the newest compute result, without stall (R218, R260). -/
def Facet.chain (f : Facet) (x : Nat) : BitVec 56 :=
  f.wr.foldl (fun acc w => match w.2 with | .a n v true => if n = x then v else acc | _ => acc) (f.areg x)

/-- MR.scl, MR.rnd and MR.sat. -/
def Facet.scl (f : Facet) : Nat := f.mr.toNat % 4
def Facet.rnd (f : Facet) : Bool := f.mr.getLsbD 2
def Facet.sat (f : Facet) : Bool := f.mr.getLsbD 3

/-- The move out of accumulator `x` under the Facet's mode (R225). -/
def Facet.out (f : Facet) (x : Nat) : BitVec 24 × Bool := moveOut f.scl f.rnd f.sat (f.areg x)

/-! ## Addressing (R214) -/

/-- The `k` low bits of an index, reversed. -/
def revBits : Nat → Nat → Nat
  | 0, _ => 0
  | k + 1, x => x % 2 * 2 ^ k + revBits k (x / 2)

/-- The update of a pointer by a step: linear, or within its circular buffer. -/
def pointerUpdate (p len : Nat) (step : Int) : Nat :=
  if len = 0 then (((p : Int) + step) % 8192).toNat
  else
    let b := p - p % len
    (b + (((p - b : Nat) : Int) + step) % (len : Int)).toNat % 8192

/-- The address a move through a pointer issues. -/
def issuedAddress (p len : Nat) (brev : Bool) : Nat :=
  let k := Nat.log2 len
  if brev && decide (1 ≤ k ∧ k ≤ 12) && len == 2 ^ k then
    let b := p - p % len
    (b + revBits k (p - b)) % 8192
  else p

/-- The address a move through P`n` issues (R214). -/
def Facet.addr (f : Facet) (n : Nat) : Nat := issuedAddress (f.preg n) (f.lreg n) (f.mr.getLsbD (4 + n))

/-- The step of an update code (R252). -/
def Facet.step (f : Facet) (n upd : Nat) (pair : Bool) : Int :=
  match upd with
  | 1 => f.sreg n
  | 2 => if pair then 2 else 1
  | _ => if pair then -2 else -1

/-- The post-update of P`n`, visible to the next bundle (R218, R252); `g` reads, `f` is updated. -/
def Facet.post (f g : Facet) (n upd : Nat) (pair : Bool) : Facet :=
  if upd = 0 then f
  else f.sched 1 [.p n (BitVec.ofNat 13 (pointerUpdate (g.preg n) (g.lreg n) (g.step n upd pair)))]

/-! ## Compute (R256 to R262) -/

/-- The SR write of `z` and `n` (R257). -/
def znWrite (r : Bool × Bool) : FWrite := .sr 0b00011 (BitVec.ofNat 5 (b2n r.1 + 2 * b2n r.2))

/-- The SR writes of the sticky bits. -/
def vWrite (v : Bool) : List FWrite := if v then [.sr 0b00100 0b00100] else []
def limWrite (lim : Bool) : List FWrite := if lim then [.sr 0b01000 0b01000] else []

/-- An accumulator result through `fit`, with `v`. -/
def fitted (sat : Bool) (x : Nat) (value : Int) : List FWrite :=
  let r := fit sat value
  .a x r.1 true :: vWrite r.2

/-- A single-accumulator result, with its flags. -/
def single (sat : Bool) (x : Nat) (value : Int) : List FWrite :=
  fitted sat x value ++ [znWrite (zn (fit sat value).1.toInt)]

/-- A data result, with its flags. -/
def dataResult (dc : Nat) (v : BitVec 24) : List FWrite := [.d dc v, znWrite (zn v.toInt)]

/-- The writes of a compute operation; each is seen two bundles later, but for the chaining of R218. -/
def Facet.compute (f : Facet) (c : Compute) : List FWrite :=
  let sat := f.sat
  let sg : Int := if c.neg then -1 else 1
  let da (j : Nat) : Int := (f.dreg (c.da + j)).toInt
  let db (j : Nat) : Int := (f.dreg (c.db + j)).toInt
  let ch (j : Nat) : Int := (f.chain (c.ax + j)).toInt
  let ax : Int := (f.areg c.ax).toInt
  let ay : Int := (f.areg c.ay).toInt
  let a := f.dreg c.da
  let b := f.dreg c.db
  let cplx (acc conj : Bool) : List FWrite :=
    let re := sg * (if conj then da 0 * db 0 + da 1 * db 1 else da 0 * db 0 - da 1 * db 1)
    let im := sg * (if conj then da 1 * db 0 - da 0 * db 1 else da 0 * db 1 + da 1 * db 0)
    fitted sat c.ax (if acc then ch 0 + re else re) ++ fitted sat (c.ax + 1) (if acc then ch 1 + im else im)
  match c.op with
  | 0x01 => single sat c.ax (sg * (da 0 * db 0))
  | 0x02 => single sat c.ax (ch 0 + sg * (da 0 * db 0))
  | 0x03 => (List.range c.lanes).flatMap (fun j => fitted sat (c.ax + j) (sg * (da j * db j)))
  | 0x04 => (List.range c.lanes).flatMap (fun j => fitted sat (c.ax + j) (ch j + sg * (da j * db j)))
  | 0x05 => (List.range c.lanes).flatMap (fun j => fitted sat (c.ax + j) (sg * (da j * db 0)))
  | 0x06 => (List.range c.lanes).flatMap (fun j => fitted sat (c.ax + j) (ch j + sg * (da j * db 0)))
  | 0x07 => cplx false false
  | 0x08 => cplx true false
  | 0x09 => cplx false true
  | 0x0A => cplx true true
  | 0x10 => (List.range c.lanes).map (fun j => .a (c.ax + j) 0 true)
  | 0x11 => single sat c.ax (ch 0 + sg * ay)
  | 0x12 => single sat c.ax (ch 0 + sg * (da 0 * 2 ^ 23))
  | 0x13 => single sat c.ax (da 0 * 2 ^ 23)
  | 0x14 => single sat c.ax (-ax)
  | 0x15 => single sat c.ax ax.natAbs
  | 0x16 => single sat c.ax (ax / (2 ^ c.sh : Nat))
  | 0x17 => single sat c.ax (ax * (2 ^ c.sh : Nat))
  | 0x18 => [znWrite (ax == ay, decide (ax < ay))]
  | 0x19 => [znWrite (zn ax)]
  | 0x20 => dataResult c.dc (a + b)
  | 0x21 => dataResult c.dc (a - b)
  | 0x22 => dataResult c.dc (a &&& b)
  | 0x23 => dataResult c.dc (a ||| b)
  | 0x24 => dataResult c.dc (a ^^^ b)
  | 0x25 => dataResult c.dc (a <<< c.sh)
  | 0x26 => dataResult c.dc (a >>> c.sh)
  | 0x27 => dataResult c.dc (a.sshiftRight c.sh)
  | 0x28 => dataResult c.dc (if a.toInt ≤ b.toInt then a else b)
  | 0x29 => dataResult c.dc (if a.toInt ≤ b.toInt then b else a)
  | 0x2A => [znWrite (a == b, decide (a.toInt < b.toInt))]
  | 0x30 => (List.range c.lanes).flatMap (fun j => .d (c.dc + j) (f.out (c.ax + j)).1 :: limWrite (f.out (c.ax + j)).2)
  | 0x31 => [.d c.dc (rawField c.ln (f.areg c.ax))]
  | 0x32 => [.a c.ax (setRawField c.ln (f.chain c.ax) a) true]
  | _ => []

/-! ## Moves (R251 to R253) -/

/-- Words an IN transfer pops, by port. -/
def Move.pops (m : Move) (port : Nat) : Nat :=
  match m with
  | .inp _ q pair => if q = port then (if pair then 2 else 1) else 0
  | _ => 0

/-- Whether every word a bundle reads is present (R216, R253). -/
def Ports.ready (q : Ports) (a b : Move) : Bool :=
  decide (a.pops 0 + b.pops 0 ≤ q.in0.length) && decide (a.pops 1 + b.pops 1 ≤ q.in1.length)

/-- Whether a pair move issues an odd address (R215). -/
def Facet.misaligned (f : Facet) : Move → Bool
  | .ldp _ p _ | .stp _ p _ => f.addr p % 2 == 1
  | _ => false

/-- Whether a load reads a word with an uncorrectable error (R234); bank B counts from 8,192. -/
def Facet.readsBad (f : Facet) (bank : Nat) : Move → Bool
  | .ld _ p _ | .lda _ p _ => f.badData.get (bank + f.addr p) false
  | .ldp _ p _ => f.badData.get (bank + f.addr p) false || f.badData.get (bank + (f.addr p + 1) % 8192) false
  | _ => false

/-- A word of a data bank. -/
def Facet.mem (f : Facet) (isB : Bool) (a : Nat) : BitVec 24 := (if isB then f.bankB else f.bankA).get (a % 8192) 0

/-- Store a word of a data bank; the stored word is free of errors. -/
def Facet.store (f : Facet) (isB : Bool) (a : Nat) (v : BitVec 24) : Facet :=
  let g : Facet := if isB then { f with bankB := f.bankB.set (a % 8192) v 0 } else { f with bankA := f.bankA.set (a % 8192) v 0 }
  { g with badData := g.badData.set ((if isB then 8192 else 0) + a % 8192) false false }

/-- Push a word to an OUT port; a full port discards it (R216). -/
def Ports.push (q : Ports) (port : Nat) (v : BitVec 24) : Ports × Bool :=
  if port = 0 then (if q.out0.length < 32 then ({ q with out0 := q.out0 ++ [v] }, false) else (q, true))
  else (if q.out1.length < 32 then ({ q with out1 := q.out1 ++ [v] }, false) else (q, true))

/-- The oldest words of an IN port. -/
def Ports.peek (q : Ports) (port i : Nat) : BitVec 24 := ((if port = 0 then q.in0 else q.in1).drop i).headD 0
def Ports.pop (q : Ports) (port n : Nat) : Ports := if port = 0 then { q with in0 := q.in0.drop n } else { q with in1 := q.in1.drop n }

/-- A move slot: `g` holds the values read, `f` and `q` are updated; the last part says whether a word was discarded. -/
def Facet.move (g : Facet) (isB : Bool) (m : Move) (f : Facet) (q : Ports) : Facet × Ports × Bool :=
  match m with
  | .none => (f, q, false)
  | .ld r p u => ((f.sched 2 [.d r (g.mem isB (g.addr p))]).post g p u false, q, false)
  | .st r p u => ((f.store isB (g.addr p) (g.dreg r)).post g p u false, q, false)
  | .ldp r p u => ((f.sched 2 [.d r (g.mem isB (g.addr p)), .d (r + 1) (g.mem isB (g.addr p + 1))]).post g p u true, q, false)
  | .stp r p u => (((f.store isB (g.addr p) (g.dreg r)).store isB (g.addr p + 1) (g.dreg (r + 1))).post g p u true, q, false)
  | .lda r p u => ((f.sched 2 [.a r (placed (g.mem isB (g.addr p))) false]).post g p u false, q, false)
  | .sta r p u => (((f.store isB (g.addr p) (g.out r).1).sched 2 (limWrite (g.out r).2)).post g p u false, q, false)
  | .mov r s => (f.sched 2 [.d r (g.dreg s)], q, false)
  | .inp r x pair =>
    if pair then (f.sched 2 [.d r (q.peek x 0), .d (r + 1) (q.peek x 1)], q.pop x 2, false)
    else (f.sched 2 [.d r (q.peek x 0)], q.pop x 1, false)
  | .out r x pair =>
    let q1 := q.push x (g.dreg r)
    if pair then
      let q2 := q1.1.push x (g.dreg (r + 1))
      (f, q2.1, q1.2 || q2.2)
    else (f, q1.1, q1.2)
  | .outa r x =>
    let q1 := q.push x (g.out r).1
    (f.sched 2 (limWrite (g.out r).2), q1.1, q1.2)

/-! ## Issue -/

/-- Causes of FAULT (R234). -/
inductive Cause where
  | none | illegal | cstackOvf | cstackUnf | lstackOvf | loopShort | repPlace | align | rtu | slot | wdog | progPar | dataUe
deriving DecidableEq, Repr

/-- The cause code of R234. -/
def Cause.code : Cause → Nat
  | .none => 0 | .illegal => 1 | .cstackOvf => 2 | .cstackUnf => 3 | .lstackOvf => 4 | .loopShort => 5 | .repPlace => 6
  | .align => 7 | .rtu => 8 | .slot => 9 | .wdog => 10 | .progPar => 11 | .dataUe => 12

/-- What a bundle does outside its Facet. -/
inductive FEffect where
  /-- Words were discarded at a full OUT port. -/
  | overflow
  | request (task param : Nat)
  | urgent (logical code : Nat)
  | kick (queue : Nat)
  | recd (sev code flags : Nat)
  /-- The task ended (R229), or an urgent handler returned to IDLE. -/
  | ended
  | returned
deriving DecidableEq, Repr

/-- What an issue cycle comes to: a stall (R216), a FAULT before any effect (R234), or the bundle's effects. -/
inductive Issue where
  | stall
  | fault (c : Cause)
  | done (f : Facet) (q : Ports) (es : List FEffect)
deriving DecidableEq, Repr

/-- The program counter, in bundles. -/
def pc12 (n : Nat) : Nat := n % 4096

/-- The bundle that follows a bundle without a branch: repetition, delay slots, loop-back (R219 to R221, R267). -/
def Facet.advance (f : Facet) : Facet × List FEffect :=
  let g := { f with back := false, idx := f.idx + 1 }
  if 1 < g.rep then ({ g with rep := g.rep - 1 }, [])
  else if g.rep = 1 then ({ g with rep := 0, pc := pc12 (g.pc + 1) }, [])
  else match g.slot with
    | some (n, after) =>
      if 1 < n then ({ g with slot := some (n - 1, after), pc := pc12 (g.pc + 1) }, [])
      else match after with
        | .goto t => ({ g with slot := none, pc := t }, [])
        | .finish => ({ g with slot := none, pc := pc12 (g.pc + 1) }, [.ended])
        | .leave t => ({ g with slot := none, pc := t }, [.returned])
    | none => match g.loops with
      | [] => ({ g with pc := pc12 (g.pc + 1) }, [])
      | e :: t =>
        if e.stop = g.pc then
          if 1 < e.count then ({ g with loops := { e with count := e.count - 1 } :: t, pc := e.start, back := true }, [])
          else ({ g with loops := t, pc := pc12 (g.pc + 1) }, [])
        else ({ g with pc := pc12 (g.pc + 1) }, [])

/-- The next bundle in sequence, for a CTL bundle. -/
def Facet.next (f : Facet) : Facet := { f with back := false, idx := f.idx + 1, pc := pc12 (f.pc + 1) }

/-- A branch with its two delay slots (R219). -/
def Facet.branch (f : Facet) (after : After) : Facet := { f.next with slot := some (2, after) }

/-- A condition (R265). -/
def Facet.cond (f : Facet) (q : Ports) (cc : Nat) : Bool :=
  let z := f.sr.getLsbD 0; let n := f.sr.getLsbD 1; let v := f.sr.getLsbD 2; let lim := f.sr.getLsbD 3
  match cc with
  | 0 => true
  | 1 => z
  | 2 => !z
  | 3 => n
  | 4 => !n
  | 5 => !n && !z
  | 6 => n || z
  | 7 => v
  | 8 => !v
  | 9 => lim
  | 10 => !lim
  | 11 => q.in0.isEmpty
  | 12 => q.in1.isEmpty
  | 13 => decide (32 ≤ q.out0.length)
  | 14 => decide (32 ≤ q.out1.length)
  | _ => false

/-- A taken or untaken branch: the target, or branch address + 3 (R266). -/
def Facet.branchIf (f : Facet) (taken : Bool) (tgt : Nat) : Facet := f.branch (.goto (if taken then tgt else pc12 (f.pc + 3)))

/-- A control operation outside a delay slot and a repetition (R266 to R268). [Log 87 DEDUCED] -/
def Facet.control (f : Facet) (q : Ports) (c : Ctl) : Issue :=
  let call (cc tgt : Nat) : Issue :=
    if f.cond q cc then
      if 8 ≤ f.calls.length then .fault .cstackOvf
      else .done ({ f with calls := pc12 (f.pc + 3) :: f.calls }.branch (.goto tgt)) q []
    else .done (f.branchIf false 0) q []
  match c with
  | .br cc tgt => .done (f.branchIf (f.cond q cc) tgt) q []
  | .bri cc r => .done (f.branchIf (f.cond q cc) ((f.dreg r).toNat % 4096)) q []
  | .call cc tgt => call cc tgt
  | .calli cc r => call cc ((f.dreg r).toNat % 4096)
  | .ret cc =>
    if f.cond q cc then
      match f.calls with
      | [] => .fault .cstackUnf
      | t :: rest => .done ({ f with calls := rest }.branch (.goto t)) q []
    else .done (f.branchIf false 0) q []
  | .rtu =>
    if f.state ≠ .urgent then .fault .rtu
    else match f.calls with
      | [] => .fault .cstackUnf
      | t :: rest => .done ({ (f.sched 2 [.sr 0x10 0x10]) with calls := rest }.branch (.leave t)) q []
  | .wait => .done (f.branch .finish) q []
  | .loop lc count tgt =>
    let n := if lc then f.lc.toNat else count
    if tgt < f.pc + 2 then .fault .loopShort
    else if n = 0 then .done { f.next with pc := pc12 (tgt + 1) } q []
    else if 4 ≤ f.loops.length then .fault .lstackOvf
    else .done { f.next with loops := ⟨pc12 (f.pc + 1), tgt, n⟩ :: f.loops } q []
  | .lpop => .done { f.next with loops := f.loops.tail } q []
  | .rep n => .done { f.next with rep := n } q []
  | .signal urg task l r =>
    let w := (f.dreg r).toNat % 65536
    .done f.next q [if urg then .urgent l w else .request task w]

/-- The writes of an immediate load with the bundle that first sees them (R263). -/
def Facet.imm (f : Facet) (x : ImmLoad) : Facet :=
  match x.cls with
  | 0 => f.sched 2 [.d x.n (BitVec.ofNat 24 x.v)]
  | 1 => f.sched 1 [.p x.n (BitVec.ofNat 13 x.v)]
  | 2 => f.sched 1 [.s x.n (BitVec.ofNat 13 x.v)]
  | _ => f.sched 1 [.l x.n (BitVec.ofNat 13 x.v)]

/-- The register of a class, as MXV returns it (R270). -/
def Facet.special (f : Facet) (cls n : Nat) : BitVec 24 :=
  match cls with
  | 0 => (f.p.get n 0).setWidth 24
  | 1 => (f.s.get n 0).signExtend 24
  | 2 => (f.l.get n 0).setWidth 24
  | 3 => f.lc.setWidth 24
  | 4 => f.mr.setWidth 24
  | 5 => f.sr.setWidth 24
  | 6 => BitVec.ofNat 24 f.param
  | 7 => BitVec.ofNat 24 f.task
  | 8 => BitVec.ofNat 24 f.evt
  | _ => BitVec.ofNat 24 (b2n f.pend + 2 * b2n f.ovr)

/-- A write of the register of a class by MVX (R270). -/
def Facet.mvx (f : Facet) (cls n : Nat) (v : BitVec 24) : Facet :=
  match cls with
  | 0 => f.sched 3 [.p n (v.setWidth 13)]
  | 1 => f.sched 3 [.s n (v.setWidth 13)]
  | 2 => f.sched 3 [.l n (v.setWidth 13)]
  | 3 => f.sched 2 [.lc (v.setWidth 16)]
  | 4 => f.sched 2 [.mr 0xFFF (v.setWidth 12)]
  | _ => f.sched 2 [.sr 0x1F (v.setWidth 5)]

/-- Words held in IN0 or IN1, or free places in OUT0 or OUT1 (R269). -/
def Ports.level (q : Ports) (port : Nat) : Nat :=
  match port with
  | 0 => q.in0.length
  | 1 => q.in1.length
  | 2 => 32 - q.out0.length
  | _ => 32 - q.out1.length

/-- A system operation (R269 to R271). -/
def Facet.system (f : Facet) (q : Ports) (c : Sys) : Facet × List FEffect :=
  match c with
  | .snop => (f, [])
  | .mrs m v => (f.sched 2 [.mr (BitVec.ofNat 12 m) (BitVec.ofNat 12 v)], [])
  | .srs m v => (f.sched 2 [.sr (BitVec.ofNat 5 m) (BitVec.ofNat 5 v)], [])
  | .mvx cls r n => (f.mvx cls n (f.dreg r), [])
  | .mxv cls r n => (f.sched 2 [.d r (f.special cls n)], [])
  | .padd n imm => (f.sched 1 [.p n (BitVec.ofNat 13 (pointerUpdate (f.preg n) (f.lreg n) (signed 13 imm)))], [])
  | .scnt r port => (f.sched 2 [.d r (BitVec.ofNat 24 (q.level port))], [])
  | .qkick n => (f, [.kick n])
  | .qkickd r => (f, [.kick ((f.dreg r).toNat % 8192)])
  | .recd sev code r => (f, [.recd sev code ((f.dreg r).toNat % 65536)])

/-- Whether the bundle at PC is the last of the innermost LOOP body. -/
def Facet.lastOfBody (f : Facet) : Bool := match f.loops with | [] => false | e :: _ => e.stop == f.pc

/-- Issue a decoded bundle on a Facet whose due writes have landed. [Log 86 DEDUCED] -/
def Facet.issue (f : Facet) (q : Ports) (b : Bundle) : Issue :=
  let plain (g : Facet) (q' : Ports) (es : List FEffect) : Issue := let r := g.advance; .done r.1 q' (es ++ r.2)
  match b with
  | .ctl c =>
    if f.slot.isSome then .fault .slot
    else if 0 < f.rep then .fault .repPlace
    else if f.lastOfBody then .fault (match c with | .rep _ => .repPlace | _ => .illegal)
    else f.control q c
  | .par c a m =>
    if f.slot.isSome && f.lastOfBody then .fault .illegal
    else if decide (0 < f.rep) && f.lastOfBody then .fault .repPlace
    else if !(q.ready a m) then .stall
    else if f.misaligned a || f.misaligned m then .fault .align
    else if f.readsBad 0 a || f.readsBad 8192 m then .fault .dataUe
    else
      let r1 := f.move false a (f.sched 2 (f.compute c)) q
      let r2 := f.move true m r1.1 r1.2.1
      plain r2.1 r2.2.1 (if r1.2.2 || r2.2.2 then [.overflow] else [])
  | .imm x y =>
    if f.slot.isSome && f.lastOfBody then .fault .illegal
    else if decide (0 < f.rep) && f.lastOfBody then .fault .repPlace
    else plain (match y with | none => f.imm x | some z => (f.imm x).imm z) q []
  | .sys c =>
    if f.slot.isSome && f.lastOfBody then .fault .illegal
    else if decide (0 < f.rep) && f.lastOfBody then .fault .repPlace
    else let r := f.system q c; plain r.1 q r.2

/-- Fetch, decode and issue the bundle at PC, if `accept` says it is the kind of bundle that issues (R247, R248). [Log 86 DEDUCED] -/
def Facet.fetchIssue (f : Facet) (q : Ports) : Issue :=
  let g := f.land
  if g.badProg.get g.pc false then .fault .progPar
  else match decodeBundle (g.prog.get g.pc 0) with
    | none => .fault .illegal
    | some b => g.issue q b

end Sys2Proof.Machine
end

