-- ==== Sys2Proof/Config.lean ====
section
/-!
DEFINITION. What the specification leaves open as a value: constants without a body, so that a claim holds whatever they are.

The state holds a counter (`State.free`); a meaning that needs a value the specification does not state applies
`Config.freeValue` to the counter and advances it. The cryptographic functions of Bezel, the memory protection engines and the
debug gate are constants of the same kind: the specification names their standard but a claim of this model never
computes one.
-/
namespace Sys2Proof.Config

/-- The next value the specification leaves open: the `n`-th one drawn. -/
opaque freeValue : Nat → DWord

/-- The digest of a byte string under the hash the specification names (SHA-384), as an unsigned number. [Log 8 DESIGN CHOICE] -/
opaque digest : List Byte → Nat

/-- The tag of a message under a key: AES-GCM and CMAC tags (R355, R534), as an unsigned number. [Log 8 DESIGN CHOICE] -/
opaque tag : Nat → List Byte → Nat

/-- The signature of a message under a signing key (R512, R515), as an unsigned number. [Log 8 DESIGN CHOICE] -/
opaque signature : Nat → List Byte → Nat

/-- A key derived from a key and a label (R502, R505), as an unsigned number. [Log 8 DESIGN CHOICE] -/
opaque derive : Nat → Nat → Nat

/-- Encryption or decryption of a byte string under a key. [Log 8 DESIGN CHOICE] -/
opaque cipher : Nat → List Byte → List Byte

/-- The tree block, as level and index, that a node cache gives up for another one, if any, at each draw of the free counter (R358).
[Log 227 DESIGN CHOICE] -/
opaque nodeEvicted : Nat → Option (Nat × Nat)

/-- A line of the memory-test patterns WALK (2) and PRBS (3), whose bits the specification does not lay out (R342): pattern
and line address to a 512-bit number. [Log 117 DESIGN CHOICE] -/
opaque testPattern : Nat → Nat → Nat

/-- The check bits a SECDED code adds to 64 data bits (R183). [Log 82 DESIGN CHOICE] -/
opaque checkBits : Nat → Nat

/-- The 9 bits of a lane of a Region's memories as BLOCK_MEM segments load them, whose layout the specification does not give
(R448): memory, lane, segments. [Log 81 DESIGN CHOICE] -/
opaque blockLane : Nat → Nat → List (Nat × List Byte) → Nat

/-- A byte of a Region's flip-flops in a Loupe capture (R203): of a running design, or initial values; number of the draw or of
the load; offset. [Log 81 DESIGN CHOICE] -/
opaque flopByte : Bool → Nat → Nat → Byte

/-- The initial value of a memory's output register, which an image's frames carry (R177): number of the load, port.
[Log 81 DESIGN CHOICE] -/
opaque initialOut : Nat → Nat → Nat

/-- Whether a signature verifies: public key, message, signature (ECDSA P-384). [Log 8 DESIGN CHOICE] -/
opaque verify : List Byte → List Byte → List Byte → Bool

/-- AES key wrap of a value under a key, and its inverse (RFC 3394, RFC 5649). [Log 8 DESIGN CHOICE] -/
opaque wrap : Nat → List Byte → List Byte
/-- [Log 8 DESIGN CHOICE] -/
opaque unwrap : Nat → List Byte → Option (List Byte)

/-- The public key of a P-384 scalar. [Log 8 DESIGN CHOICE] -/
opaque publicKey : Nat → List Byte

/-- The device's PUF root secret (R494). [Log 8 DESIGN CHOICE] -/
opaque pufRoot : Nat

/-- The alias certificate that carries a boot digest (R512). [Log 8 DESIGN CHOICE] -/
opaque aliasCert : Nat → List Byte

/-- The network port (modulo 4) of a Region to which an address of its user window decodes (R24): the image's own design.
[Log 24 DESIGN CHOICE] -/
opaque windowPort : Nat → Nat
/-- Level and output enable at a pin port of a Region's design, or of its isolation cells' declared defaults (R143, R172): pin,
number of the load, isolated, DT. [Log 80 DESIGN CHOICE] -/
opaque pinPort : Nat → Nat → Bool → DWord → Bool × Bool

/-- Whether a DIFF pair is a complementary driver, rather than a differential receiver (R146): its even pin. [Log 179 DESIGN CHOICE] -/
opaque diffDrives : Nat → Bool

/-- The boundary default that the image declares for an output line of a Region's design (R149, R172, R174): line, number of the load.
[Log 180 DESIGN CHOICE] -/
opaque boundaryDefault : Nat → Nat → Bool

/-- A signal of a neighbour channel as a Region's design drives it, or the default declared for its isolation cell (R172, R173): number of
the signal, number of the load, isolated, DT. [Log 180 DESIGN CHOICE] -/
opaque channel : Nat → Nat → Bool → DWord → Bool

/-- The user interrupt line of a Region as its design drives it, or its declared default (R173, R174): Region, number of the load,
isolated, DT. [Log 180 DESIGN CHOICE] -/
opaque userLine : Nat → Nat → Bool → DWord → Bool

/-- What drives a global clock network (R193), as `Machine.clockSource` reads it: 32 × die + network. [Log 189 DESIGN CHOICE] -/
opaque clockSource : Nat → Nat

/-- Whether a clock that is not spine-aligned rises at a DT: 32 × die + network. [Log 189 DESIGN CHOICE] -/
opaque clockEdge : Nat → DWord → Bool

/-- The network of a Region clock (R193), and whether its clock enable is on: 24 × Region + clock, number of the load, DT.
[Log 189 DESIGN CHOICE] -/
opaque regionClock : Nat → Nat → Nat
/-- [Log 189 DESIGN CHOICE] -/
opaque clockEnable : Nat → Nat → DWord → Bool

/-- The Region clock of a Region's strobe port and of its spine port (R195, R196): Region, number of the load. [Log 189 DESIGN CHOICE] -/
opaque strobeClock : Nat → Nat → Nat
/-- [Log 189 DESIGN CHOICE] -/
opaque spineClock : Nat → Nat → Nat

/-- Look-ahead and threshold of a crossing FIFO, which the image sets (R185): memory, number of the load. [Log 193 DESIGN CHOICE] -/
opaque fifoAhead : Nat → Nat → Bool
/-- [Log 193 DESIGN CHOICE] -/
opaque fifoThreshold : Nat → Nat → Nat

/-- The level of a pad that nothing drives or pulls: pin, DT. [Log 75 DESIGN CHOICE] -/
opaque openPad : Nat → DWord → Bool

/-- By how many dtu the excitation wave of a RESOLVER domain is shifted against multiples of its period (R57): domain.
[Log 167 DESIGN CHOICE] -/
opaque excitationPhase : Nat → Nat

/-- The system address at which Bezel places the boot descriptor (R38, CC_BOOTDESC). [Log 143 DESIGN CHOICE] -/
opaque bootDescAt : Nat

/-- The hash of the boot ROM, measurement M0 (R512). [Log 8 DESIGN CHOICE] -/
opaque bootRomHash : Nat

/-- The formats of packets and the sizes of buffers a link end offers in its capability descriptor, which the specification does not
state (R19): receive credits and replay depth in flits, by die. [Log 202 DESIGN CHOICE] -/
opaque linkCredits : Nat → Nat
/-- [Log 202 DESIGN CHOICE] -/
opaque replayDepth : Nat → Nat

/-- The hash by which a flow takes a network quarter of a link (R304): source, destination, channel. [Log 200 DESIGN CHOICE] -/
opaque flowHash : Nat × Nat → Nat × Nat → Nat → Nat

/-- Which of the four routers of a queue manager a packet uses (R300): the router at the other end. [Log 199 DESIGN CHOICE] -/
opaque managerRouter : Nat → Nat

/-- The lane groups of the loaded image (R306): source and destination Region, clock and defaults of a group, by
32 × (4 × module + quarter) + group and the sending die. [Log 203 DESIGN CHOICE] -/
opaque laneSource : Nat → Nat → Nat
/-- [Log 203 DESIGN CHOICE] -/
opaque laneDest : Nat → Nat → Nat
/-- [Log 203 DESIGN CHOICE] -/
opaque laneClock : Nat → Nat → Nat
/-- [Log 203 DESIGN CHOICE] -/
opaque laneDefault : Nat → Nat → BitVec 32

/-- Whether the image of a Region decodes an address of its user window (R24): number of the load, address. [Log 24 DESIGN CHOICE] -/
opaque windowDecoded : Nat → Nat → Bool

/-- Whether the application cores' caches keep the line of an access, and which line they give up before it, at their own choice
(R34): number of the draw. [Log 207 DESIGN CHOICE] -/
opaque cacheKeeps : Nat → Bool
/-- [Log 207 DESIGN CHOICE] -/
opaque cacheEvicts : Nat → Nat

/-- The domain in which a temperature sensor lies (R281, GOV_TEMP `valid`), modulo 165. [Log 215 DESIGN CHOICE] -/
opaque sensorDomain : Nat → Nat

/-- The answer of an endpoint function's configuration space to its host (R347): port, draw. [Log 210 DESIGN CHOICE] -/
opaque functionWord : Nat → Nat → BitVec 32

end Sys2Proof.Config
end

