-- ==== Sys2Proof/Machine/RegTable.lean ====
section
/-!
DEFINITION. The registers of the CSR window (R5, R7, R24, R27, R28): their addresses, access types and reset values.

One row per register heading of the specification, word by word; the field columns of that heading give the masks.
`Reg.<NAME>` is the window offset of one register, under the specification's own name.
-/
namespace Sys2Proof.Machine

/-- The CSR window offset of a register: die [31:29], unit [28:24], instance [23:12], offset [11:0] (R27). -/
def regKey (die unit inst off : Nat) : Nat := ((die * 32 + unit) * 4096 + inst) * 4096 + off

/-- Which half of a 64-bit pair a register is (R6). -/
inductive PairHalf where
  | none | lo | hi
deriving DecidableEq, Repr

/-- One register heading: `count` words from `off`, `stride` bytes apart, in instances `instLo` to `instHi` of `unit` on
the dies of the mask `dies` (bit d: die d). The masks hold the bits of each access type of R7. -/
structure RegDef where
  name   : String
  unit   : Nat
  dies   : Nat
  instLo : Nat
  instHi : Nat
  off    : Nat
  stride : Nat
  count  : Nat
  half   : PairHalf
  rw     : Nat
  rwl    : Nat
  w1c    : Nat
  w1s    : Nat
  rc     : Nat
  rp     : Nat
  wo     : Nat
  reset  : Nat
deriving DecidableEq, Repr

namespace Reg

def MBX_CTL (i : Nat) : Nat := regKey 5 0x1A i 0x000
def MBX_PUSH (i : Nat) : Nat := regKey 5 0x1A i 0x004
def MBX_POP (i : Nat) : Nat := regKey 5 0x1A i 0x008
def MBX_STAT (i : Nat) : Nat := regKey 5 0x1A i 0x00C
def CC_START : Nat := regKey 5 0x1A 32 0x000
def CC_STATUS : Nat := regKey 5 0x1A 32 0x004
def CC_BOOTDESC_LO : Nat := regKey 5 0x1A 32 0x008
def CC_BOOTDESC_HI : Nat := regKey 5 0x1A 32 0x00C
def DOM_CTL (i : Nat) : Nat := regKey 4 0x03 i 0x000
def DOM_CMD (i : Nat) : Nat := regKey 4 0x03 i 0x004
def DOM_STAT (i : Nat) : Nat := regKey 4 0x03 i 0x008
def DOM_PHASE_LO (i : Nat) : Nat := regKey 4 0x03 i 0x010
def DOM_PHASE_HI (i : Nat) : Nat := regKey 4 0x03 i 0x014
def DOM_LOAD_LO (i : Nat) : Nat := regKey 4 0x03 i 0x018
def DOM_LOAD_HI (i : Nat) : Nat := regKey 4 0x03 i 0x01C
def DOM_VEL_LO (i : Nat) : Nat := regKey 4 0x03 i 0x020
def DOM_VEL_HI (i : Nat) : Nat := regKey 4 0x03 i 0x024
def DOM_ACC_LO (i : Nat) : Nat := regKey 4 0x03 i 0x028
def DOM_ACC_HI (i : Nat) : Nat := regKey 4 0x03 i 0x02C
def DOM_TIMEOUT (i : Nat) : Nat := regKey 4 0x03 i 0x030
def DOM_HOLDMAX (i : Nat) : Nat := regKey 4 0x03 i 0x034
def DOM_OFS (i : Nat) : Nat := regKey 4 0x03 i 0x038
def DOM_SRCA (i : Nat) : Nat := regKey 4 0x03 i 0x040
def DOM_SRCB (i : Nat) : Nat := regKey 4 0x03 i 0x044
def DOM_INPUT (i : Nat) : Nat := regKey 4 0x03 i 0x048
def DOM_LASTEDGE_LO (i : Nat) : Nat := regKey 4 0x03 i 0x050
def DOM_LASTEDGE_HI (i : Nat) : Nat := regKey 4 0x03 i 0x054
def DOM_GAP (i k : Nat) : Nat := regKey 4 0x03 i (0x400 + 4 * k)
def SPN_STAT : Nat := regKey 4 0x03 16 0x000
def DT_NOW_LO : Nat := regKey 4 0x03 16 0x010
def DT_NOW_HI : Nat := regKey 4 0x03 16 0x014
def SRX_STAT (die : Nat) : Nat := regKey die 0x03 0 0x000
def SRX_CTL (die : Nat) : Nat := regKey die 0x03 0 0x004
def CAL_CTL (die : Nat) : Nat := regKey die 0x04 0 0x000
def CAL_STAT (die : Nat) : Nat := regKey die 0x04 0 0x004
def CAL_BACKLOG (die : Nat) : Nat := regKey die 0x04 0 0x008
def CAL_LATECNT (die : Nat) : Nat := regKey die 0x04 0 0x00C
def CAL_SKIPCNT (die : Nat) : Nat := regKey die 0x04 0 0x010
def CAL_ERRENT (die : Nat) : Nat := regKey die 0x04 0 0x014
def CAL_GCMD (die : Nat) : Nat := regKey die 0x04 0 0x020
def CAL_GCMD_AT_LO (die : Nat) : Nat := regKey die 0x04 0 0x028
def CAL_GCMD_AT_HI (die : Nat) : Nat := regKey die 0x04 0 0x02C
def CAL_SHIFT_LO (die : Nat) : Nat := regKey die 0x04 0 0x030
def CAL_SHIFT_HI (die : Nat) : Nat := regKey die 0x04 0 0x034
def CAL_JUMPLIM (die k : Nat) : Nat := regKey die 0x04 0 (0x040 + 4 * k)
def CAL_STG (die k : Nat) : Nat := regKey die 0x04 0 (0x100 + 4 * k)
def CAL_STG_CMD (die : Nat) : Nat := regKey die 0x04 0 0x120
def TIO_CTL (die i : Nat) : Nat := regKey die 0x05 i 0x000
def TIO_STAT (die i : Nat) : Nat := regKey die 0x05 i 0x004
def TIO_IE (die i : Nat) : Nat := regKey die 0x05 i 0x008
def TIO_OUT_LO (die i : Nat) : Nat := regKey die 0x05 i 0x010
def TIO_OUT_HI (die i : Nat) : Nat := regKey die 0x05 i 0x014
def TIO_OFLUSH (die i : Nat) : Nat := regKey die 0x05 i 0x018
def TIO_CAP0 (die i : Nat) : Nat := regKey die 0x05 i 0x020
def TIO_CAP1 (die i : Nat) : Nat := regKey die 0x05 i 0x024
def TIO_CAP2 (die i : Nat) : Nat := regKey die 0x05 i 0x028
def TIO_CAP3 (die i : Nat) : Nat := regKey die 0x05 i 0x02C
def TIO_DRN (die i : Nat) : Nat := regKey die 0x05 i 0x030
def TIO_LOST (die i : Nat) : Nat := regKey die 0x05 i 0x034
def TIO_MTO (die i : Nat) : Nat := regKey die 0x05 i 0x038
def TIO_PW_PER (die i : Nat) : Nat := regKey die 0x05 i 0x040
def TIO_PW_A (die i : Nat) : Nat := regKey die 0x05 i 0x044
def TIO_PW_B (die i : Nat) : Nat := regKey die 0x05 i 0x048
def TIO_PW_ORG_LO (die i : Nat) : Nat := regKey die 0x05 i 0x050
def TIO_PW_ORG_HI (die i : Nat) : Nat := regKey die 0x05 i 0x054
def TIO_PW_UPD (die i : Nat) : Nat := regKey die 0x05 i 0x058
def TIO_ENC (die i : Nat) : Nat := regKey die 0x05 i 0x060
def TIO_ENC_SP (die i : Nat) : Nat := regKey die 0x05 i 0x064
def TIO_EMU_OFS (die i : Nat) : Nat := regKey die 0x05 i 0x068
def TIO_PLS (die i : Nat) : Nat := regKey die 0x05 i 0x06C
def TIO_PLS_W (die i : Nat) : Nat := regKey die 0x05 i 0x070
def TIO_MIR (die i : Nat) : Nat := regKey die 0x05 i 0x078
def TIO_SUM (die k : Nat) : Nat := regKey die 0x05 240 (0x000 + 4 * k)
def TIO_PAT (die k : Nat) : Nat := regKey die 0x05 240 (0x400 + 4 * k)
def ADC_CTL (die : Nat) : Nat := regKey die 0x17 0 0x000
def ADC_DATA (die k : Nat) : Nat := regKey die 0x17 0 (0x040 + 4 * k)
def PAD_FUNC (die i : Nat) : Nat := regKey die 0x06 i 0x000
def PAD_CFG (die i : Nat) : Nat := regKey die 0x06 i 0x004
def PAD_IN (die i : Nat) : Nat := regKey die 0x06 i 0x008
def PAD_LOCK (die : Nat) : Nat := regKey die 0x06 240 0x000
def PAD_STAT (die : Nat) : Nat := regKey die 0x06 240 0x004
def PAD_BANK (die k : Nat) : Nat := regKey die 0x06 240 (0x040 + 4 * k)
def PAD_SNAP (die k : Nat) : Nat := regKey die 0x06 240 (0x100 + 4 * k)
def XBAR_SRC (die i : Nat) : Nat := regKey die 0x07 i 0x000
def XBAR_IN (die i : Nat) : Nat := regKey die 0x07 i 0x004
def XBAR_STAT (die : Nat) : Nat := regKey die 0x07 240 0x000
def XBAR_CONF (die : Nat) : Nat := regKey die 0x07 240 0x004
def XBAR_DEF (die k : Nat) : Nat := regKey die 0x07 240 (0x040 + 4 * k)
def XBAR_TAP (die k : Nat) : Nat := regKey die 0x07 240 (0x100 + 4 * k)
def LP_CTL (die : Nat) : Nat := regKey die 0x0F 0 0x000
def LP_CMD (die : Nat) : Nat := regKey die 0x0F 0 0x004
def LP_STAT (die : Nat) : Nat := regKey die 0x0F 0 0x008
def LP_NOCAP (die : Nat) : Nat := regKey die 0x0F 0 0x00C
def LP_CAPDT_LO (die : Nat) : Nat := regKey die 0x0F 0 0x010
def LP_CAPDT_HI (die : Nat) : Nat := regKey die 0x0F 0 0x014
def LP_MISS (die : Nat) : Nat := regKey die 0x0F 0 0x018
def LP_QRD (die : Nat) : Nat := regKey die 0x0F 0 0x01C
def LP_RESTORE (die : Nat) : Nat := regKey die 0x0F 0 0x020
def LP_PROF (die k : Nat) : Nat := regKey die 0x0F 0 (0x040 + 4 * k)
def FACET_CTL (die i : Nat) : Nat := regKey die 0x08 i 0x000
def FACET_CMD (die i : Nat) : Nat := regKey die 0x08 i 0x004
def FACET_STAT (die i : Nat) : Nat := regKey die 0x08 i 0x008
def FACET_PC (die i : Nat) : Nat := regKey die 0x08 i 0x00C
def FACET_FAULT (die i : Nat) : Nat := regKey die 0x08 i 0x010
def FACET_CYC_LO (die i : Nat) : Nat := regKey die 0x08 i 0x018
def FACET_CYC_HI (die i : Nat) : Nat := regKey die 0x08 i 0x01C
def FDSP_CTL (die i : Nat) : Nat := regKey die 0x09 i 0x000
def FDSP_STAT (die i : Nat) : Nat := regKey die 0x09 i 0x004
def FDSP_REQ (die i : Nat) : Nat := regKey die 0x09 i 0x008
def FDSP_LATE (die i : Nat) : Nat := regKey die 0x09 i 0x00C
def FDSP_DROP (die i : Nat) : Nat := regKey die 0x09 i 0x010
def FDSP_MAP (die i k : Nat) : Nat := regKey die 0x09 i (0x020 + 4 * k)
def FDSP_REMAP (die i : Nat) : Nat := regKey die 0x09 i 0x030
def FDSP_STRB (die i k : Nat) : Nat := regKey die 0x09 i (0x040 + 4 * k)
def FDSP_DONE (die i k : Nat) : Nat := regKey die 0x09 i (0x600 + 4 * k)
def FDSP_TASK0 (die i k : Nat) : Nat := regKey die 0x09 i (0x100 + 16 * k)
def FDSP_TASK1 (die i k : Nat) : Nat := regKey die 0x09 i (0x104 + 16 * k)
def FDSP_TASK2 (die i k : Nat) : Nat := regKey die 0x09 i (0x108 + 16 * k)
def FDSP_TASK3 (die i k : Nat) : Nat := regKey die 0x09 i (0x10C + 16 * k)
def PWR_DOM_CTL (die i : Nat) : Nat := regKey die 0x01 i 0x000
def PWR_DOM_STAT (die i : Nat) : Nat := regKey die 0x01 i 0x004
def PWR_ISL_CTL (die i : Nat) : Nat := regKey die 0x01 i 0x000
def PWR_ISL_STAT (die i : Nat) : Nat := regKey die 0x01 i 0x004
def PWR_ISL_E (die i : Nat) : Nat := regKey die 0x01 i 0x008
def GOV_CTL : Nat := regKey 4 0x14 0 0x000
def GOV_STAT : Nat := regKey 4 0x14 0 0x004
def GOV_CAP : Nat := regKey 4 0x14 0 0x008
def GOV_CAPEFF : Nat := regKey 4 0x14 0 0x00C
def GOV_PBSH (k : Nat) : Nat := regKey 4 0x14 0 (0x010 + 4 * k)
def GOV_BG : Nat := regKey 4 0x14 0 0x024
def GOV_TH : Nat := regKey 4 0x14 0 0x028
def GOV_WB : Nat := regKey 4 0x14 0 0x040
def GOV_WF : Nat := regKey 4 0x14 0 0x044
def GOV_WK : Nat := regKey 4 0x14 0 0x048
def GOV_WC : Nat := regKey 4 0x14 0 0x04C
def GOV_WM : Nat := regKey 4 0x14 0 0x050
def GOV_SHORT : Nat := regKey 4 0x14 0 0x054
def GOV_PBWAIT : Nat := regKey 4 0x14 0 0x058
def GOV_EXT : Nat := regKey 4 0x14 0 0x060
def GOV_PMB : Nat := regKey 4 0x14 0 0x064
def GOV_PMBDEV (k : Nat) : Nat := regKey 4 0x14 0 (0x070 + 4 * k)
def GOV_JOBC0 : Nat := regKey 4 0x14 0 0x0A0
def GOV_JOBC1 : Nat := regKey 4 0x14 0 0x0A4
def GOV_JOBC2 : Nat := regKey 4 0x14 0 0x0A8
def GOV_JOBC3 : Nat := regKey 4 0x14 0 0x0AC
def GOV_CMD : Nat := regKey 4 0x14 0 0x0C0
def GOV_WAKE_LO : Nat := regKey 4 0x14 0 0x0C8
def GOV_WAKE_HI : Nat := regKey 4 0x14 0 0x0CC
def GOV_TMAX : Nat := regKey 4 0x14 0 0x0D0
def GOV_TEMP (k : Nat) : Nat := regKey 4 0x14 0 (0x400 + 4 * k)
def HN_CTL (die : Nat) : Nat := regKey die 0x0B 0 0x000
def HN_STAT (die : Nat) : Nat := regKey die 0x0B 0 0x004
def HN_CECNT (die : Nat) : Nat := regKey die 0x0B 0 0x008
def HN_UECNT (die : Nat) : Nat := regKey die 0x0B 0 0x00C
def D2D_STAT (die i : Nat) : Nat := regKey die 0x0C i 0x000
def D2D_CTL (die i : Nat) : Nat := regKey die 0x0C i 0x004
def D2D_CRC (die i : Nat) : Nat := regKey die 0x0C i 0x008
def D2D_REPLAY (die i : Nat) : Nat := regKey die 0x0C i 0x00C
def D2D_XLERR (die i : Nat) : Nat := regKey die 0x0C i 0x010
def D2D_EVT (die i : Nat) : Nat := regKey die 0x0C i 0x014
def D2D_PEERDESC (die i k : Nat) : Nat := regKey die 0x0C i (0x100 + 4 * k)
def QM_QCFG0 (die i : Nat) : Nat := regKey die 0x0A i 0x000
def QM_QCFG1 (die i : Nat) : Nat := regKey die 0x0A i 0x004
def QM_QTO (die i : Nat) : Nat := regKey die 0x0A i 0x008
def QM_RING_LO (die i : Nat) : Nat := regKey die 0x0A i 0x010
def QM_RING_HI (die i : Nat) : Nat := regKey die 0x0A i 0x014
def QM_RINGSZ (die i : Nat) : Nat := regKey die 0x0A i 0x018
def QM_DB (die i : Nat) : Nat := regKey die 0x0A i 0x01C
def QM_HEAD (die i : Nat) : Nat := regKey die 0x0A i 0x020
def QM_CMD (die i : Nat) : Nat := regKey die 0x0A i 0x024
def QM_QSTAT (die i : Nat) : Nat := regKey die 0x0A i 0x028
def QM_QIE (die i : Nat) : Nat := regKey die 0x0A i 0x02C
def QM_CBASE_LO (die i : Nat) : Nat := regKey die 0x0A i 0x030
def QM_CBASE_HI (die i : Nat) : Nat := regKey die 0x0A i 0x034
def QM_CCFG (die i : Nat) : Nat := regKey die 0x0A i 0x038
def QM_CPTR (die i : Nat) : Nat := regKey die 0x0A i 0x040
def QM_CCNT (die i : Nat) : Nat := regKey die 0x0A i 0x044
def QM_KICK (die i : Nat) : Nat := regKey die 0x0A i 0x048
def QM_CTL (die : Nat) : Nat := regKey die 0x0A 3072 0x000
def QM_POOL (die : Nat) : Nat := regKey die 0x0A 3072 0x004
def QM_FREE (die : Nat) : Nat := regKey die 0x0A 3072 0x008
def QM_ERR (die : Nat) : Nat := regKey die 0x0A 3072 0x00C
def QM_SETCMD (die i : Nat) : Nat := regKey die 0x0A i 0x000
def QM_SETSUM (die i k : Nat) : Nat := regKey die 0x0A i (0x010 + 4 * k)
def DDR_GCTL : Nat := regKey 4 0x10 4 0x000
def DDR_CFG (i : Nat) : Nat := regKey 4 0x10 i 0x000
def DDR_CTL (i : Nat) : Nat := regKey 4 0x10 i 0x004
def DDR_STAT (i : Nat) : Nat := regKey 4 0x10 i 0x008
def DDR_RH (i : Nat) : Nat := regKey 4 0x10 i 0x00C
def DDR_RHCNT (i : Nat) : Nat := regKey 4 0x10 i 0x010
def DDR_RFMCNT (i : Nat) : Nat := regKey 4 0x10 i 0x014
def DDR_RT (i : Nat) : Nat := regKey 4 0x10 i 0x020
def DDR_EYE (i k : Nat) : Nat := regKey 4 0x10 i (0x040 + 4 * k)
def DDR_CECNT (i : Nat) : Nat := regKey 4 0x10 i 0x070
def DDR_UECNT (i : Nat) : Nat := regKey 4 0x10 i 0x074
def DDR_UEADDR_LO (i : Nat) : Nat := regKey 4 0x10 i 0x078
def DDR_UEADDR_HI (i : Nat) : Nat := regKey 4 0x10 i 0x07C
def DDR_MT_BASE_LO (i : Nat) : Nat := regKey 4 0x10 i 0x080
def DDR_MT_BASE_HI (i : Nat) : Nat := regKey 4 0x10 i 0x084
def DDR_MT_LEN (i : Nat) : Nat := regKey 4 0x10 i 0x088
def DDR_MT_CTL (i : Nat) : Nat := regKey 4 0x10 i 0x08C
def DDR_MT_RES (i : Nat) : Nat := regKey 4 0x10 i 0x090
def DDR_MT_FAIL_LO (i : Nat) : Nat := regKey 4 0x10 i 0x098
def DDR_MT_FAIL_HI (i : Nat) : Nat := regKey 4 0x10 i 0x09C
def CXL_CTL (i : Nat) : Nat := regKey 4 0x11 i 0x000
def CXL_LSTAT0 (i : Nat) : Nat := regKey 4 0x11 i 0x004
def CXL_LSTAT1 (i : Nat) : Nat := regKey 4 0x11 i 0x008
def CXL_ERR (i : Nat) : Nat := regKey 4 0x11 i 0x020
def CXL_POISCNT (i : Nat) : Nat := regKey 4 0x11 i 0x024
def CXL_CTOCNT (i : Nat) : Nat := regKey 4 0x11 i 0x028
def CXL_EPIRQ (i : Nat) : Nat := regKey 4 0x11 i 0x030
def CXL_HDM_BASE (i k : Nat) : Nat := regKey 4 0x11 i (0x040 + 16 * k)
def CXL_HDM_LIMIT (i k : Nat) : Nat := regKey 4 0x11 i (0x044 + 16 * k)
def CXL_CFGADDR (i : Nat) : Nat := regKey 4 0x11 i 0x100
def CXL_CFGDATA (i : Nat) : Nat := regKey 4 0x11 i 0x104
def CXL_IOADDR_LO (i : Nat) : Nat := regKey 4 0x11 i 0x108
def CXL_IOADDR_HI (i : Nat) : Nat := regKey 4 0x11 i 0x10C
def CXL_IODATA (i : Nat) : Nat := regKey 4 0x11 i 0x110
def MPE_CTL (i : Nat) : Nat := regKey 4 0x12 i 0x000
def MPE_STAT (i : Nat) : Nat := regKey 4 0x12 i 0x004
def MPE_DSIZE (i : Nat) : Nat := regKey 4 0x12 i 0x008
def MPE_ALM0 (i : Nat) : Nat := regKey 4 0x12 i 0x020
def MPE_ALM1 (i : Nat) : Nat := regKey 4 0x12 i 0x024
def MPE_ALM2 (i : Nat) : Nat := regKey 4 0x12 i 0x028
def MPE_ALM3 (i : Nat) : Nat := regKey 4 0x12 i 0x02C
def MPE_ALMCNT (i : Nat) : Nat := regKey 4 0x12 i 0x030
def MPE_CECNT (i : Nat) : Nat := regKey 4 0x12 i 0x034
def MPE_KEYCNT (i : Nat) : Nat := regKey 4 0x12 i 0x038
def MPE_REENCCNT (i : Nat) : Nat := regKey 4 0x12 i 0x03C
def MPE_REINIT (i : Nat) : Nat := regKey 4 0x12 i 0x040
def MPE_PLIST_LO (i k : Nat) : Nat := regKey 4 0x12 i (0x100 + 8 * k)
def MPE_PLIST_HI (i k : Nat) : Nat := regKey 4 0x12 i (0x104 + 8 * k)
def MPE_GCTL : Nat := regKey 4 0x12 6 0x000
def MPE_KSTAT_LO : Nat := regKey 4 0x12 6 0x010
def MPE_KSTAT_HI : Nat := regKey 4 0x12 6 0x014
def MPE_RETIRE : Nat := regKey 4 0x12 6 0x020
def MPE_AGKID_LO (k : Nat) : Nat := regKey 4 0x12 6 (0x100 + 8 * k)
def MPE_AGKID_HI (k : Nat) : Nat := regKey 4 0x12 6 (0x104 + 8 * k)
def MPE_FENCE (k : Nat) : Nat := regKey 4 0x12 6 (0x200 + 4 * k)
def MPE_RGKID (k : Nat) : Nat := regKey 4 0x12 6 (0x300 + 4 * k)
def MPE_RGN_BASE (i : Nat) : Nat := regKey 4 0x12 i 0x000
def MPE_RGN_LIMIT (i : Nat) : Nat := regKey 4 0x12 i 0x004
def MPE_RGN_CTL (i : Nat) : Nat := regKey 4 0x12 i 0x008
def XCVR_LCTL (die i : Nat) : Nat := regKey die 0x0D i 0x000
def XCVR_LCMD (die i : Nat) : Nat := regKey die 0x0D i 0x004
def XCVR_LSTAT (die i : Nat) : Nat := regKey die 0x0D i 0x008
def XCVR_TXEQ (die i : Nat) : Nat := regKey die 0x0D i 0x00C
def XCVR_RXEQ (die i : Nat) : Nat := regKey die 0x0D i 0x010
def XCVR_DFE (die i k : Nat) : Nat := regKey die 0x0D i (0x014 + 4 * k)
def XCVR_PRBSCNT (die i : Nat) : Nat := regKey die 0x0D i 0x020
def XCVR_ESCAN (die i : Nat) : Nat := regKey die 0x0D i 0x024
def XCVR_ESRES (die i : Nat) : Nat := regKey die 0x0D i 0x028
def XCVR_QREF (die i : Nat) : Nat := regKey die 0x0D i 0x000
def XCVR_QPLLA (die i : Nat) : Nat := regKey die 0x0D i 0x004
def XCVR_QPLLB (die i : Nat) : Nat := regKey die 0x0D i 0x008
def XCVR_QSTAT (die i : Nat) : Nat := regKey die 0x0D i 0x00C
def PL_GCTL : Nat := regKey 4 0x18 4 0x000
def PL_GSTAT : Nat := regKey 4 0x18 4 0x004
def PL_OFS_LO : Nat := regKey 4 0x18 4 0x010
def PL_OFS_HI : Nat := regKey 4 0x18 4 0x014
def PL_FREQ : Nat := regKey 4 0x18 4 0x018
def PL_EVRX0 : Nat := regKey 4 0x18 4 0x020
def PL_EVRX1 : Nat := regKey 4 0x18 4 0x024
def PL_EVRX2 : Nat := regKey 4 0x18 4 0x028
def PL_PCTL (i : Nat) : Nat := regKey 4 0x18 i 0x000
def PL_PDOM (i : Nat) : Nat := regKey 4 0x18 i 0x004
def PL_PSTAT (i : Nat) : Nat := regKey 4 0x18 i 0x008
def PL_RTT (i : Nat) : Nat := regKey 4 0x18 i 0x00C
def PL_ASYM (i : Nat) : Nat := regKey 4 0x18 i 0x010
def PL_CRCCNT (i : Nat) : Nat := regKey 4 0x18 i 0x014
def PL_EVTX (i : Nat) : Nat := regKey 4 0x18 i 0x018
def CLK_CTL : Nat := regKey 4 0x02 0 0x000
def CLK_STAT : Nat := regKey 4 0x02 0 0x004
def CLK_MONSEL : Nat := regKey 4 0x02 0 0x008
def CLK_REFOK : Nat := regKey 4 0x02 0 0x00C
def CLK_REFLOST : Nat := regKey 4 0x02 0 0x010
def CLK_REFFREQ : Nat := regKey 4 0x02 0 0x014
def CLK_CMD : Nat := regKey 4 0x02 0 0x018
def CLK_HOLDLEN : Nat := regKey 4 0x02 0 0x01C
def CLK_FPLL (die i : Nat) : Nat := regKey die 0x02 i 0x000
def CLK_FPLL_STAT (die i : Nat) : Nat := regKey die 0x02 i 0x004
def DIE_CMD : Nat := regKey 4 0x00 0 0x000
def DIE_DSTAT : Nat := regKey 4 0x00 0 0x004
def DIE_REL : Nat := regKey 4 0x00 0 0x008
def DIE_RSTCAUSE : Nat := regKey 4 0x00 0 0x00C
def DIE_DEVT : Nat := regKey 4 0x00 0 0x014
def DIE_XOVR (die : Nat) : Nat := regKey die 0x00 0 0x010
def DIE_RRST (die : Nat) : Nat := regKey die 0x00 0 0x020
def DIE_URST (die : Nat) : Nat := regKey die 0x00 0 0x024
def CFG_STAT : Nat := regKey 4 0x0E 0 0x000
def CFG_LOG (k : Nat) : Nat := regKey 4 0x0E 0 (0x010 + 4 * k)
def CFG_NEXT : Nat := regKey 4 0x0E 0 0x024
def CFG_IMGVER : Nat := regKey 4 0x0E 0 0x028
def CFG_ARB : Nat := regKey 4 0x0E 0 0x02C
def CFG_STRAP : Nat := regKey 4 0x0E 0 0x030
def CFG_TIME : Nat := regKey 4 0x0E 0 0x034
def CFG_NVMCMD : Nat := regKey 4 0x0E 0 0x040
def CFG_NVMADDR : Nat := regKey 4 0x0E 0 0x044
def CFG_NVMDATA : Nat := regKey 4 0x0E 0 0x048
def CFGF_CMD (die : Nat) : Nat := regKey die 0x0E 0 0x000
def CFGF_ENTRY (die : Nat) : Nat := regKey die 0x0E 0 0x004
def CFGF_AT_LO (die : Nat) : Nat := regKey die 0x0E 0 0x008
def CFGF_AT_HI (die : Nat) : Nat := regKey die 0x0E 0 0x00C
def CFGF_CTL (die : Nat) : Nat := regKey die 0x0E 0 0x010
def CFGF_STAT (die : Nat) : Nat := regKey die 0x0E 0 0x014
def CFGF_SPARE (die : Nat) : Nat := regKey die 0x0E 0 0x018
def CFGF_STRES (die : Nat) : Nat := regKey die 0x0E 0 0x01C
def CFGF_FTEST (die : Nat) : Nat := regKey die 0x0E 0 0x020
def CFGF_RGSTAT (die k : Nat) : Nat := regKey die 0x0E 0 (0x040 + 4 * k)
def CFGF_RGCRC (die k : Nat) : Nat := regKey die 0x0E 0 (0x080 + 4 * k)
def SCR_CTL (die i : Nat) : Nat := regKey die 0x0E i 0x000
def SCR_STAT (die i : Nat) : Nat := regKey die 0x0E i 0x004
def SCR_CECNT (die i : Nat) : Nat := regKey die 0x0E i 0x008
def SCR_UECNT (die i : Nat) : Nat := regKey die 0x0E i 0x00C
def SCR_UEFR (die i : Nat) : Nat := regKey die 0x0E i 0x010
def CFGH_CDBANK : Nat := regKey 4 0x0E 0 0x060
def LIB_RG (k : Nat) : Nat := regKey 4 0x0E 0 (0x100 + 4 * k)
def BZ_CMD (i : Nat) : Nat := regKey 4 0x13 i 0x000
def BZ_RSP (i : Nat) : Nat := regKey 4 0x13 i 0x004
def BZ_ADDR_LO (i : Nat) : Nat := regKey 4 0x13 i 0x008
def BZ_ADDR_HI (i : Nat) : Nat := regKey 4 0x13 i 0x00C
def BZ_LEN (i : Nat) : Nat := regKey 4 0x13 i 0x010
def BZ_BUF (i k : Nat) : Nat := regKey 4 0x13 i (0x200 + 4 * k)
def BZ_STAT : Nat := regKey 4 0x13 4 0x000
def BZ_RESP : Nat := regKey 4 0x13 4 0x004
def BZ_SENS : Nat := regKey 4 0x13 4 0x008
def BZ_CERT : Nat := regKey 4 0x13 4 0x00C
def BZ_SERIAL_LO : Nat := regKey 4 0x13 4 0x010
def BZ_SERIAL_HI : Nat := regKey 4 0x13 4 0x014
def BZ_ARB : Nat := regKey 4 0x13 4 0x018
def BZ_LOGCNT : Nat := regKey 4 0x13 4 0x01C
def BZ_OTPSTAT : Nat := regKey 4 0x13 4 0x020
def DBG_ACMD : Nat := regKey 4 0x16 0 0x000
def DBG_ASTAT : Nat := regKey 4 0x16 0 0x004
def DBG_ABUF (k : Nat) : Nat := regKey 4 0x16 0 (0x200 + 4 * k)
def DBG_VT_TX : Nat := regKey 4 0x16 0 0x400
def DBG_VT_RX : Nat := regKey 4 0x16 0 0x404
def DBG_VT_CTL : Nat := regKey 4 0x16 0 0x408
def DBG_FRZSEL : Nat := regKey 4 0x16 0 0x500
def DBG_QFRZ_LO : Nat := regKey 4 0x16 0 0x504
def DBG_QFRZ_HI : Nat := regKey 4 0x16 0 0x508
def DBG_XTRIG (k : Nat) : Nat := regKey 4 0x16 0 (0x600 + 4 * k)
def DBG_FSEL : Nat := regKey 4 0x16 0 0x700
def DBG_FRUN : Nat := regKey 4 0x16 0 0x704
def DBG_FREG : Nat := regKey 4 0x16 0 0x708
def DBG_FDATA : Nat := regKey 4 0x16 0 0x70C
def DBG_FSTAT : Nat := regKey 4 0x16 0 0x710
def CORE_RC (i : Nat) : Nat := regKey 5 0x19 i 0x000
def CORE_RSTAT (i : Nat) : Nat := regKey 5 0x19 i 0x004
def CORE_ACMD (i : Nat) : Nat := regKey 5 0x19 i 0x010
def CORE_ADATA_LO (i : Nat) : Nat := regKey 5 0x19 i 0x014
def CORE_ADATA_HI (i : Nat) : Nat := regKey 5 0x19 i 0x018
def CORE_WDT_CTL (i : Nat) : Nat := regKey 5 0x19 i 0x040
def CORE_WDT_KICK (i : Nat) : Nat := regKey 5 0x19 i 0x044
def CORE_WDT_STAT (i : Nat) : Nat := regKey 5 0x19 i 0x048
def REC_CTL : Nat := regKey 4 0x15 0 0x000
def REC_CMD : Nat := regKey 4 0x15 0 0x004
def REC_STAT : Nat := regKey 4 0x15 0 0x008
def REC_SEQ : Nat := regKey 4 0x15 0 0x00C
def REC_COUNT : Nat := regKey 4 0x15 0 0x010
def REC_DROP : Nat := regKey 4 0x15 0 0x014
def REC_DROP7 : Nat := regKey 4 0x15 0 0x018
def REC_FRZCNT (k : Nat) : Nat := regKey 4 0x15 0 (0x020 + 4 * k)
def REC_TCFG (i : Nat) : Nat := regKey 4 0x15 i 0x000
def REC_SNAP (i k : Nat) : Nat := regKey 4 0x15 i (0x010 + 4 * k)
def INST_INFO (die unit i : Nat) : Nat := regKey die unit i 0xFF8
def GROUP (die unit i : Nat) : Nat := regKey die unit i 0xFFC
end Reg

/-! One list of headings per unit. Columns: name, unit, dies, instances, offset, stride, count, half, then the masks
RW, RWL, W1C, W1S, RC, RP, WO and the reset value. -/

def rowsDIE : List RegDef := [
  ⟨"DIE_CMD", 0x00, 0b10000, 0, 0, 0x000, 4, 1, .none, 0, 0, 0, 0, 0, 0, 0xFF00001F, 0⟩,
  ⟨"DIE_DSTAT", 0x00, 0b10000, 0, 0, 0x004, 4, 1, .none, 0, 0, 0, 0, 0, 0, 0, 0⟩,
  ⟨"DIE_REL", 0x00, 0b10000, 0, 0, 0x008, 4, 1, .none, 0, 0, 0, 0xF, 0, 0, 0, 0⟩,
  ⟨"DIE_RSTCAUSE", 0x00, 0b10000, 0, 0, 0x00C, 4, 1, .none, 0, 0, 0, 0, 0, 0, 0, 0⟩,
  ⟨"DIE_DEVT", 0x00, 0b10000, 0, 0, 0x014, 4, 1, .none, 0, 0, 0xFF, 0, 0, 0, 0, 0⟩,
  ⟨"DIE_XOVR", 0x00, 0b111111, 0, 0, 0x010, 4, 1, .none, 0, 0, 0, 0, 0xFFFFFFFF, 0, 0, 0⟩,
  ⟨"DIE_RRST", 0x00, 0b1111, 0, 0, 0x020, 4, 1, .none, 0xFFFF, 0, 0, 0x80000000, 0, 0, 0, 0⟩,
  ⟨"DIE_URST", 0x00, 0b111111, 0, 0, 0x024, 4, 1, .none, 0x1FFFF, 0, 0, 0x80000000, 0, 0, 0, 0⟩]

def rowsPWR : List RegDef := [
  ⟨"PWR_DOM_CTL", 0x01, 0b111111, 0, 36, 0x000, 4, 1, .none, 0xFFFFFF3F, 0, 0, 0, 0, 0, 0, 0x640A01⟩,
  ⟨"PWR_DOM_STAT", 0x01, 0b111111, 0, 36, 0x004, 4, 1, .none, 0, 0, 0x18, 0, 0, 0, 0, 0⟩,
  ⟨"PWR_ISL_CTL", 0x01, 0b111111, 256, 276, 0x000, 4, 1, .none, 0xF, 0, 0x10, 0, 0, 0, 0, 0x6⟩,
  ⟨"PWR_ISL_STAT", 0x01, 0b111111, 256, 276, 0x004, 4, 1, .none, 0, 0, 0x10, 0, 0, 0, 0, 0x2⟩,
  ⟨"PWR_ISL_E", 0x01, 0b111111, 256, 276, 0x008, 4, 1, .none, 0, 0, 0, 0, 0, 0, 0, 0⟩]

def rowsCLK : List RegDef := [
  ⟨"CLK_CTL", 0x02, 0b10000, 0, 0, 0x000, 4, 1, .none, 0x7, 0, 0, 0, 0, 0, 0, 0⟩,
  ⟨"CLK_STAT", 0x02, 0b10000, 0, 0, 0x004, 4, 1, .none, 0, 0, 0x700, 0, 0, 0, 0, 0⟩,
  ⟨"CLK_MONSEL", 0x02, 0b10000, 0, 0, 0x008, 4, 1, .none, 0x7FFFFF, 0, 0, 0, 0, 0, 0, 0⟩,
  ⟨"CLK_REFOK", 0x02, 0b10000, 0, 0, 0x00C, 4, 1, .none, 0, 0, 0, 0, 0, 0, 0, 0⟩,
  ⟨"CLK_REFLOST", 0x02, 0b10000, 0, 0, 0x010, 4, 1, .none, 0, 0, 0x7FFFFF, 0, 0, 0, 0, 0⟩,
  ⟨"CLK_REFFREQ", 0x02, 0b10000, 0, 0, 0x014, 4, 1, .none, 0, 0, 0x7FFFFF, 0, 0, 0, 0, 0⟩,
  ⟨"CLK_CMD", 0x02, 0b10000, 0, 0, 0x018, 4, 1, .none, 0, 0, 0, 0x1, 0, 0, 0, 0⟩,
  ⟨"CLK_HOLDLEN", 0x02, 0b10000, 0, 0, 0x01C, 4, 1, .none, 0, 0, 0, 0, 0, 0, 0, 0⟩,
  ⟨"CLK_FPLL", 0x02, 0b1111, 0, 7, 0x000, 4, 1, .none, 0xFFFFFFF, 0, 0, 0, 0, 0, 0, 0xA07810⟩,
  ⟨"CLK_FPLL_STAT", 0x02, 0b1111, 0, 7, 0x004, 4, 1, .none, 0, 0, 0x6, 0, 0, 0, 0, 0⟩]

def rowsSPINE : List RegDef := [
  ⟨"DOM_CTL", 0x03, 0b10000, 0, 15, 0x000, 4, 1, .none, 0x7F77, 0, 0, 0, 0, 0, 0, 0x2B30⟩,
  ⟨"DOM_CMD", 0x03, 0b10000, 0, 15, 0x004, 4, 1, .none, 0, 0, 0, 0, 0, 0, 0xF, 0⟩,
  ⟨"DOM_STAT", 0x03, 0b10000, 0, 15, 0x008, 4, 1, .none, 0, 0, 0x1FF00, 0, 0, 0, 0, 0⟩,
  ⟨"DOM_PHASE_LO", 0x03, 0b10000, 0, 15, 0x010, 4, 1, .lo, 0, 0, 0, 0, 0, 0, 0, 0⟩,
  ⟨"DOM_PHASE_HI", 0x03, 0b10000, 0, 15, 0x014, 4, 1, .hi, 0, 0, 0, 0, 0, 0, 0, 0⟩,
  ⟨"DOM_LOAD_LO", 0x03, 0b10000, 0, 15, 0x018, 4, 1, .lo, 0xFFFFFFFF, 0, 0, 0, 0, 0, 0, 0⟩,
  ⟨"DOM_LOAD_HI", 0x03, 0b10000, 0, 15, 0x01C, 4, 1, .hi, 0xFFFFFFFF, 0, 0, 0, 0, 0, 0, 0⟩,
  ⟨"DOM_VEL_LO", 0x03, 0b10000, 0, 15, 0x020, 4, 1, .lo, 0xFFFFFFFF, 0, 0, 0, 0, 0, 0, 0⟩,
  ⟨"DOM_VEL_HI", 0x03, 0b10000, 0, 15, 0x024, 4, 1, .hi, 0xFFFF, 0, 0, 0, 0, 0, 0xFFFF0000, 0⟩,
  ⟨"DOM_ACC_LO", 0x03, 0b10000, 0, 15, 0x028, 4, 1, .lo, 0xFFFFFFFF, 0, 0, 0, 0, 0, 0, 0⟩,
  ⟨"DOM_ACC_HI", 0x03, 0b10000, 0, 15, 0x02C, 4, 1, .hi, 0xFFFF, 0, 0, 0, 0, 0, 0, 0⟩,
  ⟨"DOM_TIMEOUT", 0x03, 0b10000, 0, 15, 0x030, 4, 1, .none, 0xFFFFFF, 0, 0, 0, 0, 0, 0, 0⟩,
  ⟨"DOM_HOLDMAX", 0x03, 0b10000, 0, 15, 0x034, 4, 1, .none, 0xFFFFFF, 0, 0, 0, 0, 0, 0, 0⟩,
  ⟨"DOM_OFS", 0x03, 0b10000, 0, 15, 0x038, 4, 1, .none, 0xFFFFFFFF, 0, 0, 0, 0, 0, 0, 0⟩,
  ⟨"DOM_SRCA", 0x03, 0b10000, 0, 15, 0x040, 4, 1, .none, 0xFFFFFFFF, 0, 0, 0, 0, 0, 0, 0⟩,
  ⟨"DOM_SRCB", 0x03, 0b10000, 0, 15, 0x044, 4, 1, .none, 0xFFFFFFFF, 0, 0, 0, 0, 0, 0, 0⟩,
  ⟨"DOM_INPUT", 0x03, 0b10000, 0, 15, 0x048, 4, 1, .none, 0xF0FFFF3, 0, 0, 0, 0, 0, 0, 0⟩,
  ⟨"DOM_LASTEDGE_LO", 0x03, 0b10000, 0, 15, 0x050, 4, 1, .lo, 0, 0, 0, 0, 0, 0, 0, 0⟩,
  ⟨"DOM_LASTEDGE_HI", 0x03, 0b10000, 0, 15, 0x054, 4, 1, .hi, 0, 0, 0, 0, 0, 0, 0, 0⟩,
  ⟨"DOM_GAP", 0x03, 0b10000, 0, 15, 0x400, 4, 32, .none, 0xFFFFFFFF, 0, 0, 0, 0, 0, 0, 0⟩,
  ⟨"SPN_STAT", 0x03, 0b10000, 16, 16, 0x000, 4, 1, .none, 0, 0, 0, 0, 0, 0, 0, 0⟩,
  ⟨"DT_NOW_LO", 0x03, 0b10000, 16, 16, 0x010, 4, 1, .lo, 0, 0, 0, 0, 0, 0, 0, 0⟩,
  ⟨"DT_NOW_HI", 0x03, 0b10000, 16, 16, 0x014, 4, 1, .hi, 0, 0, 0, 0, 0, 0, 0, 0⟩,
  ⟨"SRX_STAT", 0x03, 0b1111, 0, 0, 0x000, 4, 1, .none, 0, 0, 0, 0, 0, 0, 0, 0⟩,
  ⟨"SRX_CTL", 0x03, 0b1111, 0, 0, 0x004, 4, 1, .none, 0, 0, 0, 0x1, 0, 0, 0, 0⟩]

def rowsCAL : List RegDef := [
  ⟨"CAL_CTL", 0x04, 0b1111, 0, 0, 0x000, 4, 1, .none, 0x1F, 0, 0, 0, 0, 0, 0, 0⟩,
  ⟨"CAL_STAT", 0x04, 0b1111, 0, 0, 0x004, 4, 1, .none, 0, 0, 0x39F, 0, 0, 0, 0, 0⟩,
  ⟨"CAL_BACKLOG", 0x04, 0b1111, 0, 0, 0x008, 4, 1, .none, 0, 0, 0, 0, 0xFFFF0000, 0, 0, 0⟩,
  ⟨"CAL_LATECNT", 0x04, 0b1111, 0, 0, 0x00C, 4, 1, .none, 0, 0, 0, 0, 0xFFFFFFFF, 0, 0, 0⟩,
  ⟨"CAL_SKIPCNT", 0x04, 0b1111, 0, 0, 0x010, 4, 1, .none, 0, 0, 0, 0, 0xFFFFFFFF, 0, 0, 0⟩,
  ⟨"CAL_ERRENT", 0x04, 0b1111, 0, 0, 0x014, 4, 1, .none, 0, 0, 0, 0, 0, 0, 0, 0⟩,
  ⟨"CAL_GCMD", 0x04, 0b1111, 0, 0, 0x020, 4, 1, .none, 0x7F, 0, 0, 0x80000000, 0, 0, 0, 0⟩,
  ⟨"CAL_GCMD_AT_LO", 0x04, 0b1111, 0, 0, 0x028, 4, 1, .lo, 0xFFFFFFFF, 0, 0, 0, 0, 0, 0, 0⟩,
  ⟨"CAL_GCMD_AT_HI", 0x04, 0b1111, 0, 0, 0x02C, 4, 1, .hi, 0xFFFFFFFF, 0, 0, 0, 0, 0, 0, 0⟩,
  ⟨"CAL_SHIFT_LO", 0x04, 0b1111, 0, 0, 0x030, 4, 1, .lo, 0xFFFFFFFF, 0, 0, 0, 0, 0, 0, 0⟩,
  ⟨"CAL_SHIFT_HI", 0x04, 0b1111, 0, 0, 0x034, 4, 1, .hi, 0xFFFFFFFF, 0, 0, 0, 0, 0, 0, 0⟩,
  ⟨"CAL_JUMPLIM", 0x04, 0b1111, 0, 0, 0x040, 4, 16, .none, 0xFFFFFFFF, 0, 0, 0, 0, 0, 0, 0xFFFFFFFF⟩,
  ⟨"CAL_STG", 0x04, 0b1111, 0, 0, 0x100, 4, 8, .none, 0xFFFFFFFF, 0, 0, 0, 0, 0, 0, 0⟩,
  ⟨"CAL_STG_CMD", 0x04, 0b1111, 0, 0, 0x120, 4, 1, .none, 0x33FFF, 0, 0, 0, 0, 0, 0, 0⟩]

def rowsTIO : List RegDef := [
  ⟨"TIO_CTL", 0x05, 0b1111, 0, 239, 0x000, 4, 1, .none, 0x3FFFF, 0, 0, 0, 0, 0, 0, 0⟩,
  ⟨"TIO_STAT", 0x05, 0b1111, 0, 239, 0x004, 4, 1, .none, 0, 0, 0x1FFC000, 0, 0, 0, 0, 0⟩,
  ⟨"TIO_IE", 0x05, 0b1111, 0, 239, 0x008, 4, 1, .none, 0x1FFC000, 0, 0, 0, 0, 0, 0, 0⟩,
  ⟨"TIO_OUT_LO", 0x05, 0b1111, 0, 239, 0x010, 4, 1, .lo, 0, 0, 0, 0, 0, 0, 0xFFFFFFFF, 0⟩,
  ⟨"TIO_OUT_HI", 0x05, 0b1111, 0, 239, 0x014, 4, 1, .hi, 0, 0, 0, 0, 0, 0, 0xFFFFFFFF, 0⟩,
  ⟨"TIO_OFLUSH", 0x05, 0b1111, 0, 239, 0x018, 4, 1, .none, 0, 0, 0, 0x1, 0, 0, 0, 0⟩,
  ⟨"TIO_CAP0", 0x05, 0b1111, 0, 239, 0x020, 4, 1, .none, 0, 0, 0, 0, 0, 0, 0, 0⟩,
  ⟨"TIO_CAP1", 0x05, 0b1111, 0, 239, 0x024, 4, 1, .none, 0, 0, 0, 0, 0, 0, 0, 0⟩,
  ⟨"TIO_CAP2", 0x05, 0b1111, 0, 239, 0x028, 4, 1, .none, 0, 0, 0, 0, 0, 0, 0, 0⟩,
  ⟨"TIO_CAP3", 0x05, 0b1111, 0, 239, 0x02C, 4, 1, .none, 0, 0, 0, 0, 0, 0xFFFFFFFF, 0, 0⟩,
  ⟨"TIO_DRN", 0x05, 0b1111, 0, 239, 0x030, 4, 1, .none, 0x3FFFFFFF, 0, 0, 0, 0, 0, 0, 0⟩,
  ⟨"TIO_LOST", 0x05, 0b1111, 0, 239, 0x034, 4, 1, .none, 0, 0, 0, 0, 0xFFFFFFFF, 0, 0, 0⟩,
  ⟨"TIO_MTO", 0x05, 0b1111, 0, 239, 0x038, 4, 1, .none, 0xFFFFFF, 0, 0, 0, 0, 0, 0, 0⟩,
  ⟨"TIO_PW_PER", 0x05, 0b1111, 0, 239, 0x040, 4, 1, .none, 0xFFFFFFFF, 0, 0, 0, 0, 0, 0, 0⟩,
  ⟨"TIO_PW_A", 0x05, 0b1111, 0, 239, 0x044, 4, 1, .none, 0xFFFFFFFF, 0, 0, 0, 0, 0, 0, 0⟩,
  ⟨"TIO_PW_B", 0x05, 0b1111, 0, 239, 0x048, 4, 1, .none, 0xFFFFFFFF, 0, 0, 0, 0, 0, 0, 0⟩,
  ⟨"TIO_PW_ORG_LO", 0x05, 0b1111, 0, 239, 0x050, 4, 1, .lo, 0xFFFFFFFF, 0, 0, 0, 0, 0, 0, 0⟩,
  ⟨"TIO_PW_ORG_HI", 0x05, 0b1111, 0, 239, 0x054, 4, 1, .hi, 0xFFFFFFFF, 0, 0, 0, 0, 0, 0, 0⟩,
  ⟨"TIO_PW_UPD", 0x05, 0b1111, 0, 239, 0x058, 4, 1, .none, 0, 0, 0, 0x1, 0, 0, 0, 0⟩,
  ⟨"TIO_ENC", 0x05, 0b1111, 0, 239, 0x060, 4, 1, .none, 0x1FFFFFFF, 0, 0, 0, 0, 0, 0, 0x3⟩,
  ⟨"TIO_ENC_SP", 0x05, 0b1111, 0, 239, 0x064, 4, 1, .none, 0xFFF, 0, 0, 0, 0, 0, 0, 0x40⟩,
  ⟨"TIO_EMU_OFS", 0x05, 0b1111, 0, 239, 0x068, 4, 1, .none, 0xFFFFFFFF, 0, 0, 0, 0, 0, 0, 0⟩,
  ⟨"TIO_PLS", 0x05, 0b1111, 0, 239, 0x06C, 4, 1, .none, 0xFFF, 0, 0, 0, 0, 0, 0, 0⟩,
  ⟨"TIO_PLS_W", 0x05, 0b1111, 0, 239, 0x070, 4, 1, .none, 0xFFFFFFFF, 0, 0, 0, 0, 0, 0, 0⟩,
  ⟨"TIO_MIR", 0x05, 0b1111, 0, 239, 0x078, 4, 1, .none, 0x3FFFFF, 0, 0, 0, 0, 0, 0, 0⟩,
  ⟨"TIO_SUM", 0x05, 0b1111, 240, 240, 0x000, 4, 8, .none, 0, 0, 0, 0, 0, 0, 0, 0⟩,
  ⟨"TIO_PAT", 0x05, 0b1111, 240, 240, 0x400, 4, 128, .none, 0xFFFFFFFF, 0, 0, 0, 0, 0, 0, 0⟩]

def rowsPAD : List RegDef := [
  ⟨"PAD_FUNC", 0x06, 0b1111, 0, 239, 0x000, 4, 1, .none, 0, 0xFF, 0, 0, 0, 0, 0, 0xF⟩,
  ⟨"PAD_CFG", 0x06, 0b1111, 0, 239, 0x004, 4, 1, .none, 0, 0x7FFF, 0, 0, 0, 0, 0, 0x52⟩,
  ⟨"PAD_IN", 0x06, 0b1111, 0, 239, 0x008, 4, 1, .none, 0, 0, 0, 0, 0, 0, 0, 0x18⟩,
  ⟨"PAD_LOCK", 0x06, 0b1111, 240, 240, 0x000, 4, 1, .none, 0xFF, 0, 0x400, 0, 0, 0, 0xFF000000, 0⟩,
  ⟨"PAD_STAT", 0x06, 0b1111, 240, 240, 0x004, 4, 1, .none, 0, 0, 0xF, 0, 0, 0, 0, 0⟩,
  ⟨"PAD_BANK", 0x06, 0b1111, 240, 240, 0x040, 4, 10, .none, 0x7, 0, 0x10, 0, 0, 0, 0, 0x3⟩,
  ⟨"PAD_SNAP", 0x06, 0b1111, 240, 240, 0x100, 4, 8, .none, 0, 0, 0, 0, 0, 0, 0, 0⟩]

def rowsXBAR : List RegDef := [
  ⟨"XBAR_SRC", 0x07, 0b1111, 0, 239, 0x000, 4, 1, .none, 0, 0x1FF, 0, 0, 0, 0, 0, 0x1A6⟩,
  ⟨"XBAR_IN", 0x07, 0b1111, 0, 239, 0x004, 4, 1, .none, 0, 0x81FF, 0, 0, 0, 0, 0, 0⟩,
  ⟨"XBAR_STAT", 0x07, 0b1111, 240, 240, 0x000, 4, 1, .none, 0x8, 0, 0x5, 0, 0, 0, 0, 0⟩,
  ⟨"XBAR_CONF", 0x07, 0b1111, 240, 240, 0x004, 4, 1, .none, 0, 0, 0, 0, 0, 0, 0, 0⟩,
  ⟨"XBAR_DEF", 0x07, 0b1111, 240, 240, 0x040, 4, 4, .none, 0xFFFFFFFF, 0, 0, 0, 0, 0, 0, 0⟩,
  ⟨"XBAR_TAP", 0x07, 0b1111, 240, 240, 0x100, 4, 80, .none, 0x1FF, 0, 0, 0, 0, 0, 0, 0⟩]

def rowsFACET : List RegDef := [
  ⟨"FACET_CTL", 0x08, 0b1111, 0, 271, 0x000, 4, 1, .none, 0x3, 0, 0, 0, 0, 0, 0, 0x1⟩,
  ⟨"FACET_CMD", 0x08, 0b1111, 0, 271, 0x004, 4, 1, .none, 0, 0, 0, 0, 0, 0, 0xFFFF0003, 0⟩,
  ⟨"FACET_STAT", 0x08, 0b1111, 0, 271, 0x008, 4, 1, .none, 0, 0, 0xF8000, 0, 0, 0, 0, 0⟩,
  ⟨"FACET_PC", 0x08, 0b1111, 0, 271, 0x00C, 4, 1, .none, 0, 0, 0, 0, 0, 0, 0, 0⟩,
  ⟨"FACET_FAULT", 0x08, 0b1111, 0, 271, 0x010, 4, 1, .none, 0, 0, 0, 0, 0, 0, 0, 0⟩,
  ⟨"FACET_CYC_LO", 0x08, 0b1111, 0, 271, 0x018, 4, 1, .lo, 0, 0, 0, 0, 0, 0, 0, 0⟩,
  ⟨"FACET_CYC_HI", 0x08, 0b1111, 0, 271, 0x01C, 4, 1, .hi, 0, 0, 0, 0, 0, 0, 0, 0⟩]

def rowsFDSP : List RegDef := [
  ⟨"FDSP_CTL", 0x09, 0b1111, 0, 15, 0x000, 4, 1, .none, 0x7, 0, 0, 0, 0, 0, 0, 0⟩,
  ⟨"FDSP_STAT", 0x09, 0b1111, 0, 15, 0x004, 4, 1, .none, 0, 0, 0x1F00, 0, 0, 0, 0, 0⟩,
  ⟨"FDSP_REQ", 0x09, 0b1111, 0, 15, 0x008, 4, 1, .none, 0, 0, 0, 0, 0, 0, 0xFFFF003F, 0⟩,
  ⟨"FDSP_LATE", 0x09, 0b1111, 0, 15, 0x00C, 4, 1, .none, 0, 0, 0, 0, 0xFFFFFFFF, 0, 0, 0⟩,
  ⟨"FDSP_DROP", 0x09, 0b1111, 0, 15, 0x010, 4, 1, .none, 0, 0, 0, 0, 0xFFFFFFFF, 0, 0, 0⟩,
  ⟨"FDSP_MAP", 0x09, 0b1111, 0, 15, 0x020, 4, 4, .none, 0, 0, 0, 0, 0, 0, 0, 0⟩,
  ⟨"FDSP_REMAP", 0x09, 0b1111, 0, 15, 0x030, 4, 1, .none, 0x3FF, 0, 0, 0x80000000, 0, 0, 0, 0x300⟩,
  ⟨"FDSP_STRB", 0x09, 0b1111, 0, 15, 0x040, 4, 16, .none, 0x80003FFF, 0, 0, 0, 0, 0, 0, 0⟩,
  ⟨"FDSP_DONE", 0x09, 0b1111, 0, 15, 0x600, 4, 64, .none, 0, 0, 0, 0, 0xFFFFFFFF, 0, 0, 0⟩,
  ⟨"FDSP_TASK0", 0x09, 0b1111, 0, 15, 0x100, 16, 64, .none, 0x8001FFFF, 0, 0, 0, 0, 0, 0, 0⟩,
  ⟨"FDSP_TASK1", 0x09, 0b1111, 0, 15, 0x104, 16, 64, .none, 0xFFFFFFFF, 0, 0, 0, 0, 0, 0, 0⟩,
  ⟨"FDSP_TASK2", 0x09, 0b1111, 0, 15, 0x108, 16, 64, .none, 0xFFFFFF, 0, 0, 0, 0, 0, 0, 0⟩,
  ⟨"FDSP_TASK3", 0x09, 0b1111, 0, 15, 0x10C, 16, 64, .none, 0xFFFFFFFF, 0, 0, 0, 0, 0, 0, 0⟩]

def rowsQM : List RegDef := [
  ⟨"QM_QCFG0", 0x0A, 0b11111, 0, 2047, 0x000, 4, 1, .none, 0xFF3FF3FF, 0, 0, 0, 0, 0, 0, 0xF080⟩,
  ⟨"QM_QCFG1", 0x0A, 0b11111, 0, 2047, 0x004, 4, 1, .none, 0xFFFFFFFF, 0, 0, 0, 0, 0, 0, 0x6300⟩,
  ⟨"QM_QTO", 0x0A, 0b11111, 0, 2047, 0x008, 4, 1, .none, 0xFFFFFF, 0, 0, 0, 0, 0, 0, 0⟩,
  ⟨"QM_RING_LO", 0x0A, 0b11111, 0, 2047, 0x010, 4, 1, .lo, 0xFFFFFFFF, 0, 0, 0, 0, 0, 0, 0⟩,
  ⟨"QM_RING_HI", 0x0A, 0b11111, 0, 2047, 0x014, 4, 1, .hi, 0xFFFFFFFF, 0, 0, 0, 0, 0, 0, 0⟩,
  ⟨"QM_RINGSZ", 0x0A, 0b11111, 0, 2047, 0x018, 4, 1, .none, 0x1F, 0, 0, 0, 0, 0, 0, 0x4⟩,
  ⟨"QM_DB", 0x0A, 0b11111, 0, 2047, 0x01C, 4, 1, .none, 0xFFFF, 0, 0, 0, 0, 0, 0, 0⟩,
  ⟨"QM_HEAD", 0x0A, 0b11111, 0, 2047, 0x020, 4, 1, .none, 0, 0, 0, 0, 0, 0, 0, 0⟩,
  ⟨"QM_CMD", 0x0A, 0b11111, 0, 2047, 0x024, 4, 1, .none, 0, 0, 0, 0, 0, 0, 0x7, 0⟩,
  ⟨"QM_QSTAT", 0x0A, 0b11111, 0, 2047, 0x028, 4, 1, .none, 0, 0, 0xFE000000, 0, 0, 0, 0, 0⟩,
  ⟨"QM_QIE", 0x0A, 0b11111, 0, 2047, 0x02C, 4, 1, .none, 0xFE000000, 0, 0, 0, 0, 0, 0, 0⟩,
  ⟨"QM_CBASE_LO", 0x0A, 0b11111, 0, 2047, 0x030, 4, 1, .lo, 0xFFFFFFFF, 0, 0, 0, 0, 0, 0, 0⟩,
  ⟨"QM_CBASE_HI", 0x0A, 0b11111, 0, 2047, 0x034, 4, 1, .hi, 0xFFFFFFFF, 0, 0, 0, 0, 0, 0, 0⟩,
  ⟨"QM_CCFG", 0x0A, 0b11111, 0, 2047, 0x038, 4, 1, .none, 0xFFFFFF, 0, 0, 0, 0, 0, 0, 0x4⟩,
  ⟨"QM_CPTR", 0x0A, 0b11111, 0, 2047, 0x040, 4, 1, .none, 0xFFFF0000, 0, 0, 0, 0, 0, 0, 0⟩,
  ⟨"QM_CCNT", 0x0A, 0b11111, 0, 2047, 0x044, 4, 1, .none, 0, 0, 0, 0, 0, 0, 0, 0⟩,
  ⟨"QM_KICK", 0x0A, 0b11111, 0, 2047, 0x048, 4, 1, .none, 0, 0, 0x100, 0x80000000, 0, 0, 0, 0⟩,
  ⟨"QM_CTL", 0x0A, 0b11111, 3072, 3072, 0x000, 4, 1, .none, 0x1, 0, 0, 0, 0, 0, 0, 0⟩,
  ⟨"QM_POOL", 0x0A, 0b11111, 3072, 3072, 0x004, 4, 1, .none, 0, 0, 0, 0, 0, 0, 0, 0⟩,
  ⟨"QM_FREE", 0x0A, 0b11111, 3072, 3072, 0x008, 4, 1, .none, 0, 0, 0, 0, 0, 0, 0, 0⟩,
  ⟨"QM_ERR", 0x0A, 0b11111, 3072, 3072, 0x00C, 4, 1, .none, 0, 0, 0x80010000, 0, 0, 0, 0, 0⟩,
  ⟨"QM_SETCMD", 0x0A, 0b11111, 3328, 3343, 0x000, 4, 1, .none, 0xF7, 0, 0, 0x80000000, 0, 0, 0, 0xF0⟩,
  ⟨"QM_SETSUM", 0x0A, 0b11111, 3328, 3343, 0x010, 4, 4, .none, 0, 0, 0, 0, 0, 0, 0, 0⟩]

def rowsHN : List RegDef := [
  ⟨"HN_CTL", 0x0B, 0b1111, 0, 0, 0x000, 4, 1, .none, 0xFFF, 0, 0, 0, 0, 0, 0, 0x844⟩,
  ⟨"HN_STAT", 0x0B, 0b1111, 0, 0, 0x004, 4, 1, .none, 0, 0, 0x400, 0, 0, 0, 0, 0⟩,
  ⟨"HN_CECNT", 0x0B, 0b1111, 0, 0, 0x008, 4, 1, .none, 0, 0, 0, 0, 0xFFFFFFFF, 0, 0, 0⟩,
  ⟨"HN_UECNT", 0x0B, 0b1111, 0, 0, 0x00C, 4, 1, .none, 0, 0, 0, 0, 0xFFFFFFFF, 0, 0, 0⟩]

def rowsD2D : List RegDef := [
  ⟨"D2D_STAT", 0x0C, 0b111111, 0, 14, 0x000, 4, 1, .none, 0, 0, 0, 0, 0, 0, 0, 0x1⟩,
  ⟨"D2D_CTL", 0x0C, 0b111111, 0, 14, 0x004, 4, 1, .none, 0x1, 0, 0, 0x2, 0, 0, 0, 0⟩,
  ⟨"D2D_CRC", 0x0C, 0b111111, 0, 14, 0x008, 4, 1, .none, 0, 0, 0, 0, 0xFFFFFFFF, 0, 0, 0⟩,
  ⟨"D2D_REPLAY", 0x0C, 0b111111, 0, 14, 0x00C, 4, 1, .none, 0, 0, 0, 0, 0xFFFFFFFF, 0, 0, 0⟩,
  ⟨"D2D_XLERR", 0x0C, 0b111111, 0, 14, 0x010, 4, 1, .none, 0, 0, 0, 0, 0xFFFFFFFF, 0, 0, 0⟩,
  ⟨"D2D_EVT", 0x0C, 0b111111, 0, 14, 0x014, 4, 1, .none, 0, 0, 0xF, 0, 0, 0, 0, 0⟩,
  ⟨"D2D_PEERDESC", 0x0C, 0b111111, 0, 14, 0x100, 4, 16, .none, 0, 0, 0, 0, 0, 0, 0, 0⟩]

def rowsXCVR : List RegDef := [
  ⟨"XCVR_LCTL", 0x0D, 0b1111, 0, 15, 0x000, 4, 1, .none, 0xFFFFFF, 0, 0, 0, 0, 0, 0, 0x2180⟩,
  ⟨"XCVR_LCMD", 0x0D, 0b1111, 0, 15, 0x004, 4, 1, .none, 0, 0, 0, 0x7, 0, 0, 0, 0⟩,
  ⟨"XCVR_LSTAT", 0x0D, 0b1111, 0, 15, 0x008, 4, 1, .none, 0, 0, 0x3C00, 0, 0, 0, 0, 0⟩,
  ⟨"XCVR_TXEQ", 0x0D, 0b1111, 0, 15, 0x00C, 4, 1, .none, 0x7FFFFF, 0, 0, 0, 0, 0, 0, 0x601F80⟩,
  ⟨"XCVR_RXEQ", 0x0D, 0b1111, 0, 15, 0x010, 4, 1, .none, 0x1F7F, 0, 0, 0, 0, 0, 0, 0x1048⟩,
  ⟨"XCVR_DFE", 0x0D, 0b1111, 0, 15, 0x014, 4, 3, .none, 0xFFFFFFFF, 0, 0, 0, 0, 0, 0, 0⟩,
  ⟨"XCVR_PRBSCNT", 0x0D, 0b1111, 0, 15, 0x020, 4, 1, .none, 0, 0, 0, 0, 0xFFFFFFFF, 0, 0, 0⟩,
  ⟨"XCVR_ESCAN", 0x0D, 0b1111, 0, 15, 0x024, 4, 1, .none, 0x3FFFF, 0, 0, 0x80000000, 0, 0, 0, 0x10000⟩,
  ⟨"XCVR_ESRES", 0x0D, 0b1111, 0, 15, 0x028, 4, 1, .none, 0, 0, 0, 0, 0, 0, 0, 0⟩,
  ⟨"XCVR_QREF", 0x0D, 0b1111, 16, 19, 0x000, 4, 1, .none, 0x7FFFF, 0, 0, 0, 0, 0, 0, 0x2625A⟩,
  ⟨"XCVR_QPLLA", 0x0D, 0b1111, 16, 19, 0x004, 4, 1, .none, 0x9FFFFFFF, 0, 0, 0, 0, 0, 0, 0⟩,
  ⟨"XCVR_QPLLB", 0x0D, 0b1111, 16, 19, 0x008, 4, 1, .none, 0x9FFFFFFF, 0, 0, 0, 0, 0, 0, 0⟩,
  ⟨"XCVR_QSTAT", 0x0D, 0b1111, 16, 19, 0x00C, 4, 1, .none, 0, 0, 0x4, 0, 0, 0, 0, 0⟩]

def rowsCFG : List RegDef := [
  ⟨"CFG_STAT", 0x0E, 0b10000, 0, 0, 0x000, 4, 1, .none, 0, 0, 0x880, 0, 0, 0, 0, 0⟩,
  ⟨"CFG_LOG", 0x0E, 0b10000, 0, 0, 0x010, 4, 5, .none, 0, 0, 0, 0, 0, 0, 0, 0⟩,
  ⟨"CFG_NEXT", 0x0E, 0b10000, 0, 0, 0x024, 4, 1, .none, 0x1F, 0, 0, 0, 0, 0, 0, 0⟩,
  ⟨"CFG_IMGVER", 0x0E, 0b10000, 0, 0, 0x028, 4, 1, .none, 0, 0, 0, 0, 0, 0, 0, 0⟩,
  ⟨"CFG_ARB", 0x0E, 0b10000, 0, 0, 0x02C, 4, 1, .none, 0, 0, 0, 0, 0, 0, 0, 0⟩,
  ⟨"CFG_STRAP", 0x0E, 0b10000, 0, 0, 0x030, 4, 1, .none, 0, 0, 0, 0, 0, 0, 0, 0⟩,
  ⟨"CFG_TIME", 0x0E, 0b10000, 0, 0, 0x034, 4, 1, .none, 0, 0, 0, 0, 0, 0, 0, 0⟩,
  ⟨"CFG_NVMCMD", 0x0E, 0b10000, 0, 0, 0x040, 4, 1, .none, 0x1FFFFFF, 0, 0, 0x80000000, 0, 0, 0, 0⟩,
  ⟨"CFG_NVMADDR", 0x0E, 0b10000, 0, 0, 0x044, 4, 1, .none, 0xFFFFFFFF, 0, 0, 0, 0, 0, 0, 0⟩,
  ⟨"CFG_NVMDATA", 0x0E, 0b10000, 0, 0, 0x048, 4, 1, .none, 0, 0, 0, 0, 0, 0xFFFFFFFF, 0, 0⟩,
  ⟨"CFGF_CMD", 0x0E, 0b1111, 0, 0, 0x000, 4, 1, .none, 0, 0, 0, 0, 0, 0, 0xF1F, 0⟩,
  ⟨"CFGF_ENTRY", 0x0E, 0b1111, 0, 0, 0x004, 4, 1, .none, 0xFF, 0, 0, 0, 0, 0, 0, 0⟩,
  ⟨"CFGF_AT_LO", 0x0E, 0b1111, 0, 0, 0x008, 4, 1, .lo, 0xFFFFFFFF, 0, 0, 0, 0, 0, 0, 0⟩,
  ⟨"CFGF_AT_HI", 0x0E, 0b1111, 0, 0, 0x00C, 4, 1, .hi, 0xFFFFFFFF, 0, 0, 0, 0, 0, 0, 0⟩,
  ⟨"CFGF_CTL", 0x0E, 0b1111, 0, 0, 0x010, 4, 1, .none, 0xFF07, 0, 0, 0, 0, 0, 0, 0x6401⟩,
  ⟨"CFGF_STAT", 0x0E, 0b1111, 0, 0, 0x014, 4, 1, .none, 0, 0, 0x3C00, 0, 0, 0, 0, 0⟩,
  ⟨"CFGF_SPARE", 0x0E, 0b1111, 0, 0, 0x018, 4, 1, .none, 0xFFFF, 0, 0, 0, 0, 0, 0, 0⟩,
  ⟨"CFGF_STRES", 0x0E, 0b1111, 0, 0, 0x01C, 4, 1, .none, 0x10FFFFFF, 0, 0x80000000, 0, 0, 0, 0, 0⟩,
  ⟨"CFGF_FTEST", 0x0E, 0b1111, 0, 0, 0x020, 4, 1, .none, 0x1FF, 0, 0, 0x80000000, 0, 0, 0, 0⟩,
  ⟨"CFGF_RGSTAT", 0x0E, 0b1111, 0, 0, 0x040, 4, 16, .none, 0, 0, 0, 0, 0, 0, 0, 0⟩,
  ⟨"CFGF_RGCRC", 0x0E, 0b1111, 0, 0, 0x080, 4, 16, .none, 0, 0, 0, 0, 0, 0, 0, 0⟩,
  ⟨"SCR_CTL", 0x0E, 0b1111, 1, 2, 0x000, 4, 1, .none, 0xFFFF0001, 0, 0, 0, 0, 0, 0, 0x640001⟩,
  ⟨"SCR_STAT", 0x0E, 0b1111, 1, 2, 0x004, 4, 1, .none, 0, 0, 0x1F, 0, 0, 0, 0, 0⟩,
  ⟨"SCR_CECNT", 0x0E, 0b1111, 1, 2, 0x008, 4, 1, .none, 0, 0, 0, 0, 0xFFFFFFFF, 0, 0, 0⟩,
  ⟨"SCR_UECNT", 0x0E, 0b1111, 1, 2, 0x00C, 4, 1, .none, 0, 0, 0, 0, 0xFFFFFFFF, 0, 0, 0⟩,
  ⟨"SCR_UEFR", 0x0E, 0b1111, 1, 2, 0x010, 4, 1, .none, 0, 0, 0x80000000, 0, 0, 0, 0, 0⟩,
  ⟨"CFGH_CDBANK", 0x0E, 0b10000, 0, 0, 0x060, 4, 1, .none, 0xFFFF0006, 0, 0x10, 0x8, 0, 0, 0, 0x3C0000⟩,
  ⟨"LIB_RG", 0x0E, 0b10000, 0, 0, 0x100, 4, 64, .none, 0, 0, 0, 0, 0, 0, 0, 0⟩]

def rowsLOUPE : List RegDef := [
  ⟨"LP_CTL", 0x0F, 0b1111, 0, 0, 0x000, 4, 1, .none, 0xFF03, 0, 0, 0, 0, 0, 0, 0xA00⟩,
  ⟨"LP_CMD", 0x0F, 0b1111, 0, 0, 0x004, 4, 1, .none, 0xF, 0, 0, 0x700, 0, 0, 0, 0⟩,
  ⟨"LP_STAT", 0x0F, 0b1111, 0, 0, 0x008, 4, 1, .none, 0, 0, 0x1F00, 0, 0, 0, 0, 0⟩,
  ⟨"LP_NOCAP", 0x0F, 0b1111, 0, 0, 0x00C, 4, 1, .none, 0, 0, 0, 0, 0, 0, 0, 0⟩,
  ⟨"LP_CAPDT_LO", 0x0F, 0b1111, 0, 0, 0x010, 4, 1, .lo, 0, 0, 0, 0, 0, 0, 0, 0⟩,
  ⟨"LP_CAPDT_HI", 0x0F, 0b1111, 0, 0, 0x014, 4, 1, .hi, 0, 0, 0, 0, 0, 0, 0, 0⟩,
  ⟨"LP_MISS", 0x0F, 0b1111, 0, 0, 0x018, 4, 1, .none, 0, 0, 0, 0, 0xFFFFFFFF, 0, 0, 0⟩,
  ⟨"LP_QRD", 0x0F, 0b1111, 0, 0, 0x01C, 4, 1, .none, 0x1FFF, 0, 0, 0, 0, 0, 0, 0⟩,
  ⟨"LP_RESTORE", 0x0F, 0b1111, 0, 0, 0x020, 4, 1, .none, 0xFFFF, 0, 0, 0x80000000, 0, 0, 0, 0⟩,
  ⟨"LP_PROF", 0x0F, 0b1111, 0, 0, 0x040, 4, 16, .none, 0x8FFFFFFF, 0, 0, 0, 0, 0, 0, 0⟩]

def rowsDDR : List RegDef := [
  ⟨"DDR_GCTL", 0x10, 0b10000, 4, 4, 0x000, 4, 1, .none, 0, 0, 0, 0, 0, 0, 0, 0⟩,
  ⟨"DDR_CFG", 0x10, 0b10000, 0, 3, 0x000, 4, 1, .none, 0, 0, 0, 0, 0, 0, 0, 0⟩,
  ⟨"DDR_CTL", 0x10, 0b10000, 0, 3, 0x004, 4, 1, .none, 0xFFFFF3F, 0, 0, 0x40, 0, 0, 0, 0x4306418⟩,
  ⟨"DDR_STAT", 0x10, 0b10000, 0, 3, 0x008, 4, 1, .none, 0, 0, 0xFE0, 0, 0, 0, 0, 0⟩,
  ⟨"DDR_RH", 0x10, 0b10000, 0, 3, 0x00C, 4, 1, .none, 0xFFFF, 0, 0, 0, 0, 0, 0, 0x1000⟩,
  ⟨"DDR_RHCNT", 0x10, 0b10000, 0, 3, 0x010, 4, 1, .none, 0, 0, 0, 0, 0xFFFFFFFF, 0, 0, 0⟩,
  ⟨"DDR_RFMCNT", 0x10, 0b10000, 0, 3, 0x014, 4, 1, .none, 0, 0, 0, 0, 0xFFFFFFFF, 0, 0, 0⟩,
  ⟨"DDR_RT", 0x10, 0b10000, 0, 3, 0x020, 4, 1, .none, 0xFFFC, 0, 0, 0x3, 0, 0, 0, 0x4190⟩,
  ⟨"DDR_EYE", 0x10, 0b10000, 0, 3, 0x040, 4, 10, .none, 0, 0, 0, 0, 0, 0, 0, 0⟩,
  ⟨"DDR_CECNT", 0x10, 0b10000, 0, 3, 0x070, 4, 1, .none, 0, 0, 0, 0, 0xFFFFFFFF, 0, 0, 0⟩,
  ⟨"DDR_UECNT", 0x10, 0b10000, 0, 3, 0x074, 4, 1, .none, 0, 0, 0, 0, 0xFFFFFFFF, 0, 0, 0⟩,
  ⟨"DDR_UEADDR_LO", 0x10, 0b10000, 0, 3, 0x078, 4, 1, .lo, 0, 0, 0, 0, 0, 0, 0, 0⟩,
  ⟨"DDR_UEADDR_HI", 0x10, 0b10000, 0, 3, 0x07C, 4, 1, .hi, 0, 0, 0, 0, 0, 0, 0, 0⟩,
  ⟨"DDR_MT_BASE_LO", 0x10, 0b10000, 0, 3, 0x080, 4, 1, .lo, 0xFFFFFFFF, 0, 0, 0, 0, 0, 0, 0⟩,
  ⟨"DDR_MT_BASE_HI", 0x10, 0b10000, 0, 3, 0x084, 4, 1, .hi, 0xFFFFFFFF, 0, 0, 0, 0, 0, 0, 0⟩,
  ⟨"DDR_MT_LEN", 0x10, 0b10000, 0, 3, 0x088, 4, 1, .none, 0xFFFFFFFF, 0, 0, 0, 0, 0, 0, 0⟩,
  ⟨"DDR_MT_CTL", 0x10, 0b10000, 0, 3, 0x08C, 4, 1, .none, 0x3FF, 0, 0, 0x80000000, 0, 0, 0, 0⟩,
  ⟨"DDR_MT_RES", 0x10, 0b10000, 0, 3, 0x090, 4, 1, .none, 0, 0, 0, 0, 0, 0, 0, 0⟩,
  ⟨"DDR_MT_FAIL_LO", 0x10, 0b10000, 0, 3, 0x098, 4, 1, .lo, 0, 0, 0, 0, 0, 0, 0, 0⟩,
  ⟨"DDR_MT_FAIL_HI", 0x10, 0b10000, 0, 3, 0x09C, 4, 1, .hi, 0, 0, 0, 0, 0, 0, 0, 0⟩]

def rowsCXL : List RegDef := [
  ⟨"CXL_CTL", 0x11, 0b10000, 0, 1, 0x000, 4, 1, .none, 0xFFFFFF08, 0, 0, 0x30, 0, 0, 0, 0x262600⟩,
  ⟨"CXL_LSTAT0", 0x11, 0b10000, 0, 1, 0x004, 4, 1, .none, 0, 0, 0x1800, 0, 0, 0, 0, 0⟩,
  ⟨"CXL_LSTAT1", 0x11, 0b10000, 0, 1, 0x008, 4, 1, .none, 0, 0, 0x1800, 0, 0, 0, 0, 0⟩,
  ⟨"CXL_ERR", 0x11, 0b10000, 0, 1, 0x020, 4, 1, .none, 0, 0, 0x3F, 0, 0, 0, 0, 0⟩,
  ⟨"CXL_POISCNT", 0x11, 0b10000, 0, 1, 0x024, 4, 1, .none, 0, 0, 0, 0, 0xFFFFFFFF, 0, 0, 0⟩,
  ⟨"CXL_CTOCNT", 0x11, 0b10000, 0, 1, 0x028, 4, 1, .none, 0, 0, 0, 0, 0xFFFFFFFF, 0, 0, 0⟩,
  ⟨"CXL_EPIRQ", 0x11, 0b10000, 0, 1, 0x030, 4, 1, .none, 0, 0, 0, 0, 0, 0, 0x3F, 0⟩,
  ⟨"CXL_HDM_BASE", 0x11, 0b10000, 0, 1, 0x040, 16, 8, .none, 0x800FFFFF, 0, 0, 0, 0, 0, 0, 0⟩,
  ⟨"CXL_HDM_LIMIT", 0x11, 0b10000, 0, 1, 0x044, 16, 8, .none, 0x3FFFFF, 0, 0, 0, 0, 0, 0, 0⟩,
  ⟨"CXL_CFGADDR", 0x11, 0b10000, 0, 1, 0x100, 4, 1, .none, 0x1FFFFFFF, 0, 0, 0, 0, 0, 0, 0⟩,
  ⟨"CXL_CFGDATA", 0x11, 0b10000, 0, 1, 0x104, 4, 1, .none, 0xFFFFFFFF, 0, 0, 0, 0, 0, 0, 0⟩,
  ⟨"CXL_IOADDR_LO", 0x11, 0b10000, 0, 1, 0x108, 4, 1, .lo, 0xFFFFFFFF, 0, 0, 0, 0, 0, 0, 0⟩,
  ⟨"CXL_IOADDR_HI", 0x11, 0b10000, 0, 1, 0x10C, 4, 1, .hi, 0xFFFFFFFF, 0, 0, 0, 0, 0, 0, 0⟩,
  ⟨"CXL_IODATA", 0x11, 0b10000, 0, 1, 0x110, 4, 1, .none, 0xFFFFFFFF, 0, 0, 0, 0, 0, 0, 0⟩]

def rowsMPE : List RegDef := [
  ⟨"MPE_CTL", 0x12, 0b10000, 0, 5, 0x000, 4, 1, .none, 0xFFFF0003, 0, 0, 0, 0, 0, 0, 0⟩,
  ⟨"MPE_STAT", 0x12, 0b10000, 0, 5, 0x004, 4, 1, .none, 0, 0, 0x433F, 0, 0, 0, 0, 0⟩,
  ⟨"MPE_DSIZE", 0x12, 0b10000, 0, 5, 0x008, 4, 1, .none, 0, 0, 0, 0, 0, 0, 0, 0⟩,
  ⟨"MPE_ALM0", 0x12, 0b10000, 0, 5, 0x020, 4, 1, .none, 0, 0, 0, 0, 0, 0, 0, 0⟩,
  ⟨"MPE_ALM1", 0x12, 0b10000, 0, 5, 0x024, 4, 1, .none, 0, 0, 0, 0, 0, 0, 0, 0⟩,
  ⟨"MPE_ALM2", 0x12, 0b10000, 0, 5, 0x028, 4, 1, .none, 0, 0, 0, 0, 0, 0, 0, 0⟩,
  ⟨"MPE_ALM3", 0x12, 0b10000, 0, 5, 0x02C, 4, 1, .none, 0, 0, 0, 0, 0, 0xFFFFFFFF, 0, 0⟩,
  ⟨"MPE_ALMCNT", 0x12, 0b10000, 0, 5, 0x030, 4, 1, .none, 0, 0, 0, 0, 0xFFFFFFFF, 0, 0, 0⟩,
  ⟨"MPE_CECNT", 0x12, 0b10000, 0, 5, 0x034, 4, 1, .none, 0, 0, 0, 0, 0xFFFFFFFF, 0, 0, 0⟩,
  ⟨"MPE_KEYCNT", 0x12, 0b10000, 0, 5, 0x038, 4, 1, .none, 0, 0, 0, 0, 0xFFFFFFFF, 0, 0, 0⟩,
  ⟨"MPE_REENCCNT", 0x12, 0b10000, 0, 5, 0x03C, 4, 1, .none, 0, 0, 0, 0, 0xFFFFFFFF, 0, 0, 0⟩,
  ⟨"MPE_REINIT", 0x12, 0b10000, 0, 5, 0x040, 4, 1, .none, 0x3F, 0, 0, 0x80000000, 0, 0, 0, 0⟩,
  ⟨"MPE_PLIST_LO", 0x12, 0b10000, 0, 5, 0x100, 8, 64, .lo, 0, 0, 0, 0, 0, 0, 0, 0⟩,
  ⟨"MPE_PLIST_HI", 0x12, 0b10000, 0, 5, 0x104, 8, 64, .hi, 0, 0, 0, 0, 0, 0, 0, 0⟩,
  ⟨"MPE_GCTL", 0x12, 0b10000, 6, 6, 0x000, 4, 1, .none, 0x1, 0, 0, 0, 0, 0, 0, 0⟩,
  ⟨"MPE_KSTAT_LO", 0x12, 0b10000, 6, 6, 0x010, 4, 1, .lo, 0, 0, 0, 0, 0, 0, 0, 0⟩,
  ⟨"MPE_KSTAT_HI", 0x12, 0b10000, 6, 6, 0x014, 4, 1, .hi, 0, 0, 0, 0, 0, 0, 0, 0⟩,
  ⟨"MPE_RETIRE", 0x12, 0b10000, 6, 6, 0x020, 4, 1, .none, 0x3F, 0, 0, 0x80000000, 0, 0, 0, 0⟩,
  ⟨"MPE_AGKID_LO", 0x12, 0b10000, 6, 6, 0x100, 8, 10, .lo, 0xFFFFFFFF, 0, 0, 0, 0, 0, 0, 0⟩,
  ⟨"MPE_AGKID_HI", 0x12, 0b10000, 6, 6, 0x104, 8, 10, .hi, 0xFFFFFFFF, 0, 0, 0, 0, 0, 0, 0⟩,
  ⟨"MPE_FENCE", 0x12, 0b10000, 6, 6, 0x200, 4, 8, .none, 0, 0, 0xFFFFFFFF, 0, 0, 0, 0, 0⟩,
  ⟨"MPE_RGKID", 0x12, 0b10000, 6, 6, 0x300, 4, 64, .none, 0x7F, 0, 0, 0, 0, 0, 0, 0⟩,
  ⟨"MPE_RGN_BASE", 0x12, 0b10000, 256, 511, 0x000, 4, 1, .none, 0xFFFFFFFF, 0, 0, 0, 0, 0, 0, 0⟩,
  ⟨"MPE_RGN_LIMIT", 0x12, 0b10000, 256, 511, 0x004, 4, 1, .none, 0xFFFFFFFF, 0, 0, 0, 0, 0, 0, 0⟩,
  ⟨"MPE_RGN_CTL", 0x12, 0b10000, 256, 511, 0x008, 4, 1, .none, 0x800000FF, 0, 0, 0, 0, 0, 0, 0⟩]

def rowsBEZEL : List RegDef := [
  ⟨"BZ_CMD", 0x13, 0b10000, 0, 3, 0x000, 4, 1, .none, 0x3FFFFFFF, 0, 0, 0x80000000, 0, 0, 0, 0⟩,
  ⟨"BZ_RSP", 0x13, 0b10000, 0, 3, 0x004, 4, 1, .none, 0x4000, 0, 0x3000, 0, 0, 0, 0, 0⟩,
  ⟨"BZ_ADDR_LO", 0x13, 0b10000, 0, 3, 0x008, 4, 1, .lo, 0xFFFFFFFF, 0, 0, 0, 0, 0, 0, 0⟩,
  ⟨"BZ_ADDR_HI", 0x13, 0b10000, 0, 3, 0x00C, 4, 1, .hi, 0xFFFFFFFF, 0, 0, 0, 0, 0, 0, 0⟩,
  ⟨"BZ_LEN", 0x13, 0b10000, 0, 3, 0x010, 4, 1, .none, 0xFFFFFFFF, 0, 0, 0, 0, 0, 0, 0⟩,
  ⟨"BZ_BUF", 0x13, 0b10000, 0, 3, 0x200, 4, 128, .none, 0xFFFFFFFF, 0, 0, 0, 0, 0, 0, 0⟩,
  ⟨"BZ_STAT", 0x13, 0b10000, 4, 4, 0x000, 4, 1, .none, 0, 0, 0, 0, 0, 0, 0, 0⟩,
  ⟨"BZ_RESP", 0x13, 0b10000, 4, 4, 0x004, 4, 1, .none, 0, 0x3FFF, 0, 0x80000000, 0, 0, 0, 0x1AAA⟩,
  ⟨"BZ_SENS", 0x13, 0b10000, 4, 4, 0x008, 4, 1, .none, 0, 0, 0x7F, 0, 0, 0, 0, 0⟩,
  ⟨"BZ_CERT", 0x13, 0b10000, 4, 4, 0x00C, 4, 1, .none, 0, 0x80000000, 0, 0, 0, 0, 0, 0⟩,
  ⟨"BZ_SERIAL_LO", 0x13, 0b10000, 4, 4, 0x010, 4, 1, .lo, 0, 0, 0, 0, 0, 0, 0, 0⟩,
  ⟨"BZ_SERIAL_HI", 0x13, 0b10000, 4, 4, 0x014, 4, 1, .hi, 0, 0, 0, 0, 0, 0, 0, 0⟩,
  ⟨"BZ_ARB", 0x13, 0b10000, 4, 4, 0x018, 4, 1, .none, 0, 0, 0, 0, 0, 0, 0, 0⟩,
  ⟨"BZ_LOGCNT", 0x13, 0b10000, 4, 4, 0x01C, 4, 1, .none, 0, 0, 0, 0, 0, 0, 0, 0⟩,
  ⟨"BZ_OTPSTAT", 0x13, 0b10000, 4, 4, 0x020, 4, 1, .none, 0, 0, 0, 0, 0, 0, 0, 0⟩]

def rowsGOV : List RegDef := [
  ⟨"GOV_CTL", 0x14, 0b10000, 0, 0, 0x000, 4, 1, .none, 0x3FFF, 0, 0, 0, 0, 0, 0, 0x106⟩,
  ⟨"GOV_STAT", 0x14, 0b10000, 0, 0, 0x004, 4, 1, .none, 0, 0, 0x1CF0, 0, 0, 0, 0, 0⟩,
  ⟨"GOV_CAP", 0x14, 0b10000, 0, 0, 0x008, 4, 1, .none, 0xFFFF01FF, 0, 0, 0, 0, 0, 0, 0x1CC⟩,
  ⟨"GOV_CAPEFF", 0x14, 0b10000, 0, 0, 0x00C, 4, 1, .none, 0, 0, 0, 0, 0, 0, 0, 0x1CC⟩,
  ⟨"GOV_PBSH", 0x14, 0b10000, 0, 0, 0x010, 4, 5, .none, 0x7FFFFF, 0, 0, 0, 0, 0, 0, 0⟩,
  ⟨"GOV_BG", 0x14, 0b10000, 0, 0, 0x024, 4, 1, .none, 0xFF7FFFFF, 0, 0, 0, 0, 0, 0, 0x10030D40⟩,
  ⟨"GOV_TH", 0x14, 0b10000, 0, 0, 0x028, 4, 1, .none, 0xFFFFFF, 0, 0, 0, 0, 0, 0, 0x64555F⟩,
  ⟨"GOV_WB", 0x14, 0b10000, 0, 0, 0x040, 4, 1, .none, 0, 0, 0, 0, 0, 0, 0, 0⟩,
  ⟨"GOV_WF", 0x14, 0b10000, 0, 0, 0x044, 4, 1, .none, 0, 0, 0, 0, 0, 0, 0, 0⟩,
  ⟨"GOV_WK", 0x14, 0b10000, 0, 0, 0x048, 4, 1, .none, 0, 0, 0, 0, 0, 0, 0, 0⟩,
  ⟨"GOV_WC", 0x14, 0b10000, 0, 0, 0x04C, 4, 1, .none, 0, 0, 0, 0, 0, 0, 0, 0⟩,
  ⟨"GOV_WM", 0x14, 0b10000, 0, 0, 0x050, 4, 1, .none, 0, 0, 0, 0, 0, 0, 0, 0⟩,
  ⟨"GOV_SHORT", 0x14, 0b10000, 0, 0, 0x054, 4, 1, .none, 0, 0, 0, 0, 0xFFFFFFFF, 0, 0, 0⟩,
  ⟨"GOV_PBWAIT", 0x14, 0b10000, 0, 0, 0x058, 4, 1, .none, 0, 0, 0, 0, 0xFFFFFFFF, 0, 0, 0⟩,
  ⟨"GOV_EXT", 0x14, 0b10000, 0, 0, 0x060, 4, 1, .none, 0xFF01, 0, 0, 0, 0, 0, 0, 0x2E00⟩,
  ⟨"GOV_PMB", 0x14, 0b10000, 0, 0, 0x064, 4, 1, .none, 0xFFFFFF, 0, 0, 0, 0, 0, 0, 0x28⟩,
  ⟨"GOV_PMBDEV", 0x14, 0b10000, 0, 0, 0x070, 4, 8, .none, 0xFFFF, 0, 0, 0, 0, 0, 0, 0xFF00⟩,
  ⟨"GOV_JOBC0", 0x14, 0b10000, 0, 0, 0x0A0, 4, 1, .none, 0xFFFFFFFF, 0, 0, 0, 0, 0, 0, 0x960078⟩,
  ⟨"GOV_JOBC1", 0x14, 0b10000, 0, 0, 0x0A4, 4, 1, .none, 0xFFFFFFFF, 0, 0, 0, 0, 0, 0, 0xFA00078⟩,
  ⟨"GOV_JOBC2", 0x14, 0b10000, 0, 0, 0x0A8, 4, 1, .none, 0xFFFFFFFF, 0, 0, 0, 0, 0, 0, 0x7D00190⟩,
  ⟨"GOV_JOBC3", 0x14, 0b10000, 0, 0, 0x0AC, 4, 1, .none, 0xFFFF, 0, 0, 0, 0, 0, 0, 0x64⟩,
  ⟨"GOV_CMD", 0x14, 0b10000, 0, 0, 0x0C0, 4, 1, .none, 0, 0, 0, 0, 0, 0, 0x3, 0⟩,
  ⟨"GOV_WAKE_LO", 0x14, 0b10000, 0, 0, 0x0C8, 4, 1, .lo, 0xFFFFFFFF, 0, 0, 0, 0, 0, 0, 0⟩,
  ⟨"GOV_WAKE_HI", 0x14, 0b10000, 0, 0, 0x0CC, 4, 1, .hi, 0xFFFFFFFF, 0, 0, 0, 0, 0, 0, 0⟩,
  ⟨"GOV_TMAX", 0x14, 0b10000, 0, 0, 0x0D0, 4, 1, .none, 0, 0, 0, 0, 0, 0, 0, 0⟩,
  ⟨"GOV_TEMP", 0x14, 0b10000, 0, 0, 0x400, 4, 96, .none, 0, 0, 0, 0, 0, 0, 0, 0⟩]

def rowsREC : List RegDef := [
  ⟨"REC_CTL", 0x15, 0b10000, 0, 0, 0x000, 4, 1, .none, 0xFFFFF, 0, 0, 0, 0, 0, 0, 0x80000⟩,
  ⟨"REC_CMD", 0x15, 0b10000, 0, 0, 0x004, 4, 1, .none, 0, 0, 0, 0x7, 0, 0, 0, 0⟩,
  ⟨"REC_STAT", 0x15, 0b10000, 0, 0, 0x008, 4, 1, .none, 0, 0, 0x36, 0, 0, 0, 0, 0⟩,
  ⟨"REC_SEQ", 0x15, 0b10000, 0, 0, 0x00C, 4, 1, .none, 0, 0, 0, 0, 0, 0, 0, 0⟩,
  ⟨"REC_COUNT", 0x15, 0b10000, 0, 0, 0x010, 4, 1, .none, 0, 0, 0, 0, 0, 0, 0, 0⟩,
  ⟨"REC_DROP", 0x15, 0b10000, 0, 0, 0x014, 4, 1, .none, 0, 0, 0, 0, 0xFFFFFFFF, 0, 0, 0⟩,
  ⟨"REC_DROP7", 0x15, 0b10000, 0, 0, 0x018, 4, 1, .none, 0, 0, 0, 0, 0xFFFFFFFF, 0, 0, 0⟩,
  ⟨"REC_FRZCNT", 0x15, 0b10000, 0, 0, 0x020, 4, 7, .none, 0, 0, 0, 0, 0, 0, 0, 0⟩,
  ⟨"REC_TCFG", 0x15, 0b10000, 1, 64, 0x000, 4, 1, .none, 0x1FF, 0, 0, 0, 0, 0, 0, 0x1⟩,
  ⟨"REC_SNAP", 0x15, 0b10000, 1, 64, 0x010, 4, 8, .none, 0xFFFFFFFF, 0, 0, 0, 0, 0, 0, 0xFFFFFFFF⟩]

def rowsDBG : List RegDef := [
  ⟨"DBG_ACMD", 0x16, 0b10000, 0, 0, 0x000, 4, 1, .none, 0, 0, 0, 0, 0, 0, 0xFF0F, 0⟩,
  ⟨"DBG_ASTAT", 0x16, 0b10000, 0, 0, 0x004, 4, 1, .none, 0, 0, 0x4380, 0, 0, 0, 0, 0⟩,
  ⟨"DBG_ABUF", 0x16, 0b10000, 0, 0, 0x200, 4, 128, .none, 0xFFFFFFFF, 0, 0, 0, 0, 0, 0, 0⟩,
  ⟨"DBG_VT_TX", 0x16, 0b10000, 0, 0, 0x400, 4, 1, .none, 0xFF, 0, 0x10000, 0, 0, 0, 0xC0000000, 0⟩,
  ⟨"DBG_VT_RX", 0x16, 0b10000, 0, 0, 0x404, 4, 1, .none, 0, 0, 0x30000, 0, 0, 0xFF, 0xC0000000, 0⟩,
  ⟨"DBG_VT_CTL", 0x16, 0b10000, 0, 0, 0x408, 4, 1, .none, 0x3, 0, 0, 0, 0, 0, 0, 0⟩,
  ⟨"DBG_FRZSEL", 0x16, 0b10000, 0, 0, 0x500, 4, 1, .none, 0x1FFFFF, 0, 0, 0, 0, 0, 0, 0⟩,
  ⟨"DBG_QFRZ_LO", 0x16, 0b10000, 0, 0, 0x504, 4, 1, .lo, 0xFFFFFFFF, 0, 0, 0, 0, 0, 0, 0⟩,
  ⟨"DBG_QFRZ_HI", 0x16, 0b10000, 0, 0, 0x508, 4, 1, .hi, 0xFFFFFFFF, 0, 0, 0, 0, 0, 0, 0⟩,
  ⟨"DBG_XTRIG", 0x16, 0b10000, 0, 0, 0x600, 4, 16, .none, 0x7FFF, 0, 0, 0, 0, 0, 0, 0⟩,
  ⟨"DBG_FSEL", 0x16, 0b10000, 0, 0, 0x700, 4, 1, .none, 0x7FF, 0, 0, 0, 0, 0, 0, 0⟩,
  ⟨"DBG_FRUN", 0x16, 0b10000, 0, 0, 0x704, 4, 1, .none, 0, 0, 0, 0, 0, 0, 0x3, 0⟩,
  ⟨"DBG_FREG", 0x16, 0b10000, 0, 0, 0x708, 4, 1, .none, 0xFF, 0, 0, 0x80000000, 0, 0, 0, 0⟩,
  ⟨"DBG_FDATA", 0x16, 0b10000, 0, 0, 0x70C, 4, 1, .none, 0xFFFFFF, 0, 0, 0, 0, 0, 0, 0⟩,
  ⟨"DBG_FSTAT", 0x16, 0b10000, 0, 0, 0x710, 4, 1, .none, 0, 0, 0x8, 0, 0, 0, 0, 0⟩]

def rowsADC : List RegDef := [
  ⟨"ADC_CTL", 0x17, 0b1111, 0, 0, 0x000, 4, 1, .none, 0x1FFF, 0, 0, 0, 0, 0, 0, 0⟩,
  ⟨"ADC_DATA", 0x17, 0b1111, 0, 0, 0x040, 4, 10, .none, 0, 0, 0, 0, 0x10000, 0, 0, 0⟩]

def rowsPLINK : List RegDef := [
  ⟨"PL_GCTL", 0x18, 0b10000, 4, 4, 0x000, 4, 1, .none, 0xFFFF001F, 0, 0, 0, 0, 0, 0, 0x400000⟩,
  ⟨"PL_GSTAT", 0x18, 0b10000, 4, 4, 0x004, 4, 1, .none, 0, 0, 0x1F8, 0, 0, 0, 0, 0⟩,
  ⟨"PL_OFS_LO", 0x18, 0b10000, 4, 4, 0x010, 4, 1, .lo, 0, 0, 0, 0, 0, 0, 0, 0⟩,
  ⟨"PL_OFS_HI", 0x18, 0b10000, 4, 4, 0x014, 4, 1, .hi, 0, 0, 0, 0, 0, 0, 0, 0⟩,
  ⟨"PL_FREQ", 0x18, 0b10000, 4, 4, 0x018, 4, 1, .none, 0, 0, 0, 0, 0, 0, 0, 0⟩,
  ⟨"PL_EVRX0", 0x18, 0b10000, 4, 4, 0x020, 4, 1, .none, 0, 0, 0, 0, 0, 0, 0, 0⟩,
  ⟨"PL_EVRX1", 0x18, 0b10000, 4, 4, 0x024, 4, 1, .none, 0, 0, 0, 0, 0, 0, 0, 0⟩,
  ⟨"PL_EVRX2", 0x18, 0b10000, 4, 4, 0x028, 4, 1, .none, 0, 0, 0, 0, 0, 0xFFFFFFFF, 0, 0⟩,
  ⟨"PL_PCTL", 0x18, 0b10000, 0, 3, 0x000, 4, 1, .none, 0xFFFF, 0, 0, 0, 0, 0, 0, 0⟩,
  ⟨"PL_PDOM", 0x18, 0b10000, 0, 3, 0x004, 4, 1, .none, 0xFFFF, 0, 0, 0, 0, 0, 0, 0⟩,
  ⟨"PL_PSTAT", 0x18, 0b10000, 0, 3, 0x008, 4, 1, .none, 0, 0, 0xF0, 0, 0, 0, 0, 0⟩,
  ⟨"PL_RTT", 0x18, 0b10000, 0, 3, 0x00C, 4, 1, .none, 0, 0, 0, 0, 0, 0, 0, 0⟩,
  ⟨"PL_ASYM", 0x18, 0b10000, 0, 3, 0x010, 4, 1, .none, 0xFFFFFFFF, 0, 0, 0, 0, 0, 0, 0⟩,
  ⟨"PL_CRCCNT", 0x18, 0b10000, 0, 3, 0x014, 4, 1, .none, 0, 0, 0, 0, 0xFFFFFFFF, 0, 0, 0⟩,
  ⟨"PL_EVTX", 0x18, 0b10000, 0, 3, 0x018, 4, 1, .none, 0, 0, 0, 0, 0, 0, 0xFFFF, 0⟩]

def rowsCORE : List RegDef := [
  ⟨"CORE_RC", 0x19, 0b100000, 0, 5, 0x000, 4, 1, .none, 0x1C, 0, 0, 0x3, 0, 0, 0, 0⟩,
  ⟨"CORE_RSTAT", 0x19, 0b100000, 0, 5, 0x004, 4, 1, .none, 0, 0, 0x40, 0, 0, 0, 0, 0x4⟩,
  ⟨"CORE_ACMD", 0x19, 0b100000, 0, 5, 0x010, 4, 1, .none, 0x3FFFF, 0, 0, 0x80000000, 0, 0, 0, 0x20000⟩,
  ⟨"CORE_ADATA_LO", 0x19, 0b100000, 0, 5, 0x014, 4, 1, .lo, 0xFFFFFFFF, 0, 0, 0, 0, 0, 0, 0⟩,
  ⟨"CORE_ADATA_HI", 0x19, 0b100000, 0, 5, 0x018, 4, 1, .hi, 0xFFFFFFFF, 0, 0, 0, 0, 0, 0, 0⟩,
  ⟨"CORE_WDT_CTL", 0x19, 0b100000, 0, 5, 0x040, 4, 1, .none, 0, 0xFFFFFFF, 0, 0x80000000, 0, 0, 0, 0x3D12⟩,
  ⟨"CORE_WDT_KICK", 0x19, 0b100000, 0, 5, 0x044, 4, 1, .none, 0, 0, 0, 0, 0, 0, 0xFFFF, 0⟩,
  ⟨"CORE_WDT_STAT", 0x19, 0b100000, 0, 5, 0x048, 4, 1, .none, 0, 0, 0x3000000, 0, 0, 0, 0, 0⟩]

def rowsMBX : List RegDef := [
  ⟨"MBX_CTL", 0x1A, 0b100000, 0, 31, 0x000, 4, 1, .none, 0x800003FF, 0, 0, 0, 0, 0, 0, 0xFF⟩,
  ⟨"MBX_PUSH", 0x1A, 0b100000, 0, 31, 0x004, 4, 1, .none, 0, 0, 0, 0, 0, 0, 0xFFFFFFFF, 0⟩,
  ⟨"MBX_POP", 0x1A, 0b100000, 0, 31, 0x008, 4, 1, .none, 0, 0, 0, 0, 0, 0xFFFFFFFF, 0, 0⟩,
  ⟨"MBX_STAT", 0x1A, 0b100000, 0, 31, 0x00C, 4, 1, .none, 0, 0, 0x300, 0, 0, 0, 0, 0x40⟩,
  ⟨"CC_START", 0x1A, 0b100000, 32, 32, 0x000, 4, 1, .none, 0, 0, 0, 0x3F, 0, 0, 0, 0⟩,
  ⟨"CC_STATUS", 0x1A, 0b100000, 32, 32, 0x004, 4, 1, .none, 0, 0, 0xE, 0, 0, 0, 0, 0⟩,
  ⟨"CC_BOOTDESC_LO", 0x1A, 0b100000, 32, 32, 0x008, 4, 1, .lo, 0, 0, 0, 0, 0, 0, 0, 0⟩,
  ⟨"CC_BOOTDESC_HI", 0x1A, 0b100000, 32, 32, 0x00C, 4, 1, .hi, 0, 0, 0, 0, 0, 0, 0, 0⟩]

/-- The register headings of a unit, but for the two common registers of R29. -/
def regRows (unit : Nat) : List RegDef :=
  match unit with
  | 0x00 => rowsDIE
  | 0x01 => rowsPWR
  | 0x02 => rowsCLK
  | 0x03 => rowsSPINE
  | 0x04 => rowsCAL
  | 0x05 => rowsTIO
  | 0x06 => rowsPAD
  | 0x07 => rowsXBAR
  | 0x08 => rowsFACET
  | 0x09 => rowsFDSP
  | 0x0A => rowsQM
  | 0x0B => rowsHN
  | 0x0C => rowsD2D
  | 0x0D => rowsXCVR
  | 0x0E => rowsCFG
  | 0x0F => rowsLOUPE
  | 0x10 => rowsDDR
  | 0x11 => rowsCXL
  | 0x12 => rowsMPE
  | 0x13 => rowsBEZEL
  | 0x14 => rowsGOV
  | 0x15 => rowsREC
  | 0x16 => rowsDBG
  | 0x17 => rowsADC
  | 0x18 => rowsPLINK
  | 0x19 => rowsCORE
  | 0x1A => rowsMBX
  | _ => []

/-- The register offset, instance, unit and die fields of a window offset (R27). -/
def keyOff (key : Nat) : Nat := key % 4096
def keyInst (key : Nat) : Nat := key / 4096 % 4096
def keyUnit (key : Nat) : Nat := key / 16777216 % 32
def keyDie (key : Nat) : Nat := key / 536870912

/-- The two dies at the ends of a die-to-die module, in the order of R16 (R326). -/
def moduleEnds (m : Nat) : Nat × Nat :=
  if m < 2 then (0, 1) else if m < 4 then (2, 3) else if m < 6 then (0, 2) else if m < 8 then (1, 3)
  else if m < 11 then (2, 4) else if m < 14 then (3, 4) else (4, 5)

/-- Whether die `die` carries instance `inst` of unit `unit` (R28, R298, R326, R327, R433 and the other unit chapters). -/
def instExists (die unit inst : Nat) : Bool :=
  let fd := decide (die ≤ 3); let hd := decide (die = 4); let cd := decide (die = 5)
  match unit with
  | 0x00 => decide (die ≤ 5 ∧ inst = 0)
  | 0x01 => (fd && (inst ≤ 36 || (0x100 ≤ inst && inst ≤ 0x114))) || (hd && (inst ≤ 8 || (0x100 ≤ inst && inst ≤ 0x103)))
      || (cd && (inst ≤ 7 || (0x100 ≤ inst && inst ≤ 0x103)))
  | 0x02 => (fd && inst ≤ 7) || ((hd || cd) && inst = 0)
  | 0x03 => (fd && inst = 0) || (hd && inst ≤ 16)
  | 0x04 | 0x0B | 0x0F => fd && inst = 0
  | 0x05 | 0x06 | 0x07 => fd && inst ≤ 240
  | 0x08 => fd && inst ≤ 271
  | 0x09 => fd && inst ≤ 15
  | 0x0A => (hd && (inst ≤ 2047 || inst = 0xC00 || (0xD00 ≤ inst && inst ≤ 0xD0F)))
      || (fd && (inst ≤ 1535 || inst = 0xC00 || (0xD00 ≤ inst && inst ≤ 0xD0B)))
  | 0x0C => decide (inst ≤ 14) && (decide (die = (moduleEnds inst).1) || decide (die = (moduleEnds inst).2))
  | 0x0D => fd && inst ≤ 19
  | 0x0E => (fd && inst ≤ 2) || (hd && inst = 0)
  | 0x10 => hd && inst ≤ 4
  | 0x11 => hd && inst ≤ 1
  | 0x12 => hd && (inst ≤ 6 || (0x100 ≤ inst && inst ≤ 0x1FF))
  | 0x13 => hd && inst ≤ 4
  | 0x14 | 0x16 => hd && inst = 0
  | 0x15 => hd && inst ≤ 64
  | 0x17 => (fd || hd) && inst = 0
  | 0x18 => hd && inst ≤ 4
  | 0x19 => cd && inst ≤ 5
  | 0x1A => cd && inst ≤ 32
  | _ => false

/-- Whether a heading defines the register at a window offset (R28). -/
def RegDef.covers (r : RegDef) (key : Nat) : Bool :=
  keyUnit key == r.unit && r.dies.testBit (keyDie key) && r.instLo ≤ keyInst key && keyInst key ≤ r.instHi &&
  r.off ≤ keyOff key && (keyOff key - r.off) % r.stride == 0 && (keyOff key - r.off) / r.stride < r.count

/-- The heading that defines the register at a window offset, if any (R28). -/
def regDef? (key : Nat) : Option RegDef :=
  if instExists (keyDie key) (keyUnit key) (keyInst key) then (regRows (keyUnit key)).find? (fun r => r.covers key) else none

/-- The value a register reads as after its reset, before the unit first updates it: the Reset column of its heading. -/
def regReset (key : Nat) : Word :=
  if keyOff key = 0xFFC then 0xF
  else if keyOff key = 0xFF8 then
    BitVec.ofNat 32 (keyInst key + keyUnit key * 4096 + keyDie key * 131072 + 0x01000000)
  else match regDef? key with
    | none => 0
    | some r =>
      -- PAD_FUNC: CONFIG on local pins 0 to 3; FACET_CTL: spare Facets off; FDSP_MAP: logical j on physical j
      if r.unit = 0x06 ∧ r.off = 0 ∧ r.instHi = 239 then (if keyInst key ≤ 3 then 5 else 15)
      else if r.unit = 0x08 ∧ r.off = 0 then (if keyInst key % 17 = 16 then 0 else 1)
      else if r.unit = 0x09 ∧ r.off = 0x20 then
        BitVec.ofNat 32 ((keyOff key - r.off) / 4 * 4 * 0x01010101 + 0x03020100)
      else BitVec.ofNat 32 r.reset

end Sys2Proof.Machine
end

