-- ==== Sys2Proof/Machine/Ops.lean ====
section
/-!
DEFINITION. The named operations every meaning is built from: the register file, free values, records, replies, per-unit state.
-/
namespace Sys2Proof.Machine

/-! ## The register file -/

/-- The stored word of a register, at its window offset. -/
def State.rd (s : State) (key : Nat) : Word := s.csr.get key (regReset key)

/-- Store a register word; its reset value takes no entry. -/
def State.wr (s : State) (key : Nat) (w : Word) : State := { s with csr := s.csr.set key w (regReset key) }

/-- A field of a stored register. -/
def State.fld (s : State) (key lo n : Nat) : Nat := wfld (s.rd key) lo n

/-- A bit of a stored register. -/
def State.bit (s : State) (key i : Nat) : Bool := wbit (s.rd key) i

/-- Set a field of a stored register. -/
def State.setFld (s : State) (key lo n v : Nat) : State := s.wr key (wset (s.rd key) lo n v)

/-- Set or clear a bit of a stored register. -/
def State.setBit (s : State) (key i : Nat) (b : Bool) : State := s.wr key (wsetBit (s.rd key) i b)

/-- Set a status flag. -/
def State.flag (s : State) (key i : Nat) : State := s.setBit key i true

/-- Set a status flag on a condition. -/
def State.flagIf (s : State) (c : Bool) (key i : Nat) : State := if c then s.flag key i else s

/-- A 64-bit register pair (R6). -/
def State.rdPair (s : State) (lo hi : Nat) : DWord := joinHalves (s.rd hi) (s.rd lo)

/-- Store a 64-bit register pair (R6). -/
def State.wrPair (s : State) (lo hi : Nat) (d : DWord) : State := (s.wr lo (loHalf d)).wr hi (hiHalf d)

/-- Count in a register that saturates at all ones. -/
def State.count (s : State) (key n : Nat) : State :=
  s.wr key (BitVec.ofNat 32 (min ((s.rd key).toNat + n) 0xFFFFFFFF))

/-- Count in a field that saturates at all ones. -/
def State.countFld (s : State) (key lo n by_ : Nat) : State := s.setFld key lo n (min (s.fld key lo n + by_) (2 ^ n - 1))

/-! ## Values the specification leaves open -/

/-- The next free value of `n` bits. [Log 7 DESIGN CHOICE] -/
def State.freeNat (s : State) (n : Nat) : Nat := (Config.freeValue s.free).toNat % 2 ^ n

/-- A state whose next free value is a fresh one. [Log 7 DESIGN CHOICE] -/
def State.drawn (s : State) : State := { s with free := s.free + 1 }

/-- The next `n` free values as one number of 64 n bits, and a state in which they are used up. [Log 7 DESIGN CHOICE] -/
def State.freeWide (s : State) (n : Nat) : Nat := (List.range n).foldl (fun a i => a + (Config.freeValue (s.free + i)).toNat * 2 ^ (64 * i)) 0
/-- [Log 7 DESIGN CHOICE] -/
def State.drawnN (s : State) (n : Nat) : State := { s with free := s.free + n }

/-! ## Time -/

/-- DT at the start of the current tick (R47). [Log 129 DESIGN CHOICE] -/
def State.now (s : State) : DWord := s.spine.dt

/-- DT at the end of the current tick. [Log 35 DEDUCED] -/
def State.tickEnd (s : State) : DWord := s.spine.dt + BitVec.ofNat 64 s.spine.len

/-- The DT of dtu `k` of the current tick. -/
def State.stamp (s : State) (k : Nat) : DWord := s.spine.dt + BitVec.ofNat 64 (min (max k 1) s.spine.len)

/-! ## Units of state -/

def State.dom (s : State) (d : Nat) : Dom := s.spine.doms.get d {}
def State.setDom (s : State) (d : Nat) (x : Dom) : State :=
  { s with spine := { s.spine with doms := s.spine.doms.set d x {} } }

def State.slice (s : State) (die : Nat) : CalSlice := s.cal.get die {}
def State.setSlice (s : State) (die : Nat) (x : CalSlice) : State := { s with cal := s.cal.set die x {} }

/-- The timed I/O unit of local pin `n` of a fabric die (R108). -/
def State.unit (s : State) (die n : Nat) : Tio := s.tio.get (die * 240 + n) {}
def State.setUnit (s : State) (die n : Nat) (x : Tio) : State := { s with tio := s.tio.set (die * 240 + n) x {} }

/-- The phase of a domain at DT `x` of the current tick; its held phase outside it (R48). -/
def State.phaseAt (s : State) (d : Nat) (x : DWord) : DWord :=
  (s.dom d).ph s.spine.dt s.spine.len (x - s.spine.dt).toNat

/-! ## Records and replies -/

/-- Complete the access in hand with a response and data (R33). -/
def State.answer (s : State) (r : Resp) (data : Word := 0) : State := { s with bus := { s.bus with reply := some (r, data) } }

/-- Core or pair `i`: 0 to 3 application cores, 4 and 5 real-time pairs. -/
def State.core (s : State) (i : Nat) : Core := s.cores.get i {}
def State.setCore (s : State) (i : Nat) (x : Core) : State := { s with cores := s.cores.set i x {} }

/-- The response codes of R33. -/
def Resp.code : Resp → Nat
  | .ok => 0 | .partialOk => 1 | .noTarget => 2 | .refused => 3 | .unreachable => 4 | .denied => 5

/-- `n` little-endian bytes of a number. -/
def leBytes (n v : Nat) : List Byte := (List.range n).map (fun i => BitVec.ofNat 8 (v / 256 ^ i))

/-- The access of the debug access gate completes: what Capture-DR then shows, and the counter of its TOKEN session (R534). -/
def State.gateDone (s : State) (r : Resp) (data : Word) : State :=
  let x := s.session
  let tag := match x.last.own with
    | some (key, n) => Config.tag key (leBytes 4 n ++ leBytes 1 r.code ++ leBytes 4 data.toNat) / 2 ^ 64 % 2 ^ 64
    | none => 0
  { s with session := { x with last := { x.last with data := data, resp := r.code, tag := tag, run := false, own := none }, count := if x.last.own.isSome && x.mode == 2 then x.count + 1 else x.count } }

/-- A response as the outside host sees it (R33). [Log 209 DEDUCED] -/
def Resp.host : Resp → HostCompletion
  | .ok | .partialOk => .successful
  | _ => .unsupportedRequest

/-- The response and data go to the requester; the outside host, agents 6 and 7, sees them as its completion (R33). [Log 209 DEDUCED] -/
def State.answerTo (s : State) (req : Nat) (r : Resp) (data : Word) : State :=
  { s with bus := { s.bus with reply := some (r, data), completion := if req = 6 ∨ req = 7 then some r.host else s.bus.completion } }

/-- An access completes: the response and data go to the requester; a control-die core takes a response other than OK as an
access fault, with the code in `mbuserr` (CSR 0x7C0) and the address in `mtval` (R33); the debug access gate captures them (R534).
[Log 15 DEDUCED, 16 PRESUMED] -/
def State.completeAccess (s : State) (req : Nat) (write : Bool) (addr : Nat) (r : Resp) (data : Word) : State :=
  let s := s.answerTo req r data
  if req = 16 then (if s.session.last.run then s.gateDone r (if write then s.session.last.data else data) else s)
  else if r ≠ .ok ∧ req ≤ 5 then
    let x := s.core req
    s.setCore req { x with priv := 3, regs := ((x.regs.set 0x7C0 (BitVec.ofNat 64 r.code) 0).set 0x343 (BitVec.ofNat 64 addr) 0).set 0x342 (if write then 7 else 5) 0 }
  else s

/-- The code of row `row` of the error table of chapter `ch` (R547). [Log 33 DESIGN CHOICE] -/
def errCode (ch row : Nat) : Nat := ch * 256 + row

/-- Raise a record from an instance of a unit (R545, R549): its DT is the tick that raises it, its phase that of the trigger's domain.
[Log 33 DESIGN CHOICE, 34 DEDUCED, 35 DEDUCED] -/
def State.raise (s : State) (sev code die unit inst : Nat) (late : Bool := false) : State :=
  let x := s.tickEnd
  { s with raised := s.raised ++ [{ code := code, sev := sev, trig := unit, die := die, inst := inst, dt := x, phase := s.phaseAt (s.fld (Reg.REC_TCFG (unit + 1)) 4 4) x, late := late, held := s.clk.hold && s.clk.xtalLost }] }

/-- Give the record raised last its source flags (R545). [Log 37 DESIGN CHOICE] -/
def State.flagLast (s : State) (flags : Nat) : State :=
  { s with raised := s.raised.dropLast ++ s.raised.getLast?.toList.map (fun r => { r with flags := flags % 65536 }) }

/-- An awaited event won against its timeout: recorded at severity 2 (R12). [Log 49 DEDUCED] -/
def State.lateArrival (s : State) (die unit inst : Nat) : State := s.raise 2 0x0001 die unit inst true

/-- Set an error flag; its first occurrence since the flag was cleared is recorded (R106, R141). [Log 34 DEDUCED] -/
def State.flagErr (s : State) (key i sev code : Nat) : State :=
  let s' := s.flag key i
  if s.bit key i then s' else s'.raise sev code (keyDie key) (keyUnit key) (keyInst key)

/-- The same where the flag is common to a die and the error is that of instance `inst` of the unit (R168). [Log 34 DEDUCED] -/
def State.flagErrAt (s : State) (key i sev code inst : Nat) : State :=
  let s' := s.flag key i
  if s.bit key i then s' else s'.raise sev code (keyDie key) (keyUnit key) inst

/-! ## Requesters -/

end Sys2Proof.Machine

namespace Sys2Proof

/-- The code of a requester: agents 0 to 15 (R37), 16 the debugger. -/
def Requester.code : Requester → Nat
  | .agent a => a.toNat
  | .debugger => 16

end Sys2Proof

namespace Sys2Proof.Machine

/-- The key of a requester's capture or held half of a register (R6). [Log 21 DEDUCED] -/
def capKey (key : Nat) (r : Requester) : Nat := key * 32 + r.code

/-- The state of a die (DIE_DSTAT, R434). -/
def State.dieState (s : State) (die : Nat) : Nat := s.dies.get die 0
/-- The die is lost, rejoining or isolated (R41, R44, R23). -/
def State.dieLost (s : State) (die : Nat) : Bool := s.dieState die == 1 || s.dieState die == 2 || s.dieState die == 4

end Sys2Proof.Machine
end

