-- ==== Sys2Proof/Machine/Governor.lean ====
section
/-!
DEFINITION. Energy credit: the accounts of a window, chunks, admission by class, the shortfall ladder (R280 to R290, R293 to R297).
-/
namespace Sys2Proof.Machine

def State.setPower (s : State) (f : Power → Power) : State := { s with power := f s.power }

/-- GOV_STAT.level. -/
def State.ladder (s : State) : Nat := s.fld Reg.GOV_STAT 0 3

/-- GOV_CTL.adm_en: the rules of R283 to R290 act. -/
def State.admEn (s : State) : Bool := s.bit Reg.GOV_CTL 0

/-- The ladder level whose actions are in force. -/
def State.ladderActs (s : State) : Nat := if s.admEn then s.ladder else 0

/-- The chunk of general credit: GOV_BG.chunk × 4,096 credits, 0 taken as 1 (R284). -/
def State.chunk (s : State) : Nat := max (s.fld Reg.GOV_BG 24 8) 1 * 4096

/-- A temperature threshold in units of 0.25 °C; above 109 °C taken as 109 (R281). -/
def State.threshold (s : State) (lo : Nat) : Int := (min (s.fld Reg.GOV_TH lo 8) 109 * 4 : Nat)

/-- GOV_TMAX.t: the hottest reading of the last window. -/
def State.hottest (s : State) : Int := signed 12 (s.fld Reg.GOV_TMAX 0 12)

/-- Grant chunks of general credit to a purse until it holds `need`, or the pool is empty (R284, R287). -/
def State.grantFor (s : State) (purse need : Nat) : State :=
  let have_ := s.power.credit.get purse 0
  if need ≤ have_ then s
  else
    let g := min ((need - have_ + s.chunk - 1) / s.chunk * s.chunk) s.power.pool
    s.setPower (fun p => { p with credit := p.credit.set purse (have_ + g) 0, pool := p.pool - g })

/-- Grant one chunk, or what is left of the pool (R284). -/
def State.grantChunk (s : State) (purse : Nat) : State :=
  let g := min s.chunk s.power.pool
  s.setPower (fun p => { p with credit := p.credit.set purse (p.credit.get purse 0 + g) 0, pool := p.pool - g })

/-- A PB item waits for credit: pbwait sets, and the window counts once (R287). -/
def State.pbWaits (s : State) : State :=
  let t := s.flag Reg.GOV_STAT 5
  if s.power.pbWaited then t else (t.count Reg.GOV_PBWAIT 1).setPower (fun p => { p with pbWaited := true })

/-- Charge a PB item: PB share, general credit, G by chunks, then the overdraft (R287). -/
def State.chargePb (s : State) (purse cost : Nat) : State :=
  let sh := s.power.share.get purse 0
  let a := min cost sh
  let t := s.grantFor purse (cost - a)
  let b := min (cost - a) (t.power.credit.get purse 0)
  t.setPower (fun p => { p with share := p.share.set purse (sh - a) 0, credit := p.credit.set purse (p.credit.get purse 0 - b) 0, ovd := p.ovd - (cost - a - b), charged := p.charged + cost })

/-- Whether an item of a class is admitted now (R287): 0 PB, 1 BE, 2 BG. -/
def State.admissible (s : State) (cls purse cost : Nat) : Bool :=
  let p := s.power
  if !s.admEn then true
  else match cls with
    | 0 => decide (cost ≤ p.share.get purse 0 + p.credit.get purse 0 + p.pool + p.ovd)
    | 1 => decide (s.ladder < 2) && decide (cost ≤ p.credit.get purse 0 + p.pool)
    | _ => decide (s.ladder = 0) && decide (s.hottest < s.threshold 8) && decide (s.fld Reg.GOV_BG 0 23 + cost ≤ p.pool)

/-- Charge an admitted item (R287); without admission control nothing is charged. -/
def State.charge (s : State) (cls purse cost : Nat) : State :=
  if !s.admEn then s
  else match cls with
    | 0 => s.chargePb purse cost
    | 1 =>
      let t := s.grantFor purse cost
      t.setPower (fun p => { p with credit := p.credit.set purse (p.credit.get purse 0 - cost) 0, charged := p.charged + cost })
    | _ => s.setPower (fun p => { p with pool := p.pool - cost, charged := p.charged + cost })

/-- Present an item of work: admitted and charged, or it waits (R287). -/
def State.present (s : State) (cls purse cost : Nat) : State × Bool :=
  if s.admissible cls purse cost then (s.charge cls purse cost, true)
  else (if cls = 0 then s.pbWaits else s, false)

/-- Effective priority: a BE item rises one step for each 64 windows it has waited, to at most 7 (R288). -/
def effectivePriority (cls prio age : Nat) : Nat := if cls = 1 then min 7 (prio + age / 64) else prio

/-! ## Kinds of job (R285) -/

/-- The declared cost of one unit of a job: 0 scrub, 1 cfg, 2 loupe, 3 retrain, 4 mtest, 5 bist, 6 log. -/
def State.jobCost (s : State) (kind : Nat) : Nat := s.fld (Reg.GOV_JOBC0 + 4 * (kind / 2)) (16 * (kind % 2)) 16

/-- The purse a job is charged to: HD (4) for retraining, memory test and logging, else its die (R285). -/
def jobPurse (kind die : Nat) : Nat := if kind = 3 ∨ kind = 4 ∨ kind = 6 then 4 else die

/-- Admit the next unit of a BG job (R285, R287). -/
def State.jobUnit (s : State) (kind die : Nat) : State × Bool :=
  let r := s.present 2 (jobPurse kind die) (s.jobCost kind)
  if r.2 then (r.1.setPower (fun p => { p with jobs := p.jobs.set (8 * kind + die) (p.jobs.get (8 * kind + die) 0 + 1) 0 }), true)
  else r

/-- Take a unit admitted to a job, or have one admitted now. -/
def State.takeUnit (s : State) (kind die : Nat) : State × Bool :=
  let n := s.power.jobs.get (8 * kind + die) 0
  if 0 < n then (s.setPower (fun p => { p with jobs := p.jobs.set (8 * kind + die) (n - 1) 0 }), true)
  else s.present 2 (jobPurse kind die) (s.jobCost kind)

/-! ## The window (R282, R283) -/

/-- External power of a window in credits (R280, R295). -/
def State.externalCredits (s : State) : Nat :=
  if s.bit Reg.GOV_EXT 0 && !(s.bit Reg.GOV_STAT 8) then s.power.pout.foldl (fun n p => n + p.2) 0 * 10000 / 65536
  else s.fld Reg.GOV_EXT 8 8 * 10000

/-- The effective cap in W and whether it is the polled one (R294, R295). -/
def State.effectiveCap (s : State) : Nat × Bool :=
  let cap := min (max (s.fld Reg.GOV_CAP 0 9) 40) 460
  match s.power.polled with
  | none => (cap, false)
  | some p =>
    let q := min (max p 40) 460
    if s.bit Reg.GOV_PMB 15 && !(s.bit Reg.GOV_STAT 8) && decide (q < cap) then (q, true) else (cap, false)

/-- Sum of the five PB shares. -/
def State.pbReserve (s : State) : Nat := (List.range 5).foldl (fun n i => n + s.fld (Reg.GOV_PBSH i) 0 23) 0

/-- The accounts at the start of a window, from the energy of the last one (R283); with the shortfall judgement. [Log 100 DESIGN CHOICE] -/
def State.openCreditWindow (s : State) (measured : Nat) : State × Bool :=
  let m := measured
  let cap := s.effectiveCap
  let b := cap.1 * 10000
  let f := m - s.power.charged
  let k := m - s.power.budget
  let c : Int := (b : Int) - f - k
  let r := s.pbReserve
  let short := decide (c < (r : Int)) || decide (s.threshold 16 ≤ s.hottest)
  let s1 := s.setPower (fun p => { p with share := (List.range 5).foldl (fun mm i => mm.set i (s.fld (Reg.GOV_PBSH i) 0 23) 0) [], credit := [], pool := (c - (r : Int)).toNat, ovd := s.fld Reg.GOV_CAP 16 16 * 1000, charged := 0, budget := b, pbWaited := false })
  let w25 (x : Int) : Word := BitVec.ofNat 32 ((x % (2 ^ 25 : Nat)).toNat)
  let s2 := ((((s1.wr Reg.GOV_WB (w25 b)).wr Reg.GOV_WF (w25 f)).wr Reg.GOV_WK (w25 k)).wr Reg.GOV_WC (w25 c)).wr Reg.GOV_WM (w25 m)
  let s3 := s2.wr Reg.GOV_CAPEFF (BitVec.ofNat 32 (cap.1 + 512 * b2n cap.2))
  (s3.setBit Reg.GOV_STAT 3 short, short)

/-- Set the ladder level: lvl_chg, a record of severity 3, and on entry to level 4 with the ladder's actions in force E_PB_SHORTFALL at
severity 5 (R289). [Log 217 DEDUCED] -/
def State.setLadder (s : State) (n : Nat) : State :=
  let t := ((s.setFld Reg.GOV_STAT 0 3 n).flag Reg.GOV_STAT 11).raise 3 0x0005 4 0x14 0
  if n = 4 ∧ s.ladder < 4 ∧ s.admEn then (t.flag Reg.GOV_STAT 4).raise 5 (errCode 9 1) 4 0x14 0 else t

/-- One step of the ladder at a window start (R289, R290). -/
def State.ladderStep (s : State) (short : Bool) : State :=
  if short then
    let t := s.setPower (fun p => { p with calm := 0 })
    let u := if s.ladder < 4 then t.setLadder (s.ladder + 1) else t
    if u.ladder = 4 then u.count Reg.GOV_SHORT 1 else u
  else
    let n := s.power.calm + 1
    if max (s.fld Reg.GOV_CTL 4 8) 1 ≤ n then
      let t := s.setPower (fun p => { p with calm := 0 })
      if 0 < s.ladder then t.setLadder (s.ladder - 1) else t
    else s.setPower (fun p => { p with calm := n })

/-! ## PMBus (R293 to R295) -/

/-- A LINEAR11 value in units of 2^-16 (a signed 5-bit exponent over a signed 11-bit mantissa); a negative value reads as 0.
[Log 101 DEDUCED] -/
def linear11 (w : Nat) : Nat :=
  let m := signed 11 w
  let e := signed 5 (w / 2048)
  (m * (2 ^ (e + 16).toNat : Nat)).toNat

/-- A completed READ_POUT (device 0 to 7) or cap reading (8) of a poll (R293, R294). -/
def State.pmbReply (s : State) (dev w : Nat) : State :=
  let t := s.setPower (fun p => { p with fails := p.fails.set dev 0 0 })
  if dev = 8 then
    let watts := linear11 w / 65536
    let u := t.setPower (fun p => { p with polled := some watts })
    if watts < 40 ∨ 460 < watts then u.flagErr Reg.GOV_STAT 7 3 (errCode 9 4) else u
  else t.setPower (fun p => { p with pout := p.pout.set dev (linear11 w) 0 })

/-- A failed transaction: the third failed poll in a row of a device starts the fallback (R295). -/
def State.pmbFail (s : State) (dev : Nat) : State :=
  let n := s.power.fails.get dev 0 + 1
  let t := s.setPower (fun p => { p with fails := p.fails.set dev (min n 3) 0 })
  if n = 3 then ((t.flag Reg.GOV_STAT 6).flag Reg.GOV_STAT 8).raise 3 (errCode 9 3) 4 0x14 0 else t

/-- The devices a poll asks: enabled supplies, and the cap source with `cap_en` (R293). -/
def State.pmbDevices (s : State) : List Nat :=
  (List.range 8).filter (fun n => s.bit (Reg.GOV_PMBDEV n) 7) ++ (if s.bit Reg.GOV_PMB 15 then [8] else [])

/-- One poll; `reply` gives each device's word, none where its transaction fails. The fallback ends when a poll of every
enabled device succeeds (R295). -/
def State.pmbPoll (s : State) (reply : Nat → Option Nat) : State :=
  let devs := s.pmbDevices
  let t := devs.foldl (fun u d => match reply d with | some w => u.pmbReply d w | none => u.pmbFail d) s
  if devs.all (fun d => (reply d).isSome) then t.setBit Reg.GOV_STAT 8 false else t

end Sys2Proof.Machine
end

