-- ==== Sys2Proof/Machine/FacetDispatch.lean ====
section
/-!
DEFINITION. Facet states, urgent events, HALT and FAULT, and the dispatcher of a Region (R227 to R242).
-/
namespace Sys2Proof.Machine

/-! ## Units -/

/-- Local physical Facet `p` of a fabric die (R209). -/
def State.facet (s : State) (die p : Nat) : Facet := s.facets.phys.get (die * 272 + p) {}
def State.setFacet (s : State) (die p : Nat) (f : Facet) : State :=
  { s with facets := { s.facets with phys := s.facets.phys.set (die * 272 + p) f {} } }

/-- The stream ports of a logical Facet: index 16 × local Region + logical (R216). -/
def State.ports (s : State) (die lg : Nat) : Ports := s.facets.ports.get (die * 256 + lg) {}
def State.setPorts (s : State) (die lg : Nat) (q : Ports) : State :=
  { s with facets := { s.facets with ports := s.facets.ports.set (die * 256 + lg) q {} } }

def State.disp (s : State) (die rg : Nat) : Dispatcher := s.facets.disp.get (die * 16 + rg) {}
def State.setDisp (s : State) (die rg : Nat) (d : Dispatcher) : State :=
  { s with facets := { s.facets with disp := s.facets.disp.set (die * 16 + rg) d {} } }

/-- FACET_CTL.en. -/
def State.facetEn (s : State) (die p : Nat) : Bool := s.bit (Reg.FACET_CTL die p) 0

/-- The local physical Facet that logical `log` of a Region maps to (FDSP_MAP). -/
def State.physOf (s : State) (die rg log : Nat) : Nat := 17 * rg + s.fld (Reg.FDSP_MAP die rg (log / 4)) (8 * (log % 4)) 5

/-- The logical index mapped to a physical Facet, if any. -/
def State.logOf (s : State) (die p : Nat) : Option Nat := (List.range 16).find? (fun l => s.physOf die (p / 17) l == p)

/-- The stream ports a physical Facet works with; an unmapped one has none. -/
def State.portsOf (s : State) (die p : Nat) : Ports :=
  match s.logOf die p with | some l => s.ports die (p / 17 * 16 + l) | none => {}

/-! ## States (R227, R228) -/

/-- Out of a task or handler: IDLE or OFF by `en`; a HALT that waits is accepted at once (R233). -/
def State.facetRest (s : State) (die p : Nat) (f : Facet) : State :=
  let g := { f with slot := none, rep := 0, back := false, stall := false }
  if !(s.facetEn die p) then s.setFacet die p { g with state := .off }
  else if g.haltDbg || g.haltFrz then s.setFacet die p { g with state := .halted, haltedFrom := .idle }
  else s.setFacet die p { g with state := .idle }

/-- FAULT: the Facet stops before the faulting bundle takes effect (R234). -/
def State.facetFault (s : State) (die p : Nat) (f : Facet) (c : Cause) : State :=
  let t := s.setFacet die p { f.settle with state := .faulted, stall := false }
  (t.wr (Reg.FACET_FAULT die p) (BitVec.ofNat 32 (f.pc + c.code * 4096))).flagErr (Reg.FACET_STAT die p) 15 4 (errCode 7 1)

/-- Whether the next boundary is valid for an urgent event or HALT: outside delay slots and repetitions, and not after a
loop-back (R230). -/
def Facet.boundary (f : Facet) : Bool := f.slot.isNone && f.rep == 0 && !f.back

/-- The urgent handler starts (R230): boundary pushed, event taken, `ie` cleared, three cycles of refill. -/
def State.facetUrgent (s : State) (die p : Nat) (f : Facet) : State :=
  let g := f.settle
  if 8 ≤ g.calls.length then s.facetFault die p g .cstackOvf
  else
    s.setFacet die p { g with state := .urgent, calls := g.pc :: g.calls, evt := g.code, pend := false, sr := g.sr &&& 0b01111, pc := 8, fromIdle := decide (f.state = .idle), stall := false, cyc := g.cyc + 3, wcyc := if f.state = .idle then g.wcyc else g.wcyc + 3 }

/-- An urgent event with a code reaches a physical Facet (R230, R232). `delay` is the cycles before a boundary may take it. -/
def State.raiseUrgent (s : State) (die p code delay : Nat) : State :=
  let f := s.facet die p
  match f.state with
  | .off | .faulted | .stopped => s.flagErr (Reg.FACET_STAT die p) 17 3 (errCode 7 3)
  | st =>
    if f.pend then (s.setFacet die p { f with ovr := true }).flag (Reg.FACET_STAT die p) 18
    else
      let g := { f with pend := true, code := code, wait := delay }
      if st = .idle then s.facetUrgent die p g else s.setFacet die p g

/-- A pending event is accepted at a valid boundary, or from IDLE; a HALT that waits wins (R230, R232). -/
def State.acceptUrgent (s : State) (die p : Nat) : State :=
  let f := s.facet die p
  let g := f.land
  if !f.pend || f.haltDbg || f.haltFrz then s
  else match f.state with
    | .idle => s.facetUrgent die p f
    | .running => if g.sr.getLsbD 4 && f.boundary && f.wait == 0 then s.facetUrgent die p f else s
    | _ => s

/-- A halt or resume of a Facet is recorded at severity 1 (R539). -/
def State.facetRunRecord (s : State) (die p : Nat) (halted : Bool) : State := s.raise 1 (if halted then 0x0007 else 0x0008) die 0x08 p

/-- HALT is accepted at the next boundary at which an urgent event could be, ignoring `ie`; in IDLE at once (R233). -/
def State.acceptHalt (s : State) (die p : Nat) : State :=
  let f := s.facet die p
  if !(f.haltDbg || f.haltFrz) then s
  else match f.state with
    | .idle => s.setFacet die p { f with state := .halted, haltedFrom := .idle }
    | .running | .urgent => if f.boundary then s.setFacet die p { f with state := .halted, haltedFrom := f.state, stall := false } else s
    | _ => s

/-- Set or clear the halt causes of a Facet; it resumes when both are clear (R228, R233). -/
def State.haltFacet (s : State) (die p : Nat) (dbg frz : Bool) : State :=
  let f := { s.facet die p with haltDbg := dbg, haltFrz := frz }
  if dbg || frz then (if f.state = .idle then (s.setFacet die p { f with state := .halted, haltedFrom := .idle }).facetRunRecord die p true else s.setFacet die p f)
  else if f.state = .halted then
    (if f.haltedFrom = .idle then s.facetRest die p f else s.setFacet die p { f with state := f.haltedFrom }).facetRunRecord die p false
  else s.setFacet die p f

/-- The registers of R212 at their reset values; memories, counters and halt causes stay (R212, R240). -/
def Facet.resetRegs (f : Facet) : Facet :=
  { state := f.state, haltDbg := f.haltDbg, haltFrz := f.haltFrz, haltedFrom := f.haltedFrom, cyc := f.cyc, prog := f.prog, badProg := f.badProg, bankA := f.bankA, bankB := f.bankB, badData := f.badData, broken := f.broken, low := f.low }

/-- ABORT: the task or handler ends and the Facet goes IDLE; a pending event stays pending (R228, R242). -/
def State.abortFacet (s : State) (die p : Nat) : State :=
  let f := s.facet die p
  match f.state with
  | .running | .urgent => s.facetRest die p f.settle
  | _ => s

/-- RESET from FAULTED or HALTED; refused elsewhere (FACET_CMD). -/
def State.resetFacet (s : State) (die p : Nat) : State × Resp :=
  let f := s.facet die p
  match f.state with
  | .faulted | .halted => (s.facetRest die p { f.resetRegs with haltDbg := false, haltFrz := false }, .ok)
  | _ => (s, .refused)

/-- A write of FACET_CTL.en: OFF and IDLE change at once, a running Facet goes OFF when its task ends (R228, R242). -/
def State.enableFacet (s : State) (die p : Nat) : State :=
  let f := s.facet die p
  match f.state with
  | .off | .idle => s.facetRest die p f
  | _ => s

/-! ## Requests (R235 to R238) -/

/-- A field of a task-table entry: word, low bit, width (FDSP_TASK). -/
def State.taskFld (s : State) (die rg task word lo n : Nat) : Nat := s.fld (Reg.FDSP_TASK0 die rg task + 4 * word) lo n

/-- Whether a request may name a task: valid, a mask, a class (R235). -/
def State.taskOk (s : State) (die rg task : Nat) : Bool :=
  decide (s.taskFld die rg task 0 31 1 = 1) && decide (s.taskFld die rg task 1 0 16 ≠ 0) && decide (s.taskFld die rg task 0 12 2 ≠ 3)

/-- A dropped request (R235, R236): the flag, its record, and FDSP_DROP. -/
def State.dropRequest (s : State) (die rg bit row : Nat) : State :=
  (s.flagErr (Reg.FDSP_STAT die rg) bit 3 (errCode 7 row)).count (Reg.FDSP_DROP die rg) 1

/-- A task request reaches a dispatcher (R235, R236); the answer says whether it was refused. `cal`: by DISPATCH. [Log 93 DEDUCED] -/
def State.requestTask (s : State) (die rg task param : Nat) (deadline : Option EndAt) (cal : Bool) : State × Bool :=
  let d := s.disp die rg
  if !(s.bit (Reg.FDSP_CTL die rg) 0) then (s, false)
  else if !(s.taskOk die rg task) then (if cal then s else s.dropRequest die rg 10 4, true)
  else if 128 ≤ d.ready.length then (s.dropRequest die rg 8 5, true)
  else
    let dl := s.taskFld die rg task 3 0 24
    let due := match deadline with
      | some e => some e
      | none => if dl = 0 then none else some (.time (s.tickEnd + BitVec.ofNat 64 (32 * dl)))
    (s.setDisp die rg { d with ready := d.ready ++ [{ task := task, param := param, deadline := due }] }, false)

/-- Whether a deadline has come: a DT, or the tick boundary at which its domain has reached the phase (R237). -/
def State.deadlineDue (s : State) : EndAt → Bool
  | .time x => decide (x ≤ s.now)
  | .phase d p w x => decide (x ≤ s.now) && decide ((w : Int) ≤ distance p (s.dom d).phase)

/-- A PB task not started by its deadline is reported late (R237). -/
def State.reportLate (s : State) (die rg : Nat) : State :=
  (s.flagErr (Reg.FDSP_STAT die rg) 9 3 (errCode 7 6)).count (Reg.FDSP_LATE die rg) 1

/-- The deadline check of the `i`-th request of a ready queue (R237). -/
def State.lateReady (s : State) (die rg i : Nat) : State :=
  let d := s.disp die rg
  match d.ready[i]? with
  | none => s
  | some r =>
    match r.deadline with
    | none => s
    | some e =>
      if s.taskFld die rg r.task 0 12 2 = 0 ∧ !r.late ∧ s.deadlineDue e then
        (s.setDisp die rg { d with ready := d.ready.set i { r with late := true } }).reportLate die rg
      else s

/-- The deadline check of a task assigned to a physical Facet and not started (R237). -/
def State.lateAssigned (s : State) (die p : Nat) : State :=
  let f := s.facet die p
  match f.run.deadline with
  | none => s
  | some e =>
    if f.run.cls = 0 ∧ !f.run.started ∧ !f.run.late ∧ f.state = .running ∧ s.deadlineDue e then
      (s.setFacet die p { f with run := { f.run with late := true } }).reportLate die (p / 17)
    else s

/-! ## Assignment (R229, R236) -/

/-- Whether logical Facet `l` is free: IDLE, no pending event, not in a remap. -/
def State.facetFree (s : State) (die rg l : Nat) : Bool :=
  let f := s.facet die (s.physOf die rg l)
  f.state == .idle && !f.pend && (match (s.disp die rg).remap with | some (m, _) => m != l | none => true)

/-- The lowest-numbered free logical Facet of a mask. -/
def State.freeFacet (s : State) (die rg mask : Nat) : Option Nat :=
  (List.range 16).find? (fun l => mask.testBit l && s.facetFree die rg l)

/-- Whether a queued request is admitted, or would be now (R287). -/
def State.requestAdmitted (s : State) (die rg : Nat) (r : Request) : Bool :=
  r.admitted || s.admissible (s.taskFld die rg r.task 0 12 2) die (s.taskFld die rg r.task 1 16 16)

/-- Effective priority of a queued request (R288). -/
def State.requestPriority (s : State) (die rg : Nat) (r : Request) : Nat :=
  effectivePriority (s.taskFld die rg r.task 0 12 2) (s.taskFld die rg r.task 0 14 3) r.age

/-- The request to assign: admitted, with a free Facet, of the highest priority, the oldest among those (R236). -/
def State.choose (s : State) (die rg : Nat) : Option (Nat × Request × Nat) :=
  ((s.disp die rg).ready.zipIdx).foldl (fun best x =>
    let r := x.1
    match s.freeFacet die rg (s.taskFld die rg r.task 1 0 16) with
    | none => best
    | some l =>
      if !(s.requestAdmitted die rg r) then best
      else match best with
        | none => some (x.2, r, l)
        | some (_, b, _) => if s.requestPriority die rg b < s.requestPriority die rg r then some (x.2, r, l) else best) none

/-- The task starts on a Facet (R229): PC, TASK, stacks and REP state; other registers keep their values. [Log 92 DEDUCED] -/
def State.startTask (s : State) (die rg : Nat) (r : Request) (l : Nat) : State :=
  let p := s.physOf die rg l
  let f := (s.facet die p).settle
  let w3 := s.rd (Reg.FDSP_TASK3 die rg r.task)
  let run : TaskRun := { task := r.task, param := r.param, cls := s.taskFld die rg r.task 0 12 2, wdog := s.taskFld die rg r.task 2 0 24, chain := if wbit w3 30 then some (wfld w3 24 6) else none, irq := wbit w3 31, cost := s.taskFld die rg r.task 1 16 16, deadline := r.deadline, late := r.late }
  s.setFacet die p { f with state := .running, pc := s.taskFld die rg r.task 0 0 12, task := r.task, param := r.param, loops := [], calls := [], rep := 0, slot := none, back := false, stall := false, wcyc := 0, wdone := false, run := run }

/-- Whether the dispatcher may assign: enabled, not frozen by debug, its Facet domain in RUN (R240). -/
def State.dispReady (s : State) (die rg : Nat) (frozen : Bool) : Bool :=
  s.bit (Reg.FDSP_CTL die rg) 0 && !frozen && s.power.dom.get (64 + 16 * die + rg) 0 == 0

/-- One assignment (R236): the request is charged unless it was admitted before; a PB request that cannot be admitted waits.
[Log 92 DEDUCED] -/
def State.assign (s : State) (die rg : Nat) (frozen : Bool) : State :=
  if !(s.dispReady die rg frozen) then s
  else match s.choose die rg with
    | none =>
      if (s.disp die rg).ready.any (fun r => s.taskFld die rg r.task 0 12 2 == 0 && !(s.requestAdmitted die rg r)) then s.pbWaits else s
    | some (i, r, l) =>
      let t := if r.admitted then s else s.charge (s.taskFld die rg r.task 0 12 2) die (s.taskFld die rg r.task 1 16 16)
      (t.setDisp die rg { t.disp die rg with ready := (t.disp die rg).ready.eraseIdx i }).startTask die rg r l

/-- The governor admits the `i`-th request of a ready queue (R287). [Log 92 DEDUCED] -/
def State.admitRequest (s : State) (die rg i : Nat) : State :=
  let d := s.disp die rg
  match d.ready[i]? with
  | none => s
  | some r =>
    if r.admitted then s
    else
      let a := s.present (s.taskFld die rg r.task 0 12 2) die (s.taskFld die rg r.task 1 16 16)
      if a.2 then a.1.setDisp die rg { d with ready := d.ready.set i { r with admitted := true } } else a.1

/-- A task completes at WAIT (R238): counted, chained, `done`. [Log 88 DEDUCED] -/
def State.completeTask (s : State) (die p : Nat) (run : TaskRun) : State :=
  let rg := p / 17
  let s1 := s.count (Reg.FDSP_DONE die rg run.task) 1
  let s2 := match run.chain with | some c => (s1.requestTask die rg c run.param none false).1 | none => s1
  s2.flagIf run.irq (Reg.FDSP_STAT die rg) 12

/-! ## Region changes and remapping (R240, R241) -/

/-- The Facets of a Region enter STOPPED; tasks are abandoned. -/
def State.stopFacets (s : State) (die rg : Nat) (reset : Bool) : State :=
  (List.range 17).foldl (fun t k =>
    let p := 17 * rg + k
    let f := t.facet die p
    t.setFacet die p { (if reset then f.resetRegs else f.settle) with state := .stopped, slot := none, rep := 0, back := false, stall := false, run := {} }) s

/-- The ready queue of a Region is emptied, each request counted (R240). -/
def State.emptyReady (s : State) (die rg : Nat) : State :=
  let d := s.disp die rg
  (s.setDisp die rg { d with ready := [] }).count (Reg.FDSP_DROP die rg) d.ready.length

/-- A cause of STOPPED holds: the Region is not ACTIVE, is in REGION_RESET, or its Facet domain is not in run (R228, R240, R473). -/
def State.facetsStopped (s : State) (die rg : Nat) : Bool :=
  let r := s.live.regions.get (die * 16 + rg) {}
  r.state != .active || r.reset || s.power.dom.get (64 + 16 * die + rg) 0 != 0

/-- A cause of STOPPED ends: IDLE or OFF by `en`, once no other holds (R228). -/
def State.restartFacets (s : State) (die rg : Nat) : State :=
  if s.facetsStopped die rg then s
  else (List.range 17).foldl (fun t k =>
    let p := 17 * rg + k
    let f := t.facet die p
    if f.state = .stopped then t.facetRest die p f else t) s

/-- Whether a physical Facet may take part in a remap (R241). -/
def Facet.movable (f : Facet) : Bool := f.state == .off || f.state == .idle || f.state == .halted || f.state == .faulted

/-- A write of FDSP_REMAP with `busy` = 1 (R241). -/
def State.remapWrite (s : State) (die rg : Nat) (w : Word) : State × Resp :=
  let key := Reg.FDSP_REMAP die rg
  let log := wfld w 0 4
  let phys := wfld w 4 5
  let d := s.disp die rg
  if d.remap.isSome then (s, .refused)
  else if !(wbit w 31) then (s.wr key (w &&& 0x3FF), .ok)
  else
    let t := s.wr key (w &&& 0x3FF)
    if 17 ≤ phys ∨ (s.logOf die (17 * rg + phys)).isSome ∨ !(s.facet die (s.physOf die rg log)).movable ∨ !(s.facet die (17 * rg + phys)).movable ∨ (s.facet die (17 * rg + phys)).broken then
      (s.flagErr (Reg.FDSP_STAT die rg) 11 3 (errCode 7 7), .refused)
    else (t.setDisp die rg { d with remap := some (log, phys) }, .ok)

/-- Memories and registers of R212 copied from one Facet to another (R241). -/
def Facet.copyFrom (new old : Facet) : Facet :=
  let f := old.settle
  { new with d := f.d, a := f.a, p := f.p, s := f.s, l := f.l, sr := f.sr, mr := f.mr, lc := f.lc, pc := f.pc, task := f.task, param := f.param, evt := f.evt, pend := f.pend, ovr := f.ovr, code := f.code, loops := f.loops, calls := f.calls, wr := [], prog := f.prog, badProg := f.badProg, bankA := f.bankA, bankB := f.bankB, badData := f.badData }

/-- The copy ends and the map changes in one cycle; each Facet follows its `en` from OFF and IDLE alone (R228, R241). -/
def State.remapDone (s : State) (die rg : Nat) : State :=
  match (s.disp die rg).remap with
  | none => s
  | some (log, phys) =>
    let old := s.physOf die rg log
    let new := 17 * rg + phys
    let s1 := if s.bit (Reg.FDSP_REMAP die rg) 9 then s.setFacet die new ((s.facet die new).copyFrom (s.facet die old)) else s
    let s2 := (s1.setBit (Reg.FACET_CTL die new) 0 (s.facetEn die old)).setBit (Reg.FACET_CTL die old) 0 false
    let s3 := (s2.setFld (Reg.FDSP_MAP die rg (log / 4)) (8 * (log % 4)) 5 phys).setDisp die rg { s2.disp die rg with remap := none }
    (s3.enableFacet die new).enableFacet die old

end Sys2Proof.Machine
end

