-- ==== Sys2Proof/Machine/Memory.lean ====
section
/-!
DEFINITION. DDR5 channels and CXL ports: address decoding, scheduling, refresh, row-disturbance protection, training, memory
tests, link events and endpoint mode (R329 to R350).
-/
namespace Sys2Proof.Machine

def State.chan (s : State) (c : Nat) : Channel := s.mem.chans.get c {}
def State.setChan (s : State) (c : Nat) (x : Channel) : State := { s with mem := { s.mem with chans := s.mem.chans.set c x {} } }
def State.cxl (s : State) (p : Nat) : CxlPort := s.mem.ports.get p {}
def State.setCxl (s : State) (p : Nat) (x : CxlPort) : State := { s with mem := { s.mem with ports := s.mem.ports.set p x {} } }

/-! ## Addresses (R24, R330, R344, R351) -/

/-- 2^30. -/
def gib : Nat := 1073741824

/-- Capacity of a channel in bytes (R329). -/
def State.capacity (s : State) (c : Nat) : Nat :=
  let w := s.rd (Reg.DDR_CFG c)
  (wfld w 1 1 + 1) * 2 * (if wbit w 4 then 2 else 4) * (16 + 8 * wfld w 2 2) * (gib / 8)

/-- Whether a channel is populated (DDR_CFG.present). -/
def State.populated (s : State) (c : Nat) : Bool := s.bit (Reg.DDR_CFG c) 0

/-- The channel and channel-local address of a DDR5 address; none: NO_TARGET (R330). -/
def State.ddrDecode (s : State) (a : Nat) : Option (Nat × Nat) :=
  match s.fld Reg.DDR_GCTL 0 2 with
  | 0 =>
    let c := a / (64 * gib)
    if c < 4 ∧ s.populated c ∧ a % (64 * gib) < s.capacity c then some (c, a % (64 * gib)) else none
  | 1 =>
    let g := a / (128 * gib)
    let a' := a % (128 * gib)
    let c := 2 * g + a' / 256 % 2
    if g < 2 ∧ s.populated (2 * g) ∧ s.populated (2 * g + 1) ∧ a' < 2 * s.capacity (2 * g) then some (c, a' / 512 * 256 + a' % 256) else none
  | 2 =>
    if (List.range 4).all s.populated ∧ a < 4 * s.capacity 0 then some (a / 256 % 4, a / 1024 * 256 + a % 256) else none
  | _ => none

/-- CXL_CTL.ilv on either port: the windows form one range (R24, R344). -/
def State.crossPort (s : State) : Bool := s.bit (Reg.CXL_CTL 0) 2

/-- A port in a root mode (R343). -/
def State.rootMode (s : State) (p : Nat) : Bool := decide (s.fld (Reg.CXL_CTL p) 0 2 < 2)

/-- The port of an address in the CXL windows (R24, R344). -/
def State.cxlPort (s : State) (a : Nat) : Nat := if s.crossPort then a / 4096 % 2 else if a < 0x30000000000 then 0 else 1

/-- The enabled decoder that covers an address, and its link: true for link B; none: NO_TARGET (R344). -/
def State.hdm (s : State) (p a : Nat) : Option Bool :=
  if !(s.rootMode p) then none
  else
    ((List.range 8).find? (fun n => s.bit (Reg.CXL_HDM_BASE p n) 31 && decide (s.fld (Reg.CXL_HDM_BASE p n) 0 20 ≤ a / 2 ^ 28) && decide (a / 2 ^ 28 ≤ s.fld (Reg.CXL_HDM_LIMIT p n) 0 20))).map (fun n =>
      if s.bit (Reg.CXL_HDM_LIMIT p n) 21 then decide (a / (if s.crossPort then 8192 else 4096) % 2 = 1) else s.bit (Reg.CXL_HDM_LIMIT p n) 20)

/-- CXL_LSTAT of link A or B. -/
def lstat (p : Nat) (linkB : Bool) : Nat := if linkB then Reg.CXL_LSTAT1 p else Reg.CXL_LSTAT0 p

/-- Whether a link is UP and carries CXL. -/
def State.linkUp (s : State) (p : Nat) (linkB : Bool) : Bool := s.fld (lstat p linkB) 0 2 == 2
def State.linkCxl (s : State) (p : Nat) (linkB : Bool) : Bool := s.linkUp p linkB && s.bit (lstat p linkB) 10

/-- Where a memory address lands: engine and engine-local address, or the response that refuses it (R24, R330, R344, R351).
[Log 224 DEDUCED] -/
def State.locate (s : State) (a : Nat) : Except Resp (Nat × Nat) :=
  if a < 0x4000000000 then
    match s.ddrDecode a with
    | none => .error .noTarget
    | some (c, l) => match (s.chan c).state with
      | .failed | .off | .init => .error .unreachable
      | _ => .ok (c, l)
  else if 0x10000000000 ≤ a ∧ a < 0x50000000000 then
    let p := s.cxlPort a
    match s.hdm p a with
    | none => .error .noTarget
    | some l =>
      if !(s.linkCxl p l) then .error .unreachable
      else if s.crossPort then
        let o := a - 0x10000000000
        .ok (4 + p, o / 8192 * 4096 + o % 4096)
      else .ok (4 + p, a - (if p = 0 then 0x10000000000 else 0x30000000000))
  else .error .noTarget

/-- The system physical address of an engine-local address (the inverse of R330 and R351). -/
def State.systemAddress (s : State) (e l : Nat) : Nat :=
  if e < 4 then
    match s.fld Reg.DDR_GCTL 0 2 with
    | 0 => e * (64 * gib) + l
    | 1 => e / 2 * (128 * gib) + l / 256 * 512 + e % 2 * 256 + l % 256
    | _ => l / 256 * 1024 + e * 256 + l % 256
  else if s.crossPort then 0x10000000000 + l / 4096 * 8192 + (e - 4) * 4096 + l % 4096
  else (if e = 4 then 0x10000000000 else 0x30000000000) + l

/-! ## Row activations (R336, R337) -/

/-- The activation-count table after an activation of a row, and whether its neighbours are due (R337). -/
def activate (thr row : Nat) (t : List (Nat × Nat)) : List (Nat × Nat) × Bool :=
  let hit (i n : Nat) : List (Nat × Nat) × Bool := if thr ≤ n then (t.set i (row, 0), true) else (t.set i (row, n), false)
  match t.zipIdx.find? (fun x => x.1.1 == row) with
  | some (x, i) => hit i (x.2 + 1)
  | none =>
    if t.length < 32 then (if thr ≤ 1 then (t ++ [(row, 0)], true) else (t ++ [(row, 1)], false))
    else
      let low := t.foldl (fun m x => min m x.2) (t.headD (0, 0)).2
      match t.zipIdx.find? (fun x => x.1.2 == low) with
      | some (x, i) => hit i (x.2 + 1)
      | none => (t, false)

/-- DDR_RH.thr, 0 taken as 1. -/
def State.actThreshold (s : State) (c : Nat) : Nat := max (s.fld (Reg.DDR_RH c) 0 16) 1

/-- Open a row in a bank: an activation unless the row is open (R336, R337). -/
def State.openRow (s : State) (c bank row : Nat) : State :=
  let ch := s.chan c
  if ch.opened.get bank none = some row then s
  else
    let ch1 := { ch with opened := ch.opened.set bank (some row) none }
    let s1 := s.setChan c ch1
    let s2 := if s.bit (Reg.DDR_CTL c) 3 then
        let n := ch1.raa.get bank 0 + 1
        if 0 < ch1.rfmThr ∧ ch1.rfmThr ≤ n then (s1.setChan c { ch1 with raa := ch1.raa.set bank 0 0 }).count (Reg.DDR_RFMCNT c) 1
        else s1.setChan c { ch1 with raa := ch1.raa.set bank n 0 }
      else s1
    if s.bit (Reg.DDR_CTL c) 4 then
      let r := activate (s.actThreshold c) row (ch1.acts.get bank [])
      let s3 := s2.setChan c { s2.chan c with acts := (s2.chan c).acts.set bank r.1 [] }
      if r.2 then s3.count (Reg.DDR_RHCNT c) 1 else s3
    else s2

/-! ## Scheduling (R332 to R334) -/

/-- The sub-channel of a bank: its lowest bit. -/
def Channel.wq (ch : Channel) (bank : Nat) : List MemReq := if bank % 2 = 0 then ch.wq0 else ch.wq1
def Channel.setWq (ch : Channel) (bank : Nat) (q : List MemReq) : Channel := if bank % 2 = 0 then { ch with wq0 := q } else { ch with wq1 := q }

/-- The write to issue next: the oldest of those older than the age limit, in dtu; otherwise the highest priority, then a row hit, then
the oldest (R333). -/
def pickWrite (opened : SMap (Option Nat)) (now : DWord) (limit : Nat) (q : List MemReq) : Option MemReq :=
  match q.find? (fun r => decide (limit < (now - r.at_).toNat)) with
  | some r => some r
  | none => q.foldl (fun best r =>
    let score (x : MemReq) : Nat := 2 * x.prio + b2n (decide (opened.get x.bank none = some x.row))
    match best with
    | none => some r
    | some b => if score b < score r then some r else best) none

/-- Issue one queued write: its row opens. -/
def State.issueWrite (s : State) (c : Nat) (r : MemReq) : State :=
  let ch := s.chan c
  (s.setChan c (ch.setWq r.bank ((ch.wq r.bank).erase r))).openRow c r.bank r.row

/-- DDR_CTL.age in dtu, 0 taken as 1 (R333). [Log 225 DEDUCED] -/
def State.ageLimit (s : State) (c : Nat) : Nat := max (s.fld (Reg.DDR_CTL c) 8 8) 1 * 160

/-- Issue writes until at most `keep` are left, the best first (R333). [Log 113 DEDUCED] -/
def State.drain (s : State) (c bank keep : Nat) : Nat → State
  | 0 => s
  | n + 1 =>
    if ((s.chan c).wq bank).length ≤ keep then s
    else match pickWrite (s.chan c).opened s.now (s.ageLimit c) ((s.chan c).wq bank) with
      | none => s
      | some r => (s.issueWrite c r).drain c bank keep n

/-- DDR_CTL.wq_hi, and wq_lo with its limit (R333). -/
def State.wqHi (s : State) (c : Nat) : Nat := s.fld (Reg.DDR_CTL c) 16 6
def State.wqLo (s : State) (c : Nat) : Nat := min (s.fld (Reg.DDR_CTL c) 22 6) (s.wqHi c - 1)

/-- Drain the write queue when it has reached `wq_hi`. [Log 113 DEDUCED] -/
def State.drainHigh (s : State) (c bank : Nat) : State :=
  if max (s.wqHi c) 1 ≤ ((s.chan c).wq bank).length then s.drain c bank (s.wqLo c) 64 else s

/-- A read meets a queued write of its bank and row: the bank's writes up to it issue in arrival order first (R334). -/
def State.inOrder (s : State) (c bank row : Nat) : State :=
  let mine := ((s.chan c).wq bank).filter (fun r => r.bank == bank)
  if mine.any (fun r => r.row == row) then mine.foldl (fun t r => t.issueWrite c r) s else s

/-- Whether a channel serves accesses (R341). -/
def State.serving (s : State) (c : Nat) : Bool := (s.chan c).state == .ready || (s.chan c).state == .retrain

/-- A read is scheduled (R333, R334). -/
def State.scheduleRead (s : State) (c bank row : Nat) : State := ((s.drainHigh c bank).inOrder c bank row).openRow c bank row

/-- A write enters the write queue, which acknowledges it; a full queue drains first (R332, R333). -/
def State.queueWrite (s : State) (c : Nat) (r : MemReq) : State :=
  let t := if 64 ≤ ((s.chan c).wq r.bank).length then s.drain c r.bank (s.wqLo c) 64 else s
  (t.setChan c ((t.chan c).setWq r.bank ((t.chan c).wq r.bank ++ [{ r with at_ := s.now }]))).drainHigh c r.bank

/-- An uncorrectable line (R331). -/
def State.uncorrectable (s : State) (c a : Nat) : State :=
  let t := if s.bit (Reg.DDR_STAT c) 9 then s else s.wrPair (Reg.DDR_UEADDR_LO c) (Reg.DDR_UEADDR_HI c) (BitVec.ofNat 64 a)
  (t.count (Reg.DDR_UECNT c) 1).flagErr (Reg.DDR_STAT c) 9 5 (errCode 11 1)

/-- A corrected line; it is written back unless a newer write to it is queued, which changes no content (R331). -/
def State.corrected (s : State) (c : Nat) : State := (s.count (Reg.DDR_CECNT c) 1).flag (Reg.DDR_STAT c) 8

/-- An engine takes poison from its channel or port (R331, R346): an uncorrectable line, or read data that a CXL device marks.
[Log 226 DEDUCED] -/
def State.mediaPoison (s : State) (e a : Nat) (fresh : Bool) : State :=
  if 4 ≤ e then (s.count (Reg.CXL_POISCNT (e - 4)) 1).flagErr (Reg.CXL_ERR (e - 4)) 0 4 (errCode 11 5)
  else if fresh then s.uncorrectable e a
  else s

/-! ## Refresh (R335) -/

/-- A refresh falls due: one pulled in before is skipped; an all-bank refresh closes every row. [Log 114 DEDUCED] -/
def State.refresh (s : State) (c : Nat) : State :=
  let ch := s.chan c
  if !(s.serving c) then s
  else if 0 < ch.pulled then s.setChan c { ch with pulled := ch.pulled - 1 }
  else if s.fld (Reg.DDR_CTL c) 1 2 = 2 then s.setChan c { ch with group := (ch.group + 1) % 8 }
  else s.setChan c { ch with opened := [] }

/-! ## Training and retraining (R338 to R341) -/

/-- DDR_STAT.state codes. -/
def ChState.code : ChState → Nat
  | .off => 0 | .init => 1 | .ready => 2 | .retrain => 3 | .sref => 4 | .failed => 5

/-- Whether a channel may leave OFF: its domain in RUN, `en` and `present` set (R341). -/
def State.mayTrain (s : State) (c : Nat) : Bool :=
  s.power.dom.get (148 + c) 0 == 0 && s.bit (Reg.DDR_CTL c) 0 && s.populated c

/-- Training begins: from OFF, or from FAILED by `init`. -/
def State.beginTraining (s : State) (c : Nat) : State := s.setChan c { (s.chan c) with state := .init, opened := [], acts := [], raa := [] }

/-- DDR_RT.min. -/
def State.eyeMin (s : State) (c : Nat) : Nat := s.fld (Reg.DDR_RT c) 10 6

/-- Whether every lane's read and write windows are wide enough (R338, R340). -/
def State.eyesPass (s : State) (c : Nat) (eyes : List Word) : Bool :=
  eyes.all (fun w => decide (s.eyeMin c ≤ wfld w 0 8) && decide (s.eyeMin c ≤ wfld w 16 8))

/-- New lane windows and centres apply together (DDR_EYE0 to DDR_EYE9). -/
def State.setEyes (s : State) (c : Nat) (eyes : List Word) : State :=
  (eyes.take 10).zipIdx.foldl (fun t x => t.wr (Reg.DDR_EYE c x.2) x.1) s

/-- Training ends: READY, or FAILED with E_DDR_TRAIN (R338); outside INIT there is none to end. [Log 5 DEDUCED] -/
def State.endTraining (s : State) (c : Nat) (eyes : List Word) (rfmThr : Nat) : State :=
  let t := s.setEyes c eyes
  if (s.chan c).state ≠ .init then s
  else if s.eyesPass c eyes then t.setChan c { t.chan c with state := .ready, rfmThr := rfmThr }
  else (t.setChan c { t.chan c with state := .failed }).flagErr (Reg.DDR_STAT c) 6 5 (errCode 11 2)

/-- Slots of one retraining: 32 per rank (R339). -/
def State.slotsOf (s : State) (c : Nat) : Nat := 32 * (s.fld (Reg.DDR_CFG c) 1 1 + 1)

/-- DDR_RT.go (R339, R341). -/
def State.retrain (s : State) (c : Nat) : State × Resp :=
  if (s.chan c).state = .ready then ((s.setChan c { s.chan c with state := .retrain }).setFld (Reg.DDR_RT c) 16 7 0, .ok) else (s, .refused)

/-- Whether the normal service between two slots still runs: DDR_RT.gap in µs, 0 taken as 1, from the slot before (R339).
[Log 225 DEDUCED] -/
def State.gapRuns (s : State) (c : Nat) : Bool :=
  decide (0 < s.fld (Reg.DDR_RT c) 16 7 ∧ (s.now - (s.chan c).slotAt).toNat < max (s.fld (Reg.DDR_RT c) 2 8) 1 * 16000)

/-- One admitted slot: refreshes pulled in, rows saved and written back; after the last one the new centres apply together or
are rejected (R339, R340). -/
def State.retrainSlot (s : State) (c : Nat) (eyes : List Word) : State :=
  if (s.chan c).state ≠ .retrain ∨ s.gapRuns c then s
  else
    let a := s.takeUnit 3 4
    if !a.2 then s
    else
      let ch := a.1.chan c
      let pull := if a.1.fld (Reg.DDR_CTL c) 1 2 = 0 ∨ a.1.fld (Reg.DDR_CTL c) 1 2 = 3 then 4 else 7
      let n := a.1.fld (Reg.DDR_RT c) 16 7 + 1
      let t := (a.1.setChan c { ch with pulled := pull, opened := [], slotAt := s.now }).setFld (Reg.DDR_RT c) 16 7 n
      if n < a.1.slotsOf c then t
      else
        let u := t.setChan c { t.chan c with state := .ready }
        if t.eyesPass c eyes then u.setEyes c eyes else u.flagErr (Reg.DDR_STAT c) 7 3 (errCode 11 3)

/-- `abort` ends the retraining with the old settings (R340). -/
def State.retrainAbort (s : State) (c : Nat) : State :=
  if (s.chan c).state = .retrain then s.setChan c { s.chan c with state := .ready } else s

/-- A channel goes OFF: its contents are lost (R278, R341). -/
def State.channelOff (s : State) (c : Nat) : State :=
  let e := s.mem.engines.get c {}
  let t := s.setChan c {}
  { t with mem := { t.mem with engines := t.mem.engines.set c { e with lines := [] } {} } }

/-! ## CXL (R343 to R347) -/

/-- A link trains and enters UP (R343). [Log 211 DEDUCED] -/
def State.linkTrained (s : State) (p : Nat) (linkB : Bool) (rate width : Nat) (cxl : Bool) : State :=
  let key := lstat p linkB
  if !s.boot.phaseA ∨ s.fld key 0 2 = 3 then s
  else s.wr key (BitVec.ofNat 32 (2 + 4 * (rate % 8) + 32 * (width % 32) + 1024 * b2n cxl + 2048 * b2n (s.bit key 11) + 4096))

/-- A link leaves UP (R346): its outstanding requests complete with UNREACHABLE, E_CXL_LINK at severity 5. -/
def State.linkLost (s : State) (p : Nat) (linkB : Bool) (next : Nat) : State :=
  let key := lstat p linkB
  if s.fld key 0 2 = 3 then s
  else if !(s.linkUp p linkB) then s.setFld key 0 2 next
  else
    let cp := s.cxl p
    let lost := cp.outstanding.filter (fun r => r.linkB == linkB)
    let t := (s.setCxl p { cp with outstanding := cp.outstanding.filter (fun r => r.linkB != linkB) }).setFld key 0 2 next
    let u := t.flagErr key 11 5 (errCode 11 7)
    lost.foldl (fun s r => s.completeAccess r.req r.write r.addr .unreachable 0) u

/-- A configuration or device-register request (R345): the root port's own function answers at once, other requests wait for
their completion; a link that is not UP answers UNREACHABLE. -/
def State.cxlRequest (s : State) (p : Nat) (r : CxlReq) : State :=
  let cp := s.cxl p
  if s.linkUp p r.linkB then s.setCxl p { cp with outstanding := cp.outstanding ++ [r] }
  else s.completeAccess r.req r.write r.addr .unreachable 0

/-- An unsupported request returns all ones and sets `ur` (R345). -/
def State.unsupported (s : State) (p : Nat) : State := (s.flag (Reg.CXL_ERR p) 2).answer .ok 0xFFFFFFFF

/-- A CXL_CFGDATA access (R345). [Log 118 DEDUCED] -/
def State.configRequest (s : State) (p : Nat) (write : Option Word) (req addr : Nat) : State :=
  let a := s.rd (Reg.CXL_CFGADDR p)
  let linkB := wbit a 28
  if s.fld (lstat p linkB) 0 2 = 3 ∨ !(s.rootMode p) then s.unsupported p
  else if wfld a 20 8 = 0 then
    if wfld a 12 8 ≠ 0 then s.unsupported p
    else
      let k := b2n linkB * 4096 + wfld a 0 12 / 4 * 4
      let cp := s.cxl p
      match write with
      | some w => (s.setCxl p { cp with own := cp.own.set k w 0 }).answer .ok 0
      | none => s.answer .ok (cp.own.get k 0)
  else s.cxlRequest p { linkB := linkB, req := req, write := write.isSome, addr := addr }

/-- A completion of the oldest outstanding request of a link (R345, R346); one that finds none is discarded. -/
def State.cxlComplete (s : State) (p : Nat) (linkB : Bool) (data : Word) (poison ur late : Bool) : State :=
  let cp := s.cxl p
  match cp.outstanding.find? (fun r => r.linkB == linkB) with
  | none => s
  | some r =>
    let t := s.setCxl p { cp with outstanding := cp.outstanding.erase r }
    let t := if late then (t.flag (Reg.CXL_ERR p) 3).lateArrival 4 0x11 p else t
    if ur then (t.flag (Reg.CXL_ERR p) 2).completeAccess r.req r.write r.addr .ok 0xFFFFFFFF
    else if poison then ((t.flagErr (Reg.CXL_ERR p) 0 4 (errCode 11 5)).count (Reg.CXL_POISCNT p) 1).completeAccess r.req r.write r.addr .unreachable 0
    else t.completeAccess r.req r.write r.addr .ok data

/-- The oldest outstanding request of a link is not completed in time (R346); in CLOCK_HOLD the time stands still (R423).
[Log 235 DEDUCED] -/
def State.cxlTimeout (s : State) (p : Nat) (linkB : Bool) : State :=
  let cp := s.cxl p
  match if s.clk.hold then none else cp.outstanding.find? (fun r => r.linkB == linkB) with
  | none => s
  | some r =>
    (((s.setCxl p { cp with outstanding := cp.outstanding.erase r }).flagErr (Reg.CXL_ERR p) 1 4 (errCode 11 6)).count (Reg.CXL_CTOCNT p) 1).completeAccess r.req r.write r.addr .unreachable 0

/-- MSI-X vector `v` is raised to the host of a port (R347). -/
def State.raiseMsix (s : State) (p v : Nat) : State :=
  let cp := s.cxl p
  s.setCxl p { cp with msix := cp.msix.filter (· != v) ++ [v] }

/-- A function-level reset in endpoint mode (R347); its queues are `State.hostGone`. -/
def State.functionReset (s : State) (p : Nat) : State :=
  (s.setCxl p { s.cxl p with msix := [] }).flag (Reg.CXL_ERR p) 5

end Sys2Proof.Machine
end

