-- ==== Sys2Proof/Machine/Protection.lean ====
section
/-!
DEFINITION. Memory encryption and integrity: keys, the counter tree, protected reads and writes, alarms, rebuilding,
retirement, the region table and memory tests (R342, R351 to R381).

Cryptography is idealised: a check passes exactly when memory returns what was last written under the current counters, which
the operand `Fetch` of an access says.
-/
namespace Sys2Proof.Machine

def State.engine (s : State) (e : Nat) : Engine := s.mem.engines.get e {}
def State.setEngine (s : State) (e : Nat) (x : Engine) : State := { s with mem := { s.mem with engines := s.mem.engines.set e x {} } }

/-- The key of a tree block (R352): level and index, leaf blocks at level 0. -/
def blockKey (level index : Nat) : Nat := level * 2 ^ 40 + index

/-- Size of the data area, and depth of the tree (R352). -/
def State.dataArea (s : State) (e : Nat) : Nat := s.fld (Reg.MPE_DSIZE e) 0 16 * 2 ^ 28
def State.depth (s : State) (e : Nat) : Nat := s.fld (Reg.MPE_DSIZE e) 16 4

/-- Whether a block contains another block or page (R353). -/
def blockCovers (level index level' index' : Nat) : Bool := decide (level' ≤ level ∧ index' / 8 ^ (level - level') = index)

/-! ## Region table and keys (R363, R364, R376) -/

/-- The enabled entries of the region table. -/
def State.regionEntries (s : State) : List Nat :=
  s.csr.filterMap (fun x => if keyDie x.1 = 4 ∧ keyUnit x.1 = 0x12 ∧ 0x100 ≤ keyInst x.1 ∧ keyOff x.1 = 8 ∧ wbit x.2 31 then some (keyInst x.1 - 0x100) else none)

def State.entryBase (s : State) (n : Nat) : Nat := (s.rd (Reg.MPE_RGN_BASE (0x100 + n))).toNat
def State.entryLimit (s : State) (n : Nat) : Nat := (s.rd (Reg.MPE_RGN_LIMIT (0x100 + n))).toNat

/-- The enabled entry that covers a system physical address (R363). -/
def State.entryOf (s : State) (a : Nat) : Option Nat :=
  s.regionEntries.find? (fun n => decide (s.entryBase n ≤ a / 65536) && decide (a / 65536 ≤ s.entryLimit n))

def State.entryMode (s : State) (n : Nat) : Nat := s.fld (Reg.MPE_RGN_CTL (0x100 + n)) 0 2
def State.entryKid (s : State) (n : Nat) : Nat := s.fld (Reg.MPE_RGN_CTL (0x100 + n)) 2 6

/-- Whether a key identifier is loaded and not being retired (MPE_KSTAT, R376). -/
def State.kidLoaded (s : State) (k : Nat) : Bool :=
  (if k < 32 then s.bit Reg.MPE_KSTAT_LO k else s.bit Reg.MPE_KSTAT_HI (k - 32)) && s.mem.retiring != some k

/-- Whether an agent holds a key identifier (MPE_AGKID); agents 10 to 15 hold none. -/
def State.agentHolds (s : State) (a k : Nat) : Bool :=
  decide (a < 10) && (if k < 32 then s.bit (Reg.MPE_AGKID_LO a) k else s.bit (Reg.MPE_AGKID_HI a) (k - 32))

/-- The home die of a queue, its instance there, and the key of one of its registers (R308, R327). -/
def homeOf (q : Nat) : Nat := if q / 128 < 16 then 4 else (q / 128 - 16) / 12
def instOf (q : Nat) : Nat := if q / 128 < 16 then q else q - 128 * (16 + 12 * homeOf q)

/-- The key identifier an access carries and that is honoured (R364). -/
def State.carried (s : State) (c : Consumer) (entry : Nat) : Option Nat :=
  let ofQueue (q : Nat) : Option Nat :=
    let w := s.rd (Reg.QM_QCFG0 (homeOf q) (instOf q))
    if s.agentHolds (wfld w 12 4) (wfld w 16 6) then some (wfld w 16 6) else none
  match c with
  | .queue q => ofQueue q
  | .facet q _ => ofQueue q
  | .port rg _ => if s.bit (Reg.MPE_RGKID rg) 6 then some (s.fld (Reg.MPE_RGKID rg) 0 6) else none
  | .test ch a =>
    let k := s.fld (Reg.DDR_MT_CTL ch) 4 6
    if s.agentHolds a k then some k else none
  | .agent a => if s.agentHolds a (s.entryKid entry) then some (s.entryKid entry) else none

/-- The agent an access is made as: a queue's owner, user logic, or the agent itself (R322, R364). -/
def State.consumerAgent (s : State) (c : Consumer) : Nat :=
  match c with
  | .queue q => s.fld (Reg.QM_QCFG0 (homeOf q) (instOf q)) 12 4
  | .facet q _ => s.fld (Reg.QM_QCFG0 (homeOf q) (instOf q)) 12 4
  | .port _ _ => 9
  | .agent a => a
  | .test _ a => a

/-- Bezel's access policy over the library (entry 255) and the control-die region (entry 254) (R505). [Log 30 DEDUCED] -/
def State.policyDenies (s : State) (n : Nat) (c : Consumer) (write : Bool) : Bool :=
  let a := s.consumerAgent c
  a != 8 && (n == 255 || (n == 254 && (write || decide (6 ≤ a))))

/-- Whether an access holds the key of the entry that covers it. -/
def State.hasKey (s : State) (c : Consumer) (entry : Nat) : Bool := s.carried c entry == some (s.entryKid entry)

/-- A line number written as 64 bytes, little-endian. -/
def lineBytes (n : Nat) : List Byte := (List.range 64).map (fun i => BitVec.ofNat 8 (n / 256 ^ i))

/-- Bytes, little-endian, as a number. -/
def bytesNat : List Byte → Nat
  | [] => 0
  | b :: t => b.toNat + 256 * bytesNat t

/-- The ciphertext of a line (R354): its counter block with j = 0 and its plaintext. -/
def ciphertext (e kid i major minor data : Nat) : Nat :=
  bytesNat (Config.cipher (e * 2 ^ 125 + kid * 2 ^ 119 + i * 2 ^ 84 + major * 2 ^ 20 + minor * 2 ^ 13) (lineBytes data))

/-! ## Pages and lines -/

/-- A page's leaf block (R353): as held, or as the newest rebuild that covers it left it (R374). -/
def State.page (s : State) (e p : Nat) : Page :=
  let g := s.engine e
  match g.pages.find? (fun x => x.1 == p) with
  | some x => x.2
  | none => match g.floors.find? (fun f => blockCovers f.1 f.2.1 0 p) with
    | none => {}
    | some (_, _, byEntry, other) =>
      match s.entryOf (s.systemAddress e (4096 * p)) with
      | none => { major := other }
      | some n => { major := byEntry.get n other }

/-- Put a leaf block: it is verified and dirty in the node cache (R358). -/
def State.setPage (s : State) (e p : Nat) (x : Page) : State :=
  let g := s.engine e
  s.setEngine e { g with pages := g.pages.set p x {}, verified := g.verified.set (blockKey 0 p) true false, dirty := g.dirty.set (blockKey 0 p) true false }

/-- Raise the high-water mark of the entry that covers a page (R360). -/
def State.raiseMark (s : State) (e p major : Nat) : State :=
  match s.entryOf (s.systemAddress e (4096 * p)) with
  | none => s
  | some n =>
    let g := s.engine e
    s.setEngine e { g with marks := g.marks.set n (max (g.marks.get n 0) major) 0 }

/-! ## The counter tree (R358, R359) -/

/-- Write back one dirty leaf or node: its counter in the parent increments, the parent becomes dirty; a counter that would
pass 2^56 − 1 holds the write-back (R358, R359). -/
def State.writeBack (s : State) (e level index : Nat) : State :=
  let g := s.engine e
  let k := blockKey level index
  if !(g.dirty.get k false) then s
  else
    let n := g.counters.get k 0
    if n = 2 ^ 56 - 1 then
      (s.setEngine e { g with stuck := if g.stuck.contains k then g.stuck else g.stuck ++ [k] }).flagErr (Reg.MPE_STAT e) 8 5 (errCode 12 6)
    else
      let d1 := g.dirty.set k false false
      let d2 := if level + 1 < s.depth e then d1.set (blockKey (level + 1) (index / 8)) true false else d1
      s.setEngine e { g with counters := g.counters.set k (n + 1) 0, dirty := d2 }

/-- Write back every dirty block of a level. -/
def State.writeBackLevel (s : State) (e level : Nat) : State :=
  ((s.engine e).dirty.filter (fun x => x.1 / 2 ^ 40 == level)).foldl (fun t x => t.writeBack e level (x.1 % 2 ^ 40)) s

/-- Write back every dirty leaf and node, children first (R358, R376). -/
def State.writeBackAll (s : State) (e : Nat) : State :=
  (List.range (s.depth e)).foldl (fun t l => t.writeBackLevel e l) s

/-- Evict blocks from the node cache: dirty ones are written back, all are fetched again before their next use (R358). -/
def State.evict (s : State) (e : Nat) (blocks : List (Nat × Nat)) : State :=
  blocks.foldl (fun t b =>
    let u := t.writeBack e b.1 b.2
    let g := u.engine e
    u.setEngine e { g with verified := g.verified.set (blockKey b.1 b.2) false false }) s

/-- Whether a page lies below a block whose write-back is held (R359). -/
def State.belowStuck (s : State) (e p : Nat) : Bool :=
  (s.engine e).stuck.any (fun k => blockCovers (k / 2 ^ 40 + 1) (k % 2 ^ 40 / 8) 0 p)

/-! ## The unverifiable list (R373) -/

/-- The entries in use of MPE_PLIST: number, level, index. -/
def State.unverifiable (s : State) (e : Nat) : List (Nat × Nat × Nat) :=
  s.csr.filterMap (fun x =>
    let o := keyOff x.1
    if keyDie x.1 = 4 ∧ keyUnit x.1 = 0x12 ∧ keyInst x.1 = e ∧ 0x100 ≤ o ∧ o < 0x300 ∧ o % 8 = 4 ∧ wbit x.2 31 then
      some ((o - 0x104) / 8, wfld x.2 0 4, (s.rd (x.1 - 4)).toNat)
    else none)

/-- Whether a page's tree path passes through a listed block. -/
def State.listed (s : State) (e p : Nat) : Bool := (s.unverifiable e).any (fun x => blockCovers x.2.1 x.2.2 0 p)

/-- Whether an engine is in lock. -/
def State.locked (s : State) (e : Nat) : Bool := s.bit (Reg.MPE_STAT e) 7

/-- Enter lock (R373, R375). [Log 120 DEDUCED] -/
def State.engineLock (s : State) (e row : Nat) : State :=
  if s.locked e then s else (s.flag (Reg.MPE_STAT e) 7).raise 6 (errCode 12 row) 4 0x12 e

/-- Free the list entries a test names. -/
def State.unlist (s : State) (e : Nat) (drop : Nat × Nat × Nat → Bool) : State :=
  ((s.unverifiable e).filter drop).foldl (fun t x => (t.wr (Reg.MPE_PLIST_HI e x.1) 0).wr (Reg.MPE_PLIST_LO e x.1) 0) s

/-- Enter a block in the unverifiable list; inside a listed subtree nothing is added, above listed entries they are replaced,
and a full list puts the engine in lock (R373). -/
def State.enlist (s : State) (e level index : Nat) : State :=
  let l := s.unverifiable e
  if l.any (fun x => blockCovers x.2.1 x.2.2 level index) then s
  else
    let t := s.unlist e (fun x => blockCovers level index x.2.1 x.2.2)
    match (List.range 64).find? (fun n => !((t.unverifiable e).any (fun x => x.1 == n))) with
    | none => t.engineLock e 4
    | some n =>
      let u := (t.wr (Reg.MPE_PLIST_LO e n) (BitVec.ofNat 32 index)).wr (Reg.MPE_PLIST_HI e n) (BitVec.ofNat 32 (level + 2 ^ 31))
      u.setBit (Reg.MPE_STAT e) 6 (decide (64 ≤ (u.unverifiable e).length))

/-! ## Alarms (R369 to R371) -/

/-- A queue of the queue managers. -/
def State.queue (s : State) (q : Nat) : Queue := s.net.queues.get q {}
def State.setQueue (s : State) (q : Nat) (x : Queue) : State := { s with net := { s.net with queues := s.net.queues.set q x {} } }

/-- A queue register. -/
def State.qreg (_ : State) (q off : Nat) : Nat := regKey (homeOf q) 0x0A (instOf q) off
def State.qstat (s : State) (q : Nat) : Nat := s.qreg q 0x028

/-- The first error of a home since `valid` was cleared (QM_ERR). -/
def State.firstError (s : State) (q code : Nat) : State :=
  let key := Reg.QM_ERR (homeOf q)
  if s.bit key 31 then s
  else s.wr key (BitVec.ofNat 32 (2 ^ 31 + b2n (s.bit key 16) * 65536 + code * 4096 + instOf q))

/-- An integrity alarm names a queue: ALARMED from any state but DISABLED (R320, R370). -/
def State.alarmQueue (s : State) (q : Nat) : State :=
  let x := s.queue q
  if x.state = .disabled ∨ x.state = .alarmed then s
  else ((s.setQueue q { x with state := .alarmed, code := 12 }).flag (s.qstat q) 27).firstError q 12

/-- Contain a consumer (R370). -/
def State.contain (s : State) (e : Nat) (c : Consumer) : State :=
  match c with
  | .queue q => s.alarmQueue q
  | .facet q lg =>
    let contained := (s.queue q).state == .alarmed
    let t := s.alarmQueue q
    let die := lg / 256
    let rg := lg / 16 % 16
    if s.bit (Reg.MPE_CTL e) 1 && !contained then t.raiseUrgent die (t.physOf die rg (lg % 16)) (s.fld (Reg.MPE_CTL e) 16 16) 1 else t
  | .port rg p => s.flag (Reg.MPE_FENCE ((4 * rg + p) / 32)) ((4 * rg + p) % 32)
  | .agent _ => s
  | .test _ _ => s

/-- The kind, queue and identity fields of an alarm-log entry. -/
def consumerFields : Consumer → Nat × Nat × Nat
  | .queue q => (0, q, 0)
  | .port rg p => (1, 0, 4 * rg + p)
  | .facet q lg => (2, q, lg)
  | .agent a => (3, 0, a)
  | .test _ a => (3, 0, a)

/-- INTEGRITY_ALARM (R369): logged, counted, recorded at severity 6, the consumer contained. -/
def State.integrityAlarm (s : State) (e cls kid addr : Nat) (c : Consumer) (spec : Bool) (taint : Nat) : State :=
  let g := s.engine e
  let f := consumerFields c
  let entry : Alarm := { cls := cls, kid := kid, kind := f.1, spec := spec, queue := f.2.1, addr := addr, id := f.2.2, taint := min taint 65535, seq := g.seq % 65536 }
  let s1 := if g.log.length < 16 then s.setEngine e { g with log := g.log ++ [entry], seq := g.seq + 1 }
    else (s.setEngine e { g with seq := g.seq + 1 }).flag (Reg.MPE_STAT e) 5
  let s2 := (s1.count (Reg.MPE_ALMCNT e) 1).flagErr (Reg.MPE_STAT e) 0 6 (errCode 12 (if cls = 1 then 1 else 2))
  s2.contain e c

/-- The words of the alarm-log head, as MPE_ALM0 captures them. -/
def Alarm.words (x : Alarm) : List Word :=
  [BitVec.ofNat 32 (x.cls + x.kid * 16 + x.kind * 1024 + b2n x.spec * 4096 + x.queue * 8192), BitVec.ofNat 32 x.addr,
   BitVec.ofNat 32 (x.addr / 2 ^ 32 % 65536 + x.id * 65536), BitVec.ofNat 32 (x.taint + x.seq * 65536)]

/-! ## Accesses (R356, R357, R365 to R368, R372, R373) -/

/-- A reply without data. -/
def refusal (r : Resp) : MemReply := { resp := r }

/-- Poison of a class (R372, R379). -/
def poisoned (cls : Nat) : MemReply := { poison := true, cls := cls }

/-- A key mismatch or a retired key (R366). -/
def State.keyError (s : State) (e : Nat) : State := (s.count (Reg.MPE_KEYCNT e) 1).flagErr (Reg.MPE_STAT e) 2 3 (errCode 12 7)

/-- An access an engine denies (R365). [Log 119 DEDUCED] -/
def State.mpeDenied (s : State) (e : Nat) : State := s.flagErr (Reg.MPE_STAT e) 3 3 (errCode 12 8)

/-- The node cache may give up a block for the one that an access brings in (R358). [Log 227 DESIGN CHOICE] -/
def State.makeRoom (s : State) (e : Nat) : State :=
  match Config.nodeEvicted s.free with
  | none => s.drawn
  | some b => s.drawn.evict e [b]

/-- The tree part of an access (R358, R369, R373): its effects, and the class of the poison it gives, if any. The block named
by a failed fetch must lie on the page's path. -/
def State.walk (s : State) (e p kid addr : Nat) (c : Consumer) (f : Fetch) : State × Option Nat :=
  let g := s.engine e
  let onPath (l x : Nat) : Bool := decide (l < s.depth e) && blockCovers l x 0 p && !(g.verified.get (blockKey 0 p) false)
  let ok := (let t := s.makeRoom e
    t.setEngine e { t.engine e with verified := (t.engine e).verified.set (blockKey 0 p) true false }, none)
  match f with
  | .treeFail l x => if onPath l x then (((s.enlist e l x).integrityAlarm e 2 kid addr c false 0), some 2) else ok
  | .treeUe l x => if onPath l x then ((s.flagErr (Reg.MPE_STAT e) 1 5 (errCode 12 3)).enlist e l x, some 3) else ok
  | .culet => (s.engineLock e 5, some 7)
  | .corrected => (((ok.1).count (Reg.MPE_CECNT e) 1).flag (Reg.MPE_STAT e) 4, none)
  | _ => ok

/-- Whether an engine serves reads of a consumer before the check (R368). -/
def speculates : Consumer → Bool
  | .queue _ => true
  | .facet _ _ => true
  | .port _ _ => true
  | _ => false

/-- Whether accesses to a page wait: a re-encryption or a rebuild holds it (R362, R374). -/
def State.pageWaits (s : State) (e p : Nat) : Bool :=
  (s.engine e).reenc.any (fun x => x.1 == p) ||
  (match (s.engine e).reinit with
   | none => false
   | some n => (s.unverifiable e).any (fun x => x.1 == n && blockCovers x.2.1 x.2.2 0 p))

/-- A port that is fenced receives poison (R370). -/
def State.fenced (s : State) (c : Consumer) (r : MemReply) : MemReply :=
  match c with
  | .port rg p => if s.bit (Reg.MPE_FENCE ((4 * rg + p) / 32)) ((4 * rg + p) % 32) ∧ r.resp = .ok then { poisoned r.cls with cls := r.cls } else r
  | _ => r

/-- The stored bytes of a line: the ciphertext under the key identifier it was written with, plain data, or stale bytes where neither was
written (R363, R365). [Log 121 DESIGN CHOICE, 228 DEDUCED] -/
def State.rawLine (s : State) (e i : Nat) : State × MemReply :=
  let pg := s.page e (i / 64)
  let m := pg.minors.get (i % 64) 0
  let ln := (s.engine e).lines.get i {}
  if ln.plain then (s, { data := ln.data })
  else if m = 0 then (s.drawnN 8, { data := s.freeWide 8 })
  else (s, { data := ciphertext e ln.kid i pg.major m ln.data })

/-- A read with the key of a line whose tree path is verified (R356, R366, R368, R369, R372). -/
def State.checkedRead (s : State) (e i kid mode addr : Nat) (c : Consumer) (f : Fetch) (cached : Bool) : State × MemReply :=
  let m := (s.page e (i / 64)).minors.get (i % 64) 0
  let ln := (s.engine e).lines.get i {}
  if m = 0 then (s, {})
  else if mode ≠ 0 ∧ ln.kid ≠ kid then (s.keyError e, poisoned 4)
  else if f = .poison ∨ ln.poison then (s.mediaPoison e addr (f == .poison), poisoned 6)
  else if f = .badTag ∨ ln.plain then
    if mode = 0 then (s.drawnN 8, { data := s.freeWide 8 })
    else if mode = 1 ∧ cached ∧ speculates c then
      let g := s.engine e
      ((s.setEngine e { g with pending := g.pending ++ [{ consumer := c, addr := addr, kid := kid, cls := 1 }] }).drawnN 8, { data := s.freeWide 8 })
    else (s.integrityAlarm e 1 kid addr c false 0, poisoned 1)
  else if mode = 1 ∧ cached ∧ speculates c then
    let g := s.engine e
    (s.setEngine e { g with pending := g.pending ++ [{ consumer := c, addr := addr, kid := kid, cls := 0 }] }, { data := ln.data })
  else (s, { data := ln.data })

/-- A read of the line that holds a system physical address; none: the access waits (R351 to R373). -/
def State.protectedRead (s : State) (a : Nat) (c : Consumer) (f : Fetch) : State × Option MemReply :=
  match s.locate a with
  | .error r => (s, some (refusal r))
  | .ok (e, l) =>
    let i := l / 64
    let p := l / 4096
    if s.dataArea e ≤ l then (s.mpeDenied e, some (refusal .denied))
    else match s.entryOf a with
      | none => (s, some (refusal .denied))
      | some n =>
        if s.policyDenies n c false then (s, some (refusal .denied)) else
        let kid := s.entryKid n
        if s.entryMode n = 3 then
          let ln := (s.engine e).lines.get i {}
          if f = .poison ∨ (ln.plain ∧ ln.poison) then (s.mediaPoison e a (f == .poison), some (s.fenced c (poisoned 6)))
          else let r := s.rawLine e i; (r.1, some (s.fenced c r.2))
        else if !(s.hasKey c n) ∧ s.kidLoaded kid then
          if f = .poison then (s.mediaPoison e a true, some (s.fenced c (poisoned 6)))
          else let r := s.rawLine e i; (r.1, some (s.fenced c r.2))
        else if s.locked e then (s, some (poisoned 7))
        else if !(s.kidLoaded kid) then (s.keyError e, some (poisoned 5))
        else if s.pageWaits e p then (s, none)
        else if s.listed e p then (s, some (poisoned 3))
        else
          let cached := (s.engine e).verified.get (blockKey 0 p) false
          let w := s.walk e p kid a c f
          match w.2 with
          | some cls => (w.1, some (poisoned cls))
          | none => let r := w.1.checkedRead e i kid (s.entryMode n) a c f cached; (r.1, some (r.1.fenced c r.2))

/-- Merge bytes into a line, from an offset (R357). [Log 115 DEDUCED] -/
def mergeLine (old off : Nat) (bytes : List Byte) : Nat :=
  let n := bytes.length
  old - old / 256 ^ off % 256 ^ n * 256 ^ off + bytesNat bytes * 256 ^ off

/-- Apply a write to a line: the minor counter increments, or re-encryption of the page starts (R356, R362); false: waits. -/
def State.storeLine (s : State) (e i kid data : Nat) (poison : Bool) : State × Bool :=
  let p := i / 64
  let pg := s.page e p
  let m := pg.minors.get (i % 64) 0
  let g := s.engine e
  if m < 127 then
    let t := s.setPage e p { pg with minors := pg.minors.set (i % 64) (m + 1) 0 }
    let g' := t.engine e
    (t.setEngine e { g' with lines := g'.lines.set i { data := data, kid := kid, poison := poison } {} }, true)
  else if g.reenc.length < 4 then
    ((s.setEngine e { g with reenc := g.reenc ++ [(p, { line := i, data := data, kid := kid, poison := poison })] }).count (Reg.MPE_REENCCNT e) 1, true)
  else (s, false)

/-- The store of a write whose page is verified, from the state `w` after the walk: a partial line is read and merged first. Where it
has to wait for a re-encryption (R359), nothing is done yet. [Log 115 DEDUCED] -/
def State.writeVerified (s w : State) (e l kid a : Nat) (bytes : List Byte) (poison : Bool) (c : Consumer) (f : Fetch) : State × Option MemReply :=
  let i := l / 64
  let whole := decide (l % 64 = 0 ∧ bytes.length = 64)
  let old := if whole then (w, { : MemReply }) else w.checkedRead e i kid 2 a c f false
  let r := old.1.storeLine e i kid (mergeLine old.2.data (l % 64) bytes) (poison || old.2.poison)
  if r.2 then (r.1, some {}) else (s, none)

/-- A write of bytes within the line that holds a system physical address; none: it waits (R357, R359, R362, R365, R369, R373). -/
def State.protectedWrite (s : State) (a : Nat) (bytes : List Byte) (poison : Bool) (c : Consumer) (f : Fetch) : State × Option MemReply :=
  match s.locate a with
  | .error r => (s, some (refusal r))
  | .ok (e, l) =>
    let i := l / 64
    let p := l / 4096
    if s.dataArea e ≤ l then (s.mpeDenied e, some (refusal .denied))
    else match s.entryOf a with
      | none => (s, some (refusal .denied))
      | some n =>
        if s.policyDenies n c true then (s, some (refusal .denied)) else
        let kid := s.entryKid n
        let g := s.engine e
        if s.entryMode n = 3 then
          let ln := g.lines.get i {}
          let whole := decide (l % 64 = 0 ∧ bytes.length = 64)
          let old := if whole then (s, { : MemReply }) else s.rawLine e i
          (old.1.setEngine e { g with lines := g.lines.set i { ln with data := mergeLine old.2.data (l % 64) bytes, plain := true, poison := poison || (!whole && ln.plain && ln.poison) } {} }, some {})
        else if !(s.hasKey c n) then (s.mpeDenied e, some (refusal .denied))
        else if s.locked e then (s, some (refusal .refused))
        else if !(s.kidLoaded kid) then (s, some (refusal .denied))
        else if s.pageWaits e p then (s, none)
        else if s.listed e p || s.belowStuck e p then (s, some (refusal .refused))
        else
          let w := s.walk e p kid a c f
          match w.2 with
          | some _ => (w.1, some (refusal .refused))
          | none => s.writeVerified w.1 e l kid a bytes poison c f

/-- Re-encryption of the oldest page ends, and its waiting write applies with minor counter 2 (R362). -/
def State.reencrypted (s : State) (e : Nat) : State :=
  let g := s.engine e
  match g.reenc with
  | [] => s
  | (p, w) :: rest =>
    let pg := s.page e p
    let minors := (pg.minors.mapVals 0 (fun _ _ => 1)).set (w.line % 64) 2 0
    let t := ((s.setEngine e { g with reenc := rest }).setPage e p { major := pg.major + 1, minors := minors }).raiseMark e p (pg.major + 1)
    let g' := t.engine e
    t.setEngine e { g' with lines := g'.lines.set w.line { data := w.data, kid := w.kid, poison := w.poison } {} }

/-- The oldest pending check of an engine completes (R368, R369): the taint count is the lines forwarded to its consumer since, and
they are not checked any more (R371). [Log 230 DEDUCED] -/
def State.specCheck (s : State) (e : Nat) : State :=
  let g := s.engine e
  match g.pending with
  | [] => s
  | x :: rest =>
    if x.cls = 0 then s.setEngine e { g with pending := rest }
    else
      let t := s.setEngine e { g with pending := rest.filter (fun y => y.consumer != x.consumer) }
      t.integrityAlarm e x.cls x.kid x.addr x.consumer true (rest.filter (fun y => y.consumer == x.consumer)).length

/-! ## The stored metadata (R352, R353, R355) -/

/-- A tag of 56 bits (R355). [Log 229 DESIGN CHOICE] -/
def tag56 (key : Nat) (input : List Byte) : Nat := Config.tag key input / 2 ^ 72 % 2 ^ 56

/-- The tag of a leaf block or node under the engine's tree key: over its address block, its bytes and its parent counter. -/
def State.blockTag (s : State) (e level index block : Nat) : Nat :=
  tag56 (64 + (s.engine e).tk) (leBytes 16 (e * 2 ^ 125 + level * 2 ^ 120 + index) ++ leBytes 64 block ++ leBytes 8 ((s.engine e).counters.get (blockKey level index) 0))

/-- A leaf block: major counter, and the minor counters of the 64 lines. -/
def State.leafBlock (s : State) (e p : Nat) : Nat :=
  let pg := s.page e p
  pg.major + (List.range 64).foldl (fun n j => n + pg.minors.get j 0 * 2 ^ (64 + 7 * j)) 0

/-- The eight counters of a node. -/
def State.nodeCounters (s : State) (e level x : Nat) : Nat :=
  (List.range 8).foldl (fun n j => n + (s.engine e).counters.get (blockKey (level - 1) (8 * x + j)) 0 * 2 ^ (56 * j)) 0

/-- A line tag: tag, key identifier and poison flag; that of a line never written is stale. -/
def State.lineTag (s : State) (e i stale : Nat) : Nat :=
  let pg := s.page e (i / 64)
  let m := pg.minors.get (i % 64) 0
  let ln := (s.engine e).lines.get i {}
  if m = 0 then stale % 2 ^ 64
  else
    let input := leBytes 16 (e * 2 ^ 125 + ln.kid * 2 ^ 119 + i * 2 ^ 84 + pg.major * 2 ^ 20 + m * 2 ^ 13) ++ leBytes 64 (ciphertext e ln.kid i pg.major m ln.data)
    tag56 ln.kid input + ln.kid * 2 ^ 56 + b2n ln.poison * 2 ^ 62

/-- The node area from level `k` on at an offset: the level and index of the node there, if any. -/
def nodeAt (depth pages : Nat) : Nat → Nat → Nat → Option (Nat × Nat)
  | 0, _, _ => none
  | fuel + 1, k, off =>
    let n := (pages + 8 ^ k - 1) / 8 ^ k
    if depth ≤ k then none
    else if off < 64 * n then some (k, off / 64)
    else nodeAt depth pages fuel (k + 1) (off - 64 * n)

/-- 64 bytes of metadata at an engine-local address; beyond its areas what memory holds is a free value. [Log 229 DESIGN CHOICE] -/
def State.metadataLine (s : State) (e l : Nat) : Nat :=
  let d := s.dataArea e
  let off := (l - d) / 64 * 64
  let eight (f : Nat → Nat) : Nat := (List.range 8).foldl (fun n j => n + f j * 2 ^ (64 * j)) 0
  if off < d / 8 then eight (fun j => s.lineTag e (off / 8 + j) (s.freeWide 8 / 2 ^ (64 * j)))
  else if off < d / 8 + d / 64 then s.leafBlock e ((off - d / 8) / 64)
  else if off < d / 8 + d / 64 + d / 512 then
    eight (fun j => let p := (off - d / 8 - d / 64) / 8 + j; s.blockTag e 0 p (s.leafBlock e p))
  else match nodeAt (s.depth e) (d / 4096) 15 1 (off - d / 8 - d / 64 - d / 512) with
    | some (k, x) => let n := s.nodeCounters e k x; n + s.blockTag e k x n * 2 ^ 448
    | none => s.freeWide 8

/-- A debugger read: stored bytes of data lines; metadata after a write-back (R358, R367). -/
def State.debugRead (s : State) (a : Nat) : State × MemReply :=
  match s.locate a with
  | .error r => (s, refusal r)
  | .ok (e, l) =>
    if s.dataArea e ≤ l then let t := s.writeBackAll e; (t.drawnN 8, { data := t.metadataLine e l })
    else match s.entryOf a with
      | none => (s, refusal .denied)
      | some _ => s.rawLine e (l / 64)

/-! ## Rebuilding, retirement, initialisation (R361, R374, R376) -/

/-- A write of MPE_REINIT with `busy` (R374). -/
def State.reinitStart (s : State) (e idx : Nat) : State × Resp :=
  let g := s.engine e
  let t := s.setFld (Reg.MPE_REINIT e) 0 6 idx
  if g.reinit.isSome then (s, .refused)
  else if (s.unverifiable e).any (fun x => x.1 == idx) then (t.setEngine e { g with reinit := some idx }, .ok)
  else (t.flagErr (Reg.MPE_STAT e) 9 3 (errCode 12 9), .ok)

/-- Enabled entries that overlap the address range of a block (R374). -/
def State.entriesBelow (s : State) (e level index : Nat) : List Nat :=
  let lo := s.systemAddress e (4096 * (index * 8 ^ level)) / 65536
  let hi := (s.systemAddress e (4096 * ((index + 1) * 8 ^ level)) - 1) / 65536
  s.regionEntries.filter (fun n => decide (s.entryBase n ≤ hi) && decide (lo ≤ s.entryLimit n))

/-- The rebuild ends (R374): majors one above the high-water marks, every line a zero line, ancestors incremented, entry freed. -/
def State.reinitDone (s : State) (e : Nat) : State :=
  let g := s.engine e
  match g.reinit with
  | none => s
  | some idx =>
    match (s.unverifiable e).find? (fun x => x.1 == idx) with
    | none => s.setEngine e { g with reinit := none }
    | some (_, level, index) =>
      let below (k : Nat) : Bool := blockCovers level index (k / 2 ^ 40) (k % 2 ^ 40)
      let es := s.entriesBelow e level index
      let byEntry := es.foldl (fun (m : SMap Nat) n => m.set n (g.marks.get n 0 + 1) 0) []
      let other := g.marks.foldl (fun m x => max m x.2) 0 + 1
      let g1 := { g with reinit := none, pages := g.pages.keep (fun p => !(blockCovers level index 0 p)), lines := g.lines.keep (fun i => !(blockCovers level index 0 (i / 64))), verified := g.verified.keep (fun k => !(below k)), dirty := (g.dirty.keep (fun k => !(below k))).set (blockKey level index) true false, marks := byEntry.foldl (fun m x => m.set x.1 x.2 0) g.marks, floors := (level, index, byEntry, other) :: g.floors }
      let t := ((s.setEngine e g1).writeBack e level index).unlist e (fun x => x.1 == idx)
      t.setBit (Reg.MPE_STAT e) 6 false

/-- A write of MPE_RETIRE with `busy` (R376): by Bezel, or by an agent that holds the identifier; 0 is Bezel's alone. -/
def State.retireStart (s : State) (agent kid : Nat) : State × Resp :=
  if s.mem.retiring.isSome then (s, .refused)
  else if agent = 8 ∨ (kid ≠ 0 ∧ s.agentHolds agent kid) then
    ({ s.setFld Reg.MPE_RETIRE 0 6 kid with mem := { s.mem with retiring := some kid } }, .ok)
  else (s, if kid = 0 then .refused else .denied)

/-- Clear a key slot in MPE_KSTAT. -/
def State.dropKey (s : State) (k : Nat) : State :=
  if k < 32 then s.setBit Reg.MPE_KSTAT_LO k false else s.setBit Reg.MPE_KSTAT_HI (k - 32) false

/-- Retirement ends: dirty blocks written back, the slot cleared in every engine together; a re-encryption under the
identifier completes first (R376, R377). -/
def State.retireDone (s : State) : State :=
  match s.mem.retiring with
  | none => s
  | some k =>
    if (List.range 6).any (fun e => (s.engine e).reenc.any (fun x => x.2.kid == k)) then s
    else
      let t := (List.range 6).foldl (fun u e => u.writeBackAll e) s
      let v := t.dropKey k
      { v with mem := { v.mem with retiring := none } }

/-- At start-up an engine takes a fresh TK and starts zeroing its tree (R361). -/
def State.treeInit (s : State) (e : Nat) : State :=
  (s.setEngine e { tk := (s.engine e).tk + 1 }).setBit (Reg.MPE_STAT e) 13 true

/-- Tree initialisation ends. -/
def State.treeInitDone (s : State) (e : Nat) : State := s.setBit (Reg.MPE_STAT e) 13 false

/-! ## The region table (R363) -/

/-- Whether the last address of a range, in every engine it reaches, lies below the metadata, and the range in one group. -/
def State.rangeAllowed (s : State) (base limit : Nat) : Bool :=
  let lo := base * 65536
  let hi := limit * 65536 + 65535
  let below (e l : Nat) : Bool := decide (l < s.dataArea e)
  if hi < 0x4000000000 then
    match s.fld Reg.DDR_GCTL 0 2 with
    | 0 => (match s.ddrDecode lo, s.ddrDecode hi with | some (c, _), some (c', l) => c == c' && below c l | _, _ => false)
    | 1 => (match s.ddrDecode lo, s.ddrDecode hi with
      | some (c, _), some (c', l) => c / 2 == c' / 2 && below (c' / 2 * 2) l && below (c' / 2 * 2 + 1) l
      | _, _ => false)
    | _ => (match s.ddrDecode hi with | some (_, l) => (List.range 4).all (fun c => below c l) | none => false)
  else if 0x10000000000 ≤ lo ∧ hi < 0x50000000000 then
    if s.crossPort then
      let o := hi - 0x10000000000
      below 4 (o / 8192 * 4096 + 4095) && below 5 (o / 8192 * 4096 + 4095)
    else if hi < 0x30000000000 then below 4 (hi - 0x10000000000)
    else if 0x30000000000 ≤ lo then below 5 (hi - 0x30000000000)
    else false
  else false

/-- A write of a region entry's CTL word: enabling is checked; while enabled only a clear of `en` is taken (R363). [Log 120 DEDUCED] -/
def State.regionCtlWrite (s : State) (n : Nat) (w : Word) : State × Resp :=
  let key := Reg.MPE_RGN_CTL (0x100 + n)
  let b := s.entryBase n
  let l := s.entryLimit n
  if s.bit key 31 then (if wbit w 31 then (s, .refused) else (s.setBit key 31 false, .ok))
  else if !(wbit w 31) then (s.wr key (w &&& 0x800000FF), .ok)
  else
    let clash := s.regionEntries.any (fun m => decide (s.entryBase m ≤ l ∧ b ≤ s.entryLimit m))
    if b ≤ l ∧ s.rangeAllowed b l ∧ !clash ∧ (wfld w 0 2 ≠ 3 ∨ s.bit Reg.MPE_GCTL 0) then
      let t := s.wr key (w &&& 0x800000FF)
      ((List.range 6).foldl (fun u e =>
        let g := u.engine e
        u.setEngine e { g with marks := g.marks.set n (g.marks.foldl (fun m x => max m x.2) 0) 0 }) t, .ok)
    else (s.flagErr (Reg.MPE_STAT (match s.locate (b * 65536) with | .ok (e, _) => e | .error _ => 0)) 9 3 (errCode 12 9), .refused)

/-! ## Memory tests (R342) -/

/-- A line of a test pattern. [Log 117 DESIGN CHOICE] -/
def patternLine (pat a : Nat) : Nat :=
  match pat with
  | 0 => 0
  | 1 => 2 ^ 512 - 1
  | _ => Config.testPattern pat a

/-- The line addresses of a test's range that lie on the channel. -/
def State.testLines (s : State) (c : Nat) : List Nat :=
  let base := (s.rdPair (Reg.DDR_MT_BASE_LO c) (Reg.DDR_MT_BASE_HI c)).toNat / 4096 * 4096
  ((List.range (64 * (s.rd (Reg.DDR_MT_LEN c)).toNat)).map (fun i => base + 64 * i)).filter (fun a =>
    match s.ddrDecode a with | some (c', _) => c' == c | none => false)

/-- Fill the lines with the pattern. -/
def State.testFill (s : State) (c agent pat : Nat) (ls : List Nat) : State :=
  ls.foldl (fun t a => (t.protectedWrite a (lineBytes (patternLine pat a)) false (.test c agent) .intact).1) s

/-- Compare the lines with the pattern: the mismatching lines. -/
def State.testCheck (s : State) (c agent pat : Nat) (ls : List Nat) : State × List Nat :=
  ls.foldl (fun (acc : State × List Nat) a =>
    let r := acc.1.protectedRead a (.test c agent) .intact
    match r.2 with
    | some m => if m.resp = .ok ∧ !m.poison ∧ m.data = patternLine pat a then (r.1, acc.2) else (r.1, acc.2 ++ [a])
    | none => (r.1, acc.2 ++ [a])) (s, [])

/-- DDR_MT_CTL.busy starts a test (R342). -/
def State.testStart (s : State) (c op agent : Nat) : State :=
  let ch := s.chan c
  if ch.test.isSome then s
  else (s.setChan c { ch with test := if op = 0 then none else some (op, agent) }).wr (Reg.DDR_MT_RES c) 0

/-- Take the admitted units of a whole job, or have the rest admitted now (R285). -/
def State.takeUnits (s : State) (kind die n : Nat) : State × Bool :=
  let have_ := s.power.jobs.get (8 * kind + die) 0
  if n ≤ have_ then (s.setPower (fun p => { p with jobs := p.jobs.set (8 * kind + die) (have_ - n) 0 }), true)
  else
    let r := s.present 2 (jobPurse kind die) ((n - have_) * s.jobCost kind)
    if r.2 then (r.1.setPower (fun p => { p with jobs := p.jobs.set (8 * kind + die) 0 0 }), true) else r

/-- The test finishes: fills, compares, reports (R342). -/
def State.testDone (s : State) (c : Nat) : State :=
  match (s.chan c).test with
  | none => s
  | some (op, agent) =>
    let u := s.takeUnits 4 4 (s.rd (Reg.DDR_MT_LEN c)).toNat
    if !u.2 then u.1
    else
      let pat := s.fld (Reg.DDR_MT_CTL c) 2 2
      let ls := s.testLines c
      let s1 := if op = 2 then u.1 else u.1.testFill c agent pat ls
      let r := if op = 1 then (s1, []) else s1.testCheck c agent pat ls
      let s2 := r.1.setChan c { r.1.chan c with test := none }
      let s3 := s2.wr (Reg.DDR_MT_RES c) (BitVec.ofNat 32 (min r.2.length (2 ^ 31 - 1) + 2 ^ 31))
      match r.2 with
      | [] => s3
      | a :: _ => (s3.wrPair (Reg.DDR_MT_FAIL_LO c) (Reg.DDR_MT_FAIL_HI c) (BitVec.ofNat 64 a)).flagErr (Reg.DDR_STAT c) 10 3 (errCode 11 4)

end Sys2Proof.Machine
end

