-- ==== Sys2Proof/Machine/Network.lean ====
section
/-!
DEFINITION. The queue managers: rings and streams, buffer, credit, scheduling, kicks, completions, states and timeouts; router
and crossing-lane errors (R300 to R327).
-/
namespace Sys2Proof.Machine

/-! ## Set-up fields (R309 to R313, R327) -/

def State.qcfg0 (s : State) (q lo n : Nat) : Nat := s.fld (s.qreg q 0x000) lo n
def State.qcfg1 (s : State) (q lo n : Nat) : Nat := s.fld (s.qreg q 0x004) lo n
def State.qtype (s : State) (q : Nat) : Nat := s.qcfg0 q 0 3
def State.qstream (s : State) (q : Nat) : Bool := s.bit (s.qreg q 0x000) 3
def State.qclass (s : State) (q : Nat) : Nat := s.qcfg0 q 7 2
def State.qgated (s : State) (q : Nat) : Bool := s.bit (s.qreg q 0x000) 9
def State.qowner (s : State) (q : Nat) : Nat := s.qcfg0 q 12 4
def State.qcost (s : State) (q : Nat) : Nat := s.qcfg0 q 24 8
def State.qbase (s : State) (q : Nat) : Nat := (s.rdPair (s.qreg q 0x010) (s.qreg q 0x014)).toNat

/-- Descriptors in the ring: 2^lg, lg 4 to 16 (R310). -/
def State.ringSize (s : State) (q : Nat) : Nat := 2 ^ min (max (s.fld (s.qreg q 0x018) 0 5) 4) 16
/-- Bytes of a stream buffer: 2^slg, slg 12 to 31 (R311). -/
def State.streamSize (s : State) (q : Nat) : Nat := 2 ^ min (max (s.qcfg1 q 11 5) 12) 31
/-- Records in the completion ring: 2^clg, clg 4 to 16 (R318). -/
def State.compSize (s : State) (q : Nat) : Nat := 2 ^ min (max (s.fld (s.qreg q 0x038) 0 5) 4) 16

/-- QM_CTL.en at a queue's home. -/
def State.homeEn (s : State) (q : Nat) : Bool := s.bit (Reg.QM_CTL (homeOf q)) 0

/-- Whether a queue's set is frozen (R538). -/
def State.setFrozen (s : State) (q : Nat) : Bool := s.net.frozen.get (q / 128) false

/-- Whether a queue fetches and reads: RUN, its home enabled, its set not frozen (R313). -/
def State.qruns (s : State) (q : Nat) : Bool := (s.queue q).state == .run && s.homeEn q && !(s.setFrozen q)

/-! ## The home buffer (R308, R313, R314) -/

/-- The queues of a home that are not DISABLED. -/
def State.enabledQueues (s : State) (die : Nat) : List (Nat × Queue) :=
  s.net.queues.filter (fun x => homeOf x.1 == die && x.2.state != .disabled)

/-- Cells of a home's buffer. -/
def bufferSize (die : Nat) : Nat := if die = 4 then 98304 else 32768

/-- The shared pool S; negative where the guarantees exceed the buffer. -/
def State.poolSize (s : State) (die : Nat) : Int :=
  (bufferSize die : Int) - (s.enabledQueues die).foldl (fun n x => n + s.qcfg1 x.1 0 8) 0

/-- Shared cells a queue holds: those above its guarantee. -/
def State.sharedCells (s : State) (q : Nat) (x : Queue) : Nat := x.cells.length - s.qcfg1 q 0 8

/-- S_free: the shared cells not in use. -/
def State.poolFree (s : State) (die : Nat) : Int :=
  s.poolSize die - (s.enabledQueues die).foldl (fun n x => n + s.sharedCells x.1 x.2) 0

/-- Whether a queue may take one more cell (R313). -/
def State.mayTake (s : State) (q : Nat) : Bool :=
  let x := s.queue q
  if x.cells.length < s.qcfg1 q 0 8 then true
  else
    let free := s.poolFree (homeOf q)
    decide (0 < free) && decide (((s.sharedCells q x * 16 : Nat) : Int) < (2 ^ s.qcfg1 q 8 3 : Nat) * free)

/-! ## Errors and states (R319, R320, R324) -/

/-- A queue in RUN enters ERROR (R310, R320): code 7 for a descriptor, 8 for a response. No transition leads there from PAUSED: a
response in error of such a queue is reported and its state stands. [Log 219 DEDUCED] -/
def State.queueError (s : State) (q code : Nat) (failed : Option Desc) : State :=
  let x := s.queue q
  match x.state with
  | .run => ((s.setQueue q { x with state := .error, code := code, failed := failed }).flagErr (s.qstat q) 27 3 (errCode 10 1)).firstError q code
  | .paused => (s.flagErr (s.qstat q) 27 3 (errCode 10 1)).firstError q code
  | _ => s

/-- A queue enters PEER_LOST (R320, R322), if its state allows. [Log 106 DEDUCED] -/
def State.peerLost (s : State) (q code : Nat) : State :=
  let x := s.queue q
  match x.state with
  | .run | .paused | .stalled | .error => ((s.setQueue q { x with state := .peerLost, code := code }).flag (s.qstat q) 27).firstError q code
  | _ => s

/-- Queues that a test names enter PEER_LOST: one record for each set, at severity 4 (R324). -/
def State.peersLost (s : State) (code : Nat) (hit : Nat → Queue → Bool) : State :=
  let names := (s.net.queues.filter (fun x => hit x.1 x.2 && (x.2.state == .run || x.2.state == .paused || x.2.state == .stalled || x.2.state == .error))).map (·.1)
  let t := names.foldl (fun u q => u.peerLost q code) s
  let sets := names.foldl (fun (l : List Nat) q => if l.contains (q / 128) then l else l ++ [q / 128]) []
  sets.foldl (fun u j =>
    let q := (names.find? (fun n => n / 128 == j)).getD 0
    u.raise 4 (errCode 10 3) (homeOf q) 0x0A (instOf q)) t

/-- The host of a port is gone: the queues it owns enter PEER_LOST (R322, R347). -/
def State.hostGone (s : State) (p : Nat) : State := s.peersLost 11 (fun q _ => s.qowner q == 6 + p)

/-- A CXL link leaves UP, with the queues of its host in endpoint mode (R322, R346). -/
def State.cxlLinkLost (s : State) (p : Nat) (linkB : Bool) (next : Nat) : State :=
  let t := s.linkLost p linkB next
  if s.linkUp p linkB && !s.rootMode p then (t.functionReset p).hostGone p else t

/-- A value taken as its limit, or a reserved code (QM_ERR.cfg_err). -/
def State.qmConfig (s : State) (q : Nat) : State := (s.flag (Reg.QM_ERR (homeOf q)) 16).flag (s.qstat q) 31

/-- ENABLE (R309, R314, R320). [Log 109 DEDUCED] -/
def State.queueEnable (s : State) (q : Nat) : State × Resp :=
  let x := s.queue q
  if x.state ≠ .disabled then (s, .refused)
  else if 6 ≤ s.qtype q ∨ s.qclass q = 3 ∨ (s.qtype q = 5 ∧ homeOf q ≠ 4) then (s.qmConfig q, .refused)
  else if s.poolSize (homeOf q) < (s.qcfg1 q 0 8 : Nat) then (s.flagErr (s.qstat q) 30 3 (errCode 10 4), .refused)
  else (s.setQueue q { x with state := .run, code := 0, last := s.tickEnd }, .ok)

/-- PAUSE. -/
def State.queuePause (s : State) (q : Nat) : State × Resp :=
  let x := s.queue q
  if x.state = .run then (s.setQueue q { x with state := .paused }, .ok) else (s, .refused)

/-- RESUME. -/
def State.queueResume (s : State) (q : Nat) : State × Resp :=
  let x := s.queue q
  if x.state = .paused ∨ x.state = .stalled then (s.setQueue q { x with state := .run, code := 0, last := s.tickEnd }, .ok) else (s, .refused)

/-- SKIP (R320): the failed descriptor completes with `status` = SKIPPED and the head moves past it. -/
def State.queueSkip (s : State) (q : Nat) : State × Resp :=
  let x := s.queue q
  if x.state ≠ .error then (s, .refused)
  else
    let y : Queue := match x.failed with
      | some d => { x with open_ := x.open_ ++ [{ ord := x.next, desc := d, skipped := true }], next := x.next + 1, head := (x.head + 1) % 65536, freed := x.freed - 1 }
      | none => match x.open_ with
        | [] => x
        | o :: t => { x with open_ := { o with skipped := true } :: t, cells := x.cells.filter (fun c => c.ord != o.ord) }
    (s.setQueue q { y with state := .run, code := 0, failed := none, last := s.tickEnd }, .ok)

/-- RESET (R320): cells freed, pointers, counters and kicks zero, credits returned. [Log 223 DEDUCED] -/
def State.queueReset (s : State) (q : Nat) : State := s.setQueue q {}

/-- A queue command, by its QM_CMD code (R320). -/
def State.queueCommand (s : State) (q cmd : Nat) : State × Resp :=
  match cmd with
  | 0 => (s, .ok)
  | 1 => s.queueEnable q
  | 2 => s.queuePause q
  | 3 => s.queueResume q
  | 4 => s.queueSkip q
  | 5 => (s.queueReset q, .ok)
  | _ => (s.qmConfig q, .ok)

/-! ## Doorbells and kicks (R310, R317) -/

/-- Pending descriptors: entries from head up to, but excluding, tail. -/
def Queue.pending (x : Queue) : Nat := (x.tail + 65536 - x.head) % 65536

/-- Waiting kicks release descriptors that have none. -/
def Queue.release (x : Queue) : Queue :=
  let n := min x.kicks (x.pending - x.freed)
  { x with freed := x.freed + n, kicks := x.kicks - n }

/-- A QM_DB write (R310): the new tail, or ignored on overfill. -/
def State.doorbell (s : State) (q tail : Nat) : State :=
  let x := s.queue q
  let n := (tail + 65536 - x.head) % 65536
  if s.ringSize q ≤ n then s.flagErr (s.qstat q) 28 3 (errCode 10 5)
  else
    let y := { x with tail := tail % 65536 }
    s.setQueue q (if s.qgated q then y.release else y)

/-- A kick reaches a queue (R317). -/
def State.kick (s : State) (q : Nat) : State :=
  let x := s.queue q
  if x.state ≠ .run ∧ x.state ≠ .paused then s.flagErr (s.qstat q) 29 3 (errCode 10 6)
  else if !(s.qgated q) then s
  else if x.freed < x.pending then s.setQueue q { x with freed := x.freed + 1 }
  else if x.kicks < 255 then s.setQueue q { x with kicks := x.kicks + 1 }
  else s.flag (s.qreg q 0x048) 8

/-- A kick of a whole set reaches its RUN and PAUSED queues and drops nothing (R317). -/
def State.kickSet (s : State) (set : Nat) (member : Nat → Bool) : State :=
  (s.net.queues.filter (fun x => x.1 / 128 == set && member x.1 && (x.2.state == .run || x.2.state == .paused))).foldl (fun t x => t.kick x.1) s

/-! ## Addresses and endpoints (R309, R312) -/

def isMemory (a : Nat) : Bool := decide (a < 0x4000000000) || (decide (0x10000000000 ≤ a) && decide (a < 0x50000000000))
def isWindow (a : Nat) : Bool := decide (0x80000000000 ≤ a) && decide (a < 0x90000000000)
/-- Bit 63 set, logical Facet in [57:48], bank in [16], word address × 4 in [14:2], all other bits 0. -/
def isFacet (a : Nat) : Bool := decide (2 ^ 63 ≤ a) && (BitVec.ofNat 64 a &&& 0x7C00FFFFFFFE8003 == 0)
/-- Bit 62 set, port in [61], bus address in [47:0]. -/
def isHost (a : Nat) : Bool := decide (2 ^ 62 ≤ a) && decide (a < 2 ^ 63) && (BitVec.ofNat 64 a &&& 0x9FFF000000000000 == 0)

/-- Whether a descriptor's addresses are of the kinds its queue's type takes (R309). -/
def kindsOk (type src dst : Nat) : Bool :=
  match type with
  | 0 => isMemory src && isWindow dst
  | 1 => isWindow src && isMemory dst
  | 2 => isWindow src && isWindow dst
  | 3 => isMemory src && isMemory dst
  | 4 => ((isMemory src || isWindow src) && isFacet dst) || (isFacet src && isMemory dst)
  | 5 => (isHost src && (isMemory dst || isWindow dst)) || ((isMemory src || isWindow src) && isHost dst)
  | _ => false

/-- The endpoint of a destination address, for cells of a home (R312). -/
def endpointOf (home type a : Nat) : Endpoint :=
  if isFacet a then .facetBank (a / 2 ^ 48 % 1024) (a / 2 ^ 16 % 2)
  else if isHost a then .host (a / 2 ^ 61 % 2)
  else if isWindow a then
    let rg := (a - 0x80000000000) / 0x400000000
    if type = 2 ∧ rg / 16 ≠ home then .remote (rg / 16) else .regionPort rg (Config.windowPort a % 4)
  else .memory

/-- Credits an endpoint grants to each home (R312). -/
def State.creditLimit (s : State) : Endpoint → Nat
  | .regionPort rg p => let d := s.net.depth.get (4 * rg + p) 0; if d = 0 then 64 else min d 64
  | .facetBank _ _ => 4
  | .memory => 256
  | .host _ => 64
  | .remote _ => 64

/-- Credits of an endpoint a home has in use. -/
def State.creditsUsed (s : State) (home : Nat) (ep : Endpoint) : Nat :=
  ((s.net.used.find? (fun x => x.1 == (home, ep))).map (·.2)).getD 0

/-- Set the credits in use; none in use takes no entry. -/
def State.setCredits (s : State) (home : Nat) (ep : Endpoint) (n : Nat) : State :=
  let rest := s.net.used.filter (fun x => x.1 != (home, ep))
  { s with net := { s.net with used := if n = 0 then rest else rest ++ [((home, ep), n)] } }

def State.hasCredit (s : State) (home : Nat) (ep : Endpoint) : Bool := decide (s.creditsUsed home ep < s.creditLimit ep)

/-- An endpoint has consumed a cell and returns its credit. -/
def State.creditReturn (s : State) (home : Nat) (ep : Endpoint) : State := s.setCredits home ep (s.creditsUsed home ep - 1)

/-! ## Fetching and reading (R310, R312, R315) -/

/-- A descriptor from its 32 bytes, and whether its reserved fields are 0. -/
def descOf (w : Nat) : Desc × Bool :=
  ({ src := w % 2 ^ 64, dst := w / 2 ^ 64 % 2 ^ 64, len := w / 2 ^ 128 % 2 ^ 32, flags := w / 2 ^ 160 % 256, tag := w / 2 ^ 168 % 256, seq := w / 2 ^ 176 % 65536 }, decide (w / 2 ^ 163 % 32 = 0 ∧ w / 2 ^ 192 % 2 ^ 64 = 0))

/-- Whether an address of a queue answers neither NO_TARGET, nor DENIED, nor UNREACHABLE (R310): memory that is there and open to the
queue, a Region or a Facet of a die in service, the host of a port in endpoint mode whose link is up (R309). [Log 220 DEDUCED] -/
def State.addressAnswers (s : State) (q a : Nat) (write : Bool) : Bool :=
  if isMemory a then
    match s.locate a with
    | .error _ => false
    | .ok (e, l) => decide (l < s.dataArea e) && (match s.entryOf a with | none => false | some n => !(s.policyDenies n (.queue q) write))
  else if isHost a then !(s.rootMode (a / 2 ^ 61 % 2)) && s.linkUp (a / 2 ^ 61 % 2) false
  else if isFacet a then !(s.dieLost (a / 2 ^ 48 % 1024 / 256))
  else !(s.dieLost ((a - 0x80000000000) / 0x400000000 / 16))

/-- Whether a descriptor is valid for its queue: its length, its reserved bits, the kinds of its addresses, and that they answer
(R310). [Log 220 DEDUCED] -/
def State.descOk (s : State) (q : Nat) (d : Desc) (reserved : Bool) : Bool :=
  reserved && decide (1 ≤ d.len ∧ d.len ≤ 16777216) && kindsOk (s.qtype q) d.src d.dst && s.addressAnswers q d.src false && s.addressAnswers q d.dst true

/-- The address of the descriptor at the head. -/
def State.headAddress (s : State) (q : Nat) : Nat := s.qbase q / 32 * 32 + 32 * ((s.queue q).head % s.ringSize q)

/-- A fetched descriptor is checked and opened, or puts the queue in ERROR (R310, R315); a fence waits for earlier ones.
[Log 108 DEDUCED] -/
def State.fetchDescriptor (s : State) (q : Nat) (f : Fetch) : State :=
  let x := s.queue q
  if !(s.qruns q) || s.qstream q || x.pending == 0 || (s.qgated q && x.freed == 0) || decide (4 ≤ x.open_.length) then s
  else
    let a := s.headAddress q
    let r := s.protectedRead a (.queue q) f
    match r.2 with
    | none => s
    | some m =>
      if m.resp ≠ .ok ∨ m.poison then r.1.queueError q 8 (some {})
      else
        let d := descOf (m.data / 256 ^ (a % 64))
        if !(r.1.descOk q d.1 d.2) then r.1.queueError q 7 (some d.1)
        else if d.1.flags / 4 % 2 = 1 ∧ x.open_ ≠ [] then r.1
        else
          let y := r.1.queue q
          r.1.setQueue q { y with open_ := y.open_ ++ [{ ord := y.next, desc := d.1 }], next := y.next + 1, head := (y.head + 1) % 65536, freed := y.freed - 1 }

/-- Read bytes of memory for a consumer, line by line: the bytes, whether any is poison, and the first response that is not
OK; none where an access waits. -/
def State.readBytes (s : State) (c : Consumer) : Nat → Nat → List Fetch → State × Option (List Byte × Bool × Resp)
  | a, n, fs =>
    let first := a / 64
    let count := (a + n + 63) / 64 - first
    let r := (List.range count).foldl (fun (acc : State × Option (List Byte × Bool × Resp)) i =>
      match acc.2 with
      | none => acc
      | some (bs, p, resp) =>
        let m := acc.1.protectedRead (64 * (first + i)) c (fs.getD i .intact)
        match m.2 with
        | none => (s, none)
        | some x => (m.1, some (bs ++ lineBytes x.data, p || x.poison, if resp = .ok then x.resp else resp))) (s, some ([], false, .ok))
    (r.1, r.2.map (fun x => ((x.1.drop (a % 64)).take n, x.2.1, x.2.2)))

/-- The 24-bit words of a Facet bank as bytes, four to a word (R309). -/
def State.facetBytes (s : State) (a n : Nat) : List Byte :=
  let lg := a / 2 ^ 48 % 1024
  let die := lg / 256
  let f := s.facet die (s.physOf die (lg / 16 % 16) (lg % 16))
  (List.range n).map (fun i =>
    let b := a % 2 ^ 15 + i
    let w := f.mem (decide (a / 2 ^ 16 % 2 = 1)) (b / 4)
    BitVec.ofNat 8 (w.toNat / 256 ^ (b % 4)))

/-- The open descriptor whose source is read next. -/
def Queue.reading (x : Queue) : Option OpenDesc := x.open_.find? (fun o => !o.skipped && o.closed && decide (o.read < o.desc.len))

/-- The consumer of a queue's reads: a FACET queue with its logical Facet (R370). -/
def State.consumerOf (s : State) (q dst : Nat) : Consumer :=
  if s.qtype q = 4 ∧ isFacet dst then .facet q (dst / 2 ^ 48 % 1024) else .queue q

/-- Source data for one cell returns to the home buffer (R312): from memory or a Facet bank as they stand, else as given. -/
def State.sourceReturn (s : State) (q : Nat) (data : List Byte) (poison : Bool) (resp : Resp) (fs : List Fetch) : State :=
  let x := s.queue q
  match x.reading with
  | none => s
  | some o =>
    if !(s.qruns q) || s.qstream q || !(s.mayTake q) then s
    else
      let n := min 256 (o.desc.len - o.read)
      let a := o.desc.src + o.read
      let r : State × Option (List Byte × Bool × Resp) :=
        if isMemory a then s.readBytes (s.consumerOf q o.desc.dst) a n fs
        else if isFacet o.desc.src then (s, some (s.facetBytes a n, false, .ok))
        else (s, some ((data ++ List.replicate 256 0).take n, poison, resp))
      match r.2 with
      | none => s
      | some (bs, p, rs) =>
        if rs ≠ .ok then r.1.queueError q 8 none
        else
          let y := r.1.queue q
          let y' := { y with open_ := y.open_.map (fun z => if z.ord = o.ord then { z with read := z.read + n } else z), cells := y.cells ++ [{ dst := o.desc.dst + o.read, bytes := bs, poison := p, age := s.net.arrivals, ord := o.ord }], last := s.tickEnd }
          let t := r.1.setQueue q y'
          { t with net := { t.net with arrivals := t.net.arrivals + 1 } }

/-! ## Streams (R311) -/

/-- Whether a producer is refused: queue not enabled, not in STREAM mode, or of type M2F, M2M or HOST (R311). -/
def State.streamRefused (s : State) (q : Nat) : Bool :=
  (s.queue q).state == .disabled || !(s.qstream q) || s.qtype q == 0 || s.qtype q == 3 || s.qtype q == 5

/-- Whether the destination of a stream is of the kind its queue's type takes (R309). [Log 221 DEDUCED] -/
def State.streamKind (s : State) (q : Nat) : Bool :=
  match s.qtype q with
  | 1 => isMemory (s.qbase q)
  | 2 => isWindow (s.qbase q)
  | _ => isFacet (s.qbase q)

/-- Bytes of a stream buffer in memory that are not freed: of the records not consumed, of the segments under way and of the cell being
filled (R311, R318). -/
def Queue.streamBytes (x : Queue) : Nat := x.reported.foldl (· + ·) 0 + x.open_.foldl (fun n o => n + o.desc.len) 0 + x.fill.length

/-- Whether a stream buffer takes `n` more bytes: freeing a record of the completion ring frees the bytes that it reported (R318).
[Log 221 DEDUCED] -/
def State.streamRoom (s : State) (q n : Nat) : Bool :=
  !(isMemory (s.qbase q)) || s.bit (s.qreg q 0x038) 5 || decide ((s.queue q).streamBytes + n ≤ s.streamSize q)

/-- The destination of the next stream cell (R311): circular in memory and in a Facet bank, fixed in a Region window. -/
def State.streamDst (s : State) (q offset : Nat) : Nat :=
  let b := s.qbase q
  if isFacet b then b / 2 ^ 15 * 2 ^ 15 + (b % 2 ^ 15 + offset % s.streamSize q) % 2 ^ 15
  else if isWindow b then b
  else b + offset % s.streamSize q

/-- Move the filled cell of a stream into the buffer, opening a segment if none is open. [Log 110 DEDUCED] -/
def State.streamCell (s : State) (q : Nat) (bytes : List Byte) : State :=
  let x := s.queue q
  let x1 := if x.open_.any (fun o => !o.closed) then x
    else { x with open_ := x.open_ ++ [{ ord := x.next, desc := { flags := 3 }, closed := false }], next := x.next + 1 }
  let o := ((x1.open_.find? (fun o => !o.closed)).map (·.ord)).getD 0
  let n := bytes.length
  let x2 := { x1 with open_ := x1.open_.map (fun z => if z.ord = o then { z with read := z.read + n, desc := { z.desc with len := z.desc.len + n } } else z), cells := x1.cells ++ [{ dst := s.streamDst q x1.offset, bytes := bytes, age := s.net.arrivals, ord := o }], offset := x1.offset + n, sinceCells := x1.sinceCells + 1, last := s.tickEnd }
  let t := s.setQueue q x2
  { t with net := { t.net with arrivals := t.net.arrivals + 1 } }

/-- End the stream's segment: its completion is due when its cells are acknowledged (R311, R318). -/
def State.streamClose (s : State) (q : Nat) : State :=
  let x := s.queue q
  let f := x.flushes
  s.setQueue q { x with open_ := x.open_.map (fun z => if z.closed then z else { z with closed := true, desc := { z.desc with seq := (f + 1) % 65536 } }), flushes := if x.open_.any (fun o => !o.closed) then f + 1 else f, sinceCells := 0 }

/-- Flush: the partial cell is sent and the segment ends. [Log 110 DEDUCED] -/
def State.streamFlush (s : State) (q : Nat) : State :=
  let x := s.queue q
  let t := if x.fill = [] then s else (s.setQueue q { x with fill := [] }).streamCell q x.fill
  t.streamClose q

/-- A producer pushes bytes: accepted, back-pressured, or refused (R311, R313). [Log 110 DEDUCED] -/
def State.streamPush (s : State) (q : Nat) (bytes : List Byte) (flush : Bool) : State × Resp :=
  if s.streamRefused q then (s, .refused)
  else if !(s.streamKind q) then (s.queueError q 7 none, .unreachable)
  else if !(s.qruns q) || !(s.mayTake q) || !(s.streamRoom q bytes.length) then (s.setQueue q { s.queue q with offered := true }, .unreachable)
  else
    let x := s.queue q
    let all := x.fill ++ bytes
    let full := all.length / 256
    let t := (List.range full).foldl (fun u i =>
      let v := u.streamCell q ((all.drop (256 * i)).take 256)
      let sf := v.qcfg1 q 16 16
      if sf ≠ 0 ∧ sf ≤ (v.queue q).sinceCells then v.streamClose q else v) (s.setQueue q { x with fill := [] })
    let u := t.setQueue q { t.queue q with fill := all.drop (256 * full), offered := false }
    (if flush then u.streamFlush q else u, .ok)

/-! ## Sending cells (R288, R312, R315, R316) -/

/-- The heads of a queue's virtual output queues: the first cell to each endpoint. -/
def State.heads (s : State) (q : Nat) (x : Queue) : List (Cell × Endpoint) :=
  (x.cells.foldl (fun (acc : List (Cell × Endpoint)) c =>
    let ep := endpointOf (homeOf q) (s.qtype q) c.dst
    if acc.any (fun y => y.2 == ep) then acc else acc ++ [(c, ep)]) [])

/-- Whether a queue delivers the cells it holds: RUN or PAUSED, and a frozen set holds its queues as PAUSED (R319, R538). -/
def State.delivers (_ : State) (_ : Nat) (x : Queue) : Bool := x.state == .run || x.state == .paused

/-- Cells of a home that hold buffer and credit. [Log 107 DEDUCED] -/
def State.readyCells (s : State) (die : Nat) : List (Nat × Cell × Endpoint) :=
  (s.net.queues.filter (fun x => homeOf x.1 == die && s.delivers x.1 x.2)).flatMap (fun x =>
    ((s.heads x.1 x.2).filter (fun y => s.hasCredit die y.2)).map (fun y => (x.1, y.1, y.2)))

/-- Effective priority of a queue's head (R288). -/
def State.queuePriority (s : State) (q : Nat) : Nat := effectivePriority (s.qclass q) (s.qcfg0 q 4 3) (s.queue q).age

/-- The purse a queue's cells are charged to: its home's (R308). -/
def State.cellAdmissible (s : State) (q : Nat) : Bool := s.admissible (s.qclass q) (homeOf q) (s.qcost q)

/-- The scheduler's choice: admitted, of the highest effective priority, the oldest head (R316). [Log 107 DEDUCED] -/
def State.chooseCell (s : State) (die : Nat) : Option (Nat × Cell × Endpoint) :=
  ((s.readyCells die).filter (fun x => s.cellAdmissible x.1)).foldl (fun best x =>
    match best with
    | none => some x
    | some b =>
      if s.queuePriority b.1 < s.queuePriority x.1 ∨ (s.queuePriority b.1 = s.queuePriority x.1 ∧ x.2.1.age < b.2.1.age) then some x else best) none

/-- Write bytes to memory for a consumer, line by line; the first response that is not OK, none where a write waits. -/
def State.writeBytes (s : State) (a : Nat) (bytes : List Byte) (poison : Bool) (c : Consumer) : State × Option Resp :=
  let first := a / 64
  let count := (a + bytes.length + 63) / 64 - first
  let r := (List.range count).foldl (fun (acc : State × Option Resp) i =>
    match acc.2 with
    | none => acc
    | some resp =>
      let lo := max a (64 * (first + i))
      let hi := min (a + bytes.length) (64 * (first + i) + 64)
      let m := acc.1.protectedWrite lo ((bytes.drop (lo - a)).take (hi - lo)) poison c .intact
      match m.2 with
      | none => (s, none)
      | some x => (m.1, some (if resp = .ok then x.resp else resp))) (s, some .ok)
  r

/-- Write bytes into a Facet bank, 24 of every 32 bits (R309); poison writes zeros (R372). -/
def State.facetDeliver (s : State) (a : Nat) (bytes : List Byte) (poison : Bool) : State :=
  let lg := a / 2 ^ 48 % 1024
  let die := lg / 256
  let p := s.physOf die (lg / 16 % 16) (lg % 16)
  let b := decide (a / 2 ^ 16 % 2 = 1)
  (List.range ((bytes.length + 3) / 4)).foldl (fun t i =>
    let v := if poison then 0 else BitVec.ofNat 24 (bytesNat ((bytes.drop (4 * i)).take 4))
    t.setFacet die p ((t.facet die p).store b ((a % 2 ^ 15 / 4 + i) % 8192) v)) s

/-- Deliver bytes at an address; the response of the destination, none where it waits. -/
def State.deliverAt (s : State) (q a : Nat) (bytes : List Byte) (poison : Bool) : State × Option Resp :=
  if isMemory a then s.writeBytes a bytes poison (.queue q)
  else if isFacet a then (s.facetDeliver a bytes poison, some (if poison then .unreachable else .ok))
  else (s, some .ok)

/-- Bytes of a cell that lie below the end of its stream's buffer; a cell goes on at the start of the buffer (R311). -/
def State.beforeWrap (s : State) (q : Nat) (c : Cell) : Nat :=
  if s.qstream q && !(isWindow (s.qbase q)) then min c.bytes.length (s.qbase q + s.streamSize q - c.dst) else c.bytes.length

/-- Deliver a cell; the first response that is not OK, none where it waits. -/
def State.deliver (s : State) (q : Nat) (c : Cell) : State × Option Resp :=
  let n := s.beforeWrap q c
  let r := s.deliverAt q c.dst (c.bytes.take n) c.poison
  if n < c.bytes.length then
    match r.2 with
    | some .ok =>
      let t := r.1.deliverAt q (s.qbase q) (c.bytes.drop n) c.poison
      if t.2 = none then (s, none) else t
    | _ => r
  else r

/-- One cell leaves the home buffer for its destination (R312, R316). -/
def State.transferCell (s : State) (die : Nat) : State :=
  match s.chooseCell die with
  | none => if (s.readyCells die).any (fun x => s.qclass x.1 == 0 && !(s.cellAdmissible x.1)) then s.pbWaits else s
  | some (q, c, ep) =>
    let r := s.deliver q c
    match r.2 with
    | none => s
    | some resp =>
      let t := (r.1.charge (s.qclass q) die (s.qcost q)).setCredits die ep (s.creditsUsed die ep + 1)
      let x := t.queue q
      let u := t.setQueue q { x with cells := x.cells.erase c, open_ := x.open_.map (fun z => if z.ord = c.ord then { z with sent := z.sent + c.bytes.length } else z), age := 0, last := s.tickEnd }
      if resp = .ok then u else u.queueError q 8 none

/-! ## Completions (R318) -/

/-- Whether the completion ring is full: its write pointer one entry behind the read pointer. -/
def State.compFull (s : State) (q : Nat) : Bool :=
  let x := s.queue q
  !(s.bit (s.qreg q 0x038) 5) && (x.cwr + 1) % s.compSize q == x.crd % s.compSize q

/-- The oldest open descriptor, if its last cell has been acknowledged or it was skipped. -/
def Queue.completed (x : Queue) : Option OpenDesc :=
  match x.open_ with
  | [] => none
  | o :: _ => if o.skipped || (o.closed && o.read == o.desc.len && o.sent == o.desc.len) then some o else none

/-- Whether a descriptor or segment asks for a completion: `comp`, or a stream flush. -/
def State.wantsCompletion (s : State) (q : Nat) (o : OpenDesc) : Bool := s.qstream q || o.desc.flags % 2 == 1

/-- The 32-byte completion record. -/
def State.compRecord (s : State) (q : Nat) (o : OpenDesc) : List Byte :=
  let stamp := s.bit (s.qreg q 0x038) 6
  let dt := if stamp then s.tickEnd.toNat else 0
  let ph := if stamp then (s.phaseAt (s.fld (s.qreg q 0x038) 7 4) s.tickEnd).toNat else 0
  (lineBytes (dt + ph * 2 ^ 64 + o.sent * 2 ^ 128 + o.desc.seq * 2 ^ 160 + (if s.qstream q then 0 else o.desc.tag) * 2 ^ 176 + b2n o.skipped * 2 ^ 184 + q * 2 ^ 192)).take 32

/-- Write the completion: a record in the ring, or the counter; it requests the completion task (R318). -/
def State.writeCompletion (s : State) (q : Nat) (o : OpenDesc) : State × Option Resp :=
  let x := s.queue q
  let r : State × Option Resp :=
    if s.bit (s.qreg q 0x038) 5 then (s.setQueue q { x with ccnt := (x.ccnt + 1) % 2 ^ 32 }, some .ok)
    else
      let base := (s.rdPair (s.qreg q 0x030) (s.qreg q 0x034)).toNat / 32 * 32
      let w := s.writeBytes (base + 32 * x.cwr) (s.compRecord q o) false (.queue q)
      let y := w.1.queue q
      (w.1.setQueue q { y with cwr := (y.cwr + 1) % s.compSize q, reported := if s.qstream q then y.reported ++ [o.desc.len] else y.reported }, w.2)
  let t := r.1.flag (s.qstat q) 25
  let cfg := s.rd (s.qreg q 0x038)
  let u := if wbit cfg 11 ∧ (s.qstream q ∨ o.desc.flags / 2 % 2 = 1) then
      (t.requestTask (wfld cfg 12 6 / 16) (wfld cfg 12 6 % 16) (wfld cfg 18 6) q none false).1
    else t
  let v := if s.qtype q = 5 ∧ s.bit (s.qreg q 0x02C) 25 then u.raiseMsix ((if isHost o.desc.src then o.desc.src else o.desc.dst) / 2 ^ 61 % 2) (q % 64) else u
  (v, r.2)

/-- The oldest descriptor completes in ring order; with the completion ring full it waits (R315, R318). `late`: its completion is
accepted in the cycle in which the timeout of the queue expires, and wins (R12). -/
def State.complete (s : State) (q : Nat) (late : Bool) : State :=
  let x := s.queue q
  match x.completed with
  | none => s
  | some o =>
    let finish (t : State) : State :=
      let y := t.queue q
      t.setQueue q { y with open_ := y.open_.drop 1, fin := (y.fin + 1) % 65536, last := s.tickEnd }
    if !(s.wantsCompletion q o) then finish s
    else if s.compFull q then s
    else
      let r := s.writeCompletion q o
      match r.2 with
      | none => s
      | some resp =>
        let t := finish r.1
        let t := if late ∧ s.fld (s.qreg q 0x008) 0 24 ≠ 0 then (t.flag (s.qstat q) 31).lateArrival (homeOf q) 0x0A (instOf q) else t
        if resp = .ok then t else t.queueError q 8 none

/-- A QM_CPTR write: the read pointer advances and frees the records before it, and in a stream the bytes they reported (R318). -/
def State.completionPointer (s : State) (q rd : Nat) : State :=
  let x := s.queue q
  let n := (rd + s.compSize q - x.crd % s.compSize q) % s.compSize q
  s.setQueue q { x with crd := rd % 65536, reported := x.reported.drop n }

/-! ## Timeouts (R321) -/

/-- The first unmet condition of a stalled queue, in the order NO_CREDIT, NO_BUFFER, NO_ADMIT, SRC_WAIT, COMP_FULL, DESC_WAIT.
[Log 221 DEDUCED] -/
def State.stallCode (s : State) (q : Nat) : Nat :=
  let x := s.queue q
  if (s.heads q x).any (fun y => !(s.hasCredit (homeOf q) y.2)) then 3
  else if !(s.mayTake q) then 1
  else if x.cells ≠ [] ∧ !(s.cellAdmissible q) then 2
  else if x.reading.isSome then 4
  else if (x.completed.isSome && s.compFull q) || (s.qstream q && !(s.streamRoom q 1)) then 5
  else 6

/-- Whether a queue has work pending: cells, released descriptors, open ones, a producer that offers data (R321). -/
def State.workPending (s : State) (q : Nat) : Bool :=
  let x := s.queue q
  x.cells != [] || x.open_ != [] || x.fill != [] || x.offered || (if s.qgated q then decide (0 < x.freed) else decide (0 < x.pending))

/-- A queue in RUN with work pending and no progress for QM_QTO × 1.024 µs enters STALLED (R321); it needs a timeout, its home enabled,
its set not frozen and no CLOCK_HOLD (R327, R423, R538). [Log 222 DEDUCED, 235 DEDUCED] -/
def State.queueTimeout (s : State) (q : Nat) : State :=
  let x := s.queue q
  if x.state ≠ .run ∨ s.clk.hold ∨ s.fld (s.qreg q 0x008) 0 24 = 0 ∨ !(s.homeEn q) ∨ s.setFrozen q ∨ !(s.workPending q) ∨ (s.tickEnd - x.last).toNat < s.fld (s.qreg q 0x008) 0 24 * 16384 then s
  else
    let c := s.stallCode q
    ((s.setQueue q { x with state := .stalled, code := c }).flagErr (s.qstat q) 26 3 (errCode 10 2)).firstError q c

/-! ## Set commands (R320, R327) -/

/-- Whether a queue belongs to the group of a set command: 15 names every queue of the set. -/
def State.inGroup (s : State) (q grp : Nat) : Bool := grp == 15 || s.fld (s.qreg q 0xFFC) 0 4 == grp

/-- The first set of a die. -/
def firstSet (die : Nat) : Nat := if die = 4 then 0 else 16 + 12 * die

/-- QM_SETCMD: each member takes the command as its own QM_CMD, invalid members are unchanged (R327). [Log 111 DEDUCED] -/
def State.setCommand (s : State) (die j op grp : Nat) : State :=
  let set := firstSet die + j
  let each (f : State → Nat → State) : State :=
    (List.range 128).foldl (fun t i => if t.inGroup (128 * set + i) grp then f t (128 * set + i) else t) s
  match op with
  | 1 => each (fun t q => (t.queueEnable q).1)
  | 2 => each (fun t q => (t.queuePause q).1)
  | 3 => each (fun t q => (t.queueResume q).1)
  | 4 => each (fun t q => t.queueReset q)
  | 5 => s.kickSet set (fun q => s.inGroup q grp)
  | 0 => s
  | _ => s.flag (Reg.QM_ERR die) 16

/-! ## The mesh of a fabric die (R300, R302) -/

/-- Router (x, y) of the 8 × 8 mesh. -/
def routerAt (x y : Nat) : Nat := 8 * y + x

/-- Two routers joined by a link of the mesh. -/
def meshLinked (a b : Nat) : Bool :=
  decide (a < 64 ∧ b < 64) && ((a / 8 == b / 8 && (a % 8 + 1 == b % 8 || b % 8 + 1 == a % 8)) || (a % 8 == b % 8 && (a / 8 + 1 == b / 8 || b / 8 + 1 == a / 8)))

/-- The router of network port p of local Region r. -/
def portRouter (r p : Nat) : Nat := routerAt (2 * (r % 4) + p % 2) (2 * (r / 4) + p / 2)

/-- The routers of a die's queue manager. [Log 199 DESIGN CHOICE] -/
def managerRouters : List Nat := [27, 28, 35, 36]

inductive Edge where
  | north | south | east | west
deriving DecidableEq, Repr

/-- The edge on which a fabric die faces another die. [Log 199 DESIGN CHOICE] -/
def facing (die peer : Nat) : Option Edge :=
  match die, peer with
  | 0, 1 | 2, 3 => some .east
  | 1, 0 | 3, 2 => some .west
  | 0, 2 | 1, 3 | 2, 4 | 3, 4 => some .south
  | 2, 0 | 3, 1 => some .north
  | _, _ => none

/-- The router at a position of an edge, counted from the west or from the north. [Log 199 DESIGN CHOICE] -/
def edgeRouter (e : Edge) (n : Nat) : Nat :=
  match e with
  | .north => routerAt n 0
  | .south => routerAt n 7
  | .west => routerAt 0 n
  | .east => routerAt 7 n

/-- The router of a fabric die to which network quarter k of module m toward a peer attaches. [Log 199 DESIGN CHOICE] -/
def moduleRouter (die peer m k : Nat) : Option Nat := (facing die peer).map (fun e => edgeRouter e ((4 * m + k) % 8))

/-- The numbers passed on the way from `a` to `b`, without `a`. -/
def stepsTo (a b : Nat) : List Nat := if a ≤ b then (List.range (b - a)).map (fun i => a + 1 + i) else (List.range (a - b)).map (fun i => a - 1 - i)

/-- The routers a packet passes within a die: in x first and then in y. [Log 199 DESIGN CHOICE] -/
def meshPath (a b : Nat) : List Nat :=
  a :: ((stepsTo (a % 8) (b % 8)).map (fun x => routerAt x (a / 8)) ++ (stepsTo (a / 8) (b / 8)).map (fun y => routerAt (b % 8) y))

/-- The part of a route inside one die, as (die, router): a path of the mesh, or the hub switch of HD or CD as its one router. -/
def dieLeg (die a b : Nat) : List (Nat × Nat) := if die < 4 then (meshPath a b).map (fun r => (die, r)) else [(die, 0)]

/-- The router where a port of a die attaches; `far`: the router at the other end. A unit is at the router that the packet names.
[Log 199 DESIGN CHOICE] -/
def attachRouter (die far : Nat) : NetPort → Nat
  | .port rg p => if die < 4 then portRouter (rg % 16) p else 0
  | .queues => if die < 4 then managerRouters.getD (Config.managerRouter far % 4) 27 else 0
  | .unit n => if die < 4 then n % 64 else 0

/-! ## Network and crossing lanes (R305, R307) -/

/-- A packet arrives at a router: its buffer read is clean, corrected or uncorrectable (R305). -/
def State.packet (s : State) (die : Nat) (corrected uncorrectable : Bool) : State :=
  if uncorrectable then (s.count (Reg.HN_UECNT die) 1).raise 5 (errCode 10 7) die 0x0B 0
  else if corrected then s.count (Reg.HN_CECNT die) 1
  else s

end Sys2Proof.Machine
end

