-- ==== Sys2Proof/Machine/Spine.lean ====
section
/-!
DEFINITION. The phase domains: sources, velocity estimator, state machine and commands (R51 to R73, R588).
-/
namespace Sys2Proof.Machine

/-! ## Set-up of a domain -/

/-- DOM_CTL.src; the reserved code 7 acts as the reset value (R9). -/
def State.domSrc (s : State) (i : Nat) : Nat := let c := s.fld (Reg.DOM_CTL i) 0 3; if c = 7 then 0 else c
/-- DOM_OFS.ofs. -/
def State.domOfs (s : State) (i : Nat) : Word := s.rd (Reg.DOM_OFS i)
/-- DOM_CTL.rev_en. -/
def State.domRevEn (s : State) (i : Nat) : Bool := s.bit (Reg.DOM_CTL i) 13
/-- Edges per turn: QUAD counts, TOOTH slots, one PULSE (R51, R52). -/
def State.domEdges (s : State) (i : Nat) : Nat :=
  match s.domSrc i with
  | 0 => s.fld (Reg.DOM_SRCA i) 0 24 + 1
  | 1 => s.fld (Reg.DOM_SRCA i) 0 10 + 1
  | _ => 1
/-- The tolerance `tol` of TOOTH and PULSE (R55, R56). -/
def State.domTol (s : State) (i : Nat) : Nat := s.fld (Reg.DOM_SRCA i) 16 4
/-- The lag of a LINK domain in dtu; below 20 ticks taken as 20 (R58), above 5,000 as 5,000. -/
def State.domLag (s : State) (i : Nat) : Nat := min (max (s.fld (Reg.DOM_SRCB i) 0 16) 20) 5000 * 32
/-- The reversal hysteresis of a RESOLVER domain in pu (R66). -/
def State.domHyst (s : State) (i : Nat) : Nat := s.fld (Reg.DOM_SRCB i) 16 16 * 2 ^ 16
/-- Arrival phase of edge `c` of domain `i`, one pu lower in reverse (R52, R66). -/
def State.arrive (s : State) (i : Nat) (c : Int) (rev : Bool) : DWord :=
  arrival (s.domEdges i) (s.domOfs i) c - (if rev then 1 else 0)
/-- Whether slot `k` of a TOOTH domain carries a tooth (DOM_GAP, R55). -/
def State.hasTooth (s : State) (i : Nat) (k : Nat) : Bool := !(s.bit (Reg.DOM_GAP i (k / 32)) (k % 32))

/-! ## States and flags -/

/-- Move a domain to a state: `chg` sets, and a domain that stops running publishes no movement in this tick (R68, R588). -/
def State.domGo (s : State) (i : Nat) (st : DomState) : State :=
  let d := s.dom i
  if d.state = st then s
  else
    let d' := { d with state := st }
    let d' := if d'.running then d' else { d' with base := .hold d.phase, segs := [] }
    (s.setDom i d').flag (Reg.DOM_STAT i) 16

/-- The later of two stamps. -/
def later (a b : DWord) : DWord := if a ≤ b then b else a

/-! ## Velocity estimator (R61) -/

/-- The estimator's update for an edge of arrival phase `e` stamped `x`; `e`, `te` and `f` are set by the caller. -/
def estimate (vgain again : Nat) (accEn : Bool) (d : Dom) (e x : DWord) : Dom :=
  let ddt := (x - d.te).toNat
  let dpu := (distance d.e e).natAbs
  if d.restart then { d with v := 0, a := 0, vmPrev := none, ddtPrev := ddt, restart := false }
  else if ddt = 0 then d
  else
    let vm : Nat := dpu * 2 ^ 21 / ddt
    let v : Nat := ((d.v : Int) + ((vm : Int) - (d.v : Int)) / ((2 ^ vgain : Nat) : Int)).toNat
    let a : Int := match accEn, d.vmPrev with
      | true, some vp =>
        let am : Int := (((vm : Int) - (vp : Int)) * 2 ^ 22).tdiv ((ddt + d.ddtPrev : Nat) : Int)
        d.a + (am - d.a) / ((2 ^ again : Nat) : Int)
      | _, _ => 0
    { d with v, a, vmPrev := some vm, ddtPrev := ddt }

/-- Take an edge: estimator, last edge, next expected edge, and the new segment from dtu `k` (R61, R63). [Log 44 DEDUCED] -/
def State.takeEdge (s : State) (i k : Nat) (x e f : DWord) (rev : Bool) : State :=
  let c := Reg.DOM_CTL i
  let d := s.dom i
  let d := estimate (s.fld c 4 3) (s.fld c 8 3) (s.bit c 11) d e x
  let d := { d with e, te := x, f, rev, act := x, arrived := true }
  s.setDom i (if d.running then { d with segs := d.segs ++ [(k, .edge e x d.v d.a f rev)] } else d)

/-- The lowest edge whose arrival phase is at or above `p`. -/
def edgeAtOrAbove (n : Nat) (ofs : Word) (p : DWord) : Int :=
  let rel := (p - ofs.setWidth 64).toInt
  rel / 2 ^ 32 * n + (rel % 2 ^ 32 * n + (2 ^ 32 - 1)) / 2 ^ 32

/-- The highest edge whose arrival phase is at or below `p`. -/
def edgeAtOrBelow (n : Nat) (ofs : Word) (p : DWord) : Int :=
  let rel := (p - ofs.setWidth 64).toInt
  rel / 2 ^ 32 * n + ((rel % 2 ^ 32 + 1) * n + (2 ^ 32 - 1)) / 2 ^ 32 - 1

/-! ## QUAD (R54, R66, R69) -/

/-- Take the crossing of edge `c` by a QUAD domain. -/
def State.takeCount (s : State) (i k : Nat) (x : DWord) (c : Int) (rev : Bool) : State :=
  let s := s.takeEdge i k x (s.arrive i c rev) (s.arrive i (if rev then c - 1 else c + 1) rev) rev
  s.setDom i { s.dom i with taken := c }

/-- Reverse motion that `rev_en` = 0 holds: from dtu `k` on the phase stands, and `reject` sets (R66). -/
def State.holdReverse (s : State) (i k : Nat) : State :=
  let d := s.dom i
  let s := if d.running then s.setDom i { d with segs := d.segs ++ [(k, .hold (d.ph s.spine.dt s.spine.len k))] } else s
  s.flag (Reg.DOM_STAT i) 11

/-- One decoded QUAD count at dtu `k`, forward or reverse (R54). [Log 46 DEDUCED] -/
def State.quadCount (s : State) (i k : Nat) (rev : Bool) : State :=
  let d := s.dom i
  if d.state = .off then s else
  let x := match d.lastCount with | some y => later y (s.stamp k) | none => s.stamp k
  let tooFast := match d.lastCount with | some y => decide ((x - y).toNat < 160) | none => false
  let s := s.flagIf tooFast (Reg.DOM_STAT i) 9
  let n := s.domEdges i
  let pos := if d.posKnown then d.pos
    else if rev then edgeAtOrBelow n (s.domOfs i) (d.phase + 1)
    else edgeAtOrAbove n (s.domOfs i) d.phase - 1
  let c := if rev then pos else pos + 1
  let turned := d.lastCount.isSome && d.lastRev != rev
  let d := { d with pos := if rev then pos - 1 else pos + 1, posKnown := true, lastCount := some x, lastRev := rev }
  if rev && !s.domRevEn i then
    -- reverse motion is held: the count is kept, the phase is not moved (R66)
    (s.setDom i { d with restart := true }).holdReverse i k
  else if d.state = .acquire then
    if s.bit (Reg.DOM_INPUT i) 16 then
      -- counted, not published, until Z: `dir` as well
      (s.setDom i { d with restart := d.restart || turned }).takeEdge i k x (s.arrive i c rev)
        (s.arrive i (if rev then c - 1 else c + 1) rev) d.rev
    else if !rev && decide (distance d.phase (s.arrive i c false) < 0) then
      -- acquired below the held phase after held reverse counts: the phase holds until a count passes it (R69)
      (s.setDom i { d with rev := false, restart := true, taken := edgeAtOrAbove n (s.domOfs i) d.phase - 1, base := .hold d.phase, segs := [] }).domGo i .locked
    else
      ((s.setDom i { d with base := .hold d.phase, segs := [] }).domGo i .locked).takeCount i k x c rev
  else
    let behind := !s.domRevEn i && decide (c ≤ d.taken)
    if behind then s.setDom i d
    else if d.state = .stalled then
      ((s.setDom i { d with restart := true, base := .hold d.phase, segs := [] }).domGo i .locked).takeCount i k x c rev
    else
      (s.setDom i { d with restart := d.restart || d.rev != rev }).takeCount i k x c rev

/-- A qualified Z at dtu `k` (R54): acquires in ACQUIRE, is checked against edge 0 in LOCKED and STALLED.
[Log 36 DESIGN CHOICE, 46 DEDUCED] -/
def State.qualifiedZ (s : State) (i k : Nat) : State :=
  let d := s.dom i
  if !s.bit (Reg.DOM_INPUT i) 16 then s else
  let n := s.domEdges i
  let x := s.stamp k
  match d.state with
  | .acquire =>
    let rev := d.lastRev && d.lastCount.isSome
    if rev && !s.domRevEn i then s
    else
      let p := d.phase
      let ofs := (s.domOfs i).setWidth 64
      let t : Nat := if rev then (p + 1 - ofs).toNat / 2 ^ 32 else ((p - ofs).toNat + (2 ^ 32 - 1)) / 2 ^ 32
      let c : Int := (t * n : Nat)
      let e := s.arrive i c rev
      let f := s.arrive i (if rev then c - 1 else c + 1) rev
      let te := if d.lastCount.isSome then d.te else x
      let d := { d with pos := if rev then c - 1 else c, posKnown := true, taken := c, e, f, te, rev, act := x, arrived := true, base := .hold p, segs := [(k, .edge e te d.v d.a f rev)] }
      (s.setDom i { d with state := .locked }).flag (Reg.DOM_STAT i) 16
  | .locked | .stalled =>
    let crossed := if d.lastRev then d.pos + 1 else d.pos
    if d.posKnown && crossed % n = 0 then s
    else
      -- the code of this record is not stated: a free value
      let s := s.flag (Reg.DOM_STAT i) 10
      (s.raise 4 (s.freeNat 16) 4 0x03 i).drawn
  | _ => s

/-! ## TOOTH (R55) -/

/-- Slots from tooth `k` to the next present tooth, 1 to `n`; `n` where the wheel has none other. -/
def State.toothAfter (s : State) (i n k : Nat) : Nat :=
  ((List.range n).find? (fun j => s.hasTooth i ((k + j + 1) % n))).getD (n - 1) + 1

/-- Slots from tooth `k` back to the previous present tooth. -/
def State.toothBefore (s : State) (i n k : Nat) : Nat :=
  ((List.range n).find? (fun j => s.hasTooth i ((k + 2 * n - 1 - j) % n))).getD (n - 1) + 1

/-- Present slots in a row from slot `k`, at most `n`. -/
def State.runFrom (s : State) (i n k : Nat) : Nat :=
  ((List.range n).find? (fun j => !s.hasTooth i ((k + j) % n))).getD n

/-- The slots that follow a gap. -/
def State.gapSlots (s : State) (i n : Nat) : List Nat :=
  (List.range n).filter (fun k => s.hasTooth i k && !s.hasTooth i ((k + n - 1) % n))

/-- Whether the runs of teeth seen between gaps, newest first, end at slot `k`. -/
def State.runsMatch (s : State) (i n : Nat) (k : Nat) : List Nat → Bool
  | [] => true
  | r :: rs =>
    -- the run before slot k ends at the last tooth before it
    let last := (k + 2 * n - s.toothBefore i n k) % n
    let start := ((List.range n).find? (fun j => !s.hasTooth i ((last + 2 * n - 1 - j) % n))).getD 0
    let first := (last + n - start) % n
    s.runFrom i n first == r && s.runsMatch i n first rs

/-- Take tooth `c` in LOCKED. [Log 47 DEDUCED] -/
def State.takeTooth (s : State) (i k : Nat) (x : DWord) (c : Int) : State :=
  let n := s.domEdges i
  let j := s.toothAfter i n (c % n).toNat
  let s := s.takeEdge i k x (s.arrive i c false) (s.arrive i (c + j) false) false
  s.setDom i { s.dom i with pos := c, posKnown := true, slot := (c % n).toNat, lastTooth := some x }

/-- The edge index at slot `k` whose arrival phase is at or after the held phase, less than a turn away (R69). -/
def State.indexAtHeld (s : State) (i k : Nat) : Int :=
  let n := s.domEdges i
  let base := s.arrive i k false
  ((((s.dom i).phase - base).toNat + (2 ^ 32 - 1)) / 2 ^ 32 * n + k : Nat)

/-- Lock a TOOTH or PULSE domain at edge `c`, reached `iv` after its previous edge `cp` (R51, R69). The estimator goes on from that
edge: `v`, `a` and vm_prev are those of ENABLE or of the loss of synchronisation (R61). [Log 47 DEDUCED] -/
def State.lockAtEdge (s : State) (i k : Nat) (x : DWord) (c cp : Int) (iv : Nat) : State :=
  let d := s.dom i
  let s := s.setDom i { d with e := s.arrive i cp false, te := x - BitVec.ofNat 64 iv, restart := false, base := .hold d.phase, segs := [], rev := false }
  (s.domGo i .locked).takeTooth i k x c

/-- A tooth at dtu `k` (R55). [Log 47 DEDUCED] -/
def State.toothEdge (s : State) (i k : Nat) : State :=
  let d := s.dom i
  let n := s.domEdges i
  let x := match d.lastTooth with | some y => later y (s.stamp k) | none => s.stamp k
  let iv := match d.lastTooth with | some y => (x - y).toNat | none => 0
  match d.state with
  | .locked =>
    let c := d.pos + s.toothAfter i n d.slot
    let dpu := (s.arrive i c false - s.arrive i d.pos false).toNat
    let tol := s.domTol i
    let checked := tol != 0 && d.v != 0
    let expect := dpu * 2 ^ 21 / d.v
    if checked && decide (16 * iv < (16 - tol) * expect) then s.flag (Reg.DOM_STAT i) 11
    else if checked && decide ((16 + tol) * expect < 16 * iv) then
      let s := s.setDom i { d with lastTooth := some x, lastGap := none, teeth := 0, gapSeen := false, runs := [], te := x }
      (s.domGo i .acquire).flag (Reg.DOM_STAT i) 12
    else s.takeTooth i k x c
  | .stalled =>
    let s' := s.setDom i { d with restart := true, base := .hold d.phase, segs := [] }
    (s'.domGo i .locked).takeTooth i k x (d.pos + s.toothAfter i n d.slot)
  | .acquire =>
    if d.lastTooth.isNone then s.setDom i { d with lastTooth := some x, act := x, te := x, arrived := true }
    else if (s.gapSlots i n).isEmpty then
      let c := s.indexAtHeld i 0
      s.lockAtEdge i k x c (c - 1) iv
    else
      let isGap := match d.lastGap with
        | some p => decide ((s.fld (Reg.DOM_SRCA i) 12 3 + 12) * p < 8 * iv)
        | none => false
      let d := { d with lastTooth := some x, lastGap := some iv, act := x, te := x, arrived := true }
      if isGap then
        let runs := if d.gapSeen then d.teeth :: d.runs else d.runs
        match (s.gapSlots i n).filter (fun k' => s.runsMatch i n k' runs) with
        | [slot] =>
          let s := s.setDom i { d with gapSeen := false, runs := [], teeth := 0 }
          let c := s.indexAtHeld i slot
          s.lockAtEdge i k x c (c - s.toothBefore i n slot) iv
        | _ => s.setDom i { d with gapSeen := true, runs, teeth := 1 }
      else s.setDom i { d with teeth := d.teeth + 1 }
  | _ => s

/-! ## PULSE (R56) -/

/-- A pulse of the selected polarity at dtu `k`. The current turn period is the last interval between two taken pulses, that of a
stall included. [Log 164 DESIGN CHOICE] -/
def State.pulseEdge (s : State) (i k : Nat) : State :=
  let d := s.dom i
  let x := match d.lastTooth with | some y => later y (s.stamp k) | none => s.stamp k
  let iv := match d.lastTooth with | some y => (x - y).toNat | none => 0
  let early := match d.lastGap with
    | some p => s.domTol i != 0 && decide (16 * iv < (16 - s.domTol i) * p)
    | none => false
  match d.state with
  | .locked =>
    if early then s.flag (Reg.DOM_STAT i) 11
    else (s.setDom i { d with lastGap := some iv }).takeTooth i k x (d.pos + 1)
  | .stalled =>
    let s := s.setDom i { d with restart := true, lastGap := some iv, base := .hold d.phase, segs := [] }
    (s.domGo i .locked).takeTooth i k x (d.pos + 1)
  | .acquire =>
    if d.lastTooth.isNone then s.setDom i { d with lastTooth := some x, act := x, te := x, arrived := true }
    else
      let s := s.setDom i { d with lastGap := some iv }
      let c := s.indexAtHeld i 0
      s.lockAtEdge i k x c (c - 1) iv
  | _ => s

/-! ## Phase input lines (R53, R54, R131) -/

/-- A domain's input lines take their present levels: on a write of DOM_INPUT. -/
def State.syncLines (s : State) (i : Nat) : State :=
  let w := s.rd (Reg.DOM_INPUT i)
  let lv (lo : Nat) : Bool := (s.spine.phi.get (wfld w 0 2 * 16 + wfld w lo 4) {}).level
  s.setDom i { s.dom i with la := lv 4, lb := lv 8, lz := lv 12 }

/-- An edge on line A (0), B (1) or Z (2) of a domain, behind its filter, at dtu `k`: decoded by its source. Forward running is the
sequence of R131. [Log 66 DEDUCED] -/
def State.domLine (s : State) (i which k : Nat) (level : Bool) : State :=
  let d := s.dom i
  let w := s.rd (Reg.DOM_INPUT i)
  let was := match which with | 0 => d.la | 1 => d.lb | _ => d.lz
  if was = level then s
  else
    let d' := match which with | 0 => { d with la := level } | 1 => { d with lb := level } | _ => { d with lz := level }
    let s := s.setDom i d'
    let a := d'.la != wbit w 17
    let b := d'.lb != wbit w 18
    let src := s.domSrc i
    if src = 0 then
      let dec := s.fld (Reg.DOM_SRCA i) 24 2
      let counts := match which with
        | 0 => dec != 2 || a
        | 1 => dec == 0 || dec == 3
        | _ => false
      let fwd := if which = 0 then a != b else a == b
      let s := if counts then s.quadCount i k (!fwd) else s
      let q (d : Dom) : Bool := (d.la != wbit w 17) && (d.lb != wbit w 18) && (d.lz != wbit w 19)
      if !q d && q d' then s.qualifiedZ i k else s
    else if which ≠ 0 then s
    else if src = 1 then (if a then s.toothEdge i k else s)
    else if src = 2 then (if a != s.bit (Reg.DOM_SRCA i) 0 then s.pulseEdge i k else s)
    else s

/-- A level held for `width` dtu passes the glitch filter of a domain (R53). [Log 65 DESIGN CHOICE] -/
def State.passesFilter (s : State) (i width : Nat) : Bool := decide (32 * s.fld (Reg.DOM_INPUT i) 24 4 ≤ width)

/-! ## RESOLVER (R57, R66) -/

/-- The lag of a RESOLVER domain: 1.0 µs in dtu. -/
def resolverLag : Nat := 16000

/-- exc_div as the engine uses it: outside 250 to 2,500 the nearer limit (R57, R74). -/
def State.excDiv (s : State) (i : Nat) : Nat := min (max (s.fld (Reg.DOM_SRCA i) 12 12) 250) 2500

/-- The RESOLVER domain whose excitation has line PHI`n` of a die: enabled, with DOM_INPUT naming the die and the line (R57). -/
def State.excited (s : State) (die n : Nat) : Option Nat :=
  (List.range 16).find? (fun i => s.domSrc i == 3 && (s.dom i).state != .off && s.fld (Reg.DOM_INPUT i) 0 2 == die && s.fld (Reg.DOM_INPUT i) 4 4 == n)

/-- The excitation of domain `i` at DT `x`: a square wave of 50 % duty at 5 MHz / exc_div, whose instant of rise is free (R57).
[Log 167 DESIGN CHOICE] -/
def State.excitation (s : State) (i : Nat) (x : DWord) : Bool :=
  let period := s.excDiv i * 3200
  decide ((x.toNat + Config.excitationPhase i) % period < period / 2)

/-- A position at or after phase `p`, less than one turn away, with the turn fraction of `q` (R69). -/
def placedAfter (p q : DWord) : DWord := p + (loHalf q - loHalf p).setWidth 64

/-- A tracking-loop angle at dtu `k`, with the loop's error in pu and whether the amplitude is below 25 % (R57). The points are the
angles as the domain takes them: reverse motion below the hysteresis, or with `rev_en` = 0, repeats the last one (R66).
[Log 168 DEDUCED] -/
def State.resolverSample (s : State) (i k : Nat) (angle err : Word) (lowAmp : Bool) : State :=
  let d := s.dom i
  let x := s.stamp k
  let ang := angle + s.domOfs i
  let low := if lowAmp then d.low + 1 else 0
  let raw := d.raw + BitVec.ofInt 64 ((ang - d.angle).toInt)
  let hyst := s.domHyst i
  match d.state with
  | .acquire =>
    let good := if err.toNat < s.fld (Reg.DOM_SRCB i) 0 16 * 2 ^ 16 then d.good + 1 else 0
    let pts := ((x, raw) :: d.pts).take 12
    if 256 ≤ good then
      let y := interpolate pts (x - BitVec.ofNat 64 resolverLag)
      let shift := placedAfter d.phase y - y
      let s := s.setDom i { d with good := 0, low, angle := ang, raw := raw + shift, e := raw + shift, te := x, act := x, arrived := true, rev := false, lastRev := false, pts := pts.map (fun q => (q.1, q.2 + shift)), base := .hold d.phase, segs := [(k, .follow resolverLag (some d.phase) false)] }
      s.domGo i .locked
    else s.setDom i { d with good, low, angle := ang, raw, pts, te := x, act := x, arrived := true }
  | .locked | .stalled =>
    let lost := decide (16 ≤ low)
    let s := s.flagIf lost (Reg.DOM_STAT i) 12
    if lost && d.state == .locked then (s.setDom i { d with low := 0, good := 0, angle := ang, raw, pts := [] }).domGo i .acquire
    else
      let last := match d.pts with | (_, p) :: _ => p | [] => d.phase
      let gone := distance last raw
      let back := if d.lastRev then decide (0 < gone) else decide (gone < 0)
      let turn := back && decide (hyst < gone.natAbs)
      let turnOk := turn && (s.domRevEn i || d.lastRev)
      let p := if back && !turnOk then last else raw
      let moved := decide (hyst < (distance d.e raw).natAbs)
      let d' := { d with low := if lost then 0 else low, angle := ang, raw, te := x, lastRev := d.lastRev != turnOk, pts := ((x, p) :: d.pts).take 12, e := if moved then raw else d.e, act := if moved then x else d.act, arrived := d.arrived || moved }
      let s := (s.setDom i d').flagIf (back && !turnOk && !s.domRevEn i) (Reg.DOM_STAT i) 11
      if d.state = .stalled && moved then
        (s.setDom i { d' with base := .hold d.phase, segs := [(k, .follow resolverLag (some d.phase) d.rev)] }).domGo i .locked
      else s
  | _ => s

/-! ## LINK (R58, R65, R68, R69) -/

/-- Where the carried position of a RESOLVER or LINK domain stands at the start and at the end of the tick, `lag` dtu behind. -/
def State.carriedSpan (s : State) (d : Dom) (lag : Nat) : DWord × DWord :=
  (interpolate d.pts (s.now - BitVec.ofNat 64 lag), interpolate d.pts (s.tickEnd - BitVec.ofNat 64 lag))

/-- The direction in which a carried position moves; `old` where it stands. -/
def carriedRev (old : Bool) (q : DWord × DWord) : Bool :=
  let g := distance q.1 q.2
  if g < 0 then true else if 0 < g then false else old

/-- The source-driven update of a RESOLVER or LINK domain: it reverses in the tick in which its lagged trajectory does (R66), drops the
held phase of a re-entry that the carried position has passed (R69), and holds reverse motion with `rev_en` = 0 (R66). [Log 169 DEDUCED] -/
def State.followTurn (s : State) (i : Nat) : State :=
  let d := s.dom i
  match d.base with
  | .follow lag held rev =>
    let q := s.carriedSpan d lag
    let turn := carriedRev rev q
    let passed := match held with
      | some h => if rev then decide (q.1 ≤ h) else decide (h ≤ q.1)
      | none => true
    if turn && !s.domRevEn i then
      (s.setDom i { d with base := .follow lag (some d.phase) false }).flag (Reg.DOM_STAT i) 11
    else s.setDom i { d with rev := turn, base := .follow lag (if passed then none else held) turn }
  | _ => s

/-- A LINK domain enters LOCKED: from the first dtu of the tick it follows the words, from the phase it held (R69). -/
def State.linkEnter (s : State) (i : Nat) (d : Dom) : State :=
  let lag := s.domLag i
  let rev := carriedRev d.rev (s.carriedSpan d lag) && s.domRevEn i
  (s.setDom i { d with rev, base := .hold d.phase, segs := [(1, .follow lag (some d.phase) rev)], holdTicks := 0 }).domGo i .locked

/-- The tick in hand is the one in which a domain's HOLDOVER_MAX elapses (R68, R70). -/
def State.holdoverDue (s : State) (i : Nat) : Bool :=
  (s.dom i).state == .holdover && decide (s.fld (Reg.DOM_HOLDMAX i) 0 24 * 512 ≤ (s.dom i).holdTicks + 1)

/-- A valid phase word for domain `i`, of DT `x` at the master, arriving in this tick; `aligned`: the follower is aligned
or the domain follows its own outgoing stream (R51, R408). A word that ends the holdover in the tick of its limit arrives late (R70). -/
def State.linkWord (s : State) (i : Nat) (x p : DWord) (aligned : Bool) : State :=
  let d := s.dom i
  let frames := if d.state = .acquire ∧ ¬aligned then 0 else d.frames + 1
  let d' := { d with frames, pts := ((x, p) :: d.pts).take 520, te := x, act := s.tickEnd, arrived := true }
  match d.state with
  | .acquire => if 4 ≤ frames then s.linkEnter i d' else s.setDom i d'
  | .holdover | .stalled =>
    if 4 ≤ frames then
      let late := s.holdoverDue i
      let s := s.linkEnter i d'
      if late then (s.flag (Reg.DOM_STAT i) 8).lateArrival 4 0x03 i else s
    else s.setDom i d'
  | .locked => s.setDom i d'
  | _ => s.setDom i { d' with frames := 0, pts := [] }

/-- No valid frame for a LINK domain: HOLDOVER, or STALLED at once where DOM_HOLDMAX is 0 (R68). [Log 48 DEDUCED] -/
def State.linkLoss (s : State) (i : Nat) : State :=
  let d := s.dom i
  let s := s.setDom i { d with frames := 0 }
  if s.domSrc i = 4 && d.state = .locked then
    if s.fld (Reg.DOM_HOLDMAX i) 0 24 = 0 then s.domGo i .stalled
    else
      let x := s.now
      let (num, den) := match d.pts with
        | (s1, p1) :: (s0, p0) :: _ => (distance p0 p1, max (s1 - s0).toNat 1)
        | _ => (0, 1)
      (s.setDom i { d with frames := 0, holdTicks := 0, base := .extrap d.phase x num den, segs := [] }).domGo i .holdover
  else s

/-! ## VIRTUAL and FABRIC (R59, R60) -/

/-- The greatest VIRTUAL velocity, 2^48 - 1 in Q32.16. -/
def maxVelocity : Nat := 2 ^ 48 - 1

/-- A 64-bit write of DOM_VEL to a VIRTUAL domain (R59): negative as 0, above the limit as the limit, both with cfg_err.
[Log 31 DEDUCED] -/
def State.velocityWrite (s : State) (i : Nat) (w : DWord) : State :=
  let neg := w.getLsbD 63
  let big := !neg && decide (maxVelocity < w.toNat)
  let v := if neg then 0 else min w.toNat maxVelocity
  (s.setDom i { s.dom i with newVel := some v }).flagIf (neg || big) (Reg.DOM_STAT i) 14

/-- A 64-bit write of DOM_ACC to a VIRTUAL domain (R59): bits [47:0], signed Q16.32. -/
def State.accelerationWrite (s : State) (i : Nat) (w : DWord) : State :=
  s.setDom i { s.dom i with newAcc := some (signed 48 (w.toNat)) }

/-- An increment presented by Region `rg` in this tick (R60). [Log 50 DEDUCED] -/
def State.fabricIncrement (s : State) (rg : Nat) (inc : Word) : State :=
  let l := s.spine.incs.get rg []
  let l' := match l with | h :: t => ((h + inc.toNat) % 2 ^ 32) :: t | [] => [inc.toNat]
  { s with spine := { s.spine with incs := s.spine.incs.set rg l' [] } }

/-! ## Commands (R71) -/

/-- A DOM_CMD code reaches the engine; it acts at step 2 of this tick. Codes 6 to 15 are reserved. -/
def State.domCommand (s : State) (i code : Nat) : State :=
  let push (c : DomCmd) : State := s.setDom i { s.dom i with cmds := (s.dom i).cmds ++ [c] }
  match code with
  | 0 => s
  | 1 => push .enable
  | 2 => push .disable
  | 3 => push .reacquire
  | 4 => push .freeze
  | 5 => push .unfreeze
  | _ => s.flag (Reg.DOM_STAT i) 14

/-- Whether another enabled RESOLVER domain owns a Tracking ADC channel that domain `i` names (R57). -/
def State.channelTaken (s : State) (i : Nat) : Bool :=
  let mine := [s.fld (Reg.DOM_SRCA i) 0 3, s.fld (Reg.DOM_SRCA i) 4 3]
  (List.range 16).any (fun j => j != i && s.domSrc j == 3 && (s.dom j).state != .off &&
    (mine.contains (s.fld (Reg.DOM_SRCA j) 0 3) || mine.contains (s.fld (Reg.DOM_SRCA j) 4 3)))

/-- A domain as ENABLE and REACQUIRE leave it: position unknown, estimator at its start, velocity settings of VIRTUAL kept.
[Log 165 DEDUCED] -/
def Dom.fresh (d : Dom) (x : DWord) : Dom :=
  { state := d.state, phase := d.phase, vx := d.vx, a := d.a, newVel := d.newVel, newAcc := d.newAcc, base := .hold d.phase, act := x, actOld := x, te := d.te, cmds := d.cmds, frames := d.frames, pts := d.pts, la := d.la, lb := d.lb, lz := d.lz }

/-- Carry out one command at step 2 (R68, R71). DISABLE leaves `frz_cmd` and `frz_dbg` as they are until ENABLE. [Log 166 DESIGN CHOICE] -/
def State.domAct (s : State) (i : Nat) (c : DomCmd) : State :=
  let d := s.dom i
  let src := s.domSrc i
  let bad := s.flag (Reg.DOM_STAT i) 13
  match c with
  | .enable =>
    if d.state != .off then bad
    else if src = 3 && s.channelTaken i then bad
    else
      let div := s.fld (Reg.DOM_SRCA i) 12 12
      let s := s.flagIf (src == 3 && (decide (div < 250) || decide (2500 < div))) (Reg.DOM_STAT i) 14
      let s := s.flagIf (src == 4 && (decide (s.fld (Reg.DOM_SRCB i) 0 16 < 20) || decide (5000 < s.fld (Reg.DOM_SRCB i) 0 16)))
        (Reg.DOM_STAT i) 14
      (s.setDom i (d.fresh s.tickEnd)).domGo i (if src = 5 || src = 6 then .locked else .acquire)
  | .disable => s.domGo i .off
  | .reacquire =>
    if (d.state == .locked || d.state == .stalled) && src != 5 && src != 6 then
      let s := s.domGo i .acquire
      s.setDom i { (s.dom i).fresh s.tickEnd with pts := [], frames := 0, rev := d.rev }
    else bad
  | .freeze =>
    if src = 5 && (d.state == .locked || d.state == .frozen) then
      (s.setDom i { d with frzCmd := true }).domGo i .frozen
    else bad
  | .unfreeze =>
    if d.state = .frozen && d.frzCmd then
      let s := s.setDom i { d with frzCmd := false }
      if d.frzDbg then s else s.domGo i .locked
    else bad

/-! ## The steps of a tick -/

/-- The debug freeze of a VIRTUAL domain while its chosen core is halted (R72). -/
def State.domDebug (s : State) (i : Nat) (halted : Bool) : State :=
  let d := s.dom i
  let hold := halted && s.bit (Reg.DOM_CTL i) 12 && s.domSrc i == 5
  if hold && (d.state == .locked || d.state == .frozen) then (s.setDom i { d with frzDbg := true }).domGo i .frozen
  else if !hold && d.frzDbg then
    let s := s.setDom i { d with frzDbg := false }
    if d.state = .frozen && !d.frzCmd then s.domGo i .locked else s
  else s

/-- Step 2 of one domain: its source's update, a STALLED FABRIC domain that moves again among them, then the debug freeze, then the commands in order (R68, R71, R72). -/
def State.domStep2 (s : State) (halted : Bool) (i : Nat) : State :=
  let d := s.dom i
  let s := if s.domSrc i = 6 && d.state != .off && d.lastSum != 0 then
      let s := s.setDom i { d with act := s.tickEnd, te := s.tickEnd, arrived := true }
      if d.state = .stalled then s.domGo i .locked else s
    else s.followTurn i
  let s := s.domDebug i halted
  let cmds := (s.dom i).cmds
  let s := cmds.foldl (fun s c => s.domAct i c) s
  s.setDom i { s.dom i with cmds := [] }

/-- STALL_TIMEOUT of a domain, in dtu (R70); none where no stall is detected. -/
def State.stallLimit (s : State) (i : Nat) : Option Nat :=
  let t := s.fld (Reg.DOM_TIMEOUT i) 0 24
  if t = 0 then none else some (t * 512 * 32)

/-- STALL_TIMEOUT at step 3 (R68, R70, R12): an edge of this tick wins against the expiry, late. -/
def State.stallTimeout (s : State) (i : Nat) : State :=
  let d := s.dom i
  if d.state != .locked || s.domSrc i = 4 || s.domSrc i = 5 then s else
  match s.stallLimit i with
  | none => s
  | some lim =>
    let due (a : DWord) : Bool := decide (lim ≤ (s.tickEnd - a).toNat)
    if due d.act then s.domGo i .stalled
    else if d.arrived && due d.actOld && !due (d.actOld + 32) then (s.flag (Reg.DOM_STAT i) 8).lateArrival 4 0x03 i
    else s

/-- HOLDOVER_MAX at step 3 (R68, R70): a frame of this tick wins, late, and the limit runs anew. -/
def State.holdoverTimeout (s : State) (i : Nat) : State :=
  let d := s.dom i
  if s.holdoverDue i then
    if d.arrived then ((s.setDom i { d with holdTicks := 0 }).flag (Reg.DOM_STAT i) 8).lateArrival 4 0x03 i
    else s.domGo i .stalled
  else s

/-- Step 3 of one domain. -/
def State.domStep3 (s : State) (i : Nat) : State := (s.stallTimeout i).holdoverTimeout i

/-- Whether the phase stood at the fence somewhere in the tick (R62). -/
def Dom.atFence (d : Dom) (dt : DWord) (len : Nat) : Bool :=
  d.running && ((len :: d.jumps.map (· - 1)).any (fun k => (d.segAt k).fenced (dt + BitVec.ofNat 64 k)))

/-- The velocity a VIRTUAL domain holds after a tick, 0 to 2^48 - 1 with 32 fraction bits kept (R59). [Log 45 DEDUCED] -/
def nextVx (vx : Nat) (a : Int) : Nat := min ((vx : Int) + a).toNat (maxVelocity * 2 ^ 16)

/-- The end of a tick for one domain: the phase moves to cur(t), and the trajectory of the next tick begins (R48, R59, R60).
[Log 44 DEDUCED, 45 DEDUCED] -/
def State.domClose (s : State) (i : Nat) : State :=
  let d := s.dom i
  let len := s.spine.len
  let x := s.tickEnd
  let s := s.flagIf (d.atFence s.spine.dt len) (Reg.DOM_STAT i) 15
  let cur := d.cur s.spine.dt len
  let moved := match d.base with | .ramp _ _ _ => d.running | _ => false
  let frac := match d.base with
    | .ramp p16 _ v16 => if d.running then (p16 + v16) % 2 ^ 16 else d.frac
    | _ => d.frac
  let vx := if s.domSrc i = 5 && moved then nextVx d.vx d.a else d.vx
  let vx := match d.newVel with | some v => v * 2 ^ 16 | none => vx
  let a := match d.newAcc with | some a => a | none => d.a
  let frac := if d.running then frac else if d.state = .off then 0 else d.frac
  let last := d.segAt len
  let src := s.domSrc i
  let sum := ((s.spine.incs.get (s.fld (Reg.DOM_SRCA i) 0 6) []).getD 15 0)
  let next : Seg :=
    if src = 5 then (if d.running then .ramp (cur.toNat * 2 ^ 16 + frac) x (vx / 2 ^ 16) else .hold cur)
    else if src = 6 then .ramp (cur.toNat * 2 ^ 16) x (sum * 2 ^ 16)
    else if d.running then last
    else .hold cur
  s.setDom i { d with phase := cur, frac, vx, a, newVel := none, newAcc := none, lastSum := if src = 6 then sum else 0, base := next, segs := [], actOld := d.act, arrived := false, holdTicks := if d.state = .holdover then d.holdTicks + 1 else 0 }

/-- The end of a tick for the increment ports: this tick's sum joins the 16 before it (R60). [Log 50 DEDUCED] -/
def State.incsClose (s : State) : State :=
  { s with spine := { s.spine with incs := s.spine.incs.mapVals [] (fun _ l =>
      let l' := (0 :: l).take 17
      if l'.all (· == 0) then [] else l') } }

end Sys2Proof.Machine
end

