-- ==== Sys2Proof/Machine/Serial.lean ====
section
/-!
DEFINITION. Transceiver lanes, quad PLLs and Phase Link (R382 to R413).
-/
namespace Sys2Proof.Machine

/-! ## Dies and references -/

def State.setDie (s : State) (die st : Nat) : State := { s with dies := s.dies.set die st 0 }

/-- Reference `i` is present (CLK_REFOK, R419). [Log 128 DEDUCED] -/
def State.refOk (s : State) (i : Nat) : Bool := s.bit Reg.CLK_REFOK i

/-- The greatest fabric user clock of the speed grade, in kHz (R1). [Log 128 DEDUCED] -/
def State.userClockMax (s : State) : Nat := match s.grade with | 1 => 500000 | 2 => 550000 | _ => 600000

/-! ## Lanes and quads -/

def State.lane (s : State) (die l : Nat) : Lane := s.serial.lanes.get (die * 16 + l) {}
def State.setLane (s : State) (die l : Nat) (x : Lane) : State := { s with serial := { s.serial with lanes := s.serial.lanes.set (die * 16 + l) x {} } }
def State.port (s : State) (p : Nat) : Port := s.serial.ports.get p {}
def State.setPort (s : State) (p : Nat) (x : Port) : State := { s with serial := { s.serial with ports := s.serial.ports.set p x {} } }

/-- The control register of PLL A or B of a quad. -/
def pllKey (die q : Nat) (b : Bool) : Nat := if b then Reg.XCVR_QPLLB die (16 + q) else Reg.XCVR_QPLLA die (16 + q)
/-- Whether a quad PLL is locked. -/
def State.pllLocked (s : State) (die q : Nat) (b : Bool) : Bool := s.serial.locks.get (8 * die + 2 * q + b2n b) false
def State.setLocked (s : State) (die q : Nat) (b v : Bool) : State :=
  { s with serial := { s.serial with locks := s.serial.locks.set (8 * die + 2 * q + b2n b) v false } }
/-- A lane's PLL is B. -/
def State.lanePll (s : State) (die l : Nat) : Bool := s.bit (Reg.XCVR_LCTL die l) 1
def State.laneEn (s : State) (die l : Nat) : Bool := s.bit (Reg.XCVR_LCTL die l) 0
/-- The quad's power domain is in RUN (R273, R382). -/
def State.quadRuns (s : State) (die q : Nat) : Bool := s.power.dom.get (132 + 4 * die + q) 0 == 0

/-- The lanes a Phase Link port uses: die, lowest lane, how many (R398). -/
def State.portLanes (s : State) (p : Nat) : Nat × Nat × Nat :=
  let k := Reg.PL_PCTL p
  (s.fld k 1 2, s.fld k 3 4, s.fld k 7 1 + 1)
def State.portEn (s : State) (p : Nat) : Bool := s.bit (Reg.PL_PCTL p) 0
/-- Whether a Phase Link port other than `but` owns a lane (R399). -/
def State.ownedBut (s : State) (but die l : Nat) : Bool :=
  (List.range 4).any (fun p => let (d, l0, n) := s.portLanes p; p != but && s.portEn p && d == die && decide (l0 ≤ l ∧ l < l0 + n))
/-- Whether a Phase Link port owns a lane (XCVR_LSTAT.pl_own). -/
def State.owned (s : State) (die l : Nat) : Bool := s.ownedBut 4 die l
def State.quadOwned (s : State) (die q : Nat) : Bool := (List.range 4).any (fun k => s.owned die (4 * q + k))

/-- A lane is squelched (R395): the causes are those of the safe state but a failed start-up (R163). [Log 127 DEDUCED] -/
def State.squelched (s : State) (die : Nat) : Bool :=
  let c := s.pins.safe
  c.reference || c.thermal || c.security || c.die.get die false

/-- Report E_XCVR_CONFIG at a lane, at a quad. -/
def State.laneConfig (s : State) (die l : Nat) : State := s.flagErr (Reg.XCVR_LSTAT die l) 13 3 (errCode 13 1)
def State.quadConfig (s : State) (die q : Nat) : State := s.flagErr (Reg.XCVR_QSTAT die (16 + q)) 2 3 (errCode 13 1)

/-- A line rate in kb/s that the table of R383 lists for a quad PLL; `link`: PLL B on the spine reference, which alone takes the rate of
Phase Link in PAM4. [Log 231 DEDUCED] -/
def rateListed (rate : Nat) (pam4 link : Bool) : Bool :=
  if pam4 then [53125000, 106250000, 112500000, 116000000].contains rate || (link && rate == 51562500) else decide (1250000 ≤ rate ∧ rate ≤ 32000000)

/-- Bits per lane-clock cycle. -/
def laneWidth (ctl : Word) : Nat := 32 * 2 ^ wfld ctl 8 2

/-- Whether a lane may be enabled with the control word `w` (R383, R384, R410). [Log 123 DEDUCED] -/
def State.laneOk (s : State) (die l : Nat) (w : Word) : Bool :=
  let pll := s.rd (pllKey die (l / 4) (wbit w 1))
  let rate := wfld pll 0 27
  let pam4 := wbit pll 27
  let div := 2 ^ wfld w 2 3
  let line := rate / div
  let payload := if wfld w 5 2 = 1 then line * 64 / 66 else line
  decide (wfld w 2 3 ≤ 4) && decide (wfld w 5 2 ≤ 1) &&
    (rate == 0 || (if pam4 then div == 1 else decide (1250000 ≤ line))) &&
    decide (payload ≤ s.userClockMax * laneWidth w)

/-- A lane starts at CAL where its PLL is locked and its quad runs, else it waits in OFF (R392). -/
def State.startLane (s : State) (die l : Nat) : State :=
  let x := s.lane die l
  let go := s.pllLocked die (l / 4) (s.lanePll die l) && s.quadRuns die (l / 4)
  s.setLane die l { x with state := if go then .cal else .off, fault := 0, blk := false }

/-- A lane goes OFF. -/
def State.laneOff (s : State) (die l : Nat) : State := s.setLane die l { (s.lane die l) with state := .off, fault := 0, blk := false, slip := 0, eq := [] }

/-- A lane enters FAULT with a code (R393). -/
def State.laneFault (s : State) (die l code : Nat) : State :=
  (s.setLane die l { (s.lane die l) with state := .fault, fault := code, blk := false }).raise 4 (errCode 13 2) die 0x0D l

/-- The lanes of the quad that use a PLL, of those enabled. -/
def State.pllUsers (s : State) (die q : Nat) (b : Bool) : List Nat :=
  ((List.range 4).map (4 * q + ·)).filter (fun l => s.laneEn die l && s.lanePll die l == b)

/-- A Phase Link port that loses a lane of its own goes back to TRAINING. -/
def State.portsRetrain (s : State) (die l : Nat) : State :=
  (List.range 4).foldl (fun s p =>
    let (d, l0, n) := s.portLanes p
    if s.portEn p && d == die && decide (l0 ≤ l ∧ l < l0 + n) && (s.port p).state == .up then s.setPort p { (s.port p) with state := .training, words := [] } else s) s

/-- A quad PLL loses lock: every lane on it that is not OFF enters FAULT (R392). -/
def State.pllUnlock (s : State) (die q : Nat) (b : Bool) : State :=
  (s.pllUsers die q b).foldl (fun s l => if (s.lane die l).state == .off then s else (s.laneFault die l 2).portsRetrain die l) (s.setLocked die q b false)

/-- A quad PLL locks: its enabled lanes pass to CAL (R392). [Log 231 DEDUCED] -/
def State.pllLock (s : State) (die q : Nat) (b : Bool) : State :=
  let k := s.rd (pllKey die q b)
  if !wbit k 31 || !rateListed (wfld k 0 27) (wbit k 27) (b && wbit k 28) || !s.quadRuns die q then s
  else if !wbit k 28 && !s.refOk (7 + 4 * die + q) then s
  else
    (s.pllUsers die q b).foldl (fun s l =>
      let x := s.lane die l
      if x.state == .off || (x.state == .fault && decide (x.fault ≤ 2)) then s.startLane die l else s) (s.setLocked die q b true)

/-- A quad's XREF is lost while it is not selected: its PLLs on it unlock and their lanes report NO_REF (R393, R420). -/
def State.xrefLost (s : State) (die q : Nat) : State :=
  [false, true].foldl (fun s b =>
    if wbit (s.rd (pllKey die q b)) 28 then s
    else (s.pllUsers die q b).foldl (fun s l => if (s.lane die l).state == .off then s else (s.laneFault die l 1).portsRetrain die l) (s.setLocked die q b false)) s

/-- A quad's power domain leaves RUN: its lanes go OFF and its PLLs unlock (R392). -/
def State.quadStops (s : State) (die q : Nat) : State :=
  let s := (List.range 4).foldl (fun s k => (s.laneOff die (4 * q + k)).portsRetrain die (4 * q + k)) s
  (s.setLocked die q false false).setLocked die q true false

/-- Enabled lanes of a die restart at CAL when a squelch ends (R395, R424). -/
def State.restartLanes (s : State) (die : Nat) : State :=
  (List.range 16).foldl (fun s l => if s.laneEn die l && s.quadRuns die (l / 4) && (s.lane die l).state != .off then s.startLane die l else s) s

/-! ## Writes of the XCVR registers -/

/-- The fields of XCVR_LCTL that are written only while the lane is disabled: pll, div, pcs, scr, width. -/
def lctlFixed (w : Word) : Nat := wfld w 1 9

/-- The loopback path selected; the reserved codes behave as NONE (R391). -/
def loopback (ctl : Word) : Nat := if 5 ≤ wfld ctl 15 3 then 0 else wfld ctl 15 3

/-- A write of XCVR_LCTL (R384, R386, R391, R392, R399, R410). [Log 123 DEDUCED] -/
def State.lctlWrite (s : State) (die l : Nat) (w : Word) : State × Resp :=
  let key := Reg.XCVR_LCTL die l
  let old := s.rd key
  let w := BitVec.ofNat 32 (w.toNat % 2 ^ 24)
  if s.owned die l then (s, .refused)
  else if wbit old 0 && lctlFixed old != lctlFixed w then (s, .refused)
  else if !wbit old 0 && wbit w 0 && !s.laneOk die l w then (s.laneConfig die l, .refused)
  else
    let bad := wfld w 12 2 = 3 || 5 ≤ wfld w 15 3 || 6 ≤ wfld w 18 3 || 6 ≤ wfld w 21 3
    let s := s.wr key w
    let s := if bad then s.laneConfig die l else s
    let x := s.lane die l
    let s :=
      if !wbit w 0 then (if wbit old 0 then s.laneOff die l else s)
      else if !wbit old 0 then s.startLane die l
      else if x.state = .ready ∧ loopback old ≠ loopback w then s.setLane die l { x with state := .acq, blk := false }
      else if x.state = .adapt ∧ wfld w 12 2 = 0 then s.setLane die l { x with state := .ready }
      else s
    (s, .ok)

/-- RECAL (R394, R396): from every state but OFF the lane restarts at CAL. -/
def State.recal (s : State) (die l : Nat) : State :=
  let x := s.lane die l
  if x.state = .off then s else (s.setLane die l { x with state := .cal, fault := 0, blk := false }).portsRetrain die l

/-- A one-bit slip (R390): refused in 64B66B mode or outside READY. [Log 232 DEDUCED] -/
def State.slip (s : State) (die l : Nat) : State × Resp :=
  let x := s.lane die l
  let ctl := s.rd (Reg.XCVR_LCTL die l)
  if wfld ctl 5 2 ≠ 0 ∨ x.state ≠ .ready then (s, .refused)
  else (s.setLane die l { x with slip := (x.slip + 1) % laneWidth ctl, gaps := x.gaps + 1 }, .ok)

/-- PRBS_CLEAR (R391). -/
def State.prbsClear (s : State) (die l : Nat) : State := s.wr (Reg.XCVR_PRBSCNT die l) 0

/-- A write of XCVR_LCMD. -/
def State.lcmdWrite (s : State) (die l : Nat) (w : Word) : State × Resp :=
  if s.owned die l then (s, .refused)
  else
    let (s', r) := if wbit w 1 then s.slip die l else (s, .ok)
    if r = .refused then (s, .refused)
    else
      let s' := if wbit w 2 then s'.prbsClear die l else s'
      (if wbit w 0 then s'.recal die l else s', .ok)

/-- A write of XCVR_TXEQ (R385): ignored where the taps exceed 63. It is taken on an owned lane too (R399). -/
def State.txeqWrite (s : State) (die l : Nat) (w : Word) : State :=
  if 63 < wfld w 0 4 + wfld w 4 6 + wfld w 10 5 + wfld w 15 4 then s.laneConfig die l
  else s.wr (Reg.XCVR_TXEQ die l) (BitVec.ofNat 32 (w.toNat % 2 ^ 23))

/-- A write of XCVR_RXEQ (word 0) or XCVR_DFE (words 1 to 3): refused while the receiver adapts by itself (R386). -/
def State.rxeqWrite (s : State) (die l word : Nat) (w : Word) : State × Resp :=
  if s.owned die l || wfld (s.rd (Reg.XCVR_LCTL die l)) 12 2 != 0 then (s, .refused)
  else if word = 0 then (s.wr (Reg.XCVR_RXEQ die l) (w &&& 0x1F7F), .ok)
  else (s.wr (Reg.XCVR_DFE die l (word - 1)) w, .ok)

/-- The value in use of XCVR_RXEQ or XCVR_DFE (R386). -/
def State.rxeqRead (s : State) (die l word : Nat) : Word :=
  let own := if word = 0 then s.rd (Reg.XCVR_RXEQ die l) else s.rd (Reg.XCVR_DFE die l (word - 1))
  if wfld (s.rd (Reg.XCVR_LCTL die l)) 12 2 = 0 then own else (s.lane die l).eq.getD word own

/-- An eye scan is started (R388). [Log 124 DESIGN CHOICE] -/
def State.eyeScan (s : State) (die l : Nat) (w : Word) : State × Resp :=
  if s.owned die l then (s, .refused)
  else if wbit w 31 && (s.lane die l).state != .ready then (s, .refused)
  else
    let s := s.wr (Reg.XCVR_ESCAN die l) (BitVec.ofNat 32 (w.toNat % 2 ^ 18))
    (if wbit w 31 then s.setLane die l { (s.lane die l) with scan := true } else s, .ok)

/-- A write of XCVR_QREF (R382, R410). -/
def State.qrefWrite (s : State) (die q : Nat) (w : Word) : State × Resp :=
  let f := wfld w 0 19
  let g := min (max f 100000) 400000
  let key := Reg.XCVR_QREF die (16 + q)
  if (wbit (s.rd (pllKey die q false)) 31 || wbit (s.rd (pllKey die q true)) 31) && f != s.fld key 0 19 then (s, .refused)
  else
    let s := s.wr key (BitVec.ofNat 32 g)
    (if f = g then s else s.quadConfig die q, .ok)

/-- A write of XCVR_QPLLA or XCVR_QPLLB (R383, R394, R399). -/
def State.qpllWrite (s : State) (die q : Nat) (b : Bool) (w : Word) : State × Resp :=
  let key := pllKey die q b
  let old := s.rd key
  let w := w &&& 0x9FFFFFFF
  if b && s.quadOwned die q then (s, .refused)
  else if wbit old 31 && wbit w 31 then (s, .refused)
  else if wbit old 31 && !(s.pllUsers die q b).isEmpty then (s, .refused)
  else
    let s := (s.wr key w).setLocked die q b false
    (if wbit w 31 && !rateListed (wfld w 0 27) (wbit w 27) (b && wbit w 28) then s.quadConfig die q else s, .ok)

/-! ## Events of a lane (R387 to R396) -/

/-- Calibration is done. -/
def State.laneCalibrated (s : State) (die l : Nat) : State :=
  let x := s.lane die l
  if x.state = .cal then s.setLane die l { x with state := .acq } else s

/-- CDR lock; `late` in the cycle in which the 10 ms limit expires (R396). With adapt = OFF the lane is READY at once. -/
def State.cdrLock (s : State) (die l : Nat) (late : Bool) : State :=
  let x := s.lane die l
  if x.state ≠ .acq then s else
  let s := s.setLane die l { x with state := if s.fld (Reg.XCVR_LCTL die l) 12 2 = 0 then .ready else .adapt }
  if late then (s.flag (Reg.XCVR_LSTAT die l) 12).lateArrival die 0x0D l else s

/-- No CDR lock within 10 ms. -/
def State.cdrTimeout (s : State) (die l : Nat) : State := if (s.lane die l).state = .acq then s.laneFault die l 3 else s

/-- The receiver converges, with the values it adapted (R386, R396). [Log 124 DESIGN CHOICE] -/
def State.adapted (s : State) (die l : Nat) (eq : List Word) (late : Bool) : State :=
  let x := s.lane die l
  if x.state ≠ .adapt then s else
  let s := s.setLane die l { x with state := .ready, eq := eq.take 4 }
  if late then (s.flag (Reg.XCVR_LSTAT die l) 12).lateArrival die 0x0D l else s

/-- No convergence within 50 ms. -/
def State.adaptFail (s : State) (die l : Nat) : State := if (s.lane die l).state = .adapt then s.laneFault die l 4 else s

/-- CDR loss of lock in READY. [Log 232 DEDUCED] -/
def State.lossOfLock (s : State) (die l : Nat) : State :=
  let x := s.lane die l
  if x.state ≠ .ready then s
  else ((s.setLane die l { x with state := .acq, blk := false, lols := x.lols + 1 }).portsRetrain die l).flagErr (Reg.XCVR_LSTAT die l) 10 3 (errCode 13 3)

/-- Block lock is gained or lost (R389): loss sets blk_err and the lane stays in READY. -/
def State.blockLock (s : State) (die l : Nat) (on : Bool) : State :=
  let x := s.lane die l
  if s.fld (Reg.XCVR_LCTL die l) 5 2 ≠ 1 ∨ x.state ≠ .ready ∨ x.blk = on then s
  else (s.setLane die l { x with blk := on }).flagIf (!on) (Reg.XCVR_LSTAT die l) 11

/-- The measurement of every millisecond in READY (R387): figure of merit, values of a tracking receiver (R386), and the
bit errors the checker has counted since the last one (R391). [Log 124 DESIGN CHOICE] -/
def State.efomMeasured (s : State) (die l efom : Nat) (eq : List Word) (errors : Nat) : State :=
  let x := s.lane die l
  if x.state ≠ .ready then s else
  let ctl := s.rd (Reg.XCVR_LCTL die l)
  let s := s.setLane die l { x with efom := min efom 255, eq := if 2 ≤ wfld ctl 12 2 then eq.take 4 else x.eq }
  if wfld ctl 21 3 = 0 ∨ 6 ≤ wfld ctl 21 3 then s else s.count (Reg.XCVR_PRBSCNT die l) errors

/-- An eye scan ends with its error count (R388). -/
def State.eyeScanDone (s : State) (die l errors : Nat) : State :=
  let x := s.lane die l
  if !x.scan then s
  else (s.setLane die l { x with scan := false }).wr (Reg.XCVR_ESRES die l) (BitVec.ofNat 32 (min errors 0xFFFFFFFF))

/-- Status code of a lane state. -/
def LaneState.code : LaneState → Nat
  | .off => 0 | .cal => 1 | .acq => 2 | .adapt => 3 | .ready => 4 | .fault => 5

/-- What a lane presents to its Region beside its data: `rx_valid` (but in the word of a slip), `ready` and `blk_lock` (R384).
[Log 232 DEDUCED] -/
def Lane.presents (x : Lane) : Bool × Bool × Bool := (x.state == .ready, x.state == .ready, x.blk)

/-- XCVR_LSTAT as it reads. -/
def State.lstatRead (s : State) (die l : Nat) : Word :=
  let x := s.lane die l
  let flags := (s.rd (Reg.XCVR_LSTAT die l)).toNat % 2 ^ 14 / 2 ^ 10 * 2 ^ 10
  let efom := if x.state = .ready then x.efom else 0
  BitVec.ofNat 32 (x.state.code + b2n (x.state == .adapt || x.state == .ready) * 8 + b2n x.blk * 16 + b2n (s.owned die l) * 32 + x.fault * 64 + flags
    + b2n (s.squelched die) * 2 ^ 14 + efom * 2 ^ 16 + x.slip * 2 ^ 24)

/-- XCVR_QSTAT as it reads. -/
def State.qstatRead (s : State) (die q : Nat) : Word :=
  BitVec.ofNat 32 (b2n (s.pllLocked die q false) + b2n (s.pllLocked die q true) * 2 + b2n (s.bit (Reg.XCVR_QSTAT die (16 + q)) 2) * 4
    + (List.range 4).foldl (fun n k => n + b2n (s.owned die (4 * q + k)) * 2 ^ (4 + k)) 0)

/-! ## Phase Link: ports -/

/-- Report E_PL_CONFIG. -/
def State.plConfig (s : State) : State := s.flagErr Reg.PL_GSTAT 5 3 (errCode 13 8)

/-- The role: 0 OFF, 1 MASTER, 2 FOLLOWER; the reserved code is OFF. -/
def State.plRole (s : State) : Nat := let r := s.fld Reg.PL_GCTL 0 2; if r = 3 then 0 else r
def State.upstream (s : State) : Nat := s.fld Reg.PL_GCTL 2 2
def State.slewRate (s : State) : Nat := max (s.fld Reg.PL_GCTL 16 16) 16
def State.isUpstream (s : State) (p : Nat) : Bool := s.plRole == 2 && s.upstream == p

/-- The domains a port carries, ascending (PL_PDOM). -/
def State.carriedDoms (s : State) (p : Nat) : List Nat := (List.range 16).filter (fun i => s.bit (Reg.PL_PDOM p) i)

/-- Payload bits of a frame (R400). -/
def framePayload (two rate : Bool) : Nat := 500 * (b2n two + 1) * (b2n rate + 1)

/-- The LINK domains that follow the upstream port. -/
def State.followers (s : State) : List Nat := (List.range 16).filter (fun i => s.domSrc i == 4 && !s.bit (Reg.DOM_SRCA i) 4)

/-- No valid frames reach the LINK domains that follow the upstream port (R68, R408, R409). -/
def State.linksLost (s : State) : State := s.followers.foldl (fun s i => s.linkLoss i) s

/-- The follower's alignment state. -/
def State.setAlign (s : State) (a : AlignState) : State := { s with serial := { s.serial with align := a, near := 0, far := 0 } }

/-- The upstream port of a follower is lost (R405). -/
def State.upstreamLost (s : State) : State :=
  match s.serial.align with
  | .locking | .aligning | .aligned => if s.plRole = 2 then s.setAlign .hold else s
  | _ => s

/-- A port goes DOWN, or leaves UP, with what depends on it (R405, R409). -/
def State.portDown (s : State) (p : Nat) : State :=
  let s := s.setPort p { (s.port p) with state := .down, words := [], got := none }
  if s.isUpstream p then s.linksLost.upstreamLost else s

/-- The die that carries a port's lanes is lost (R409). -/
def State.portsOfLostDie (s : State) (die : Nat) : State :=
  (List.range 4).foldl (fun s p => if s.portEn p && (s.portLanes p).1 == die then s.portDown p else s) s

/-- Whether a port may be enabled with the control word `w` (R399, R401). [Log 125 DEDUCED] -/
def State.portOk (s : State) (p : Nat) (w : Word) : Bool :=
  let die := wfld w 1 2
  let l := wfld w 3 4
  let two := wbit w 7
  let rate := wbit w 8
  let pllb := s.rd (pllKey die (l / 4) true)
  let want := if rate then 51562500 else 25781250
  let lanes := if two then [l, l + 1] else [l]
  !(two && l % 2 == 1) && decide (wfld w 9 7 ≤ 64) &&
    decide (48 * (s.carriedDoms p).length + 16 * wfld w 9 7 + 196 ≤ framePayload two rate) &&
    !(wbit pllb 31 && (wfld pllb 0 27 != want || !wbit pllb 28)) && lanes.all (fun k => !s.ownedBut p die k)

/-- A port is enabled: it takes its lanes and PLL B of their quad (R399). [Log 125 DEDUCED] -/
def State.portEnable (s : State) (p : Nat) (w : Word) : State :=
  let die := wfld w 1 2
  let l := wfld w 3 4
  let q := l / 4
  let pll := BitVec.ofNat 32 ((if wbit w 8 then 51562500 + 2 ^ 27 else 25781250) + 2 ^ 28 + 2 ^ 31)
  let key := pllKey die q true
  let s := if wbit (s.rd key) 31 then s else (s.wr key pll).setLocked die q true false
  let lanes := if wbit w 7 then [l, l + 1] else [l]
  let s := lanes.foldl (fun s k =>
    -- pll B, divider 1, 64B66B, scrambler on, enabled
    let ctl := s.rd (Reg.XCVR_LCTL die k)
    let ctl := wset (wset (wset (wset ctl 0 2 3) 2 3 0) 5 2 1) 7 1 1
    ((s.wr (Reg.XCVR_LCTL die k) ctl).laneOff die k).startLane die k) s
  let s := s.wr (Reg.PL_PCTL p) (BitVec.ofNat 32 (w.toNat % 2 ^ 16))
  let up := !s.dieLost die && s.quadRuns die q
  s.setPort p { (s.port p) with state := if up then .training else .down, words := [], got := none, sent := [], exch := [] }

/-- A port is disabled (R399, R405, R409): its lanes and PLL B stay as they stand. -/
def State.portDisable (s : State) (p : Nat) : State :=
  let s := s.portDown p
  let s := s.wr (Reg.PL_PCTL p) (wsetBit (s.rd (Reg.PL_PCTL p)) 0 false)
  if s.isUpstream p then s.setAlign .free else s

/-- A write of PL_PCTL (R399, R401, R411). -/
def State.pctlWrite (s : State) (p : Nat) (w : Word) : State × Resp :=
  let key := Reg.PL_PCTL p
  let old := s.rd key
  let w := BitVec.ofNat 32 (w.toNat % 2 ^ 16)
  if wbit old 0 then
    if wfld w 1 15 != wfld old 1 15 then (s, .refused)
    else (if wbit w 0 then s else s.portDisable p, .ok)
  else if wbit w 0 then
    if s.portOk p w then (s.portEnable p w, .ok) else (s.plConfig, .refused)
  else (s.wr key w, .ok)

/-- A write of PL_PDOM (R411). -/
def State.pdomWrite (s : State) (p : Nat) (w : Word) : State × Resp :=
  let w := BitVec.ofNat 32 (w.toNat % 2 ^ 16)
  if s.portEn p && w != s.rd (Reg.PL_PDOM p) then (s, .refused) else (s.wr (Reg.PL_PDOM p) w, .ok)

/-- A write of PL_GCTL (R405, R406, R409). -/
def State.gctlWrite (s : State) (w : Word) : State × Resp :=
  let key := Reg.PL_GCTL
  let old := s.rd key
  if (List.range 4).any s.portEn && wfld old 0 2 != wfld w 0 2 then (s, .refused)
  else
    let low := wfld w 16 16
    let w' := BitVec.ofNat 32 (wfld w 0 5 + max low 16 * 2 ^ 16)
    let s := s.wr key w'
    let s := if low < 16 ∨ wfld w 0 2 = 3 then s.plConfig else s
    (if wfld old 0 4 != wfld w 0 4 then s.setAlign .free else s, .ok)

/-- A write of PL_EVTX (R403). -/
def State.eventSend (s : State) (p msg : Nat) : State :=
  let x := s.port p
  if msg % 65536 = 0xFFFF then s.plConfig
  else if 64 ≤ x.tx.length then s.flag (Reg.PL_PSTAT p) 6
  else s.setPort p { x with tx := x.tx ++ [msg % 65536] }

/-- The receive FIFO's head as PL_EVRX0 to PL_EVRX2 give it. -/
def State.eventHead (s : State) : List Word :=
  match s.serial.rx with
  | (msg, p, dt) :: _ => [BitVec.ofNat 32 (msg + p * 65536), loHalf dt, hiHalf dt]
  | [] => [0xFFFF, 0, 0]

/-- PL_EVRX2 pops the head (R403). -/
def State.eventPop (s : State) : State :=
  match s.serial.rx with
  | _ :: t => { s with serial := { s.serial with rx := t } }
  | [] => s.flag Reg.PL_GSTAT 8

/-! ## Frames (R400 to R403) -/

/-- Bits of a number, least significant first. -/
def bitsOf (n w : Nat) : List Bool := (List.range w).map (fun i => n / 2 ^ i % 2 == 1)

/-- One step of CRC-32C over a bit, in the reflected form. -/
def crcBit (c : Nat) (b : Bool) : Nat :=
  let x := c % 2 != b2n b
  if x then (c / 2) ^^^ 0x82F63B78 else c / 2

/-- CRC-32C over bits in order of transmission (R401). -/
def crc32c (bits : List Bool) : Nat := (bits.foldl crcBit 0xFFFFFFFF) ^^^ 0xFFFFFFFF

/-- The fields of a frame in order of transmission, without the CRC (R401). -/
def frameBody (f : Frame) : List Bool :=
  bitsOf f.sync 8 ++ bitsOf f.seq 8 ++ bitsOf f.nd 5 ++ bitsOf f.ne 7 ++ [f.mst, f.aln, false, false] ++ bitsOf f.dt 48 ++ bitsOf f.eseq 8 ++ bitsOf f.edt 48
    ++ bitsOf f.turn.1 4 ++ bitsOf f.turn.2 24
    ++ f.doms.flatMap (fun d => bitsOf d.1 4 ++ bitsOf d.2.1 3 ++ [d.2.2.1] ++ bitsOf d.2.2.2 40) ++ f.events.flatMap (fun e => bitsOf e 16)

/-- The frame as it is sent: body, CRC (R401). -/
def frameBits (f : Frame) : List Bool := frameBody f ++ bitsOf (crc32c (frameBody f)) 32

/-- Status code of a domain state (R67). -/
def DomState.code : DomState → Nat
  | .off => 0 | .acquire => 1 | .locked => 2 | .holdover => 3 | .stalled => 4 | .frozen => 5

/-- The sender is a master, or a follower in ALIGNED. -/
def State.aligned (s : State) : Bool := s.plRole == 1 || s.serial.align == .aligned

/-- The frame of port `p` at DT `x` (R400, R401). -/
def State.buildFrame (s : State) (p : Nat) (x : DWord) : Frame :=
  let q := s.port p
  let ds := s.carriedDoms p
  let ne := s.fld (Reg.PL_PCTL p) 9 7
  let turn := match ds[q.seq % max ds.length 1]? with
    | some i => (i, (s.phaseAt i x).toNat / 2 ^ 40)
    | none => (0, 0)
  let (eseq, edt) := match q.got with | some (n, t) => (n, t.toNat % 2 ^ 48) | none => (0, 0)
  { sync := if q.seq % 16 = 0 then 0xA3 else 0x5C, seq := q.seq % 256, nd := ds.length, ne := ne, mst := s.plRole == 1, aln := s.aligned, dt := x.toNat % 2 ^ 48, eseq := eseq, edt := edt, turn := turn, doms := ds.map (fun i => (i, (s.dom i).state.code, (s.dom i).rev, (s.phaseAt i x).toNat % 2 ^ 40)), events := q.tx.take ne ++ List.replicate (ne - q.tx.length) 0xFFFF }

/-- A port sends its frame at dtu `k` of the tick (R400); on a master frame instants fall at multiples of 320. -/
def State.frameTransmit (s : State) (p k : Nat) : State :=
  let q := s.port p
  let x := s.stamp k
  if !s.portEn p || q.state == .down || s.plRole == 0 || (s.plRole == 1 && x.toNat % 320 != 0) then s
  else
    let f := s.buildFrame p x
    let s := s.setPort p { q with tx := q.tx.drop f.ne, seq := q.seq + 1, sent := ((q.seq, x) :: q.sent).take 256, frame := some f }
    -- LINK domains of a master that follow its own outgoing stream (R58)
    if s.plRole ≠ 1 then s else
    (List.range 16).foldl (fun s i =>
      let r := s.fld (Reg.DOM_SRCA i) 0 4
      if s.domSrc i == 4 && s.bit (Reg.DOM_SRCA i) 4 && (s.carriedDoms p).contains r && 2 ≤ (s.dom r).state.code then s.linkWord i x (s.phaseAt r x) true else s) s

/-- The 64-bit value nearest to `near` whose low `n` bits are `low`. [Log 126 DEDUCED] -/
def nearest (n : Nat) (near : DWord) (low : Nat) : DWord :=
  near + BitVec.ofInt 64 (signed n ((low + 2 ^ 64 - near.toNat) % 2 ^ n))

/-- The turn slot and domain slot of peer domain `r`: the word, if the frame is valid for it, and the word to keep (R402). -/
def peerWord (f : Frame) (prev : Option DWord) (r : Nat) : Option DWord × Option DWord :=
  match f.doms.find? (fun d => d.1 == r) with
  | none => (none, prev)
  | some (_, st, _, low) =>
    let turn? := if f.nd ≠ 0 ∧ f.turn.1 = r then some f.turn.2 else none
    let word? : Option DWord := match prev, turn? with
      | some w, some t => let v := nearest 40 w low; if v.toNat / 2 ^ 40 = t then some v else none
      | some w, none => some (nearest 40 w low)
      | none, some t => some (BitVec.ofNat 64 (t * 2 ^ 40 + low % 2 ^ 40))
      | none, none => none
    match word? with
    | none => (none, prev)
    | some v => (if 2 ≤ st ∧ st ≤ 5 then some v else none, some v)

/-- A missing frame of a LINK domain: the second in a row takes it to HOLDOVER (R68, R408). -/
def State.linkMissing (s : State) (i : Nat) : State :=
  let n := s.serial.missing.get i 0 + 1
  let s := { s with serial := { s.serial with missing := s.serial.missing.set i n 0 } }
  let s := s.setDom i { s.dom i with frames := 0 }
  if 2 ≤ n then s.linkLoss i else s

/-- A valid frame of a LINK domain, or a late one (R402, R408). -/
def State.linkTake (s : State) (p i : Nat) (x v : DWord) : State :=
  if s.domLag i < (s.tickEnd - x).toNat ∧ 0 ≤ (s.tickEnd - x).toInt then (s.flagErr (Reg.PL_PSTAT p) 5 3 (errCode 13 5)).linkMissing i
  else ({ s with serial := { s.serial with missing := s.serial.missing.set i 0 0 } }).linkWord i x v (s.serial.align == AlignState.aligned)

/-- The words a frame of the upstream port gives the LINK domains (R402, R408). [Log 48 DEDUCED] -/
def State.frameDomains (s : State) (p : Nat) (f : Frame) : State :=
  let x := nearest 48 s.tickEnd f.dt
  let words := (s.port p).words
  let s := s.followers.foldl (fun s i =>
    let r := s.fld (Reg.DOM_SRCA i) 0 4
    match (peerWord f (words.get r none) r).1 with
    | some v => s.linkTake p i x v
    | none => s.linkMissing i) s
  let words' := (f.doms.map (·.1)).foldl (fun m r => m.set r (peerWord f (words.get r none) r).2 none) words
  s.setPort p { (s.port p) with words := words' }

/-- The event messages of a frame (R403). -/
def State.frameEvents (s : State) (p : Nat) (f : Frame) : State :=
  let x := nearest 48 s.tickEnd f.dt
  f.events.foldl (fun s e =>
    if e = 0xFFFF then s
    else if 256 ≤ s.serial.rx.length then s.flag Reg.PL_GSTAT 7
    else { s with serial := { s.serial with rx := s.serial.rx ++ [(e, p, x)] } }) s

/-! ## Delay and alignment (R404 to R407) -/

/-- Mean of the exchanges held. [Log 126 DEDUCED] -/
def meanOf (l : List Int) : Int := l.foldl (· + ·) 0 / (max l.length 1 : Nat)
/-- PL_RTT and PL_OFS in 1/16 dtu. -/
def Port.rtt (q : Port) : Int := meanOf (q.exch.map (·.1))
def Port.ofs (q : Port) : Int := meanOf (q.exch.map (·.2))

/-- The exchange that an echo completes (R404). [Log 126 DEDUCED] -/
def State.exchange (s : State) (p : Nat) (f : Frame) (t4 : DWord) : State × Bool :=
  let q := s.port p
  match q.sent.find? (fun e => e.1 % 256 == f.eseq) with
  | none => (s, false)
  | some (_, t1) =>
    let t2 := nearest 48 t1 f.edt
    let back : Nat := (f.dt + 2 ^ 48 - f.edt) % 2 ^ 48
    let rtt : Int := distance t1 t4 - (back : Nat)
    let l16 : Int := rtt * 8 + (s.rd (Reg.PL_ASYM p)).toInt
    let ofs : Int := distance t1 t2 * 16 - l16
    (s.setPort p { q with exch := ((rtt * 16, ofs) :: q.exch).take 16 }, true)

/-- The end of LOCKING (R405, R406): step DT, or record that the step is refused, and go on to ALIGNING. -/
def State.endLocking (s : State) : State :=
  let ofs := (s.port s.upstream).ofs
  let s := s.setAlign .aligning
  if ofs.natAbs ≤ 64 ∨ !s.bit Reg.PL_GCTL 4 then s
  else if [0, 1, 2, 3].any (fun d => s.bit (Reg.CAL_CTL d) 0 || (s.slice d).en) then s.flagErr Reg.PL_GSTAT 4 3 (errCode 13 6)
  else { s with serial := { s.serial with step := some (ofs.tdiv 16) } }

/-- A valid frame moves the alignment of a follower (R405, R407). -/
def State.alignFrame (s : State) (took : Bool) : State :=
  let r := s.serial
  let ofs := (s.port s.upstream).ofs.natAbs
  match r.align with
  | .free | .hold =>
    let q := s.port s.upstream
    let s := s.setPort s.upstream { q with exch := if took then q.exch.take 1 else [] }
    let s := s.setAlign .locking
    { s with serial := { s.serial with taken := b2n took } }
  | .locking =>
    let n := r.taken + b2n took
    let s := { s with serial := { r with taken := n } }
    if 16 ≤ n then s.endLocking else s
  | .aligning =>
    let n := if ofs ≤ 64 then r.near + 1 else 0
    if 64 ≤ n then s.setAlign .aligned else { s with serial := { r with near := n } }
  | .aligned =>
    let n := if 256 < ofs then r.far + 1 else 0
    if 16 ≤ n then s.setAlign .aligning else { s with serial := { r with far := n } }

/-- A measured frequency offset in 0.01 ppm beyond half the slew rate, 1 / (64 × srate) (R407). -/
def State.freqBeyond (s : State) (ppm : Int) : Bool := decide (100000000 < ppm.natAbs * (64 * s.slewRate))

/-- A frame arrives at port `p` at dtu `k`, with the result of its CRC, the frequency offset measured in 0.01 ppm, and
whether it falls in the tick in which the two-frame limit expires (R402 to R408). -/
def State.frameReceive (s : State) (p k : Nat) (f : Frame) (crcOk : Bool) (ppm : Int) (late : Bool) : State :=
  let q := s.port p
  if !s.portEn p || q.state == .down || s.plRole == 0 then s
  else if !crcOk then
    let s := (s.count (Reg.PL_CRCCNT p) 1).flagErr (Reg.PL_PSTAT p) 4 3 (errCode 13 4)
    if s.isUpstream p then s.followers.foldl (fun s i => s.linkMissing i) s else s
  else
    let t4 := s.stamp k
    let s := s.setPort p { q with state := .up, got := some (f.seq, t4) }
    let key := Reg.PL_PSTAT p
    let s := (((s.setBit key 2 f.mst).setBit key 3 f.aln).setFld key 8 5 f.nd).setFld key 13 7 f.ne
    let s := s.frameEvents p f
    let (s, took) := s.exchange p f t4
    if !s.isUpstream p then s
    else
      let s := if late then (s.flag key 7).lateArrival 4 0x18 p else s
      let s := s.wr Reg.PL_FREQ ((BitVec.ofInt 16 ppm).setWidth 32)
      let s := { s with serial := { s.serial with freq := if s.freqBeyond ppm then s.serial.freq + 1 else 0 } }
      (s.alignFrame took).frameDomains p f

/-- The frequency offset stayed beyond half the slew rate for 1,024 frames (R407). -/
def State.frequencyError (s : State) : State :=
  if s.plRole = 2 ∧ 1024 ≤ s.serial.freq then s.flagErr Reg.PL_GSTAT 6 4 (errCode 13 7) else s

/-- The length of the next tick of a follower (R406): 33 or 31 dtu in one tick of every `srate`. -/
def State.slewTick (s : State) : State :=
  let r := s.serial
  let ofs := (s.port s.upstream).ofs
  let active := s.plRole == 2 && (r.align == .aligning || r.align == .aligned) && decide (16 < ofs.natAbs)
  if active && decide (s.slewRate ≤ r.slew + 1) then
    { s with serial := { r with slew := 0 }, spine := { s.spine with len := if 0 < ofs then 33 else 31 } }
  else { s with serial := { r with slew := if active then r.slew + 1 else 0 }, spine := { s.spine with len := 32 } }

/-- The step of DT at a tick boundary (R406): every stamp a follower keeps for its exchanges moves with it. -/
def State.stepDt (s : State) : State :=
  match s.serial.step with
  | none => s
  | some d =>
    let by_ := BitVec.ofInt 64 d
    let q := s.port s.upstream
    let s := s.setPort s.upstream { q with sent := q.sent.map (fun e => (e.1, e.2 + by_)), got := q.got.map (fun e => (e.1, e.2 + by_)), exch := q.exch.map (fun e => (e.1, e.2 - 16 * d)) }
    { s with serial := { s.serial with step := none }, spine := { s.spine with dt := s.spine.dt + by_ } }.flag Reg.PL_GSTAT 3

/-- PL_GSTAT.align; a master reports ALIGNED (R405). -/
def State.alignCode (s : State) : Nat :=
  if s.plRole = 1 then 3 else if s.plRole = 0 then 0 else
  match s.serial.align with | .free => 0 | .locking => 1 | .aligning => 2 | .aligned => 3 | .hold => 4

end Sys2Proof.Machine
end

