-- ==== Sys2Proof/Machine/Fabric.lean ====
section
/-!
DEFINITION. The logic fabric: boundaries, restore, block and deep memories, crossing FIFOs, MAC slices; Loupe (R170 to R208).
-/
namespace Sys2Proof.Machine

def State.setFabric (s : State) (f : Fabric → Fabric) : State := { s with fabric := f s.fabric }

/-- The device is in user mode (CC_STATUS.user_mode, R456). -/
def State.userMode (s : State) : Bool := s.bit Reg.CC_STATUS 0

/-! ## Boundaries (R172 to R177) -/

/-- Region of a fabric die: its state of R473. -/
def State.region (s : State) (die rg : Nat) : Region := s.live.regions.get (die * 16 + rg) {}
def State.setRegion (s : State) (die rg : Nat) (x : Region) : State := { s with live := { s.live with regions := s.live.regions.set (die * 16 + rg) x {} } }

/-- The Region is being written or tested (R473). -/
def State.reconfiguring (s : State) (die rg : Nat) : Bool := let r := (s.region die rg).state; r == .loading || r == .selftest
def State.restoringRg (s : State) (die rg : Nat) : Bool := s.fabric.restoring.get (die * 16 + rg) false

/-- The Region's boundary is isolated (R174, R178, R456, R473). -/
def State.isolated (s : State) (die rg : Nat) : Bool :=
  let r := s.region die rg
  !s.userMode || r.state != .active || r.reset || s.restoringRg die rg

/-- The number of the load whose frames a Region holds (R177). -/
def State.framesOf (s : State) (die rg : Nat) : Nat := s.fabric.frames.get (die * 16 + rg) 0

/-- The initial value of an output register under the frames of load `n`; load 1 stands for zeroed frames (R477). [Log 81 DESIGN CHOICE] -/
def initialValue (n port : Nat) : Nat := if n = 1 then 0 else Config.initialOut n port % 2 ^ 72

/-- Whether a memory key belongs to a Region: 512 memories a Region. -/
def inRegion (die rg : Nat) (mem : Nat) : Bool := mem / 512 == die * 16 + rg

/-- Flip-flops and output registers of a Region take their initial values (R177, R178). -/
def State.initialise (s : State) (die rg : Nat) : State :=
  s.setFabric (fun f => { f with outs := f.outs.keep (fun k => !inRegion die rg (k / 2)), ran := f.ran.set (die * 16 + rg) false false })

/-- The initial values are released to the design: from here on its own state is what it computes; the isolation cells have its
declared defaults (R177, R475). -/
def State.releaseInitial (s : State) (die rg : Nat) : State :=
  s.setFabric (fun f => { f with ran := f.ran.set (die * 16 + rg) true false, cells := f.cells.set (die * 16 + rg) (f.frames.get (die * 16 + rg) 0) 0 })

/-- The state of a power domain (R276). -/
def State.domSt (s : State) (g : Nat) : Nat := s.power.dom.get g 0

/-- The DT at which the tick after this one ends, with a follower's step and slew (R406). -/
def State.nextEnd (s : State) : DWord :=
  (({ s with spine := { s.spine with dt := s.tickEnd } }).stepDt.slewTick).tickEnd

/-- The load whose declared defaults hold at a Region's boundary (R172, R475). [Log 198 DEDUCED] -/
def State.cellsOf (s : State) (die rg : Nat) : Nat := s.fabric.cells.get (die * 16 + rg) 0

/-- The load that decides an output at a Region's boundary: the design's own, or in isolation the one whose defaults are in force (R172).
[Log 198 DEDUCED] -/
def State.outputLoad (s : State) (die rg : Nat) : Nat := if s.isolated die rg then s.cellsOf die rg else s.framesOf die rg

/-- The design of a Region is clocked: it runs, or its self-test does, and its clock enables are not forced off (R178, R428, R473).
[Log 194 DEDUCED] -/
def State.clocked (s : State) (die rg : Nat) : Bool :=
  let r := s.region die rg
  s.userMode && !s.dieLost die && s.domSt (16 * die + rg) == 0 && !r.reset && !s.restoringRg die rg && (r.state == .active || (r.state == .selftest && r.runs))

/-- Signal `i` of the neighbour channel on an edge of a Region (0 to 3) toward the Region beside it (R172 to R174). -/
def State.channelOut (s : State) (die rg edge i : Nat) (x : DWord) : Bool :=
  Config.channel (((die * 16 + rg) * 4 + edge) * 4096 + i) (s.outputLoad die rg) (s.isolated die rg) x

/-- The user interrupt line of a Region, by its global number (R173, R174). -/
def State.userLine (s : State) (rg : Nat) : Bool := Config.userLine rg (s.outputLoad (rg / 16) (rg % 16)) (s.isolated (rg / 16) (rg % 16)) s.now

/-! ## Clocks and timed boundary ports (R193 to R197) -/

/-- What drives a global clock network (R193): a fabric PLL, the recovered clock of a lane, the reference clock of a quad, a spine-aligned
clock of 500, 250, 125 or 62.5 MHz, a Region's clock output. -/
inductive ClockSource where
  | pll (i : Nat)
  | recovered (lane : Nat)
  | reference (quad : Nat)
  | spine (k : Nat)
  | region (rg : Nat)
deriving DecidableEq, Repr

/-- A source by number. -/
def ClockSource.ofNat (n : Nat) : ClockSource :=
  if n < 8 then .pll n else if n < 24 then .recovered (n - 8) else if n < 28 then .reference (n - 24) else if n < 32 then .spine (n - 28) else .region (n % 16)

/-- The source of GCK `g` of a die. -/
def gckSource (die g : Nat) : ClockSource := .ofNat (Config.clockSource (32 * die + g) % 48)

/-- Frequency in kHz of a fabric PLL's reference: 100 MHz from the die's copy, or what XCVR_QREF declares for the XREF. -/
def State.fpllRef (s : State) (die ref : Nat) : Nat := if ref = 0 then 100000 else s.fld (Reg.XCVR_QREF die (15 + ref)) 0 19

/-- The ranges of R418 hold for a control word; `none`: outside, or the output is above 800 MHz. -/
def State.fpllRanges (s : State) (die : Nat) (w : Word) : Bool × Bool :=
  let f := s.fpllRef die (wfld w 1 3)
  let n := wfld w 4 6
  let m := wfld w 10 10
  let o := wfld w 20 8
  (decide (10000 * n ≤ f ∧ f ≤ 100000 * n ∧ 2000000 * n ≤ f * m ∧ f * m ≤ 6000000 * n), decide (f * m ≤ 800000 * n * o))

/-- A global clock of a fabric die runs: its PLL is locked and its output is not above 800 MHz. -/
def State.globalClock (s : State) (die i : Nat) : Bool := s.bit (Reg.CLK_FPLL_STAT die i) 0 && (s.fpllRanges die (s.rd (Reg.CLK_FPLL die i))).2

/-- A global clock network runs. -/
def State.gckRuns (s : State) (die g : Nat) : Bool :=
  match gckSource die g with
  | .pll i => s.globalClock die i
  | .recovered l => (s.lane die l).state == .adapt || (s.lane die l).state == .ready
  | .reference q => s.refOk (7 + 4 * die + q)
  | .spine _ => s.spine.run
  | .region r => s.clocked die r

/-- Whether a spine-aligned clock rises at a DT: at multiples of 32, 64, 128 and 256 (R194). -/
def sckEdge (k : Nat) (x : DWord) : Bool := x.toNat % (32 * 2 ^ k) == 0

/-- A global clock network rises at DT `x` (R193, R194). [Log 189 DESIGN CHOICE] -/
def State.gckEdge (s : State) (die g : Nat) (x : DWord) : Bool :=
  s.gckRuns die g && (match gckSource die g with
    | .spine k => sckEdge k x
    | _ => Config.clockEdge (32 * die + g) x)

/-- Whether an edge of the polarity given can lie at DT `x`: a spine-aligned clock rises at its multiples alone (R194). -/
def gckMayEdge (die g : Nat) (falling : Bool) (x : DWord) : Bool :=
  match gckSource die g with
  | .spine k => falling != sckEdge k x
  | _ => true

/-- Region clock `c` of a Region rises at DT `x`, behind its clock enable (R193). [Log 189 DESIGN CHOICE] -/
def State.regionEdge (s : State) (die rg c : Nat) (x : DWord) : Bool :=
  let n := s.framesOf die rg
  s.clocked die rg && Config.clockEnable (24 * (16 * die + rg) + c) n x && s.gckEdge die (Config.regionClock (24 * (16 * die + rg) + c) n % 32) x

/-- The strobe lines that assert at an edge `x` of the strobe clock: those placed 640 dtu before it or earlier (R195). -/
def strobesDue (l : List (Nat × DWord)) (x : DWord) : List (Nat × DWord) := l.filter (fun p => decide ((p.2 + 640).toNat ≤ x.toNat))

/-- The assertion of lines due at one edge: the bus carries the placement of the lowest-numbered line, `ovr` a line that came twice.
[Log 191 DEDUCED] -/
def strobeOf (l : List (Nat × DWord)) (x : DWord) : Strobe :=
  let lines := (List.range 256).filter (fun n => l.any (fun p => p.1 == n))
  let first := lines.headD 0
  { edge := x, lines, dt := ((l.filter (fun p => p.1 == first)).map (·.2)).headD 0, ovr := lines.any (fun n => decide (1 < (l.filter (fun p => p.1 == n)).length)) }

/-- The strobe port of one Region at DT `x`. -/
def State.strobeAt (s : State) (die rg : Nat) (x : DWord) : State :=
  let l := s.fabric.strobes.get (16 * die + rg) []
  let now := strobesDue l x
  if now.isEmpty || !s.regionEdge die rg (Config.strobeClock (16 * die + rg) (s.framesOf die rg) % 24) x then s
  else s.setFabric (fun f => { f with
    strobes := f.strobes.set (16 * die + rg) (l.filter (fun p => decide (x.toNat < (p.2 + 640).toNat))) [],
    strobed := f.strobed.set (16 * die + rg) (strobeOf now x) {} })

/-- The strobe ports in this tick (R195). [Log 191 DEDUCED] -/
def State.strobeTick (s : State) : State :=
  s.fabric.strobes.foldl (fun s e => (List.range s.spine.len).foldl (fun s j => s.strobeAt (e.1 / 16) (e.1 % 16) (s.stamp (j + 1))) s) s

/-- What the spine ports hold of the tick that ends: DT at its end, cur(t) and state of every domain, the tick bit (R196). The words of
the last 2,048 dtu are kept. [Log 190 DESIGN CHOICE] -/
def State.spinePresent (s : State) : State :=
  let w : SpineWord := { dt := s.tickEnd, cur := (List.range 16).map (fun i => (s.dom i).cur s.spine.dt s.spine.len), states := (List.range 16).map (fun i => (s.dom i).state.code), tick := s.tick % 2 == 1 }
  { s with spine := { s.spine with port := (w :: s.spine.port).take 64 } }

/-- What the spine port of a Region presents at DT `x`: the newest word whose 640 dtu had passed at the last rising edge of the port's
clock (R196); none before the first. [Log 190 DESIGN CHOICE] -/
def State.spinePort (s : State) (die rg : Nat) (x : DWord) : Option SpineWord :=
  let c := Config.spineClock (16 * die + rg) (s.framesOf die rg) % 24
  match (List.range 1024).find? (fun i => s.regionEdge die rg c (x - BitVec.ofNat 64 i)) with
  | some i => s.spine.port.find? (fun w => decide ((w.dt + 640).toNat ≤ (x - BitVec.ofNat 64 i).toNat))
  | none => none

/-- The capture port takes a record of a pin (R197). -/
def State.captureDeliver (s : State) (die rg pin : Nat) (record : List Byte) : State :=
  s.setFabric (fun f => { f with capture := f.capture.set (16 * die + rg) { record, pin, count := (f.capture.get (16 * die + rg) {}).count + 1 } {} })

/-! ## Restore (R178, R179) -/

/-- A write of LP_RESTORE (R178, R179). -/
def State.restoreWrite (s : State) (die : Nat) (w : Word) : State × Resp :=
  let key := Reg.LP_RESTORE die
  if s.bit key 31 then (s, .refused)
  else
    let named := (List.range 16).filter (fun r => wbit w r)
    if wbit w 31 && named.any (fun r => s.reconfiguring die r || s.restoringRg die r) then (s, .refused)
    else
      let s := s.wr key (BitVec.ofNat 32 (wfld w 0 16 + b2n (wbit w 31) * 2 ^ 31))
      if !wbit w 31 then (s, .ok)
      -- a Region in REGION_RESET is not restored: the reset wins (R179)
      else ((named.filter (fun r => !(s.region die r).reset)).foldl (fun s r => s.setFabric (fun f => { f with restoring := f.restoring.set (die * 16 + r) true false })) s, .ok)

/-- The restore of the named Regions ends (R178). -/
def State.restoreDone (s : State) (die : Nat) : State :=
  let s := (List.range 16).foldl (fun s r =>
    if !s.restoringRg die r then s
    else
      let s := s.initialise die r
      let s := s.setFabric (fun f => { f with restoring := f.restoring.set (die * 16 + r) false false })
      -- a Loupe trigger that fell in the restore still waits for its edge and sees the restored state (R179)
      if s.isolated die r then s
      else if (s.fabric.loupe.get die {}).waits.contains r then s.setFabric (fun f => { f with loupe := f.loupe.set die { (f.loupe.get die {}) with restored := r :: (f.loupe.get die {}).restored } {} })
      else s.releaseInitial die r) s
  s.setBit (Reg.LP_RESTORE die) 31 false

/-! ## Block and deep memories (R180 to R188) -/

/-- The nine bits of a lane. -/
def State.laneVal (s : State) (mem lane : Nat) : Nat :=
  match s.fabric.lanes.get (mem * 32768 + lane) none with
  | some v => v
  | none => match s.fabric.images.get (mem / 512) [] with
    | [] => 0
    | l => Config.blockLane mem lane l % 512
def State.setLaneVal (s : State) (mem lane v : Nat) : State :=
  s.setFabric (fun f => { f with lanes := f.lanes.set (mem * 32768 + lane) (some (v % 512)) none })

/-- A memory key names a deep memory. -/
def isDeep (mem : Nat) : Bool := decide (256 ≤ mem % 512)

/-- Whether a memory has a port of this width (R180, R188); port B of a 72-bit block memory only reads, port A only writes. -/
def aspectOk (mem : Nat) (b : Bool) (a : PortAccess) : Bool :=
  if isDeep mem then (a.width == 36 && decide (a.addr < 8192)) || (a.width == 72 && decide (a.addr < 4096))
  else match a.width with
    | 1 => decide (a.addr < 32768) | 2 => decide (a.addr < 16384) | 4 => decide (a.addr < 8192)
    | 9 => decide (a.addr < 4096) | 18 => decide (a.addr < 2048) | 36 => decide (a.addr < 1024)
    | 72 => decide (a.addr < 512) && a.write != b
    | _ => false

/-- The word a port addresses (R181). -/
def State.memWord (s : State) (mem : Nat) (a : PortAccess) : Nat :=
  if a.width < 9 then
    let n := a.addr * a.width
    s.laneVal mem (n / 8) / 2 ^ (n % 8) % 2 ^ a.width
  else
    let w := a.width / 9
    (List.range w).foldl (fun v i => v + s.laneVal mem (w * a.addr + i) * 2 ^ (9 * i)) 0

/-- The 64 data bits of a 72-bit word, and its check bits in the ninth bits (R183). -/
def eccData (w : Nat) : Nat := (List.range 8).foldl (fun v i => v + w / 2 ^ (9 * i) % 256 * 2 ^ (8 * i)) 0
/-- [Log 82 DESIGN CHOICE] -/
def eccCheck (w : Nat) : Nat := (List.range 8).foldl (fun v i => v + w / 2 ^ (9 * i + 8) % 2 * 2 ^ i) 0
def eccWord (data check : Nat) : Nat :=
  (List.range 8).foldl (fun v i => v + (data / 2 ^ (8 * i) % 256 + check / 2 ^ i % 2 * 256) * 2 ^ (9 * i)) 0

/-- A word as an ECC port delivers it, with `sbe` in bit 72 and `dbe` in bit 73 (R183). -/
def eccOut (w : Nat) : Nat :=
  let d := eccData w
  let c := eccCheck w
  let code (x : Nat) : Nat := Config.checkBits x % 256
  if code d = c then w
  else match (List.range 64).find? (fun i => code (d ^^^ 2 ^ i) == c) with
    | some i => eccWord (d ^^^ 2 ^ i) c + 2 ^ 72
    | none =>
      if (List.range 8).any (fun i => code d ^^^ 2 ^ i == c) then eccWord d (code d) + 2 ^ 72 else w + 2 ^ 73

/-- Store a word: lanes by the mask, or with ECC the whole word (R180, R183). -/
def State.memStore (s : State) (mem : Nat) (ecc : Bool) (a : PortAccess) : State :=
  if a.width < 9 then
    let n := a.addr * a.width
    let old := s.laneVal mem (n / 8)
    let part := old / 2 ^ (n % 8) % 2 ^ a.width
    s.setLaneVal mem (n / 8) (old - part * 2 ^ (n % 8) + a.data % 2 ^ a.width * 2 ^ (n % 8))
  else
    let w := a.width / 9
    let data := if ecc then eccWord (eccData a.data) (Config.checkBits (eccData a.data) % 256) else a.data
    (List.range w).foldl (fun s i =>
      if ecc || a.mask / 2 ^ i % 2 = 1 then s.setLaneVal mem (w * a.addr + i) (data / 2 ^ (9 * i) % 512) else s) s

/-- The lanes or bits a port's word covers: first data bit position and length, counted in ninths of a lane. -/
def coverage (a : PortAccess) : Nat × Nat :=
  if a.width < 9 then (a.addr * a.width / 8 * 9 + a.addr * a.width % 8, a.width) else (a.addr * a.width, a.width)
def overlaps (a b : PortAccess) : Bool :=
  let (x, m) := coverage a
  let (y, n) := coverage b
  decide (x < y + n ∧ y < x + m)

/-- A port's output stages; the initial value where it has not been used since (R177, R182, R188). -/
def State.memOut (s : State) (mem port : Nat) : MemOut :=
  match s.fabric.outs.get (2 * mem + port) none with
  | some o => o
  | none => let v := initialValue (s.fabric.frames.get (mem / 512) 0) (2 * mem + port); { early := v, latch := v, reg := v }

/-- A clock edge of a port brings a word into its stages: one stage, two in a deep memory, and the output register after them. -/
def State.memClock (s : State) (mem port : Nat) (v : Option Nat) : State :=
  let o := s.memOut mem port
  let o' : MemOut := if isDeep mem then { early := v.getD o.early, latch := o.early, reg := o.latch } else { o with latch := v.getD o.latch, reg := o.latch }
  s.setFabric (fun f => { f with outs := f.outs.set (2 * mem + port) (some o') none })

/-- The word at the output of a port (R182). -/
def MemOut.output (o : MemOut) (oreg : Bool) : Nat := if oreg then o.reg else o.latch

/-- What one port's own access reads: nothing without enable or for a no-change write, the new word for a write-first one (R184). -/
def State.portRead (s : State) (mem : Nat) (ecc : Bool) (a : PortAccess) (before after : State) : Option Nat :=
  let get (u : State) : Nat := let w := u.memWord mem a; if ecc then eccOut w else w
  let _ := s
  if !a.en then none
  else if !a.write then some (get before)
  else match a.mode with
    | .writeFirst => some (get after)
    | .readFirst => some (get before)
    | .noChange => none

/-- A clock edge of a port, or of each port at once (R180 to R184, R188); without its enable a port only moves its output register on.
ECC is a matter of ports of 72 bits. `same`: both ports use one Region clock; with different clocks a free choice decides which of two
overlapping accesses came first. [Log 83 DESIGN CHOICE] -/
def State.memoryAccess (s : State) (die rg m : Nat) (ecc same : Bool) (a b : Option PortAccess) : State :=
  let mem := 512 * (16 * die + rg) + m
  let ok (x : Option PortAccess) (isB : Bool) : Bool := match x with | some p => aspectOk mem isB p | none => true
  if !s.clocked die rg || !ok a false || !ok b true then s else
  let wide (x : Option PortAccess) : Bool := match x with | some p => p.width == 72 | none => true
  let ecc := ecc && wide a && wide b
  let put (u : State) (x : Option PortAccess) : State := match x with | some p => if p.en && p.write then u.memStore mem ecc p else u | none => u
  let meet := match a, b with | some p, some q => p.en && q.en && overlaps p q && (p.write || q.write) | _, _ => false
  let out (u : State) (port : Nat) (x : Option PortAccess) (before after : State) : State :=
    match x with | some p => u.memClock mem port (s.portRead mem ecc p before after) | none => u
  if same || !meet then
    -- each read sees the memory before the other port's write; port B's write is stored last
    let s' := put (put s a) b
    out (out s' 0 a s (put s a)) 1 b s (put s b)
  else
    let aFirst := s.freeNat 1 == 0
    let s1 := if aFirst then put s a else put s b
    let s2 := if aFirst then put s1 b else put s1 a
    let (a0, a1) := if aFirst then (s, s1) else (s1, s2)
    let (b0, b1) := if aFirst then (s1, s2) else (s, s1)
    (out (out s2 0 a a0 a1) 1 b b0 b1).drawn

/-! ## Crossing FIFOs (R185 to R187) -/

def State.xfifo (s : State) (mem : Nat) : XFifo := s.fabric.fifos.get mem {}
def State.setXfifo (s : State) (mem : Nat) (x : XFifo) : State := s.setFabric (fun f => { f with fifos := f.fifos.set mem x {} })

/-- Words a crossing FIFO of a width holds. -/
def fifoDepth (width : Nat) : Nat := 36864 / width

/-- `full` on the write side and `empty` on the read side. -/
def XFifo.full (x : XFifo) (width : Nat) : Bool := decide (fifoDepth width ≤ x.held.length + x.owed)
def XFifo.empty (x : XFifo) : Bool := decide (x.held.length ≤ x.hidden)
/-- `near_full` and `near_empty` at the image's thresholds (R185). -/
def XFifo.nearFull (x : XFifo) (width thr : Nat) : Bool := decide (fifoDepth width ≤ x.held.length + x.owed + thr)
def XFifo.nearEmpty (x : XFifo) (thr : Nat) : Bool := decide (x.held.length ≤ x.hidden + thr)

/-- A memory serves as a crossing FIFO of this width: a block memory whose Region is clocked, with one width for both sides (R185, R188).
[Log 193 DESIGN CHOICE] -/
def State.fifoServes (s : State) (mem width : Nat) : Bool :=
  let x := s.xfifo mem
  s.clocked (mem / 8192) (mem / 512 % 16) && !isDeep mem && [9, 18, 36, 72].contains width && (x.width == 0 || x.width == width)

/-- What stands on the read data: with look-ahead the oldest held word as soon as the read side sees it, else the last word read (R185).
[Log 193 DESIGN CHOICE] -/
def State.fifoData (s : State) (mem : Nat) : Nat :=
  let x := s.xfifo mem
  if Config.fifoAhead mem (s.fabric.frames.get (mem / 512) 0) && !x.empty then x.held.headD 0 else x.last

/-- `near_full` and `near_empty` at the image's threshold (R185, R186). -/
def State.fifoNear (s : State) (mem : Nat) : Bool × Bool :=
  let x := s.xfifo mem
  let thr := Config.fifoThreshold mem (s.fabric.frames.get (mem / 512) 0)
  (x.nearFull x.width thr, x.nearEmpty thr)

/-- A write; `crossed`: how many freed places have become visible on the write side since its last access (R186). -/
def State.fifoWrite (s : State) (mem width data crossed : Nat) : State :=
  let x := s.xfifo mem
  let x := { x with owed := x.owed - crossed, width }
  if !s.fifoServes mem width || x.initW then s
  else if x.full width then s.setXfifo mem { x with wrErr := true }
  else s.setXfifo mem { x with held := x.held ++ [data % 2 ^ width], hidden := x.hidden + 1 }

/-- A read; `crossed`: how many written words have become visible on the read side since its last access (R186). -/
def State.fifoRead (s : State) (mem crossed : Nat) : State :=
  let x := s.xfifo mem
  let x := { x with hidden := x.hidden - crossed }
  if !s.fifoServes mem (if x.width = 0 then 9 else x.width) || x.initR then s
  else if x.empty then s.setXfifo mem { x with rdErr := true }
  else s.setXfifo mem { x with held := x.held.drop 1, last := x.held.headD 0, owed := x.owed + 1 }

/-- A reset is asserted on either side, or the handshake of one side ends: the other has acknowledged, so this side leaves `init_busy`
(R187). -/
def State.fifoReset (s : State) (mem : Nat) (e : FifoReset) : State :=
  let x := s.xfifo mem
  if isDeep mem then s
  else match e with
  | .acknowledged read => s.setXfifo mem (if read then { x with initR := false } else { x with initW := false })
  | .request => s.setXfifo mem { last := x.last, initW := true, initR := true, width := x.width }

/-! ## MAC slices (R189 to R192) -/

def State.mac (s : State) (key : Nat) : Mac := s.fabric.macs.get key {}

/-- One cycle of a MAC slice; slices of 16 form a column (R189 to R192). U comes from the operand, or by the chain from the slice below;
what the chain brings the lowest slice of a column is not stated and is a free value. [Log 192 DESIGN CHOICE] -/
def State.macOperation (s : State) (die rg slice : Nat) (o : MacOp) : State :=
  let key := 256 * (16 * die + rg) + slice
  if !s.clocked die rg then s else
  let x := s.mac key
  let lowest := decide (slice % 16 = 0)
  let u : BitVec 24 := if !o.chain then o.u else if lowest then BitVec.ofNat 24 (s.freeNat 24) else (s.mac (key - 1)).u
  let (p, limP) := preAdd o.sel o.shr o.rnd u o.v
  let m : Int := p.toInt * o.k.toInt
  let addend : Int := match o.src with
    | 0 => 0
    | 1 => x.acc.toInt
    | 2 => o.w.toInt
    | _ => if lowest then 0 else (s.mac (key - 1)).acc.toInt
  let (acc, v) := fit o.sat (if o.neg then addend - m else addend + m)
  let (q, limQ) := moveOut o.scl o.rnd o.sat acc
  let y : Mac := { acc := acc, q := q, lim := !o.reset && (x.lim || limP || limQ), v := !o.reset && (x.v || v), u := u }
  let t := s.setFabric (fun f => { f with macs := f.macs.set key y {} })
  if o.chain && lowest then t.drawn else t

/-! ## Loupe (R198 to R206) -/

def State.loupe (s : State) (die : Nat) : Loupe := s.fabric.loupe.get die {}
def State.setLoupe (s : State) (die : Nat) (x : Loupe) : State := s.setFabric (fun f => { f with loupe := f.loupe.set die x {} })

/-- Loupe may act: the image is not secure, the life cycle is VENDOR_TEST, or a session open by TOKEN has its scope (R206). -/
def State.loupeAllowed (s : State) : Bool :=
  !s.boot.secure || s.sec.lc == 1 || (s.session.state == 2 && s.session.mode == 2 && s.session.scope.testBit 3)

/-- A Region of the profile is not captured (R201): its bit in `nocap`, a shadow of zeros. [Log 84 DEDUCED] -/
def State.noCapture (s : State) (die rg : Nat) : State :=
  let key := Reg.LP_NOCAP die
  let first := s.fld key 0 16 == 0
  let s := s.setBit key rg true
  let l := s.loupe die
  let sh : Shadow := { region := 16 * die + rg, prof := l.prof, nocap := true, secure := s.boot.secure }
  let s := s.setLoupe die { l with waits := l.waits.filter (· != rg), shadows := l.shadows.set rg sh {} }
  -- a restored Region no longer waits for its capture
  let s := if l.restored.contains rg && !(s.isolated die rg) then s.releaseInitial die rg else s
  if first then s.raise 3 (errCode 6 3) die 0x0F 0 else s

/-- HELD once no Region waits (R201). -/
def State.loupeHeld (s : State) (die : Nat) : State :=
  let l := s.loupe die
  if l.state = .pending ∧ l.waits = [] then s.setLoupe die { l with state := .held } else s

/-- A trigger for profile `p` that requests its capture at DT `x`, of rank 0 calendar, 1 debugger, 2 CSR (R199, R201, R202, R206): of
triggers of one tick the least rank is taken, the other is dropped and counted. `true`: it was refused (R80).
[Log 84 DEDUCED, 195 DEDUCED] -/
def State.loupeTrigger (s : State) (die p rank : Nat) (x : DWord) : State × Bool :=
  let prof := s.rd (Reg.LP_PROF die p)
  if !wbit prof 31 then (s, true)
  else if !s.bit (Reg.LP_CTL die) 0 then (s, false)
  else if !s.loupeAllowed then (s.flagErr (Reg.LP_STAT die) 9 4 (errCode 6 5), false)
  else
    let l := s.loupe die
    let beats := l.state == .pending && decide (rank < l.rank) && l.took == s.now && s.fld (Reg.LP_NOCAP die) 16 16 == 0
    let s := if l.state ≠ .idle then (s.count (Reg.LP_MISS die) 1).flagErr (Reg.LP_STAT die) 8 3 (errCode 6 2) else s
    if l.state ≠ .idle ∧ !beats then (s, false)
    else
      let s := if beats then s.wr (Reg.LP_NOCAP die) 0 else s
      let named := (List.range 16).filter (fun r => wbit prof r)
      let s := s.setLoupe die { l with state := .pending, prof := p, waits := named, from_ := x, restored := [], shadows := [], rank := rank, took := s.now }
      let s := (named.filter (s.reconfiguring die)).foldl (fun s r => s.noCapture die r) s
      (s.loupeHeld die, false)

/-- A calendar CAPTURE: refused where the profile is not defined (R80); else its trigger reaches Loupe at its placement + 640 (R199). -/
def State.loupeCalendar (s : State) (die p : Nat) (x : DWord) : State × Bool :=
  if !s.bit (Reg.LP_PROF die p) 31 then (s, true)
  else
    let l := s.loupe die
    (s.setLoupe die { l with due := l.due ++ [(x, p)] }, false)

/-- The calendar triggers that reach Loupe by DT `x`, in their order (R199). [Log 195 DEDUCED] -/
def State.loupeDue (s : State) (die : Nat) (x : DWord) : State :=
  let now := (s.loupe die).due.filter (fun e => decide (e.1.toNat ≤ x.toNat))
  if now.isEmpty then s
  else
    let s := s.setLoupe die { (s.loupe die) with due := (s.loupe die).due.filter (fun e => decide (x.toNat < e.1.toNat)) }
    now.foldl (fun s e => (s.loupeTrigger die e.2 0 e.1).1) s

/-- What a Region's flip-flops hold at a capture (R177, R198). -/
def State.flopsNow (s : State) (die rg : Nat) : Flops :=
  if s.fabric.ran.get (die * 16 + rg) false then .running s.free else .initial (s.framesOf die rg)

/-- Capture one Region at DT `x` (R198). [Log 84 DEDUCED] -/
def State.captureRegion (s : State) (die rg : Nat) (x : DWord) : State :=
  let l := s.loupe die
  let sh : Shadow := { region := 16 * die + rg, prof := l.prof, dt := x, secure := s.boot.secure, flops := s.flopsNow die rg, outs := s.fabric.outs.keep (fun k => inRegion die rg (k / 2)), frames := s.framesOf die rg }
  let s := s.setLoupe die { l with waits := l.waits.filter (· != rg), shadows := l.shadows.set rg sh {} }
  let s := (s.setBit (Reg.LP_NOCAP die) (16 + rg) true).drawn
  if l.restored.contains rg && !(s.isolated die rg) then s.releaseInitial die rg else s

/-- The edge of the profile clock at dtu `k` captures the waiting Regions that do not restore; one being reconfigured is not captured
(R179, R200, R202); `late` in the cycle in which the timeout expires (R201). -/
def State.captureEdge (s : State) (die k : Nat) (late : Bool) : State :=
  let l := s.loupe die
  let prof := s.rd (Reg.LP_PROF die l.prof)
  let x := s.stamp k
  if l.state ≠ .pending ∨ x < l.from_ ∨ gckMayEdge die (wfld prof 16 5) (wbit prof 21) x = false then s else
  let s := (l.waits.filter (fun r => s.reconfiguring die r)).foldl (fun s r => s.noCapture die r) s
  let now := (s.loupe die).waits.filter (fun r => !s.restoringRg die r)
  match now with
  | [] => s.loupeHeld die
  | _ :: _ =>
    let s := now.foldl (fun s r => s.captureRegion die r x) s
    let least := ((List.range 16).find? (fun r => s.bit (Reg.LP_NOCAP die) (16 + r))).getD 16
    let s := s.wrPair (Reg.LP_CAPDT_LO die) (Reg.LP_CAPDT_HI die) ((s.loupe die).shadows.get least {}).dt
    let s := if late then (s.flag (Reg.LP_STAT die) 11).lateArrival die 0x0F 0 else s
    s.loupeHeld die

/-- The capture timeout expires (R201). [Log 235 DEDUCED] -/
def State.captureTimeout (s : State) (die : Nat) : State :=
  if (s.loupe die).state ≠ .pending ∨ s.clk.hold then s
  else ((s.loupe die).waits.foldl (fun s r => s.noCapture die r) s).loupeHeld die

/-- LP_CMD.release (R201): from HELD and READOUT; a readout is abandoned. -/
def State.loupeRelease (s : State) (die : Nat) : State :=
  let l := s.loupe die
  if l.state = .held ∨ l.state = .readout then
    let s := { s with live := { s.live with ports := s.live.ports.set die ((s.live.ports.get die []).filter (· != PortJob.readout)) [] } }
    (s.setLoupe die { due := l.due }).wr (Reg.LP_NOCAP die) 0
  else s

/-- LP_CMD.qrd (R205, R206): starts from HELD where the queue is enabled. -/
def State.loupeReadout (s : State) (die : Nat) : State × Resp :=
  let l := s.loupe die
  let q := s.fld (Reg.LP_QRD die) 0 13
  if !s.loupeAllowed then (s, .refused)
  else if l.state ≠ .held then (s.flagErr (Reg.LP_STAT die) 10 3 (errCode 6 1), .ok)
  else if (s.queue q).state = .disabled then (s.flagErr (Reg.LP_STAT die) 12 3 (errCode 6 4), .ok)
  else
    let s := { s with live := { s.live with ports := s.live.ports.set die (s.live.ports.get die [] ++ [PortJob.readout]) [] } }
    (s.setLoupe die { l with state := .readout, queue := q }, .ok)

/-- A write of LP_CMD. -/
def State.lpCmdWrite (s : State) (die : Nat) (w : Word) : State × Resp :=
  let s := s.wr (Reg.LP_CMD die) (BitVec.ofNat 32 (wfld w 0 4))
  let s := if wbit w 9 then s.loupeRelease die else s
  let (s, r) := if wbit w 10 then s.loupeReadout die else (s, .ok)
  -- requested 2 to 4 cycles of the profile clock after the write: the command's time is the floor
  (if wbit w 8 then (s.loupeTrigger die (wfld w 0 4) 2 s.now).1 else s, r)

/-- The header of a shadow without its CRC, with LP_CAPDT (R204). -/
def Shadow.header (h : Shadow) (capdt : DWord) : List Byte :=
  let dt := (List.range 8).map (fun i => BitVec.ofNat 8 (capdt.toNat / 256 ^ i))
  [0x50, 0x4C, BitVec.ofNat 8 h.region, BitVec.ofNat 8 h.prof, 0, 0, 0, 0] ++ dt ++ [BitVec.ofNat 8 (b2n h.nocap + 2 * b2n h.secure)] ++ List.replicate 43 0

/-- A byte of the flip-flop area of a shadow (R203). -/
def Shadow.flopByte (h : Shadow) (i : Nat) : Byte :=
  match h.flops with
  | .zero => 0
  | .initial n => if n = 1 then 0 else Config.flopByte false n i
  | .running n => Config.flopByte true n i

/-- A byte of an output register in a shadow: 16 bytes a port, bits [71:0] the register (R203). -/
def Shadow.outByte (h : Shadow) (first i : Nat) : Byte :=
  let key := 2 * (512 * h.region + first + i / 32) + i / 16 % 2
  if h.nocap || 9 ≤ i % 16 then 0
  else
    let v := match h.outs.get key none with | some o => o.reg | none => initialValue h.frames key
    BitVec.ofNat 8 (v % 2 ^ 72 / 256 ^ (i % 16))

/-- The 50,240 bytes of a Region's shadow (R203, R204). -/
def State.shadowBytes (s : State) (h : Shadow) : List Byte :=
  let capdt := s.rdPair (Reg.LP_CAPDT_LO (h.region / 16)) (Reg.LP_CAPDT_HI (h.region / 16))
  let body := (List.range 40960).map h.flopByte ++ (List.range 8192).map (h.outByte 0) ++ (List.range 1024).map (h.outByte 256) ++ h.header capdt
  let crc := crc32c (body.flatMap (fun b => bitsOf b.toNat 8))
  body ++ (List.range 4).map (fun i => BitVec.ofNat 8 (crc / 256 ^ i))

/-- A read of the shadows through the on-chip view (R203, R206). -/
def State.shadowRead (s : State) (die off : Nat) : Resp × Word :=
  if !s.loupeAllowed then (.denied, 0) else
  let l := s.loupe die
  if l.state = .idle ∨ l.state = .pending then (.ok, 0) else
  let h := l.shadows.get (off / 0x400000) {}
  let o := off % 0x400000
  let at_ : Option Nat := if o < 0xA000 then some o else if o < 0xC440 then some o else none
  match at_ with
  | none => (.ok, 0)
  | some a => (.ok, if h = {} then 0 else (((s.shadowBytes h).drop a).take 4).reverse.foldl (fun (acc : Word) b => (acc <<< 8) ||| b.setWidth 32) 0)

/-- The readout reaches the configuration port and is admitted: every captured Region goes to the queue (R205). -/
def State.readoutDone (s : State) (die : Nat) : State :=
  let l := s.loupe die
  if l.state ≠ .readout ∨ (s.live.ports.get die []).head? ≠ some PortJob.readout then s else
  let regions := (List.range 16).filter (fun r => s.bit (Reg.LP_NOCAP die) (16 + r))
  let (s1, ok) := s.takeUnits 2 die ((regions.length * 50240 + 4095) / 4096)
  if !ok then s1 else
  let s2 := regions.foldl (fun t r => (t.streamPush l.queue (t.shadowBytes (l.shadows.get r {})) true).1) s1
  let s3 := { s2 with live := { s2.live with ports := s2.live.ports.set die ((s2.live.ports.get die []).drop 1) [] } }
  s3.setLoupe die { (s3.loupe die) with state := .held }

/-- A write of LP_CTL: `to` = 0 is taken as 1 (R207). -/
def State.lpCtlWrite (s : State) (die : Nat) (w : Word) : State :=
  let lim := wfld w 8 8
  let s := s.wr (Reg.LP_CTL die) (BitVec.ofNat 32 (wfld w 0 2 + max lim 1 * 256))
  if lim = 0 then s.flagErr (Reg.LP_STAT die) 10 3 (errCode 6 1) else s

/-- A write of a profile (R202). -/
def State.lpProfWrite (s : State) (die n : Nat) (w : Word) : State × Resp :=
  let l := s.loupe die
  if l.state = .pending ∧ l.prof = n then (s, .refused) else (s.wr (Reg.LP_PROF die n) (w &&& 0x8FFFFFFF), .ok)

/-- LP_CMD as it reads: `qrd` is 1 during READOUT. -/
def State.lpCmdRead (s : State) (die : Nat) : Word := wsetBit (s.rd (Reg.LP_CMD die)) 10 ((s.loupe die).state == .readout)

/-- LP_STAT as it reads. -/
def State.lpStatRead (s : State) (die : Nat) : Word :=
  let l := s.loupe die
  let code := match l.state with | .idle => 0 | .pending => 1 | .held => 2 | .readout => 3
  BitVec.ofNat 32 (code + (if l.state = .idle then 0 else l.prof) * 16) ||| (s.rd (Reg.LP_STAT die) &&& 0x1F00)

end Sys2Proof.Machine
end

