-- ==== Sys2Proof/Machine/Live.lean ====
section
/-!
DEFINITION. Partial reconfiguration, the image library, scrubbers and live repair (R464 to R493).
-/
namespace Sys2Proof.Machine

/-! ## Units -/

def State.setLive (s : State) (f : Live → Live) : State := { s with live := f s.live }
def State.portJobs (s : State) (die : Nat) : List PortJob := s.live.ports.get die []
def State.setPortJobs (s : State) (die : Nat) (l : List PortJob) : State := s.setLive (fun v => { v with ports := v.ports.set die l [] })
def State.scrubber (s : State) (die n : Nat) : Scrubber := s.live.scrub.get (2 * die + n) {}
def State.setScrubber (s : State) (die n : Nat) (x : Scrubber) : State := s.setLive (fun v => { v with scrub := v.scrub.set (2 * die + n) x {} })
def State.libEntry (s : State) (n : Nat) : LibEntry := s.live.lib.get n {}
def State.setLibEntry (s : State) (n : Nat) (x : LibEntry) : State := s.setLive (fun v => { v with lib := v.lib.set n x {} })

/-- The library record of a Region (LIB_RG, R468). -/
def libKey (die rg : Nat) : Nat := Reg.LIB_RG (16 * die + rg)
def State.libValid (s : State) (die rg : Nat) : Bool := s.bit (libKey die rg) 31
def State.libHeld (s : State) (die rg : Nat) : Bool := s.bit (libKey die rg) 30

/-- Class of a local Region: 0 G, 1 Q (R171). -/
def regionClass (rg : Nat) : Nat := b2n (rg % 5 == 0)

/-- Append an event to the runtime log (R513): 256 entries are stored, the digest takes every one. [Log 157 DESIGN CHOICE] -/
def State.bzLog (s : State) (kind index hash : Nat) : State :=
  let v := s.sec
  let dt := s.tickEnd
  let bytes (n k : Nat) : List Byte := (List.range k).map (fun i => BitVec.ofNat 8 (n / 256 ^ i))
  let entry := bytes kind 1 ++ bytes index 1 ++ bytes dt.toNat 8 ++ bytes hash 48
  { s with sec := { v with log := if v.log.length < 256 then v.log ++ [(kind, index, dt, hash)] else v.log, logTotal := v.logTotal + 1, logDigest := Config.digest (bytes v.logDigest 48 ++ entry) } }

/-! ## Contents of a load (R448, R465, R475) -/

/-- Bytes as a little-endian number. -/
def leNat (l : List Byte) : Nat := l.foldr (fun b n => b.toNat + 256 * n) 0

/-- Write eight bytes of a die's Facet memories at an aligned view offset (R210). -/
def State.facetImage8 (s : State) (die off : Nat) (b : List Byte) : State :=
  let p := off / 0x20000
  let o := off % 0x20000
  if 272 ≤ p then s else
  let f := s.facet die p
  let lo : BitVec 24 := BitVec.ofNat 24 (leNat (b.take 4))
  let hi : BitVec 24 := BitVec.ofNat 24 (leNat (b.drop 4))
  if o < 0x8000 then s.setFacet die p { f with prog := f.prog.set (o / 8) (BitVec.ofNat 64 (leNat b)) 0, badProg := f.badProg.del (o / 8) }
  else
    let w := o % 0x8000 / 4
    if o < 0x10000 then s.setFacet die p { f with bankA := (f.bankA.set w lo 0).set (w + 1) hi 0, badData := (f.badData.del w).del (w + 1) }
    else if o < 0x18000 then s.setFacet die p { f with bankB := (f.bankB.set w lo 0).set (w + 1) hi 0, badData := (f.badData.del (8192 + w)).del (8193 + w) }
    else s

/-- Write a FACET_MEM segment at a view offset of the die. -/
def State.facetImage (s : State) (die off : Nat) (data : List Byte) : State :=
  (List.range ((data.length + 7) / 8)).foldl (fun s i => s.facetImage8 die (off / 8 * 8 + 8 * i) ((data.drop (8 * i)).take 8)) s

/-- Write a BLOCK_MEM segment into a Region. [Log 81 DESIGN CHOICE] -/
def State.blockImage (s : State) (die rg : Nat) (addr : Nat) (data : List Byte) : State :=
  s.setFabric (fun f => { f with images := f.images.set (16 * die + rg) ((addr, data) :: f.images.get (16 * die + rg) []) [], lanes := f.lanes.keep (fun k => !inRegion die rg (k / 32768)) })

/-- A segment of a load into a Region (R469): FRAMES and INIT are known by the number of the load. -/
def State.loadSegment (s : State) (die rg : Nat) (g : Segment) : State :=
  match g.target with
  | 2 => s.facetImage die (17 * rg * 0x20000 + g.addr) g.data
  | 3 => s.blockImage die rg g.addr g.data
  | _ => s

/-- The frames of a Region become those of a new load, with their reference CRC (R465, R177). -/
def State.newFrames (s : State) (die rg crc : Nat) : State :=
  let n := s.live.loads + 1
  let s := (s.setLive (fun v => { v with loads := n })).setFabric (fun f => { f with frames := f.frames.set (16 * die + rg) n 0 })
  (s.initialise die rg).wr (Reg.CFGF_RGCRC die rg) (BitVec.ofNat 32 crc)

/-- Frames, Facet memories and block and deep memories of a Region are zeroed (R477). -/
def State.zeroRegion (s : State) (die rg : Nat) : State :=
  let s := (List.range 17).foldl (fun s k =>
    s.setFacet die (17 * rg + k) { (s.facet die (17 * rg + k)) with prog := [], bankA := [], bankB := [], badProg := [], badData := [] }) s
  let s := s.setFabric (fun f => { f with images := f.images.set (16 * die + rg) [] [], lanes := f.lanes.keep (fun k => !inRegion die rg (k / 32768)), frames := f.frames.set (16 * die + rg) 1 0 })
  s.initialise die rg

/-- Bytes that a load writes. -/
def segBytes (l : List Segment) : Nat := l.foldl (fun n g => n + g.data.length) 0

/-! ## Commands of the configuration controller (R473 to R478) -/

/-- Isolate a Region that leaves ACTIVE: its Facets stop and its ready queue empties (R240, R473). -/
def State.takeDown (s : State) (die rg : Nat) : State := (s.stopFacets die rg true).emptyReady die rg

/-- Whether a library entry may go into a Region (R471, R485, CFGF_ENTRY). -/
def State.entryFits (s : State) (n die rg : Nat) (selftest : Bool) : Bool :=
  let e := s.libEntry n
  e.kind == 1 && e.cls == regionClass rg && (e.reloc || e.home == 16 * die + rg) && (!selftest || e.selftest)

/-- The Region a repair item belongs to; none: a periphery frame. -/
def repairRegion (item : Nat) : Option Nat := if 2 ^ 20 ≤ item then some (item - 2 ^ 20) else if item < 0x40000 then some (item / 16384) else none

/-- Repairs of a Region that wait are discarded: a load of it comes (R478). -/
def State.dropRepairs (s : State) (die rg : Nat) : State :=
  [0, 1].foldl (fun s n =>
    let x := s.scrubber die n
    s.setScrubber die n { x with list := x.list.filter (fun i => repairRegion i != some rg) }) s

/-- Start a load into a Region, from a library entry or from the user port (R475): the library record is no longer valid. -/
def State.startLoad (s : State) (die rg : Nat) (entry : Option Nat) (st : RegionState) : State :=
  let s := if (s.region die rg).state = .active then s.takeDown die rg else s
  let s := ((s.dropRepairs die rg).setBit (libKey die rg) 31 false).setBit (libKey die rg) 30 true
  let s := s.setRegion die rg { (s.region die rg) with state := st, load := entry, runs := false }
  s.setPortJobs die (s.portJobs die ++ [.load rg])

/-- LOAD. -/
def State.loadRegion (s : State) (die rg : Nat) (userPort : Bool) : State × Resp :=
  let r := s.region die rg
  let n := s.fld (Reg.CFGF_ENTRY die) 0 8
  if r.state = .loading ∨ r.state = .selftest then (s, .refused)
  else if !userPort && !s.entryFits n die rg false then (s, .refused)
  else (s.startLoad die rg (if userPort then none else some n) .loading, .ok)

/-- A timed command of the Region waits (R474). -/
def Region.timed (r : Region) : Bool := (match r.cmd with | some (_, some _) => true | _ => false) || r.kept.isSome

/-- RELEASE or OFFLINE: it waits for the next tick boundary, or for the one before CFGF_AT (R474). [Log 149 DEDUCED] -/
def State.regionCommand (s : State) (die rg : Nat) (release timed : Bool) : State × Resp :=
  let r := s.region die rg
  let valid := if release then r.state == .loaded || r.state == .offline else r.state == .active || r.state == .loaded
  if !valid then (s, .refused)
  else if timed && r.timed then (s, .refused)
  else
    let at_ := s.rdPair (Reg.CFGF_AT_LO die) (Reg.CFGF_AT_HI die)
    let lateAt := timed && decide (at_ ≤ s.tickEnd)
    let s := s.flagIf lateAt (Reg.CFGF_STAT die) 11
    let s := if release then s else s.setBit (libKey die rg) 30 true
    -- an untimed command goes before a timed one that waits
    let r := if timed then (if r.cmd.isSome then { r with kept := some (release, some at_) } else { r with cmd := some (release, some at_) })
      else if r.timed && r.kept.isNone then { r with cmd := some (release, none), kept := r.cmd }
      else { r with cmd := some (release, none) }
    (s.setRegion die rg r, .ok)

/-- SELFTEST (R485). -/
def State.selftestRegion (s : State) (die rg : Nat) : State × Resp :=
  let n := s.fld (Reg.CFGF_ENTRY die) 0 8
  if (s.region die rg).state ≠ .offline ∨ !s.entryFits n die rg true then (s, .refused)
  else (s.startLoad die rg (some n) .selftest, .ok)

/-- ABORT (R474). -/
def State.abortRegion (s : State) (die rg : Nat) : State × Resp :=
  let r := s.region die rg
  if r.state = .loading ∨ r.state = .selftest then
    let s := s.setPortJobs die ((s.portJobs die).filter (· != PortJob.load rg))
    (s.zeroRegion die rg |>.setRegion die rg { r with state := .failed, load := none, runs := false }, .ok)
  else (s, .refused)

/-- A write of CFGF_CMD. -/
def State.cfgCmdWrite (s : State) (die : Nat) (w : Word) : State × Resp :=
  let rg := wfld w 8 4
  match wfld w 0 3 with
  | 0 => (s, .ok)
  | 1 => s.loadRegion die rg (wbit w 3)
  | 2 => s.regionCommand die rg true (wbit w 4)
  | 3 => s.regionCommand die rg false (wbit w 4)
  | 4 => s.selftestRegion die rg
  | 5 => s.abortRegion die rg
  | _ => (s.flag (Reg.CFGF_STAT die) 13, .ok)

/-- A Region takes the command that waits, at the boundary `x` (R474, R475); true: ACTIVE or OFFLINE was entered. -/
def State.applyRegion (s : State) (die rg : Nat) : State :=
  let r := s.region die rg
  match r.cmd with
  | none => s
  | some (release, _) =>
    let r := { r with cmd := r.kept, kept := none }
    let s := s.setRegion die rg r
    if release then
      if r.state = .loaded ∨ r.state = .offline then
        -- from OFFLINE the restore of R178 comes first
        let s := if r.state = .offline then s.initialise die rg else s
        let s := s.setRegion die rg { r with state := .active, runs := false }
        let s := s.setBit (libKey die rg) 30 false
        (if s.isolated die rg then s else s.releaseInitial die rg).restartFacets die rg
      else s
    else if r.state = .active ∨ r.state = .loaded then
      let s := if r.state = .active then s.takeDown die rg else s
      s.setRegion die rg { r with state := .offline }
    else s

/-- Whether a waiting command applies at the boundary that ends this tick: untimed, or with its DT in the next tick. -/
def State.regionDue (s : State) (r : Region) : Bool :=
  match r.cmd with
  | some (_, some x) => decide (x ≤ s.nextEnd)
  | some (_, none) => true
  | none => false

/-- The Regions of a die at the boundary that ends this tick (R474, R478). [Log 149 DEDUCED] -/
def State.regionBoundary (s : State) (die : Nat) : State :=
  ((List.range 16).filter (fun r => s.regionDue (s.region die r))).foldl (fun s r =>
    let s := s.applyRegion die r
    if s.regionDue (s.region die r) then s.applyRegion die r else s) s

/-! ## Loads (R475 to R477) -/

/-- A load fails with a code (R477, R491). -/
def State.loadFailed (s : State) (die rg code : Nat) : State :=
  let sev := match code with | 2 => 4 | 4 => 4 | 5 => 5 | _ => 3
  let key := Reg.CFGF_STAT die
  let s := ((s.setFld key 2 4 rg).setFld key 6 4 code).flagErr key 10 sev (errCode 16 code)
  let s := s.setPortJobs die ((s.portJobs die).filter (· != PortJob.load rg))
  (s.zeroRegion die rg).setRegion die rg { (s.region die rg) with state := .failed, load := none, runs := false }

/-- What a load writes: content, new frames; none where its CRC differs (R465, R475). -/
def State.writeLoad (s : State) (die rg : Nat) (segs : List Segment) (crc : Nat) : State :=
  (segs.foldl (fun s g => s.loadSegment die rg g) s).newFrames die rg crc

/-- The load that holds the configuration port ends (R475, R477, R485); it goes on only when its 4-KiB units are admitted. -/
def State.loadComplete (s : State) (die rg : Nat) (e : LoadEnd) : State :=
  let r := s.region die rg
  if s.dieLost die ∨ (s.portJobs die).head? ≠ some (PortJob.load rg) ∨ !s.reconfiguring die rg then s else
  let lib := r.load.map s.libEntry
  let segs := match lib with | some x => x.segs | none => e.segs
  let want := match lib with | some x => x.crc | none => e.want
  let hash := match lib with | some x => x.hash | none => e.hash
  let (s, ok) := s.takeUnits 1 die ((segBytes segs + 4095) / 4096)
  if !ok then s
  else if e.code ≠ 0 ∧ e.code ≠ 4 then s.loadFailed die rg e.code
  else if r.load.isNone ∧ !(e.cls == regionClass rg && (e.reloc || e.home == 16 * die + rg)) then s.loadFailed die rg 1
  else if e.crc ≠ want then s.loadFailed die rg 4
  else
    let s := s.writeLoad die rg segs e.crc
    let s := s.setPortJobs die ((s.portJobs die).drop 1)
    if r.state = .selftest then s.setRegion die rg { r with runs := true, entry := r.load.getD 0 }
    else
      let s := s.setRegion die rg { r with state := .loaded, entry := r.load.getD 0, load := none }
      let s := match r.load with
        | some n => s.wr (libKey die rg) (BitVec.ofNat 32 (n + b2n (s.libHeld die rg) * 2 ^ 30 + 2 ^ 31))
        | none => s
      if s.userMode then s.bzLog 0 (16 * die + rg) hash else s

/-- The user port stalls for 100 ms, or data arrives in the expiring cycle (R477). -/
def State.userPortTimeout (s : State) (die : Nat) (arrived : Bool) : State :=
  match (s.portJobs die).head? with
  | some (PortJob.load rg) =>
    if (s.region die rg).load.isSome then s
    else if arrived then (s.flag (Reg.CFGF_STAT die) 12).lateArrival die 0x0E 0
    else s.loadFailed die rg 3
  | _ => s

/-! ## Self-test and Facet test (R485, R486) -/

/-- The self-test of a Region writes its result after `us` µs of run, once they are admitted (R485). [Log 151 DEDUCED] -/
def State.selftestResult (s : State) (die rg sig us : Nat) (pass : Bool) : State :=
  let r := s.region die rg
  if r.state ≠ .selftest ∨ !r.runs then s else
  let (s, ok) := s.takeUnits 5 die us
  if !ok then s else
  let s := s.wr (Reg.CFGF_STRES die) (BitVec.ofNat 32 (sig % 2 ^ 24 + rg * 2 ^ 24 + b2n pass * 2 ^ 28 + 2 ^ 31))
  let s := if pass then s else s.raise 4 (errCode 16 6) die 0x0E 0
  s.setRegion die rg { r with state := .offline, runs := false }

/-- No result within `st_to` (R485). -/
def State.selftestTimeout (s : State) (die rg : Nat) : State :=
  let r := s.region die rg
  if r.state ≠ .selftest then s else
  let key := Reg.CFGF_STRES die
  let s := s.setPortJobs die ((s.portJobs die).filter (· != PortJob.load rg))
  ((s.setBit key 29 true).setFld key 24 4 rg).setRegion die rg { r with state := .offline, runs := false, load := none }

/-- A write of CFGF_FTEST (R486). [Log 94 DESIGN CHOICE] -/
def State.facetTest (s : State) (die : Nat) (w : Word) : State × Resp :=
  let key := Reg.CFGF_FTEST die
  let p := wfld w 0 9
  if s.bit key 31 then (s, .refused)
  else if !wbit w 31 then (s.setFld key 0 9 p, .ok)
  else if 272 ≤ p ∨ (s.facet die p).state ≠ .off ∨ (s.logOf die p).isSome then (s, .refused)
  else (s.wr key (BitVec.ofNat 32 (p + 2 ^ 31)), .ok)

/-- The Facet test ends: 40 µs of self-test work; the memories are left zeroed (R486). [Log 94 DESIGN CHOICE] -/
def State.facetTestDone (s : State) (die : Nat) (pass : Bool) : State :=
  let key := Reg.CFGF_FTEST die
  if !s.bit key 31 then s else
  let (s, ok) := s.takeUnits 5 die 40
  if !ok then s else
  let p := s.fld key 0 9
  let f := s.facet die p
  let s := s.setFacet die p { f with prog := [], bankA := [], bankB := [], badProg := [], badData := [], broken := !pass }
  let s := s.wr key (BitVec.ofNat 32 (p + b2n (!pass) * 2 ^ 29 + 2 ^ 30))
  if pass then s else s.raise 4 (errCode 16 7) die 0x0E 0

/-! ## Scrubbers (R479 to R483) -/

/-- The frame address at position `pos` of a scrubber's normal pass (R479). -/
def scrubFrame (n pos : Nat) : Nat := if pos < 131072 then 131072 * n + pos else 0x40400 + 2 * (pos - 131072) + n
/-- Frames of a normal pass (R480). -/
def scrubLength : Nat := 134656

/-- SCR_STAT and the counters stand at instances 1 and 2. -/
def scrInst (n : Nat) : Nat := n + 1

/-- A scrubber reports an error (R491). -/
def State.scrubErr (s : State) (die n bit row sev : Nat) : State := s.flagErr (Reg.SCR_STAT die (scrInst n)) bit sev (errCode 16 row)

/-- An uncorrectable frame or a CRC mismatch enters the repair list (R483). -/
def State.listRepair (s : State) (die n item : Nat) : State :=
  let x := s.scrubber die n
  let s := s.count (Reg.SCR_UECNT die (scrInst n)) 1
  let s := if item < 2 ^ 20 then
      let key := Reg.SCR_UEFR die (scrInst n)
      let s := if s.bit key 31 then s else s.wr key (BitVec.ofNat 32 (item + 2 ^ 31))
      -- recorded once for each frame, naming it
      let s := s.flag (Reg.SCR_STAT die (scrInst n)) 0
      if x.list.contains item then s else s.raise 5 (errCode 16 8) die 0x0E (scrInst n)
    else s.scrubErr die n 1 9 5
  let s := if s.fld (Reg.CFGF_CTL die) 0 2 = 3 then s.flag (Reg.CFGF_STAT die) 13 else s
  if x.list.contains item || decide (16 ≤ x.list.length) then s else s.setScrubber die n { x with list := x.list ++ [item] }

/-- A list of the die is full: both scrubbers' normal passes stop (R483). -/
def State.scrubBlocked (s : State) (die : Nat) : Bool := [0, 1].any (fun n => decide (16 ≤ (s.scrubber die n).list.length))

/-- A normal pass starts (R480). -/
def State.scrubStart (s : State) (die n : Nat) : State :=
  let x := s.scrubber die n
  if x.lost || x.running || !s.bit (Reg.SCR_CTL die (scrInst n)) 0 || s.scrubBlocked die then s
  else s.setScrubber die n { x with running := true, pos := 0, seen := [] }

/-- Regions whose frames a pass skips (R480). -/
def State.scrubSkips (s : State) (die n pos : Nat) : Bool := decide (pos < 131072) && s.reconfiguring die (8 * n + pos / 16384)

/-- The position from which the next frame is read, past skipped Regions. -/
def State.scrubNext (s : State) (die n : Nat) : Nat → Nat → Nat
  | 0, pos => pos
  | fuel + 1, pos => if s.scrubSkips die n pos then s.scrubNext die n fuel ((pos / 16384 + 1) * 16384) else pos

/-- The end of a pass: Region CRCs are compared; `bad` lists the covered Regions whose CRC differs (R479). -/
def State.scrubEnd (s : State) (die n : Nat) (bad : List Nat) : State :=
  let x := s.scrubber die n
  let key := Reg.SCR_STAT die (scrInst n)
  let s := (s.setScrubber die n { x with running := false, pos := 0 }).setFld key 16 16 (s.fld key 16 16 + 1)
  (bad.filter (fun r => r / 8 == n && !x.seen.contains r && !s.reconfiguring die r)).foldl (fun s r => s.listRepair die n (2 ^ 20 + r)) s

/-- A scrubber reads its next frame: 0 good, 1 a single-bit error, 2 a double-bit error (R479, R480). -/
def State.frameScrub (s : State) (die n err : Nat) (bad : List Nat) : State :=
  let x := s.scrubber die n
  if x.lost || !x.running || s.scrubBlocked die then s else
  let pos := s.scrubNext die n 8 x.pos
  if scrubLength ≤ pos then s.scrubEnd die n bad else
  let (s, ok) := if pos % 1024 = 0 then s.takeUnit 0 die else (s, true)
  if !ok then s else
  let frame := scrubFrame n pos
  let s := s.setScrubber die n { x with pos := pos + 1, seen := if err = 2 ∧ pos < 131072 then (8 * n + pos / 16384) :: x.seen else x.seen }
  let s := match err with
    | 0 => s
    | 1 => s.count (Reg.SCR_CECNT die (scrInst n)) 1
    | _ => s.listRepair die n frame
  if scrubLength ≤ s.scrubNext die n 8 (pos + 1) then s.scrubEnd die n bad else s

/-- A critical pass; `rewritten`: some copy of a frame was rewritten (R481). -/
def State.criticalScrub (s : State) (die n : Nat) (rewritten : Bool) : State := if rewritten && !(s.scrubber die n).lost then s.scrubErr die n 2 10 4 else s

/-- The value that at least two of the holders agree on (R482). -/
def agreed (l : List Word) : Option Word := l.find? (fun w => decide (2 ≤ (l.filter (· == w)).length))

/-- The audit of scrubber `n` by its partner: its three copies and the partner's shadow as they are read (R482). -/
def State.auditScrubber (s : State) (die n : Nat) (holders : List Word) : State :=
  let x := s.scrubber die n
  if x.lost || (s.scrubber die (1 - n)).lost then s else
  match agreed (holders.take 4) with
  | none => (s.setScrubber die n { x with lost := true, running := false }).raise 6 (errCode 16 13) die 0x0E (scrInst n)
  | some w =>
    if (holders.take 4).all (· == w) then s
    else (s.wr (Reg.SCR_CTL die (scrInst n)) w).scrubErr die n 4 12 5

/-- A write of SCR_CTL: a stopped scrubber reloads its holders and restarts (R482). -/
def State.scrCtlWrite (s : State) (die n : Nat) (w : Word) : State :=
  let per := max (wfld w 16 16) 35
  let x := s.scrubber die n
  (s.wr (Reg.SCR_CTL die (scrInst n)) (BitVec.ofNat 32 (wfld w 0 1 + per * 65536))).setScrubber die n { x with lost := false, running := x.running && !x.lost }

/-- A repair is impossible: E_CFG_REPAIR, the entry stays listed (R483). -/
def State.repairFailed (s : State) (die n : Nat) : State := s.scrubErr die n 3 11 5

/-- The oldest listed frame is rewritten in place (R483, FRAME mode), once the port is free (R472). -/
def State.frameRepair (s : State) (die n : Nat) (poison : Bool) : State :=
  let x := s.scrubber die n
  match x.list with
  | [] => s
  | item :: rest =>
    let rg := repairRegion item
    let ready := match rg with | some r => s.libValid die r | none => (s.libEntry (252 + die)).kind == 2
    if s.fld (Reg.CFGF_CTL die) 0 2 ≠ 1 ∨ !(s.portJobs die).isEmpty then s
    else if (match rg with | some r => s.reconfiguring die r | none => false) then s.setScrubber die n { x with list := rest }
    else if poison || !ready then s.repairFailed die n
    else s.setScrubber die n { x with list := rest }

/-- The Region of the oldest listed item is reloaded from the library and released at once (R483, REGION mode). [Log 150 DEDUCED] -/
def State.regionRepair (s : State) (die n crc : Nat) (poison : Bool) : State :=
  let x := s.scrubber die n
  match x.list with
  | [] => s
  | item :: rest =>
    match repairRegion item with
    | none => s
    | some rg =>
      if s.fld (Reg.CFGF_CTL die) 0 2 ≠ 2 ∨ !(s.portJobs die).isEmpty then s
      else if s.reconfiguring die rg then s.setScrubber die n { x with list := rest }
      else if poison || !s.libValid die rg then s.repairFailed die n
      else
        let e := s.fld (libKey die rg) 0 8
        let lib := s.libEntry e
        let (s, ok) := s.takeUnits 1 die ((segBytes lib.segs + 4095) / 4096)
        if !ok then s else
        let r := s.region die rg
        let s := s.takeDown die rg
        if crc ≠ lib.crc then s.loadFailed die rg 4
        else
          let s := (s.writeLoad die rg lib.segs crc).setScrubber die n { x with list := rest.filter (fun i => repairRegion i != some rg) }
          let s := (s.setBit (libKey die rg) 30 false).setRegion die rg { r with state := .active, entry := e }
          (s.releaseInitial die rg).restartFacets die rg

/-- The Regions listed by a die's scrubbers (CFGF_RGSTAT.listed). -/
def State.regionListed (s : State) (die rg : Nat) : Bool := [0, 1].any (fun n => (s.scrubber die n).list.any (fun i => repairRegion i == some rg))

/-- STAT_SCRUB_N is low while any entry is listed (R483). [Log 150 DEDUCED] -/
def State.scrubWaiting (s : State) (die : Nat) : Bool := [0, 1].any (fun n => !(s.scrubber die n).list.isEmpty)

/-! ## Control-die banks (R489) -/

/-- `confirm` within the trial makes bank B active. -/
def State.bankConfirm (s : State) : State :=
  let key := Reg.CFGH_CDBANK
  if s.live.trial && !s.live.expired then
    let s := ((s.setBit key 0 (s.bit key 1)).setBit key 2 false).setLive (fun v => { v with trial := false, expired := false })
    s.bzLog 2 1 0
  else s

/-- The trial limit passes without a confirmation. -/
def State.trialTimeout (s : State) : State := if s.live.trial then s.setLive (fun v => { v with expired := true }) else s

/-- The bank a CD boot takes (R489): A after an unconfirmed trial, with its record; else `next`. [Log 148 DEDUCED] -/
def State.bankBoot (s : State) : State :=
  let key := Reg.CFGH_CDBANK
  if s.live.trial then
    let s := s.setLive (fun v => { v with trial := false, expired := false })
    ((s.setFld key 0 3 0).flagErr key 4 4 (errCode 16 14))
  else if s.bit key 2 then s.setLive (fun v => { v with trial := true, expired := false })
  else s.setBit key 0 (s.bit key 1)

/-! ## Writes of the controller's registers -/

/-- A write of CFGF_CTL. -/
def State.cfgCtlWrite (s : State) (die : Nat) (w : Word) : State :=
  let lim := wfld w 8 8
  let s := s.wr (Reg.CFGF_CTL die) (BitVec.ofNat 32 (wfld w 0 3 + max lim 1 * 256))
  s.flagIf (lim == 0 || wfld w 0 2 == 3) (Reg.CFGF_STAT die) 13

/-- CFGF_RGSTAT as it reads. -/
def State.rgstatRead (s : State) (die rg : Nat) : Word :=
  let r := s.region die rg
  let code := match r.state with | .active => 0 | .loading => 1 | .loaded => 2 | .offline => 3 | .selftest => 4 | .failed => 5
  BitVec.ofNat 32 (code + b2n r.timed * 8 + b2n (s.regionListed die rg) * 16 + r.entry * 256)

/-- CFGF_STAT as it reads: the transfer at the port. -/
def State.cfgfStatRead (s : State) (die : Nat) : Word :=
  let w := s.rd (Reg.CFGF_STAT die)
  let (port, rg) := match (s.portJobs die).head? with
    | none => (0, wfld w 2 4)
    | some (.load r) => (if (s.region die r).load.isSome then 1 else 2, r)
    | some .readout => (3, wfld w 2 4)
  wset (wset w 0 2 port) 2 4 rg

/-- SCR_STAT as it reads. -/
def State.scrStatRead (s : State) (die n : Nat) : Word :=
  let x := s.scrubber die n
  wset (wsetBit (s.rd (Reg.SCR_STAT die (scrInst n))) 5 x.lost) 6 5 x.list.length

end Sys2Proof.Machine
end

