-- ==== Sys2Proof/Machine/TimedIO.lean ====
section
/-!
DEFINITION. The timed I/O units: lines and pad limits, capture, output FIFO, PWM, encoder and tooth-wheel emulation, mirror (R108 to R141).
-/
namespace Sys2Proof.Machine

/-! ## Output lines (R49, R115) -/

/-- Place a transition of a line at DT `x`: moved by the spacing and rate rules, which the two flags report (R115).
Actions placed at one DT show only the level that results (R79, R123). -/
def Line.put (l : Line) (x : DWord) (level oe : Bool) : Line × Bool × Bool :=
  if l.asked = some x then
    match l.moves with
    | (y, _, _) :: rest =>
      let before := match rest with | (_, st) :: _ => st | [] => l.start
      if (level, oe) = before then ({ l with level, oe, moves := rest, asked := none }, false, false)
      else ({ l with level, oe, moves := (y, level, oe) :: rest }, false, false)
    | [] => ({ l with level, oe, start := (level, oe) }, false, false)
  else if level = l.level ∧ oe = l.oe then (l, false, false)
  else
    let x1 := match l.moves with
      | (y, _, _) :: _ => later x (y + 8)
      | [] => x
    let x2 := match l.moves with
      | _ :: _ :: _ :: (y, _, _) :: _ => later x1 (y + 256)
      | _ => x1
    let ms := (x2, level, oe) :: l.moves
    let start := match ms.drop 16 with | (_, st) :: _ => st | [] => l.start
    ({ l with level, oe, start, asked := some x, moves := ms.take 16 }, decide (x < x1), decide (x1 < x2))

/-- Level and driver state of a line at the pad at DT `x`: transitions leave the pad 640 dtu after their placement (R49). -/
def Line.padAt (l : Line) (x : DWord) : Bool × Bool :=
  match l.moves.find? (fun m => decide (m.1 + 640 ≤ x)) with
  | some (_, st) => st
  | none => l.start

/-- Place a transition of a pin's unit, with its status flags (R115). -/
def State.putPin (s : State) (die n : Nat) (x : DWord) (level oe : Bool) : State :=
  let u := s.unit die n
  let (l, narrow, rate) := u.line.put x level oe
  ((s.setUnit die n { u with line := l }).flagIf narrow (Reg.TIO_STAT die n) 15).flagIf rate (Reg.TIO_STAT die n) 16

/-! ## Ends of pulses and windows (R91, R92, R587) -/

/-- Where an end falls: `some x` within the current tick; a pulse never ends before its placement + 8 dtu, given as `floor`. -/
def State.endNow (s : State) (floor : Nat) (e : EndAt) : Option DWord :=
  let first := s.now + 1
  match e with
  | .time x => if x ≤ s.tickEnd then some (later x first) else none
  | .phase i p width placed =>
    let d := s.dom i
    let len := s.spine.len
    let target := p + BitVec.ofNat 64 width
    let x? : Option DWord :=
      if !d.running then some first
      else if d.cur s.now len < d.phase then some first
      else if target ≤ d.phase then some first
      else (d.reach s.now len target false).map (fun k => s.now + BitVec.ofNat 64 k)
    match x? with
    | none => none
    | some x =>
      let x := later x (placed + BitVec.ofNat 64 floor)
      if x ≤ s.tickEnd then some x else none

/-- An end that has been passed but is held back to its placement + 8 dtu in a later tick becomes that DT (R587). -/
def State.endLater (s : State) (floor : Nat) (e : EndAt) : EndAt :=
  match e with
  | .time x => .time x
  | .phase i p width placed =>
    let d := s.dom i
    let passed := !d.running || decide (d.cur s.now s.spine.len < d.phase) ||
      decide (p + BitVec.ofNat 64 width ≤ d.cur s.now s.spine.len)
    if passed then .time (placed + BitVec.ofNat 64 floor) else e

/-! ## Capture (R112, R117 to R120, R140) -/

/-- Store a capture record, or lose it at a full FIFO (R140). -/
def State.pushCapture (s : State) (die n : Nat) (c : Capture) : State :=
  let u := s.unit die n
  if 32 ≤ u.caps.length then
    ((s.setUnit die n { u with gap := true }).count (Reg.TIO_LOST die n) 1).flagErr (Reg.TIO_STAT die n) 18 3 (errCode 4 3)
  else s.setUnit die n { u with caps := u.caps ++ [{ c with gap := u.gap }], gap := false }

/-- A record of the unit's domain at DT `x` (R112). -/
def State.capture (s : State) (die n : Nat) (x : DWord) (kind : Nat) (lvl : Bool) : State :=
  s.pushCapture die n { dt := x, kind, gap := false, lvl, phase := s.phaseAt (wfld (s.unit die n).ctl 4 4) x }

/-- The input level after `inv_in`. -/
def Tio.seen (u : Tio) : Bool := u.input != wbit u.ctl 14

/-- Close the open window at DT `x`, with its marker (R118); what a queue has of the unit's records by then is flushed once the last
of them has drained (R138). -/
def State.closeWindow (s : State) (die n : Nat) (x : DWord) : State :=
  let u := s.unit die n
  if u.window.isNone then s else
  let s := s.setUnit die n { u with window := none }
  let s := if wbit u.ctl 11 then s.capture die n x 2 u.seen else s
  let u := s.unit die n
  if wfld u.ctl 12 2 = 3 then s.setUnit die n { u with ends := u.ends ++ [u.popped + u.caps.length] } else s

/-- Close the window if it ends at or before DT `x` of this tick (R118). -/
def State.windowUpTo (s : State) (die n : Nat) (x : DWord) : State :=
  match (s.unit die n).window with
  | none => s
  | some e =>
    match s.endNow 0 e with
    | some y => if y ≤ x then s.closeWindow die n y else s
    | none => s

/-- A calendar WINDOW action placed at DT `x` (R118, R587). -/
def State.openWindow (s : State) (die n : Nat) (x : DWord) (e : EndAt) : State :=
  let s := s.windowUpTo die n x
  let u := s.unit die n
  let wasOpen := u.window.isSome
  let s := s.setUnit die n { u with window := some e }
  let s := if !wasOpen && wbit u.ctl 11 then s.capture die n x 1 u.seen else s
  match s.endNow 0 e with
  | some y => if y ≤ x then s.closeWindow die n x else s
  | none => s

/-- The effective edge selection of STAMP and PWM_MEASURE (R117, R119). -/
def Tio.edgeSel (u : Tio) : Nat :=
  let e := wfld u.ctl 8 2
  if u.mode = 2 then (if 2 ≤ e then 0 else e) else (if e = 3 then 2 else e)

/-- An edge to `level` is an active one of the unit's edge selection (R117, R119). -/
def Tio.active? (u : Tio) (level : Bool) : Bool :=
  let lvl := level != wbit u.ctl 14
  u.edgeSel == 2 || (u.edgeSel == 0 && lvl) || (u.edgeSel == 1 && !lvl)

/-- The period or high time, saturating at 0xFFFF_FFFF (R120). -/
def sat32 (n : Nat) : Nat := min n 0xFFFFFFFF

/-- Timeout of PWM_MEASURE in dtu (TIO_MTO). -/
def State.mto (s : State) (die n : Nat) : Nat := s.fld (Reg.TIO_MTO die n) 0 24 * 16384

/-- One input transition to `level` at DT `x`, taken by the unit's mode (R117, R119, R120). -/
def State.takeInput (s : State) (die n : Nat) (x : DWord) (level : Bool) : State :=
  let s := s.windowUpTo die n x
  let u := s.unit die n
  let lvl := level != wbit u.ctl 14
  let was := u.seen
  let highNow := if was then (x - u.lastIn).toNat else 0
  let inside := u.window.isSome
  let rec_ := !wbit u.ctl 10 || inside
  let s := s.setUnit die n { u with input := level, lastIn := x, high := u.high + highNow }
  let hit := u.active? level
  if u.mode = 1 then
    let s := if wfld u.ctl 8 2 = 3 then s.flagErr (Reg.TIO_STAT die n) 22 3 (errCode 4 1) else s
    if hit && rec_ then s.capture die n x 0 lvl else s
  else if u.mode = 2 && hit then
    let u1 := s.unit die n
    let lim := s.mto die n
    let lateWin := lim != 0 && (match u.active with
      | some a => decide (a + BitVec.ofNat 64 ((u.timeouts + 1) * lim) ≤ s.tickEnd)
      | none => false)
    let s := match u1.period with
      | some (first, counts) =>
        if counts then s.pushCapture die n { dt := first, kind := 3, gap := false, lvl, phase := BitVec.ofNat 64 (sat32 (x - first).toNat * 2 ^ 32 + sat32 u1.high) } else s
      | none => s
    let s := if lateWin then s.lateArrival die 0x05 n else s
    s.setUnit die n { s.unit die n with period := some (x, rec_), high := 0, active := some x, timeouts := 0 }
  else s

/-- PWM_MEASURE: the timeout that expires in this tick, with its record at the expiry instant, unless an active edge arrives in the
tick (R120). `moves`: the input's transitions in the tick, `start`: its level before them. -/
def State.measureTimeout (s : State) (die n : Nat) (start : Bool) (moves : List (DWord × Bool)) : State :=
  let u := s.unit die n
  let lim := s.mto die n
  match u.mode, lim, u.active with
  | 2, _ + 1, some a =>
    let x := a + BitVec.ofNat 64 ((u.timeouts + 1) * lim)
    if x ≤ s.tickEnd ∧ ¬ moves.any (fun m => u.active? m.2) then
      let input := ((moves.filter (fun m => decide (m.1 ≤ x))).getLast?.map (·.2)).getD start
      let lvl := input != wbit u.ctl 14
      let s := s.setUnit die n { u with timeouts := u.timeouts + 1, period := none }
      (s.pushCapture die n { dt := x, kind := 3, gap := false, lvl, phase := if lvl then 0xFFFFFFFFFFFFFFFF else 0xFFFFFFFF00000000 }).flag (Reg.TIO_STAT die n) 23
    else s
  | _, _, _ => s

/-- The unit's receiver is off: it sees a constant 0 and takes no stamp (R109). [Log 188 DEDUCED] -/
def State.inputSilent (s : State) (die n : Nat) : State :=
  let u := s.unit die n
  if u.input then s.setUnit die n { u with input := false, lastIn := s.now, high := u.high + (if u.seen then (s.now - u.lastIn).toNat else 0) } else s

/-- Pop the head record. -/
def State.popCapture (s : State) (die n : Nat) : State :=
  let u := s.unit die n
  let popped := if u.caps.isEmpty then u.popped else u.popped + 1
  s.setUnit die n { u with caps := u.caps.drop 1, popped, ends := u.ends.filter (fun e => decide (popped < e)) }

/-- Word `w` of a capture record (R112). -/
def Capture.word (c : Capture) (w : Nat) : Word :=
  let w0 := c.dt.toNat % 2 ^ 60 + c.kind * 2 ^ 60 + b2n c.gap * 2 ^ 62 + b2n c.lvl * 2 ^ 63
  let full := w0 + c.phase.toNat * 2 ^ 64
  BitVec.ofNat 32 (full / 2 ^ (32 * w))

/-- The six Facet words of a record of local pin `n` (R139). -/
def Capture.facetWords (c : Capture) (n : Nat) : List Nat :=
  let dt := c.dt.toNat
  let p := c.phase.toNat
  [dt % 2 ^ 24, dt / 2 ^ 24 % 2 ^ 24,
   b2n c.lvl * 2 ^ 23 + b2n c.gap * 2 ^ 22 + c.kind * 2 ^ 20 + n * 2 ^ 12 + dt / 2 ^ 48 % 2 ^ 12,
   p % 2 ^ 24, p / 2 ^ 24 % 2 ^ 24, p / 2 ^ 48]

/-! ## Pin actions and the output FIFO (R121 to R123) -/

/-- One action on a line: the level and driver it asks for, and the pulse in progress (R78, R121). -/
def Line.ask (l : Line) : PinOp → Bool × Bool × Option (EndAt × Bool)
  | .set => (true, true, l.pulse)
  | .clear => (false, true, l.pulse)
  | .toggle => (!l.level, true, l.pulse)
  | .pulse active e => (active, true, some (e, !active))
  | .fifo .low => (false, l.oe, l.pulse)
  | .fifo .high => (true, l.oe, l.pulse)
  | .fifo .toggle => (!l.level, l.oe, l.pulse)
  | .fifo .release => (l.level, false, l.pulse)
  | .fifo .drive => (l.level, true, l.pulse)

/-- End the pulse of a line at or before DT `x` of this tick (R79, R91): the inactive level, the driver as it stands. -/
def State.linePulseUpTo (s : State) (l : Line) (x : DWord) : Line × Bool × Bool :=
  match l.pulse with
  | none => (l, false, false)
  | some (e, idle) =>
    match s.endNow 8 e with
    | some y => if y ≤ x then { l with pulse := none }.put y idle l.oe else (l, false, false)
    | none => (l, false, false)

/-- Apply actions to a line in order, pulse ends first at each DT (R79, R123). -/
def State.lineActs (s : State) (l : Line) (acts : List (DWord × PinOp)) : Line × Bool × Bool :=
  let (l, n, r) := acts.foldl (fun (acc : Line × Bool × Bool) a =>
      let (l, n1, r1) := s.linePulseUpTo acc.1 a.1
      let (lv, oe, pu) := l.ask a.2
      let (l, n2, r2) := { l with pulse := pu }.put a.1 lv oe
      (l, acc.2.1 || n1 || n2, acc.2.2 || r1 || r2)) (l, false, false)
  let (l, n1, r1) := s.linePulseUpTo l s.tickEnd
  let l := match l.pulse with
    | some (e, idle) => { l with pulse := some (s.endLater 8 e, idle) }
    | none => l
  (l, n || n1, r || r1)

/-- The output FIFO entries due in this tick, with their DTs, and whether one is late (R122). -/
def fifoDue (now tickEnd : DWord) : Nat → DWord → List (Nat × OutOp) → List (DWord × OutOp) × List (Nat × OutOp) × Bool
  | 0, _, q => ([], q, false)
  | _ + 1, _, [] => ([], [], false)
  | fuel + 1, c, (x, op) :: q =>
    let ahead := (x + 2 ^ 60 - c.toNat % 2 ^ 60) % 2 ^ 60
    if ahead < 2 ^ 59 then
      let due := c + BitVec.ofNat 64 ahead
      if due ≤ tickEnd then
        let (l, q', late) := fifoDue now tickEnd fuel due q
        ((due, op) :: l, q', late)
      else ([], (x, op) :: q, false)
    else
      let (l, q', _) := fifoDue now tickEnd fuel c q
      ((c, op) :: l, q', true)

/-- The output FIFO of a DRIVE unit: entries due in this tick leave it (R122); none while a debug freeze holds it (R136). -/
def State.fifoRelease (s : State) (die n : Nat) (frozen : Bool) : State × List (DWord × PinOp) :=
  let u := s.unit die n
  if u.mode != 3 || frozen then (s, []) else
  let (l, q, late) := fifoDue s.now s.tickEnd 16 (s.now + 1) u.outq
  ((s.setUnit die n { u with outq := q }).flagIf late (Reg.TIO_STAT die n) 14, l.map (fun p => (p.1, .fifo p.2)))

/-- Calendar actions and FIFO entries of a DRIVE unit in this tick, in the order of R123. -/
def State.driveTick (s : State) (die n : Nat) (cal : List (DWord × PinOp)) (frozen : Bool) : State :=
  let (s, fifo) := s.fifoRelease die n frozen
  let tag (k : Nat) (l : List (DWord × PinOp)) : List (Nat × DWord × PinOp) := l.map (fun p => (k, p))
  let acts := sortBy (fun a b => decide (a.2.1 < b.2.1) || (a.2.1 == b.2.1 && decide (a.1 < b.1))) (tag 0 cal ++ tag 1 fifo)
  let u := s.unit die n
  let (l, narrow, rate) := s.lineActs u.line (acts.map (·.2))
  ((s.setUnit die n { u with line := l }).flagIf narrow (Reg.TIO_STAT die n) 15).flagIf rate (Reg.TIO_STAT die n) 16

/-! ## PWM (R124 to R128) -/

/-- High at position `u` for A and B (R124). -/
def pwmHigh (a b u : Nat) : Bool := if a ≤ b then decide (a ≤ u ∧ u < b) else decide (a ≤ u ∨ u < b)

/-- The shadow values as they are taken into use, and whether one is taken as its limit (R124 to R126, R128). -/
def State.pwmShadow (s : State) (die n mode : Nat) : Nat × Nat × Nat × Bool :=
  let p := (s.rd (Reg.TIO_PW_PER die n)).toNat
  let p1 := if mode = 5 then (if p = 0 then 2 ^ 32 else p) else max p 128
  let a := (s.rd (Reg.TIO_PW_A die n)).toNat
  let b := (s.rd (Reg.TIO_PW_B die n)).toNat
  (p1, min a p1, min b p1, (mode != 5 && decide (p < 128)) || decide (p1 < a) || decide (p1 < b))

/-- Take the shadows into use with origin `org`. -/
def State.pwmTake (s : State) (die n : Nat) (org : DWord) : State :=
  let u := s.unit die n
  let (per, pa, pb, bad) := s.pwmShadow die n u.mode
  let s := if bad then s.flagErr (Reg.TIO_STAT die n) 22 3 (errCode 4 1) else s
  s.setUnit die n { s.unit die n with per, pa, pb, org, upd := none }

/-- One dtu of PWM_GEN: the level where the position crosses A or B, and the shadow move at a period start (R125, R128). -/
def State.pwmGenDtu (s : State) (die n : Nat) (x : DWord) : State :=
  let u := s.unit die n
  if x < u.org then s.putPin die n x (wbit u.ctl 16) true
  else
    let pos := (x - u.org).toNat % max u.per 1
    let start := pos == 0 && (match u.upd with | some b => decide (b < x) | none => false)
    let s := if start then s.pwmTake die n x else s
    let u := s.unit die n
    let pos := if start then 0 else pos
    s.putPin die n x (pwmHigh u.pa u.pb pos != wbit u.ctl 15) true

/-- Whether a high interval lies wholly within a jump from `p` to `q` (R127): it begins above the lower end and ends at or below the
upper one. -/
def pwmLost (per a b : Nat) (org p q : DWord) : Bool :=
  let high := if a ≤ b then b - a else per - a + b
  if high = 0 ∨ high = per then false else
  let lo := if p ≤ q then p else q
  let span := if p ≤ q then (q - p).toNat else (p - q).toNat
  let u := ((distance org lo) % per).toNat
  let ahead := (a + per - u) % per
  decide ((if ahead = 0 then per else ahead) + high ≤ span)

/-- One dtu of PWM_PHASE (R126 to R128). -/
def State.pwmPhaseDtu (s : State) (die n k : Nat) (x : DWord) : State :=
  let u := s.unit die n
  let d := s.dom (wfld u.ctl 4 4)
  if !d.running then s else
  let p := d.ph s.now s.spine.len (k - 1)
  let q := d.ph s.now s.spine.len k
  let per := max u.per 1
  let n0 := distance u.org p / (per : Int)
  let n1 := distance u.org q / (per : Int)
  let moved := n0 != n1 && (match u.upd with | some b => decide (b < x) | none => false)
  let crossed := if n0 < n1 then n1 else n1 + 1
  let s := if moved then s.pwmTake die n (u.org + BitVec.ofInt 64 (crossed * per)) else s
  let u := s.unit die n
  let per := max u.per 1
  let s := s.flagIf (d.jumps.contains k && pwmLost per u.pa u.pb u.org p q) (Reg.TIO_STAT die n) 21
  s.putPin die n x (pwmHigh u.pa u.pb ((distance u.org q) % per).toNat != wbit u.ctl 15) true

/-! ## Encoder emulation (R129 to R132) -/

/-- Counts per turn of an encoder emulator. -/
def State.encN (s : State) (die n : Nat) : Nat := s.fld (Reg.TIO_ENC die n) 0 24 + 1

/-- The target count at a phase: the highest edge at or below it (R130). [Log 68 DEDUCED] -/
def State.encTarget (s : State) (die n : Nat) (p : DWord) : Int := edgeAtOrBelow (s.encN die n) 0 (p - (s.unit die n).ofs)

/-- How far the emitted count is behind the target; the count goes on past the wrap of the 64-bit phase. -/
def State.encGap (s : State) (die n : Nat) (p : DWord) : Int :=
  let m : Int := 2 ^ 32 * s.encN die n
  (s.encTarget die n p - (s.unit die n).count + m / 2) % m - m / 2

/-- Levels of A, B and Z for an emitted count, before `inv_out` (R131). -/
def encLevels (n : Nat) (c : Int) : Bool × Bool × Bool :=
  let r := c % 4
  (r == 0 || r == 3, r == 0 || r == 1, c % (n : Int) == 0)

/-- The state of encoder line EZ `z` of a die at the pads' alignment: the OR of the units that drive it (R129). -/
def State.ezLevel (s : State) (die z : Nat) : Bool :=
  (List.range 240).any (fun n =>
    let u := s.unit die n
    u.mode == 6 && s.bit (Reg.TIO_ENC die n) 28 && s.fld (Reg.TIO_ENC die n) 24 4 == z &&
      ((encLevels (s.encN die n) u.count).2.2 != wbit u.ctl 15))

/-- Encoder line EZ `z` takes its level at DT `x` (R129). -/
def State.ezDrive (s : State) (die z : Nat) (x : DWord) : State :=
  let l := (s.ez.get (die * 16 + z) {}).put x (s.ezLevel die z) true
  { s with ez := s.ez.set (die * 16 + z) l.1 {} }

/-- Drive A, B and Z for the emitted count at DT `x` (R129, R131). -/
def State.encDrive (s : State) (die n : Nat) (x : DWord) : State :=
  let u := s.unit die n
  let (a, b, _) := encLevels (s.encN die n) u.count
  let inv := wbit u.ctl 15
  let s := (s.putPin die n x (a != inv) true).putPin die (n + 1) x (b != inv) true
  s.ezDrive die (s.fld (Reg.TIO_ENC die n) 24 4) x

/-- The emitted count steps one count toward the target at dtu `k`, if its spacing has passed (R130). -/
def State.encStep (s : State) (die n k : Nat) : State :=
  let u := s.unit die n
  let x := s.now + BitVec.ofNat 64 k
  let csp := max (s.fld (Reg.TIO_ENC_SP die n) 0 12) 64
  let gap := s.encGap die n ((s.dom (wfld u.ctl 4 4)).ph s.now s.spine.len k)
  if u.mode != 6 || gap == 0 || decide (x < u.stepAt + BitVec.ofNat 64 csp) then s
  else (s.setUnit die n { u with count := if 0 < gap then u.count + 1 else u.count - 1, stepAt := x }).encDrive die n x

/-! ## Tooth-wheel emulation and mirror (R133 to R135) -/

/-- Width of an emulated tooth, and whether it is taken as its limit (R133). -/
def State.toothWidth (s : State) (die n : Nat) : Nat × Bool :=
  let w := (s.rd (Reg.TIO_PLS_W die n)).toNat
  let lim := 2 ^ 32 / (s.fld (Reg.TIO_PLS die n) 0 10 + 1)
  if w < lim then (w, false) else (lim - 1, true)

/-- Whether slot `k` of a die's pattern table `p` carries a tooth. -/
def State.patTooth (s : State) (die p k : Nat) : Bool := !(s.bit (Reg.TIO_PAT die (p * 32 + k / 32)) (k % 32))

/-- Whether an emulated tooth is active at phase `p` (R133). -/
def State.toothActive (s : State) (die n : Nat) (p : DWord) : Bool :=
  let slots := s.fld (Reg.TIO_PLS die n) 0 10 + 1
  let ofs := (s.unit die n).ofs.setWidth 32
  let c := edgeAtOrBelow slots ofs p
  let k := (c % slots).toNat
  s.patTooth die (s.fld (Reg.TIO_PLS die n) 10 2) k &&
    decide ((p - arrival slots ofs c).toNat < (s.toothWidth die n).1)

/-- Whether a present tooth lies wholly within a jump from `p` to `q` (R127, R133). -/
def State.toothLost (s : State) (die n : Nat) (p q : DWord) : Bool :=
  let slots := s.fld (Reg.TIO_PLS die n) 0 10 + 1
  let ofs := (s.unit die n).ofs.setWidth 32
  let lo := if p ≤ q then p else q
  let hi := if p ≤ q then q else p
  let c0 := edgeAtOrBelow slots ofs lo
  (List.range (min (edgeAtOrBelow slots ofs hi - c0).toNat slots)).any (fun j =>
    let c := c0 + 1 + j
    s.patTooth die (s.fld (Reg.TIO_PLS die n) 10 2) (c % slots).toNat &&
      decide ((arrival slots ofs c - lo).toNat + (s.toothWidth die n).1 ≤ (hi - lo).toNat))

/-- One dtu of PULSE_EMU. -/
def State.pulseEmuDtu (s : State) (die n k : Nat) (x : DWord) : State :=
  let u := s.unit die n
  let d := s.dom (wfld u.ctl 4 4)
  if !d.running then s else
  let p := d.ph s.now s.spine.len (k - 1)
  let q := d.ph s.now s.spine.len k
  let s := s.flagIf (d.jumps.contains k && s.toothLost die n p q) (Reg.TIO_STAT die n) 21
  s.putPin die n x (s.toothActive die n q != wbit u.ctl 15) true

/-- The delay of a MIRROR unit in dtu, above 16,000 taken as 16,000 (R135). -/
def State.mirrorDelay (s : State) (die n : Nat) : Nat := min (s.fld (Reg.TIO_MIR die n) 8 14) 16000

/-- Queue a transition of local pin `src` at every MIRROR unit of the die that follows it (R135). [Log 70 DEDUCED] -/
def State.mirrorEdge (s : State) (die src : Nat) (x : DWord) (level : Bool) : State :=
  (List.range 240).foldl (fun s n =>
    let u := s.unit die n
    if u.mode = 8 && s.fld (Reg.TIO_MIR die n) 0 8 = src then
      let lv := (level != wbit (s.unit die src).ctl 14) != wbit u.ctl 15
      s.setUnit die n { u with mirror := u.mirror ++ [(x + BitVec.ofNat 64 (s.mirrorDelay die n), lv)] }
    else s) s

/-- The mirrored transitions due in this tick. -/
def State.mirrorTick (s : State) (die n : Nat) : State :=
  let u := s.unit die n
  let due := u.mirror.takeWhile (fun m => decide (m.1 ≤ s.tickEnd))
  let s := s.setUnit die n { u with mirror := u.mirror.dropWhile (fun m => decide (m.1 ≤ s.tickEnd)) }
  due.foldl (fun s m => s.putPin die n m.1 m.2 true) s

/-! ## Modes (R110, R111) -/

/-- The mode that a TIO_CTL value selects, given the mode of the unit of pin n + 1: reserved and invalid settings as OFF
(R110, R129, R130, R135). -/
def State.effMode (s : State) (die n : Nat) (w : Word) (partner : Nat) : Nat :=
  let m := wfld w 0 4
  if 9 ≤ m then 0
  else if m = 6 then (if n % 2 = 0 ∧ n + 1 < 240 ∧ partner = 0 ∧ s.encN die n % 4 = 0 then 6 else 0)
  else if m = 8 then (if s.fld (Reg.TIO_MIR die n) 0 8 < 240 then 8 else 0)
  else m

/-- The mode a TIO_CTL value selects, and whether it is a reserved or invalid setting. -/
def State.modeOf (s : State) (die n : Nat) (w : Word) : Nat × Bool :=
  let m := s.effMode die n w (s.unit die (n + 1)).mode
  (m, m != wfld w 0 4)

/-- Leave the present mode at the boundary `x`: FIFO emptied, window closed, period discarded, pin B released (R111, R129). A PWM update
that waits is kept: entering a PWM mode clears it (R128). -/
def State.leaveMode (s : State) (die n : Nat) (x : DWord) : State :=
  let u := s.unit die n
  let s := s.closeWindow die n x
  let s := s.setUnit die n { s.unit die n with outq := [], period := none, high := 0, active := none, timeouts := 0, mirror := [], held := false, line := { (s.unit die n).line with pulse := none } }
  if u.mode = 6 then
    let s := s.setUnit die (n + 1) { s.unit die (n + 1) with slave := false }
    s.putPin die (n + 1) x (s.unit die (n + 1)).line.level false
  else s

/-- Enter mode `m` at the boundary `x` (R110, R111, R121, R125, R128, R129, R132). -/
def State.enterMode (s : State) (die n m : Nat) (x : DWord) : State :=
  let s := s.setUnit die n { s.unit die n with mode := m }
  let u := s.unit die n
  let p := (s.dom (wfld u.ctl 4 4)).cur s.now s.spine.len
  match m with
  | 3 => s.putPin die n x (wbit u.ctl 16) true
  | 4 =>
    let s := s.pwmTake die n (s.rdPair (Reg.TIO_PW_ORG_LO die n) (Reg.TIO_PW_ORG_HI die n))
    s.pwmGenDtu die n x
  | 5 =>
    let s := s.pwmTake die n (s.rdPair (Reg.TIO_PW_ORG_LO die n) (Reg.TIO_PW_ORG_HI die n))
    let u := s.unit die n
    s.putPin die n x (pwmHigh u.pa u.pb ((distance u.org p) % (max u.per 1 : Nat)).toNat != wbit u.ctl 15) true
  | 6 =>
    let s := s.setUnit die n { u with count := s.encTarget die n p }
    let s := s.setUnit die (n + 1) { s.unit die (n + 1) with slave := true }
    let s := if s.fld (Reg.TIO_ENC_SP die n) 0 12 < 64 then s.flagErr (Reg.TIO_STAT die n) 22 3 (errCode 4 1) else s
    s.encDrive die n x
  | 7 =>
    let s := if (s.toothWidth die n).2 then s.flagErr (Reg.TIO_STAT die n) 22 3 (errCode 4 1) else s
    s.putPin die n x (s.toothActive die n p != wbit u.ctl 15) true
  | 8 =>
    let s := if 16000 < s.fld (Reg.TIO_MIR die n) 8 14 then s.flagErr (Reg.TIO_STAT die n) 22 3 (errCode 4 1) else s
    s.putPin die n x (s.unit die n).line.level true
  | _ => s.putPin die n x u.line.level false

/-- A TIO_CTL value takes effect at the boundary `x` (R111). -/
def State.applyCtl (s : State) (die n : Nat) (x : DWord) (w : Word) : State :=
  let u := s.unit die n
  let (m, bad) := s.modeOf die n w
  let badEdge := (m == 1 && wfld w 8 2 == 3) || (m == 2 && decide (2 ≤ wfld w 8 2))
  let s := if bad || badEdge then s.flagErr (Reg.TIO_STAT die n) 22 3 (errCode 4 1) else s
  if wfld u.ctl 0 4 = wfld w 0 4 then
    let s := s.setUnit die n { s.unit die n with ctl := w }
    -- `inv_out` acts on A, B and Z at once (R131)
    if u.mode = 6 ∧ wbit u.ctl 15 ≠ wbit w 15 then s.encDrive die n x else s
  else
    let s := s.setUnit die n { s.unit die n with ctl := w }
    let s := (s.leaveMode die n x).enterMode die n m x
    -- a line that no unit drives any more carries 0 (R129)
    if u.mode = 6 then s.ezDrive die (s.fld (Reg.TIO_ENC die n) 24 4) x else s

/-- The flush that waits for the boundary of one unit (R137). -/
def State.unitBoundary (s : State) (die n : Nat) : State :=
  let u := s.unit die n
  if u.flush then s.setUnit die n { u with flush := false, outq := [] } else s

/-- A waiting write of TIO_EMU_OFS shifts every edge by the signed change (R132). -/
def State.applyOffset (s : State) (die n : Nat) (w : Word) : State :=
  let u := s.unit die n
  s.setUnit die n { u with ofs := u.ofs + (w - u.ofs.setWidth 32).signExtend 64 }

/-- One write that waited for the boundary takes effect (R111, R132, R134). [Log 187 DEDUCED] -/
def State.applyTio (s : State) (w : TioWrite) : State :=
  match w with
  | .ctl die n v => s.applyCtl die n s.tickEnd v
  | .offset die n v => s.applyOffset die n v
  | .pattern die n v => s.wr (Reg.TIO_PAT die n) v

/-- Whether the unit of pin `n` is taken over as pin B, counted with the TIO_CTL writes that wait (R111, R129). [Log 187 DEDUCED] -/
def State.takenOver (s : State) (die n : Nat) : Bool :=
  if n % 2 = 0 then false else
  let a := s.unit die (n - 1)
  -- the `mode` field and the mode of pin A, and the mode of pin B, as the waiting writes leave them
  let last := s.tioWrites.foldl (fun (acc : Nat × Nat × Nat) w =>
    match w with
    | .ctl d m v =>
      if d ≠ die then acc
      else if m + 1 = n then (if wfld v 0 4 = acc.1 then acc else (wfld v 0 4, s.effMode die m v acc.2.2, acc.2.2))
      else if m = n then (acc.1, acc.2.1, s.effMode die n v 0)
      else acc
    | _ => acc) (wfld a.ctl 0 4, a.mode, (s.unit die n).mode)
  last.2.1 == 6

/-! ## A tick of one unit -/

/-- Outside transitions more than 64 dtu back are forgotten: no pad-control edge samples them any more (R160). -/
def Tio.forget (u : Tio) (x : DWord) : Tio :=
  let gone (e : DWord × Bool) : Bool := decide (64 ≤ (x - e.1).toNat)
  { u with edges := u.edges.filter (fun e => !gone e), ext0 := match (u.edges.filter gone).getLast? with | some e => some e.2 | none => u.ext0 }

/-- Input transitions of this tick, windows opened by the calendar, timeouts (R117 to R120). -/
def State.unitInputs (s : State) (die n : Nat) (moves : List (DWord × Bool)) (wins : List (DWord × EndAt)) : State :=
  let u := s.unit die n
  let evs : List (Nat × DWord × (EndAt ⊕ Bool)) :=
    wins.map (fun w => (0, w.1, Sum.inl w.2)) ++ moves.map (fun e => (1, e.1, Sum.inr e.2))
  let start := u.input
  let evs := sortBy (fun a b => decide (a.2.1 < b.2.1) || (a.2.1 == b.2.1 && decide (a.1 < b.1))) evs
  let s := s.setUnit die n (u.forget s.tickEnd)
  let s := evs.foldl (fun s e =>
    match e.2.2 with
    | .inl w => s.openWindow die n e.2.1 w
    | .inr lv => s.takeInput die n e.2.1 lv) s
  (s.windowUpTo die n s.tickEnd).measureTimeout die n start moves

/-- Output transitions of this tick (R121 to R136); `frozen` while the debug freeze holds the unit. -/
def State.unitOutputs (s : State) (die n : Nat) (cal : List (DWord × PinOp)) (frozen : Bool) : State :=
  let ks := (List.range s.spine.len).map (· + 1)
  let at_ (k : Nat) : DWord := s.now + BitVec.ofNat 64 k
  match (s.unit die n).mode with
  | 3 => s.driveTick die n cal frozen
  | 4 =>
    if frozen then s.setUnit die n { s.unit die n with held := true }
    else
      -- the first boundary after resume is the new origin (R136)
      let u := s.unit die n
      if u.held then (s.setUnit die n { u with held := false, org := s.tickEnd }).pwmGenDtu die n s.tickEnd
      else ks.foldl (fun s k => s.pwmGenDtu die n (at_ k)) s
  | 5 => ks.foldl (fun s k => s.pwmPhaseDtu die n k (at_ k)) s
  | 6 => ks.foldl (fun s k => s.encStep die n k) s
  | 7 => ks.foldl (fun s k => s.pulseEmuDtu die n k (at_ k)) s
  | 8 => s.mirrorTick die n
  | _ => s

/-! ## Commands -/

/-- A write of TIO_CTL (R111, R129, R138): applies at the next boundary, or is refused whole. -/
def State.tioCtlWrite (s : State) (die n : Nat) (w : Word) : State × Resp :=
  let key := Reg.TIO_CTL die n
  let old := s.rd key
  let capturing := wfld old 0 4 = 1 || wfld old 0 4 = 2
  if s.takenOver die n then (s, .refused)
  else if capturing && wfld old 12 2 != wfld w 12 2 then (s, .refused)
  else
    let w := BitVec.ofNat 32 (w.toNat % 2 ^ 18)
    ({ s.wr key w with tioWrites := s.tioWrites ++ [.ctl die n w] }, .ok)

/-- A pair written to TIO_OUT (R121): appended, discarded at a full FIFO or a reserved operation, refused outside DRIVE. -/
def State.tioOutWrite (s : State) (die n : Nat) (w : DWord) : State × Resp :=
  let u := s.unit die n
  if wfld (s.rd (Reg.TIO_CTL die n)) 0 4 != 3 then (s, .refused)
  else
    let op? : Option OutOp := match w.toNat / 2 ^ 60 with
      | 0 => some .low | 1 => some .high | 2 => some .toggle | 3 => some .release | 4 => some .drive | _ => none
    match op? with
    | none => (s.flagErr (Reg.TIO_STAT die n) 22 3 (errCode 4 1), .ok)
    | some op =>
      if 16 ≤ u.outq.length then (s.flagErr (Reg.TIO_STAT die n) 17 3 (errCode 4 2), .ok)
      else (s.setUnit die n { u with outq := u.outq ++ [(w.toNat % 2 ^ 60, op)] }, .ok)

end Sys2Proof.Machine
end

