-- ==== Sys2Proof/Machine/Units.lean ====
section
/-!
DEFINITION. What one unit shows another: cores, debug lines and freeze, the start-up controller's status, alert levels.
-/
namespace Sys2Proof.Machine

/-! ## Cores (R35 to R39, R536) -/

def State.coreHalted (s : State) (i : Nat) : Bool := (s.core i).run == .halted
def State.anyCoreHalted (s : State) : Bool := (List.range 6).any s.coreHalted

/-! ## Debug freeze (R538) -/

/-- The core chosen for a class in DBG_FRZSEL is halted: 0 spine, 1 cal, 2 tio, 3 facet, 4 fdsp, 5 loupe, 6 queue. -/
def State.classHalted (s : State) (cls : Nat) : Bool :=
  let c := s.fld Reg.DBG_FRZSEL (3 * cls) 3
  if c = 7 then false else if c = 6 then s.anyCoreHalted else s.coreHalted c

/-- A unit with its debug-freeze bit is frozen; calendar slices and timed I/O units are in CLOCK_HOLD as well (R423, R538). -/
def State.sliceFrozen (s : State) (die : Nat) : Bool := s.clk.hold || (s.bit (Reg.CAL_CTL die) 1 && s.classHalted 1)
/-- [Log 90 DEDUCED] -/
def State.unitFrozen (s : State) (die n : Nat) : Bool := s.clk.hold || (wbit (s.unit die n).ctl 17 && s.classHalted 2)
def State.fdspFrozen (s : State) (die rg : Nat) : Bool := s.bit (Reg.FDSP_CTL die rg) 1 && s.classHalted 4

/-! ## Debug lines (R542) -/

/-- A Facet that run control has halted. -/
def State.anyFacetHalted (s : State) : Bool := s.facets.phys.any (fun e => e.2.state == .halted && e.2.haltDbg)

/-- The level the gate drives on debug line `n`. A source of pulses rests at 0. [Log 41 DEDUCED] -/
def State.debugLine (s : State) (n : Nat) : Bool :=
  let w := s.rd (Reg.DBG_XTRIG n)
  wbit w 0 && match wfld w 1 4 with
    | 1 => true
    | 2 => s.coreHalted 0
    | 3 => s.coreHalted 1
    | 4 => s.coreHalted 2
    | 5 => s.coreHalted 3
    | 6 => s.coreHalted 4
    | 7 => s.coreHalted 5
    | 8 => s.anyCoreHalted
    | 9 => s.anyFacetHalted
    -- 100 ns, 1,600 dtu, after a record of the severity
    | 10 => (List.range 8).any (fun k => decide (wfld w 5 3 ≤ k) && (match s.recorder.pulses.get k none with
      | some x => decide ((s.now - x).toNat < 1600)
      | none => false))
    | _ => false

/-! ## Start-up status (R145, R452, R460) -/

/-- The start-up state code (CFG_STAT.state). -/
def State.bootState (s : State) : Nat := s.fld Reg.CFG_STAT 0 4
def State.setBootState (s : State) (n : Nat) : State := s.setFld Reg.CFG_STAT 0 4 n
def State.setBoot (s : State) (f : Boot → Boot) : State := { s with boot := f s.boot }

/-- STAT_READY: the die is in service, 0 until its ready report and while it rejoins. -/
def State.dieInService (s : State) (die : Nat) : Bool := s.boot.ready.get die false && !s.dieLost die

/-- STAT_ERR_N: an image failure of this start-up is recorded, or the device is in CONFIG_FAILED. -/
def State.imageFailure (s : State) : Bool := s.bootState == 7 || (List.range 5).any (fun k => s.bit (Reg.CFG_LOG k) 11)

/-! ## Governor levels (R147, R289) -/

/-- A sensor is above the warning threshold (THERM_N). -/
def State.overWarning (s : State) : Bool := (List.range 96).any (fun i => s.bit (Reg.GOV_TEMP i) 16 && decide (s.threshold 0 < signed 12 (s.fld (Reg.GOV_TEMP i) 0 12)))

/-- The ladder is at or above GOV_CTL.alert_lvl (ALERT_N). -/
def State.govAlert (s : State) : Bool := let a := s.fld Reg.GOV_CTL 1 3; a != 0 && decide (a ≤ s.ladder)

end Sys2Proof.Machine
end

