-- ==== Sys2Proof/Machine/Pads.lean ====
section
/-!
DEFINITION. Pad functions, changeover, crossbar, sleep and safe states, lock sequence, system monitor (R142 to R169).
-/
namespace Sys2Proof.Machine

/-! ## Pads of a die -/

def State.pad (s : State) (die p : Nat) : Pad := s.pins.pads.get (die * 240 + p) {}
def State.setPad (s : State) (die p : Nat) (x : Pad) : State :=
  { s with pins := { s.pins with pads := s.pins.pads.set (die * 240 + p) x {} } }

/-- The first pad-control edge at or after DT `x`: edges fall at multiples of 64 dtu (R149). -/
def edgeFrom (x : DWord) : DWord := BitVec.ofNat 64 ((x.toNat + 63) / 64 * 64)
/-- The first pad-control edge after DT `x`. -/
def edgeAfter (x : DWord) : DWord := edgeFrom (x + 1)

/-- Placement DT of what shows at pad DT `t`: 640 dtu earlier (R49). -/
def placedAt (t : DWord) : DWord := if t < 640 then 0 else t - 640

/-- The pad function a code selects on a local pin, and whether the code is reserved there (R143, R145, R146). [Log 76 DEDUCED] -/
def funcOf (p func : Nat) : Nat × Bool :=
  if func = 5 then (if p < 4 then (5, false) else (15, true))
  else if func = 7 then (if p / 24 < 4 ∧ p % 2 = 0 then (7, false) else (15, true))
  else if func = 8 then (if p = 216 then (8, false) else (15, true))
  else if 9 ≤ func ∧ func ≤ 14 then (15, true)
  else (func, false)

/-- The reset function of a local pin. -/
def resetFunc (p : Nat) : Nat := if p < 4 then 5 else 15

/-- Who has the pad at placement DT `y` (R154). -/
def Pad.phaseAt (q : Pad) (p : Nat) (y : DWord) : PadPhase :=
  match q.phases.find? (fun e => decide (e.1 ≤ y)) with
  | some (_, ph) => ph
  | none => .fn (resetFunc p) 0

/-- The phases that still show at or after placement DT `y`. -/
def Pad.live (q : Pad) (y : DWord) : List (DWord × PadPhase) :=
  q.phases.takeWhile (fun e => decide (y < e.1)) ++ (q.phases.dropWhile (fun e => decide (y < e.1))).take 1

/-- The placement DT before which no phase of a pad matters any more: 128 dtu before what shows now. -/
def State.padHorizon (s : State) : DWord := let y := placedAt s.now; if y < 128 then 0 else y - 128

/-- The function that has or takes the pad, as the newest switch left it. -/
def Pad.newest (q : Pad) (p : Nat) : Nat × Nat :=
  match q.phases with
  | (_, .fn f sel) :: _ => (f, sel)
  | _ => (resetFunc p, 0)

/-- A changeover is in progress or due at placement DT `y` (R154, R155). -/
def Pad.busy (q : Pad) (y : DWord) : Bool :=
  match q.phases with
  | (e, _) :: _ => decide (y < e)
  | [] => false

/-- Whether a pad function drives the pad (R143, R146, R154): not ANALOG, PHASE_IN, ADC_VREF, DEBUG as an input, nor DIFF as a receiver.
Which of the two a DIFF pair is, the specification leaves open: a free constant. -/
def State.drives (s : State) (die p func sel : Nat) : Bool :=
  match func with
  | 3 | 4 | 8 => false
  | 6 => s.bit (Reg.DBG_XTRIG sel) 0
  | 7 => Config.diffDrives (die * 240 + p / 2 * 2)
  | _ => true

/-! ## Safe and sleep states (R161 to R164) -/

/-- A device-wide cause of the safe state holds (R163). -/
def SafeCauses.any (c : SafeCauses) : Bool := c.startHold || c.failed || c.reference || c.thermal || c.security

/-- A cause of the safe state holds for a pin whose function is `func` (R145, R163). -/
def State.padSafe (s : State) (die func : Nat) : Bool :=
  let c := s.pins.safe
  ((c.startHold || c.failed) && func != 5) || c.reference || c.thermal || c.security || c.die.get die false

/-- A power domain keeps its contents stopped or has lost them: SLEEP, DEEP_SLEEP or OFF (R276). -/
def State.domainDown (s : State) (g : Nat) : Bool := s.power.dom.get g 0 != 0

/-- A power domain is in retention or off: DEEP_SLEEP or OFF (R162, R276). -/
def State.domainLost (s : State) (g : Nat) : Bool := 2 ≤ s.power.dom.get g 0

/-- A cause of the sleep state holds (R162). -/
def State.padSleep (s : State) (die p func : Nat) : Bool :=
  (func == 0 && s.domainLost (die * 16 + p / 15)) || s.bit (Reg.PAD_BANK die (p / 24)) 2 ||
    s.domainLost (128 + die) || s.power.deepSleep

/-- A bank's VCCIO is present (R157). [Log 12 DESIGN CHOICE] -/
def State.bankOn (s : State) (die p : Nat) : Bool := s.pins.vok.get (die * 10 + p / 24) false

/-! ## Crossbar sources (R147 to R149) -/

/-- The source in use at a pad at DT `t`. -/
def Pad.srcAt (q : Pad) (t : DWord) : Nat :=
  match q.srcs.find? (fun e => decide (e.1 ≤ t)) with
  | some (_, c) => c
  | none => 0x1A6

/-- The idle level of hub service signal `k` (R147). -/
def hubIdle (k : Nat) : Bool := match k with | 3 | 5 => false | _ => true

/-- The level of hub service signal `k` on HD: PMB_SCL, PMB_SDA, THERM_N, SAFE_N, ALERT_N, USER_MODE (R147). The PMBus lines are idle
but for the ticks of a transaction, whose bits are a free value. [Log 101 DEDUCED] -/
def State.hubNow (s : State) (k : Nat) : Bool :=
  match k with
  | 0 => !s.power.busActive || s.freeNat 1 == 1
  | 1 => !s.power.busActive || s.freeNat 2 / 2 == 1
  | 2 => !s.overWarning
  | 3 => !s.pins.safe.any
  | 4 => !s.govAlert
  | _ => s.userMode

/-- Hub service signals that change reach the pads at a pad-control edge at most 200 ns later; which edge is a free choice (R149).
[Log 181 DESIGN CHOICE] -/
def State.hubTick (s : State) : State :=
  let t := (List.range 6).foldl (fun (t : State) k =>
    let l := t.pins.hub.get k {}
    let v := s.hubNow k != hubIdle k
    if v == l.level then t
    else
      let e := edgeFrom s.tickEnd + BitVec.ofNat 64 (64 * (t.freeNat 64 % 50))
      ({ t with pins := { t.pins with hub := t.pins.hub.set k (l.put (e - 640) v true).1 {} } }).drawn) s
  if s.power.busActive then ({ t with power := { t.power with busActive := false } }).drawn else t

/-- The level of a fabric bypass output at DT `t`: while its Region is isolated, the default that the image declares (R149, R174).
[Log 180 DESIGN CHOICE] -/
def State.fboLevel (s : State) (die b : Nat) (t : DWord) : Bool :=
  if s.isolated die (b / 8) then Config.boundaryDefault (die * 128 + b) (s.cellsOf die (b / 8))
  else ((s.pins.fbo.get (die * 128 + b) {}).padAt t).1

/-- The level of a crossbar source at the pads of a die at DT `t` (R57, R147). -/
def State.srcLevel (s : State) (die code : Nat) (t : DWord) : Bool :=
  if code < 0x100 then (((s.slice die).lines.get code {}).padAt t).1
  else if code < 0x110 then
    match s.excited die (code - 0x100) with
    | some i => s.excitation i (placedAt t)
    | none => ((s.spine.phi.get (die * 16 + (code - 0x100)) {}).padAt t).1
  else if code < 0x120 then ((s.ez.get (die * 16 + (code - 0x110)) {}).padAt t).1
  else if code < 0x1A0 then s.fboLevel die (code - 0x120) t
  else if code < 0x1A6 then ((s.pins.hub.get (code - 0x1A0) {}).padAt t).1 != hubIdle (code - 0x1A0)
  else if code = 0x1A7 then true
  else if 0x1B0 ≤ code then
    let w := s.rd (Reg.XBAR_TAP die (code - 0x1B0))
    wbit w 8 && wfld w 0 8 < 240 && ((s.unit die (wfld w 0 8)).line.padAt t).1
  else false

/-! ## The level at a pad -/

/-- Level and driver of a held state (R161): 1 LOW, 2 HIGH, 3 HOLD, otherwise the driver is off. -/
def State.stateOut (s : State) (die p code : Nat) : Bool × Bool :=
  match code with
  | 1 => (false, true)
  | 2 => (true, !s.bit (Reg.PAD_CFG die p) 7)
  | 3 => (s.pad die p).hold.getD (false, false)
  | _ => (false, false)

/-- Level and driver of a pad function at DT `t` (R143, R145, R146, R161). [Log 80 DESIGN CHOICE] -/
def State.fnOut (s : State) (die p func sel : Nat) (t : DWord) : Bool × Bool :=
  match func with
  -- the design's own output, or the default its isolation cells hold: free values
  | 0 => Config.pinPort (die * 240 + p) (s.outputLoad die (p / 15)) (s.isolated die (p / 15)) t
  | 1 => (s.unit die p).line.padAt t
  | 2 => (s.srcLevel die ((s.pad die p).srcAt t) t, true)
  | 5 => match p with
    | 0 => (s.dieInService die, true)
    | 1 => (s.userMode, true)
    | 2 => (false, s.imageFailure)
    | _ => (false, s.scrubWaiting die)
  | 6 => (s.debugLine sel, s.bit (Reg.DBG_XTRIG sel) 0)
  | 7 => (s.srcLevel die ((s.pad die (p / 2 * 2)).srcAt t) t != (p % 2 == 1), s.drives die p 7 sel)
  | 15 => s.stateOut die p (s.fld (Reg.PAD_CFG die p) 12 3)
  | _ => (false, false)

/-- The pin whose function a pad follows at pad DT `t`: the even pin of a differential pair takes over the odd one while DIFF has it
(R146). -/
def State.ruler (s : State) (die p : Nat) (t : DWord) : Nat :=
  if p % 2 = 1 then
    match (s.pad die (p - 1)).phaseAt (p - 1) (placedAt t) with
    | .fn 7 _ | .leave 7 _ _ _ => p - 1
    | _ => p
  else p

/-- Who has a pad at pad DT `t` (R146, R154). -/
def State.padPhase (s : State) (die p : Nat) (t : DWord) : PadPhase :=
  let r := s.ruler die p t
  (s.pad die r).phaseAt r (placedAt t)

/-- PAD_IN.pstate: 0 FUNCTION, 1 CHANGEOVER, 2 SLEEP, 3 SAFE; safe before sleep before changeover (R162). A function decides on these
states while it has the pad. -/
def State.pstate (s : State) (die p : Nat) (t : DWord) : Nat :=
  let r := s.ruler die p t
  let next := ((s.pad die r).newest r).1
  match s.padPhase die p t with
  | .fn f _ => if f = 15 ∨ s.padSafe die f then 3 else if s.padSleep die p f then 2 else 0
  | .leave _ _ _ _ => if s.padSafe die next then 3 else if s.padSleep die p 1 then 2 else 1
  | .held _ _ _ => if s.padSafe die next then 3 else if s.padSleep die p next then 2 else 1

/-- A boundary instruction is in force: EXTEST, CLAMP, HIGHZ, EXTEST_PULSE or EXTEST_TRAIN in a session with BSCAN (R528, R535). -/
def State.boundary (s : State) : Option Nat :=
  let i := s.session.ir
  if s.session.state == 2 && s.session.scope.testBit 5 && [0x00, 0x03, 0x04, 0x05, 0x06].contains i then some i else none

/-- The boundary register has the pads, but for the causes that take precedence over it (R529). [Log 79 DEDUCED] -/
def State.boundaryPads (s : State) : Option Nat :=
  let c := s.pins.safe
  if c.reference || c.thermal || c.security then none else s.boundary

/-- What a function shows at a pad at DT `t`: its output, or the sleep state that its own cause gives (R161, R162). -/
def State.outAt (s : State) (die p func sel : Nat) (t : DWord) : Bool × Bool :=
  if s.padSleep die p func then s.stateOut die p (s.fld (Reg.PAD_CFG die p) 9 3) else s.fnOut die p func sel t

/-- Level and driver that the pad's own circuits give it at DT `t`, open-drain applied (R145, R154, R157, R161, R162, R529): high-Z until
POR releases. [Log 76 DEDUCED, 79 DEDUCED] -/
def State.padDrive (s : State) (die p : Nat) (t : DWord) : Bool × Bool :=
  let cfg := s.rd (Reg.PAD_CFG die p)
  let raw : Bool × Bool :=
    if s.clk.por then (false, false)
    else if s.boundaryPads = some 0x04 then (false, false)
    else if s.boundaryPads.isSome then s.session.cells.get (die * 240 + p) (false, false)
    else match s.pstate die p t with
      | 3 => s.stateOut die p (wfld cfg 12 3)
      | 2 => s.stateOut die p (wfld cfg 9 3)
      | _ => match s.padPhase die p t with
        | .fn f sel => s.fnOut die p f sel t
        -- the last level before the first edge (R154)
        | .leave f sel start drives => if drives then s.outAt die p f sel (start + 639) else (false, false)
        | .held lv oe _ => (lv, oe)
  (raw.1, raw.2 && !(wbit cfg 7 && raw.1) && s.bankOn die p)

/-- The pull that holds an undriven pad at DT `t`: 0 none, 1 up, 2 down (R143, R157, R161); none in ANALOG and until POR releases. A changeover out
of a sleep or safe state keeps that state's (R164). -/
def State.padPull (s : State) (die p : Nat) (t : DWord) : Nat :=
  let cfg := s.rd (Reg.PAD_CFG die p)
  let own := match wfld cfg 2 2 with | 1 => 1 | 2 => 2 | _ => 0
  let coded (code : Nat) : Nat := match code with | 3 => own | 4 => 1 | 5 => 2 | _ => 0
  if s.clk.por then 0
  else match s.pstate die p t with
    | 3 => coded (wfld cfg 12 3)
    | 2 => coded (wfld cfg 9 3)
    | _ => match s.padPhase die p t with
      | .fn 3 _ => 0
      | .held _ _ pull => pull
      | .leave 15 _ _ _ => coded (wfld cfg 12 3)
      | .leave f _ _ _ => if s.padSleep die p f then coded (wfld cfg 9 3) else own
      | _ => own

/-- The receiver is off at pad DT `t`: ANALOG has the pad, or the bank's VCCIO is absent (R109, R144, R160). -/
def State.receiverOffAt (s : State) (die p : Nat) (t : DWord) : Bool :=
  (match s.padPhase die p t with | .fn 3 _ => true | _ => false) || !s.bankOn die p
def State.receiverOff (s : State) (die p : Nat) : Bool := s.receiverOffAt die p s.now

/-- The level of a pad the device does not drive: as the outside drives it, else as the pull holds it (R157); with neither, the
specification states none, a free value. [Log 75 DESIGN CHOICE] -/
def State.undriven (s : State) (die p : Nat) (ext : Option Bool) (t : DWord) : Bool :=
  match ext, s.padPull die p t with
  | some l, _ => l
  | none, 1 => true
  | none, 2 => false
  | none, _ => Config.openPad (die * 240 + p) t

/-- The level outside drives at DT `x` of this tick or shortly before. -/
def Tio.outsideAt (u : Tio) (x : DWord) : Option Bool :=
  match (u.edges.filter (fun e => decide (e.1 ≤ x))).getLast? with
  | some e => some e.2
  | none => if u.edges = [] then u.ext else u.ext0

/-- The level at a pad at DT `t`: driven, else as the outside drives it, else as the pull holds it (R153, R157). -/
def State.padWire (s : State) (die p : Nat) (t : DWord) : Bool :=
  let (lv, oe) := s.padDrive die p t
  if oe then lv else s.undriven die p ((s.unit die p).outsideAt t) t

/-- The level of a differential receiver on pins `p` and `p` + 1; with both alike the specification states none, a free value (R146).
[Log 179 DESIGN CHOICE] -/
def State.diffLevel (s : State) (die p : Nat) (t : DWord) : Bool :=
  let a := s.padWire die p t
  if a != s.padWire die (p + 1) t then a else Config.openPad (die * 240 + p) t

/-- The pad level through the receiver at DT `t` (R146, R153, R157). -/
def State.padLevel (s : State) (die p : Nat) (t : DWord) : Bool :=
  if s.receiverOffAt die p t then false
  else match s.padPhase die p t with
    | .fn 7 sel => if s.ruler die p t = p ∧ ¬ s.drives die p 7 sel then s.diffLevel die p t else s.padWire die p t
    | _ => s.padWire die p t

/-- The last pad-control edge, at which readback samples the pads (R160). -/
def State.padSample (s : State) : DWord := BitVec.ofNat 64 (s.now.toNat / 64 * 64)

/-- PAD_IN.lvl at pad DT `t`: the receiver's level, or the output latch where the receiver is off (R160). -/
def State.padIn (s : State) (die p : Nat) (t : DWord) : Bool :=
  if s.receiverOffAt die p t then (s.padDrive die p t).1 else s.padLevel die p t

/-- The level that the home Region's pin port takes: that of the pad while FABRIC has it, else PAD_CFG.`fdef` (R143, R144). -/
def State.pinPortIn (s : State) (die p : Nat) (t : DWord) : Bool :=
  match s.padPhase die p t with
  | .fn 0 _ => if s.pstate die p t = 0 ∧ ¬ s.receiverOffAt die p t then s.padLevel die p t else s.bit (Reg.PAD_CFG die p) 8
  | _ => s.bit (Reg.PAD_CFG die p) 8

/-- ANALOG has the pad of local pin `p` at pad DT `t`. -/
def State.analogAt (s : State) (die p : Nat) (t : DWord) : Bool := match s.padPhase die p t with | .fn 3 _ => true | _ => false

/-- The pin of a bank joined to its analogue bus: the lowest-numbered in ANALOG (R158). -/
def State.anaPin (s : State) (die bank : Nat) : Option Nat := (List.range 24).find? (fun j => s.analogAt die (bank * 24 + j) s.now)

/-- A pin that enters ANALOG at pad DT `x` while another pin of its bank is in ANALOG sets `ana_conf` (R158). -/
def State.judgeAnalog (s : State) (die : Nat) (x : DWord) : State :=
  let pins := ((s.pins.pads.filter (fun e => e.1 / 240 == die)).map (fun e => e.1 % 240)).filter (fun p => s.analogAt die p x)
  if pins.any (fun p => !s.analogAt die p (x - 1) && pins.any (fun q => q != p && q / 24 == p / 24)) then
    s.flagErr (Reg.PAD_STAT die) 2 3 (errCode 5 1)
  else s

/-! ## Changeover (R154 to R156) -/

/-- Start the changeover to a function at the pad-control edge `e`. [Log 238 DEDUCED] -/
def State.beginSwitch (s : State) (die p func sel : Nat) (e : DWord) : State :=
  let q := s.pad die p
  let (f0, s0) := q.newest p
  s.setPad die p { q with phases := (e + 128, .fn func sel) :: (e, .leave f0 s0 e (s.drives die p func sel)) :: q.live s.padHorizon }

/-- A switch reaches a pin: it begins at edge `e`, or waits behind the changeover in progress and replaces a waiting one (R156). -/
def State.switchPad (s : State) (die p func sel : Nat) (e : DWord) : State :=
  let q := s.pad die p
  let (f, bad) := funcOf p func
  let s := if bad then s.flagErrAt (Reg.PAD_STAT die) 0 3 (errCode 5 1) p else s
  if q.busy s.now then
    (s.setPad die p { q with wait := some (f, sel) }).flagIf q.wait.isSome (Reg.PAD_STAT die) 3
  else if q.newest p = (f, sel) then s
  else s.beginSwitch die p f sel e

/-- The third edge of a changeover: the new function has the pad, and a waiting switch starts, with that function's level held (R154, R156).
[Log 238 DEDUCED] -/
def State.settlePad (s : State) (die p : Nat) : State :=
  let q := s.pad die p
  if q.busy s.now then s
  else match q.wait, q.phases with
    | some (f, sel), (e, _) :: _ =>
      let s := s.setPad die p { q with wait := none }
      if q.newest p = (f, sel) then s else s.beginSwitch die p f sel e
    | _, _ => s

/-- A pad leaves a sleep or safe state: the state's level and pull are held through a changeover (R164); at once where DT does not run, and no
pad-control edge comes (R145). [Log 184 DEDUCED] -/
def State.leaveState (s : State) (die p : Nat) (lv oe : Bool) (pull : Nat) : State :=
  let q := s.pad die p
  if s.clk.por || !s.spine.run then s.setPad die p { q with hold := none }
  else
    let (f, sel) := q.newest p
    s.setPad die p { q with hold := none, phases := (edgeAfter s.now + 128, .fn f sel) :: (placedAt s.now, .held lv oe pull) :: q.live s.padHorizon }

/-- A pad on its way into function SAFE, or into FABRIC over a Region without power, keeps the level that the changeover holds at pad
DT `x`, which code HOLD goes on driving (R154, R161). -/
def State.holdEntering (s : State) (die : Nat) (x : DWord) : State :=
  (s.pins.pads.filter (fun e => e.1 / 240 == die)).foldl (fun s e =>
    let p := e.1 % 240
    match (e.2.newest p).1, s.padPhase die p x with
    | 15, .leave _ _ _ _ | 0, .leave _ _ _ _ => s.setPad die p { e.2 with hold := some (s.padDrive die p x) }
    | _, _ => s) s

/-- Change what decides the safe and sleep states, and carry every pad of the dies given over the change: HOLD takes the
level driven at entry, and an exit passes through the changeover (R161 to R164). [Log 185 DEDUCED] -/
def State.withStates (s : State) (dies : List Nat) (f : State → State) : State :=
  let s' := f s
  dies.foldl (fun acc die =>
    (List.range 240).foldl (fun acc p =>
      let was := s.pstate die p s.now
      let is_ := s'.pstate die p s.now
      if was == is_ || (decide (was < 2) && decide (is_ < 2)) then acc
      else
        let (lv, oe) := s.padDrive die p s.now
        if 2 ≤ is_ then acc.setPad die p { acc.pad die p with hold := some (lv, oe) }
        else acc.leaveState die p lv oe (s.padPull die p s.now)) acc) s'

/-- Change the causes of the safe state (R163). -/
def State.setSafe (s : State) (f : SafeCauses → SafeCauses) : State :=
  s.withStates [0, 1, 2, 3] (fun s => { s with pins := { s.pins with safe := f s.pins.safe } })

/-- Change the TAP's instruction or the session; pads that a boundary instruction leaves pass through the changeover (R529, R535). -/
def State.withBoundary (s : State) (f : State → State) : State :=
  let s' := f s
  if s.boundaryPads.isSome && s'.boundaryPads.isNone then
    [0, 1, 2, 3].foldl (fun acc die => (List.range 240).foldl (fun acc p =>
      let (lv, oe) := s.padDrive die p s.now
      acc.leaveState die p lv oe (s.padPull die p s.now)) acc) s'
  else s'

/-! ## Crossbar inputs and conflicts (R150 to R153) -/

/-- The crossbar input a pin feeds at DT `t`: through XBAR_IN, PHASE_IN or DEBUG as an input (R144, R150). -/
def State.feeds (s : State) (die p code : Nat) (t : DWord) : Bool :=
  let w := s.rd (Reg.XBAR_IN die p)
  let f := s.padPhase die p t
  if 0x90 ≤ code ∧ code < 0xA0 then f == .fn 4 (code - 0x90) && s.pstate die p t == 0
  else if 0xA0 ≤ code ∧ code < 0xB0 then f == .fn 6 (code - 0xA0) && !s.bit (Reg.DBG_XTRIG (code - 0xA0)) 0 && s.pstate die p t == 0
  else wbit w 15 && wfld w 0 9 == code && decide (code ≤ 0x82)

/-- Local pins of a die that may feed a crossbar input: those with a register or a switch of their own. -/
def State.feederPins (s : State) (die : Nat) : List Nat :=
  (List.range 240).filter (fun p => s.csr.any (fun e => e.1 == Reg.XBAR_IN die p) || s.pins.pads.any (fun e => e.1 == die * 240 + p))

/-- The default of a crossbar input (R150). -/
def State.inputDefault (s : State) (die code : Nat) : Bool :=
  if code < 0x80 then s.bit (Reg.XBAR_DEF die (code / 32)) (code % 32) else 0x80 ≤ code && code ≤ 0x82

/-- The pin that feeds a crossbar input alone, as judged at the last pad-control edge (R153). -/
def State.feeder (s : State) (die code : Nat) : Option Nat := s.pins.fed.get (512 * die + code) none

/-- The level of a crossbar input: that of its only feeder, else its default (R144, R150, R152). -/
def State.inputLevel (s : State) (die code : Nat) : Bool :=
  match s.feeder die code with
  | some p => if s.receiverOff die p then s.inputDefault die code else s.padLevel die p s.now
  | none => s.inputDefault die code

/-- A hub service input: the AND of the four dies, a lost die giving 1 (R151). -/
def State.hubInput (s : State) (code : Nat) : Bool :=
  [0, 1, 2, 3].all (fun die => s.dieLost die || s.inputLevel die code)

/-- A hub service input is routed: on some die in service a pin feeds it (R150, R151). -/
def State.hubRouted (s : State) (code : Nat) : Bool :=
  [0, 1, 2, 3].any (fun die => !s.dieLost die && (s.feeder die code).isSome)

/-- The pins that feed each fed input of a die at the pad-control edge `x`, lowest first. [Log 77 DEDUCED] -/
def State.feeding (s : State) (die : Nat) (x : DWord) : List (Nat × List Nat) :=
  let pins := s.feederPins die
  if pins = [] then [] else
  (List.range 0xB0).filterMap (fun code =>
    let l := pins.filter (fun p => s.feeds die p code x)
    if l = [] then none else some (code, l))

/-- Judge the crossbar inputs of a die at the pad-control edge `x`: who feeds each, and conflicts. A conflict that begins at the edge
sets `conflict`, and is recorded where `conflict` was clear (R152, R153). -/
def State.judgeXbar (s : State) (die : Nat) (x : DWord) : State :=
  let table := s.feeding die x
  let conf := table.filter (fun e => decide (2 ≤ e.2.length))
  let old := s.pins.conf.get die []
  let fed := table.foldl (fun (m : SMap (Option Nat)) e => match e.2 with
    | [p] => m.set (512 * die + e.1) (some p) none
    | _ => m) (s.pins.fed.keep (fun k => k / 512 != die))
  let s := { s with pins := { s.pins with fed := fed, conf := s.pins.conf.set die (conf.map (·.1)) [] } }
  let key := Reg.XBAR_STAT die
  let s := if s.bit key 1 == !conf.isEmpty then s else s.setBit key 1 (!conf.isEmpty)
  match conf.find? (fun e => !old.contains e.1) with
  | some (code, a :: b :: _) =>
    if s.bit key 0 then s
    else ((s.flag key 0).wr (Reg.XBAR_CONF die) (BitVec.ofNat 32 (code + a * 2 ^ 16 + b * 2 ^ 24))).raise 3 (errCode 5 3) die 0x07 240
  | _ => s

/-- At the pad-control edge `x`, phase input lines that another pin or none feeds from now on: the level is that pin's, or the default
0, and the change is no edge (R144, R150). [Log 77 DEDUCED] -/
def State.judgePhi (s : State) (die : Nat) (x : DWord) : State :=
  (List.range 16).foldl (fun s n =>
    let cur := match s.feeder die (0x90 + n) with
      | some p => if s.receiverOffAt die p x then none else some p
      | none => none
    let k := 16 * die + n
    if s.pins.phiPin.get k none = cur then s
    else
      let lv := match cur with | some p => s.padLevel die p x | none => false
      let l := ((s.spine.phi.get k {}).put x lv true).1
      let s := { s with pins := { s.pins with phiPin := s.pins.phiPin.set k cur none }, spine := { s.spine with phi := s.spine.phi.set k l {} } }
      (List.range 16).foldl (fun s i => if wfld (s.rd (Reg.DOM_INPUT i)) 0 2 = die then s.syncLines i else s) s) s

/-! ## Writes -/

/-- A write of an RWL register of a locked pin: recorded once as E_LOCKED where it would change it, and left as it is (R7, R167). -/
def State.lockedWrite (s : State) (key : Nat) (differs : Bool) : State :=
  if differs then s.raise 3 0x0002 (keyDie key) (keyUnit key) (keyInst key) else s

/-- A write of PAD_FUNC (R155, R167). -/
def State.padFuncWrite (s : State) (die p : Nat) (w : Word) : State :=
  let key := Reg.PAD_FUNC die p
  let w' := BitVec.ofNat 32 (w.toNat % 256)
  if (s.pad die p).lock.isSome then s.lockedWrite key (w' != s.rd key)
  else
    let e := edgeAfter s.now
    let s := (s.wr key w').switchPad die p (wfld w 0 4) (wfld w 4 4) e
    -- kept beside, for a PAD_SWITCH at the same edge (R156)
    let q := s.pad die p
    s.setPad die p { q with asked := if q.wait.isSome then none else some (e, (funcOf p (wfld w 0 4)).1, wfld w 4 4) }

/-- A write of XBAR_SRC (R147, R149). -/
def State.xbarSrcWrite (s : State) (die p : Nat) (w : Word) : State :=
  let key := Reg.XBAR_SRC die p
  let c := wfld w 0 9
  if (s.pad die p).lock.isSome then s.lockedWrite key (c != s.fld key 0 9)
  else
    let s := s.wr key (BitVec.ofNat 32 c)
    let s := if 0x1A8 ≤ c ∧ c ≤ 0x1AF then s.flagErrAt (Reg.XBAR_STAT die) 2 3 (errCode 5 2) p else s
    let q := s.pad die p
    s.setPad die p { q with srcs := ((edgeAfter s.now, c) :: q.srcs.filter (fun e => e.1 != edgeAfter s.now)).take 8 }

/-- A write of XBAR_IN (R150). -/
def State.xbarInWrite (s : State) (die p : Nat) (w : Word) : State :=
  let key := Reg.XBAR_IN die p
  let w' := BitVec.ofNat 32 (wfld w 0 9 + b2n (wbit w 15) * 2 ^ 15)
  if (s.pad die p).lock.isSome then s.lockedWrite key (w' != s.rd key)
  else
    let s := s.wr key w'
    if 0x82 < wfld w 0 9 then s.flagErrAt (Reg.XBAR_STAT die) 2 3 (errCode 5 2) p else s

/-- A write of PAD_CFG (R157, R161, R167): reserved codes set cfg_err. [Log 74 DEDUCED] -/
def State.padCfgWrite (s : State) (die p : Nat) (w : Word) : State :=
  let key := Reg.PAD_CFG die p
  let w' := BitVec.ofNat 32 (w.toNat % 2 ^ 15)
  if (s.pad die p).lock.isSome then s.lockedWrite key (w' != s.rd key)
  else
    let bad := wfld w 2 2 = 3 || 6 ≤ wfld w 9 3 || 6 ≤ wfld w 12 3
    let s := s.wr key w'
    if bad then s.flagErrAt (Reg.PAD_STAT die) 0 3 (errCode 5 1) p else s

/-! ## Lock sequence (R165 to R167) -/

def State.lockSeq (s : State) (die : Nat) : Option (Nat × Nat × Nat) := s.pins.lockSeq.get die none
def State.setLockSeq (s : State) (die : Nat) (x : Option (Nat × Nat × Nat)) : State :=
  { s with pins := { s.pins with lockSeq := s.pins.lockSeq.set die x none } }

/-- Abort the sequence of a die (R166). -/
def State.abortLock (s : State) (die : Nat) : State :=
  let s := (s.setLockSeq die none).flag (Reg.PAD_LOCK die) 10
  s.flagErr (Reg.PAD_STAT die) 1 3 (errCode 5 4)

/-- An access of a requester to the die's PAD or XBAR registers: another requester's sequence aborts (R166). -/
def State.interfere (s : State) (die req : Nat) : State :=
  match s.lockSeq die with
  | some (r, _, _) => if r = req then s else s.abortLock die
  | none => s

/-- A write of PAD_LOCK: step 1 starts or restarts, step 2 continues, anything else aborts a sequence in progress (R165).
`pin` goes on reading the pin of the last sequence. -/
def State.lockWrite (s : State) (die req pin tag : Nat) : State :=
  let s := s.interfere die req
  if tag = 0x4C then (s.setFld (Reg.PAD_LOCK die) 0 8 pin).setLockSeq die (some (req, pin, 1))
  else match s.lockSeq die with
    | some (r, p, 1) => if tag = 0xB3 ∧ p = pin then s.setLockSeq die (some (r, p, 2)) else s.abortLock die
    | some _ => s.abortLock die
    | none => s

/-- A read of PAD_LOCK by a requester: step 3 takes the lock and copies the set-up (R165, R167). -/
def State.lockRead (s : State) (die req : Nat) : State × Word :=
  let s := s.interfere die req
  let s := match s.lockSeq die with
    | some (_, p, 2) =>
      let s := s.setLockSeq die none
      if 240 ≤ p then s else
      let q := s.pad die p
      if q.lock.isSome then s
      else s.setPad die p { q with lock := some [s.rd (Reg.PAD_FUNC die p), s.rd (Reg.PAD_CFG die p), s.rd (Reg.XBAR_SRC die p), s.rd (Reg.XBAR_IN die p)] }
    | _ => s
  let w := s.rd (Reg.PAD_LOCK die)
  let w := wsetBit w 8 (decide (wfld w 0 8 < 240) && (s.pad die (wfld w 0 8)).lock.isSome)
  (s, wsetBit w 9 (s.lockSeq die).isSome)

/-! ## Snapshot and system monitor (R159, R160) -/

/-- The eight words of a level snapshot of a die at the last pad-control edge (R160). -/
def State.snapshot (s : State) (die : Nat) : List Word :=
  (List.range 8).map (fun w => BitVec.ofNat 32 ((List.range 32).foldl (fun acc b =>
    acc + (if 32 * w + b < 240 ∧ s.padIn die (32 * w + b) s.padSample then 2 ^ b else 0)) 0))

/-- The next channel the system monitor converts: the first enabled and joined one from `k` on, round-robin (R159). -/
def State.adcChannel (s : State) (die k : Nat) : Option Nat :=
  ((List.range 10).map (fun j => (k + j) % 10)).find? (fun n => s.bit (Reg.ADC_CTL die) n && (s.anaPin die n).isSome)

/-- One conversion with result `code` (R159). -/
def State.adcConvert (s : State) (die code : Nat) : State :=
  match s.adcChannel die (s.pins.adcNext.get die 0) with
  | none => s
  | some n =>
    let (sum, cnt) := s.pins.adcSum.get (die * 10 + n) (0, 0)
    let sum := sum + code % 4096
    let cnt := cnt + 1
    let total := 2 ^ s.fld (Reg.ADC_CTL die) 10 3
    let pins := { s.pins with adcNext := s.pins.adcNext.set die ((n + 1) % 10) 0 }
    if total ≤ cnt then
      { s with pins := { pins with adcSum := pins.adcSum.set (die * 10 + n) (0, 0) (0, 0) } }.wr (Reg.ADC_DATA die n)
        (BitVec.ofNat 32 (sum / total + 2 ^ 16))
    else { s with pins := { pins with adcSum := pins.adcSum.set (die * 10 + n) (sum, cnt) (0, 0) } }

/-- A write of ADC_CTL: another `avg` starts the averages of the die anew (R159). [Log 183 DESIGN CHOICE] -/
def State.adcCtlWrite (s : State) (die : Nat) (w : Word) : State :=
  let key := Reg.ADC_CTL die
  let t := s.wr key (w &&& 0x1FFF)
  if wfld w 10 3 = s.fld key 10 3 then t
  else { t with pins := { t.pins with adcSum := t.pins.adcSum.keep (fun k => k / 10 != die) } }

/-! ## Supplies (R157) -/

/-- The range of the VCCIO level that PAD_BANK.vccio declares, in mV (R157, R561). -/
def vccioRange (code : Nat) : Nat × Nat :=
  match code with
  | 0 => (900, 1100)
  | 1 => (1140, 1260)
  | 2 => (1425, 1575)
  | _ => (1710, 1890)

/-- The system monitor sets `vmis` when a present supply lies outside the declared level's tolerance (R157). -/
def State.judgeVccio (s : State) (die bank : Nat) : State :=
  let r := vccioRange (s.fld (Reg.PAD_BANK die bank) 0 2)
  let mv := s.pins.vccio.get (die * 10 + bank) 0
  if !s.pins.vok.get (die * 10 + bank) false || (decide (r.1 ≤ mv) && decide (mv ≤ r.2)) then s
  else s.flagErr (Reg.PAD_BANK die bank) 4 3 (errCode 5 5)

/-- A fabric bypass output changes: sampled 2 to 4 pad-control clocks later and at the pad 3 clocks after that; which of
the clocks is left open, a free choice (R149). [Log 73 DESIGN CHOICE] -/
def State.bypassOutput (s : State) (die line : Nat) (level : Bool) : State :=
  let j := s.freeNat 64 % 3
  let last := s.tickEnd + 448
  let e := edgeFrom (s.tickEnd + 320) + BitVec.ofNat 64 (64 * j)
  let e := if last < e then e - 64 else e
  let l := ((s.pins.fbo.get (die * 128 + line) {}).put (e - 640) level true).1
  ({ s with pins := { s.pins with fbo := s.pins.fbo.set (die * 128 + line) l {} } }).drawn

end Sys2Proof.Machine
end

