-- ==== Sys2Proof/Machine/Dies.lean ====
section
/-!
DEFINITION. The dies and the links between them: capability exchange, module states, routes, die loss (R15 to R23, R41 to R43, R303, R304).
-/
namespace Sys2Proof.Machine

/-! ## Modules (R16, R22, R326) -/

/-- The two dies a module joins, lower first. -/
def moduleEnds2 (m : Nat) : Nat × Nat :=
  if m < 2 then (0, 1) else if m < 4 then (2, 3) else if m < 6 then (0, 2) else if m < 8 then (1, 3)
  else if m < 11 then (2, 4) else if m < 14 then (3, 4) else (4, 5)

/-- The other end of a module. -/
def peerOf (m die : Nat) : Nat := let (a, b) := moduleEnds2 m; if die = a then b else a

/-- The modules of a die. -/
def modulesOf (die : Nat) : List Nat := (List.range 15).filter (fun m => (moduleEnds2 m).1 == die || (moduleEnds2 m).2 == die)

/-- A die has an end of a module. -/
def hasModule (die m : Nat) : Bool := decide (m < 15) && ((moduleEnds2 m).1 == die || (moduleEnds2 m).2 == die)

/-- State code of a module at one end (R22). -/
def State.modState (s : State) (die m : Nat) : Nat := s.fld (Reg.D2D_STAT die m) 0 4

/-- Quarters of a module that carry crossing lanes (R17). -/
def State.crossing (s : State) (m : Nat) : Nat :=
  match s.boot.header with
  | some h => if m < 8 then h.split / 16 ^ m % 16 else 0
  | none => 0

/-- Set the state of one end; UP brings the network quarters up (R326). -/
def State.setModState (s : State) (die m st : Nat) : State :=
  let xl := s.crossing m
  ((s.setFld (Reg.D2D_STAT die m) 0 4 st).setFld (Reg.D2D_STAT die m) 4 4 (if st = 0 then 15 - xl else 0)).setFld (Reg.D2D_STAT die m) 8 4 xl

/-- The crossing groups of a module that is not UP present their defaults with xl_valid = 0; UP brings them back (R307). -/
def State.crossingValid (s : State) (die m : Nat) : State :=
  let bad := s.modState die m != 0
  (List.range 4).foldl (fun s k => if (s.crossing m).testBit k then { s with net := { s.net with xlBad := s.net.xlBad.set ((4 * m + k) * 8 + die) bad false } } else s) s

/-- Period in dtu of the clock of a lane group: SCK500, SCK250, SCK125 or SCK62 (R306, R194). -/
def lanePeriod (m quarter g from_ : Nat) : Nat := 32 * 2 ^ (Config.laneClock (32 * (4 * m + quarter) + g) from_ % 4)

/-- A crossing-lane flit arrives at one side of a module, with what its groups sampled at DT `x` (R306): with a failed CRC its groups
present their defaults (R307), and so do those whose source Region is behind its isolation cells. -/
def State.crossingFlit (s : State) (die from_ m quarter : Nat) (f : Flit) : State :=
  let k := (4 * m + quarter) * 8 + die
  let sent (g : Nat) : BitVec 32 :=
    let n := 32 * (4 * m + quarter) + g
    let rg := Config.laneSource n from_ % 16
    if (s.region from_ rg).reset || s.reconfiguring from_ rg || s.fabric.restoring.get (16 * from_ + rg) false then Config.laneDefault n from_ else f.words.getD g 0
  let y : LaneFlit := { at_ := f.x, words := (List.range 32).map sent, failed := f.failed }
  let t := { s with net := { s.net with xlBad := s.net.xlBad.set k f.failed false, flits := s.net.flits.set k ((y :: s.net.flits.get k []).take 32) [] } }
  if f.failed then (t.count (Reg.D2D_XLERR die m) 1).flagErr (Reg.D2D_EVT die m) 2 3 (errCode 10 9) else t

/-- What a lane group presents to its destination Region at DT `t`, and its `xl_valid` (R306, R307): the newest sample taken at a rising
edge of its clock, 20 ns and two cycles later; the defaults where its flit failed or the module is not UP. [Log 203 DESIGN CHOICE] -/
def State.laneOut (s : State) (die from_ m quarter g : Nat) (t : DWord) : BitVec 32 × Bool :=
  let n := 32 * (4 * m + quarter) + g
  let p := lanePeriod m quarter g from_
  let due := (s.net.flits.get ((4 * m + quarter) * 8 + die) []).filter (fun f => f.at_.toNat % p == 0 && decide (f.at_.toNat + 320 + 2 * p ≤ t.toNat))
  match due with
  | f :: _ => if f.failed || s.fld (Reg.D2D_STAT die m) 0 4 != 0 then (Config.laneDefault n from_, false) else (f.words.getD g 0, true)
  | [] => (Config.laneDefault n from_, false)

/-! ## Routes (R303, R42) -/

/-- The link between two dies has a network quarter UP at both ends. -/
def State.linkOk (s : State) (a b : Nat) : Bool :=
  (List.range 15).any (fun m => (moduleEnds2 m == (a, b) || moduleEnds2 m == (b, a)) && s.fld (Reg.D2D_STAT a m) 4 4 != 0 && s.fld (Reg.D2D_STAT b m) 4 4 != 0)

/-- Every link of a path from die `a` over the dies `l` is up. -/
def State.pathOk (s : State) (a : Nat) : List Nat → Bool
  | [] => true
  | b :: t => s.linkOk a b && s.pathOk b t

/-- A die's primary copy of the spine reaches it: HD to FD2 and FD3, which forward it to FD0 and FD1 (R18). [Log 206 DEDUCED] -/
def State.spinePrimary (s : State) (die : Nat) : Bool := if die < 2 then s.linkOk 4 (die + 2) && s.linkOk (die + 2) die else s.linkOk 4 die

/-- Its secondary copy, through its other fabric neighbour, reaches it (R18). [Log 206 DEDUCED] -/
def State.spineSecondary (s : State) (die : Nat) : Bool :=
  match die with
  | 0 => s.linkOk 4 3 && s.linkOk 3 1 && s.linkOk 1 0
  | 1 => s.linkOk 4 2 && s.linkOk 2 0 && s.linkOk 0 1
  | 2 => s.linkOk 4 3 && s.linkOk 3 2
  | _ => s.linkOk 4 2 && s.linkOk 2 3

/-- Primary and failover paths from one die to another, the destination last (R303). -/
def paths (a b : Nat) : List Nat × List Nat :=
  match a, b with
  | 0, 1 => ([1], [2, 3, 1])
  | 0, 2 => ([2], [1, 3, 2])
  | 0, 3 => ([2, 3], [1, 3])
  | 0, 4 => ([2, 4], [1, 3, 4])
  | 1, 0 => ([0], [3, 2, 0])
  | 1, 2 => ([3, 2], [0, 2])
  | 1, 3 => ([3], [0, 2, 3])
  | 1, 4 => ([3, 4], [0, 2, 4])
  | 2, 0 => ([0], [3, 1, 0])
  | 2, 1 => ([3, 1], [0, 1])
  | 2, 3 => ([3], [0, 1, 3])
  | 2, 4 => ([4], [3, 4])
  | 3, 0 => ([2, 0], [1, 0])
  | 3, 1 => ([1], [2, 0, 1])
  | 3, 2 => ([2], [1, 0, 2])
  | 3, 4 => ([4], [2, 4])
  | 4, 0 => ([2, 0], [3, 1, 0])
  | 4, 1 => ([3, 1], [2, 0, 1])
  | 4, 2 => ([2], [3, 2])
  | 4, 3 => ([3], [2, 3])
  | _, _ => ([], [])

/-- A die has a route to another over the states of the modules. -/
def State.reaches (s : State) (a b : Nat) : Bool := a == b || s.pathOk a (paths a b).1 || s.pathOk a (paths a b).2

/-- The failover route in use from a die to another (HN_STAT.fo). -/
def State.onFailover (s : State) (a b : Nat) : Bool := s.net.failover.get (8 * a + b) false

/-- HN_STAT as it reads. -/
def State.hnStatRead (s : State) (die : Nat) : Word :=
  let n := (List.range 5).foldl (fun n b => n + (if s.onFailover die b then 2 ^ b else 0) + (if b != die && !s.reaches die b then 2 ^ (b + 5) else 0)) 0
  BitVec.ofNat 32 (n + b2n (s.bit (Reg.HN_STAT die) 10) * 1024)

/-! ## Flows (R41, R44, R304) -/

/-- The network quarters UP at both ends between two dies, as 4 × module + quarter. -/
def State.upQuarters (s : State) (a b : Nat) : List Nat :=
  (List.range 60).filter (fun n => (moduleEnds2 (n / 4) == (a, b) || moduleEnds2 (n / 4) == (b, a)) && (s.fld (Reg.D2D_STAT a (n / 4)) 4 4).testBit (n % 4) && (s.fld (Reg.D2D_STAT b (n / 4)) 4 4).testBit (n % 4))

/-- The dies of a route without its first: traffic for CD, and from it, goes by HD. -/
def routeOf (fo : Bool) (a b : Nat) : List Nat :=
  let inner (a b : Nat) : List Nat := if a = b then [] else if fo then (paths a b).2 else (paths a b).1
  if a = b then [] else if b = 5 then inner a 4 ++ [5] else if a = 5 then 4 :: inner 4 b else inner a b

/-- A port by a number, for the hash. -/
def portCode : NetPort → Nat
  | .port rg p => 4 * rg + p
  | .queues => 256
  | .unit n => 257 + n

/-- The quarter of each link that carries a flow over a route, chosen by the hash over the quarters UP; none where a link is cut.
[Log 200 DESIGN CHOICE] -/
def State.flowQuarters (s : State) (f : Flow) : Nat → List Nat → Option (List Nat)
  | _, [] => some []
  | a, b :: t =>
    match s.upQuarters a b, s.flowQuarters f b t with
    | [], _ => none
    | _, none => none
    | l, some r => some (l.getD (Config.flowHash (f.src.1, portCode f.src.2) (f.dst.1, portCode f.dst.2) f.chan % l.length) 0 :: r)

/-- The routers a flow passes over a route. -/
def flowPath (die entry last : Nat) : List Nat → List Nat → List (Nat × Nat)
  | b :: t, q :: qs =>
    let out := (moduleRouter die b (q / 4) (q % 4)).getD 0
    dieLeg die entry out ++ flowPath b ((moduleRouter b die (q / 4) (q % 4)).getD 0) last t qs
  | _, _ => dieLeg die entry last

/-- The route and quarters a flow would take now: the primary route if its links are up, else the failover route once the routers
have switched to it. -/
def State.flowChoice (s : State) (f : Flow) : Option (Bool × List Nat) :=
  let a := min f.src.1 4
  let b := min f.dst.1 4
  match s.flowQuarters f f.src.1 (routeOf false f.src.1 f.dst.1) with
  | some q => some (false, q)
  | none => if s.net.failover.get (8 * a + b) false then (s.flowQuarters f f.src.1 (routeOf true f.src.1 f.dst.1)).map (fun q => (true, q)) else none

/-- A flow whose quarters are up stays there while packets on them are unacknowledged; else it takes the route and quarters of now,
and what it holds is sent again before any later packet. [Log 201 DEDUCED] -/
def State.flowSettle (s : State) (x : FlowState) : FlowState :=
  let dies := x.flow.src.1 :: routeOf x.failover x.flow.src.1 x.flow.dst.1
  let whole := x.quarters.length + 1 == dies.length && ((List.range x.quarters.length).all (fun i => (s.upQuarters (dies.getD i 0) (dies.getD (i + 1) 0)).contains (x.quarters.getD i 0)))
  if whole && !x.held.isEmpty then x
  else match s.flowChoice x.flow with
    | some (fo, q) =>
      let last := attachRouter x.flow.dst.1 0 x.flow.dst.2
      let entry := attachRouter x.flow.src.1 last x.flow.src.2
      { x with failover := fo, quarters := q, path := flowPath x.flow.src.1 entry last (routeOf fo x.flow.src.1 x.flow.dst.1) q }
    | none => x

/-- Every flow settles after a change of the links. -/
def State.flowsSettle (s : State) : State := { s with net := { s.net with flows := s.net.flows.map s.flowSettle } }

/-- A pair of dies has a flow with unacknowledged packets on the failover route. -/
def State.flowsAway (s : State) (a b : Nat) : Bool := s.net.flows.any (fun x => min x.flow.src.1 4 == a && min x.flow.dst.1 4 == b && x.failover && !x.held.isEmpty)

/-- Routers take the failover routes where the primary ones are cut (R41, R303). -/
def State.failoverSwitch (s : State) : State :=
  ((List.range 5).foldl (fun s a => (List.range 5).foldl (fun s b =>
    let fo := a != b && ((!s.pathOk a (paths a b).1 && s.pathOk a (paths a b).2) || (s.flowsAway a b && s.onFailover a b))
    { s with net := { s.net with failover := s.net.failover.set (8 * a + b) fo false } }) s) s).flowsSettle

/-- Flows return to primary routes that are up again, each once its packets are acknowledged (R44, R304). [Log 201 DEDUCED] -/
def State.routesBack (s : State) : State :=
  let s := s.flowsSettle
  (List.range 5).foldl (fun s a => (List.range 5).foldl (fun s b =>
    if s.pathOk a (paths a b).1 && !s.flowsAway a b then { s with net := { s.net with failover := s.net.failover.set (8 * a + b) false false } } else s) s) s

/-- A packet of a flow enters the network at its source's die, or arrives at its destination's, which acknowledges the oldest one held
(R301, R304). [Log 201 DEDUCED] -/
def State.flowPacket (s : State) (die : Nat) (f : Flow) : State :=
  let x : FlowState := (s.net.flows.find? (fun y => y.flow == f)).getD { flow := f }
  let put (y : FlowState) : State := { s with net := { s.net with flows := s.net.flows.filter (fun z => z.flow != f) ++ [y] } }
  if die = f.src.1 then
    let y := s.flowSettle x
    put (if f.src.1 = f.dst.1 then y else { y with held := y.held ++ [y.next], next := y.next + 1 })
  else if die = f.dst.1 then (put { x with held := x.held.drop 1 }).routesBack
  else s

/-! ## Capability exchange (R19 to R21) -/

/-- What an end requires of its peer (R21): bits 0 to 4 of `mandatory`. -/
def State.mandatoryMask (s : State) (die m : Nat) : Nat :=
  let peer := peerOf m die
  if die = 5 then 0b1010
  else if die = 4 then (if peer = 5 then 0b1010 else 0b1110)
  else if peer = 4 then 0b1110
  else 0b0101 + (if s.crossing m ≠ 0 then 0b10000 else 0)

def dfld (d : List Byte) (off n : Nat) : Nat := leNat ((d.drop off).take n)
def byteBits (l : List Byte) : List Bool := l.flatMap (fun b => bitsOf b.toNat 8)

/-- CRC-32C over bytes (R14). -/
def crcBytes (l : List Byte) : Nat := crc32c (byteBits l)

/-- What a descriptor advertises, by the bits of `mandatory`. [Log 103 DEDUCED] -/
def advertised (d : List Byte) : Nat :=
  let fmt := dfld d 0x08 2
  b2n (fmt.testBit 1) + b2n (fmt.testBit 2) * 2 + b2n ((dfld d 0x0D 1).testBit 1) * 4 + b2n (dfld d 0x0E 1 % 4 == 3) * 8 + b2n ((dfld d 0x0C 1).testBit 0) * 16

/-- The highest bit set below `n`. -/
def topBit (w : Nat) : Nat → Option Nat
  | 0 => none
  | n + 1 => if w.testBit n then some n else topBit w n

/-- The 64-byte descriptor an end of this stepping sends (R19): every die has every flit format and both tags, and every rate of its
modules; the fabric dies and HD forward the spine, HD is its source; the fabric dies have crossing lanes toward each other.
[Log 103 DEDUCED] -/
def State.descriptor (s : State) (die m : Nat) : List Byte :=
  let type := if die < 4 then 1 else die - 2
  let lanes := if m < 8 then 9 else 0
  let spine := if die < 4 then 3 else if die = 4 then 6 else 0
  let head := leBytes 2 0x4D4C ++ [0x00, 0x01, BitVec.ofNat 8 type, if die < 4 then 2 else 1, BitVec.ofNat 8 die, 0x00] ++ leBytes 2 7 ++ leBytes 2 (if m = 14 then 0x0F else 0x3F)
    ++ [BitVec.ofNat 8 lanes, BitVec.ofNat 8 spine, 0x03, BitVec.ofNat 8 (s.mandatoryMask die m)] ++ leBytes 2 (Config.linkCredits die) ++ leBytes 2 (Config.replayDepth die)
    ++ List.replicate 36 0x00 ++ [0xA1, 0x00, 0x00, 0x00]
  head ++ leBytes 4 (crcBytes head)

/-- An end enters a DOWN state: its flows move, its groups take their defaults, the change is recorded (R22, R304, R307, R324).
[Log 102 DEDUCED] -/
def State.moduleDown (s : State) (die m st : Nat) : State :=
  if 2 ≤ s.modState die m then s.setModState die m st
  else
    let s := ((s.setModState die m st).crossingValid die m).flag (Reg.D2D_EVT die m) 0
    let s := s.setBit (Reg.D2D_CTL die m) 1 false
    ((s.raise 5 (errCode 10 8) die 0x0C m).raise 5 0x000E die 0x0C m).flowsSettle

/-! ## Die loss (R41 to R43) -/

/-- The die of an address that a queue moves data from or to. -/
def State.endDie (_ : State) (home type a : Nat) : Option Nat :=
  match endpointOf home type a with
  | .regionPort rg _ => some (rg / 16)
  | .facetBank lg _ => some (lg / 256)
  | .remote d => some d
  | _ => none

/-- Whether a queue of another die has an end on a die. [Log 106 DEDUCED] -/
def State.queueEnds (s : State) (die q : Nat) (x : Queue) : Bool :=
  homeOf q != die && (x.open_.any (fun o => s.endDie (homeOf q) (s.qtype q) o.desc.dst == some die || s.endDie (homeOf q) (s.qtype q) o.desc.src == some die)
    || x.cells.any (fun c => s.endDie (homeOf q) (s.qtype q) c.dst == some die)
    || (s.qstream q && s.endDie (homeOf q) (s.qtype q) (s.qbase q) == some die))

/-- Queues with an end on a lost die (R41, R322). -/
def State.diePeersLost (s : State) (die : Nat) : State := s.peersLost 9 (s.queueEnds die)

/-- A fabric die is lost (R41): its pins go safe, its queues stop with it, its ports lose their lanes, the loss is recorded. -/
def State.loseDie (s : State) (die : Nat) : State :=
  if 4 ≤ die ∨ s.dieState die = 1 ∨ s.dieState die = 2 ∨ s.dieState die = 4 then s
  else
    let s := (s.setDie die 1).withStates [die] (fun s => { s with pins := { s.pins with safe := { s.pins.safe with die := s.pins.safe.die.set die true false } } })
    let s := s.portsOfLostDie die
    let s := { s with live := { s.live with ports := s.live.ports.set die [] [] } }
    -- its purse lapses and its jobs are abandoned (R296)
    let s := { s with power := { s.power with
      share := s.power.share.set die 0 0, credit := s.power.credit.set die 0 0, jobs := s.power.jobs.keep (fun k => k % 8 != die) } }
    (s.flag Reg.DIE_DEVT die).raise 5 0x0003 die 0x00 0

/-- Dies in service that have no module UP to any die, or no route to HD, are lost (R41, R42); none is in CLOCK_HOLD (R423).
[Log 234 DEDUCED] -/
def State.loseCutOff (s : State) : State :=
  if s.clk.hold then s else
  (List.range 4).foldl (fun s d =>
    if s.dieLost d then s
    else if (modulesOf d).all (fun m => decide (2 ≤ s.modState d m)) || (s.boot.ready.get d false && !s.reaches 4 d) then s.loseDie d else s) s

/-- Every module to a fabric die or CD is held down at its peers: the die is isolated at start-up (R20, R23). -/
def State.checkIsolated (s : State) (die : Nat) : State :=
  if die = 4 ∨ s.userMode ∨ s.dieState die ≠ 0 ∨ s.boot.ready.get die false then s
  else if (modulesOf die).all (fun m => let st := max (s.modState die m) (s.modState (peerOf m die) m); decide (2 ≤ st ∧ st ≤ 5)) then s.setDie die 4
  else s

/-- What follows a module that has left UP or failed to reach it: a die isolated at start-up, a die in service lost with its route to HD,
queues with an end there (R20, R22, R41, R42). [Log 205 DEDUCED] -/
def State.cutsJudged (s : State) (m : Nat) : State :=
  let (a, b) := moduleEnds2 m
  let s := ((s.checkIsolated a).checkIsolated b).loseCutOff
  (List.range 4).foldl (fun s d => if s.dieLost d then s.diePeersLost d else s) s

/-- A 64-byte capability descriptor arrives at an end (R20). [Log 103 DEDUCED, 104 DEDUCED] -/
def State.capability (s : State) (die m : Nat) (d : List Byte) : State :=
  if !hasModule die m || s.modState die m != 1 then s
  else
    let key := 8 * m + die
    let own := s.descriptor die m
    let down (s : State) (st : Nat) : State := (s.moduleDown die m st).cutsJudged m
    if crcBytes (d.take 60) ≠ dfld d 0x3C 4 ∨ dfld d 0x00 2 ≠ 0x4D4C then
      let n := s.net.descFails.get key 0 + 1
      if n < 4 then { s with net := { s.net with descFails := s.net.descFails.set key n 0 } }
      else down { s with net := { s.net with descFails := s.net.descFails.set key 0 0 } } 3
    else
      let s := { s with net := { s.net with descFails := s.net.descFails.set key 0 0 } }
      let s := (List.range 16).foldl (fun s w => s.wr (Reg.D2D_PEERDESC die m w) (BitVec.ofNat 32 (dfld d (4 * w) 4))) s
      let st := Reg.D2D_STAT die m
      let s := (s.setFld st 17 3 (dfld d 0x06 1)).setFld st 20 8 (dfld d 0x05 1)
      if dfld d 0x03 1 ≠ 1 then down s 4
      else if (s.mandatoryMask die m) &&& advertised d ≠ s.mandatoryMask die m ∨ (dfld d 0x0F 1 % 32) &&& advertised own ≠ dfld d 0x0F 1 % 32 then down s 5
      else
        match topBit (dfld d 0x0A 2 &&& dfld own 0x0A 2) 6, topBit (dfld d 0x08 2 &&& dfld own 0x08 2) 3 with
        | some r, some f =>
          let s := { s with net := { s.net with common := s.net.common.set key (advertised d &&& advertised own) 0 } }
          (s.setFld st 12 3 r).setFld st 15 2 f
        | _, _ => down s 2

/-- Training and parameter exchange of a module complete at both ends (R22, R304, R326). [Log 5 DEDUCED, 205 DEDUCED] -/
def State.moduleUp (s : State) (m : Nat) (late : Bool) : State :=
  let (a, b) := moduleEnds2 m
  if 15 ≤ m ∨ s.modState a m ≠ 1 ∨ s.modState b m ≠ 1 then s
  else
    let s := [a, b].foldl (fun s die =>
      let s := ((s.setModState die m 0).crossingValid die m).flag (Reg.D2D_EVT die m) 1
      let s := s.setBit (Reg.D2D_CTL die m) 1 false
      let s := if late then (s.flag (Reg.D2D_EVT die m) 3).lateArrival die 0x0C m else s
      if die < 4 ∧ s.dieState die = 4 then s.setDie die (if s.userMode then 2 else 0) else s) s
    s.routesBack

/-- Training is not complete within its limit, which stands still in CLOCK_HOLD (R22, R326, R423). [Log 235 DEDUCED] -/
def State.trainingTimeout (s : State) (m : Nat) : State :=
  let (a, b) := moduleEnds2 m
  if s.clk.hold then s else
  let t := [a, b].foldl (fun s die => if m < 15 ∧ s.modState die m = 1 then ((s.moduleDown die m 2).flag (Reg.D2D_EVT die m) 0) else s) s
  if m < 15 ∧ (s.modState a m = 1 ∨ s.modState b m = 1) then t.cutsJudged m else t

/-- An end's module goes back to training, both ends together (R20, R326). -/
def State.moduleRetrain (s : State) (die m : Nat) : State :=
  if !hasModule die m then s
  else
    let s := [die, peerOf m die].foldl (fun s d =>
      let s := (s.setModState d m 1).crossingValid d m
      { s with net := { s.net with descFails := s.net.descFails.set (8 * m + d) 0 0 } }) s
    ((s.setBit (Reg.D2D_CTL die m) 1 true).flowsSettle).cutsJudged m

/-- D2D_CTL written. -/
def State.d2dCtlWrite (s : State) (die m : Nat) (w : Word) : State :=
  let s := s.setBit (Reg.D2D_CTL die m) 0 (wbit w 0)
  if wbit w 1 then s.moduleRetrain die m else s

/-- After a hold the modules train again and keep what they have to replay (R424). [Log 234 DEDUCED] -/
def State.modulesRelock (s : State) : State :=
  (List.range 15).foldl (fun s m =>
    let (a, b) := moduleEnds2 m
    if s.modState a m = 0 ∧ s.modState b m = 0 then [a, b].foldl (fun s d => ((s.setModState d m 1).crossingValid d m).setBit (Reg.D2D_CTL d m) 1 true) s else s) s

/-- Four missed heartbeats: a module is DOWN_LOST at both ends, outside CLOCK_HOLD (R41, R42, R423). [Log 105 DEDUCED] -/
def State.moduleLost (s : State) (m : Nat) : State :=
  if 15 ≤ m ∨ s.clk.hold then s
  else
    let (a, b) := moduleEnds2 m
    let down (s : State) (die : Nat) : State := if s.modState die m = 0 ∧ !s.dieLost die then s.moduleDown die m 6 else if s.dieLost die then s.setModState die m 6 else s
    (down (down s a) b).cutsJudged m

end Sys2Proof.Machine
end

