-- ==== Sys2Proof/Machine/Control.lean ====
section
/-!
DEFINITION. The control die as the device sees it: cores and pairs, mailboxes, boot handover, run control, debug freeze, watchdogs, and
the end of a debug session (R35 to R40, R46, R489, R535 to R540).
-/
namespace Sys2Proof.Machine

/-! ## Mailboxes (R37) -/

def State.box (s : State) (n : Nat) : List Word := s.boxes.get n []
def State.setBox (s : State) (n : Nat) (l : List Word) : State := { s with boxes := s.boxes.set n l [] }

/-- A requester passes the test of a sender or receiver code; a reserved code, 10 to 14, behaves as 15, any agent (R9, R37). -/
def agentMatches (code req : Nat) : Bool := decide (10 ≤ code) || code == req

/-- A push (MBX_PUSH): refused for another sender or a mailbox out of service, discarded when 16 messages are held. -/
def State.mbxPush (s : State) (n req : Nat) (msg : Word) : State × Resp :=
  let ctl := s.rd (Reg.MBX_CTL n)
  if !wbit ctl 31 || !agentMatches (wfld ctl 0 4) req then (s, .refused)
  else if 16 ≤ (s.box n).length then (s.flag (Reg.MBX_STAT n) 8, .ok)
  else (s.setBox n (s.box n ++ [msg]), .ok)

/-- A pop (MBX_POP): refused for another receiver or a mailbox out of service; an empty FIFO gives 0 and sets `unf`. -/
def State.mbxPop (s : State) (n req : Nat) : State × Resp × Word :=
  let ctl := s.rd (Reg.MBX_CTL n)
  if !wbit ctl 31 || !agentMatches (wfld ctl 4 4) req then (s, .refused, 0)
  else match s.box n with
    | [] => (s.flag (Reg.MBX_STAT n) 9, .ok, 0)
    | m :: t => (s.setBox n t, .ok, m)

/-- A write of MBX_CTL; clearing `en` empties the FIFO. -/
def State.mbxCtlWrite (s : State) (n : Nat) (w : Word) : State :=
  let s := s.wr (Reg.MBX_CTL n) (w &&& 0x800003FF)
  if wbit w 31 then s else s.setBox n []

/-- MBX_STAT as it reads. -/
def State.mbxStatRead (s : State) (n : Nat) : Word :=
  let k := (s.box n).length
  BitVec.ofNat 32 (k + b2n (k == 16) * 32 + b2n (k == 0) * 64 + s.fld (Reg.MBX_STAT n) 8 2 * 256)

/-! ## Debug freeze (R233, R538) -/

/-- Facets and queue sets whose freeze follows a halted core take it, or leave it. -/
def State.freezeFollows (s : State) : State :=
  let facets := (s.csr.filter (fun e => keyUnit e.1 == 0x08 && keyOff e.1 == 0)).map (·.1)
  let s := facets.foldl (fun s key =>
    let die := keyDie key
    let p := keyInst key
    s.haltFacet die p (s.facet die p).haltDbg (wbit (s.rd key) 1 && s.classHalted 3)) s
  let sets := (List.range 64).filter (fun j => if j < 32 then s.bit Reg.DBG_QFRZ_LO j else s.bit Reg.DBG_QFRZ_HI (j - 32))
  { s with net := { s.net with frozen := if s.classHalted 6 then sets.map (fun j => (j, true)) else [] } }

/-- Profiles with `halt_en` take their trigger when the core chosen for Loupe has halted (R199). -/
def State.haltTriggers (s : State) : State :=
  [0, 1, 2, 3].foldl (fun s die => (List.range 16).foldl (fun s p =>
    if s.bit (Reg.LP_PROF die p) 27 then (s.loupeTrigger die p 1 s.now).1 else s) s) s

/-! ## Run control (R536, R539, R540) -/

/-- A halt is requested: refused in reset unless `rsthalt` is set; requests in one cycle give one halt. -/
def State.haltRequest (s : State) (i cause : Nat) : State × Resp :=
  let c := s.core i
  match c.run with
  | .reset => (s, if s.bit (Reg.CORE_RC i) 4 then .ok else .refused)
  | .running => (s.setCore i { c with want := if c.want.isSome ∧ cause = 6 then c.want else some cause }, .ok)
  | .halted => (s, .ok)

/-- Period of a watchdog in its units. -/
def State.wdtPeriod (s : State) (i : Nat) : Nat := max (s.fld (Reg.CORE_WDT_CTL i) 4 24) 1

/-- Load a watchdog with its full period. -/
def State.wdtReload (s : State) (i : Nat) : State := s.setFld (Reg.CORE_WDT_STAT i) 0 24 (s.wdtPeriod i)

/-- A core or pair halts with a cause: its watchdog pauses by `frz`, what it freezes freezes, the halt is recorded. -/
def State.coreHalts (s : State) (i cause : Nat) : State :=
  let before := s.classHalted 5
  let s := s.setCore i { (s.core i) with run := .halted, cause := cause, want := none, paused := s.bit (Reg.CORE_WDT_CTL i) 1 }
  let s := (s.raise 1 0x0007 5 0x19 i).freezeFollows
  if !before && s.classHalted 5 then s.haltTriggers else s

/-- A halt that is requested is accepted at an instruction boundary. -/
def State.acceptCoreHalt (s : State) (i : Nat) : State :=
  let c := s.core i
  match c.run, c.want with
  | .running, some cause => s.coreHalts i cause
  | _, _ => s

/-- A halted core or pair resumes; with `step` it runs one instruction and halts again, which is left to CORE_HALT. -/
def State.coreResumes (s : State) (i : Nat) : State :=
  let c := s.core i
  if c.run ≠ .halted then s
  else
    let step := s.bit (Reg.CORE_RC i) 2
    let s := if c.paused then s.wdtReload i else s
    let s := s.setCore i { c with run := .running, want := if step then some 4 else none, steps := step, paused := false, second := c.second && !c.paused }
    (s.raise 1 0x0008 5 0x19 i).freezeFollows

/-- A write of CORE_RC: `step`, `ebrk`, `rsthalt`, and the two requests. -/
def State.coreRcWrite (s : State) (i : Nat) (w : Word) : State × Resp :=
  let s := s.setFld (Reg.CORE_RC i) 2 3 (wfld w 2 3)
  let s := if wbit w 1 then s.coreResumes i else s
  if wbit w 0 then s.haltRequest i 3 else (s, .ok)

/-- CORE_RSTAT as it reads. -/
def State.coreRstatRead (s : State) (i : Nat) : Word :=
  let c := s.core i
  BitVec.ofNat 32 (b2n (c.run == .halted) + b2n (c.run == .running) * 2 + b2n (c.run == .reset) * 4 + c.cause * 8 + b2n (s.bit (Reg.CORE_RSTAT i) 6) * 64)

/-- ebreak (R536): with `ebrk` it halts the core; else it raises the breakpoint exception, mcause 3. -/
def State.ebreak (s : State) (i : Nat) (pc : BitVec 64) : State :=
  let c := s.core i
  if c.run ≠ .running then s
  else if s.bit (Reg.CORE_RC i) 3 then (s.setCore i { c with regs := c.regs.set 0x7B1 pc 0 }).coreHalts i 1
  else s.setCore i { c with priv := 3, regs := ((c.regs.set 0x341 pc 0).set 0x342 3 0) }

/-- A register number of R536: CSRs, GPRs, FPRs. -/
def regnoOk (n : Nat) : Bool := decide (n < 0x1040)

/-- A write of CORE_ACMD with `go` (R536): reads or writes one register of a halted core. [Log 145 DESIGN CHOICE] -/
def State.abstractAccess (s : State) (i : Nat) (w : Word) : State × Resp :=
  let s := s.wr (Reg.CORE_ACMD i) (w &&& 0x3FFFF)
  if !wbit w 31 then (s, .ok)
  else
    let c := s.core i
    let n := wfld w 0 16
    if c.run ≠ .halted then (s.flag (Reg.CORE_RSTAT i) 6, .refused)
    else if !regnoOk n then (s.flag (Reg.CORE_RSTAT i) 6, .ok)
    else
      let old := c.regs.get n 0
      let v := s.rdPair (Reg.CORE_ADATA_LO i) (Reg.CORE_ADATA_HI i)
      let wide := wbit w 17 && decide (i < 4)
      if wbit w 16 then
        let v := if wide then v else joinHalves (if i < 4 then hiHalf old else 0) (loHalf v)
        (s.setCore i { c with regs := if n = 0x1000 then c.regs else c.regs.set n v 0 }, .ok)
      else (s.wrPair (Reg.CORE_ADATA_LO i) (Reg.CORE_ADATA_HI i) (if wide then old else joinHalves 0 (loHalf old)), .ok)

/-- A rising edge on a debug line (R542, R199): cores in the mask of its input halt, profiles on the line trigger. -/
def State.debugLineEdge (s : State) (n : Nat) : State :=
  let w := s.rd (Reg.DBG_XTRIG n)
  let s := if !wbit w 0 && wbit w 8 then (List.range 6).foldl (fun s i => if wbit w (9 + i) then (s.haltRequest i 6).1 else s) s else s
  [0, 1, 2, 3].foldl (fun s die => (List.range 16).foldl (fun s p =>
    let q := s.rd (Reg.LP_PROF die p)
    if wbit q 22 && wfld q 23 4 == n then (s.loupeTrigger die p 1 s.now).1 else s) s) s

/-! ## Watchdogs (R539) -/

/-- A write of CORE_WDT_CTL: its fields are locked by `lock` (R7). -/
def State.wdtCtlWrite (s : State) (i : Nat) (w : Word) : State :=
  let key := Reg.CORE_WDT_CTL i
  if s.bit key 31 then (if wfld w 0 28 = s.fld key 0 28 then s else s.raise 3 0x0002 5 0x19 i)
  else
    let was := s.bit key 0
    let s := s.wr key (w &&& 0x8FFFFFFF)
    if !was && wbit w 0 then (s.wdtReload i).setCore i { (s.core i) with second := false } else s

/-- A write of CORE_WDT_KICK. -/
def State.wdtKick (s : State) (i key : Nat) : State :=
  if key = 0x5A5A then (s.wdtReload i).setCore i { (s.core i) with second := false } else s.flag (Reg.CORE_WDT_STAT i) 25

/-- A watchdog counts, one unit of 1.024 µs (R539). [Log 51 DEDUCED] -/
def State.wdtCount (s : State) (i : Nat) : State :=
  if s.bit (Reg.CORE_WDT_CTL i) 0 && !(s.core i).paused then s.setFld (Reg.CORE_WDT_STAT i) 0 24 (s.fld (Reg.CORE_WDT_STAT i) 0 24 - 1) else s

/-! ## Starting cores (R38, R39) -/

/-- The entry address of a core or pair in the boot descriptor. -/
def State.entryOfCore (s : State) (i : Nat) : Nat :=
  if i < 4 then leNat ((s.boot.desc.drop 8).take 8) else leNat ((s.boot.desc.drop (0x10 + 4 * (i - 4))).take 4)

/-- A core or pair leaves reset at its entry point; with `rsthalt` it halts at its first instruction. [Log 214 DEDUCED] -/
def State.releaseCore (s : State) (i : Nat) : State :=
  let c := s.core i
  if c.run ≠ .reset then s
  else
    let s := s.setCore i { c with run := .running, cause := 0, want := none, priv := 3, regs := c.regs.set 0x7B1 (BitVec.ofNat 64 (s.entryOfCore i)) 0 }
    if s.bit (Reg.CORE_RC i) 4 then s.coreHalts i 5 else s

/-- A write of CC_START. -/
def State.coreStart (s : State) (w : Word) : State := (List.range 6).foldl (fun s i => if wbit w i then s.releaseCore i else s) s

/-- CC_START as it reads: a bit for each running core. [Log 146 DEDUCED] -/
def State.ccStartRead (s : State) : Word := BitVec.ofNat 32 ((List.range 6).foldl (fun n i => n + b2n ((s.core i).run == .running) * 2 ^ i) 0)

/-- A core or pair is held in reset until CC_START (R429). -/
def State.holdCore (s : State) (i : Nat) : State := (s.setCore i { (s.core i) with run := .reset, want := none, cause := 0, steps := false, paused := false, regs := [] }).freezeFollows

/-- A pair's checker disagrees (R35). -/
def State.lockstepFault (s : State) (n : Nat) : State :=
  if 2 ≤ n ∨ (s.core (4 + n)).run = .reset then s
  else ((s.holdCore (4 + n)).flag Reg.CC_STATUS (1 + n)).raise 6 0x000B 5 0x19 (4 + n)

/-! ## Boot handover (R38, R39, R489) -/

/-- Write a segment of a control-die image: to its bank in DDR5, or to a TCM (R448). [Log 147 DEDUCED] -/
def State.placeCd (s : State) (bank : Nat) (g : Segment) : State :=
  let base := match s.boot.header with | some h => h.cdBase + bank * h.cdSize * 524288 | none => 0
  if g.target = 5 then (s.writeBytes (base + g.addr) g.data false (.agent 8)).1 else s

/-- Copy the TCM segments of an image into the pairs' TCMs. -/
def State.placeTcm (s : State) (l : List Segment) : State :=
  (l.filter (fun g => g.target == 6)).foldl (fun s g => s.setBoot (fun b => { b with tcm := (g.data.zipIdx).foldl (fun m e => m.set (g.index % 2 * 262144 + (g.addr + e.2) % 262144) e.1 0) b.tcm })) s

/-- The boot descriptor of the loaded image (R39). The entry point of bank B is the image's own, which the specification does not
place: a free value. [Log 143 DESIGN CHOICE] -/
def State.bootDescriptor (s : State) (h : Header) (bankB : Bool) : List Byte :=
  let app := if bankB then s.freeNat 64 else h.appEntry
  let body := leBytes 4 0x44434C4D ++ leBytes 2 1 ++ leBytes 2 64 ++ leBytes 8 app ++ leBytes 4 h.rt0Entry ++ leBytes 4 h.rt1Entry ++ leBytes 8 h.cdBase ++ leBytes 8 (h.cdSize * 1048576) ++ leBytes 8 h.libBase ++ leBytes 4 h.libSize ++ leBytes 1 (s.fld Reg.CFG_STAT 4 2) ++ leBytes 1 s.sec.lc ++ leBytes 2 0 ++ leBytes 4 h.arb
  body ++ leBytes 4 (crcBytes body)

/-- Bezel writes the boot descriptor, sets CC_BOOTDESC and releases core 0 alone (R38). [Log 214 DEDUCED] -/
def State.handover (s : State) : State :=
  match s.boot.header with
  | none => s
  | some h =>
    let b := s.bit Reg.CFGH_CDBANK 0 || (s.live.trial && s.bit Reg.CFGH_CDBANK 1)
    let s := s.placeTcm (if b then s.boot.bankB else s.boot.bankA)
    let d := s.bootDescriptor h b
    let s := ((if b then s.drawn else s).setBoot (fun x => { x with desc := d, handed := true })).wrPair Reg.CC_BOOTDESC_LO Reg.CC_BOOTDESC_HI (BitVec.ofNat 64 Config.bootDescAt)
    let s := (s.writeBytes Config.bootDescAt d false (.agent 8)).1
    let c := s.core 0
    let s := s.setCore 0 { c with regs := ((c.regs.set 0x100A 0 0).set 0x100B (BitVec.ofNat 64 Config.bootDescAt) 0) }
    (s.setDie 5 0).releaseCore 0

/-- All of CD's state is reset (R46): its queues enter PEER_LOST, its mailboxes are emptied and disabled, its cores are held;
`rsthalt` survives (R559), and CC_STATUS goes on reporting user mode. -/
def State.cdDown (s : State) : State :=
  let s := s.peersLost 10 (fun q _ => decide (s.qowner q < 6))
  let user := s.userMode
  let keep := (List.range 6).map (fun i => s.bit (Reg.CORE_RC i) 4)
  let s := { s with csr := s.csr.keep (fun k => keyDie k != 5), boxes := [], cores := [], bus := { s.bus with capt := s.bus.capt.keep (fun k => keyDie (k / 32) != 5), held := s.bus.held.keep (fun k => keyDie (k / 32) != 5) } }
  let s := (s.setBit Reg.CC_STATUS 0 user).setBoot (fun b => { b with tcm := [], cache := [], plic := {} })
  let s := (keep.zipIdx).foldl (fun s e => s.setBit (Reg.CORE_RC e.2) 4 e.1) s
  (s.setDie 5 1).freezeFollows

/-- CD restarts from the image in DDR5 (R46, R489), once start-up has handed over. -/
def State.cdBoot (s : State) : State := if s.boot.handed then s.bankBoot.handover else s.setDie 5 0

/-- A reset of CD (R46): it restarts at once where its reference is present (R421). [Log 146 DEDUCED] -/
def State.cdReset (s : State) : State :=
  let s := s.cdDown
  if s.clk.copies.any (fun c => c.1 == 5) then s else s.cdBoot

/-- CD has no route to HD while its module is DOWN: it cannot run, and starts again as from a reset once the module is UP (R15, R46).
[Log 204 DEDUCED] -/
def State.cdCutOff (s : State) : State :=
  if s.boot.handed ∧ s.dieState 5 = 0 ∧ (2 ≤ s.modState 4 14 ∨ 2 ≤ s.modState 5 14) then s.cdDown else s

/-- Its module is UP again. [Log 204 DEDUCED] -/
def State.cdReturns (s : State) : State :=
  if (s.dieState 5 = 1 ∨ s.dieState 5 = 4) ∧ s.modState 4 14 = 0 ∧ s.modState 5 14 = 0 ∧ s.bootState ≠ 7 ∧ !s.clk.copies.any (fun c => c.1 == 5) then s.cdBoot else s

/-! ## The end of a debug session (R535) -/

/-- What run control halted resumes. -/
def State.resumeAll (s : State) : State :=
  let s := (List.range 6).foldl (fun s i => s.coreResumes i) s
  (s.facets.phys.map (·.1)).foldl (fun s k => s.haltFacet (k / 272) (k % 272) false (s.facet (k / 272) (k % 272)).haltFrz) s

/-- The session ends: what it halted resumes, the challenge and the key are gone, the end is recorded at severity 3. -/
def State.closeSession (s : State) : State :=
  let was := s.session.state == 2
  let s := s.withBoundary (fun s => { s with session := { s.session with state := if s.session.state = 4 then 4 else 0, mode := 0, scope := 0, erased := false, challenge := none, key := 0, count := 0, bad := 0 } })
  if was then (s.resumeAll).raise 3 0x000A 4 0x16 0 else s

end Sys2Proof.Machine
end

