-- ==== Sys2Proof/Machine/Reset.lean ====
section
/-!
DEFINITION. Resets, slot failures and the wipe, die rejoin and release (R42 to R46, R163, R427 to R434, R457 to R460, R535).
-/
namespace Sys2Proof.Machine

/-- What stands outside the device at a fabric pin: the level driven there. -/
def Tio.outside (u : Tio) : Tio := { ext := u.ext, input := u.ext.getD false }

/-- The pins' outside levels, all units of a set of dies otherwise reset. [Log 13 DEDUCED] -/
def outsideOnly (m : SMap Tio) (hit : Nat → Bool) : SMap Tio := m.mapVals {} (fun k u => if hit (k / 240) then u.outside else u)

/-! ## Power-on reset (R427, R428) -/

/-- POR clears everything but OTP, the NVM, and what stands outside the device. [Log 13 DEDUCED] -/
def State.porReset (s : State) : State :=
  { State.reset with pending := s.pending, bus := { reply := s.bus.reply }, free := s.free, grade := s.grade, gradeI := s.gradeI, tio := outsideOnly s.tio (fun _ => true), pins := { State.reset.pins with vok := s.pins.vok, vccio := s.pins.vccio }, sec := { lc := s.sec.lc, otp := s.sec.otp }, clk := { copies := s.clk.copies, resume := s.clk.resume } }

/-! ## Device reset (R427, R428, R430, R535) -/

/-- Registers that DEVICE_RESET keeps (R427, R434, R441, R526, R558, R560, R571), with the live reference monitor. -/
def keptByDevice (k : Nat) : Bool :=
  (keyDie k == 4 && keyUnit k == 0x15) || k == Reg.DIE_RSTCAUSE || k == Reg.CFG_NEXT || k == Reg.CFG_STRAP || k == Reg.BZ_SENS || k == Reg.CLK_REFOK

/-- The trip no longer holds a device reset off: 100 ms have passed and the HD sensors read below 100 °C (R291). [Log 133 DEDUCED] -/
def State.tripOver (s : State) : Bool :=
  !s.power.trip || (decide (1600000000 ≤ (s.now - s.power.tripDt).toNat) && (List.range 10).all (fun i => decide (signed 12 (s.fld (Reg.GOV_TEMP (80 + i)) 0 12) < 400)))

/-- Every selected reference is present and no trip holds a reset off. -/
def State.resetReady (s : State) : Bool := !(s.clk.hold && !s.clk.lost.isEmpty) && s.tripOver

/-- DEVICE_RESET acts, with its cause (R434): everything is cleared but what R427 keeps, and start-up begins at step 3. -/
def State.takeDeviceReset (s : State) (cause : Nat) : State :=
  let s := s.closeSession
  let trip := s.power.trip
  let open_ := s.session.opening
  let dag : Session := { last := { s.session.last with run := false }, ir := s.session.ir, dr := s.session.dr, cells := s.session.cells }
  let session : Session := match open_ with
    | some (scope, key) => { dag with state := 2, mode := 2, scope := scope, erased := true, key := key }
    | none => if s.session.state = 4 then { dag with state := 4, fails := 8 } else dag
  let t : State := { State.reset with pending := s.pending, csr := s.csr.keep keptByDevice, bus := { reply := s.bus.reply }, free := s.free, raised := s.raised, grade := s.grade, gradeI := s.gradeI, tio := outsideOnly s.tio (fun _ => true), pins := { State.reset.pins with vok := s.pins.vok, vccio := s.pins.vccio }, sec := { lc := s.sec.lc, otp := s.sec.otp, otpErr := s.sec.otpErr }, clk := { por := false, amp := s.clk.amp, copies := s.clk.copies, resume := s.clk.resume, xoByp := s.clk.xoByp, xoWait := s.clk.xoWait }, session := session, recorder := s.recorder }
  let t := (t.setFld Reg.DIE_RSTCAUSE 0 4 cause).setBit Reg.GOV_STAT 9 trip
  let t := t.setBootState 1
  match open_ with
  | some _ => ((t.raise 4 0x0009 4 0x16 0).flagLast (t.freeNat 16)).drawn
  | none => t

/-- A DEVICE_RESET is requested; it waits for lost references (R426) and for the trip's end (R291). [Log 132 DESIGN CHOICE] -/
def State.deviceReset (s : State) (cause : Nat) : State :=
  if s.clk.por then s
  else if s.resetReady then s.takeDeviceReset cause
  else { s with clk := { s.clk with devReq := some (s.clk.devReq.getD cause) } }

/-- A device reset that waits is taken once nothing holds it off. -/
def State.dueReset (s : State) : State :=
  match s.clk.devReq with
  | some cause => if s.resetReady then s.takeDeviceReset cause else s
  | none => s

/-! ## Die reset, rejoin and release (R42 to R45, R427) -/

/-- All of a fabric die's state but pad locks (R167) and its DIE registers (R434) at its reset values. [Log 131 DEDUCED] -/
def State.clearDie (s : State) (die : Nat) : State :=
  let mine (n k : Nat) : Bool := k / n == die
  let other (n k : Nat) : Bool := !(mine n k)
  let csr := s.csr.keep (fun k => keyDie k != die || keyUnit k == 0x00)
  let b := s.bus
  let bus := { b with capt := b.capt.keep (fun k => keyDie (k / 32) != die), held := b.held.keep (fun k => keyDie (k / 32) != die), wide := b.wide.keep (fun k => keyDie (k / 32) != die) }
  let sp := s.spine
  let spine := { sp with incs := sp.incs.keep (other 16), recal := sp.recal.keep (other 1), deskewed := sp.deskewed.keep (other 1), second := sp.second.keep (other 1), skew := sp.skew.keep (other 1), switches := sp.switches.keep (other 1), phi := sp.phi.keep (other 16) }
  let p := s.pins
  let pins := { p with pads := p.pads.mapVals {} (fun k x => if mine 240 k then { lock := x.lock } else x), lockSeq := p.lockSeq.keep (other 1), phiPin := p.phiPin.keep (other 16), fed := p.fed.keep (other 512), conf := p.conf.keep (other 1), fbo := p.fbo.keep (other 128), adcNext := p.adcNext.keep (other 1), adcSum := p.adcSum.keep (other 10) }
  let f := s.fabric
  let fabric := { f with lanes := f.lanes.keep (fun k => k / 32768 / 512 / 16 != die), images := f.images.keep (other 16), outs := f.outs.keep (fun k => k / 2 / 512 / 16 != die), fifos := f.fifos.keep (fun k => k / 512 / 16 != die), macs := f.macs.keep (fun k => k / 256 / 16 != die), restoring := f.restoring.keep (other 16), frames := f.frames.keep (other 16), ran := f.ran.keep (other 16), cells := f.cells.keep (other 16), strobes := f.strobes.keep (other 16), strobed := f.strobed.keep (other 16), capture := f.capture.keep (other 16), loupe := f.loupe.keep (other 1) }
  let facets := { s.facets with phys := s.facets.phys.keep (other 272), ports := s.facets.ports.keep (other 256), disp := s.facets.disp.keep (other 16) }
  let net := { s.net with queues := s.net.queues.keep (fun q => homeOf q != die), used := s.net.used.filter (fun u => u.1.1 != die) }
  let serial := { s.serial with lanes := s.serial.lanes.keep (other 16), locks := s.serial.locks.keep (other 8) }
  let live := { s.live with regions := s.live.regions.keep (other 16), ports := s.live.ports.keep (other 1), scrub := s.live.scrub.keep (other 2) }
  let dom := s.power.dom.keep (fun d => !(decide (d < 64) && d / 16 == die) && !(decide (64 ≤ d ∧ d < 128) && (d - 64) / 16 == die) && d != 128 + die && !(decide (132 ≤ d ∧ d < 148) && (d - 132) / 4 == die))
  { s with tioWrites := s.tioWrites.filter (fun w => w.die != die), csr := csr, bus := bus, spine := spine, cal := s.cal.keep (other 1), calWrites := s.calWrites.map (fun w => (w.1.filter (· != die), w.2)), tio := outsideOnly s.tio (fun d => d == die), ez := s.ez.keep (other 16), pins := pins, fabric := fabric, facets := facets, net := net, serial := serial, live := live, power := { s.power with dom := dom }, boot := { s.boot with ready := s.boot.ready.set die false false } }

/-- DIE_RESET of a fabric die or CD (R427); during a hold it is taken at release (R426), and a die that is already lost or
rejoining starts again (R43). [Log 131 DEDUCED] -/
def State.dieReset (s : State) (die : Nat) : State :=
  if s.clk.hold then { s with clk := { s.clk with dieReq := if s.clk.dieReq.contains die then s.clk.dieReq else s.clk.dieReq ++ [die] } }
  else if die = 5 then s.cdReset
  else if 4 ≤ die then s
  else ((s.loseDie die).clearDie die).setDie die 1

/-- A lost die leaves reset with clock and supplies present: SRAM zeroed, modules in training at both ends (R44 steps 1 to 4). -/
def State.dieRejoin (s : State) (die : Nat) : State :=
  if 4 ≤ die ∨ (s.dieState die ≠ 1 ∧ s.dieState die ≠ 4) ∨ s.clk.copies.any (fun c => c.1 == die) then s
  else
    let s := (s.clearDie die).setDie die 2
    (modulesOf die).foldl (fun s m => [die, peerOf m die].foldl (fun s d => if d ≠ die ∧ s.dieLost d then s else s.setModState d m 1) s) s

/-- DIE_REL: HELD dies leave for ACTIVE, their pins through the changeover, their lanes start; refused in any other state (R434). -/
def State.dieRelease (s : State) (mask : Nat) : State × Resp :=
  let named := (List.range 4).filter (fun d => mask.testBit d)
  if named.any (fun d => s.dieState d != 3) then (s, .refused)
  else (named.foldl (fun s d =>
    let s := (s.setDie d 0).withStates [d] (fun s => { s with pins := { s.pins with safe := { s.pins.safe with die := s.pins.safe.die.set d false false } } })
    s.restartLanes d) s, .ok)

/-- DIE_CMD (R434). -/
def State.dieCmdWrite (s : State) (w : Word) : State × Resp :=
  if wfld w 24 8 ≠ 0xD5 then (s.flagErr Reg.CLK_STAT 9 3 (errCode 14 4), .ok)
  else match wfld w 0 2 with
    | 0 => (s, .ok)
    | 1 => (s.deviceReset 2, .ok)
    | 2 => if wfld w 2 3 < 4 ∨ wfld w 2 3 = 5 then (s.dieReset (wfld w 2 3), .ok) else (s, .refused)
    | _ => (s.flagErr Reg.CLK_STAT 9 3 (errCode 14 4), .ok)

/-- DIE_DSTAT as it reads. -/
def State.dieDstatRead (s : State) : Word :=
  BitVec.ofNat 32 ((List.range 4).foldl (fun n d => n + s.dieState d * 8 ^ d) 0 + s.dieState 5 * 32768)

/-! ## Region reset and unit reset (R427 to R430) -/

/-- The FACET registers of a Region at their reset values (R245). -/
def State.clearFacetRegs (s : State) (die rg : Nat) : State :=
  let s := { s with csr := s.csr.keep (fun k => !(keyDie k == die && keyUnit k == 0x08 && keyInst k / 17 == rg)) }
  (List.range 17).foldl (fun s k => s.setFacet die (17 * rg + k) { (s.facet die (17 * rg + k)) with cyc := 0, haltFrz := false }) s

/-- One Region enters REGION_RESET: isolated, registers to initial values, Facets stopped, queue and ports emptied; a restore that
it meets is beaten (R179, R245, R428). -/
def State.resetRegion (s : State) (die rg : Nat) : State :=
  let s := s.setRegion die rg { (s.region die rg) with reset := true }
  let s := ((s.stopFacets die rg true).emptyReady die rg).clearFacetRegs die rg
  let s := (List.range 16).foldl (fun s l => s.setPorts die (16 * rg + l) {}) s
  let s := s.initialise die rg
  s.setFabric (fun f => { f with restoring := f.restoring.set (16 * die + rg) false false })

/-- DIE_RRST written: `busy` starts the reset of the Regions in `mask`. -/
def State.regionReset (s : State) (die : Nat) (w : Word) : State × Resp :=
  let key := Reg.DIE_RRST die
  let named := (List.range 16).filter (fun r => wbit w r)
  if s.bit key 31 then (s, .refused)
  else if !wbit w 31 then (s.wr key (w &&& 0xFFFF), .ok)
  else if named.any (s.reconfiguring die) then (s, .refused)
  else (named.foldl (fun s r => s.resetRegion die r) (s.wr key (w &&& 0x8000FFFF)), .ok)

/-- The Region reset of a die ends: the boundaries are released and the Facets go IDLE or OFF. -/
def State.regionResetDone (s : State) (die : Nat) : State :=
  let s := (List.range 16).foldl (fun s r =>
    let x := s.region die r
    if !x.reset then s
    else
      let s := s.setRegion die r { x with reset := false }
      let s := s.restartFacets die r
      if s.isolated die r then s else s.releaseInitial die r) s
  s.setBit (Reg.DIE_RRST die) 31 false

/-- Registers of one instance at their reset values. -/
def State.clearInst (s : State) (die unit inst : Nat) : State :=
  { s with csr := s.csr.keep (fun k => !(keyDie k == die && keyUnit k == unit && keyInst k == inst)) }

/-- DIE_URST written (R429): the units that take UNIT_RESET; any other answers REFUSED. -/
def State.unitReset (s : State) (die : Nat) (w : Word) : State × Resp :=
  let inst := wfld w 0 12
  let s0 := s.wr (Reg.DIE_URST die) (w &&& 0x1FFFF)
  if !wbit w 31 then (s0, .ok)
  else match wfld w 12 5 with
    | 0x05 =>
      if 4 ≤ die ∨ 240 ≤ inst then (s, .refused)
      else
        let t := s0.leaveMode die inst s.now
        let u := t.unit die inst
        ((t.clearInst die 0x05 inst).setUnit die inst { line := (u.line.put s.now false false).1, ext := u.ext, ext0 := u.ext0, edges := u.edges, input := u.input, lastIn := u.lastIn }, .ok)
    | 0x0D => if 4 ≤ die ∨ 16 ≤ inst then (s, .refused) else ((((s0.laneOff die inst).portsRetrain die inst).clearInst die 0x0D inst), .ok)
    | 0x08 =>
      if 4 ≤ die ∨ 272 ≤ inst ∨ (s.facet die inst).state = .stopped then (s, .refused)
      else
        let t := (s0.setBit (Reg.FACET_CTL die inst) 0 true)
        (t.facetRest die inst { (t.facet die inst).resetRegs with haltDbg := false, haltFrz := false }, .ok)
    | 0x19 => if die ≠ 5 ∨ 6 ≤ inst then (s, .refused) else (s0.holdCore inst, .ok)
    | 0x0F =>
      if 4 ≤ die ∨ inst ≠ 0 then (s, .refused)
      else
        let t := { s0 with live := { s0.live with ports := s0.live.ports.set die ((s0.live.ports.get die []).filter (· != PortJob.readout)) [] } }
        ((t.setLoupe die {}).wr (Reg.LP_NOCAP die) 0, .ok)
    | 0x17 =>
      if 5 ≤ die ∨ inst ≠ 0 then (s, .refused)
      else
        let p := s0.pins
        ({ s0 with csr := s0.csr.keep (fun k => !(keyDie k == die && keyUnit k == 0x17)), pins := { p with adcNext := p.adcNext.keep (· != die), adcSum := p.adcSum.keep (fun k => k / 10 != die) } }, .ok)
    | _ => (s, .refused)

/-! ## Slot failures (R457 to R460) -/

/-- Registers a wipe keeps: those of HD's always-on domain (start-up controller, resets, clocks, Bezel, recorder, debug gate). -/
def keptByWipe (k : Nat) : Bool := keyDie k == 4 && [0x00, 0x02, 0x0E, 0x13, 0x15, 0x16].contains (keyUnit k)

/-- Key identifier 0 is drawn from the DRBG, and granted to agents 0 to 5 and 8 (R505). [Log 144 DEDUCED] -/
def State.drawKeyZero (s : State) : State :=
  let s := ({ s with sec := { s.sec with keys := s.sec.keys.set 0 (s.freeNat 64 + 1) 0 } }).drawn
  [0, 1, 2, 3, 4, 5, 8].foldl (fun s a => s.setBit (Reg.MPE_AGKID_LO a) 0 true) (s.setBit Reg.MPE_KSTAT_LO 0 true)

/-- The wipe of R459: CD and the fabric dies in reset, keys retired, SRAM zeroed, HD's other units at their reset values. -/
def State.wipe (s : State) : State :=
  let pins := { State.reset.pins with vok := s.pins.vok, vccio := s.pins.vccio, safe := s.pins.safe, pads := s.pins.pads.mapVals {} (fun _ q => { lock := q.lock }) }
  { State.reset with pending := s.pending, csr := s.csr.keep keptByWipe, bus := { reply := s.bus.reply }, free := s.free, raised := s.raised, grade := s.grade, gradeI := s.gradeI, tio := outsideOnly s.tio (fun _ => true), pins := pins, mem := { State.reset.mem with engines := s.mem.engines.mapVals {} (fun _ g => { tk := g.tk + 1 }) }, clk := s.clk, boot := { slots := s.boot.slots, left := s.boot.left, jtag := s.boot.jtag, nvm := s.boot.nvm }, sec := { s.sec with keys := [] }, session := { s.session with last := { s.session.last with run := false } }, recorder := s.recorder }

/-- CONFIG_FAILED (R460): pins safe, CFG_ERR_N low, DONE by its strap, CD in reset, a record of severity 6. -/
def State.configFailed (s : State) : State :=
  let s := (s.setBootState 7).setSafe (fun c => { c with failed := true })
  let s := s.cdDown.setBoot (fun b => { b with errLow := true, done := s.bit Reg.CFG_STRAP 1, header := none, stream := false })
  s.raise 6 0x000C 4 0x0E 0

/-- A slot fails with a code and sub-code (R457): logged, recorded, wiped once streaming began, and the next slot is due; without
one, or after a TAP image, the device is in CONFIG_FAILED. [Log 37 DESIGN CHOICE, 136 DEDUCED] -/
def State.slotFailed (s : State) (code sub : Nat) : State :=
  let jtag := s.bit Reg.CFG_STAT 6
  let n := if jtag then 4 else min (s.fld Reg.CFG_STAT 8 3 - 1) 3
  let wiped := s.boot.stream
  let seg := s.fld Reg.CFG_STAT 16 11
  let slot := s.fld Reg.CFG_STAT 4 2
  let s := s.wr (Reg.CFG_LOG n) (BitVec.ofNat 32 (code + sub * 16 + slot * 256 + b2n wiped * 1024 + 2048 + seg * 4096))
  let s := s.setFld Reg.CFG_STAT 12 4 code
  let s := s.raise 4 (errCode 15 (code + 1)) 4 0x0E 0
  -- the record names slot, code, sub-code and segment; where in its flags is not stated
  let s := s.flagLast (s.freeNat 16)
  let s := s.drawn
  let s := if wiped then s.wipe.drawKeyZero else s.setBoot (fun b => { b with header := none })
  if jtag ∨ s.boot.left = [] then s.configFailed else s.setBootState 2

/-- A required die is lost or isolated while its image loads (R454, R457, R461). -/
def State.dieMissing (s : State) (sub : Nat) : State :=
  match s.boot.header with
  | some h => if s.bootState = 3 ∧ [0, 1, 2, 3, 5].any (fun d => h.dieReq.testBit d && s.dieLost d) then s.slotFailed 8 sub else s
  | none => s

end Sys2Proof.Machine
end

