-- ==== Sys2Proof/Machine/Security.lean ====
section
/-!
DEFINITION. Bezel: vault, services, attestation, anti-rollback, sensors and responses, life cycle (R494 to R527).
-/
namespace Sys2Proof.Machine

def State.setSec (s : State) (f : Security → Security) : State := { s with sec := f s.sec }


/-- The words of a byte string, the last padded with zeros. -/
def bytesWords (l : List Byte) : List Word := (List.range ((l.length + 3) / 4)).map (fun i => BitVec.ofNat 32 (leNat ((l.drop (4 * i)).take 4)))

/-! ## Certified configuration (R524) -/

/-- The conditions 1 to 8 in order. -/
def State.certConditions (s : State) : List Bool :=
  let resp := s.rd Reg.BZ_RESP
  let plain := s.csr.any (fun e => keyUnit e.1 == 0x12 && decide (0x100 ≤ keyInst e.1) && keyOff e.1 == 8 && wbit e.2 31 && wfld e.2 0 2 == 0)
  [s.sec.lc == 3, s.sec.fwCert, !s.bit Reg.MPE_GCTL 0 && !plain,
   (List.range 6).all (fun c => decide (2 ≤ wfld resp (2 * c) 2)) && decide (1 ≤ wfld resp 12 2) && s.sec.locked,
   s.sec.otp.pwdOff, s.sec.otp.uutca.isSome, s.session.state != 2, s.sec.otp.owner]
def State.certified (s : State) : Bool := s.certConditions.all id

/-- BZ_CERT as it reads. -/
def State.bzCertRead (s : State) : Word :=
  let fail := (s.certConditions.zipIdx).foldl (fun n c => n + (if c.1 then 0 else 2 ^ (c.2 + 1))) 0
  BitVec.ofNat 32 (b2n s.certified + fail + b2n (s.bit Reg.BZ_CERT 31) * 2 ^ 31)

/-- BZ_STAT as it reads. -/
def State.bzStatRead (s : State) : Word :=
  BitVec.ofNat 32 (s.sec.lc + b2n s.certified * 8 + b2n (decide (256 < s.sec.logTotal)) * 16 + b2n s.sec.ready * 64 + s.sec.fwVer % 65536 * 65536)

/-- BZ_ARB, BZ_LOGCNT and BZ_OTPSTAT as they read. -/
def State.bzArbRead (s : State) : Word := BitVec.ofNat 32 (s.sec.otp.quanasArb + s.sec.otp.ownerArb * 65536)
def State.bzLogRead (s : State) : Word := BitVec.ofNat 32 (s.sec.log.length + s.sec.logTotal % 65536 * 65536)
def State.bzOtpRead (s : State) : Word :=
  let o := s.sec.otp
  BitVec.ofNat 32 (b2n o.owner + b2n o.pwdOff * 2 + b2n o.uutca.isSome * 4 + o.revoked % 16 * 8 + b2n s.sec.otpErr * 128)

/-! ## Channels (R506, R507) -/

/-- Agents a channel is named for. -/
def channelAgent (chan agent : Nat) : Bool :=
  match chan with | 0 => decide (agent ≤ 3) | 1 => agent == 4 || agent == 5 | 2 => agent == 6 || agent == 7 | _ => agent == 9

/-- The command of a channel runs or waits (BZ_CMD.go). -/
def State.bzBusy (s : State) (chan : Nat) : Bool := s.sec.cmds.any (fun c => c.chan == chan)

def State.bzOwner (s : State) (chan : Nat) : Option Nat := s.sec.owner.get chan none
def State.setBzOwner (s : State) (chan : Nat) (o : Option Nat) : State := s.setSec (fun v => { v with owner := v.owner.set chan o none })

/-- An access to a channel by a requester: another's sequence aborts (R507). -/
def State.bzInterfere (s : State) (chan req : Nat) : State :=
  match s.bzOwner chan with
  | some o =>
    if o = req then s
    else (((s.setBzOwner chan none).flag (Reg.BZ_RSP chan) 13).setFld (Reg.BZ_RSP chan) 0 4 9).raise 3 (errCode 17 6) 4 0x13 chan
  | none => s

/-- Status codes of R510. -/
def stOk := 0
def stBadArg := 2
def stDenied := 3
def stAuth := 4
def stVersion := 5
def stNoKey := 6
def stInUse := 7
def stNotCert := 8

/-- BZ_CMD.go: the input is taken and the buffer zeroed; a reserved code ends at once (R507, R509, R510). [Log 153 DEDUCED] -/
def State.bzGo (s : State) (chan req : Nat) (w : Word) : State :=
  let n := min (wfld w 22 8) 128
  let input := (List.range n).flatMap (fun k => leBytes 4 (s.rd (Reg.BZ_BUF chan k)).toNat)
  let s := (List.range 128).foldl (fun s k => s.wr (Reg.BZ_BUF chan k) 0) (s.setBzOwner chan none)
  let op := wfld w 0 8
  if op = 0 ∨ 0x11 < op then
    -- channels 2 and 3 answer DENIED to every code but their own
    (((s.setFld (Reg.BZ_RSP chan) 0 12 (if 2 ≤ chan then stDenied else 1)).flag (Reg.BZ_RSP chan) 12)).raise 3 (errCode 17 1) 4 0x13 chan
  else
    let c : BzCommand := { chan := chan, agent := req, op := op, arg := wfld w 8 8, kid := wfld w 16 6, input := input, addr := (s.rdPair (Reg.BZ_ADDR_LO chan) (Reg.BZ_ADDR_HI chan)).toNat, len := (s.rd (Reg.BZ_LEN chan)).toNat }
    s.setSec (fun v => { v with cmds := v.cmds ++ [c] })

/-- A write to a channel register by a requester it is named for: `off` as in R526. -/
def State.bzWrite (s : State) (chan req off : Nat) (w : Word) : State × Resp :=
  let s := s.bzInterfere chan req
  if s.bzBusy chan then (s, .refused)
  else if off = 0x004 then
    -- done and seq_abort are cleared by 1, ie is written
    let key := Reg.BZ_RSP chan
    let v := s.rd key
    let v := if wbit w 12 then wsetBit v 12 false else v
    let v := if wbit w 13 then wsetBit v 13 false else v
    (s.wr key (wsetBit v 14 (wbit w 14)), .ok)
  else
    let s := s.setBzOwner chan (some req)
    let s := s.wr (regKey 4 0x13 chan off) (if off = 0 then w &&& 0x3FFFFFFF else w)
    (if off = 0 && wbit w 31 then s.bzGo chan req w else s, .ok)

/-! ## Commands (R509, R510) -/

/-- A command ends with a status and its output (R510, R527). `row`: the error it is recorded as. -/
def State.bzEnd (s : State) (c : BzCommand) (status : Nat) (out : List Byte) (row : Nat) : State :=
  let words := bytesWords out
  let s := words.zipIdx.foldl (fun s e => if e.2 < 128 then s.wr (Reg.BZ_BUF c.chan e.2) e.1 else s) s
  let key := Reg.BZ_RSP c.chan
  let s := (s.setFld key 0 12 (status + min words.length 128 * 16)).flag key 12
  let s := s.setSec (fun v => { v with cmds := v.cmds.drop 1 })
  if status = 0 then s else s.raise (if row = 1 then 3 else 4) (errCode 17 row) 4 0x13 c.chan

/-- Run the oldest command where it is of the operation `op`; channels 2 and 3 may issue only 0x07 to 0x0A and 0x0E. -/
def State.bzRun (s : State) (op : Nat) (f : BzCommand → State → State) : State :=
  match s.sec.cmds with
  | [] => s
  | c :: _ =>
    if c.op ≠ op || !s.sec.ready || s.sec.wiping then s
    else if 2 ≤ c.chan && !([0x07, 0x08, 0x09, 0x0A, 0x0E].contains op) then s.bzEnd c stDenied [] 1
    else f c s

def State.vaultKey (s : State) (n : Nat) : Option VaultKey := s.sec.vault.get n none
def State.setVault (s : State) (n : Nat) (k : Option VaultKey) : State := s.setSec (fun v => { v with vault := v.vault.set n k none })

/-- Usage bits a type allows (R503). -/
def usageAllowed (kind usage : Nat) : Bool :=
  let mask := match kind with | 0 => 0b100011 | 1 => 0b001000 | 2 => 0b000110 | 3 => 0b010010 | _ => 0
  decide (kind ≤ 3) && (usage &&& mask) == usage

/-- Lengths a type allows (R503). -/
def lengthAllowed (kind n : Nat) : Bool :=
  match kind with | 0 => n == 32 | 1 => n == 48 | 2 => decide (8 ≤ n ∧ n ≤ 64) | _ => n == 32 || n == 64

/-- The 8-byte header of a blob (R504): type, usage, length, one byte each, then zeros. [Log 155 DESIGN CHOICE] -/
def blobHeader (k : VaultKey) : List Byte := leBytes 1 k.kind ++ leBytes 1 k.usage ++ leBytes 6 k.length

/-- A session opened by erasing the device is open: the owner's key services are closed (R533). -/
def State.erasedOpen (s : State) : Bool := s.session.state == 2 && s.session.erased

/-- The owner's KEK as Bezel holds it: usable in OWNED and DEPLOYED, else none (R498, R504). [Log 155 DESIGN CHOICE] -/
def State.ownerKek (s : State) : Nat := if s.sec.lc = 2 ∨ s.sec.lc = 3 then s.sec.otp.kek else 0

/-- SK, under which device blobs are wrapped (R504); label 1 stands for "QSK1". -/
def State.deviceKey (s : State) : Nat := Config.derive (Config.pufRoot + 2 ^ 384 * s.ownerKek) 1

/-- KEY_GEN. [Log 153 DEDUCED] -/
def State.keyGen (s : State) : State := s.bzRun 1 (fun c s =>
  let kind := (c.input.getD 0 0).toNat
  let usage := (c.input.getD 1 0).toNat
  let asked := (c.input.getD 2 0).toNat
  let len := match kind with | 0 => 32 | 1 => 48 | 2 => asked | _ => if asked = 64 then 64 else 32
  if c.arg = 0 ∨ 32 ≤ c.arg ∨ !usageAllowed kind usage ∨ !lengthAllowed kind len then s.bzEnd c stBadArg [] 1
  else
    let k : VaultKey := { kind := kind, usage := usage, value := Config.derive (s.freeNat 64) 0, length := len }
    ((s.drawn).setVault c.arg (some k)).bzEnd c stOk [] 1)

/-- KEY_IMPORT: a device blob, or in OWNED and DEPLOYED an owner blob (R504); in an erased session an owner blob is denied (R533). -/
def State.keyImport (s : State) : State := s.bzRun 2 (fun c s =>
  let kind := (c.input.getD 0 0).toNat
  let usage := (c.input.getD 1 0).toNat
  let len := (c.input.getD 2 0).toNat
  if c.arg = 0 ∨ 32 ≤ c.arg ∨ !usageAllowed kind usage ∨ !lengthAllowed kind len then s.bzEnd c stBadArg [] 1
  else
    let body := c.input.drop 8
    let put (v : List Byte) : State := (s.setVault c.arg (some { kind := kind, usage := usage, value := leNat v, length := len })).bzEnd c stOk [] 1
    match Config.unwrap s.deviceKey body with
    | some v => put v
    | none =>
      match (if s.sec.lc = 2 ∨ s.sec.lc = 3 then Config.unwrap s.ownerKek body else none) with
      | none => s.bzEnd c stAuth [] 1
      | some v => if s.erasedOpen then s.bzEnd c stDenied [] 1 else put v)

/-- KEY_EXPORT. -/
def State.keyExport (s : State) : State := s.bzRun 3 (fun c s =>
  if 32 ≤ c.arg then s.bzEnd c stBadArg [] 1 else
  match s.vaultKey c.arg with
  | none => s.bzEnd c stNoKey [] 1
  | some k => if !k.usage.testBit 1 then s.bzEnd c stDenied [] 1 else s.bzEnd c stOk (blobHeader k ++ Config.wrap s.deviceKey (leBytes k.length k.value)) 1)

/-- KEY_DELETE. -/
def State.keyDelete (s : State) : State := s.bzRun 4 (fun c s =>
  if 32 ≤ c.arg then s.bzEnd c stBadArg [] 1 else (s.setVault c.arg none).bzEnd c stOk [] 1)

/-- Set or clear a key identifier's bit in a register pair. -/
def State.setKid (s : State) (lo hi k : Nat) (b : Bool) : State := if k < 32 then s.setBit lo k b else s.setBit hi (k - 32) b

/-- The key slot of an identifier is loaded; one that is retiring still is, until its slot is cleared (R376, R505). [Log 122 DEDUCED] -/
def State.slotLoaded (s : State) (k : Nat) : Bool := if k < 32 then s.bit Reg.MPE_KSTAT_LO k else s.bit Reg.MPE_KSTAT_HI (k - 32)

/-- MPE_LOAD (R505): both keys of an identifier into all six engines. [Log 122 DEDUCED] -/
def State.mpeLoad (s : State) : State := s.bzRun 5 (fun c s =>
  let k := (c.input.getD 0 0).toNat
  if s.erasedOpen then s.bzEnd c stDenied [] 1
  else if 32 ≤ c.arg ∨ k = 0 ∨ 64 ≤ k then s.bzEnd c stBadArg [] 1 else
  match s.vaultKey c.arg with
  | none => s.bzEnd c stNoKey [] 1
  | some v =>
    if v.kind ≠ 0 ∨ !v.usage.testBit 0 then s.bzEnd c stDenied [] 1
    else if s.slotLoaded k then s.bzEnd c stInUse [] 1
    else
      let s := s.setSec (fun x => { x with keys := x.keys.set k (Config.derive v.value k) 0 })
      (s.setKid Reg.MPE_KSTAT_LO Reg.MPE_KSTAT_HI k true).bzEnd c stOk [] 1)

/-- MPE_GRANT (R505). -/
def State.mpeGrant (s : State) : State := s.bzRun 6 (fun c s =>
  let k := (c.input.getD 0 0).toNat
  if 10 ≤ c.arg ∨ k = 0 ∨ 64 ≤ k then s.bzEnd c stBadArg [] 1
  else (s.setKid (Reg.MPE_AGKID_LO c.arg) (Reg.MPE_AGKID_HI c.arg) k ((c.input.getD 1 0).toNat == 1)).bzEnd c stOk [] 1)

/-- SIGN_RECORD and TRANSFER_WRAP answer NOT_CERT where a certified configuration is required and absent (R524). -/
def State.notCert (s : State) : Bool := s.bit Reg.BZ_CERT 31 && !s.certified

/-- SIGN_RECORD (R515). -/
def State.signRecord (s : State) : State := s.bzRun 7 (fun c s =>
  if s.erasedOpen then s.bzEnd c stDenied [] 1
  else if s.notCert then s.bzEnd c stNotCert [] 1
  else if 32 ≤ c.arg ∨ c.input.length < 64 then s.bzEnd c stBadArg [] 1
  else match s.vaultKey c.arg with
    | none => s.bzEnd c stNoKey [] 1
    | some k =>
      if !k.usage.testBit 3 then s.bzEnd c stDenied [] 1
      else
        let s := s.setSec (fun v => { v with signed := v.signed + 1 })
        let block := leBytes 4 0x51545231 ++ leBytes 2 1 ++ leBytes 2 s.sec.lc ++ leBytes 8 s.sec.otp.serial ++ leBytes 8 s.tickEnd.toNat ++ leBytes 8 s.sec.signed ++ c.input.take 64 ++ leBytes 48 s.sec.bootDigest
        s.bzEnd c stOk (block ++ leBytes 96 (Config.signature k.value block)) 1)

/-- TRANSFER_WRAP (R516). -/
def State.transferWrap (s : State) : State := s.bzRun 8 (fun c s =>
  if s.erasedOpen then s.bzEnd c stDenied [] 1
  else if s.notCert then s.bzEnd c stNotCert [] 1
  else if 32 ≤ c.arg ∨ c.input.length < 304 then s.bzEnd c stBadArg [] 1
  else match s.vaultKey c.arg, s.sec.otp.uutca with
    | none, _ => s.bzEnd c stNoKey [] 1
    | some _, none => s.bzEnd c stDenied [] 1
    | some k, some ca =>
      if !k.usage.testBit 2 then s.bzEnd c stDenied [] 1
      else
        let u := c.input.take 96
        let cp := (c.input.drop 96).take 96
        let sig := (c.input.drop 192).take 96
        let label := (c.input.drop 288).take 16
        if Config.digest cp ≠ ca ∨ !Config.verify cp u sig then s.bzEnd c stAuth [] 1
        else
          let e := s.freeNat 64
          let w := Config.derive (Config.derive e (leNat u)) (leNat label)
          (s.drawn).bzEnd c stOk (Config.publicKey e ++ Config.wrap w (leBytes k.length k.value)) 1)

/-- The device identity key and the alias key (R511, R512); label 2 stands for "QDIK". -/
def identityKey : Nat := Config.derive Config.pufRoot 2
def State.aliasKey (s : State) : Nat := Config.derive identityKey s.sec.bootDigest

/-- ATTEST (R514). -/
def State.attest (s : State) : State := s.bzRun 9 (fun c s =>
  if c.input.length < 48 then s.bzEnd c stBadArg [] 1
  else
    let v := s.sec
    let body := leBytes 4 0x51415452 ++ leBytes 2 1 ++ leBytes 1 v.lc ++ leBytes 1 (b2n s.certified) ++ leBytes 8 v.otp.serial ++ leBytes 8 s.tickEnd.toNat ++ c.input.take 48 ++ leBytes 48 v.bootDigest ++ leBytes 48 v.logDigest ++ leBytes 4 v.logTotal ++ leBytes 4 v.fwVer
    s.bzEnd c stOk (body ++ leBytes 96 (Config.signature s.aliasKey body)) 1)

/-- GET_CERT: identity certificate, alias certificate, or a runtime log entry. -/
def State.getCert (s : State) : State := s.bzRun 10 (fun c s =>
  let i := leNat (c.input.take 4)
  match c.arg with
  | 0 => s.bzEnd c stOk ((s.sec.otp.cert.drop i).take 512) 1
  | 1 => s.bzEnd c stOk (((Config.aliasCert s.sec.bootDigest).drop i).take 512) 1
  | 2 => match s.sec.log[i]? with
    | some (kind, index, dt, hash) => s.bzEnd c stOk (leBytes 1 kind ++ leBytes 1 index ++ leBytes 8 dt.toNat ++ leBytes 48 hash) 1
    | none => s.bzEnd c stBadArg [] 1
  | _ => s.bzEnd c stBadArg [] 1)

/-- The device accepts an image built for it (R445). -/
def State.deviceOk (s : State) (family device speed temp stepMin : Nat) : Bool :=
  family == 0x4D4C && device == 0x9440 && decide (stepMin ≤ 0xA1) && decide (speed ≤ s.grade) && (temp == 0 || (temp == 1 && s.gradeI))

/-- The key source a life-cycle state accepts (R444). -/
def keySrcOk (lc src : Nat) : Bool := match lc with | 0 | 1 | 4 => src == 0 | 2 | 3 => src == 1 | _ => false

/-- A signing key hash is the one selected, programmed and not revoked (R444, R525). -/
def State.imageKeyOk (s : State) (src idx hash : Nat) : Bool :=
  if src = 0 then hash == s.sec.otp.imageKey
  else hash == s.sec.otp.ownerKeys.get idx 0 && s.sec.otp.ownerKeys.any (fun e => e.1 == idx) && !s.sec.otp.revoked.testBit idx

/-- The stored anti-rollback counter of a key source (R517). -/
def State.storedArb (s : State) (src : Nat) : Nat := if src = 0 then s.sec.otp.quanasArb else s.sec.otp.ownerArb

/-- The checks on a signed image (R470, R518, R520): the status, 0 where it passes. -/
def State.imageStatus (s : State) (i : Image) (quanas : Bool) : Nat :=
  let src := if quanas then i.keySrc == 0 else keySrcOk s.sec.lc i.keySrc || (i.selftest && i.keySrc == 0 && s.sec.lc != 5)
  if !i.formOk || !i.whole || !s.deviceOk i.family i.device i.speed i.temp i.stepMin then stBadArg
  else if !src || (s.sec.lc == 3 && !quanas && !i.secure && !i.selftest) then stDenied
  else if !s.imageKeyOk i.keySrc i.keyIdx i.keyHash || !i.sigOk then stAuth
  else if i.arb < s.storedArb i.keySrc then stVersion
  else if !i.unwrapOk || !i.tagsOk then stAuth
  else stOk

/-- The caller of an address input holds its key identifier (R508). -/
def State.callerHolds (s : State) (c : BzCommand) : Bool := s.agentHolds c.agent c.kid

/-- IMAGE_LIB (R520). -/
def State.imageLib (s : State) (i : Image) : State := s.bzRun 11 (fun c s =>
  let used := (List.range 64).any (fun r => s.bit (Reg.LIB_RG r) 31 && s.fld (Reg.LIB_RG r) 0 8 == c.arg) || s.live.regions.any (fun e => e.2.load == some c.arg)
  let st := s.imageStatus i false
  if 252 ≤ c.arg then s.bzEnd c stBadArg [] 1
  else if !s.callerHolds c then s.bzEnd c stDenied [] 1
  else if used then s.bzEnd c stInUse [] 1
  else if st ≠ 0 then s.bzEnd c st [] (if st = stAuth then 2 else 1)
  else if i.arb < s.boot.arb then s.bzEnd c stVersion [] 1
  else
    let e : LibEntry := { kind := 1, cls := i.cls, reloc := i.reloc, selftest := i.selftest, secure := i.secure, home := i.home, ver := i.ver, arb := i.arb, crc := i.crc, hash := i.hash, segs := i.segs }
    ((s.setLibEntry c.arg e).bzLog 1 c.arg i.hash).bzEnd c stOk [] 1)

/-- IMAGE_CD: bank B of the control-die region (R489, R520). -/
def State.imageCd (s : State) (i : Image) : State := s.bzRun 12 (fun c s =>
  let st := s.imageStatus i false
  if !s.callerHolds c then s.bzEnd c stDenied [] 1
  else if st ≠ 0 then s.bzEnd c st [] (if st = stAuth then 2 else 1)
  else if i.segs.any (fun g => g.target != 5 && g.target != 6) || decide (s.boot.cdSize * 524288 < segBytes i.segs) then s.bzEnd c stBadArg [] 1
  else if i.arb < s.boot.arb then s.bzEnd c stVersion [] 1
  else (((i.segs.foldl (fun (t : State) (g : Segment) => t.placeCd 1 g) { s with boot := { s.boot with bankB := i.segs } }).bzLog 2 1 i.hash)).bzEnd c stOk [] 1)

/-- FW_ACTIVATE (R519). -/
def State.fwActivate (s : State) (i : Image) : State := s.bzRun 13 (fun c s =>
  let st := s.imageStatus i true
  if !s.callerHolds c then s.bzEnd c stDenied [] 5
  else if st ≠ 0 then s.bzEnd c st [] (if st = stAuth then 2 else 5)
  else if i.segs.length ≠ 1 ∨ i.segs.any (fun g => g.target != 8) ∨ 98304 < segBytes i.segs then s.bzEnd c stBadArg [] 5
  else if i.ver < s.sec.fwVer then s.bzEnd c stVersion [] 5
  else ((s.setSec (fun v => { v with fwVer := i.ver, fwCert := i.cert })).bzLog 3 0 i.hash).bzEnd c stOk [] 1)

/-- RANDOM: `arg` times 8 bytes from the DRBG. -/
def State.random (s : State) : State := s.bzRun 14 (fun c s =>
  if c.arg = 0 ∨ 64 < c.arg then s.bzEnd c stBadArg [] 1
  else
    let out := (List.range c.arg).flatMap (fun i => leBytes 8 (Config.freeValue (s.free + i)).toNat)
    ({ s with free := s.free + c.arg }).bzEnd c stOk out 1)

/-- Raise an anti-rollback counter; below the stored value nothing changes. -/
def State.raiseArb (s : State) (src v : Nat) : State :=
  s.setSec (fun x => { x with otp := if src = 0 then { x.otp with quanasArb := max x.otp.quanasArb (min v 256) } else { x.otp with ownerArb := max x.otp.ownerArb (min v 768) } })

/-- ARB_ADVANCE (R517). -/
def State.arbAdvance (s : State) : State := s.bzRun 15 (fun c s =>
  let v := leNat (c.input.take 4)
  if 1 < c.arg then s.bzEnd c stBadArg [] 1
  else if v < s.storedArb c.arg then s.bzEnd c stVersion [] 1
  else
    let lim := if s.boot.keySrc = c.arg then s.boot.arb else 0
    (s.raiseArb c.arg (min v lim)).bzEnd c stOk [] 1)

/-- A token by an owner image key of an unrevoked slot; by the Quanas token key. -/
def State.ownerToken (s : State) (msg : List Byte) (t : Token) : Bool :=
  (List.range 4).any (fun i => s.imageKeyOk 1 i (Config.digest t.pub)) && Config.verify t.pub msg t.sig
def State.quanasToken (s : State) (msg : List Byte) (t : Token) : Bool := Config.digest t.pub == s.sec.otp.tokenKey && Config.verify t.pub msg t.sig

/-- OTP_SET (R525): request byte 0 sets `pwd_off`, 1 revokes the slot in the next byte, which is another than the signer's; the token signs
the request. [Log 154 DEDUCED] -/
def State.otpSet (s : State) (t : Token) : State := s.bzRun 16 (fun c s =>
  let what := (c.input.getD 0 0).toNat
  let slot := (c.input.getD 1 0).toNat
  let o := s.sec.otp
  let left := (List.range 4).filter (fun i => o.ownerKeys.any (fun e => e.1 == i) && !o.revoked.testBit i)
  if s.sec.lc ≠ 2 ∧ s.sec.lc ≠ 3 then s.bzEnd c stDenied [] 1
  else if 1 < what ∨ (what = 1 ∧ 4 ≤ slot) then s.bzEnd c stBadArg [] 1
  else if !s.ownerToken c.input t then s.bzEnd c stAuth [] 2
  else if what = 0 then (s.setSec (fun v => { v with otp := { o with pwdOff := true } })).bzEnd c stOk [] 1
  else if left = [slot] ∨ !(List.range 4).any (fun i => i != slot && s.imageKeyOk 1 i (Config.digest t.pub)) then s.bzEnd c stDenied [] 1
  else (s.setSec (fun v => { v with otp := { o with revoked := o.revoked ||| 2 ^ slot } })).bzEnd c stOk [] 1)

/-! ## Life cycle (R498 to R502) -/

/-- Every key identifier is cleared in all engines at once, and the vault is zeroed (R501, R522). -/
def State.wipeKeys (s : State) : State :=
  let s := (s.wr Reg.MPE_KSTAT_LO 0).wr Reg.MPE_KSTAT_HI 0
  s.setSec (fun v => { v with keys := [], vault := [] })

/-- The message a life-cycle token signs (R499). -/
def State.lcMessage (s : State) (target : Nat) : List Byte := [0x51, 0x4C, 0x43, 0x31] ++ leBytes 8 s.sec.otp.serial ++ leBytes 1 s.sec.lc ++ leBytes 1 target

/-- Whether a transition is listed and its tokens verify (R499): 0, or the status. [Log 152 DESIGN CHOICE] -/
def State.lcStatus (s : State) (target : Nat) (ts : List Token) (block : Option Provisioning) : Nat :=
  let m := s.lcMessage target
  let q := ts.any (s.quanasToken m)
  let o := ts.any (s.ownerToken m)
  let need (b : Bool) : Nat := if b then stOk else stAuth
  match s.sec.lc, target with
  | 0, 1 => need q
  | 1, 2 => match block with
    | none => stBadArg
    | some b => if 4 < b.imageKeys.length then stBadArg else need (q && b.unwraps)
  | 2, 3 => need o
  | 2, 4 | 3, 4 => need (q && o)
  | 5, _ => stDenied
  | lc, 5 => need (q || (o && (lc == 2 || lc == 3)))
  | _, _ => stDenied

/-- LC_CHANGE (R501): verify, wipe, zero-fill, program, record, device reset with cause 4. -/
def State.lcChange (s : State) (ts : List Token) (block : Option Provisioning) : State := s.bzRun 17 (fun c s =>
  let target := (c.input.getD 0 0).toNat
  let st := s.lcStatus target ts block
  if st ≠ 0 then s.bzEnd c st [] (if st = stAuth then 2 else 1)
  else
    let s := s.wipeKeys
    let s := if c.arg % 2 = 1 then { s with mem := { s.mem with engines := s.mem.engines.keep (fun e => decide (4 ≤ e)) } } else s
    let s := match s.sec.lc, block with
      | 1, some b => if target = 2 then s.setSec (fun v => { v with otp := { v.otp with owner := true, ownerKeys := b.imageKeys.zipIdx.foldl (fun (m : SMap Nat) (e : Nat × Nat) => m.set e.2 e.1 0) [], debugKey := b.debugKey, password := b.password, uutca := b.uutca, kek := b.kek, signKey := b.signKey } }) else s
      | _, _ => s
    let s := (s.setSec (fun v => { v with lc := target })).raise 6 (errCode 17 4) 4 0x13 4
    s.deviceReset 4)

/-! ## Sensors and the response (R521 to R523) -/

/-- Every command in progress ends with ABORTED. -/
def State.abortCommands (s : State) : State :=
  let chans := s.sec.cmds.map (·.chan)
  chans.foldl (fun s n => ((s.setFld (Reg.BZ_RSP n) 0 12 10).flag (Reg.BZ_RSP n) 12).raise 3 (errCode 17 1) 4 0x13 n) (s.setSec (fun v => { v with cmds := [] }))

/-- The response in force for a class: LOG, SAFE or WIPE; code 3 acts as WIPE (R522). [Log 156 DEDUCED] -/
def State.respond (s : State) (code : Nat) : State :=
  match code with
  | 0 => s
  | 1 => (s.abortCommands).setSafe (fun c => { c with security := true })
  | _ =>
    let s := (s.abortCommands).setSafe (fun c => { c with security := true })
    (s.wipeKeys).setSec (fun v => { v with wiping := true, ready := false })

/-- A sensor class raises an event (R521 to R523). [Log 156 DEDUCED] -/
def State.sensorEvent (s : State) (cls : Nat) : State :=
  if 7 ≤ cls then s else
  let s := s.flag Reg.BZ_SENS cls
  let s := if cls = 4 then s.setSec (fun v => { v with otpErr := true }) else s
  if s.sec.wiping then s
  else
    let s := if cls = 6 then s else s.raise 7 (errCode 17 3) 4 0x13 4
    s.respond (s.fld Reg.BZ_RESP (2 * cls) 2)

/-! ## Writes of the common block (R526) -/

/-- A write of BZ_RESP: `resp` and `creq` are locked together by `lock`. -/
def State.bzRespWrite (s : State) (w : Word) : State :=
  let s := if s.sec.locked then (if wfld w 0 14 = s.fld Reg.BZ_RESP 0 14 then s else s.raise 3 0x0002 4 0x13 4) else s.wr Reg.BZ_RESP (BitVec.ofNat 32 (wfld w 0 14))
  if wbit w 31 then s.setSec (fun v => { v with locked := true }) else s

/-- A write of BZ_CERT.creq. -/
def State.bzCertWrite (s : State) (w : Word) : State :=
  if s.sec.locked then (if wbit w 31 == s.bit Reg.BZ_CERT 31 then s else s.raise 3 0x0002 4 0x13 4) else s.setBit Reg.BZ_CERT 31 (wbit w 31)

end Sys2Proof.Machine
end

