-- ==== Sys2Proof/Machine/Clocks.lean ====
section
/-!
DEFINITION. References, PLLs and CLOCK_HOLD (R414 to R426, R433, R570).
-/
namespace Sys2Proof.Machine

def State.setClk (s : State) (f : Clocks → Clocks) : State := { s with clk := f s.clk }

/-- The spine reference: index 1 or 2 of R414, as the image header selects. -/
def State.spineRef (s : State) : Nat := if s.bit Reg.CLK_CTL 3 then 2 else 1

/-- A reference is selected (R420). -/
def State.refSelected (s : State) (i : Nat) : Bool := i == 0 || i == s.spineRef || s.bit Reg.CLK_MONSEL i

/-- CLK_MONSEL as it reads: the bits of XTAL and the spine reference read 1. -/
def State.monselRead (s : State) : Word := s.rd Reg.CLK_MONSEL ||| BitVec.ofNat 32 (1 + 2 ^ s.spineRef)

/-- CLK_CTL written: `resume` 2 and 3 act as AUTO. -/
def State.clkCtlWrite (s : State) (w : Word) : State :=
  let bad := decide (2 ≤ wfld w 0 2)
  let s := (s.setFld Reg.CLK_CTL 0 2 (if bad then 0 else wfld w 0 2)).setBit Reg.CLK_CTL 2 (wbit w 2)
  if bad then s.flagErr Reg.CLK_STAT 9 3 (errCode 14 4) else s

/-- CLK_STAT as it reads. -/
def State.clkStatRead (s : State) : Word :=
  let c := s.clk
  s.rd Reg.CLK_STAT ||| BitVec.ofNat 32 (b2n c.hold + c.cause % 32 * 2 + b2n c.relocked * 64 + b2n c.relPend * 128)

/-! ## Fabric PLLs (R418) -/

/-- CLK_FPLL written. -/
def State.fpllWrite (s : State) (die i : Nat) (w : Word) : State × Resp :=
  let key := Reg.CLK_FPLL die i
  let stat := Reg.CLK_FPLL_STAT die i
  let old := s.rd key
  let w := w &&& 0x0FFFFFFF
  if wbit old 0 && wfld old 1 27 != wfld w 1 27 then (s, .refused)
  else if !wbit w 0 then ((s.wr key w).setBit stat 0 false, .ok)
  else if wbit old 0 then (s, .ok)
  else if 5 ≤ wfld w 1 3 ∨ wfld w 4 6 = 0 then ((s.wr key (wsetBit w 0 false)).flagErr stat 2 3 (errCode 14 4), .ok)
  else
    let (inRange, outOk) := s.fpllRanges die w
    let s := s.wr key w
    (if inRange && outOk then s else s.flagErr stat 2 3 (errCode 14 4), .ok)

/-- The reference of a fabric PLL is present. -/
def State.fpllRefOk (s : State) (die i : Nat) : Bool :=
  let ref := s.fld (Reg.CLK_FPLL die i) 1 3
  if ref = 0 then s.refOk s.spineRef && !s.clk.copies.contains (die, s.spineRef) else s.refOk (6 + 4 * die + ref)

/-- A fabric PLL locks, where it is enabled within its ranges and its reference is present: its global clocks start. -/
def State.fpllLock (s : State) (die i : Nat) : State :=
  let key := Reg.CLK_FPLL die i
  if s.bit key 0 && (s.fpllRanges die (s.rd key)).1 && s.fpllRefOk die i then s.setBit (Reg.CLK_FPLL_STAT die i) 0 true else s

/-- A fabric PLL loses lock: its global clocks stop. -/
def State.fpllLoss (s : State) (die i : Nat) : State :=
  let stat := Reg.CLK_FPLL_STAT die i
  if s.bit stat 0 then (s.setBit stat 0 false).flagErr stat 1 4 (errCode 14 3) else s

/-! ## Loss of a reference (R419 to R422) -/

/-- A reference that feeds quads or links of its own is lost: its local effects (R418, R420). -/
def State.localLoss (s : State) (i : Nat) : State :=
  if 7 ≤ i then
    let die := (i - 7) / 4
    let q := (i - 7) % 4
    let s := s.xrefLost die q
    (List.range 8).foldl (fun s n => if s.fld (Reg.CLK_FPLL die n) 1 3 = q + 1 then s.fpllLoss die n else s) s
  else if 3 ≤ i then
    let p := (i - 3) / 2
    let b := (i - 3) % 2 == 1
    if b && !s.linkUp p true then s.cxlLinkLost p false 1 else s.cxlLinkLost p b 1
  else s

/-- The clocks made from a reference stop (R417, R422). -/
def State.clocksStop (s : State) (i : Nat) : State :=
  if i = 0 then ((s.setBit Reg.CLK_STAT 16 false).setFld Reg.CLK_STAT 19 4 0).setClk (fun c => { c with xtalLost := true })
  else if i = s.spineRef then
    let s := ((s.setBit Reg.CLK_STAT 17 false).setBit Reg.CLK_STAT 18 false).setClk (fun c => { c with spineLost := true })
    { s with spine := { s.spine with pllLock := false, run := false } }
  else s.localLoss i

/-- CLOCK_HOLD begins, or goes on with one more reference lost (R422, R426). -/
def State.enterHold (s : State) (i : Nat) : State :=
  let s := s.setSafe (fun c => { c with reference := true })
  let c := s.clk
  let s := if c.hold then s.setClk (fun c => { c with lost := if c.lost.contains i then c.lost else c.lost ++ [i], relocked := false })
    else (s.setClk (fun c => { c with hold := true, cause := i, lost := [i], relocked := false, relPend := false, xtalLost := false, spineLost := false, heldUs := 0 })).flag Reg.CLK_STAT 8
  let s := s.clocksStop i
  -- the record names the reference: its index in the source flags
  (s.raise 5 (errCode 14 1) 4 0x02 0).flagLast i

/-- A reference is lost at its package input: CLOCK_HOLD where it is selected, else its local effect alone (R420, R422). -/
def State.referenceLoss (s : State) (i : Nat) : State :=
  if 23 ≤ i || s.clk.por || !s.refOk i then s
  else
    let s := (s.setBit Reg.CLK_REFOK i false).flag Reg.CLK_REFLOST i
    if s.refSelected i then s.enterHold i else s.localLoss i

/-- The frequency check of a reference fails (R419). -/
def State.frequencyCheck (s : State) (i : Nat) : State := if 23 ≤ i then s else s.flagErr Reg.CLK_REFFREQ i 3 (errCode 14 2)

/-! ## The end of a hold (R424, R425) -/

/-- µs the hold has lasted: what it had lasted at the relock, and DT since. -/
def State.holdUs (s : State) : Nat := s.clk.heldUs + (s.now - s.clk.relockDt).toNat / 16000

/-- CLOCK_HOLD is released (R424): pins and lanes return, timeouts go on, the length is recorded. -/
def State.releaseHold (s : State) : State :=
  let c := s.clk
  if !c.hold || !c.relocked then s
  else
    let us := if c.xtalLost && c.spineLost then 0xFFFFFFFF else min s.holdUs 0xFFFFFFFF
    let s := s.setClk (fun c => { c with hold := false, relocked := false, relPend := false, xtalLost := false, spineLost := false, dieReq := [] })
    let s := s.setSafe (fun x => { x with reference := false })
    let s := (List.range 4).foldl (fun s d => if s.dieLost d then s else s.restartLanes d) s
    let s := (s.wr Reg.CLK_HOLDLEN (BitVec.ofNat 32 us)).flag Reg.CLK_STAT 10
    -- the record gives the length; where in it is not stated
    let s := ((s.raise 3 0x0006 4 0x02 0).flagLast (s.freeNat 16)).drawn
    c.dieReq.foldl (fun s d => s.dieReset d) s

/-- A write of CLK_CMD.release: acts at once after the relock, is kept before it, and is ignored outside a hold. -/
def State.releaseWrite (s : State) : State :=
  if !s.clk.hold then s
  else if s.clk.relocked then s.releaseHold
  else s.setClk (fun c => { c with relPend := true })

/-- A reference is present again after 4,096 edges, `us` µs into a hold (R419, R425). -/
def State.referenceReturn (s : State) (i us : Nat) : State :=
  if 23 ≤ i then s
  else
    let s := s.setBit Reg.CLK_REFOK i true
    let c := s.clk
    if !c.hold then s
    else
      let s := s.setClk (fun c => { c with lost := c.lost.filter (· != i), heldUs := us, relockDt := s.now })
      if s.clk.lost ≠ [] then s
      else match c.devReq with
        | some _ => s.dueReset
        | none =>
          if !s.userMode || (c.xtalLost && (c.spineLost || decide (2000 < us))) then s.deviceReset 6
          else s

/-- PLLs relock on references that are all present, `us` µs into the hold: DT goes on, receivers recalibrate, modules retrain, and release follows
at once where it is AUTO, pending or asked for by RESUME (R424). [Log 234 DEDUCED] -/
def State.pllRelock (s : State) (us : Nat) : State :=
  let c := s.clk
  if !c.hold || !c.lost.isEmpty || c.relocked then s
  else
    let s := if c.xtalLost then (s.setBit Reg.CLK_STAT 16 true).setFld Reg.CLK_STAT 19 4 15 else s
    let s := if c.spineLost then
        let s := (s.setBit Reg.CLK_STAT 17 true).setBit Reg.CLK_STAT 18 true
        let sp := s.spine
        let edge (i : Nat) : Bool := [0, 1, 2].contains (s.domSrc i)
        { s.modulesRelock with spine := { sp with pllLock := true, run := true, recal := [0, 1, 2, 3].map (fun d => (d, 1)), doms := sp.doms.mapVals {} (fun i d => if edge i then { d with restart := true } else d) } }
      else s
    let s := s.setClk (fun c => { c with relocked := true, heldUs := us, relockDt := s.now })
    if s.fld Reg.CLK_CTL 0 2 ≠ 1 ∨ s.clk.relPend ∨ s.clk.resume then s.releaseHold else s

/-! ## Power-up (R415, R428, R571) -/

/-- The amplitude detector trips; XO_BYP and XO_WAIT have been sampled (R415, R571). -/
def State.amplitudeDetect (s : State) (byp : Bool) (wait : Nat) : State :=
  if s.clk.por && !s.clk.amp then (s.setClk (fun c => { c with amp := true, xoByp := byp, xoWait := wait % 8 })).setBit Reg.CLK_REFOK 0 true else s

/-- The crystal wait ends and POR releases: the straps are sampled, start-up begins at step 2, and the boot ROM takes OTP (R436, R452). -/
def State.porRelease (s : State) (x : Straps) : State :=
  if s.clk.por && s.clk.amp then
    let s := s.setClk (fun c => { c with por := false })
    let s := s.wr Reg.CFG_STRAP (BitVec.ofNat 32 (b2n x.dual + b2n x.failDone * 2 + s.clk.xoWait * 4 + b2n s.clk.xoByp * 32))
    s.setBootState 0
  else s

/-- The spine PLL locks in start-up: DT starts at 0 at the first tick after it (R47). -/
def State.spineLock (s : State) : State :=
  if s.clk.por || s.clk.hold || s.spine.pllLock || !s.refOk s.spineRef then s
  else
    let s := (s.setBit Reg.CLK_STAT 17 true).setBit Reg.CLK_STAT 18 true
    { s with spine := { s.spine with pllLock := true, run := true, dt := 0, deskewed := [0, 1, 2, 3].map (fun d => (d, true)) }, tick := 0 }

end Sys2Proof.Machine
end

