-- ==== Sys2Proof/Machine/Recorder.lean ====
section
/-!
DEFINITION. The event recorder: filter, acceptance, store, freeze (R544 to R556).
-/
namespace Sys2Proof.Machine

def State.setRecorder (s : State) (f : Recorder → Recorder) : State := { s with recorder := f s.recorder }

/-- The filter of a record's trigger (R550). -/
def State.recordPasses (s : State) (r : Raised) : Bool :=
  let t := s.rd (Reg.REC_TCFG (r.trig + 1))
  decide (5 ≤ r.sev) || (wbit t 0 && decide (wfld t 1 3 ≤ r.sev))

/-- A register a trigger's snapshot word reads, `rel` applied; none: unused (R550). [Log 39 DEDUCED] -/
def State.snapAddress (s : State) (r : Raised) (w : Nat) : Option Nat :=
  let a := (s.rd (Reg.REC_SNAP (r.trig + 1) w)).toNat
  if a = 0xFFFFFFFF then none
  else if s.bit (Reg.REC_TCFG (r.trig + 1)) 8 then some (regKey r.die (keyUnit a) r.inst (keyOff a))
  else some a

/-- Accept a record (R548): it takes its `seq` and waits for the store, or is dropped at a full FIFO. [Log 41 DEDUCED] -/
def State.acceptRecord (s : State) (r : Raised) (snap : List (Option Word)) : State :=
  let c := s.recorder
  if r.sev = 7 then
    if 16 ≤ c.fifo7.length then (s.count Reg.REC_DROP7 1).flag Reg.REC_STAT 4
    else s.setRecorder (fun c => { c with seq := (c.seq + 1) % 4194304, pulses := c.pulses.set r.sev (some s.now) none, fifo7 := c.fifo7 ++ [{ seq := c.seq, sev := 7, trig := r.trig, die := r.die, inst := r.inst, code := r.code, dt := r.dt, phase := r.phase, snap := snap, flags := r.flags, late := r.late, held := r.held }] })
  else if 64 ≤ c.fifo.length then (s.count Reg.REC_DROP 1).flag Reg.REC_STAT 2
  else s.setRecorder (fun c => { c with seq := (c.seq + 1) % 4194304, pulses := c.pulses.set r.sev (some s.now) none, fifo := c.fifo ++ [{ seq := c.seq, sev := r.sev, trig := r.trig, die := r.die, inst := r.inst, code := r.code, dt := r.dt, phase := r.phase, snap := snap, flags := r.flags, late := r.late, held := r.held }] })

/-! ## The store (R551 to R553) -/

/-- First slot of the severity-7 partition, and the end of the store. -/
def sev7Base : Nat := 7936
def storeSize : Nat := 8192

/-- The lowest-numbered empty slot in a range of `n` slots from `lo`. -/
def emptySlot (store : SMap (Option (Rec × Nat))) (lo n : Nat) : Option Nat :=
  ((List.range n).map (lo + ·)).find? (fun k => (store.get k none).isNone)

/-- The oldest record of a severity in the main partition. -/
def oldestOf (store : SMap (Option (Rec × Nat))) (sev : Nat) : Option Nat :=
  (store.foldl (fun (acc : Option (Nat × Nat)) e =>
    match e.2 with
    | some (r, age) => if e.1 < sev7Base ∧ r.sev = sev then (match acc with | some (_, a) => if age < a then some (e.1, age) else acc | none => some (e.1, age)) else acc
    | none => acc) none).map (·.1)

/-- Where a record of severity `sev` up to 6 goes in the main partition (R552). -/
def mainSlot (store : SMap (Option (Rec × Nat))) (sev : Nat) : Option Nat :=
  match emptySlot store 0 sev7Base with
  | some k => some k
  | none =>
    match (List.range sev).findSome? (oldestOf store) with
    | some k => some k
    | none => if sev ≤ 3 then oldestOf store sev else none

/-- Write a record into a slot. -/
def State.putRecord (s : State) (slot : Nat) (r : Rec) : State :=
  let s := s.setRecorder (fun c => { c with store := c.store.set slot (some (r, c.age)) none, age := c.age + 1 })
  if s.fld Reg.REC_CTL 17 3 ≤ r.sev then s.flag Reg.REC_STAT 5 else s

/-- Place a record in the main partition, or drop it (R552). -/
def State.storeMain (s : State) (r : Rec) : State :=
  match mainSlot s.recorder.store r.sev with
  | some k => s.putRecord k r
  | none => (s.count Reg.REC_DROP 1).flag Reg.REC_STAT 1

/-- Place a record in the severity-7 partition; the last slot raises REC_FULL (R553). -/
def State.storeSev7 (s : State) (r : Rec) : State :=
  match emptySlot s.recorder.store sev7Base (storeSize - sev7Base) with
  | some k =>
    let s := s.putRecord k r
    if (emptySlot s.recorder.store sev7Base (storeSize - sev7Base)).isNone then (s.flag Reg.REC_STAT 3).sensorEvent 6 else s
  | none => (s.count Reg.REC_DROP7 1).flag Reg.REC_STAT 4

/-- The oldest accepted record goes to the store, or is counted in a freeze (R552 to R554). -/
def State.recordStore (s : State) (sev7 : Bool) : State :=
  if sev7 then
    match s.recorder.fifo7 with
    | [] => s
    | r :: t => (s.setRecorder (fun c => { c with fifo7 := t })).storeSev7 r
  else
    match s.recorder.fifo with
    | [] => s
    | r :: t =>
      let s := s.setRecorder (fun c => { c with fifo := t })
      if s.recorder.frozen then s.count (Reg.REC_FRZCNT r.sev) 1 else s.storeMain r

/-! ## Freeze and clear (R554 to R556) -/

/-- A freeze of the main partition begins; its counts start from 0. -/
def State.recordFreeze (s : State) : State :=
  if s.recorder.frozen then s
  else (List.range 7).foldl (fun s n => s.wr (Reg.REC_FRZCNT n) 0) (s.setRecorder (fun c => { c with frozen := true, since := s.now }))

/-- The gap record of a freeze (R554). -/
def State.gapRecord (s : State) : Rec :=
  let n (k : Nat) : Nat := (s.rd (Reg.REC_FRZCNT k)).toNat
  let sev := ((List.range 7).reverse.find? (fun k => decide (n k ≠ 0))).getD 1
  let us := (s.now - s.recorder.since).toNat / 16000
  let total := (List.range 7).foldl (fun a k => a + n k) 0
  { seq := s.recorder.seq, sev := sev, trig := 21, die := 4, inst := 0, code := 0x000D, dt := s.tickEnd, phase := s.phaseAt (s.fld (Reg.REC_TCFG 22) 4 4) s.tickEnd, snap := (List.range 7).map (fun k => some (s.rd (Reg.REC_FRZCNT k))) ++ [some (BitVec.ofNat 32 (min us 0xFFFFFFFF))], flags := min total 0xFFFF, late := false, held := false }

/-- The freeze ends, by command or at its limit, with its gap record. -/
def State.recordUnfreeze (s : State) : State :=
  if !s.recorder.frozen then s
  else
    let g := s.gapRecord
    (s.setRecorder (fun c => { c with frozen := false, seq := (c.seq + 1) % 4194304 })).storeMain g

/-- The main partition is zeroed. -/
def State.recordClear (s : State) : State := s.setRecorder (fun c => { c with store := c.store.keep (fun k => decide (sev7Base ≤ k)) })

/-- REC_CMD: `clear`, then `unfrz`, then `frz` (R555). -/
def State.recCmdWrite (s : State) (w : Word) : State :=
  let s := if wbit w 2 then s.recordClear else s
  let s := if wbit w 1 then s.recordUnfreeze else s
  if wbit w 0 then s.recordFreeze else s

/-- `frz_max` ms have passed in a freeze (R554). [Log 40 DEDUCED] -/
def State.freezeLimit (s : State) : State := if s.fld Reg.REC_CTL 0 16 = 0 then s else s.recordUnfreeze

/-! ## Reading (R545, R546, R551) -/

/-- REC_STAT and REC_COUNT as they read. -/
def State.recStatRead (s : State) : Word := wsetBit (s.rd Reg.REC_STAT) 0 s.recorder.frozen
def State.recCountRead (s : State) : Word :=
  let n7 := (s.recorder.store.filter (fun e => decide (sev7Base ≤ e.1))).length
  BitVec.ofNat 32 (s.recorder.store.length - n7 + n7 * 65536)

/-- The 64 bytes of a record. -/
def Rec.bytes (r : Rec) : List Byte :=
  let hdr := r.seq + r.sev * 2 ^ 22 + r.trig * 2 ^ 25 + r.die * 2 ^ 31 + r.inst % 2 ^ 14 * 2 ^ 34 + r.code * 2 ^ 48
  let mask := (r.snap.zipIdx).foldl (fun n e => if e.1.isSome then n + 2 ^ e.2 else n) 0
  let flags := r.flags % 65536 + mask * 65536 + b2n r.late * 2 ^ 24 + b2n r.held * 2 ^ 25
  let body := leBytes 8 hdr ++ leBytes 8 r.dt.toNat ++ leBytes 8 r.phase.toNat ++ (r.snap.flatMap (fun w => leBytes 4 (w.getD 0).toNat)) ++ leBytes 4 flags
  body ++ leBytes 4 (crcBytes body)

/-- A word of the store at an offset (R551). -/
def State.storeRead (s : State) (off : Nat) : Word :=
  match s.recorder.store.get (off / 64) none with
  | some (r, _) => BitVec.ofNat 32 (leNat ((r.bytes.drop (off % 64)).take 4))
  | none => 0

end Sys2Proof.Machine
end

