-- ==== Sys2Proof/Machine/Debug.lean ====
section
/-!
DEFINITION. The debug access gate: TAP, authorisation, Facet run control, terminal; watchdog expiry (R528 to R543).
-/
namespace Sys2Proof.Machine

def State.setSession (s : State) (f : Session → Session) : State := { s with session := f s.session }

/-- A command or instruction is refused (DBG_ASTAT.denied). -/
def State.dbgDenied (s : State) : State := s.flag Reg.DBG_ASTAT 9

/-- An open session grants a scope (R530). [Log 19 DEDUCED] -/
def State.hasScope (s : State) (bit : Nat) : Bool := s.session.state == 2 && s.session.scope.testBit bit

/-! ## The TAP (R528, R529) -/

/-- The IEEE 1149.1 IDCODE of stepping A1: version 2, part number 0x9440, manufacturer 0x1D5 (R2). -/
def idcode : Nat := 0x2 * 2 ^ 28 + 0x9440 * 2 ^ 12 + 0x1D5 * 2 + 1

/-- An instruction is loaded: one whose condition is not met acts as BYPASS and sets `denied`; a reserved code acts as BYPASS.
[Log 213 PRESUMED] -/
def State.tapInstruction (s : State) (code : Nat) : State :=
  let known := [0x00, 0x01, 0x02, 0x03, 0x04, 0x05, 0x06, 0x10, 0x11, 0xFF].contains code
  let need : Option Nat := if [0x00, 0x03, 0x04, 0x05, 0x06].contains code then some 5 else if code = 0x11 then some 4 else none
  let load (s : State) (c : Nat) : State := s.withBoundary (fun s => s.setSession (fun x => { x with ir := c, dr := if c = 0x01 then idcode else 0 }))
  match need with
  | some b => if s.hasScope b then load s code else (load s 0xFF).dbgDenied
  | none => load s (if known then code else 0xFF)

/-- The boundary register's cells as shifted in under SAMPLE/PRELOAD or a boundary instruction: pin key, level, driver. -/
def State.tapCells (s : State) (l : List (Nat × Bool × Bool)) : State :=
  s.setSession (fun x => { x with cells := l.foldl (fun m e => if e.1 < 960 then m.set e.1 e.2 (false, false) else m) x.cells })

/-- Test-Logic-Reset selects IDCODE; the session goes on. -/
def State.tapReset (s : State) : State := s.tapInstruction 0x01

/-! ## Authorisation (R531 to R533) -/

/-- The bytes of DBG_ABUF from word `w`. -/
def State.abuf (s : State) (w n : Nat) : List Byte := ((List.range ((n + 3) / 4)).flatMap (fun i => leBytes 4 (s.rd (Reg.DBG_ABUF (w + i))).toNat)).take n

/-- DBG_ABUF is zeroed at the end of a command. -/
def State.clearAbuf (s : State) : State := { s with csr := s.csr.keep (fun k => !(keyDie k == 4 && keyUnit k == 0x16 && decide (0x200 ≤ keyOff k ∧ keyOff k < 0x400))) }

/-- Authorisation failed: counted, and refused for 100 ms; at 8 failures the gate is LOCKED_OUT (R531). -/
def State.authFailed (s : State) : State :=
  let n := s.session.fails + 1
  let s := s.setSession (fun x => { x with fails := min n 8, busy := true, challenge := none, state := if 8 ≤ n then 4 else 0 })
  s.raise 4 (errCode 18 1) 4 0x16 0

/-- A session opens in a mode with its scopes and key; the record carries mode and scopes, where in its flags is not stated.
[Log 37 DESIGN CHOICE] -/
def State.openSession (s : State) (mode scope key : Nat) : State :=
  let s := s.setSession (fun x => { x with state := 2, mode := mode, scope := scope, erased := false, fails := 0, challenge := none, key := key, count := 0, bad := 0 })
  ((s.raise 4 0x0009 4 0x16 0).flagLast (s.freeNat 16)).drawn

/-- No authorisation command is taken: a failure delay runs, the gate is LOCKED_OUT or a session is open, or scope bit 7 is asked for. -/
def State.authRefused (s : State) (scope : Nat) : Bool := s.session.busy || decide (2 ≤ s.session.state) || scope.testBit 7

/-- `op` = PASSWORD (R531). [Log 159 DEDUCED] -/
def State.password (s : State) (scope : Nat) : State :=
  let pw := s.abuf 0 48
  let s := s.clearAbuf
  if s.authRefused scope || !([1, 2].contains s.sec.lc) || s.sec.otp.pwdOff then s.dbgDenied
  else
    let s := s.setSession (fun x => { x with challenge := none, state := 0 })
    if Config.digest pw = s.sec.otp.password then s.openSession 1 (scope % 128 &&& 0x77) 0 else s.authFailed

/-- Words of a byte string into DBG_ABUF from word `w`. -/
def State.putAbuf (s : State) (w : Nat) (l : List Byte) : State :=
  ((bytesWords l).zipIdx).foldl (fun s e => s.wr (Reg.DBG_ABUF (w + e.2)) e.1) s

/-- `op` = CHALLENGE (R532): nonce, ephemeral public key and serial to DBG_ABUF. -/
def State.challenge (s : State) (scope : Nat) : State :=
  let s := s.clearAbuf
  if s.authRefused scope || s.sec.lc == 5 then s.dbgDenied
  else
    let n := s.freeWide 6
    let q := (s.drawnN 6).freeWide 6
    let s := s.drawnN 12
    let s := s.setSession (fun x => { x with state := 1, challenge := some (n, q) })
    ((s.putAbuf 0 (leBytes 48 n)).putAbuf 12 (Config.publicKey q)).putAbuf 36 (leBytes 8 s.sec.otp.serial)

/-- The hash a token's signing key must have (R532). -/
def State.debugKeyHash (s : State) : Nat := if s.sec.lc = 2 ∨ s.sec.lc = 3 then s.sec.otp.debugKey else s.sec.otp.tokenKey

/-- A verified RESPONSE in DEPLOYED: record, wipe, device reset; the session opens at its release (R533). -/
def State.sessionErase (s : State) (scope key : Nat) (zfill : Bool) : State :=
  let s := (s.raise 6 (errCode 18 3) 4 0x16 0).wipeKeys
  let s := if zfill then { s with mem := { s.mem with engines := s.mem.engines.keep (fun e => decide (4 ≤ e)) } } else s
  (s.setSession (fun x => { x with state := 3, challenge := none, fails := 0, opening := some (scope, key) })).deviceReset 5

/-- `op` = RESPONSE (R532, R533); `late` in the cycle in which the challenge expires. [Log 159 DEDUCED] -/
def State.response (s : State) (scope : Nat) (zfill late : Bool) : State :=
  let sig := s.abuf 0 96
  let d := s.abuf 24 96
  let pub := s.abuf 48 96
  let s := s.clearAbuf
  match s.session.state, s.session.challenge with
  | 1, some (n, q) =>
    let s := if late then (s.flag Reg.DBG_ASTAT 7).lateArrival 4 0x16 0 else s
    let msg := [0x51, 0x44, 0x42, 0x47, 0x31] ++ leBytes 48 n ++ leBytes 8 s.sec.otp.serial ++ leBytes 48 (Config.digest (Config.publicKey identityKey)) ++ leBytes 1 scope ++ Config.publicKey q ++ d
    if scope.testBit 7 then (s.setSession (fun x => { x with state := 0, challenge := none })).dbgDenied
    else if Config.digest pub ≠ s.debugKeyHash ∨ !Config.verify pub msg sig then s.authFailed
    else
      let key := Config.derive (q + 2 ^ 384 * leNat d) n
      if s.sec.lc = 3 then s.sessionErase scope key zfill else s.openSession 2 scope key
  | _, _ => s.dbgDenied

/-- `op` = CLOSE (R533, R535). -/
def State.closeCommand (s : State) : State :=
  let erased := s.session.erased
  let s := s.closeSession.clearAbuf
  if erased then s.deviceReset 5 else s

/-- DBG_ACMD written. -/
def State.acmdWrite (s : State) (w : Word) : State :=
  match wfld w 0 3 with
  | 0 => s
  | 1 => s.password (wfld w 8 8)
  | 2 => s.challenge (wfld w 8 8)
  | 3 => s.response (wfld w 8 8) (wbit w 3) false
  | 4 => s.closeCommand
  | _ => s.flag Reg.DBG_ASTAT 14

/-- A challenge expires 10 s after its issue. -/
def State.challengeExpiry (s : State) : State := if s.session.state = 1 then s.setSession (fun x => { x with state := 0, challenge := none }) else s

/-- The 100 ms refusal ends. -/
def State.authDelayEnd (s : State) : State := s.setSession (fun x => { x with busy := false })

/-- DBG_ASTAT as it reads. -/
def State.astatRead (s : State) : Word :=
  let x := s.session
  (s.rd Reg.DBG_ASTAT &&& 0x4380) ||| BitVec.ofNat 32 (x.state + x.mode * 8 + b2n x.busy * 32 + b2n x.erased * 64 + x.fails * 1024 + x.scope * 65536)

/-! ## Facet run control (R537) -/

/-- The Facet DBG_FSEL selects, where it exists. -/
def State.fsel (s : State) : Option (Nat × Nat) := let p := s.fld Reg.DBG_FSEL 0 9; if p < 272 then some (s.fld Reg.DBG_FSEL 9 2, p) else none

/-- An operation on the selected Facet is refused (DBG_FSTAT.ref). -/
def State.fRefused (s : State) : State := s.flag Reg.DBG_FSTAT 3

/-- HALT by run control. -/
def State.facetHalt (s : State) : State × Resp :=
  match s.fsel with
  | none => (s.fRefused, .refused)
  | some (d, p) => (s.haltFacet d p true (s.facet d p).haltFrz, .ok)

/-- RESUME by run control. -/
def State.facetResume (s : State) : State × Resp :=
  match s.fsel with
  | none => (s.fRefused, .refused)
  | some (d, p) => (s.haltFacet d p false (s.facet d p).haltFrz, .ok)

/-- A register of a Facet by its code (R537); none: reserved. -/
def Facet.debugRead (f : Facet) (c : Nat) : Option Nat :=
  let fields (a : BitVec 56) (k : Nat) : Nat := match k with | 0 => a.toNat / 2 ^ 47 % 512 | 1 => a.toNat / 2 ^ 23 % 2 ^ 24 | _ => a.toNat % 2 ^ 23
  if c < 0x10 then some (f.dreg c).toNat
  else if c < 0x1C then some (fields (f.areg ((c - 0x10) / 3)) ((c - 0x10) % 3))
  else if 0x20 ≤ c ∧ c < 0x28 then some (f.preg (c - 0x20))
  else if 0x28 ≤ c ∧ c < 0x30 then some (f.s.get (c - 0x28) 0).toNat
  else if 0x30 ≤ c ∧ c < 0x38 then some (f.lreg (c - 0x30))
  else match c with
    | 0x38 => some f.sr.toNat
    | 0x39 => some f.mr.toNat
    | 0x3A => some f.lc.toNat
    | 0x3B => some f.pc
    | 0x3C => some (f.param + f.task * 65536)
    | 0x3D => some (f.evt + b2n f.pend * 65536 + b2n f.ovr * 131072)
    | 0x58 => some (f.loops.length + f.calls.length * 256)
    | _ =>
      if 0x40 ≤ c ∧ c < 0x4C then
        match f.loops.reverse[(c - 0x40) / 3]? with
        | some e => some (match (c - 0x40) % 3 with | 0 => e.start | 1 => e.stop | _ => e.count)
        | none => some 0
      else if 0x50 ≤ c ∧ c < 0x58 then some ((f.calls.reverse[c - 0x50]?).getD 0)
      else none

/-- Write a register of a halted Facet by its code; none: read only or reserved. -/
def Facet.debugWrite (f : Facet) (c v : Nat) : Option Facet :=
  if c < 0x10 then some { f with d := f.d.set c (BitVec.ofNat 24 v) 0 }
  else if c < 0x1C then
    let x := (c - 0x10) / 3
    let a := (f.areg x).toNat
    let n := match (c - 0x10) % 3 with
      | 0 => a % 2 ^ 47 + v % 512 * 2 ^ 47
      | 1 => a - a / 2 ^ 23 % 2 ^ 24 * 2 ^ 23 + v % 2 ^ 24 * 2 ^ 23
      | _ => a - a % 2 ^ 23 + v % 2 ^ 23
    some { f with a := f.a.set x (BitVec.ofNat 56 n) 0 }
  else if 0x20 ≤ c ∧ c < 0x28 then some { f with p := f.p.set (c - 0x20) (BitVec.ofNat 13 v) 0 }
  else if 0x28 ≤ c ∧ c < 0x30 then some { f with s := f.s.set (c - 0x28) (BitVec.ofNat 13 v) 0 }
  else if 0x30 ≤ c ∧ c < 0x38 then some { f with l := f.l.set (c - 0x30) (BitVec.ofNat 13 v) 0 }
  else match c with
    | 0x38 => some { f with sr := BitVec.ofNat 5 v }
    | 0x39 => some { f with mr := BitVec.ofNat 12 v }
    | 0x3A => some { f with lc := BitVec.ofNat 16 v }
    | 0x3B => some { f with pc := pc12 v }
    | 0x3C => some { f with param := v % 65536, task := v / 65536 % 64 }
    | 0x3D => some { f with evt := v % 65536, pend := wbit (BitVec.ofNat 32 v) 16, ovr := wbit (BitVec.ofNat 32 v) 17 }
    | _ => none

/-- A write of DBG_FREG (R537): with `go`, reads into or writes from DBG_FDATA. -/
def State.fregWrite (s : State) (w : Word) : State × Resp :=
  let s := s.wr Reg.DBG_FREG (w &&& 0xFF)
  if !wbit w 31 then (s, .ok)
  else match s.fsel with
    | none => (s.fRefused, .refused)
    | some (d, p) =>
      let f := s.facet d p
      let c := wfld w 0 7
      if wbit w 7 then
        if f.state ≠ .halted then (s.fRefused, .refused)
        else match f.settle.debugWrite c (s.fld Reg.DBG_FDATA 0 24) with
          | some g => (s.setFacet d p g, .ok)
          | none => (s.fRefused, .refused)
      else if f.state ≠ .halted ∧ f.state ≠ .faulted then (s.fRefused, .refused)
      else match f.settle.debugRead c with
        | some v => (s.wr Reg.DBG_FDATA (BitVec.ofNat 32 (v % 2 ^ 24)), .ok)
        | none => (s.fRefused, .refused)

/-- State code of a Facet (R227). -/
def FState.code : FState → Nat
  | .off => 0 | .idle => 1 | .running => 2 | .urgent => 3 | .halted => 4 | .faulted => 5 | .stopped => 6

/-- DBG_FSTAT as it reads. [Log 32 DEDUCED] -/
def State.fstatRead (s : State) : Word :=
  let st := match s.fsel with | some (d, p) => (s.facet d p).state.code | none => 0
  BitVec.ofNat 32 (st + b2n (s.bit Reg.DBG_FSTAT 3) * 8)

/-! ## Virtual terminal (R543) -/

/-- A byte is pushed into the output FIFO by an agent 0 to 5. -/
def State.txPush (s : State) (b : Byte) : State :=
  if 64 ≤ s.session.tx.length then s.flag Reg.DBG_VT_TX 16 else s.setSession (fun x => { x with tx := x.tx ++ [b] })
/-- The debugger pops the head of the output FIFO. -/
def State.txPop (s : State) : State := s.setSession (fun x => { x with tx := x.tx.drop 1 })
/-- The debugger pushes a byte into the input FIFO. -/
def State.rxPush (s : State) (b : Byte) : State :=
  if 64 ≤ s.session.rx.length then s.flag Reg.DBG_VT_RX 16 else s.setSession (fun x => { x with rx := x.rx ++ [b] })
/-- DBG_VT_TX or DBG_VT_RX with a head, its presence, the count and flags. -/
def vtWord (l : List Byte) (flags : Nat) : Word := BitVec.ofNat 32 ((l.head?.map (·.toNat)).getD 0 + b2n (!l.isEmpty) * 256 + l.length * 512 + flags * 65536)
/-- An agent 0 to 5 reads and pops the head of the input FIFO; an empty FIFO returns 0 and sets `unf`. -/
def State.rxPop (s : State) : State × Word :=
  let w := vtWord s.session.rx (s.fld Reg.DBG_VT_RX 16 2)
  match s.session.rx with
  | [] => (s.flag Reg.DBG_VT_RX 17, 0)
  | _ :: t => (s.setSession (fun x => { x with rx := t }), w)

/-- DBG_VT_TX written: push by agents 0 to 5 (`op` 0), pop by the debugger in an open session (`op` 1). -/
def State.vtTxWrite (s : State) (req : Nat) (w : Word) : State :=
  let s := if wbit w 16 then s.setBit Reg.DBG_VT_TX 16 false else s
  match wfld w 30 2 with
  | 0 => if req < 6 then s.txPush (w.setWidth 8) else s
  | 1 => if req = 16 ∧ s.session.state = 2 then s.txPop else s
  | _ => s

/-- DBG_VT_RX written: push by the debugger in an open session (`op` 0). -/
def State.vtRxWrite (s : State) (req : Nat) (w : Word) : State :=
  let s := s.wr Reg.DBG_VT_RX (s.rd Reg.DBG_VT_RX &&& ~~~(w &&& 0x30000))
  if wfld w 30 2 = 0 ∧ req = 16 ∧ s.session.state = 2 then s.rxPush (w.setWidth 8) else s

/-! ## Watchdog expiry (R539, R540) -/

/-- A watchdog has counted down: its first expiry, or the action of its second. -/
def State.wdtExpiry (s : State) (i : Nat) : State :=
  let c := s.core i
  let ctl := s.rd (Reg.CORE_WDT_CTL i)
  if 6 ≤ i || !wbit ctl 0 || c.paused then s
  else if !c.second then (((s.flag (Reg.CORE_WDT_STAT i) 24).wdtReload i).setCore i { c with second := true }).raise 3 (errCode 18 4) 5 0x19 i
  else
    let s := (s.wdtReload i).raise 5 (errCode 18 4) 5 0x19 i
    match wfld ctl 2 2 with
    | 1 => s.dieReset 5
    | 2 => s.deviceReset 3
    | _ => s

end Sys2Proof.Machine
end

