-- ==== Sys2Proof/Machine/FacetIssue.lean ====
section
/-!
DEFINITION. Issue cycles of a Facet, single steps, and view accesses to its memories (R211, R216, R229, R233, R234, R239, R268, R271).
-/
namespace Sys2Proof.Machine

/-! ## One issue cycle -/

/-- One effect of a bundle outside its Facet (R216, R229, R268, R271). [Log 88 DEDUCED] -/
def State.facetEffect (s : State) (die p : Nat) (e : FEffect) : State :=
  let rg := p / 17
  match e with
  | .overflow => s.flagErr (Reg.FACET_STAT die p) 16 3 (errCode 7 2)
  | .request task param => (s.requestTask die rg task param none false).1
  | .urgent l code => s.raiseUrgent die (s.physOf die rg l) code 3
  | .kick q => if s.dieLost (homeOf q) then s else s.kick q
  | .recd sev code flags => (s.raise sev (0xF100 + code) die (48 + code / 16) p).flagLast flags
  | .ended =>
    let f := s.facet die p
    let taskless := f.state == .urgent && f.fromIdle
    let s := if taskless then s else s.completeTask die p f.run
    s.facetRest die p { (s.facet die p).settle with run := {} }
  | .returned =>
    let f := s.facet die p
    if f.fromIdle then s.facetRest die p f.settle else s.setFacet die p { f with state := .running }

/-- Whether a bundle is a WAIT. -/
def Bundle.isWait : Bundle → Bool
  | .ctl .wait => true
  | _ => false

/-- The bundle a Facet issues next, as its due writes leave it; none: a parity error or an unassigned encoding. -/
def Facet.upcoming (f : Facet) : Option Bundle := if f.badProg.get f.pc false then none else decodeBundle (f.prog.get f.pc 0)

/-- Whether a Facet issues bundles now: it runs a task or a handler, its domain is in RUN, its clock runs (R227, R240, R421).
[Log 90 DEDUCED] -/
def State.facetIssues (s : State) (die p : Nat) : Bool :=
  let st := (s.facet die p).state
  (st == .running || st == .urgent) && !(s.clk.hold && !s.bit Reg.CLK_STAT 17) && !s.dieLost die && s.power.dom.get (64 + 16 * die + p / 17) 0 == 0

/-- The count of the task watchdog after this cycle reaches its limit (R239). -/
def Facet.watchdogDue (f : Facet) : Bool :=
  f.run.wdog != 0 && !f.wdone && !(f.state == .urgent && f.fromIdle) && decide (16 * f.run.wdog ≤ f.wcyc + 1)

/-- One issue cycle of a Facet: the bundle at PC issues, stalls or faults (R216, R234, R239). [Log 85 DESIGN CHOICE] -/
def State.issueCycle (s : State) (die p : Nat) : State :=
  let f := s.facet die p
  let wait := match f.upcoming with | some b => b.isWait | none => false
  let due := f.watchdogDue
  let g := { f with cyc := f.cyc + 1, wcyc := f.wcyc + 1, wait := f.wait - 1, stall := false, run := { f.run with started := true } }
  if due && !wait then s.facetFault die p g .wdog
  else
    let s := if due then (s.flag (Reg.FACET_STAT die p) 19).lateArrival die 0x08 p else s
    let g := { g with wdone := g.wdone || due }
    match g.fetchIssue (s.portsOf die p) with
    -- a stall outside a REP window is a boundary, after a loop-back as well (R230)
    | .stall => s.setFacet die p { g with stall := true, back := false }
    | .fault c => s.facetFault die p g.land c
    | .done h q es =>
      let s := s.setFacet die p h
      let s := match s.logOf die p with | some l => s.setPorts die (p / 17 * 16 + l) q | none => s
      es.foldl (fun s e => s.facetEffect die p e) s

/-- An issue cycle in which a bundle of one kind is due: a bundle of another kind does not issue here; one that decodes to none
faults (R247). [Log 5 DEDUCED, 85 DESIGN CHOICE] -/
def State.issueAs (s : State) (die p : Nat) (kind : Bundle → Bool) : State :=
  if !(s.facetIssues die p) then s
  else match (s.facet die p).upcoming with
    | some b => if kind b then s.issueCycle die p else s
    | none => s.issueCycle die p

/-- The word a move loads first, as an address of `badData`: bank B counts from 8,192. -/
def Facet.loads (f : Facet) (bank : Nat) : Move → Option Nat
  | .ld _ p _ | .lda _ p _ | .ldp _ p _ => some (bank + f.addr p)
  | _ => none

/-- An error in the memories of a Facet as its next bundle finds it (R211, R234): a single-bit error leaves the word as it was, since the
read corrects it and writes it back. [Log 197 DEDUCED] -/
def Facet.upset (f : Facet) (u : Upset) : Facet :=
  let bad (x : Option Nat) : Facet := match x with | some a => { f with badData := f.badData.set a true false } | none => f
  match u with
  | .none | .single => f
  | .program => { f with badProg := f.badProg.set f.pc true false }
  | .dataA => match f.upcoming with | some (.par _ a _) => bad (f.land.loads 0 a) | _ => f
  | .dataB => match f.upcoming with | some (.par _ _ m) => bad (f.land.loads 8192 m) | _ => f

/-- An error strikes a Facet that issues bundles. [Log 197 DEDUCED] -/
def State.strike (s : State) (die p : Nat) (u : Upset) : State :=
  match u with
  | .none => s
  | _ => if s.facetIssues die p then s.setFacet die p ((s.facet die p).upset u) else s

/-- The task watchdog's count reaches its limit (R239); where the task's WAIT issues in that cycle, it wins. -/
def State.taskWatchdog (s : State) (die p : Nat) : State :=
  let f := s.facet die p
  let wait := match f.upcoming with | some b => b.isWait | none => false
  if s.facetIssues die p && f.watchdogDue && !wait then s.facetFault die p f.land .wdog else s

/-! ## Single steps (R233, R537) -/

/-- Issue until the Facet stands outside delay slots and repetitions, or no longer runs. -/
def State.stepBundles (s : State) (die p : Nat) : Nat → State
  | 0 => s
  | n + 1 =>
    let s := s.issueCycle die p
    let f := s.facet die p
    if (f.state == .running || f.state == .urgent) && !f.stall && (f.slot.isSome || f.rep != 0) then s.stepBundles die p n else s

/-- A HALTED Facet runs one bundle, with its delay slots or as a whole REP, and halts again. [Log 89 DEDUCED] -/
def State.stepHalted (s : State) (die p : Nat) : State :=
  let f := s.facet die p
  let t := (s.setFacet die p { f with state := f.haltedFrom }).stepBundles die p 1030
  let g := t.facet die p
  if g.state = .running ∨ g.state = .urgent then t.setFacet die p { g with state := .halted, haltedFrom := g.state } else t

/-- STEP of the selected Facet: one bundle, with its delay slots or as a whole REP (R233). [Log 89 DEDUCED] -/
def State.facetStep (s : State) : State × Resp :=
  match s.fsel with
  | none => (s.fRefused, .refused)
  | some (die, p) =>
    let f := s.facet die p
    if f.state ≠ .halted then (s.fRefused, .refused)
    else if f.haltedFrom = .idle then (s, .ok)
    else (s.stepHalted die p, .ok)

/-! ## Streams at the Region boundary (R216) -/

/-- User logic pushes a word into an IN port of a logical Facet that is not full; a stalled bundle may then issue. -/
def State.streamIn (s : State) (die rg l port : Nat) (v : BitVec 24) : State :=
  let lg := rg * 16 + l
  let q := s.ports die lg
  let held := if port = 0 then q.in0 else q.in1
  if 32 ≤ held.length || s.isolated die rg then s
  else s.setPorts die lg (if port = 0 then { q with in0 := q.in0 ++ [v] } else { q with in1 := q.in1 ++ [v] })

/-- User logic drains a word from an OUT port. -/
def State.streamOut (s : State) (die rg l port : Nat) : State :=
  let lg := rg * 16 + l
  let q := s.ports die lg
  if s.isolated die rg then s
  else s.setPorts die lg (if port = 0 then { q with out0 := q.out0.drop 1 } else { q with out1 := q.out1.drop 1 })

/-! ## View accesses (R211) -/

/-- A read of a Facet memory at a byte offset of its 128 KiB sub-window. -/
def State.facetView (s : State) (die p off : Nat) : Resp × Word :=
  let f := s.facet die p
  if off < 0x8000 then
    let w := f.prog.get (off / 8) 0
    (.ok, if off / 4 % 2 = 0 then loHalf w else hiHalf w)
  else if off < 0x10000 then (.ok, (f.bankA.get ((off - 0x8000) / 4) 0).setWidth 32)
  else if off < 0x18000 then (.ok, (f.bankB.get ((off - 0x10000) / 4) 0).setWidth 32)
  else (.noTarget, 0)

/-- A write of a data-bank word. -/
def State.bankWrite (s : State) (die p : Nat) (isB : Bool) (a : Nat) (w : Word) : State :=
  s.setFacet die p ((s.facet die p).store isB a (w.setWidth 24))

/-- A write of half a bundle: the low half is held, the high half stores the bundle with fresh parity and is ignored without a held low
half, as in R6, while the Facet is OFF or HALTED (R211). [Log 91 DEDUCED] -/
def State.programWrite (s : State) (die p : Nat) (req : Requester) (off : Nat) (w : Word) : State × Resp :=
  let f := s.facet die p
  let b := off / 8 % 4096
  if f.state ≠ .off ∧ f.state ≠ .halted then (s, .refused)
  else if off / 4 % 2 = 0 then (s.setFacet die p { f with low := f.low.set (b * 32 + req.code) (some w) none }, .ok)
  else match f.low.get (b * 32 + req.code) none with
  | none => (s, .ok)
  | some lo => (s.setFacet die p { f with prog := f.prog.set b (joinHalves w lo) 0, badProg := f.badProg.set b false false, low := f.low.set (b * 32 + req.code) none none }, .ok)

/-- A write of a Facet memory at a byte offset of its sub-window. -/
def State.facetViewWrite (s : State) (die p : Nat) (req : Requester) (off : Nat) (w : Word) : State × Resp :=
  if off < 0x8000 then s.programWrite die p req off w
  else if off < 0x10000 then (s.bankWrite die p false ((off - 0x8000) / 4) w, .ok)
  else if off < 0x18000 then (s.bankWrite die p true ((off - 0x10000) / 4) w, .ok)
  else (s, .noTarget)

end Sys2Proof.Machine
end

