-- ==== Sys2Proof/Machine/Calendar.lean ====
section
/-!
DEFINITION. The Event Calendar: entries, arming, boundaries, evaluation, placement, firing, actions and delivery (R75 to R107, R587).

Local entries 0 to 16,383 of a slice are its table; 16,384 + n stands for its shadow entry n (R105).
-/
namespace Sys2Proof.Machine

/-! ## Entries (R77) -/

/-- Entry `i` of a slice. -/
def State.entry (s : State) (die i : Nat) : CalEntry :=
  if i < 16384 then (s.slice die).table.get i {} else (s.slice die).shadow.get (i - 16384) {}

/-- Replace entry `i` of a slice. -/
def State.setEntry (s : State) (die i : Nat) (e : CalEntry) : State :=
  let c := s.slice die
  s.setSlice die (if i < 16384 then { c with table := c.table.set i e {} } else { c with shadow := c.shadow.set (i - 16384) e {} })

/-- A field of word 7. -/
def CalEntry.f (e : CalEntry) (lo n : Nat) : Nat := e.ctl / 2 ^ lo % 2 ^ n
def CalEntry.armed (e : CalEntry) : Bool := e.f 0 1 == 1
def CalEntry.timed (e : CalEntry) : Bool := e.f 1 1 == 1
def CalEntry.dir (e : CalEntry) : Nat := e.f 2 2
def CalEntry.skips (e : CalEntry) : Bool := e.f 4 1 == 1
def CalEntry.inDtu (e : CalEntry) : Bool := e.f 5 1 == 1
def CalEntry.action (e : CalEntry) : Nat := e.f 8 4
def CalEntry.domain (e : CalEntry) : Nat := e.f 12 4
def CalEntry.setArmed (e : CalEntry) (b : Bool) : CalEntry := { e with ctl := e.ctl / 2 * 2 + b2n b }
/-- Whether firings in a direction are allowed. -/
def CalEntry.allows (e : CalEntry) (fwd : Bool) : Bool := if fwd then e.dir == 0 || e.dir == 2 else e.dir == 1 || e.dir == 2

/-- Word `w` of an entry as it reads. -/
def CalEntry.word (e : CalEntry) (w : Nat) : Word :=
  match w with
  | 0 => loHalf e.target
  | 1 => hiHalf e.target
  | 2 => loHalf e.step
  | 3 => hiHalf e.step
  | 4 => e.arg
  | 5 => e.width
  | 6 => BitVec.ofNat 32 (e.count + e.chain * 2 ^ 16)
  | _ => BitVec.ofNat 32 (e.ctl + b2n e.pend * 2 ^ 24 + b2n e.latef * 2 ^ 25 + b2n e.hov * 2 ^ 26 + b2n e.errf * 2 ^ 27)

/-- An entry with word `w` written; `armed` and the status bits are the slice's. -/
def CalEntry.setWord (e : CalEntry) (w : Nat) (v : Word) : CalEntry :=
  match w with
  | 0 => { e with target := joinHalves (hiHalf e.target) v }
  | 1 => { e with target := joinHalves v (loHalf e.target) }
  | 2 => { e with step := joinHalves (hiHalf e.step) v }
  | 3 => { e with step := joinHalves v (loHalf e.step) }
  | 4 => { e with arg := v }
  | 5 => { e with width := v }
  | 6 => { e with count := wfld v 0 16, chain := wfld v 16 16 }
  | _ => { e with ctl := wfld v 1 20 * 2 + e.ctl % 2 }

/-! ## Errors (R106) -/

/-- Report an error of entry `i`: code 0 E_CAL_ENTRY, 1 E_CAL_RESERVED, 2 E_CAL_ACTION. [Log 55 DEDUCED] -/
def State.calError (s : State) (die i code : Nat) : State :=
  let act := code == 2
  let c := s.slice die
  let seen := if act then c.actSeen else c.cfgSeen
  let s := s.flag (Reg.CAL_STAT die) (if act then 4 else 3)
  if seen then s else
  let s := s.setSlice die { c with actSeen := c.actSeen || act, cfgSeen := c.cfgSeen || !act }
  (s.wr (Reg.CAL_ERRENT die) (BitVec.ofNat 32 (i % 16384 + code * 2 ^ 16 + 2 ^ 31))).raise 3 (errCode 3 (code + 1)) die 0x04 0

/-! ## Disarming and arming (R95, R97, R98) -/

/-- Disarm an entry: any backlog occurrence of it is dropped (R95). -/
def State.disarm (s : State) (die i : Nat) : State :=
  let s := s.setEntry die i { (s.entry die i).setArmed false with pend := false, fresh := false, catchUp := none }
  let c := s.slice die
  s.setSlice die { c with backlog := c.backlog.filter (fun b => b.entry != i) }

/-- Disarm an entry by an error (R84, R85, R101). -/
def State.disarmError (s : State) (die i : Nat) : State :=
  let s := s.disarm die i
  (s.setEntry die i { s.entry die i with errf := true }).calError die i 0

/-- The checks at arming (R97). -/
def CalEntry.armable (e : CalEntry) (die i : Nat) : Bool :=
  let a := e.action
  let pinAct := 1 ≤ a && a ≤ 4
  let sel := wfld e.arg 10 2
  let usesPin := (pinAct && sel == 0) || a == 5 || a == 10
  let sized := a == 4 || a == 5
  e.dir != 3 && !(e.timed && e.dir != 0) && !(!e.inDtu && e.timed) && !(!e.inDtu && e.dir != 0 && sized) &&
    e.count != 0 && !(e.step == 0 && e.count != 1) && !(sized && e.width == 0) &&
    !(usesPin && wfld e.arg 0 10 / 240 != die) && !(pinAct && 2 ≤ sel) &&
    !(a == 12 && wfld e.arg 0 3 == 7) && !(e.f 6 1 == 1 && i < 16384 && e.chain == die * 16384 + i)

/-- Arm an entry; `anchor` is added to a relative target, none where `rel` is ignored (R97, R98). [Log 55 DEDUCED] -/
def State.arm (s : State) (die i : Nat) (anchor : Option DWord) : State :=
  let e := s.entry die i
  if e.armed then s
  else if !(e.armable die i) then (s.setEntry die i { e with errf := true }).calError die i 0
  else
    let t := match anchor with | some a => if e.f 20 1 = 1 then a + e.target else e.target | none => e.target
    s.setEntry die i { e.setArmed true with target := t, fresh := true, catchUp := none, errf := false }

/-- The anchor at the boundary that ends this tick, for an arming by no firing against the entry's domain (R98). -/
def State.boundaryAnchor (s : State) (e : CalEntry) (timeAnchor : DWord) : DWord :=
  if e.timed then timeAnchor else (s.dom e.domain).cur s.now s.spine.len

/-- The anchor of an arming by a firing (R98). -/
def State.firingAnchor (s : State) (e : CalEntry) (a : Arming) : DWord :=
  if !e.timed && a.dom == some e.domain then a.occ else s.boundaryAnchor e a.dt

/-! ## What waits for a tick boundary (R94 to R104) -/

/-- A write of word `w` of entry `i` is applied (R95). -/
def State.calWord (s : State) (die i w : Nat) (v : Word) : State × Resp :=
  let e := s.entry die i
  if e.armed && (w != 7 || wbit v 0) then (s.flag (Reg.CAL_STAT die) 7, .refused)
  else if w != 7 then (s.setEntry die i (e.setWord w v), .ok)
  else
    let s := s.disarm die i
    let s := s.setEntry die i ((s.entry die i).setWord 7 v)
    (if wbit v 0 then s.arm die i none else s, .ok)

/-- CAL_CTL.en takes effect: every armed entry is tested anew (R104). [Log 58 DEDUCED] -/
def State.calEnable (s : State) (die : Nat) (en : Bool) : State :=
  let c := s.slice die
  if en && !c.en then
    let freshen (m : SMap CalEntry) : SMap CalEntry := m.mapVals {} (fun _ e => if e.armed then { e with fresh := true, catchUp := none } else e)
    s.setSlice die { c with en := true, table := freshen c.table, shadow := freshen c.shadow, frozen := none }
  else s.setSlice die { c with en := en, frozen := none }

/-- The response of an access that several slices answer (R586). -/
def worse (a b : Resp) : Resp :=
  let rank : Resp → Nat
    | .denied => 5 | .refused => 4 | .partialOk => 3 | .ok => 2 | .unreachable => 1 | .noTarget => 0
  if rank a < rank b then b else a

/-- Apply one waiting write to its slices, with the access's response (R94). [Log 52 DEDUCED] -/
def State.applyCalWrite (s : State) (w : List Nat × CalWrite) : State :=
  match w.2 with
  | .enable en => w.1.foldl (fun s die => s.calEnable die en) s
  | .word i k v req addr =>
    let (s, r) := (w.1.filter (fun die => decide (die < 4))).foldl (fun (acc : State × Option Resp) die =>
      let (t, r) := acc.1.calWord die i k v
      (t, some (match acc.2 with | some q => worse q r | none => r))) (s, none)
    match r with
    | some r => s.completeAccess req true addr (if r = .ok ∧ w.1.contains 7 then .partialOk else r) 0
    | none => s

/-- The staged operation of a slice (R100). [Log 55 DEDUCED] -/
def State.staged (s : State) (die : Nat) : State :=
  match (s.slice die).stage with
  | none => s
  | some (write, i) =>
    let s := s.setSlice die { s.slice die with stage := none }
    if write then
      let s := s.disarm die i
      let e := (List.range 8).foldl (fun e k => e.setWord k (s.rd (Reg.CAL_STG die k))) (s.entry die i)
      let s := s.setEntry die i e
      if s.bit (Reg.CAL_STG die 7) 0 then s.arm die i (some (s.boundaryAnchor e s.tickEnd)) else s
    else
      let e := s.entry die i
      (List.range 8).foldl (fun s k => s.wr (Reg.CAL_STG die k) (e.word k)) s

/-- The entries of a slice in group `g`: an entry never written is in group 0. [Log 57 DEDUCED] -/
def State.groupOf (s : State) (die g : Nat) : List Nat :=
  let listed := ((s.slice die).table.filter (fun p => p.2.f 16 4 == g)).map (·.1)
  if g = 0 then (List.range 16384).filter (fun i => (s.entry die i).f 16 4 == 0) else listed

/-- SHIFT of one member (R101). -/
def State.shiftEntry (s : State) (die i : Nat) (by_ : Int) : State :=
  let e := s.entry die i
  let t := (e.target.toNat : Int) + by_
  if t < 0 ∨ (2 ^ 64 : Int) ≤ t then s.disarmError die i
  else s.setEntry die i { e with target := BitVec.ofInt 64 t, fresh := e.fresh || e.armed, catchUp := none }

/-- Whether a group command is due at the boundary that ends this tick (R101): `at` lies in the tick that follows, or has passed. -/
def State.gcmdDue (s : State) (at_ : Option DWord) : Bool :=
  match at_ with
  | none => true
  | some x => decide (x ≤ s.nextEnd)

/-- The group command of a slice (R101). [Log 57 DEDUCED] -/
def State.groupCommand (s : State) (die : Nat) : State :=
  match (s.slice die).gcmd with
  | none => s
  | some (op, g, at_) =>
    if !(s.gcmdDue at_) then s else
    let s := s.setSlice die { s.slice die with gcmd := none }
    match op with
    | 0 => (s.groupOf die g).foldl (fun s i => s.arm die i (some (s.boundaryAnchor (s.entry die i) s.tickEnd))) s
    | 1 => (s.groupOf die g).foldl (fun s i => s.disarm die i) s
    | 2 => (s.groupOf die g).foldl (fun s i => s.shiftEntry die i (s.rdPair (Reg.CAL_SHIFT_LO die) (Reg.CAL_SHIFT_HI die)).toInt) s
    | _ => s.flag (Reg.CAL_STAT die) 3

/-- One arming or disarming by a firing; `kept`: entries whose word 7 was written at this boundary, where the write wins (R102). -/
def State.applyArming (s : State) (die : Nat) (kept : List Nat) (a : Arming) : State :=
  let is := (if a.grp then s.groupOf die a.index else [a.index]).filter (fun i => !(kept.contains i))
  is.foldl (fun s i => if a.disarm then s.disarm die i else s.arm die i (some (s.firingAnchor (s.entry die i) a))) s

/-- The chain and CHAIN_ARM armings that take effect at this boundary, armings before disarmings; those bound for a lost die are
dropped (R81, R102, R104). [Log 53 DEDUCED] -/
def State.armings (s : State) (die : Nat) (kept : List Nat) : State :=
  if s.dieLost die then s else
  let c := s.slice die
  let far := s.flights.filterMap (fun f => match f with
    | (t, .arm d a) => if t ≤ s.tick + 1 ∧ d = die then some a else none
    | _ => none)
  let s := s.setSlice die { c with arms := [] }
  let all := c.arms ++ far
  let s := (all.filter (fun a => !a.disarm)).foldl (fun s a => s.applyArming die kept a) s
  (all.filter (fun a => a.disarm)).foldl (fun s a => s.applyArming die kept a) s

/-- The tick boundary of the slices: table writes in arrival order, staged operations, armings, group commands (R94, R102).
At the boundary of a step of DT, writes of CAL_CTL.en wait for the next one (R406). [Log 52 DEDUCED] -/
def State.calBoundary (s : State) : State :=
  let stepping := s.serial.step.isSome
  let isEn (w : List Nat × CalWrite) : Bool := match w.2 with | .enable _ => true | _ => false
  let now := s.calWrites.filter (fun w => !(stepping && isEn w))
  let kept (die : Nat) : List Nat := now.filterMap (fun w => match w.2 with
    | .word i 7 _ _ _ => if w.1.contains die then some i else none
    | _ => none)
  let s := { s with calWrites := s.calWrites.filter (fun w => stepping && isEn w) }
  let s := now.foldl (fun s w => s.applyCalWrite w) s
  let s := [0, 1, 2, 3].foldl (fun s die => ((s.staged die).armings die (kept die)).groupCommand die) s
  { s with flights := s.flights.filter (fun f => match f with | (t, .arm _ _) => decide (s.tick + 1 < t) | _ => true) }

/-! ## Register writes (R100, R101) -/

/-- A write of CAL_CTL (R104). -/
def State.calCtlWrite (s : State) (die : Nat) (w : Word) : State :=
  let s := s.wr (Reg.CAL_CTL die) (w &&& 0x1F)
  { s with calWrites := s.calWrites ++ [([die], .enable (wbit w 0))] }

/-- A write of CAL_STAT: flags written with 1 clear, and CAL_ERRENT with its flags (R106). -/
def State.calStatWrite (s : State) (die : Nat) (w : Word) : State :=
  let old := s.rd (Reg.CAL_STAT die)
  let new := old &&& ~~~(w &&& 0x39F)
  let s := s.wr (Reg.CAL_STAT die) new
  let c := s.slice die
  let s := s.setSlice die { c with cfgSeen := c.cfgSeen && wbit new 3, actSeen := c.actSeen && wbit new 4 }
  if wbit new 3 || wbit new 4 then s else s.wr (Reg.CAL_ERRENT die) (s.rd (Reg.CAL_ERRENT die) &&& 0x7FFFFFFF)

/-- A write of CAL_STG0 to CAL_STG7 (R100). -/
def State.calStgWrite (s : State) (die k : Nat) (w : Word) : State × Resp :=
  if (s.slice die).stage.isSome then (s.flag (Reg.CAL_STAT die) 7, .refused) else (s.wr (Reg.CAL_STG die k) w, .ok)

/-- A write of CAL_STG_CMD (R100). -/
def State.calStgCmdWrite (s : State) (die : Nat) (w : Word) : State × Resp :=
  let c := s.slice die
  if c.stage.isSome then (s.flag (Reg.CAL_STAT die) 7, .refused)
  else
    let s := s.wr (Reg.CAL_STG_CMD die) (w &&& 0x33FFF)
    match wfld w 16 2 with
    | 0 => (s, .ok)
    | 3 => (s.flag (Reg.CAL_STAT die) 3, .ok)
    | op => (s.setSlice die { c with stage := some (op == 1, wfld w 0 14) }, .ok)

/-- A write of CAL_GCMD (R101): `at` at or before the boundary of its arrival applies there and is late. -/
def State.calGcmdWrite (s : State) (die : Nat) (w : Word) : State × Resp :=
  let c := s.slice die
  if c.gcmd.isSome then (s, .refused)
  else
    let s := s.wr (Reg.CAL_GCMD die) (w &&& 0x7F)
    if !(wbit w 31) then (s, .ok)
    else
      let x := s.rdPair (Reg.CAL_GCMD_AT_LO die) (Reg.CAL_GCMD_AT_HI die)
      let late := wbit w 6 && decide (x ≤ s.tickEnd)
      let s := s.flagIf late (Reg.CAL_STAT die) 9
      (s.setSlice die { c with gcmd := some (wfld w 4 2, wfld w 0 4, if wbit w 6 && !late then some x else none) }, .ok)

/-- Calendar registers that show the slice's own state: CAL_STAT, CAL_BACKLOG, CAL_GCMD, CAL_STG_CMD. -/
def State.calStatRead (s : State) (die : Nat) : Word :=
  let c := s.slice die
  (s.rd (Reg.CAL_STAT die) &&& 0x39F) ||| BitVec.ofNat 32 (b2n c.stage.isSome * 32 + b2n c.gcmd.isSome * 64)
def State.calBacklogRead (s : State) (die : Nat) : Word := wset (s.rd (Reg.CAL_BACKLOG die)) 0 16 (s.slice die).backlog.length
def State.calGcmdRead (s : State) (die : Nat) : Word := wsetBit (s.rd (Reg.CAL_GCMD die)) 31 (s.slice die).gcmd.isSome
def State.calStgCmdRead (s : State) (die : Nat) : Word := wsetBit (s.rd (Reg.CAL_STG_CMD die)) 31 (s.slice die).stage.isSome

/-! ## Actions (R78 to R81, R91) -/

/-- The end of a pulse or window fired at `x` for occurrence `occ` (R91). -/
def CalEntry.endOf (e : CalEntry) (occ x : DWord) : EndAt :=
  if e.inDtu then .time (x + BitVec.ofNat 64 (max e.width.toNat 8)) else .phase e.domain occ e.width.toNat x

/-- What a pin action does to its line. -/
def CalEntry.pinOp (e : CalEntry) (occ x : DWord) : PinOp :=
  match e.action with
  | 1 => .set
  | 2 => .clear
  | 3 => .toggle
  | _ => .pulse (!(wbit e.arg 12)) (e.endOf occ x)

/-- Send an action on the phase virtual channel: it acts 16 ticks later (R81). -/
def State.send (s : State) (f : Flight) : State := { s with flights := s.flights ++ [(s.tick + 16, f)] }

/-- Arm or disarm through a firing: on the same slice before step 4 of the next tick, on another 16 ticks later (R81). [Log 53 DEDUCED] -/
def State.sendArming (s : State) (die slice : Nat) (a : Arming) : State :=
  if slice = die then s.setSlice die { s.slice die with arms := (s.slice die).arms ++ [a] } else s.send (.arm slice a)

/-- Whether a queue takes kicks (R80). -/
def State.kickable (s : State) (q : Nat) : Bool := let x := s.queue q; x.state == .run || x.state == .paused

/-- Kick a queue or a set; true where it is refused (R80, R317). [Log 171 DESIGN CHOICE] -/
def State.calKick (s : State) (set : Bool) (n : Nat) : State × Bool :=
  if set then
    let any := s.net.queues.any (fun x => x.1 / 128 == n && x.2.state != .disabled)
    (s.kickSet n (fun _ => true), !any)
  else if (s.queue n).state == .disabled then (s, true)
  else (s.kick n, false)

/-- A task request for the end of the tick. -/
def State.calRequest (s : State) (die rg task param : Nat) (dl : Option EndAt) (cal : Bool) : State :=
  s.setSlice die { s.slice die with reqs := (s.slice die).reqs ++ [(rg, task, param, dl, cal)] }

/-- DISPATCH (R78, R80, R237). -/
def State.calDispatch (s : State) (die : Nat) (e : CalEntry) (occ x : DWord) : State × Bool :=
  let rg := wfld e.arg 0 4
  let task := wfld e.arg 4 6
  if s.reconfiguring die rg || !(s.taskOk die rg task) then (s, true)
  else
    let dl := s.taskFld die rg task 3 0 24
    let due : Option EndAt :=
      if e.width ≠ 0 then some (if e.inDtu then .time (x + e.width.setWidth 64) else .phase e.domain occ e.width.toNat x)
      else if dl = 0 then none else some (.time (x + BitVec.ofNat 64 (32 * dl)))
    (s.calRequest die rg task (wfld e.arg 16 16) due true, false)

/-- FABRIC_STROBE (R174, R195, R235): the line, and the requests of the bindings that name it. [Log 61 DEDUCED] -/
def State.calStrobe (s : State) (die : Nat) (e : CalEntry) (x : DWord) : State × Bool :=
  let rg := wfld e.arg 0 4
  let line := wfld e.arg 4 8
  if s.isolated die rg then (s, true)
  else
    let k := 16 * die + rg
    let s := s.setFabric (fun f => { f with strobes := f.strobes.set k (f.strobes.get k [] ++ [(line, x)]) [] })
    let bound := (List.range 16).filter (fun n => s.bit (Reg.FDSP_STRB die rg n) 31 && s.fld (Reg.FDSP_STRB die rg n) 0 8 == line)
    (bound.foldl (fun s n => s.calRequest die rg (s.fld (Reg.FDSP_STRB die rg n) 8 6) (x.toNat % 65536) none false) s, false)

/-- PAD_SWITCH (R80, R155, R156): at an edge at which a written switch would begin, the scheduled one is taken first. [Log 60 DEDUCED] -/
def State.calPadSwitch (s : State) (die : Nat) (e : CalEntry) (x : DWord) : State × Bool :=
  let p := wfld e.arg 0 10 % 240
  let func := wfld e.arg 10 4
  let q := s.pad die p
  if q.lock.isSome then (s.raise 3 0x0002 die 0x06 p, true)
  else if (funcOf p func).2 then (s, true)
  else
    let edge := edgeFrom x
    let sel := s.fld (Reg.PAD_FUNC die p) 4 4
    let s := s.setFld (Reg.PAD_FUNC die p) 0 4 func
    let q1 := { q with calEdge := some edge, asked := none }
    match q.asked with
    | some (e1, f2, s2) =>
      if e1 = edge ∧ q.calEdge ≠ some edge then
        -- the write has not begun: it starts behind the scheduled switch, or at once where that changes nothing
        let q2 := match q.phases with
          | (_, .fn _ _) :: (e0, .leave _ _ _ _) :: rest => if e0 = edge then { q1 with phases := rest } else q1
          | _ => q1
        let s := s.setPad die p q2
        if q2.newest p = (func, sel) then (s.switchPad die p f2 s2 edge, false)
        else
          let s := s.beginSwitch die p func sel edge
          (s.setPad die p { s.pad die p with wait := some (f2, s2) }, false)
      else ((s.setPad die p q1).switchPad die p func sel edge, false)
    | none => ((s.setPad die p q1).switchPad die p func sel edge, false)

/-- Carry out the action of entry `i` for occurrence `occ` placed at `x`; true where the receiving unit refuses it (R78 to R81).
[Log 61 DEDUCED, 170 DESIGN CHOICE] -/
def State.calAction (s : State) (die i : Nat) (e : CalEntry) (occ x : DWord) : State × Bool :=
  let a := e.action
  let c := s.slice die
  let short := (a == 4 || a == 5) && e.inDtu && decide (e.width.toNat < 8)
  let clamp (s : State) : State := s.flagIf short (Reg.CAL_STAT die) 3
  match a with
  | 1 | 2 | 3 | 4 =>
    if wfld e.arg 10 2 = 1 then (clamp (s.setSlice die { c with pinOps := c.pinOps ++ [(true, wfld e.arg 0 8, x, e.pinOp occ x)] }), false)
    else
      let p := wfld e.arg 0 10 % 240
      if (s.unit die p).mode ≠ 3 then (s.flag (Reg.TIO_STAT die p) 20, true)
      else (clamp (s.setSlice die { c with pinOps := c.pinOps ++ [(false, p, x, e.pinOp occ x)] }), false)
  | 5 =>
    let p := wfld e.arg 0 10 % 240
    let m := (s.unit die p).mode
    if m ≠ 1 ∧ m ≠ 2 then (s.flag (Reg.TIO_STAT die p) 20, true)
    else (clamp (s.setSlice die { c with winOps := c.winOps ++ [(p, x, e.endOf occ x)] }), false)
  | 6 => s.calDispatch die e occ x
  | 7 =>
    let rg := wfld e.arg 0 4
    if s.reconfiguring die rg then (s, true)
    else (s.raiseUrgent die (s.physOf die rg (wfld e.arg 4 4)) (wfld e.arg 16 16) 1, false)
  | 8 =>
    let set := wbit e.arg 13
    let n := if set then wfld e.arg 0 6 else wfld e.arg 0 13
    let home := if set then homeOf (n * 128) else homeOf n
    if home = die then s.calKick set n
    else (s.send (if set then .kickSet die i n else .kick die i n), false)
  | 9 => s.calStrobe die e x
  | 10 => s.calPadSwitch die e x
  | 11 => s.loupeCalendar die (wfld e.arg 0 4) (x + 640)
  | 12 =>
    let u := wfld e.arg 8 8
    (s.send (.record { code := 0xF000 + u, sev := wfld e.arg 0 3, trig := 32 + u / 16, die := die, inst := i, dt := x, phase := s.phaseAt e.domain x, flags := wfld e.arg 16 16 }), false)
  | 13 =>
    let arming : Arming := { index := 0, disarm := wbit e.arg 30, dt := x, occ := occ, dom := if e.timed then none else some e.domain }
    if wbit e.arg 31 then (s.sendArming die die { arming with index := wfld e.arg 0 4, grp := true }, false)
    else (s.sendArming die (wfld e.arg 14 2) { arming with index := wfld e.arg 0 14 }, false)
  | 14 => (s.send (.domain die i (wfld e.arg 0 4) (wfld e.arg 4 4)), false)
  | 15 => (s.calError die i 1, false)
  | _ => (s, false)

/-! ## Advancing an entry (R84 to R86) -/

/-- The entry moves by `k` occurrences in a direction; beyond 64 bits it keeps its target and is disarmed (R84, R85). -/
def State.advance (s : State) (die i : Nat) (fwd : Bool) (k : Nat) : State :=
  let e := s.entry die i
  let by_ : Int := (k * e.step.toNat : Nat)
  let t := (e.target.toNat : Int) + (if fwd then by_ else -by_)
  if t < 0 ∨ (2 ^ 64 : Int) ≤ t then s.disarmError die i
  else s.setEntry die i { e with target := BitVec.ofInt 64 t }

/-- The occurrence an entry would fire next in a direction. -/
def CalEntry.next (e : CalEntry) (fwd : Bool) : DWord := if fwd then e.target else e.target - e.step

/-- Whether that occurrence has been passed: forward at or below the limit, reverse at or above it (R86, R99). -/
def CalEntry.passed (e : CalEntry) (fwd : Bool) (lim : DWord) : Bool :=
  if fwd then decide (e.target ≤ lim) else decide ((lim.toNat : Int) ≤ (e.target.toNat : Int) - e.step.toNat)

/-- `k` firings or skips are counted off; at 0 the entry is disarmed (R85, R86). -/
def State.countOff (s : State) (die i k : Nat) : State :=
  let e := s.entry die i
  if e.count = 0xFFFF then s
  else
    let s := s.setEntry die i { e with count := e.count - k }
    if e.count - k = 0 then s.disarm die i else s

/-- `k` occurrences are skipped (R86, R89). [Log 54 DEDUCED, 174 DESIGN CHOICE] -/
def State.skip (s : State) (die i : Nat) (fwd : Bool) (k : Nat) : State :=
  let s := s.setEntry die i { s.entry die i with latef := true, pend := false, fresh := false, catchUp := none }
  let s := (s.flag (Reg.CAL_STAT die) 1).count (Reg.CAL_SKIPCNT die) k
  (s.advance die i fwd k).countOff die i k

/-- Move an entry past every occurrence that `lim` has passed, each skipped (R86). [Log 54 DEDUCED] -/
def State.skipPast (s : State) (die i : Nat) (fwd : Bool) (lim : DWord) : State :=
  let e := s.entry die i
  if !e.armed || !(e.passed fwd lim) then s
  else
    let gone := if fwd then (lim - e.target).toNat else (e.target - e.step - lim).toNat
    let k := if e.step = 0 then 1 else gone / e.step.toNat + 1
    s.skip die i fwd (if e.count = 0xFFFF then k else min k e.count)

/-- What follows a firing: the next occurrence, if passed, is due at once or skipped (R86). [Log 172 DESIGN CHOICE] -/
def State.afterFiring (s : State) (die i : Nat) (fwd : Bool) (cur : DWord) : State :=
  let e := s.entry die i
  if !e.armed || !(e.passed fwd cur) then s
  else if e.skips then s.skipPast die i fwd cur
  else s.setEntry die i { e with catchUp := some (!fwd) }

/-! ## Evaluation (R82, R83, R88, R99, R103) -/

/-- A due occurrence: entry, occurrence, direction, placement, late, skipped within a jump (R88). -/
structure Due where
  entry : Nat
  occ   : DWord
  fwd   : Bool
  x     : DWord
  late  : Bool
  skip  : Bool := false
deriving DecidableEq, Repr

/-- prev and cur of an entry for this tick, and whether what is due is late because the slice was frozen; none: held (R82, R103).
[Log 59 DEDUCED] -/
def State.calSpan (s : State) (die : Nat) (e : CalEntry) : Option (DWord × DWord × Bool) :=
  let frozen := (s.slice die).frozen
  if e.timed then
    match frozen with
    | some (x, _) => some (x, s.tickEnd, decide (x ≠ s.now))
    | none => some (s.now, s.tickEnd, false)
  else
    let d := s.dom e.domain
    if !d.running then none
    else
      let cur := d.cur s.now s.spine.len
      match frozen with
      | some (_, ps) =>
        let p := ps.getD e.domain d.phase
        some (p, cur, !(s.domSrc e.domain == 5 && p == d.phase))
      | none => some (d.phase, cur, false)

/-- The placement of an occurrence crossed in this tick, and whether a jump beyond CAL_JUMPLIM makes it late (R64, R87, R88). -/
def State.placement (s : State) (die : Nat) (e : CalEntry) (occ : DWord) (fwd : Bool) : DWord × Bool :=
  if e.timed then (occ, false)
  else
    let d := s.dom e.domain
    let len := s.spine.len
    let within (k : Nat) : Bool :=
      let b := d.ph s.now len (k - 1)
      let a := d.ph s.now len k
      if fwd then decide (b < occ ∧ occ ≤ a) else decide (a ≤ occ ∧ occ < b)
    match d.jumps.find? within with
    | some k =>
      let b := d.ph s.now len (k - 1)
      let a := d.ph s.now len k
      let span := if a < b then (b - a).toNat else (a - b).toNat
      (s.now + BitVec.ofNat 64 k, decide ((s.rd (Reg.CAL_JUMPLIM die e.domain)).toNat < span))
    | none => (s.now + BitVec.ofNat 64 ((d.reach s.now len occ (!fwd)).getD len), false)

/-- A due occurrence placed at the first dtu of the tick, late (R87). [Log 59 DEDUCED] -/
def State.lateDue (s : State) (i : Nat) (e : CalEntry) (fwd : Bool) : Due :=
  { entry := i, occ := e.next fwd, fwd := fwd, x := s.now + 1, late := true }

/-- The condition of R83 and R84 for one entry. -/
def State.crossing83 (s : State) (die i : Nat) (p c : DWord) (late : Bool) : State × Option Due :=
  let e := s.entry die i
  let hit (fwd : Bool) : State × Option Due :=
    if !(e.allows fwd) then (s.advance die i fwd 1, none)
    else if late then
      (if e.skips then (s.skipPast die i fwd c, none) else (s, some (s.lateDue i e fwd)))
    else
      let occ := e.next fwd
      let (x, l) := s.placement die e occ fwd
      (s, some { entry := i, occ := occ, fwd := fwd, x := x, late := l, skip := l && e.skips })
  let r := (e.target.toNat : Int) - e.step.toNat
  if p < c ∧ p < e.target ∧ e.target ≤ c then hit true
  else if c < p ∧ (c.toNat : Int) ≤ r ∧ r < p.toNat then hit false
  else (s, none)

/-- Step 4 for one entry: the test after arming, a catch-up firing, or the condition of R83 (R82 to R86, R99).
[Log 56 DEDUCED, 173 DESIGN CHOICE] -/
def State.evaluate (s : State) (die i : Nat) : State × Option Due :=
  let e := s.entry die i
  if !e.armed || e.pend then (s, none) else
  match s.calSpan die e with
  | none => (s, none)
  | some (p, c, late) =>
    if e.fresh then
      let s := s.setEntry die i { e with fresh := false, catchUp := none }
      let fwd := if p = c then e.timed || !(s.dom e.domain).rev else decide (p < c)
      if e.allows fwd && e.passed fwd p then
        if e.skips then
          let s := s.skipPast die i fwd p
          if (s.entry die i).armed then s.crossing83 die i p c late else (s, none)
        else (s, some (s.lateDue i e fwd))
      else s.crossing83 die i p c late
    else match e.catchUp with
      | some rev => (s.setEntry die i { e with catchUp := none }, some (s.lateDue i e (!rev)))
      | none => s.crossing83 die i p c late

/-! ## Firing (R85, R89, R90) -/

/-- cur(t) for an entry. -/
def State.calCur (s : State) (e : CalEntry) : DWord := if e.timed then s.tickEnd else (s.dom e.domain).cur s.now s.spine.len

/-- Fire one occurrence (R80, R82, R85, R86, R89); a shadow entry writes its placement instead of acting (R105).
[Log 56 DEDUCED, 177 DESIGN CHOICE] -/
def State.fire (s : State) (die : Nat) (f : Due) : State :=
  let i := f.entry
  let e := s.entry die i
  let hov := !e.timed && (s.dom e.domain).state == .holdover
  let s := s.setEntry die i { e with latef := f.late, hov := hov, pend := false, fresh := false, catchUp := none }
  let s := s.flagIf hov (Reg.CAL_STAT die) 8
  let s := if f.late then (s.flag (Reg.CAL_STAT die) 0).count (Reg.CAL_LATECNT die) 1 else s
  let s := if i < 16384 then
      let (s, refused) := s.calAction die i e f.occ f.x
      if refused then s.calError die i 2 else s
    else s.setSlice die { s.slice die with results := (s.slice die).results.set (i - 16384) f.x 0 }
  let s := s.advance die i f.fwd 1
  let left := if e.count = 0xFFFF then 0xFFFF else e.count - 1
  let s := if e.f 6 1 = 1 ∧ (e.f 7 1 = 1 ∨ left = 0) then
      s.sendArming die (e.chain / 16384) { index := e.chain % 16384, dt := f.x, occ := f.occ, dom := if e.timed then none else some e.domain }
    else s
  (s.countOff die i 1).afterFiring die i f.fwd (s.calCur e)

/-- Skip one occurrence and every further one passed (R88, R90). [Log 175 DESIGN CHOICE] -/
def State.skipDue (s : State) (die : Nat) (f : Due) : State :=
  let e := s.entry die f.entry
  (s.skip die f.entry f.fwd 1).skipPast die f.entry f.fwd (s.calCur e)

/-- The order of R90 among newly due firings. [Log 62 DEDUCED] -/
def Due.lt (s : State) (die : Nat) (a b : Due) : Bool :=
  let key (f : Due) : List Nat :=
    let e := s.entry die f.entry
    [f.x.toNat, b2n (!e.timed), if e.timed then 0 else e.domain, if f.fwd then f.occ.toNat else 2 ^ 64 - f.occ.toNat, f.entry]
  lexLt (key a) (key b)

/-- Newly due firings with what is left of the 16; those beyond it wait in the backlog (R90). -/
def State.fireNew (s : State) (die : Nat) : Nat → List Due → State
  | _, [] => s
  | cap, f :: fs =>
    let e := s.entry die f.entry
    if !e.armed then s.fireNew die cap fs
    else if cap = 0 then
      let c := s.slice die
      let s := s.setSlice die { c with backlog := c.backlog ++ [{ entry := f.entry, due := s.now, occ := f.occ, rev := !f.fwd }] }
      ((s.setEntry die f.entry { e with pend := true, fresh := false, catchUp := none }).flag (Reg.CAL_STAT die) 2).fireNew die 0 fs
    else (if f.skip then s.skipDue die f else s.fire die f).fireNew die (cap - 1) fs

/-- One backlog occurrence at the head: fired late, or skipped (R87, R90). [Log 178 DESIGN CHOICE] -/
def State.fireBacklog (s : State) (die : Nat) (b : Waiting) : State :=
  let e := s.entry die b.entry
  if !e.armed then s
  else if e.skips then s.skipDue die { entry := b.entry, occ := b.occ, fwd := !b.rev, x := s.now + 1, late := true }
  else s.fire die { entry := b.entry, occ := b.occ, fwd := !b.rev, x := s.now + 1, late := true }

/-- Entries to evaluate: those listed, armed and not pending. [Log 56 DEDUCED] -/
def liveEntries (m : SMap CalEntry) (base : Nat) : List Nat := (m.filter (fun p => p.2.armed && !p.2.pend)).map (fun p => base + p.1)

/-- The entries of a list that come due in this tick, each looked at once. -/
def State.gatherDue (s : State) (die : Nat) (is : List Nat) : State × List Due :=
  is.foldl (fun (acc : State × List Due) i => let (s, d) := acc.1.evaluate die i; (s, acc.2 ++ d.toList)) (s, [])

/-- Step 4 of a slice (R82 to R90, R93, R103 to R105). -/
def State.calStep (s : State) (die : Nat) : State :=
  let c := s.slice die
  let s := s.setSlice die { c with pinOps := [], winOps := [], reqs := [] }
  if !c.en || s.dieLost die || s.domainDown (128 + die) then s
  else if s.sliceFrozen die then
    if c.frozen.isSome then s
    else s.setSlice die { s.slice die with frozen := some (s.now, (List.range 16).map (fun d => (s.dom d).phase)) }
  else
    let (s, due) := s.gatherDue die (liveEntries c.table 0)
    let (s, shadows) := s.gatherDue die (liveEntries c.shadow 16384)
    let old := sortBy (fun a b => lexLt [a.due.toNat, a.entry] [b.due.toNat, b.entry]) (s.slice die).backlog
    let s := s.setSlice die { s.slice die with backlog := old.drop 16, frozen := none }
    let s := s.flagIf (decide (16 < old.length)) (Reg.CAL_STAT die) 2
    let s := (old.take 16).foldl (fun s b => s.fireBacklog die b) s
    let s := s.fireNew die (16 - old.length) (sortBy (Due.lt s die) due)
    let s := shadows.foldl (fun s f => if f.skip then s.skipDue die f else s.fire die f) s
    let now := (s.slice die).backlog.length
    let key := Reg.CAL_BACKLOG die
    s.setFld key 16 16 (max (s.fld key 16 16) (min now 65535))

/-- The task requests of the tick reach their dispatchers at its end, in ascending task number (R81, R236). -/
def State.calRequests (s : State) (die : Nat) : State :=
  let c := s.slice die
  let rs := sortBy (fun a b => decide (a.2.1 < b.2.1)) c.reqs
  rs.foldl (fun s r => (s.requestTask die r.1 r.2.1 r.2.2.1 r.2.2.2.1 r.2.2.2.2).1) (s.setSlice die { c with reqs := [] })

/-- The direct lines of a slice in this tick: the actions of step 4, and the ends of pulses in progress (R79, R91). -/
def State.calLines (s : State) (die : Nat) : State :=
  let c := s.slice die
  let direct := c.pinOps.filter (·.1)
  let busy := (c.lines.filter (fun l => l.2.pulse.isSome)).map (·.1)
  let ns := (direct.map (·.2.1) ++ busy).eraseDups
  ns.foldl (fun s n =>
    let c := s.slice die
    let acts := sortBy (fun a b => decide (a.1 < b.1)) ((direct.filter (fun o => o.2.1 == n)).map (fun o => (o.2.2.1, o.2.2.2)))
    let l0 := c.lines.get n {}
    let l := (s.lineActs (if l0 = {} then { oe := true, start := (false, true) } else l0) acts).1
    s.setSlice die { c with lines := c.lines.set n l {} }) s

/-! ## Delivery beyond the slice (R80, R81) -/

/-- A DOMAIN_CTL command that the domain's engine would not carry out (R71, R80). -/
def State.domInvalid (s : State) (i code : Nat) : Bool :=
  let c? : Option DomCmd := match code with
    | 1 => some .enable | 2 => some .disable | 3 => some .reacquire | 4 => some .freeze | 5 => some .unfreeze | _ => none
  match c? with
  | some c => ((s.setBit (Reg.DOM_STAT i) 13 false).domAct i c).bit (Reg.DOM_STAT i) 13
  | none => code != 0

/-- One action arrives; actions bound for a lost die are dropped, and a refused one is reported by its slice (R80, R81, R104). -/
def State.deliverFlight (s : State) (f : Flight) : State :=
  let refuse (s : State) (die i : Nat) (r : Bool) : State := if r && !(s.dieLost die) then s.calError die i 2 else s
  match f with
  | .domain die i d cmd => (refuse s die i (s.domInvalid d cmd)).domCommand d cmd
  | .kick die i q => if s.dieLost (homeOf q) then s else let (t, r) := s.calKick false q; refuse t die i r
  | .kickSet die i n => if s.dieLost (homeOf (n * 128)) then s else let (t, r) := s.calKick true n; refuse t die i r
  | .record r => { s with raised := s.raised ++ [r] }
  | .arm _ _ => s

/-- The actions that act in this tick (R81). [Log 63 DEDUCED] -/
def State.deliverFlights (s : State) : State :=
  let due := s.flights.filter (fun f => decide (f.1 ≤ s.tick))
  let s := { s with flights := s.flights.filter (fun f => !(decide (f.1 ≤ s.tick))) }
  due.foldl (fun s f => s.deliverFlight f.2) s

/-! ## The on-chip view of a slice (R76, R96, R105) -/

/-- What an offset of the calendar window names: entry and word, a result word, or nothing. -/
inductive CalPlace where
  | entry (i w : Nat)
  | result (n w : Nat)
  | none_
deriving DecidableEq, Repr

/-- Decode an offset of the calendar window from its base. -/
def calPlace (off : Nat) : CalPlace :=
  if 0x8000 ≤ off ∧ off < 0x8800 then .entry (16384 + (off - 0x8000) / 32) (off / 4 % 8)
  else if 0xC000 ≤ off ∧ off < 0xC200 then .result ((off - 0xC000) / 8) (off / 4 % 2)
  else if 0x10000 ≤ off ∧ off < 0x90000 then .entry ((off - 0x10000) / 32) (off / 4 % 8)
  else .none_

/-- The key of a requester's entry capture on a slice. -/
def calCapKey (die req : Nat) : Nat := regKey die 0x04 0 0 * 32 + req

/-- A read of word `w` of entry `i` by a requester: word 0 captures the entry and replaces what the requester held (R96).
[Log 20 DEDUCED, 64 DEDUCED] -/
def State.calRead (s : State) (dies : List Nat) (i w req : Nat) (peek : Bool) : State × Word :=
  let live (die : Nat) : Word := (s.entry die i).word w
  let held (die : Nat) : Word :=
    match s.bus.wide.get (calCapKey die req) [] with
    | t :: ws => if t.toNat = i then ws.getD w 0 else live die
    | [] => live die
  if w = 0 then
    let v := dies.foldl (fun (acc : Word) die => acc ||| live die) 0
    if peek then (s, v) else
    let wide := [0, 1, 2, 3].foldl (fun (m : SMap (List Word)) die =>
      m.set (calCapKey die req) (if dies.contains die then BitVec.ofNat 32 i :: (List.range 8).map (s.entry die i).word else []) []) s.bus.wide
    ({ s with bus := { s.bus with wide := wide } }, v)
  else (s, dies.foldl (fun (acc : Word) die => acc ||| held die) 0)

end Sys2Proof.Machine
end

