-- ==== Sys2Proof/Machine/Power.lean ====
section
/-!
DEFINITION. Power domains and voltage islands, sleep and wake, the credit window, thermal trip, PMBus events (R273 to R299).
-/
namespace Sys2Proof.Machine

/-! ## Domains and islands (R273, R275, R298) -/

/-- The PWR instance of domain `g`: die and domain instance. -/
def domInst (g : Nat) : Nat × Nat :=
  if g < 64 then (g / 16, g % 16)
  else if g < 128 then ((g - 64) / 16, 16 + g % 16)
  else if g < 132 then (g - 128, 32)
  else if g < 148 then ((g - 132) / 4, 33 + g % 4)
  else if g < 157 then (4, g - 148)
  else (5, g - 157)

/-- The domain of a PWR domain instance, if the die has it. -/
def domOf (die i : Nat) : Option Nat :=
  if die < 4 then
    if i < 16 then some (16 * die + i)
    else if i < 32 then some (64 + 16 * die + (i - 16))
    else if i = 32 then some (128 + die)
    else if i < 37 then some (132 + 4 * die + (i - 33))
    else none
  else if die = 4 then (if i < 9 then some (148 + i) else none)
  else if i < 8 then some (157 + i) else none

/-- The PWR instance of island `j`: die and island instance. -/
def islInst (j : Nat) : Nat × Nat :=
  if j < 64 then (j / 16, 0x100 + j % 16)
  else if j < 68 then (j - 64, 0x110)
  else if j < 84 then ((j - 68) / 4, 0x111 + (j - 68) % 4)
  else if j < 88 then (4, 0x100 + (j - 84))
  else (5, 0x100 + (j - 88))

/-- The island of a PWR island instance (`k` from 0x100). -/
def islOf (die k : Nat) : Option Nat :=
  let i := k - 0x100
  if k < 0x100 then none
  else if die < 4 then
    if i < 16 then some (16 * die + i) else if i = 16 then some (64 + die) else if i < 21 then some (68 + 4 * die + (i - 17)) else none
  else if die = 4 then (if i < 4 then some (84 + i) else none)
  else if i < 4 then some (88 + i) else none

/-- The island of a domain (R273). -/
def islandOf (g : Nat) : Nat :=
  if g < 64 then g
  else if g < 128 then g - 64
  else if g < 132 then g - 64
  else if g < 148 then g - 64
  else if g < 152 then 85
  else if g < 154 then 86
  else if g < 156 then 84
  else if g < 157 then 87
  else if g < 161 then 88
  else if g = 161 then 91
  else if g < 164 then 89
  else 90

/-- Whether a domain allows a state (R273): 0 RUN, 1 SLEEP, 2 DEEP_SLEEP, 3 OFF; `deep`: in device deep sleep. [Log 96 DESIGN CHOICE] -/
def domAllows (g st : Nat) (deep : Bool := false) : Bool :=
  match st with
  | 0 => true
  | 1 => decide (g < 128) || (decide (148 ≤ g) && decide (g < 152)) || (decide (157 ≤ g) && decide (g < 161)) || g == 162 || g == 163
  | 2 => decide (g < 128) || (deep && decide (g < 132)) || (decide (157 ≤ g) && decide (g < 162))
  | _ => decide (g < 128) || (decide (132 ≤ g) && decide (g < 154)) || g == 155 || (decide (157 ≤ g) && decide (g < 161))

def domCtlKey (g : Nat) : Nat := let i := domInst g; Reg.PWR_DOM_CTL i.1 i.2
def domStatKey (g : Nat) : Nat := let i := domInst g; Reg.PWR_DOM_STAT i.1 i.2
def islCtlKey (j : Nat) : Nat := let i := islInst j; Reg.PWR_ISL_CTL i.1 i.2
def islStatKey (j : Nat) : Nat := let i := islInst j; Reg.PWR_ISL_STAT i.1 i.2

/-- PWR_ISL_CTL.pb, fixed at 1 on islands 64 to 87, 89 and 90. -/
def State.islPb (s : State) (j : Nat) : Bool := (decide (64 ≤ j) && decide (j < 88)) || j == 89 || j == 90 || s.bit (islCtlKey j) 2

/-- The ladder lowers an island (R275, R289): Regions with `pb` 0 and `v1_ok`, and 88 with 91 where 88 has `pb` 0. -/
def State.lowered (s : State) (j : Nat) : Bool :=
  decide (3 ≤ s.ladderActs) && (if j < 64 then !s.islPb j && s.bit (islCtlKey j) 3 else (j == 88 || j == 91) && !s.islPb 88)

/-- A control-die sensor is at or above GOV_TH.bg. -/
def State.cdHot (s : State) : Bool := (List.range 6).any (fun i => s.bit (Reg.GOV_TEMP (90 + i)) 16 && decide (s.threshold 8 ≤ signed 12 (s.fld (Reg.GOV_TEMP (90 + i)) 0 12)))

/-- The level an island runs at or moves to (R275): V0 while each of its domains stays in DEEP_SLEEP or OFF; boost ends where a control-die
sensor (R275) or the hottest sensor (R281) is at or above GOV_TH.bg. -/
def State.islTarget (s : State) (j : Nat) : Nat :=
  if ((List.range 165).filter (fun g => islandOf g == j)).all (fun g => decide (2 ≤ s.domSt g) && !s.power.wakes.get g false) then 0
  else if s.lowered j then 1
  else if j = 88 && s.fld (islCtlKey 88) 0 2 == 3 && s.bit Reg.GOV_CTL 13 && s.ladder == 0 && !s.cdHot && decide (s.hottest < s.threshold 8) then 3
  else 2

/-- The present level of an island (R274). -/
def State.islLevel (s : State) (j : Nat) : Nat := s.power.lvl.get j 2

/-! ## Entering and leaving states (R276 to R278) -/

def State.putDom (s : State) (g st : Nat) : State := s.setPower (fun p => { p with dom := p.dom.set g st 0, wakes := p.wakes.set g false false })

/-- What stops when a domain leaves RUN. -/
def State.stopDomain (s : State) (g st : Nat) : State :=
  if 64 ≤ g ∧ g < 128 then s.stopFacets ((g - 64) / 16) (g % 16) false
  else if 132 ≤ g ∧ g < 148 then s.quadStops ((g - 132) / 4) (g % 4)
  else if 148 ≤ g ∧ g < 152 then
    let c := g - 148
    if st = 3 then s.channelOff c
    else if (s.chan c).state = .ready then s.setChan c { s.chan c with state := .sref } else s
  else if 152 ≤ g ∧ g < 154 then (s.cxlLinkLost (g - 152) false 0).cxlLinkLost (g - 152) true 0
  else if 157 ≤ g ∧ g < 161 ∧ st = 3 then s.holdCore (g - 157)
  else s

/-- A domain leaves OFF (R278): SRAM zeroed, flip-flops at their reset values, `lost` set. [Log 97 DEDUCED] -/
def State.leaveOff (s : State) (g : Nat) : State :=
  let s := s.flag (domStatKey g) 3
  if g < 64 then
    let die := g / 16
    let rg := g % 16
    -- isolated as while reconfigured until a partial image is loaded (R174)
    let s := (s.takeDown die rg).zeroRegion die rg
    s.setRegion die rg { state := .offline }
  else if g < 128 then
    let die := (g - 64) / 16
    let rg := g % 16
    let s := (List.range 17).foldl (fun s k => (s.setFacet die (17 * rg + k) { state := .stopped }).setBit (Reg.FACET_CTL die (17 * rg + k)) 0 false) s
    s.restartFacets die rg
  else if 132 ≤ g ∧ g < 148 then
    let die := (g - 132) / 4
    let q := g % 4
    let s := (List.range 4).foldl (fun s k => s.clearInst die 0x0D (4 * q + k)) s
    s.clearInst die 0x0D (16 + q)
  else if 148 ≤ g ∧ g < 152 then (if s.mayTrain (g - 148) then s.beginTraining (g - 148) else s)
  else s

/-- What starts again when a domain returns from SLEEP or DEEP_SLEEP. -/
def State.leaveSleep (s : State) (g : Nat) : State :=
  if 64 ≤ g ∧ g < 128 then s.restartFacets ((g - 64) / 16) (g % 16)
  else if 148 ≤ g ∧ g < 152 then
    let c := g - 148
    if (s.chan c).state = .sref then s.setChan c { s.chan c with state := .ready } else s
  else s

/-- Pads follow the domains that decide their sleep states (R162). -/
def padsOf (g : Nat) : List Nat := if g < 64 then [g / 16] else if 128 ≤ g ∧ g < 132 then [g - 128] else []

/-- A domain goes to a state, with what that stops, loses and starts. A domain that leaves OFF for a sleep state returns as for RUN first
(R278); a domain that stays where it is wakes no more. [Log 95 DEDUCED, 97 DEDUCED] -/
def State.enterDom (s : State) (g st : Nat) : State :=
  let old := s.domSt g
  if old = st then s.setPower (fun p => { p with wakes := p.wakes.set g false false })
  else
    let s := if old = 3 ∧ st ≠ 0 then (s.putDom g 0).leaveOff g else s
    let s := if st = 0 then s else s.stopDomain g st
    let s := s.withStates (padsOf g) (fun s => s.putDom g st)
    if st ≠ 0 then s else if old = 3 then s.leaveOff g else s.leaveSleep g

/-- A domain returns to RUN (R276): at once where its island can carry it; else it is WAKING until the island's voltage has settled, from V0
(R274) or from a step of the ladder (R296). -/
def State.riseDom (s : State) (g : Nat) : State :=
  let j := islandOf g
  if s.domSt g ≠ 0 ∧ (s.islLevel j = 0 ∨ (s.lowered j ∧ s.islLevel j ≠ s.islTarget j)) then
    s.setPower (fun p => { p with wakes := p.wakes.set g true false })
  else s.enterDom g 0

/-! ## Control (R277) -/

/-- A DDR5 channel may enter SLEEP from READY only (R341). -/
def State.maySleep (s : State) (g : Nat) : Bool := if 148 ≤ g ∧ g < 152 then (s.chan (g - 148)).state == .ready else true

/-- A write of PWR_DOM_CTL (R277): a state the domain does not allow is refused whole. [Log 218 DEDUCED] -/
def State.domCtlWrite (s : State) (g : Nat) (w : Word) : State × Resp :=
  let force := wfld w 4 2
  let key := domCtlKey g
  let off := !wbit w 0
  if off && !domAllows g 3 then (s, .refused)
  else if (force == 1 && !domAllows g 1) || (force == 2 && !domAllows g 2) then (s, .refused)
  else if force == 1 && !off && s.domSt g == 0 && !s.maySleep g then (s, .refused)
  else
    let was := s.rd key
    let s := s.wr key (w &&& 0xFFFFFF3F)
    let s := if force = 3 then s.flagErr (islCtlKey (islandOf g)) 4 3 (errCode 9 4) else s
    -- after a thermal trip only a device reset brings a domain back (R291)
    if s.power.trip then (s, .ok)
    else if off then (s.enterDom g 3, .ok)
    else if force = 1 ∨ force = 2 then (s.enterDom g force, .ok)
    else if !wbit was 0 || wfld was 4 2 = 1 || wfld was 4 2 = 2 then (s.riseDom g, .ok)
    else (s, .ok)

/-- Work keeps a Facet domain awake: a Facet runs. -/
def State.domBusy (s : State) (g : Nat) : Bool :=
  decide (64 ≤ g) && decide (g < 128) && (List.range 17).any (fun k =>
    let f := s.facet ((g - 64) / 16) (17 * (g % 16) + k)
    f.state == .running || f.state == .urgent)

/-- `idle` µs have passed without work; work in the same cycle wins (R277). -/
def State.autoSleep (s : State) (g : Nat) (work : Bool) : State :=
  if s.bit (domCtlKey g) 1 && s.domSt g == 0 && domAllows g 1 && !work && !s.domBusy g && s.maySleep g then s.enterDom g 1 else s

/-- `dslp_idle` further windows have passed without work (R277). -/
def State.autoDeepSleep (s : State) (g : Nat) (work : Bool) : State :=
  if s.bit (domCtlKey g) 2 && s.domSt g == 1 && domAllows g 2 && !work && !s.islPb (islandOf g) && s.fld (domCtlKey g) 4 2 == 0 then s.enterDom g 2 else s

/-- Work that R273 names for a sleeping domain wakes it; on an island being lowered the wake waits (R277, R296). [Log 95 DEDUCED] -/
def State.wakeDom (s : State) (g : Nat) (pb : Bool) : State :=
  let st := s.domSt g
  if (st ≠ 1 ∧ st ≠ 2) ∨ s.fld (domCtlKey g) 4 2 = 1 ∨ s.fld (domCtlKey g) 4 2 = 2 ∨ s.power.deepSleep then s
  else
    (s.flagIf pb (domStatKey g) 4).riseDom g

/-- An island's step completes; wakes that waited for it take place (R274, R296). -/
def State.islandSettled (s : State) (j : Nat) : State :=
  let s := s.setPower (fun p => { p with lvl := p.lvl.set j (s.islTarget j) 2 })
  ((List.range 165).filter (fun g => islandOf g == j && s.power.wakes.get g false)).foldl (fun s g => s.enterDom g 0) s

/-- A write of PWR_ISL_CTL. -/
def State.islCtlWrite (s : State) (j : Nat) (w : Word) : State :=
  let key := islCtlKey j
  let v := wfld w 0 2
  let badV := v < 2 || (v = 3 && j != 88)
  let fixed := (decide (64 ≤ j) && decide (j < 88)) || j == 89 || j == 90
  let x := (if badV then 2 else v) + b2n (fixed || wbit w 2) * 4 + b2n (decide (j < 64) && wbit w 3) * 8 + b2n (s.bit key 4 && !wbit w 4) * 16
  let s := s.wr key (BitVec.ofNat 32 x)
  if badV then s.flagErr key 4 3 (errCode 9 4) else s

/-- PWR_DOM_STAT and PWR_ISL_STAT as they read. [Log 96 DESIGN CHOICE] -/
def State.domStatRead (s : State) (g : Nat) : Word := BitVec.ofNat 32 ((if s.power.wakes.get g false then 4 else s.domSt g) + s.fld (domStatKey g) 3 2 * 8 + g * 256)
def State.islStatRead (s : State) (j : Nat) : Word :=
  let w := s.rd (islStatKey j)
  BitVec.ofNat 32 (s.islLevel j + b2n (s.islLevel j != s.islTarget j) * 4 + b2n (s.lowered j) * 8 + wfld w 4 1 * 16 + j * 256 + wfld w 16 16 * 65536)

/-! ## Device deep sleep (R279) -/

/-- The device enters deep sleep at a window boundary. [Log 99 DEDUCED] -/
def State.deepSleepEnter (s : State) : State :=
  let before := s.power.dom
  let s := s.setPower (fun p => { p with deepReq := false, before := before })
  let s := (List.range 165).foldl (fun s g =>
    if domAllows g 2 true && decide (s.domSt g < 2) then s.enterDom g 2
    else if 148 ≤ g ∧ g < 152 ∧ s.domSt g = 0 ∧ s.maySleep g then s.enterDom g 1
    else s) s
  s.withStates [0, 1, 2, 3] (fun s => s.setPower (fun p => { p with deepSleep := true }))

/-- The device wakes: periphery first, then the other domains return to what they held; calendars as at a setting of `en`. -/
def State.deviceWake (s : State) : State :=
  if !s.power.deepSleep || s.power.trip then s
  else
    let before := s.power.before
    let s := s.withStates [0, 1, 2, 3] (fun s => s.setPower (fun p => { p with deepSleep := false, before := [] }))
    let back (s : State) (g : Nat) : State := if before.get g 0 = 0 then s.riseDom g else s.enterDom g (before.get g 0)
    let s := [128, 129, 130, 131].foldl back s
    let s := (List.range 165).foldl back s
    let s := [0, 1, 2, 3].foldl (fun s d => if (s.slice d).en then (s.calEnable d false).calEnable d true else s) s
    s.flag Reg.GOV_STAT 12

/-- GOV_CMD (R279). [Log 99 DEDUCED] -/
def State.govCmdWrite (s : State) (w : Word) : State :=
  match wfld w 0 2 with
  | 0 => s
  | 1 => s.setPower (fun p => { p with deepReq := true })
  | _ => s.flagErr Reg.GOV_STAT 7 3 (errCode 9 4)

/-- GOV_WAKE has been reached, or RESUME is asserted. -/
def State.wakeDue (s : State) : Bool :=
  let x := s.rdPair Reg.GOV_WAKE_LO Reg.GOV_WAKE_HI
  (x != 0 && decide (x ≤ s.now)) || s.clk.resume

/-- The RESUME pin changes: high it ends deep sleep (R279), and a hold in HELD after the relock (R424). -/
def State.resumePin (s : State) (level : Bool) : State :=
  let s := s.setClk (fun c => { c with resume := level })
  if !level then s
  else
    let s := s.deviceWake
    if s.clk.hold && s.clk.relocked then s.releaseHold else s

/-! ## The credit window (R280 to R290) -/

/-- Telemetry of the last window (R280, R281): energy and mean current of each island, sensor readings; a lost die reads zero. -/
def State.telemetry (s : State) (isl : List (Nat × Nat)) (temps : List Nat) : State :=
  let s := (List.range 92).foldl (fun s j =>
    let (e, i) := isl.getD j (0, 0)
    let lost := s.dieLost (islInst j).1
    let key := islInst j
    (s.wr (Reg.PWR_ISL_E key.1 key.2) (BitVec.ofNat 32 (if lost then 0 else min e 0xFFFFFF))).setFld (islStatKey j) 16 16 (if lost then 0 else min i 65535)) s
  let die (i : Nat) : Nat := if i < 80 then i / 20 else if i < 90 then 4 else 5
  let s := (List.range 96).foldl (fun s i =>
    let ok := !s.dieLost (die i) && s.domSt (Config.sensorDomain i % 165) != 3
    s.wr (Reg.GOV_TEMP i) (BitVec.ofNat 32 (if ok then temps.getD i 0 % 4096 + 65536 else 0))) s
  let best := (List.range 96).foldl (fun (b : Option (Int × Nat)) i =>
    if !s.bit (Reg.GOV_TEMP i) 16 then b
    else
      let t := signed 12 (s.fld (Reg.GOV_TEMP i) 0 12)
      match b with
      | some (u, _) => if u < t then some (t, i) else b
      | none => some (t, i)) none
  match best with
  | some (t, i) => s.wr Reg.GOV_TMAX (BitVec.ofNat 32 ((t % 4096).toNat + i * 65536))
  | none => s.wr Reg.GOV_TMAX 0

/-- BE items that have waited this window without starting (R288). -/
def State.ageWork (s : State) : State :=
  let s := { s with facets := { s.facets with disp := s.facets.disp.mapVals {} (fun k d =>
    { d with ready := d.ready.map (fun (r : Request) => if s.taskFld (k / 16) (k % 16) r.task 0 12 2 = 1 then { r with age := r.age + 1 } else r) }) } }
  { s with net := { s.net with queues := s.net.queues.mapVals {} (fun q x =>
    if s.qclass q = 1 ∧ !x.cells.isEmpty then { x with age := x.age + 1 } else x) } }

/-- The governor evaluates a window at its first tick boundary (R282, R283, R289). [Log 100 DESIGN CHOICE] -/
def State.creditWindow (s : State) (isl : List (Nat × Nat)) (temps : List Nat) : State :=
  let s := (s.telemetry isl temps).ageWork
  let drawn := (List.range 92).foldl (fun n j => if s.dieLost (islInst j).1 then n else n + (isl.getD j (0, 0)).1) 0
  let (s, short) := s.openCreditWindow (drawn + s.externalCredits)
  let s := s.ladderStep short
  if s.power.deepReq then s.deepSleepEnter else s

/-- A waiting item of work is admitted and charged, or waits (R287). -/
def State.admitWork (s : State) (w : Work) : State :=
  match w with
  | .request die rg i => if die < 4 ∧ rg < 16 then s.admitRequest die rg i else s
  | .job kind die => if kind < 7 ∧ die < 5 then (s.jobUnit kind die).1 else s

/-! ## Thermal trip and island faults (R291, R297) -/

/-- A sensor reaches 110 °C (R291). -/
def State.thermalTrip (s : State) : State :=
  if s.power.trip then s
  else
    let s := s.setSafe (fun c => { c with thermal := true })
    let s := (List.range 165).foldl (fun s g => if g = 156 then s else s.enterDom g 3) s
    let s := (List.range 4).foldl (fun s d => (List.range 4).foldl (fun s q => s.quadStops d q) s) s
    (s.setPower (fun p => { p with trip := true, tripDt := s.now })).raise 6 (errCode 9 2) 4 0x14 0

/-- An island regulator fails (R297): its die is lost; on HD a device reset, on CD a CD reset. [Log 98 DESIGN CHOICE] -/
def State.islandFault (s : State) (j : Nat) : State :=
  let die := (islInst j).1
  let s := (s.flag (islStatKey j) 4).raise 6 (errCode 9 5) die 0x01 (islInst j).2
  if die < 4 then s.loseDie die
  else if die = 4 then
    -- the cause code of this reset is not stated: a free value
    (s.drawn).deviceReset (s.freeNat 4)
  else s.cdReset

/-! ## PMBus (R293, R295) -/

/-- The PMBus reaches the device: pins feed PMB_SCL_IN and PMB_SDA_IN (R150, R151). Without them both read 1, and no transaction is
acknowledged. [Log 182 DEDUCED] -/
def State.busRouted (s : State) : Bool := s.hubRouted 0x80 && s.hubRouted 0x81

/-- The words a poll brings, by device: 0 to 7 READ_POUT, 8 the cap source; none fails. With GOV_PMB.`en` = 0 nothing is polled.
[Log 216 DEDUCED] -/
def State.poll (s : State) (replies : List (Nat × Nat)) : State :=
  if !s.bit Reg.GOV_PMB 0 then s else
  let routed := s.busRouted
  let t := s.pmbPoll (fun d => if routed then (replies.find? (fun r => r.1 == d)).map (·.2) else none)
  t.setPower (fun p => { p with busActive := true })

/-- ALERT_N_IN goes low: the governor polls at once (R151, R293). [Log 101 DEDUCED] -/
def State.pmbAlert (s : State) (replies : List (Nat × Nat)) : State := if s.hubInput 0x82 then s else s.poll replies

/-- A transaction is not acknowledged or holds SCL for 25 ms; a reply completed in that cycle is accepted, late (R295, R12). -/
def State.pmbTimeout (s : State) (dev : Nat) (reply : Option Nat) : State :=
  if 9 ≤ dev then s
  else match reply with
    | some w => ((s.pmbReply dev w).flag Reg.GOV_STAT 10).lateArrival 4 0x14 0
    | none => s.pmbFail dev

/-! ## Register writes of the governor -/

/-- GOV_CAP, GOV_TH, GOV_BG: values taken as their limit set cfg_err (R281, R284, R294). -/
def State.govCapWrite (s : State) (w : Word) : State :=
  let s := s.wr Reg.GOV_CAP (w &&& 0xFFFF01FF)
  if wfld w 0 9 < 40 ∨ 460 < wfld w 0 9 then s.flagErr Reg.GOV_STAT 7 3 (errCode 9 4) else s
def State.govThWrite (s : State) (w : Word) : State :=
  let s := s.wr Reg.GOV_TH (w &&& 0xFFFFFF)
  if 109 < wfld w 0 8 ∨ 109 < wfld w 8 8 ∨ 109 < wfld w 16 8 then s.flagErr Reg.GOV_STAT 7 3 (errCode 9 4) else s
def State.govBgWrite (s : State) (w : Word) : State :=
  let s := s.wr Reg.GOV_BG (w &&& 0xFF7FFFFF)
  if wfld w 24 8 = 0 then s.flagErr Reg.GOV_STAT 7 3 (errCode 9 4) else s

end Sys2Proof.Machine
end

