-- ==== Sys2Proof/Machine/Tick.lean ====
section
/-!
DEFINITION. One spine tick: delivery, domains, timeouts, calendars, pins, then the tick boundary (R11, R47, R48, R82, R94, R111).
-/
namespace Sys2Proof.Machine

/-- A receiver whose primary spine copy misses this tick uses its secondary copy, and returns with the primary (R18, SRX_STAT); in a die
in service the primary copy misses every tick while its path is cut. [Log 42 DESIGN CHOICE] -/
def State.spinePath (s : State) (missed : List Nat) (die : Nat) : State :=
  let sp := s.spine
  let was := sp.second.get die false
  let now := missed.contains die || (s.boot.ready.get die false && !s.spinePrimary die)
  if was = now then s
  else { s with spine := { sp with second := sp.second.set die now false, switches := sp.switches.set die (min 255 (sp.switches.get die 0 + 1)) 0 } }

/-- In CLOCK_HOLD the STALL_TIMEOUT of a domain stands still (R423). -/
def State.pauseStall (s : State) (i : Nat) : State :=
  let d := s.dom i
  let by_ := BitVec.ofNat 64 s.spine.len
  s.setDom i { d with act := d.act + by_, actOld := d.actOld + by_ }

/-- Steps 1 to 3: actions of the phase channel, commands and freezes, timeouts (R11, R68, R70, R81). -/
def State.tickDomains (s : State) : State :=
  let s := s.deliverFlights
  let s := (List.range 16).foldl (fun s i => s.domStep2 (s.classHalted 0) i) s
  if s.clk.hold then (List.range 16).foldl (fun s i => s.pauseStall i) s
  else (List.range 16).foldl (fun s i => s.domStep3 i) s

/-- Transitions of a pad's level through its receiver in this tick, from the level seen last (R109, R153); none while it is off. -/
def State.padTransitions (s : State) (die p : Nat) : List (DWord × Bool) :=
  if s.receiverOff die p then []
  else ((List.range s.spine.len).foldl (fun (acc : Bool × List (DWord × Bool)) j =>
    let x := s.stamp (j + 1)
    let l := s.padLevel die p x
    if l == acc.1 then acc else (l, acc.2 ++ [(x, l)])) ((s.unit die p).input, [])).2

/-- MIRROR units that follow a pin. -/
def State.mirrored (s : State) (die p : Nat) : Bool :=
  s.tio.any (fun e => e.1 / 240 == die && e.2.mode == 8 && s.fld (Reg.TIO_MIR die (e.1 % 240)) 0 8 == p)

/-- A window of a unit that drains to a queue has closed and no record of the unit waits: the partial cell goes (R138).
[Log 186 DEDUCED] -/
def State.windowFlush (s : State) (die n : Nat) : State :=
  let u := s.unit die n
  if u.caps = [] ∧ u.ends ≠ [] then
    let q := s.fld (Reg.TIO_DRN die n) 9 13
    let s := s.setUnit die n { u with ends := [] }
    if s.streamRefused q then s else s.streamFlush q
  else s

/-- The inputs of one timed I/O unit in this tick, after step 4 (R109, R117 to R120, R135); in CLOCK_HOLD its timeout stands still
(R423). -/
def State.tickInput (s : State) (die n : Nat) : State :=
  let c := s.slice die
  let u := s.unit die n
  let moves := s.padTransitions die n
  let s := if s.clk.hold then s.setUnit die n { u with active := u.active.map (· + BitVec.ofNat 64 s.spine.len) } else s
  let s := if s.receiverOff die n then s.inputSilent die n else s
  let s := if s.mirrored die n then moves.foldl (fun s e => s.mirrorEdge die n e.1 e.2) s else s
  (s.unitInputs die n moves ((c.winOps.filter (fun o => o.1 == n)).map (·.2))).windowFlush die n

/-- Its outputs (R121 to R136). -/
def State.tickOutput (s : State) (die n : Nat) : State :=
  s.unitOutputs die n (((s.slice die).pinOps.filter (fun o => !o.1 && o.2.1 == n)).map (·.2.2)) (s.unitFrozen die n)

/-- The timed I/O units of a die that hold anything. -/
def State.liveUnits (s : State) (die : Nat) : List Nat := (s.tio.filter (fun p => p.1 / 240 == die)).map (fun p => p.1 % 240)

/-- Pins that a MIRROR unit follows and whose own unit holds nothing. [Log 70 DEDUCED] -/
def State.mirrorSources (s : State) (die : Nat) : List Nat :=
  let live := s.liveUnits die
  (List.range 240).filter (fun p => !live.contains p && s.mirrored die p)

/-- A multiple of 64 lies in this tick: a pad-control edge (R143). -/
def State.padEdge (s : State) : Bool := decide ((edgeAfter s.now).toNat ≤ s.tickEnd.toNat)

/-- Steps 4 and 5 of a fabric die: its slice, its timed I/O, its pads (R82, R121, R143, R152). -/
def State.tickDie (s : State) (die : Nat) : State :=
  let s := s.calStep die
  if s.dieLost die || s.domainDown (128 + die) then s
  else
    let s := (s.liveUnits die ++ s.mirrorSources die).foldl (fun s n => s.tickInput die n) s
    let s := (s.liveUnits die).foldl (fun s n => s.tickOutput die n) s
    let s := s.calLines die
    let busy := (s.pins.pads.filter (fun p => p.1 / 240 == die && p.2.wait.isSome)).map (fun p => p.1 % 240)
    let s := busy.foldl (fun s p => s.settlePad die p) s
    let x := edgeAfter s.now
    if s.padEdge then (((s.holdEntering die x).judgeAnalog die x).judgeXbar die x).judgePhi die x else s

/-- A recalibration goes on; the receiver is deskewed at its end, with the residual the specification bounds and does not state (R50).
[Log 43 DESIGN CHOICE] -/
def State.recalTick (s : State) (die : Nat) : State :=
  let sp := s.spine
  match sp.recal.get die 0 with
  | 0 => s
  | 1 => ({ s with spine := { sp with recal := sp.recal.set die 0 0, deskewed := sp.deskewed.set die true false, skew := sp.skew.set die (s.freeNat 64 % 101) 0 } }).drawn
  | n => { s with spine := { sp with recal := sp.recal.set die (n - 1) 0 } }

/-- The level that local pin `p` has at the boundary is the one its unit saw last. -/
def State.seeLevel (s : State) (die p : Nat) : State :=
  if p < 240 then s.setUnit die p { s.unit die p with input := s.padLevel die p s.tickEnd } else s

/-- A unit whose TIO_CTL changes, and in MIRROR the unit of its source, begins from the level present: it is no edge (R109, R135).
[Log 237 DEDUCED] -/
def State.seeLevels (s : State) (w : TioWrite) : State :=
  match w with
  | .ctl die n v =>
    let s := s.seeLevel die n
    if wfld v 0 4 = 8 then s.seeLevel die (s.fld (Reg.TIO_MIR die n) 0 8) else s
  | _ => s

/-- The tick boundary: what waits for it applies, oldest first in each unit (R94, R111, R236, R474). -/
def State.tickBoundary (s : State) : State :=
  let s := [0, 1, 2, 3].foldl (fun s die => (s.liveUnits die).foldl (fun s n => s.unitBoundary die n) s) s
  let s := s.tioWrites.foldl (fun s w => (s.seeLevels w).applyTio w) { s with tioWrites := [] }
  let s := s.calBoundary
  [0, 1, 2, 3].foldl (fun s die => (((s.regionBoundary die).calRequests die).recalTick die).loupeDue die s.nextEnd) s

/-- The domains' and increment ports' new tick, DT's advance, and a follower's step and slew (R47, R48, R406). -/
def State.tickAdvance (s : State) : State :=
  let held := (List.range 16).map (fun i => (s.dom i).holdTicks)
  let s := (List.range 16).foldl (fun s i => s.domClose i) s
  -- HOLDOVER_MAX stands still in CLOCK_HOLD as well
  let s := if s.clk.hold then (List.range 16).foldl (fun s i => s.setDom i { s.dom i with holdTicks := min (s.dom i).holdTicks (held.getD i 0) }) s else s
  let s := s.incsClose
  let s := { s with spine := { s.spine with dt := s.tickEnd }, tick := s.tick + 1 }
  (s.stepDt).slewTick

/-- Core watchdogs count µs (R539). [Log 51 DEDUCED] -/
def State.tickWatchdogs (s : State) : State :=
  if s.tick % 512 = 511 then (List.range 6).foldl (fun s i => s.wdtCount i) s else s

/-- One spine tick (R11). DT and everything with it stand still while the spine has no reference, and before POR releases (R47). -/
def State.spineTick (s : State) (missed : List Nat) : State :=
  if s.clk.por || !s.spine.run then s
  else
    let s := [0, 1, 2, 3].foldl (fun s die => s.spinePath missed die) s
    let s := [0, 1, 2, 3].foldl (fun s die => s.tickDie die) s.tickDomains
    let s := s.hubTick.strobeTick.tickBoundary.tickWatchdogs.spinePresent.tickAdvance
    s.dueReset

end Sys2Proof.Machine
end

