-- ==== Sys2Proof/Machine/RegRead.lean ====
section
/-!
DEFINITION. What every register reads as (R5, R7, R24 to R29): its stored bits, and what it mirrors of the structures behind it.
A live read has no side effect; what a read does besides returning its value stands in Bus.
-/
namespace Sys2Proof.Machine

/-- A 64-bit value as the half at a register whose low half stands at `lo`. -/
def half64 (off lo : Nat) (d : DWord) : Word := if off = lo then loHalf d else hiHalf d

/-- A register with some of its bits replaced by a live value. -/
def State.withLive (s : State) (key mask v : Nat) : Word := (s.rd key &&& ~~~(BitVec.ofNat 32 mask)) ||| BitVec.ofNat 32 v

/-- The source parameters a source defines; the rest of DOM_SRCA and DOM_SRCB reads 0 (R73). -/
def srcMask (src : Nat) (b : Bool) : Nat :=
  match src, b with
  | 0, false => 0x03FFFFFF
  | 1, false => 0x000F73FF
  | 2, false => 0x000F0001
  | 3, false => 0x0FFFF077
  | 3, true => 0xFFFFFFFF
  | 4, false => 0x1F
  | 4, true => 0xFFFF
  | 6, false => 0x3F
  | _, _ => 0

/-- DOM_VEL: the velocity in use, of an edge source its estimate; of RESOLVER and LINK the specification states none (R73). -/
def State.domVel (s : State) (i : Nat) : DWord :=
  let d := s.dom i
  match s.domSrc i with
  | 5 => BitVec.ofNat 64 (d.vx / 2 ^ 16)
  | 6 => BitVec.ofNat 64 (d.lastSum * 2 ^ 16)
  | 3 | 4 => BitVec.ofNat 64 (s.freeNat 48)
  | _ => BitVec.ofNat 64 (d.v % 2 ^ 48)

/-- DOM_ACC, likewise; FABRIC has no acceleration that the specification states. -/
def State.domAccRead (s : State) (i : Nat) : DWord :=
  match s.domSrc i with
  | 3 | 4 | 6 => BitVec.ofNat 64 (s.freeNat 48)
  | _ => (BitVec.ofInt 48 (s.dom i).a).setWidth 64

/-- Whether a read returns a value the specification leaves open. -/
def State.readIsFree (s : State) (key : Nat) : Bool :=
  keyUnit key == 0x03 && keyDie key == 4 && decide (keyInst key < 16) &&
    ((decide (0x20 ≤ keyOff key ∧ keyOff key < 0x28) && (s.domSrc (keyInst key) == 3 || s.domSrc (keyInst key) == 4)) ||
     (decide (0x28 ≤ keyOff key ∧ keyOff key < 0x30) && [3, 4, 6].contains (s.domSrc (keyInst key))))

/-- Unit 0x03, HD: domain engines and the spine block (R73, R74). -/
def State.domRead (s : State) (i off : Nat) (key : Nat) : Word :=
  let d := s.dom i
  match off with
  | 0x008 => s.withLive key 0x3F (d.state.code + b2n d.rev * 8 + b2n d.frzDbg * 16 + b2n d.frzCmd * 32)
  | 0x010 | 0x014 => half64 off 0x010 d.phase
  | 0x020 | 0x024 => half64 off 0x020 (s.domVel i)
  | 0x028 | 0x02C => half64 off 0x028 (s.domAccRead i)
  | 0x040 => s.rd key &&& BitVec.ofNat 32 (srcMask (s.domSrc i) false)
  | 0x044 => s.rd key &&& BitVec.ofNat 32 (srcMask (s.domSrc i) true)
  | 0x050 | 0x054 => half64 off 0x050 d.te
  | _ => s.rd key

def State.spineRead (s : State) (die inst off key : Nat) : Word :=
  let sp := s.spine
  if die = 4 then
    if inst < 16 then s.domRead inst off key
    else match off with
      | 0x000 => BitVec.ofNat 32 (b2n sp.pllLock + b2n sp.run * 2 + b2n (s.bit Reg.CLK_CTL 3) * 4
          + (List.range 4).foldl (fun n d => n + b2n (sp.deskewed.get d false) * 2 ^ (4 + d)) 0)
      | 0x010 | 0x014 => half64 off 0x010 s.now
      | _ => s.rd key
  else match off with
    | 0x000 => s.withLive key 0x0FFFFF07 (b2n (sp.deskewed.get die false) + b2n (sp.second.get die false) * 2 + b2n (s.spineSecondary die) * 4 + min (sp.switches.get die 0) 255 * 2 ^ 8 + sp.skew.get die 0 % 4096 * 2 ^ 16)
    | 0x004 => BitVec.ofNat 32 (b2n (sp.recal.get die 0 != 0))
    | _ => s.rd key

/-- Unit 0x04 (R107). -/
def State.calUnitRead (s : State) (die off key : Nat) : Word :=
  match off with
  | 0x004 => s.calStatRead die
  | 0x008 => s.calBacklogRead die
  | 0x020 => s.calGcmdRead die
  | 0x120 => s.calStgCmdRead die
  | _ => s.rd key

/-- The capture record at the head of a unit's FIFO, as its four words (R112). -/
def State.capHead (s : State) (die n : Nat) : List Word :=
  match (s.unit die n).caps with
  | [] => []
  | c :: _ => [c.word 0, c.word 1, c.word 2, c.word 3]

/-- Unit 0x05 (R136, R141). -/
def State.tioRead (s : State) (die n off key : Nat) : Word :=
  if n = 240 then
    if off < 0x20 then
      BitVec.ofNat 32 ((List.range 32).foldl (fun acc b =>
        let u := 8 * off + b
        acc + (if u < 240 ∧ s.rd (Reg.TIO_STAT die u) &&& s.rd (Reg.TIO_IE die u) &&& 0x1FFC000#32 != 0 then 2 ^ b else 0)) 0)
    else ((s.tioWrites.filterMap (fun w => match w with
      | .pattern d i v => if Reg.TIO_PAT d i = key then some v else none
      | _ => none)).getLast?).getD (s.rd key)
  else
    let u := s.unit die n
    match off with
    | 0x004 => s.withLive key 0x3FFF (u.outq.length + u.caps.length * 32 + b2n u.window.isSome * 2 ^ 11 + b2n u.slave * 2 ^ 12 + b2n (s.receiverOff die n) * 2 ^ 13)
    | 0x018 => BitVec.ofNat 32 (b2n u.flush)
    | 0x020 => (s.capHead die n).getD 0 0
    | 0x024 => (s.capHead die n).getD 1 0
    | 0x028 => (s.capHead die n).getD 2 0
    | 0x02C => (s.capHead die n).getD 3 0
    | 0x058 => BitVec.ofNat 32 (b2n u.upd.isSome)
    | _ => s.rd key

/-- Units 0x06 (R164 to R168). -/
def State.padRead (s : State) (die n off key : Nat) : Word :=
  if n = 240 then
    match off with
    | 0x000 =>
      let w := s.rd key
      wsetBit (wsetBit w 8 (decide (wfld w 0 8 < 240) && (s.pad die (wfld w 0 8)).lock.isSome)) 9 (s.lockSeq die).isSome
    | _ =>
      if 0x040 ≤ off ∧ off < 0x068 then
        let b := (off - 0x040) / 4
        s.withLive key 0x3F08 (b2n (s.pins.vok.get (die * 10 + b) false) * 8 + (match s.anaPin die b with | some p => p * 2 ^ 8 + 2 ^ 13 | none => 0))
      else if 0x100 ≤ off ∧ off < 0x120 then (s.snapshot die).getD ((off - 0x100) / 4) 0
      else s.rd key
  else match off with
    | 0x000 => s.withLive key 0x300 (b2n ((s.pad die n).busy s.now) * 2 ^ 8 + b2n (s.pad die n).wait.isSome * 2 ^ 9)
    | 0x008 =>
      BitVec.ofNat 32 (b2n (s.padIn die n s.padSample) + b2n (s.receiverOffAt die n s.padSample) * 2 + b2n (s.padDrive die n s.now).2 * 4 + s.pstate die n s.now * 8
        + b2n (s.pad die n).lock.isSome * 32 + b2n (s.anaPin die (n / 24) == some (n % 24)) * 64)
    | _ => s.rd key

/-- Unit 0x08 (R245). -/
def State.facetRead (s : State) (die p off key : Nat) : Word :=
  let f := s.facet die p
  match off with
  | 0x008 =>
    let lg := s.logOf die p
    s.withLive key 0x107FF7 (f.state.code + f.task % 64 * 16 + lg.getD 0 * 2 ^ 10 + b2n lg.isSome * 2 ^ 14 + b2n f.stall * 2 ^ 20)
  | 0x00C => BitVec.ofNat 32 (f.pc % 4096)
  | 0x018 | 0x01C => half64 off 0x018 (BitVec.ofNat 64 f.cyc)
  | _ => s.rd key

/-- Unit 0x09 (R246). -/
def State.fdspRead (s : State) (die rg off key : Nat) : Word :=
  match off with
  | 0x004 => s.withLive key 0xFF (min (s.disp die rg).ready.length 255)
  | 0x030 => s.withLive key 0x80000000 (b2n (s.disp die rg).remap.isSome * 2 ^ 31)
  | _ => s.rd key

/-- The global queue of a queue instance (R308). -/
def queueOf (die inst : Nat) : Nat := if die = 4 then inst else 128 * (16 + 12 * die) + inst

/-- Whether a queue has a flag set whose enable is set (QM_SETSUM). -/
def State.queuePends (s : State) (q : Nat) : Bool := (s.rd (s.qreg q 0x028) &&& s.rd (s.qreg q 0x02C) &&& 0xFE000000#32) != 0

/-- A word of a set's summary (QM_SETSUM). -/
def State.setSummary (s : State) (set w : Nat) : Word :=
  BitVec.ofNat 32 ((List.range 32).foldl (fun n b => n + b2n (s.queuePends (128 * set + 32 * w + b)) * 2 ^ b) 0)

/-- Unit 0x0A (R327). -/
def State.qmRead (s : State) (die inst off key : Nat) : Word :=
  if inst = 0xC00 then
    match off with
    | 0x004 => BitVec.ofInt 32 (s.poolSize die)
    | 0x008 => BitVec.ofInt 32 (s.poolFree die)
    | _ => s.rd key
  else if 0xD00 ≤ inst then
    if 0x010 ≤ off ∧ off < 0x020 then s.setSummary (firstSet die + (inst - 0xD00)) ((off - 0x010) / 4) else s.rd key
  else
    let x := s.queue (queueOf die inst)
    let st := match x.state with | .disabled => 0 | .run => 1 | .paused => 2 | .stalled => 3 | .peerLost => 4 | .alarmed => 5 | .error => 6
    match off with
    | 0x01C => BitVec.ofNat 32 x.tail
    | 0x020 => BitVec.ofNat 32 (x.head + x.fin * 65536)
    | 0x028 => s.withLive key 0x01FFFFF7 (st + x.code % 16 * 16 + x.cells.length % 2 ^ 17 * 256)
    | 0x040 => BitVec.ofNat 32 (x.cwr + x.crd * 65536)
    | 0x044 => BitVec.ofNat 32 x.ccnt
    | 0x048 => s.withLive key 0xFF (min x.kicks 255)
    | _ => s.rd key

/-- Unit 0x0D (R410). -/
def State.xcvrRead (s : State) (die inst off key : Nat) : Word :=
  if inst < 16 then
    match off with
    | 0x008 => s.lstatRead die inst
    | 0x010 => s.rxeqRead die inst 0
    | 0x014 | 0x018 | 0x01C => s.rxeqRead die inst ((off - 0x014) / 4 + 1)
    | 0x024 => s.withLive key 0x80000000 (b2n (s.lane die inst).scan * 2 ^ 31)
    | _ => s.rd key
  else match off with
    | 0x000 => s.withLive key 0x80000000 (b2n (s.refOk (7 + 4 * die + (inst - 16))) * 2 ^ 31)
    | 0x00C => s.qstatRead die (inst - 16)
    | _ => s.rd key

/-- Unit 0x0E: start-up on HD, live change on the fabric dies (R463, R493). -/
def State.cfgRead (s : State) (die inst off key : Nat) : Word :=
  if die = 4 then
    if off = 0x048 then BitVec.ofNat 32 (leNat (s.boot.nvm.take 4)) else s.rd key
  else if inst = 0 then
    if off = 0x014 then s.cfgfStatRead die
    else if 0x040 ≤ off ∧ off < 0x080 then s.rgstatRead die ((off - 0x040) / 4)
    else s.rd key
  else if off = 0x004 then s.scrStatRead die (inst - 1) else s.rd key

/-- Unit 0x10 (R348). -/
def State.ddrRead (s : State) (c off key : Nat) : Word :=
  if c = 4 then s.rd key
  else match off with
    | 0x008 => s.withLive key 0x0F (s.chan c).state.code
    | 0x020 => s.withLive key 1 (b2n ((s.chan c).state == .retrain))
    | 0x08C => s.withLive key 0x80000000 (b2n (s.chan c).test.isSome * 2 ^ 31)
    | _ => s.rd key

/-- Unit 0x12 (R381). -/
def State.mpeRead (s : State) (inst off key : Nat) : Word :=
  if inst < 6 then
    let g := s.engine inst
    let head := (g.log.head?.map Alarm.words).getD []
    match off with
    | 0x004 => s.withLive key 0x1C00 (min g.reenc.length 7 * 2 ^ 10)
    | 0x020 | 0x024 | 0x028 | 0x02C => head.getD ((off - 0x020) / 4) 0
    | 0x040 => s.withLive key 0x80000000 (b2n g.reinit.isSome * 2 ^ 31)
    | _ => s.rd key
  else if inst = 6 ∧ off = 0x020 then s.withLive key 0x80000000 (b2n s.mem.retiring.isSome * 2 ^ 31)
  else s.rd key

/-- Unit 0x13 (R526). -/
def State.bezelRead (s : State) (inst off key : Nat) : Word :=
  if inst < 4 then
    if off = 0 then s.withLive key 0x80000000 (b2n (s.bzBusy inst) * 2 ^ 31) else s.rd key
  else match off with
    | 0x000 => s.bzStatRead
    | 0x004 => s.withLive key 0x80000000 (b2n s.sec.locked * 2 ^ 31)
    | 0x00C => s.bzCertRead
    | 0x010 | 0x014 => half64 off 0x010 (BitVec.ofNat 64 s.sec.otp.serial)
    | 0x018 => s.bzArbRead
    | 0x01C => s.bzLogRead
    | 0x020 => s.bzOtpRead
    | _ => s.rd key

/-- Unit 0x15 (R550 to R556). -/
def State.recRead (s : State) (inst off key : Nat) : Word :=
  if inst = 0 then
    match off with
    | 0x008 => s.recStatRead
    | 0x00C => BitVec.ofNat 32 (s.recorder.seq % 2 ^ 22)
    | 0x010 => s.recCountRead
    | _ => s.rd key
  else s.rd key

/-- Unit 0x16 (R530 to R543). -/
def State.dbgRead (s : State) (off key : Nat) : Word :=
  match off with
  | 0x004 => s.astatRead
  | 0x400 => vtWord s.session.tx (s.fld key 16 1)
  | 0x404 => vtWord s.session.rx (s.fld key 16 2)
  | 0x710 => s.fstatRead
  | _ => s.rd key

/-- Unit 0x18 (R411). -/
def State.plinkRead (s : State) (inst off key : Nat) : Word :=
  if inst = 4 then
    match off with
    | 0x004 => s.withLive key 7 s.alignCode
    | 0x010 | 0x014 => half64 off 0x010 (if s.plRole = 2 then BitVec.ofInt 64 (s.port s.upstream).ofs else 0)
    | 0x020 => s.eventHead.getD 0 0
    | 0x024 => s.eventHead.getD 1 0
    | 0x028 => s.eventHead.getD 2 0
    | _ => s.rd key
  else
    let p := s.port inst
    match off with
    | 0x008 => s.withLive key 3 (match p.state with | .down => 0 | .training => 1 | .up => 2)
    | 0x00C => BitVec.ofInt 32 p.rtt
    | _ => s.rd key

/-- Unit 0x1A (R37 to R39). -/
def State.mbxUnitRead (s : State) (inst off key : Nat) : Word :=
  if inst = 32 then (if off = 0 then s.ccStartRead else s.rd key)
  else match off with
    | 0x008 => ((s.box inst).head?).getD 0
    | 0x00C => s.mbxStatRead inst
    | _ => s.rd key

/-- The value a register has at this moment (R7): no side effect. -/
def State.regRead (s : State) (key : Nat) : Word :=
  let die := keyDie key
  let inst := keyInst key
  let off := keyOff key
  if 0xFF8 ≤ off then s.rd key else
  match keyUnit key with
  | 0x00 => if off = 0x004 then s.dieDstatRead else s.rd key
  | 0x01 =>
    if off ≠ 0x004 then s.rd key
    else match domOf die inst, islOf die inst with
      | some g, _ => s.domStatRead g
      | none, some j => s.islStatRead j
      | none, none => s.rd key
  | 0x02 => if die = 4 then (if off = 0x004 then s.clkStatRead else if off = 0x008 then s.monselRead else s.rd key) else s.rd key
  | 0x03 => s.spineRead die inst off key
  | 0x04 => s.calUnitRead die off key
  | 0x05 => s.tioRead die inst off key
  | 0x06 => s.padRead die inst off key
  | 0x08 => s.facetRead die inst off key
  | 0x09 => s.fdspRead die inst off key
  | 0x0A => s.qmRead die inst off key
  | 0x0B => if off = 0x004 then s.hnStatRead die else s.rd key
  | 0x0D => s.xcvrRead die inst off key
  | 0x0E => s.cfgRead die inst off key
  | 0x0F => if off = 0x004 then s.lpCmdRead die else if off = 0x008 then s.lpStatRead die else s.rd key
  | 0x10 => s.ddrRead inst off key
  | 0x12 => s.mpeRead inst off key
  | 0x13 => s.bezelRead inst off key
  | 0x15 => s.recRead inst off key
  | 0x16 => s.dbgRead off key
  | 0x18 => s.plinkRead inst off key
  | 0x19 => if off = 0x004 then s.coreRstatRead inst else s.rd key
  | 0x1A => s.mbxUnitRead inst off key
  | _ => s.rd key

end Sys2Proof.Machine
end

