-- ==== Sys2Proof/Machine/Irq.lean ====
section
/-!
DEFINITION. The interrupt sources of the control die (R36): level-sensitive, asserted until they are cleared at their unit.
-/
namespace Sys2Proof.Machine

/-- A flag of a mask is set in a register. -/
def State.anyFlag (s : State) (key : Nat) (mask : Word) : Bool := (s.rd key &&& mask) != 0

/-- A calendar slice: `late` or `skip`, an error, `crowd`, each under its enable (R107). -/
def State.calIrq (s : State) (die : Nat) : Bool :=
  let c := Reg.CAL_CTL die
  let t := Reg.CAL_STAT die
  (s.bit c 2 && s.anyFlag t 0x3) || (s.bit c 3 && s.anyFlag t 0x298) || (s.bit c 4 && s.bit t 2)

/-- The dispatchers of a die with `ie`: their flags and the error flags of their Facets (R244). -/
def State.facetIrq (s : State) (die : Nat) : Bool :=
  (List.range 16).any (fun r => s.bit (Reg.FDSP_CTL die r) 2 &&
    (s.anyFlag (Reg.FDSP_STAT die r) 0x1F00 || (List.range 17).any (fun j => s.anyFlag (Reg.FACET_STAT die (17 * r + j)) 0x38000)))

def State.cfgIrq (s : State) (die : Nat) : Bool :=
  s.bit (Reg.CFGF_CTL die) 2 && (s.anyFlag (Reg.CFGF_STAT die) 0x3C00 || s.anyFlag (regKey die 0x0E 1 4) 0x1F || s.anyFlag (regKey die 0x0E 2 4) 0x1F)

def State.tioIrq (s : State) (die : Nat) : Bool := (List.range 240).any (fun n => (s.rd (Reg.TIO_STAT die n) &&& s.rd (Reg.TIO_IE die n) &&& 0x1FFC000#32) != 0)

/-- Either side of a die-to-die module (R326). -/
def State.moduleIrq (s : State) (m : Nat) : Bool :=
  let side (d : Nat) : Bool := s.bit (Reg.D2D_CTL d m) 0 && s.anyFlag (Reg.D2D_EVT d m) 0xF
  side (moduleEnds m).1 || side (moduleEnds m).2

/-- A CXL_ERR flag, or `down` or `up` of a link (R349). -/
def State.portIrq (s : State) (p : Nat) : Bool :=
  s.bit (Reg.CXL_CTL p) 3 && (s.anyFlag (Reg.CXL_ERR p) 0x3F || s.anyFlag (Reg.CXL_LSTAT0 p) 0x1800 || s.anyFlag (Reg.CXL_LSTAT1 p) 0x1800)

def State.mbxIrq (s : State) (n : Nat) : Bool :=
  (s.bit (Reg.MBX_CTL n) 8 && !(s.box n).isEmpty) || (s.bit (Reg.MBX_CTL n) 9 && decide ((s.box n).length ≤ 8))

def State.terminalIrq (s : State) : Bool :=
  (s.bit Reg.DBG_VT_CTL 0 && !s.session.rx.isEmpty) || (s.bit Reg.DBG_VT_CTL 1 && decide (s.session.tx.length ≤ 32))

/-- Whether interrupt source `n` is asserted (R36). -/
def State.irq (s : State) (n : Nat) : Bool :=
  if n = 0 then false
  else if n < 65 then s.userLine (n - 1)
  else if n < 129 then (List.range 4).any (fun w => s.setSummary (n - 65) w != 0)
  else if n < 145 then s.bit (Reg.DOM_CTL (n - 129)) 14 && s.bit (Reg.DOM_STAT (n - 129)) 16
  else if n < 149 then s.calIrq (n - 145)
  else if n < 153 then s.facetIrq (n - 149)
  else if n < 157 then s.cfgIrq (n - 153)
  else if n < 161 then s.tioIrq (n - 157)
  else if n < 165 then s.bit (Reg.XBAR_STAT (n - 161)) 0 && s.bit (Reg.XBAR_STAT (n - 161)) 3
  else if n < 180 then s.moduleIrq (n - 165)
  else if n < 184 then s.bit (Reg.DDR_CTL (n - 180)) 5 && s.anyFlag (Reg.DDR_STAT (n - 180)) 0xFE0
  else if n < 186 then s.portIrq (n - 184)
  else if n < 192 then s.bit (Reg.MPE_CTL (n - 186)) 0 && s.anyFlag (Reg.MPE_STAT (n - 186)) 0x433F
  else if n = 192 then s.bit Reg.GOV_CTL 12 && s.anyFlag Reg.GOV_STAT 0x1850
  else if n = 193 then s.bit Reg.REC_CTL 16 && s.anyFlag Reg.REC_STAT 0x26
  else if n = 194 then (List.range 4).any (fun c => s.bit (Reg.BZ_RSP c) 14 && s.bit (Reg.BZ_RSP c) 12)
  else if n = 195 then s.terminalIrq
  else if n < 228 then s.mbxIrq (n - 196)
  else if n < 234 then s.bit (Reg.CORE_WDT_STAT (n - 228)) 24
  else if n = 234 then s.bit Reg.CLK_CTL 2 && s.bit Reg.CLK_STAT 10
  else if n = 235 then s.bit Reg.CC_STATUS 3
  else if n < 240 then s.bit Reg.DIE_DEVT (n - 236) || s.bit Reg.DIE_DEVT (n - 236 + 4)
  else if n < 244 then s.bit (Reg.LP_CTL (n - 240)) 1 && (s.anyFlag (Reg.LP_STAT (n - 240)) 0x1700 || s.fld (Reg.LP_NOCAP (n - 240)) 0 16 != 0)
  else false

end Sys2Proof.Machine
end

