-- ==== Sys2Proof/Machine/Plic.lean ====
section
/-!
DEFINITION. The interrupt controller of the control die (R36), after the RISC-V Platform-Level Interrupt Controller specification:
gateways, priorities, enables and thresholds of ten contexts, claim and completion.
-/
namespace Sys2Proof.Machine

def State.setPlic (s : State) (f : Plic → Plic) : State := s.setBoot (fun b => { b with plic := f b.plic })

/-- The gateways: a source asserted and not being served becomes pending, and stays so until it is claimed. -/
def State.gateways (s : State) : State :=
  s.setPlic (fun p => { p with pending := (List.range 244).foldl (fun m n => if s.irq n && !p.claimed.get n false then m.set n true false else m) p.pending })

/-- The gateways look at their sources at each spine tick, while CD is in service. [Log 162 PRESUMED] -/
def State.interruptTick (s : State) : State := if s.clk.por || !s.spine.run || s.dieState 5 != 0 then s else s.gateways

/-- A pending source a context enables, of a priority above `t`. -/
def Plic.wants (p : Plic) (ctx t n : Nat) : Bool := n != 0 && p.pending.get n false && p.enable.get (1024 * ctx + n) false && decide (t < p.prio.get n 0)

/-- The context's interrupt is asserted: a pending, enabled source above its threshold. -/
def State.interruptTo (s : State) (ctx : Nat) : Bool := (List.range 244).any (s.boot.plic.wants ctx (s.boot.plic.thresh.get ctx 0))

/-- The source a claim returns: of the highest priority, the lowest number among equals; 0 if none is pending. -/
def Plic.best (p : Plic) (ctx : Nat) : Nat :=
  ((List.range 244).filter (p.wants ctx 0)).foldl (fun b n => if b = 0 ∨ p.prio.get b 0 < p.prio.get n 0 then n else b) 0

/-- A claim takes the source: it is no longer pending, and its gateway waits for the completion. -/
def State.plicClaim (s : State) (ctx : Nat) : State × Word :=
  let n := s.boot.plic.best ctx
  (if n = 0 then s else s.setPlic (fun p => { p with pending := p.pending.set n false false, claimed := p.claimed.set n true false }), BitVec.ofNat 32 n)

/-- A completion by a context that enables the source opens its gateway again. -/
def State.plicComplete (s : State) (ctx n : Nat) : State :=
  if s.boot.plic.enable.get (1024 * ctx + n) false then s.setPlic (fun p => { p with claimed := p.claimed.set n false false }) else s

/-- An address of the controller's 64 MiB of registers: from 2^48 on, outside the 48-bit system address space, in a space of the control
die's own. [Log 162 PRESUMED] -/
def isPlic (a : Nat) : Bool := a / 0x4000000 == 0x400000

/-- Thirty-two flags from `n` on as a word. -/
def flagWord (m : SMap Bool) (n : Nat) : Word := BitVec.ofNat 32 ((List.range 32).foldl (fun w i => w + b2n (m.get (n + i) false) * 2 ^ i) 0)

/-- A read of the controller's registers, laid out as the PLIC specification lays them out: none where no register is.
[Log 162 PRESUMED] -/
def State.plicRead (s : State) (off : Nat) : State × Option Word :=
  let s := s.gateways
  let p := s.boot.plic
  if off < 0x1000 then (s, some (BitVec.ofNat 32 (p.prio.get (off / 4) 0)))
  else if off < 0x1080 then (s, some (flagWord p.pending ((off - 0x1000) / 4 * 32)))
  else if 0x2000 ≤ off ∧ off < 0x2500 then (s, some (flagWord p.enable (1024 * ((off - 0x2000) / 0x80) + (off - 0x2000) % 0x80 / 4 * 32)))
  else if 0x200000 ≤ off ∧ off < 0x20A000 then
    let ctx := (off - 0x200000) / 0x1000
    if off % 0x1000 = 0 then (s, some (BitVec.ofNat 32 (p.thresh.get ctx 0)))
    else if off % 0x1000 = 4 then let r := s.plicClaim ctx; (r.1, some r.2)
    else (s, none)
  else (s, none)

/-- A write of the controller's registers; whether a register is there. [Log 162 PRESUMED] -/
def State.plicWrite (s : State) (off : Nat) (w : Word) : State × Bool :=
  let s := s.gateways
  if off < 0x1000 then (if off = 0 then s else s.setPlic (fun p => { p with prio := p.prio.set (off / 4) (wfld w 0 3) 0 }), true)
  else if off < 0x1080 then (s, true)
  else if 0x2000 ≤ off ∧ off < 0x2500 then
    let k := 1024 * ((off - 0x2000) / 0x80) + (off - 0x2000) % 0x80 / 4 * 32
    (s.setPlic (fun p => { p with enable := (List.range 32).foldl (fun m i => m.set (k + i) (wbit w i && (k + i) % 1024 != 0) false) p.enable }), true)
  else if 0x200000 ≤ off ∧ off < 0x20A000 then
    let ctx := (off - 0x200000) / 0x1000
    if off % 0x1000 = 0 then (s.setPlic (fun p => { p with thresh := p.thresh.set ctx (wfld w 0 3) 0 }), true)
    else if off % 0x1000 = 4 then (s.plicComplete ctx w.toNat, true)
    else (s, false)
  else (s, false)

end Sys2Proof.Machine
end

