-- ==== Sys2Proof/Machine/RegWrite.lean ====
section
/-!
DEFINITION. What a write of each register does (R7 to R9): its fields by their access types, and the effect its unit gives it.
-/
namespace Sys2Proof.Machine

/-- A word merged into a register by the access types of its fields (R7): RW and RWL bits take the written value, W1C bits are
cleared by a 1; W1S and WO bits act and are not kept. [Log 26 DEDUCED] -/
def RegDef.merge (r : RegDef) (old w : Word) : Word :=
  let rw := BitVec.ofNat 32 (r.rw ||| r.rwl)
  let w1c := BitVec.ofNat 32 r.w1c
  (old &&& ~~~(rw ||| w1c)) ||| (w &&& rw) ||| (old &&& w1c &&& ~~~w)

/-- A write that only stores. -/
def State.store (s : State) (key : Nat) (w : Word) : State :=
  match regDef? key with
  | some r => s.wr key (r.merge (s.rd key) w)
  | none => s

/-- A store after which a unit's configuration is judged. -/
def State.storeFlag (s : State) (key : Nat) (w : Word) (bad : Bool) (stat bit : Nat) : State :=
  (s.store key w).flagIf bad stat bit

/-- The reserved code or out-of-range value a domain's source parameters hold (R9, R57, R58, R73). [Log 27 DEDUCED] -/
def State.domParamsBad (s : State) (i : Nat) : Bool :=
  let a := s.rd (Reg.DOM_SRCA i)
  match wfld (s.rd (Reg.DOM_CTL i)) 0 3 with
  | 0 => wfld a 24 2 == 3
  | 3 => wfld a 12 12 < 250 || decide (2500 < wfld a 12 12)
  | 4 => wfld (s.rd (Reg.DOM_SRCB i)) 0 16 < 20 || decide (5000 < wfld (s.rd (Reg.DOM_SRCB i)) 0 16)
  | 7 => true
  | _ => false

/-- DOM_CTL outside OFF: `dfrz` and `ie_chg` alone may change (R73). [Log 27 DEDUCED] -/
def State.domCtlRegWrite (s : State) (i : Nat) (w : Word) : State × Resp :=
  let key := Reg.DOM_CTL i
  let t := s.store key w
  if (s.dom i).state = .off then (t.flagIf (t.domParamsBad i) (Reg.DOM_STAT i) 14, .ok)
  else if (t.rd key ||| 0x5000#32) == (s.rd key ||| 0x5000#32) then (t, .ok)
  else (s, .refused)

/-- Unit 0x03 (R73, R74). [Log 26 DEDUCED] -/
def State.spineWrite (s : State) (die inst off key : Nat) (w : Word) : State × Resp :=
  if die = 4 then
    if 16 ≤ inst then (s, .ok)
    else
      let offOnly := off == 0x038 || off == 0x040 || off == 0x044 || off == 0x048 || decide (0x400 ≤ off)
      if off = 0x000 then s.domCtlRegWrite inst w
      else if off = 0x004 then (s.domCommand inst (wfld w 0 4), .ok)
      else if offOnly && (s.dom inst).state != .off then (s, .refused)
      else
        let t := s.store key w
        let t := if off = 0x048 then t.syncLines inst else t
        (t.flagIf ((off == 0x040 || off == 0x044) && t.domParamsBad inst) (Reg.DOM_STAT inst) 14, .ok)
  else if off = 0x004 ∧ wbit w 0 then
    ({ s with spine := { s.spine with recal := if s.spine.recal.get die 0 = 0 then s.spine.recal.set die 1 0 else s.spine.recal, deskewed := s.spine.deskewed.set die false false } }, .ok)
  else (s.store key w, .ok)

/-- SRX_CTL.recal (R50). [Log 43 DESIGN CHOICE] -/
def State.spineRecal (s : State) (die : Nat) : State := (s.spineWrite die 0 0x004 (Reg.SRX_CTL die) 1).1

/-- Unit 0x04 (R107). -/
def State.calUnitWrite (s : State) (die off key : Nat) (w : Word) : State × Resp :=
  match off with
  | 0x000 => (s.calCtlWrite die w, .ok)
  | 0x004 => (s.calStatWrite die w, .ok)
  | 0x020 => s.calGcmdWrite die w
  | 0x120 => s.calStgCmdWrite die w
  | _ => if 0x100 ≤ off ∧ off < 0x120 then s.calStgWrite die ((off - 0x100) / 4) w else (s.store key w, .ok)

/-- TIO_PW_UPD: the shadows are usable from the next tick boundary (R128). [Log 69 DEDUCED] -/
def State.pwmUpdate (s : State) (die n : Nat) : State :=
  let u := s.unit die n
  s.setUnit die n { u with upd := some (u.upd.getD s.tickEnd) }

/-- TIO_OFLUSH (R137). -/
def State.flushOutput (s : State) (die n : Nat) : State := s.setUnit die n { s.unit die n with flush := true }

/-- TIO_EMU_OFS (R132). [Log 68 DEDUCED] -/
def State.emulationOffset (s : State) (die n : Nat) (w : Word) : State :=
  { s.store (Reg.TIO_EMU_OFS die n) w with tioWrites := s.tioWrites ++ [.offset die n w] }

/-- TIO_PAT (R134). -/
def State.patternWrite (s : State) (die w : Nat) (v : Word) : State := { s with tioWrites := s.tioWrites ++ [.pattern die w v] }

/-- The mode last written is OFF, reserved modes included (R111). -/
def State.modeOff (s : State) (die n : Nat) : Bool := let m := s.fld (Reg.TIO_CTL die n) 0 4; m == 0 || decide (9 ≤ m)

/-- Unit 0x05 (R111, R121, R136 to R141). -/
def State.tioWrite (s : State) (die n off key : Nat) (w : Word) : State × Resp :=
  if n = 240 then
    if 0x400 ≤ off then (s.patternWrite die ((off - 0x400) / 4) w, .ok) else (s, .ok)
  else match off with
    | 0x000 => s.tioCtlWrite die n w
    | 0x018 => (if wbit w 0 then s.flushOutput die n else s, .ok)
    | 0x030 =>
      let m := s.fld (Reg.TIO_CTL die n) 0 4
      if m = 1 ∨ m = 2 then (s, .refused) else (s.store key w, .ok)
    | 0x058 => (if wbit w 0 then s.pwmUpdate die n else s, .ok)
    | 0x064 =>
      let t := s.store key w
      (if wfld w 0 12 < 64 then t.flagErr (Reg.TIO_STAT die n) 22 3 (errCode 4 1) else t, .ok)
    | 0x068 => (s.emulationOffset die n w, .ok)
    | 0x060 | 0x06C | 0x070 => if s.modeOff die n then (s.store key w, .ok) else (s, .refused)
    | 0x078 =>
      if !(s.modeOff die n) then (s, .refused)
      else
        let t := s.store key w
        (if 240 ≤ wfld w 0 8 then t.flagErr (Reg.TIO_STAT die n) 22 3 (errCode 4 1) else t, .ok)
    | _ => (s.store key w, .ok)

/-- Units 0x06 and 0x07 (R144 to R168). [Log 74 DEDUCED] -/
def State.padWrite (s : State) (die n off key req : Nat) (w : Word) : State × Resp :=
  if n < 240 then
    match off with
    | 0x000 => (s.padFuncWrite die n w, .ok)
    | 0x004 => (s.padCfgWrite die n w, .ok)
    | _ => (s, .ok)
  else if off = 0x000 then
    ((if wbit w 10 then s.setBit key 10 false else s).lockWrite die req (wfld w 0 8) (wfld w 24 8), .ok)
  else if 0x040 ≤ off ∧ off < 0x068 then ((s.withStates [die] (fun s => s.store key w)).judgeVccio die ((off - 0x040) / 4), .ok)
  else (s.store key w, .ok)

/-- [Log 73 DESIGN CHOICE] -/
def State.xbarWrite (s : State) (die n off key : Nat) (w : Word) : State × Resp :=
  if n < 240 then
    match off with
    | 0x000 => (s.xbarSrcWrite die n w, .ok)
    | _ => (s.xbarInWrite die n w, .ok)
  else
    let t := s.store key w
    (if 0x100 ≤ off ∧ 240 ≤ wfld w 0 8 then t.flagErr (Reg.XBAR_STAT die) 2 3 (errCode 5 2) else t, .ok)

/-- FACET_CTL (R228, R233, R242). -/
def State.facetCtlWrite (s : State) (die p : Nat) (w : Word) : State := ((s.store (Reg.FACET_CTL die p) w).enableFacet die p).freezeFollows

/-- FACET_CMD (R228, R230). -/
def State.facetCmdWrite (s : State) (die p : Nat) (w : Word) : State × Resp :=
  match wfld w 0 2 with
  | 1 => (s.abortFacet die p, .ok)
  | 2 => s.resetFacet die p
  | 3 => (s.raiseUrgent die p (wfld w 16 16) 1, .ok)
  | _ => (s, .ok)

/-- FDSP_REQ (R235). -/
def State.fdspReqWrite (s : State) (die rg : Nat) (w : Word) : State × Resp := ((s.requestTask die rg (wfld w 0 6) (wfld w 16 16) none false).1, .ok)

/-- Unit 0x0A (R310 to R327). [Log 26 DEDUCED] -/
def State.qmWrite (s : State) (die inst off key : Nat) (w : Word) : State × Resp :=
  if inst = 0xC00 then (s.store key w, .ok)
  else if 0xD00 ≤ inst then
    if off ≠ 0 then (s, .ok)
    else
      let t := s.store key w
      (if wbit w 31 then t.setCommand die (inst - 0xD00) (wfld w 0 3) (wfld w 4 4) else t, .ok)
  else
    let q := queueOf die inst
    let setUp := [0x000, 0x004, 0x008, 0x018, 0x038].contains off
    match off with
    | 0x01C => (s.doorbell q (wfld w 0 16), .ok)
    | 0x024 => s.queueCommand q (wfld w 0 3)
    | 0x040 => (s.completionPointer q (wfld w 16 16), .ok)
    | 0x048 =>
      let t := s.store key w
      (if wbit w 31 then t.kick q else t, .ok)
    | _ =>
      if setUp && (s.queue q).state != .disabled then (s, .refused)
      else
        let t := s.store key w
        let bad := (off == 0x004 && (wfld w 11 5 < 12)) || (off == 0x018 && (wfld w 0 5 < 4 || decide (16 < wfld w 0 5)))
          || (off == 0x038 && (wfld w 0 5 < 4 || decide (16 < wfld w 0 5)))
        (if bad then t.qmConfig q else t, .ok)

/-- HN_CTL: a weight of 0 is taken as 1 (R325). -/
def State.hnWrite (s : State) (die off key : Nat) (w : Word) : State :=
  s.storeFlag key w (off == 0 && (wfld w 0 4 == 0 || wfld w 4 4 == 0 || wfld w 8 4 == 0)) (Reg.HN_STAT die) 10

/-- Unit 0x0D (R382 to R410). -/
def State.xcvrWrite (s : State) (die inst off key : Nat) (w : Word) : State × Resp :=
  if inst < 16 then
    match off with
    | 0x000 => s.lctlWrite die inst w
    | 0x004 => s.lcmdWrite die inst w
    | 0x00C => (s.txeqWrite die inst w, .ok)
    | 0x010 => s.rxeqWrite die inst 0 w
    | 0x014 | 0x018 | 0x01C => s.rxeqWrite die inst ((off - 0x014) / 4 + 1) w
    | 0x024 => s.eyeScan die inst w
    | _ => if s.owned die inst then (s, .refused) else (s.store key w, .ok)
  else match off with
    | 0x000 => s.qrefWrite die (inst - 16) w
    | 0x004 => s.qpllWrite die (inst - 16) false w
    | 0x008 => s.qpllWrite die (inst - 16) true w
    | _ => (s.store key w, .ok)

/-- CFG_NEXT: `jtag` is written by the debugger with the CONFIG scope, and refused in DEPLOYED and SCRAPPED (R462, R530). -/
def State.cfgNextWrite (s : State) (req : Nat) (w : Word) : State × Resp :=
  let key := Reg.CFG_NEXT
  let may := req == 16 && s.hasScope 4
  if may && wbit w 4 && decide (3 ≤ s.sec.lc) && !s.bit key 4 then (s.raise 4 (errCode 15 13) 4 0x0E 0, .refused)
  else (s.wr key (wsetBit (w &&& 0x1F) 4 (if may then wbit w 4 else s.bit key 4)), .ok)

/-- CFG_NVMCMD, CFG_NVMADDR and CFG_NVMDATA (R463). -/
def State.nvmCommand (s : State) (w : Word) : State × Resp :=
  let key := Reg.CFG_NVMCMD
  if s.bit key 31 then (s, .refused)
  else
    let t := s.wr key (w &&& 0x81FFFFFF)
    (if wbit w 31 then t.setBoot (fun b => { b with nvm := [] }) else t, .ok)

/-- [Log 28 DEDUCED] -/
def State.nvmAppend (s : State) (w : Word) : State :=
  if 252 < s.boot.nvm.length then s else s.setBoot (fun b => { b with nvm := b.nvm ++ leBytes 4 w.toNat })

/-- Unit 0x0E (R463, R493). -/
def State.cfgWrite (s : State) (die inst off key req : Nat) (w : Word) : State × Resp :=
  if die = 4 then
    match off with
    | 0x024 => s.cfgNextWrite req w
    | 0x040 => s.nvmCommand w
    | 0x048 => (s.nvmAppend w, .ok)
    | 0x060 =>
      let t := s.store key w
      (if wbit w 3 then t.bankConfirm else t, .ok)
    | _ => (s.store key w, .ok)
  else if inst = 0 then
    match off with
    | 0x000 => s.cfgCmdWrite die w
    | 0x010 => (s.cfgCtlWrite die w, .ok)
    | 0x01C =>
      -- the writer is the Region whose self-test runs
      match (List.range 16).find? (fun r => (s.region die r).state == .selftest && (s.region die r).runs) with
      | some r => (s.selftestResult die r (wfld w 0 24) 0 (wbit w 28), .ok)
      | none => (s, .denied)
    | 0x020 => s.facetTest die w
    | _ => (s.store key w, .ok)
  else if off = 0x000 then (s.scrCtlWrite die (inst - 1) w, .ok)
  else (s.store key w, .ok)

/-- Unit 0x0F (R207). -/
def State.loupeWrite (s : State) (die off key : Nat) (w : Word) : State × Resp :=
  match off with
  | 0x000 => (s.lpCtlWrite die w, .ok)
  | 0x004 => s.lpCmdWrite die w
  | 0x01C => if (s.loupe die).state = .readout then (s, .refused) else (s.store key w, .ok)
  | 0x020 => s.restoreWrite die w
  | _ => if 0x040 ≤ off ∧ off < 0x080 then s.lpProfWrite die ((off - 0x040) / 4) w else (s.store key w, .ok)

/-- DDR_CTL (R338, R341, R348): `en` = 0 takes the channel to OFF; leaving OFF begins training; `init` retrains from FAILED. -/
def State.ddrCtlWrite (s : State) (c : Nat) (w : Word) : State :=
  let key := Reg.DDR_CTL c
  let bad := wfld w 8 8 == 0 || decide (wfld w 16 6 ≤ wfld w 22 6) || wfld w 1 2 == 3
  let t := s.storeFlag key w bad (Reg.DDR_STAT c) 11
  match (s.chan c).state with
  | .off => if t.mayTrain c then t.beginTraining c else t
  | .failed => if !wbit w 0 then t.channelOff c else if wbit w 6 && t.mayTrain c then t.beginTraining c else t
  | _ => if wbit w 0 then t else t.channelOff c

/-- Unit 0x10 (R339 to R342, R348). [Log 26 DEDUCED] -/
def State.ddrWrite (s : State) (c off key req : Nat) (w : Word) : State × Resp :=
  if c = 4 then (s, .ok)
  else match off with
    | 0x004 => (s.ddrCtlWrite c w, .ok)
    | 0x00C => (s.storeFlag key w (wfld w 0 16 == 0) (Reg.DDR_STAT c) 11, .ok)
    | 0x020 =>
      let t := s.store key w
      let (t, r) := if wbit w 0 then (if (s.chan c).state = .retrain then (t, .ok) else t.retrain c) else (t, .ok)
      if r = .refused then (s, .refused) else (if wbit w 1 then t.retrainAbort c else t, r)
    | 0x088 | 0x08C =>
      if (s.chan c).test.isSome then (s, .refused)
      else
        let t := s.store key w
        (if off = 0x08C ∧ wbit w 31 then t.testStart c (wfld w 0 2) req else t, .ok)
    | _ => (s.store key w, .ok)

/-- Whether a decoder may be enabled (R344): its range inside the port's window, `ilv2` in a mode with link B, no overlap. -/
def State.hdmOk (s : State) (p n : Nat) (base : Nat) : Bool × Bool :=
  let lim := s.rd (Reg.CXL_HDM_LIMIT p n)
  let l := wfld lim 0 20
  let (lo, hi) := if s.crossPort then (0x1000, 0x4FFF) else if p = 0 then (0x1000, 0x2FFF) else (0x3000, 0x4FFF)
  let fits := decide (lo ≤ base ∧ base ≤ l ∧ l ≤ hi) && s.rootMode p && (!wbit lim 21 || s.fld (Reg.CXL_CTL p) 0 2 == 1)
  let clash := (List.range 8).any (fun m => m != n && s.bit (Reg.CXL_HDM_BASE p m) 31 &&
    decide (s.fld (Reg.CXL_HDM_BASE p m) 0 20 ≤ l ∧ base ≤ s.fld (Reg.CXL_HDM_LIMIT p m) 0 20))
  (fits, clash)

/-- A decoder word (R344): written only while `en` = 0; enabling is judged. [Log 118 DEDUCED] -/
def State.hdmWrite (s : State) (p n : Nat) (limit : Bool) (w : Word) : State × Resp :=
  let base := Reg.CXL_HDM_BASE p n
  let key := if limit then Reg.CXL_HDM_LIMIT p n else base
  if s.bit base 31 then
    if !limit && !wbit w 31 then (s.setBit base 31 false, .ok) else (s, .refused)
  else if limit || !wbit w 31 then (s.store key w, .ok)
  else
    let (fits, clash) := s.hdmOk p n (wfld w 0 20)
    if fits && !clash then (s.store key w, .ok) else (s.flag (Reg.CXL_ERR p) 4, .refused)

/-- A hot reset of a link (R346). -/
def State.hotReset (s : State) (p : Nat) (linkB : Bool) : State :=
  if s.fld (lstat p linkB) 0 2 = 3 then s else s.cxlLinkLost p linkB 1

/-- CXL_IODATA: one 32-bit memory request to the link CXL_IOADDR names (R345). -/
def State.ioRequest (s : State) (p req : Nat) (write : Bool) (addr : Nat) : State :=
  let linkB := wbit (s.rd (Reg.CXL_IOADDR_HI p)) 31
  if s.fld (lstat p linkB) 0 2 = 3 ∨ !(s.rootMode p) then s.unsupported p else s.cxlRequest p { linkB := linkB, req := req, write := write, addr := addr }

/-- Unit 0x11 (R343 to R349). -/
def State.cxlWrite (s : State) (p off key : Nat) (w : Word) : State × Resp :=
  if off = 0x000 then
    let t := s.storeFlag key w (wfld w 8 24 == 0) (Reg.CXL_ERR p) 4
    let t := if wbit w 4 then t.hotReset p false else t
    (if wbit w 5 then t.hotReset p true else t, .ok)
  else if off = 0x030 then (if s.rootMode p then (s, .refused) else (s.raiseMsix p (wfld w 0 6), .ok))
  else if 0x040 ≤ off ∧ off < 0x0C0 then s.hdmWrite p ((off - 0x040) / 16) (decide (off % 16 = 4)) w
  else (s.store key w, .ok)

/-- Unit 0x12 (R363, R374, R376, R381). [Log 29 DESIGN CHOICE] -/
def State.mpeWrite (s : State) (inst off key req : Nat) (w : Word) : State × Resp :=
  if inst < 6 then
    match off with
    | 0x040 => if wbit w 31 then s.reinitStart inst (wfld w 0 6) else (s.store key w, .ok)
    | _ => (s.store key w, .ok)
  else if inst = 6 then
    match off with
    | 0x020 =>
      if s.mem.retiring.isSome then (s, .refused)
      else if wbit w 31 then s.retireStart req (wfld w 0 6)
      else (s.store key w, .ok)
    | _ => (s.store key w, .ok)
  else if off = 0x008 then s.regionCtlWrite (inst - 0x100) w
  else if s.bit (Reg.MPE_RGN_CTL inst) 31 then (s, .refused)
  else (s.store key w, .ok)

/-- Unit 0x13 (R507, R522, R526). -/
def State.bezelWrite (s : State) (inst off key req : Nat) (w : Word) : State × Resp :=
  if inst < 4 then s.bzWrite inst req off w
  else match off with
    | 0x004 => (s.bzRespWrite w, .ok)
    | 0x00C => (s.bzCertWrite w, .ok)
    | _ => (s.store key w, .ok)

/-- Unit 0x14 (R283 to R297). -/
def State.govWrite (s : State) (off key : Nat) (w : Word) : State :=
  match off with
  | 0x008 => s.govCapWrite w
  | 0x024 => s.govBgWrite w
  | 0x028 => s.govThWrite w
  | 0x0C0 => s.govCmdWrite w
  | _ => s.store key w

/-- DBG_FRUN (R537). -/
def State.frunWrite (s : State) (w : Word) : State × Resp :=
  match wfld w 0 2 with
  | 1 => s.facetHalt
  | 2 => s.facetResume
  | 3 => s.facetStep
  | _ => (s, .ok)

/-- Unit 0x16 (R530 to R543). -/
def State.dbgWrite (s : State) (off key req : Nat) (w : Word) : State × Resp :=
  match off with
  | 0x000 => (s.acmdWrite w, .ok)
  | 0x400 => (s.vtTxWrite req w, .ok)
  | 0x404 => (s.vtRxWrite req w, .ok)
  | 0x500 => ((s.store key w).freezeFollows, .ok)
  | 0x704 => s.frunWrite w
  | 0x708 => s.fregWrite w
  | _ =>
    if 0x600 ≤ off ∧ off < 0x640 then (s.storeFlag key w (decide (11 ≤ wfld w 1 4)) Reg.DBG_ASTAT 14, .ok)
    else (s.store key w, .ok)

/-- Unit 0x18 (R399 to R411). -/
def State.plinkWrite (s : State) (inst off key : Nat) (w : Word) : State × Resp :=
  if inst = 4 then (if off = 0x000 then s.gctlWrite w else (s.store key w, .ok))
  else match off with
    | 0x000 => s.pctlWrite inst w
    | 0x004 => s.pdomWrite inst w
    | 0x018 => (s.eventSend inst (wfld w 0 16), .ok)
    | _ => (s.store key w, .ok)

/-- Unit 0x19 (R536, R539, R559). -/
def State.coreUnitWrite (s : State) (i off key : Nat) (w : Word) : State × Resp :=
  match off with
  | 0x000 => s.coreRcWrite i w
  | 0x010 => s.abstractAccess i w
  | 0x040 => (s.wdtCtlWrite i w, .ok)
  | 0x044 => (s.wdtKick i (wfld w 0 16), .ok)
  | _ => (s.store key w, .ok)

/-- Unit 0x1A (R37 to R40). -/
def State.mbxUnitWrite (s : State) (inst off key req : Nat) (w : Word) : State × Resp :=
  if inst = 32 then (if off = 0x000 then (s.coreStart w, .ok) else (s.store key w, .ok))
  else match off with
    | 0x000 => (s.mbxCtlWrite inst w, .ok)
    | 0x004 => s.mbxPush inst req w
    | _ => (s.store key w, .ok)

/-- The effect of a write of one register that is no half of a pair, by its unit (R7). -/
def State.regWrite (s : State) (key req : Nat) (w : Word) : State × Resp :=
  let die := keyDie key
  let inst := keyInst key
  let off := keyOff key
  if off = 0xFFC then (s.wr key (w &&& 0xF), .ok)
  else if off = 0xFF8 then (s, .ok)
  else match keyUnit key with
  | 0x00 => match off with
    | 0x000 => s.dieCmdWrite w
    | 0x008 => s.dieRelease (wfld w 0 4)
    | 0x020 => s.regionReset die w
    | 0x024 => s.unitReset die w
    | _ => (s.store key w, .ok)
  | 0x01 => match domOf die inst, islOf die inst with
    | some g, _ => if off = 0x000 then s.domCtlWrite g w else (s.store key w, .ok)
    | none, some j => (if off = 0x000 then s.islCtlWrite j w else s.store key w, .ok)
    | none, none => (s, .ok)
  | 0x02 =>
    if die = 4 then
      match off with
      | 0x000 => (s.clkCtlWrite w, .ok)
      | 0x018 => (if wbit w 0 then s.releaseWrite else s, .ok)
      | _ => (s.store key w, .ok)
    else if off = 0x000 then s.fpllWrite die inst w else (s.store key w, .ok)
  | 0x03 => s.spineWrite die inst off key w
  | 0x04 => s.calUnitWrite die off key w
  | 0x05 => s.tioWrite die inst off key w
  | 0x06 => s.padWrite die inst off key req w
  | 0x07 => s.xbarWrite die inst off key w
  | 0x08 => match off with
    | 0x000 => (s.facetCtlWrite die inst w, .ok)
    | 0x004 => s.facetCmdWrite die inst w
    | _ => (s.store key w, .ok)
  | 0x09 => match off with
    | 0x008 => s.fdspReqWrite die inst w
    | 0x030 => s.remapWrite die inst w
    | _ => (s.store key w, .ok)
  | 0x0A => s.qmWrite die inst off key w
  | 0x0B => (s.hnWrite die off key w, .ok)
  | 0x0C => (if off = 0x004 then s.d2dCtlWrite die inst w else s.store key w, .ok)
  | 0x0D => s.xcvrWrite die inst off key w
  | 0x0E => s.cfgWrite die inst off key req w
  | 0x0F => s.loupeWrite die off key w
  | 0x10 => s.ddrWrite inst off key req w
  | 0x11 => s.cxlWrite inst off key w
  | 0x12 => s.mpeWrite inst off key req w
  | 0x13 => s.bezelWrite inst off key req w
  | 0x14 => (s.govWrite off key w, .ok)
  | 0x15 => (if off = 0x004 ∧ inst = 0 then s.recCmdWrite w else s.store key w, .ok)
  | 0x16 => s.dbgWrite off key req w
  | 0x17 => (if off = 0x000 then s.adcCtlWrite die w else s.store key w, .ok)
  | 0x18 => s.plinkWrite inst off key w
  | 0x19 => s.coreUnitWrite inst off key w
  | 0x1A => s.mbxUnitWrite inst off key req w
  | _ => (s.store key w, .ok)

/-! ## Pairs (R6) -/

/-- Whether a unit declines writes of a pair in its present state. [Log 31 DEDUCED] -/
def State.pairRefused (s : State) (key : Nat) : Bool :=
  let die := keyDie key
  let inst := keyInst key
  let off := keyOff key
  match keyUnit key with
  | 0x03 => match off with
    | 0x018 | 0x01C => (s.dom inst).state != .off
    | 0x020 | 0x024 | 0x028 | 0x02C => s.domSrc inst != 5
    | _ => false
  | 0x05 => match off with
    | 0x010 | 0x014 => s.fld (Reg.TIO_CTL die inst) 0 4 != 3
    | 0x050 | 0x054 => !s.modeOff die inst
    | _ => false
  | 0x0A => (s.queue (queueOf die inst)).state != .disabled
  | 0x10 => (s.chan inst).test.isSome
  | 0x13 => s.bzBusy inst
  | _ => false

/-- DOM_LOAD sets the held phase (R73). [Log 31 DEDUCED] -/
def State.phaseLoad (s : State) (i : Nat) (d : DWord) : State :=
  if (s.dom i).state = .off then s.setDom i { s.dom i with phase := d, base := .hold d, segs := [], frac := 0 } else s

/-- A whole 64-bit quantity is applied; `key` is that of its low half (R6). -/
def State.pairWrite (s : State) (key req : Nat) (d : DWord) : State × Resp :=
  let die := keyDie key
  let inst := keyInst key
  let off := keyOff key
  match keyUnit key with
  | 0x03 => match off with
    | 0x018 => ((s.wrPair key (key + 4) d).phaseLoad inst d, .ok)
    | 0x020 => (s.velocityWrite inst d, .ok)
    | 0x028 => (s.accelerationWrite inst d, .ok)
    | _ => (s, .ok)
  | 0x05 => if off = 0x010 then s.tioOutWrite die inst d else (s.wrPair key (key + 4) d, .ok)
  | 0x13 =>
    let (s, r) := s.bzWrite inst req 0x008 (loHalf d)
    if r = .ok then s.bzWrite inst req 0x00C (hiHalf d) else (s, r)
  | 0x16 => (((s.store key (loHalf d)).store (key + 4) (hiHalf d)).freezeFollows, .ok)
  | _ => ((s.store key (loHalf d)).store (key + 4) (hiHalf d), .ok)

/-- A write of name_HI without a held low half sets the unit's configuration-error flag (R6). [Log 29 DESIGN CHOICE] -/
def State.pairUnheld (s : State) (key : Nat) : State :=
  let die := keyDie key
  let inst := keyInst key
  match keyUnit key with
  | 0x03 => if die = 4 ∧ inst < 16 then s.flag (Reg.DOM_STAT inst) 14 else s
  | 0x04 => s.flag (Reg.CAL_STAT die) 3
  | 0x05 => s.flagErr (Reg.TIO_STAT die inst) 22 3 (errCode 4 1)
  | 0x0A => s.qmConfig (queueOf die inst)
  | 0x0E => if die < 4 then s.flag (Reg.CFGF_STAT die) 13 else s
  | 0x10 => s.flag (Reg.DDR_STAT inst) 11
  | 0x11 => s.flag (Reg.CXL_ERR inst) 4
  | 0x12 => s.flag (Reg.MPE_STAT (if inst < 6 then inst else 0)) 9
  | 0x14 => s.flag Reg.GOV_STAT 7
  | 0x16 => s.flag Reg.DBG_ASTAT 14
  | _ => s

end Sys2Proof.Machine
end

