-- ==== Sys2Proof/Machine/Bus.lean ====
section
/-!
DEFINITION. The access bus (R5 to R7, R24 to R33, R586): what an address decodes to, who may reach it, what a write or a read
does there, and the response of the whole access.
-/
namespace Sys2Proof.Machine

/-! ## Decoding (R24 to R28) -/

/-- What a system physical address decodes to (R24). -/
inductive Place where
  /-- The CSR window, with the offset in it (R27). -/
  | csr (key : Nat)
  /-- The on-chip view: die field and offset in the die's sub-window (R25). -/
  | view (die off : Nat)
  /-- DDR5 and the CXL windows. -/
  | memory
  /-- The user window of a Region. -/
  | window (rg : Nat)
  | nothing
deriving DecidableEq, Repr

def place (a : Nat) : Place :=
  let top := a / 2 ^ 32
  if top = 0xF00 then .csr (a % 2 ^ 32)
  else if top = 0xA00 then .view (a % 2 ^ 32 / 0x20000000) (a % 0x20000000)
  else if top < 0x40 ∨ (0x100 ≤ top ∧ top < 0x500) then .memory
  else if 0x800 ≤ top ∧ top < 0x900 then .window ((top - 0x800) / 4)
  else .nothing

/-- The system address of a register. -/
def csrAddr (key : Nat) : Nat := 0xF00 * 2 ^ 32 + key

/-- Whether a register is defined at a window offset, the common registers of R29 among them (R28). -/
def regDefined (key : Nat) : Bool :=
  if 0xFF8 ≤ keyOff key then (keyOff key == 0xFF8 || keyOff key == 0xFFC) && instExists (keyDie key) (keyUnit key) (keyInst key)
  else (regDef? key).isSome

/-- An access through die value 7, a group or all instances (R27). -/
def isAlias (key : Nat) : Bool := keyDie key == 7 || decide (0xFF0 ≤ keyInst key)

/-- The registers an alias reaches (R30, R32). [Log 17 DEDUCED] -/
def State.members (s : State) (key : Nat) : List Nat :=
  let inst := keyInst key
  let dies := if keyDie key = 7 then List.range 6 else [keyDie key]
  let insts := if inst < 0xFF0 then [inst] else List.range 0xD10
  (dies.flatMap (fun d => insts.map (fun i => regKey d (keyUnit key) i (keyOff key)))).filter (fun k =>
    regDefined k && (inst < 0xFF0 || inst == 0xFFF || (s.rd (regKey (keyDie k) (keyUnit k) (keyInst k) 0xFFC)).toNat % 16 == inst - 0xFF0))

/-! ## Who reaches what -/

/-- The power domain of a register's unit, if it has one (R276, R298). -/
def unitDomain (key : Nat) : Option Nat :=
  let die := keyDie key
  let inst := keyInst key
  match keyUnit key with
  | 0x00 | 0x01 => none
  | 0x08 => some (64 + 16 * die + inst / 17)
  | 0x0D => some (132 + 4 * die + (if inst < 16 then inst / 4 else inst - 16))
  | 0x10 => if inst < 4 then some (148 + inst) else none
  | 0x11 => some (152 + inst)
  | 0x17 => some (if die = 4 then 155 else 128 + die)
  | 0x19 => some (if inst < 4 then 157 + inst else 162 + (inst - 4))
  | 0x1A => some 164
  | _ => if die < 4 then some (128 + die) else none

/-- A unit's clock stands still in CLOCK_HOLD (R417, R422, R423): the CSR clock stops with XTAL; with the spine reference stop
the clocks of every other die, the spine and the HD core. [Log 18 DEDUCED] -/
def State.clockStopped (s : State) (die unit : Nat) : Bool :=
  s.clk.hold && (!s.bit Reg.CLK_STAT 16 || (!s.bit Reg.CLK_STAT 17 && (die != 4 || [0x03, 0x0A, 0x0C, 0x12, 0x18].contains unit)))

/-- The die or unit answers at all (R33): not UNREACHABLE. -/
def State.dieReachable (s : State) (die unit : Nat) (dom : Option Nat) : Bool :=
  !s.dieLost die && !s.clockStopped die unit && match dom with | some g => s.domSt g == 0 | none => true

/-- [Log 18 DEDUCED] -/
def State.reachable (s : State) (key : Nat) : Bool := s.dieReachable (keyDie key) (keyUnit key) (unitDomain key)

/-- Queues of the image library's reader, at each home: Bezel's own (R466). -/
def libraryQueue (key : Nat) : Bool := keyUnit key == 0x0A && keyInst key == 1535 && decide (keyDie key < 4)

/-- Bezel's access policy forbids the requester (R381, R506, R526, R530, R536, R558, R559). -/
def State.denies (s : State) (req key : Nat) (write : Bool) : Bool :=
  let inst := keyInst key
  let off := keyOff key
  let core := decide (req ≤ 5)
  let dbg := req == 16
  match keyUnit key with
  | 0x0A => write && libraryQueue key && req != 8
  | 0x0E =>
    if keyDie key = 4 then decide (0x40 ≤ off ∧ off ≤ 0x48) && !(core || req == 8)
    else write && inst == 0 && off == 0x01C && req != 9
  | 0x12 =>
    write && (if inst = 6 then (off == 0 || decide (0x100 ≤ off ∧ off < 0x150)) && req != 8
      else if 0x1FE ≤ inst then req != 8
      else decide (0x100 ≤ inst) && !(core || req == 8))
  | 0x13 =>
    if inst < 4 then (if dbg then write else !channelAgent inst req)
    else write && !(decide (req ≤ 3) || req == 8)
  | 0x15 => write && !(core || req == 8 || (dbg && s.hasScope 6))
  | 0x16 =>
    if off < 0x400 then !dbg
    else if 0x700 ≤ off ∧ off < 0x710 then !(dbg && s.hasScope 2)
    else write && decide (0x500 ≤ off ∧ off < 0x640) && !(core || (dbg && s.hasScope 2))
  | 0x19 =>
    write && (if off = 0x000 ∨ off = 0x010 then !(dbg && s.hasScope 2)
      else decide (0x040 ≤ off ∧ off ≤ 0x048) && !(core || (dbg && s.hasScope 0)))
  | _ => false

/-- Start-up declines the access (R40, R463, R533): control-die writes before user mode, debugger writes to fabric dies before
DONE, the NVM registers before user mode. -/
def State.declines (s : State) (req die unit off : Nat) (write : Bool) : Bool :=
  (write && decide (req ≤ 5) && !s.userMode && ((decide (4 ≤ unit) && decide (unit ≤ 9)) || unit == 0x0F))
  || (write && req == 16 && decide (die < 4) && !s.boot.done)
  || (unit == 0x0E && die == 4 && decide (0x40 ≤ off ∧ off ≤ 0x48) && !s.userMode)

/-- The address lies in a range that a scope of the debug session covers (R530, R534). [Log 19 DEDUCED] -/
def State.gateCovers (s : State) (addr : Nat) : Bool :=
  match place (addr / 4 * 4) with
  | .csr key =>
    let unit := keyUnit key
    let off := keyOff key
    let hd := keyDie key == 4
    (hd && unit == 0x16 && keyInst key == 0 && (off == 0 || off == 4 || decide (0x200 ≤ off ∧ off < 0x400)))
    || s.hasScope 0
    || (s.hasScope 2 && ((keyDie key == 5 && unit == 0x19 && decide (off < 0x020))
        || (hd && unit == 0x16 && decide (0x500 ≤ off ∧ off < 0x714))))
    || (s.hasScope 6 && hd && unit == 0x15)
    || (s.hasScope 4 && key == Reg.CFG_NEXT)
    || (s.session.state == 2 && hd && unit == 0x16 && decide (0x400 ≤ off ∧ off < 0x40C))
  | .view die off => s.hasScope 1 || (s.hasScope 6 && die == 4 && decide (0x0C000000 ≤ off ∧ off < 0x0C080000))
  | .memory => s.hasScope 1
  | _ => false

/-! ## One register -/

/-- Any access to a die's PAD or XBAR registers, or to a Bezel channel, by another requester aborts a running sequence, and
is itself performed (R166, R507). -/
def State.touched (s : State) (req key : Nat) : State :=
  match keyUnit key with
  | 0x06 | 0x07 => s.interfere (keyDie key) req
  | 0x13 => if keyInst key < 4 then s.bzInterfere (keyInst key) req else s
  | _ => s

def pairHalf (key : Nat) : PairHalf := match regDef? key with | some r => r.half | none => .none

/-- A register with a field that takes writes. -/
def takesWrites (key : Nat) : Bool := match regDef? key with | some r => (r.rw ||| r.rwl ||| r.w1c ||| r.w1s ||| r.wo) != 0 | none => true

/-- The slot of a requester's capture or held half: of a pair, at its low half (R6). [Log 21 DEDUCED] -/
def slot (key req : Nat) : Nat := key * 32 + req

def State.setHeld (s : State) (k : Nat) (w : Option Word) : State := { s with bus := { s.bus with held := s.bus.held.set k w none } }
def State.setCapt (s : State) (k : Nat) (d : Option DWord) : State := { s with bus := { s.bus with capt := s.bus.capt.set k d none } }
def State.setWide (s : State) (k : Nat) (l : List Word) : State := { s with bus := { s.bus with wide := s.bus.wide.set k l [] } }

/-- A write of name_LO is held (R6). -/
def State.pairLoWrite (s : State) (key req : Nat) (w : Word) : State × Resp :=
  if !takesWrites key then (s, .ok)
  else if s.pairRefused key then (s, .refused)
  else
    let s := if keyUnit key = 0x13 then s.setBzOwner (keyInst key) (some req) else s
    (s.setHeld (slot key req) (some w), .ok)

/-- A write of name_HI applies all 64 bits, or is ignored and flagged (R6). -/
def State.pairHiWrite (s : State) (key req : Nat) (w : Word) : State × Resp :=
  if !takesWrites key then (s, .ok)
  else if s.pairRefused key then (s, .refused)
  else match s.bus.held.get (slot (key - 4) req) none with
    | some lo => (s.setHeld (slot (key - 4) req) none).pairWrite (key - 4) req (joinHalves w lo)
    | none => (s.pairUnheld key, .ok)

/-- A write of one register that answers (R6, R7). -/
def State.keyWrite (s : State) (req key : Nat) (w : Word) : State × Resp :=
  match pairHalf key with
  | .none => (s.touched req key).regWrite key req w
  | .lo => (s.touched req key).pairLoWrite key req w
  | .hi => (s.touched req key).pairHiWrite key req w

/-- CXL_CFGDATA and CXL_IODATA: the access is one request and completes when the request does (R345). -/
def cxlData (key : Nat) : Bool := keyUnit key == 0x11 && (keyOff key == 0x104 || keyOff key == 0x110)

/-- The request that a write of CXL_CFGDATA or CXL_IODATA through an alias makes at one port; the member has taken the write once the
request is made. [Log 208 DESIGN CHOICE] -/
def State.cxlMember (s : State) (req key : Nat) (w : Word) : State × Resp :=
  let p := keyInst key
  let t := s.store key w
  let t := { t with bus := { t.bus with reply := none } }
  let t := if keyOff key = 0x104 then t.configRequest p (some w) req (csrAddr key) else t.ioRequest p req true (csrAddr key)
  (t, match t.bus.reply with | some (r, _) => r | none => .ok)

/-- A write as one member performs or declines it (R586). -/
def State.memberWrite (s : State) (req key : Nat) (w : Word) : State × Resp :=
  if !s.reachable key then (s, .unreachable)
  else if s.denies req key true then (s, .denied)
  else if s.declines req (keyDie key) (keyUnit key) (keyOff key) true then (s, .refused)
  else if cxlData key then s.cxlMember req key w
  else s.keyWrite req key w

/-! ## Reads -/

/-- A value the specification leaves open is used up by the read that returns it. -/
def State.used (s : State) (key : Nat) : State := if s.readIsFree key then s.drawn else s

/-- A read of name_LO captures all 64 bits for the requester (R6). -/
def State.pairLoRead (s : State) (key req : Nat) : State × Word :=
  let lo := s.regRead key
  let d := joinHalves (s.regRead (key + 4)) lo
  ((s.setCapt (slot key req) (some d)).used key, lo)

/-- A read of name_HI returns and consumes the capture, or returns the live half (R6). -/
def State.pairHiRead (s : State) (key req : Nat) : State × Word :=
  match s.bus.capt.get (slot (key - 4) req) none with
  | some d => (s.setCapt (slot (key - 4) req) none, hiHalf d)
  | none => (s.used key, s.regRead key)

/-- A read of TIO_CAP0 captures the head record for the requester; on an empty FIFO it returns 0 and forms no capture (TIO_CAP0, R112).
[Log 22 DEDUCED] -/
def State.capHeadRead (s : State) (die n req : Nat) : State × Word :=
  let k := slot (Reg.TIO_CAP0 die n) req
  match s.capHead die n with
  | [] => (s.setWide k [], 0)
  | w :: ws => (s.setWide k (BitVec.ofNat 32 (s.unit die n).popped :: w :: ws), w)

/-- A read of TIO_CAP3 ends the capture and pops the record it holds, if that is still the head (R112). -/
def State.capPopRead (s : State) (die n req : Nat) : State × Word :=
  let k := slot (Reg.TIO_CAP0 die n) req
  match s.bus.wide.get k [] with
  | t :: ws =>
    let s := s.setWide k []
    (if t = BitVec.ofNat 32 (s.unit die n).popped then s.popCapture die n else s, ws.getD 3 0)
  | [] => match s.capHead die n with
    | [] => (s.flag (Reg.TIO_STAT die n) 24, 0)
    | ws => (s.popCapture die n, ws.getD 3 0)

/-- A middle word of a wide capture: from the requester's capture, or live. -/
def State.wideRead (s : State) (first key req i : Nat) (skip : Nat) : Word :=
  match s.bus.wide.get (slot first req) [] with
  | [] => s.regRead key
  | l => l.getD (i + skip) 0

/-- A read of PAD_SNAP0 captures the levels of all 240 pins for the requester (R160). -/
def State.snapHeadRead (s : State) (die req : Nat) : State × Word :=
  let l := s.snapshot die
  (s.setWide (slot (Reg.PAD_SNAP die 0) req) l, l.getD 0 0)

/-- A read of MPE_ALM0 captures the head of the alarm log for the requester (R369). -/
def State.alarmHeadRead (s : State) (e req : Nat) : State × Word :=
  let k := slot (Reg.MPE_ALM0 e) req
  match (s.engine e).log with
  | [] => ((s.setWide k []).flag (Reg.MPE_STAT e) 14, 0)
  | x :: _ => (s.setWide k x.words, x.words.getD 0 0)

/-- A read of MPE_ALM3 ends the capture and removes the entry it holds, if that is still the head (R369). -/
def State.alarmPopRead (s : State) (e req : Nat) : State × Word :=
  let k := slot (Reg.MPE_ALM0 e) req
  let pop (s : State) : State := s.setEngine e { s.engine e with log := (s.engine e).log.drop 1 }
  match s.bus.wide.get k [], (s.engine e).log with
  | [], [] => (s.flag (Reg.MPE_STAT e) 14, 0)
  | [], x :: _ => (pop s, x.words.getD 3 0)
  | c, l => (if l.head?.map Alarm.words = some c then pop (s.setWide k []) else s.setWide k [], c.getD 3 0)

/-- A read of PL_EVRX0 captures the head of the receive event FIFO for the requester (R403). -/
def State.eventHeadRead (s : State) (req : Nat) : State × Word :=
  (s.setWide (slot Reg.PL_EVRX0 req) s.eventHead, s.eventHead.getD 0 0)

/-- A read of PL_EVRX2 ends the capture and pops the event it holds, if that is still the head (R403). -/
def State.eventPopRead (s : State) (req : Nat) : State × Word :=
  let k := slot Reg.PL_EVRX0 req
  match s.bus.wide.get k [] with
  | [] => (s.eventPop, s.eventHead.getD 2 0)
  | c => (if s.eventHead = c then (s.setWide k []).eventPop else s.setWide k [], c.getD 2 0)

/-- A read of CFG_NVMDATA takes four bytes; an empty FIFO returns 0 and sets the underflow flag (R463). -/
def State.nvmDataRead (s : State) : State × Word :=
  if s.boot.nvm.isEmpty then (s.flag Reg.CFG_STAT 11, 0)
  else (s.setBoot (fun b => { b with nvm := b.nvm.drop 4 }), BitVec.ofNat 32 (leNat (s.boot.nvm.take 4)))

/-- A read returns the value and then clears the RC fields (R7). -/
def State.readClear (s : State) (key : Nat) : State × Word :=
  let v := s.regRead key
  match regDef? key with
  | some r => (if r.rc = 0 then s.used key else s.wr key (s.rd key &&& ~~~(BitVec.ofNat 32 r.rc)), v)
  | none => (s, v)

/-- A read with its side effects, by a requester other than the debugger (R6, R7). -/
def State.effectRead (s : State) (req key : Nat) : State × Resp × Word :=
  let die := keyDie key
  let inst := keyInst key
  let off := keyOff key
  let ok (r : State × Word) : State × Resp × Word := (r.1, .ok, r.2)
  match pairHalf key with
  | .lo => ok (s.pairLoRead key req)
  | .hi => ok (s.pairHiRead key req)
  | .none =>
    match keyUnit key, off with
    | 0x05, 0x020 => ok (s.capHeadRead die inst req)
    | 0x05, 0x024 => ok (s, s.wideRead (Reg.TIO_CAP0 die inst) key req 1 1)
    | 0x05, 0x028 => ok (s, s.wideRead (Reg.TIO_CAP0 die inst) key req 2 1)
    | 0x05, 0x02C => ok (s.capPopRead die inst req)
    | 0x0E, 0x048 => if die = 4 then ok s.nvmDataRead else ok (s.readClear key)
    | 0x12, 0x020 => if inst < 6 then ok (s.alarmHeadRead inst req) else ok (s.readClear key)
    | 0x12, 0x024 => if inst < 6 then ok (s, s.wideRead (Reg.MPE_ALM0 inst) key req 1 0) else ok (s.readClear key)
    | 0x12, 0x028 => if inst < 6 then ok (s, s.wideRead (Reg.MPE_ALM0 inst) key req 2 0) else ok (s.readClear key)
    | 0x12, 0x02C => if inst < 6 then ok (s.alarmPopRead inst req) else ok (s.readClear key)
    | 0x16, 0x404 => if req ≤ 5 then ok s.rxPop else ok (s, s.regRead key)
    | 0x18, 0x020 => if inst = 4 then ok (s.eventHeadRead req) else ok (s.readClear key)
    | 0x18, 0x024 => if inst = 4 then ok (s, s.wideRead Reg.PL_EVRX0 key req 1 0) else ok (s.readClear key)
    | 0x18, 0x028 => if inst = 4 then ok (s.eventPopRead req) else ok (s.readClear key)
    | 0x1A, 0x008 => if inst < 32 then s.mbxPop inst req else ok (s.readClear key)
    | 0x06, 0x100 => ok (s.snapHeadRead die req)
    | 0x06, _ =>
      if inst = 240 ∧ off = 0 then ok (s.lockRead die req)
      else if inst = 240 ∧ 0x100 < off ∧ off < 0x120 then ok (s, s.wideRead (Reg.PAD_SNAP die 0) key req ((off - 0x100) / 4) 0)
      else ok (s.readClear key)
    | _, _ => ok (s.readClear key)

/-- A debugger read is a peek (R7); it still is the read of PAD_LOCK that ends a lock sequence of the debugger's own (R165).
[Log 20 DEDUCED] -/
def State.peek (s : State) (key : Nat) : State × Word :=
  if keyUnit key = 0x06 ∧ keyInst key = 240 ∧ keyOff key = 0 then s.lockRead (keyDie key) 16
  else (s.used key, s.regRead key)

/-- A read of one register, as its instance performs or declines it. -/
def State.memberRead (s : State) (req key : Nat) : State × Resp × Word :=
  if !s.reachable key then (s, .unreachable, 0)
  else if s.denies req key false then (s, .denied, 0)
  else if s.declines req (keyDie key) (keyUnit key) (keyOff key) false then (s, .refused, 0)
  else if req = 16 then let r := (s.touched req key).peek key; (r.1, .ok, r.2)
  else (s.touched req key).effectRead req key

/-- A read of one member of an alias: no side effect but the capture of a pair, and the end of a sequence of another requester (R31,
R166); a mailbox declines it as a pop (R37, R586). [Log 17 DEDUCED] -/
def State.aliasRead (s : State) (req key : Nat) : State × Resp × Word :=
  if !s.reachable key then (s, .unreachable, 0)
  else if s.denies req key false then (s, .denied, 0)
  else if s.declines req (keyDie key) (keyUnit key) (keyOff key) false then (s, .refused, 0)
  else if req = 16 then ((s.touched req key).used key, .ok, s.regRead key)
  else if keyUnit key = 0x1A ∧ keyOff key = 0x008 ∧ keyInst key < 32 ∧ (s.mbxPop (keyInst key) req).2.1 = .refused then (s, .refused, 0)
  else match pairHalf key with
    | .lo => let r := s.pairLoRead key req; (r.1, .ok, r.2)
    | .hi => let r := s.pairHiRead key req; (r.1, .ok, r.2)
    | .none => ((s.touched req key).used key, .ok, s.regRead key)

/-- The one response of an access that several members answer (R586). [Log 17 DEDUCED] -/
def aliasResp (rs : List Resp) : Resp :=
  if rs.contains .denied then .denied
  else if rs.contains .refused then .refused
  else if rs.contains .unreachable then .partialOk
  else .ok

/-! ## The CSR window -/

/-- The request a CXL_CFGDATA or CXL_IODATA access makes; a peek makes none, and its value is left open. -/
def State.cxlAccess (s : State) (req key addr : Nat) (w : Option Word) : State :=
  let p := keyInst key
  if !s.reachable key then s.completeAccess req w.isSome addr .unreachable 0
  else if req = 16 ∧ w.isNone then s.drawn.completeAccess req false addr .ok (BitVec.ofNat 32 (s.freeNat 32))
  else
    let s := match w with | some v => s.store key v | none => s
    let t := { s with bus := { s.bus with reply := none } }
    let t := if keyOff key = 0x104 then t.configRequest p w req addr else t.ioRequest p req w.isSome addr
    match t.bus.reply with
    | some (r, d) => t.completeAccess req w.isSome addr r d
    | none => t

/-- [Log 14 DEDUCED] -/
def State.csrWrite (s : State) (req addr key : Nat) (w : Word) : State :=
  if isAlias key then
    match s.members key with
    | [] => s.completeAccess req true addr .noTarget 0
    | ms =>
      let r := ms.foldl (fun (x : State × List Resp) k => let y := x.1.memberWrite req k w; (y.1, x.2 ++ [y.2])) (s, [])
      r.1.completeAccess req true addr (aliasResp r.2) 0
  else if !regDefined key then s.completeAccess req true addr .noTarget 0
  else if cxlData key then s.cxlAccess req key addr (some w)
  else
    let r := s.memberWrite req key w
    r.1.completeAccess req true addr r.2 0

/-- [Log 14 DEDUCED] -/
def State.csrRead (s : State) (req addr key : Nat) : State :=
  if isAlias key then
    match s.members key with
    | [] => s.completeAccess req false addr .noTarget 0
    | ms =>
      let r := ms.foldl (fun (x : State × List Resp × Word) k => let y := x.1.aliasRead req k; (y.1, x.2.1 ++ [y.2.1], x.2.2 ||| y.2.2)) (s, [], 0)
      r.1.completeAccess req false addr (aliasResp r.2.1) r.2.2
  else if !regDefined key then s.completeAccess req false addr .noTarget 0
  else if cxlData key then s.cxlAccess req key addr none
  else
    let r := s.memberRead req key
    r.1.completeAccess req false addr r.2.1 r.2.2

/-! ## The on-chip memory view (R25, R26) -/

/-- What a die's sub-window holds at an offset (R25). -/
inductive ViewPart where
  | facet (p off : Nat)
  | cal (off : Nat)
  | cells
  | shadow (off : Nat)
  | records (off : Nat)
  | tcm (pair off : Nat)
  | nothing
deriving DecidableEq, Repr

def viewPart (die off : Nat) : ViewPart :=
  if die < 4 then
    if off < 0x02200000 then (if off % 0x20000 < 0x18000 then .facet (off / 0x20000) (off % 0x20000) else .nothing)
    else if 0x04000000 ≤ off ∧ off < 0x05000000 then (match calPlace (off - 0x04000000) with | .none_ => .nothing | _ => .cal (off - 0x04000000))
    else if 0x05000000 ≤ off ∧ off < 0x07000000 then .cells
    else if 0x08000000 ≤ off ∧ off < 0x0C000000 then .shadow (off - 0x08000000)
    else .nothing
  else if die = 4 then
    if 0x05000000 ≤ off ∧ off < 0x07000000 then .cells
    else if 0x0C000000 ≤ off ∧ off < 0x0C080000 then .records (off - 0x0C000000)
    else .nothing
  else if die = 5 ∧ off < 0x80000 then .tcm (off / 0x40000) (off % 0x40000)
  else .nothing

/-- The unit whose rules an access to a part of the view follows, and its power domain. -/
def viewUnit (die : Nat) : ViewPart → Nat × Option Nat
  | .facet p _ => (0x08, some (64 + 16 * die + p / 17))
  | .cal _ => (0x04, some (128 + die))
  | .cells => (0x0A, if die < 4 then some (128 + die) else none)
  | .shadow _ => (0x0F, some (128 + die))
  | .records _ => (0x15, none)
  | .tcm p _ => (0x19, some (162 + p))
  | .nothing => (0x1F, none)

/-- Width and alignment (R5): single aligned 32-bit accesses; the TCMs also take bytes and halfwords. -/
def viewWidthOk (die addr size : Nat) : Bool :=
  if die = 5 then (size == 1 || size == 2 || size == 4) && addr % size == 0 else size == 4 && addr % 4 == 0

/-- A requester of a wide access, for the held halves of bundles (R211). -/
def requesterOf (req : Nat) : Requester := if req = 16 then .debugger else .agent (BitVec.ofNat 4 req)

/-- A write of one die's view, the calendar window apart. -/
def State.viewMemberWrite (s : State) (req die off size : Nat) (w : Word) : State × Resp :=
  let part := viewPart die off
  let u := viewUnit die part
  if !s.dieReachable die u.1 u.2 then (s, .unreachable)
  else match part with
    | .records _ | .cells => (s, .denied)
    | _ =>
      if s.declines req die u.1 0 true then (s, .refused)
      else match part with
        | .facet p o => s.facetViewWrite die p (requesterOf req) o w
        | .tcm p o => (s.setBoot (fun b => { b with tcm := (List.range size).foldl (fun m i => m.set (p * 2 ^ 18 + o + i) ((w >>> (8 * i)).setWidth 8) 0) b.tcm }), .ok)
        | .shadow _ => (s, .refused)
        | _ => (s, .ok)

/-- A read of one die's view, the calendar window apart. [Log 25 DESIGN CHOICE] -/
def State.viewMemberRead (s : State) (req die off size : Nat) : State × Resp × Word :=
  let part := viewPart die off
  let u := viewUnit die part
  if !s.dieReachable die u.1 u.2 then (s, .unreachable, 0)
  else match part with
    | .facet p o => let r := s.facetView die p o; (s, r.1, r.2)
    | .cells => if req = 8 ∨ req = 16 then (s.drawn, .ok, BitVec.ofNat 32 (s.freeNat 32)) else (s, .denied, 0)
    | .shadow o => let r := s.shadowRead die o; (s, r.1, r.2)
    | .records o => if req ≤ 5 ∨ req = 8 ∨ req = 16 then (s, .ok, s.storeRead o) else (s, .denied, 0)
    | .tcm p o => (s, .ok, (List.range size).foldl (fun (acc : Word) i => acc ||| ((s.boot.tcm.get (p * 2 ^ 18 + o + i) 0).setWidth 32 <<< (8 * i))) 0)
    | _ => (s, .noTarget, 0)

/-- The dies of a view access: one, or with die value 7 the four fabric dies (R26). -/
def viewDies (die : Nat) : List Nat := if die = 7 then [0, 1, 2, 3] else [die]

/-- A write of the calendar window waits for the next tick boundary, and completes there (R94, R95). [Log 176 DESIGN CHOICE] -/
def State.calViewWrite (s : State) (req addr : Nat) (dies : List Nat) (off : Nat) (w : Word) : State :=
  let up := dies.filter (fun d => s.dieReachable d 0x04 (some (128 + d)))
  let resp (r : Resp) : State := s.completeAccess req true addr r 0
  if up.isEmpty then resp (if dies.length = 1 then .unreachable else .partialOk)
  else if up.any (fun d => s.declines req d 0x04 0 true) then resp .refused
  else match calPlace off with
    | .entry i k => { s with calWrites := s.calWrites ++ [(if up.length < dies.length then up ++ [7] else up, .word i k w req addr)] }
    | _ => resp (if up.length < dies.length then .partialOk else .ok)

/-- A read of the calendar window (R26, R96, R105). -/
def State.calViewRead (s : State) (req addr : Nat) (dies : List Nat) (off : Nat) : State :=
  let up := dies.filter (fun d => s.dieReachable d 0x04 (some (128 + d)))
  if up.isEmpty then s.completeAccess req false addr (if dies.length = 1 then .unreachable else .partialOk) 0
  else
    let r : Resp := if up.length < dies.length then .partialOk else .ok
    match calPlace off with
    | .entry i k => let x := s.calRead up i k req (req == 16); x.1.completeAccess req false addr r x.2
    | .result n k => s.completeAccess req false addr r (up.foldl (fun (acc : Word) d => acc ||| half64 k 0 ((s.slice d).results.get n 0)) 0)
    | .none_ => s.completeAccess req false addr .noTarget 0

/-- [Log 23 DEDUCED] -/
def State.viewWrite (s : State) (req addr die off size : Nat) (w : Word) : State :=
  let dies := viewDies die
  match viewPart (dies.getD 0 0) off with
  | .nothing => s.completeAccess req true addr .noTarget 0
  | .cal o => s.calViewWrite req addr dies o w
  | _ =>
    let r := dies.foldl (fun (x : State × List Resp) d => let y := x.1.viewMemberWrite req d off size w; (y.1, x.2 ++ [y.2])) (s, [])
    r.1.completeAccess req true addr (if die = 7 then aliasResp r.2 else r.2.getD 0 .noTarget) 0

def State.viewRead (s : State) (req addr die off size : Nat) : State :=
  let dies := viewDies die
  match viewPart (dies.getD 0 0) off with
  | .nothing => s.completeAccess req false addr .noTarget 0
  | .cal o => s.calViewRead req addr dies o
  | _ =>
    let r := dies.foldl (fun (x : State × List Resp × Word) d =>
      let y := x.1.viewMemberRead req d off size
      (y.1, x.2.1 ++ [y.2.1], if y.2.1 = .ok then x.2.2 ||| y.2.2 else x.2.2)) (s, [], 0)
    r.1.completeAccess req false addr (if die = 7 then aliasResp r.2.1 else r.2.1.getD 0 .noTarget) r.2.2

/-! ## Memory and user windows -/

/-- A word of memory read by an agent through the protection engines, or peeked by the debugger (R367). [Log 23 DEDUCED] -/
def State.memoryWordRead (s : State) (req addr size : Nat) : State :=
  let r := if req = 16 then (let x := s.debugRead addr; (x.1, some x.2)) else s.protectedRead addr (.agent req) .intact
  let s := { r.1 with mem := { r.1.mem with reply := r.2 } }
  match r.2 with
  | some m => s.completeAccess req false addr m.resp (BitVec.ofNat 32 (m.data / 256 ^ (addr % 64) % 256 ^ size))
  | none => s

/-- A word of memory written by an agent; debugger writes answer DENIED (R367). [Log 23 DEDUCED] -/
def State.memoryWordWrite (s : State) (req addr size : Nat) (w : Word) : State :=
  if req = 16 then s.completeAccess req true addr .denied 0
  else
    let r := s.protectedWrite addr (leBytes size w.toNat) false (.agent req) .intact
    let s := { r.1 with mem := { r.1.mem with reply := r.2 } }
    match r.2 with
    | some m => s.completeAccess req true addr m.resp 0
    | none => s

/-- A fabric user window: which addresses of it are decoded, and what answers there, is the image's own design (R24).
[Log 24 DESIGN CHOICE] -/
def State.windowAccess (s : State) (req addr rg : Nat) (write : Bool) : State :=
  if s.dieLost (rg / 16) ∨ s.domSt rg ≠ 0 then s.completeAccess req write addr .unreachable 0
  else if s.isolated (rg / 16) (rg % 16) then s.completeAccess req write addr .noTarget 0
  else if !Config.windowDecoded (s.fabric.frames.get rg 0) addr then s.completeAccess req write addr .noTarget 0
  else s.drawn.completeAccess req write addr .ok (if write then 0 else BitVec.ofNat 32 (s.freeNat 32))

/-! ## The application cores' caches (R34) -/

/-- A line the caches hold. -/
def State.cacheLine (s : State) (n : Nat) : Option CacheLine := s.boot.cache.get n none
def State.putLine (s : State) (n : Nat) (l : Option CacheLine) : State := s.setBoot (fun b => { b with cache := b.cache.set n l none })

/-- A line written in the caches goes to memory; it stays as it is while the write waits. -/
def State.cleanLine (s : State) (req n : Nat) : State :=
  match s.cacheLine n with
  | none => s
  | some c =>
    if !c.dirty then s
    else match s.protectedWrite (64 * n) c.bytes false (.agent req) .intact with
      | (t, some _) => t.putLine n (some { c with dirty := false })
      | (_, none) => s

/-- The line is cleaned and given up. -/
def State.flushLine (s : State) (req n : Nat) : State :=
  let t := s.cleanLine req n
  match t.cacheLine n with
  | some c => if c.dirty then t else t.putLine n none
  | none => t

/-- The caches may give up a line of their choice before an access. -/
def State.cacheTurn (s : State) (req : Nat) : State := if s.boot.cache = [] then s else (s.drawn).flushLine req (Config.cacheEvicts s.free)

/-- The line of an access is read into the caches: none where the read waits, or the reply that is not data to keep. -/
def State.fillLine (s : State) (req addr : Nat) : State × Option (Except MemReply CacheLine) :=
  match s.protectedRead addr (.agent req) .intact with
  | (t, some m) => if m.resp = .ok ∧ !m.poison then (t.putLine (addr / 64) (some { bytes := lineBytes m.data }), some (.ok { bytes := lineBytes m.data })) else (t, some (.error m))
  | (t, none) => (t, none)

/-- Bytes of a line with some of them replaced. -/
def patchBytes (l : List Byte) (off : Nat) (bs : List Byte) : List Byte := l.take off ++ bs ++ l.drop (off + bs.length)

/-- A load of an application core from DDR5: from the caches where they hold the line, else from memory, and the caches may keep the
line. [Log 207 DESIGN CHOICE] -/
def State.cachedRead (s : State) (req addr size : Nat) : State :=
  let s := s.cacheTurn req
  let n := addr / 64
  match s.cacheLine n with
  | some c => s.completeAccess req false addr .ok (BitVec.ofNat 32 (leNat ((c.bytes.drop (addr % 64)).take size)))
  | none =>
    let t := s.memoryWordRead req addr size
    match t.mem.reply with
    | some m => if m.resp = .ok ∧ !m.poison ∧ Config.cacheKeeps s.free then t.drawn.putLine n (some { bytes := lineBytes m.data }) else t.drawn
    | none => t

/-- A store of an application core to DDR5: into the caches where they hold the line or take it up, else to memory.
[Log 207 DESIGN CHOICE] -/
def State.cachedWrite (s : State) (req addr size : Nat) (w : Word) : State :=
  let s := s.cacheTurn req
  let n := addr / 64
  let put (s : State) (c : CacheLine) : State :=
    (s.putLine n (some { bytes := patchBytes c.bytes (addr % 64) (leBytes size w.toNat), dirty := true })).completeAccess req true addr .ok 0
  match s.cacheLine n with
  | some c => put s c
  | none =>
    if Config.cacheKeeps s.free then
      match s.drawn.fillLine req addr with
      | (t, some (.ok c)) => put t c
      | (t, some (.error m)) => t.completeAccess req true addr m.resp 0
      | (t, none) => t
    else s.drawn.memoryWordWrite req addr size w

/-- The instructions of Zicbom and Zicboz on the line of an address, by the number of the RISC-V instruction: 0 invalidate, 1 clean,
2 flush, 4 zero. [Log 207 DESIGN CHOICE] -/
def State.cacheBlock (s : State) (req addr op : Nat) : State :=
  let n := addr / 64
  match op with
  | 0 => (s.putLine n none).completeAccess req true addr .ok 0
  | 1 => (s.cleanLine req n).completeAccess req true addr .ok 0
  | 2 => (s.flushLine req n).completeAccess req true addr .ok 0
  | 4 => (s.putLine n (some { bytes := List.replicate 64 0, dirty := true })).completeAccess req true addr .ok 0
  | _ => s.completeAccess req true addr .refused 0

/-- An access by a core to its interrupt controller (R36). -/
def State.plicAccess (s : State) (req addr : Nat) (w : Option Word) : State :=
  match w with
  | some v => let r := s.plicWrite (addr % 0x4000000) v; r.1.completeAccess req true addr (if r.2 then .ok else .noTarget) 0
  | none => let r := s.plicRead (addr % 0x4000000); match r.2 with
    | some v => r.1.completeAccess req false addr .ok v
    | none => r.1.completeAccess req false addr .noTarget 0

/-- An application core's access to DDR5 goes through its caches. -/
def cachedAt (req addr : Nat) : Bool := decide (req ≤ 3) && decide (addr < 0x4000000000)

/-! ## Accesses -/

/-- A write of `size` bytes by a requester (R5, R7, R24, R33, R530). [Log 14 DEDUCED, 130 DEDUCED] -/
def State.busWrite (s : State) (r : Requester) (addr size : Nat) (w : Word) : State :=
  let req := r.code
  if req = 16 ∧ !s.gateCovers addr then s.completeAccess req true addr .denied 0
  else match place addr with
    | .csr key => if size = 4 ∧ addr % 4 = 0 then s.csrWrite req addr key w else s.completeAccess req true addr .refused 0
    | .view die off => if viewWidthOk die addr size then s.viewWrite req addr die off size w else s.completeAccess req true addr .refused 0
    | .memory =>
      if cachedAt req addr ∧ size = 64 ∧ addr % 64 = 0 then s.cacheBlock req addr w.toNat
      else if (size = 1 ∨ size = 2 ∨ size = 4) ∧ addr % size = 0 then (if cachedAt req addr then s.cachedWrite req addr size w else s.memoryWordWrite req addr size w)
      else s.completeAccess req true addr .refused 0
    | .window rg => s.windowAccess req addr rg true
    | .nothing => if req ≤ 5 ∧ isPlic addr ∧ size = 4 ∧ addr % 4 = 0 then s.plicAccess req addr (some w) else s.completeAccess req true addr .noTarget 0

/-- A read of `size` bytes by a requester (R5, R7, R24, R33, R530). [Log 14 DEDUCED] -/
def State.busRead (s : State) (r : Requester) (addr size : Nat) : State :=
  let req := r.code
  if req = 16 ∧ !s.gateCovers addr then s.completeAccess req false addr .denied 0
  else match place addr with
    | .csr key => if size = 4 ∧ addr % 4 = 0 then s.csrRead req addr key else s.completeAccess req false addr .refused 0
    | .view die off => if viewWidthOk die addr size then s.viewRead req addr die off size else s.completeAccess req false addr .refused 0
    | .memory =>
      if (size = 1 ∨ size = 2 ∨ size = 4) ∧ addr % size = 0 then (if cachedAt req addr then s.cachedRead req addr size else s.memoryWordRead req addr size)
      else s.completeAccess req false addr .refused 0
    | .window rg => s.windowAccess req addr rg false
    | .nothing => if req ≤ 5 ∧ isPlic addr ∧ size = 4 ∧ addr % 4 = 0 then s.plicAccess req addr none else s.completeAccess req false addr .noTarget 0

/-- A register written or read by its window offset: the rows that stand for one register's command. [Log 130 DEDUCED] -/
def State.regAccess (s : State) (r : Requester) (key : Nat) (w : Word) : State := s.busWrite r (csrAddr key) 4 w
def State.regFetch (s : State) (r : Requester) (key : Nat) : State := s.busRead r (csrAddr key) 4

end Sys2Proof.Machine
end

