-- ==== Sys2Proof/Machine/Gate.lean ====
section
/-!
DEFINITION. The debug access register and the arrival of records at the recorder (R534, R548, R550).
-/
namespace Sys2Proof.Machine

/-! ## The debug access register (R534) -/

/-- The request tag of a TOKEN session: the leftmost 64 bits of the CMAC. [Log 158 DEDUCED] -/
def requestTag (key n op addr : Nat) (data : Word) : Nat :=
  Config.tag key (leBytes 4 n ++ leBytes 1 op ++ leBytes 6 addr ++ leBytes 4 data.toNat) / 2 ^ 64 % 2 ^ 64

def State.inToken (s : State) : Bool := s.session.state == 2 && s.session.mode == 2

/-- A tag that does not match: the access is not performed; the fourth in a row closes the session. -/
def State.tagMismatch (s : State) : State :=
  let s := (s.setSession (fun x => { x with bad := x.bad + 1, last := { x.last with resp := Resp.denied.code, run := false, own := none } })).flag Reg.DBG_ASTAT 8
  if s.session.bad < 4 then s else s.closeSession.raise 4 (errCode 18 2) 4 0x16 0

/-- An Update-DR of the DAG register: one access by the debugger. [Log 158 DEDUCED] -/
def State.dagAccess (s : State) (op addr : Nat) (data : Word) (tag : Nat) : State :=
  let addr := addr % 2 ^ 48 / 4 * 4
  if s.session.ir ≠ 0x10 ∨ s.session.last.run ∨ (op ≠ 1 ∧ op ≠ 2) then s
  else
    let own := if s.inToken then some (s.session.key, s.session.count) else none
    let s := s.setSession (fun x => { x with last := { x.last with addr := addr, data := data, tag := 0, run := true, own := own } })
    if s.inToken && requestTag s.session.key s.session.count op addr data != tag then s.tagMismatch
    else
      let s := s.setSession (fun x => { x with bad := 0 })
      if op = 1 then s.busRead .debugger addr 4 else s.busWrite .debugger addr 4 data

/-- The DAG register as Capture-DR takes it. -/
def State.dagCapture (s : State) : BitVec 148 :=
  let x := s.session.last
  BitVec.ofNat 148 (x.addr / 4 * 2 ^ 2 + x.data.toNat * 2 ^ 48 + x.tag * 2 ^ 80 + x.resp * 2 ^ 144 + b2n x.run * 2 ^ 147)

/-! ## Records at the recorder (R548 to R550) -/

/-- A snapshot word: the register read as a peek, where the read completes OK. [Log 39 DEDUCED] -/
def State.snapWord (s : State) (r : Raised) (w : Nat) : Option Word :=
  match s.snapAddress r w with
  | none => none
  | some key => if isAlias key || !regDefined key || !s.reachable key then none else some (s.regRead key)

/-- One record arrives: filtered at its source, else accepted with its snapshot. [Log 38 DEDUCED] -/
def State.recordArrive (s : State) (r : Raised) : State :=
  if s.recordPasses r then
    let snap := if s.recorder.fifo.length < 64 ∨ r.sev = 7 then (List.range 8).map (s.snapWord r) else []
    s.acceptRecord r snap
  else s

/-- Order of records that arrive in one cycle. -/
def arrivesBefore (a b : Raised) : Bool :=
  decide (a.trig < b.trig) || (a.trig == b.trig && (decide (a.die < b.die) || (a.die == b.die && decide (a.inst < b.inst))))

/-- The records at the places `picks` of those on their way arrive in one cycle of the recorder's clock, which stands still while
XTAL is lost (R417, R422). [Log 38 DEDUCED] -/
def State.recordsArrive (s : State) (picks : List Nat) : State :=
  if s.clk.hold && !s.bit Reg.CLK_STAT 16 then s
  else
    let marked := s.raised.zipIdx
    let l := sortBy arrivesBefore ((marked.filter (fun e => picks.contains e.2)).map (·.1))
    l.foldl (fun s r => s.recordArrive r) { s with raised := (marked.filter (fun e => !picks.contains e.2)).map (·.1) }

end Sys2Proof.Machine
end

