-- ==== Sys2Proof/Machine/Inputs.lean ====
section
/-!
DEFINITION. What comes in from outside at a pin: edges at pads, phase input lines, debug lines, supplies of banks, brownout (R53, R109,
R114, R117, R150, R157, R542, R563, R565).
-/
namespace Sys2Proof.Machine

/-! ## Edges at pads -/

/-- The outside drives a pin to another level at dtu `k` and holds it for `width` dtu. A pulse below 8 dtu gives the stamps of both
its edges or of neither, a free choice (R114). -/
def State.outsideEdge (s : State) (die p k : Nat) (level : Bool) (width : Nat) : State :=
  let u := s.unit die p
  if u.ext = some level then s
  else if width < 8 && s.freeNat 1 == 0 then s.drawn
  else
    let s := if width < 8 then s.drawn else s
    s.setUnit die p { u with ext := some level, ext0 := if u.edges = [] then u.ext else u.ext0, edges := u.edges ++ [(s.stamp k, level)] }

/-- An edge of phase input line `line` of a die at dtu `k`, its new level held for `width` dtu: every domain on the line takes it. -/
def State.phiEdge (s : State) (die line k : Nat) (level : Bool) (width : Nat) : State :=
  let l := ((s.spine.phi.get (die * 16 + line) {}).put (s.stamp k) level true).1
  let s := { s with spine := { s.spine with phi := s.spine.phi.set (die * 16 + line) l {} } }
  (List.range 16).foldl (fun s i =>
    let w := s.rd (Reg.DOM_INPUT i)
    if wfld w 0 2 ≠ die ∨ !s.passesFilter i width then s
    else [0, 1, 2].foldl (fun s j => if wfld w (4 + 4 * j) 4 = line then s.domLine i j k level else s) s) s

/-- The phase input lines and debug lines that a pin feeds alone (R144, R150, R152), as judged at the last pad-control
edge. -/
def State.linesOf (s : State) (die p lo : Nat) : List Nat := (List.range 16).filter (fun n => s.feeder die (lo + n) == some p)

/-- A die takes edges: it is neither lost nor without power or clock. [Log 67 DEDUCED] -/
def State.takesEdges (s : State) (die p : Nat) : Bool := !s.dieLost die && !s.domainLost (128 + die) && !s.receiverOff die p

/-- An input edge at a pad of a fabric die: its timed I/O unit sees it, and the lines its pin feeds carry it (R53, R109, R117, R542).
[Log 66 DEDUCED] -/
def State.inputEdge (s : State) (die p k : Nat) (level : Bool) (width : Nat) : State :=
  if 4 ≤ die ∨ 240 ≤ p ∨ (s.unit die p).ext = some level then s
  else
    let s := s.outsideEdge die p k level width
    if !s.takesEdges die p || (s.padDrive die p (s.stamp k)).2 then s
    else
      let s := (s.linesOf die p 0x90).foldl (fun s n => s.phiEdge die n k level width) s
      if level then (s.linesOf die p 0xA0).foldl (fun s n => s.debugLineEdge n) s else s

/-! ## Draining the capture FIFOs (R138 to R140) -/

/-- The 16 bytes of a capture record. -/
def Capture.bytes (c : Capture) : List Byte := (List.range 4).flatMap (fun w => leBytes 4 (c.word w).toNat)

/-- A drain target refuses outright: the record waits. -/
def State.drainRefused (s : State) (die n : Nat) : State := s.flagErr (Reg.TIO_STAT die n) 19 3 (errCode 4 4)

/-- A Facet that takes stream words: enabled, and neither faulted nor stopped. -/
def State.facetServes (s : State) (die p : Nat) : Bool :=
  let f := s.facet die p
  s.facetEn die p && f.state != .off && f.state != .faulted && f.state != .stopped

/-- The pins of a die whose units drain records to a Region's capture port now, in ascending order (R197). -/
def State.capturePins (s : State) (die rg : Nat) : List Nat :=
  (List.range 240).filter (fun p => let u := s.unit die p; !u.caps.isEmpty && wfld u.ctl 12 2 == 1 && s.fld (Reg.TIO_DRN die p) 0 4 == rg)

/-- The pin whose turn it is at a Region's capture port: the next above the one served last, round-robin (R197). [Log 196 DEDUCED] -/
def State.captureTurn (s : State) (die rg : Nat) : Option Nat :=
  let pins := s.capturePins die rg
  let c := s.fabric.capture.get (16 * die + rg) {}
  match pins.find? (fun p => decide (c.pin < p ∨ c.count = 0)) with
  | some p => some p
  | none => pins.head?

/-- The head of a unit's capture FIFO leaves for the unit's drain target, whole, where the target accepts it; to FABRIC in one cycle with
`ready` high, when it is the unit's turn. [Log 71 DEDUCED] -/
def State.recordDrain (s : State) (die n : Nat) : State :=
  let u := s.unit die n
  let w := s.rd (Reg.TIO_DRN die n)
  let rg := wfld w 0 4
  match u.caps with
  | [] => s
  | c :: _ =>
    match wfld u.ctl 12 2 with
    | 0 => s
    | 1 => if s.isolated die rg || s.captureTurn die rg != some n then s else (s.captureDeliver die rg n c.bytes).popCapture die n
    | 2 =>
      let lg := 16 * rg + wfld w 4 4
      let port := if wbit w 8 then 1 else 0
      if s.isolated die rg then s
      else if !(s.facetServes die (s.physOf die rg (wfld w 4 4))) then s.drainRefused die n
      else if 32 < (s.ports die lg).level port + 6 then s
      else ((c.facetWords n).foldl (fun s v => s.streamIn die rg (wfld w 4 4) port (BitVec.ofNat 24 v)) s).popCapture die n
    | _ =>
      let r := s.streamPush (wfld w 9 13) c.bytes (u.ends.contains (u.popped + 1))
      match r.2 with
      | .ok => r.1.popCapture die n
      | .refused => s.drainRefused die n
      | _ => s

/-! ## Supplies (R157, R563, R565) -/

/-- A bank's VCCIO is measured in range of some level, at `mv` millivolts (R157, R565). At its arrival the bank's pads come from high-Z
through the changeover; a level outside the declared tolerance sets `vmis`. [Log 78 DEDUCED] -/
def State.vccioArrival (s : State) (die bank mv : Nat) : State :=
  if 4 ≤ die ∨ 10 ≤ bank then s
  else
    let k := die * 10 + bank
    let here := s.pins.vok.get k false
    let s := { s with pins := { s.pins with vok := s.pins.vok.set k true false, vccio := s.pins.vccio.set k mv 0 } }
    if s.dieLost die then s
    else
      let s := if here then s else (List.range 24).foldl (fun s j => s.leaveState die (bank * 24 + j) false false 0) s
      s.judgeVccio die bank

/-- A bank's VCCIO is absent: drivers unpowered, receivers off. -/
def State.vccioLoss (s : State) (die bank : Nat) : State :=
  if 4 ≤ die ∨ 10 ≤ bank then s else { s with pins := { s.pins with vok := s.pins.vok.set (die * 10 + bank) false false, vccio := s.pins.vccio.set (die * 10 + bank) 0 0 } }

/-- A monitored rail below 85 % of its nominal for more than 10 µs asserts POR. -/
def State.brownout (s : State) : State := s.porReset

end Sys2Proof.Machine
end

