-- ==== Sys2Proof/Machine/Startup.lean ====
section
/-!
DEFINITION. Start-up and configuration loading (R436 to R463): directory, header checks, segments, DONE, entry to user mode.
-/
namespace Sys2Proof.Machine

/-! ## Directory (R438 to R441) -/

/-- What the boot ROM and Bezel hold at the beginning of each start-up (R452 step 2, R502, R505): key identifier 0, and in OWNED
and DEPLOYED the owner's signing key in vault slot 0, unless an erased session is open (R533). -/
def State.bezelBoot (s : State) : State :=
  let s := s.drawKeyZero
  if (s.sec.lc = 2 ∨ s.sec.lc = 3) ∧ s.erasedOpen = false then s.setVault 0 (some { kind := 1, usage := 8, value := s.sec.otp.signKey, length := 48 }) else s

/-- A slot that start-up may try (R440). [Log 137 DEDUCED] -/
def slotTriable (e : SlotEntry) : Bool := e.valid && e.offset % 4096 == 0 && decide (0x20000 ≤ e.offset)

/-- The triable slots of a directory in their order (R440). -/
def slotTrials (d : Directory) : List Nat :=
  let good := (List.range 4).filter (fun i => match d.slots[i]? with | some e => slotTriable e | none => false)
  sortBy (fun i j =>
    let o (k : Nat) : Nat := match d.slots[k]? with | some e => e.order | none => 0
    decide (o i < o j) || (o i == o j && decide (i < j))) good

/-- The directory copy in use: the one of higher generation, copy 0 among equals (R440). -/
def chosenCopy : Option Directory → Option Directory → Option Directory
  | some a, some b => if a.gen < b.gen then some b else some a
  | some a, none => some a
  | none, b => b

/-- Device and device address of an NVM address: with CFG_DUAL the two devices alternate in stripes of 256 bytes (R437).
[Log 212 DEDUCED] -/
def nvmPlace (dual : Bool) (a : Nat) : Nat × Nat := if dual then (a / 256 % 2, a / 512 * 256 + a % 256) else (0, a)

/-- The NVM is read at addresses of the combined space (R437). [Log 212 DEDUCED] -/
def State.nvmReads (s : State) (l : List Nat) : State := s.setBoot (fun b => { b with reads := l.map (nvmPlace (s.bit Reg.CFG_STRAP 0)) })

/-- NVM address of the stored segment `i` of the image in a slot (R442, R447). [Log 212 DEDUCED] -/
def State.segmentAt (s : State) (h : Header) (i : Nat) : Nat :=
  let base := match s.boot.slots[s.fld Reg.CFG_STAT 4 2]? with | some e => e.offset | none => 0
  base + 0x400 + 32 * h.nseg + (h.table.take i).foldl (fun n e => n + e.stored) 0

/-- Step 3 of R452: the directory copies are read; `jtag` waits for a TAP image instead (R441, R462). [Log 137 DEDUCED, 144 DEDUCED] -/
def State.directoryRead (s : State) (c0 c1 : Option Directory) : State :=
  if s.clk.por || decide (2 ≤ s.bootState) then s
  else
    let s := (List.range 5).foldl (fun s k => s.wr (Reg.CFG_LOG k) 0) s.bezelBoot
    let jtag := s.bit Reg.CFG_NEXT 4
    let s := s.setBit Reg.CFG_NEXT 4 false
    if jtag then (s.setBootState 2).setBoot (fun b => { b with jtag := true })
    else let s := s.nvmReads [0x0, 0x10000]
    match chosenCopy c0 c1 with
      | none => (s.setBootState 1).slotFailed 1 0
      | some d =>
        let l := (slotTrials d)
        let n := s.fld Reg.CFG_NEXT 0 2
        let named := s.bit Reg.CFG_NEXT 2
        let s := if named && !l.contains n then s.setBit Reg.CFG_NEXT 3 false else s
        let l := if named && l.contains n then n :: l.filter (· != n) else l
        let s := (s.setBootState 2).setBoot (fun b => { b with slots := d.slots, left := l })
        if l = [] then s.configFailed else s

/-! ## Image header (R442 to R447) -/

/-- Phase of a segment (R448): 0 A, 1 B, 2 C, 3 D. -/
def segPhase (e : SegEntry) : Nat :=
  match e.target with
  | 0 => if e.die = 4 then 0 else 1
  | 8 => 0
  | 1 | 2 | 3 | 4 => 1
  | 5 | 6 => 2
  | _ => 3

/-- A table entry under R447. -/
def segOk (e : SegEntry) : Bool :=
  e.zeros && decide (1 ≤ e.raw ∧ e.raw ≤ 16777216) && decide (56 ≤ e.stored) && decide (e.stored ≤ 56 + 16777216) &&
  (e.packed || e.stored == 56 + e.raw) && decide (e.die ≤ 5)

/-- The smallest n ≥ 1 with 8^n pages (R352). -/
def treeDepth (pages : Nat) : Nat := ((List.range 15).find? (fun n => decide (1 ≤ n ∧ pages ≤ 8 ^ n))).getD 15

/-- Bytes of data area and metadata for `d` units of 256 MiB (R352). -/
def protectedSize (d : Nat) : Nat :=
  let area := d * 2 ^ 28
  let pages := d * 65536
  area + area / 8 + area / 64 + area / 512 + (List.range (treeDepth pages)).foldl (fun n k => if k = 0 then n else n + 64 * ((pages + 8 ^ k - 1) / 8 ^ k)) 0

/-- Bytes the library holds: a directory of 64 KiB, and table entries with raw payloads of Phase B and LIBRARY segments (R466). -/
def libContent (h : Header) : Nat := (h.table.filter (fun e => (segPhase e) == 1 || (segPhase e) == 3)).foldl (fun n e => n + 32 + e.raw) 0

/-- A range of `mib` MiB from a 64-KiB-aligned base inside the DDR5 data areas; none for 0 MiB. -/
def State.inDataArea (s : State) (base mib : Nat) : Bool :=
  mib == 0 || (base % 65536 == 0 && decide (base + mib * 1048576 ≤ 0x4000000000) && s.rangeAllowed (base / 65536) ((base + mib * 1048576) / 65536 - 1))

/-- DDR_CFG words and the interleave that uses them (R329, R330). -/
def State.ddrConfigOk (s : State) (h : Header) : Bool :=
  let w (c : Nat) : Word := h.ddrCfg.getD c 0
  let one (c : Nat) : Bool := decide ((w c).toNat < 2048) && wfld (w c) 2 2 != 3 &&
    (!wbit (w c) 0 || (decide (8 ≤ wfld (w c) 6 5) && decide (wfld (w c) 6 5 ≤ if s.grade = 3 then 20 else 16)))
  let same : Bool := match h.ddrIlv with
    | 1 => w 0 == w 1 && w 2 == w 3
    | 2 => w 0 == w 1 && w 1 == w 2 && w 2 == w 3
    | _ => true
  (List.range 4).all one && same && decide (h.ddrIlv ≤ 2)

/-- The registers the header fixes: spine reference, DDR5 geometry, port modes, data areas, crossing lanes, version, counter.
[Log 138 DEDUCED] -/
def State.applyHeader (s : State) (h : Header) : State :=
  let s := s.setBit Reg.CLK_CTL 3 h.spineB
  let s := s.setFld Reg.DDR_GCTL 0 2 h.ddrIlv
  let s := (List.range 4).foldl (fun s c =>
    let w := h.ddrCfg.getD c 0
    (s.wr (Reg.DDR_CFG c) w).setBit (Reg.DDR_CTL c) 0 (wbit w 0)) s
  let s := (List.range 2).foldl (fun s p => (s.setFld (Reg.CXL_CTL p) 0 2 (h.cxl / 4 ^ p % 4)).setBit (Reg.CXL_CTL p) 2 (h.cxl.testBit 4)) s
  -- link B is present in ROOT_X8X8 only (R343)
  let s := (List.range 2).foldl (fun s p => if h.cxl / 4 ^ p % 4 = 1 then s else s.setFld (Reg.CXL_LSTAT1 p) 0 2 3) s
  let s := (List.range 6).foldl (fun s e =>
    let d := h.mpeD.getD e 0
    (s.setFld (Reg.MPE_DSIZE e) 0 16 d).setFld (Reg.MPE_DSIZE e) 16 4 (if d = 0 then 0 else treeDepth (d * 65536))) s
  let s := (List.range 8).foldl (fun s m =>
    let x := h.split / 16 ^ m % 16
    (s.setFld (Reg.D2D_STAT (moduleEnds m).1 m) 8 4 x).setFld (Reg.D2D_STAT (moduleEnds m).2 m) 8 4 x) s
  (s.wr Reg.CFG_IMGVER (BitVec.ofNat 32 h.ver)).wr Reg.CFG_ARB (BitVec.ofNat 32 h.arb)

/-- Check 7 of R443, on the state with the header's registers. -/
def State.headerFieldsOk (s : State) (h : Header) : Bool :=
  decide (25000 ≤ h.xtalKhz ∧ h.xtalKhz ≤ 50000) && s.ddrConfigOk h && decide (h.cxl < 32)
  && (List.range 4).all (fun c => let d := h.mpeD.getD c 0; d == 0 || (s.populated c && decide (protectedSize d ≤ s.capacity c)))
  && s.inDataArea h.cdBase h.cdSize && s.inDataArea h.libBase h.libSize
  && (h.cdSize == 0 || h.libSize == 0 || decide (h.cdBase + h.cdSize * 1048576 ≤ h.libBase) || decide (h.libBase + h.libSize * 1048576 ≤ h.cdBase))
  && (libContent h == 0 || decide (libContent h + 65536 ≤ h.libSize * 1048576))
  && h.table.all segOk
  && h.table.foldl (fun n e => n + e.stored) 0 + 0x400 + 32 * h.nseg == h.imgLen

/-- Every fabric-to-fabric link keeps a network quarter (R17). -/
def splitOk (split : Nat) : Bool := (List.range 4).all (fun k => split / 256 ^ k % 256 != 255)

/-- The first check of R443 that fails: its code and sub-code (R457). [Log 136 DEDUCED] -/
def State.headerFault (s : State) (h : Header) (size : Nat) : Option (Nat × Nat) :=
  if h.magic = 0xFFFFFFFF then some (9, 0)
  else if h.magic ≠ 0x51494D47 ∨ h.hdrVer ≠ 1 ∨ h.nseg = 0 ∨ 2048 < h.nseg ∨ !h.zeros ∨ h.table.length ≠ h.nseg then some (2, 0)
  else if size < h.imgLen then some (9, 2)
  else if !s.deviceOk h.family h.device h.speed h.temp h.stepMin then some (3, 0)
  else if !keySrcOk s.sec.lc h.keySrc || (s.sec.lc == 3 && !h.secure) then some (4, 0)
  else if !s.imageKeyOk h.keySrc h.keyIdx h.keyHash then some (5, 1)
  else if !h.sigOk then some (5, 0)
  else if h.arb < s.storedArb h.keySrc then some (6, 0)
  else if !(s.applyHeader h).headerFieldsOk h then some (2, 0)
  else if !splitOk h.split then some (7, 0)
  else if !h.k1Ok then some (5, 2)
  else none

/-- The boot digest of R512: M0 to M3. -/
def State.measure (s : State) (fw : List Byte) (h : Header) : State :=
  s.setSec (fun v => { v with bootDigest := Config.digest (leBytes 48 Config.bootRomHash ++ fw ++ leBytes 48 h.hash ++ leBytes 1 v.lc ++ leBytes 1 h.keySrc) })

/-- Phase A is over: DDR5 training starts on every channel that may train (R452 step 6). -/
def State.phaseADone (s : State) : State :=
  (List.range 4).foldl (fun s c => if s.mayTrain c && (s.chan c).state == .off then s.beginTraining c else s) (s.setBoot (fun b => { b with phaseA := true }))

/-- A checked image is loaded: MPLL is set, streaming is due (R452 step 5). [Log 233 DEDUCED] -/
def State.startImage (s : State) (h : Header) : State :=
  let s := (((s.applyHeader h).setBit Reg.CLK_STAT 16 true).setFld Reg.CLK_STAT 19 4 15).measure (List.replicate 48 0) h
  let s := s.setBoot (fun b => { b with header := some h, secure := h.secure, arb := h.arb, keySrc := h.keySrc, cdSize := h.cdSize, stream := false, phaseA := false, phase := 0, order := [], seg := 0, held := [], bankA := [], bankB := [] })
  let s := s.setBootState 3
  match h.table with
  | e :: _ => if (segPhase e) = 0 then s else s.phaseADone
  | [] => s

/-- Step 4 of R452: the next slot's header and segment table are read and checked (R441, R443). -/
def State.headerRead (s : State) (h : Header) : State :=
  if s.bootState ≠ 2 ∨ s.boot.jtag then s
  else match s.boot.left with
    | [] => s
    | n :: rest =>
      let s := (s.setBoot (fun b => { b with left := rest })).setFld Reg.CFG_STAT 4 2 n
      let s := s.setFld Reg.CFG_STAT 8 3 (min (s.fld Reg.CFG_STAT 8 3 + 1) 5)
      let s := if s.bit Reg.CFG_NEXT 2 && s.bit Reg.CFG_NEXT 3 && s.fld Reg.CFG_NEXT 0 2 == n then s.setBit Reg.CFG_NEXT 2 false else s
      let s := s.nvmReads [match s.boot.slots[n]? with | some e => e.offset | none => 0]
      match s.headerFault h (match s.boot.slots[n]? with | some e => e.size | none => 0) with
      | some (code, sub) => s.slotFailed code sub
      | none => s.startImage h

/-- An image shifted through the TAP is checked and loaded as a slot (R462). -/
def State.jtagImage (s : State) (h : Header) : State :=
  if s.session.ir ≠ 0x11 ∨ !s.hasScope 4 then s
  else if s.sec.lc = 3 ∨ s.sec.lc = 5 then s.raise 4 (errCode 15 13) 4 0x0E 0
  else if s.bootState = 7 ∨ (s.boot.jtag ∧ s.bootState = 2) then
    let s := if s.dieState 5 = 1 then s.setDie 5 0 else s
    let s := s.setBoot (fun b => { b with jtag := true, errLow := false, done := false })
    let s := (s.setBootState 2).setBit Reg.CFG_STAT 6 true
    let s := s.setFld Reg.CFG_STAT 8 3 (min (s.fld Reg.CFG_STAT 8 3 + 1) 5)
    match s.headerFault h (2 ^ 32) with
    | some (code, sub) => s.slotFailed code sub
    | none => s.startImage h
  else s

/-! ## Segments (R448 to R451) -/

/-- A register whose records are held until entry to user mode (R451). [Log 135 DEDUCED] -/
def heldRecord (key : Nat) : Bool :=
  let off := keyOff key
  match keyUnit key with
  | 0x03 => keyDie key == 4 && off == 4
  | 0x04 | 0x08 | 0x09 | 0x0F => off == 0
  | 0x05 => off == 0 && keyInst key != 240
  | 0x0A => off == 0 && keyInst key == 0xC00
  | 0x14 => off == 0
  | _ => false

/-- A record is held when it, or a member of its alias, is a held register. [Log 135 DEDUCED] -/
def State.holdsRecord (s : State) (key : Nat) : Bool := if isAlias key then (s.members key).any heldRecord else heldRecord key

/-- The records of a CSR_LIST payload (R451). -/
def csrRecords (l : List Byte) : List (Nat × Word) :=
  (List.range (l.length / 8)).map (fun i => (leNat ((l.drop (8 * i)).take 4), BitVec.ofNat 32 (leNat ((l.drop (8 * i + 4)).take 4))))

/-- A register write by Bezel, agent 8; the reply in hand stays. -/
def State.asBezel (s : State) (r : Nat × Word) : State × Resp :=
  let t := ({ s with bus := { s.bus with reply := none } }).busWrite (.agent 8) (csrAddr r.1) 4 r.2
  ({ t with bus := { t.bus with reply := s.bus.reply } }, match t.bus.reply with | some (x, _) => x | none => .ok)

/-- Records in order, one at a time, up to one that answers anything other than OK. [Log 135 DEDUCED] -/
def State.applyRecords (s : State) (l : List (Nat × Word)) : State × Bool :=
  l.foldl (fun (x : State × Bool) r =>
    if !x.2 then x
    else if x.1.holdsRecord r.1 then (x.1.setBoot (fun b => { b with held := b.held ++ [r] }), true)
    else let y := x.1.asBezel r; (y.1, y.2 == .ok)) (s, true)

/-- A segment's target takes the die and index its entry names, in its phase and order (R448). [Log 139 DEDUCED] -/
def State.segmentFits (s : State) (e : SegEntry) : Bool :=
  let place := match e.target with
    | 0 => decide (e.die ≤ 4)
    | 1 | 2 | 3 | 4 => decide (e.die ≤ 3)
    | 5 => e.die == 5
    | 6 => e.die == 5 && decide (e.index ≤ 1)
    | 7 => decide (e.die ≤ 3) && decide (e.index < 252)
    | 8 => e.die == 4
    | _ => false
  place && decide (s.boot.phase ≤ (segPhase e)) && ((segPhase e) != 1 || decide (s.boot.order.get e.die 0 ≤ e.target))

/-- The failure code that goes with the status of an image inside a segment (R470, R518). [Log 140 DEDUCED] -/
def imageCode (st : Nat) : Nat × Nat := if st = stAuth then (5, 0) else if st = stVersion then (6, 0) else if st = stDenied then (4, 0) else (10, 0)

/-- A Phase B segment is copied into its die's library entry (R448, R466). -/
def State.copyBase (s : State) (h : Header) (e : SegEntry) (data : List Byte) : State :=
  let x := s.libEntry (252 + e.die)
  let x := if x.kind = 2 then x else { kind := 2, cls := e.die, ver := h.ver, arb := h.arb }
  s.setLibEntry (252 + e.die) { x with segs := x.segs ++ [{ target := e.target, die := e.die, index := e.index, addr := e.addr, data := data }] }

/-- A segment is written to its target (R448): a failure gives its code and sub-code. FRAMES and INIT are known by the number of
the boot image. [Log 147 DEDUCED] -/
def State.writeTarget (s : State) (h : Header) (e : SegEntry) (g : SegIn) : State × Option (Nat × Nat) :=
  let absent := s.dieLost e.die
  let list : State × Option (Nat × Nat) :=
    if g.bytes.length % 8 ≠ 0 then (s, some (10, 0))
    else if absent then (s, none)
    else let r := s.applyRecords (csrRecords g.bytes); (r.1, if r.2 then none else some (10, 0))
  match e.target with
  | 0 => list
  | 2 => (if absent then s else s.facetImage e.die e.addr g.bytes, none)
  | 3 => (if absent then s else (List.range 16).foldl (fun s r => s.blockImage e.die r e.addr g.bytes) s, none)
  | 5 | 6 =>
    if absent then (s, none)
    else
      let x : Segment := { target := e.target, die := 5, index := e.index, addr := e.addr, data := g.bytes }
      ((s.setBoot (fun b => { b with bankA := b.bankA ++ [x] })).placeCd 0 x, none)
  | 7 =>
    match g.image with
    | none => (s, some (10, 0))
    | some i =>
      let st := s.imageStatus i false
      let st := if st = stOk ∧ i.arb < s.boot.arb then stVersion else st
      if st ≠ stOk then (s, some (imageCode st))
      else (s.setLibEntry e.index { kind := 1, cls := i.cls, reloc := i.reloc, selftest := i.selftest, secure := i.secure, home := i.home, ver := i.ver, arb := i.arb, crc := i.crc, hash := i.hash, segs := i.segs }, none)
  | 8 =>
    match g.image with
    | none => (s, some (10, 0))
    | some i =>
      let st := s.imageStatus i true
      if st ≠ stOk then (s, some (imageCode st))
      else ((s.setSec (fun v => { v with fwVer := i.ver, fwCert := i.cert })).measure (leBytes 48 i.hash) h, none)
  | _ => (s, none)

/-! ## Memories ready, core 0, DONE (R452 steps 6 to 9) -/

/-- The engines that hold a range of DDR5. -/
def State.holders (s : State) (base mib : Nat) : List Nat :=
  if mib = 0 then [] else (List.range 4).filterMap (fun k => (s.ddrDecode (base + 256 * k)).map (·.1))

/-- Bezel enables a region entry with key identifier 0 in mode ENC_INTEG_VERIFY. -/
def State.bezelRegion (s : State) (n base mib : Nat) : State :=
  if mib = 0 then s
  else
    let s := (s.wr (Reg.MPE_RGN_BASE (0x100 + n)) (BitVec.ofNat 32 (base / 65536))).wr (Reg.MPE_RGN_LIMIT (0x100 + n)) (BitVec.ofNat 32 ((base + mib * 1048576) / 65536 - 1))
    (s.regionCtlWrite n 0x80000002).1

/-- The stream goes on past Phase A once every required channel is READY and the engines of the control-die region and the library
have initialised; a required channel that failed training fails the image. -/
def State.memoryReady (s : State) (h : Header) : State :=
  let need := (List.range 4).filter (fun c => h.ddrReq.testBit c)
  if s.boot.memOk then s
  else if need.any (fun c => (s.chan c).state == .failed) then s.slotFailed 11 0
  else if need.all (fun c => (s.chan c).state == .ready) && (s.holders h.cdBase h.cdSize ++ s.holders h.libBase h.libSize).all (fun e => s.boot.trees.get e false) then
    ((s.bezelRegion 254 h.cdBase h.cdSize).bezelRegion 255 h.libBase h.libSize).setBoot (fun b => { b with memOk := true })
  else s

/-- Step 7: the boot descriptor is written and core 0 released, unless the image holds no control-die part or CD is absent (R38,
R454). -/
def State.stepSeven (s : State) (h : Header) : State := if s.boot.handed || h.cdSize == 0 || s.dieLost 5 then s else s.handover

/-- A fabric die reports ready (R452 step 6). -/
def State.reportReady (s : State) (die : Nat) : State := if s.dieLost die then s else s.setBoot (fun b => { b with ready := b.ready.set die true false })

/-- What follows the verified segment `i`: the end of Phase A, of a die's segments, of Phase C. -/
def State.afterSegment (s : State) (h : Header) (e : SegEntry) (i : Nat) : State :=
  let rest := h.table.drop (i + 1)
  let next := match rest with | n :: _ => (segPhase n) | [] => 4
  let s := if (segPhase e) = 0 ∧ 0 < next then s.phaseADone else s
  let s := if (segPhase e) = 1 ∧ !rest.any (fun n => (segPhase n) == 1 && n.die == e.die) then s.reportReady e.die else s
  if (segPhase e) = 2 ∧ 2 < next then s.stepSeven h else s

/-- A segment whose form passed is written, then its tag is known (R449, R451). [Log 139 DEDUCED] -/
def State.placeSegment (s : State) (h : Header) (e : SegEntry) (g : SegIn) (i : Nat) : State :=
  match s.writeTarget h e g with
  | (s, some (code, sub)) => s.slotFailed code sub
  | (s, none) =>
    if !g.tag then s.slotFailed 5 3
    else if i + 1 = h.table.length ∧ !g.tail0 then s.slotFailed 10 0
    else
      let s := if (segPhase e) = 1 then s.copyBase h e g.bytes else s
      (s.setBoot (fun b => { b with seg := i + 1 })).afterSegment h e i

/-- A stored segment streams: written before its tag is known, then verified (R449 to R451, R458). -/
def State.streamSegment (s : State) (h : Header) (e : SegEntry) (g : SegIn) : State :=
  let i := s.boot.seg
  let s := (s.setFld Reg.CFG_STAT 16 11 i).setBoot (fun b => { b with stream := true })
  let s := if s.boot.jtag then s else s.nvmReads [s.segmentAt h i]
  let s := if g.late then (s.flag Reg.CFG_STAT 7).lateArrival 4 0x0E 0 else s
  if g.erased then s.slotFailed 9 0
  else if !g.sync then s.slotFailed 9 1
  else if !s.segmentFits e then s.slotFailed 10 0
  else
    let s := s.setBoot (fun b => { b with phase := (segPhase e), order := if (segPhase e) = 1 then b.order.set e.die e.target 0 else b.order })
    let s := if (segPhase e) = 3 then s.stepSeven h else s
    if !g.form ∨ (e.target < 7 ∧ g.bytes.length ≠ e.raw) then s.slotFailed 10 0
    else s.placeSegment h e g i

/-- The next segment arrives (R452 steps 5 to 8). Past Phase A it waits for the memories. [Log 139 DEDUCED] -/
def State.segmentReceive (s : State) (g : SegIn) : State :=
  if s.bootState ≠ 3 then s
  else
    let s := if s.boot.stream then s else s.dieMissing 0
    match s.boot.header with
    | none => s
    | some h =>
      match h.table[s.boot.seg]? with
      | none => s
      | some e =>
        if (segPhase e) = 0 then s.streamSegment h e g
        else
          let s := s.memoryReady h
          if s.bootState = 3 && s.boot.memOk then s.streamSegment h e g else s

/-- No data for 100 ms while a segment is read (R458). -/
def State.segmentTimeout (s : State) : State :=
  if s.bootState ≠ 3 then s
  else match s.boot.header with
    | none => s
    | some h => if s.boot.seg < h.table.length then (s.setBoot (fun b => { b with stream := true })).slotFailed 9 3 else s

/-- Step 9: DONE is released once every enabled engine has initialised and the CXL data areas fit; `fits`: by CXL engine.
[Log 141 DEDUCED] -/
def State.doneRelease (s : State) (fits : List Bool) : State :=
  match s.boot.header with
  | none => s
  | some h =>
    if s.bootState ≠ 3 ∨ s.boot.seg ≠ h.table.length then s
    else
      let s := s.memoryReady h
      let enabled := (List.range 6).filter (fun e => s.dataArea e != 0 && (decide (4 ≤ e) || (s.chan e).state != .failed))
      if s.bootState ≠ 3 ∨ !s.boot.memOk ∨ !enabled.all (fun e => s.boot.trees.get e false) then s
      else if (List.range 2).any (fun p => s.dataArea (4 + p) != 0 && !fits.getD p true) then s.slotFailed 11 1
      else
        let s := (List.range 4).foldl (fun s d => s.reportReady d) (s.stepSeven h)
        (s.setBoot (fun b => { b with done := true })).setBootState 5

/-- A loss of a required die after streaming began (R454, R461). -/
def State.lateMissing (s : State) : State := if s.boot.stream then s.dieMissing 1 else s

/-! ## Entry to user mode (R456) -/

/-- A Region leaves isolation, or enters OFFLINE as a spare (R474). [Log 142 DEDUCED] -/
def State.enterRegion (s : State) (die rg : Nat) : State :=
  if s.bit (Reg.CFGF_SPARE die) rg then
    ((s.takeDown die rg).setRegion die rg { s.region die rg with state := .offline }).setBit (libKey die rg) 30 true
  else (List.range 17).foldl (fun s j => s.enableFacet die (17 * rg + j)) (s.releaseInitial die rg)

/-- Every Region of a fabric die that is not lost enters user mode (R456). -/
def State.enterRegions (s : State) : State :=
  [0, 1, 2, 3].foldl (fun s die => if s.dieLost die then s else (List.range 16).foldl (fun s rg => s.enterRegion die rg) s) s

/-- DONE is seen high: the commit, the held records, the Regions, the pins, `user_mode`, CFG_TIME (R456). [Log 142 DEDUCED] -/
def State.userModeEntry (s : State) (us : Nat) : State :=
  if s.bootState ≠ 5 then s
  else
    let h := s.boot.header
    let s := match h with | some x => if x.commit then s.raiseArb 1 x.arb else s | none => s
    let held := s.boot.held
    let s := (held.foldl (fun s r => (s.asBezel r).1) s).setBoot (fun b => { b with held := [] })
    let s := ((s.setBit Reg.CC_STATUS 0 true).setBit Reg.CC_STATUS 3 true)
    let s := s.enterRegions
    let s := s.setSafe (fun c => { c with startHold := false, failed := false })
    let s := (s.setSec (fun v => { v with ready := true })).setBootState 6
    s.wr Reg.CFG_TIME (BitVec.ofNat 32 us)

/-! ## NVM access and rejoin -/

/-- The NVM command finishes (R463); `data`: what a read returned. -/
def State.nvmComplete (s : State) (data : List Byte) : State :=
  let key := Reg.CFG_NVMCMD
  if !s.bit key 31 then s
  else
    let s := s.setBit key 31 false
    if s.bit key 14 then s.setBoot (fun b => { b with nvm := [] }) else s.setBoot (fun b => { b with nvm := data.take (min (s.fld key 16 9) 256) })

/-- A rejoining die's base configuration and its Regions' partial images are reloaded from the library (R44 step 5, R468). -/
def State.reloadDie (s : State) (die : Nat) : State :=
  let base := (s.libEntry (252 + die)).segs
  let lists := (base.filter (fun g => g.target == 0)).flatMap (fun g => csrRecords g.data)
  let held := lists.filter (fun r => s.holdsRecord r.1)
  let s := (lists.filter (fun r => !s.holdsRecord r.1)).foldl (fun s r => (s.asBezel r).1) s
  let s := base.foldl (fun s g =>
    match g.target with
    | 2 => s.facetImage die g.addr g.data
    | 3 => (List.range 16).foldl (fun s r => s.blockImage die r g.addr g.data) s
    | _ => s) s
  let s := (List.range 16).foldl (fun s rg =>
    let n := s.fld (libKey die rg) 0 8
    let x := s.libEntry n
    let s := if s.libValid die rg then (s.writeLoad die rg x.segs x.crc).setRegion die rg { s.region die rg with entry := n } else s
    if s.libHeld die rg then (s.takeDown die rg).setRegion die rg { s.region die rg with state := .offline }
    else (List.range 17).foldl (fun s j => s.enableFacet die (17 * rg + j)) (s.releaseInitial die rg)) s
  held.foldl (fun s r => (s.asBezel r).1) s

/-- Locked pins take the copied set-up in place of the library's (R167). -/
def State.lockedSetup (s : State) (die : Nat) : State :=
  (s.pins.pads.filter (fun e => e.1 / 240 == die)).foldl (fun s e =>
    let p := e.1 % 240
    match e.2.lock with
    | some [f, c, x, i] =>
      let s := (((s.wr (Reg.PAD_FUNC die p) f).wr (Reg.PAD_CFG die p) c).wr (Reg.XBAR_SRC die p) x).wr (Reg.XBAR_IN die p) i
      s.setPad die p { e.2 with phases := [(0, .fn (funcOf p (wfld f 0 4)).1 (wfld f 4 4))], srcs := [(0, wfld x 0 9)], wait := none, asked := none }
    | _ => s) s

/-- The rejoining die reports ready (R44 steps 5 to 7): reloaded, HELD, flows on primary routes, DIE_DEVT.rejoin and a record. -/
def State.dieReady (s : State) (die : Nat) : State :=
  if 4 ≤ die ∨ s.dieState die ≠ 2 ∨ !s.reaches die 4 then s
  else
    let s := ((s.setDie die 3).reloadDie die).lockedSetup die
    let s := s.setBoot (fun b => { b with ready := b.ready.set die true false })
    let s := { s with spine := { s.spine with deskewed := s.spine.deskewed.set die true false } }
    ((s.routesBack).flag Reg.DIE_DEVT (4 + die)).raise 3 0x0004 die 0x00 0

end Sys2Proof.Machine
end

