-- ==== Sys2Proof/Machine/Commands.lean ====
section
/-!
DEFINITION. What the commands share beside the units' own operations: addresses and words that a command stands for, and the
sub-steps of a tick that a command takes alone.
-/
namespace Sys2Proof.Machine

/-! ## Accesses a command stands for -/

/-- Both halves of a pair written by one requester, low half first (R6). -/
def State.pairAccess (s : State) (r : Requester) (lo hi : Nat) (d : DWord) : State :=
  (s.regAccess r lo (loHalf d)).regAccess r hi (hiHalf d)

/-- A register read, or written where data is given. -/
def State.dataAccess (s : State) (r : Requester) (key : Nat) (w : Option Word) : State :=
  match w with
  | some x => s.regAccess r key x
  | none => s.regFetch r key

/-- A word of the on-chip view read, or written where data is given. -/
def State.viewAccess (s : State) (r : Requester) (addr : Nat) (w : Option Word) : State :=
  match w with
  | some x => s.busWrite r addr 4 x
  | none => s.busRead r addr 4

/-- The system address of a die's sub-window (R25). -/
def viewBase (die : Nat) : Nat := 0xA00 * 2 ^ 32 + die * 0x20000000

/-- The address of a word of a calendar entry; entry 16,384 + n is shadow entry n (R26, R93). -/
def calAddr (die entry word : Nat) : Nat :=
  viewBase die + 0x04000000 + (if entry < 16384 then 0x10000 + entry * 32 else 0x8000 + (entry - 16384) * 32) + word * 4

/-- The address of a word of a Facet's memories (R211). -/
def facetAddr (die p off : Nat) : Nat := viewBase die + p * 0x20000 + off
def bankOffset (bankB : Bool) (i : Nat) : Nat := (if bankB then 0x10000 else 0x8000) + 4 * i

/-- A memory of a Region as the fabric numbers it. -/
def fabricMem (die rg m : Nat) : Nat := 512 * (16 * die + rg) + m

/-- CAL_GCMD with `go` (R101). -/
def groupWord (op grp : Nat) (timed : Bool) : Word := BitVec.ofNat 32 (grp + op * 16 + b2n timed * 64 + 2 ^ 31)

/-- DDR_MT_CTL with `busy` (R342). -/
def testWord (op pat kid : Nat) : Word := BitVec.ofNat 32 (op + pat * 4 + kid * 16 + 2 ^ 31)

/-- CFGF_CMD (R474). -/
def regionWord (op rg : Nat) (src timed : Bool) : Word := BitVec.ofNat 32 (op + b2n src * 8 + b2n timed * 16 + rg * 256)

/-- CORE_RC with a request bit, its settings as they stand (R536). -/
def State.coreRcWord (s : State) (i bit : Nat) : Word := BitVec.ofNat 32 (s.fld (Reg.CORE_RC i) 2 3 * 4 + bit)

/-- QM_SETCMD of a set with `go` (R320). -/
def State.setAccess (s : State) (r : Requester) (set op grp : Nat) : State :=
  let die := if set < 16 then 4 else (set - 16) / 12
  s.regAccess r (regKey die 0x0A (0xD00 + (set - firstSet die)) 0) (BitVec.ofNat 32 (op + grp * 16 + 2 ^ 31))

/-! ## Sub-steps of a tick -/

/-- DT runs: the spine has its reference and POR has released. [Log 67 DEDUCED] -/
def State.ticking (s : State) : Bool := !s.clk.por && s.spine.run

/-- A domain of source `src` takes an edge whose level is held for `width` dtu (R53). -/
def State.domTakes (s : State) (src dom width : Nat) : Bool := s.ticking && s.domSrc dom == src && s.passesFilter dom width

/-- A Region presents an increment; one in reconfiguration or reset contributes 0 (R60, R176, R197). -/
def State.presentIncrement (s : State) (rg : Nat) (inc : Word) : State :=
  if s.isolated (rg / 16) (rg % 16) then s else s.fabricIncrement rg inc

/-- The pulse in progress on a direct line, or on a pin's line, ends where its end falls in this tick (R91). [Log 72 DEDUCED] -/
def State.pulseEnd (s : State) (die : Nat) (direct : Bool) (n : Nat) : State :=
  if direct then
    let c := s.slice die
    s.setSlice die { c with lines := c.lines.set n (s.linePulseUpTo (c.lines.get n {}) s.tickEnd).1 {} }
  else if 240 ≤ n then s
  else
    let u := s.unit die n
    let r := s.linePulseUpTo u.line s.tickEnd
    ((s.setUnit die n { u with line := r.1 }).flagIf r.2.1 (Reg.TIO_STAT die n) 15).flagIf r.2.2 (Reg.TIO_STAT die n) 16

/-- One dtu of a PWM unit: at a period start, waiting shadows move into use (R128). -/
def State.pwmShadowMove (s : State) (die n k : Nat) : State :=
  match (s.unit die n).mode with
  | 4 => s.pwmGenDtu die n (s.stamp k)
  | 5 => s.pwmPhaseDtu die n k (s.stamp k)
  | _ => s

/-- The deadline of a waiting request, or of the task of a Facet of the Region (R237). -/
def State.deadlineExpiry (s : State) (die rg : Nat) (waiting : Bool) (i : Nat) : State :=
  if waiting then s.lateReady die rg i else s.lateAssigned die (17 * rg + i % 17)

/-! ## Memory -/

/-- The reply of a memory access. -/
def State.protectedAccess (_ : State) (r : State × Option MemReply) : State := { r.1 with mem := { r.1.mem with reply := r.2 } }

/-- What the memory of a channel holds at an engine-local address (R331, R351): a line of data or of metadata. -/
def State.storedLine (s : State) (e l : Nat) : State × MemReply :=
  if s.dataArea e ≤ l then (s.drawnN 8, { data := s.metadataLine e l }) else s.rawLine e (l / 64)

/-- What the array gives: the data stored, after a correction (`out` 1), or poison where it cannot be corrected (2). -/
def State.arrayRead (s : State) (a e l out : Nat) : State × MemReply :=
  if out = 2 then (s.uncorrectable e a, poisoned 6) else (if out = 1 then s.corrected e else s).storedLine e l

/-- A DDR5 read in a channel (R332 to R334): scheduled, its data stored, corrected (1) or uncorrectable and poisoned (2).
[Log 112 DESIGN CHOICE, 116 DEDUCED] -/
def State.memoryRead (s : State) (a bank row out : Nat) : State :=
  match s.locate a with
  | .error r => s.protectedAccess (s, some (refusal r))
  | .ok (e, l) =>
    if 4 ≤ e then s
    else
      let r := (s.scheduleRead e bank row).arrayRead a e l out
      s.protectedAccess (r.1, some r.2)

/-- A DDR5 write enters the write queue of its channel and is acknowledged there (R332). [Log 112 DESIGN CHOICE] -/
def State.memoryWrite (s : State) (a bank row prio : Nat) : State :=
  match s.locate a with
  | .error r => s.protectedAccess (s, some (refusal r))
  | .ok (e, l) =>
    if 4 ≤ e then s else s.protectedAccess (s.queueWrite e { bank := bank, row := row, prio := prio, line := l / 64 }, some {})

/-- A producer pushes stream data; the answer tells whether it was taken (R311). -/
def State.streamProducer (s : State) (q : Nat) (bytes : List Byte) (flush : Bool) : State :=
  let r := s.streamPush q bytes flush
  r.1.answer r.2

/-! ## Debug -/

/-- A boundary instruction, and the cells shifted in under it (R528, R529). -/
def State.boundaryScan (s : State) (code : Nat) (cells : List (Fin 960 × Bool × Bool)) : State :=
  let s := s.tapInstruction code
  if s.session.ir = code then s.tapCells (cells.map (fun c => (c.1.val, c.2))) else s

/-- RESPONSE written to DBG_ACMD; `late` in the cycle in which the challenge expires (R12, R532). -/
def State.responseCommand (s : State) (scope : Nat) (zfill late : Bool) : State :=
  (s.response scope zfill late).completeAccess 16 true (csrAddr Reg.DBG_ACMD) .ok 0

end Sys2Proof.Machine
end

