-- ==== Sys2Proof/Machine/CmdBezel.lean ====
section
/-!
DEFINITION. Meanings of the commands: Bezel services (R494 to R527).
-/
namespace Sys2Proof.Machine

/-- BEZEL_COMMAND_GO (R507). -/
def execBezelCommandGo (r : Requester) (chan : Fin 4) (w : BitVec 32) (s : State) : Host.Outcome State Fault Refusal :=
  .next (s.regAccess r (Reg.BZ_CMD chan) (w ||| 0x80000000))

/-- KEY_GEN (R509). -/
def execKeyGen (s : State) : Host.Outcome State Fault Refusal := .next s.keyGen

/-- KEY_IMPORT (R504). -/
def execKeyImport (s : State) : Host.Outcome State Fault Refusal := .next s.keyImport

/-- KEY_EXPORT (R504). -/
def execKeyExport (s : State) : Host.Outcome State Fault Refusal := .next s.keyExport

/-- KEY_DELETE (R509). -/
def execKeyDelete (s : State) : Host.Outcome State Fault Refusal := .next s.keyDelete

/-- MPE_LOAD (R505). -/
def execMpeLoad (s : State) : Host.Outcome State Fault Refusal := .next s.mpeLoad

/-- MPE_GRANT (R505). -/
def execMpeGrant (s : State) : Host.Outcome State Fault Refusal := .next s.mpeGrant

/-- SIGN_RECORD (R515). -/
def execSignRecord (s : State) : Host.Outcome State Fault Refusal := .next s.signRecord

/-- TRANSFER_WRAP (R516). -/
def execTransferWrap (s : State) : Host.Outcome State Fault Refusal := .next s.transferWrap

/-- ATTEST (R514). -/
def execAttest (s : State) : Host.Outcome State Fault Refusal := .next s.attest

/-- GET_CERT (R512). -/
def execGetCert (s : State) : Host.Outcome State Fault Refusal := .next s.getCert

/-- IMAGE_LIB (R520). -/
def execImageLib (img : Image) (s : State) : Host.Outcome State Fault Refusal := .next (s.imageLib img)

/-- IMAGE_CD (R520). -/
def execImageCd (img : Image) (s : State) : Host.Outcome State Fault Refusal := .next (s.imageCd img)

/-- FW_ACTIVATE (R519). -/
def execFwActivate (img : Image) (s : State) : Host.Outcome State Fault Refusal := .next (s.fwActivate img)

/-- RANDOM (R509). -/
def execRandom (s : State) : Host.Outcome State Fault Refusal := .next s.random

/-- ARB_ADVANCE (R517). -/
def execArbAdvance (s : State) : Host.Outcome State Fault Refusal := .next s.arbAdvance

/-- OTP_SET (R525). -/
def execOtpSet (t : Token) (s : State) : Host.Outcome State Fault Refusal := .next (s.otpSet t)

/-- LC_CHANGE (R501). -/
def execLcChange (ts : List Token) (block : Option Provisioning) (s : State) : Host.Outcome State Fault Refusal := .next (s.lcChange ts block)

/-- SENSOR_EVENT (R521). -/
def execSensorEvent (cls : Fin 8) (s : State) : Host.Outcome State Fault Refusal := .next (s.sensorEvent cls)

end Sys2Proof.Machine
end

