-- ==== Sys2Proof/Machine/CmdBundle.lean ====
section
/-!
DEFINITION. Meanings of the commands: one bundle issued by a Facet (R220, R229, R246 to R273).
-/
namespace Sys2Proof.Machine

/-- PAR_BUNDLE (R250). -/
def execParBundle (die : Fin 4) (i : ParIssue) (s : State) : Host.Outcome State Fault Refusal :=
  .next ((s.strike die i.p i.upset).issueAs die i.p (fun b => match b with | .par _ _ _ => true | _ => false))

/-- IMM (R263). -/
def execImm (die : Fin 4) (p : Fin 272) (s : State) : Host.Outcome State Fault Refusal :=
  .next (s.issueAs die p (fun b => match b with | .imm _ _ => true | _ => false))

/-- BR (R266). -/
def execBr (die : Fin 4) (p : Fin 272) (s : State) : Host.Outcome State Fault Refusal :=
  .next (s.issueAs die p (fun b => match b with | .ctl (.br _ _) => true | _ => false))

/-- BRI (R266). -/
def execBri (die : Fin 4) (p : Fin 272) (s : State) : Host.Outcome State Fault Refusal :=
  .next (s.issueAs die p (fun b => match b with | .ctl (.bri _ _) => true | _ => false))

/-- CALL (R266). -/
def execCall (die : Fin 4) (p : Fin 272) (s : State) : Host.Outcome State Fault Refusal :=
  .next (s.issueAs die p (fun b => match b with | .ctl (.call _ _) => true | _ => false))

/-- CALLI (R266). -/
def execCalli (die : Fin 4) (p : Fin 272) (s : State) : Host.Outcome State Fault Refusal :=
  .next (s.issueAs die p (fun b => match b with | .ctl (.calli _ _) => true | _ => false))

/-- RET (R266). -/
def execRet (die : Fin 4) (p : Fin 272) (s : State) : Host.Outcome State Fault Refusal :=
  .next (s.issueAs die p (fun b => match b with | .ctl (.ret _) => true | _ => false))

/-- RTU (R266). -/
def execRtu (die : Fin 4) (p : Fin 272) (s : State) : Host.Outcome State Fault Refusal :=
  .next (s.issueAs die p (fun b => match b with | .ctl .rtu => true | _ => false))

/-- WAIT (R229). -/
def execWait (die : Fin 4) (p : Fin 272) (s : State) : Host.Outcome State Fault Refusal :=
  .next (s.issueAs die p (fun b => match b with | .ctl .wait => true | _ => false))

/-- LOOP (R267). -/
def execLoop (die : Fin 4) (p : Fin 272) (s : State) : Host.Outcome State Fault Refusal :=
  .next (s.issueAs die p (fun b => match b with | .ctl (.loop _ _ _) => true | _ => false))

/-- LPOP (R266). -/
def execLpop (die : Fin 4) (p : Fin 272) (s : State) : Host.Outcome State Fault Refusal :=
  .next (s.issueAs die p (fun b => match b with | .ctl .lpop => true | _ => false))

/-- REP (R220). -/
def execRep (die : Fin 4) (p : Fin 272) (s : State) : Host.Outcome State Fault Refusal :=
  .next (s.issueAs die p (fun b => match b with | .ctl (.rep _) => true | _ => false))

/-- SIGNAL (R268). -/
def execSignal (die : Fin 4) (p : Fin 272) (s : State) : Host.Outcome State Fault Refusal :=
  .next (s.issueAs die p (fun b => match b with | .ctl (.signal _ _ _ _) => true | _ => false))

/-- SNOP (R269). -/
def execSnop (die : Fin 4) (p : Fin 272) (s : State) : Host.Outcome State Fault Refusal :=
  .next (s.issueAs die p (fun b => match b with | .sys .snop => true | _ => false))

/-- MRS (R269). -/
def execMrs (die : Fin 4) (p : Fin 272) (s : State) : Host.Outcome State Fault Refusal :=
  .next (s.issueAs die p (fun b => match b with | .sys (.mrs _ _) => true | _ => false))

/-- SRS (R269). -/
def execSrs (die : Fin 4) (p : Fin 272) (s : State) : Host.Outcome State Fault Refusal :=
  .next (s.issueAs die p (fun b => match b with | .sys (.srs _ _) => true | _ => false))

/-- MVX (R270). -/
def execMvx (die : Fin 4) (p : Fin 272) (s : State) : Host.Outcome State Fault Refusal :=
  .next (s.issueAs die p (fun b => match b with | .sys (.mvx _ _ _) => true | _ => false))

/-- MXV (R270). -/
def execMxv (die : Fin 4) (p : Fin 272) (s : State) : Host.Outcome State Fault Refusal :=
  .next (s.issueAs die p (fun b => match b with | .sys (.mxv _ _ _) => true | _ => false))

/-- PADD (R269). -/
def execPadd (die : Fin 4) (p : Fin 272) (s : State) : Host.Outcome State Fault Refusal :=
  .next (s.issueAs die p (fun b => match b with | .sys (.padd _ _) => true | _ => false))

/-- SCNT (R269). -/
def execScnt (die : Fin 4) (p : Fin 272) (s : State) : Host.Outcome State Fault Refusal :=
  .next (s.issueAs die p (fun b => match b with | .sys (.scnt _ _) => true | _ => false))

/-- QKICK (R271). -/
def execQkick (die : Fin 4) (p : Fin 272) (s : State) : Host.Outcome State Fault Refusal :=
  .next (s.issueAs die p (fun b => match b with | .sys (.qkick _) => true | _ => false))

/-- QKICKD (R271). -/
def execQkickd (die : Fin 4) (p : Fin 272) (s : State) : Host.Outcome State Fault Refusal :=
  .next (s.issueAs die p (fun b => match b with | .sys (.qkickd _) => true | _ => false))

/-- REC (R271). -/
def execRecord (die : Fin 4) (p : Fin 272) (s : State) : Host.Outcome State Fault Refusal :=
  .next (s.issueAs die p (fun b => match b with | .sys (.recd _ _ _) => true | _ => false))

end Sys2Proof.Machine
end

