-- ==== Sys2Proof/Machine/CmdBus.lean ====
section
/-!
DEFINITION. Meanings of the commands: ticks and plain register accesses (R5 to R7, R11).
-/
namespace Sys2Proof.Machine

/-- SPINE_TICK (R11). -/
def execSpineTick (missed : List (Fin 4)) (s : State) : Host.Outcome State Fault Refusal := .next (s.spineTick (missed.map (·.val))).interruptTick

/-- REGISTER_WRITE (R7). -/
def execRegisterWrite (r : Requester) (addr : Nat) (size : Nat) (w : BitVec 32) (s : State) : Host.Outcome State Fault Refusal :=
  .next (s.busWrite r addr size w)

/-- PAIR_LO_WRITE (R6). -/
def execPairLoWrite (r : Requester) (addr : Nat) (w : BitVec 32) (s : State) : Host.Outcome State Fault Refusal := .next (s.busWrite r addr 4 w)

/-- PAIR_HI_WRITE (R6). -/
def execPairHiWrite (r : Requester) (addr : Nat) (w : BitVec 32) (s : State) : Host.Outcome State Fault Refusal := .next (s.busWrite r addr 4 w)

/-- PAIR_LO_READ (R6). -/
def execPairLoRead (r : Requester) (addr : Nat) (s : State) : Host.Outcome State Fault Refusal := .next (s.busRead r addr 4)

/-- PAIR_HI_READ (R6). -/
def execPairHiRead (r : Requester) (addr : Nat) (s : State) : Host.Outcome State Fault Refusal := .next (s.busRead r addr 4)

/-- READ_CLEAR (R7). -/
def execReadClear (r : Requester) (addr : Nat) (size : Nat) (s : State) : Host.Outcome State Fault Refusal := .next (s.busRead r addr size)

/-- READ_POP (R7). -/
def execReadPop (r : Requester) (addr : Nat) (s : State) : Host.Outcome State Fault Refusal := .next (s.busRead r addr 4)

end Sys2Proof.Machine
end

