-- ==== Sys2Proof/Machine/CmdCalendar.lean ====
section
/-!
DEFINITION. Meanings of the commands: the event calendar (R75 to R107).
-/
namespace Sys2Proof.Machine

/-- CALENDAR_ACTION_DELIVERY (R81). -/
def execCalendarActionDelivery (s : State) : Host.Outcome State Fault Refusal := .next s.deliverFlights

/-- PULSE_END (R91). -/
def execPulseEnd (die : Fin 4) (direct : Bool) (n : Fin 256) (s : State) : Host.Outcome State Fault Refusal := .next (s.pulseEnd die direct n)

/-- WINDOW_CLOSE (R118). -/
def execWindowClose (die : Fin 4) (pin : Fin 240) (s : State) : Host.Outcome State Fault Refusal :=
  .next ((s.windowUpTo die pin s.tickEnd).windowFlush die pin)

/-- ENTRY_WRITE (R95). -/
def execEntryWrite (r : Requester) (die : Fin 8) (entry : Fin 16448) (word : Fin 8) (w : BitVec 32) (s : State) : Host.Outcome State Fault Refusal :=
  .next (s.busWrite r (calAddr die entry word) 4 w)

/-- ENTRY_ARM (R97). -/
def execEntryArm (r : Requester) (die : Fin 8) (entry : Fin 16448) (w : BitVec 32) (s : State) : Host.Outcome State Fault Refusal :=
  .next (s.busWrite r (calAddr die entry 7) 4 (w ||| 1))

/-- ENTRY_READ (R96). -/
def execEntryRead (r : Requester) (die : Fin 8) (entry : Fin 16448) (s : State) : Host.Outcome State Fault Refusal :=
  .next (s.busRead r (calAddr die entry 0) 4)

/-- STAGED_WRITE (R100). -/
def execStagedWrite (r : Requester) (die : Fin 4) (entry : Fin 16384) (s : State) : Host.Outcome State Fault Refusal :=
  .next (s.regAccess r (Reg.CAL_STG_CMD die) (BitVec.ofNat 32 (entry + 0x10000)))

/-- STAGED_READ (R100). -/
def execStagedRead (r : Requester) (die : Fin 4) (entry : Fin 16384) (s : State) : Host.Outcome State Fault Refusal :=
  .next (s.regAccess r (Reg.CAL_STG_CMD die) (BitVec.ofNat 32 (entry + 0x20000)))

/-- GROUP_ARM (R101). -/
def execGroupArm (r : Requester) (die : Fin 4) (grp : Fin 16) (timed : Bool) (s : State) : Host.Outcome State Fault Refusal :=
  .next (s.regAccess r (Reg.CAL_GCMD die) (groupWord 0 grp timed))

/-- GROUP_DISARM (R101). -/
def execGroupDisarm (r : Requester) (die : Fin 4) (grp : Fin 16) (timed : Bool) (s : State) : Host.Outcome State Fault Refusal :=
  .next (s.regAccess r (Reg.CAL_GCMD die) (groupWord 1 grp timed))

/-- GROUP_SHIFT (R101). -/
def execGroupShift (r : Requester) (die : Fin 4) (grp : Fin 16) (timed : Bool) (s : State) : Host.Outcome State Fault Refusal :=
  .next (s.regAccess r (Reg.CAL_GCMD die) (groupWord 2 grp timed))

/-- CALENDAR_ENABLE (R104). -/
def execCalendarEnable (r : Requester) (die : Fin 4) (w : BitVec 32) (s : State) : Host.Outcome State Fault Refusal :=
  .next (s.regAccess r (Reg.CAL_CTL die) w)

end Sys2Proof.Machine
end

