-- ==== Sys2Proof/Machine/CmdClocks.lean ====
section
/-!
DEFINITION. Meanings of the commands: clocks and resets (R414 to R435).
-/
namespace Sys2Proof.Machine

/-- AMPLITUDE_DETECT (R415). -/
def execAmplitudeDetect (byp : Bool) (wait : Fin 8) (s : State) : Host.Outcome State Fault Refusal := .next (s.amplitudeDetect byp wait)

/-- POR_RELEASE (R428). -/
def execPorRelease (x : Straps) (s : State) : Host.Outcome State Fault Refusal := .next (s.porRelease x)

/-- REFERENCE_LOSS (R422). -/
def execReferenceLoss (n : Fin 23) (s : State) : Host.Outcome State Fault Refusal := .next (if s.refSelected n then s.referenceLoss n else s)

/-- REFERENCE_RETURN (R419). -/
def execReferenceReturn (n : Fin 23) (us : Nat) (s : State) : Host.Outcome State Fault Refusal := .next (s.referenceReturn n us)

/-- PLL_RELOCK (R424). -/
def execPllRelock (us : Nat) (s : State) : Host.Outcome State Fault Refusal := .next (s.pllRelock us)

/-- HOLD_RELEASE (R424). -/
def execHoldRelease (r : Requester) (s : State) : Host.Outcome State Fault Refusal := .next (s.regAccess r Reg.CLK_CMD 1)

/-- RESUME_PIN (R570). -/
def execResumePin (level : Bool) (s : State) : Host.Outcome State Fault Refusal := .next (s.resumePin level)

/-- FREQUENCY_CHECK (R419). -/
def execFrequencyCheck (n : Fin 23) (s : State) : Host.Outcome State Fault Refusal := .next (s.frequencyCheck n)

/-- FABRIC_PLL_LOSS (R418). -/
def execFabricPllLoss (die : Fin 4) (n : Fin 8) (s : State) : Host.Outcome State Fault Refusal := .next (s.fpllLoss die n)

/-- POR (R427). -/
def execPor (s : State) : Host.Outcome State Fault Refusal := .next s.porReset

/-- DEVICE_RESET (R427). -/
def execDeviceReset (cause : Fin 16) (s : State) : Host.Outcome State Fault Refusal := .next (s.deviceReset cause)

/-- DIE_RESET (R427). -/
def execDieReset (die : Fin 6) (s : State) : Host.Outcome State Fault Refusal := .next ((s.dieReset die).lateMissing)

/-- REGION_RESET (R428). -/
def execRegionReset (r : Requester) (die : Fin 4) (mask : BitVec 16) (s : State) : Host.Outcome State Fault Refusal :=
  .next (s.regAccess r (Reg.DIE_RRST die) (mask.setWidth 32 ||| 0x80000000))

/-- REGION_RESET_DONE (R428). -/
def execRegionResetDone (die : Fin 4) (s : State) : Host.Outcome State Fault Refusal := .next (s.regionResetDone die)

/-- UNIT_RESET (R429). -/
def execUnitReset (r : Requester) (die : Fin 6) (unit : Fin 32) (inst : Fin 4096) (s : State) : Host.Outcome State Fault Refusal :=
  .next (s.regAccess r (Reg.DIE_URST die) (BitVec.ofNat 32 (inst + unit * 4096 + 0x80000000)))

/-- DIE_RELEASE (R434). -/
def execDieRelease (r : Requester) (mask : BitVec 4) (s : State) : Host.Outcome State Fault Refusal :=
  .next (s.regAccess r Reg.DIE_REL (mask.setWidth 32))

end Sys2Proof.Machine
end

