-- ==== Sys2Proof/Machine/CmdDebug.lean ====
section
/-!
DEFINITION. Meanings of the commands: the TAP, debug access, run control, the recorder (R528 to R560).
-/
namespace Sys2Proof.Machine

/-- EXTEST (R528). -/
def execExtest (cells : List (Fin 960 × Bool × Bool)) (s : State) : Host.Outcome State Fault Refusal := .next (s.boundaryScan 0x00 cells)

/-- IDCODE (R528). -/
def execIdcode (s : State) : Host.Outcome State Fault Refusal := .next (s.tapInstruction 0x01)

/-- SAMPLE_PRELOAD (R528). -/
def execSamplePreload (cells : List (Fin 960 × Bool × Bool)) (s : State) : Host.Outcome State Fault Refusal := .next (s.boundaryScan 0x02 cells)

/-- CLAMP (R528). -/
def execClamp (s : State) : Host.Outcome State Fault Refusal := .next (s.tapInstruction 0x03)

/-- HIGHZ (R528). -/
def execHighz (s : State) : Host.Outcome State Fault Refusal := .next (s.tapInstruction 0x04)

/-- EXTEST_PULSE (R528). -/
def execExtestPulse (cells : List (Fin 960 × Bool × Bool)) (s : State) : Host.Outcome State Fault Refusal := .next (s.boundaryScan 0x05 cells)

/-- EXTEST_TRAIN (R528). -/
def execExtestTrain (cells : List (Fin 960 × Bool × Bool)) (s : State) : Host.Outcome State Fault Refusal := .next (s.boundaryScan 0x06 cells)

/-- DAG (R528). -/
def execDag (s : State) : Host.Outcome State Fault Refusal := .next (s.tapInstruction 0x10)

/-- CFG_DATA (R528). -/
def execCfgData (s : State) : Host.Outcome State Fault Refusal := .next (s.tapInstruction 0x11)

/-- BYPASS (R528). -/
def execBypass (s : State) : Host.Outcome State Fault Refusal := .next (s.tapInstruction 0xFF)

/-- TAP_RESET (R528). -/
def execTapReset (s : State) : Host.Outcome State Fault Refusal := .next s.tapReset

/-- DAG_ACCESS (R534). -/
def execDagAccess (op : Fin 4) (addr : BitVec 48) (data : BitVec 32) (tag : BitVec 64) (s : State) : Host.Outcome State Fault Refusal :=
  .next (s.dagAccess op addr.toNat data tag.toNat)

/-- PASSWORD (R531). -/
def execPassword (scope : BitVec 8) (s : State) : Host.Outcome State Fault Refusal :=
  .next (s.regAccess .debugger Reg.DBG_ACMD (BitVec.ofNat 32 (scope.toNat * 256 + 1)))

/-- CHALLENGE (R532). -/
def execChallenge (scope : BitVec 8) (s : State) : Host.Outcome State Fault Refusal :=
  .next (s.regAccess .debugger Reg.DBG_ACMD (BitVec.ofNat 32 (scope.toNat * 256 + 2)))

/-- RESPONSE (R532). -/
def execResponse (scope : BitVec 8) (zfill : Bool) (late : Bool) (s : State) : Host.Outcome State Fault Refusal :=
  .next (s.responseCommand scope.toNat zfill late)

/-- CLOSE (R535). -/
def execClose (s : State) : Host.Outcome State Fault Refusal := .next (s.regAccess .debugger Reg.DBG_ACMD 4)

/-- CHALLENGE_EXPIRY (R532). -/
def execChallengeExpiry (s : State) : Host.Outcome State Fault Refusal := .next s.challengeExpiry

/-- AUTH_DELAY_END (R531). -/
def execAuthDelayEnd (s : State) : Host.Outcome State Fault Refusal := .next s.authDelayEnd

/-- CORE_HALT_REQUEST (R536). -/
def execCoreHaltRequest (r : Requester) (n : Fin 6) (s : State) : Host.Outcome State Fault Refusal :=
  .next (s.regAccess r (Reg.CORE_RC n) (s.coreRcWord n 1))

/-- CORE_HALT (R536). -/
def execCoreHalt (n : Fin 6) (s : State) : Host.Outcome State Fault Refusal := .next (s.acceptCoreHalt n)

/-- CORE_RESUME_REQUEST (R536). -/
def execCoreResumeRequest (r : Requester) (n : Fin 6) (s : State) : Host.Outcome State Fault Refusal :=
  .next (s.regAccess r (Reg.CORE_RC n) (s.coreRcWord n 2))

/-- EBREAK (R536). -/
def execEbreak (n : Fin 6) (pc : BitVec 64) (s : State) : Host.Outcome State Fault Refusal := .next (s.ebreak n pc)

/-- ABSTRACT_ACCESS (R536). -/
def execAbstractAccess (r : Requester) (n : Fin 6) (w : BitVec 32) (s : State) : Host.Outcome State Fault Refusal :=
  .next (s.regAccess r (Reg.CORE_ACMD n) (w ||| 0x80000000))

/-- FACET_HALT (R537). -/
def execFacetHalt (r : Requester) (s : State) : Host.Outcome State Fault Refusal := .next (s.regAccess r Reg.DBG_FRUN 1)

/-- FACET_RESUME (R537). -/
def execFacetResume (r : Requester) (s : State) : Host.Outcome State Fault Refusal := .next (s.regAccess r Reg.DBG_FRUN 2)

/-- FACET_STEP (R537). -/
def execFacetStep (r : Requester) (s : State) : Host.Outcome State Fault Refusal := .next (s.regAccess r Reg.DBG_FRUN 3)

/-- FACET_REGISTER_ACCESS (R537). -/
def execFacetRegisterAccess (r : Requester) (w : BitVec 32) (s : State) : Host.Outcome State Fault Refusal :=
  .next (s.regAccess r Reg.DBG_FREG (w ||| 0x80000000))

/-- WATCHDOG_KICK (R539). -/
def execWatchdogKick (r : Requester) (n : Fin 6) (s : State) : Host.Outcome State Fault Refusal := .next (s.regAccess r (Reg.CORE_WDT_KICK n) 0x5A5A)

/-- WATCHDOG_EXPIRY (R539). -/
def execWatchdogExpiry (n : Fin 6) (s : State) : Host.Outcome State Fault Refusal := .next (s.wdtExpiry n)

/-- DEBUG_LINE_EDGE (R542). -/
def execDebugLineEdge (n : Fin 16) (s : State) : Host.Outcome State Fault Refusal := .next (s.debugLineEdge n)

/-- TERMINAL_TX_PUSH (R543). -/
def execTerminalTxPush (r : Requester) (b : BitVec 8) (s : State) : Host.Outcome State Fault Refusal :=
  .next (s.regAccess r Reg.DBG_VT_TX (b.setWidth 32))

/-- TERMINAL_TX_POP (R543). -/
def execTerminalTxPop (s : State) : Host.Outcome State Fault Refusal := .next (s.regAccess .debugger Reg.DBG_VT_TX 0x40000000)

/-- TERMINAL_RX_PUSH (R543). -/
def execTerminalRxPush (b : BitVec 8) (s : State) : Host.Outcome State Fault Refusal := .next (s.regAccess .debugger Reg.DBG_VT_RX (b.setWidth 32))

/-- TERMINAL_RX_POP (R543). -/
def execTerminalRxPop (r : Requester) (s : State) : Host.Outcome State Fault Refusal := .next (s.regFetch r Reg.DBG_VT_RX)

/-- RECORD_ARRIVAL (R548). -/
def execRecordArrival (picks : List Nat) (s : State) : Host.Outcome State Fault Refusal := .next (s.recordsArrive picks)

/-- RECORD_STORE (R552). -/
def execRecordStore (sev7 : Bool) (s : State) : Host.Outcome State Fault Refusal := .next (s.recordStore sev7)

/-- RECORDER_FREEZE (R554). -/
def execRecorderFreeze (r : Requester) (s : State) : Host.Outcome State Fault Refusal := .next (s.regAccess r Reg.REC_CMD 1)

/-- RECORDER_UNFREEZE (R554). -/
def execRecorderUnfreeze (r : Requester) (s : State) : Host.Outcome State Fault Refusal := .next (s.regAccess r Reg.REC_CMD 2)

/-- RECORDER_CLEAR (R555). -/
def execRecorderClear (r : Requester) (s : State) : Host.Outcome State Fault Refusal := .next (s.regAccess r Reg.REC_CMD 4)

/-- FREEZE_LIMIT_EXPIRY (R554). -/
def execFreezeLimitExpiry (s : State) : Host.Outcome State Fault Refusal := .next s.freezeLimit

end Sys2Proof.Machine
end

