-- ==== Sys2Proof/Machine/CmdDies.lean ====
section
/-!
DEFINITION. Meanings of the commands: die-to-die modules, dies, control die, mailboxes (R20 to R46, R456).
-/
namespace Sys2Proof.Machine

/-- CAPABILITY_DESCRIPTOR (R20). -/
def execCapabilityDescriptor (die : Fin 6) (m : Fin 15) (d : List (BitVec 8)) (s : State) : Host.Outcome State Fault Refusal :=
  .next ((s.capability die m d).cdCutOff.lateMissing)

/-- MODULE_UP (R22). -/
def execModuleUp (m : Fin 15) (late : Bool) (s : State) : Host.Outcome State Fault Refusal := .next ((s.moduleUp m late).cdReturns)

/-- TRAINING_TIMEOUT (R22). -/
def execTrainingTimeout (m : Fin 15) (s : State) : Host.Outcome State Fault Refusal := .next ((s.trainingTimeout m).cdCutOff.lateMissing)

/-- MODULE_RETRAIN (R22). -/
def execModuleRetrain (r : Requester) (die : Fin 6) (m : Fin 15) (w : BitVec 32) (s : State) : Host.Outcome State Fault Refusal :=
  .next (s.regAccess r (Reg.D2D_CTL die m) (w ||| 2))

/-- MODULE_DOWN_LOST (R41). -/
def execModuleDownLost (m : Fin 15) (s : State) : Host.Outcome State Fault Refusal := .next ((s.moduleLost m).cdCutOff.lateMissing)

/-- DIE_LOSS (R41). -/
def execDieLoss (die : Fin 4) (s : State) : Host.Outcome State Fault Refusal := .next ((s.loseDie die).lateMissing)

/-- FAILOVER_SWITCH (R41). -/
def execFailoverSwitch (s : State) : Host.Outcome State Fault Refusal := .next s.failoverSwitch

/-- DIE_REJOIN (R44). -/
def execDieRejoin (die : Fin 4) (s : State) : Host.Outcome State Fault Refusal := .next (s.dieRejoin die)

/-- DIE_READY (R44). -/
def execDieReady (die : Fin 4) (s : State) : Host.Outcome State Fault Refusal := .next (s.dieReady die)

/-- CD_RESET (R46). -/
def execCdReset (s : State) : Host.Outcome State Fault Refusal := .next (s.cdReset.lateMissing)

/-- LOCKSTEP_DISAGREEMENT (R35). -/
def execLockstepDisagreement (pair : Fin 2) (s : State) : Host.Outcome State Fault Refusal := .next (s.lockstepFault pair)

/-- CORE_START (R38). -/
def execCoreStart (r : Requester) (w : BitVec 32) (s : State) : Host.Outcome State Fault Refusal := .next (s.regAccess r Reg.CC_START w)

/-- MBX_PUSH (R37). -/
def execMbxPush (r : Requester) (n : Fin 32) (msg : BitVec 32) (s : State) : Host.Outcome State Fault Refusal :=
  .next (s.regAccess r (Reg.MBX_PUSH n) msg)

/-- MBX_POP (R37). -/
def execMbxPop (r : Requester) (n : Fin 32) (s : State) : Host.Outcome State Fault Refusal := .next (s.regFetch r (Reg.MBX_POP n))

/-- MAILBOX_DISABLE (R37). -/
def execMailboxDisable (r : Requester) (n : Fin 32) (w : BitVec 32) (s : State) : Host.Outcome State Fault Refusal :=
  .next (s.regAccess r (Reg.MBX_CTL n) (wsetBit w 31 false))

/-- USER_MODE_ENTRY (R456). -/
def execUserModeEntry (us : Nat) (s : State) : Host.Outcome State Fault Refusal := .next (s.userModeEntry us)

end Sys2Proof.Machine
end

