-- ==== Sys2Proof/Machine/CmdElectrical.lean ====
section
/-!
DEFINITION. Meanings of the commands: supplies and clock sources (R47, R149, R389, R392, R418, R420, R563, R565).
-/
namespace Sys2Proof.Machine

/-- BROWNOUT (R563). -/
def execBrownout (s : State) : Host.Outcome State Fault Refusal := .next s.brownout

/-- VCCIO_ARRIVAL (R565). -/
def execVccioArrival (die : Fin 4) (bank : Fin 10) (mv : Nat) (s : State) : Host.Outcome State Fault Refusal := .next (s.vccioArrival die bank mv)

/-- VCCIO_LOSS (R565). -/
def execVccioLoss (die : Fin 4) (bank : Fin 10) (s : State) : Host.Outcome State Fault Refusal := .next (s.vccioLoss die bank)

/-- SPINE_PLL_LOCK (R47). -/
def execSpinePllLock (s : State) : Host.Outcome State Fault Refusal := .next s.spineLock

/-- QUAD_PLL_LOCK (R392). -/
def execQuadPllLock (die : Fin 4) (q : Fin 4) (b : Bool) (s : State) : Host.Outcome State Fault Refusal := .next (s.pllLock die q b)

/-- FABRIC_PLL_LOCK (R418). -/
def execFabricPllLock (die : Fin 4) (n : Fin 8) (s : State) : Host.Outcome State Fault Refusal := .next (s.fpllLock die n)

/-- BLOCK_LOCK (R389). -/
def execBlockLock (die : Fin 4) (l : Fin 16) (s : State) : Host.Outcome State Fault Refusal := .next (s.blockLock die l true)

/-- LOCAL_REFERENCE_LOSS (R420). -/
def execLocalReferenceLoss (n : Fin 23) (s : State) : Host.Outcome State Fault Refusal := .next (if s.refSelected n then s else s.referenceLoss n)

/-- FABRIC_BYPASS_OUTPUT (R149). -/
def execFabricBypassOutput (die : Fin 4) (line : Fin 128) (level : Bool) (s : State) : Host.Outcome State Fault Refusal :=
  .next (s.bypassOutput die line level)

end Sys2Proof.Machine
end

