-- ==== Sys2Proof/Machine/CmdFabric.lean ====
section
/-!
DEFINITION. Meanings of the commands: fabric, memories, MAC slices, Loupe (R170 to R208).
-/
namespace Sys2Proof.Machine

/-- INITIAL_VALUE_RESTORE (R178). -/
def execInitialValueRestore (r : Requester) (die : Fin 4) (mask : BitVec 16) (s : State) : Host.Outcome State Fault Refusal :=
  .next (s.regAccess r (Reg.LP_RESTORE die) (mask.setWidth 32 ||| 0x80000000))

/-- RESTORE_COMPLETE (R178). -/
def execRestoreComplete (die : Fin 4) (s : State) : Host.Outcome State Fault Refusal := .next (s.restoreDone die)

/-- CROSSING_FIFO_WRITE (R186). -/
def execCrossingFifoWrite (die : Fin 4) (rg : Fin 16) (m : Fin 288) (width : Nat) (data : Nat) (crossed : Nat) (s : State) : Host.Outcome State Fault Refusal :=
  .next (s.fifoWrite (fabricMem die rg m) width data crossed)

/-- CROSSING_FIFO_READ (R186). -/
def execCrossingFifoRead (die : Fin 4) (rg : Fin 16) (m : Fin 288) (crossed : Nat) (s : State) : Host.Outcome State Fault Refusal :=
  .next (s.fifoRead (fabricMem die rg m) crossed)

/-- CROSSING_FIFO_RESET (R187). -/
def execCrossingFifoReset (die : Fin 4) (rg : Fin 16) (m : Fin 288) (e : FifoReset) (s : State) : Host.Outcome State Fault Refusal :=
  .next (s.fifoReset (fabricMem die rg m) e)

/-- BLOCK_MEMORY_ACCESS (R184). -/
def execBlockMemoryAccess (die : Fin 4) (rg : Fin 16) (m : Fin 288) (ecc : Bool) (same : Bool) (a : Option PortAccess) (b : Option PortAccess) (s : State) : Host.Outcome State Fault Refusal :=
  .next (s.memoryAccess die rg m ecc same a b)

/-- MAC_OPERATION (R189). -/
def execMacOperation (die : Fin 4) (rg : Fin 16) (slice : Fin 192) (o : MacOp) (s : State) : Host.Outcome State Fault Refusal :=
  .next (s.macOperation die rg slice o)

/-- LOUPE_GO (R199). -/
def execLoupeGo (r : Requester) (die : Fin 4) (prof : Fin 16) (s : State) : Host.Outcome State Fault Refusal :=
  .next (s.regAccess r (Reg.LP_CMD die) (BitVec.ofNat 32 (prof + 0x100)))

/-- LOUPE_CAPTURE_EDGE (R200). -/
def execLoupeCaptureEdge (die : Fin 4) (k : Nat) (late : Bool) (s : State) : Host.Outcome State Fault Refusal := .next (s.captureEdge die k late)

/-- LOUPE_CAPTURE_TIMEOUT (R201). -/
def execLoupeCaptureTimeout (die : Fin 4) (s : State) : Host.Outcome State Fault Refusal := .next (s.captureTimeout die)

/-- LOUPE_RELEASE (R201). -/
def execLoupeRelease (r : Requester) (die : Fin 4) (s : State) : Host.Outcome State Fault Refusal := .next (s.regAccess r (Reg.LP_CMD die) 0x200)

/-- LOUPE_QUEUE_READOUT (R205). -/
def execLoupeQueueReadout (r : Requester) (die : Fin 4) (s : State) : Host.Outcome State Fault Refusal := .next (s.regAccess r (Reg.LP_CMD die) 0x400)

/-- READOUT_COMPLETE (R205). -/
def execReadoutComplete (die : Fin 4) (s : State) : Host.Outcome State Fault Refusal := .next (s.readoutDone die)

end Sys2Proof.Machine
end

