-- ==== Sys2Proof/Machine/CmdFacet.lean ====
section
/-!
DEFINITION. Meanings of the commands: Facets and dispatchers (R209 to R245).
-/
namespace Sys2Proof.Machine

/-- TASK_REQUEST (R235). -/
def execTaskRequest (die : Fin 4) (rg : Fin 16) (task : Fin 64) (param : BitVec 16) (s : State) : Host.Outcome State Fault Refusal :=
  .next ((s.requestTask die rg task param.toNat none false).1)

/-- FDSP_REQ (R235). -/
def execFdspReq (r : Requester) (die : Fin 4) (rg : Fin 16) (w : BitVec 32) (s : State) : Host.Outcome State Fault Refusal :=
  .next (s.regAccess r (Reg.FDSP_REQ die rg) w)

/-- DISPATCH_ASSIGN (R236). -/
def execDispatchAssign (die : Fin 4) (rg : Fin 16) (s : State) : Host.Outcome State Fault Refusal := .next (s.assign die rg (s.fdspFrozen die rg))

/-- DEADLINE_EXPIRY (R237). -/
def execDeadlineExpiry (die : Fin 4) (rg : Fin 16) (waiting : Bool) (n : Nat) (s : State) : Host.Outcome State Fault Refusal :=
  .next (s.deadlineExpiry die rg waiting n)

/-- URGENT_ACCEPT (R230). -/
def execUrgentAccept (die : Fin 4) (p : Fin 272) (s : State) : Host.Outcome State Fault Refusal := .next (s.acceptUrgent die p)

/-- FACET_HALT_ACCEPT (R233). -/
def execFacetHaltAccept (die : Fin 4) (p : Fin 272) (s : State) : Host.Outcome State Fault Refusal := .next (s.acceptHalt die p)

/-- TASK_WATCHDOG_EXPIRY (R239). -/
def execTaskWatchdogExpiry (die : Fin 4) (p : Fin 272) (s : State) : Host.Outcome State Fault Refusal := .next (s.taskWatchdog die p)

/-- FACET_ABORT (R228). -/
def execFacetAbort (r : Requester) (die : Fin 4) (p : Fin 272) (s : State) : Host.Outcome State Fault Refusal :=
  .next (s.regAccess r (Reg.FACET_CMD die p) 1)

/-- FACET_RESET (R228). -/
def execFacetReset (r : Requester) (die : Fin 4) (p : Fin 272) (s : State) : Host.Outcome State Fault Refusal :=
  .next (s.regAccess r (Reg.FACET_CMD die p) 2)

/-- FACET_URGENT (R230). -/
def execFacetUrgent (r : Requester) (die : Fin 4) (p : Fin 272) (code : BitVec 16) (s : State) : Host.Outcome State Fault Refusal :=
  .next (s.regAccess r (Reg.FACET_CMD die p) (BitVec.ofNat 32 (code.toNat * 65536 + 3)))

/-- FACET_ENABLE (R228). -/
def execFacetEnable (r : Requester) (die : Fin 4) (p : Fin 272) (w : BitVec 32) (s : State) : Host.Outcome State Fault Refusal :=
  .next (s.regAccess r (Reg.FACET_CTL die p) w)

/-- FDSP_REMAP (R241). -/
def execFdspRemap (r : Requester) (die : Fin 4) (rg : Fin 16) (w : BitVec 32) (s : State) : Host.Outcome State Fault Refusal :=
  .next (s.regAccess r (Reg.FDSP_REMAP die rg) w)

/-- REMAP_COMPLETE (R241). -/
def execRemapComplete (die : Fin 4) (rg : Fin 16) (s : State) : Host.Outcome State Fault Refusal := .next (s.remapDone die rg)

/-- VIEW_BANK_ACCESS (R211). -/
def execViewBankAccess (r : Requester) (die : Fin 4) (p : Fin 272) (bankB : Bool) (n : Fin 8192) (w : Option (BitVec 32)) (s : State) : Host.Outcome State Fault Refusal :=
  .next (s.viewAccess r (facetAddr die p (bankOffset bankB n)) w)

/-- PROGRAM_BUNDLE_WRITE (R211). -/
def execProgramBundleWrite (r : Requester) (die : Fin 4) (p : Fin 272) (n : Fin 8192) (w : BitVec 32) (s : State) : Host.Outcome State Fault Refusal :=
  .next (s.viewAccess r (facetAddr die p (4 * n)) (some w))

/-- STREAM_IN_PUSH (R216). -/
def execStreamInPush (die : Fin 4) (rg : Fin 16) (l : Fin 16) (port : Fin 2) (v : BitVec 24) (s : State) : Host.Outcome State Fault Refusal :=
  .next (s.streamIn die rg l port v)

/-- STREAM_OUT_POP (R216). -/
def execStreamOutPop (die : Fin 4) (rg : Fin 16) (l : Fin 16) (port : Fin 2) (s : State) : Host.Outcome State Fault Refusal :=
  .next (s.streamOut die rg l port)

end Sys2Proof.Machine
end

