-- ==== Sys2Proof/Machine/CmdLive.lean ====
section
/-!
DEFINITION. Meanings of the commands: live change (R464 to R493).
-/
namespace Sys2Proof.Machine

/-- REGION_LOAD (R475). -/
def execRegionLoad (r : Requester) (die : Fin 4) (rg : Fin 16) (userPort : Bool) (s : State) : Host.Outcome State Fault Refusal :=
  .next (s.regAccess r (Reg.CFGF_CMD die) (regionWord 1 rg userPort false))

/-- LOAD_COMPLETE (R475). -/
def execLoadComplete (die : Fin 4) (rg : Fin 16) (e : LoadEnd) (s : State) : Host.Outcome State Fault Refusal := .next (s.loadComplete die rg e)

/-- USER_PORT_TIMEOUT (R477). -/
def execUserPortTimeout (die : Fin 4) (arrived : Bool) (s : State) : Host.Outcome State Fault Refusal := .next (s.userPortTimeout die arrived)

/-- REGION_RELEASE (R475). -/
def execRegionRelease (r : Requester) (die : Fin 4) (rg : Fin 16) (timed : Bool) (s : State) : Host.Outcome State Fault Refusal :=
  .next (s.regAccess r (Reg.CFGF_CMD die) (regionWord 2 rg false timed))

/-- REGION_OFFLINE (R474). -/
def execRegionOffline (r : Requester) (die : Fin 4) (rg : Fin 16) (timed : Bool) (s : State) : Host.Outcome State Fault Refusal :=
  .next (s.regAccess r (Reg.CFGF_CMD die) (regionWord 3 rg false timed))

/-- REGION_SELFTEST (R485). -/
def execRegionSelftest (r : Requester) (die : Fin 4) (rg : Fin 16) (s : State) : Host.Outcome State Fault Refusal :=
  .next (s.regAccess r (Reg.CFGF_CMD die) (regionWord 4 rg false false))

/-- REGION_ABORT (R474). -/
def execRegionAbort (r : Requester) (die : Fin 4) (rg : Fin 16) (s : State) : Host.Outcome State Fault Refusal :=
  .next (s.regAccess r (Reg.CFGF_CMD die) (regionWord 5 rg false false))

/-- TIMED_COMMAND_DUE (R474). -/
def execTimedCommandDue (die : Fin 4) (rg : Fin 16) (s : State) : Host.Outcome State Fault Refusal :=
  .next (if s.regionDue (s.region die rg) then s.applyRegion die rg else s)

/-- SELFTEST_RESULT (R485). -/
def execSelftestResult (die : Fin 4) (rg : Fin 16) (sig : Nat) (us : Nat) (pass : Bool) (s : State) : Host.Outcome State Fault Refusal :=
  .next (s.selftestResult die rg sig us pass)

/-- SELFTEST_TIMEOUT (R485). -/
def execSelftestTimeout (die : Fin 4) (rg : Fin 16) (s : State) : Host.Outcome State Fault Refusal := .next (s.selftestTimeout die rg)

/-- FACET_TEST (R486). -/
def execFacetTest (r : Requester) (die : Fin 4) (p : Fin 512) (s : State) : Host.Outcome State Fault Refusal :=
  .next (s.regAccess r (Reg.CFGF_FTEST die) (BitVec.ofNat 32 (p + 0x80000000)))

/-- FACET_TEST_DONE (R486). -/
def execFacetTestDone (die : Fin 4) (pass : Bool) (s : State) : Host.Outcome State Fault Refusal := .next (s.facetTestDone die pass)

/-- SCRUB_PASS_START (R480). -/
def execScrubPassStart (die : Fin 4) (n : Fin 2) (s : State) : Host.Outcome State Fault Refusal := .next (s.scrubStart die n)

/-- FRAME_SCRUB (R479). -/
def execFrameScrub (die : Fin 4) (n : Fin 2) (err : Nat) (bad : List Nat) (s : State) : Host.Outcome State Fault Refusal :=
  .next (s.frameScrub die n err bad)

/-- CRITICAL_SCRUB (R481). -/
def execCriticalScrub (die : Fin 4) (n : Fin 2) (rewritten : Bool) (s : State) : Host.Outcome State Fault Refusal :=
  .next (s.criticalScrub die n rewritten)

/-- SCRUBBER_AUDIT (R482). -/
def execScrubberAudit (die : Fin 4) (n : Fin 2) (holders : List (BitVec 32)) (s : State) : Host.Outcome State Fault Refusal :=
  .next (s.auditScrubber die n holders)

/-- FRAME_REPAIR (R483). -/
def execFrameRepair (die : Fin 4) (n : Fin 2) (poison : Bool) (s : State) : Host.Outcome State Fault Refusal := .next (s.frameRepair die n poison)

/-- REGION_REPAIR (R483). -/
def execRegionRepair (die : Fin 4) (n : Fin 2) (crc : Nat) (poison : Bool) (s : State) : Host.Outcome State Fault Refusal :=
  .next (s.regionRepair die n crc poison)

/-- SCRUBBER_RESTART (R482). -/
def execScrubberRestart (r : Requester) (die : Fin 4) (n : Fin 2) (w : BitVec 32) (s : State) : Host.Outcome State Fault Refusal :=
  .next (s.regAccess r (Reg.SCR_CTL die (n + 1)) w)

/-- CD_BANK_CONFIRM (R489). -/
def execCdBankConfirm (r : Requester) (w : BitVec 32) (s : State) : Host.Outcome State Fault Refusal :=
  .next (s.regAccess r Reg.CFGH_CDBANK (w ||| 8))

/-- TRIAL_TIMEOUT (R489). -/
def execTrialTimeout (s : State) : Host.Outcome State Fault Refusal := .next s.trialTimeout

end Sys2Proof.Machine
end

