-- ==== Sys2Proof/Machine/CmdMemory.lean ====
section
/-!
DEFINITION. Meanings of the commands: DDR5 and CXL (R328 to R350).
-/
namespace Sys2Proof.Machine

/-- MEMORY_READ (R332). -/
def execMemoryRead (addr : Nat) (bank : Nat) (row : Nat) (out : Fin 3) (s : State) : Host.Outcome State Fault Refusal :=
  .next (s.memoryRead addr bank row out)

/-- MEMORY_WRITE (R332). -/
def execMemoryWrite (addr : Nat) (bank : Nat) (row : Nat) (prio : Nat) (s : State) : Host.Outcome State Fault Refusal :=
  .next (s.memoryWrite addr bank row prio)

/-- REFRESH (R335). -/
def execRefresh (c : Fin 4) (s : State) : Host.Outcome State Fault Refusal := .next (s.refresh c)

/-- MR4_POLL (R335). -/
def execMr4Poll (c : Fin 4) (hot : Bool) (s : State) : Host.Outcome State Fault Refusal := .next (s.setBit (Reg.DDR_STAT c) 4 hot)

/-- ACTIVATION_TABLE_CLEAR (R337). -/
def execActivationTableClear (c : Fin 4) (s : State) : Host.Outcome State Fault Refusal := .next (s.setChan c { s.chan c with acts := [] })

/-- CHANNEL_TRAINING (R338). -/
def execChannelTraining (c : Fin 4) (s : State) : Host.Outcome State Fault Refusal :=
  .next (if s.mayTrain c ∧ (s.chan c).state = .off then s.beginTraining c else s)

/-- CHANNEL_TRAINING_COMPLETE (R338). -/
def execChannelTrainingComplete (c : Fin 4) (eyes : List (BitVec 32)) (rfmThr : Nat) (s : State) : Host.Outcome State Fault Refusal :=
  .next (s.endTraining c eyes rfmThr)

/-- CHANNEL_INIT (R341). -/
def execChannelInit (r : Requester) (c : Fin 4) (w : BitVec 32) (s : State) : Host.Outcome State Fault Refusal :=
  .next (s.regAccess r (Reg.DDR_CTL c) (w ||| 0x40))

/-- DDR_RETRAIN (R339). -/
def execDdrRetrain (r : Requester) (c : Fin 4) (w : BitVec 32) (s : State) : Host.Outcome State Fault Refusal :=
  .next (s.regAccess r (Reg.DDR_RT c) (w ||| 1))

/-- RETRAIN_SLOT (R339). -/
def execRetrainSlot (c : Fin 4) (eyes : List (BitVec 32)) (s : State) : Host.Outcome State Fault Refusal := .next (s.retrainSlot c eyes)

/-- RETRAIN_ABORT (R340). -/
def execRetrainAbort (r : Requester) (c : Fin 4) (w : BitVec 32) (s : State) : Host.Outcome State Fault Refusal :=
  .next (s.regAccess r (Reg.DDR_RT c) (w &&& 0xFFFFFFFE ||| 2))

/-- MEMORY_TEST_WRITE (R342). -/
def execMemoryTestWrite (r : Requester) (c : Fin 4) (pat : Fin 4) (kid : Fin 64) (s : State) : Host.Outcome State Fault Refusal :=
  .next (s.regAccess r (Reg.DDR_MT_CTL c) (testWord 1 pat kid))

/-- MEMORY_TEST_CHECK (R342). -/
def execMemoryTestCheck (r : Requester) (c : Fin 4) (pat : Fin 4) (kid : Fin 64) (s : State) : Host.Outcome State Fault Refusal :=
  .next (s.regAccess r (Reg.DDR_MT_CTL c) (testWord 2 pat kid))

/-- MEMORY_TEST_WRITE_CHECK (R342). -/
def execMemoryTestWriteCheck (r : Requester) (c : Fin 4) (pat : Fin 4) (kid : Fin 64) (s : State) : Host.Outcome State Fault Refusal :=
  .next (s.regAccess r (Reg.DDR_MT_CTL c) (testWord 3 pat kid))

/-- MEMORY_TEST_COMPLETE (R342). -/
def execMemoryTestComplete (c : Fin 4) (s : State) : Host.Outcome State Fault Refusal := .next (s.testDone c)

/-- CXL_LINK_UP (R343). -/
def execCxlLinkUp (p : Fin 2) (linkB : Bool) (rate : Fin 8) (width : Fin 32) (cxl : Bool) (s : State) : Host.Outcome State Fault Refusal :=
  .next (s.linkTrained p linkB rate width cxl)

/-- CXL_LINK_DOWN (R346). -/
def execCxlLinkDown (p : Fin 2) (linkB : Bool) (next : Fin 2) (s : State) : Host.Outcome State Fault Refusal := .next (s.cxlLinkLost p linkB next)

/-- LINK_HOT_RESET (R346). -/
def execLinkHotReset (r : Requester) (p : Fin 2) (linkB : Bool) (w : BitVec 32) (s : State) : Host.Outcome State Fault Refusal :=
  .next (s.regAccess r (Reg.CXL_CTL p) (w ||| (if linkB then 0x20 else 0x10)))

/-- A configuration request of the host to the endpoint function of its port (R347): retried until entry to user mode (R453); the
function's configuration space is not laid out. -/
def State.functionConfig (s : State) (p : Nat) : State :=
  if !s.userMode then { s with bus := { s.bus with completion := some .configurationRetry } }
  else ({ s with bus := { s.bus with reply := some (.ok, Config.functionWord p s.free), completion := some .successful } }).drawn

/-- CONFIG_REQUEST (R345). -/
def execConfigRequest (r : Requester) (p : Fin 2) (w : Option (BitVec 32)) (s : State) : Host.Outcome State Fault Refusal :=
  .next (if r.code = 6 + p.val ∧ !s.rootMode p ∧ s.linkUp p false then s.functionConfig p else s.dataAccess r (Reg.CXL_CFGDATA p) w)

/-- DEVICE_REGISTER_REQUEST (R345). -/
def execDeviceRegisterRequest (r : Requester) (p : Fin 2) (w : Option (BitVec 32)) (s : State) : Host.Outcome State Fault Refusal :=
  .next (s.dataAccess r (Reg.CXL_IODATA p) w)

/-- CXL_COMPLETION (R346). -/
def execCxlCompletion (p : Fin 2) (linkB : Bool) (data : BitVec 32) (poison : Bool) (e : CxlEnd) (s : State) : Host.Outcome State Fault Refusal :=
  .next (s.cxlComplete p linkB data poison e.unsupported e.late)

/-- COMPLETION_TIMEOUT (R346). -/
def execCompletionTimeout (p : Fin 2) (linkB : Bool) (s : State) : Host.Outcome State Fault Refusal := .next (s.cxlTimeout p linkB)

/-- ENDPOINT_INTERRUPT (R347). -/
def execEndpointInterrupt (r : Requester) (p : Fin 2) (v : Fin 64) (s : State) : Host.Outcome State Fault Refusal :=
  .next (s.regAccess r (Reg.CXL_EPIRQ p) (BitVec.ofNat 32 v))

/-- FUNCTION_LEVEL_RESET (R347). -/
def execFunctionLevelReset (p : Fin 2) (s : State) : Host.Outcome State Fault Refusal :=
  .next (if s.rootMode p then s else (s.functionReset p).hostGone p)

end Sys2Proof.Machine
end

