-- ==== Sys2Proof/Machine/CmdNetwork.lean ====
section
/-!
DEFINITION. Meanings of the commands: network and queues (R300 to R327).
-/
namespace Sys2Proof.Machine

/-- PACKET_ARRIVAL (R301). -/
def execPacketArrival (p : Packet) (corrected : Bool) (uncorrectable : Bool) (s : State) : Host.Outcome State Fault Refusal :=
  .next ((s.packet p.die corrected uncorrectable).flowPacket p.die p.flow)

/-- CROSSING_FLIT (R307). -/
def execCrossingFlit (die : Fin 6) (m : Fin 15) (quarter : Fin 4) (f : Flit) (s : State) : Host.Outcome State Fault Refusal :=
  .next (s.crossingFlit die (peerOf m die) m quarter f)

/-- DOORBELL (R310). -/
def execDoorbell (r : Requester) (q : Fin 8192) (w : BitVec 32) (s : State) : Host.Outcome State Fault Refusal :=
  .next (s.regAccess r (s.qreg q 0x01C) w)

/-- QM_KICK (R317). -/
def execQmKick (r : Requester) (q : Fin 8192) (s : State) : Host.Outcome State Fault Refusal := .next (s.regAccess r (s.qreg q 0x048) 0x80000000)

/-- KICK_ARRIVAL (R317). -/
def execKickArrival (q : Fin 8192) (s : State) : Host.Outcome State Fault Refusal := .next (s.kick q)

/-- DESCRIPTOR_FETCH_COMPLETE (R310). -/
def execDescriptorFetchComplete (q : Fin 8192) (f : Fetch) (s : State) : Host.Outcome State Fault Refusal := .next (s.fetchDescriptor q f)

/-- SOURCE_READ_RETURN (R312). -/
def execSourceReadReturn (q : Fin 8192) (data : List (BitVec 8)) (poison : Bool) (answered : Bool) (fs : List Fetch) (s : State) : Host.Outcome State Fault Refusal :=
  .next (s.sourceReturn q data poison (if answered then .ok else .unreachable) fs)

/-- STREAM_PUSH (R311). -/
def execStreamPush (q : Fin 8192) (bytes : List (BitVec 8)) (flush : Bool) (s : State) : Host.Outcome State Fault Refusal :=
  .next (s.streamProducer q bytes flush)

/-- CELL_TRANSFER (R316). -/
def execCellTransfer (die : Fin 5) (s : State) : Host.Outcome State Fault Refusal := .next (s.transferCell die)

/-- CREDIT_RETURN (R312). -/
def execCreditReturn (home : Fin 5) (ep : Endpoint) (s : State) : Host.Outcome State Fault Refusal := .next (s.creditReturn home ep)

/-- DESCRIPTOR_COMPLETE (R318). -/
def execDescriptorComplete (d : Done) (s : State) : Host.Outcome State Fault Refusal := .next (s.complete d.q d.late)

/-- COMPLETION_POINTER_WRITE (R318). -/
def execCompletionPointerWrite (r : Requester) (q : Fin 8192) (w : BitVec 32) (s : State) : Host.Outcome State Fault Refusal :=
  .next (s.regAccess r (s.qreg q 0x040) w)

/-- QUEUE_TIMEOUT (R321). -/
def execQueueTimeout (q : Fin 8192) (s : State) : Host.Outcome State Fault Refusal := .next (s.queueTimeout q)

/-- STREAM_FLUSH_TIMEOUT (R311). -/
def execStreamFlushTimeout (q : Fin 8192) (s : State) : Host.Outcome State Fault Refusal := .next (s.streamFlush q)

/-- QUEUE_ENABLE (R320). -/
def execQueueEnable (r : Requester) (q : Fin 8192) (s : State) : Host.Outcome State Fault Refusal := .next (s.regAccess r (s.qreg q 0x024) 1)

/-- QUEUE_PAUSE (R320). -/
def execQueuePause (r : Requester) (q : Fin 8192) (s : State) : Host.Outcome State Fault Refusal := .next (s.regAccess r (s.qreg q 0x024) 2)

/-- QUEUE_RESUME (R320). -/
def execQueueResume (r : Requester) (q : Fin 8192) (s : State) : Host.Outcome State Fault Refusal := .next (s.regAccess r (s.qreg q 0x024) 3)

/-- QUEUE_SKIP (R320). -/
def execQueueSkip (r : Requester) (q : Fin 8192) (s : State) : Host.Outcome State Fault Refusal := .next (s.regAccess r (s.qreg q 0x024) 4)

/-- QUEUE_RESET (R320). -/
def execQueueReset (r : Requester) (q : Fin 8192) (s : State) : Host.Outcome State Fault Refusal := .next (s.regAccess r (s.qreg q 0x024) 5)

/-- SET_ENABLE (R320). -/
def execSetEnable (r : Requester) (set : Fin 64) (grp : Fin 16) (s : State) : Host.Outcome State Fault Refusal := .next (s.setAccess r set 1 grp)

/-- SET_PAUSE (R320). -/
def execSetPause (r : Requester) (set : Fin 64) (grp : Fin 16) (s : State) : Host.Outcome State Fault Refusal := .next (s.setAccess r set 2 grp)

/-- SET_RESUME (R320). -/
def execSetResume (r : Requester) (set : Fin 64) (grp : Fin 16) (s : State) : Host.Outcome State Fault Refusal := .next (s.setAccess r set 3 grp)

/-- SET_RESET (R320). -/
def execSetReset (r : Requester) (set : Fin 64) (grp : Fin 16) (s : State) : Host.Outcome State Fault Refusal := .next (s.setAccess r set 4 grp)

/-- SET_KICK (R317). -/
def execSetKick (r : Requester) (set : Fin 64) (grp : Fin 16) (s : State) : Host.Outcome State Fault Refusal := .next (s.setAccess r set 5 grp)

end Sys2Proof.Machine
end

