-- ==== Sys2Proof/Machine/CmdPads.lean ====
section
/-!
DEFINITION. Meanings of the commands: pads and crossbar (R142 to R167).
-/
namespace Sys2Proof.Machine

/-- PAD_FUNCTION_WRITE (R155). -/
def execPadFunctionWrite (r : Requester) (die : Fin 4) (pin : Fin 240) (w : BitVec 32) (s : State) : Host.Outcome State Fault Refusal :=
  .next (s.regAccess r (Reg.PAD_FUNC die pin) w)

/-- CHANGEOVER_END (R154). -/
def execChangeoverEnd (die : Fin 4) (pin : Fin 240) (s : State) : Host.Outcome State Fault Refusal := .next (s.settlePad die pin)

/-- CROSSBAR_SOURCE_WRITE (R149). -/
def execCrossbarSourceWrite (r : Requester) (die : Fin 4) (pin : Fin 240) (w : BitVec 32) (s : State) : Host.Outcome State Fault Refusal :=
  .next (s.regAccess r (Reg.XBAR_SRC die pin) w)

/-- CROSSBAR_INPUT_WRITE (R150). -/
def execCrossbarInputWrite (r : Requester) (die : Fin 4) (pin : Fin 240) (w : BitVec 32) (s : State) : Host.Outcome State Fault Refusal :=
  .next (s.regAccess r (Reg.XBAR_IN die pin) w)

/-- PAD_LOCK_TAG1 (R165). -/
def execPadLockTag1 (r : Requester) (die : Fin 4) (pin : Fin 256) (s : State) : Host.Outcome State Fault Refusal :=
  .next (s.regAccess r (Reg.PAD_LOCK die) (BitVec.ofNat 32 (pin + 0x4C000000)))

/-- PAD_LOCK_TAG2 (R165). -/
def execPadLockTag2 (r : Requester) (die : Fin 4) (pin : Fin 256) (s : State) : Host.Outcome State Fault Refusal :=
  .next (s.regAccess r (Reg.PAD_LOCK die) (BitVec.ofNat 32 (pin + 0xB3000000)))

/-- PAD_LOCK_READ (R167). -/
def execPadLockRead (r : Requester) (die : Fin 4) (s : State) : Host.Outcome State Fault Refusal := .next (s.regFetch r (Reg.PAD_LOCK die))

/-- PAD_SNAPSHOT_READ (R160). -/
def execPadSnapshotRead (r : Requester) (die : Fin 4) (s : State) : Host.Outcome State Fault Refusal := .next (s.regFetch r (Reg.PAD_SNAP die 0))

/-- ADC_CONVERSION (R159). -/
def execAdcConversion (die : Fin 4) (code : BitVec 12) (s : State) : Host.Outcome State Fault Refusal := .next (s.adcConvert die code.toNat)

end Sys2Proof.Machine
end

