-- ==== Sys2Proof/Machine/CmdPower.lean ====
section
/-!
DEFINITION. Meanings of the commands: power domains and the governor (R274 to R299).
-/
namespace Sys2Proof.Machine

/-- DOMAIN_RUN_ENABLE (R277). -/
def execDomainRunEnable (r : Requester) (g : Fin 165) (w : BitVec 32) (s : State) : Host.Outcome State Fault Refusal :=
  .next (s.regAccess r (domCtlKey g) w)

/-- DOMAIN_FORCE (R277). -/
def execDomainForce (r : Requester) (g : Fin 165) (w : BitVec 32) (s : State) : Host.Outcome State Fault Refusal :=
  .next (s.regAccess r (domCtlKey g) w)

/-- AUTO_SLEEP (R277). -/
def execAutoSleep (g : Fin 165) (work : Bool) (s : State) : Host.Outcome State Fault Refusal := .next (s.autoSleep g work)

/-- AUTO_DEEP_SLEEP (R277). -/
def execAutoDeepSleep (g : Fin 165) (work : Bool) (s : State) : Host.Outcome State Fault Refusal := .next (s.autoDeepSleep g work)

/-- DOMAIN_WAKE (R277). -/
def execDomainWake (g : Fin 165) (pb : Bool) (s : State) : Host.Outcome State Fault Refusal := .next (s.wakeDom g pb)

/-- ISLAND_LEVEL_SETTLED (R274). -/
def execIslandLevelSettled (j : Fin 92) (s : State) : Host.Outcome State Fault Refusal := .next (s.islandSettled j)

/-- DEEP_SLEEP (R279). -/
def execDeepSleep (r : Requester) (s : State) : Host.Outcome State Fault Refusal := .next (s.regAccess r Reg.GOV_CMD 1)

/-- DEVICE_WAKE (R279). -/
def execDeviceWake (s : State) : Host.Outcome State Fault Refusal := .next s.deviceWake

/-- CREDIT_WINDOW (R283). -/
def execCreditWindow (isl : List (Nat × Nat)) (temps : List Nat) (s : State) : Host.Outcome State Fault Refusal := .next (s.creditWindow isl temps)

/-- CHUNK_GRANT (R284). -/
def execChunkGrant (purse : Fin 5) (s : State) : Host.Outcome State Fault Refusal := .next (s.grantChunk purse)

/-- WORK_ADMISSION (R287). -/
def execWorkAdmission (w : Work) (s : State) : Host.Outcome State Fault Refusal := .next (s.admitWork w)

/-- THERMAL_TRIP (R291). -/
def execThermalTrip (s : State) : Host.Outcome State Fault Refusal := .next s.thermalTrip

/-- PMBUS_POLL (R293). -/
def execPmbusPoll (replies : List (Nat × Nat)) (s : State) : Host.Outcome State Fault Refusal := .next (s.poll replies)

/-- PMBUS_ALERT (R293). -/
def execPmbusAlert (replies : List (Nat × Nat)) (s : State) : Host.Outcome State Fault Refusal := .next (s.pmbAlert replies)

/-- PMBUS_TIMEOUT (R295). -/
def execPmbusTimeout (dev : Fin 9) (reply : Option Nat) (s : State) : Host.Outcome State Fault Refusal := .next (s.pmbTimeout dev reply)

/-- ISLAND_FAULT (R297). -/
def execIslandFault (j : Fin 92) (s : State) : Host.Outcome State Fault Refusal := .next ((s.islandFault j).lateMissing)

end Sys2Proof.Machine
end

