-- ==== Sys2Proof/Machine/CmdProtection.lean ====
section
/-!
DEFINITION. Meanings of the commands: memory protection engines (R351 to R380).
-/
namespace Sys2Proof.Machine

/-- PROTECTED_READ (R358). -/
def execProtectedRead (addr : Nat) (c : Consumer) (f : Fetch) (s : State) : Host.Outcome State Fault Refusal :=
  .next (s.protectedAccess (s.protectedRead addr c f))

/-- PROTECTED_WRITE (R357). -/
def execProtectedWrite (addr : Nat) (bytes : List (BitVec 8)) (poison : Bool) (c : Consumer) (f : Fetch) (s : State) : Host.Outcome State Fault Refusal :=
  .next (s.protectedAccess (s.protectedWrite addr bytes poison c f))

/-- REENCRYPTION_COMPLETE (R362). -/
def execReencryptionComplete (e : Fin 6) (s : State) : Host.Outcome State Fault Refusal := .next (s.reencrypted e)

/-- SPECULATIVE_CHECK (R368). -/
def execSpeculativeCheck (e : Fin 6) (s : State) : Host.Outcome State Fault Refusal := .next (s.specCheck e)

/-- SUBTREE_REINIT (R374). -/
def execSubtreeReinit (r : Requester) (e : Fin 6) (n : Fin 64) (s : State) : Host.Outcome State Fault Refusal :=
  .next (s.regAccess r (Reg.MPE_REINIT e) (BitVec.ofNat 32 (n + 0x80000000)))

/-- SUBTREE_REINIT_COMPLETE (R374). -/
def execSubtreeReinitComplete (e : Fin 6) (s : State) : Host.Outcome State Fault Refusal := .next (s.reinitDone e)

/-- KEY_RETIREMENT (R376). -/
def execKeyRetirement (r : Requester) (kid : Fin 64) (s : State) : Host.Outcome State Fault Refusal :=
  .next (s.regAccess r Reg.MPE_RETIRE (BitVec.ofNat 32 (kid + 0x80000000)))

/-- RETIREMENT_COMPLETE (R376). -/
def execRetirementComplete (s : State) : Host.Outcome State Fault Refusal := .next s.retireDone

/-- TREE_INITIALISATION (R361). -/
def execTreeInitialisation (e : Fin 6) (s : State) : Host.Outcome State Fault Refusal := .next (s.treeInit e)

/-- TREE_INITIALISATION_COMPLETE (R361). -/
def execTreeInitialisationComplete (e : Fin 6) (s : State) : Host.Outcome State Fault Refusal :=
  .next ((s.treeInitDone e).setBoot (fun b => { b with trees := b.trees.set e true false }))

/-- ALARM_LOG_HEAD_READ (R369). -/
def execAlarmLogHeadRead (r : Requester) (e : Fin 6) (s : State) : Host.Outcome State Fault Refusal := .next (s.regFetch r (Reg.MPE_ALM0 e))

/-- REGION_ENTRY_WRITE (R363). -/
def execRegionEntryWrite (r : Requester) (n : Fin 256) (w : BitVec 32) (s : State) : Host.Outcome State Fault Refusal :=
  .next (s.regAccess r (Reg.MPE_RGN_CTL (0x100 + n)) w)

end Sys2Proof.Machine
end

