-- ==== Sys2Proof/Machine/CmdSerial.lean ====
section
/-!
DEFINITION. Meanings of the commands: transceivers and Phase Link (R381 to R413).
-/
namespace Sys2Proof.Machine

/-- LANE_ENABLE (R392). -/
def execLaneEnable (r : Requester) (die : Fin 4) (l : Fin 16) (w : BitVec 32) (s : State) : Host.Outcome State Fault Refusal :=
  .next (s.regAccess r (Reg.XCVR_LCTL die l) (w ||| 1))

/-- CALIBRATION_DONE (R392). -/
def execCalibrationDone (die : Fin 4) (l : Fin 16) (s : State) : Host.Outcome State Fault Refusal := .next (s.laneCalibrated die l)

/-- CDR_LOCK (R392). -/
def execCdrLock (die : Fin 4) (l : Fin 16) (late : Bool) (s : State) : Host.Outcome State Fault Refusal := .next (s.cdrLock die l late)

/-- CDR_TIMEOUT (R392). -/
def execCdrTimeout (die : Fin 4) (l : Fin 16) (s : State) : Host.Outcome State Fault Refusal := .next (s.cdrTimeout die l)

/-- ADAPTATION_DONE (R392). -/
def execAdaptationDone (die : Fin 4) (l : Fin 16) (eq : List (BitVec 32)) (late : Bool) (s : State) : Host.Outcome State Fault Refusal :=
  .next (s.adapted die l eq late)

/-- ADAPT_FAIL (R392). -/
def execAdaptFail (die : Fin 4) (l : Fin 16) (s : State) : Host.Outcome State Fault Refusal := .next (s.adaptFail die l)

/-- LOSS_OF_LOCK (R392). -/
def execLossOfLock (die : Fin 4) (l : Fin 16) (s : State) : Host.Outcome State Fault Refusal := .next (s.lossOfLock die l)

/-- LANE_PLL_UNLOCK (R392). -/
def execLanePllUnlock (die : Fin 4) (q : Fin 4) (b : Bool) (s : State) : Host.Outcome State Fault Refusal := .next (s.pllUnlock die q b)

/-- BLOCK_LOCK_LOSS (R389). -/
def execBlockLockLoss (die : Fin 4) (l : Fin 16) (s : State) : Host.Outcome State Fault Refusal := .next (s.blockLock die l false)

/-- RECAL (R394). -/
def execRecal (r : Requester) (die : Fin 4) (l : Fin 16) (s : State) : Host.Outcome State Fault Refusal :=
  .next (s.regAccess r (Reg.XCVR_LCMD die l) 1)

/-- SLIP (R390). -/
def execSlip (r : Requester) (die : Fin 4) (l : Fin 16) (s : State) : Host.Outcome State Fault Refusal :=
  .next (s.regAccess r (Reg.XCVR_LCMD die l) 2)

/-- PRBS_CLEAR (R391). -/
def execPrbsClear (r : Requester) (die : Fin 4) (l : Fin 16) (s : State) : Host.Outcome State Fault Refusal :=
  .next (s.regAccess r (Reg.XCVR_LCMD die l) 4)

/-- LOOPBACK_SELECT (R391). -/
def execLoopbackSelect (r : Requester) (die : Fin 4) (l : Fin 16) (path : Fin 8) (s : State) : Host.Outcome State Fault Refusal :=
  .next (s.regAccess r (Reg.XCVR_LCTL die l) (wset (s.rd (Reg.XCVR_LCTL die l)) 15 3 path))

/-- TX_EQUALISER_WRITE (R385). -/
def execTxEqualiserWrite (r : Requester) (die : Fin 4) (l : Fin 16) (w : BitVec 32) (s : State) : Host.Outcome State Fault Refusal :=
  .next (s.regAccess r (Reg.XCVR_TXEQ die l) w)

/-- EYE_SCAN (R388). -/
def execEyeScan (r : Requester) (die : Fin 4) (l : Fin 16) (w : BitVec 32) (s : State) : Host.Outcome State Fault Refusal :=
  .next (s.regAccess r (Reg.XCVR_ESCAN die l) (w ||| 0x80000000))

/-- EYE_SCAN_DONE (R388). -/
def execEyeScanDone (die : Fin 4) (l : Fin 16) (errors : Nat) (s : State) : Host.Outcome State Fault Refusal := .next (s.eyeScanDone die l errors)

/-- EFOM_MEASUREMENT (R387). -/
def execEfomMeasurement (die : Fin 4) (l : Fin 16) (efom : Nat) (eq : List (BitVec 32)) (errors : Nat) (s : State) : Host.Outcome State Fault Refusal :=
  .next (s.efomMeasured die l efom eq errors)

/-- PORT_ENABLE (R399). -/
def execPortEnable (r : Requester) (p : Fin 4) (w : BitVec 32) (s : State) : Host.Outcome State Fault Refusal :=
  .next (s.regAccess r (Reg.PL_PCTL p) (w ||| 1))

/-- PORT_DISABLE (R409). -/
def execPortDisable (r : Requester) (p : Fin 4) (w : BitVec 32) (s : State) : Host.Outcome State Fault Refusal :=
  .next (s.regAccess r (Reg.PL_PCTL p) (wsetBit w 0 false))

/-- FRAME_TRANSMIT (R400). -/
def execFrameTransmit (p : Fin 4) (k : Nat) (s : State) : Host.Outcome State Fault Refusal := .next (s.frameTransmit p k)

/-- FRAME_RECEIVE (R402). -/
def execFrameReceive (p : Fin 4) (k : Nat) (f : Frame) (crcOk : Bool) (ppm : Int) (late : Bool) (s : State) : Host.Outcome State Fault Refusal :=
  .next (s.frameReceive p k f crcOk ppm late)

/-- EVENT_MESSAGE_SEND (R403). -/
def execEventMessageSend (r : Requester) (p : Fin 4) (msg : BitVec 16) (s : State) : Host.Outcome State Fault Refusal :=
  .next (s.regAccess r (Reg.PL_EVTX p) (msg.setWidth 32))

/-- EVENT_HEAD_READ (R403). -/
def execEventHeadRead (r : Requester) (s : State) : Host.Outcome State Fault Refusal := .next (s.regFetch r Reg.PL_EVRX0)

/-- UPSTREAM_LOSS (R405). -/
def execUpstreamLoss (s : State) : Host.Outcome State Fault Refusal := .next s.upstreamLost

/-- FREQUENCY_ERROR (R407). -/
def execFrequencyError (s : State) : Host.Outcome State Fault Refusal := .next s.frequencyError

end Sys2Proof.Machine
end

