-- ==== Sys2Proof/Machine/CmdSpine.lean ====
section
/-!
DEFINITION. Meanings of the commands: phase domains and the spine (R47 to R74).
-/
namespace Sys2Proof.Machine

/-- QUAD_COUNT (R54). -/
def execQuadCount (dom : Fin 16) (k : Nat) (rev : Bool) (width : Nat) (s : State) : Host.Outcome State Fault Refusal :=
  .next (if s.domTakes 0 dom width then s.quadCount dom k rev else s)

/-- QUALIFIED_Z (R54). -/
def execQualifiedZ (dom : Fin 16) (k : Nat) (width : Nat) (s : State) : Host.Outcome State Fault Refusal :=
  .next (if s.domTakes 0 dom width then s.qualifiedZ dom k else s)

/-- TOOTH_EDGE (R55). -/
def execToothEdge (dom : Fin 16) (k : Nat) (width : Nat) (s : State) : Host.Outcome State Fault Refusal :=
  .next (if s.domTakes 1 dom width then s.toothEdge dom k else s)

/-- PULSE_EDGE (R56). -/
def execPulseEdge (dom : Fin 16) (k : Nat) (width : Nat) (s : State) : Host.Outcome State Fault Refusal :=
  .next (if s.domTakes 2 dom width then s.pulseEdge dom k else s)

/-- RESOLVER_SAMPLE (R57). -/
def execResolverSample (dom : Fin 16) (k : Nat) (angle : BitVec 32) (err : BitVec 32) (lowAmp : Bool) (s : State) : Host.Outcome State Fault Refusal :=
  .next (if s.ticking && s.domSrc dom == 3 then s.resolverSample dom k angle err lowAmp else s)

/-- FABRIC_INCREMENT (R60). -/
def execFabricIncrement (rg : Fin 64) (inc : BitVec 32) (s : State) : Host.Outcome State Fault Refusal :=
  .next (if s.ticking then s.presentIncrement rg inc else s)

/-- STALL_TIMEOUT (R70). -/
def execStallTimeout (dom : Fin 16) (s : State) : Host.Outcome State Fault Refusal := .next (s.stallTimeout dom)

/-- HOLDOVER_TIMEOUT (R68). -/
def execHoldoverTimeout (dom : Fin 16) (s : State) : Host.Outcome State Fault Refusal := .next (s.holdoverTimeout dom)

/-- LINK_FRAME_LOSS (R68). -/
def execLinkFrameLoss (dom : Fin 16) (s : State) : Host.Outcome State Fault Refusal := .next (s.linkLoss dom)

/-- DOMAIN_ENABLE (R71). -/
def execDomainEnable (r : Requester) (dom : Fin 16) (s : State) : Host.Outcome State Fault Refusal := .next (s.regAccess r (Reg.DOM_CMD dom) 1)

/-- DOMAIN_DISABLE (R71). -/
def execDomainDisable (r : Requester) (dom : Fin 16) (s : State) : Host.Outcome State Fault Refusal := .next (s.regAccess r (Reg.DOM_CMD dom) 2)

/-- DOMAIN_REACQUIRE (R71). -/
def execDomainReacquire (r : Requester) (dom : Fin 16) (s : State) : Host.Outcome State Fault Refusal := .next (s.regAccess r (Reg.DOM_CMD dom) 3)

/-- DOMAIN_FREEZE (R71). -/
def execDomainFreeze (r : Requester) (dom : Fin 16) (s : State) : Host.Outcome State Fault Refusal := .next (s.regAccess r (Reg.DOM_CMD dom) 4)

/-- DOMAIN_UNFREEZE (R71). -/
def execDomainUnfreeze (r : Requester) (dom : Fin 16) (s : State) : Host.Outcome State Fault Refusal := .next (s.regAccess r (Reg.DOM_CMD dom) 5)

/-- VELOCITY_WRITE (R59). -/
def execVelocityWrite (r : Requester) (dom : Fin 16) (d : BitVec 64) (s : State) : Host.Outcome State Fault Refusal :=
  .next (s.pairAccess r (Reg.DOM_VEL_LO dom) (Reg.DOM_VEL_HI dom) d)

/-- ACCELERATION_WRITE (R59). -/
def execAccelerationWrite (r : Requester) (dom : Fin 16) (d : BitVec 64) (s : State) : Host.Outcome State Fault Refusal :=
  .next (s.pairAccess r (Reg.DOM_ACC_LO dom) (Reg.DOM_ACC_HI dom) d)

/-- PHASE_LOAD (R73). -/
def execPhaseLoad (r : Requester) (dom : Fin 16) (d : BitVec 64) (s : State) : Host.Outcome State Fault Refusal :=
  .next (s.pairAccess r (Reg.DOM_LOAD_LO dom) (Reg.DOM_LOAD_HI dom) d)

/-- SPINE_RECALIBRATE (R50). -/
def execSpineRecalibrate (r : Requester) (die : Fin 4) (s : State) : Host.Outcome State Fault Refusal := .next (s.regAccess r (Reg.SRX_CTL die) 1)

end Sys2Proof.Machine
end

