-- ==== Sys2Proof/Machine/CmdStartup.lean ====
section
/-!
DEFINITION. Meanings of the commands: start-up and configuration (R436 to R463).
-/
namespace Sys2Proof.Machine

/-- DIRECTORY_READ (R440). -/
def execDirectoryRead (c0 : Option Directory) (c1 : Option Directory) (s : State) : Host.Outcome State Fault Refusal := .next (s.directoryRead c0 c1)

/-- IMAGE_HEADER_READ (R443). -/
def execImageHeaderRead (h : Header) (s : State) : Host.Outcome State Fault Refusal := .next (s.headerRead h)

/-- SEGMENT_RECEIVE (R449). -/
def execSegmentReceive (g : SegIn) (s : State) : Host.Outcome State Fault Refusal := .next (s.segmentReceive g)

/-- SEGMENT_TIMEOUT (R458). -/
def execSegmentTimeout (s : State) : Host.Outcome State Fault Refusal := .next s.segmentTimeout

/-- DONE_RELEASE (R452). -/
def execDoneRelease (fits : List Bool) (s : State) : Host.Outcome State Fault Refusal := .next (s.doneRelease fits)

/-- JTAG_CONFIGURATION (R462). -/
def execJtagConfiguration (h : Header) (s : State) : Host.Outcome State Fault Refusal := .next (s.jtagImage h)

/-- NVM_COMMAND (R463). -/
def execNvmCommand (r : Requester) (w : BitVec 32) (s : State) : Host.Outcome State Fault Refusal :=
  .next (s.regAccess r Reg.CFG_NVMCMD (w ||| 0x80000000))

/-- NVM_COMMAND_COMPLETE (R463). -/
def execNvmCommandComplete (data : List (BitVec 8)) (s : State) : Host.Outcome State Fault Refusal := .next (s.nvmComplete data)

end Sys2Proof.Machine
end

