-- ==== Sys2Proof/Machine/CmdTio.lean ====
section
/-!
DEFINITION. Meanings of the commands: timed I/O (R108 to R141).
-/
namespace Sys2Proof.Machine

/-- TIO_MODE_CHANGE (R111). -/
def execTioModeChange (r : Requester) (die : Fin 4) (pin : Fin 240) (w : BitVec 32) (s : State) : Host.Outcome State Fault Refusal :=
  .next (s.regAccess r (Reg.TIO_CTL die pin) w)

/-- INPUT_EDGE (R117). -/
def execInputEdge (die : Fin 4) (pin : Fin 240) (k : Nat) (level : Bool) (width : Nat) (s : State) : Host.Outcome State Fault Refusal :=
  .next (s.inputEdge die pin k level width)

/-- MEASUREMENT_TIMEOUT (R120). -/
def execMeasurementTimeout (die : Fin 4) (pin : Fin 240) (s : State) : Host.Outcome State Fault Refusal :=
  .next (s.measureTimeout die pin (s.unit die pin).input (s.padTransitions die pin))

/-- OUTPUT_FIFO_WRITE (R121). -/
def execOutputFifoWrite (r : Requester) (die : Fin 4) (pin : Fin 240) (d : BitVec 64) (s : State) : Host.Outcome State Fault Refusal :=
  .next (s.pairAccess r (Reg.TIO_OUT_LO die pin) (Reg.TIO_OUT_HI die pin) d)

/-- OUTPUT_FIFO_RELEASE (R122). -/
def execOutputFifoRelease (die : Fin 4) (pin : Fin 240) (s : State) : Host.Outcome State Fault Refusal :=
  .next (if (s.unit die pin).mode = 3 then s.driveTick die pin [] (s.unitFrozen die pin) else s)

/-- OUTPUT_FIFO_FLUSH (R137). -/
def execOutputFifoFlush (r : Requester) (die : Fin 4) (pin : Fin 240) (s : State) : Host.Outcome State Fault Refusal :=
  .next (s.regAccess r (Reg.TIO_OFLUSH die pin) 1)

/-- CAPTURE_HEAD_READ (R112). -/
def execCaptureHeadRead (r : Requester) (die : Fin 4) (pin : Fin 240) (s : State) : Host.Outcome State Fault Refusal :=
  .next (s.regFetch r (Reg.TIO_CAP0 die pin))

/-- CAPTURE_POP (R112). -/
def execCapturePop (r : Requester) (die : Fin 4) (pin : Fin 240) (s : State) : Host.Outcome State Fault Refusal :=
  .next (s.regFetch r (Reg.TIO_CAP3 die pin))

/-- RECORD_DRAIN (R138). -/
def execRecordDrain (die : Fin 4) (pin : Fin 240) (s : State) : Host.Outcome State Fault Refusal := .next (s.recordDrain die pin)

/-- PWM_UPDATE (R128). -/
def execPwmUpdate (r : Requester) (die : Fin 4) (pin : Fin 240) (s : State) : Host.Outcome State Fault Refusal :=
  .next (s.regAccess r (Reg.TIO_PW_UPD die pin) 1)

/-- PWM_SHADOW_MOVE (R128). -/
def execPwmShadowMove (die : Fin 4) (pin : Fin 240) (k : Nat) (s : State) : Host.Outcome State Fault Refusal := .next (s.pwmShadowMove die pin k)

/-- ENCODER_COUNT_STEP (R130). -/
def execEncoderCountStep (die : Fin 4) (pin : Fin 240) (k : Nat) (s : State) : Host.Outcome State Fault Refusal :=
  .next (if (s.unit die pin).mode = 6 then s.encStep die pin k else s)

/-- EMULATION_OFFSET_WRITE (R132). -/
def execEmulationOffsetWrite (r : Requester) (die : Fin 4) (pin : Fin 240) (w : BitVec 32) (s : State) : Host.Outcome State Fault Refusal :=
  .next (s.regAccess r (Reg.TIO_EMU_OFS die pin) w)

/-- PATTERN_WRITE (R134). -/
def execPatternWrite (r : Requester) (die : Fin 4) (n : Fin 128) (w : BitVec 32) (s : State) : Host.Outcome State Fault Refusal :=
  .next (s.regAccess r (Reg.TIO_PAT die n) w)

end Sys2Proof.Machine
end

