-- ==== Sys2Proof/Machine/Dispatch.lean ====
section
/-!
DEFINITION. One arm per command.
-/
namespace Sys2Proof.Machine

def exec (i : Instr) (s : State) : Host.Outcome State Fault Refusal :=
  match i with
  | .spineTick missed => Sys2Proof.Machine.execSpineTick missed s
  | .registerWrite r addr size w => Sys2Proof.Machine.execRegisterWrite r addr size w s
  | .pairLoWrite r addr w => Sys2Proof.Machine.execPairLoWrite r addr w s
  | .pairHiWrite r addr w => Sys2Proof.Machine.execPairHiWrite r addr w s
  | .pairLoRead r addr => Sys2Proof.Machine.execPairLoRead r addr s
  | .pairHiRead r addr => Sys2Proof.Machine.execPairHiRead r addr s
  | .readClear r addr size => Sys2Proof.Machine.execReadClear r addr size s
  | .readPop r addr => Sys2Proof.Machine.execReadPop r addr s
  | .capabilityDescriptor die m d => Sys2Proof.Machine.execCapabilityDescriptor die m d s
  | .moduleUp m late => Sys2Proof.Machine.execModuleUp m late s
  | .trainingTimeout m => Sys2Proof.Machine.execTrainingTimeout m s
  | .moduleRetrain r die m w => Sys2Proof.Machine.execModuleRetrain r die m w s
  | .moduleDownLost m => Sys2Proof.Machine.execModuleDownLost m s
  | .dieLoss die => Sys2Proof.Machine.execDieLoss die s
  | .failoverSwitch => Sys2Proof.Machine.execFailoverSwitch s
  | .dieRejoin die => Sys2Proof.Machine.execDieRejoin die s
  | .dieReady die => Sys2Proof.Machine.execDieReady die s
  | .cdReset => Sys2Proof.Machine.execCdReset s
  | .lockstepDisagreement pair => Sys2Proof.Machine.execLockstepDisagreement pair s
  | .coreStart r w => Sys2Proof.Machine.execCoreStart r w s
  | .mbxPush r n msg => Sys2Proof.Machine.execMbxPush r n msg s
  | .mbxPop r n => Sys2Proof.Machine.execMbxPop r n s
  | .mailboxDisable r n w => Sys2Proof.Machine.execMailboxDisable r n w s
  | .userModeEntry us => Sys2Proof.Machine.execUserModeEntry us s
  | .quadCount dom k rev width => Sys2Proof.Machine.execQuadCount dom k rev width s
  | .qualifiedZ dom k width => Sys2Proof.Machine.execQualifiedZ dom k width s
  | .toothEdge dom k width => Sys2Proof.Machine.execToothEdge dom k width s
  | .pulseEdge dom k width => Sys2Proof.Machine.execPulseEdge dom k width s
  | .resolverSample dom k angle err lowAmp => Sys2Proof.Machine.execResolverSample dom k angle err lowAmp s
  | .fabricIncrement rg inc => Sys2Proof.Machine.execFabricIncrement rg inc s
  | .stallTimeout dom => Sys2Proof.Machine.execStallTimeout dom s
  | .holdoverTimeout dom => Sys2Proof.Machine.execHoldoverTimeout dom s
  | .linkFrameLoss dom => Sys2Proof.Machine.execLinkFrameLoss dom s
  | .domainEnable r dom => Sys2Proof.Machine.execDomainEnable r dom s
  | .domainDisable r dom => Sys2Proof.Machine.execDomainDisable r dom s
  | .domainReacquire r dom => Sys2Proof.Machine.execDomainReacquire r dom s
  | .domainFreeze r dom => Sys2Proof.Machine.execDomainFreeze r dom s
  | .domainUnfreeze r dom => Sys2Proof.Machine.execDomainUnfreeze r dom s
  | .velocityWrite r dom d => Sys2Proof.Machine.execVelocityWrite r dom d s
  | .accelerationWrite r dom d => Sys2Proof.Machine.execAccelerationWrite r dom d s
  | .phaseLoad r dom d => Sys2Proof.Machine.execPhaseLoad r dom d s
  | .spineRecalibrate r die => Sys2Proof.Machine.execSpineRecalibrate r die s
  | .calendarActionDelivery => Sys2Proof.Machine.execCalendarActionDelivery s
  | .pulseEnd die direct n => Sys2Proof.Machine.execPulseEnd die direct n s
  | .windowClose die pin => Sys2Proof.Machine.execWindowClose die pin s
  | .entryWrite r die entry word w => Sys2Proof.Machine.execEntryWrite r die entry word w s
  | .entryArm r die entry w => Sys2Proof.Machine.execEntryArm r die entry w s
  | .entryRead r die entry => Sys2Proof.Machine.execEntryRead r die entry s
  | .stagedWrite r die entry => Sys2Proof.Machine.execStagedWrite r die entry s
  | .stagedRead r die entry => Sys2Proof.Machine.execStagedRead r die entry s
  | .groupArm r die grp timed => Sys2Proof.Machine.execGroupArm r die grp timed s
  | .groupDisarm r die grp timed => Sys2Proof.Machine.execGroupDisarm r die grp timed s
  | .groupShift r die grp timed => Sys2Proof.Machine.execGroupShift r die grp timed s
  | .calendarEnable r die w => Sys2Proof.Machine.execCalendarEnable r die w s
  | .tioModeChange r die pin w => Sys2Proof.Machine.execTioModeChange r die pin w s
  | .inputEdge die pin k level width => Sys2Proof.Machine.execInputEdge die pin k level width s
  | .measurementTimeout die pin => Sys2Proof.Machine.execMeasurementTimeout die pin s
  | .outputFifoWrite r die pin d => Sys2Proof.Machine.execOutputFifoWrite r die pin d s
  | .outputFifoRelease die pin => Sys2Proof.Machine.execOutputFifoRelease die pin s
  | .outputFifoFlush r die pin => Sys2Proof.Machine.execOutputFifoFlush r die pin s
  | .captureHeadRead r die pin => Sys2Proof.Machine.execCaptureHeadRead r die pin s
  | .capturePop r die pin => Sys2Proof.Machine.execCapturePop r die pin s
  | .recordDrain die pin => Sys2Proof.Machine.execRecordDrain die pin s
  | .pwmUpdate r die pin => Sys2Proof.Machine.execPwmUpdate r die pin s
  | .pwmShadowMove die pin k => Sys2Proof.Machine.execPwmShadowMove die pin k s
  | .encoderCountStep die pin k => Sys2Proof.Machine.execEncoderCountStep die pin k s
  | .emulationOffsetWrite r die pin w => Sys2Proof.Machine.execEmulationOffsetWrite r die pin w s
  | .patternWrite r die n w => Sys2Proof.Machine.execPatternWrite r die n w s
  | .padFunctionWrite r die pin w => Sys2Proof.Machine.execPadFunctionWrite r die pin w s
  | .changeoverEnd die pin => Sys2Proof.Machine.execChangeoverEnd die pin s
  | .crossbarSourceWrite r die pin w => Sys2Proof.Machine.execCrossbarSourceWrite r die pin w s
  | .crossbarInputWrite r die pin w => Sys2Proof.Machine.execCrossbarInputWrite r die pin w s
  | .padLockTag1 r die pin => Sys2Proof.Machine.execPadLockTag1 r die pin s
  | .padLockTag2 r die pin => Sys2Proof.Machine.execPadLockTag2 r die pin s
  | .padLockRead r die => Sys2Proof.Machine.execPadLockRead r die s
  | .padSnapshotRead r die => Sys2Proof.Machine.execPadSnapshotRead r die s
  | .adcConversion die code => Sys2Proof.Machine.execAdcConversion die code s
  | .initialValueRestore r die mask => Sys2Proof.Machine.execInitialValueRestore r die mask s
  | .restoreComplete die => Sys2Proof.Machine.execRestoreComplete die s
  | .crossingFifoWrite die rg m width data crossed => Sys2Proof.Machine.execCrossingFifoWrite die rg m width data crossed s
  | .crossingFifoRead die rg m crossed => Sys2Proof.Machine.execCrossingFifoRead die rg m crossed s
  | .crossingFifoReset die rg m e => Sys2Proof.Machine.execCrossingFifoReset die rg m e s
  | .blockMemoryAccess die rg m ecc same a b => Sys2Proof.Machine.execBlockMemoryAccess die rg m ecc same a b s
  | .macOperation die rg slice o => Sys2Proof.Machine.execMacOperation die rg slice o s
  | .loupeGo r die prof => Sys2Proof.Machine.execLoupeGo r die prof s
  | .loupeCaptureEdge die k late => Sys2Proof.Machine.execLoupeCaptureEdge die k late s
  | .loupeCaptureTimeout die => Sys2Proof.Machine.execLoupeCaptureTimeout die s
  | .loupeRelease r die => Sys2Proof.Machine.execLoupeRelease r die s
  | .loupeQueueReadout r die => Sys2Proof.Machine.execLoupeQueueReadout r die s
  | .readoutComplete die => Sys2Proof.Machine.execReadoutComplete die s
  | .taskRequest die rg task param => Sys2Proof.Machine.execTaskRequest die rg task param s
  | .fdspReq r die rg w => Sys2Proof.Machine.execFdspReq r die rg w s
  | .dispatchAssign die rg => Sys2Proof.Machine.execDispatchAssign die rg s
  | .deadlineExpiry die rg waiting n => Sys2Proof.Machine.execDeadlineExpiry die rg waiting n s
  | .urgentAccept die p => Sys2Proof.Machine.execUrgentAccept die p s
  | .facetHaltAccept die p => Sys2Proof.Machine.execFacetHaltAccept die p s
  | .taskWatchdogExpiry die p => Sys2Proof.Machine.execTaskWatchdogExpiry die p s
  | .facetAbort r die p => Sys2Proof.Machine.execFacetAbort r die p s
  | .facetReset r die p => Sys2Proof.Machine.execFacetReset r die p s
  | .facetUrgent r die p code => Sys2Proof.Machine.execFacetUrgent r die p code s
  | .facetEnable r die p w => Sys2Proof.Machine.execFacetEnable r die p w s
  | .fdspRemap r die rg w => Sys2Proof.Machine.execFdspRemap r die rg w s
  | .remapComplete die rg => Sys2Proof.Machine.execRemapComplete die rg s
  | .viewBankAccess r die p bankB n w => Sys2Proof.Machine.execViewBankAccess r die p bankB n w s
  | .programBundleWrite r die p n w => Sys2Proof.Machine.execProgramBundleWrite r die p n w s
  | .streamInPush die rg l port v => Sys2Proof.Machine.execStreamInPush die rg l port v s
  | .streamOutPop die rg l port => Sys2Proof.Machine.execStreamOutPop die rg l port s
  | .parBundle die x => Sys2Proof.Machine.execParBundle die x s
  | .imm die p => Sys2Proof.Machine.execImm die p s
  | .br die p => Sys2Proof.Machine.execBr die p s
  | .bri die p => Sys2Proof.Machine.execBri die p s
  | .call die p => Sys2Proof.Machine.execCall die p s
  | .calli die p => Sys2Proof.Machine.execCalli die p s
  | .ret die p => Sys2Proof.Machine.execRet die p s
  | .rtu die p => Sys2Proof.Machine.execRtu die p s
  | .wait die p => Sys2Proof.Machine.execWait die p s
  | .loop die p => Sys2Proof.Machine.execLoop die p s
  | .lpop die p => Sys2Proof.Machine.execLpop die p s
  | .rep die p => Sys2Proof.Machine.execRep die p s
  | .signal die p => Sys2Proof.Machine.execSignal die p s
  | .snop die p => Sys2Proof.Machine.execSnop die p s
  | .mrs die p => Sys2Proof.Machine.execMrs die p s
  | .srs die p => Sys2Proof.Machine.execSrs die p s
  | .mvx die p => Sys2Proof.Machine.execMvx die p s
  | .mxv die p => Sys2Proof.Machine.execMxv die p s
  | .padd die p => Sys2Proof.Machine.execPadd die p s
  | .scnt die p => Sys2Proof.Machine.execScnt die p s
  | .qkick die p => Sys2Proof.Machine.execQkick die p s
  | .qkickd die p => Sys2Proof.Machine.execQkickd die p s
  | .record die p => Sys2Proof.Machine.execRecord die p s
  | .domainRunEnable r g w => Sys2Proof.Machine.execDomainRunEnable r g w s
  | .domainForce r g w => Sys2Proof.Machine.execDomainForce r g w s
  | .autoSleep g work => Sys2Proof.Machine.execAutoSleep g work s
  | .autoDeepSleep g work => Sys2Proof.Machine.execAutoDeepSleep g work s
  | .domainWake g pb => Sys2Proof.Machine.execDomainWake g pb s
  | .islandLevelSettled j => Sys2Proof.Machine.execIslandLevelSettled j s
  | .deepSleep r => Sys2Proof.Machine.execDeepSleep r s
  | .deviceWake => Sys2Proof.Machine.execDeviceWake s
  | .creditWindow isl temps => Sys2Proof.Machine.execCreditWindow isl temps s
  | .chunkGrant purse => Sys2Proof.Machine.execChunkGrant purse s
  | .workAdmission w => Sys2Proof.Machine.execWorkAdmission w s
  | .thermalTrip => Sys2Proof.Machine.execThermalTrip s
  | .pmbusPoll replies => Sys2Proof.Machine.execPmbusPoll replies s
  | .pmbusAlert replies => Sys2Proof.Machine.execPmbusAlert replies s
  | .pmbusTimeout dev reply => Sys2Proof.Machine.execPmbusTimeout dev reply s
  | .islandFault j => Sys2Proof.Machine.execIslandFault j s
  | .packetArrival p corrected uncorrectable => Sys2Proof.Machine.execPacketArrival p corrected uncorrectable s
  | .crossingFlit die m quarter f => Sys2Proof.Machine.execCrossingFlit die m quarter f s
  | .doorbell r q w => Sys2Proof.Machine.execDoorbell r q w s
  | .qmKick r q => Sys2Proof.Machine.execQmKick r q s
  | .kickArrival q => Sys2Proof.Machine.execKickArrival q s
  | .descriptorFetchComplete q f => Sys2Proof.Machine.execDescriptorFetchComplete q f s
  | .sourceReadReturn q data poison answered fs => Sys2Proof.Machine.execSourceReadReturn q data poison answered fs s
  | .streamPush q bytes flush => Sys2Proof.Machine.execStreamPush q bytes flush s
  | .cellTransfer die => Sys2Proof.Machine.execCellTransfer die s
  | .creditReturn home ep => Sys2Proof.Machine.execCreditReturn home ep s
  | .descriptorComplete d => Sys2Proof.Machine.execDescriptorComplete d s
  | .completionPointerWrite r q w => Sys2Proof.Machine.execCompletionPointerWrite r q w s
  | .queueTimeout q => Sys2Proof.Machine.execQueueTimeout q s
  | .streamFlushTimeout q => Sys2Proof.Machine.execStreamFlushTimeout q s
  | .queueEnable r q => Sys2Proof.Machine.execQueueEnable r q s
  | .queuePause r q => Sys2Proof.Machine.execQueuePause r q s
  | .queueResume r q => Sys2Proof.Machine.execQueueResume r q s
  | .queueSkip r q => Sys2Proof.Machine.execQueueSkip r q s
  | .queueReset r q => Sys2Proof.Machine.execQueueReset r q s
  | .setEnable r set grp => Sys2Proof.Machine.execSetEnable r set grp s
  | .setPause r set grp => Sys2Proof.Machine.execSetPause r set grp s
  | .setResume r set grp => Sys2Proof.Machine.execSetResume r set grp s
  | .setReset r set grp => Sys2Proof.Machine.execSetReset r set grp s
  | .setKick r set grp => Sys2Proof.Machine.execSetKick r set grp s
  | .memoryRead addr bank row out => Sys2Proof.Machine.execMemoryRead addr bank row out s
  | .memoryWrite addr bank row prio => Sys2Proof.Machine.execMemoryWrite addr bank row prio s
  | .refresh c => Sys2Proof.Machine.execRefresh c s
  | .mr4Poll c hot => Sys2Proof.Machine.execMr4Poll c hot s
  | .activationTableClear c => Sys2Proof.Machine.execActivationTableClear c s
  | .channelTraining c => Sys2Proof.Machine.execChannelTraining c s
  | .channelTrainingComplete c eyes rfmThr => Sys2Proof.Machine.execChannelTrainingComplete c eyes rfmThr s
  | .channelInit r c w => Sys2Proof.Machine.execChannelInit r c w s
  | .ddrRetrain r c w => Sys2Proof.Machine.execDdrRetrain r c w s
  | .retrainSlot c eyes => Sys2Proof.Machine.execRetrainSlot c eyes s
  | .retrainAbort r c w => Sys2Proof.Machine.execRetrainAbort r c w s
  | .memoryTestWrite r c pat kid => Sys2Proof.Machine.execMemoryTestWrite r c pat kid s
  | .memoryTestCheck r c pat kid => Sys2Proof.Machine.execMemoryTestCheck r c pat kid s
  | .memoryTestWriteCheck r c pat kid => Sys2Proof.Machine.execMemoryTestWriteCheck r c pat kid s
  | .memoryTestComplete c => Sys2Proof.Machine.execMemoryTestComplete c s
  | .cxlLinkUp p linkB rate width cxl => Sys2Proof.Machine.execCxlLinkUp p linkB rate width cxl s
  | .cxlLinkDown p linkB next => Sys2Proof.Machine.execCxlLinkDown p linkB next s
  | .linkHotReset r p linkB w => Sys2Proof.Machine.execLinkHotReset r p linkB w s
  | .configRequest r p w => Sys2Proof.Machine.execConfigRequest r p w s
  | .deviceRegisterRequest r p w => Sys2Proof.Machine.execDeviceRegisterRequest r p w s
  | .cxlCompletion p linkB data poison e => Sys2Proof.Machine.execCxlCompletion p linkB data poison e s
  | .completionTimeout p linkB => Sys2Proof.Machine.execCompletionTimeout p linkB s
  | .endpointInterrupt r p v => Sys2Proof.Machine.execEndpointInterrupt r p v s
  | .functionLevelReset p => Sys2Proof.Machine.execFunctionLevelReset p s
  | .protectedRead addr c f => Sys2Proof.Machine.execProtectedRead addr c f s
  | .protectedWrite addr bytes poison c f => Sys2Proof.Machine.execProtectedWrite addr bytes poison c f s
  | .reencryptionComplete e => Sys2Proof.Machine.execReencryptionComplete e s
  | .speculativeCheck e => Sys2Proof.Machine.execSpeculativeCheck e s
  | .subtreeReinit r e n => Sys2Proof.Machine.execSubtreeReinit r e n s
  | .subtreeReinitComplete e => Sys2Proof.Machine.execSubtreeReinitComplete e s
  | .keyRetirement r kid => Sys2Proof.Machine.execKeyRetirement r kid s
  | .retirementComplete => Sys2Proof.Machine.execRetirementComplete s
  | .treeInitialisation e => Sys2Proof.Machine.execTreeInitialisation e s
  | .treeInitialisationComplete e => Sys2Proof.Machine.execTreeInitialisationComplete e s
  | .alarmLogHeadRead r e => Sys2Proof.Machine.execAlarmLogHeadRead r e s
  | .regionEntryWrite r n w => Sys2Proof.Machine.execRegionEntryWrite r n w s
  | .laneEnable r die l w => Sys2Proof.Machine.execLaneEnable r die l w s
  | .calibrationDone die l => Sys2Proof.Machine.execCalibrationDone die l s
  | .cdrLock die l late => Sys2Proof.Machine.execCdrLock die l late s
  | .cdrTimeout die l => Sys2Proof.Machine.execCdrTimeout die l s
  | .adaptationDone die l eq late => Sys2Proof.Machine.execAdaptationDone die l eq late s
  | .adaptFail die l => Sys2Proof.Machine.execAdaptFail die l s
  | .lossOfLock die l => Sys2Proof.Machine.execLossOfLock die l s
  | .lanePllUnlock die q b => Sys2Proof.Machine.execLanePllUnlock die q b s
  | .blockLockLoss die l => Sys2Proof.Machine.execBlockLockLoss die l s
  | .recal r die l => Sys2Proof.Machine.execRecal r die l s
  | .slip r die l => Sys2Proof.Machine.execSlip r die l s
  | .prbsClear r die l => Sys2Proof.Machine.execPrbsClear r die l s
  | .loopbackSelect r die l path => Sys2Proof.Machine.execLoopbackSelect r die l path s
  | .txEqualiserWrite r die l w => Sys2Proof.Machine.execTxEqualiserWrite r die l w s
  | .eyeScan r die l w => Sys2Proof.Machine.execEyeScan r die l w s
  | .eyeScanDone die l errors => Sys2Proof.Machine.execEyeScanDone die l errors s
  | .efomMeasurement die l efom eq errors => Sys2Proof.Machine.execEfomMeasurement die l efom eq errors s
  | .portEnable r p w => Sys2Proof.Machine.execPortEnable r p w s
  | .portDisable r p w => Sys2Proof.Machine.execPortDisable r p w s
  | .frameTransmit p k => Sys2Proof.Machine.execFrameTransmit p k s
  | .frameReceive p k f crcOk ppm late => Sys2Proof.Machine.execFrameReceive p k f crcOk ppm late s
  | .eventMessageSend r p msg => Sys2Proof.Machine.execEventMessageSend r p msg s
  | .eventHeadRead r => Sys2Proof.Machine.execEventHeadRead r s
  | .upstreamLoss => Sys2Proof.Machine.execUpstreamLoss s
  | .frequencyError => Sys2Proof.Machine.execFrequencyError s
  | .amplitudeDetect byp wait => Sys2Proof.Machine.execAmplitudeDetect byp wait s
  | .porRelease x => Sys2Proof.Machine.execPorRelease x s
  | .referenceLoss n => Sys2Proof.Machine.execReferenceLoss n s
  | .referenceReturn n us => Sys2Proof.Machine.execReferenceReturn n us s
  | .pllRelock us => Sys2Proof.Machine.execPllRelock us s
  | .holdRelease r => Sys2Proof.Machine.execHoldRelease r s
  | .resumePin level => Sys2Proof.Machine.execResumePin level s
  | .frequencyCheck n => Sys2Proof.Machine.execFrequencyCheck n s
  | .fabricPllLoss die n => Sys2Proof.Machine.execFabricPllLoss die n s
  | .por => Sys2Proof.Machine.execPor s
  | .deviceReset cause => Sys2Proof.Machine.execDeviceReset cause s
  | .dieReset die => Sys2Proof.Machine.execDieReset die s
  | .regionReset r die mask => Sys2Proof.Machine.execRegionReset r die mask s
  | .regionResetDone die => Sys2Proof.Machine.execRegionResetDone die s
  | .unitReset r die unit inst => Sys2Proof.Machine.execUnitReset r die unit inst s
  | .dieRelease r mask => Sys2Proof.Machine.execDieRelease r mask s
  | .directoryRead c0 c1 => Sys2Proof.Machine.execDirectoryRead c0 c1 s
  | .imageHeaderRead h => Sys2Proof.Machine.execImageHeaderRead h s
  | .segmentReceive g => Sys2Proof.Machine.execSegmentReceive g s
  | .segmentTimeout => Sys2Proof.Machine.execSegmentTimeout s
  | .doneRelease fits => Sys2Proof.Machine.execDoneRelease fits s
  | .jtagConfiguration h => Sys2Proof.Machine.execJtagConfiguration h s
  | .nvmCommand r w => Sys2Proof.Machine.execNvmCommand r w s
  | .nvmCommandComplete data => Sys2Proof.Machine.execNvmCommandComplete data s
  | .regionLoad r die rg userPort => Sys2Proof.Machine.execRegionLoad r die rg userPort s
  | .loadComplete die rg e => Sys2Proof.Machine.execLoadComplete die rg e s
  | .userPortTimeout die arrived => Sys2Proof.Machine.execUserPortTimeout die arrived s
  | .regionRelease r die rg timed => Sys2Proof.Machine.execRegionRelease r die rg timed s
  | .regionOffline r die rg timed => Sys2Proof.Machine.execRegionOffline r die rg timed s
  | .regionSelftest r die rg => Sys2Proof.Machine.execRegionSelftest r die rg s
  | .regionAbort r die rg => Sys2Proof.Machine.execRegionAbort r die rg s
  | .timedCommandDue die rg => Sys2Proof.Machine.execTimedCommandDue die rg s
  | .selftestResult die rg sig us pass => Sys2Proof.Machine.execSelftestResult die rg sig us pass s
  | .selftestTimeout die rg => Sys2Proof.Machine.execSelftestTimeout die rg s
  | .facetTest r die p => Sys2Proof.Machine.execFacetTest r die p s
  | .facetTestDone die pass => Sys2Proof.Machine.execFacetTestDone die pass s
  | .scrubPassStart die n => Sys2Proof.Machine.execScrubPassStart die n s
  | .frameScrub die n err bad => Sys2Proof.Machine.execFrameScrub die n err bad s
  | .criticalScrub die n rewritten => Sys2Proof.Machine.execCriticalScrub die n rewritten s
  | .scrubberAudit die n holders => Sys2Proof.Machine.execScrubberAudit die n holders s
  | .frameRepair die n poison => Sys2Proof.Machine.execFrameRepair die n poison s
  | .regionRepair die n crc poison => Sys2Proof.Machine.execRegionRepair die n crc poison s
  | .scrubberRestart r die n w => Sys2Proof.Machine.execScrubberRestart r die n w s
  | .cdBankConfirm r w => Sys2Proof.Machine.execCdBankConfirm r w s
  | .trialTimeout => Sys2Proof.Machine.execTrialTimeout s
  | .bezelCommandGo r chan w => Sys2Proof.Machine.execBezelCommandGo r chan w s
  | .keyGen => Sys2Proof.Machine.execKeyGen s
  | .keyImport => Sys2Proof.Machine.execKeyImport s
  | .keyExport => Sys2Proof.Machine.execKeyExport s
  | .keyDelete => Sys2Proof.Machine.execKeyDelete s
  | .mpeLoad => Sys2Proof.Machine.execMpeLoad s
  | .mpeGrant => Sys2Proof.Machine.execMpeGrant s
  | .signRecord => Sys2Proof.Machine.execSignRecord s
  | .transferWrap => Sys2Proof.Machine.execTransferWrap s
  | .attest => Sys2Proof.Machine.execAttest s
  | .getCert => Sys2Proof.Machine.execGetCert s
  | .imageLib img => Sys2Proof.Machine.execImageLib img s
  | .imageCd img => Sys2Proof.Machine.execImageCd img s
  | .fwActivate img => Sys2Proof.Machine.execFwActivate img s
  | .random => Sys2Proof.Machine.execRandom s
  | .arbAdvance => Sys2Proof.Machine.execArbAdvance s
  | .otpSet t => Sys2Proof.Machine.execOtpSet t s
  | .lcChange ts block => Sys2Proof.Machine.execLcChange ts block s
  | .sensorEvent cls => Sys2Proof.Machine.execSensorEvent cls s
  | .extest cells => Sys2Proof.Machine.execExtest cells s
  | .idcode => Sys2Proof.Machine.execIdcode s
  | .samplePreload cells => Sys2Proof.Machine.execSamplePreload cells s
  | .clamp => Sys2Proof.Machine.execClamp s
  | .highz => Sys2Proof.Machine.execHighz s
  | .extestPulse cells => Sys2Proof.Machine.execExtestPulse cells s
  | .extestTrain cells => Sys2Proof.Machine.execExtestTrain cells s
  | .dag => Sys2Proof.Machine.execDag s
  | .cfgData => Sys2Proof.Machine.execCfgData s
  | .bypass => Sys2Proof.Machine.execBypass s
  | .tapReset => Sys2Proof.Machine.execTapReset s
  | .dagAccess op addr data tag => Sys2Proof.Machine.execDagAccess op addr data tag s
  | .password scope => Sys2Proof.Machine.execPassword scope s
  | .challenge scope => Sys2Proof.Machine.execChallenge scope s
  | .response scope zfill late => Sys2Proof.Machine.execResponse scope zfill late s
  | .close => Sys2Proof.Machine.execClose s
  | .challengeExpiry => Sys2Proof.Machine.execChallengeExpiry s
  | .authDelayEnd => Sys2Proof.Machine.execAuthDelayEnd s
  | .coreHaltRequest r n => Sys2Proof.Machine.execCoreHaltRequest r n s
  | .coreHalt n => Sys2Proof.Machine.execCoreHalt n s
  | .coreResumeRequest r n => Sys2Proof.Machine.execCoreResumeRequest r n s
  | .ebreak n pc => Sys2Proof.Machine.execEbreak n pc s
  | .abstractAccess r n w => Sys2Proof.Machine.execAbstractAccess r n w s
  | .facetHalt r => Sys2Proof.Machine.execFacetHalt r s
  | .facetResume r => Sys2Proof.Machine.execFacetResume r s
  | .facetStep r => Sys2Proof.Machine.execFacetStep r s
  | .facetRegisterAccess r w => Sys2Proof.Machine.execFacetRegisterAccess r w s
  | .watchdogKick r n => Sys2Proof.Machine.execWatchdogKick r n s
  | .watchdogExpiry n => Sys2Proof.Machine.execWatchdogExpiry n s
  | .debugLineEdge n => Sys2Proof.Machine.execDebugLineEdge n s
  | .terminalTxPush r b => Sys2Proof.Machine.execTerminalTxPush r b s
  | .terminalTxPop => Sys2Proof.Machine.execTerminalTxPop s
  | .terminalRxPush b => Sys2Proof.Machine.execTerminalRxPush b s
  | .terminalRxPop r => Sys2Proof.Machine.execTerminalRxPop r s
  | .recordArrival picks => Sys2Proof.Machine.execRecordArrival picks s
  | .recordStore sev7 => Sys2Proof.Machine.execRecordStore sev7 s
  | .recorderFreeze r => Sys2Proof.Machine.execRecorderFreeze r s
  | .recorderUnfreeze r => Sys2Proof.Machine.execRecorderUnfreeze r s
  | .recorderClear r => Sys2Proof.Machine.execRecorderClear r s
  | .freezeLimitExpiry => Sys2Proof.Machine.execFreezeLimitExpiry s
  | .brownout => Sys2Proof.Machine.execBrownout s
  | .vccioArrival die bank mv => Sys2Proof.Machine.execVccioArrival die bank mv s
  | .vccioLoss die bank => Sys2Proof.Machine.execVccioLoss die bank s
  | .spinePllLock => Sys2Proof.Machine.execSpinePllLock s
  | .quadPllLock die q b => Sys2Proof.Machine.execQuadPllLock die q b s
  | .fabricPllLock die n => Sys2Proof.Machine.execFabricPllLock die n s
  | .blockLock die l => Sys2Proof.Machine.execBlockLock die l s
  | .localReferenceLoss n => Sys2Proof.Machine.execLocalReferenceLoss n s
  | .fabricBypassOutput die line level => Sys2Proof.Machine.execFabricBypassOutput die line level s

end Sys2Proof.Machine
end

