-- ==== Sys2Proof/Machine/Step.lean ====
section
/-!
DEFINITION. One step: the command at the front of the queue takes effect. On an empty queue the block idles: a spine tick is a
command of the table (SPINE_TICK) and passes when it is commanded.
-/
namespace Sys2Proof.Machine

/-- One step of the block. [Log 1 DESIGN CHOICE, 236 DEDUCED] -/
def step (s : State) : Host.Outcome State Fault Refusal :=
  match s.pending with
  | [] => .next s
  | c :: rest => exec c { s with pending := rest }

/-- The state with the command a table word spells put at the front of the queue; the state itself where the word spells none.
[Log 2 DESIGN CHOICE] -/
def State.withFetchWord (s : State) (nbits w : Nat) : State :=
  match decodeTableWord nbits w with
  | some c => { s with pending := c :: s.pending }
  | none => s

end Sys2Proof.Machine
end

