-- ==== Sys2Proof/Machine/Package.lean ====
section
/-!
DEFINITION. The package: ball names, the ball map, the amplitude of a fabric lane (R573, R579 to R584).
-/
namespace Sys2Proof.Machine

/-- A signal of one DDR5 sub-channel (R584). -/
inductive DdrSignal
  | dq (n : Nat)
  | cb (n : Nat)
  | dqs (n : Nat) (positive : Bool)
  | ca (n : Nat)
  | cs (n : Nat)
  | ck (positive : Bool)
  deriving DecidableEq, Repr

/-- What a ball carries (R561, R583, R584). -/
inductive BallSignal
  | gnd
  | vin
  | vaux
  | vadc
  | vccoDed
  /-- The supply of bank `bank`. -/
  | vccio (bank : Nat)
  | vddq (channel : Nat)
  /-- AVCC and AVTT of the fabric quads, or of the hub lanes. -/
  | avcc (hub : Bool)
  | avtt (hub : Bool)
  /-- User I/O by global pin number. -/
  | io (pin : Nat)
  /-- Fabric lanes LN0 to LN63 and the references of the quads. -/
  | lnTx (lane : Nat) (positive : Bool)
  | lnRx (lane : Nat) (positive : Bool)
  | xref (die quad : Nat) (positive : Bool)
  /-- Hub lanes and their references. -/
  | hlTx (lane : Nat) (positive : Bool)
  | hlRx (lane : Nat) (positive : Bool)
  | href (n : Nat) (positive : Bool)
  /-- Sub-channel A is 0, B is 1. -/
  | ddr (channel sub : Nat) (signal : DdrSignal)
  | ddrResetN (channel : Nat)
  | ddrAlertN (channel : Nat)
  | ddrZq (channel : Nat)
  /-- The dedicated signals of DED0, by name. -/
  | dedicated (name : String)
  | xspi (port : Nat) (name : String)
  | tadc (n : Nat) (positive : Bool)
  | tadcRefc
  deriving DecidableEq, Repr

/-! ## Names (R579) -/

/-- The row letters of R579. -/
def rowLetters : List String := ["A", "B", "C", "D", "E", "F", "G", "H", "J", "K", "L", "M", "N", "P", "T", "U", "V", "W", "Y"]

/-- Name of row `r`, 0 at the north edge. -/
def rowName (r : Nat) : String :=
  if r < 19 then rowLetters.getD r ""
  else if r < 38 then "A" ++ rowLetters.getD (r - 19) ""
  else if r < 57 then "B" ++ rowLetters.getD (r - 38) ""
  else "C" ++ rowLetters.getD (r - 57) ""

/-! ## Blocks (R580 to R582) -/

/-- The content of a block of 6 rows by 5 columns. -/
inductive Block
  | bank (n : Nat)
  | quad (die q : Nat)
  | hubQuad (h : Nat)
  | ddr (channel m : Nat)
  | ded (n : Nat)
  | power
  deriving DecidableEq, Repr

/-- I/O blocks of a fabric die: quads 0 to 3, then local banks 0 to 9 (R581). -/
def dieBlocks : Nat → List (Nat × Nat)
  | 0 => [(0, 0), (0, 1), (0, 2), (0, 3), (0, 4), (0, 5), (1, 0), (2, 0), (1, 1), (1, 2), (1, 3), (1, 4), (1, 5), (2, 1)]
  | 1 => [(0, 11), (0, 10), (0, 9), (0, 8), (0, 7), (0, 6), (1, 11), (2, 11), (1, 10), (1, 9), (1, 8), (1, 7), (1, 6), (2, 10)]
  | 2 => [(3, 0), (4, 0), (5, 0), (3, 1), (4, 1), (5, 1), (3, 2), (4, 2), (5, 2), (3, 3), (4, 3), (5, 3), (3, 4), (4, 4)]
  | _ => [(3, 11), (4, 11), (5, 11), (3, 10), (4, 10), (5, 10), (3, 9), (4, 9), (5, 9), (3, 8), (4, 8), (5, 8), (3, 7), (4, 7)]

/-- A block of the fabric dies (R581); the blocks its table lists for power carry power. -/
def fabricBlock (b : Nat × Nat) : Block :=
  (List.range 4).foldl (fun acc d =>
    match (dieBlocks d).idxOf? b with
    | some p => if p < 4 then .quad d p else .bank (10 * d + (p - 4))
    | none => acc) .power

/-- The block at block row `br` and block column `bc` (R581, R582). -/
def blockAt (br bc : Nat) : Block :=
  if br < 6 then fabricBlock (br, bc)
  else if br = 6 then (if bc = 4 then .ded 0 else if bc = 5 then .ded 1 else .power)
  else if bc < 8 then .ddr (bc / 2) (2 * (9 - br) + bc % 2)
  else if bc = 10 ∧ br = 7 then .ded 2
  else if bc = 11 then .power
  else .hubQuad (3 * (bc - 8) + (9 - br))

/-! ## Slots (R583, R584) -/

/-- Slot `n` of a DDR5 channel, 0 to 143. -/
def ddrSlot (c n : Nat) : BallSignal :=
  if n < 136 then
    let x := n / 68
    let o := n % 68
    .ddr c x
      (if o < 32 then .dq o
       else if o < 40 then .cb (o - 32)
       else if o < 50 then .dqs ((o - 40) / 2) (o % 2 == 0)
       else if o < 64 then .ca (o - 50)
       else if o < 66 then .cs (o - 64)
       else .ck (o == 66))
  else if n = 136 then .ddrResetN c
  else if n = 137 then .ddrAlertN c
  else if n = 138 then .ddrZq c
  else .gnd

/-- The signals of DED0. -/
def ded0 : List String :=
  ["XTAL_IN", "XTAL_OUT", "CLKREF_A_P", "CLKREF_A_N", "CLKREF_B_P", "CLKREF_B_N", "RESET_N", "RESUME", "DONE", "CFG_ERR_N", "TCK",
   "TMS", "TDI", "TDO", "TRST_N", "XO_WAIT0", "XO_WAIT1", "XO_WAIT2", "XO_BYP", "CFG_DUAL", "CFG_FAILDONE"]

/-- The signals of one XSPI port in DED1. -/
def xspiNames : List String :=
  ["CLK", "CS_N", "DQS", "RST_N", "DQ0", "DQ1", "DQ2", "DQ3", "DQ4", "DQ5", "DQ6", "DQ7"]

/-- Slot `n` of a DED block. -/
def dedSlot (block n : Nat) : BallSignal :=
  match block with
  | 0 => if n < 21 then .dedicated (ded0.getD n "") else .gnd
  | 1 => .xspi (n / 12) (xspiNames.getD (n % 12) "")
  | _ => if n < 16 then .tadc (n / 2) (n % 2 == 0) else if n = 16 then .tadcRefc else .gnd

/-- A signal block: slots in columns 0 to 3, and in column 4 the supply on even rows, GND on odd ones. -/
def slotBlock (k j : Nat) (slot : Nat → BallSignal) (supply : BallSignal) : BallSignal :=
  if j < 4 then slot (4 * k + j) else if k % 2 = 1 then .gnd else supply

/-- The pattern of a quad. -/
def quadBlock (k j : Nat) (tx rx : Nat → Bool → BallSignal) (ref : Bool → BallSignal) (hub : Bool) : BallSignal :=
  if k = 2 ∨ k = 5 then
    match j with
    | 1 => .avcc hub
    | 2 => if k = 2 then ref true else .gnd
    | 3 => if k = 2 then ref false else .avtt hub
    | 4 => if k = 2 then .avtt hub else .gnd
    | _ => .gnd
  else
    let lane := 2 * (k / 3) + j / 3
    let line := if k % 3 = 0 then tx else rx
    if j = 2 then .gnd else line lane (j % 3 == 0)

/-- What the ball in row `r` (0 to 59) and column `col` (1 to 60) carries (R580 to R584). -/
def ballAt (r col : Nat) : BallSignal :=
  let k := r % 6
  let j := (col - 1) % 5
  match blockAt (r / 6) ((col - 1) / 5) with
  | .bank n => slotBlock k j (fun s => .io (24 * n + s)) (.vccio n)
  | .quad d q => quadBlock k j (fun l => .lnTx (16 * d + 4 * q + l)) (fun l => .lnRx (16 * d + 4 * q + l)) (.xref d q) false
  | .hubQuad h => quadBlock k j (fun l => .hlTx (4 * h + l)) (fun l => .hlRx (4 * h + l)) (fun p => if h % 2 = 0 then .href (h / 2) p else .gnd) true
  | .ddr c m => slotBlock k j (fun s => ddrSlot c (24 * m + s)) (.vddq c)
  | .ded n => slotBlock k j (dedSlot n) (match n with | 0 => .vccoDed | 1 => .vaux | _ => .vadc)
  | .power => if (k + j) % 2 = 0 then .vin else .gnd

/-- A ball's name: its row letters, then its column (R579). -/
def ballName (r col : Nat) : String := rowName r ++ toString col

/-! ## Lane amplitude (R573) -/

/-- Nominal swing S of a fabric lane, in mV. -/
def State.txSwing (s : State) (die l : Nat) : Nat := 400 + 50 * s.fld (Reg.XCVR_TXEQ die l) 19 4

/-- Amplitude of a long run of equal bits, in 63rds of a mV peak to peak. [Log 160 DESIGN CHOICE] -/
def State.txRun (s : State) (die l : Nat) : Int :=
  let f (lo n : Nat) : Int := s.fld (Reg.XCVR_TXEQ die l) lo n
  s.txSwing die l * (f 4 6 - f 0 4 - f 10 5 - f 15 4)

/-- Amplitude a transition peaks at, in 63rds of a mV. [Log 160 DESIGN CHOICE] -/
def State.txPeak (s : State) (die l : Nat) : Nat :=
  let f (lo n : Nat) : Nat := s.fld (Reg.XCVR_TXEQ die l) lo n
  s.txSwing die l * (f 4 6 + f 0 4 + f 10 5 + f 15 4)

end Sys2Proof.Machine
end

