-- ==== Sys2Proof/Safety.lean ====
section
/-!
DEFINITION. What counts as a safe run, in the terms claims use.
-/
namespace Sys2Proof.Machine

/-- The register store is in canonical form: window offsets strictly rising, and no register listed that holds its reset value. -/
def State.csrWf (s : State) : Prop :=
  s.csr.Pairwise (fun p q => p.1 < q.1) ∧ ∀ e ∈ s.csr, e.2 ≠ regReset e.1

/-- One-time-programmable state only moves forward: fuses stay blown, revocations stay, anti-rollback counters never decrease
(R446, R494, R498, R517). -/
structure Otp.noLess (a b : Otp) : Prop where
  owner : a.owner = true → b.owner = true
  pwdOff : a.pwdOff = true → b.pwdOff = true
  revoked : ∀ i, a.revoked.testBit i = true → b.revoked.testBit i = true
  quanasArb : a.quanasArb ≤ b.quanasArb
  ownerArb : a.ownerArb ≤ b.ownerArb

/-! ## Accesses that a unit performs -/

/-- A register that an access reaches by itself: aligned, in the window, no alias, defined, and no window of CXL requests. -/
def singleReg (key : Nat) : Bool :=
  decide (key < 2 ^ 32) && key % 4 == 0 && !isAlias key && regDefined key && !cxlData key

/-- The access bus passes a requester's access of a register on to its unit: the gate covers it where the debugger asks, the unit
answers, no policy denies it and start-up does not decline it (R33, R40, R463, R506, R530, R533, R586). -/
def State.admits (s : State) (r : Requester) (key : Nat) (write : Bool) : Bool :=
  (r.code != 16 || s.gateCovers (csrAddr key)) && s.reachable key && !s.denies r.code key write &&
    !s.declines r.code (keyDie key) (keyUnit key) (keyOff key) write

/-- A write of a register completes OK (R33). -/
def State.wrote (s : State) (r : Requester) (key : Nat) : State := s.completeAccess r.code true (csrAddr key) .ok 0

/-- A write of a register answers REFUSED (R33). -/
def State.refusedWrite (s : State) (r : Requester) (key : Nat) : State := s.completeAccess r.code true (csrAddr key) .refused 0

/-- A read of a register completes OK with its data (R33). -/
def State.fetched (s : State) (r : Requester) (key : Nat) (v : Word) : State := s.completeAccess r.code false (csrAddr key) .ok v

/-- An access of a part of a die's on-chip view that a unit of the die serves is performed (R25, R33, R40, R530, R533): the gate
covers it where the debugger asks, the unit answers, and start-up does not decline it. -/
def State.admitsView (s : State) (r : Requester) (die unit : Nat) (dom : Option Nat) (addr : Nat) (write : Bool) : Bool :=
  (r.code != 16 || s.gateCovers addr) && s.dieReachable die unit dom && !(write && s.declines r.code die unit 0 true)

/-! ## Bundles that issue -/

/-- A Facet as the bundle of its next issue cycle sees it: the cycle counted, the writes due landed (R216, R218, R239). -/
def Facet.seen (f : Facet) : Facet :=
  ({ f with cyc := f.cyc + 1, wcyc := f.wcyc + 1, wait := f.wait - 1, stall := false, run := { f.run with started := true } } : Facet).land

/-- A Facet issues the bundle `b` in its next cycle, outside delay slots, repetitions and loops (R216, R219, R220, R239). -/
structure State.issues (s : State) (die p : Nat) (b : Bundle) : Prop where
  runs  : s.facetIssues die p = true
  next  : (s.facet die p).upcoming = some b
  calm  : (s.facet die p).watchdogDue = false
  slot  : (s.facet die p).seen.slot = none
  rep   : (s.facet die p).seen.rep = 0
  loops : (s.facet die p).seen.loops = []

/-- What a bundle leaves: its Facet, and the stream ports of the logical Facet mapped to it (R209, R216). -/
def State.issued (s : State) (die p : Nat) (h : Facet) (q : Ports) : State :=
  match s.logOf die p with
  | some l => (s.setFacet die p h).setPorts die (p / 17 * 16 + l) q
  | none => s.setFacet die p h

end Sys2Proof.Machine
end

