-- ==== Sys2Proof/Certificates/Slice0/Obligations.lean ====
section
/-!
DEFINITION. The statements for the provers.
-/
section
open Sys2Proof Sys2Proof.Machine

/-- A step is the command at the front of the queue, on the queue's rest; on an empty queue the block idles (the model's choice, log entry
1); no table word spells a command, so `withFetchWord` places none (log entry 2). The model's own choices in it: log entries 1, 2. -/
def Obligations.StepRunsFrontCommand : Prop :=
  (∀ (s : State) (c : Instr) (rest : List Instr), step { s with pending := c :: rest } = exec c { s with pending := rest }) ∧
  (∀ s : State, s.pending = [] → step s = .next s) ∧
  (∀ (s : State) (nbits w : Nat), decodeTableWord nbits w = none ∧ s.withFetchWord nbits w = s)

/-- What reset leaves: no command waits, the register store is canonical and every register reads its reset value, power-on reset holds
(R430), domains and Facets are off, timed I/O units are disabled, queues are disabled, start-up has not begun, and memories list nothing.
The model's own choices in it: log entries 9, 134. -/
def Obligations.ResetState : Prop :=
  let s := State.reset
  s.pending = [] ∧ s.csrWf ∧ (∀ key, s.rd key = regReset key) ∧ s.clk.por = true ∧ s.userMode = false ∧ s.bootState = 0 ∧
  (∀ d, (s.dom d).state = .off) ∧ (∀ die p, (s.facet die p).state = .off) ∧ (∀ die pin, (s.unit die pin).mode = 0) ∧
  (∀ n, (s.queue n).state = .disabled) ∧ (∀ c, (s.chan c).state = .off) ∧ (∀ d, s.dieLost d = false) ∧ (∀ n, s.box n = []) ∧
  (∀ n, s.vaultKey n = none) ∧ s.boot.tcm = [] ∧ s.raised = []

/-- Every command has an effect in every state: a step answers a next state, takes the front command off the queue, queues nothing itself,
and never changes the fused grade. The model's own choices in it: log entries 6, 5. -/
def Obligations.EveryCommandAnswersNext : Prop :=
  ∀ s : State, ∃ t, step s = .next t ∧ t.pending = s.pending.tail ∧ t.grade = s.grade ∧ t.gradeI = s.gradeI

/-- No command takes the register store out of its canonical form: window offsets rise strictly, and no register is listed at its reset
value. -/
def Obligations.RegisterStoreStaysCanonical : Prop :=
  ∀ s t : State, s.csrWf → step s = .next t → t.csrWf

/-- One-time-programmable state only moves forward over every step (R446, R494, R498, R517), and only the commands ARB_ADVANCE, OTP_SET,
LC_CHANGE and USER_MODE_ENTRY change it, or the life-cycle state, at all. -/
def Obligations.OneTimeStateMovesForward : Prop :=
  ∀ s t : State, step s = .next t →
    s.sec.otp.noLess t.sec.otp ∧
    ((∀ rest, s.pending ≠ .arbAdvance :: rest) → (∀ x rest, s.pending ≠ .otpSet x :: rest) →
      (∀ x y rest, s.pending ≠ .lcChange x y :: rest) → (∀ x rest, s.pending ≠ .userModeEntry x :: rest) →
      t.sec.otp = s.sec.otp ∧ t.sec.lc = s.sec.lc)

/-- What the access bus answers when an access is not performed (R5, R33, R530, R533): an address that decodes to nothing (and is no word
of the interrupt controller of the control-die cores), a unit that does not answer, a requester that is denied, a unit that declines, a
wrong width or alignment, a debugger outside its scopes. The write has no other effect than the answer. The model's own choices in it: log
entry 14. -/
def Obligations.AccessesTurnedAway : Prop :=
  ∀ (s : State) (r : Requester) (key : Nat) (w : BitVec 32),
    (∀ addr size, r.code = 16 → s.gateCovers addr = false →
      exec (.registerWrite r addr size w) s = .next (s.completeAccess r.code true addr .denied 0)) ∧
    (∀ addr size, (r.code = 16 → s.gateCovers addr = true) → place addr = .nothing →
      (5 < r.code ∨ isPlic addr = false ∨ size ≠ 4 ∨ addr % 4 ≠ 0) →
      exec (.registerWrite r addr size w) s = .next (s.completeAccess r.code true addr .noTarget 0)) ∧
    (∀ size, key < 2 ^ 32 → (r.code = 16 → s.gateCovers (csrAddr key) = true) → (size ≠ 4 ∨ key % 4 ≠ 0) →
      exec (.registerWrite r (csrAddr key) size w) s = .next (s.completeAccess r.code true (csrAddr key) .refused 0)) ∧
    ((r.code = 16 → s.gateCovers (csrAddr key) = true) → key < 2 ^ 32 → key % 4 = 0 → isAlias key = false → regDefined key = false →
      exec (.registerWrite r (csrAddr key) 4 w) s = .next (s.completeAccess r.code true (csrAddr key) .noTarget 0)) ∧
    ((r.code = 16 → s.gateCovers (csrAddr key) = true) → singleReg key = true →
      (s.reachable key = false →
        exec (.registerWrite r (csrAddr key) 4 w) s = .next (s.completeAccess r.code true (csrAddr key) .unreachable 0)) ∧
      (s.reachable key = true → s.denies r.code key true = true →
        exec (.registerWrite r (csrAddr key) 4 w) s = .next (s.completeAccess r.code true (csrAddr key) .denied 0)) ∧
      (s.reachable key = true → s.denies r.code key true = false → s.declines r.code (keyDie key) (keyUnit key) (keyOff key) true = true →
        exec (.registerWrite r (csrAddr key) 4 w) s = .next (s.completeAccess r.code true (csrAddr key) .refused 0)))

/-- What a completed access changes beside its effect (R33): the reply; for an outside host, what it sees of it; for a control-die core
that gets another answer than OK, its trap registers (`mbuserr` 0x7C0, `mtval` 0x343, `mcause` 0x342) and machine mode; for the debugger,
the last access of the gate. The model's own choices in it: log entries 16, 15. -/
def Obligations.CompletionsReportToTheRequester : Prop :=
  ∀ (s : State) (req addr : Nat) (write : Bool) (x : Resp) (v : Word),
    let t := s.completeAccess req write addr x v
    t = { s with bus := { s.bus with reply := some (x, v), completion := if req = 6 ∨ req = 7 then some x.host else s.bus.completion }, cores := t.cores, session := t.session } ∧
    (req ≤ 5 → x ≠ .ok →
      (t.core req).regs.get 0x7C0 0 = BitVec.ofNat 64 x.code ∧ (t.core req).regs.get 0x343 0 = BitVec.ofNat 64 addr ∧
      (t.core req).regs.get 0x342 0 = (if write then 7 else 5) ∧ (t.core req).priv = 3 ∧ t.session = s.session ∧ ∀ n, n ≠ req → t.core n = s.core n) ∧
    (req ≠ 16 → (x = .ok ∨ 5 < req) → t.cores = s.cores ∧ t.session = s.session)

/-- Pairs, reads with side effects and GROUP (R6, R7, R29, R31), for registers outside the PAD, XBAR and Bezel units: a low half is held
for its requester and the high half applies the whole quantity; a read of the low half captures and one of the high half consumes the
capture; a counter that clears is cleared by its read and a FIFO popped, but not by the debugger's; a GROUP write sets the membership. The
model's own choices in it: log entries 21, 20. -/
def Obligations.RegisterHalvesReadsAndGroups : Prop :=
  (∀ (s : State) (r : Requester) (key : Nat), singleReg key = true → keyUnit key ≠ 0x06 → keyUnit key ≠ 0x07 → keyUnit key ≠ 0x13 →
    (∀ w : BitVec 32, pairHalf key = .lo → takesWrites key = true → s.admits r key true = true → s.pairRefused key = false →
      exec (.pairLoWrite r (csrAddr key) w) s = .next ((s.setHeld (slot key r.code) (some w)).wrote r key)) ∧
    (∀ (w lo : BitVec 32) (t : State), pairHalf key = .hi → takesWrites key = true → s.admits r key true = true → s.pairRefused key = false →
      s.bus.held.get (slot (key - 4) r.code) none = some lo →
      (s.setHeld (slot (key - 4) r.code) none).pairWrite (key - 4) r.code (joinHalves w lo) = (t, .ok) →
      exec (.pairHiWrite r (csrAddr key) w) s = .next (t.wrote r key)) ∧
    (∀ w : BitVec 32, pairHalf key = .hi → takesWrites key = true → s.admits r key true = true → s.pairRefused key = false →
      s.bus.held.get (slot (key - 4) r.code) none = none →
      exec (.pairHiWrite r (csrAddr key) w) s = .next ((s.pairUnheld key).wrote r key)) ∧
    (pairHalf key = .lo → s.admits r key false = true → r.code ≠ 16 → s.readIsFree key = false →
      exec (.pairLoRead r (csrAddr key)) s =
        .next ((s.setCapt (slot key r.code) (some (joinHalves (s.regRead (key + 4)) (s.regRead key)))).fetched r key (s.regRead key))) ∧
    (∀ d : BitVec 64, pairHalf key = .hi → s.admits r key false = true → r.code ≠ 16 → s.bus.capt.get (slot (key - 4) r.code) none = some d →
      exec (.pairHiRead r (csrAddr key)) s = .next ((s.setCapt (slot (key - 4) r.code) none).fetched r key (hiHalf d))) ∧
    (pairHalf key = .hi → s.admits r key false = true → r.code ≠ 16 → s.readIsFree key = false → s.bus.capt.get (slot (key - 4) r.code) none = none →
      exec (.pairHiRead r (csrAddr key)) s = .next (s.fetched r key (s.regRead key)))) ∧
  (∀ (s : State) (r : Requester) (key : Nat),
    (∀ reg : RegDef, singleReg key = true → pairHalf key = .none → regDef? key = some reg → reg.rc ≠ 0 →
      [0x00, 0x04, 0x09, 0x0B, 0x0C, 0x0D, 0x0F, 0x10, 0x14, 0x15, 0x17].contains (keyUnit key) = true →
      s.admits r key false = true → r.code ≠ 16 →
      exec (.readClear r (csrAddr key) 4) s = .next ((s.wr key (s.rd key &&& ~~~(BitVec.ofNat 32 reg.rc))).fetched r key (s.regRead key))) ∧
    (s.admits r Reg.CFG_NVMDATA false = true → r.code ≠ 16 →
      exec (.readPop r (csrAddr Reg.CFG_NVMDATA)) s = .next
        (if s.boot.nvm.isEmpty = true then (s.flag Reg.CFG_STAT 11).fetched r Reg.CFG_NVMDATA 0
         else ({ s with boot := { s.boot with nvm := s.boot.nvm.drop 4 } }).fetched r Reg.CFG_NVMDATA (BitVec.ofNat 32 (leNat (s.boot.nvm.take 4))))) ∧
    (singleReg key = true → s.admits .debugger key false = true → s.readIsFree key = false →
      keyUnit key ≠ 0x06 → keyUnit key ≠ 0x07 → keyUnit key ≠ 0x13 →
      exec (.readClear .debugger (csrAddr key) 4) s = .next (s.completeAccess 16 false (csrAddr key) .ok (s.regRead key)) ∧
      exec (.readPop .debugger (csrAddr key)) s = .next (s.completeAccess 16 false (csrAddr key) .ok (s.regRead key)))) ∧
  (∀ (s : State) (r : Requester) (key : Nat) (w : BitVec 32), singleReg key = true → keyOff key = 0xFFC →
    keyUnit key ≠ 0x06 → keyUnit key ≠ 0x07 → keyUnit key ≠ 0x13 → s.admits r key true = true →
    exec (.registerWrite r (csrAddr key) 4 w) s = .next ((s.wr key (w &&& 0xF)).wrote r key))

/-- The spine tick (R11, R47): DT and all that goes with it stand still before power-on reset releases and while the spine does not run;
otherwise the spine's paths, the domains, the calendars with timed I/O and pads of the four fabric dies, the hub's signals, the strobe
ports, the boundary, the watchdogs, the spine ports and the advance come in this order, then a reset that waits for the tick; the
interrupt controller takes the levels of its sources last. The advance counts the tick. -/
def Obligations.SpineTickOrder : Prop :=
  ∀ (s : State) (missed : List (Fin 4)),
    (s.clk.por = true ∨ s.spine.run = false → exec (.spineTick missed) s = .next s.interruptTick) ∧
    (s.clk.por = false → s.spine.run = true →
      exec (.spineTick missed) s = .next
        (let paths := ((((s.spinePath (missed.map (·.val)) 0).spinePath (missed.map (·.val)) 1).spinePath (missed.map (·.val)) 2).spinePath (missed.map (·.val)) 3)
         let dies := (((paths.tickDomains.tickDie 0).tickDie 1).tickDie 2).tickDie 3
         dies.hubTick.strobeTick.tickBoundary.tickWatchdogs.spinePresent.tickAdvance.dueReset.interruptTick)) ∧
    s.tickAdvance.tick = s.tick + 1 ∧ (s.serial.step = none → s.tickAdvance.spine.dt = s.tickEnd) ∧
    (∀ d : Int, s.serial.step = some d → s.tickAdvance.spine.dt = s.tickEnd + BitVec.ofInt 64 d)

/-- A recalibration of a receiver (R50): SRX_CTL.`recal` reads 1 for the tick it takes, and the receiver is not deskewed; after it the
receiver is deskewed, with a residual of 0 to 100 ps that nothing fixes further. The model's own choices in it: log entry 43. -/
def Obligations.SpineRecalibration : Prop :=
  ∀ (s : State) (r : Requester) (die : Fin 4),
    (s.admits r (Reg.SRX_CTL die) true = true → s.spine.recal.get die 0 = 0 →
      exec (.spineRecalibrate r die) s = .next (({ s with spine := { s.spine with
        recal := s.spine.recal.set die 1 0, deskewed := s.spine.deskewed.set die false false } }).wrote r (Reg.SRX_CTL die))) ∧
    (s.spine.recal.get die 0 = 1 → (s.recalTick die).spine.deskewed.get die false = true ∧ (s.recalTick die).spine.recal.get die 0 = 0 ∧
      (s.recalTick die).spine.skew.get die 0 ≤ 100)

/-- Writes of the domain engines (R6, R59, R71, R73): a DOM_CMD command waits for step 2 of the tick behind those that came before it; a
whole pair of DOM_VEL, DOM_ACC or DOM_LOAD written by one requester reaches the engine as one quantity, a negative velocity as 0 with its
flag. Each write completes OK, nothing stays held, and no other domain changes. -/
def Obligations.DomainWritesWaitOrApplyWhole : Prop :=
  (∀ (s : State) (r : Requester) (d : Fin 16), s.admits r (Reg.DOM_CMD d) true = true →
    let after (c : DomCmd) : State := (s.setDom d { s.dom d with cmds := (s.dom d).cmds ++ [c] }).wrote r (Reg.DOM_CMD d)
    exec (.domainEnable r d) s = .next (after .enable) ∧ exec (.domainDisable r d) s = .next (after .disable) ∧
    exec (.domainReacquire r d) s = .next (after .reacquire) ∧ exec (.domainFreeze r d) s = .next (after .freeze) ∧
    exec (.domainUnfreeze r d) s = .next (after .unfreeze)) ∧
  (∀ (s : State) (r : Requester) (d : Fin 16) (v : DWord),
    let done (lo hi : Nat) (f : State → State) : State := (f ((s.setHeld (slot lo r.code) none).wrote r lo)).wrote r hi
    (s.admits r (Reg.DOM_VEL_LO d) true = true → s.admits r (Reg.DOM_VEL_HI d) true = true → s.domSrc d = 5 →
      v.toNat ≤ maxVelocity →
      exec (.velocityWrite r d v) s = .next (done (Reg.DOM_VEL_LO d) (Reg.DOM_VEL_HI d) (fun u => u.setDom d { s.dom d with newVel := some v.toNat }))) ∧
    (s.admits r (Reg.DOM_VEL_LO d) true = true → s.admits r (Reg.DOM_VEL_HI d) true = true → s.domSrc d = 5 → v.toInt < 0 →
      exec (.velocityWrite r d v) s = .next (done (Reg.DOM_VEL_LO d) (Reg.DOM_VEL_HI d)
        (fun u => (u.setDom d { s.dom d with newVel := some 0 }).flag (Reg.DOM_STAT d) 14))) ∧
    (s.admits r (Reg.DOM_ACC_LO d) true = true → s.admits r (Reg.DOM_ACC_HI d) true = true → s.domSrc d = 5 →
      exec (.accelerationWrite r d v) s = .next (done (Reg.DOM_ACC_LO d) (Reg.DOM_ACC_HI d)
        (fun u => u.setDom d { s.dom d with newAcc := some (signed 48 v.toNat) }))) ∧
    (s.admits r (Reg.DOM_LOAD_LO d) true = true → s.admits r (Reg.DOM_LOAD_HI d) true = true → (s.dom d).state = .off →
      exec (.phaseLoad r d v) s = .next (done (Reg.DOM_LOAD_LO d) (Reg.DOM_LOAD_HI d)
        (fun u => (u.wrPair (Reg.DOM_LOAD_LO d) (Reg.DOM_LOAD_HI d) v).setDom d { s.dom d with phase := v, base := .hold v, segs := [], frac := 0 }))))

/-- QUAD (R54, R61): a forward count of a locked domain takes the edge above its position; the index pulse places it at edge 0 of a turn
in ACQUIRE, and a miss in LOCKED is flagged and recorded under a code the specification does not state. The model's own choices in it: log
entries 46, 36, 44. -/
def Obligations.QuadratureCountsAndIndex : Prop :=
  ∀ (s : State) (d : Fin 16) (k width : Nat), s.domTakes 0 d width = true →
    ((s.dom d).state = .locked → (s.dom d).posKnown = true → (s.dom d).taken ≤ (s.dom d).pos →
      (∀ y, (s.dom d).lastCount = some y → y ≤ s.stamp k ∧ 160 ≤ (s.stamp k - y).toNat) →
      ∃ t, exec (.quadCount d k false width) s = .next t ∧ t = s.setDom d (t.dom d) ∧ (t.dom d).state = .locked ∧
        (t.dom d).pos = (s.dom d).pos + 1 ∧ (t.dom d).e = s.arrive d ((s.dom d).pos + 1) false ∧ (t.dom d).te = s.stamp k ∧
        (t.dom d).f = s.arrive d ((s.dom d).pos + 2) false ∧ (t.dom d).phase = (s.dom d).phase) ∧
    (s.bit (Reg.DOM_INPUT d) 16 = true → (s.dom d).state = .acquire → (s.dom d).lastRev = false →
      ∃ t, exec (.qualifiedZ d k width) s = .next t ∧ t = (s.setDom d (t.dom d)).flag (Reg.DOM_STAT d) 16 ∧ (t.dom d).state = .locked ∧
        (t.dom d).posKnown = true ∧ (t.dom d).pos % s.domEdges d = 0 ∧ (t.dom d).e = s.arrive d (t.dom d).pos false ∧
        (t.dom d).phase = (s.dom d).phase) ∧
    (s.bit (Reg.DOM_INPUT d) 16 = true → (s.dom d).state = .locked → (s.dom d).lastRev = false → (s.dom d).pos % s.domEdges d ≠ 0 →
      exec (.qualifiedZ d k width) s = .next (((s.flag (Reg.DOM_STAT d) 10).raise 4 (s.freeNat 16) 4 0x03 d).drawn))

/-- TOOTH, PULSE, RESOLVER and FABRIC (R55, R56, R57, R60): a locked domain whose tolerance check is off takes the next present tooth, or
the next pulse, at its own stamp, and predicts the one after it; the 256th good resolver sample in a row locks, a bad one starts the run
anew; the increments of a tick sum modulo 2^32. The model's own choices in it: log entries 44, 50. -/
def Obligations.ToothPulseResolverAndFabricAdvance : Prop :=
  (∀ (s : State) (d : Fin 16) (k width : Nat), (s.dom d).state = .locked → s.domTol d = 0 →
    (∀ y, (s.dom d).lastTooth = some y → y ≤ s.stamp k) →
    (s.domTakes 1 d width = true →
      let c := (s.dom d).pos + s.toothAfter d (s.domEdges d) (s.dom d).slot
      ∃ t, exec (.toothEdge d k width) s = .next t ∧ t = s.setDom d (t.dom d) ∧ (t.dom d).state = .locked ∧ (t.dom d).pos = c ∧
        (t.dom d).e = s.arrive d c false ∧ (t.dom d).te = s.stamp k ∧ (t.dom d).slot = (c % s.domEdges d).toNat ∧
        (t.dom d).lastTooth = some (s.stamp k)) ∧
    (s.domTakes 2 d width = true →
      ∃ t, exec (.pulseEdge d k width) s = .next t ∧ t = s.setDom d (t.dom d) ∧ (t.dom d).state = .locked ∧
        (t.dom d).pos = (s.dom d).pos + 1 ∧ (t.dom d).e = s.arrive d ((s.dom d).pos + 1) false ∧ (t.dom d).te = s.stamp k ∧
        (t.dom d).lastTooth = some (s.stamp k))) ∧
  (∀ (s : State) (d : Fin 16) (k : Nat) (angle err : BitVec 32) (low : Bool), s.ticking = true →
    (s.domSrc d = 3 → (s.dom d).state = .acquire → err.toNat < s.fld (Reg.DOM_SRCB d) 0 16 * 2 ^ 16 → (s.dom d).good = 255 → loHalf (s.dom d).raw = (s.dom d).angle →
      ∃ t, exec (.resolverSample d k angle err low) s = .next t ∧ t = (s.setDom d (t.dom d)).flag (Reg.DOM_STAT d) 16 ∧
        (t.dom d).state = .locked ∧ loHalf (t.dom d).e = angle + s.domOfs d ∧ (t.dom d).phase = (s.dom d).phase) ∧
    (s.domSrc d = 3 → (s.dom d).state = .acquire → s.fld (Reg.DOM_SRCB d) 0 16 * 2 ^ 16 ≤ err.toNat →
      ∃ t, exec (.resolverSample d k angle err low) s = .next t ∧ t = s.setDom d (t.dom d) ∧ (t.dom d).state = .acquire ∧
        (t.dom d).good = 0 ∧ (t.dom d).phase = (s.dom d).phase) ∧
    (∀ rg : Fin 64, s.isolated (rg / 16) (rg % 16) = false →
      let l := s.spine.incs.get rg []
      exec (.fabricIncrement rg angle) s = .next { s with spine := { s.spine with
        incs := s.spine.incs.set rg ((l.headD 0 + angle.toNat) % 2 ^ 32 :: l.tail) [] } }))

/-- Time-outs of a domain (R12, R68, R70): no edge for STALL_TIMEOUT ends in STALLED, HOLDOVER_MAX ends in STALLED, lost frames begin
HOLDOVER; `chg` is set, and nothing else changes. The model's own choices in it: log entry 4. -/
def Obligations.DomainTimeoutsChangeState : Prop :=
  ∀ (s : State) (d : Fin 16),
    (∀ lim, (s.dom d).state = .locked → s.domSrc d ≠ 4 → s.domSrc d ≠ 5 → s.stallLimit d = some lim →
      lim ≤ (s.tickEnd - (s.dom d).act).toNat →
      ∃ t, exec (.stallTimeout d) s = .next t ∧ t = (s.setDom d (t.dom d)).flag (Reg.DOM_STAT d) 16 ∧ (t.dom d).state = .stalled ∧
        (t.dom d).phase = (s.dom d).phase) ∧
    ((s.dom d).state = .holdover → (s.dom d).arrived = false → s.fld (Reg.DOM_HOLDMAX d) 0 24 * 512 ≤ (s.dom d).holdTicks + 1 →
      ∃ t, exec (.holdoverTimeout d) s = .next t ∧ t = (s.setDom d (t.dom d)).flag (Reg.DOM_STAT d) 16 ∧ (t.dom d).state = .stalled ∧
        (t.dom d).phase = (s.dom d).phase) ∧
    ((s.dom d).state = .locked → s.domSrc d = 4 → s.fld (Reg.DOM_HOLDMAX d) 0 24 ≠ 0 →
      ∃ t, exec (.linkFrameLoss d) s = .next t ∧ t = (s.setDom d (t.dom d)).flag (Reg.DOM_STAT d) 16 ∧ (t.dom d).state = .holdover ∧
        (t.dom d).frames = 0 ∧ (t.dom d).phase = (s.dom d).phase) ∧
    ((s.dom d).state = .locked → s.domSrc d = 4 → s.fld (Reg.DOM_HOLDMAX d) 0 24 = 0 →
      ∃ t, exec (.linkFrameLoss d) s = .next t ∧ t = (s.setDom d (t.dom d)).flag (Reg.DOM_STAT d) 16 ∧ (t.dom d).state = .stalled)

/-- Calendar writes (R26, R93 to R96, R100, R101, R104): a table word reaches the slices it names at the next tick boundary, in arrival
order, and ENTRY_ARM writes word 7 with its `armed` bit set; a read of word 0 captures all eight words for the requester; staged
operations, group commands and CAL_CTL wait in the slice and their writes complete OK. The model's own choices in it: log entries 52, 57.
-/
def Obligations.CalendarTableAndCommandsWait : Prop :=
  (∀ (s : State) (r : Requester) (die : Fin 8) (entry : Fin 16448) (word : Fin 8) (w : BitVec 32),
    let addr := calAddr die entry word
    (((die : Nat) < 4 ∨ (die : Nat) = 7) → (∀ d ∈ viewDies die, s.admitsView r d 4 (some (128 + d)) addr true = true) →
      exec (.entryWrite r die entry word w) s = .next { s with calWrites := s.calWrites ++ [(viewDies die, .word entry word w r.code addr)] }) ∧
    (((die : Nat) < 4 ∨ (die : Nat) = 7) → (∀ d ∈ viewDies die, s.admitsView r d 4 (some (128 + d)) (calAddr die entry 7) true = true) →
      exec (.entryArm r die entry w) s =
        .next { s with calWrites := s.calWrites ++ [(viewDies die, .word entry 7 (w ||| 1) r.code (calAddr die entry 7))] }) ∧
    ((die : Nat) < 4 → r.code ≠ 16 → s.admitsView r die 4 (some (128 + die)) (calAddr die entry 0) false = true →
      ∃ t, exec (.entryRead r die entry) s = .next t ∧ t = { s with bus := t.bus } ∧
        t.bus.reply = some (.ok, loHalf (s.entry die entry).target) ∧
        t.bus.wide.get (calCapKey die r.code) [] = BitVec.ofNat 32 entry :: (List.range 8).map (s.entry die entry).word)) ∧
  (∀ (s : State) (r : Requester) (die : Fin 4),
    (∀ entry : Fin 16384, s.admits r (Reg.CAL_STG_CMD die) true = true → (s.slice die).stage = none →
      exec (.stagedWrite r die entry) s = .next (((s.wr (Reg.CAL_STG_CMD die) (BitVec.ofNat 32 (entry + 0x10000))).setSlice die
        { s.slice die with stage := some (true, entry) }).wrote r (Reg.CAL_STG_CMD die)) ∧
      exec (.stagedRead r die entry) s = .next (((s.wr (Reg.CAL_STG_CMD die) (BitVec.ofNat 32 (entry + 0x20000))).setSlice die
        { s.slice die with stage := some (false, entry) }).wrote r (Reg.CAL_STG_CMD die))) ∧
    (∀ (grp : Fin 16) (timed : Bool), s.admits r (Reg.CAL_GCMD die) true = true → (s.slice die).gcmd = none →
      let at_ := s.rdPair (Reg.CAL_GCMD_AT_LO die) (Reg.CAL_GCMD_AT_HI die)
      (timed = true → s.tickEnd < at_) →
      let after (op : Nat) : State := ((s.wr (Reg.CAL_GCMD die) (groupWord op grp timed &&& 0x7F)).setSlice die
        { s.slice die with gcmd := some (op, grp, if timed then some at_ else none) }).wrote r (Reg.CAL_GCMD die)
      exec (.groupArm r die grp timed) s = .next (after 0) ∧ exec (.groupDisarm r die grp timed) s = .next (after 1) ∧
      exec (.groupShift r die grp timed) s = .next (after 2)) ∧
    (∀ w : BitVec 32, s.admits r (Reg.CAL_CTL die) true = true →
      exec (.calendarEnable r die w) s = .next (State.wrote { (s.wr (Reg.CAL_CTL die) (w &&& 0x1F)) with
        calWrites := s.calWrites ++ [([(die : Nat)], .enable (wbit w 0))] } r (Reg.CAL_CTL die))))

/-- The end of a pulse or window that falls in the tick (R91, R118), and the actions whose tick has come (R81): the line goes to its
inactive level, the window closes and, where its unit records windows, is captured, and of a unit that drains to a queue the end is kept,
which flushes at once where no record waits; a domain command and a record arrive. The model's own choices in it: log entry 63. -/
def Obligations.CalendarEndsAndDeliveries : Prop :=
  ∀ (s : State) (die : Fin 4),
    (∀ (n : Fin 256) (x : DWord) (idle : Bool), ((s.slice die).lines.get n {}).pulse = some (.time x, idle) → x ≤ s.tickEnd →
      later x (s.now + 1) ≤ s.tickEnd →
      ∃ t, exec (.pulseEnd die true n) s = .next t ∧ t = s.setSlice die (t.slice die) ∧
        ((t.slice die).lines.get n {}).pulse = none ∧ ((t.slice die).lines.get n {}).level = idle ∧
        ∀ m, m ≠ (n : Nat) → (t.slice die).lines.get m {} = (s.slice die).lines.get m {}) ∧
    (∀ (n : Fin 240) (x : DWord) (idle : Bool), (s.unit die n).line.pulse = some (.time x, idle) → x ≤ s.tickEnd →
      later x (s.now + 1) ≤ s.tickEnd →
      ∃ t, exec (.pulseEnd die false ⟨n, by omega⟩) s = .next t ∧ t = { s with tio := t.tio, csr := t.csr } ∧
        (t.unit die n).line.pulse = none ∧ (t.unit die n).line.level = idle) ∧
    (∀ (n : Fin 240) (x : DWord), (s.unit die n).window = some (.time x) → x ≤ s.tickEnd → later x (s.now + 1) ≤ s.tickEnd →
      let q (u : Tio) : Tio := if wfld u.ctl 12 2 = 3 then { u with ends := u.ends ++ [u.popped + u.caps.length] } else u
      (wbit (s.unit die n).ctl 11 = false → exec (.windowClose die n) s =
        .next ((s.setUnit die n (q { s.unit die n with window := none })).windowFlush die n)) ∧
      (wbit (s.unit die n).ctl 11 = true → (s.unit die n).caps.length < 32 →
        let y := later x (s.now + 1)
        exec (.windowClose die n) s = .next (s.setUnit die n (q { s.unit die n with
          window := none, gap := false,
          caps := (s.unit die n).caps ++ [{ dt := y, kind := 2, gap := (s.unit die n).gap, lvl := (s.unit die n).seen, phase := s.phaseAt (wfld (s.unit die n).ctl 4 4) y }] })))) ∧
    (∀ (k : Nat) (f : Flight) (rest : List (Nat × Flight)), s.flights = (k, f) :: rest → k ≤ s.tick → (∀ g ∈ rest, s.tick < g.1) →
      let u : State := { s with flights := rest }
      (∀ x, f = .record x → exec .calendarActionDelivery s = .next { u with raised := s.raised ++ [x] }) ∧
      (∀ e d, f = .domain die e d 1 → u.domInvalid d 1 = false →
        exec .calendarActionDelivery s = .next (u.setDom d { s.dom d with cmds := (s.dom d).cmds ++ [.enable] })))

/-- Accesses of a timed I/O unit (R111, R112, R121, R128, R132, R134, R137, R139): a TIO_CTL value, a flush, an offset and a pattern word
wait for the tick boundary, an output entry joins the FIFO and shadows become usable; TIO_CAP0 captures the head of the capture FIFO for
the requester, TIO_CAP3 removes it, and a drain to a Region port removes it. The model's own choices in it: log entries 69, 71. -/
def Obligations.TimedIoWritesWaitAndCapturesLeave : Prop :=
  (∀ (s : State) (r : Requester) (die : Fin 4) (pin : Fin 240) (w : BitVec 32),
    let u := s.unit die pin
    (s.admits r (Reg.TIO_CTL die pin) true = true → s.takenOver die pin = false → s.fld (Reg.TIO_CTL die pin) 0 4 ≠ 1 → s.fld (Reg.TIO_CTL die pin) 0 4 ≠ 2 →
      let v : Word := BitVec.ofNat 32 (w.toNat % 2 ^ 18)
      exec (.tioModeChange r die pin w) s =
        .next (State.wrote { s.wr (Reg.TIO_CTL die pin) v with tioWrites := s.tioWrites ++ [.ctl die pin v] } r (Reg.TIO_CTL die pin))) ∧
    (s.admits r (Reg.TIO_OFLUSH die pin) true = true →
      exec (.outputFifoFlush r die pin) s = .next ((s.setUnit die pin { u with flush := true }).wrote r (Reg.TIO_OFLUSH die pin))) ∧
    (s.admits r (Reg.TIO_PW_UPD die pin) true = true →
      exec (.pwmUpdate r die pin) s =
        .next ((s.setUnit die pin { u with upd := some (u.upd.getD s.tickEnd) }).wrote r (Reg.TIO_PW_UPD die pin))) ∧
    (s.admits r (Reg.TIO_EMU_OFS die pin) true = true →
      exec (.emulationOffsetWrite r die pin w) s =
        .next (State.wrote { s.store (Reg.TIO_EMU_OFS die pin) w with tioWrites := s.tioWrites ++ [.offset die pin w] } r (Reg.TIO_EMU_OFS die pin))) ∧
    (∀ n : Fin 128, s.admits r (Reg.TIO_PAT die n) true = true →
      exec (.patternWrite r die n w) s =
        .next (State.wrote { s with tioWrites := s.tioWrites ++ [.pattern die n w] } r (Reg.TIO_PAT die n))) ∧
    (∀ (v : BitVec 64) (op : OutOp), s.admits r (Reg.TIO_OUT_LO die pin) true = true → s.admits r (Reg.TIO_OUT_HI die pin) true = true →
      s.fld (Reg.TIO_CTL die pin) 0 4 = 3 → [OutOp.low, .high, .toggle, .release, .drive][v.toNat / 2 ^ 60]? = some op → u.outq.length < 16 →
      exec (.outputFifoWrite r die pin v) s = .next (((((s.setHeld (slot (Reg.TIO_OUT_LO die pin) r.code) none).wrote r (Reg.TIO_OUT_LO die pin)).setUnit
        die pin { u with outq := u.outq ++ [(v.toNat % 2 ^ 60, op)] })).wrote r (Reg.TIO_OUT_HI die pin)))) ∧
  (∀ (s : State) (r : Requester) (die : Fin 4) (pin : Fin 240) (c : Capture) (rest : List Capture),
    (s.unit die pin).caps = c :: rest →
    let u := s.unit die pin
    let k := slot (Reg.TIO_CAP0 die pin) r.code
    let popped : State → State := fun x => x.setUnit die pin { u with
      caps := rest, popped := u.popped + 1, ends := u.ends.filter (fun e => decide (u.popped + 1 < e)) }
    (r.code ≠ 16 → s.admits r (Reg.TIO_CAP0 die pin) false = true →
      exec (.captureHeadRead r die pin) s = .next ((s.setWide k [BitVec.ofNat 32 u.popped, c.word 0, c.word 1, c.word 2, c.word 3]).fetched r
        (Reg.TIO_CAP0 die pin) (c.word 0))) ∧
    (r.code ≠ 16 → s.admits r (Reg.TIO_CAP3 die pin) false = true → s.bus.wide.get k [] = [] →
      exec (.capturePop r die pin) s = .next ((popped s).fetched r (Reg.TIO_CAP3 die pin) (c.word 3))) ∧
    (∀ ws, r.code ≠ 16 → s.admits r (Reg.TIO_CAP3 die pin) false = true → s.bus.wide.get k [] = BitVec.ofNat 32 u.popped :: ws →
      exec (.capturePop r die pin) s = .next ((popped (s.setWide k [])).fetched r (Reg.TIO_CAP3 die pin) (ws.getD 3 0))) ∧
    (let rg := s.fld (Reg.TIO_DRN die pin) 0 4
     wfld u.ctl 12 2 = 1 → s.isolated die rg = false → s.captureTurn die rg = some (pin : Nat) →
      exec (.recordDrain die pin) s = .next (popped (s.captureDeliver die rg pin c.bytes))))

/-- Events of a timed I/O unit (R109, R117, R121, R128, R130): an outside edge reaches the unit, a measurement without an edge times out
into a record, a due output entry drives the line, shadows move at a period start, and an encoder output steps by one count. The model's
own choices in it: log entries 66, 65. -/
def Obligations.TimedIoEvents : Prop :=
  ∀ (s : State) (die : Fin 4) (pin : Fin 240),
    let u := s.unit die pin
    (∀ (k width : Nat) (level : Bool), u.ext ≠ some level → 8 ≤ width →
      let t := s.setUnit die pin { u with ext := some level, ext0 := if u.edges = [] then u.ext else u.ext0, edges := u.edges ++ [(s.stamp k, level)] }
      t.linesOf die pin 0x90 = [] → t.linesOf die pin 0xA0 = [] → exec (.inputEdge die pin k level width) s = .next t) ∧
    (∀ a : DWord, u.mode = 2 → s.mto die pin ≠ 0 → u.active = some a → u.caps.length < 32 →
      (∀ m ∈ s.padTransitions die pin, u.active? m.2 = false) →
      let x := a + BitVec.ofNat 64 ((u.timeouts + 1) * s.mto die pin)
      let input := (((s.padTransitions die pin).filter (fun m => decide (m.1 ≤ x))).getLast?.map (·.2)).getD u.input
      let lvl := input != wbit u.ctl 14
      x ≤ s.tickEnd →
      exec (.measurementTimeout die pin) s = .next ((s.setUnit die pin { u with
        timeouts := u.timeouts + 1, period := none, gap := false,
        caps := u.caps ++ [{ dt := x, kind := 3, gap := u.gap, lvl, phase := if lvl then 0xFFFFFFFFFFFFFFFF else 0xFFFFFFFF00000000 }] }).flag
          (Reg.TIO_STAT die pin) 23)) ∧
    (∀ (x : Nat) (op : OutOp), u.mode = 3 → s.unitFrozen die pin = false → u.outq = [(x, op)] → u.line.pulse = none →
      let first := s.now + 1
      let ahead := (x + 2 ^ 60 - first.toNat % 2 ^ 60) % 2 ^ 60
      (2 ^ 59 ≤ ahead ∨ first + BitVec.ofNat 64 ahead ≤ s.tickEnd) →
      ∃ t, exec (.outputFifoRelease die pin) s = .next t ∧ t = { s with tio := t.tio, csr := t.csr } ∧ (t.unit die pin).outq = [] ∧
        ((t.unit die pin).line.level, (t.unit die pin).line.oe) = (match op with
          | .low => (false, u.line.oe) | .high => (true, u.line.oe) | .toggle => (!u.line.level, u.line.oe)
          | .release => (u.line.level, false) | .drive => (u.line.level, true)) ∧
        (2 ^ 59 ≤ ahead → t.bit (Reg.TIO_STAT die pin) 14 = true)) ∧
    (∀ (k : Nat) (b : DWord), u.mode = 4 → u.upd = some b → b < s.stamp k → u.org ≤ s.stamp k →
      (s.stamp k - u.org).toNat % max u.per 1 = 0 →
      ∃ t, exec (.pwmShadowMove die pin k) s = .next t ∧ t = { s with tio := t.tio, csr := t.csr, raised := t.raised } ∧
        (t.unit die pin).upd = none ∧ (t.unit die pin).org = s.stamp k ∧
        ((t.unit die pin).per, (t.unit die pin).pa, (t.unit die pin).pb) =
          ((s.pwmShadow die pin 4).1, (s.pwmShadow die pin 4).2.1, (s.pwmShadow die pin 4).2.2.1)) ∧
    (∀ k : Nat, u.mode = 6 → 0 < s.encGap die pin ((s.dom (wfld u.ctl 4 4)).ph s.now s.spine.len k) →
      u.stepAt + BitVec.ofNat 64 (max (s.fld (Reg.TIO_ENC_SP die pin) 0 12) 64) ≤ s.now + BitVec.ofNat 64 k →
      ∃ t, exec (.encoderCountStep die pin k) s = .next t ∧ t = { s with tio := t.tio, csr := t.csr, ez := t.ez } ∧
        (t.unit die pin).count = u.count + 1 ∧ (t.unit die pin).stepAt = s.now + BitVec.ofNat 64 k)

/-- Pads and crossbar (R143, R147, R149, R159, R160, R166): an unlocked idle pin begins its changeover at the next pad-control edge and
has its new function 128 dtu later; crossbar settings are taken; a different value for a locked pin changes nothing and is recorded;
PAD_SNAP0 captures the levels of all pins for the requester, and a conversion joins its channel's average or becomes its data. -/
def Obligations.PadsChangeAtTheirEdgesAndAreObserved : Prop :=
  (∀ (s : State) (r : Requester) (die : Fin 4) (pin : Fin 240) (w : BitVec 32), s.lockSeq die = none →
    let q := s.pad die pin
    (s.admits r (Reg.PAD_FUNC die pin) true = true → q.lock = none → q.busy s.now = false → (funcOf pin (wfld w 0 4)).2 = false →
      q.newest pin ≠ ((funcOf pin (wfld w 0 4)).1, wfld w 4 4) →
      let e := edgeAfter s.now
      let f := (funcOf pin (wfld w 0 4)).1
      let u := s.wr (Reg.PAD_FUNC die pin) (BitVec.ofNat 32 (w.toNat % 256))
      exec (.padFunctionWrite r die pin w) s = .next ((u.setPad die pin { q with
        asked := if q.wait.isSome then none else some (e, f, wfld w 4 4), phases := (e + 128, .fn f (wfld w 4 4)) ::
        (e, .leave (q.newest pin).1 (q.newest pin).2 e (u.drives die pin f (wfld w 4 4))) :: q.live s.padHorizon }).wrote r (Reg.PAD_FUNC die pin))) ∧
    (s.admits r (Reg.PAD_FUNC die pin) true = true → q.lock.isSome = true → BitVec.ofNat 32 (w.toNat % 256) ≠ s.rd (Reg.PAD_FUNC die pin) →
      exec (.padFunctionWrite r die pin w) s = .next ((s.raise 3 0x0002 die 0x06 pin).wrote r (Reg.PAD_FUNC die pin))) ∧
    (s.admits r (Reg.XBAR_SRC die pin) true = true → q.lock = none → ¬(0x1A8 ≤ wfld w 0 9 ∧ wfld w 0 9 ≤ 0x1AF) →
      exec (.crossbarSourceWrite r die pin w) s = .next (((s.wr (Reg.XBAR_SRC die pin) (BitVec.ofNat 32 (wfld w 0 9))).setPad die pin
        { q with srcs := ((edgeAfter s.now, wfld w 0 9) :: q.srcs.filter (fun x => x.1 != edgeAfter s.now)).take 8 }).wrote r (Reg.XBAR_SRC die pin))) ∧
    (s.admits r (Reg.XBAR_IN die pin) true = true → q.lock = none → wfld w 0 9 ≤ 0x82 →
      exec (.crossbarInputWrite r die pin w) s =
        .next ((s.wr (Reg.XBAR_IN die pin) (BitVec.ofNat 32 (wfld w 0 9 + b2n (wbit w 15) * 2 ^ 15))).wrote r (Reg.XBAR_IN die pin))) ∧
    (∀ f sel e ph rest, q.wait = some (f, sel) → q.phases = (e, ph) :: rest → q.busy s.now = false → q.newest pin ≠ (f, sel) →
      exec (.changeoverEnd die pin) s = .next (s.setPad die pin { q with wait := none, phases := (e + 128, .fn f sel) ::
        (e, .leave (q.newest pin).1 (q.newest pin).2 e (s.drives die pin f sel)) :: q.live s.padHorizon }))) ∧
  (∀ (s : State) (die : Fin 4),
    (∀ r : Requester, r.code ≠ 16 → s.lockSeq die = none → s.admits r (Reg.PAD_SNAP die 0) false = true →
      exec (.padSnapshotRead r die) s = .next ((s.setWide (slot (Reg.PAD_SNAP die 0) r.code) (s.snapshot die)).fetched r (Reg.PAD_SNAP die 0)
        ((s.snapshot die).getD 0 0))) ∧
    (∀ (code : BitVec 12) (n sum cnt : Nat), s.adcChannel die (s.pins.adcNext.get die 0) = some n →
      s.pins.adcSum.get (die * 10 + n) (0, 0) = (sum, cnt) →
      let total := 2 ^ s.fld (Reg.ADC_CTL die) 10 3
      let next : SMap Nat := s.pins.adcNext.set die ((n + 1) % 10) 0
      (cnt + 1 < total → exec (.adcConversion die code) s = .next { s with pins := { s.pins with
        adcNext := next, adcSum := s.pins.adcSum.set (die * 10 + n) (sum + code.toNat, cnt + 1) (0, 0) } }) ∧
      (total ≤ cnt + 1 → exec (.adcConversion die code) s = .next (State.wr { s with pins := { s.pins with
        adcNext := next, adcSum := s.pins.adcSum.set (die * 10 + n) (0, 0) (0, 0) } } (Reg.ADC_DATA die n)
          (BitVec.ofNat 32 ((sum + code.toNat) / total + 2 ^ 16))))))

/-- The lock sequence (R165, R166): tag 1 begins it for its requester and pin, tag 2 of the same requester and pin goes on, and that
requester's read locks the pin with the set-up as it stands. -/
def Obligations.PadLockSequence : Prop :=
  ∀ (s : State) (r : Requester) (die : Fin 4) (pin : Fin 240), 
    (s.admits r (Reg.PAD_LOCK die) true = true → (∀ x, s.lockSeq die = some x → x.1 = r.code) →
      ∃ t : State, exec (.padLockTag1 r die ⟨pin, by omega⟩) s = .next (t.wrote r (Reg.PAD_LOCK die)) ∧
        t = { s with pins := t.pins, csr := t.csr } ∧ t.lockSeq die = some (r.code, (pin : Nat), 1) ∧ t.pins.pads = s.pins.pads) ∧
    (s.admits r (Reg.PAD_LOCK die) true = true → s.lockSeq die = some (r.code, (pin : Nat), 1) →
      ∃ t : State, exec (.padLockTag2 r die ⟨pin, by omega⟩) s = .next (t.wrote r (Reg.PAD_LOCK die)) ∧
        t = { s with pins := t.pins, csr := t.csr } ∧ t.lockSeq die = some (r.code, (pin : Nat), 2) ∧ t.pins.pads = s.pins.pads) ∧
    (s.admits r (Reg.PAD_LOCK die) false = true → s.lockSeq die = some (r.code, (pin : Nat), 2) → (s.pad die pin).lock = none →
      ∃ v, exec (.padLockRead r die) s = .next (((s.setLockSeq die none).setPad die pin { s.pad die pin with
          lock := some [s.rd (Reg.PAD_FUNC die pin), s.rd (Reg.PAD_CFG die pin), s.rd (Reg.XBAR_SRC die pin), s.rd (Reg.XBAR_IN die pin)] }).fetched r
        (Reg.PAD_LOCK die) v))

/-- Block memories and crossing FIFOs (R181 to R187): in a Region that is clocked a read takes the addressed word as it stands, a write
stores the lanes its mask enables; a word enters behind those held and leaves in order; a reset of a block memory empties its FIFO and
holds each side until the other has acknowledged. -/
def Obligations.FabricMemoriesKeepWords : Prop :=
  ∀ (s : State) (die : Fin 4) (rg : Fin 16) (m : Fin 288), s.clocked die rg = true →
    let mem := fabricMem die rg m
    let x := s.xfifo mem
    (∀ p : PortAccess, p.en = true → p.write = false → aspectOk mem false p = true → isDeep mem = false →
      ∃ t, exec (.blockMemoryAccess die rg m false false (some p) none) s = .next t ∧ t = { s with fabric := { s.fabric with outs := t.fabric.outs } } ∧
        (t.memOut mem 0).latch = s.memWord mem p ∧ (t.memOut mem 0).reg = (s.memOut mem 0).latch ∧ t.memOut mem 1 = s.memOut mem 1) ∧
    (∀ p : PortAccess, p.en = true → p.write = true → p.width = 36 → p.addr < 1024 → isDeep mem = false →
      ∃ t, exec (.blockMemoryAccess die rg m false false (some p) none) s = .next t ∧
        t = { s with fabric := { s.fabric with outs := t.fabric.outs, lanes := t.fabric.lanes } } ∧
        (∀ i < 4, t.laneVal mem (4 * p.addr + i) =
          if p.mask / 2 ^ i % 2 = 1 then p.data / 2 ^ (9 * i) % 512 else s.laneVal mem (4 * p.addr + i)) ∧
        (∀ l, (l < 4 * p.addr ∨ 4 * p.addr + 4 ≤ l) → t.laneVal mem l = s.laneVal mem l)) ∧
    (∀ width data crossed : Nat, isDeep mem = false → width ∈ [9, 18, 36, 72] → (x.width = 0 ∨ x.width = width) → x.initW = false →
      x.held.length + (x.owed - crossed) < fifoDepth width →
      exec (.crossingFifoWrite die rg m width data crossed) s =
        .next (s.setXfifo mem { x with owed := x.owed - crossed, width := width, held := x.held ++ [data % 2 ^ width], hidden := x.hidden + 1 })) ∧
    (∀ (crossed v : Nat) (rest : List Nat), isDeep mem = false → x.width ∈ [9, 18, 36, 72] → x.initR = false → x.held = v :: rest →
      x.hidden - crossed ≤ rest.length →
      exec (.crossingFifoRead die rg m crossed) s =
        .next (s.setXfifo mem { x with hidden := x.hidden - crossed, held := rest, last := v, owed := x.owed + 1 })) ∧
    (isDeep mem = false →
      exec (.crossingFifoReset die rg m .request) s = .next (s.setXfifo mem { last := x.last, initW := true, initR := true, width := x.width })) ∧
    (isDeep mem = false → exec (.crossingFifoReset die rg m (.acknowledged false)) s = .next (s.setXfifo mem { x with initW := false })) ∧
    (isDeep mem = false → exec (.crossingFifoReset die rg m (.acknowledged true)) s = .next (s.setXfifo mem { x with initR := false }))

/-- A MAC slice of a clocked Region (R189 to R192): it adds the product to its addend, or subtracts it, fits the sum, moves the result
out, passes its U on, and leaves every other slice alone. -/
def Obligations.MacSliceAccumulates : Prop :=
  ∀ (s : State) (die : Fin 4) (rg : Fin 16) (slice : Fin 192) (o : MacOp), s.clocked die rg = true →
    let key : Nat := 256 * (16 * die + rg) + slice
    let x := s.mac key
    let u := if o.chain = false then o.u else if (slice : Nat) % 16 = 0 then BitVec.ofNat 24 (s.freeNat 24) else (s.mac (key - 1)).u
    let p := preAdd o.sel o.shr o.rnd u o.v
    let addend : Int := if o.src = 0 then 0 else if o.src = 1 then x.acc.toInt else if o.src = 2 then o.w.toInt
      else if (slice : Nat) % 16 = 0 then 0 else (s.mac (key - 1)).acc.toInt
    let sum := fit o.sat (if o.neg then addend - p.1.toInt * o.k.toInt else addend + p.1.toInt * o.k.toInt)
    let out := moveOut o.scl o.rnd o.sat sum.1
    ∃ t, exec (.macOperation die rg slice o) s = .next t ∧ t = { s with fabric := { s.fabric with macs := t.fabric.macs }, free := t.free } ∧
      t.mac key = { acc := sum.1, q := out.1, lim := !o.reset && (x.lim || p.2 || out.2), v := !o.reset && (x.v || sum.2), u } ∧
      ∀ j, j ≠ key → t.mac j = s.mac j

/-- Restore of initial values (R178, R179): the Regions named begin, but for one that REGION_RESET holds, LP_RESTORE reads busy, and at
the end none is restoring. -/
def Obligations.RestoreBeginsAndEnds : Prop :=
  ∀ (s : State) (r : Requester) (die : Fin 4) (mask : BitVec 16),
    (s.admits r (Reg.LP_RESTORE die) true = true → s.bit (Reg.LP_RESTORE die) 31 = false →
      (∀ rg : Fin 16, mask.getLsbD rg = true → s.reconfiguring die rg = false ∧ s.restoringRg die rg = false) →
      ∃ t : State, exec (.initialValueRestore r die mask) s = .next (t.wrote r (Reg.LP_RESTORE die)) ∧
        t = { s.wr (Reg.LP_RESTORE die) (mask.setWidth 32 ||| 0x80000000) with fabric := { s.fabric with restoring := t.fabric.restoring } } ∧
        ∀ rg : Fin 16, t.restoringRg die rg = ((mask.getLsbD rg && !(s.region die rg).reset) || s.restoringRg die rg)) ∧
    (∃ t, exec (.restoreComplete die) s = .next t ∧ t.bit (Reg.LP_RESTORE die) 31 = false ∧ (∀ rg : Fin 16, t.restoringRg die rg = false) ∧
      t = { s with csr := t.csr, fabric := { s.fabric with
        restoring := t.fabric.restoring, outs := t.fabric.outs, ran := t.fabric.ran, cells := t.fabric.cells, loupe := t.fabric.loupe } })

/-- Loupe (R198 to R206): GO arms the Regions of its profile, a capture edge takes the last of them and holds, Regions not captured in
time are marked, RELEASE clears, and a held run is queued for readout. The model's own choices in it: log entries 84, 4. -/
def Obligations.LoupeRuns : Prop :=
  ∀ (s : State) (r : Requester) (die : Fin 4),
    let l := s.loupe die
    (∀ prof : Fin 16, s.admits r (Reg.LP_CMD die) true = true → wbit (s.rd (Reg.LP_PROF die prof)) 31 = true → s.bit (Reg.LP_CTL die) 0 = true →
      s.loupeAllowed = true → l.state = .idle → (∀ rg : Fin 16, s.reconfiguring die rg = false) → wfld (s.rd (Reg.LP_PROF die prof)) 0 16 ≠ 0 →
      exec (.loupeGo r die prof) s = .next (((s.wr (Reg.LP_CMD die) (BitVec.ofNat 32 prof)).setLoupe die { l with
        state := .pending, prof := prof, waits := (List.range 16).filter (fun rg => wbit (s.rd (Reg.LP_PROF die prof)) rg),
        from_ := s.now, restored := [], shadows := [], rank := 2, took := s.now }).wrote r (Reg.LP_CMD die))) ∧
    (∀ (k rg : Nat), l.state = .pending → l.waits = [rg] → l.from_ ≤ s.stamp k → s.restoringRg die rg = false → rg < 16 → s.reconfiguring die rg = false →
      gckMayEdge die (wfld (s.rd (Reg.LP_PROF die l.prof)) 16 5) (wbit (s.rd (Reg.LP_PROF die l.prof)) 21) (s.stamp k) = true →
      ∃ t, exec (.loupeCaptureEdge die k false) s = .next t ∧ (t.loupe die).state = .held ∧ (t.loupe die).waits = [] ∧
        ((t.loupe die).shadows.get rg {}).dt = s.stamp k ∧ ((t.loupe die).shadows.get rg {}).nocap = false ∧
        t = { s with csr := t.csr, fabric := { s.fabric with loupe := t.fabric.loupe, ran := t.fabric.ran, cells := t.fabric.cells }, free := s.free + 1 }) ∧
    (∀ rg : Nat, s.clk.hold = false → l.state = .pending → l.waits = [rg] →
      ∃ t, exec (.loupeCaptureTimeout die) s = .next t ∧ (t.loupe die).state = .held ∧ (t.loupe die).waits = [] ∧
        ((t.loupe die).shadows.get rg {}).nocap = true ∧ (rg < 16 → t.bit (Reg.LP_NOCAP die) rg = true)) ∧
    (s.admits r (Reg.LP_CMD die) true = true → l.state = .held →
      ∃ t : State, exec (.loupeRelease r die) s = .next (t.wrote r (Reg.LP_CMD die)) ∧ t.loupe die = { due := l.due } ∧ t.rd (Reg.LP_NOCAP die) = 0) ∧
    (s.admits r (Reg.LP_CMD die) true = true → l.state = .held → s.loupeAllowed = true → (s.queue (s.fld (Reg.LP_QRD die) 0 13)).state ≠ .disabled →
      ∃ t : State, exec (.loupeQueueReadout r die) s = .next (t.wrote r (Reg.LP_CMD die)) ∧
        t.loupe die = { l with state := .readout, queue := s.fld (Reg.LP_QRD die) 0 13 } ∧
        t.live.ports.get die [] = s.live.ports.get die [] ++ [.readout]) ∧
    (l.state = .readout → (s.live.ports.get die []).head? = some .readout → wfld (s.rd (Reg.LP_NOCAP die)) 16 16 = 0 →
      ∃ t, exec (.readoutComplete die) s = .next t ∧ (t.loupe die).state = .held ∧ t.live.ports.get die [] = (s.live.ports.get die []).tail)

/-- Modules between dies (R20, R22, R42, R326): both ends of a module come up together, with the event at each end; a training that runs
out of time leaves both ends in DOWN_TRAIN with the loss recorded; a retrain puts both ends back to training; heartbeat loss takes both
ends down; after each of these the cuts are judged (a die without a whole route is isolated or lost). A descriptor that fits is kept word
for word and fixes the rate and the format; one that fails its check is counted, and the fourth in a row takes the end down. The model's
own choices in it: log entries 102, 104, 105. -/
def Obligations.ModulesTrainAndFail : Prop :=
  ∀ (s : State) (m : Fin 15),
    let a := (moduleEnds2 m).1
    let b := (moduleEnds2 m).2
    (s.modState a m = 1 → s.modState b m = 1 →
      ∃ t : State, exec (.moduleUp m false) s = .next t.cdReturns ∧ t = { s with csr := t.csr, net := t.net, dies := t.dies } ∧
        t.modState a m = 0 ∧ t.modState b m = 0 ∧
        t.bit (Reg.D2D_EVT a m) 1 = true ∧ t.bit (Reg.D2D_EVT b m) 1 = true ∧ t.bit (Reg.D2D_CTL a m) 1 = false ∧ t.bit (Reg.D2D_CTL b m) 1 = false) ∧
    (s.modState a m = 1 → s.modState b m = 1 →
      ∃ t : State, exec (.trainingTimeout m) s = .next (t.cutsJudged m).cdCutOff.lateMissing ∧ t = { s with csr := t.csr, net := t.net, raised := t.raised } ∧
        t.modState a m = 2 ∧ t.modState b m = 2 ∧ t.bit (Reg.D2D_EVT a m) 0 = true ∧ t.bit (Reg.D2D_EVT b m) 0 = true ∧
        t.raised.map (fun e => (e.sev, e.code, e.die, e.inst)) = s.raised.map (fun e => (e.sev, e.code, e.die, e.inst)) ++
          [(5, errCode 10 8, a, (m : Nat)), (5, 0x000E, a, (m : Nat)), (5, errCode 10 8, b, (m : Nat)), (5, 0x000E, b, (m : Nat))]) ∧
    (∀ (r : Requester) (die : Fin 6) (w : BitVec 32), s.admits r (Reg.D2D_CTL die m) true = true → hasModule die m = true →
      ∃ t : State, exec (.moduleRetrain r die m w) s = .next ((t.cutsJudged m).wrote r (Reg.D2D_CTL die m)) ∧ t = { s with csr := t.csr, net := t.net } ∧
        t.modState a m = 1 ∧ t.modState b m = 1 ∧ t.bit (Reg.D2D_CTL die m) 1 = true) ∧
    (∀ (die : Fin 6) (d : List (BitVec 8)), hasModule die m = true → s.modState die m = 1 →
      let own := s.descriptor die m
      let key := 8 * (m : Nat) + die
      (crcBytes (d.take 60) = dfld d 0x3C 4 → dfld d 0x00 2 = 0x4D4C → dfld d 0x03 1 = 1 →
        (s.mandatoryMask die m) &&& advertised d = s.mandatoryMask die m → (dfld d 0x0F 1 % 32) &&& advertised own = dfld d 0x0F 1 % 32 →
        ∀ rate format, topBit (dfld d 0x0A 2 &&& dfld own 0x0A 2) 6 = some rate → topBit (dfld d 0x08 2 &&& dfld own 0x08 2) 3 = some format →
        ∃ t : State, exec (.capabilityDescriptor die m d) s = .next t.cdCutOff.lateMissing ∧ t = { s with csr := t.csr, net := t.net } ∧
          t.net = { s.net with descFails := s.net.descFails.set key 0 0, common := s.net.common.set key (advertised d &&& advertised own) 0 } ∧
          (∀ w : Fin 16, t.rd (Reg.D2D_PEERDESC die m w) = BitVec.ofNat 32 (dfld d (4 * w) 4)) ∧
          t.fld (Reg.D2D_STAT die m) 12 3 = rate ∧ t.fld (Reg.D2D_STAT die m) 15 2 = format) ∧
      (crcBytes (d.take 60) ≠ dfld d 0x3C 4 →
        (s.net.descFails.get key 0 < 3 →
          exec (.capabilityDescriptor die m d) s =
            .next (State.lateMissing (State.cdCutOff { s with net := { s.net with descFails := s.net.descFails.set key (s.net.descFails.get key 0 + 1) 0 } }))) ∧
        (3 ≤ s.net.descFails.get key 0 →
          ∃ t : State, exec (.capabilityDescriptor die m d) s = .next (t.cutsJudged m).cdCutOff.lateMissing ∧
            t = { s with csr := t.csr, net := t.net, raised := t.raised } ∧ t.modState die m = 3))) ∧
    (s.clk.hold = false → s.modState a m = 0 → s.modState b m = 0 → s.dieLost a = false → s.dieLost b = false →
      ∃ t : State, exec (.moduleDownLost m) s = .next (t.cutsJudged m).cdCutOff.lateMissing ∧ t = { s with csr := t.csr, net := t.net, raised := t.raised } ∧
        t.modState a m = 6 ∧ t.modState b m = 6 ∧ t.bit (Reg.D2D_EVT a m) 0 = true ∧ t.bit (Reg.D2D_EVT b m) 0 = true)

/-- Loss of a die and its way back (R41, R43, R44, R303): a lost die is marked and recorded, its pins go to their safe state; a rejoin
clears it and trains its modules; a ready die is in service again. A failover switch takes the failover path exactly where the primary
path is cut and the failover path is whole, or where flows still have packets on it. -/
def Obligations.DiesLeaveAndReturn : Prop :=
  ∀ (s : State) (die : Fin 4),
    (s.boot.stream = false → s.dieLost die = false →
      ∃ t, exec (.dieLoss die) s = .next t ∧ t.dieState die = 1 ∧ t.pins.safe.die.get die false = true ∧ t.bit Reg.DIE_DEVT die = true ∧
        t.raised.getLast?.map (fun e => (e.sev, e.code, e.die)) = some (5, 0x0003, (die : Nat))) ∧
    ((s.dieState die = 1 ∨ s.dieState die = 4) → s.clk.copies.any (fun c => c.1 == (die : Nat)) = false →
      ∃ t, exec (.dieRejoin die) s = .next t ∧ t.dieState die = 2 ∧ ∀ m ∈ modulesOf die, t.modState die m = 1) ∧
    (s.dieState die = 2 → s.reaches die 4 = true →
      ∃ t, exec (.dieReady die) s = .next t ∧ t.boot.ready.get die false = true ∧ t.spine.deskewed.get die false = true ∧
        t.bit Reg.DIE_DEVT (4 + die) = true ∧
        t.raised.getLast?.map (fun e => (e.sev, e.code, e.die)) = some (3, 0x0004, (die : Nat)) ∧
        ((s.libEntry (252 + die)).segs = [] → t.dieState die = 3)) ∧
    (∃ t, exec .failoverSwitch s = .next t ∧ t = { s with net := { s.net with failover := t.net.failover, flows := t.net.flows } } ∧
      ∀ a < 5, ∀ b < 5, t.onFailover a b = (a != b && ((!s.pathOk a (paths a b).1 && s.pathOk a (paths a b).2) || (s.flowsAway a b && s.onFailover a b))))

/-- The control die (R35, R37, R456): messages enter and leave a mailbox in order for its sender and receiver alone, a full one drops and
an empty one reads 0, each with its flag; a disabled one is emptied. CC_START runs the cores it names from their entry points; a lockstep
disagreement stops its pair; a reset of the control die empties its mailboxes and its memory and keeps user mode. The model's own choices
in it: log entries 147, 146. -/
def Obligations.ControlDieCommands : Prop :=
  ∀ (s : State) (r : Requester),
    (∀ a : BitVec 4, (Requester.agent a).code = a.toNat) ∧ (∀ code req, agentMatches code req = true ↔ 10 ≤ code ∨ code = req) ∧
    (∀ (n : Fin 32) (msg : BitVec 32), s.admits r (Reg.MBX_PUSH n) true = true →
      (s.bit (Reg.MBX_CTL n) 31 = true → agentMatches (s.fld (Reg.MBX_CTL n) 0 4) r.code = true →
        exec (.mbxPush r n msg) s = .next (if (s.box n).length < 16 then (s.setBox n (s.box n ++ [msg])).wrote r (Reg.MBX_PUSH n)
          else (s.flag (Reg.MBX_STAT n) 8).wrote r (Reg.MBX_PUSH n))) ∧
      (s.bit (Reg.MBX_CTL n) 31 = false ∨ agentMatches (s.fld (Reg.MBX_CTL n) 0 4) r.code = false →
        exec (.mbxPush r n msg) s = .next (s.refusedWrite r (Reg.MBX_PUSH n)))) ∧
    (∀ n : Fin 32, s.admits r (Reg.MBX_POP n) false = true → r.code ≠ 16 →
      (s.bit (Reg.MBX_CTL n) 31 = true → agentMatches (s.fld (Reg.MBX_CTL n) 4 4) r.code = true →
        (∀ (msg : BitVec 32) (rest : List (BitVec 32)), s.box n = msg :: rest → exec (.mbxPop r n) s = .next ((s.setBox n rest).fetched r (Reg.MBX_POP n) msg)) ∧
        (s.box n = [] → exec (.mbxPop r n) s = .next ((s.flag (Reg.MBX_STAT n) 9).fetched r (Reg.MBX_POP n) 0))) ∧
      (s.bit (Reg.MBX_CTL n) 31 = false ∨ agentMatches (s.fld (Reg.MBX_CTL n) 4 4) r.code = false →
        exec (.mbxPop r n) s = .next (s.completeAccess r.code false (csrAddr (Reg.MBX_POP n)) .refused 0))) ∧
    (∀ (n : Fin 32) (w : BitVec 32), s.admits r (Reg.MBX_CTL n) true = true →
      exec (.mailboxDisable r n w) s = .next (((s.wr (Reg.MBX_CTL n) (w &&& 0x3FF)).setBox n []).wrote r (Reg.MBX_CTL n))) ∧
    (∀ w : BitVec 32, s.admits r Reg.CC_START true = true → (∀ i < 6, s.bit (Reg.CORE_RC i) 4 = false) →
      ∃ t : State, exec (.coreStart r w) s = .next (t.wrote r Reg.CC_START) ∧ t = { s with cores := t.cores } ∧
        ∀ i < 6, t.core i = if wbit w i = true ∧ (s.core i).run = .reset
          then { s.core i with run := .running, cause := 0, want := none, priv := 3, regs := (s.core i).regs.set 0x7B1 (BitVec.ofNat 64 (s.entryOfCore i)) 0 }
          else s.core i) ∧
    (∀ pair : Fin 2, (s.core (4 + pair)).run ≠ .reset →
      ∃ t, exec (.lockstepDisagreement pair) s = .next t ∧ (t.core (4 + pair)).run = .reset ∧ t.bit Reg.CC_STATUS (1 + pair) = true ∧
        t.raised.getLast?.map (fun e => (e.sev, e.code, e.die, e.trig, e.inst)) = some (6, 0x000B, 5, 0x19, 4 + (pair : Nat))) ∧
    (s.boot.stream = false → s.clk.copies.any (fun c => c.1 == 5) = false → s.boot.handed = false →
      ∃ t, exec .cdReset s = .next t ∧ t.dieState 5 = 0 ∧ t.boxes = [] ∧ t.boot.tcm = [] ∧ t.userMode = s.userMode)

/-- Requests of a Region's dispatcher (R235 to R238): a request with a task in the table enters the ready queue with its deadline, one
without is dropped and counted, and so is one that finds the queue full; a disabled dispatcher ignores requests. -/
def Obligations.TaskRequestsQueue : Prop :=
  ∀ (s : State) (r : Requester) (die : Fin 4) (rg : Fin 16) (task : Fin 64) (param : BitVec 16),
    let d := s.disp die rg
    let dl := s.taskFld die rg task 3 0 24
    let queued := s.setDisp die rg { d with ready := d.ready ++ [{
      task := task, param := param.toNat, deadline := if dl = 0 then none else some (.time (s.tickEnd + BitVec.ofNat 64 (32 * dl))) }] }
    (s.bit (Reg.FDSP_CTL die rg) 0 = false → exec (.taskRequest die rg task param) s = .next s) ∧
    (s.bit (Reg.FDSP_CTL die rg) 0 = true → s.taskOk die rg task = true → d.ready.length < 128 →
      exec (.taskRequest die rg task param) s = .next queued ∧
      (∀ w : BitVec 32, s.admits r (Reg.FDSP_REQ die rg) true = true → wfld w 0 6 = task → wfld w 16 16 = param.toNat →
        exec (.fdspReq r die rg w) s = .next (queued.wrote r (Reg.FDSP_REQ die rg)))) ∧
    (s.bit (Reg.FDSP_CTL die rg) 0 = true → s.taskOk die rg task = false →
      exec (.taskRequest die rg task param) s = .next ((s.flagErr (Reg.FDSP_STAT die rg) 10 3 (errCode 7 4)).count (Reg.FDSP_DROP die rg) 1)) ∧
    (s.bit (Reg.FDSP_CTL die rg) 0 = true → s.taskOk die rg task = true → 128 ≤ d.ready.length →
      exec (.taskRequest die rg task param) s = .next ((s.flagErr (Reg.FDSP_STAT die rg) 8 3 (errCode 7 5)).count (Reg.FDSP_DROP die rg) 1))

/-- What a dispatcher does with its queue (R229, R236, R237, R241): it starts an admitted request on a free Facet, with the task's first
bundle and empty stacks; it reports a request that waits past its deadline once; a remap begins on movable Facets, and at its end the
logical Facet maps to the other physical one. The model's own choices in it: log entry 92. -/
def Obligations.DispatcherStartsAndRemaps : Prop :=
  ∀ (s : State) (die : Fin 4) (rg : Fin 16),
    let d := s.disp die rg
    (∀ (q : Request) (l : Nat), s.dispReady die rg (s.fdspFrozen die rg) = true → d.ready = [q] →
      s.freeFacet die rg (s.taskFld die rg q.task 1 0 16) = some l → s.requestAdmitted die rg q = true →
      ∃ t, exec (.dispatchAssign die rg) s = .next t ∧ (t.disp die rg).ready = [] ∧
        (let f := t.facet die (s.physOf die rg l)
         f.state = .running ∧ f.pc = s.taskFld die rg q.task 0 0 12 ∧ f.task = q.task ∧ f.param = q.param ∧ f.loops = [] ∧ f.calls = [] ∧
         f.rep = 0 ∧ f.wr = []) ∧
        (q.admitted = true → t = { s with facets := t.facets })) ∧
    (∀ (q : Request), d.ready[0]? = some q → s.taskFld die rg q.task 0 12 2 = 0 → q.late = false →
      (∀ e, q.deadline = some e → s.deadlineDue e = true) → q.deadline ≠ none →
      exec (.deadlineExpiry die rg true 0) s = .next (((s.setDisp die rg { d with ready := d.ready.set 0 { q with late := true } }).flagErr
        (Reg.FDSP_STAT die rg) 9 3 (errCode 7 6)).count (Reg.FDSP_LATE die rg) 1)) ∧
    (∀ (r : Requester) (w : BitVec 32), s.admits r (Reg.FDSP_REMAP die rg) true = true → d.remap = none → wbit w 31 = true → wfld w 4 5 < 17 →
      s.logOf die (17 * rg + wfld w 4 5) = none → (s.facet die (s.physOf die rg (wfld w 0 4))).movable = true →
      (s.facet die (17 * rg + wfld w 4 5)).movable = true → (s.facet die (17 * rg + wfld w 4 5)).broken = false →
      exec (.fdspRemap r die rg w) s = .next (((s.wr (Reg.FDSP_REMAP die rg) (w &&& 0x3FF)).setDisp die rg
        { d with remap := some (wfld w 0 4, wfld w 4 5) }).wrote r (Reg.FDSP_REMAP die rg))) ∧
    (∀ log phys : Nat, log < 16 → phys < 17 → d.remap = some (log, phys) → s.physOf die rg log ≠ 17 * rg + phys →
      ∃ t, exec (.remapComplete die rg) s = .next t ∧ t = { s with csr := t.csr, facets := t.facets } ∧
        t.physOf die rg log = 17 * rg + phys ∧ (t.disp die rg).remap = none ∧
        t.facetEn die (17 * rg + phys) = s.facetEn die (s.physOf die rg log) ∧ t.facetEn die (s.physOf die rg log) = false)

/-- Control of a Facet from outside (R228, R230 to R234, R242): an urgent event and a HALT are accepted at a boundary; the watchdog faults
the task; ABORT ends it; RESET leaves FAULTED; an urgent event by command waits one cycle; `en` takes the Facet into and out of service.
-/
def Obligations.FacetsObeyControl : Prop :=
  ∀ (s : State) (r : Requester) (die : Fin 4) (p : Fin 272),
    let f := s.facet die p
    (f.pend = true → f.haltDbg = false → f.haltFrz = false → f.settle.calls.length < 8 →
      (f.state = .idle ∨ (f.state = .running ∧ f.land.sr.getLsbD 4 = true ∧ f.boundary = true ∧ f.wait = 0)) →
      ∃ t, exec (.urgentAccept die p) s = .next t ∧ t = { s with facets := t.facets } ∧
        (let g := t.facet die p
         g.state = .urgent ∧ g.pc = 8 ∧ g.calls = f.settle.pc :: f.settle.calls ∧ g.evt = f.settle.code ∧ g.pend = false ∧ g.sr.getLsbD 4 = false ∧
         g.fromIdle = decide (f.state = .idle))) ∧
    ((f.haltDbg = true ∨ f.haltFrz = true) →
      (f.state = .idle ∨ ((f.state = .running ∨ f.state = .urgent) ∧ f.boundary = true)) →
      ∃ t, exec (.facetHaltAccept die p) s = .next t ∧ t = { s with facets := t.facets } ∧
        (t.facet die p).state = .halted ∧ (t.facet die p).haltedFrom = f.state) ∧
    (s.facetIssues die p = true → f.watchdogDue = true → (∀ b, f.upcoming = some b → b.isWait = false) →
      ∃ t, exec (.taskWatchdogExpiry die p) s = .next t ∧ (t.facet die p).state = .faulted ∧
        t.rd (Reg.FACET_FAULT die p) = BitVec.ofNat 32 (f.land.pc + Cause.wdog.code * 4096) ∧ t.bit (Reg.FACET_STAT die p) 15 = true ∧
        t = { s with csr := t.csr, facets := t.facets, raised := t.raised }) ∧
    (s.admits r (Reg.FACET_CMD die p) true = true → (f.state = .running ∨ f.state = .urgent) → f.settle.haltDbg = false → f.settle.haltFrz = false →
      ∃ t : State, exec (.facetAbort r die p) s = .next (t.wrote r (Reg.FACET_CMD die p)) ∧ t = { s with facets := t.facets } ∧
        (t.facet die p).state = (if s.facetEn die p then .idle else .off) ∧ (t.facet die p).pend = f.settle.pend) ∧
    (s.admits r (Reg.FACET_CMD die p) true = true →
      ((f.state = .faulted ∨ f.state = .halted) →
        ∃ t : State, exec (.facetReset r die p) s = .next (t.wrote r (Reg.FACET_CMD die p)) ∧ t = { s with facets := t.facets } ∧
          (let g := t.facet die p
           g.state = (if s.facetEn die p then .idle else .off) ∧ g.d = [] ∧ g.a = [] ∧ g.p = [] ∧ g.pc = 0 ∧ g.pend = false ∧ g.haltDbg = false ∧
           g.prog = f.prog ∧ g.bankA = f.bankA ∧ g.bankB = f.bankB)) ∧
      (f.state ≠ .faulted → f.state ≠ .halted → exec (.facetReset r die p) s = .next (s.refusedWrite r (Reg.FACET_CMD die p)))) ∧
    (∀ code : BitVec 16, s.admits r (Reg.FACET_CMD die p) true = true → (f.state = .running ∨ f.state = .urgent ∨ f.state = .halted) → f.pend = false →
      exec (.facetUrgent r die p code) s = .next ((s.setFacet die p { f with pend := true, code := code.toNat, wait := 1 }).wrote r (Reg.FACET_CMD die p))) ∧
    (∀ w : BitVec 32, s.admits r (Reg.FACET_CTL die p) true = true → (f.state = .off ∨ f.state = .idle) → f.haltDbg = false → f.haltFrz = false →
      s.fld Reg.DBG_FRZSEL 9 3 = 7 → s.fld Reg.DBG_FRZSEL 18 3 = 7 →
      ∃ t : State, exec (.facetEnable r die p w) s = .next (t.wrote r (Reg.FACET_CTL die p)) ∧ t.facetEn die p = wbit w 0 ∧
        (t.facet die p).state = if wbit w 0 then .idle else .off)

/-- Memories and streams of a Facet (R211, R216): a word of a data bank is written and read at its address, zero-extended; a bundle is
written by halves while the Facet is OFF or HALTED, and refused otherwise; a stream port takes words in order, 32 at most. The model's own
choices in it: log entry 91. -/
def Obligations.FacetMemoriesAndStreams : Prop :=
  ∀ (s : State) (r : Requester) (die : Fin 4) (p : Fin 272),
    let f := s.facet die p
    (∀ (bankB : Bool) (n : Fin 8192), r.code ≠ 16 →
      (let addr := facetAddr die p (bankOffset bankB n)
       (s.admitsView r die 0x08 (some (64 + 16 * die + p / 17)) addr false = true →
         exec (.viewBankAccess r die p bankB n none) s = .next (s.completeAccess r.code false addr .ok
           ((if bankB then f.bankB.get n 0 else f.bankA.get n 0).setWidth 32))) ∧
       (∀ w : BitVec 32, s.admitsView r die 0x08 (some (64 + 16 * die + p / 17)) addr true = true →
         ∃ t : State, exec (.viewBankAccess r die p bankB n (some w)) s = .next (t.completeAccess r.code true addr .ok 0) ∧
           t = { s with facets := t.facets } ∧
           (if bankB then (t.facet die p).bankB else (t.facet die p).bankA).get n 0 = w.setWidth 24 ∧
           (∀ k, k ≠ (n : Nat) → (if bankB then (t.facet die p).bankB else (t.facet die p).bankA).get k 0 = (if bankB then f.bankB else f.bankA).get k 0)))) ∧
    (∀ (n : Fin 8192) (w : BitVec 32), r.code ≠ 16 →
      (let addr := facetAddr die p (4 * n)
       s.admitsView r die 0x08 (some (64 + 16 * die + p / 17)) addr true = true →
       (f.state ≠ .off → f.state ≠ .halted → exec (.programBundleWrite r die p n w) s = .next (s.completeAccess r.code true addr .refused 0)) ∧
       ((f.state = .off ∨ f.state = .halted) → (n : Nat) % 2 = 0 →
         exec (.programBundleWrite r die p n w) s = .next ((s.setFacet die p { f with low := f.low.set (n / 2 * 32 + r.code) (some w) none }).completeAccess r.code true addr .ok 0)) ∧
       (∀ lo : BitVec 32, (f.state = .off ∨ f.state = .halted) → (n : Nat) % 2 = 1 → f.low.get (n / 2 * 32 + r.code) none = some lo →
         ∃ t : State, exec (.programBundleWrite r die p n w) s = .next (t.completeAccess r.code true addr .ok 0) ∧
           t = { s with facets := t.facets } ∧ (t.facet die p).prog.get (n / 2) 0 = joinHalves w lo ∧ (t.facet die p).badProg.get (n / 2) false = false))) ∧
    (∀ (rg l : Fin 16) (v : BitVec 24), s.isolated die rg = false →
      (let q := s.ports die (rg * 16 + l)
       (q.in0.length < 32 → exec (.streamInPush die rg l 0 v) s = .next (s.setPorts die (rg * 16 + l) { q with in0 := q.in0 ++ [v] })) ∧
       (q.in1.length < 32 → exec (.streamInPush die rg l 1 v) s = .next (s.setPorts die (rg * 16 + l) { q with in1 := q.in1 ++ [v] })) ∧
       exec (.streamOutPop die rg l 0) s = .next (s.setPorts die (rg * 16 + l) { q with out0 := q.out0.drop 1 }) ∧
       exec (.streamOutPop die rg l 1) s = .next (s.setPorts die (rg * 16 + l) { q with out1 := q.out1.drop 1 })))

/-- System and immediate bundles (R263, R269 to R271): each changes what the specification says, on the Facet as its due writes leave it,
and the program goes on with the next bundle. The writes land two bundles later, or as the operation states. The model's own choices in
it: log entry 85. -/
def Obligations.SystemAndImmediateBundles : Prop :=
  ∀ (s : State) (die : Fin 4) (p : Fin 272),
    let g := (s.facet die p).seen
    let q := s.portsOf die p
    (∀ x, s.issues die p (.imm x none) → exec (.imm die p) s = .next (s.issued die p (g.imm x).next q)) ∧
    (∀ x y, s.issues die p (.imm x (some y)) → exec (.imm die p) s = .next (s.issued die p ((g.imm x).imm y).next q)) ∧
    (s.issues die p (.sys .snop) → exec (.snop die p) s = .next (s.issued die p g.next q)) ∧
    (∀ m v, s.issues die p (.sys (.mrs m v)) →
      exec (.mrs die p) s = .next (s.issued die p (g.sched 2 [.mr (BitVec.ofNat 12 m) (BitVec.ofNat 12 v)]).next q)) ∧
    (∀ m v, s.issues die p (.sys (.srs m v)) →
      exec (.srs die p) s = .next (s.issued die p (g.sched 2 [.sr (BitVec.ofNat 5 m) (BitVec.ofNat 5 v)]).next q)) ∧
    (∀ cls r n, s.issues die p (.sys (.mvx cls r n)) → exec (.mvx die p) s = .next (s.issued die p (g.mvx cls n (g.dreg r)).next q)) ∧
    (∀ cls r n, s.issues die p (.sys (.mxv cls r n)) → exec (.mxv die p) s = .next (s.issued die p (g.sched 2 [.d r (g.special cls n)]).next q)) ∧
    (∀ n imm, s.issues die p (.sys (.padd n imm)) → exec (.padd die p) s = .next (s.issued die p
      (g.sched 1 [.p n (BitVec.ofNat 13 (pointerUpdate (g.preg n) (g.lreg n) (signed 13 imm)))]).next q)) ∧
    (∀ r port, s.issues die p (.sys (.scnt r port)) →
      exec (.scnt die p) s = .next (s.issued die p (g.sched 2 [.d r (BitVec.ofNat 24 (q.level port))]).next q)) ∧
    (∀ n, s.issues die p (.sys (.qkick n)) → s.dieLost (homeOf n) = false →
      exec (.qkick die p) s = .next ((s.issued die p g.next q).kick n)) ∧
    (∀ r, s.issues die p (.sys (.qkickd r)) → s.dieLost (homeOf ((g.dreg r).toNat % 8192)) = false →
      exec (.qkickd die p) s = .next ((s.issued die p g.next q).kick ((g.dreg r).toNat % 8192))) ∧
    (∀ sev code r, s.issues die p (.sys (.recd sev code r)) →
      exec (.record die p) s = .next (((s.issued die p g.next q).raise sev (0xF100 + code) die (48 + code / 16) p).flagLast ((g.dreg r).toNat % 65536)))

/-- Control bundles (R219, R220, R229, R230, R264 to R268): a branch is followed by its two delay slots and then the target, or the bundle
after the slots when the condition does not hold; calls and returns move the call stack; a loop is entered or skipped; a REP counts the
next bundle; WAIT ends the task after its slots; SIGNAL requests a task or raises an urgent event. The model's own choices in it: log
entries 85, 93. -/
def Obligations.ControlBundles : Prop :=
  ∀ (s : State) (die : Fin 4) (p : Fin 272),
    let g := (s.facet die p).seen
    let q := s.portsOf die p
    let goes (h : Facet) (after : After) : State := s.issued die p { h.next with slot := some (2, after) } q
    let past : Nat := (g.pc + 3) % 4096
    (∀ cc tgt, s.issues die p (.ctl (.br cc tgt)) →
      exec (.br die p) s = .next (goes g (.goto (if g.cond q cc = true then tgt else past)))) ∧
    (∀ cc r, s.issues die p (.ctl (.bri cc r)) →
      exec (.bri die p) s = .next (goes g (.goto (if g.cond q cc = true then (g.dreg r).toNat % 4096 else past)))) ∧
    (∀ cc tgt, s.issues die p (.ctl (.call cc tgt)) → g.calls.length < 8 →
      exec (.call die p) s = .next (if g.cond q cc = true then goes { g with calls := past :: g.calls } (.goto tgt) else goes g (.goto past))) ∧
    (∀ cc r, s.issues die p (.ctl (.calli cc r)) → g.calls.length < 8 →
      exec (.calli die p) s = .next (if g.cond q cc = true then goes { g with calls := past :: g.calls } (.goto ((g.dreg r).toNat % 4096))
        else goes g (.goto past))) ∧
    (∀ cc back rest, s.issues die p (.ctl (.ret cc)) → g.calls = back :: rest →
      exec (.ret die p) s = .next (if g.cond q cc = true then goes { g with calls := rest } (.goto back) else goes g (.goto past))) ∧
    (∀ back rest, s.issues die p (.ctl .rtu) → g.state = .urgent → g.calls = back :: rest →
      exec (.rtu die p) s = .next (goes { g.sched 2 [.sr 0x10 0x10] with calls := rest } (.leave back))) ∧
    (s.issues die p (.ctl .wait) → exec (.wait die p) s = .next (goes g .finish)) ∧
    (∀ lc count tgt, s.issues die p (.ctl (.loop lc count tgt)) → g.pc + 2 ≤ tgt →
      (let n := if lc then g.lc.toNat else count
       exec (.loop die p) s = .next (s.issued die p
        (if n = 0 then { g.next with pc := (tgt + 1) % 4096 } else { g.next with loops := [⟨(g.pc + 1) % 4096, tgt, n⟩] }) q))) ∧
    (s.issues die p (.ctl .lpop) → exec (.lpop die p) s = .next (s.issued die p { g.next with loops := [] } q)) ∧
    (∀ n, s.issues die p (.ctl (.rep n)) → exec (.rep die p) s = .next (s.issued die p { g.next with rep := n } q)) ∧
    (∀ task l r, s.issues die p (.ctl (.signal false task l r)) →
      exec (.signal die p) s = .next ((s.issued die p g.next q).requestTask die (p / 17) task ((g.dreg r).toNat % 65536) none false).1) ∧
    (∀ task l r, s.issues die p (.ctl (.signal true task l r)) →
      exec (.signal die p) s = .next ((s.issued die p g.next q).raiseUrgent die ((s.issued die p g.next q).physOf die (p / 17) l) ((g.dreg r).toNat % 65536) 3))

/-- A PAR bundle (R216, R250, R253, R254): its compute part reads the Facet as it stands and writes two bundles later, its two moves
follow, the first on bank A and the second on bank B, and no register is written twice; a word missing at an IN port stalls it; an odd
pair address, a parity error in the bundle and an uncorrectable error in a word it reads fault before any effect. The model's own choices
in it: log entries 85, 86. -/
def Obligations.ParallelBundles : Prop :=
  ∀ (s : State) (die : Fin 4) (p : Fin 272) (c : Compute) (a m : Move),
    let g := (s.facet die p).seen
    let q := s.portsOf die p
    s.issues die p (.par c a m) →
    (q.ready a m = true → g.misaligned a = false → g.misaligned m = false → g.readsBad 0 a = false → g.readsBad 8192 m = false →
      (let x := g.move false a (g.sched 2 (g.compute c)) q
       let y := g.move true m x.1 x.2.1
       x.2.2 = false → y.2.2 = false → exec (.parBundle die ⟨p, .none⟩) s = .next (s.issued die p y.1.next y.2.1))) ∧
    (q.ready a m = false →
      ∃ t, exec (.parBundle die ⟨p, .none⟩) s = .next t ∧ t = { s with facets := t.facets } ∧ (t.facet die p).stall = true ∧ (t.facet die p).pc = (s.facet die p).pc ∧
        t.portsOf die p = q) ∧
    (q.ready a m = true → (g.misaligned a = true ∨ g.misaligned m = true) →
      ∃ t, exec (.parBundle die ⟨p, .none⟩) s = .next t ∧ (t.facet die p).state = .faulted ∧ (t.facet die p).pc = (s.facet die p).pc ∧
        t.rd (Reg.FACET_FAULT die p) = BitVec.ofNat 32 (g.pc + Cause.align.code * 4096)) ∧
    (∃ t, exec (.parBundle die ⟨p, .program⟩) s = .next t ∧ (t.facet die p).state = .faulted ∧
      t.rd (Reg.FACET_FAULT die p) = BitVec.ofNat 32 (g.pc + Cause.progPar.code * 4096)) ∧
    (q.ready a m = true → g.misaligned a = false → g.misaligned m = false → (g.readsBad 0 a = true ∨ g.readsBad 8192 m = true) →
      ∃ t, exec (.parBundle die ⟨p, .none⟩) s = .next t ∧ (t.facet die p).state = .faulted ∧
        t.rd (Reg.FACET_FAULT die p) = BitVec.ofNat 32 (g.pc + Cause.dataUe.code * 4096)) ∧
    writesOnce c a m = true ∧ c.inRange = true

/-- Moves into an accumulator and its raw fields (R224): a data word goes to Ax.M, its sign to all of Ax.X, and Ax.R is cleared; a raw
write takes the low bits of its source for its own field alone; a raw read extends X by its sign and R by zeros; three raw reads and three
raw writes save and restore an accumulator exactly. -/
def Obligations.AccumulatorFieldsKeepTheirBits : Prop :=
  ∀ (a b : BitVec 56) (d : BitVec 24),
    ((placed d).extractLsb' 23 24 = d ∧ (placed d).extractLsb' 47 9 = (if d.msb then 0x1FF else 0) ∧ (placed d).extractLsb' 0 23 = 0) ∧
    ((setRawField 2 a d).extractLsb' 47 9 = d.setWidth 9 ∧ (setRawField 2 a d).extractLsb' 0 47 = a.extractLsb' 0 47) ∧
    ((setRawField 1 a d).extractLsb' 23 24 = d ∧ (setRawField 1 a d).extractLsb' 47 9 = a.extractLsb' 47 9 ∧
      (setRawField 1 a d).extractLsb' 0 23 = a.extractLsb' 0 23) ∧
    ((setRawField 0 a d).extractLsb' 0 23 = d.setWidth 23 ∧ (setRawField 0 a d).extractLsb' 23 33 = a.extractLsb' 23 33) ∧
    ((rawField 2 a).toInt = (a.extractLsb' 47 9).toInt ∧ rawField 1 a = a.extractLsb' 23 24 ∧ (rawField 0 a).toNat = (a.extractLsb' 0 23).toNat) ∧
    setRawField 2 (setRawField 1 (setRawField 0 b (rawField 0 a)) (rawField 1 a)) (rawField 2 a) = a

/-- The arithmetic of results and pointers (R214, R224 to R226, R256): `fit` keeps a value that it does not flag, wraps by 2^56, and
saturates to 48 bits; a move out rounds half up or to even and limits to a data word, without scaling in saturated mode; a pointer walks
linearly or stays in its circular buffer, whose addresses a bit reversal permutes. -/
def Obligations.ResultsFitRoundAndWalk : Prop :=
  (∀ x : Int, (fit false x).1.toInt = x.bmod (2 ^ 56) ∧ ((fit false x).2 = true ↔ (fit false x).1.toInt ≠ x)) ∧
  (∀ x : Int, (fit true x).1.toInt = max (-(2 ^ 47)) (min (2 ^ 47 - 1) x) ∧ ((fit true x).2 = true ↔ (fit true x).1.toInt ≠ x)) ∧
  (∀ (scl : Nat) (rnd : Bool) (a : BitVec 56), moveOut scl rnd true a = moveOut 0 rnd false a) ∧
  (∀ (scl : Nat) (rnd : Bool) (a : BitVec 56), scl < 4 →
    let y : Int := if scl = 1 then a.toInt / 2 else if scl = 2 then a.toInt / 4 else if scl = 3 then 2 * a.toInt else a.toInt
    let q : Int := if rnd ∨ (y / 2 ^ 23) % 2 = 1 then (y + 2 ^ 22) / 2 ^ 23 else (y + 2 ^ 22 - 1) / 2 ^ 23
    (moveOut scl rnd false a).1.toInt = max (-(2 ^ 23)) (min (2 ^ 23 - 1) q) ∧
    ((moveOut scl rnd false a).2 = true ↔ (q < -(2 ^ 23) ∨ 2 ^ 23 - 1 < q))) ∧
  (∀ (scl : Nat) (rnd : Bool) (d : BitVec 24), moveOut scl rnd true (placed d) = (d, false)) ∧
  (∀ (ptr : Nat) (step : Int), (pointerUpdate ptr 0 step : Int) = (ptr + step) % 8192) ∧
  (∀ (ptr len : Nat) (step : Int), 0 < len → ptr < 8192 → ptr - ptr % len + len ≤ 8192 →
    (ptr - ptr % len ≤ pointerUpdate ptr len step ∧ pointerUpdate ptr len step < ptr - ptr % len + len) ∧
    ((pointerUpdate ptr len step : Int) - ptr - step) % len = 0 ∧
    (∀ brev, ptr - ptr % len ≤ issuedAddress ptr len brev ∧ issuedAddress ptr len brev < ptr - ptr % len + len)) ∧
  (∀ (ptr k : Nat), 1 ≤ k → k ≤ 12 → ptr < 8192 → issuedAddress (issuedAddress ptr (2 ^ k) true) (2 ^ k) true = ptr ∧
    ∀ i < k, (issuedAddress ptr (2 ^ k) true).testBit i = ptr.testBit (k - 1 - i))

/-- Power domains (R273 to R279, R296): a write of PWR_DOM_CTL takes the domain to RUN, OFF or a forced sleep state, and one that asks for
a state the domain does not allow is refused whole; idleness leads to SLEEP and DEEP_SLEEP; work wakes; a wake waits for an island at V0
or on its way to another level; the device's deep sleep begins at a window and its wake brings every domain back; a failed island
regulator costs its die, or on HD a device reset with a cause that nothing states, on CD a reset of the control die. The model's own
choices in it: log entries 95, 96, 99. -/
def Obligations.PowerDomainsChange : Prop :=
  ∀ (s : State) (r : Requester) (g : Fin 165),
    let key := domCtlKey g
    (∀ (x : State) (st : Nat), (x.enterDom g st).domSt g = st) ∧
    (∀ x : State, let j := islandOf g
      (x.domSt g = 0 ∨ (x.islLevel j ≠ 0 ∧ (x.lowered j = false ∨ x.islLevel j = x.islTarget j)) → x.riseDom g = x.enterDom g 0) ∧
      (x.domSt g ≠ 0 → (x.islLevel j = 0 ∨ (x.lowered j = true ∧ x.islLevel j ≠ x.islTarget j)) →
        x.riseDom g = { x with power := { x.power with wakes := x.power.wakes.set g true false } })) ∧
    (∀ w : BitVec 32, s.admits r key true = true → wfld w 4 2 = 0 → s.power.trip = false →
      let stored := s.wr key (w &&& 0xFFFFFF3F)
      (wbit w 0 = true → (s.bit key 0 = false ∨ s.fld key 4 2 = 1 ∨ s.fld key 4 2 = 2) →
        exec (.domainRunEnable r g w) s = .next ((stored.riseDom g).wrote r key)) ∧
      (wbit w 0 = true → s.bit key 0 = true → s.fld key 4 2 ≠ 1 → s.fld key 4 2 ≠ 2 →
        exec (.domainRunEnable r g w) s = .next (stored.wrote r key)) ∧
      (wbit w 0 = false → domAllows g 3 = true →
        exec (.domainRunEnable r g w) s = .next ((stored.enterDom g 3).wrote r key))) ∧
    (∀ w : BitVec 32, s.admits r key true = true → wbit w 0 = false → domAllows g 3 = false →
      exec (.domainRunEnable r g w) s = .next (s.refusedWrite r key)) ∧
    (∀ w : BitVec 32, s.admits r key true = true → s.power.trip = false → wbit w 0 = true → (wfld w 4 2 = 1 ∨ wfld w 4 2 = 2) →
      (domAllows g (wfld w 4 2) = true → (wfld w 4 2 = 1 → s.domSt g = 0 → s.maySleep g = true) →
        exec (.domainForce r g w) s = .next (((s.wr key (w &&& 0xFFFFFF3F)).enterDom g (wfld w 4 2)).wrote r key)) ∧
      (domAllows g (wfld w 4 2) = false → exec (.domainForce r g w) s = .next (s.refusedWrite r key))) ∧
    (s.bit key 1 = true → s.domSt g = 0 → domAllows g 1 = true → s.domBusy g = false → s.maySleep g = true →
      exec (.autoSleep g false) s = .next (s.enterDom g 1) ∧ exec (.autoSleep g true) s = .next s) ∧
    (s.bit key 2 = true → s.domSt g = 1 → domAllows g 2 = true → s.islPb (islandOf g) = false → s.fld key 4 2 = 0 →
      exec (.autoDeepSleep g false) s = .next (s.enterDom g 2) ∧ exec (.autoDeepSleep g true) s = .next s) ∧
    (∀ pb : Bool, (s.domSt g = 1 ∨ s.domSt g = 2) → s.fld key 4 2 ≠ 1 → s.fld key 4 2 ≠ 2 → s.power.deepSleep = false →
      exec (.domainWake g pb) s = .next ((s.flagIf pb (domStatKey g) 4).riseDom g)) ∧
    (∀ j : Fin 92, (∀ g : Nat, s.power.wakes.get g false = false) →
      exec (.islandLevelSettled j) s = .next { s with power := { s.power with lvl := s.power.lvl.set j (s.islTarget j) 2 } }) ∧
    (s.admits r Reg.GOV_CMD true = true →
      exec (.deepSleep r) s = .next (({ s with power := { s.power with deepReq := true } }).wrote r Reg.GOV_CMD)) ∧
    (s.power.deepSleep = true → s.power.trip = false →
      ∃ t, exec .deviceWake s = .next t ∧ t.power.deepSleep = false ∧ t.bit Reg.GOV_STAT 12 = true ∧
        (t.domSt g = s.power.before.get g 0 ∨ (s.power.before.get g 0 = 0 ∧ t.power.wakes.get g false = true))) ∧
    (s.power.deepSleep = false → exec .deviceWake s = .next s) ∧
    (s.power.trip = false →
      ∃ t, exec .thermalTrip s = .next t ∧ t.power.trip = true ∧ t.power.tripDt = s.now ∧ t.pins.safe.thermal = true ∧
        ((g : Nat) ≠ 156 → t.domSt g = 3) ∧ t.raised.getLast?.map (fun e => (e.sev, e.code, e.die, e.trig)) = some (6, errCode 9 2, 4, 0x14)) ∧
    (∀ j : Fin 92,
      let die := (islInst j).1
      let u := (s.flag (islStatKey j) 4).raise 6 (errCode 9 5) die 0x01 (islInst j).2
      (die < 4 → exec (.islandFault j) s = .next (u.loseDie die).lateMissing) ∧
      (die = 4 → exec (.islandFault j) s = .next (u.drawn.deviceReset (u.freeNat 4)).lateMissing) ∧
      (die = 5 → exec (.islandFault j) s = .next u.cdReset.lateMissing))

/-- The governor's accounts (R282 to R287, R293 to R295): a window opens with the PB shares, no general credit, the overdraft and what the
cap leaves in the pool; chunks move from the pool to a purse; a unit of a job and a request are admitted and charged; a poll takes what
the supplies report and ends the fallback, and the third failure of a device begins it. The model's own choices in it: log entries 100,
101. -/
def Obligations.GovernorKeepsAccounts : Prop :=
  ∀ (s : State),
    (∀ (isl : List (Nat × Nat)) (temps : List Nat), s.power.deepReq = false →
      (let m := (List.range 92).foldl (fun n j => if s.dieLost (islInst j).1 then n else n + (isl.getD j (0, 0)).1) 0 + s.externalCredits
       let b := s.effectiveCap.1 * 10000
       ∃ t, exec (.creditWindow isl temps) s = .next t ∧
        (∀ i < 5, t.power.share.get i 0 = s.fld (Reg.GOV_PBSH i) 0 23) ∧ t.power.credit = [] ∧ t.power.charged = 0 ∧ t.power.budget = b ∧
        t.power.ovd = s.fld Reg.GOV_CAP 16 16 * 1000 ∧
        t.power.pool = b - (m - s.power.charged) - (m - s.power.budget) - s.pbReserve ∧ t.power.dom = s.power.dom)) ∧
    (∀ purse : Fin 5, exec (.chunkGrant purse) s = .next { s with power := { s.power with
      credit := s.power.credit.set purse (s.power.credit.get purse 0 + min s.chunk s.power.pool) 0, pool := s.power.pool - min s.chunk s.power.pool } }) ∧
    (∀ kind die : Nat, kind < 7 → die < 5 → s.admissible 2 (jobPurse kind die) (s.jobCost kind) = true →
      ∃ t, exec (.workAdmission (.job kind die)) s = .next t ∧ t = { s with power := t.power } ∧
        t.power.jobs.get (8 * kind + die) 0 = s.power.jobs.get (8 * kind + die) 0 + 1 ∧
        (s.admEn = true → t.power.pool = s.power.pool - s.jobCost kind ∧ t.power.charged = s.power.charged + s.jobCost kind)) ∧
    (∀ (die rg i : Nat) (q : Request), die < 4 → rg < 16 → (s.disp die rg).ready[i]? = some q → q.admitted = false →
      let cls := s.taskFld die rg q.task 0 12 2
      let cost := s.taskFld die rg q.task 1 16 16
      (s.admissible cls die cost = true →
        exec (.workAdmission (.request die rg i)) s = .next ((s.charge cls die cost).setDisp die rg { s.disp die rg with
          ready := (s.disp die rg).ready.set i { q with admitted := true } })) ∧
      (s.admissible cls die cost = false → cls = 0 → exec (.workAdmission (.request die rg i)) s = .next s.pbWaits)) ∧
    (∀ replies : List (Nat × Nat), s.bit Reg.GOV_PMB 0 = true → s.busRouted = true → (∀ d ∈ s.pmbDevices, ∃ w, replies.find? (fun r => r.1 == d) = some (d, w)) →
      ∃ t, exec (.pmbusPoll replies) s = .next t ∧ (s.hubInput 0x82 = false → exec (.pmbusAlert replies) s = .next t) ∧ t.bit Reg.GOV_STAT 8 = false ∧
        (∀ d ∈ s.pmbDevices, ∀ w, replies.find? (fun r => r.1 == d) = some (d, w) → t.power.fails.get d 0 = 0 ∧
          (d < 8 → t.power.pout.get d 0 = linear11 w) ∧ (d = 8 → t.power.polled = some (linear11 w / 65536)))) ∧
    (∀ dev : Fin 9,
      (s.power.fails.get dev 0 < 2 → exec (.pmbusTimeout dev none) s = .next { s with power := { s.power with
        fails := s.power.fails.set dev (s.power.fails.get dev 0 + 1) 0 } }) ∧
      (s.power.fails.get dev 0 = 2 → ∃ t, exec (.pmbusTimeout dev none) s = .next t ∧ t.power.fails.get dev 0 = 3 ∧
        t.bit Reg.GOV_STAT 6 = true ∧ t.bit Reg.GOV_STAT 8 = true ∧
        t.raised.getLast?.map (fun e => (e.sev, e.code, e.die, e.trig)) = some (3, errCode 9 3, 4, 0x14)))

/-- Commands of a queue (R310, R317 to R320): a doorbell moves the tail, or is ignored when it would overfill the ring; a kick releases a
descriptor of a gated queue, or waits; the state commands act in the states that take them and are refused in the others; RESET clears the
queue whatever its state. The model's own choices in it: log entry 109. -/
def Obligations.QueueCommandsAct : Prop :=
  ∀ (s : State) (r : Requester) (q : Fin 8192),
    let x := s.queue q
    let cmd := s.qreg q 0x024
    (∀ w : BitVec 32, s.admits r (s.qreg q 0x01C) true = true →
      ((wfld w 0 16 + 65536 - x.head) % 65536 < s.ringSize q → s.qgated q = false →
        exec (.doorbell r q w) s = .next ((s.setQueue q { x with tail := wfld w 0 16 % 65536 }).wrote r (s.qreg q 0x01C))) ∧
      (s.ringSize q ≤ (wfld w 0 16 + 65536 - x.head) % 65536 →
        exec (.doorbell r q w) s = .next ((s.flagErr (s.qstat q) 28 3 (errCode 10 5)).wrote r (s.qreg q 0x01C)))) ∧
    (s.admits r (s.qreg q 0x048) true = true →
      exec (.qmKick r q) s = .next (((s.store (s.qreg q 0x048) 0x80000000).kick q).wrote r (s.qreg q 0x048))) ∧
    ((x.state ≠ .run → x.state ≠ .paused → exec (.kickArrival q) s = .next (s.flagErr (s.qstat q) 29 3 (errCode 10 6))) ∧
     ((x.state = .run ∨ x.state = .paused) → s.qgated q = true →
      (x.freed < x.pending → exec (.kickArrival q) s = .next (s.setQueue q { x with freed := x.freed + 1 })) ∧
      (x.pending ≤ x.freed → x.kicks < 255 → exec (.kickArrival q) s = .next (s.setQueue q { x with kicks := x.kicks + 1 })) ∧
      (x.pending ≤ x.freed → 255 ≤ x.kicks → exec (.kickArrival q) s = .next (s.flag (s.qreg q 0x048) 8)))) ∧
    (∀ w : BitVec 32, s.admits r (s.qreg q 0x040) true = true →
      exec (.completionPointerWrite r q w) s = .next ((s.setQueue q { x with
        crd := wfld w 16 16 % 65536,
        reported := x.reported.drop ((wfld w 16 16 + s.compSize q - x.crd % s.compSize q) % s.compSize q) }).wrote r (s.qreg q 0x040))) ∧
    (s.admits r cmd true = true →
      (x.state = .disabled → s.qtype q < 6 → s.qclass q ≠ 3 → (s.qtype q = 5 → homeOf q = 4) → (s.qcfg1 q 0 8 : Int) ≤ s.poolSize (homeOf q) →
        exec (.queueEnable r q) s = .next ((s.setQueue q { x with state := .run, code := 0, last := s.tickEnd }).wrote r cmd)) ∧
      (x.state ≠ .disabled → exec (.queueEnable r q) s = .next (s.refusedWrite r cmd)) ∧
      (x.state = .run → exec (.queuePause r q) s = .next ((s.setQueue q { x with state := .paused }).wrote r cmd)) ∧
      (x.state ≠ .run → exec (.queuePause r q) s = .next (s.refusedWrite r cmd)) ∧
      ((x.state = .paused ∨ x.state = .stalled) →
        exec (.queueResume r q) s = .next ((s.setQueue q { x with state := .run, code := 0, last := s.tickEnd }).wrote r cmd)) ∧
      (x.state ≠ .paused → x.state ≠ .stalled → exec (.queueResume r q) s = .next (s.refusedWrite r cmd)) ∧
      (∀ d : Desc, x.state = .error → x.failed = some d → exec (.queueSkip r q) s = .next ((s.setQueue q { x with
        state := .run, code := 0, failed := none, last := s.tickEnd, open_ := x.open_ ++ [{ ord := x.next, desc := d, skipped := true }],
        next := x.next + 1, head := (x.head + 1) % 65536, freed := x.freed - 1 }).wrote r cmd)) ∧
      (x.state ≠ .error → exec (.queueSkip r q) s = .next (s.refusedWrite r cmd)) ∧
      exec (.queueReset r q) s = .next ((s.setQueue q {}).wrote r cmd))

/-- What moves through a queue (R310 to R316, R318, R321): the descriptor at the head opens when it is valid and puts the queue in ERROR
when it is not; source data fill cells of at most 256 bytes; the scheduler's cell leaves for its destination and takes a credit, which
comes back; a descriptor whose cells have all gone completes in order, with its completion where it wants one, and says so where that came
too late; a queue without progress stalls. The model's own choices in it: log entries 110, 107. -/
def Obligations.QueuesMoveData : Prop :=
  ∀ (s : State) (q : Fin 8192),
    let x := s.queue q
    (∀ (f : Fetch) (m : MemReply) (u : State), s.qruns q = true → s.qstream q = false → x.pending ≠ 0 → s.qgated q = false → x.open_.length < 4 →
      s.protectedRead (s.headAddress q) (.queue q) f = (u, some m) → m.resp = .ok → m.poison = false →
      (let d := descOf (m.data / 256 ^ (s.headAddress q % 64))
       let y := u.queue q
       (u.descOk q d.1 d.2 = true → d.1.flags / 4 % 2 = 0 → exec (.descriptorFetchComplete q f) s = .next (u.setQueue q { y with
        open_ := y.open_ ++ [{ ord := y.next, desc := d.1 }], next := y.next + 1, head := (y.head + 1) % 65536, freed := y.freed - 1 })) ∧
       (u.descOk q d.1 d.2 = false → y.state = .run → ∃ t, exec (.descriptorFetchComplete q f) s = .next t ∧ (t.queue q).state = .error ∧
        (t.queue q).code = 7 ∧ (t.queue q).failed = some d.1))) ∧
    (∀ (data bs : List (BitVec 8)) (p : Bool) (fs : List Fetch) (o : OpenDesc) (u : State),
      x.reading = some o → s.qruns q = true → s.qstream q = false → s.mayTake q = true →
      (let n := min 256 (o.desc.len - o.read)
       let src := o.desc.src + o.read
       (if isMemory src = true then s.readBytes (s.consumerOf q o.desc.dst) src n fs
        else if isFacet o.desc.src = true then (s, some (s.facetBytes src n, false, .ok))
        else (s, some ((data ++ List.replicate 256 0).take n, p, .ok))) = (u, some (bs, p, .ok)) →
       ∃ t : State, exec (.sourceReadReturn q data p true fs) s = .next { t with net := { t.net with arrivals := t.net.arrivals + 1 } } ∧
        t = u.setQueue q { u.queue q with
        open_ := (u.queue q).open_.map (fun z => if z.ord = o.ord then { z with read := z.read + n } else z),
        cells := (u.queue q).cells ++ [{ dst := o.desc.dst + o.read, bytes := bs, poison := p, age := s.net.arrivals, ord := o.ord }],
        last := s.tickEnd })) ∧
    (∀ bytes : List (BitVec 8), s.streamRefused q = false → s.streamKind q = true →
      (s.qruns q = true → s.mayTake q = true → s.streamRoom q bytes.length = true → (x.fill ++ bytes).length < 256 →
        exec (.streamPush q bytes false) s = .next ((s.setQueue q { x with fill := x.fill ++ bytes, offered := false }).answer .ok) ∧
        exec (.streamPush q bytes true) s = .next (((s.setQueue q { x with fill := x.fill ++ bytes, offered := false }).streamFlush q).answer .ok)) ∧
      (s.qruns q = false ∨ s.mayTake q = false ∨ s.streamRoom q bytes.length = false → ∀ flush,
        exec (.streamPush q bytes flush) s = .next ((s.setQueue q { x with offered := true }).answer .unreachable))) ∧
    (∀ (bytes : List (BitVec 8)) (flush : Bool), s.streamRefused q = false → s.streamKind q = false →
      exec (.streamPush q bytes flush) s = .next ((s.queueError q 7 none).answer .unreachable)) ∧
    (∀ (bytes : List (BitVec 8)) (flush : Bool), s.streamRefused q = true → exec (.streamPush q bytes flush) s = .next (s.answer .refused)) ∧
    (x.fill = [] →
      ∃ t, exec (.streamFlushTimeout q) s = .next t ∧ t = { s with net := { s.net with queues := t.net.queues } } ∧
        (∀ o ∈ (t.queue q).open_, o.closed = true) ∧ (t.queue q).cells = x.cells) ∧
    (x.fill ≠ [] → exec (.streamFlushTimeout q) s = .next (((s.setQueue q { x with fill := [] }).streamCell q x.fill).streamClose q)) ∧
    (∀ (die : Fin 5) (k : Nat) (c : Cell) (ep : Endpoint) (u : State), s.chooseCell die = some (k, c, ep) → s.deliver k c = (u, some .ok) →
      (let v := (u.charge (s.qclass k) die (s.qcost k)).setCredits die ep (s.creditsUsed die ep + 1)
       exec (.cellTransfer die) s = .next (v.setQueue k { v.queue k with
        cells := (v.queue k).cells.erase c, age := 0, last := s.tickEnd,
        open_ := (v.queue k).open_.map (fun z => if z.ord = c.ord then { z with sent := z.sent + c.bytes.length } else z) }))) ∧
    (∀ (home : Fin 5) (ep : Endpoint), ∃ t, exec (.creditReturn home ep) s = .next t ∧ t = { s with net := { s.net with used := t.net.used } } ∧
      t.creditsUsed home ep = s.creditsUsed home ep - 1 ∧
      ∀ (h : Nat) (e : Endpoint), (h, e) ≠ ((home : Nat), ep) → t.creditsUsed h e = s.creditsUsed h e) ∧
    (∀ o : OpenDesc, x.completed = some o →
      let finish (u : State) : State := u.setQueue q { u.queue q with open_ := (u.queue q).open_.drop 1, fin := ((u.queue q).fin + 1) % 65536, last := s.tickEnd }
      (∀ late : Bool, s.wantsCompletion q o = false → exec (.descriptorComplete ⟨q, late⟩) s = .next (finish s)) ∧
      (∀ u : State, s.wantsCompletion q o = true → s.compFull q = false → s.writeCompletion q o = (u, some .ok) →
        exec (.descriptorComplete ⟨q, false⟩) s = .next (finish u) ∧
        (s.fld (s.qreg q 0x008) 0 24 ≠ 0 →
          exec (.descriptorComplete ⟨q, true⟩) s = .next (((finish u).flag (s.qstat q) 31).lateArrival (homeOf q) 0x0A (instOf q)))) ∧
      (∀ late : Bool, s.wantsCompletion q o = true → s.compFull q = true → exec (.descriptorComplete ⟨q, late⟩) s = .next s)) ∧
    (x.state = .run → s.clk.hold = false → s.fld (s.qreg q 0x008) 0 24 ≠ 0 → s.homeEn q = true → s.setFrozen q = false → s.workPending q = true →
      s.fld (s.qreg q 0x008) 0 24 * 16384 ≤ (s.tickEnd - x.last).toNat →
      ∃ t, exec (.queueTimeout q) s = .next t ∧ (t.queue q).state = .stalled ∧ (t.queue q).code = s.stallCode q ∧ t.bit (s.qstat q) 26 = true)

/-- Set commands, routers and crossing lanes (R305, R307, R317, R327): a set command acts on each member of its group as the member's own
command does; an uncorrectable error of a router is counted and recorded, a corrected one counted; a packet that enters the network joins
its flow; a flit of a crossing quarter carries the words its sources present, and one with a failed CRC makes its groups present their
defaults until a good one comes. The model's own choices in it: log entry 111. -/
def Obligations.SetsRoutersAndCrossings : Prop :=
  ∀ (s : State) (r : Requester) (set : Fin 64) (grp : Fin 16),
    let die := if (set : Nat) < 16 then 4 else ((set : Nat) - 16) / 12
    let key := regKey die 0x0A (0xD00 + (set - firstSet die)) 0
    let stored (op : Nat) : State := s.store key (BitVec.ofNat 32 (op + grp * 16 + 2 ^ 31))
    (∀ q : Nat, q / 128 = set → s.admits r key true = true → s.inGroup q grp = true → (∀ k, k / 128 = (set : Nat) → k ≠ q → s.inGroup k grp = false) →
      exec (.setEnable r set grp) s = .next (((stored 1).queueEnable q).1.wrote r key) ∧
      exec (.setPause r set grp) s = .next (((stored 2).queuePause q).1.wrote r key) ∧
      exec (.setResume r set grp) s = .next (((stored 3).queueResume q).1.wrote r key) ∧
      exec (.setReset r set grp) s = .next (((stored 4).queueReset q).wrote r key)) ∧
    (s.admits r key true = true →
      exec (.setKick r set grp) s = .next (((stored 5).kickSet set (fun k => (stored 5).inGroup k grp)).wrote r key)) ∧
    (∀ (d : Fin 5) (f : Flow) (corrected : Bool),
      exec (.packetArrival ⟨d, f⟩ corrected true) s = .next (((s.count (Reg.HN_UECNT d) 1).raise 5 (errCode 10 7) d 0x0B 0).flowPacket d f) ∧
      exec (.packetArrival ⟨d, f⟩ true false) s = .next ((s.count (Reg.HN_CECNT d) 1).flowPacket d f) ∧
      exec (.packetArrival ⟨d, f⟩ false false) s = .next (s.flowPacket d f)) ∧
    (∀ f : Flow, f.src.1 ≠ f.dst.1 →
      let x : FlowState := (s.net.flows.find? (fun y => y.flow == f)).getD { flow := f }
      ∃ y, s.flowPacket f.src.1 f = { s with net := { s.net with flows := s.net.flows.filter (fun z => z.flow != f) ++ [y] } } ∧
        y.flow = f ∧ y.held = x.held ++ [x.next] ∧ y.next = x.next + 1) ∧
    (∀ (d : Fin 6) (m : Fin 15) (quarter : Fin 4) (x : BitVec 64) (words : List (BitVec 32)),
      let k := (4 * (m : Nat) + quarter) * 8 + d
      (∃ t : State, exec (.crossingFlit d m quarter ⟨x, words, false⟩) s = .next t ∧
        t = { s with net := { s.net with xlBad := s.net.xlBad.set k false false, flits := t.net.flits } } ∧
        (∀ k', k' ≠ k → t.net.flits.get k' [] = s.net.flits.get k' []) ∧
        (∃ f, t.net.flits.get k [] = (f :: s.net.flits.get k []).take 32 ∧ f.at_ = x ∧ f.failed = false ∧
          ∀ g : Fin 32, (let src := peerOf m d
            let rg := Config.laneSource (32 * (4 * m + quarter) + g) src % 16
            (s.region src rg).reset = false → s.reconfiguring src rg = false → s.restoringRg src rg = false →
            f.words.getD g 0 = words.getD g 0))) ∧
      (∃ t : State, exec (.crossingFlit d m quarter ⟨x, words, true⟩) s = .next t ∧ t.net.xlBad.get k false = true ∧ t.bit (Reg.D2D_EVT d m) 2 = true))

/-- Accesses of a DDR5 channel (R330 to R335, R337): a read opens its row and answers with the line held, or poison where the line is
uncorrectable; a write is acknowledged in the write queue; an address that lands nowhere is refused; a refresh closes rows, or is one
pulled in before. The model's own choices in it: log entries 112, 116. -/
def Obligations.ChannelsServeMemory : Prop :=
  ∀ (s : State) (a bank row prio : Nat) (c : Fin 4),
    let replied (x : State × MemReply) : State := { x.1 with mem := { x.1.mem with reply := some x.2 } }
    let ch := s.chan c
    (∀ l : Nat, s.locate a = .ok ((c : Nat), l) →
      exec (.memoryRead a bank row 0) s = .next (replied ((s.scheduleRead c bank row).storedLine c l)) ∧
      exec (.memoryRead a bank row 1) s = .next (replied (((s.scheduleRead c bank row).corrected c).storedLine c l)) ∧
      exec (.memoryRead a bank row 2) s = .next (replied ((s.scheduleRead c bank row).uncorrectable c a, poisoned 6)) ∧
      ((s.scheduleRead c bank row).chan c).opened.get bank none = some row ∧
      (((ch.wq bank).length + 1 < s.wqHi c ∧ (ch.wq bank).length < 64) →
        exec (.memoryWrite a bank row prio) s = .next (replied (s.setChan c (ch.setWq bank (ch.wq bank ++ [
          { bank := bank, row := row, prio := prio, line := l / 64, at_ := s.now }])), {})))) ∧
    (∀ x : Resp, s.locate a = .error x →
      (∀ out : Fin 3, exec (.memoryRead a bank row out) s = .next (replied (s, { resp := x }))) ∧
      exec (.memoryWrite a bank row prio) s = .next (replied (s, { resp := x }))) ∧
    (s.serving c = true →
      (0 < ch.pulled → exec (.refresh c) s = .next (s.setChan c { ch with pulled := ch.pulled - 1 })) ∧
      (ch.pulled = 0 → s.fld (Reg.DDR_CTL c) 1 2 = 2 → exec (.refresh c) s = .next (s.setChan c { ch with group := (ch.group + 1) % 8 })) ∧
      (ch.pulled = 0 → s.fld (Reg.DDR_CTL c) 1 2 ≠ 2 → exec (.refresh c) s = .next (s.setChan c { ch with opened := [] }))) ∧
    (∀ hot : Bool, exec (.mr4Poll c hot) s = .next (s.setBit (Reg.DDR_STAT c) 4 hot)) ∧
    exec (.activationTableClear c) s = .next (s.setChan c { ch with acts := [] })

/-- Training, retraining and tests of a DDR5 channel (R338 to R342): training leads to READY, or to FAILED where a lane's eye is too
narrow; a retraining runs slot by slot and ends READY; a memory test starts once and leaves its result. The model's own choices in it: log
entries 114, 124. -/
def Obligations.ChannelsTrainAndTest : Prop :=
  ∀ (s : State) (r : Requester) (c : Fin 4),
    let ch := s.chan c
    (s.mayTrain c = true → ch.state = .off →
      exec (.channelTraining c) s = .next (s.setChan c { ch with state := .init, opened := [], acts := [], raa := [] })) ∧
    (∀ (eyes : List (BitVec 32)) (thr : Nat), ch.state = .init →
      ∃ t, exec (.channelTrainingComplete c eyes thr) s = .next t ∧ t = { s with csr := t.csr, mem := t.mem, raised := t.raised } ∧
        (s.eyesPass c eyes = true → (t.chan c).state = .ready ∧ (t.chan c).rfmThr = thr ∧ t.raised = s.raised) ∧
        (s.eyesPass c eyes = false → (t.chan c).state = .failed ∧ t.bit (Reg.DDR_STAT c) 6 = true) ∧
        (∀ i < 10, ∀ w, eyes[i]? = some w → t.rd (Reg.DDR_EYE c i) = w)) ∧
    (∀ w : BitVec 32, s.admits r (Reg.DDR_CTL c) true = true → ch.state = .failed → wbit w 0 = true → s.power.dom.get (148 + c) 0 = 0 → s.populated c = true →
      ∃ t : State, exec (.channelInit r c w) s = .next (t.wrote r (Reg.DDR_CTL c)) ∧ (t.chan c).state = .init) ∧
    (∀ w : BitVec 32, s.admits r (Reg.DDR_RT c) true = true → wbit w 1 = false →
      (ch.state = .ready → ∃ t : State, exec (.ddrRetrain r c w) s = .next (t.wrote r (Reg.DDR_RT c)) ∧ (t.chan c).state = .retrain ∧
        t.fld (Reg.DDR_RT c) 16 7 = 0 ∧ t = { s with csr := t.csr, mem := t.mem }) ∧
      (ch.state ≠ .ready → ch.state ≠ .retrain → exec (.ddrRetrain r c w) s = .next (s.refusedWrite r (Reg.DDR_RT c)))) ∧
    (∀ (eyes : List (BitVec 32)) (n : Nat), ch.state = .retrain → s.gapRuns c = false → s.power.jobs.get 28 0 = n + 1 →
      ∃ t, exec (.retrainSlot c eyes) s = .next t ∧ t.power.jobs.get 28 0 = n ∧ (t.chan c).opened = [] ∧
        (s.fld (Reg.DDR_RT c) 16 7 + 1 < s.slotsOf c → (t.chan c).state = .retrain ∧ t.fld (Reg.DDR_RT c) 16 7 = s.fld (Reg.DDR_RT c) 16 7 + 1) ∧
        (s.slotsOf c ≤ s.fld (Reg.DDR_RT c) 16 7 + 1 → (t.chan c).state = .ready)) ∧
    (∀ w : BitVec 32, s.admits r (Reg.DDR_RT c) true = true → ch.state = .retrain →
      exec (.retrainAbort r c w) s =
        .next (((s.store (Reg.DDR_RT c) (w &&& 0xFFFFFFFE ||| 2)).setChan c { ch with state := .ready }).wrote r (Reg.DDR_RT c))) ∧
    (∀ (pat : Fin 4) (kid : Fin 64), s.admits r (Reg.DDR_MT_CTL c) true = true → ch.test = none →
      (let begun (op : Nat) : State := (((s.store (Reg.DDR_MT_CTL c) (testWord op pat kid)).setChan c { ch with test := some (op, r.code) }).wr
        (Reg.DDR_MT_RES c) 0).wrote r (Reg.DDR_MT_CTL c)
       exec (.memoryTestWrite r c pat kid) s = .next (begun 1) ∧ exec (.memoryTestCheck r c pat kid) s = .next (begun 2) ∧
       exec (.memoryTestWriteCheck r c pat kid) s = .next (begun 3))) ∧
    (∀ (op agent : Nat), ch.test = some (op, agent) → (s.rd (Reg.DDR_MT_LEN c)).toNat ≤ s.power.jobs.get 36 0 →
      ∃ t, exec (.memoryTestComplete c) s = .next t ∧ (t.chan c).test = none ∧ t.bit (Reg.DDR_MT_RES c) 31 = true ∧
        (op = 1 → t.rd (Reg.DDR_MT_RES c) = 0x80000000))

/-- CXL ports (R343 to R347): links come up once Phase A is done and go down with their requests answered; a root port's own function is
read and written at once, another device's request waits for its completion, which may be unsupported, poisoned or late; an endpoint
answers its host's configuration request with a retry until user mode, raises a vector in endpoint mode alone, and a function-level reset
clears the vectors. The model's own choices in it: log entry 118. -/
def Obligations.CxlPortsServe : Prop :=
  ∀ (s : State) (r : Requester) (p : Fin 2) (linkB : Bool),
    let key := lstat p linkB
    let cp := s.cxl p
    (∀ (rate : Fin 8) (width : Fin 32) (cxl : Bool),
      (s.boot.phaseA = true → s.fld key 0 2 ≠ 3 → exec (.cxlLinkUp p linkB rate width cxl) s = .next (s.wr key (BitVec.ofNat 32
        (2 + 4 * rate + 32 * width + 1024 * b2n cxl + 2048 * b2n (s.bit key 11) + 4096)))) ∧
      (s.boot.phaseA = false ∨ s.fld key 0 2 = 3 → exec (.cxlLinkUp p linkB rate width cxl) s = .next s)) ∧
    (∀ next : Fin 2, s.linkUp p linkB = true →
      ∃ t, exec (.cxlLinkDown p linkB next) s = .next t ∧ t.fld key 0 2 = next ∧ t.bit key 11 = true ∧
        (t.cxl p).outstanding = cp.outstanding.filter (fun x => x.linkB != linkB)) ∧
    (∀ w : BitVec 32, s.admits r (Reg.CXL_CTL p) true = true → wbit w 4 = false → wbit w 5 = false → s.fld key 0 2 ≠ 3 →
      ∃ t : State, exec (.linkHotReset r p linkB w) s = .next (t.wrote r (Reg.CXL_CTL p)) ∧ t.fld key 0 2 = 1) ∧
    (r.code ≠ 16 → s.reachable (Reg.CXL_CFGDATA p) = true → s.rootMode p = true → wbit (s.rd (Reg.CXL_CFGADDR p)) 28 = linkB → s.fld key 0 2 ≠ 3 →
      (let a := s.rd (Reg.CXL_CFGADDR p)
       let own := b2n linkB * 4096 + wfld a 0 12 / 4 * 4
       (wfld a 20 8 = 0 → wfld a 12 8 = 0 →
        exec (.configRequest r p none) s = .next (s.completeAccess r.code false (csrAddr (Reg.CXL_CFGDATA p)) .ok (cp.own.get own 0)) ∧
        ∀ w : BitVec 32, ∃ t, exec (.configRequest r p (some w)) s = .next t ∧ (t.cxl p).own.get own 0 = w ∧
          t.bus.reply = some (.ok, 0)) ∧
       (wfld a 20 8 ≠ 0 → s.linkUp p linkB = true →
        exec (.configRequest r p none) s = .next { s with bus := { s.bus with reply := none }, mem := (s.setCxl p { cp with
          outstanding := cp.outstanding ++ [⟨linkB, r.code, false, csrAddr (Reg.CXL_CFGDATA p)⟩] }).mem }))) ∧
    (r.code ≠ 16 → s.reachable (Reg.CXL_IODATA p) = true → s.rootMode p = true → wbit (s.rd (Reg.CXL_IOADDR_HI p)) 31 = linkB → s.linkUp p linkB = true →
      exec (.deviceRegisterRequest r p none) s = .next { s with bus := { s.bus with reply := none }, mem := (s.setCxl p { cp with
        outstanding := cp.outstanding ++ [⟨linkB, r.code, false, csrAddr (Reg.CXL_IODATA p)⟩] }).mem }) ∧
    (r.code = 6 + p → s.rootMode p = false → s.linkUp p false = true → ∀ w : Option (BitVec 32),
      (s.userMode = false → exec (.configRequest r p w) s = .next { s with bus := { s.bus with completion := some .configurationRetry } }) ∧
      (s.userMode = true → exec (.configRequest r p w) s = .next { s with free := s.free + 1, bus := { s.bus with
        reply := some (.ok, Config.functionWord p s.free), completion := some .successful } })) ∧
    (∀ x : CxlReq, cp.outstanding.find? (fun y => y.linkB == linkB) = some x →
      (let taken := s.setCxl p { cp with outstanding := cp.outstanding.erase x }
       (∀ data : BitVec 32, exec (.cxlCompletion p linkB data false ⟨false, false⟩) s = .next (taken.completeAccess x.req x.write x.addr .ok data) ∧
        exec (.cxlCompletion p linkB data false ⟨false, true⟩) s =
          .next (((taken.flag (Reg.CXL_ERR p) 3).lateArrival 4 0x11 p).completeAccess x.req x.write x.addr .ok data) ∧
        exec (.cxlCompletion p linkB data false ⟨true, false⟩) s = .next ((taken.flag (Reg.CXL_ERR p) 2).completeAccess x.req x.write x.addr .ok 0xFFFFFFFF) ∧
        exec (.cxlCompletion p linkB data true ⟨false, false⟩) s =
          .next (((taken.flagErr (Reg.CXL_ERR p) 0 4 (errCode 11 5)).count (Reg.CXL_POISCNT p) 1).completeAccess x.req x.write x.addr .unreachable 0)) ∧
       (s.clk.hold = true → exec (.completionTimeout p linkB) s = .next s) ∧
       (s.clk.hold = false → exec (.completionTimeout p linkB) s =
        .next (((taken.flagErr (Reg.CXL_ERR p) 1 4 (errCode 11 6)).count (Reg.CXL_CTOCNT p) 1).completeAccess x.req x.write x.addr .unreachable 0)))) ∧
    (∀ v : Fin 64, s.admits r (Reg.CXL_EPIRQ p) true = true →
      (s.rootMode p = true → exec (.endpointInterrupt r p v) s = .next (s.refusedWrite r (Reg.CXL_EPIRQ p))) ∧
      (s.rootMode p = false → exec (.endpointInterrupt r p v) s = .next ((s.setCxl p { cp with
        msix := cp.msix.filter (· != (v : Nat)) ++ [(v : Nat)] }).wrote r (Reg.CXL_EPIRQ p)))) ∧
    (s.rootMode p = false → ∃ t, exec (.functionLevelReset p) s = .next t ∧ (t.cxl p).msix = [] ∧ t.bit (Reg.CXL_ERR p) 5 = true) ∧
    (s.rootMode p = true → exec (.functionLevelReset p) s = .next s)

/-- Protected memory (R356, R357, R363, R365, R369): a whole line that the holder of its key writes is acknowledged, advances its counter,
and is what a read with the key then returns; a line whose check fails raises an alarm and answers poison; addresses without an entry, and
writes without the key, are denied. The model takes cryptography as ideal (log entry 8). The model's own choices in it: log entries 8,
119. -/
def Obligations.ProtectedLinesKeepTheirData : Prop :=
  ∀ (s : State) (a e l n k : Nat),
    let kid := s.entryKid n
    let c : Consumer := .agent k
    let replied (x : State × MemReply) : State := { x.1 with mem := { x.1.mem with reply := some x.2 } }
    s.locate a = .ok (e, l) →
    (∀ f : Fetch, l < s.dataArea e → s.entryOf a = none → exec (.protectedRead a c f) s = .next (replied (s, { resp := .denied }))) ∧
    (l < s.dataArea e → s.entryOf a = some n → s.policyDenies n c true = false → s.entryMode n ≠ 3 → s.hasKey c n = false →
      ∀ bytes p f, exec (.protectedWrite a bytes p c f) s = .next (replied (s.mpeDenied e, { resp := .denied }))) ∧
    (l < s.dataArea e → s.entryOf a = some n → s.policyDenies n c true = false → s.policyDenies n c false = false → s.entryMode n ≠ 3 →
      s.hasKey c n = true → s.kidLoaded kid = true → s.locked e = false → s.pageWaits e (l / 4096) = false → s.listed e (l / 4096) = false →
      s.belowStuck e (l / 4096) = false → l % 64 = 0 →
      (∀ bytes : List (BitVec 8), bytes.length = 64 → (s.page e (l / 4096)).minors.get (l / 64 % 64) 0 < 127 →
        ∃ t, exec (.protectedWrite a bytes false c .intact) s = .next t ∧ t = { s with csr := t.csr, free := s.free + 1, raised := t.raised, mem := t.mem } ∧ t.mem.reply = some {} ∧
          ((t.engine e).lines.get (l / 64) {}).data = bytesNat bytes ∧
          (t.page e (l / 4096)).minors.get (l / 64 % 64) 0 = (s.page e (l / 4096)).minors.get (l / 64 % 64) 0 + 1 ∧
          (∀ j, j ≠ l / 64 → (t.engine e).lines.get j {} = (s.engine e).lines.get j {}) ∧
          ∃ u, exec (.protectedRead a c .intact) t = .next u ∧ u.mem.reply = some { data := bytesNat bytes }) ∧
      ((s.page e (l / 4096)).minors.get (l / 64 % 64) 0 ≠ 0 → s.entryMode n ≠ 0 → ((s.engine e).lines.get (l / 64) {}).kid = kid →
        ((s.engine e).lines.get (l / 64) {}).poison = false →
        ∃ t, exec (.protectedRead a c .badTag) s = .next t ∧ t.mem.reply = some { poison := true, cls := 1 } ∧ t.bit (Reg.MPE_STAT e) 0 = true))

/-- What the engines do by themselves and on command (R360 to R363, R368, R369, R374, R376): a re-encryption raises the page's major
counter and applies its write; a late check that fails raises its alarm; a rebuild, a retirement and a tree initialisation begin when they
may and end with their unit free; the alarm log shows its head; region entries are set up while disabled and enabled when they fit. The
model's own choices in it: log entry 120. -/
def Obligations.EnginesMaintainTheTree : Prop :=
  ∀ (s : State) (r : Requester) (e : Fin 6),
    let g := s.engine e
    (∀ (p : Nat) (w : HeldWrite) (rest : List (Nat × HeldWrite)), g.reenc = (p, w) :: rest →
      ∃ t, exec (.reencryptionComplete e) s = .next t ∧ t = { s with mem := t.mem } ∧ (t.engine e).reenc = rest ∧
        (t.page e p).major = (s.page e p).major + 1 ∧ (t.page e p).minors.get (w.line % 64) 0 = 2 ∧
        ((t.engine e).lines.get w.line {}).data = w.data) ∧
    (∀ (x : SpecCheck) (rest : List SpecCheck), g.pending = x :: rest →
      (x.cls = 0 → exec (.speculativeCheck e) s = .next (s.setEngine e { g with pending := rest })) ∧
      (x.cls ≠ 0 → exec (.speculativeCheck e) s = .next ((s.setEngine e { g with
        pending := rest.filter (fun y => y.consumer != x.consumer) }).integrityAlarm e x.cls x.kid x.addr x.consumer true
        (rest.filter (fun y => y.consumer == x.consumer)).length))) ∧
    (∀ n : Fin 64, s.admits r (Reg.MPE_REINIT e) true = true →
      (g.reinit = none → (s.unverifiable e).any (fun x => x.1 == (n : Nat)) = true →
        exec (.subtreeReinit r e n) s =
          .next (((s.setFld (Reg.MPE_REINIT e) 0 6 n).setEngine e { g with reinit := some (n : Nat) }).wrote r (Reg.MPE_REINIT e))) ∧
      (∀ m, g.reinit = some m → exec (.subtreeReinit r e n) s = .next (s.refusedWrite r (Reg.MPE_REINIT e)))) ∧
    (∀ (m level index : Nat), g.reinit = some m → (s.unverifiable e).find? (fun x => x.1 == m) = some (m, level, index) →
      ∃ t, exec (.subtreeReinitComplete e) s = .next t ∧ (t.engine e).reinit = none ∧ t.bit (Reg.MPE_STAT e) 6 = false ∧
        (∀ i, blockCovers level index 0 (i / 64) = true → (t.engine e).lines.get i {} = {})) ∧
    (∀ kid : Fin 64, s.admits r Reg.MPE_RETIRE true = true → s.mem.retiring = none → (r.code = 8 ∨ ((kid : Nat) ≠ 0 ∧ s.agentHolds r.code kid = true)) →
      exec (.keyRetirement r kid) s =
        .next (({ s.setFld Reg.MPE_RETIRE 0 6 kid with mem := { s.mem with retiring := some (kid : Nat) } }).wrote r Reg.MPE_RETIRE)) ∧
    (∀ k : Nat, k < 64 → s.mem.retiring = some k → (∀ i < 6, (s.engine i).reenc = []) →
      ∃ t, exec .retirementComplete s = .next t ∧ t.mem.retiring = none ∧ t.kidLoaded k = false) ∧
    exec (.treeInitialisation e) s = .next ((s.setEngine e { tk := g.tk + 1 }).setBit (Reg.MPE_STAT e) 13 true) ∧
    (∃ t, exec (.treeInitialisationComplete e) s = .next t ∧ t.bit (Reg.MPE_STAT e) 13 = false ∧ t.boot.trees.get e false = true ∧
      t = { s with csr := t.csr, boot := t.boot }) ∧
    (s.admits r (Reg.MPE_ALM0 e) false = true → r.code ≠ 16 →
      (∀ (x : Alarm) (rest : List Alarm), g.log = x :: rest → exec (.alarmLogHeadRead r e) s =
        .next ((s.setWide (slot (Reg.MPE_ALM0 e) r.code) x.words).fetched r (Reg.MPE_ALM0 e) (x.words.getD 0 0))) ∧
      (g.log = [] → exec (.alarmLogHeadRead r e) s =
        .next (((s.setWide (slot (Reg.MPE_ALM0 e) r.code) []).flag (Reg.MPE_STAT e) 14).fetched r (Reg.MPE_ALM0 e) 0))) ∧
    (∀ (n : Fin 256) (w : BitVec 32),
      let key := Reg.MPE_RGN_CTL (0x100 + n)
      s.admits r key true = true →
      (s.bit key 31 = true → wbit w 31 = true → exec (.regionEntryWrite r n w) s = .next (s.refusedWrite r key)) ∧
      (s.bit key 31 = true → wbit w 31 = false → exec (.regionEntryWrite r n w) s = .next ((s.setBit key 31 false).wrote r key)) ∧
      (s.bit key 31 = false → wbit w 31 = false → exec (.regionEntryWrite r n w) s = .next ((s.wr key (w &&& 0x800000FF)).wrote r key)) ∧
      (s.bit key 31 = false → wbit w 31 = true → s.entryBase n ≤ s.entryLimit n → s.rangeAllowed (s.entryBase n) (s.entryLimit n) = true →
        (s.regionEntries.any (fun m => decide (s.entryBase m ≤ s.entryLimit n ∧ s.entryBase n ≤ s.entryLimit m))) = false → wfld w 0 2 ≠ 3 →
        ∃ t : State, exec (.regionEntryWrite r n w) s = .next (t.wrote r key) ∧ t = { s with csr := t.csr, mem := t.mem } ∧
          t.rd key = w &&& 0x800000FF ∧ ∀ i < 6, (t.engine i).lines = (s.engine i).lines))

/-- The states of a transceiver lane (R388, R389, R392, R396): the enable and each event of the table move the lane as the table says,
failures enter FAULT with their code and a record, and an event that does not apply to the lane's state changes nothing. The model's own
choices in it: log entries 124, 123. -/
def Obligations.LanesFollowTheirTable : Prop :=
  ∀ (s : State) (r : Requester) (die q : Fin 4) (l : Fin 16),
    let x := s.lane die l
    let goes (st : LaneState) : State := s.setLane die l { x with state := st }
    (∀ w : BitVec 32, s.admits r (Reg.XCVR_LCTL die l) true = true → s.owned die l = false → s.laneEn die l = false → w.toNat < 2 ^ 24 → wbit w 0 = true →
      (s.laneOk die l w = true → wfld w 12 2 ≠ 3 → wfld w 15 3 < 5 → wfld w 18 3 < 6 → wfld w 21 3 < 6 →
        exec (.laneEnable r die l w) s = .next (((s.wr (Reg.XCVR_LCTL die l) w).startLane die l).wrote r (Reg.XCVR_LCTL die l)) ∧
        (((s.wr (Reg.XCVR_LCTL die l) w).startLane die l).lane die l).state =
          if s.pllLocked die ((l : Nat) / 4) (wbit w 1) && s.quadRuns die ((l : Nat) / 4) then .cal else .off) ∧
      (s.laneOk die l w = false → exec (.laneEnable r die l w) s = .next ((s.laneConfig die l).refusedWrite r (Reg.XCVR_LCTL die l)))) ∧
    (x.state = .cal → exec (.calibrationDone die l) s = .next (goes .acq)) ∧
    (x.state = .acq →
      exec (.cdrLock die l false) s = .next (goes (if s.fld (Reg.XCVR_LCTL die l) 12 2 = 0 then .ready else .adapt)) ∧
      exec (.cdrTimeout die l) s = .next ((s.setLane die l { x with state := .fault, fault := 3, blk := false }).raise 4 (errCode 13 2) die 0x0D l) ∧
      ∃ t, exec (.cdrLock die l true) s = .next t ∧ t.bit (Reg.XCVR_LSTAT die l) 12 = true ∧ (t.lane die l).state ≠ .fault) ∧
    (x.state = .adapt →
      (∀ eq : List (BitVec 32), exec (.adaptationDone die l eq false) s = .next (s.setLane die l { x with state := .ready, eq := eq.take 4 })) ∧
      exec (.adaptFail die l) s = .next ((s.setLane die l { x with state := .fault, fault := 4, blk := false }).raise 4 (errCode 13 2) die 0x0D l)) ∧
    (x.state = .ready →
      (∃ t, exec (.lossOfLock die l) s = .next t ∧ (t.lane die l).state = .acq ∧ t.bit (Reg.XCVR_LSTAT die l) 10 = true) ∧
      (s.fld (Reg.XCVR_LCTL die l) 5 2 = 1 →
        (x.blk = false → exec (.blockLock die l) s = .next (s.setLane die l { x with blk := true })) ∧
        (x.blk = true → exec (.blockLockLoss die l) s = .next ((s.setLane die l { x with blk := false }).flag (Reg.XCVR_LSTAT die l) 11)))) ∧
    (x.state ≠ .acq → ∀ late, exec (.cdrLock die l late) s = .next s ∧ exec (.cdrTimeout die l) s = .next s) ∧
    (x.state ≠ .adapt → exec (.adaptFail die l) s = .next s) ∧
    (∀ b : Bool, ∃ t, exec (.lanePllUnlock die q b) s = .next t ∧ t.pllLocked die q b = false ∧
      ∀ k < 4, s.laneEn die (4 * q + k) = true → s.lanePll die (4 * q + k) = b → (s.lane die (4 * q + k)).state ≠ .off →
        (t.lane die (4 * q + k)).state = .fault ∧ (t.lane die (4 * q + k)).fault = 2) ∧
    (∀ b : Bool, s.bit (pllKey die q b) 31 = true → rateListed (s.fld (pllKey die q b) 0 27) (s.bit (pllKey die q b) 27) (b && s.bit (pllKey die q b) 28) = true → s.quadRuns die q = true →
      (s.bit (pllKey die q b) 28 = true ∨ s.refOk (7 + 4 * die + q) = true) →
      ∃ t, exec (.quadPllLock die q b) s = .next t ∧ t.pllLocked die q b = true ∧
        ∀ k < 4, s.laneEn die (4 * q + k) = true → s.lanePll die (4 * q + k) = b →
          ((s.lane die (4 * q + k)).state = .off ∨ ((s.lane die (4 * q + k)).state = .fault ∧ (s.lane die (4 * q + k)).fault = 2)) →
          (t.lane die (4 * q + k)).state = .cal)

/-- Commands and measurements of a lane (R385, R387, R388, R390, R391, R394): RECAL takes the lane alone back to CAL, a slip moves the
word boundary by one in RAW mode in READY, PRBS_CLEAR zeroes the count, a loopback change of a READY lane goes through ACQ, transmit taps
beyond 63 are ignored, and a scan runs in READY and reports its count. The model's own choices in it: log entry 123. -/
def Obligations.LaneCommandsAct : Prop :=
  ∀ (s : State) (r : Requester) (die : Fin 4) (l : Fin 16),
    let x := s.lane die l
    let ctl := s.rd (Reg.XCVR_LCTL die l)
    (s.admits r (Reg.XCVR_LCMD die l) true = true → s.owned die l = false →
      (x.state ≠ .off → exec (.recal r die l) s =
        .next (((s.setLane die l { x with state := .cal, fault := 0, blk := false }).portsRetrain die l).wrote r (Reg.XCVR_LCMD die l))) ∧
      (wfld ctl 5 2 = 0 → x.state = .ready →
        exec (.slip r die l) s = .next ((s.setLane die l { x with slip := (x.slip + 1) % laneWidth ctl, gaps := x.gaps + 1 }).wrote r (Reg.XCVR_LCMD die l))) ∧
      ((wfld ctl 5 2 ≠ 0 ∨ x.state ≠ .ready) → exec (.slip r die l) s = .next (s.refusedWrite r (Reg.XCVR_LCMD die l))) ∧
      exec (.prbsClear r die l) s = .next ((s.wr (Reg.XCVR_PRBSCNT die l) 0).wrote r (Reg.XCVR_LCMD die l))) ∧
    (s.admits r (Reg.XCVR_LCMD die l) true = true → s.owned die l = true →
      exec (.recal r die l) s = .next (s.refusedWrite r (Reg.XCVR_LCMD die l)) ∧
      exec (.slip r die l) s = .next (s.refusedWrite r (Reg.XCVR_LCMD die l)) ∧
      exec (.prbsClear r die l) s = .next (s.refusedWrite r (Reg.XCVR_LCMD die l))) ∧
    (∀ path : Fin 8, s.admits r (Reg.XCVR_LCTL die l) true = true → s.owned die l = false → wbit ctl 0 = true → x.state = .ready →
      loopback ctl ≠ (if 5 ≤ (path : Nat) then 0 else path) →
      ∃ t : State, exec (.loopbackSelect r die l path) s = .next (t.wrote r (Reg.XCVR_LCTL die l)) ∧ (t.lane die l).state = .acq ∧
        t.fld (Reg.XCVR_LCTL die l) 15 3 = path ∧ (5 ≤ (path : Nat) → t.bit (Reg.XCVR_LSTAT die l) 13 = true)) ∧
    (∀ w : BitVec 32, s.admits r (Reg.XCVR_TXEQ die l) true = true →
      (wfld w 0 4 + wfld w 4 6 + wfld w 10 5 + wfld w 15 4 ≤ 63 →
        exec (.txEqualiserWrite r die l w) s = .next ((s.wr (Reg.XCVR_TXEQ die l) (BitVec.ofNat 32 (w.toNat % 2 ^ 23))).wrote r (Reg.XCVR_TXEQ die l))) ∧
      (63 < wfld w 0 4 + wfld w 4 6 + wfld w 10 5 + wfld w 15 4 →
        exec (.txEqualiserWrite r die l w) s = .next ((s.laneConfig die l).wrote r (Reg.XCVR_TXEQ die l)) ∧
        (s.laneConfig die l).rd (Reg.XCVR_TXEQ die l) = s.rd (Reg.XCVR_TXEQ die l))) ∧
    (∀ w : BitVec 32, s.admits r (Reg.XCVR_ESCAN die l) true = true → s.owned die l = false →
      (x.state = .ready → ∃ t : State, exec (.eyeScan r die l w) s = .next (t.wrote r (Reg.XCVR_ESCAN die l)) ∧ t.lane die l = { x with scan := true } ∧
        t.fld (Reg.XCVR_ESCAN die l) 0 18 = wfld w 0 18) ∧
      (x.state ≠ .ready → exec (.eyeScan r die l w) s = .next (s.refusedWrite r (Reg.XCVR_ESCAN die l)))) ∧
    (∀ errors : Nat, x.scan = true → exec (.eyeScanDone die l errors) s =
      .next ((s.setLane die l { x with scan := false }).wr (Reg.XCVR_ESRES die l) (BitVec.ofNat 32 (min errors 0xFFFFFFFF)))) ∧
    (∀ (efom : Nat) (eq : List (BitVec 32)) (errors : Nat), x.state = .ready →
      ∃ t, exec (.efomMeasurement die l efom eq errors) s = .next t ∧
        t.lane die l = { x with efom := min efom 255, eq := if 2 ≤ wfld ctl 12 2 then eq.take 4 else x.eq } ∧
        (wfld ctl 21 3 = 0 → t.csr = s.csr))

/-- Phase Link (R399, R400, R402, R403, R405, R407, R409): an enable takes the lanes and PLL B of their quad or is refused, a disable
drops the port, a master sends its frame, a received frame brings the port UP and its failures are counted, messages queue and arrive in
order, and a follower that loses its master goes to HOLD. The model's own choices in it: log entry 125. -/
def Obligations.PhaseLinkPortsAct : Prop :=
  ∀ (s : State) (r : Requester) (p : Fin 4),
    let x := s.port p
    (∀ w : BitVec 32, s.admits r (Reg.PL_PCTL p) true = true → s.portEn p = false → w.toNat < 2 ^ 16 → wbit w 0 = true →
      (s.portOk p w = true →
        ∃ t : State, exec (.portEnable r p w) s = .next (t.wrote r (Reg.PL_PCTL p)) ∧ t.rd (Reg.PL_PCTL p) = w ∧
          (t.port p).state = (if !s.dieLost (wfld w 1 2) && s.quadRuns (wfld w 1 2) (wfld w 3 4 / 4) then .training else .down) ∧
          t.owned (wfld w 1 2) (wfld w 3 4) = true ∧ t.lanePll (wfld w 1 2) (wfld w 3 4) = true ∧
          t.bit (pllKey (wfld w 1 2) (wfld w 3 4 / 4) true) 28 = true) ∧
      (s.portOk p w = false → exec (.portEnable r p w) s = .next (s.plConfig.refusedWrite r (Reg.PL_PCTL p)))) ∧
    (∀ w : BitVec 32, s.admits r (Reg.PL_PCTL p) true = true → s.portEn p = true →
      (wfld w 1 15 = s.fld (Reg.PL_PCTL p) 1 15 →
        exec (.portDisable r p w) s = .next ((s.portDisable p).wrote r (Reg.PL_PCTL p)) ∧
        ((s.portDisable p).port p).state = .down ∧ (s.portDisable p).portEn p = false) ∧
      (wfld w 1 15 ≠ s.fld (Reg.PL_PCTL p) 1 15 → exec (.portDisable r p w) s = .next (s.refusedWrite r (Reg.PL_PCTL p)))) ∧
    (∀ k : Nat, s.portEn p = true → x.state ≠ .down →
      (s.plRole = 2 → exec (.frameTransmit p k) s = .next (s.setPort p { x with
        tx := x.tx.drop (s.fld (Reg.PL_PCTL p) 9 7), seq := x.seq + 1, sent := ((x.seq, s.stamp k) :: x.sent).take 256,
        frame := some (s.buildFrame p (s.stamp k)) })) ∧
      (s.plRole = 1 → (s.stamp k).toNat % 320 = 0 → ∃ t, exec (.frameTransmit p k) s = .next t ∧
        (t.port p).frame = some (s.buildFrame p (s.stamp k)) ∧ (t.port p).seq = x.seq + 1)) ∧
    (∀ (k : Nat) (f : Frame) (ppm : Int) (late : Bool), s.portEn p = true → x.state ≠ .down → s.plRole ≠ 0 →
      (∃ t, exec (.frameReceive p k f true ppm late) s = .next t ∧ (t.port p).state = .up ∧ t.fld (Reg.PL_PSTAT p) 8 5 = f.nd % 32) ∧
      (s.isUpstream p = false → exec (.frameReceive p k f false ppm late) s =
        .next ((s.count (Reg.PL_CRCCNT p) 1).flagErr (Reg.PL_PSTAT p) 4 3 (errCode 13 4)))) ∧
    (∀ msg : BitVec 16, s.admits r (Reg.PL_EVTX p) true = true →
      (msg.toNat ≠ 0xFFFF → x.tx.length < 64 →
        exec (.eventMessageSend r p msg) s = .next ((s.setPort p { x with tx := x.tx ++ [msg.toNat] }).wrote r (Reg.PL_EVTX p))) ∧
      (msg.toNat ≠ 0xFFFF → 64 ≤ x.tx.length →
        exec (.eventMessageSend r p msg) s = .next ((s.flag (Reg.PL_PSTAT p) 6).wrote r (Reg.PL_EVTX p)))) ∧
    (r.code ≠ 16 → s.admits r Reg.PL_EVRX0 false = true →
      (∀ msg from_ dt rest, s.serial.rx = (msg, from_, dt) :: rest → ∃ t : State,
        exec (.eventHeadRead r) s = .next (t.fetched r Reg.PL_EVRX0 (BitVec.ofNat 32 (msg + from_ * 65536))) ∧ t.serial.rx = s.serial.rx) ∧
      (s.serial.rx = [] → ∃ t : State, exec (.eventHeadRead r) s = .next (t.fetched r Reg.PL_EVRX0 0xFFFF))) ∧
    (s.plRole = 2 → (s.serial.align = .locking ∨ s.serial.align = .aligning ∨ s.serial.align = .aligned) →
      exec .upstreamLoss s = .next { s with serial := { s.serial with align := .hold, near := 0, far := 0 } }) ∧
    (s.plRole = 2 → 1024 ≤ s.serial.freq → exec .frequencyError s = .next (s.flagErr Reg.PL_GSTAT 6 4 (errCode 13 7))) ∧
    (s.serial.freq < 1024 → exec .frequencyError s = .next s)

/-- References, PLLs and CLOCK_HOLD (R47, R415, R418, R419, R420, R422, R424, R425, R570): the crystal and the spine start, the loss of a
selected reference holds the device with its pins safe and records the reference, that of another reference does not, the return, the
relock and the release end the hold in their order, and a hold that cost XTAL and the spine ends in a device reset. The model's own
choices in it: log entries 129, 132. -/
def Obligations.ClockHoldBeginsAndEnds : Prop :=
  ∀ (s : State) (r : Requester) (n : Fin 23) (us : Nat),
    let c := s.clk
    (∀ (byp : Bool) (wait : Fin 8), c.por = true → c.amp = false →
      exec (.amplitudeDetect byp wait) s = .next (({ s with clk := { c with amp := true, xoByp := byp, xoWait := wait } } : State).setBit Reg.CLK_REFOK 0 true)) ∧
    (c.por = false → c.hold = false → s.spine.pllLock = false → s.refOk s.spineRef = true →
      ∃ t, exec .spinePllLock s = .next t ∧ t.spine.pllLock = true ∧ t.spine.run = true ∧ t.spine.dt = 0 ∧ t.bit Reg.CLK_STAT 17 = true) ∧
    (s.refSelected n = true → c.por = false → s.refOk n = true →
      ∃ t, exec (.referenceLoss n) s = .next t ∧ t.clk.hold = true ∧ t.refOk n = false ∧ t.bit Reg.CLK_REFLOST n = true ∧ t.pins.safe.reference = true ∧
        (c.hold = false → t.clk.cause = n ∧ t.clk.lost = [(n : Nat)] ∧ t.bit Reg.CLK_STAT 8 = true) ∧
        t.raised.getLast?.map (fun e => (e.sev, e.code, e.die, e.trig, e.flags)) = some (5, errCode 14 1, 4, 2, (n : Nat))) ∧
    (s.refSelected n = false → c.por = false → s.refOk n = true →
      ∃ t, exec (.localReferenceLoss n) s = .next t ∧ t.clk = c ∧ t.pins.safe = s.pins.safe ∧ t.refOk n = false ∧ t.bit Reg.CLK_REFLOST n = true) ∧
    (s.refSelected n = false → exec (.referenceLoss n) s = .next s) ∧ (s.refSelected n = true → exec (.localReferenceLoss n) s = .next s) ∧
    exec (.frequencyCheck n) s = .next (s.flagErr Reg.CLK_REFFREQ n 3 (errCode 14 2)) ∧
    (c.hold = false → exec (.referenceReturn n us) s = .next (s.setBit Reg.CLK_REFOK n true)) ∧
    (c.hold = true → c.lost = [(n : Nat)] → c.devReq = none → s.userMode = true →
      (c.xtalLost = false → exec (.referenceReturn n us) s =
        .next { s.setBit Reg.CLK_REFOK n true with clk := { c with lost := [], heldUs := us, relockDt := s.now } }) ∧
      (c.xtalLost = true → c.spineLost = true → c.por = false → s.power.trip = false →
        ∃ t, exec (.referenceReturn n us) s = .next t ∧ t.clk.hold = false ∧ t.bootState = 1 ∧ t.fld Reg.DIE_RSTCAUSE 0 4 = 6)) ∧
    (c.hold = true → c.lost = [] → c.relocked = false → c.relPend = false → c.resume = false → c.dieReq = [] →
      ∃ t, exec (.pllRelock us) s = .next t ∧ (c.spineLost = true → t.spine.run = true) ∧ t.spine.dt = s.spine.dt ∧
        (s.fld Reg.CLK_CTL 0 2 = 1 → t.clk.hold = true ∧ t.clk.relocked = true ∧ t.pins = s.pins) ∧
        (s.fld Reg.CLK_CTL 0 2 ≠ 1 → t.clk.hold = false ∧ t.pins.safe.reference = false ∧ t.bit Reg.CLK_STAT 10 = true)) ∧
    (s.admits r Reg.CLK_CMD true = true →
      (c.hold = false → exec (.holdRelease r) s = .next (s.wrote r Reg.CLK_CMD)) ∧
      (c.hold = true → c.relocked = false → exec (.holdRelease r) s = .next (({ s with clk := { c with relPend := true } } : State).wrote r Reg.CLK_CMD)) ∧
      (c.hold = true → c.relocked = true → c.dieReq = [] →
        ∃ t : State, exec (.holdRelease r) s = .next (t.wrote r Reg.CLK_CMD) ∧ t.clk.hold = false ∧ t.pins.safe.reference = false ∧
          t.bit Reg.CLK_STAT 10 = true ∧ t.raised.getLast?.map (fun e => (e.sev, e.code)) = some (3, 0x0006))) ∧
    exec (.resumePin false) s = .next { s with clk := { c with resume := false } } ∧
    (c.hold = true → c.relocked = true → c.dieReq = [] → s.power.deepSleep = false →
      ∃ t, exec (.resumePin true) s = .next t ∧ t.clk.hold = false ∧ t.clk.resume = true ∧ t.pins.safe.reference = false) ∧
    (s.power.deepSleep = true → c.hold = false → ∃ t, exec (.resumePin true) s = .next t ∧ t.power.deepSleep = false ∧ t.bit Reg.GOV_STAT 12 = true) ∧
    (∀ (die : Fin 4) (k : Fin 8),
      (s.bit (Reg.CLK_FPLL die k) 0 = true → (s.fpllRanges die (s.rd (Reg.CLK_FPLL die k))).1 = true → s.fpllRefOk die k = true →
        exec (.fabricPllLock die k) s = .next (s.setBit (Reg.CLK_FPLL_STAT die k) 0 true)) ∧
      (s.fpllRefOk die k = false → exec (.fabricPllLock die k) s = .next s) ∧
      (s.bit (Reg.CLK_FPLL_STAT die k) 0 = true → exec (.fabricPllLoss die k) s =
        .next ((s.setBit (Reg.CLK_FPLL_STAT die k) 0 false).flagErr (Reg.CLK_FPLL_STAT die k) 1 4 (errCode 14 3))))

/-- Supplies, resets and releases (R149, R427, R428, R429, R434, R563, R565): a power-on reset and a brown-out keep OTP and what stands
outside alone, a device reset keeps what R427 names and starts at step 3 with its cause, a die reset, a Region reset and a unit reset
clear their own registers alone, and a held die leaves by its release. The model's own choices in it: log entries 131, 13. -/
def Obligations.ResetsClearTheirScope : Prop :=
  ∀ (s : State) (r : Requester),
    (∃ t, exec .por s = .next t ∧ exec .brownout s = .next t ∧ t.csr = [] ∧ t.raised = [] ∧ t.recorder = {} ∧ t.fabric = State.reset.fabric ∧
      t.clk.por = true ∧ t.sec.otp = s.sec.otp ∧ t.sec.lc = s.sec.lc ∧ t.pins.vok = s.pins.vok) ∧
    (∀ x : Straps, s.clk.por = true → s.clk.amp = true →
      ∃ t, exec (.porRelease x) s = .next t ∧ t.clk.por = false ∧ t.bootState = 0 ∧ t.bit Reg.CFG_STRAP 0 = x.dual ∧ t.bit Reg.CFG_STRAP 1 = x.failDone) ∧
    (∀ cause : Fin 16, s.clk.por = false →
      (s.resetReady = true → ∃ t, exec (.deviceReset cause) s = .next t ∧ t.bootState = 1 ∧ t.fld Reg.DIE_RSTCAUSE 0 4 = cause ∧
        t.sec.otp = s.sec.otp ∧ t.clk.hold = false ∧ t.fabric = State.reset.fabric ∧ t.facets = State.reset.facets ∧ t.mem = State.reset.mem ∧
        (∀ key, keptByDevice key = false → key ≠ Reg.CFG_STAT → key ≠ Reg.GOV_STAT → t.rd key = regReset key)) ∧
      (s.resetReady = false → exec (.deviceReset cause) s = .next { s with clk := { s.clk with devReq := some (s.clk.devReq.getD cause) } })) ∧
    (s.clk.hold = false → s.boot.stream = false →
      ∀ die : Fin 4, ∃ t, exec (.dieReset (die.castLE (by decide))) s = .next t ∧ t.dieState die = 1 ∧
        ∀ key, keyDie key = die → keyUnit key ≠ 0 → t.rd key = regReset key) ∧
    (∀ (die : Fin 4) (mask : BitVec 16), s.admits r (Reg.DIE_RRST die) true = true →
      (s.bit (Reg.DIE_RRST die) 31 = false → (∀ rg < 16, mask.getLsbD rg = true → s.reconfiguring die rg = false) →
        ∃ t : State, exec (.regionReset r die mask) s = .next (t.wrote r (Reg.DIE_RRST die)) ∧ t.bit (Reg.DIE_RRST die) 31 = true ∧
          ∀ rg < 16, mask.getLsbD rg = true → t.isolated die rg = true ∧ ∀ k < 17, (t.facet die (17 * rg + k)).state = .stopped) ∧
      (s.bit (Reg.DIE_RRST die) 31 = true → exec (.regionReset r die mask) s = .next (s.refusedWrite r (Reg.DIE_RRST die)))) ∧
    (∀ die : Fin 4, ∃ t, exec (.regionResetDone die) s = .next t ∧ t.bit (Reg.DIE_RRST die) 31 = false ∧ ∀ rg < 16, (t.region die rg).reset = false) ∧
    (∀ (die : Fin 6) (unit : Fin 32) (inst : Fin 4096), s.admits r (Reg.DIE_URST die) true = true →
      (let begun := s.wr (Reg.DIE_URST die) (BitVec.ofNat 32 (inst + unit * 4096))
       (unit = 5 → (die : Nat) < 4 → (inst : Nat) < 240 → ∃ t : State, exec (.unitReset r die unit inst) s = .next (t.wrote r (Reg.DIE_URST die)) ∧
         ∀ key, keyDie key = die → keyUnit key = 5 → keyInst key = inst → t.rd key = regReset key) ∧
       (unit = 0x0D → (die : Nat) < 4 → (inst : Nat) < 16 →
         exec (.unitReset r die unit inst) s = .next ((((begun.laneOff die inst).portsRetrain die inst).clearInst die 0x0D inst).wrote r (Reg.DIE_URST die))) ∧
       (unit = 0x19 → die = 5 → (inst : Nat) < 6 → exec (.unitReset r die unit inst) s = .next ((begun.holdCore inst).wrote r (Reg.DIE_URST die))) ∧
       ((unit : Nat) ∉ [5, 8, 0x0D, 0x0F, 0x17, 0x19] → exec (.unitReset r die unit inst) s = .next (s.refusedWrite r (Reg.DIE_URST die))))) ∧
    (∀ mask : BitVec 4, s.admits r Reg.DIE_REL true = true →
      ((∀ d < 4, mask.getLsbD d = true → s.dieState d = 3) → ∃ t : State, exec (.dieRelease r mask) s = .next (t.wrote r Reg.DIE_REL) ∧
        ∀ d < 4, mask.getLsbD d = true → t.dieState d = 0 ∧ t.pins.safe.die.get d false = false) ∧
      ((∃ d < 4, mask.getLsbD d = true ∧ s.dieState d ≠ 3) → exec (.dieRelease r mask) s = .next (s.refusedWrite r Reg.DIE_REL))) ∧
    (∀ (die : Fin 4) (bank : Fin 10),
      exec (.vccioLoss die bank) s = .next { s with pins := { s.pins with vok := s.pins.vok.set (die * 10 + bank) false false } } ∧
      ∀ mv : Nat, s.pins.vok.get (die * 10 + bank) false = false →
        ∃ t, exec (.vccioArrival die bank mv) s = .next t ∧ t.pins.vok.get (die * 10 + bank) false = true) ∧
    (∀ (die : Fin 4) (line : Fin 128) (level : Bool), ∃ (t : State) (dt : BitVec 64), exec (.fabricBypassOutput die line level) s = .next t ∧
      t = { s with pins := { s.pins with fbo := s.pins.fbo.set (die * 128 + line) ((s.pins.fbo.get (die * 128 + line) {}).put dt level true).1 {} }, free := t.free })

/-- Start-up (R440, R441, R443, R448, R449, R452, R456 to R458, R462, R463): the directory gives the slots to try or its failure, a header
that passes its checks is loaded and one that fails leaves its code, a segment is written and verified, a stalled one fails the slot, DONE
is released when the memories have initialised, and user mode is entered with the pins free and its time recorded. The model's own choices
in it: log entries 138, 139. -/
def Obligations.StartUpLoadsAnImage : Prop :=
  ∀ (s : State) (r : Requester) (h : Header),
    let tried (x : State) : State := x.setFld Reg.CFG_STAT 8 3 (min (x.fld Reg.CFG_STAT 8 3 + 1) 5)
    (∀ c0 c1 : Option Directory, s.clk.por = false → s.bootState < 2 →
      (s.bit Reg.CFG_NEXT 4 = true → ∃ t, exec (.directoryRead c0 c1) s = .next t ∧ t.bootState = 2 ∧ t.boot.jtag = true ∧ t.bit Reg.CFG_NEXT 4 = false) ∧
      (s.bit Reg.CFG_NEXT 4 = false → s.bit Reg.CFG_NEXT 2 = false → ∀ d, chosenCopy c0 c1 = some d → slotTrials d ≠ [] →
        ∃ t, exec (.directoryRead c0 c1) s = .next t ∧ t.bootState = 2 ∧ t.boot.left = slotTrials d ∧ t.boot.slots = d.slots) ∧
      (s.bit Reg.CFG_NEXT 4 = false → chosenCopy c0 c1 = none → ∃ t, exec (.directoryRead c0 c1) s = .next t ∧ t.fld Reg.CFG_STAT 12 4 = 1)) ∧
    (∀ (n : Nat) (rest : List Nat), s.bootState = 2 → s.boot.jtag = false → s.boot.left = n :: rest → s.bit Reg.CFG_NEXT 2 = false →
      (let x := tried ((s.setBoot (fun b => { b with left := rest })).setFld Reg.CFG_STAT 4 2 n)
       let size := (s.boot.slots[n]?.map (·.size)).getD 0
       (x.headerFault h size = none → ∃ t, exec (.imageHeaderRead h) s = .next t ∧ t.bootState = 3 ∧ t.boot.header = some h ∧ t.boot.left = rest ∧
         t.boot.seg = 0 ∧ t.rd Reg.CFG_IMGVER = BitVec.ofNat 32 h.ver) ∧
       (∀ code sub, x.headerFault h size = some (code, sub) → code < 16 →
         ∃ t, exec (.imageHeaderRead h) s = .next t ∧ t.fld Reg.CFG_STAT 12 4 = code ∧ (rest ≠ [] → s.boot.stream = false → s.bit Reg.CFG_STAT 6 = false → t.bootState = 2)))) ∧
    (∀ (g : SegIn) (e : SegEntry), s.bootState = 3 → s.boot.header = some h → (s.boot.stream = true ∨ h.dieReq = 0) →
      h.table[s.boot.seg]? = some e → (segPhase e = 0 ∨ s.boot.memOk = true) →
      (let late (t : State) : Prop := g.late = true → t.bit Reg.CFG_STAT 7 = true ∧ (2, 0x0001) ∈ t.raised.map (fun x => (x.sev, x.code))
       (g.erased = false → g.sync = true → g.form = true → s.segmentFits e = true → (e.target = 2 ∨ e.target = 3) → g.bytes.length = e.raw →
        (s.boot.seg + 1 = h.table.length → g.tail0 = true) →
        (g.tag = true → ∃ t, exec (.segmentReceive g) s = .next t ∧ t.boot.seg = s.boot.seg + 1 ∧ t.bootState = 3 ∧ late t) ∧
        (g.tag = false → ∃ t, exec (.segmentReceive g) s = .next t ∧ t.fld Reg.CFG_STAT 12 4 = 5 ∧ late t)) ∧
       ((g.erased = true ∨ g.sync = false) → ∃ (t : State) (n : Nat), exec (.segmentReceive g) s = .next t ∧ t.fld Reg.CFG_STAT 12 4 = 9 ∧ n < 5 ∧
        t.fld (Reg.CFG_LOG n) 0 8 = 9 + 16 * (if g.erased then 0 else 1) ∧ late t))) ∧
    (s.bootState = 3 → s.boot.header = some h →
      (s.boot.seg < h.table.length → ∃ (t : State) (n : Nat), exec .segmentTimeout s = .next t ∧ t.fld Reg.CFG_STAT 12 4 = 9 ∧ n < 5 ∧
        t.fld (Reg.CFG_LOG n) 0 8 = 9 + 16 * 3) ∧
      ∀ fits : List Bool, s.boot.seg = h.table.length → s.boot.memOk = true →
        (∀ e < 6, s.dataArea e ≠ 0 → (4 ≤ e ∨ (s.chan e).state ≠ .failed) → s.boot.trees.get e false = true) →
        ((∀ p < 2, s.dataArea (4 + p) ≠ 0 → fits.getD p true = true) →
          ∃ t, exec (.doneRelease fits) s = .next t ∧ t.bootState = 5 ∧ t.boot.done = true) ∧
        ((∃ p < 2, s.dataArea (4 + p) ≠ 0 ∧ fits.getD p true = false) → ∃ t, exec (.doneRelease fits) s = .next t ∧ t.fld Reg.CFG_STAT 12 4 = 11)) ∧
    ((s.session.ir ≠ 0x11 ∨ s.hasScope 4 = false) → exec (.jtagConfiguration h) s = .next s) ∧
    (s.session.ir = 0x11 → s.hasScope 4 = true →
      ((s.sec.lc = 3 ∨ s.sec.lc = 5) → exec (.jtagConfiguration h) s = .next (s.raise 4 (errCode 15 13) 4 0x0E 0)) ∧
      (s.sec.lc ≠ 3 → s.sec.lc ≠ 5 → s.bootState = 7 → s.dieState 5 ≠ 1 →
        (tried (((s.setBoot (fun b => { b with jtag := true, errLow := false, done := false })).setBootState 2).setBit Reg.CFG_STAT 6 true)).headerFault h (2 ^ 32) = none →
        ∃ t, exec (.jtagConfiguration h) s = .next t ∧ t.bootState = 3 ∧ t.boot.header = some h ∧ t.bit Reg.CFG_STAT 6 = true)) ∧
    (∀ w : BitVec 32, s.admits r Reg.CFG_NVMCMD true = true →
      (s.bit Reg.CFG_NVMCMD 31 = false → exec (.nvmCommand r w) s =
        .next (((s.wr Reg.CFG_NVMCMD ((w ||| 0x80000000) &&& 0x81FFFFFF)).setBoot (fun b => { b with nvm := [] })).wrote r Reg.CFG_NVMCMD)) ∧
      (s.bit Reg.CFG_NVMCMD 31 = true → exec (.nvmCommand r w) s = .next (s.refusedWrite r Reg.CFG_NVMCMD))) ∧
    (∀ data : List (BitVec 8), s.bit Reg.CFG_NVMCMD 31 = true → s.bit Reg.CFG_NVMCMD 14 = false →
      exec (.nvmCommandComplete data) s = .next ((s.setBit Reg.CFG_NVMCMD 31 false).setBoot (fun b => { b with
        nvm := data.take (min (s.fld Reg.CFG_NVMCMD 16 9) 256) }))) ∧
    (∀ us : Nat,
      (s.bootState ≠ 5 → exec (.userModeEntry us) s = .next s) ∧
      (s.bootState = 5 → ∃ t, exec (.userModeEntry us) s = .next t ∧ t.bootState = 6 ∧ t.userMode = true ∧ t.sec.ready = true ∧
        t.pins.safe.startHold = false ∧ t.pins.safe.failed = false ∧ t.rd Reg.CFG_TIME = BitVec.ofNat 32 us)) ∧
    (s.deviceOk h.family h.device h.speed h.temp h.stepMin = true ↔ h.family = 0x4D4C ∧ h.device = 0x9440 ∧ h.stepMin ≤ 0xA1 ∧ h.speed ≤ s.grade ∧
      (h.temp = 0 ∨ (h.temp = 1 ∧ s.gradeI = true)))

/-- Live change of a Region (R471, R474, R475, R477, R485, R486): a load starts when an entry fits and ends LOADED with its content, or
FAILED with its code; RELEASE and OFFLINE wait for their boundary, a timed one behind one that is not, and act there; a self-test runs in
an OFFLINE Region and leaves its result; a Facet test zeroes its Facet and leaves its outcome; an abort zeroes the Region. Work needs its
units admitted (R287). The model's own choices in it: log entry 4. -/
def Obligations.RegionsChangeLive : Prop :=
  ∀ (s : State) (r : Requester) (die : Fin 4) (rg : Fin 16),
    let x := s.region die rg
    let n := s.fld (Reg.CFGF_ENTRY die) 0 8
    let cmd := Reg.CFGF_CMD die
    let busy := x.state = .loading ∨ x.state = .selftest
    (s.admits r cmd true = true →
      (∀ up : Bool,
        (busy → exec (.regionLoad r die rg up) s = .next (s.refusedWrite r cmd)) ∧
        (¬ busy → (up = true ∨ s.entryFits n die rg false = true) → ∃ t : State, exec (.regionLoad r die rg up) s = .next (t.wrote r cmd) ∧
          t.region die rg = { x with state := .loading, load := if up then none else some n, runs := false } ∧
          t.portJobs die = s.portJobs die ++ [.load rg] ∧ t.libValid die rg = false ∧
          (x.state = .active → ∀ k < 17, (t.facet die (17 * rg + k)).state = .stopped))) ∧
      ((x.state = .loaded ∨ x.state = .offline) → x.timed = false → exec (.regionRelease r die rg false) s =
        .next ((s.setRegion die rg { x with cmd := some (true, none) }).wrote r cmd)) ∧
      ((x.state = .loaded ∨ x.state = .offline) → x.timed = true → exec (.regionRelease r die rg true) s = .next (s.refusedWrite r cmd)) ∧
      (∀ c, (x.state = .loaded ∨ x.state = .offline) → x.cmd = some c → c.2 ≠ none → x.kept = none → exec (.regionRelease r die rg false) s =
        .next ((s.setRegion die rg { x with cmd := some (true, none), kept := some c }).wrote r cmd)) ∧
      (x.state ≠ .loaded → x.state ≠ .offline → ∀ timed, exec (.regionRelease r die rg timed) s = .next (s.refusedWrite r cmd)) ∧
      ((x.state = .active ∨ x.state = .loaded) → x.timed = false → exec (.regionOffline r die rg false) s =
        .next (((s.setBit (libKey die rg) 30 true).setRegion die rg { x with cmd := some (false, none) }).wrote r cmd)) ∧
      (x.state = .offline → s.entryFits n die rg true = true → ∃ t : State, exec (.regionSelftest r die rg) s = .next (t.wrote r cmd) ∧
        t.region die rg = { x with state := .selftest, load := some n, runs := false }) ∧
      (x.state ≠ .offline → exec (.regionSelftest r die rg) s = .next (s.refusedWrite r cmd)) ∧
      (busy → ∃ t : State, exec (.regionAbort r die rg) s = .next (t.wrote r cmd) ∧ t.region die rg = { x with state := .failed, load := none, runs := false } ∧
        PortJob.load rg ∉ t.portJobs die ∧ ∀ k < 17, (t.facet die (17 * rg + k)).prog = []) ∧
      (¬ busy → exec (.regionAbort r die rg) s = .next (s.refusedWrite r cmd))) ∧
    (∀ at_ : Option (BitVec 64), (∀ dt, at_ = some dt → dt ≤ s.nextEnd) →
      (x.cmd = some (true, at_) → x.state = .loaded → ∃ t, exec (.timedCommandDue die rg) s = .next t ∧
        t.region die rg = { x with cmd := x.kept, kept := none, state := .active, runs := false } ∧ t.libHeld die rg = false) ∧
      (x.cmd = some (false, at_) → x.state = .active → ∃ t, exec (.timedCommandDue die rg) s = .next t ∧
        t.region die rg = { x with cmd := x.kept, kept := none, state := .offline } ∧ ∀ k < 17, (t.facet die (17 * rg + k)).state = .stopped)) ∧
    (∀ (e : LoadEnd) (rest : List PortJob), s.portJobs die = .load rg :: rest → x.state = .loading → x.load = none →
      (segBytes e.segs + 4095) / 4096 ≤ s.power.jobs.get (8 + die) 0 → s.dieLost die = false →
      let fits := e.cls = regionClass rg ∧ (e.reloc = true ∨ e.home = 16 * die + rg)
      (e.code = 0 → fits → e.crc = e.want → ∃ t, exec (.loadComplete die rg e) s = .next t ∧
        t.region die rg = { x with state := .loaded, entry := 0, load := none } ∧ t.portJobs die = rest ∧
        t.rd (Reg.CFGF_RGCRC die rg) = BitVec.ofNat 32 e.crc) ∧
      ((e.code = 0 ∨ e.code = 4) → ¬ fits → ∃ t, exec (.loadComplete die rg e) s = .next t ∧ (t.region die rg).state = .failed ∧
        t.fld (Reg.CFGF_STAT die) 6 4 = 1) ∧
      ((e.code = 0 ∨ e.code = 4) → fits → e.crc ≠ e.want → ∃ t, exec (.loadComplete die rg e) s = .next t ∧ (t.region die rg).state = .failed ∧
        t.fld (Reg.CFGF_STAT die) 6 4 = 4 ∧ PortJob.load rg ∉ t.portJobs die)) ∧
    (∀ rest : List PortJob, s.portJobs die = .load rg :: rest → x.load = none →
      exec (.userPortTimeout die true) s = .next ((s.flag (Reg.CFGF_STAT die) 12).lateArrival die 0x0E 0) ∧
      ∃ t, exec (.userPortTimeout die false) s = .next t ∧ (t.region die rg).state = .failed ∧ t.fld (Reg.CFGF_STAT die) 6 4 = 3) ∧
    (∀ (sig us : Nat) (pass : Bool), x.state = .selftest → x.runs = true → us ≤ s.power.jobs.get (40 + die) 0 →
      ∃ t, exec (.selftestResult die rg sig us pass) s = .next t ∧ t.region die rg = { x with state := .offline, runs := false } ∧
        t.fld (Reg.CFGF_STRES die) 0 24 = sig % 2 ^ 24 ∧ t.bit (Reg.CFGF_STRES die) 28 = pass ∧ t.bit (Reg.CFGF_STRES die) 31 = true) ∧
    (x.state = .selftest → ∃ t, exec (.selftestTimeout die rg) s = .next t ∧ t.region die rg = { x with state := .offline, runs := false, load := none } ∧
      t.bit (Reg.CFGF_STRES die) 29 = true ∧ t.fld (Reg.CFGF_STRES die) 24 4 = rg) ∧
    (∀ p : Fin 512, s.admits r (Reg.CFGF_FTEST die) true = true →
      ((p : Nat) < 272 → s.bit (Reg.CFGF_FTEST die) 31 = false → (s.facet die p).state = .off → s.logOf die p = none →
        exec (.facetTest r die p) s = .next ((s.wr (Reg.CFGF_FTEST die) (BitVec.ofNat 32 (p + 2 ^ 31))).wrote r (Reg.CFGF_FTEST die))) ∧
      (s.bit (Reg.CFGF_FTEST die) 31 = true ∨ 272 ≤ (p : Nat) ∨ (s.facet die p).state ≠ .off →
        exec (.facetTest r die p) s = .next (s.refusedWrite r (Reg.CFGF_FTEST die)))) ∧
    (∀ pass : Bool, s.bit (Reg.CFGF_FTEST die) 31 = true → 40 ≤ s.power.jobs.get (40 + die) 0 →
      ∃ t, exec (.facetTestDone die pass) s = .next t ∧ t.bit (Reg.CFGF_FTEST die) 31 = false ∧ t.bit (Reg.CFGF_FTEST die) 29 = !pass ∧
        (t.facet die (s.fld (Reg.CFGF_FTEST die) 0 9)).prog = [] ∧ (t.facet die (s.fld (Reg.CFGF_FTEST die) 0 9)).broken = !pass)

/-- Scrubbers, live repair and the control-die banks (R479, R480 to R483, R489): a pass starts and its errors are counted and listed, an
audit restores the agreed setting or stops a scrubber that lost its own, a write restarts it, a repair takes the oldest entry of the list,
and a trial ends confirmed or expired. The model's own choices in it: log entry 150. -/
def Obligations.ScrubbersRepairFrames : Prop :=
  ∀ (s : State) (r : Requester) (die : Fin 4) (n : Fin 2),
    let x := s.scrubber die n
    let stat := Reg.SCR_STAT die (n + 1)
    (x.lost = false → x.running = false → s.bit (Reg.SCR_CTL die (n + 1)) 0 = true → s.scrubBlocked die = false →
      exec (.scrubPassStart die n) s = .next (s.setScrubber die n { x with running := true, pos := 0, seen := [] })) ∧
    (s.scrubBlocked die = true → exec (.scrubPassStart die n) s = .next s) ∧
    (∀ bad : List Nat, x.lost = false → x.running = true → s.scrubBlocked die = false → x.pos % 1024 ≠ 0 → x.pos + 1 < 131072 →
      (∀ rg < 16, s.reconfiguring die rg = false) →
      exec (.frameScrub die n 0 bad) s = .next (s.setScrubber die n { x with pos := x.pos + 1 }) ∧
      exec (.frameScrub die n 1 bad) s = .next ((s.setScrubber die n { x with pos := x.pos + 1 }).count (Reg.SCR_CECNT die (n + 1)) 1) ∧
      (scrubFrame n x.pos ∉ x.list → ∃ t, exec (.frameScrub die n 2 bad) s = .next t ∧ (t.scrubber die n).list = x.list ++ [scrubFrame n x.pos] ∧
        t.bit stat 0 = true)) ∧
    exec (.criticalScrub die n false) s = .next s ∧
    (x.lost = false → exec (.criticalScrub die n true) s = .next (s.flagErr stat 2 4 (errCode 16 10))) ∧
    (x.lost = true → exec (.criticalScrub die n true) s = .next s) ∧
    (∀ a b c d : BitVec 32, x.lost = false → (s.scrubber die (1 - n)).lost = false →
      (agreed [a, b, c, d] = none → exec (.scrubberAudit die n [a, b, c, d]) s =
        .next ((s.setScrubber die n { x with lost := true, running := false }).raise 6 (errCode 16 13) die 0x0E (n + 1))) ∧
      (a = b → b = c → c = d → exec (.scrubberAudit die n [a, b, c, d]) s = .next s) ∧
      (a = b → b = c → c ≠ d → exec (.scrubberAudit die n [a, b, c, d]) s = .next ((s.wr (Reg.SCR_CTL die (n + 1)) a).flagErr stat 4 5 (errCode 16 12)))) ∧
    (∀ w : BitVec 32, s.admits r (Reg.SCR_CTL die (n + 1)) true = true →
      ∃ t : State, exec (.scrubberRestart r die n w) s = .next (t.wrote r (Reg.SCR_CTL die (n + 1))) ∧
        t.scrubber die n = { x with lost := false, running := x.running && !x.lost } ∧
        t.fld (Reg.SCR_CTL die (n + 1)) 16 16 = max (wfld w 16 16) 35 ∧ t.bit (Reg.SCR_CTL die (n + 1)) 0 = wbit w 0) ∧
    (∀ (item : Nat) (rest : List Nat), x.list = item :: rest → s.portJobs die = [] →
      (s.fld (Reg.CFGF_CTL die) 0 2 = 1 → ∀ rg, repairRegion item = some rg → s.reconfiguring die rg = false →
        (s.libValid die rg = true → exec (.frameRepair die n false) s = .next (s.setScrubber die n { x with list := rest })) ∧
        exec (.frameRepair die n true) s = .next (s.flagErr stat 3 5 (errCode 16 11))) ∧
      (s.fld (Reg.CFGF_CTL die) 0 2 = 2 → ∀ rg < 16, repairRegion item = some rg → s.reconfiguring die rg = false →
        (∀ crc, exec (.regionRepair die n crc true) s = .next (s.flagErr stat 3 5 (errCode 16 11))) ∧
        (s.libValid die rg = true →
          (let e := s.fld (libKey die rg) 0 8
           (segBytes (s.libEntry e).segs + 4095) / 4096 ≤ s.power.jobs.get (8 + die) 0 →
           ∃ t, exec (.regionRepair die n (s.libEntry e).crc false) s = .next t ∧ t.region die rg = { s.region die rg with state := .active, entry := e } ∧
             (t.scrubber die n).list = rest.filter (fun i => repairRegion i != some rg))))) ∧
    (∀ w : BitVec 32, s.admits r Reg.CFGH_CDBANK true = true → s.live.trial = true → s.live.expired = false →
      ∃ t : State, exec (.cdBankConfirm r w) s = .next (t.wrote r Reg.CFGH_CDBANK) ∧ t.live.trial = false ∧ t.bit Reg.CFGH_CDBANK 0 = wbit w 1 ∧
        t.bit Reg.CFGH_CDBANK 2 = false) ∧
    (s.live.trial = true → exec .trialTimeout s = .next { s with live := { s.live with expired := true } }) ∧
    (s.live.trial = false → exec .trialTimeout s = .next s)

/-- Bezel channels and key services (R503, R504, R505, R507, R509, R510, R512, R514 to R516): a command is taken with its input and its
buffer zeroed, a reserved one ends at once; the oldest command runs for its service and ends with its status, its output and `done`; the
key services write, wrap, load, grant and clear keys as their arguments allow. The model's own choices in it: log entries 153, 8, 155,
122. -/
def Obligations.BezelKeyServices : Prop :=
  ∀ (s : State) (r : Requester) (chan : Fin 4) (w : BitVec 32) (c : BzCommand) (rest : List BzCommand),
    let kind := (c.input.getD 0 0).toNat
    let usage := (c.input.getD 1 0).toNat
    (s.admits r (Reg.BZ_CMD chan) true = true → s.bzBusy chan = false → (s.bzOwner chan = none ∨ s.bzOwner chan = some r.code) →
      ∃ t : State, exec (.bezelCommandGo r chan w) s = .next (t.wrote r (Reg.BZ_CMD chan)) ∧ t.rd (Reg.BZ_BUF chan 0) = 0 ∧
        ((1 ≤ wfld w 0 8 ∧ wfld w 0 8 ≤ 0x11) → ∃ x : BzCommand, t.sec.cmds = s.sec.cmds ++ [x] ∧ x.chan = chan ∧ x.agent = r.code ∧
          x.op = wfld w 0 8 ∧ x.arg = wfld w 8 8 ∧ x.input.length = 4 * min (wfld w 22 8) 128) ∧
        ((wfld w 0 8 = 0 ∨ 0x11 < wfld w 0 8) → t.sec.cmds = s.sec.cmds ∧ t.fld (Reg.BZ_RSP chan) 0 4 = (if 2 ≤ (chan : Nat) then 3 else 1) ∧ t.bit (Reg.BZ_RSP chan) 12 = true)) ∧
    (s.admits r (Reg.BZ_CMD chan) true = true → s.bzBusy chan = true → (s.bzOwner chan = none ∨ s.bzOwner chan = some r.code) →
      exec (.bezelCommandGo r chan w) s = .next (s.refusedWrite r (Reg.BZ_CMD chan))) ∧
    (∀ (st : Nat) (out : List (BitVec 8)) (row : Nat), c.chan < 4 → st < 16 →
      (s.bzEnd c st out row).fld (Reg.BZ_RSP c.chan) 0 4 = st ∧ (s.bzEnd c st out row).bit (Reg.BZ_RSP c.chan) 12 = true ∧
      (s.bzEnd c st out row).sec.cmds = s.sec.cmds.drop 1) ∧
    (s.sec.cmds = [] → exec .keyGen s = .next s ∧ exec .attest s = .next s) ∧
    (s.sec.cmds = c :: rest → s.sec.ready = true → s.sec.wiping = false → c.chan < 2 →
      (c.op ≠ 1 → exec .keyGen s = .next s) ∧
      (c.op = 1 → kind = 0 → usageAllowed 0 usage = true →
        (1 ≤ c.arg → c.arg < 32 → exec .keyGen s = .next ((s.drawn.setVault c.arg
          (some { kind := 0, usage := usage, value := Config.derive (s.freeNat 64) 0, length := 32 })).bzEnd c 0 [] 1)) ∧
        (c.arg = 0 ∨ 32 ≤ c.arg → exec .keyGen s = .next (s.bzEnd c 2 [] 1))) ∧
      (c.op = 2 → 1 ≤ c.arg → c.arg < 32 → usageAllowed kind usage = true → lengthAllowed kind (c.input.getD 2 0).toNat = true →
        ∃ t : State, exec .keyImport s = .next t ∧
          (∀ v, Config.unwrap s.deviceKey (c.input.drop 8) = some v →
            t = (s.setVault c.arg (some { kind := kind, usage := usage, value := leNat v, length := (c.input.getD 2 0).toNat })).bzEnd c 0 [] 1) ∧
          (Config.unwrap s.deviceKey (c.input.drop 8) = none → s.sec.lc ≠ 2 → s.sec.lc ≠ 3 → t = s.bzEnd c 4 [] 1)) ∧
      (∀ k, c.op = 3 → c.arg < 32 → s.vaultKey c.arg = some k → exec .keyExport s =
        .next (if k.usage.testBit 1 then s.bzEnd c 0 (blobHeader k ++ Config.wrap s.deviceKey (leBytes k.length k.value)) 1 else s.bzEnd c 3 [] 1)) ∧
      (c.op = 3 → c.arg < 32 → s.vaultKey c.arg = none → exec .keyExport s = .next (s.bzEnd c 6 [] 1)) ∧
      (c.op = 4 → c.arg < 32 → exec .keyDelete s = .next ((s.setVault c.arg none).bzEnd c 0 [] 1)) ∧
      (s.erasedOpen = true → (c.op = 5 → exec .mpeLoad s = .next (s.bzEnd c 3 [] 1)) ∧ (c.op = 7 → exec .signRecord s = .next (s.bzEnd c 3 [] 1)) ∧
        (c.op = 8 → exec .transferWrap s = .next (s.bzEnd c 3 [] 1))) ∧
      (∀ k, c.op = 5 → s.erasedOpen = false → c.arg < 32 → 1 ≤ kind → kind < 64 → s.vaultKey c.arg = some k → k.kind = 0 → k.usage.testBit 0 = true →
        (s.slotLoaded kind = true → exec .mpeLoad s = .next (s.bzEnd c 7 [] 1)) ∧
        (s.slotLoaded kind = false → ∃ t : State, exec .mpeLoad s = .next (t.bzEnd c 0 [] 1) ∧ t.slotLoaded kind = true ∧
          t.sec.keys.get kind 0 = Config.derive k.value kind)) ∧
      (c.op = 6 → c.arg < 10 → 1 ≤ kind → kind < 64 → exec .mpeGrant s =
        .next ((s.setKid (Reg.MPE_AGKID_LO c.arg) (Reg.MPE_AGKID_HI c.arg) kind (usage == 1)).bzEnd c 0 [] 1)) ∧
      (∀ k, c.op = 7 → s.erasedOpen = false → s.notCert = false → c.arg < 32 → 64 ≤ c.input.length → s.vaultKey c.arg = some k → k.usage.testBit 3 = true →
        ∃ out, exec .signRecord s = .next ((s.setSec (fun v => { v with signed := v.signed + 1 })).bzEnd c 0 out 1) ∧ out.length = 240) ∧
      (∀ k ca, c.op = 8 → s.erasedOpen = false → s.notCert = false → c.arg < 32 → 304 ≤ c.input.length → s.vaultKey c.arg = some k → s.sec.otp.uutca = some ca →
        k.usage.testBit 2 = true →
        if Config.digest ((c.input.drop 96).take 96) = ca ∧ Config.verify ((c.input.drop 96).take 96) (c.input.take 96) ((c.input.drop 192).take 96) = true
        then ∃ out, exec .transferWrap s = .next (s.drawn.bzEnd c 0 out 1) else exec .transferWrap s = .next (s.bzEnd c 4 [] 1)) ∧
      ((c.op = 7 → s.erasedOpen = false → s.notCert = true → exec .signRecord s = .next (s.bzEnd c 8 [] 1)) ∧
       (c.op = 8 → s.erasedOpen = false → s.notCert = true → exec .transferWrap s = .next (s.bzEnd c 8 [] 1))) ∧
      (c.op = 9 → (48 ≤ c.input.length → ∃ out, exec .attest s = .next (s.bzEnd c 0 out 1)) ∧
        (c.input.length < 48 → exec .attest s = .next (s.bzEnd c 2 [] 1))) ∧
      (c.op = 10 → (c.arg = 0 → exec .getCert s = .next (s.bzEnd c 0 ((s.sec.otp.cert.drop (leNat (c.input.take 4))).take 512) 1)) ∧
        (2 < c.arg → exec .getCert s = .next (s.bzEnd c 2 [] 1))) ∧
      (c.op = 14 → (1 ≤ c.arg → c.arg ≤ 64 → ∃ out, exec .random s = .next (({ s with free := s.free + c.arg } : State).bzEnd c 0 out 1) ∧ out.length = 8 * c.arg) ∧
        (c.arg = 0 ∨ 64 < c.arg → exec .random s = .next (s.bzEnd c 2 [] 1))))

/-- Images, counters, life cycle and sensors (R489, R498, R499, R501, R517 to R523, R525): an image that passes its checks is entered, one
that fails leaves the status of its failure; a counter only rises, and no higher than the running image; OTP bits and the life-cycle state
change for the right tokens alone; a sensor event is flagged, recorded at severity 7 and answered as set. The model's own choices in it:
log entries 154, 152, 156. -/
def Obligations.BezelDeviceServices : Prop :=
  ∀ (s : State) (c : BzCommand) (rest : List BzCommand) (img : Image),
    (s.sec.cmds = c :: rest → s.sec.ready = true → s.sec.wiping = false → c.chan < 2 →
      (c.op = 11 → c.arg < 252 → s.callerHolds c = true → s.live.regions.any (fun e => e.2.load == some c.arg) = false →
        (∀ rg < 64, s.bit (Reg.LIB_RG rg) 31 = true → s.fld (Reg.LIB_RG rg) 0 8 ≠ c.arg) →
        (s.imageStatus img false = 0 → s.boot.arb ≤ img.arb → ∃ t : State, exec (.imageLib img) s = .next (t.bzEnd c 0 [] 1) ∧
          t.libEntry c.arg = {
            kind := 1, cls := img.cls, reloc := img.reloc, selftest := img.selftest, secure := img.secure, home := img.home, ver := img.ver,
            arb := img.arb, crc := img.crc, hash := img.hash, segs := img.segs } ∧ t.sec.logTotal = s.sec.logTotal + 1) ∧
        (∀ st, s.imageStatus img false = st → st ≠ 0 → exec (.imageLib img) s = .next (s.bzEnd c st [] (if st = 4 then 2 else 1)))) ∧
      (c.op = 12 → s.callerHolds c = true → s.imageStatus img false = 0 → img.segs.any (fun g => g.target != 5 && g.target != 6) = false →
        segBytes img.segs ≤ s.boot.cdSize * 524288 → s.boot.arb ≤ img.arb →
        ∃ t : State, exec (.imageCd img) s = .next (t.bzEnd c 0 [] 1) ∧ t.boot.bankB = img.segs ∧ t.sec.logTotal = s.sec.logTotal + 1) ∧
      (c.op = 13 → s.callerHolds c = true → s.imageStatus img true = 0 → img.segs.length = 1 → img.segs.any (fun g => g.target != 8) = false →
        segBytes img.segs ≤ 98304 →
        (s.sec.fwVer ≤ img.ver → ∃ t : State, exec (.fwActivate img) s = .next (t.bzEnd c 0 [] 1) ∧ t.sec.fwVer = img.ver ∧ t.sec.fwCert = img.cert) ∧
        (img.ver < s.sec.fwVer → exec (.fwActivate img) s = .next (s.bzEnd c 5 [] 5))) ∧
      (c.op = 15 → c.arg ≤ 1 →
        (leNat (c.input.take 4) < s.storedArb c.arg → exec .arbAdvance s = .next (s.bzEnd c 5 [] 1)) ∧
        (s.storedArb c.arg ≤ leNat (c.input.take 4) → ∃ t : State, exec .arbAdvance s = .next (t.bzEnd c 0 [] 1) ∧
          t.storedArb c.arg = max (s.storedArb c.arg) (min (min (leNat (c.input.take 4)) (if s.boot.keySrc = c.arg then s.boot.arb else 0)) (if c.arg = 0 then 256 else 768)))) ∧
      (∀ t : Token, c.op = 16 → (s.sec.lc = 2 ∨ s.sec.lc = 3) →
        (let what := (c.input.getD 0 0).toNat
         let slot := (c.input.getD 1 0).toNat
         let unrevoked := (List.range 4).filter (fun i => s.sec.otp.ownerKeys.any (fun e => e.1 == i) && !s.sec.otp.revoked.testBit i)
         ((1 < what ∨ (what = 1 ∧ 4 ≤ slot)) → exec (.otpSet t) s = .next (s.bzEnd c 2 [] 1)) ∧
         ((what = 0 ∨ (what = 1 ∧ slot < 4)) → exec (.otpSet t) s = .next (
           if s.ownerToken c.input t = false then s.bzEnd c 4 [] 2
           else if what = 0 then (s.setSec (fun v => { v with otp := { v.otp with pwdOff := true } })).bzEnd c 0 [] 1
           else if unrevoked = [slot] ∨ (List.range 4).all (fun i => i == slot || !s.imageKeyOk 1 i (Config.digest t.pub)) = true then s.bzEnd c 3 [] 1
           else (s.setSec (fun v => { v with otp := { v.otp with revoked := v.otp.revoked ||| 2 ^ slot } })).bzEnd c 0 [] 1)))) ∧
      (∀ t : Token, s.ownerToken c.input t = true ↔ ∃ i < 4, s.sec.otp.ownerKeys.any (fun e => e.1 == i) = true ∧ s.sec.otp.revoked.testBit i = false ∧
        Config.digest t.pub = s.sec.otp.ownerKeys.get i 0 ∧ Config.verify t.pub c.input t.sig = true) ∧
      (∀ t : Token, c.op = 16 → s.sec.lc ≠ 2 → s.sec.lc ≠ 3 → exec (.otpSet t) s = .next (s.bzEnd c 3 [] 1)) ∧
      (∀ (ts : List Token) (block : Option Provisioning), c.op = 17 →
        let st := s.lcStatus (c.input.getD 0 0).toNat ts block
        ∃ t, exec (.lcChange ts block) s = .next t ∧ (st ≠ 0 → t = s.bzEnd c st [] (if st = 4 then 2 else 1)) ∧
          (st = 0 → s.clk.por = false → s.resetReady = true → t.sec.lc = (c.input.getD 0 0).toNat ∧ t.sec.vault = [] ∧ t.sec.keys = [] ∧
            t.bootState = 1 ∧ t.fld Reg.DIE_RSTCAUSE 0 4 = 4))) ∧
    (∀ cls : Fin 8, (cls : Nat) < 7 → s.sec.wiping = false → s.fld Reg.BZ_RESP (2 * cls) 2 = 0 →
      ∃ t, exec (.sensorEvent cls) s = .next t ∧ t.bit Reg.BZ_SENS cls = true ∧ t.sec.vault = s.sec.vault ∧
        (cls ≠ 6 → t.raised.getLast?.map (fun e => (e.sev, e.code)) = some (7, errCode 17 3))) ∧
    (∀ cls : Fin 8, (cls : Nat) < 7 → s.sec.wiping = false → 1 ≤ s.fld Reg.BZ_RESP (2 * cls) 2 →
      ∃ t, exec (.sensorEvent cls) s = .next t ∧ t.bit Reg.BZ_SENS cls = true ∧ t.sec.cmds = [] ∧ t.pins.safe.security = true ∧
        (2 ≤ s.fld Reg.BZ_RESP (2 * cls) 2 → t.sec.vault = [] ∧ t.sec.keys = [] ∧ t.sec.wiping = true)) ∧
    (s.sec.wiping = true → ∀ cls : Fin 8, (cls : Nat) < 7 → cls ≠ 4 → exec (.sensorEvent cls) s = .next (s.flag Reg.BZ_SENS cls))

/-- The TAP and debug sessions (R528, R530 to R535): an instruction is loaded where its scope is open, else BYPASS with `denied`; an
access of the access register is performed, denied before a session, or denied for a wrong tag, and the fourth wrong tag ends the session;
a session opens for the right password or response, fails otherwise with its delay, and ends by CLOSE. The model's own choices in it: log
entries 158, 19. -/
def Obligations.DebugGateGuardsAccess : Prop :=
  ∀ (s : State),
    let x := s.session
    let acmd := csrAddr Reg.DBG_ACMD
    let replied (t : State) : State := t.completeAccess 16 true acmd .ok 0
    let failed (t : State) : Prop := t.session.fails = min (x.fails + 1) 8 ∧ t.session.busy = true ∧ t.session.challenge = none ∧
      t.session.state = if 8 ≤ x.fails + 1 then 4 else 0
    (∃ t, exec .idcode s = .next t ∧ exec .tapReset s = .next t ∧ t.session = { x with ir := 0x01, dr := 0x294403AB } ∧ t.csr = s.csr) ∧
    (∃ t, exec .dag s = .next t ∧ t.session = { x with ir := 0x10, dr := 0 } ∧ t.csr = s.csr) ∧
    (∃ t, exec .bypass s = .next t ∧ t.session = { x with ir := 0xFF, dr := 0 } ∧ t.csr = s.csr) ∧
    (∀ (k : Fin 960) (v : Bool × Bool), ∃ t, exec (.samplePreload [(k, v)]) s = .next t ∧ t.session.ir = 0x02 ∧ t.session.cells.get k (false, false) = v) ∧
    (s.hasScope 5 = true →
      (∀ (k : Fin 960) (v : Bool × Bool),
        (∃ t, exec (.extest [(k, v)]) s = .next t ∧ t.session.ir = 0x00 ∧ t.session.cells.get k (false, false) = v) ∧
        (∃ t, exec (.extestPulse [(k, v)]) s = .next t ∧ t.session.ir = 0x05 ∧ t.session.cells.get k (false, false) = v) ∧
        (∃ t, exec (.extestTrain [(k, v)]) s = .next t ∧ t.session.ir = 0x06 ∧ t.session.cells.get k (false, false) = v)) ∧
      (∃ t, exec .clamp s = .next t ∧ t.session = { x with ir := 0x03, dr := 0 }) ∧ (∃ t, exec .highz s = .next t ∧ t.session = { x with ir := 0x04, dr := 0 })) ∧
    (s.hasScope 5 = false → ∃ t, exec (.extest []) s = .next t ∧ exec .clamp s = .next t ∧ exec .highz s = .next t ∧
      t.session = { x with ir := 0xFF, dr := 0 } ∧ t.bit Reg.DBG_ASTAT 9 = true) ∧
    (s.hasScope 4 = true → ∃ t, exec .cfgData s = .next t ∧ t.session = { x with ir := 0x11, dr := 0 }) ∧
    (s.hasScope 4 = false → ∃ t, exec .cfgData s = .next t ∧ t.session = { x with ir := 0xFF, dr := 0 } ∧ t.bit Reg.DBG_ASTAT 9 = true) ∧
    (∀ (op : Fin 4) (addr : BitVec 48) (data : BitVec 32) (tag : BitVec 64),
      let a := addr.toNat / 4 * 4
      ((x.ir ≠ 0x10 ∨ x.last.run = true ∨ op = 0 ∨ op = 3) → exec (.dagAccess op addr data tag) s = .next s) ∧
      (x.ir = 0x10 → x.last.run = false → op = 1 ∨ op = 2 → s.inToken = false → s.gateCovers a = false →
        ∃ t, exec (.dagAccess op addr data tag) s = .next t ∧ t.csr = s.csr ∧ t.session.last.resp = Resp.denied.code ∧ t.session.last.run = false) ∧
      (x.ir = 0x10 → x.last.run = false → op = 1 → s.inToken = false → a = csrAddr Reg.DBG_ASTAT → s.admits .debugger Reg.DBG_ASTAT false = true →
        ∃ t, exec (.dagAccess op addr data tag) s = .next t ∧ t.session.last.resp = Resp.ok.code ∧ t.session.last.data = s.astatRead) ∧
      (x.ir = 0x10 → x.last.run = false → op = 1 ∨ op = 2 → s.inToken = true → requestTag x.key x.count op a data ≠ tag.toNat →
        ∃ t, exec (.dagAccess op addr data tag) s = .next t ∧ t.session.last.resp = Resp.denied.code ∧ t.bit Reg.DBG_ASTAT 8 = true ∧
          (x.bad < 3 → t.session.state = 2 ∧ t.session.count = x.count ∧ t.session.bad = x.bad + 1) ∧
          (3 ≤ x.bad → t.session.state = 0 ∧ t.raised.getLast?.map (fun e => (e.sev, e.code)) = some (4, errCode 18 2)))) ∧
    (∀ scope : BitVec 8, s.admits .debugger Reg.DBG_ACMD true = true →
      (s.authRefused scope.toNat = false → (s.sec.lc = 1 ∨ s.sec.lc = 2) → s.sec.otp.pwdOff = false →
        (Config.digest (s.abuf 0 48) = s.sec.otp.password → ∃ t : State, exec (.password scope) s = .next (t.wrote .debugger Reg.DBG_ACMD) ∧
          t.session.state = 2 ∧ t.session.mode = 1 ∧ t.session.scope = scope.toNat &&& 0x77 ∧ t.session.fails = 0) ∧
        (Config.digest (s.abuf 0 48) ≠ s.sec.otp.password → ∃ t : State, exec (.password scope) s = .next (t.wrote .debugger Reg.DBG_ACMD) ∧ failed t ∧
          t.raised.getLast?.map (fun e => (e.sev, e.code)) = some (4, errCode 18 1))) ∧
      ((s.authRefused scope.toNat = true ∨ (s.sec.lc ≠ 1 ∧ s.sec.lc ≠ 2) ∨ s.sec.otp.pwdOff = true) →
        exec (.password scope) s = .next (s.clearAbuf.dbgDenied.wrote .debugger Reg.DBG_ACMD)) ∧
      (s.authRefused scope.toNat = false → s.sec.lc ≠ 5 → ∃ (t : State) (n q : Nat), exec (.challenge scope) s = .next (t.wrote .debugger Reg.DBG_ACMD) ∧
        t.session = { x with state := 1, challenge := some (n, q) }) ∧
      ((s.authRefused scope.toNat = true ∨ s.sec.lc = 5) → exec (.challenge scope) s = .next (s.clearAbuf.dbgDenied.wrote .debugger Reg.DBG_ACMD)) ∧
      (x.state = 2 → x.erased = false → ∃ t : State, exec .close s = .next (t.wrote .debugger Reg.DBG_ACMD) ∧ t.session.state = 0 ∧ t.session.scope = 0 ∧
        t.raised.getLast?.map (fun e => (e.sev, e.code)) = some (3, 0x000A))) ∧
    (∀ (scope : BitVec 8) (zfill : Bool) (n q : Nat), x.state = 1 → x.challenge = some (n, q) → scope.toNat < 128 →
      let d := s.abuf 24 96
      let msg := [0x51, 0x44, 0x42, 0x47, 0x31] ++ leBytes 48 n ++ leBytes 8 s.sec.otp.serial ++ leBytes 48 (Config.digest (Config.publicKey identityKey)) ++
        leBytes 1 scope.toNat ++ Config.publicKey q ++ d
      let good : Prop := Config.digest (s.abuf 48 96) = s.debugKeyHash ∧ Config.verify (s.abuf 48 96) msg (s.abuf 0 96) = true
      ∃ t, exec (.response scope zfill false) s = .next (replied t) ∧
        (good → s.sec.lc ≠ 3 → t.session.state = 2 ∧ t.session.mode = 2 ∧ t.session.scope = scope.toNat ∧
          t.session.key = Config.derive (q + 2 ^ 384 * leNat d) n ∧ t.session.count = 0 ∧ t.session.fails = 0) ∧
        (good → s.sec.lc = 3 → s.clk.por = false → s.resetReady = true →
          t.session.state = 2 ∧ t.session.erased = true ∧ t.sec.vault = [] ∧ t.fld Reg.DIE_RSTCAUSE 0 4 = 5) ∧
        (¬ good → failed t)) ∧
    (x.state ≠ 1 → ∀ scope zfill late, exec (.response scope zfill late) s = .next (replied s.clearAbuf.dbgDenied)) ∧
    (x.state = 1 → exec .challengeExpiry s = .next { s with session := { x with state := 0, challenge := none } }) ∧
    (x.state ≠ 1 → exec .challengeExpiry s = .next s) ∧
    exec .authDelayEnd s = .next { s with session := { x with busy := false } }

/-- Run control, watchdogs and the terminal (R199, R536, R537, R539, R542, R543): a core halts when it accepts a request, resumes, and
gives its registers only when halted; a Facet halts, steps and resumes; a watchdog warns once and then acts; a debug line asks for the
halts of its mask; terminal bytes pass in order. The model's own choices in it: log entries 51, 89. -/
def Obligations.RunControlStopsAndResumes : Prop :=
  ∀ (s : State) (r : Requester) (n : Fin 6),
    let c := s.core n
    let rc := Reg.CORE_RC n
    (s.admits r rc true = true →
      (c.run = .running → ∃ t : State, exec (.coreHaltRequest r n) s = .next (t.wrote r rc) ∧ t.core n = { c with want := some 3 }) ∧
      (c.run = .reset → s.bit rc 4 = false → ∃ t : State, exec (.coreHaltRequest r n) s = .next (t.refusedWrite r rc) ∧ t.core n = c) ∧
      (c.run = .halted → ∃ t : State, exec (.coreResumeRequest r n) s = .next (t.wrote r rc) ∧ (t.core n).run = .running ∧
        (t.core n).want = if s.bit rc 2 then some 4 else none)) ∧
    (∀ cause, c.run = .running → c.want = some cause → ∃ t, exec (.coreHalt n) s = .next t ∧ (t.core n).run = .halted ∧ (t.core n).cause = cause ∧
      (t.core n).want = none ∧ (t.core n).regs = c.regs) ∧
    (c.want = none → exec (.coreHalt n) s = .next s) ∧
    (∀ pc : BitVec 64, c.run = .running →
      (s.bit rc 3 = true → ∃ t, exec (.ebreak n pc) s = .next t ∧ (t.core n).run = .halted ∧ (t.core n).cause = 1 ∧ (t.core n).regs.get 0x7B1 0 = pc) ∧
      (s.bit rc 3 = false → exec (.ebreak n pc) s = .next (s.setCore n { c with regs := (c.regs.set 0x341 pc 0).set 0x342 3 0 }))) ∧
    (∀ w : BitVec 32, s.admits r (Reg.CORE_ACMD n) true = true →
      (c.run ≠ .halted → ∃ t : State, exec (.abstractAccess r n w) s = .next (t.refusedWrite r (Reg.CORE_ACMD n)) ∧ t.bit (Reg.CORE_RSTAT n) 6 = true ∧
        t.core n = c) ∧
      (c.run = .halted → wfld w 0 16 < 0x1040 → wfld w 0 16 ≠ 0x1000 → (n : Nat) < 4 → wbit w 17 = true →
        (wbit w 16 = true → ∃ t : State, exec (.abstractAccess r n w) s = .next (t.wrote r (Reg.CORE_ACMD n)) ∧
          (t.core n).regs.get (wfld w 0 16) 0 = s.rdPair (Reg.CORE_ADATA_LO n) (Reg.CORE_ADATA_HI n)) ∧
        (wbit w 16 = false → ∃ t : State, exec (.abstractAccess r n w) s = .next (t.wrote r (Reg.CORE_ACMD n)) ∧
          t.rdPair (Reg.CORE_ADATA_LO n) (Reg.CORE_ADATA_HI n) = c.regs.get (wfld w 0 16) 0 ∧ t.core n = c))) ∧
    (s.admits r Reg.DBG_FRUN true = true → s.fsel = none →
      (let refused := (s.flag Reg.DBG_FSTAT 3).refusedWrite r Reg.DBG_FRUN
       exec (.facetHalt r) s = .next refused ∧ exec (.facetResume r) s = .next refused ∧ exec (.facetStep r) s = .next refused)) ∧
    (∀ d p, s.admits r Reg.DBG_FRUN true = true → s.fsel = some (d, p) →
      ((s.facet d p).state = .idle → ∃ t : State, exec (.facetHalt r) s = .next (t.wrote r Reg.DBG_FRUN) ∧
        t.facet d p = { s.facet d p with haltDbg := true, state := .halted, haltedFrom := .idle }) ∧
      ((s.facet d p).state = .running → exec (.facetHalt r) s = .next ((s.setFacet d p { s.facet d p with haltDbg := true }).wrote r Reg.DBG_FRUN)) ∧
      ((s.facet d p).state = .halted → (s.facet d p).haltFrz = false → (s.facet d p).haltedFrom = .running →
        ∃ t : State, exec (.facetResume r) s = .next (t.wrote r Reg.DBG_FRUN) ∧ t.facet d p = { s.facet d p with haltDbg := false, state := .running }) ∧
      ((s.facet d p).state = .halted → (s.facet d p).haltedFrom ≠ .idle →
        exec (.facetStep r) s = .next ((s.stepHalted d p).wrote r Reg.DBG_FRUN)) ∧
      ((s.facet d p).state ≠ .halted → exec (.facetStep r) s = .next ((s.flag Reg.DBG_FSTAT 3).refusedWrite r Reg.DBG_FRUN))) ∧
    (∀ (w : BitVec 32) d p, s.admits r Reg.DBG_FREG true = true → s.fsel = some (d, p) →
      (wbit w 7 = false → (s.facet d p).state = .halted → ∀ v, (s.facet d p).settle.debugRead (wfld w 0 7) = some v →
        ∃ t : State, exec (.facetRegisterAccess r w) s = .next (t.wrote r Reg.DBG_FREG) ∧ t.fld Reg.DBG_FDATA 0 24 = v % 2 ^ 24 ∧ t.facets = s.facets) ∧
      (wbit w 7 = true → (s.facet d p).state = .halted → ∀ g, (s.facet d p).settle.debugWrite (wfld w 0 7) (s.fld Reg.DBG_FDATA 0 24) = some g →
        ∃ t : State, exec (.facetRegisterAccess r w) s = .next (t.wrote r Reg.DBG_FREG) ∧ t.facet d p = g) ∧
      ((s.facet d p).state = .running → ∃ t : State, exec (.facetRegisterAccess r w) s = .next (t.refusedWrite r Reg.DBG_FREG) ∧
        t.bit Reg.DBG_FSTAT 3 = true ∧ t.facets = s.facets)) ∧
    (s.admits r (Reg.CORE_WDT_KICK n) true = true →
      exec (.watchdogKick r n) s = .next (((s.wdtReload n).setCore n { c with second := false }).wrote r (Reg.CORE_WDT_KICK n))) ∧
    (s.bit (Reg.CORE_WDT_CTL n) 0 = true → c.paused = false →
      (c.second = false → exec (.watchdogExpiry n) s = .next
        ((((s.flag (Reg.CORE_WDT_STAT n) 24).wdtReload n).setCore n { c with second := true }).raise 3 (errCode 18 4) 5 0x19 n)) ∧
      (c.second = true → s.fld (Reg.CORE_WDT_CTL n) 2 2 = 0 → exec (.watchdogExpiry n) s = .next ((s.wdtReload n).raise 5 (errCode 18 4) 5 0x19 n)) ∧
      (c.second = true → s.fld (Reg.CORE_WDT_CTL n) 2 2 = 2 → s.clk.por = false → s.resetReady = true →
        ∃ t, exec (.watchdogExpiry n) s = .next t ∧ t.bootState = 1 ∧ t.fld Reg.DIE_RSTCAUSE 0 4 = 3)) ∧
    ((s.bit (Reg.CORE_WDT_CTL n) 0 = false ∨ c.paused = true) → exec (.watchdogExpiry n) s = .next s) ∧
    (∀ line : Fin 16, s.bit (Reg.DBG_XTRIG line) 0 = false → s.bit (Reg.DBG_XTRIG line) 8 = true → s.bit (Reg.DBG_XTRIG line) (9 + n) = true →
      c.run = .running → c.want = none → ∃ t, exec (.debugLineEdge line) s = .next t ∧ t.core n = { c with want := some 6 }) ∧
    (∀ b : BitVec 8,
      (s.admits r Reg.DBG_VT_TX true = true → r.code < 6 →
        (s.session.tx.length < 64 → exec (.terminalTxPush r b) s =
          .next ((s.setSession (fun x => { x with tx := x.tx ++ [b] })).wrote r Reg.DBG_VT_TX)) ∧
        (64 ≤ s.session.tx.length → exec (.terminalTxPush r b) s = .next ((s.flag Reg.DBG_VT_TX 16).wrote r Reg.DBG_VT_TX))) ∧
      (s.admits .debugger Reg.DBG_VT_RX true = true → s.session.state = 2 → s.session.rx.length < 64 →
        ∃ t : State, exec (.terminalRxPush b) s = .next (t.wrote .debugger Reg.DBG_VT_RX) ∧ t.session = { s.session with rx := s.session.rx ++ [b] })) ∧
    (s.admits .debugger Reg.DBG_VT_TX true = true → s.session.state = 2 →
      exec .terminalTxPop s = .next ((s.setSession (fun x => { x with tx := x.tx.drop 1 })).wrote .debugger Reg.DBG_VT_TX)) ∧
    (s.admits r Reg.DBG_VT_RX false = true → r.code < 6 →
      (∀ b rest, s.session.rx = b :: rest → exec (.terminalRxPop r) s =
        .next ((s.setSession (fun x => { x with rx := rest })).fetched r Reg.DBG_VT_RX (vtWord (b :: rest) (s.fld Reg.DBG_VT_RX 16 2)))) ∧
      (s.session.rx = [] → exec (.terminalRxPop r) s = .next ((s.flag Reg.DBG_VT_RX 17).fetched r Reg.DBG_VT_RX 0)))

/-- The event recorder (R548, R550, R552 to R555): a record that passes its filter is accepted with the next number or dropped and
counted, one that does not leaves nothing; the oldest accepted record takes an empty slot, or is counted in a freeze; a freeze stops the
main partition's writes and its end writes the gap record; a clear empties the main partition alone. The model's own choices in it: log
entries 38, 40. -/
def Obligations.RecorderKeepsRecords : Prop :=
  ∀ (s : State) (r : Requester),
    let c := s.recorder
    let rec_ (f : Recorder → Recorder) : State := s.setRecorder f
    (∀ (a : Raised) (rest : List Raised), s.raised = a :: rest → (s.clk.hold = false ∨ s.bit Reg.CLK_STAT 16 = true) →
      (s.recordPasses a = false → exec (.recordArrival [0]) s = .next { s with raised := rest }) ∧
      (s.recordPasses a = true → a.sev < 7 →
        (c.fifo.length < 64 → ∃ (t : State) (x : Rec), exec (.recordArrival [0]) s = .next t ∧ t.raised = rest ∧ t.recorder.fifo = c.fifo ++ [x] ∧
          x.seq = c.seq ∧ x.sev = a.sev ∧ x.code = a.code ∧ x.dt = a.dt ∧ x.phase = a.phase ∧ x.die = a.die ∧ x.trig = a.trig ∧ x.inst = a.inst ∧
          t.recorder.seq = (c.seq + 1) % 4194304) ∧
        (64 ≤ c.fifo.length → ∃ t, exec (.recordArrival [0]) s = .next t ∧ t.recorder = c ∧ t.bit Reg.REC_STAT 2 = true)) ∧
      (s.recordPasses a = true → a.sev = 7 → c.fifo7.length < 16 → ∃ (t : State) (x : Rec), exec (.recordArrival [0]) s = .next t ∧
        t.recorder.fifo7 = c.fifo7 ++ [x] ∧ x.seq = c.seq ∧ x.sev = 7 ∧ x.code = a.code)) ∧
    exec (.recordArrival []) s = .next s ∧
    (∀ (x : Rec) (rest : List Rec), c.fifo = x :: rest →
      (∀ k, c.frozen = false → emptySlot c.store 0 7936 = some k →
        ∃ t, exec (.recordStore false) s = .next t ∧ t.recorder = { c with fifo := rest, store := c.store.set k (some (x, c.age)) none, age := c.age + 1 }) ∧
      (c.frozen = true → exec (.recordStore false) s = .next ((rec_ (fun c => { c with fifo := rest })).count (Reg.REC_FRZCNT x.sev) 1)) ∧
      (c.frozen = false → mainSlot c.store x.sev = none →
        exec (.recordStore false) s = .next (((rec_ (fun c => { c with fifo := rest })).count Reg.REC_DROP 1).flag Reg.REC_STAT 1))) ∧
    (∀ (x : Rec) (rest : List Rec) (k : Nat), c.fifo7 = x :: rest → emptySlot c.store 7936 256 = some k →
      (emptySlot (c.store.set k (some (x, c.age)) none) 7936 256).isSome = true →
      ∃ t, exec (.recordStore true) s = .next t ∧ t.recorder = { c with fifo7 := rest, store := c.store.set k (some (x, c.age)) none, age := c.age + 1 }) ∧
    (c.fifo = [] → exec (.recordStore false) s = .next s) ∧ (c.fifo7 = [] → exec (.recordStore true) s = .next s) ∧
    (s.admits r Reg.REC_CMD true = true →
      (c.frozen = false → ∃ t : State, exec (.recorderFreeze r) s = .next (t.wrote r Reg.REC_CMD) ∧ t.recorder = { c with frozen := true, since := s.now } ∧
        ∀ k < 7, t.rd (Reg.REC_FRZCNT k) = 0) ∧
      (c.frozen = true → exec (.recorderFreeze r) s = .next (s.wrote r Reg.REC_CMD)) ∧
      (c.frozen = true → exec (.recorderUnfreeze r) s =
        .next (((rec_ (fun c => { c with frozen := false, seq := (c.seq + 1) % 4194304 })).storeMain s.gapRecord).wrote r Reg.REC_CMD)) ∧
      (c.frozen = false → exec (.recorderUnfreeze r) s = .next (s.wrote r Reg.REC_CMD)) ∧
      exec (.recorderClear r) s = .next ((rec_ (fun c => { c with store := c.store.keep (fun k => decide (7936 ≤ k)) })).wrote r Reg.REC_CMD)) ∧
    (s.fld Reg.REC_CTL 0 16 = 0 → exec .freezeLimitExpiry s = .next s) ∧
    (s.fld Reg.REC_CTL 0 16 ≠ 0 → c.frozen = true → exec .freezeLimitExpiry s =
      .next ((rec_ (fun c => { c with frozen := false, seq := (c.seq + 1) % 4194304 })).storeMain s.gapRecord))

/-- The package (R573, R579 to R584): a ball is named by its row letters and its column, no two rows by the same letters; block rows 6 to
9 carry the DDR5 channels, hub quads, dedicated signals and power they list; every user pin has exactly one ball; a lane at its reset
values measures 777.8 mV on a run and 1,000 mV on a transition. -/
def Obligations.PackageBallsAndLaneAmplitude : Prop :=
  let letters : List String := ["A", "B", "C", "D", "E", "F", "G", "H", "J", "K", "L", "M", "N", "P", "T", "U", "V", "W", "Y"]
  ((∀ r < 19, rowName r = letters.getD r "" ∧ rowName (19 + r) = "A" ++ letters.getD r "" ∧ rowName (38 + r) = "B" ++ letters.getD r "") ∧
    rowName 57 = "CA" ∧ rowName 58 = "CB" ∧ rowName 59 = "CC" ∧ (∀ r col, ballName r col = rowName r ++ toString col) ∧
    ∀ r < 60, ∀ q < 60, rowName r = rowName q → r = q) ∧
  ((∀ c < 4, ∀ m < 6, blockAt (9 - m / 2) (2 * c + m % 2) = .ddr c m) ∧ (∀ h < 8, blockAt (9 - h % 3) (8 + h / 3) = .hubQuad h) ∧
    blockAt 6 4 = .ded 0 ∧ blockAt 6 5 = .ded 1 ∧ blockAt 7 10 = .ded 2 ∧
    (∀ bc ∈ [0, 1, 2, 3, 6, 7, 8, 9, 10], blockAt 6 bc = .power) ∧ (∀ br ∈ [6, 7, 8, 9], blockAt br 11 = .power)) ∧
  (∀ pin < 960, ∃ r < 60, ∃ col, 1 ≤ col ∧ col ≤ 60 ∧ ballAt r col = .io pin ∧
    ∀ q < 60, ∀ k, 1 ≤ k → k ≤ 60 → ballAt q k = .io pin → q = r ∧ k = col) ∧
  (∀ die < 4, ∀ l < 16, State.reset.txRun die l = 49000 ∧ State.reset.txPeak die l = 63000)

end
end

