-- ==== Sys2Proof/Laws/Maps.lean ====
section
/-!
SUPPORT. Sparse maps: reads after writes, and the canonical form.
-/
namespace Sys2Proof

theorem SMap.get_ins_self {α : Type} {m : SMap α} {k : Nat} {v d : α} (h : ∀ e ∈ m, e.1 ≠ k) : (m.ins k v).get k d = v := by
  induction m with
  | nil => simp [SMap.ins, SMap.get]
  | cons a t ih =>
    have ha : a.1 ≠ k := h a (by simp)
    unfold SMap.ins
    split
    · simp [SMap.get]
    · unfold SMap.get
      rw [if_neg ha]
      exact ih (fun e he => h e (by simp [he]))

theorem SMap.get_ins_other {α : Type} {m : SMap α} {j k : Nat} {v d : α} (h : j ≠ k) : (m.ins k v).get j d = m.get j d := by
  induction m with
  | nil => simp [SMap.ins, SMap.get, Ne.symm h]
  | cons a t ih =>
    unfold SMap.ins
    split
    · show (if k = j then v else SMap.get (a :: t) j d) = _
      rw [if_neg (Ne.symm h)]
    · unfold SMap.get
      split
      · rfl
      · exact ih

theorem SMap.get_del_self {α : Type} (m : SMap α) (k : Nat) (d : α) : (m.del k).get k d = d := by
  induction m with
  | nil => rfl
  | cons a t ih =>
    by_cases h : a.1 = k
    · simpa [SMap.del, h] using ih
    · have : SMap.del (a :: t) k = a :: SMap.del t k := by simp [SMap.del, h]
      rw [this]
      unfold SMap.get
      rw [if_neg h]
      exact ih

theorem SMap.get_del_other {α : Type} {m : SMap α} {j k : Nat} {d : α} (h : j ≠ k) : (m.del k).get j d = m.get j d := by
  induction m with
  | nil => rfl
  | cons a t ih =>
    by_cases ha : a.1 = k
    · have : SMap.del (a :: t) k = SMap.del t k := by simp [SMap.del, ha]
      rw [this, ih]
      conv => rhs; unfold SMap.get
      rw [if_neg (by rw [ha]; exact Ne.symm h)]
    · have : SMap.del (a :: t) k = a :: SMap.del t k := by simp [SMap.del, ha]
      rw [this]
      unfold SMap.get
      split
      · rfl
      · exact ih

theorem SMap.mem_del {α : Type} {m : SMap α} {k : Nat} {e : Nat × α} : e ∈ m.del k ↔ e ∈ m ∧ e.1 ≠ k := by simp [SMap.del]

/-- A key reads as what was set last. -/
@[simp] theorem SMap.get_set_self {α : Type} [DecidableEq α] (m : SMap α) (k : Nat) (v d : α) : (m.set k v d).get k d = v := by
  unfold SMap.set
  split
  · rename_i h
    rw [h]
    exact SMap.get_del_self m k d
  · exact SMap.get_ins_self (fun e he => (SMap.mem_del.mp he).2)

/-- Another key reads as before. -/
theorem SMap.get_set_other {α : Type} [DecidableEq α] {m : SMap α} {j k : Nat} {v d d' : α} (h : j ≠ k) :
    (m.set k v d).get j d' = m.get j d' := by
  unfold SMap.set
  split
  · exact SMap.get_del_other h
  · rw [SMap.get_ins_other h, SMap.get_del_other h]

theorem SMap.get_set {α : Type} [DecidableEq α] (m : SMap α) (j k : Nat) (v d : α) :
    (m.set k v d).get j d = if j = k then v else m.get j d := by
  split
  · rename_i h
    rw [h, SMap.get_set_self]
  · rename_i h
    exact SMap.get_set_other h

theorem SMap.del_del {α : Type} (m : SMap α) (k : Nat) : (m.del k).del k = m.del k := by
  unfold SMap.del
  rw [List.filter_filter]
  simp

/-- An inserted key can be taken out again. -/
theorem SMap.del_ins {α : Type} (m : SMap α) (k : Nat) (v : α) : (m.ins k v).del k = m.del k := by
  induction m with
  | nil => simp [SMap.ins, SMap.del]
  | cons p m ih =>
    unfold SMap.ins
    split
    · simp [SMap.del]
    · simp only [SMap.del, List.filter_cons] at ih ⊢
      split <;> simp [ih]

/-- The last of two writes of a key decides. -/
theorem SMap.set_set {α : Type} [DecidableEq α] (m : SMap α) (k : Nat) (v w d : α) : (m.set k v d).set k w d = m.set k w d := by
  unfold SMap.set
  split <;> split <;> simp [SMap.del_del, SMap.del_ins]

theorem SMap.mem_ins {α : Type} {m : SMap α} {k : Nat} {v : α} {e : Nat × α} (h : e ∈ m.ins k v) : e = (k, v) ∨ e ∈ m := by
  induction m with
  | nil => simpa [SMap.ins] using h
  | cons a t ih =>
    unfold SMap.ins at h
    split at h
    · simpa using h
    · rcases List.mem_cons.mp h with rfl | h
      · simp
      · rcases ih h with h | h <;> simp [h]

theorem SMap.ins_rising {α : Type} {m : SMap α} {k : Nat} {v : α} (h : m.Pairwise (fun p q => p.1 < q.1)) (hk : ∀ e ∈ m, e.1 ≠ k) :
    (m.ins k v).Pairwise (fun p q => p.1 < q.1) := by
  induction m with
  | nil => simp [SMap.ins]
  | cons a t ih =>
    unfold SMap.ins
    rw [List.pairwise_cons] at h
    split
    · refine List.pairwise_cons.mpr ⟨fun e he => ?_, List.pairwise_cons.mpr h⟩
      rcases List.mem_cons.mp he with rfl | he
      · assumption
      · exact Nat.lt_trans (by assumption) (h.1 e he)
    · refine List.pairwise_cons.mpr ⟨fun e he => ?_, ih h.2 (fun e he => hk e (by simp [he]))⟩
      rcases SMap.mem_ins he with rfl | he
      · have := hk a (by simp)
        simp at *
        omega
      · exact h.1 e he

/-- Setting a key keeps the canonical form. -/
theorem SMap.wf_set {α : Type} [DecidableEq α] {m : SMap α} {d : α} (k : Nat) (v : α) (h : m.wf d = true) : (m.set k v d).wf d = true := by
  simp only [SMap.wf, Bool.and_eq_true, decide_eq_true_eq, List.all_eq_true, bne_iff_ne, ne_eq] at *
  have hd : (m.del k).Pairwise (fun p q => p.1 < q.1) := h.1.filter _
  unfold SMap.set
  split
  · exact ⟨hd, fun e he => h.2 e (SMap.mem_del.mp he).1⟩
  · refine ⟨SMap.ins_rising hd (fun e he => (SMap.mem_del.mp he).2), fun e he => ?_⟩
    rcases SMap.mem_ins he with rfl | he
    · assumption
    · exact h.2 e (SMap.mem_del.mp he).1

/-- Dropping keys keeps the canonical form. -/
theorem SMap.wf_keep {α : Type} [DecidableEq α] {m : SMap α} {d : α} (p : Nat → Bool) (h : m.wf d = true) : (m.keep p).wf d = true := by
  simp only [SMap.wf, Bool.and_eq_true, decide_eq_true_eq, List.all_eq_true, bne_iff_ne, ne_eq] at *
  exact ⟨h.1.filter _, fun e he => h.2 e (List.mem_filter.mp he).1⟩

end Sys2Proof
end

