-- ==== Sys2Proof/Laws/Bus.lean ====
section
/-!
SUPPORT. Register addresses, and what an access of a register comes to once it is admitted.
-/
namespace Sys2Proof.Machine

/-! ## Window offsets (R27) -/

theorem keyOff_regKey {d u i o : Nat} (ho : o < 4096) : keyOff (regKey d u i o) = o := by unfold keyOff regKey; omega
theorem keyInst_regKey {d u i o : Nat} (ho : o < 4096) (hi : i < 4096) : keyInst (regKey d u i o) = i := by unfold keyInst regKey; omega
theorem keyUnit_regKey {d u i o : Nat} (ho : o < 4096) (hi : i < 4096) (hu : u < 32) : keyUnit (regKey d u i o) = u := by
  unfold keyUnit regKey; omega
theorem keyDie_regKey {d u i o : Nat} (ho : o < 4096) (hi : i < 4096) (hu : u < 32) : keyDie (regKey d u i o) = d := by
  unfold keyDie regKey; omega

theorem place_csrAddr {key : Nat} (h : key < 2 ^ 32) : place (csrAddr key) = .csr key := by
  have h1 : csrAddr key / 2 ^ 32 = 0xF00 := by unfold csrAddr; omega
  have h2 : csrAddr key % 2 ^ 32 = key := by unfold csrAddr; omega
  simp only [place, h1, h2, if_true]

theorem csrAddr_aligned {key : Nat} (h : key % 4 = 0) : csrAddr key % 4 = 0 := by unfold csrAddr; omega

/-- An admitted write of a single register is its unit's write, and the response that unit gives. -/
theorem regAccess_admitted {s : State} {r : Requester} {key : Nat} {w : Word} (hk : singleReg key = true) (ha : s.admits r key true = true) :
    s.regAccess r key w = (s.keyWrite r.code key w).1.completeAccess r.code true (csrAddr key) (s.keyWrite r.code key w).2 0 := by
  simp only [singleReg, Bool.and_eq_true, decide_eq_true_eq, beq_iff_eq, Bool.not_eq_true'] at hk
  obtain ⟨⟨⟨⟨hlt, hal⟩, hia⟩, hdef⟩, hcxl⟩ := hk
  simp only [State.admits, Bool.and_eq_true, Bool.or_eq_true, bne_iff_ne, Bool.not_eq_true'] at ha
  obtain ⟨⟨⟨hg, hr⟩, hd⟩, hdc⟩ := ha
  have hgate : ¬(r.code = 16 ∧ (!s.gateCovers (csrAddr key)) = true) := by
    rintro ⟨h1, h2⟩
    rcases hg with h | h
    · exact h h1
    · simp [h] at h2
  unfold State.regAccess State.busWrite
  simp only [hgate, if_false, place_csrAddr hlt, csrAddr_aligned hal, and_self, if_true]
  simp [State.csrWrite, hia, hdef, hcxl, State.memberWrite, hr, hd, hdc]

/-- An admitted read of a single register by an agent is its unit's read with its side effects. -/
theorem regFetch_admitted {s : State} {r : Requester} {key : Nat} (hk : singleReg key = true) (ha : s.admits r key false = true) (hr16 : r.code ≠ 16) :
    s.regFetch r key = (((s.touched r.code key).effectRead r.code key).1).completeAccess r.code false (csrAddr key)
      ((s.touched r.code key).effectRead r.code key).2.1 ((s.touched r.code key).effectRead r.code key).2.2 := by
  simp only [singleReg, Bool.and_eq_true, decide_eq_true_eq, beq_iff_eq, Bool.not_eq_true'] at hk
  obtain ⟨⟨⟨⟨hlt, hal⟩, hia⟩, hdef⟩, hcxl⟩ := hk
  simp only [State.admits, Bool.and_eq_true, Bool.or_eq_true, bne_iff_ne, Bool.not_eq_true'] at ha
  obtain ⟨⟨⟨hg, hr⟩, hd⟩, hdc⟩ := ha
  unfold State.regFetch State.busRead
  simp only [hr16, false_and, if_false, place_csrAddr hlt, csrAddr_aligned hal, and_self, if_true]
  simp [State.csrRead, hia, hdef, hcxl, State.memberRead, hr, hd, hdc, hr16]

/-- An admitted read of a single register by the debugger is a peek (R7). -/
theorem regPeek_admitted {s : State} {r : Requester} {key : Nat} (hk : singleReg key = true) (ha : s.admits r key false = true) (hr : r.code = 16) :
    s.regFetch r key = (((s.touched 16 key).peek key).1).completeAccess 16 false (csrAddr key) .ok ((s.touched 16 key).peek key).2 := by
  simp only [singleReg, Bool.and_eq_true, decide_eq_true_eq, beq_iff_eq, Bool.not_eq_true'] at hk
  obtain ⟨⟨⟨⟨hlt, hal⟩, hia⟩, hdef⟩, hcxl⟩ := hk
  simp only [State.admits, hr, Bool.and_eq_true, Bool.or_eq_true, bne_self_eq_false, Bool.not_eq_true', Bool.false_eq_true, false_or] at ha
  obtain ⟨⟨⟨hg, hre⟩, hd⟩, hdc⟩ := ha
  unfold State.regFetch State.busRead
  simp only [hr, hg, Bool.not_true, Bool.false_eq_true, and_false, if_false, place_csrAddr hlt, csrAddr_aligned hal, and_self, if_true]
  simp [State.csrRead, hia, hdef, hcxl, State.memberRead, hre, hd, hdc]

/-- An admitted write that its unit performs is that unit's effect and the response OK (R33). -/
theorem regAccess_wrote {s t : State} {r : Requester} {key : Nat} {w : Word} (hk : singleReg key = true ∧ pairHalf key = .none)
    (ha : s.admits r key true = true) (h : (s.touched r.code key).regWrite key r.code w = (t, .ok)) : s.regAccess r key w = t.wrote r key := by
  rw [regAccess_admitted hk.1 ha]
  simp [State.keyWrite, hk.2, h, State.wrote]

/-- An admitted write that its unit declines is answered REFUSED (R33). -/
theorem regAccess_refused {s t : State} {r : Requester} {key : Nat} {w : Word} (hk : singleReg key = true ∧ pairHalf key = .none)
    (ha : s.admits r key true = true) (h : (s.touched r.code key).regWrite key r.code w = (t, .refused)) :
    s.regAccess r key w = t.refusedWrite r key := by
  rw [regAccess_admitted hk.1 ha]
  simp [State.keyWrite, hk.2, h, State.refusedWrite]

/-- What a completion leaves alone: everything but the reply, a core's trap registers and the gate's last access (R33, R534). -/
theorem completeAccess_frame (s : State) (req : Nat) (write : Bool) (addr : Nat) (x : Resp) (v : Word) :
    s.completeAccess req write addr x v =
      { s with bus := { s.bus with reply := some (x, v), completion := if req = 6 ∨ req = 7 then some x.host else s.bus.completion }, cores := (s.completeAccess req write addr x v).cores,
               session := (s.completeAccess req write addr x v).session } := by
  unfold State.completeAccess State.gateDone State.setCore State.answerTo
  dsimp only
  split
  · split <;> rfl
  · split <;> rfl

/-- A completion keeps the scopes of the debug session. -/
theorem hasScope_completeAccess (s : State) (req : Nat) (write : Bool) (addr : Nat) (x : Resp) (v : Word) (n : Nat) :
    (s.completeAccess req write addr x v).hasScope n = s.hasScope n := by
  unfold State.completeAccess State.gateDone State.setCore State.answerTo State.hasScope
  dsimp only
  repeat' split
  all_goals rfl

/-- What admits an access does not depend on a completion or on what a requester holds of a pair. -/
theorem admits_completeAccess (s : State) (req : Nat) (write : Bool) (addr : Nat) (x : Resp) (v : Word) (r : Requester) (key : Nat) (wr : Bool) :
    (s.completeAccess req write addr x v).admits r key wr = s.admits r key wr := by
  have hs := hasScope_completeAccess s req write addr x v
  have hst : (s.completeAccess req write addr x v).session.state = s.session.state := by
    unfold State.completeAccess State.gateDone State.setCore State.answerTo
    dsimp only
    repeat' split
    all_goals rfl
  have hg : ∀ a, (s.completeAccess req write addr x v).gateCovers a = s.gateCovers a := by
    intro a; unfold State.gateCovers; simp only [hs, hst]
  have hd : ∀ a b c, (s.completeAccess req write addr x v).denies a b c = s.denies a b c := by
    intro a b c; unfold State.denies; simp only [hs]
  have hr : (s.completeAccess req write addr x v).reachable key = s.reachable key := by
    rw [completeAccess_frame]; rfl
  have hc : ∀ a b c d e, (s.completeAccess req write addr x v).declines a b c d e = s.declines a b c d e := by
    intro a b c d e; rw [completeAccess_frame]; rfl
  simp only [State.admits, hg, hd, hr, hc]

theorem admits_setHeld (s : State) (k : Nat) (w : Option Word) (r : Requester) (key : Nat) (wr : Bool) :
    (s.setHeld k w).admits r key wr = s.admits r key wr := rfl

theorem joinHalves_halves (d : DWord) : joinHalves (hiHalf d) (loHalf d) = d := by
  unfold joinHalves hiHalf loHalf
  apply BitVec.eq_of_getLsbD_eq
  intro i hi
  simp only [BitVec.getLsbD_append, BitVec.getLsbD_setWidth, BitVec.getLsbD_ushiftRight]
  by_cases h : i < 32
  · simp [h]
  · simp [h, show i - 32 < 32 by omega, show 32 + (i - 32) = i by omega]

/-- Both halves of a pair, admitted and taken: the whole quantity reaches the unit, and nothing stays held (R6). -/
theorem pairAccess_wrote {s t : State} {r : Requester} {lo hi : Nat} {d : DWord} (hlo : singleReg lo = true ∧ pairHalf lo = .lo)
    (hhi : singleReg hi = true ∧ pairHalf hi = .hi) (hn : hi = lo + 4) (ha : s.admits r lo true = true) (hb : s.admits r hi true = true)
    (tl : ∀ x : State, x.touched r.code lo = x) (th : ∀ x : State, x.touched r.code hi = x) (hu : keyUnit lo ≠ 0x13)
    (wl : takesWrites lo = true) (wh : takesWrites hi = true) (pl : s.pairRefused lo = false)
    (ph : ((s.setHeld (slot lo r.code) (some (loHalf d))).wrote r lo).pairRefused hi = false)
    (h : ((s.setHeld (slot lo r.code) none).wrote r lo).pairWrite lo r.code d = (t, .ok)) :
    s.pairAccess r lo hi d = t.wrote r hi := by
  have e1 : s.regAccess r lo (loHalf d) = (s.setHeld (slot lo r.code) (some (loHalf d))).wrote r lo := by
    rw [regAccess_admitted hlo.1 ha]
    simp only [State.keyWrite, hlo.2, tl, State.pairLoWrite, wl, pl, hu, if_false, Bool.not_true, Bool.false_eq_true]
    rfl
  have hb' : ((s.setHeld (slot lo r.code) (some (loHalf d))).wrote r lo).admits r hi true = true := by
    unfold State.wrote; rw [admits_completeAccess, admits_setHeld]; exact hb
  have hg : ((s.setHeld (slot lo r.code) (some (loHalf d))).wrote r lo).bus.held.get (slot lo r.code) none = some (loHalf d) := by
    unfold State.wrote; rw [completeAccess_frame]; simp [State.setHeld]
  have hs : ((s.setHeld (slot lo r.code) (some (loHalf d))).wrote r lo).setHeld (slot lo r.code) none
      = (s.setHeld (slot lo r.code) none).wrote r lo := by
    unfold State.wrote State.completeAccess State.gateDone State.setCore State.answerTo State.setHeld
    dsimp only
    by_cases h1 : r.code = 16
    · simp only [h1, if_true]
      split <;> simp [SMap.set_set]
    · simp [h1, SMap.set_set]
  subst hn
  unfold State.pairAccess
  rw [e1, regAccess_admitted hhi.1 hb']
  simp only [State.keyWrite, hhi.2, th, State.pairHiWrite, wh, ph, Bool.not_true, Bool.false_eq_true, if_false, Nat.add_sub_cancel, hg, hs,
    joinHalves_halves, h]
  rfl

end Sys2Proof.Machine
end

