-- ==== Sys2Proof/Laws/Kept.lean ====
section
/-!
SUPPORT. What every operation of the model keeps: the queue, the part's grades, the canonical form of the register store, the
direction of one-time-programmable state; and, for all operations but Bezel's own, that state itself. One lemma per operation.
-/
set_option linter.all false

namespace Sys2Proof.Machine

/-- What an operation keeps of the state `s` in `t`; `fixed`: it leaves one-time-programmable state and life cycle as they are. -/
structure Kept (fixed : Bool) (s t : State) : Prop where
  pending : t.pending = s.pending
  grade : t.grade = s.grade ∧ t.gradeI = s.gradeI
  csr : s.csrWf → t.csrWf
  otp : Otp.noLess s.sec.otp t.sec.otp
  same : fixed = true → t.sec.otp = s.sec.otp ∧ t.sec.lc = s.sec.lc

theorem Otp.noLess_refl (a : Otp) : Otp.noLess a a := ⟨id, id, fun _ h => h, Nat.le_refl _, Nat.le_refl _⟩
theorem Otp.noLess.trans {a b c : Otp} (h : Otp.noLess a b) (k : Otp.noLess b c) : Otp.noLess a c :=
  ⟨fun x => k.owner (h.owner x), fun x => k.pwdOff (h.pwdOff x), fun i x => k.revoked i (h.revoked i x), Nat.le_trans h.quanasArb k.quanasArb, Nat.le_trans h.ownerArb k.ownerArb⟩
theorem Kept.refl (fx : Bool) (s : State) : Kept fx s s := ⟨rfl, ⟨rfl, rfl⟩, id, Otp.noLess_refl _, fun _ => ⟨rfl, rfl⟩⟩
theorem Kept.mk' {fx : Bool} {s0 s : State} (h : Kept fx s0 s) {bus free raised spine tick cal calWrites tio tioWrites ez pins flights fabric facets power mem net serial clk boot live sec session recorder cores boxes dies}
    (ho : sec.otp = s.sec.otp) (hl : sec.lc = s.sec.lc) :
    Kept fx s0 (State.mk s.pending s.csr bus free raised spine tick cal calWrites tio tioWrites ez pins flights fabric facets power mem net serial clk boot live sec session recorder cores boxes dies s.grade s.gradeI) :=
  ⟨h.pending, h.grade, h.csr, by rw [ho]; exact h.otp, fun x => by rw [ho, hl]; exact h.same x⟩
theorem Kept.ite {fx : Bool} {s0 s t : State} {c : Prop} [Decidable c] (h : Kept fx s0 s) (k : Kept fx s0 t) : Kept fx s0 (if c then s else t) := by split <;> assumption
theorem Kept.ite1 {α : Type} {fx : Bool} {s0 : State} {s t : State × α} {c : Prop} [Decidable c] (h : Kept fx s0 s.1) (k : Kept fx s0 t.1) : Kept fx s0 (if c then s else t).1 := by split <;> assumption
theorem Kept.foldl {α : Type} {fx : Bool} {s0 s : State} {l : List α} {f : State → α → State} (h : Kept fx s0 s) (k : ∀ s a, Kept fx s0 s → Kept fx s0 (f s a)) : Kept fx s0 (l.foldl f s) := by
  induction l generalizing s with
  | nil => exact h
  | cons a l ih => exact ih (k s a h)
theorem Kept.foldl1 {α β : Type} {fx : Bool} {s0 : State} {x : State × β} {l : List α} {f : State × β → α → State × β} (h : Kept fx s0 x.1) (k : ∀ x a, Kept fx s0 x.1 → Kept fx s0 (f x a).1) : Kept fx s0 (l.foldl f x).1 := by
  induction l generalizing x with
  | nil => exact h
  | cons a l ih => exact ih (k x a h)
theorem csr_keep {m : SMap Word} (p : Nat → Bool) (h : m.Pairwise (fun p q => p.1 < q.1) ∧ ∀ e ∈ m, e.2 ≠ regReset e.1) :
    (m.keep p).Pairwise (fun p q => p.1 < q.1) ∧ ∀ e ∈ m.keep p, e.2 ≠ regReset e.1 :=
  ⟨h.1.filter _, fun e he => h.2 e ((List.mem_filter.mp he).1)⟩
theorem Kept.keep {fx : Bool} {s0 s : State} (h : Kept fx s0 s) {p : Nat → Bool} {bus free raised spine tick cal calWrites tio tioWrites ez pins flights fabric facets power mem net serial clk boot live sec session recorder cores boxes dies}
    (ho : sec.otp = s.sec.otp) (hl : sec.lc = s.sec.lc) :
    Kept fx s0 (State.mk s.pending (s.csr.keep p) bus free raised spine tick cal calWrites tio tioWrites ez pins flights fabric facets power mem net serial clk boot live sec session recorder cores boxes dies s.grade s.gradeI) :=
  ⟨h.pending, h.grade, fun x => csr_keep p (h.csr x), by rw [ho]; exact h.otp, fun x => by rw [ho, hl]; exact h.same x⟩
theorem Kept.clear {fx : Bool} {s0 s : State} (h : Kept fx s0 s) {bus free raised spine tick cal calWrites tio tioWrites ez pins flights fabric facets power mem net serial clk boot live sec session recorder cores boxes dies}
    (ho : sec.otp = s.sec.otp) (hl : sec.lc = s.sec.lc) :
    Kept fx s0 (State.mk s.pending [] bus free raised spine tick cal calWrites tio tioWrites ez pins flights fabric facets power mem net serial clk boot live sec session recorder cores boxes dies s.grade s.gradeI) :=
  ⟨h.pending, h.grade, fun _ => ⟨.nil, by simp⟩, by rw [ho]; exact h.otp, fun x => by rw [ho, hl]; exact h.same x⟩
theorem Kept.secMove {s0 s : State} (h : Kept false s0 s) (f : Security → Security) (hf : Otp.noLess s.sec.otp (f s.sec).otp) : Kept false s0 (s.setSec f) :=
  ⟨h.pending, h.grade, h.csr, h.otp.trans hf, fun x => nomatch x⟩
theorem Kept.setSec {fx : Bool} {s0 s : State} (h : Kept fx s0 s) (f : Security → Security) (ho : (f s.sec).otp = s.sec.otp) (hl : (f s.sec).lc = s.sec.lc) : Kept fx s0 (s.setSec f) :=
  Kept.mk' h ho hl
theorem Kept.secSame {fx : Bool} {s0 s : State} (h : Kept fx s0 s) (f : Security → Security) (hf : ∀ v, (f v).otp = v.otp ∧ (f v).lc = v.lc) : Kept fx s0 (s.setSec f) :=
  h.setSec f (hf _).1 (hf _).2
theorem ins_mem {α : Type} {m : SMap α} {k : Nat} {v : α} {e : Nat × α} (h : e ∈ m.ins k v) : e = (k, v) ∨ e ∈ m := by
  induction m with
  | nil => simpa [SMap.ins] using h
  | cons a t ih =>
    unfold SMap.ins at h
    split at h
    · simpa using h
    · rcases List.mem_cons.mp h with rfl | h
      · simp
      · rcases ih h with h | h <;> simp [h]
theorem ins_pairwise {α : Type} {m : SMap α} {k : Nat} {v : α} (h : m.Pairwise (fun p q => p.1 < q.1)) (hk : ∀ e ∈ m, e.1 ≠ k) :
    (m.ins k v).Pairwise (fun p q => p.1 < q.1) := by
  induction m with
  | nil => simp [SMap.ins]
  | cons a t ih =>
    unfold SMap.ins
    rw [List.pairwise_cons] at h
    split
    · refine List.pairwise_cons.mpr ⟨fun e he => ?_, List.pairwise_cons.mpr h⟩
      rcases List.mem_cons.mp he with rfl | he
      · assumption
      · exact Nat.lt_trans (by assumption) (h.1 e he)
    · refine List.pairwise_cons.mpr ⟨fun e he => ?_, ih h.2 (fun e he => hk e (by simp [he]))⟩
      rcases ins_mem he with rfl | he
      · have := hk a (by simp); simp at *; omega
      · exact h.1 e he
theorem Kept.wr {fx : Bool} {s0 s : State} (h : Kept fx s0 s) (k w) : Kept fx s0 (s.wr k w) := by
  refine ⟨h.pending, h.grade, fun x => ?_, h.otp, h.same⟩
  have hc := h.csr x
  unfold State.csrWf State.wr SMap.set at *
  dsimp only
  have hd : (s.csr.del k).Pairwise (fun p q => p.1 < q.1) := hc.1.filter _
  have hm : ∀ e ∈ s.csr.del k, e ∈ s.csr ∧ e.1 ≠ k := fun e he => by simpa [SMap.del] using he
  split
  · exact ⟨hd, fun e he => hc.2 e (hm e he).1⟩
  · refine ⟨ins_pairwise hd (fun e he => (hm e he).2), fun e he => ?_⟩
    rcases ins_mem he with rfl | he
    · assumption
    · exact hc.2 e (hm e he).1
theorem Kept.bzRun {fx : Bool} {s0 s : State} (h : Kept fx s0 s) (op : Nat) (f : BzCommand → State → State) (hb : ∀ c o n, Kept fx s0 (s.bzEnd c stDenied o n)) (hf : ∀ c, Kept fx s0 (f c s)) : Kept fx s0 (s.bzRun op f) := by
  unfold State.bzRun
  split
  · exact h
  · split
    · exact h
    · split
      · exact hb _ _ _
      · exact hf _
theorem Kept.protectedAccess {fx : Bool} {s0 s : State} (r : State × Option MemReply) (h : Kept fx s0 r.1) : Kept fx s0 (s.protectedAccess r) := Kept.mk' h rfl rfl

theorem Kept.setFld {fx : Bool} {s0 s : State} (hk : Kept fx s0 s) (key lo n v : Nat) : Kept fx s0 (State.setFld s key lo n v) := by
  unfold State.setFld; simp +contextual (maxDischargeDepth := 40) only [hk, Kept.mk', Otp.noLess_refl, Kept.keep, Kept.clear, Kept.ite, Kept.ite1, Kept.foldl, Kept.foldl1, Kept.wr]

theorem Kept.setBit {fx : Bool} {s0 s : State} (hk : Kept fx s0 s) (key i : Nat) (b : Bool) : Kept fx s0 (State.setBit s key i b) := by
  unfold State.setBit; simp +contextual (maxDischargeDepth := 40) only [hk, Kept.mk', Otp.noLess_refl, Kept.keep, Kept.clear, Kept.ite, Kept.ite1, Kept.foldl, Kept.foldl1, Kept.wr]

theorem Kept.flag {fx : Bool} {s0 s : State} (hk : Kept fx s0 s) (key i : Nat) : Kept fx s0 (State.flag s key i) := by
  unfold State.flag; simp +contextual (maxDischargeDepth := 40) only [hk, Kept.mk', Otp.noLess_refl, Kept.keep, Kept.clear, Kept.ite, Kept.ite1, Kept.foldl, Kept.foldl1, Kept.setBit]

theorem Kept.flagIf {fx : Bool} {s0 s : State} (hk : Kept fx s0 s) (c : Bool) (key i : Nat) : Kept fx s0 (State.flagIf s c key i) := by
  unfold State.flagIf; simp +contextual (maxDischargeDepth := 40) only [hk, Kept.mk', Otp.noLess_refl, Kept.keep, Kept.clear, Kept.ite, Kept.ite1, Kept.foldl, Kept.foldl1, Kept.flag]

theorem Kept.wrPair {fx : Bool} {s0 s : State} (hk : Kept fx s0 s) (lo hi : Nat) (d : DWord) : Kept fx s0 (State.wrPair s lo hi d) := by
  unfold State.wrPair; simp +contextual (maxDischargeDepth := 40) only [hk, Kept.mk', Otp.noLess_refl, Kept.keep, Kept.clear, Kept.ite, Kept.ite1, Kept.foldl, Kept.foldl1, Kept.wr]

theorem Kept.count {fx : Bool} {s0 s : State} (hk : Kept fx s0 s) (key n : Nat) : Kept fx s0 (State.count s key n) := by
  unfold State.count; simp +contextual (maxDischargeDepth := 40) only [hk, Kept.mk', Otp.noLess_refl, Kept.keep, Kept.clear, Kept.ite, Kept.ite1, Kept.foldl, Kept.foldl1, Kept.wr]

theorem Kept.countFld {fx : Bool} {s0 s : State} (hk : Kept fx s0 s) (key lo n by_ : Nat) : Kept fx s0 (State.countFld s key lo n by_) := by
  unfold State.countFld; simp +contextual (maxDischargeDepth := 40) only [hk, Kept.mk', Otp.noLess_refl, Kept.keep, Kept.clear, Kept.ite, Kept.ite1, Kept.foldl, Kept.foldl1, Kept.setFld]

theorem Kept.drawn {fx : Bool} {s0 s : State} (hk : Kept fx s0 s)  : Kept fx s0 (State.drawn s) := by
  unfold State.drawn; simp +contextual (maxDischargeDepth := 40) only [hk, Kept.mk', Otp.noLess_refl, Kept.keep, Kept.clear, Kept.ite, Kept.ite1, Kept.foldl, Kept.foldl1]

theorem Kept.drawnN {fx : Bool} {s0 s : State} (hk : Kept fx s0 s) (n : Nat) : Kept fx s0 (State.drawnN s n) := by
  unfold State.drawnN; simp +contextual (maxDischargeDepth := 40) only [hk, Kept.mk', Otp.noLess_refl, Kept.keep, Kept.clear, Kept.ite, Kept.ite1, Kept.foldl, Kept.foldl1]

theorem Kept.setDom {fx : Bool} {s0 s : State} (hk : Kept fx s0 s) (d : Nat) (x : Dom) : Kept fx s0 (State.setDom s d x) := by
  unfold State.setDom; simp +contextual (maxDischargeDepth := 40) only [hk, Kept.mk', Otp.noLess_refl, Kept.keep, Kept.clear, Kept.ite, Kept.ite1, Kept.foldl, Kept.foldl1]

theorem Kept.setSlice {fx : Bool} {s0 s : State} (hk : Kept fx s0 s) (die : Nat) (x : CalSlice) : Kept fx s0 (State.setSlice s die x) := by
  unfold State.setSlice; simp +contextual (maxDischargeDepth := 40) only [hk, Kept.mk', Otp.noLess_refl, Kept.keep, Kept.clear, Kept.ite, Kept.ite1, Kept.foldl, Kept.foldl1]

theorem Kept.setUnit {fx : Bool} {s0 s : State} (hk : Kept fx s0 s) (die n : Nat) (x : Tio) : Kept fx s0 (State.setUnit s die n x) := by
  unfold State.setUnit; simp +contextual (maxDischargeDepth := 40) only [hk, Kept.mk', Otp.noLess_refl, Kept.keep, Kept.clear, Kept.ite, Kept.ite1, Kept.foldl, Kept.foldl1]

theorem Kept.answer {fx : Bool} {s0 s : State} (hk : Kept fx s0 s) (r : Resp) (data : Word) : Kept fx s0 (State.answer s r data) := by
  unfold State.answer; simp +contextual (maxDischargeDepth := 40) only [hk, Kept.mk', Otp.noLess_refl, Kept.keep, Kept.clear, Kept.ite, Kept.ite1, Kept.foldl, Kept.foldl1]

theorem Kept.setCore {fx : Bool} {s0 s : State} (hk : Kept fx s0 s) (i : Nat) (x : Core) : Kept fx s0 (State.setCore s i x) := by
  unfold State.setCore; simp +contextual (maxDischargeDepth := 40) only [hk, Kept.mk', Otp.noLess_refl, Kept.keep, Kept.clear, Kept.ite, Kept.ite1, Kept.foldl, Kept.foldl1]

theorem Kept.gateDone {fx : Bool} {s0 s : State} (hk : Kept fx s0 s) (r : Resp) (data : Word) : Kept fx s0 (State.gateDone s r data) := by
  unfold State.gateDone; simp +contextual (maxDischargeDepth := 40) only [hk, Kept.mk', Otp.noLess_refl, Kept.keep, Kept.clear, Kept.ite, Kept.ite1, Kept.foldl, Kept.foldl1, Kept.count]

theorem Kept.answerTo {fx : Bool} {s0 s : State} (hk : Kept fx s0 s) (req : Nat) (r : Resp) (data : Word) : Kept fx s0 (State.answerTo s req r data) := by
  unfold State.answerTo; simp +contextual (maxDischargeDepth := 40) only [hk, Kept.mk', Otp.noLess_refl, Kept.keep, Kept.clear, Kept.ite, Kept.ite1, Kept.foldl, Kept.foldl1]

theorem Kept.completeAccess {fx : Bool} {s0 s : State} (hk : Kept fx s0 s) (req : Nat) (write : Bool) (addr : Nat) (r : Resp) (data : Word) : Kept fx s0 (State.completeAccess s req write addr r data) := by
  unfold State.completeAccess; simp +contextual (maxDischargeDepth := 40) only [hk, Kept.mk', Otp.noLess_refl, Kept.keep, Kept.clear, Kept.ite, Kept.ite1, Kept.foldl, Kept.foldl1, Kept.answerTo, Kept.gateDone, Kept.setCore]

theorem Kept.raise {fx : Bool} {s0 s : State} (hk : Kept fx s0 s) (sev code die unit inst : Nat) (late : Bool) : Kept fx s0 (State.raise s sev code die unit inst late) := by
  unfold State.raise; simp +contextual (maxDischargeDepth := 40) only [hk, Kept.mk', Otp.noLess_refl, Kept.keep, Kept.clear, Kept.ite, Kept.ite1, Kept.foldl, Kept.foldl1]

theorem Kept.flagLast {fx : Bool} {s0 s : State} (hk : Kept fx s0 s) (flags : Nat) : Kept fx s0 (State.flagLast s flags) := by
  unfold State.flagLast; simp +contextual (maxDischargeDepth := 40) only [hk, Kept.mk', Otp.noLess_refl, Kept.keep, Kept.clear, Kept.ite, Kept.ite1, Kept.foldl, Kept.foldl1]

theorem Kept.lateArrival {fx : Bool} {s0 s : State} (hk : Kept fx s0 s) (die unit inst : Nat) : Kept fx s0 (State.lateArrival s die unit inst) := by
  unfold State.lateArrival; simp +contextual (maxDischargeDepth := 40) only [hk, Kept.mk', Otp.noLess_refl, Kept.keep, Kept.clear, Kept.ite, Kept.ite1, Kept.foldl, Kept.foldl1, Kept.raise]

theorem Kept.flagErr {fx : Bool} {s0 s : State} (hk : Kept fx s0 s) (key i sev code : Nat) : Kept fx s0 (State.flagErr s key i sev code) := by
  unfold State.flagErr; simp +contextual (maxDischargeDepth := 40) only [hk, Kept.mk', Otp.noLess_refl, Kept.keep, Kept.clear, Kept.ite, Kept.ite1, Kept.foldl, Kept.foldl1, Kept.flag, Kept.raise]

theorem Kept.flagErrAt {fx : Bool} {s0 s : State} (hk : Kept fx s0 s) (key i sev code inst : Nat) : Kept fx s0 (State.flagErrAt s key i sev code inst) := by
  unfold State.flagErrAt; simp +contextual (maxDischargeDepth := 40) only [hk, Kept.mk', Otp.noLess_refl, Kept.keep, Kept.clear, Kept.ite, Kept.ite1, Kept.foldl, Kept.foldl1, Kept.flag, Kept.raise]

theorem Kept.setPower {fx : Bool} {s0 s : State} (hk : Kept fx s0 s) (f : Power → Power) : Kept fx s0 (State.setPower s f) := by
  unfold State.setPower; simp +contextual (maxDischargeDepth := 40) only [hk, Kept.mk', Otp.noLess_refl, Kept.keep, Kept.clear, Kept.ite, Kept.ite1, Kept.foldl, Kept.foldl1]

theorem Kept.grantFor {fx : Bool} {s0 s : State} (hk : Kept fx s0 s) (purse need : Nat) : Kept fx s0 (State.grantFor s purse need) := by
  unfold State.grantFor; simp +contextual (maxDischargeDepth := 40) only [hk, Kept.mk', Otp.noLess_refl, Kept.keep, Kept.clear, Kept.ite, Kept.ite1, Kept.foldl, Kept.foldl1, Kept.setPower]

theorem Kept.grantChunk {fx : Bool} {s0 s : State} (hk : Kept fx s0 s) (purse : Nat) : Kept fx s0 (State.grantChunk s purse) := by
  unfold State.grantChunk; simp +contextual (maxDischargeDepth := 40) only [hk, Kept.mk', Otp.noLess_refl, Kept.keep, Kept.clear, Kept.ite, Kept.ite1, Kept.foldl, Kept.foldl1, Kept.setPower]

theorem Kept.pbWaits {fx : Bool} {s0 s : State} (hk : Kept fx s0 s)  : Kept fx s0 (State.pbWaits s) := by
  unfold State.pbWaits; simp +contextual (maxDischargeDepth := 40) only [hk, Kept.mk', Otp.noLess_refl, Kept.keep, Kept.clear, Kept.ite, Kept.ite1, Kept.foldl, Kept.foldl1, Kept.count, Kept.flag, Kept.setPower]

theorem Kept.chargePb {fx : Bool} {s0 s : State} (hk : Kept fx s0 s) (purse cost : Nat) : Kept fx s0 (State.chargePb s purse cost) := by
  unfold State.chargePb; simp +contextual (maxDischargeDepth := 40) only [hk, Kept.mk', Otp.noLess_refl, Kept.keep, Kept.clear, Kept.ite, Kept.ite1, Kept.foldl, Kept.foldl1, Kept.grantFor, Kept.setPower]

theorem Kept.charge {fx : Bool} {s0 s : State} (hk : Kept fx s0 s) (cls purse cost : Nat) : Kept fx s0 (State.charge s cls purse cost) := by
  unfold State.charge; (repeat' split) <;> (first | assumption | (simp +contextual (maxDischargeDepth := 40) only [hk, Kept.mk', Otp.noLess_refl, Kept.keep, Kept.clear, Kept.ite, Kept.ite1, Kept.foldl, Kept.foldl1, Kept.chargePb, Kept.grantFor, Kept.setPower]; done) | grind [Kept.mk', Otp.noLess_refl, Kept.keep, Kept.clear, Kept.foldl, Kept.foldl1, Kept.chargePb, Kept.grantFor, Kept.setPower])

theorem Kept.present {fx : Bool} {s0 s : State} (hk : Kept fx s0 s) (cls purse cost : Nat) : Kept fx s0 (State.present s cls purse cost).1 := by
  unfold State.present; simp +contextual (maxDischargeDepth := 40) only [hk, Kept.mk', Otp.noLess_refl, Kept.keep, Kept.clear, Kept.ite, Kept.ite1, Kept.foldl, Kept.foldl1, Kept.charge, Kept.pbWaits]

theorem Kept.jobUnit {fx : Bool} {s0 s : State} (hk : Kept fx s0 s) (kind die : Nat) : Kept fx s0 (State.jobUnit s kind die).1 := by
  unfold State.jobUnit; simp +contextual (maxDischargeDepth := 40) only [hk, Kept.mk', Otp.noLess_refl, Kept.keep, Kept.clear, Kept.ite, Kept.ite1, Kept.foldl, Kept.foldl1, Kept.present, Kept.setPower]

theorem Kept.takeUnit {fx : Bool} {s0 s : State} (hk : Kept fx s0 s) (kind die : Nat) : Kept fx s0 (State.takeUnit s kind die).1 := by
  unfold State.takeUnit; simp +contextual (maxDischargeDepth := 40) only [hk, Kept.mk', Otp.noLess_refl, Kept.keep, Kept.clear, Kept.ite, Kept.ite1, Kept.foldl, Kept.foldl1, Kept.present, Kept.setPower]

theorem Kept.openCreditWindow {fx : Bool} {s0 s : State} (hk : Kept fx s0 s) (measured : Nat) : Kept fx s0 (State.openCreditWindow s measured).1 := by
  unfold State.openCreditWindow; simp +contextual (maxDischargeDepth := 40) only [hk, Kept.mk', Otp.noLess_refl, Kept.keep, Kept.clear, Kept.ite, Kept.ite1, Kept.foldl, Kept.foldl1, Kept.setBit, Kept.setPower, Kept.wr]

theorem Kept.setLadder {fx : Bool} {s0 s : State} (hk : Kept fx s0 s) (n : Nat) : Kept fx s0 (State.setLadder s n) := by
  unfold State.setLadder; simp +contextual (maxDischargeDepth := 40) only [hk, Kept.mk', Otp.noLess_refl, Kept.keep, Kept.clear, Kept.ite, Kept.ite1, Kept.foldl, Kept.foldl1, Kept.flag, Kept.raise, Kept.setFld]

theorem Kept.ladderStep {fx : Bool} {s0 s : State} (hk : Kept fx s0 s) (short : Bool) : Kept fx s0 (State.ladderStep s short) := by
  unfold State.ladderStep; simp +contextual (maxDischargeDepth := 40) only [hk, Kept.mk', Otp.noLess_refl, Kept.keep, Kept.clear, Kept.ite, Kept.ite1, Kept.foldl, Kept.foldl1, Kept.count, Kept.setLadder, Kept.setPower]

theorem Kept.pmbReply {fx : Bool} {s0 s : State} (hk : Kept fx s0 s) (dev w : Nat) : Kept fx s0 (State.pmbReply s dev w) := by
  unfold State.pmbReply; simp +contextual (maxDischargeDepth := 40) only [hk, Kept.mk', Otp.noLess_refl, Kept.keep, Kept.clear, Kept.ite, Kept.ite1, Kept.foldl, Kept.foldl1, Kept.flagErr, Kept.setPower]

theorem Kept.pmbFail {fx : Bool} {s0 s : State} (hk : Kept fx s0 s) (dev : Nat) : Kept fx s0 (State.pmbFail s dev) := by
  unfold State.pmbFail; simp +contextual (maxDischargeDepth := 40) only [hk, Kept.mk', Otp.noLess_refl, Kept.keep, Kept.clear, Kept.ite, Kept.ite1, Kept.foldl, Kept.foldl1, Kept.flag, Kept.raise, Kept.setPower]

theorem Kept.pmbPoll {fx : Bool} {s0 s : State} (hk : Kept fx s0 s) (reply : Nat → Option Nat) : Kept fx s0 (State.pmbPoll s reply) := by
  grind [State.pmbPoll, Kept.mk', Otp.noLess_refl, Kept.keep, Kept.clear, Kept.foldl, Kept.foldl1, Kept.pmbFail, Kept.pmbReply, Kept.setBit]

theorem Kept.setFacet {fx : Bool} {s0 s : State} (hk : Kept fx s0 s) (die p : Nat) (f : Facet) : Kept fx s0 (State.setFacet s die p f) := by
  unfold State.setFacet; simp +contextual (maxDischargeDepth := 40) only [hk, Kept.mk', Otp.noLess_refl, Kept.keep, Kept.clear, Kept.ite, Kept.ite1, Kept.foldl, Kept.foldl1]

theorem Kept.setPorts {fx : Bool} {s0 s : State} (hk : Kept fx s0 s) (die lg : Nat) (q : Ports) : Kept fx s0 (State.setPorts s die lg q) := by
  unfold State.setPorts; simp +contextual (maxDischargeDepth := 40) only [hk, Kept.mk', Otp.noLess_refl, Kept.keep, Kept.clear, Kept.ite, Kept.ite1, Kept.foldl, Kept.foldl1]

theorem Kept.setDisp {fx : Bool} {s0 s : State} (hk : Kept fx s0 s) (die rg : Nat) (d : Dispatcher) : Kept fx s0 (State.setDisp s die rg d) := by
  unfold State.setDisp; simp +contextual (maxDischargeDepth := 40) only [hk, Kept.mk', Otp.noLess_refl, Kept.keep, Kept.clear, Kept.ite, Kept.ite1, Kept.foldl, Kept.foldl1]

theorem Kept.facetRest {fx : Bool} {s0 s : State} (hk : Kept fx s0 s) (die p : Nat) (f : Facet) : Kept fx s0 (State.facetRest s die p f) := by
  unfold State.facetRest; simp +contextual (maxDischargeDepth := 40) only [hk, Kept.mk', Otp.noLess_refl, Kept.keep, Kept.clear, Kept.ite, Kept.ite1, Kept.foldl, Kept.foldl1, Kept.setFacet]

theorem Kept.facetFault {fx : Bool} {s0 s : State} (hk : Kept fx s0 s) (die p : Nat) (f : Facet) (c : Cause) : Kept fx s0 (State.facetFault s die p f c) := by
  unfold State.facetFault; simp +contextual (maxDischargeDepth := 40) only [hk, Kept.mk', Otp.noLess_refl, Kept.keep, Kept.clear, Kept.ite, Kept.ite1, Kept.foldl, Kept.foldl1, Kept.flagErr, Kept.setFacet, Kept.wr]

theorem Kept.facetUrgent {fx : Bool} {s0 s : State} (hk : Kept fx s0 s) (die p : Nat) (f : Facet) : Kept fx s0 (State.facetUrgent s die p f) := by
  unfold State.facetUrgent; simp +contextual (maxDischargeDepth := 40) only [hk, Kept.mk', Otp.noLess_refl, Kept.keep, Kept.clear, Kept.ite, Kept.ite1, Kept.foldl, Kept.foldl1, Kept.facetFault, Kept.setFacet]

theorem Kept.raiseUrgent {fx : Bool} {s0 s : State} (hk : Kept fx s0 s) (die p code delay : Nat) : Kept fx s0 (State.raiseUrgent s die p code delay) := by
  grind [State.raiseUrgent, Kept.mk', Otp.noLess_refl, Kept.keep, Kept.clear, Kept.foldl, Kept.foldl1, Kept.facetUrgent, Kept.flag, Kept.flagErr, Kept.setFacet]

theorem Kept.acceptUrgent {fx : Bool} {s0 s : State} (hk : Kept fx s0 s) (die p : Nat) : Kept fx s0 (State.acceptUrgent s die p) := by
  grind [State.acceptUrgent, Kept.mk', Otp.noLess_refl, Kept.keep, Kept.clear, Kept.foldl, Kept.foldl1, Kept.facetUrgent]

theorem Kept.facetRunRecord {fx : Bool} {s0 s : State} (hk : Kept fx s0 s) (die p : Nat) (halted : Bool) : Kept fx s0 (State.facetRunRecord s die p halted) := by
  unfold State.facetRunRecord; simp +contextual (maxDischargeDepth := 40) only [hk, Kept.mk', Otp.noLess_refl, Kept.keep, Kept.clear, Kept.ite, Kept.ite1, Kept.foldl, Kept.foldl1, Kept.raise]

theorem Kept.acceptHalt {fx : Bool} {s0 s : State} (hk : Kept fx s0 s) (die p : Nat) : Kept fx s0 (State.acceptHalt s die p) := by
  grind [State.acceptHalt, Kept.mk', Otp.noLess_refl, Kept.keep, Kept.clear, Kept.foldl, Kept.foldl1, Kept.setFacet]

theorem Kept.haltFacet {fx : Bool} {s0 s : State} (hk : Kept fx s0 s) (die p : Nat) (dbg frz : Bool) : Kept fx s0 (State.haltFacet s die p dbg frz) := by
  unfold State.haltFacet; simp +contextual (maxDischargeDepth := 40) only [hk, Kept.mk', Otp.noLess_refl, Kept.keep, Kept.clear, Kept.ite, Kept.ite1, Kept.foldl, Kept.foldl1, Kept.facetRest, Kept.facetRunRecord, Kept.setFacet]

theorem Kept.abortFacet {fx : Bool} {s0 s : State} (hk : Kept fx s0 s) (die p : Nat) : Kept fx s0 (State.abortFacet s die p) := by
  grind [State.abortFacet, Kept.mk', Otp.noLess_refl, Kept.keep, Kept.clear, Kept.foldl, Kept.foldl1, Kept.facetRest]

theorem Kept.resetFacet {fx : Bool} {s0 s : State} (hk : Kept fx s0 s) (die p : Nat) : Kept fx s0 (State.resetFacet s die p).1 := by
  grind [State.resetFacet, Kept.mk', Otp.noLess_refl, Kept.keep, Kept.clear, Kept.foldl, Kept.foldl1, Kept.facetRest]

theorem Kept.enableFacet {fx : Bool} {s0 s : State} (hk : Kept fx s0 s) (die p : Nat) : Kept fx s0 (State.enableFacet s die p) := by
  grind [State.enableFacet, Kept.mk', Otp.noLess_refl, Kept.keep, Kept.clear, Kept.foldl, Kept.foldl1, Kept.facetRest]

theorem Kept.dropRequest {fx : Bool} {s0 s : State} (hk : Kept fx s0 s) (die rg bit row : Nat) : Kept fx s0 (State.dropRequest s die rg bit row) := by
  unfold State.dropRequest; simp +contextual (maxDischargeDepth := 40) only [hk, Kept.mk', Otp.noLess_refl, Kept.keep, Kept.clear, Kept.ite, Kept.ite1, Kept.foldl, Kept.foldl1, Kept.count, Kept.flagErr]

theorem Kept.requestTask {fx : Bool} {s0 s : State} (hk : Kept fx s0 s) (die rg task param : Nat) (deadline : Option EndAt) (cal : Bool) : Kept fx s0 (State.requestTask s die rg task param deadline cal).1 := by
  unfold State.requestTask; simp +contextual (maxDischargeDepth := 40) only [hk, Kept.mk', Otp.noLess_refl, Kept.keep, Kept.clear, Kept.ite, Kept.ite1, Kept.foldl, Kept.foldl1, Kept.dropRequest, Kept.setDisp]

theorem Kept.reportLate {fx : Bool} {s0 s : State} (hk : Kept fx s0 s) (die rg : Nat) : Kept fx s0 (State.reportLate s die rg) := by
  unfold State.reportLate; simp +contextual (maxDischargeDepth := 40) only [hk, Kept.mk', Otp.noLess_refl, Kept.keep, Kept.clear, Kept.ite, Kept.ite1, Kept.foldl, Kept.foldl1, Kept.count, Kept.flagErr]

theorem Kept.lateReady {fx : Bool} {s0 s : State} (hk : Kept fx s0 s) (die rg i : Nat) : Kept fx s0 (State.lateReady s die rg i) := by
  grind [State.lateReady, Kept.mk', Otp.noLess_refl, Kept.keep, Kept.clear, Kept.foldl, Kept.foldl1, Kept.reportLate, Kept.setDisp]

theorem Kept.lateAssigned {fx : Bool} {s0 s : State} (hk : Kept fx s0 s) (die p : Nat) : Kept fx s0 (State.lateAssigned s die p) := by
  grind [State.lateAssigned, Kept.mk', Otp.noLess_refl, Kept.keep, Kept.clear, Kept.foldl, Kept.foldl1, Kept.reportLate, Kept.setFacet]

theorem Kept.startTask {fx : Bool} {s0 s : State} (hk : Kept fx s0 s) (die rg : Nat) (r : Request) (l : Nat) : Kept fx s0 (State.startTask s die rg r l) := by
  unfold State.startTask; simp +contextual (maxDischargeDepth := 40) only [hk, Kept.mk', Otp.noLess_refl, Kept.keep, Kept.clear, Kept.ite, Kept.ite1, Kept.foldl, Kept.foldl1, Kept.setFacet]

theorem Kept.assign {fx : Bool} {s0 s : State} (hk : Kept fx s0 s) (die rg : Nat) (frozen : Bool) : Kept fx s0 (State.assign s die rg frozen) := by
  grind [State.assign, Kept.mk', Otp.noLess_refl, Kept.keep, Kept.clear, Kept.foldl, Kept.foldl1, Kept.charge, Kept.pbWaits, Kept.setDisp, Kept.startTask]

theorem Kept.admitRequest {fx : Bool} {s0 s : State} (hk : Kept fx s0 s) (die rg i : Nat) : Kept fx s0 (State.admitRequest s die rg i) := by
  grind [State.admitRequest, Kept.mk', Otp.noLess_refl, Kept.keep, Kept.clear, Kept.foldl, Kept.foldl1, Kept.present, Kept.setDisp]

theorem Kept.completeTask {fx : Bool} {s0 s : State} (hk : Kept fx s0 s) (die p : Nat) (run : TaskRun) : Kept fx s0 (State.completeTask s die p run) := by
  grind [State.completeTask, Kept.mk', Otp.noLess_refl, Kept.keep, Kept.clear, Kept.foldl, Kept.foldl1, Kept.count, Kept.flagIf, Kept.requestTask]

theorem Kept.stopFacets {fx : Bool} {s0 s : State} (hk : Kept fx s0 s) (die rg : Nat) (reset : Bool) : Kept fx s0 (State.stopFacets s die rg reset) := by
  grind [State.stopFacets, Kept.mk', Otp.noLess_refl, Kept.keep, Kept.clear, Kept.foldl, Kept.foldl1, Kept.setFacet]

theorem Kept.emptyReady {fx : Bool} {s0 s : State} (hk : Kept fx s0 s) (die rg : Nat) : Kept fx s0 (State.emptyReady s die rg) := by
  unfold State.emptyReady; simp +contextual (maxDischargeDepth := 40) only [hk, Kept.mk', Otp.noLess_refl, Kept.keep, Kept.clear, Kept.ite, Kept.ite1, Kept.foldl, Kept.foldl1, Kept.count, Kept.setDisp]

theorem Kept.restartFacets {fx : Bool} {s0 s : State} (hk : Kept fx s0 s) (die rg : Nat) : Kept fx s0 (State.restartFacets s die rg) := by
  grind [State.restartFacets, Kept.mk', Otp.noLess_refl, Kept.keep, Kept.clear, Kept.foldl, Kept.foldl1, Kept.facetRest]

theorem Kept.remapWrite {fx : Bool} {s0 s : State} (hk : Kept fx s0 s) (die rg : Nat) (w : Word) : Kept fx s0 (State.remapWrite s die rg w).1 := by
  unfold State.remapWrite; simp +contextual (maxDischargeDepth := 40) only [hk, Kept.mk', Otp.noLess_refl, Kept.keep, Kept.clear, Kept.ite, Kept.ite1, Kept.foldl, Kept.foldl1, Kept.flagErr, Kept.setDisp, Kept.wr]

theorem Kept.remapDone {fx : Bool} {s0 s : State} (hk : Kept fx s0 s) (die rg : Nat) : Kept fx s0 (State.remapDone s die rg) := by
  unfold State.remapDone; (repeat' split) <;> (first | assumption | (simp +contextual (maxDischargeDepth := 40) only [hk, Kept.mk', Otp.noLess_refl, Kept.keep, Kept.clear, Kept.ite, Kept.ite1, Kept.foldl, Kept.foldl1, Kept.enableFacet, Kept.setBit, Kept.setDisp, Kept.setFacet, Kept.setFld]; done) | grind [Kept.mk', Otp.noLess_refl, Kept.keep, Kept.clear, Kept.foldl, Kept.foldl1, Kept.enableFacet, Kept.setBit, Kept.setDisp, Kept.setFacet, Kept.setFld])

theorem Kept.setChan {fx : Bool} {s0 s : State} (hk : Kept fx s0 s) (c : Nat) (x : Channel) : Kept fx s0 (State.setChan s c x) := by
  unfold State.setChan; simp +contextual (maxDischargeDepth := 40) only [hk, Kept.mk', Otp.noLess_refl, Kept.keep, Kept.clear, Kept.ite, Kept.ite1, Kept.foldl, Kept.foldl1]

theorem Kept.setCxl {fx : Bool} {s0 s : State} (hk : Kept fx s0 s) (p : Nat) (x : CxlPort) : Kept fx s0 (State.setCxl s p x) := by
  unfold State.setCxl; simp +contextual (maxDischargeDepth := 40) only [hk, Kept.mk', Otp.noLess_refl, Kept.keep, Kept.clear, Kept.ite, Kept.ite1, Kept.foldl, Kept.foldl1]

theorem Kept.openRow {fx : Bool} {s0 s : State} (hk : Kept fx s0 s) (c bank row : Nat) : Kept fx s0 (State.openRow s c bank row) := by
  unfold State.openRow; simp +contextual (maxDischargeDepth := 40) only [hk, Kept.mk', Otp.noLess_refl, Kept.keep, Kept.clear, Kept.ite, Kept.ite1, Kept.foldl, Kept.foldl1, Kept.count, Kept.setChan]

theorem Kept.issueWrite {fx : Bool} {s0 s : State} (hk : Kept fx s0 s) (c : Nat) (r : MemReq) : Kept fx s0 (State.issueWrite s c r) := by
  unfold State.issueWrite; simp +contextual (maxDischargeDepth := 40) only [hk, Kept.mk', Otp.noLess_refl, Kept.keep, Kept.clear, Kept.ite, Kept.ite1, Kept.foldl, Kept.foldl1, Kept.openRow, Kept.setChan]

theorem Kept.drain {fx : Bool} {s0 s : State} (hk : Kept fx s0 s) (c bank keep n : Nat) : Kept fx s0 (State.drain s c bank keep n) := by
  induction n generalizing s with
  | zero => exact hk
  | succ n ih =>
    unfold State.drain
    split
    · exact hk
    · split
      · exact hk
      · exact ih (hk.issueWrite _ _)

theorem Kept.drainHigh {fx : Bool} {s0 s : State} (hk : Kept fx s0 s) (c bank : Nat) : Kept fx s0 (State.drainHigh s c bank) := by
  unfold State.drainHigh
  exact Kept.ite (hk.drain _ _ _ _) hk

theorem Kept.inOrder {fx : Bool} {s0 s : State} (hk : Kept fx s0 s) (c bank row : Nat) : Kept fx s0 (State.inOrder s c bank row) := by
  grind [State.inOrder, Kept.mk', Otp.noLess_refl, Kept.keep, Kept.clear, Kept.foldl, Kept.foldl1, Kept.issueWrite]

theorem Kept.scheduleRead {fx : Bool} {s0 s : State} (hk : Kept fx s0 s) (c bank row : Nat) : Kept fx s0 (State.scheduleRead s c bank row) := by
  unfold State.scheduleRead; simp +contextual (maxDischargeDepth := 40) only [hk, Kept.mk', Otp.noLess_refl, Kept.keep, Kept.clear, Kept.ite, Kept.ite1, Kept.foldl, Kept.foldl1, Kept.drainHigh, Kept.inOrder, Kept.openRow]

theorem Kept.queueWrite {fx : Bool} {s0 s : State} (hk : Kept fx s0 s) (c : Nat) (r : MemReq) : Kept fx s0 (State.queueWrite s c r) := by
  unfold State.queueWrite
  exact Kept.drainHigh (Kept.setChan (Kept.ite (hk.drain _ _ _ _) hk) _ _) _ _

theorem Kept.uncorrectable {fx : Bool} {s0 s : State} (hk : Kept fx s0 s) (c a : Nat) : Kept fx s0 (State.uncorrectable s c a) := by
  unfold State.uncorrectable; simp +contextual (maxDischargeDepth := 40) only [hk, Kept.mk', Otp.noLess_refl, Kept.keep, Kept.clear, Kept.ite, Kept.ite1, Kept.foldl, Kept.foldl1, Kept.count, Kept.flagErr, Kept.wrPair]

theorem Kept.corrected {fx : Bool} {s0 s : State} (hk : Kept fx s0 s) (c : Nat) : Kept fx s0 (State.corrected s c) := by
  unfold State.corrected; simp +contextual (maxDischargeDepth := 40) only [hk, Kept.mk', Otp.noLess_refl, Kept.keep, Kept.clear, Kept.ite, Kept.ite1, Kept.foldl, Kept.foldl1, Kept.count, Kept.flag]

theorem Kept.mediaPoison {fx : Bool} {s0 s : State} (hk : Kept fx s0 s) (e a : Nat) (fresh : Bool) : Kept fx s0 (State.mediaPoison s e a fresh) := by
  unfold State.mediaPoison; simp +contextual (maxDischargeDepth := 40) only [hk, Kept.mk', Otp.noLess_refl, Kept.keep, Kept.clear, Kept.ite, Kept.ite1, Kept.foldl, Kept.foldl1, Kept.count, Kept.flagErr, Kept.uncorrectable]

theorem Kept.refresh {fx : Bool} {s0 s : State} (hk : Kept fx s0 s) (c : Nat) : Kept fx s0 (State.refresh s c) := by
  unfold State.refresh; simp +contextual (maxDischargeDepth := 40) only [hk, Kept.mk', Otp.noLess_refl, Kept.keep, Kept.clear, Kept.ite, Kept.ite1, Kept.foldl, Kept.foldl1, Kept.setChan]

theorem Kept.beginTraining {fx : Bool} {s0 s : State} (hk : Kept fx s0 s) (c : Nat) : Kept fx s0 (State.beginTraining s c) := by
  unfold State.beginTraining; simp +contextual (maxDischargeDepth := 40) only [hk, Kept.mk', Otp.noLess_refl, Kept.keep, Kept.clear, Kept.ite, Kept.ite1, Kept.foldl, Kept.foldl1, Kept.setChan]

theorem Kept.setEyes {fx : Bool} {s0 s : State} (hk : Kept fx s0 s) (c : Nat) (eyes : List Word) : Kept fx s0 (State.setEyes s c eyes) := by
  grind [State.setEyes, Kept.mk', Otp.noLess_refl, Kept.keep, Kept.clear, Kept.foldl, Kept.foldl1, Kept.wr]

theorem Kept.endTraining {fx : Bool} {s0 s : State} (hk : Kept fx s0 s) (c : Nat) (eyes : List Word) (rfmThr : Nat) : Kept fx s0 (State.endTraining s c eyes rfmThr) := by
  unfold State.endTraining; simp +contextual (maxDischargeDepth := 40) only [hk, Kept.mk', Otp.noLess_refl, Kept.keep, Kept.clear, Kept.ite, Kept.ite1, Kept.foldl, Kept.foldl1, Kept.flagErr, Kept.setChan, Kept.setEyes]

theorem Kept.retrain {fx : Bool} {s0 s : State} (hk : Kept fx s0 s) (c : Nat) : Kept fx s0 (State.retrain s c).1 := by
  unfold State.retrain; simp +contextual (maxDischargeDepth := 40) only [hk, Kept.mk', Otp.noLess_refl, Kept.keep, Kept.clear, Kept.ite, Kept.ite1, Kept.foldl, Kept.foldl1, Kept.setChan, Kept.setFld]

theorem Kept.retrainSlot {fx : Bool} {s0 s : State} (hk : Kept fx s0 s) (c : Nat) (eyes : List Word) : Kept fx s0 (State.retrainSlot s c eyes) := by
  unfold State.retrainSlot; simp +contextual (maxDischargeDepth := 40) only [hk, Kept.mk', Otp.noLess_refl, Kept.keep, Kept.clear, Kept.ite, Kept.ite1, Kept.foldl, Kept.foldl1, Kept.flagErr, Kept.retrain, Kept.setChan, Kept.setEyes, Kept.setFld, Kept.takeUnit]

theorem Kept.retrainAbort {fx : Bool} {s0 s : State} (hk : Kept fx s0 s) (c : Nat) : Kept fx s0 (State.retrainAbort s c) := by
  unfold State.retrainAbort; simp +contextual (maxDischargeDepth := 40) only [hk, Kept.mk', Otp.noLess_refl, Kept.keep, Kept.clear, Kept.ite, Kept.ite1, Kept.foldl, Kept.foldl1, Kept.retrain, Kept.setChan]

theorem Kept.channelOff {fx : Bool} {s0 s : State} (hk : Kept fx s0 s) (c : Nat) : Kept fx s0 (State.channelOff s c) := by
  unfold State.channelOff; simp +contextual (maxDischargeDepth := 40) only [hk, Kept.mk', Otp.noLess_refl, Kept.keep, Kept.clear, Kept.ite, Kept.ite1, Kept.foldl, Kept.foldl1, Kept.setChan]

theorem Kept.linkTrained {fx : Bool} {s0 s : State} (hk : Kept fx s0 s) (p : Nat) (linkB : Bool) (rate width : Nat) (cxl : Bool) : Kept fx s0 (State.linkTrained s p linkB rate width cxl) := by
  unfold State.linkTrained; simp +contextual (maxDischargeDepth := 40) only [hk, Kept.mk', Otp.noLess_refl, Kept.keep, Kept.clear, Kept.ite, Kept.ite1, Kept.foldl, Kept.foldl1, Kept.wr]

theorem Kept.linkLost {fx : Bool} {s0 s : State} (hk : Kept fx s0 s) (p : Nat) (linkB : Bool) (next : Nat) : Kept fx s0 (State.linkLost s p linkB next) := by
  grind [State.linkLost, Kept.mk', Otp.noLess_refl, Kept.keep, Kept.clear, Kept.foldl, Kept.foldl1, Kept.completeAccess, Kept.flagErr, Kept.setCxl, Kept.setFld]

theorem Kept.cxlRequest {fx : Bool} {s0 s : State} (hk : Kept fx s0 s) (p : Nat) (r : CxlReq) : Kept fx s0 (State.cxlRequest s p r) := by
  unfold State.cxlRequest; simp +contextual (maxDischargeDepth := 40) only [hk, Kept.mk', Otp.noLess_refl, Kept.keep, Kept.clear, Kept.ite, Kept.ite1, Kept.foldl, Kept.foldl1, Kept.completeAccess, Kept.setCxl]

theorem Kept.unsupported {fx : Bool} {s0 s : State} (hk : Kept fx s0 s) (p : Nat) : Kept fx s0 (State.unsupported s p) := by
  unfold State.unsupported; simp +contextual (maxDischargeDepth := 40) only [hk, Kept.mk', Otp.noLess_refl, Kept.keep, Kept.clear, Kept.ite, Kept.ite1, Kept.foldl, Kept.foldl1, Kept.answer, Kept.flag]

theorem Kept.configRequest {fx : Bool} {s0 s : State} (hk : Kept fx s0 s) (p : Nat) (write : Option Word) (req addr : Nat) : Kept fx s0 (State.configRequest s p write req addr) := by
  grind [State.configRequest, Kept.mk', Otp.noLess_refl, Kept.keep, Kept.clear, Kept.foldl, Kept.foldl1, Kept.answer, Kept.cxlRequest, Kept.setCxl, Kept.unsupported]

theorem Kept.cxlComplete {fx : Bool} {s0 s : State} (hk : Kept fx s0 s) (p : Nat) (linkB : Bool) (data : Word) (poison ur late : Bool) : Kept fx s0 (State.cxlComplete s p linkB data poison ur late) := by
  unfold State.cxlComplete
  dsimp only
  split
  · exact hk
  · have h1 : ∀ (c : Prop) [Decidable c] (x : CxlPort), Kept fx s0 (if c then ((s.setCxl p x).flag (Reg.CXL_ERR p) 3).lateArrival 4 0x11 p else s.setCxl p x) :=
      fun c _ x => Kept.ite (((hk.setCxl _ _).flag _ _).lateArrival _ _ _) (hk.setCxl _ _)
    exact Kept.ite (((h1 _ _).flag _ _).completeAccess _ _ _ _ _) (Kept.ite ((((h1 _ _).flagErr _ _ _ _).count _ _).completeAccess _ _ _ _ _) ((h1 _ _).completeAccess _ _ _ _ _))

theorem Kept.cxlTimeout {fx : Bool} {s0 s : State} (hk : Kept fx s0 s) (p : Nat) (linkB : Bool) : Kept fx s0 (State.cxlTimeout s p linkB) := by
  grind [State.cxlTimeout, Kept.mk', Otp.noLess_refl, Kept.keep, Kept.clear, Kept.foldl, Kept.foldl1, Kept.completeAccess, Kept.count, Kept.flagErr, Kept.setCxl]

theorem Kept.raiseMsix {fx : Bool} {s0 s : State} (hk : Kept fx s0 s) (p v : Nat) : Kept fx s0 (State.raiseMsix s p v) := by
  unfold State.raiseMsix; simp +contextual (maxDischargeDepth := 40) only [hk, Kept.mk', Otp.noLess_refl, Kept.keep, Kept.clear, Kept.ite, Kept.ite1, Kept.foldl, Kept.foldl1, Kept.setCxl]

theorem Kept.functionReset {fx : Bool} {s0 s : State} (hk : Kept fx s0 s) (p : Nat) : Kept fx s0 (State.functionReset s p) := by
  unfold State.functionReset; simp +contextual (maxDischargeDepth := 40) only [hk, Kept.mk', Otp.noLess_refl, Kept.keep, Kept.clear, Kept.ite, Kept.ite1, Kept.foldl, Kept.foldl1, Kept.flag, Kept.setCxl]

theorem Kept.setEngine {fx : Bool} {s0 s : State} (hk : Kept fx s0 s) (e : Nat) (x : Engine) : Kept fx s0 (State.setEngine s e x) := by
  unfold State.setEngine; simp +contextual (maxDischargeDepth := 40) only [hk, Kept.mk', Otp.noLess_refl, Kept.keep, Kept.clear, Kept.ite, Kept.ite1, Kept.foldl, Kept.foldl1]

theorem Kept.setPage {fx : Bool} {s0 s : State} (hk : Kept fx s0 s) (e p : Nat) (x : Page) : Kept fx s0 (State.setPage s e p x) := by
  unfold State.setPage; simp +contextual (maxDischargeDepth := 40) only [hk, Kept.mk', Otp.noLess_refl, Kept.keep, Kept.clear, Kept.ite, Kept.ite1, Kept.foldl, Kept.foldl1, Kept.setEngine]

theorem Kept.raiseMark {fx : Bool} {s0 s : State} (hk : Kept fx s0 s) (e p major : Nat) : Kept fx s0 (State.raiseMark s e p major) := by
  grind [State.raiseMark, Kept.mk', Otp.noLess_refl, Kept.keep, Kept.clear, Kept.foldl, Kept.foldl1, Kept.setEngine]

theorem Kept.writeBack {fx : Bool} {s0 s : State} (hk : Kept fx s0 s) (e level index : Nat) : Kept fx s0 (State.writeBack s e level index) := by
  unfold State.writeBack; simp +contextual (maxDischargeDepth := 40) only [hk, Kept.mk', Otp.noLess_refl, Kept.keep, Kept.clear, Kept.ite, Kept.ite1, Kept.foldl, Kept.foldl1, Kept.flagErr, Kept.setEngine]

theorem Kept.writeBackLevel {fx : Bool} {s0 s : State} (hk : Kept fx s0 s) (e level : Nat) : Kept fx s0 (State.writeBackLevel s e level) := by
  grind [State.writeBackLevel, Kept.mk', Otp.noLess_refl, Kept.keep, Kept.clear, Kept.foldl, Kept.foldl1, Kept.writeBack]

theorem Kept.writeBackAll {fx : Bool} {s0 s : State} (hk : Kept fx s0 s) (e : Nat) : Kept fx s0 (State.writeBackAll s e) := by
  grind [State.writeBackAll, Kept.mk', Otp.noLess_refl, Kept.keep, Kept.clear, Kept.foldl, Kept.foldl1, Kept.writeBackLevel]

theorem Kept.evict {fx : Bool} {s0 s : State} (hk : Kept fx s0 s) (e : Nat) (blocks : List (Nat × Nat)) : Kept fx s0 (State.evict s e blocks) := by
  grind [State.evict, Kept.mk', Otp.noLess_refl, Kept.keep, Kept.clear, Kept.foldl, Kept.foldl1, Kept.setEngine, Kept.writeBack]

theorem Kept.engineLock {fx : Bool} {s0 s : State} (hk : Kept fx s0 s) (e row : Nat) : Kept fx s0 (State.engineLock s e row) := by
  unfold State.engineLock; simp +contextual (maxDischargeDepth := 40) only [hk, Kept.mk', Otp.noLess_refl, Kept.keep, Kept.clear, Kept.ite, Kept.ite1, Kept.foldl, Kept.foldl1, Kept.flag, Kept.raise]

theorem Kept.unlist {fx : Bool} {s0 s : State} (hk : Kept fx s0 s) (e : Nat) (drop : Nat × Nat × Nat → Bool) : Kept fx s0 (State.unlist s e drop) := by
  grind [State.unlist, Kept.mk', Otp.noLess_refl, Kept.keep, Kept.clear, Kept.foldl, Kept.foldl1, Kept.wr]

theorem Kept.enlist {fx : Bool} {s0 s : State} (hk : Kept fx s0 s) (e level index : Nat) : Kept fx s0 (State.enlist s e level index) := by
  unfold State.enlist
  refine Kept.ite hk ?_
  dsimp only
  split
  · exact (hk.unlist _ _).engineLock _ _
  · exact (((hk.unlist _ _).wr _ _).wr _ _).setBit _ _ _

theorem Kept.setQueue {fx : Bool} {s0 s : State} (hk : Kept fx s0 s) (q : Nat) (x : Queue) : Kept fx s0 (State.setQueue s q x) := by
  unfold State.setQueue; simp +contextual (maxDischargeDepth := 40) only [hk, Kept.mk', Otp.noLess_refl, Kept.keep, Kept.clear, Kept.ite, Kept.ite1, Kept.foldl, Kept.foldl1]

theorem Kept.firstError {fx : Bool} {s0 s : State} (hk : Kept fx s0 s) (q code : Nat) : Kept fx s0 (State.firstError s q code) := by
  unfold State.firstError; simp +contextual (maxDischargeDepth := 40) only [hk, Kept.mk', Otp.noLess_refl, Kept.keep, Kept.clear, Kept.ite, Kept.ite1, Kept.foldl, Kept.foldl1, Kept.wr]

theorem Kept.alarmQueue {fx : Bool} {s0 s : State} (hk : Kept fx s0 s) (q : Nat) : Kept fx s0 (State.alarmQueue s q) := by
  unfold State.alarmQueue; simp +contextual (maxDischargeDepth := 40) only [hk, Kept.mk', Otp.noLess_refl, Kept.keep, Kept.clear, Kept.ite, Kept.ite1, Kept.foldl, Kept.foldl1, Kept.firstError, Kept.flag, Kept.setQueue]

theorem Kept.contain {fx : Bool} {s0 s : State} (hk : Kept fx s0 s) (e : Nat) (c : Consumer) : Kept fx s0 (State.contain s e c) := by
  unfold State.contain; (repeat' split) <;> (first | assumption | (simp +contextual (maxDischargeDepth := 40) only [hk, Kept.mk', Otp.noLess_refl, Kept.keep, Kept.clear, Kept.ite, Kept.ite1, Kept.foldl, Kept.foldl1, Kept.alarmQueue, Kept.flag, Kept.raiseUrgent]; done) | grind [Kept.mk', Otp.noLess_refl, Kept.keep, Kept.clear, Kept.foldl, Kept.foldl1, Kept.alarmQueue, Kept.flag, Kept.raiseUrgent])

theorem Kept.integrityAlarm {fx : Bool} {s0 s : State} (hk : Kept fx s0 s) (e cls kid addr : Nat) (c : Consumer) (spec : Bool) (taint : Nat) : Kept fx s0 (State.integrityAlarm s e cls kid addr c spec taint) := by
  unfold State.integrityAlarm; simp +contextual (maxDischargeDepth := 40) only [hk, Kept.mk', Otp.noLess_refl, Kept.keep, Kept.clear, Kept.ite, Kept.ite1, Kept.foldl, Kept.foldl1, Kept.contain, Kept.count, Kept.flag, Kept.flagErr, Kept.setEngine]

theorem Kept.keyError {fx : Bool} {s0 s : State} (hk : Kept fx s0 s) (e : Nat) : Kept fx s0 (State.keyError s e) := by
  unfold State.keyError; simp +contextual (maxDischargeDepth := 40) only [hk, Kept.mk', Otp.noLess_refl, Kept.keep, Kept.clear, Kept.ite, Kept.ite1, Kept.foldl, Kept.foldl1, Kept.count, Kept.flagErr]

theorem Kept.mpeDenied {fx : Bool} {s0 s : State} (hk : Kept fx s0 s) (e : Nat) : Kept fx s0 (State.mpeDenied s e) := by
  unfold State.mpeDenied; simp +contextual (maxDischargeDepth := 40) only [hk, Kept.mk', Otp.noLess_refl, Kept.keep, Kept.clear, Kept.ite, Kept.ite1, Kept.foldl, Kept.foldl1, Kept.flagErr]

theorem Kept.makeRoom {fx : Bool} {s0 s : State} (hk : Kept fx s0 s) (e : Nat) : Kept fx s0 (State.makeRoom s e) := by
  grind [State.makeRoom, Kept.mk', Otp.noLess_refl, Kept.keep, Kept.clear, Kept.foldl, Kept.foldl1, Kept.drawn, Kept.evict]

theorem Kept.walk {fx : Bool} {s0 s : State} (hk : Kept fx s0 s) (e p kid addr : Nat) (c : Consumer) (f : Fetch) : Kept fx s0 (State.walk s e p kid addr c f).1 := by
  unfold State.walk; (repeat' split) <;> (first | assumption | (simp +contextual (maxDischargeDepth := 40) only [hk, Kept.mk', Otp.noLess_refl, Kept.keep, Kept.clear, Kept.ite, Kept.ite1, Kept.foldl, Kept.foldl1, Kept.corrected, Kept.count, Kept.engineLock, Kept.enlist, Kept.flag, Kept.flagErr, Kept.integrityAlarm, Kept.makeRoom, Kept.setEngine]; done) | grind [Kept.mk', Otp.noLess_refl, Kept.keep, Kept.clear, Kept.foldl, Kept.foldl1, Kept.corrected, Kept.count, Kept.engineLock, Kept.enlist, Kept.flag, Kept.flagErr, Kept.integrityAlarm, Kept.makeRoom, Kept.setEngine])

theorem Kept.rawLine {fx : Bool} {s0 s : State} (hk : Kept fx s0 s) (e i : Nat) : Kept fx s0 (State.rawLine s e i).1 := by
  unfold State.rawLine; simp +contextual (maxDischargeDepth := 40) only [hk, Kept.mk', Otp.noLess_refl, Kept.keep, Kept.clear, Kept.ite, Kept.ite1, Kept.foldl, Kept.foldl1, Kept.drawnN]

theorem Kept.checkedRead {fx : Bool} {s0 s : State} (hk : Kept fx s0 s) (e i kid mode addr : Nat) (c : Consumer) (f : Fetch) (cached : Bool) : Kept fx s0 (State.checkedRead s e i kid mode addr c f cached).1 := by
  unfold State.checkedRead; simp +contextual (maxDischargeDepth := 40) only [hk, Kept.mk', Otp.noLess_refl, Kept.keep, Kept.clear, Kept.ite, Kept.ite1, Kept.foldl, Kept.foldl1, Kept.drawnN, Kept.integrityAlarm, Kept.keyError, Kept.mediaPoison, Kept.setEngine]

theorem Kept.protectedRead {fx : Bool} {s0 s : State} (hk : Kept fx s0 s) (a : Nat) (c : Consumer) (f : Fetch) : Kept fx s0 (State.protectedRead s a c f).1 := by
  unfold State.protectedRead
  split
  · exact hk
  · extract_lets i p
    split
    · exact hk.mpeDenied _
    · split
      · exact hk
      · split
        · exact hk
        · extract_lets kid
          refine Kept.ite1 ?_ (Kept.ite1 (Kept.ite1 (hk.mediaPoison _ _ _) (hk.rawLine _ _)) (Kept.ite1 hk (Kept.ite1 (hk.keyError _) (Kept.ite1 hk (Kept.ite1 hk ?_)))))
          · extract_lets ln
            exact Kept.ite1 (hk.mediaPoison _ _ _) (hk.rawLine _ _)
          · extract_lets cached w
            split
            · exact hk.walk _ _ _ _ _ _
            · exact (hk.walk _ _ _ _ _ _).checkedRead _ _ _ _ _ _ _ _

theorem Kept.storeLine {fx : Bool} {s0 s : State} (hk : Kept fx s0 s) (e i kid data : Nat) (poison : Bool) : Kept fx s0 (State.storeLine s e i kid data poison).1 := by
  unfold State.storeLine; simp +contextual (maxDischargeDepth := 40) only [hk, Kept.mk', Otp.noLess_refl, Kept.keep, Kept.clear, Kept.ite, Kept.ite1, Kept.foldl, Kept.foldl1, Kept.count, Kept.setEngine, Kept.setPage]

theorem Kept.writeVerified {fx : Bool} {s0 s w : State} (hk : Kept fx s0 s) (hw : Kept fx s0 w) (e l kid a : Nat) (bytes : List Byte) (poison : Bool) (c : Consumer) (f : Fetch) : Kept fx s0 (State.writeVerified s w e l kid a bytes poison c f).1 := by
  unfold State.writeVerified
  exact Kept.ite1 (Kept.storeLine (Kept.ite1 hw (hw.checkedRead _ _ _ _ _ _ _ _)) _ _ _ _ _) hk

theorem Kept.protectedWrite {fx : Bool} {s0 s : State} (hk : Kept fx s0 s) (a : Nat) (bytes : List Byte) (poison : Bool) (c : Consumer) (f : Fetch) : Kept fx s0 (State.protectedWrite s a bytes poison c f).1 := by
  unfold State.protectedWrite
  split
  · exact hk
  · extract_lets i p
    refine Kept.ite1 (hk.mpeDenied _) ?_
    split
    · exact hk
    · refine Kept.ite1 hk ?_
      extract_lets kid g
      refine Kept.ite1 ?_ (Kept.ite1 (hk.mpeDenied _) (Kept.ite1 hk (Kept.ite1 hk (Kept.ite1 hk (Kept.ite1 hk ?_)))))
      · extract_lets ln whole old
        exact Kept.setEngine (Kept.ite1 hk (hk.rawLine _ _)) _ _
      · extract_lets w
        split
        · exact hk.walk _ _ _ _ _ _
        · exact hk.writeVerified (hk.walk _ _ _ _ _ _) _ _ _ _ _ _ _ _

theorem Kept.reencrypted {fx : Bool} {s0 s : State} (hk : Kept fx s0 s) (e : Nat) : Kept fx s0 (State.reencrypted s e) := by
  grind [State.reencrypted, Kept.mk', Otp.noLess_refl, Kept.keep, Kept.clear, Kept.foldl, Kept.foldl1, Kept.raiseMark, Kept.setEngine, Kept.setPage]

theorem Kept.specCheck {fx : Bool} {s0 s : State} (hk : Kept fx s0 s) (e : Nat) : Kept fx s0 (State.specCheck s e) := by
  grind [State.specCheck, Kept.mk', Otp.noLess_refl, Kept.keep, Kept.clear, Kept.foldl, Kept.foldl1, Kept.integrityAlarm, Kept.setEngine]

theorem Kept.debugRead {fx : Bool} {s0 s : State} (hk : Kept fx s0 s) (a : Nat) : Kept fx s0 (State.debugRead s a).1 := by
  unfold State.debugRead; (repeat' split) <;> (first | assumption | (simp +contextual (maxDischargeDepth := 40) only [hk, Kept.mk', Otp.noLess_refl, Kept.keep, Kept.clear, Kept.ite, Kept.ite1, Kept.foldl, Kept.foldl1, Kept.drawnN, Kept.rawLine, Kept.writeBackAll]; done) | grind [Kept.mk', Otp.noLess_refl, Kept.keep, Kept.clear, Kept.foldl, Kept.foldl1, Kept.drawnN, Kept.rawLine, Kept.writeBackAll])

theorem Kept.reinitStart {fx : Bool} {s0 s : State} (hk : Kept fx s0 s) (e idx : Nat) : Kept fx s0 (State.reinitStart s e idx).1 := by
  unfold State.reinitStart; simp +contextual (maxDischargeDepth := 40) only [hk, Kept.mk', Otp.noLess_refl, Kept.keep, Kept.clear, Kept.ite, Kept.ite1, Kept.foldl, Kept.foldl1, Kept.flagErr, Kept.setEngine, Kept.setFld]

theorem Kept.reinitDone {fx : Bool} {s0 s : State} (hk : Kept fx s0 s) (e : Nat) : Kept fx s0 (State.reinitDone s e) := by
  unfold State.reinitDone; (repeat' split) <;> (first | assumption | (simp +contextual (maxDischargeDepth := 40) only [hk, Kept.mk', Otp.noLess_refl, Kept.keep, Kept.clear, Kept.ite, Kept.ite1, Kept.foldl, Kept.foldl1, Kept.setBit, Kept.setEngine, Kept.unlist, Kept.writeBack]; done) | grind [Kept.mk', Otp.noLess_refl, Kept.keep, Kept.clear, Kept.foldl, Kept.foldl1, Kept.setBit, Kept.setEngine, Kept.unlist, Kept.writeBack])

theorem Kept.retireStart {fx : Bool} {s0 s : State} (hk : Kept fx s0 s) (agent kid : Nat) : Kept fx s0 (State.retireStart s agent kid).1 := by
  unfold State.retireStart; simp +contextual (maxDischargeDepth := 40) only [hk, Kept.mk', Otp.noLess_refl, Kept.keep, Kept.clear, Kept.ite, Kept.ite1, Kept.foldl, Kept.foldl1, Kept.setFld]

theorem Kept.dropKey {fx : Bool} {s0 s : State} (hk : Kept fx s0 s) (k : Nat) : Kept fx s0 (State.dropKey s k) := by
  unfold State.dropKey; simp +contextual (maxDischargeDepth := 40) only [hk, Kept.mk', Otp.noLess_refl, Kept.keep, Kept.clear, Kept.ite, Kept.ite1, Kept.foldl, Kept.foldl1, Kept.setBit]

theorem Kept.retireDone {fx : Bool} {s0 s : State} (hk : Kept fx s0 s)  : Kept fx s0 (State.retireDone s) := by
  grind [State.retireDone, Kept.mk', Otp.noLess_refl, Kept.keep, Kept.clear, Kept.foldl, Kept.foldl1, Kept.dropKey, Kept.writeBackAll]

theorem Kept.treeInit {fx : Bool} {s0 s : State} (hk : Kept fx s0 s) (e : Nat) : Kept fx s0 (State.treeInit s e) := by
  unfold State.treeInit; simp +contextual (maxDischargeDepth := 40) only [hk, Kept.mk', Otp.noLess_refl, Kept.keep, Kept.clear, Kept.ite, Kept.ite1, Kept.foldl, Kept.foldl1, Kept.setBit, Kept.setEngine]

theorem Kept.treeInitDone {fx : Bool} {s0 s : State} (hk : Kept fx s0 s) (e : Nat) : Kept fx s0 (State.treeInitDone s e) := by
  unfold State.treeInitDone; simp +contextual (maxDischargeDepth := 40) only [hk, Kept.mk', Otp.noLess_refl, Kept.keep, Kept.clear, Kept.ite, Kept.ite1, Kept.foldl, Kept.foldl1, Kept.setBit]

theorem Kept.regionCtlWrite {fx : Bool} {s0 s : State} (hk : Kept fx s0 s) (n : Nat) (w : Word) : Kept fx s0 (State.regionCtlWrite s n w).1 := by
  grind [State.regionCtlWrite, Kept.mk', Otp.noLess_refl, Kept.keep, Kept.clear, Kept.foldl, Kept.foldl1, Kept.flagErr, Kept.setBit, Kept.setEngine, Kept.wr]

theorem Kept.testFill {fx : Bool} {s0 s : State} (hk : Kept fx s0 s) (c agent pat : Nat) (ls : List Nat) : Kept fx s0 (State.testFill s c agent pat ls) := by
  grind [State.testFill, Kept.mk', Otp.noLess_refl, Kept.keep, Kept.clear, Kept.foldl, Kept.foldl1, Kept.protectedWrite]

theorem Kept.testCheck {fx : Bool} {s0 s : State} (hk : Kept fx s0 s) (c agent pat : Nat) (ls : List Nat) : Kept fx s0 (State.testCheck s c agent pat ls).1 := by
  grind [State.testCheck, Kept.mk', Otp.noLess_refl, Kept.keep, Kept.clear, Kept.foldl, Kept.foldl1, Kept.protectedRead]

theorem Kept.testStart {fx : Bool} {s0 s : State} (hk : Kept fx s0 s) (c op agent : Nat) : Kept fx s0 (State.testStart s c op agent) := by
  unfold State.testStart; simp +contextual (maxDischargeDepth := 40) only [hk, Kept.mk', Otp.noLess_refl, Kept.keep, Kept.clear, Kept.ite, Kept.ite1, Kept.foldl, Kept.foldl1, Kept.setChan, Kept.wr]

theorem Kept.takeUnits {fx : Bool} {s0 s : State} (hk : Kept fx s0 s) (kind die n : Nat) : Kept fx s0 (State.takeUnits s kind die n).1 := by
  unfold State.takeUnits; simp +contextual (maxDischargeDepth := 40) only [hk, Kept.mk', Otp.noLess_refl, Kept.keep, Kept.clear, Kept.ite, Kept.ite1, Kept.foldl, Kept.foldl1, Kept.present, Kept.setPower]

theorem Kept.testDone {fx : Bool} {s0 s : State} (hk : Kept fx s0 s) (c : Nat) : Kept fx s0 (State.testDone s c) := by
  unfold State.testDone
  split
  · exact hk
  · refine Kept.ite (hk.takeUnits _ _ _) ?_
    have h1 := fun (c agent pat : Nat) ls (p : Prop) [Decidable p] => Kept.ite (c := p) (hk.takeUnits 4 4 (s.rd (Reg.DDR_MT_LEN c)).toNat) ((hk.takeUnits 4 4 (s.rd (Reg.DDR_MT_LEN c)).toNat).testFill c agent pat ls)
    dsimp only
    split
    · exact Kept.wr (Kept.setChan (Kept.ite1 (h1 _ _ _ _ _) ((h1 _ _ _ _ _).testCheck _ _ _ _)) _ _) _ _
    · exact ((Kept.wr (Kept.setChan (Kept.ite1 (h1 _ _ _ _ _) ((h1 _ _ _ _ _).testCheck _ _ _ _)) _ _) _ _).wrPair _ _ _).flagErr _ _ _ _

theorem Kept.queueError {fx : Bool} {s0 s : State} (hk : Kept fx s0 s) (q code : Nat) (failed : Option Desc) : Kept fx s0 (State.queueError s q code failed) := by
  grind [State.queueError, Kept.mk', Otp.noLess_refl, Kept.keep, Kept.clear, Kept.foldl, Kept.foldl1, Kept.firstError, Kept.flagErr, Kept.setQueue]

theorem Kept.peerLost {fx : Bool} {s0 s : State} (hk : Kept fx s0 s) (q code : Nat) : Kept fx s0 (State.peerLost s q code) := by
  grind [State.peerLost, Kept.mk', Otp.noLess_refl, Kept.keep, Kept.clear, Kept.foldl, Kept.foldl1, Kept.firstError, Kept.flag, Kept.setQueue]

theorem Kept.peersLost {fx : Bool} {s0 s : State} (hk : Kept fx s0 s) (code : Nat) (hit : Nat → Queue → Bool) : Kept fx s0 (State.peersLost s code hit) := by
  grind [State.peersLost, Kept.mk', Otp.noLess_refl, Kept.keep, Kept.clear, Kept.foldl, Kept.foldl1, Kept.peerLost, Kept.raise]

theorem Kept.hostGone {fx : Bool} {s0 s : State} (hk : Kept fx s0 s) (p : Nat) : Kept fx s0 (State.hostGone s p) := by
  unfold State.hostGone; simp +contextual (maxDischargeDepth := 40) only [hk, Kept.mk', Otp.noLess_refl, Kept.keep, Kept.clear, Kept.ite, Kept.ite1, Kept.foldl, Kept.foldl1, Kept.peersLost]

theorem Kept.cxlLinkLost {fx : Bool} {s0 s : State} (hk : Kept fx s0 s) (p : Nat) (linkB : Bool) (next : Nat) : Kept fx s0 (State.cxlLinkLost s p linkB next) := by
  unfold State.cxlLinkLost; simp +contextual (maxDischargeDepth := 40) only [hk, Kept.mk', Otp.noLess_refl, Kept.keep, Kept.clear, Kept.ite, Kept.ite1, Kept.foldl, Kept.foldl1, Kept.functionReset, Kept.hostGone, Kept.linkLost]

theorem Kept.qmConfig {fx : Bool} {s0 s : State} (hk : Kept fx s0 s) (q : Nat) : Kept fx s0 (State.qmConfig s q) := by
  unfold State.qmConfig; simp +contextual (maxDischargeDepth := 40) only [hk, Kept.mk', Otp.noLess_refl, Kept.keep, Kept.clear, Kept.ite, Kept.ite1, Kept.foldl, Kept.foldl1, Kept.flag]

theorem Kept.queueEnable {fx : Bool} {s0 s : State} (hk : Kept fx s0 s) (q : Nat) : Kept fx s0 (State.queueEnable s q).1 := by
  unfold State.queueEnable; simp +contextual (maxDischargeDepth := 40) only [hk, Kept.mk', Otp.noLess_refl, Kept.keep, Kept.clear, Kept.ite, Kept.ite1, Kept.foldl, Kept.foldl1, Kept.flagErr, Kept.qmConfig, Kept.setQueue]

theorem Kept.queuePause {fx : Bool} {s0 s : State} (hk : Kept fx s0 s) (q : Nat) : Kept fx s0 (State.queuePause s q).1 := by
  unfold State.queuePause; simp +contextual (maxDischargeDepth := 40) only [hk, Kept.mk', Otp.noLess_refl, Kept.keep, Kept.clear, Kept.ite, Kept.ite1, Kept.foldl, Kept.foldl1, Kept.setQueue]

theorem Kept.queueResume {fx : Bool} {s0 s : State} (hk : Kept fx s0 s) (q : Nat) : Kept fx s0 (State.queueResume s q).1 := by
  unfold State.queueResume; simp +contextual (maxDischargeDepth := 40) only [hk, Kept.mk', Otp.noLess_refl, Kept.keep, Kept.clear, Kept.ite, Kept.ite1, Kept.foldl, Kept.foldl1, Kept.setQueue]

theorem Kept.queueSkip {fx : Bool} {s0 s : State} (hk : Kept fx s0 s) (q : Nat) : Kept fx s0 (State.queueSkip s q).1 := by
  unfold State.queueSkip; simp +contextual (maxDischargeDepth := 40) only [hk, Kept.mk', Otp.noLess_refl, Kept.keep, Kept.clear, Kept.ite, Kept.ite1, Kept.foldl, Kept.foldl1, Kept.setQueue]

theorem Kept.queueReset {fx : Bool} {s0 s : State} (hk : Kept fx s0 s) (q : Nat) : Kept fx s0 (State.queueReset s q) := by
  unfold State.queueReset; simp +contextual (maxDischargeDepth := 40) only [hk, Kept.mk', Otp.noLess_refl, Kept.keep, Kept.clear, Kept.ite, Kept.ite1, Kept.foldl, Kept.foldl1, Kept.setQueue]

theorem Kept.queueCommand {fx : Bool} {s0 s : State} (hk : Kept fx s0 s) (q cmd : Nat) : Kept fx s0 (State.queueCommand s q cmd).1 := by
  unfold State.queueCommand
  split
  · exact hk
  · exact hk.queueEnable _
  · exact hk.queuePause _
  · exact hk.queueResume _
  · exact hk.queueSkip _
  · exact hk.queueReset _
  · exact hk.qmConfig _

theorem Kept.doorbell {fx : Bool} {s0 s : State} (hk : Kept fx s0 s) (q tail : Nat) : Kept fx s0 (State.doorbell s q tail) := by
  unfold State.doorbell; simp +contextual (maxDischargeDepth := 40) only [hk, Kept.mk', Otp.noLess_refl, Kept.keep, Kept.clear, Kept.ite, Kept.ite1, Kept.foldl, Kept.foldl1, Kept.flagErr, Kept.setQueue]

theorem Kept.kick {fx : Bool} {s0 s : State} (hk : Kept fx s0 s) (q : Nat) : Kept fx s0 (State.kick s q) := by
  unfold State.kick; simp +contextual (maxDischargeDepth := 40) only [hk, Kept.mk', Otp.noLess_refl, Kept.keep, Kept.clear, Kept.ite, Kept.ite1, Kept.foldl, Kept.foldl1, Kept.flag, Kept.flagErr, Kept.setQueue]

theorem Kept.kickSet {fx : Bool} {s0 s : State} (hk : Kept fx s0 s) (set : Nat) (member : Nat → Bool) : Kept fx s0 (State.kickSet s set member) := by
  grind [State.kickSet, Kept.mk', Otp.noLess_refl, Kept.keep, Kept.clear, Kept.foldl, Kept.foldl1, Kept.kick]

theorem Kept.setCredits {fx : Bool} {s0 s : State} (hk : Kept fx s0 s) (home : Nat) (ep : Endpoint) (n : Nat) : Kept fx s0 (State.setCredits s home ep n) := by
  unfold State.setCredits; simp +contextual (maxDischargeDepth := 40) only [hk, Kept.mk', Otp.noLess_refl, Kept.keep, Kept.clear, Kept.ite, Kept.ite1, Kept.foldl, Kept.foldl1]

theorem Kept.creditReturn {fx : Bool} {s0 s : State} (hk : Kept fx s0 s) (home : Nat) (ep : Endpoint) : Kept fx s0 (State.creditReturn s home ep) := by
  unfold State.creditReturn; simp +contextual (maxDischargeDepth := 40) only [hk, Kept.mk', Otp.noLess_refl, Kept.keep, Kept.clear, Kept.ite, Kept.ite1, Kept.foldl, Kept.foldl1, Kept.setCredits]

theorem Kept.fetchDescriptor {fx : Bool} {s0 s : State} (hk : Kept fx s0 s) (q : Nat) (f : Fetch) : Kept fx s0 (State.fetchDescriptor s q f) := by
  grind [State.fetchDescriptor, Kept.mk', Otp.noLess_refl, Kept.keep, Kept.clear, Kept.foldl, Kept.foldl1, Kept.protectedRead, Kept.queueError, Kept.setQueue]

theorem Kept.readBytes {fx : Bool} {s0 s : State} (hk : Kept fx s0 s) (c : Consumer) (a n : Nat) (fs : List Fetch) : Kept fx s0 (State.readBytes s c a n fs).1 := by
  unfold State.readBytes
  refine Kept.foldl1 hk (fun x i hx => ?_)
  dsimp only
  split
  · exact hx
  · split
    · exact hk
    · exact hx.protectedRead _ _ _

theorem Kept.sourceReturn {fx : Bool} {s0 s : State} (hk : Kept fx s0 s) (q : Nat) (data : List Byte) (poison : Bool) (resp : Resp) (fs : List Fetch) : Kept fx s0 (State.sourceReturn s q data poison resp fs) := by
  unfold State.sourceReturn
  dsimp only
  split
  · exact hk
  · refine Kept.ite hk ?_
    split
    · exact hk
    · have hr : ∀ (a n : Nat) (c : Consumer) (y z : Option (List Byte × Bool × Resp)) (p q : Prop) [Decidable p] [Decidable q],
          Kept fx s0 (if p then s.readBytes c a n fs else if q then (s, y) else (s, z)).1 :=
        fun a n c y z p q _ _ => Kept.ite1 (hk.readBytes _ _ _ _) (Kept.ite1 hk hk)
      split
      · exact Kept.queueError (hr _ _ _ _ _ _ _) _ _ _
      · exact Kept.mk' (Kept.setQueue (hr _ _ _ _ _ _ _) _ _) rfl rfl

theorem Kept.streamCell {fx : Bool} {s0 s : State} (hk : Kept fx s0 s) (q : Nat) (bytes : List Byte) : Kept fx s0 (State.streamCell s q bytes) := by
  unfold State.streamCell; simp +contextual (maxDischargeDepth := 40) only [hk, Kept.mk', Otp.noLess_refl, Kept.keep, Kept.clear, Kept.ite, Kept.ite1, Kept.foldl, Kept.foldl1, Kept.setQueue]

theorem Kept.streamClose {fx : Bool} {s0 s : State} (hk : Kept fx s0 s) (q : Nat) : Kept fx s0 (State.streamClose s q) := by
  unfold State.streamClose; simp +contextual (maxDischargeDepth := 40) only [hk, Kept.mk', Otp.noLess_refl, Kept.keep, Kept.clear, Kept.ite, Kept.ite1, Kept.foldl, Kept.foldl1, Kept.setQueue]

theorem Kept.streamFlush {fx : Bool} {s0 s : State} (hk : Kept fx s0 s) (q : Nat) : Kept fx s0 (State.streamFlush s q) := by
  unfold State.streamFlush; simp +contextual (maxDischargeDepth := 40) only [hk, Kept.mk', Otp.noLess_refl, Kept.keep, Kept.clear, Kept.ite, Kept.ite1, Kept.foldl, Kept.foldl1, Kept.setQueue, Kept.streamCell, Kept.streamClose]

theorem Kept.streamPush {fx : Bool} {s0 s : State} (hk : Kept fx s0 s) (q : Nat) (bytes : List Byte) (flush : Bool) : Kept fx s0 (State.streamPush s q bytes flush).1 := by
  grind [State.streamPush, Kept.mk', Otp.noLess_refl, Kept.keep, Kept.clear, Kept.foldl, Kept.foldl1, Kept.queueError, Kept.setQueue, Kept.streamCell, Kept.streamClose, Kept.streamFlush]

theorem Kept.writeBytes {fx : Bool} {s0 s : State} (hk : Kept fx s0 s) (a : Nat) (bytes : List Byte) (poison : Bool) (c : Consumer) : Kept fx s0 (State.writeBytes s a bytes poison c).1 := by
  grind [State.writeBytes, Kept.mk', Otp.noLess_refl, Kept.keep, Kept.clear, Kept.foldl, Kept.foldl1, Kept.count, Kept.protectedWrite]

theorem Kept.facetDeliver {fx : Bool} {s0 s : State} (hk : Kept fx s0 s) (a : Nat) (bytes : List Byte) (poison : Bool) : Kept fx s0 (State.facetDeliver s a bytes poison) := by
  grind [State.facetDeliver, Kept.mk', Otp.noLess_refl, Kept.keep, Kept.clear, Kept.foldl, Kept.foldl1, Kept.setFacet]

theorem Kept.deliverAt {fx : Bool} {s0 s : State} (hk : Kept fx s0 s) (q a : Nat) (bytes : List Byte) (poison : Bool) : Kept fx s0 (State.deliverAt s q a bytes poison).1 := by
  unfold State.deliverAt; simp +contextual (maxDischargeDepth := 40) only [hk, Kept.mk', Otp.noLess_refl, Kept.keep, Kept.clear, Kept.ite, Kept.ite1, Kept.foldl, Kept.foldl1, Kept.facetDeliver, Kept.writeBytes]

theorem Kept.deliver {fx : Bool} {s0 s : State} (hk : Kept fx s0 s) (q : Nat) (c : Cell) : Kept fx s0 (State.deliver s q c).1 := by
  grind [State.deliver, Kept.mk', Otp.noLess_refl, Kept.keep, Kept.clear, Kept.foldl, Kept.foldl1, Kept.deliverAt]

theorem Kept.transferCell {fx : Bool} {s0 s : State} (hk : Kept fx s0 s) (die : Nat) : Kept fx s0 (State.transferCell s die) := by
  unfold State.transferCell; (repeat' split) <;> (first | assumption | (simp +contextual (maxDischargeDepth := 40) only [hk, Kept.mk', Otp.noLess_refl, Kept.keep, Kept.clear, Kept.ite, Kept.ite1, Kept.foldl, Kept.foldl1, Kept.charge, Kept.deliver, Kept.pbWaits, Kept.queueError, Kept.setCredits, Kept.setQueue]; done) | grind [Kept.mk', Otp.noLess_refl, Kept.keep, Kept.clear, Kept.foldl, Kept.foldl1, Kept.charge, Kept.deliver, Kept.pbWaits, Kept.queueError, Kept.setCredits, Kept.setQueue])

theorem Kept.writeCompletion {fx : Bool} {s0 s : State} (hk : Kept fx s0 s) (q : Nat) (o : OpenDesc) : Kept fx s0 (State.writeCompletion s q o).1 := by
  unfold State.writeCompletion; simp +contextual (maxDischargeDepth := 40) only [hk, Kept.mk', Otp.noLess_refl, Kept.keep, Kept.clear, Kept.ite, Kept.ite1, Kept.foldl, Kept.foldl1, Kept.flag, Kept.raiseMsix, Kept.requestTask, Kept.setQueue, Kept.writeBytes]

theorem Kept.complete {fx : Bool} {s0 s : State} (hk : Kept fx s0 s) (q : Nat) (late : Bool) : Kept fx s0 (State.complete s q late) := by
  unfold State.complete
  dsimp only
  split
  · exact hk
  · refine Kept.ite (hk.setQueue _ _) (Kept.ite hk ?_)
    split
    · exact hk
    · have h1 := (Kept.writeCompletion hk q (by assumption))
      refine Kept.ite (Kept.ite (((h1.setQueue _ _).flag _ _).lateArrival _ _ _) (h1.setQueue _ _)) (Kept.queueError (Kept.ite (((h1.setQueue _ _).flag _ _).lateArrival _ _ _) (h1.setQueue _ _)) _ _ _)

theorem Kept.completionPointer {fx : Bool} {s0 s : State} (hk : Kept fx s0 s) (q rd : Nat) : Kept fx s0 (State.completionPointer s q rd) := by
  unfold State.completionPointer; simp +contextual (maxDischargeDepth := 40) only [hk, Kept.mk', Otp.noLess_refl, Kept.keep, Kept.clear, Kept.ite, Kept.ite1, Kept.foldl, Kept.foldl1, Kept.setQueue]

theorem Kept.queueTimeout {fx : Bool} {s0 s : State} (hk : Kept fx s0 s) (q : Nat) : Kept fx s0 (State.queueTimeout s q) := by
  unfold State.queueTimeout; simp +contextual (maxDischargeDepth := 40) only [hk, Kept.mk', Otp.noLess_refl, Kept.keep, Kept.clear, Kept.ite, Kept.ite1, Kept.foldl, Kept.foldl1, Kept.firstError, Kept.flagErr, Kept.setQueue]

theorem Kept.setCommand {fx : Bool} {s0 s : State} (hk : Kept fx s0 s) (die j op grp : Nat) : Kept fx s0 (State.setCommand s die j op grp) := by
  unfold State.setCommand
  dsimp only
  split
  · exact Kept.foldl hk (fun t _ h => Kept.ite (h.queueEnable _) h)
  · exact Kept.foldl hk (fun t _ h => Kept.ite (h.queuePause _) h)
  · exact Kept.foldl hk (fun t _ h => Kept.ite (h.queueResume _) h)
  · exact Kept.foldl hk (fun t _ h => Kept.ite (h.queueReset _) h)
  · exact hk.kickSet _ _
  · exact hk
  · exact hk.flag _ _

theorem Kept.packet {fx : Bool} {s0 s : State} (hk : Kept fx s0 s) (die : Nat) (corrected uncorrectable : Bool) : Kept fx s0 (State.packet s die corrected uncorrectable) := by
  unfold State.packet; simp +contextual (maxDischargeDepth := 40) only [hk, Kept.mk', Otp.noLess_refl, Kept.keep, Kept.clear, Kept.ite, Kept.ite1, Kept.foldl, Kept.foldl1, Kept.corrected, Kept.count, Kept.raise, Kept.uncorrectable]

theorem Kept.domGo {fx : Bool} {s0 s : State} (hk : Kept fx s0 s) (i : Nat) (st : DomState) : Kept fx s0 (State.domGo s i st) := by
  unfold State.domGo; simp +contextual (maxDischargeDepth := 40) only [hk, Kept.mk', Otp.noLess_refl, Kept.keep, Kept.clear, Kept.ite, Kept.ite1, Kept.foldl, Kept.foldl1, Kept.flag, Kept.setDom]

theorem Kept.takeEdge {fx : Bool} {s0 s : State} (hk : Kept fx s0 s) (i k : Nat) (x e f : DWord) (rev : Bool) : Kept fx s0 (State.takeEdge s i k x e f rev) := by
  unfold State.takeEdge; simp +contextual (maxDischargeDepth := 40) only [hk, Kept.mk', Otp.noLess_refl, Kept.keep, Kept.clear, Kept.ite, Kept.ite1, Kept.foldl, Kept.foldl1, Kept.setDom]

theorem Kept.takeCount {fx : Bool} {s0 s : State} (hk : Kept fx s0 s) (i k : Nat) (x : DWord) (c : Int) (rev : Bool) : Kept fx s0 (State.takeCount s i k x c rev) := by
  unfold State.takeCount; simp +contextual (maxDischargeDepth := 40) only [hk, Kept.mk', Otp.noLess_refl, Kept.keep, Kept.clear, Kept.ite, Kept.ite1, Kept.foldl, Kept.foldl1, Kept.setDom, Kept.takeEdge]

theorem Kept.holdReverse {fx : Bool} {s0 s : State} (hk : Kept fx s0 s) (i k : Nat) : Kept fx s0 (State.holdReverse s i k) := by
  unfold State.holdReverse; simp +contextual (maxDischargeDepth := 40) only [hk, Kept.mk', Otp.noLess_refl, Kept.keep, Kept.clear, Kept.ite, Kept.ite1, Kept.foldl, Kept.foldl1, Kept.flag, Kept.setDom]

theorem Kept.quadCount {fx : Bool} {s0 s : State} (hk : Kept fx s0 s) (i k : Nat) (rev : Bool) : Kept fx s0 (State.quadCount s i k rev) := by
  grind [State.quadCount, Kept.mk', Otp.noLess_refl, Kept.keep, Kept.clear, Kept.foldl, Kept.foldl1, Kept.domGo, Kept.flagIf, Kept.holdReverse, Kept.setDom, Kept.takeCount, Kept.takeEdge]

theorem Kept.qualifiedZ {fx : Bool} {s0 s : State} (hk : Kept fx s0 s) (i k : Nat) : Kept fx s0 (State.qualifiedZ s i k) := by
  grind [State.qualifiedZ, Kept.mk', Otp.noLess_refl, Kept.keep, Kept.clear, Kept.foldl, Kept.foldl1, Kept.drawn, Kept.flag, Kept.raise, Kept.setDom]

theorem Kept.takeTooth {fx : Bool} {s0 s : State} (hk : Kept fx s0 s) (i k : Nat) (x : DWord) (c : Int) : Kept fx s0 (State.takeTooth s i k x c) := by
  unfold State.takeTooth; simp +contextual (maxDischargeDepth := 40) only [hk, Kept.mk', Otp.noLess_refl, Kept.keep, Kept.clear, Kept.ite, Kept.ite1, Kept.foldl, Kept.foldl1, Kept.setDom, Kept.takeEdge]

theorem Kept.lockAtEdge {fx : Bool} {s0 s : State} (hk : Kept fx s0 s) (i k : Nat) (x : DWord) (c cp : Int) (iv : Nat) : Kept fx s0 (State.lockAtEdge s i k x c cp iv) := by
  unfold State.lockAtEdge; simp +contextual (maxDischargeDepth := 40) only [hk, Kept.mk', Otp.noLess_refl, Kept.keep, Kept.clear, Kept.ite, Kept.ite1, Kept.foldl, Kept.foldl1, Kept.domGo, Kept.setDom, Kept.takeTooth]

theorem Kept.toothEdge {fx : Bool} {s0 s : State} (hk : Kept fx s0 s) (i k : Nat) : Kept fx s0 (State.toothEdge s i k) := by
  grind [State.toothEdge, Kept.mk', Otp.noLess_refl, Kept.keep, Kept.clear, Kept.foldl, Kept.foldl1, Kept.domGo, Kept.flag, Kept.lockAtEdge, Kept.setDom, Kept.takeTooth]

theorem Kept.pulseEdge {fx : Bool} {s0 s : State} (hk : Kept fx s0 s) (i k : Nat) : Kept fx s0 (State.pulseEdge s i k) := by
  grind [State.pulseEdge, Kept.mk', Otp.noLess_refl, Kept.keep, Kept.clear, Kept.foldl, Kept.foldl1, Kept.domGo, Kept.flag, Kept.lockAtEdge, Kept.setDom, Kept.takeTooth]

theorem Kept.syncLines {fx : Bool} {s0 s : State} (hk : Kept fx s0 s) (i : Nat) : Kept fx s0 (State.syncLines s i) := by
  unfold State.syncLines; simp +contextual (maxDischargeDepth := 40) only [hk, Kept.mk', Otp.noLess_refl, Kept.keep, Kept.clear, Kept.ite, Kept.ite1, Kept.foldl, Kept.foldl1, Kept.setDom]

theorem Kept.domLine {fx : Bool} {s0 s : State} (hk : Kept fx s0 s) (i which k : Nat) (level : Bool) : Kept fx s0 (State.domLine s i which k level) := by
  unfold State.domLine; (repeat' split) <;> (first | assumption | (simp +contextual (maxDischargeDepth := 40) only [hk, Kept.mk', Otp.noLess_refl, Kept.keep, Kept.clear, Kept.ite, Kept.ite1, Kept.foldl, Kept.foldl1, Kept.pulseEdge, Kept.quadCount, Kept.qualifiedZ, Kept.setDom, Kept.toothEdge]; done) | grind [Kept.mk', Otp.noLess_refl, Kept.keep, Kept.clear, Kept.foldl, Kept.foldl1, Kept.pulseEdge, Kept.quadCount, Kept.qualifiedZ, Kept.setDom, Kept.toothEdge])

theorem Kept.resolverSample {fx : Bool} {s0 s : State} (hk : Kept fx s0 s) (i k : Nat) (angle err : Word) (lowAmp : Bool) : Kept fx s0 (State.resolverSample s i k angle err lowAmp) := by
  grind [State.resolverSample, Kept.mk', Otp.noLess_refl, Kept.keep, Kept.clear, Kept.foldl, Kept.foldl1, Kept.domGo, Kept.flagIf, Kept.setDom]

theorem Kept.followTurn {fx : Bool} {s0 s : State} (hk : Kept fx s0 s) (i : Nat) : Kept fx s0 (State.followTurn s i) := by
  grind [State.followTurn, Kept.mk', Otp.noLess_refl, Kept.keep, Kept.clear, Kept.foldl, Kept.foldl1, Kept.flag, Kept.setDom]

theorem Kept.linkEnter {fx : Bool} {s0 s : State} (hk : Kept fx s0 s) (i : Nat) (d : Dom) : Kept fx s0 (State.linkEnter s i d) := by
  unfold State.linkEnter; simp +contextual (maxDischargeDepth := 40) only [hk, Kept.mk', Otp.noLess_refl, Kept.keep, Kept.clear, Kept.ite, Kept.ite1, Kept.foldl, Kept.foldl1, Kept.domGo, Kept.setDom]

theorem Kept.linkWord {fx : Bool} {s0 s : State} (hk : Kept fx s0 s) (i : Nat) (x p : DWord) (aligned : Bool) : Kept fx s0 (State.linkWord s i x p aligned) := by
  grind [State.linkWord, Kept.mk', Otp.noLess_refl, Kept.keep, Kept.clear, Kept.foldl, Kept.foldl1, Kept.flag, Kept.lateArrival, Kept.linkEnter, Kept.setDom]

theorem Kept.linkLoss {fx : Bool} {s0 s : State} (hk : Kept fx s0 s) (i : Nat) : Kept fx s0 (State.linkLoss s i) := by
  unfold State.linkLoss; simp +contextual (maxDischargeDepth := 40) only [hk, Kept.mk', Otp.noLess_refl, Kept.keep, Kept.clear, Kept.ite, Kept.ite1, Kept.foldl, Kept.foldl1, Kept.domGo, Kept.setDom]

theorem Kept.velocityWrite {fx : Bool} {s0 s : State} (hk : Kept fx s0 s) (i : Nat) (w : DWord) : Kept fx s0 (State.velocityWrite s i w) := by
  unfold State.velocityWrite; simp +contextual (maxDischargeDepth := 40) only [hk, Kept.mk', Otp.noLess_refl, Kept.keep, Kept.clear, Kept.ite, Kept.ite1, Kept.foldl, Kept.foldl1, Kept.flagIf, Kept.setDom]

theorem Kept.accelerationWrite {fx : Bool} {s0 s : State} (hk : Kept fx s0 s) (i : Nat) (w : DWord) : Kept fx s0 (State.accelerationWrite s i w) := by
  unfold State.accelerationWrite; simp +contextual (maxDischargeDepth := 40) only [hk, Kept.mk', Otp.noLess_refl, Kept.keep, Kept.clear, Kept.ite, Kept.ite1, Kept.foldl, Kept.foldl1, Kept.setDom]

theorem Kept.fabricIncrement {fx : Bool} {s0 s : State} (hk : Kept fx s0 s) (rg : Nat) (inc : Word) : Kept fx s0 (State.fabricIncrement s rg inc) := by
  unfold State.fabricIncrement; simp +contextual (maxDischargeDepth := 40) only [hk, Kept.mk', Otp.noLess_refl, Kept.keep, Kept.clear, Kept.ite, Kept.ite1, Kept.foldl, Kept.foldl1]

theorem Kept.domCommand {fx : Bool} {s0 s : State} (hk : Kept fx s0 s) (i code : Nat) : Kept fx s0 (State.domCommand s i code) := by
  unfold State.domCommand; (repeat' split) <;> (first | assumption | (simp +contextual (maxDischargeDepth := 40) only [hk, Kept.mk', Otp.noLess_refl, Kept.keep, Kept.clear, Kept.ite, Kept.ite1, Kept.foldl, Kept.foldl1, Kept.flag, Kept.setDom]; done) | grind [Kept.mk', Otp.noLess_refl, Kept.keep, Kept.clear, Kept.foldl, Kept.foldl1, Kept.flag, Kept.setDom])

theorem Kept.domAct {fx : Bool} {s0 s : State} (hk : Kept fx s0 s) (i : Nat) (c : DomCmd) : Kept fx s0 (State.domAct s i c) := by
  unfold State.domAct; (repeat' split) <;> (first | assumption | (simp +contextual (maxDischargeDepth := 40) only [hk, Kept.mk', Otp.noLess_refl, Kept.keep, Kept.clear, Kept.ite, Kept.ite1, Kept.foldl, Kept.foldl1, Kept.domGo, Kept.flag, Kept.flagIf, Kept.setDom]; done) | grind [Kept.mk', Otp.noLess_refl, Kept.keep, Kept.clear, Kept.foldl, Kept.foldl1, Kept.domGo, Kept.flag, Kept.flagIf, Kept.setDom])

theorem Kept.domDebug {fx : Bool} {s0 s : State} (hk : Kept fx s0 s) (i : Nat) (halted : Bool) : Kept fx s0 (State.domDebug s i halted) := by
  unfold State.domDebug; simp +contextual (maxDischargeDepth := 40) only [hk, Kept.mk', Otp.noLess_refl, Kept.keep, Kept.clear, Kept.ite, Kept.ite1, Kept.foldl, Kept.foldl1, Kept.domGo, Kept.setDom]

theorem Kept.domStep2 {fx : Bool} {s0 s : State} (hk : Kept fx s0 s) (halted : Bool) (i : Nat) : Kept fx s0 (State.domStep2 s halted i) := by
  grind [State.domStep2, Kept.mk', Otp.noLess_refl, Kept.keep, Kept.clear, Kept.foldl, Kept.foldl1, Kept.domAct, Kept.domDebug, Kept.domGo, Kept.followTurn, Kept.setDom]

theorem Kept.stallTimeout {fx : Bool} {s0 s : State} (hk : Kept fx s0 s) (i : Nat) : Kept fx s0 (State.stallTimeout s i) := by
  grind [State.stallTimeout, Kept.mk', Otp.noLess_refl, Kept.keep, Kept.clear, Kept.foldl, Kept.foldl1, Kept.domGo, Kept.flag, Kept.lateArrival]

theorem Kept.holdoverTimeout {fx : Bool} {s0 s : State} (hk : Kept fx s0 s) (i : Nat) : Kept fx s0 (State.holdoverTimeout s i) := by
  unfold State.holdoverTimeout; simp +contextual (maxDischargeDepth := 40) only [hk, Kept.mk', Otp.noLess_refl, Kept.keep, Kept.clear, Kept.ite, Kept.ite1, Kept.foldl, Kept.foldl1, Kept.domGo, Kept.flag, Kept.lateArrival, Kept.setDom]

theorem Kept.domStep3 {fx : Bool} {s0 s : State} (hk : Kept fx s0 s) (i : Nat) : Kept fx s0 (State.domStep3 s i) := by
  unfold State.domStep3; simp +contextual (maxDischargeDepth := 40) only [hk, Kept.mk', Otp.noLess_refl, Kept.keep, Kept.clear, Kept.ite, Kept.ite1, Kept.foldl, Kept.foldl1, Kept.holdoverTimeout, Kept.stallTimeout]

theorem Kept.domClose {fx : Bool} {s0 s : State} (hk : Kept fx s0 s) (i : Nat) : Kept fx s0 (State.domClose s i) := by
  unfold State.domClose; simp +contextual (maxDischargeDepth := 40) only [hk, Kept.mk', Otp.noLess_refl, Kept.keep, Kept.clear, Kept.ite, Kept.ite1, Kept.foldl, Kept.foldl1, Kept.flagIf, Kept.setDom]

theorem Kept.incsClose {fx : Bool} {s0 s : State} (hk : Kept fx s0 s)  : Kept fx s0 (State.incsClose s) := by
  unfold State.incsClose; simp +contextual (maxDischargeDepth := 40) only [hk, Kept.mk', Otp.noLess_refl, Kept.keep, Kept.clear, Kept.ite, Kept.ite1, Kept.foldl, Kept.foldl1]

theorem Kept.putPin {fx : Bool} {s0 s : State} (hk : Kept fx s0 s) (die n : Nat) (x : DWord) (level oe : Bool) : Kept fx s0 (State.putPin s die n x level oe) := by
  unfold State.putPin; simp +contextual (maxDischargeDepth := 40) only [hk, Kept.mk', Otp.noLess_refl, Kept.keep, Kept.clear, Kept.ite, Kept.ite1, Kept.foldl, Kept.foldl1, Kept.flagIf, Kept.setUnit]

theorem Kept.pushCapture {fx : Bool} {s0 s : State} (hk : Kept fx s0 s) (die n : Nat) (c : Capture) : Kept fx s0 (State.pushCapture s die n c) := by
  unfold State.pushCapture; simp +contextual (maxDischargeDepth := 40) only [hk, Kept.mk', Otp.noLess_refl, Kept.keep, Kept.clear, Kept.ite, Kept.ite1, Kept.foldl, Kept.foldl1, Kept.count, Kept.flagErr, Kept.setUnit]

theorem Kept.capture {fx : Bool} {s0 s : State} (hk : Kept fx s0 s) (die n : Nat) (x : DWord) (kind : Nat) (lvl : Bool) : Kept fx s0 (State.capture s die n x kind lvl) := by
  unfold State.capture; simp +contextual (maxDischargeDepth := 40) only [hk, Kept.mk', Otp.noLess_refl, Kept.keep, Kept.clear, Kept.ite, Kept.ite1, Kept.foldl, Kept.foldl1, Kept.pushCapture]

theorem Kept.closeWindow {fx : Bool} {s0 s : State} (hk : Kept fx s0 s) (die n : Nat) (x : DWord) : Kept fx s0 (State.closeWindow s die n x) := by
  unfold State.closeWindow; simp +contextual (maxDischargeDepth := 40) only [hk, Kept.mk', Otp.noLess_refl, Kept.keep, Kept.clear, Kept.ite, Kept.ite1, Kept.foldl, Kept.foldl1, Kept.capture, Kept.setUnit]

theorem Kept.windowUpTo {fx : Bool} {s0 s : State} (hk : Kept fx s0 s) (die n : Nat) (x : DWord) : Kept fx s0 (State.windowUpTo s die n x) := by
  grind [State.windowUpTo, Kept.mk', Otp.noLess_refl, Kept.keep, Kept.clear, Kept.foldl, Kept.foldl1, Kept.closeWindow]

theorem Kept.openWindow {fx : Bool} {s0 s : State} (hk : Kept fx s0 s) (die n : Nat) (x : DWord) (e : EndAt) : Kept fx s0 (State.openWindow s die n x e) := by
  grind [State.openWindow, Kept.mk', Otp.noLess_refl, Kept.keep, Kept.clear, Kept.foldl, Kept.foldl1, Kept.capture, Kept.closeWindow, Kept.setUnit, Kept.windowUpTo]

theorem Kept.takeInput {fx : Bool} {s0 s : State} (hk : Kept fx s0 s) (die n : Nat) (x : DWord) (level : Bool) : Kept fx s0 (State.takeInput s die n x level) := by
  grind [State.takeInput, Kept.mk', Otp.noLess_refl, Kept.keep, Kept.clear, Kept.foldl, Kept.foldl1, Kept.capture, Kept.flagErr, Kept.lateArrival, Kept.pushCapture, Kept.setUnit, Kept.windowUpTo]

theorem Kept.measureTimeout {fx : Bool} {s0 s : State} (hk : Kept fx s0 s) (die n : Nat) (start : Bool) (moves : List (DWord × Bool)) : Kept fx s0 (State.measureTimeout s die n start moves) := by
  grind [State.measureTimeout, Kept.mk', Otp.noLess_refl, Kept.keep, Kept.clear, Kept.foldl, Kept.foldl1, Kept.flag, Kept.pushCapture, Kept.setUnit]

theorem Kept.inputSilent {fx : Bool} {s0 s : State} (hk : Kept fx s0 s) (die n : Nat) : Kept fx s0 (State.inputSilent s die n) := by
  unfold State.inputSilent; simp +contextual (maxDischargeDepth := 40) only [hk, Kept.mk', Otp.noLess_refl, Kept.keep, Kept.clear, Kept.ite, Kept.ite1, Kept.foldl, Kept.foldl1, Kept.setUnit]

theorem Kept.popCapture {fx : Bool} {s0 s : State} (hk : Kept fx s0 s) (die n : Nat) : Kept fx s0 (State.popCapture s die n) := by
  unfold State.popCapture; simp +contextual (maxDischargeDepth := 40) only [hk, Kept.mk', Otp.noLess_refl, Kept.keep, Kept.clear, Kept.ite, Kept.ite1, Kept.foldl, Kept.foldl1, Kept.setUnit]

theorem Kept.fifoRelease {fx : Bool} {s0 s : State} (hk : Kept fx s0 s) (die n : Nat) (frozen : Bool) : Kept fx s0 (State.fifoRelease s die n frozen).1 := by
  unfold State.fifoRelease; simp +contextual (maxDischargeDepth := 40) only [hk, Kept.mk', Otp.noLess_refl, Kept.keep, Kept.clear, Kept.ite, Kept.ite1, Kept.foldl, Kept.foldl1, Kept.flagIf, Kept.setUnit]

theorem Kept.driveTick {fx : Bool} {s0 s : State} (hk : Kept fx s0 s) (die n : Nat) (cal : List (DWord × PinOp)) (frozen : Bool) : Kept fx s0 (State.driveTick s die n cal frozen) := by
  unfold State.driveTick; simp +contextual (maxDischargeDepth := 40) only [hk, Kept.mk', Otp.noLess_refl, Kept.keep, Kept.clear, Kept.ite, Kept.ite1, Kept.foldl, Kept.foldl1, Kept.fifoRelease, Kept.flagIf, Kept.setUnit]

theorem Kept.pwmTake {fx : Bool} {s0 s : State} (hk : Kept fx s0 s) (die n : Nat) (org : DWord) : Kept fx s0 (State.pwmTake s die n org) := by
  unfold State.pwmTake; simp +contextual (maxDischargeDepth := 40) only [hk, Kept.mk', Otp.noLess_refl, Kept.keep, Kept.clear, Kept.ite, Kept.ite1, Kept.foldl, Kept.foldl1, Kept.flagErr, Kept.setUnit]

theorem Kept.pwmGenDtu {fx : Bool} {s0 s : State} (hk : Kept fx s0 s) (die n : Nat) (x : DWord) : Kept fx s0 (State.pwmGenDtu s die n x) := by
  unfold State.pwmGenDtu; simp +contextual (maxDischargeDepth := 40) only [hk, Kept.mk', Otp.noLess_refl, Kept.keep, Kept.clear, Kept.ite, Kept.ite1, Kept.foldl, Kept.foldl1, Kept.putPin, Kept.pwmTake]

theorem Kept.pwmPhaseDtu {fx : Bool} {s0 s : State} (hk : Kept fx s0 s) (die n k : Nat) (x : DWord) : Kept fx s0 (State.pwmPhaseDtu s die n k x) := by
  unfold State.pwmPhaseDtu; simp +contextual (maxDischargeDepth := 40) only [hk, Kept.mk', Otp.noLess_refl, Kept.keep, Kept.clear, Kept.ite, Kept.ite1, Kept.foldl, Kept.foldl1, Kept.flagIf, Kept.putPin, Kept.pwmTake]

theorem Kept.ezDrive {fx : Bool} {s0 s : State} (hk : Kept fx s0 s) (die z : Nat) (x : DWord) : Kept fx s0 (State.ezDrive s die z x) := by
  unfold State.ezDrive; simp +contextual (maxDischargeDepth := 40) only [hk, Kept.mk', Otp.noLess_refl, Kept.keep, Kept.clear, Kept.ite, Kept.ite1, Kept.foldl, Kept.foldl1]

theorem Kept.encDrive {fx : Bool} {s0 s : State} (hk : Kept fx s0 s) (die n : Nat) (x : DWord) : Kept fx s0 (State.encDrive s die n x) := by
  unfold State.encDrive; simp +contextual (maxDischargeDepth := 40) only [hk, Kept.mk', Otp.noLess_refl, Kept.keep, Kept.clear, Kept.ite, Kept.ite1, Kept.foldl, Kept.foldl1, Kept.count, Kept.ezDrive, Kept.putPin]

theorem Kept.encStep {fx : Bool} {s0 s : State} (hk : Kept fx s0 s) (die n k : Nat) : Kept fx s0 (State.encStep s die n k) := by
  unfold State.encStep; simp +contextual (maxDischargeDepth := 40) only [hk, Kept.mk', Otp.noLess_refl, Kept.keep, Kept.clear, Kept.ite, Kept.ite1, Kept.foldl, Kept.foldl1, Kept.count, Kept.encDrive, Kept.setUnit]

theorem Kept.pulseEmuDtu {fx : Bool} {s0 s : State} (hk : Kept fx s0 s) (die n k : Nat) (x : DWord) : Kept fx s0 (State.pulseEmuDtu s die n k x) := by
  unfold State.pulseEmuDtu; simp +contextual (maxDischargeDepth := 40) only [hk, Kept.mk', Otp.noLess_refl, Kept.keep, Kept.clear, Kept.ite, Kept.ite1, Kept.foldl, Kept.foldl1, Kept.flagIf, Kept.putPin]

theorem Kept.mirrorEdge {fx : Bool} {s0 s : State} (hk : Kept fx s0 s) (die src : Nat) (x : DWord) (level : Bool) : Kept fx s0 (State.mirrorEdge s die src x level) := by
  grind [State.mirrorEdge, Kept.mk', Otp.noLess_refl, Kept.keep, Kept.clear, Kept.foldl, Kept.foldl1, Kept.setUnit]

theorem Kept.mirrorTick {fx : Bool} {s0 s : State} (hk : Kept fx s0 s) (die n : Nat) : Kept fx s0 (State.mirrorTick s die n) := by
  grind [State.mirrorTick, Kept.mk', Otp.noLess_refl, Kept.keep, Kept.clear, Kept.foldl, Kept.foldl1, Kept.putPin, Kept.setUnit]

theorem Kept.leaveMode {fx : Bool} {s0 s : State} (hk : Kept fx s0 s) (die n : Nat) (x : DWord) : Kept fx s0 (State.leaveMode s die n x) := by
  unfold State.leaveMode; simp +contextual (maxDischargeDepth := 40) only [hk, Kept.mk', Otp.noLess_refl, Kept.keep, Kept.clear, Kept.ite, Kept.ite1, Kept.foldl, Kept.foldl1, Kept.closeWindow, Kept.putPin, Kept.setUnit]

theorem Kept.enterMode {fx : Bool} {s0 s : State} (hk : Kept fx s0 s) (die n m : Nat) (x : DWord) : Kept fx s0 (State.enterMode s die n m x) := by
  unfold State.enterMode
  dsimp only
  split
  · exact (hk.setUnit _ _ _).putPin _ _ _ _ _
  · exact ((hk.setUnit _ _ _).pwmTake _ _ _).pwmGenDtu _ _ _
  · exact ((hk.setUnit _ _ _).pwmTake _ _ _).putPin _ _ _ _ _
  · exact Kept.encDrive (Kept.ite ((((hk.setUnit _ _ _).setUnit _ _ _).setUnit _ _ _).flagErr _ _ _ _) (((hk.setUnit _ _ _).setUnit _ _ _).setUnit _ _ _)) _ _ _
  · exact Kept.putPin (Kept.ite ((hk.setUnit _ _ _).flagErr _ _ _ _) (hk.setUnit _ _ _)) _ _ _ _ _
  · exact Kept.putPin (Kept.ite ((hk.setUnit _ _ _).flagErr _ _ _ _) (hk.setUnit _ _ _)) _ _ _ _ _
  · exact (hk.setUnit _ _ _).putPin _ _ _ _ _

theorem Kept.applyCtl {fx : Bool} {s0 s : State} (hk : Kept fx s0 s) (die n : Nat) (x : DWord) (w : Word) : Kept fx s0 (State.applyCtl s die n x w) := by
  unfold State.applyCtl; simp +contextual (maxDischargeDepth := 40) only [hk, Kept.mk', Otp.noLess_refl, Kept.keep, Kept.clear, Kept.ite, Kept.ite1, Kept.foldl, Kept.foldl1, Kept.encDrive, Kept.enterMode, Kept.ezDrive, Kept.flagErr, Kept.leaveMode, Kept.setUnit]

theorem Kept.unitBoundary {fx : Bool} {s0 s : State} (hk : Kept fx s0 s) (die n : Nat) : Kept fx s0 (State.unitBoundary s die n) := by
  unfold State.unitBoundary; simp +contextual (maxDischargeDepth := 40) only [hk, Kept.mk', Otp.noLess_refl, Kept.keep, Kept.clear, Kept.ite, Kept.ite1, Kept.foldl, Kept.foldl1, Kept.setUnit]

theorem Kept.applyOffset {fx : Bool} {s0 s : State} (hk : Kept fx s0 s) (die n : Nat) (w : Word) : Kept fx s0 (State.applyOffset s die n w) := by
  unfold State.applyOffset; simp +contextual (maxDischargeDepth := 40) only [hk, Kept.mk', Otp.noLess_refl, Kept.keep, Kept.clear, Kept.ite, Kept.ite1, Kept.foldl, Kept.foldl1, Kept.setUnit]

theorem Kept.applyTio {fx : Bool} {s0 s : State} (hk : Kept fx s0 s) (w : TioWrite) : Kept fx s0 (State.applyTio s w) := by
  unfold State.applyTio; (repeat' split) <;> (first | assumption | (simp +contextual (maxDischargeDepth := 40) only [hk, Kept.mk', Otp.noLess_refl, Kept.keep, Kept.clear, Kept.ite, Kept.ite1, Kept.foldl, Kept.foldl1, Kept.applyCtl, Kept.applyOffset, Kept.wr]; done) | grind [Kept.mk', Otp.noLess_refl, Kept.keep, Kept.clear, Kept.foldl, Kept.foldl1, Kept.applyCtl, Kept.applyOffset, Kept.wr])

theorem Kept.unitInputs {fx : Bool} {s0 s : State} (hk : Kept fx s0 s) (die n : Nat) (moves : List (DWord × Bool)) (wins : List (DWord × EndAt)) : Kept fx s0 (State.unitInputs s die n moves wins) := by
  grind [State.unitInputs, Kept.mk', Otp.noLess_refl, Kept.keep, Kept.clear, Kept.foldl, Kept.foldl1, Kept.measureTimeout, Kept.openWindow, Kept.setUnit, Kept.takeInput, Kept.windowUpTo]

theorem Kept.unitOutputs {fx : Bool} {s0 s : State} (hk : Kept fx s0 s) (die n : Nat) (cal : List (DWord × PinOp)) (frozen : Bool) : Kept fx s0 (State.unitOutputs s die n cal frozen) := by
  grind [State.unitOutputs, Kept.mk', Otp.noLess_refl, Kept.keep, Kept.clear, Kept.foldl, Kept.foldl1, Kept.driveTick, Kept.encStep, Kept.mirrorTick, Kept.pulseEmuDtu, Kept.pwmGenDtu, Kept.pwmPhaseDtu, Kept.setUnit]

theorem Kept.tioCtlWrite {fx : Bool} {s0 s : State} (hk : Kept fx s0 s) (die n : Nat) (w : Word) : Kept fx s0 (State.tioCtlWrite s die n w).1 := by
  unfold State.tioCtlWrite; simp +contextual (maxDischargeDepth := 40) only [hk, Kept.mk', Otp.noLess_refl, Kept.keep, Kept.clear, Kept.ite, Kept.ite1, Kept.foldl, Kept.foldl1, Kept.wr]

theorem Kept.tioOutWrite {fx : Bool} {s0 s : State} (hk : Kept fx s0 s) (die n : Nat) (w : DWord) : Kept fx s0 (State.tioOutWrite s die n w).1 := by
  grind [State.tioOutWrite, Kept.mk', Otp.noLess_refl, Kept.keep, Kept.clear, Kept.foldl, Kept.foldl1, Kept.flagErr, Kept.setUnit]

theorem Kept.setDie {fx : Bool} {s0 s : State} (hk : Kept fx s0 s) (die st : Nat) : Kept fx s0 (State.setDie s die st) := by
  unfold State.setDie; simp +contextual (maxDischargeDepth := 40) only [hk, Kept.mk', Otp.noLess_refl, Kept.keep, Kept.clear, Kept.ite, Kept.ite1, Kept.foldl, Kept.foldl1]

theorem Kept.setLane {fx : Bool} {s0 s : State} (hk : Kept fx s0 s) (die l : Nat) (x : Lane) : Kept fx s0 (State.setLane s die l x) := by
  unfold State.setLane; simp +contextual (maxDischargeDepth := 40) only [hk, Kept.mk', Otp.noLess_refl, Kept.keep, Kept.clear, Kept.ite, Kept.ite1, Kept.foldl, Kept.foldl1]

theorem Kept.setPort {fx : Bool} {s0 s : State} (hk : Kept fx s0 s) (p : Nat) (x : Port) : Kept fx s0 (State.setPort s p x) := by
  unfold State.setPort; simp +contextual (maxDischargeDepth := 40) only [hk, Kept.mk', Otp.noLess_refl, Kept.keep, Kept.clear, Kept.ite, Kept.ite1, Kept.foldl, Kept.foldl1]

theorem Kept.setLocked {fx : Bool} {s0 s : State} (hk : Kept fx s0 s) (die q : Nat) (b v : Bool) : Kept fx s0 (State.setLocked s die q b v) := by
  unfold State.setLocked; simp +contextual (maxDischargeDepth := 40) only [hk, Kept.mk', Otp.noLess_refl, Kept.keep, Kept.clear, Kept.ite, Kept.ite1, Kept.foldl, Kept.foldl1]

theorem Kept.laneConfig {fx : Bool} {s0 s : State} (hk : Kept fx s0 s) (die l : Nat) : Kept fx s0 (State.laneConfig s die l) := by
  unfold State.laneConfig; simp +contextual (maxDischargeDepth := 40) only [hk, Kept.mk', Otp.noLess_refl, Kept.keep, Kept.clear, Kept.ite, Kept.ite1, Kept.foldl, Kept.foldl1, Kept.flagErr]

theorem Kept.quadConfig {fx : Bool} {s0 s : State} (hk : Kept fx s0 s) (die q : Nat) : Kept fx s0 (State.quadConfig s die q) := by
  unfold State.quadConfig; simp +contextual (maxDischargeDepth := 40) only [hk, Kept.mk', Otp.noLess_refl, Kept.keep, Kept.clear, Kept.ite, Kept.ite1, Kept.foldl, Kept.foldl1, Kept.flagErr]

theorem Kept.startLane {fx : Bool} {s0 s : State} (hk : Kept fx s0 s) (die l : Nat) : Kept fx s0 (State.startLane s die l) := by
  unfold State.startLane; simp +contextual (maxDischargeDepth := 40) only [hk, Kept.mk', Otp.noLess_refl, Kept.keep, Kept.clear, Kept.ite, Kept.ite1, Kept.foldl, Kept.foldl1, Kept.setLane]

theorem Kept.laneOff {fx : Bool} {s0 s : State} (hk : Kept fx s0 s) (die l : Nat) : Kept fx s0 (State.laneOff s die l) := by
  unfold State.laneOff; simp +contextual (maxDischargeDepth := 40) only [hk, Kept.mk', Otp.noLess_refl, Kept.keep, Kept.clear, Kept.ite, Kept.ite1, Kept.foldl, Kept.foldl1, Kept.setLane]

theorem Kept.laneFault {fx : Bool} {s0 s : State} (hk : Kept fx s0 s) (die l code : Nat) : Kept fx s0 (State.laneFault s die l code) := by
  unfold State.laneFault; simp +contextual (maxDischargeDepth := 40) only [hk, Kept.mk', Otp.noLess_refl, Kept.keep, Kept.clear, Kept.ite, Kept.ite1, Kept.foldl, Kept.foldl1, Kept.raise, Kept.setLane]

theorem Kept.portsRetrain {fx : Bool} {s0 s : State} (hk : Kept fx s0 s) (die l : Nat) : Kept fx s0 (State.portsRetrain s die l) := by
  grind [State.portsRetrain, Kept.mk', Otp.noLess_refl, Kept.keep, Kept.clear, Kept.foldl, Kept.foldl1, Kept.setPort]

theorem Kept.pllUnlock {fx : Bool} {s0 s : State} (hk : Kept fx s0 s) (die q : Nat) (b : Bool) : Kept fx s0 (State.pllUnlock s die q b) := by
  grind [State.pllUnlock, Kept.mk', Otp.noLess_refl, Kept.keep, Kept.clear, Kept.foldl, Kept.foldl1, Kept.laneFault, Kept.portsRetrain, Kept.setLocked]

theorem Kept.pllLock {fx : Bool} {s0 s : State} (hk : Kept fx s0 s) (die q : Nat) (b : Bool) : Kept fx s0 (State.pllLock s die q b) := by
  grind [State.pllLock, Kept.mk', Otp.noLess_refl, Kept.keep, Kept.clear, Kept.foldl, Kept.foldl1, Kept.setLocked, Kept.startLane]

theorem Kept.xrefLost {fx : Bool} {s0 s : State} (hk : Kept fx s0 s) (die q : Nat) : Kept fx s0 (State.xrefLost s die q) := by
  grind [State.xrefLost, Kept.mk', Otp.noLess_refl, Kept.keep, Kept.clear, Kept.foldl, Kept.foldl1, Kept.laneFault, Kept.portsRetrain, Kept.setLocked]

theorem Kept.quadStops {fx : Bool} {s0 s : State} (hk : Kept fx s0 s) (die q : Nat) : Kept fx s0 (State.quadStops s die q) := by
  grind [State.quadStops, Kept.mk', Otp.noLess_refl, Kept.keep, Kept.clear, Kept.foldl, Kept.foldl1, Kept.laneOff, Kept.portsRetrain, Kept.setLocked]

theorem Kept.restartLanes {fx : Bool} {s0 s : State} (hk : Kept fx s0 s) (die : Nat) : Kept fx s0 (State.restartLanes s die) := by
  grind [State.restartLanes, Kept.mk', Otp.noLess_refl, Kept.keep, Kept.clear, Kept.foldl, Kept.foldl1, Kept.startLane]

theorem Kept.lctlWrite {fx : Bool} {s0 s : State} (hk : Kept fx s0 s) (die l : Nat) (w : Word) : Kept fx s0 (State.lctlWrite s die l w).1 := by
  grind [State.lctlWrite, Kept.mk', Otp.noLess_refl, Kept.keep, Kept.clear, Kept.foldl, Kept.foldl1, Kept.laneConfig, Kept.laneOff, Kept.setLane, Kept.startLane, Kept.wr]

theorem Kept.recal {fx : Bool} {s0 s : State} (hk : Kept fx s0 s) (die l : Nat) : Kept fx s0 (State.recal s die l) := by
  unfold State.recal; simp +contextual (maxDischargeDepth := 40) only [hk, Kept.mk', Otp.noLess_refl, Kept.keep, Kept.clear, Kept.ite, Kept.ite1, Kept.foldl, Kept.foldl1, Kept.portsRetrain, Kept.setLane]

theorem Kept.slip {fx : Bool} {s0 s : State} (hk : Kept fx s0 s) (die l : Nat) : Kept fx s0 (State.slip s die l).1 := by
  unfold State.slip; simp +contextual (maxDischargeDepth := 40) only [hk, Kept.mk', Otp.noLess_refl, Kept.keep, Kept.clear, Kept.ite, Kept.ite1, Kept.foldl, Kept.foldl1, Kept.setLane]

theorem Kept.prbsClear {fx : Bool} {s0 s : State} (hk : Kept fx s0 s) (die l : Nat) : Kept fx s0 (State.prbsClear s die l) := by
  unfold State.prbsClear; simp +contextual (maxDischargeDepth := 40) only [hk, Kept.mk', Otp.noLess_refl, Kept.keep, Kept.clear, Kept.ite, Kept.ite1, Kept.foldl, Kept.foldl1, Kept.wr]

theorem Kept.lcmdWrite {fx : Bool} {s0 s : State} (hk : Kept fx s0 s) (die l : Nat) (w : Word) : Kept fx s0 (State.lcmdWrite s die l w).1 := by
  unfold State.lcmdWrite; simp +contextual (maxDischargeDepth := 40) only [hk, Kept.mk', Otp.noLess_refl, Kept.keep, Kept.clear, Kept.ite, Kept.ite1, Kept.foldl, Kept.foldl1, Kept.prbsClear, Kept.recal, Kept.slip]

theorem Kept.txeqWrite {fx : Bool} {s0 s : State} (hk : Kept fx s0 s) (die l : Nat) (w : Word) : Kept fx s0 (State.txeqWrite s die l w) := by
  unfold State.txeqWrite; simp +contextual (maxDischargeDepth := 40) only [hk, Kept.mk', Otp.noLess_refl, Kept.keep, Kept.clear, Kept.ite, Kept.ite1, Kept.foldl, Kept.foldl1, Kept.laneConfig, Kept.wr]

theorem Kept.rxeqWrite {fx : Bool} {s0 s : State} (hk : Kept fx s0 s) (die l word : Nat) (w : Word) : Kept fx s0 (State.rxeqWrite s die l word w).1 := by
  unfold State.rxeqWrite; simp +contextual (maxDischargeDepth := 40) only [hk, Kept.mk', Otp.noLess_refl, Kept.keep, Kept.clear, Kept.ite, Kept.ite1, Kept.foldl, Kept.foldl1, Kept.wr]

theorem Kept.eyeScan {fx : Bool} {s0 s : State} (hk : Kept fx s0 s) (die l : Nat) (w : Word) : Kept fx s0 (State.eyeScan s die l w).1 := by
  unfold State.eyeScan; simp +contextual (maxDischargeDepth := 40) only [hk, Kept.mk', Otp.noLess_refl, Kept.keep, Kept.clear, Kept.ite, Kept.ite1, Kept.foldl, Kept.foldl1, Kept.setLane, Kept.wr]

theorem Kept.qrefWrite {fx : Bool} {s0 s : State} (hk : Kept fx s0 s) (die q : Nat) (w : Word) : Kept fx s0 (State.qrefWrite s die q w).1 := by
  grind [State.qrefWrite, Kept.mk', Otp.noLess_refl, Kept.keep, Kept.clear, Kept.foldl, Kept.foldl1, Kept.quadConfig, Kept.wr]

theorem Kept.qpllWrite {fx : Bool} {s0 s : State} (hk : Kept fx s0 s) (die q : Nat) (b : Bool) (w : Word) : Kept fx s0 (State.qpllWrite s die q b w).1 := by
  unfold State.qpllWrite; simp +contextual (maxDischargeDepth := 40) only [hk, Kept.mk', Otp.noLess_refl, Kept.keep, Kept.clear, Kept.ite, Kept.ite1, Kept.foldl, Kept.foldl1, Kept.quadConfig, Kept.setLocked, Kept.wr]

theorem Kept.laneCalibrated {fx : Bool} {s0 s : State} (hk : Kept fx s0 s) (die l : Nat) : Kept fx s0 (State.laneCalibrated s die l) := by
  unfold State.laneCalibrated; simp +contextual (maxDischargeDepth := 40) only [hk, Kept.mk', Otp.noLess_refl, Kept.keep, Kept.clear, Kept.ite, Kept.ite1, Kept.foldl, Kept.foldl1, Kept.setLane]

theorem Kept.cdrLock {fx : Bool} {s0 s : State} (hk : Kept fx s0 s) (die l : Nat) (late : Bool) : Kept fx s0 (State.cdrLock s die l late) := by
  unfold State.cdrLock; simp +contextual (maxDischargeDepth := 40) only [hk, Kept.mk', Otp.noLess_refl, Kept.keep, Kept.clear, Kept.ite, Kept.ite1, Kept.foldl, Kept.foldl1, Kept.flag, Kept.lateArrival, Kept.setLane]

theorem Kept.cdrTimeout {fx : Bool} {s0 s : State} (hk : Kept fx s0 s) (die l : Nat) : Kept fx s0 (State.cdrTimeout s die l) := by
  unfold State.cdrTimeout; simp +contextual (maxDischargeDepth := 40) only [hk, Kept.mk', Otp.noLess_refl, Kept.keep, Kept.clear, Kept.ite, Kept.ite1, Kept.foldl, Kept.foldl1, Kept.laneFault]

theorem Kept.adapted {fx : Bool} {s0 s : State} (hk : Kept fx s0 s) (die l : Nat) (eq : List Word) (late : Bool) : Kept fx s0 (State.adapted s die l eq late) := by
  unfold State.adapted; simp +contextual (maxDischargeDepth := 40) only [hk, Kept.mk', Otp.noLess_refl, Kept.keep, Kept.clear, Kept.ite, Kept.ite1, Kept.foldl, Kept.foldl1, Kept.flag, Kept.lateArrival, Kept.setLane]

theorem Kept.adaptFail {fx : Bool} {s0 s : State} (hk : Kept fx s0 s) (die l : Nat) : Kept fx s0 (State.adaptFail s die l) := by
  unfold State.adaptFail; simp +contextual (maxDischargeDepth := 40) only [hk, Kept.mk', Otp.noLess_refl, Kept.keep, Kept.clear, Kept.ite, Kept.ite1, Kept.foldl, Kept.foldl1, Kept.laneFault]

theorem Kept.lossOfLock {fx : Bool} {s0 s : State} (hk : Kept fx s0 s) (die l : Nat) : Kept fx s0 (State.lossOfLock s die l) := by
  unfold State.lossOfLock; simp +contextual (maxDischargeDepth := 40) only [hk, Kept.mk', Otp.noLess_refl, Kept.keep, Kept.clear, Kept.ite, Kept.ite1, Kept.foldl, Kept.foldl1, Kept.flagErr, Kept.portsRetrain, Kept.setLane]

theorem Kept.blockLock {fx : Bool} {s0 s : State} (hk : Kept fx s0 s) (die l : Nat) (on : Bool) : Kept fx s0 (State.blockLock s die l on) := by
  unfold State.blockLock; simp +contextual (maxDischargeDepth := 40) only [hk, Kept.mk', Otp.noLess_refl, Kept.keep, Kept.clear, Kept.ite, Kept.ite1, Kept.foldl, Kept.foldl1, Kept.flagIf, Kept.setLane]

theorem Kept.efomMeasured {fx : Bool} {s0 s : State} (hk : Kept fx s0 s) (die l efom : Nat) (eq : List Word) (errors : Nat) : Kept fx s0 (State.efomMeasured s die l efom eq errors) := by
  unfold State.efomMeasured; simp +contextual (maxDischargeDepth := 40) only [hk, Kept.mk', Otp.noLess_refl, Kept.keep, Kept.clear, Kept.ite, Kept.ite1, Kept.foldl, Kept.foldl1, Kept.count, Kept.setLane]

theorem Kept.eyeScanDone {fx : Bool} {s0 s : State} (hk : Kept fx s0 s) (die l errors : Nat) : Kept fx s0 (State.eyeScanDone s die l errors) := by
  unfold State.eyeScanDone; simp +contextual (maxDischargeDepth := 40) only [hk, Kept.mk', Otp.noLess_refl, Kept.keep, Kept.clear, Kept.ite, Kept.ite1, Kept.foldl, Kept.foldl1, Kept.setLane, Kept.wr]

theorem Kept.plConfig {fx : Bool} {s0 s : State} (hk : Kept fx s0 s)  : Kept fx s0 (State.plConfig s) := by
  unfold State.plConfig; simp +contextual (maxDischargeDepth := 40) only [hk, Kept.mk', Otp.noLess_refl, Kept.keep, Kept.clear, Kept.ite, Kept.ite1, Kept.foldl, Kept.foldl1, Kept.flagErr]

theorem Kept.linksLost {fx : Bool} {s0 s : State} (hk : Kept fx s0 s)  : Kept fx s0 (State.linksLost s) := by
  grind [State.linksLost, Kept.mk', Otp.noLess_refl, Kept.keep, Kept.clear, Kept.foldl, Kept.foldl1, Kept.linkLoss]

theorem Kept.setAlign {fx : Bool} {s0 s : State} (hk : Kept fx s0 s) (a : AlignState) : Kept fx s0 (State.setAlign s a) := by
  unfold State.setAlign; simp +contextual (maxDischargeDepth := 40) only [hk, Kept.mk', Otp.noLess_refl, Kept.keep, Kept.clear, Kept.ite, Kept.ite1, Kept.foldl, Kept.foldl1]

theorem Kept.upstreamLost {fx : Bool} {s0 s : State} (hk : Kept fx s0 s)  : Kept fx s0 (State.upstreamLost s) := by
  grind [State.upstreamLost, Kept.mk', Otp.noLess_refl, Kept.keep, Kept.clear, Kept.foldl, Kept.foldl1, Kept.setAlign]

theorem Kept.portDown {fx : Bool} {s0 s : State} (hk : Kept fx s0 s) (p : Nat) : Kept fx s0 (State.portDown s p) := by
  unfold State.portDown; simp +contextual (maxDischargeDepth := 40) only [hk, Kept.mk', Otp.noLess_refl, Kept.keep, Kept.clear, Kept.ite, Kept.ite1, Kept.foldl, Kept.foldl1, Kept.linksLost, Kept.setPort, Kept.upstreamLost]

theorem Kept.portsOfLostDie {fx : Bool} {s0 s : State} (hk : Kept fx s0 s) (die : Nat) : Kept fx s0 (State.portsOfLostDie s die) := by
  grind [State.portsOfLostDie, Kept.mk', Otp.noLess_refl, Kept.keep, Kept.clear, Kept.foldl, Kept.foldl1, Kept.portDown]

theorem Kept.portEnable {fx : Bool} {s0 s : State} (hk : Kept fx s0 s) (p : Nat) (w : Word) : Kept fx s0 (State.portEnable s p w) := by
  grind [State.portEnable, Kept.mk', Otp.noLess_refl, Kept.keep, Kept.clear, Kept.foldl, Kept.foldl1, Kept.laneOff, Kept.setLocked, Kept.setPort, Kept.startLane, Kept.wr]

theorem Kept.portDisable {fx : Bool} {s0 s : State} (hk : Kept fx s0 s) (p : Nat) : Kept fx s0 (State.portDisable s p) := by
  unfold State.portDisable; simp +contextual (maxDischargeDepth := 40) only [hk, Kept.mk', Otp.noLess_refl, Kept.keep, Kept.clear, Kept.ite, Kept.ite1, Kept.foldl, Kept.foldl1, Kept.portDown, Kept.setAlign, Kept.wr]

theorem Kept.pctlWrite {fx : Bool} {s0 s : State} (hk : Kept fx s0 s) (p : Nat) (w : Word) : Kept fx s0 (State.pctlWrite s p w).1 := by
  unfold State.pctlWrite; simp +contextual (maxDischargeDepth := 40) only [hk, Kept.mk', Otp.noLess_refl, Kept.keep, Kept.clear, Kept.ite, Kept.ite1, Kept.foldl, Kept.foldl1, Kept.plConfig, Kept.portDisable, Kept.portEnable, Kept.wr]

theorem Kept.pdomWrite {fx : Bool} {s0 s : State} (hk : Kept fx s0 s) (p : Nat) (w : Word) : Kept fx s0 (State.pdomWrite s p w).1 := by
  unfold State.pdomWrite; simp +contextual (maxDischargeDepth := 40) only [hk, Kept.mk', Otp.noLess_refl, Kept.keep, Kept.clear, Kept.ite, Kept.ite1, Kept.foldl, Kept.foldl1, Kept.wr]

theorem Kept.gctlWrite {fx : Bool} {s0 s : State} (hk : Kept fx s0 s) (w : Word) : Kept fx s0 (State.gctlWrite s w).1 := by
  unfold State.gctlWrite; simp +contextual (maxDischargeDepth := 40) only [hk, Kept.mk', Otp.noLess_refl, Kept.keep, Kept.clear, Kept.ite, Kept.ite1, Kept.foldl, Kept.foldl1, Kept.plConfig, Kept.setAlign, Kept.wr]

theorem Kept.eventSend {fx : Bool} {s0 s : State} (hk : Kept fx s0 s) (p msg : Nat) : Kept fx s0 (State.eventSend s p msg) := by
  unfold State.eventSend; simp +contextual (maxDischargeDepth := 40) only [hk, Kept.mk', Otp.noLess_refl, Kept.keep, Kept.clear, Kept.ite, Kept.ite1, Kept.foldl, Kept.foldl1, Kept.flag, Kept.plConfig, Kept.setPort]

theorem Kept.eventPop {fx : Bool} {s0 s : State} (hk : Kept fx s0 s)  : Kept fx s0 (State.eventPop s) := by
  grind [State.eventPop, Kept.mk', Otp.noLess_refl, Kept.keep, Kept.clear, Kept.foldl, Kept.foldl1, Kept.flag]

theorem Kept.frameTransmit {fx : Bool} {s0 s : State} (hk : Kept fx s0 s) (p k : Nat) : Kept fx s0 (State.frameTransmit s p k) := by
  grind [State.frameTransmit, Kept.mk', Otp.noLess_refl, Kept.keep, Kept.clear, Kept.foldl, Kept.foldl1, Kept.linkWord, Kept.setPort]

theorem Kept.linkMissing {fx : Bool} {s0 s : State} (hk : Kept fx s0 s) (i : Nat) : Kept fx s0 (State.linkMissing s i) := by
  unfold State.linkMissing; simp +contextual (maxDischargeDepth := 40) only [hk, Kept.mk', Otp.noLess_refl, Kept.keep, Kept.clear, Kept.ite, Kept.ite1, Kept.foldl, Kept.foldl1, Kept.linkLoss, Kept.setDom]

theorem Kept.linkTake {fx : Bool} {s0 s : State} (hk : Kept fx s0 s) (p i : Nat) (x v : DWord) : Kept fx s0 (State.linkTake s p i x v) := by
  unfold State.linkTake; simp +contextual (maxDischargeDepth := 40) only [hk, Kept.mk', Otp.noLess_refl, Kept.keep, Kept.clear, Kept.ite, Kept.ite1, Kept.foldl, Kept.foldl1, Kept.flagErr, Kept.linkMissing, Kept.linkWord]

theorem Kept.frameDomains {fx : Bool} {s0 s : State} (hk : Kept fx s0 s) (p : Nat) (f : Frame) : Kept fx s0 (State.frameDomains s p f) := by
  grind [State.frameDomains, Kept.mk', Otp.noLess_refl, Kept.keep, Kept.clear, Kept.foldl, Kept.foldl1, Kept.linkMissing, Kept.linkTake, Kept.setPort]

theorem Kept.frameEvents {fx : Bool} {s0 s : State} (hk : Kept fx s0 s) (p : Nat) (f : Frame) : Kept fx s0 (State.frameEvents s p f) := by
  grind [State.frameEvents, Kept.mk', Otp.noLess_refl, Kept.keep, Kept.clear, Kept.foldl, Kept.foldl1, Kept.flag]

theorem Kept.exchange {fx : Bool} {s0 s : State} (hk : Kept fx s0 s) (p : Nat) (f : Frame) (t4 : DWord) : Kept fx s0 (State.exchange s p f t4).1 := by
  grind [State.exchange, Kept.mk', Otp.noLess_refl, Kept.keep, Kept.clear, Kept.foldl, Kept.foldl1, Kept.setPort]

theorem Kept.endLocking {fx : Bool} {s0 s : State} (hk : Kept fx s0 s)  : Kept fx s0 (State.endLocking s) := by
  unfold State.endLocking; simp +contextual (maxDischargeDepth := 40) only [hk, Kept.mk', Otp.noLess_refl, Kept.keep, Kept.clear, Kept.ite, Kept.ite1, Kept.foldl, Kept.foldl1, Kept.flagErr, Kept.setAlign]

theorem Kept.alignFrame {fx : Bool} {s0 s : State} (hk : Kept fx s0 s) (took : Bool) : Kept fx s0 (State.alignFrame s took) := by
  grind [State.alignFrame, Kept.mk', Otp.noLess_refl, Kept.keep, Kept.clear, Kept.foldl, Kept.foldl1, Kept.endLocking, Kept.setAlign, Kept.setPort]

theorem Kept.frameReceive {fx : Bool} {s0 s : State} (hk : Kept fx s0 s) (p k : Nat) (f : Frame) (crcOk : Bool) (ppm : Int) (late : Bool) : Kept fx s0 (State.frameReceive s p k f crcOk ppm late) := by
  unfold State.frameReceive; (repeat' split) <;> (first | assumption | (simp +contextual (maxDischargeDepth := 40) only [hk, Kept.mk', Otp.noLess_refl, Kept.keep, Kept.clear, Kept.ite, Kept.ite1, Kept.foldl, Kept.foldl1, Kept.alignFrame, Kept.count, Kept.exchange, Kept.flag, Kept.flagErr, Kept.frameDomains, Kept.frameEvents, Kept.lateArrival, Kept.linkMissing, Kept.setBit, Kept.setFld, Kept.setPort, Kept.wr]; done) | grind [Kept.mk', Otp.noLess_refl, Kept.keep, Kept.clear, Kept.foldl, Kept.foldl1, Kept.alignFrame, Kept.count, Kept.exchange, Kept.flag, Kept.flagErr, Kept.frameDomains, Kept.frameEvents, Kept.lateArrival, Kept.linkMissing, Kept.setBit, Kept.setFld, Kept.setPort, Kept.wr])

theorem Kept.frequencyError {fx : Bool} {s0 s : State} (hk : Kept fx s0 s)  : Kept fx s0 (State.frequencyError s) := by
  unfold State.frequencyError; simp +contextual (maxDischargeDepth := 40) only [hk, Kept.mk', Otp.noLess_refl, Kept.keep, Kept.clear, Kept.ite, Kept.ite1, Kept.foldl, Kept.foldl1, Kept.flagErr]

theorem Kept.slewTick {fx : Bool} {s0 s : State} (hk : Kept fx s0 s)  : Kept fx s0 (State.slewTick s) := by
  unfold State.slewTick; simp +contextual (maxDischargeDepth := 40) only [hk, Kept.mk', Otp.noLess_refl, Kept.keep, Kept.clear, Kept.ite, Kept.ite1, Kept.foldl, Kept.foldl1]

theorem Kept.stepDt {fx : Bool} {s0 s : State} (hk : Kept fx s0 s)  : Kept fx s0 (State.stepDt s) := by
  grind [State.stepDt, Kept.mk', Otp.noLess_refl, Kept.keep, Kept.clear, Kept.foldl, Kept.foldl1, Kept.flag, Kept.setPort]

theorem Kept.setFabric {fx : Bool} {s0 s : State} (hk : Kept fx s0 s) (f : Fabric → Fabric) : Kept fx s0 (State.setFabric s f) := by
  unfold State.setFabric; simp +contextual (maxDischargeDepth := 40) only [hk, Kept.mk', Otp.noLess_refl, Kept.keep, Kept.clear, Kept.ite, Kept.ite1, Kept.foldl, Kept.foldl1]

theorem Kept.setRegion {fx : Bool} {s0 s : State} (hk : Kept fx s0 s) (die rg : Nat) (x : Region) : Kept fx s0 (State.setRegion s die rg x) := by
  unfold State.setRegion; simp +contextual (maxDischargeDepth := 40) only [hk, Kept.mk', Otp.noLess_refl, Kept.keep, Kept.clear, Kept.ite, Kept.ite1, Kept.foldl, Kept.foldl1]

theorem Kept.initialise {fx : Bool} {s0 s : State} (hk : Kept fx s0 s) (die rg : Nat) : Kept fx s0 (State.initialise s die rg) := by
  unfold State.initialise; simp +contextual (maxDischargeDepth := 40) only [hk, Kept.mk', Otp.noLess_refl, Kept.keep, Kept.clear, Kept.ite, Kept.ite1, Kept.foldl, Kept.foldl1, Kept.setFabric]

theorem Kept.releaseInitial {fx : Bool} {s0 s : State} (hk : Kept fx s0 s) (die rg : Nat) : Kept fx s0 (State.releaseInitial s die rg) := by
  unfold State.releaseInitial; simp +contextual (maxDischargeDepth := 40) only [hk, Kept.mk', Otp.noLess_refl, Kept.keep, Kept.clear, Kept.ite, Kept.ite1, Kept.foldl, Kept.foldl1, Kept.setFabric]

theorem Kept.strobeAt {fx : Bool} {s0 s : State} (hk : Kept fx s0 s) (die rg : Nat) (x : DWord) : Kept fx s0 (State.strobeAt s die rg x) := by
  unfold State.strobeAt; simp +contextual (maxDischargeDepth := 40) only [hk, Kept.mk', Otp.noLess_refl, Kept.keep, Kept.clear, Kept.ite, Kept.ite1, Kept.foldl, Kept.foldl1, Kept.setFabric]

theorem Kept.strobeTick {fx : Bool} {s0 s : State} (hk : Kept fx s0 s)  : Kept fx s0 (State.strobeTick s) := by
  grind [State.strobeTick, Kept.mk', Otp.noLess_refl, Kept.keep, Kept.clear, Kept.foldl, Kept.foldl1, Kept.strobeAt]

theorem Kept.spinePresent {fx : Bool} {s0 s : State} (hk : Kept fx s0 s)  : Kept fx s0 (State.spinePresent s) := by
  unfold State.spinePresent; simp +contextual (maxDischargeDepth := 40) only [hk, Kept.mk', Otp.noLess_refl, Kept.keep, Kept.clear, Kept.ite, Kept.ite1, Kept.foldl, Kept.foldl1]

theorem Kept.captureDeliver {fx : Bool} {s0 s : State} (hk : Kept fx s0 s) (die rg pin : Nat) (record : List Byte) : Kept fx s0 (State.captureDeliver s die rg pin record) := by
  unfold State.captureDeliver; simp +contextual (maxDischargeDepth := 40) only [hk, Kept.mk', Otp.noLess_refl, Kept.keep, Kept.clear, Kept.ite, Kept.ite1, Kept.foldl, Kept.foldl1, Kept.capture, Kept.count, Kept.setFabric]

theorem Kept.restoreWrite {fx : Bool} {s0 s : State} (hk : Kept fx s0 s) (die : Nat) (w : Word) : Kept fx s0 (State.restoreWrite s die w).1 := by
  grind [State.restoreWrite, Kept.mk', Otp.noLess_refl, Kept.keep, Kept.clear, Kept.foldl, Kept.foldl1, Kept.setFabric, Kept.wr]

theorem Kept.restoreDone {fx : Bool} {s0 s : State} (hk : Kept fx s0 s) (die : Nat) : Kept fx s0 (State.restoreDone s die) := by
  grind [State.restoreDone, Kept.mk', Otp.noLess_refl, Kept.keep, Kept.clear, Kept.foldl, Kept.foldl1, Kept.initialise, Kept.releaseInitial, Kept.setBit, Kept.setFabric]

theorem Kept.setLaneVal {fx : Bool} {s0 s : State} (hk : Kept fx s0 s) (mem lane v : Nat) : Kept fx s0 (State.setLaneVal s mem lane v) := by
  unfold State.setLaneVal; simp +contextual (maxDischargeDepth := 40) only [hk, Kept.mk', Otp.noLess_refl, Kept.keep, Kept.clear, Kept.ite, Kept.ite1, Kept.foldl, Kept.foldl1, Kept.setFabric]

theorem Kept.memStore {fx : Bool} {s0 s : State} (hk : Kept fx s0 s) (mem : Nat) (ecc : Bool) (a : PortAccess) : Kept fx s0 (State.memStore s mem ecc a) := by
  grind [State.memStore, Kept.mk', Otp.noLess_refl, Kept.keep, Kept.clear, Kept.foldl, Kept.foldl1, Kept.setLaneVal]

theorem Kept.memClock {fx : Bool} {s0 s : State} (hk : Kept fx s0 s) (mem port : Nat) (v : Option Nat) : Kept fx s0 (State.memClock s mem port v) := by
  unfold State.memClock; simp +contextual (maxDischargeDepth := 40) only [hk, Kept.mk', Otp.noLess_refl, Kept.keep, Kept.clear, Kept.ite, Kept.ite1, Kept.foldl, Kept.foldl1, Kept.setFabric]

theorem Kept.memoryAccess {fx : Bool} {s0 s : State} (hk : Kept fx s0 s) (die rg m : Nat) (ecc same : Bool) (a b : Option PortAccess) : Kept fx s0 (State.memoryAccess s die rg m ecc same a b) := by
  grind [State.memoryAccess, Kept.mk', Otp.noLess_refl, Kept.keep, Kept.clear, Kept.foldl, Kept.foldl1, Kept.drawn, Kept.memClock, Kept.memStore]

theorem Kept.setXfifo {fx : Bool} {s0 s : State} (hk : Kept fx s0 s) (mem : Nat) (x : XFifo) : Kept fx s0 (State.setXfifo s mem x) := by
  unfold State.setXfifo; simp +contextual (maxDischargeDepth := 40) only [hk, Kept.mk', Otp.noLess_refl, Kept.keep, Kept.clear, Kept.ite, Kept.ite1, Kept.foldl, Kept.foldl1, Kept.setFabric]

theorem Kept.fifoWrite {fx : Bool} {s0 s : State} (hk : Kept fx s0 s) (mem width data crossed : Nat) : Kept fx s0 (State.fifoWrite s mem width data crossed) := by
  unfold State.fifoWrite; simp +contextual (maxDischargeDepth := 40) only [hk, Kept.mk', Otp.noLess_refl, Kept.keep, Kept.clear, Kept.ite, Kept.ite1, Kept.foldl, Kept.foldl1, Kept.setXfifo]

theorem Kept.fifoRead {fx : Bool} {s0 s : State} (hk : Kept fx s0 s) (mem crossed : Nat) : Kept fx s0 (State.fifoRead s mem crossed) := by
  unfold State.fifoRead; simp +contextual (maxDischargeDepth := 40) only [hk, Kept.mk', Otp.noLess_refl, Kept.keep, Kept.clear, Kept.ite, Kept.ite1, Kept.foldl, Kept.foldl1, Kept.setXfifo]

theorem Kept.fifoReset {fx : Bool} {s0 s : State} (hk : Kept fx s0 s) (mem : Nat) (e : FifoReset) : Kept fx s0 (State.fifoReset s mem e) := by
  unfold State.fifoReset; (repeat' split) <;> (first | assumption | (simp +contextual (maxDischargeDepth := 40) only [hk, Kept.mk', Otp.noLess_refl, Kept.keep, Kept.clear, Kept.ite, Kept.ite1, Kept.foldl, Kept.foldl1, Kept.setXfifo]; done) | grind [Kept.mk', Otp.noLess_refl, Kept.keep, Kept.clear, Kept.foldl, Kept.foldl1, Kept.setXfifo])

theorem Kept.macOperation {fx : Bool} {s0 s : State} (hk : Kept fx s0 s) (die rg slice : Nat) (o : MacOp) : Kept fx s0 (State.macOperation s die rg slice o) := by
  unfold State.macOperation; simp +contextual (maxDischargeDepth := 40) only [hk, Kept.mk', Otp.noLess_refl, Kept.keep, Kept.clear, Kept.ite, Kept.ite1, Kept.foldl, Kept.foldl1, Kept.drawn, Kept.setFabric]

theorem Kept.setLoupe {fx : Bool} {s0 s : State} (hk : Kept fx s0 s) (die : Nat) (x : Loupe) : Kept fx s0 (State.setLoupe s die x) := by
  unfold State.setLoupe; simp +contextual (maxDischargeDepth := 40) only [hk, Kept.mk', Otp.noLess_refl, Kept.keep, Kept.clear, Kept.ite, Kept.ite1, Kept.foldl, Kept.foldl1, Kept.setFabric]

theorem Kept.noCapture {fx : Bool} {s0 s : State} (hk : Kept fx s0 s) (die rg : Nat) : Kept fx s0 (State.noCapture s die rg) := by
  unfold State.noCapture; simp +contextual (maxDischargeDepth := 40) only [hk, Kept.mk', Otp.noLess_refl, Kept.keep, Kept.clear, Kept.ite, Kept.ite1, Kept.foldl, Kept.foldl1, Kept.raise, Kept.releaseInitial, Kept.setBit, Kept.setLoupe]

theorem Kept.loupeHeld {fx : Bool} {s0 s : State} (hk : Kept fx s0 s) (die : Nat) : Kept fx s0 (State.loupeHeld s die) := by
  unfold State.loupeHeld; simp +contextual (maxDischargeDepth := 40) only [hk, Kept.mk', Otp.noLess_refl, Kept.keep, Kept.clear, Kept.ite, Kept.ite1, Kept.foldl, Kept.foldl1, Kept.setLoupe]

theorem Kept.loupeTrigger {fx : Bool} {s0 s : State} (hk : Kept fx s0 s) (die p rank : Nat) (x : DWord) : Kept fx s0 (State.loupeTrigger s die p rank x).1 := by
  grind [State.loupeTrigger, Kept.mk', Otp.noLess_refl, Kept.keep, Kept.clear, Kept.foldl, Kept.foldl1, Kept.count, Kept.flagErr, Kept.loupeHeld, Kept.noCapture, Kept.setLoupe, Kept.wr]

theorem Kept.loupeCalendar {fx : Bool} {s0 s : State} (hk : Kept fx s0 s) (die p : Nat) (x : DWord) : Kept fx s0 (State.loupeCalendar s die p x).1 := by
  unfold State.loupeCalendar; simp +contextual (maxDischargeDepth := 40) only [hk, Kept.mk', Otp.noLess_refl, Kept.keep, Kept.clear, Kept.ite, Kept.ite1, Kept.foldl, Kept.foldl1, Kept.setLoupe]

theorem Kept.loupeDue {fx : Bool} {s0 s : State} (hk : Kept fx s0 s) (die : Nat) (x : DWord) : Kept fx s0 (State.loupeDue s die x) := by
  grind [State.loupeDue, Kept.mk', Otp.noLess_refl, Kept.keep, Kept.clear, Kept.foldl, Kept.foldl1, Kept.loupeTrigger, Kept.setLoupe]

theorem Kept.captureRegion {fx : Bool} {s0 s : State} (hk : Kept fx s0 s) (die rg : Nat) (x : DWord) : Kept fx s0 (State.captureRegion s die rg x) := by
  unfold State.captureRegion; simp +contextual (maxDischargeDepth := 40) only [hk, Kept.mk', Otp.noLess_refl, Kept.keep, Kept.clear, Kept.ite, Kept.ite1, Kept.foldl, Kept.foldl1, Kept.drawn, Kept.releaseInitial, Kept.setBit, Kept.setLoupe]

theorem Kept.captureEdge {fx : Bool} {s0 s : State} (hk : Kept fx s0 s) (die k : Nat) (late : Bool) : Kept fx s0 (State.captureEdge s die k late) := by
  unfold State.captureEdge
  dsimp only
  have h1 : ∀ l : List Nat, Kept fx s0 (l.foldl (fun s r => s.noCapture die r) s) := fun l => Kept.foldl hk (fun _ _ h => h.noCapture _ _)
  refine Kept.ite hk ?_
  split
  · exact (h1 _).loupeHeld _
  · exact Kept.loupeHeld (Kept.ite (Kept.lateArrival (Kept.flag (Kept.wrPair (Kept.foldl (h1 _) (fun _ _ h => h.captureRegion _ _ _)) _ _ _) _ _) _ _ _) (Kept.wrPair (Kept.foldl (h1 _) (fun _ _ h => h.captureRegion _ _ _)) _ _ _)) _

theorem Kept.captureTimeout {fx : Bool} {s0 s : State} (hk : Kept fx s0 s) (die : Nat) : Kept fx s0 (State.captureTimeout s die) := by
  grind [State.captureTimeout, Kept.mk', Otp.noLess_refl, Kept.keep, Kept.clear, Kept.foldl, Kept.foldl1, Kept.loupeHeld, Kept.noCapture]

theorem Kept.loupeRelease {fx : Bool} {s0 s : State} (hk : Kept fx s0 s) (die : Nat) : Kept fx s0 (State.loupeRelease s die) := by
  unfold State.loupeRelease; simp +contextual (maxDischargeDepth := 40) only [hk, Kept.mk', Otp.noLess_refl, Kept.keep, Kept.clear, Kept.ite, Kept.ite1, Kept.foldl, Kept.foldl1, Kept.setLoupe, Kept.wr]

theorem Kept.loupeReadout {fx : Bool} {s0 s : State} (hk : Kept fx s0 s) (die : Nat) : Kept fx s0 (State.loupeReadout s die).1 := by
  unfold State.loupeReadout; simp +contextual (maxDischargeDepth := 40) only [hk, Kept.mk', Otp.noLess_refl, Kept.keep, Kept.clear, Kept.ite, Kept.ite1, Kept.foldl, Kept.foldl1, Kept.flagErr, Kept.setLoupe]

theorem Kept.lpCmdWrite {fx : Bool} {s0 s : State} (hk : Kept fx s0 s) (die : Nat) (w : Word) : Kept fx s0 (State.lpCmdWrite s die w).1 := by
  unfold State.lpCmdWrite; simp +contextual (maxDischargeDepth := 40) only [hk, Kept.mk', Otp.noLess_refl, Kept.keep, Kept.clear, Kept.ite, Kept.ite1, Kept.foldl, Kept.foldl1, Kept.loupeReadout, Kept.loupeRelease, Kept.loupeTrigger, Kept.wr]

theorem Kept.readoutDone {fx : Bool} {s0 s : State} (hk : Kept fx s0 s) (die : Nat) : Kept fx s0 (State.readoutDone s die) := by
  grind [State.readoutDone, Kept.mk', Otp.noLess_refl, Kept.keep, Kept.clear, Kept.foldl, Kept.foldl1, Kept.setLoupe, Kept.streamPush, Kept.takeUnits]

theorem Kept.lpCtlWrite {fx : Bool} {s0 s : State} (hk : Kept fx s0 s) (die : Nat) (w : Word) : Kept fx s0 (State.lpCtlWrite s die w) := by
  unfold State.lpCtlWrite; simp +contextual (maxDischargeDepth := 40) only [hk, Kept.mk', Otp.noLess_refl, Kept.keep, Kept.clear, Kept.ite, Kept.ite1, Kept.foldl, Kept.foldl1, Kept.flagErr, Kept.wr]

theorem Kept.lpProfWrite {fx : Bool} {s0 s : State} (hk : Kept fx s0 s) (die n : Nat) (w : Word) : Kept fx s0 (State.lpProfWrite s die n w).1 := by
  unfold State.lpProfWrite; simp +contextual (maxDischargeDepth := 40) only [hk, Kept.mk', Otp.noLess_refl, Kept.keep, Kept.clear, Kept.ite, Kept.ite1, Kept.foldl, Kept.foldl1, Kept.wr]

theorem Kept.setLive {fx : Bool} {s0 s : State} (hk : Kept fx s0 s) (f : Live → Live) : Kept fx s0 (State.setLive s f) := by
  unfold State.setLive; simp +contextual (maxDischargeDepth := 40) only [hk, Kept.mk', Otp.noLess_refl, Kept.keep, Kept.clear, Kept.ite, Kept.ite1, Kept.foldl, Kept.foldl1]

theorem Kept.setPortJobs {fx : Bool} {s0 s : State} (hk : Kept fx s0 s) (die : Nat) (l : List PortJob) : Kept fx s0 (State.setPortJobs s die l) := by
  unfold State.setPortJobs; simp +contextual (maxDischargeDepth := 40) only [hk, Kept.mk', Otp.noLess_refl, Kept.keep, Kept.clear, Kept.ite, Kept.ite1, Kept.foldl, Kept.foldl1, Kept.setLive]

theorem Kept.setScrubber {fx : Bool} {s0 s : State} (hk : Kept fx s0 s) (die n : Nat) (x : Scrubber) : Kept fx s0 (State.setScrubber s die n x) := by
  unfold State.setScrubber; simp +contextual (maxDischargeDepth := 40) only [hk, Kept.mk', Otp.noLess_refl, Kept.keep, Kept.clear, Kept.ite, Kept.ite1, Kept.foldl, Kept.foldl1, Kept.setLive]

theorem Kept.setLibEntry {fx : Bool} {s0 s : State} (hk : Kept fx s0 s) (n : Nat) (x : LibEntry) : Kept fx s0 (State.setLibEntry s n x) := by
  unfold State.setLibEntry; simp +contextual (maxDischargeDepth := 40) only [hk, Kept.mk', Otp.noLess_refl, Kept.keep, Kept.clear, Kept.ite, Kept.ite1, Kept.foldl, Kept.foldl1, Kept.setLive]

theorem Kept.bzLog {fx : Bool} {s0 s : State} (hk : Kept fx s0 s) (kind index hash : Nat) : Kept fx s0 (State.bzLog s kind index hash) := by
  unfold State.bzLog; simp +contextual (maxDischargeDepth := 40) only [hk, Kept.mk', Otp.noLess_refl, Kept.keep, Kept.clear, Kept.ite, Kept.ite1, Kept.foldl, Kept.foldl1]

theorem Kept.facetImage8 {fx : Bool} {s0 s : State} (hk : Kept fx s0 s) (die off : Nat) (b : List Byte) : Kept fx s0 (State.facetImage8 s die off b) := by
  unfold State.facetImage8; simp +contextual (maxDischargeDepth := 40) only [hk, Kept.mk', Otp.noLess_refl, Kept.keep, Kept.clear, Kept.ite, Kept.ite1, Kept.foldl, Kept.foldl1, Kept.setFacet]

theorem Kept.facetImage {fx : Bool} {s0 s : State} (hk : Kept fx s0 s) (die off : Nat) (data : List Byte) : Kept fx s0 (State.facetImage s die off data) := by
  grind [State.facetImage, Kept.mk', Otp.noLess_refl, Kept.keep, Kept.clear, Kept.foldl, Kept.foldl1, Kept.facetImage8]

theorem Kept.blockImage {fx : Bool} {s0 s : State} (hk : Kept fx s0 s) (die rg : Nat) (addr : Nat) (data : List Byte) : Kept fx s0 (State.blockImage s die rg addr data) := by
  unfold State.blockImage; simp +contextual (maxDischargeDepth := 40) only [hk, Kept.mk', Otp.noLess_refl, Kept.keep, Kept.clear, Kept.ite, Kept.ite1, Kept.foldl, Kept.foldl1, Kept.setFabric]

theorem Kept.loadSegment {fx : Bool} {s0 s : State} (hk : Kept fx s0 s) (die rg : Nat) (g : Segment) : Kept fx s0 (State.loadSegment s die rg g) := by
  grind [State.loadSegment, Kept.mk', Otp.noLess_refl, Kept.keep, Kept.clear, Kept.foldl, Kept.foldl1, Kept.blockImage, Kept.facetImage]

theorem Kept.newFrames {fx : Bool} {s0 s : State} (hk : Kept fx s0 s) (die rg crc : Nat) : Kept fx s0 (State.newFrames s die rg crc) := by
  unfold State.newFrames; simp +contextual (maxDischargeDepth := 40) only [hk, Kept.mk', Otp.noLess_refl, Kept.keep, Kept.clear, Kept.ite, Kept.ite1, Kept.foldl, Kept.foldl1, Kept.initialise, Kept.setFabric, Kept.setLive, Kept.wr]

theorem Kept.zeroRegion {fx : Bool} {s0 s : State} (hk : Kept fx s0 s) (die rg : Nat) : Kept fx s0 (State.zeroRegion s die rg) := by
  grind [State.zeroRegion, Kept.mk', Otp.noLess_refl, Kept.keep, Kept.clear, Kept.foldl, Kept.foldl1, Kept.initialise, Kept.setFabric, Kept.setFacet]

theorem Kept.takeDown {fx : Bool} {s0 s : State} (hk : Kept fx s0 s) (die rg : Nat) : Kept fx s0 (State.takeDown s die rg) := by
  unfold State.takeDown; simp +contextual (maxDischargeDepth := 40) only [hk, Kept.mk', Otp.noLess_refl, Kept.keep, Kept.clear, Kept.ite, Kept.ite1, Kept.foldl, Kept.foldl1, Kept.emptyReady, Kept.stopFacets]

theorem Kept.dropRepairs {fx : Bool} {s0 s : State} (hk : Kept fx s0 s) (die rg : Nat) : Kept fx s0 (State.dropRepairs s die rg) := by
  grind [State.dropRepairs, Kept.mk', Otp.noLess_refl, Kept.keep, Kept.clear, Kept.foldl, Kept.foldl1, Kept.setScrubber]

theorem Kept.startLoad {fx : Bool} {s0 s : State} (hk : Kept fx s0 s) (die rg : Nat) (entry : Option Nat) (st : RegionState) : Kept fx s0 (State.startLoad s die rg entry st) := by
  unfold State.startLoad; simp +contextual (maxDischargeDepth := 40) only [hk, Kept.mk', Otp.noLess_refl, Kept.keep, Kept.clear, Kept.ite, Kept.ite1, Kept.foldl, Kept.foldl1, Kept.dropRepairs, Kept.setBit, Kept.setPortJobs, Kept.setRegion, Kept.takeDown]

theorem Kept.loadRegion {fx : Bool} {s0 s : State} (hk : Kept fx s0 s) (die rg : Nat) (userPort : Bool) : Kept fx s0 (State.loadRegion s die rg userPort).1 := by
  unfold State.loadRegion; simp +contextual (maxDischargeDepth := 40) only [hk, Kept.mk', Otp.noLess_refl, Kept.keep, Kept.clear, Kept.ite, Kept.ite1, Kept.foldl, Kept.foldl1, Kept.startLoad]

theorem Kept.regionCommand {fx : Bool} {s0 s : State} (hk : Kept fx s0 s) (die rg : Nat) (release timed : Bool) : Kept fx s0 (State.regionCommand s die rg release timed).1 := by
  unfold State.regionCommand; simp +contextual (maxDischargeDepth := 40) only [hk, Kept.mk', Otp.noLess_refl, Kept.keep, Kept.clear, Kept.ite, Kept.ite1, Kept.foldl, Kept.foldl1, Kept.flagIf, Kept.setBit, Kept.setRegion]

theorem Kept.selftestRegion {fx : Bool} {s0 s : State} (hk : Kept fx s0 s) (die rg : Nat) : Kept fx s0 (State.selftestRegion s die rg).1 := by
  unfold State.selftestRegion; simp +contextual (maxDischargeDepth := 40) only [hk, Kept.mk', Otp.noLess_refl, Kept.keep, Kept.clear, Kept.ite, Kept.ite1, Kept.foldl, Kept.foldl1, Kept.startLoad]

theorem Kept.abortRegion {fx : Bool} {s0 s : State} (hk : Kept fx s0 s) (die rg : Nat) : Kept fx s0 (State.abortRegion s die rg).1 := by
  unfold State.abortRegion; simp +contextual (maxDischargeDepth := 40) only [hk, Kept.mk', Otp.noLess_refl, Kept.keep, Kept.clear, Kept.ite, Kept.ite1, Kept.foldl, Kept.foldl1, Kept.setPortJobs, Kept.setRegion, Kept.zeroRegion]

theorem Kept.cfgCmdWrite {fx : Bool} {s0 s : State} (hk : Kept fx s0 s) (die : Nat) (w : Word) : Kept fx s0 (State.cfgCmdWrite s die w).1 := by
  grind [State.cfgCmdWrite, Kept.mk', Otp.noLess_refl, Kept.keep, Kept.clear, Kept.foldl, Kept.foldl1, Kept.abortRegion, Kept.flag, Kept.loadRegion, Kept.regionCommand, Kept.selftestRegion]

theorem Kept.applyRegion {fx : Bool} {s0 s : State} (hk : Kept fx s0 s) (die rg : Nat) : Kept fx s0 (State.applyRegion s die rg) := by
  unfold State.applyRegion; (repeat' split) <;> (first | assumption | (simp +contextual (maxDischargeDepth := 40) only [hk, Kept.mk', Otp.noLess_refl, Kept.keep, Kept.clear, Kept.ite, Kept.ite1, Kept.foldl, Kept.foldl1, Kept.initialise, Kept.releaseInitial, Kept.restartFacets, Kept.setBit, Kept.setRegion, Kept.takeDown]; done) | grind [Kept.mk', Otp.noLess_refl, Kept.keep, Kept.clear, Kept.foldl, Kept.foldl1, Kept.initialise, Kept.releaseInitial, Kept.restartFacets, Kept.setBit, Kept.setRegion, Kept.takeDown])

theorem Kept.regionBoundary {fx : Bool} {s0 s : State} (hk : Kept fx s0 s) (die : Nat) : Kept fx s0 (State.regionBoundary s die) := by
  grind [State.regionBoundary, Kept.mk', Otp.noLess_refl, Kept.keep, Kept.clear, Kept.foldl, Kept.foldl1, Kept.applyRegion]

theorem Kept.loadFailed {fx : Bool} {s0 s : State} (hk : Kept fx s0 s) (die rg code : Nat) : Kept fx s0 (State.loadFailed s die rg code) := by
  unfold State.loadFailed; simp +contextual (maxDischargeDepth := 40) only [hk, Kept.mk', Otp.noLess_refl, Kept.keep, Kept.clear, Kept.ite, Kept.ite1, Kept.foldl, Kept.foldl1, Kept.flagErr, Kept.setFld, Kept.setPortJobs, Kept.setRegion, Kept.zeroRegion]

theorem Kept.writeLoad {fx : Bool} {s0 s : State} (hk : Kept fx s0 s) (die rg : Nat) (segs : List Segment) (crc : Nat) : Kept fx s0 (State.writeLoad s die rg segs crc) := by
  grind [State.writeLoad, Kept.mk', Otp.noLess_refl, Kept.keep, Kept.clear, Kept.foldl, Kept.foldl1, Kept.loadSegment, Kept.newFrames]

theorem Kept.loadComplete {fx : Bool} {s0 s : State} (hk : Kept fx s0 s) (die rg : Nat) (e : LoadEnd) : Kept fx s0 (State.loadComplete s die rg e) := by
  unfold State.loadComplete; (repeat' split) <;> (first | assumption | (simp +contextual (maxDischargeDepth := 40) only [hk, Kept.mk', Otp.noLess_refl, Kept.keep, Kept.clear, Kept.ite, Kept.ite1, Kept.foldl, Kept.foldl1, Kept.bzLog, Kept.loadFailed, Kept.setPortJobs, Kept.setRegion, Kept.takeUnits, Kept.wr, Kept.writeLoad]; done) | grind [Kept.mk', Otp.noLess_refl, Kept.keep, Kept.clear, Kept.foldl, Kept.foldl1, Kept.bzLog, Kept.loadFailed, Kept.setPortJobs, Kept.setRegion, Kept.takeUnits, Kept.wr, Kept.writeLoad])

theorem Kept.userPortTimeout {fx : Bool} {s0 s : State} (hk : Kept fx s0 s) (die : Nat) (arrived : Bool) : Kept fx s0 (State.userPortTimeout s die arrived) := by
  grind [State.userPortTimeout, Kept.mk', Otp.noLess_refl, Kept.keep, Kept.clear, Kept.foldl, Kept.foldl1, Kept.flag, Kept.lateArrival, Kept.loadFailed]

theorem Kept.selftestResult {fx : Bool} {s0 s : State} (hk : Kept fx s0 s) (die rg sig us : Nat) (pass : Bool) : Kept fx s0 (State.selftestResult s die rg sig us pass) := by
  unfold State.selftestResult; simp +contextual (maxDischargeDepth := 40) only [hk, Kept.mk', Otp.noLess_refl, Kept.keep, Kept.clear, Kept.ite, Kept.ite1, Kept.foldl, Kept.foldl1, Kept.raise, Kept.setRegion, Kept.takeUnits, Kept.wr]

theorem Kept.selftestTimeout {fx : Bool} {s0 s : State} (hk : Kept fx s0 s) (die rg : Nat) : Kept fx s0 (State.selftestTimeout s die rg) := by
  unfold State.selftestTimeout; simp +contextual (maxDischargeDepth := 40) only [hk, Kept.mk', Otp.noLess_refl, Kept.keep, Kept.clear, Kept.ite, Kept.ite1, Kept.foldl, Kept.foldl1, Kept.setBit, Kept.setFld, Kept.setPortJobs, Kept.setRegion]

theorem Kept.facetTest {fx : Bool} {s0 s : State} (hk : Kept fx s0 s) (die : Nat) (w : Word) : Kept fx s0 (State.facetTest s die w).1 := by
  unfold State.facetTest; simp +contextual (maxDischargeDepth := 40) only [hk, Kept.mk', Otp.noLess_refl, Kept.keep, Kept.clear, Kept.ite, Kept.ite1, Kept.foldl, Kept.foldl1, Kept.setFld, Kept.wr]

theorem Kept.facetTestDone {fx : Bool} {s0 s : State} (hk : Kept fx s0 s) (die : Nat) (pass : Bool) : Kept fx s0 (State.facetTestDone s die pass) := by
  unfold State.facetTestDone; simp +contextual (maxDischargeDepth := 40) only [hk, Kept.mk', Otp.noLess_refl, Kept.keep, Kept.clear, Kept.ite, Kept.ite1, Kept.foldl, Kept.foldl1, Kept.raise, Kept.setFacet, Kept.takeUnits, Kept.wr]

theorem Kept.scrubErr {fx : Bool} {s0 s : State} (hk : Kept fx s0 s) (die n bit row sev : Nat) : Kept fx s0 (State.scrubErr s die n bit row sev) := by
  unfold State.scrubErr; simp +contextual (maxDischargeDepth := 40) only [hk, Kept.mk', Otp.noLess_refl, Kept.keep, Kept.clear, Kept.ite, Kept.ite1, Kept.foldl, Kept.foldl1, Kept.flagErr]

theorem Kept.listRepair {fx : Bool} {s0 s : State} (hk : Kept fx s0 s) (die n item : Nat) : Kept fx s0 (State.listRepair s die n item) := by
  unfold State.listRepair; simp +contextual (maxDischargeDepth := 40) only [hk, Kept.mk', Otp.noLess_refl, Kept.keep, Kept.clear, Kept.ite, Kept.ite1, Kept.foldl, Kept.foldl1, Kept.count, Kept.flag, Kept.raise, Kept.scrubErr, Kept.setScrubber, Kept.wr]

theorem Kept.scrubStart {fx : Bool} {s0 s : State} (hk : Kept fx s0 s) (die n : Nat) : Kept fx s0 (State.scrubStart s die n) := by
  unfold State.scrubStart; simp +contextual (maxDischargeDepth := 40) only [hk, Kept.mk', Otp.noLess_refl, Kept.keep, Kept.clear, Kept.ite, Kept.ite1, Kept.foldl, Kept.foldl1, Kept.setScrubber]

theorem Kept.scrubEnd {fx : Bool} {s0 s : State} (hk : Kept fx s0 s) (die n : Nat) (bad : List Nat) : Kept fx s0 (State.scrubEnd s die n bad) := by
  grind [State.scrubEnd, Kept.mk', Otp.noLess_refl, Kept.keep, Kept.clear, Kept.foldl, Kept.foldl1, Kept.listRepair, Kept.setFld, Kept.setScrubber]

theorem Kept.frameScrub {fx : Bool} {s0 s : State} (hk : Kept fx s0 s) (die n err : Nat) (bad : List Nat) : Kept fx s0 (State.frameScrub s die n err bad) := by
  grind [State.frameScrub, Kept.mk', Otp.noLess_refl, Kept.keep, Kept.clear, Kept.foldl, Kept.foldl1, Kept.count, Kept.listRepair, Kept.scrubEnd, Kept.setScrubber, Kept.takeUnit]

theorem Kept.criticalScrub {fx : Bool} {s0 s : State} (hk : Kept fx s0 s) (die n : Nat) (rewritten : Bool) : Kept fx s0 (State.criticalScrub s die n rewritten) := by
  unfold State.criticalScrub; simp +contextual (maxDischargeDepth := 40) only [hk, Kept.mk', Otp.noLess_refl, Kept.keep, Kept.clear, Kept.ite, Kept.ite1, Kept.foldl, Kept.foldl1, Kept.scrubErr]

theorem Kept.auditScrubber {fx : Bool} {s0 s : State} (hk : Kept fx s0 s) (die n : Nat) (holders : List Word) : Kept fx s0 (State.auditScrubber s die n holders) := by
  grind [State.auditScrubber, Kept.mk', Otp.noLess_refl, Kept.keep, Kept.clear, Kept.foldl, Kept.foldl1, Kept.raise, Kept.scrubErr, Kept.setScrubber, Kept.wr]

theorem Kept.scrCtlWrite {fx : Bool} {s0 s : State} (hk : Kept fx s0 s) (die n : Nat) (w : Word) : Kept fx s0 (State.scrCtlWrite s die n w) := by
  unfold State.scrCtlWrite; simp +contextual (maxDischargeDepth := 40) only [hk, Kept.mk', Otp.noLess_refl, Kept.keep, Kept.clear, Kept.ite, Kept.ite1, Kept.foldl, Kept.foldl1, Kept.setScrubber, Kept.wr]

theorem Kept.repairFailed {fx : Bool} {s0 s : State} (hk : Kept fx s0 s) (die n : Nat) : Kept fx s0 (State.repairFailed s die n) := by
  unfold State.repairFailed; simp +contextual (maxDischargeDepth := 40) only [hk, Kept.mk', Otp.noLess_refl, Kept.keep, Kept.clear, Kept.ite, Kept.ite1, Kept.foldl, Kept.foldl1, Kept.scrubErr]

theorem Kept.frameRepair {fx : Bool} {s0 s : State} (hk : Kept fx s0 s) (die n : Nat) (poison : Bool) : Kept fx s0 (State.frameRepair s die n poison) := by
  grind [State.frameRepair, Kept.mk', Otp.noLess_refl, Kept.keep, Kept.clear, Kept.foldl, Kept.foldl1, Kept.repairFailed, Kept.setScrubber]

theorem Kept.regionRepair {fx : Bool} {s0 s : State} (hk : Kept fx s0 s) (die n crc : Nat) (poison : Bool) : Kept fx s0 (State.regionRepair s die n crc poison) := by
  unfold State.regionRepair
  extract_lets x
  split
  · exact hk
  · split
    · exact hk
    · refine Kept.ite hk (Kept.ite (hk.setScrubber _ _ _) (Kept.ite (hk.repairFailed _ _) ?_))
      extract_lets e lib
      have hu := hk.takeUnits 1 die ((segBytes lib.segs + 4095) / 4096)
      split
      rename_i s1 ok heq
      rw [heq] at hu
      refine Kept.ite hu (Kept.ite ((hu.takeDown _ _).loadFailed _ _ _) ?_)
      exact ((((((hu.takeDown _ _).writeLoad _ _ _ _).setScrubber _ _ _).setBit _ _ _).setRegion _ _ _).releaseInitial _ _).restartFacets _ _

theorem Kept.bankConfirm {fx : Bool} {s0 s : State} (hk : Kept fx s0 s)  : Kept fx s0 (State.bankConfirm s) := by
  unfold State.bankConfirm; simp +contextual (maxDischargeDepth := 40) only [hk, Kept.mk', Otp.noLess_refl, Kept.keep, Kept.clear, Kept.ite, Kept.ite1, Kept.foldl, Kept.foldl1, Kept.bzLog, Kept.setBit, Kept.setLive]

theorem Kept.trialTimeout {fx : Bool} {s0 s : State} (hk : Kept fx s0 s)  : Kept fx s0 (State.trialTimeout s) := by
  unfold State.trialTimeout; simp +contextual (maxDischargeDepth := 40) only [hk, Kept.mk', Otp.noLess_refl, Kept.keep, Kept.clear, Kept.ite, Kept.ite1, Kept.foldl, Kept.foldl1, Kept.setLive]

theorem Kept.bankBoot {fx : Bool} {s0 s : State} (hk : Kept fx s0 s)  : Kept fx s0 (State.bankBoot s) := by
  unfold State.bankBoot; simp +contextual (maxDischargeDepth := 40) only [hk, Kept.mk', Otp.noLess_refl, Kept.keep, Kept.clear, Kept.ite, Kept.ite1, Kept.foldl, Kept.foldl1, Kept.flagErr, Kept.setBit, Kept.setFld, Kept.setLive]

theorem Kept.cfgCtlWrite {fx : Bool} {s0 s : State} (hk : Kept fx s0 s) (die : Nat) (w : Word) : Kept fx s0 (State.cfgCtlWrite s die w) := by
  unfold State.cfgCtlWrite; simp +contextual (maxDischargeDepth := 40) only [hk, Kept.mk', Otp.noLess_refl, Kept.keep, Kept.clear, Kept.ite, Kept.ite1, Kept.foldl, Kept.foldl1, Kept.flagIf, Kept.wr]

theorem Kept.setBootState {fx : Bool} {s0 s : State} (hk : Kept fx s0 s) (n : Nat) : Kept fx s0 (State.setBootState s n) := by
  unfold State.setBootState; simp +contextual (maxDischargeDepth := 40) only [hk, Kept.mk', Otp.noLess_refl, Kept.keep, Kept.clear, Kept.ite, Kept.ite1, Kept.foldl, Kept.foldl1, Kept.setFld]

theorem Kept.setBoot {fx : Bool} {s0 s : State} (hk : Kept fx s0 s) (f : Boot → Boot) : Kept fx s0 (State.setBoot s f) := by
  unfold State.setBoot; simp +contextual (maxDischargeDepth := 40) only [hk, Kept.mk', Otp.noLess_refl, Kept.keep, Kept.clear, Kept.ite, Kept.ite1, Kept.foldl, Kept.foldl1]

theorem Kept.setPad {fx : Bool} {s0 s : State} (hk : Kept fx s0 s) (die p : Nat) (x : Pad) : Kept fx s0 (State.setPad s die p x) := by
  unfold State.setPad; simp +contextual (maxDischargeDepth := 40) only [hk, Kept.mk', Otp.noLess_refl, Kept.keep, Kept.clear, Kept.ite, Kept.ite1, Kept.foldl, Kept.foldl1]

theorem Kept.hubTick {fx : Bool} {s0 s : State} (hk : Kept fx s0 s)  : Kept fx s0 (State.hubTick s) := by
  grind [State.hubTick, Kept.mk', Otp.noLess_refl, Kept.keep, Kept.clear, Kept.foldl, Kept.foldl1, Kept.drawn]

theorem Kept.judgeAnalog {fx : Bool} {s0 s : State} (hk : Kept fx s0 s) (die : Nat) (x : DWord) : Kept fx s0 (State.judgeAnalog s die x) := by
  unfold State.judgeAnalog; simp +contextual (maxDischargeDepth := 40) only [hk, Kept.mk', Otp.noLess_refl, Kept.keep, Kept.clear, Kept.ite, Kept.ite1, Kept.foldl, Kept.foldl1, Kept.flagErr]

theorem Kept.beginSwitch {fx : Bool} {s0 s : State} (hk : Kept fx s0 s) (die p func sel : Nat) (e : DWord) : Kept fx s0 (State.beginSwitch s die p func sel e) := by
  unfold State.beginSwitch; simp +contextual (maxDischargeDepth := 40) only [hk, Kept.mk', Otp.noLess_refl, Kept.keep, Kept.clear, Kept.ite, Kept.ite1, Kept.foldl, Kept.foldl1, Kept.setPad]

theorem Kept.switchPad {fx : Bool} {s0 s : State} (hk : Kept fx s0 s) (die p func sel : Nat) (e : DWord) : Kept fx s0 (State.switchPad s die p func sel e) := by
  unfold State.switchPad; simp +contextual (maxDischargeDepth := 40) only [hk, Kept.mk', Otp.noLess_refl, Kept.keep, Kept.clear, Kept.ite, Kept.ite1, Kept.foldl, Kept.foldl1, Kept.beginSwitch, Kept.flagErrAt, Kept.flagIf, Kept.setPad]

theorem Kept.settlePad {fx : Bool} {s0 s : State} (hk : Kept fx s0 s) (die p : Nat) : Kept fx s0 (State.settlePad s die p) := by
  grind [State.settlePad, Kept.mk', Otp.noLess_refl, Kept.keep, Kept.clear, Kept.foldl, Kept.foldl1, Kept.beginSwitch, Kept.setPad]

theorem Kept.leaveState {fx : Bool} {s0 s : State} (hk : Kept fx s0 s) (die p : Nat) (lv oe : Bool) (pull : Nat) : Kept fx s0 (State.leaveState s die p lv oe pull) := by
  unfold State.leaveState; simp +contextual (maxDischargeDepth := 40) only [hk, Kept.mk', Otp.noLess_refl, Kept.keep, Kept.clear, Kept.ite, Kept.ite1, Kept.foldl, Kept.foldl1, Kept.setPad]

theorem Kept.withStates {fx : Bool} {s0 s : State} (dies : List Nat) (f : State → State) (hf : Kept fx s0 (f s)) : Kept fx s0 (s.withStates dies f) := by
  unfold State.withStates
  refine Kept.foldl hf (fun t die ht => Kept.foldl ht (fun t p ht => ?_))
  dsimp only
  exact Kept.ite ht (Kept.ite (ht.setPad _ _ _) (ht.leaveState _ _ _ _ _))

theorem Kept.withBoundary {fx : Bool} {s0 s : State} (f : State → State) (hf : Kept fx s0 (f s)) : Kept fx s0 (s.withBoundary f) := by
  unfold State.withBoundary
  refine Kept.ite (Kept.foldl hf (fun t die ht => Kept.foldl ht (fun t p ht => ?_))) hf
  exact ht.leaveState _ _ _ _ _

theorem Kept.holdEntering {fx : Bool} {s0 s : State} (hk : Kept fx s0 s) (die : Nat) (x : DWord) : Kept fx s0 (State.holdEntering s die x) := by
  grind [State.holdEntering, Kept.mk', Otp.noLess_refl, Kept.keep, Kept.clear, Kept.foldl, Kept.foldl1, Kept.setPad]

theorem Kept.setSafe {fx : Bool} {s0 s : State} (hk : Kept fx s0 s) (f : SafeCauses → SafeCauses) : Kept fx s0 (State.setSafe s f) := by
  unfold State.setSafe; simp +contextual (maxDischargeDepth := 40) only [hk, Kept.mk', Otp.noLess_refl, Kept.keep, Kept.clear, Kept.ite, Kept.ite1, Kept.foldl, Kept.foldl1, Kept.withStates]

theorem Kept.judgeXbar {fx : Bool} {s0 s : State} (hk : Kept fx s0 s) (die : Nat) (x : DWord) : Kept fx s0 (State.judgeXbar s die x) := by
  grind [State.judgeXbar, Kept.mk', Otp.noLess_refl, Kept.keep, Kept.clear, Kept.foldl, Kept.foldl1, Kept.flag, Kept.raise, Kept.setBit, Kept.wr]

theorem Kept.judgePhi {fx : Bool} {s0 s : State} (hk : Kept fx s0 s) (die : Nat) (x : DWord) : Kept fx s0 (State.judgePhi s die x) := by
  grind [State.judgePhi, Kept.mk', Otp.noLess_refl, Kept.keep, Kept.clear, Kept.foldl, Kept.foldl1, Kept.syncLines]

theorem Kept.lockedWrite {fx : Bool} {s0 s : State} (hk : Kept fx s0 s) (key : Nat) (differs : Bool) : Kept fx s0 (State.lockedWrite s key differs) := by
  unfold State.lockedWrite; simp +contextual (maxDischargeDepth := 40) only [hk, Kept.mk', Otp.noLess_refl, Kept.keep, Kept.clear, Kept.ite, Kept.ite1, Kept.foldl, Kept.foldl1, Kept.raise]

theorem Kept.padFuncWrite {fx : Bool} {s0 s : State} (hk : Kept fx s0 s) (die p : Nat) (w : Word) : Kept fx s0 (State.padFuncWrite s die p w) := by
  unfold State.padFuncWrite; simp +contextual (maxDischargeDepth := 40) only [hk, Kept.mk', Otp.noLess_refl, Kept.keep, Kept.clear, Kept.ite, Kept.ite1, Kept.foldl, Kept.foldl1, Kept.lockedWrite, Kept.setPad, Kept.switchPad, Kept.wr]

theorem Kept.xbarSrcWrite {fx : Bool} {s0 s : State} (hk : Kept fx s0 s) (die p : Nat) (w : Word) : Kept fx s0 (State.xbarSrcWrite s die p w) := by
  unfold State.xbarSrcWrite; simp +contextual (maxDischargeDepth := 40) only [hk, Kept.mk', Otp.noLess_refl, Kept.keep, Kept.clear, Kept.ite, Kept.ite1, Kept.foldl, Kept.foldl1, Kept.flagErrAt, Kept.lockedWrite, Kept.setPad, Kept.wr]

theorem Kept.xbarInWrite {fx : Bool} {s0 s : State} (hk : Kept fx s0 s) (die p : Nat) (w : Word) : Kept fx s0 (State.xbarInWrite s die p w) := by
  unfold State.xbarInWrite; simp +contextual (maxDischargeDepth := 40) only [hk, Kept.mk', Otp.noLess_refl, Kept.keep, Kept.clear, Kept.ite, Kept.ite1, Kept.foldl, Kept.foldl1, Kept.flagErrAt, Kept.lockedWrite, Kept.wr]

theorem Kept.padCfgWrite {fx : Bool} {s0 s : State} (hk : Kept fx s0 s) (die p : Nat) (w : Word) : Kept fx s0 (State.padCfgWrite s die p w) := by
  unfold State.padCfgWrite; simp +contextual (maxDischargeDepth := 40) only [hk, Kept.mk', Otp.noLess_refl, Kept.keep, Kept.clear, Kept.ite, Kept.ite1, Kept.foldl, Kept.foldl1, Kept.flagErrAt, Kept.lockedWrite, Kept.wr]

theorem Kept.setLockSeq {fx : Bool} {s0 s : State} (hk : Kept fx s0 s) (die : Nat) (x : Option (Nat × Nat × Nat)) : Kept fx s0 (State.setLockSeq s die x) := by
  unfold State.setLockSeq; simp +contextual (maxDischargeDepth := 40) only [hk, Kept.mk', Otp.noLess_refl, Kept.keep, Kept.clear, Kept.ite, Kept.ite1, Kept.foldl, Kept.foldl1]

theorem Kept.abortLock {fx : Bool} {s0 s : State} (hk : Kept fx s0 s) (die : Nat) : Kept fx s0 (State.abortLock s die) := by
  unfold State.abortLock; simp +contextual (maxDischargeDepth := 40) only [hk, Kept.mk', Otp.noLess_refl, Kept.keep, Kept.clear, Kept.ite, Kept.ite1, Kept.foldl, Kept.foldl1, Kept.flag, Kept.flagErr, Kept.setLockSeq]

theorem Kept.interfere {fx : Bool} {s0 s : State} (hk : Kept fx s0 s) (die req : Nat) : Kept fx s0 (State.interfere s die req) := by
  grind [State.interfere, Kept.mk', Otp.noLess_refl, Kept.keep, Kept.clear, Kept.foldl, Kept.foldl1, Kept.abortLock]

theorem Kept.lockWrite {fx : Bool} {s0 s : State} (hk : Kept fx s0 s) (die req pin tag : Nat) : Kept fx s0 (State.lockWrite s die req pin tag) := by
  grind [State.lockWrite, Kept.mk', Otp.noLess_refl, Kept.keep, Kept.clear, Kept.foldl, Kept.foldl1, Kept.abortLock, Kept.interfere, Kept.setFld, Kept.setLockSeq]

theorem Kept.lockRead {fx : Bool} {s0 s : State} (hk : Kept fx s0 s) (die req : Nat) : Kept fx s0 (State.lockRead s die req).1 := by
  grind [State.lockRead, Kept.mk', Otp.noLess_refl, Kept.keep, Kept.clear, Kept.foldl, Kept.foldl1, Kept.interfere, Kept.setLockSeq, Kept.setPad]

theorem Kept.adcConvert {fx : Bool} {s0 s : State} (hk : Kept fx s0 s) (die code : Nat) : Kept fx s0 (State.adcConvert s die code) := by
  grind [State.adcConvert, Kept.mk', Otp.noLess_refl, Kept.keep, Kept.clear, Kept.foldl, Kept.foldl1, Kept.wr]

theorem Kept.adcCtlWrite {fx : Bool} {s0 s : State} (hk : Kept fx s0 s) (die : Nat) (w : Word) : Kept fx s0 (State.adcCtlWrite s die w) := by
  unfold State.adcCtlWrite; simp +contextual (maxDischargeDepth := 40) only [hk, Kept.mk', Otp.noLess_refl, Kept.keep, Kept.clear, Kept.ite, Kept.ite1, Kept.foldl, Kept.foldl1, Kept.wr]

theorem Kept.judgeVccio {fx : Bool} {s0 s : State} (hk : Kept fx s0 s) (die bank : Nat) : Kept fx s0 (State.judgeVccio s die bank) := by
  unfold State.judgeVccio; simp +contextual (maxDischargeDepth := 40) only [hk, Kept.mk', Otp.noLess_refl, Kept.keep, Kept.clear, Kept.ite, Kept.ite1, Kept.foldl, Kept.foldl1, Kept.flagErr]

theorem Kept.bypassOutput {fx : Bool} {s0 s : State} (hk : Kept fx s0 s) (die line : Nat) (level : Bool) : Kept fx s0 (State.bypassOutput s die line level) := by
  unfold State.bypassOutput; simp +contextual (maxDischargeDepth := 40) only [hk, Kept.mk', Otp.noLess_refl, Kept.keep, Kept.clear, Kept.ite, Kept.ite1, Kept.foldl, Kept.foldl1, Kept.drawn]

theorem Kept.setModState {fx : Bool} {s0 s : State} (hk : Kept fx s0 s) (die m st : Nat) : Kept fx s0 (State.setModState s die m st) := by
  unfold State.setModState; simp +contextual (maxDischargeDepth := 40) only [hk, Kept.mk', Otp.noLess_refl, Kept.keep, Kept.clear, Kept.ite, Kept.ite1, Kept.foldl, Kept.foldl1, Kept.setFld]

theorem Kept.crossingValid {fx : Bool} {s0 s : State} (hk : Kept fx s0 s) (die m : Nat) : Kept fx s0 (State.crossingValid s die m) := by
  grind [State.crossingValid, Kept.mk', Otp.noLess_refl, Kept.keep, Kept.clear, Kept.foldl, Kept.foldl1]

theorem Kept.crossingFlit {fx : Bool} {s0 s : State} (hk : Kept fx s0 s) (die from_ m quarter : Nat) (f : Flit) : Kept fx s0 (State.crossingFlit s die from_ m quarter f) := by
  unfold State.crossingFlit; simp +contextual (maxDischargeDepth := 40) only [hk, Kept.mk', Otp.noLess_refl, Kept.keep, Kept.clear, Kept.ite, Kept.ite1, Kept.foldl, Kept.foldl1, Kept.count, Kept.flagErr]

theorem Kept.flowsSettle {fx : Bool} {s0 s : State} (hk : Kept fx s0 s)  : Kept fx s0 (State.flowsSettle s) := by
  unfold State.flowsSettle; simp +contextual (maxDischargeDepth := 40) only [hk, Kept.mk', Otp.noLess_refl, Kept.keep, Kept.clear, Kept.ite, Kept.ite1, Kept.foldl, Kept.foldl1]

theorem Kept.failoverSwitch {fx : Bool} {s0 s : State} (hk : Kept fx s0 s)  : Kept fx s0 (State.failoverSwitch s) := by
  grind [State.failoverSwitch, Kept.mk', Otp.noLess_refl, Kept.keep, Kept.clear, Kept.foldl, Kept.foldl1, Kept.flowsSettle]

theorem Kept.routesBack {fx : Bool} {s0 s : State} (hk : Kept fx s0 s)  : Kept fx s0 (State.routesBack s) := by
  grind [State.routesBack, Kept.mk', Otp.noLess_refl, Kept.keep, Kept.clear, Kept.foldl, Kept.foldl1, Kept.flowsSettle]

theorem Kept.flowPacket {fx : Bool} {s0 s : State} (hk : Kept fx s0 s) (die : Nat) (f : Flow) : Kept fx s0 (State.flowPacket s die f) := by
  unfold State.flowPacket; simp +contextual (maxDischargeDepth := 40) only [hk, Kept.mk', Otp.noLess_refl, Kept.keep, Kept.clear, Kept.ite, Kept.ite1, Kept.foldl, Kept.foldl1, Kept.routesBack]

theorem Kept.moduleDown {fx : Bool} {s0 s : State} (hk : Kept fx s0 s) (die m st : Nat) : Kept fx s0 (State.moduleDown s die m st) := by
  unfold State.moduleDown; simp +contextual (maxDischargeDepth := 40) only [hk, Kept.mk', Otp.noLess_refl, Kept.keep, Kept.clear, Kept.ite, Kept.ite1, Kept.foldl, Kept.foldl1, Kept.crossingValid, Kept.flag, Kept.flowsSettle, Kept.raise, Kept.setBit, Kept.setModState]

theorem Kept.diePeersLost {fx : Bool} {s0 s : State} (hk : Kept fx s0 s) (die : Nat) : Kept fx s0 (State.diePeersLost s die) := by
  unfold State.diePeersLost; simp +contextual (maxDischargeDepth := 40) only [hk, Kept.mk', Otp.noLess_refl, Kept.keep, Kept.clear, Kept.ite, Kept.ite1, Kept.foldl, Kept.foldl1, Kept.peersLost]

theorem Kept.loseDie {fx : Bool} {s0 s : State} (hk : Kept fx s0 s) (die : Nat) : Kept fx s0 (State.loseDie s die) := by
  unfold State.loseDie; simp +contextual (maxDischargeDepth := 40) only [hk, Kept.mk', Otp.noLess_refl, Kept.keep, Kept.clear, Kept.ite, Kept.ite1, Kept.foldl, Kept.foldl1, Kept.flag, Kept.portsOfLostDie, Kept.raise, Kept.setDie, Kept.withStates]

theorem Kept.loseCutOff {fx : Bool} {s0 s : State} (hk : Kept fx s0 s)  : Kept fx s0 (State.loseCutOff s) := by
  grind [State.loseCutOff, Kept.mk', Otp.noLess_refl, Kept.keep, Kept.clear, Kept.foldl, Kept.foldl1, Kept.loseDie]

theorem Kept.checkIsolated {fx : Bool} {s0 s : State} (hk : Kept fx s0 s) (die : Nat) : Kept fx s0 (State.checkIsolated s die) := by
  unfold State.checkIsolated; simp +contextual (maxDischargeDepth := 40) only [hk, Kept.mk', Otp.noLess_refl, Kept.keep, Kept.clear, Kept.ite, Kept.ite1, Kept.foldl, Kept.foldl1, Kept.setDie]

theorem Kept.cutsJudged {fx : Bool} {s0 s : State} (hk : Kept fx s0 s) (m : Nat) : Kept fx s0 (State.cutsJudged s m) := by
  grind [State.cutsJudged, Kept.mk', Otp.noLess_refl, Kept.keep, Kept.clear, Kept.foldl, Kept.foldl1, Kept.checkIsolated, Kept.diePeersLost, Kept.loseCutOff]

theorem Kept.capability {fx : Bool} {s0 s : State} (hk : Kept fx s0 s) (die m : Nat) (d : List Byte) : Kept fx s0 (State.capability s die m d) := by
  unfold State.capability
  have hd : ∀ {t : State} (st : Nat), Kept fx s0 t → Kept fx s0 ((t.moduleDown die m st).cutsJudged m) := fun st h => (h.moduleDown _ _ _).cutsJudged _
  refine Kept.ite hk (Kept.ite (Kept.ite (Kept.mk' hk rfl rfl) (hd _ (Kept.mk' hk rfl rfl))) ?_)
  have h2 : ∀ f : Net → Net, Kept fx s0 ({ s with net := f s.net }) := fun f => Kept.mk' hk rfl rfl
  dsimp only
  refine Kept.ite (hd _ (((Kept.foldl (h2 (fun n => { n with descFails := n.descFails.set (8 * m + die) 0 0 })) (fun _ _ h => h.wr _ _)).setFld _ _ _ _).setFld _ _ _ _)) (Kept.ite (hd _ (((Kept.foldl (h2 (fun n => { n with descFails := n.descFails.set (8 * m + die) 0 0 })) (fun _ _ h => h.wr _ _)).setFld _ _ _ _).setFld _ _ _ _)) ?_)
  have h3 := ((Kept.foldl (l := List.range 16) (f := fun s w => s.wr (Reg.D2D_PEERDESC die m w) (BitVec.ofNat 32 (dfld d (4 * w) 4))) (h2 (fun n => { n with descFails := n.descFails.set (8 * m + die) 0 0 })) (fun _ _ h => h.wr _ _)).setFld (Reg.D2D_STAT die m) 17 3 (dfld d 0x06 1)).setFld (Reg.D2D_STAT die m) 20 8 (dfld d 0x05 1)
  split
  · exact ((Kept.mk' h3 rfl rfl).setFld _ _ _ _).setFld _ _ _ _
  · exact hd _ h3

theorem Kept.moduleUp {fx : Bool} {s0 s : State} (hk : Kept fx s0 s) (m : Nat) (late : Bool) : Kept fx s0 (State.moduleUp s m late) := by
  unfold State.moduleUp
  dsimp only
  refine Kept.ite hk (Kept.routesBack (Kept.foldl hk (fun t d h => ?_)))
  have h1 := (((h.setModState d m 0).crossingValid d m).flag (Reg.D2D_EVT d m) 1).setBit (Reg.D2D_CTL d m) 1 false
  have h2 : Kept fx s0 (if late then ((((((t.setModState d m 0).crossingValid d m).flag (Reg.D2D_EVT d m) 1).setBit (Reg.D2D_CTL d m) 1 false).flag (Reg.D2D_EVT d m) 3).lateArrival d 0x0C m) else ((((t.setModState d m 0).crossingValid d m).flag (Reg.D2D_EVT d m) 1).setBit (Reg.D2D_CTL d m) 1 false)) :=
    Kept.ite ((h1.flag _ _).lateArrival _ _ _) h1
  exact Kept.ite (h2.setDie _ _) h2

theorem Kept.trainingTimeout {fx : Bool} {s0 s : State} (hk : Kept fx s0 s) (m : Nat) : Kept fx s0 (State.trainingTimeout s m) := by
  grind [State.trainingTimeout, Kept.mk', Otp.noLess_refl, Kept.keep, Kept.clear, Kept.foldl, Kept.foldl1, Kept.cutsJudged, Kept.flag, Kept.moduleDown]

theorem Kept.moduleRetrain {fx : Bool} {s0 s : State} (hk : Kept fx s0 s) (die m : Nat) : Kept fx s0 (State.moduleRetrain s die m) := by
  grind [State.moduleRetrain, Kept.mk', Otp.noLess_refl, Kept.keep, Kept.clear, Kept.foldl, Kept.foldl1, Kept.crossingValid, Kept.cutsJudged, Kept.flowsSettle, Kept.setBit, Kept.setModState]

theorem Kept.d2dCtlWrite {fx : Bool} {s0 s : State} (hk : Kept fx s0 s) (die m : Nat) (w : Word) : Kept fx s0 (State.d2dCtlWrite s die m w) := by
  unfold State.d2dCtlWrite; simp +contextual (maxDischargeDepth := 40) only [hk, Kept.mk', Otp.noLess_refl, Kept.keep, Kept.clear, Kept.ite, Kept.ite1, Kept.foldl, Kept.foldl1, Kept.moduleRetrain, Kept.setBit]

theorem Kept.modulesRelock {fx : Bool} {s0 s : State} (hk : Kept fx s0 s)  : Kept fx s0 (State.modulesRelock s) := by
  grind [State.modulesRelock, Kept.mk', Otp.noLess_refl, Kept.keep, Kept.clear, Kept.foldl, Kept.foldl1, Kept.crossingValid, Kept.setBit, Kept.setModState]

theorem Kept.moduleLost {fx : Bool} {s0 s : State} (hk : Kept fx s0 s) (m : Nat) : Kept fx s0 (State.moduleLost s m) := by
  unfold State.moduleLost; simp +contextual (maxDischargeDepth := 40) only [hk, Kept.mk', Otp.noLess_refl, Kept.keep, Kept.clear, Kept.ite, Kept.ite1, Kept.foldl, Kept.foldl1, Kept.cutsJudged, Kept.moduleDown, Kept.setModState]

theorem Kept.setBox {fx : Bool} {s0 s : State} (hk : Kept fx s0 s) (n : Nat) (l : List Word) : Kept fx s0 (State.setBox s n l) := by
  unfold State.setBox; simp +contextual (maxDischargeDepth := 40) only [hk, Kept.mk', Otp.noLess_refl, Kept.keep, Kept.clear, Kept.ite, Kept.ite1, Kept.foldl, Kept.foldl1]

theorem Kept.mbxPush {fx : Bool} {s0 s : State} (hk : Kept fx s0 s) (n req : Nat) (msg : Word) : Kept fx s0 (State.mbxPush s n req msg).1 := by
  unfold State.mbxPush; simp +contextual (maxDischargeDepth := 40) only [hk, Kept.mk', Otp.noLess_refl, Kept.keep, Kept.clear, Kept.ite, Kept.ite1, Kept.foldl, Kept.foldl1, Kept.flag, Kept.setBox]

theorem Kept.mbxPop {fx : Bool} {s0 s : State} (hk : Kept fx s0 s) (n req : Nat) : Kept fx s0 (State.mbxPop s n req).1 := by
  grind [State.mbxPop, Kept.mk', Otp.noLess_refl, Kept.keep, Kept.clear, Kept.foldl, Kept.foldl1, Kept.flag, Kept.setBox]

theorem Kept.mbxCtlWrite {fx : Bool} {s0 s : State} (hk : Kept fx s0 s) (n : Nat) (w : Word) : Kept fx s0 (State.mbxCtlWrite s n w) := by
  unfold State.mbxCtlWrite; simp +contextual (maxDischargeDepth := 40) only [hk, Kept.mk', Otp.noLess_refl, Kept.keep, Kept.clear, Kept.ite, Kept.ite1, Kept.foldl, Kept.foldl1, Kept.setBox, Kept.wr]

theorem Kept.freezeFollows {fx : Bool} {s0 s : State} (hk : Kept fx s0 s)  : Kept fx s0 (State.freezeFollows s) := by
  grind [State.freezeFollows, Kept.mk', Otp.noLess_refl, Kept.keep, Kept.clear, Kept.foldl, Kept.foldl1, Kept.haltFacet]

theorem Kept.haltTriggers {fx : Bool} {s0 s : State} (hk : Kept fx s0 s)  : Kept fx s0 (State.haltTriggers s) := by
  grind [State.haltTriggers, Kept.mk', Otp.noLess_refl, Kept.keep, Kept.clear, Kept.foldl, Kept.foldl1, Kept.loupeTrigger]

theorem Kept.haltRequest {fx : Bool} {s0 s : State} (hk : Kept fx s0 s) (i cause : Nat) : Kept fx s0 (State.haltRequest s i cause).1 := by
  grind [State.haltRequest, Kept.mk', Otp.noLess_refl, Kept.keep, Kept.clear, Kept.foldl, Kept.foldl1, Kept.setCore]

theorem Kept.wdtReload {fx : Bool} {s0 s : State} (hk : Kept fx s0 s) (i : Nat) : Kept fx s0 (State.wdtReload s i) := by
  unfold State.wdtReload; simp +contextual (maxDischargeDepth := 40) only [hk, Kept.mk', Otp.noLess_refl, Kept.keep, Kept.clear, Kept.ite, Kept.ite1, Kept.foldl, Kept.foldl1, Kept.setFld]

theorem Kept.coreHalts {fx : Bool} {s0 s : State} (hk : Kept fx s0 s) (i cause : Nat) : Kept fx s0 (State.coreHalts s i cause) := by
  unfold State.coreHalts; simp +contextual (maxDischargeDepth := 40) only [hk, Kept.mk', Otp.noLess_refl, Kept.keep, Kept.clear, Kept.ite, Kept.ite1, Kept.foldl, Kept.foldl1, Kept.freezeFollows, Kept.haltTriggers, Kept.raise, Kept.setCore]

theorem Kept.acceptCoreHalt {fx : Bool} {s0 s : State} (hk : Kept fx s0 s) (i : Nat) : Kept fx s0 (State.acceptCoreHalt s i) := by
  grind [State.acceptCoreHalt, Kept.mk', Otp.noLess_refl, Kept.keep, Kept.clear, Kept.foldl, Kept.foldl1, Kept.coreHalts]

theorem Kept.coreResumes {fx : Bool} {s0 s : State} (hk : Kept fx s0 s) (i : Nat) : Kept fx s0 (State.coreResumes s i) := by
  unfold State.coreResumes; simp +contextual (maxDischargeDepth := 40) only [hk, Kept.mk', Otp.noLess_refl, Kept.keep, Kept.clear, Kept.ite, Kept.ite1, Kept.foldl, Kept.foldl1, Kept.freezeFollows, Kept.raise, Kept.setCore, Kept.wdtReload]

theorem Kept.coreRcWrite {fx : Bool} {s0 s : State} (hk : Kept fx s0 s) (i : Nat) (w : Word) : Kept fx s0 (State.coreRcWrite s i w).1 := by
  unfold State.coreRcWrite; simp +contextual (maxDischargeDepth := 40) only [hk, Kept.mk', Otp.noLess_refl, Kept.keep, Kept.clear, Kept.ite, Kept.ite1, Kept.foldl, Kept.foldl1, Kept.coreResumes, Kept.haltRequest, Kept.setFld]

theorem Kept.ebreak {fx : Bool} {s0 s : State} (hk : Kept fx s0 s) (i : Nat) (pc : BitVec 64) : Kept fx s0 (State.ebreak s i pc) := by
  unfold State.ebreak; simp +contextual (maxDischargeDepth := 40) only [hk, Kept.mk', Otp.noLess_refl, Kept.keep, Kept.clear, Kept.ite, Kept.ite1, Kept.foldl, Kept.foldl1, Kept.coreHalts, Kept.setCore]

theorem Kept.abstractAccess {fx : Bool} {s0 s : State} (hk : Kept fx s0 s) (i : Nat) (w : Word) : Kept fx s0 (State.abstractAccess s i w).1 := by
  unfold State.abstractAccess; simp +contextual (maxDischargeDepth := 40) only [hk, Kept.mk', Otp.noLess_refl, Kept.keep, Kept.clear, Kept.ite, Kept.ite1, Kept.foldl, Kept.foldl1, Kept.flag, Kept.setCore, Kept.wr, Kept.wrPair]

theorem Kept.debugLineEdge {fx : Bool} {s0 s : State} (hk : Kept fx s0 s) (n : Nat) : Kept fx s0 (State.debugLineEdge s n) := by
  grind [State.debugLineEdge, Kept.mk', Otp.noLess_refl, Kept.keep, Kept.clear, Kept.foldl, Kept.foldl1, Kept.haltRequest, Kept.loupeTrigger]

theorem Kept.wdtCtlWrite {fx : Bool} {s0 s : State} (hk : Kept fx s0 s) (i : Nat) (w : Word) : Kept fx s0 (State.wdtCtlWrite s i w) := by
  unfold State.wdtCtlWrite; simp +contextual (maxDischargeDepth := 40) only [hk, Kept.mk', Otp.noLess_refl, Kept.keep, Kept.clear, Kept.ite, Kept.ite1, Kept.foldl, Kept.foldl1, Kept.raise, Kept.setCore, Kept.wdtReload, Kept.wr]

theorem Kept.wdtKick {fx : Bool} {s0 s : State} (hk : Kept fx s0 s) (i key : Nat) : Kept fx s0 (State.wdtKick s i key) := by
  unfold State.wdtKick; simp +contextual (maxDischargeDepth := 40) only [hk, Kept.mk', Otp.noLess_refl, Kept.keep, Kept.clear, Kept.ite, Kept.ite1, Kept.foldl, Kept.foldl1, Kept.flag, Kept.setCore, Kept.wdtReload]

theorem Kept.wdtCount {fx : Bool} {s0 s : State} (hk : Kept fx s0 s) (i : Nat) : Kept fx s0 (State.wdtCount s i) := by
  unfold State.wdtCount; simp +contextual (maxDischargeDepth := 40) only [hk, Kept.mk', Otp.noLess_refl, Kept.keep, Kept.clear, Kept.ite, Kept.ite1, Kept.foldl, Kept.foldl1, Kept.setFld]

theorem Kept.releaseCore {fx : Bool} {s0 s : State} (hk : Kept fx s0 s) (i : Nat) : Kept fx s0 (State.releaseCore s i) := by
  unfold State.releaseCore; simp +contextual (maxDischargeDepth := 40) only [hk, Kept.mk', Otp.noLess_refl, Kept.keep, Kept.clear, Kept.ite, Kept.ite1, Kept.foldl, Kept.foldl1, Kept.coreHalts, Kept.setCore]

theorem Kept.coreStart {fx : Bool} {s0 s : State} (hk : Kept fx s0 s) (w : Word) : Kept fx s0 (State.coreStart s w) := by
  grind [State.coreStart, Kept.mk', Otp.noLess_refl, Kept.keep, Kept.clear, Kept.foldl, Kept.foldl1, Kept.releaseCore]

theorem Kept.holdCore {fx : Bool} {s0 s : State} (hk : Kept fx s0 s) (i : Nat) : Kept fx s0 (State.holdCore s i) := by
  unfold State.holdCore; simp +contextual (maxDischargeDepth := 40) only [hk, Kept.mk', Otp.noLess_refl, Kept.keep, Kept.clear, Kept.ite, Kept.ite1, Kept.foldl, Kept.foldl1, Kept.freezeFollows, Kept.setCore]

theorem Kept.lockstepFault {fx : Bool} {s0 s : State} (hk : Kept fx s0 s) (n : Nat) : Kept fx s0 (State.lockstepFault s n) := by
  unfold State.lockstepFault; simp +contextual (maxDischargeDepth := 40) only [hk, Kept.mk', Otp.noLess_refl, Kept.keep, Kept.clear, Kept.ite, Kept.ite1, Kept.foldl, Kept.foldl1, Kept.flag, Kept.holdCore, Kept.raise]

theorem Kept.placeCd {fx : Bool} {s0 s : State} (hk : Kept fx s0 s) (bank : Nat) (g : Segment) : Kept fx s0 (State.placeCd s bank g) := by
  unfold State.placeCd; simp +contextual (maxDischargeDepth := 40) only [hk, Kept.mk', Otp.noLess_refl, Kept.keep, Kept.clear, Kept.ite, Kept.ite1, Kept.foldl, Kept.foldl1, Kept.writeBytes]

theorem Kept.placeTcm {fx : Bool} {s0 s : State} (hk : Kept fx s0 s) (l : List Segment) : Kept fx s0 (State.placeTcm s l) := by
  grind [State.placeTcm, Kept.mk', Otp.noLess_refl, Kept.keep, Kept.clear, Kept.foldl, Kept.foldl1, Kept.setBoot]

theorem Kept.handover {fx : Bool} {s0 s : State} (hk : Kept fx s0 s)  : Kept fx s0 (State.handover s) := by
  unfold State.handover; (repeat' split) <;> (first | assumption | (simp +contextual (maxDischargeDepth := 40) only [hk, Kept.mk', Otp.noLess_refl, Kept.keep, Kept.clear, Kept.ite, Kept.ite1, Kept.foldl, Kept.foldl1, Kept.drawn, Kept.placeTcm, Kept.releaseCore, Kept.setBoot, Kept.setCore, Kept.setDie, Kept.wrPair, Kept.writeBytes]; done) | grind [Kept.mk', Otp.noLess_refl, Kept.keep, Kept.clear, Kept.foldl, Kept.foldl1, Kept.drawn, Kept.placeTcm, Kept.releaseCore, Kept.setBoot, Kept.setCore, Kept.setDie, Kept.wrPair, Kept.writeBytes])

theorem Kept.cdDown {fx : Bool} {s0 s : State} (hk : Kept fx s0 s)  : Kept fx s0 (State.cdDown s) := by
  grind [State.cdDown, Kept.mk', Otp.noLess_refl, Kept.keep, Kept.clear, Kept.foldl, Kept.foldl1, Kept.freezeFollows, Kept.peersLost, Kept.setBit, Kept.setBoot, Kept.setDie]

theorem Kept.cdBoot {fx : Bool} {s0 s : State} (hk : Kept fx s0 s)  : Kept fx s0 (State.cdBoot s) := by
  unfold State.cdBoot; simp +contextual (maxDischargeDepth := 40) only [hk, Kept.mk', Otp.noLess_refl, Kept.keep, Kept.clear, Kept.ite, Kept.ite1, Kept.foldl, Kept.foldl1, Kept.bankBoot, Kept.handover, Kept.setDie]

theorem Kept.cdReset {fx : Bool} {s0 s : State} (hk : Kept fx s0 s)  : Kept fx s0 (State.cdReset s) := by
  unfold State.cdReset; simp +contextual (maxDischargeDepth := 40) only [hk, Kept.mk', Otp.noLess_refl, Kept.keep, Kept.clear, Kept.ite, Kept.ite1, Kept.foldl, Kept.foldl1, Kept.cdBoot, Kept.cdDown]

theorem Kept.cdCutOff {fx : Bool} {s0 s : State} (hk : Kept fx s0 s)  : Kept fx s0 (State.cdCutOff s) := by
  unfold State.cdCutOff; simp +contextual (maxDischargeDepth := 40) only [hk, Kept.mk', Otp.noLess_refl, Kept.keep, Kept.clear, Kept.ite, Kept.ite1, Kept.foldl, Kept.foldl1, Kept.cdDown]

theorem Kept.cdReturns {fx : Bool} {s0 s : State} (hk : Kept fx s0 s)  : Kept fx s0 (State.cdReturns s) := by
  unfold State.cdReturns; simp +contextual (maxDischargeDepth := 40) only [hk, Kept.mk', Otp.noLess_refl, Kept.keep, Kept.clear, Kept.ite, Kept.ite1, Kept.foldl, Kept.foldl1, Kept.cdBoot]

theorem Kept.resumeAll {fx : Bool} {s0 s : State} (hk : Kept fx s0 s)  : Kept fx s0 (State.resumeAll s) := by
  grind [State.resumeAll, Kept.mk', Otp.noLess_refl, Kept.keep, Kept.clear, Kept.foldl, Kept.foldl1, Kept.coreResumes, Kept.haltFacet]

theorem Kept.closeSession {fx : Bool} {s0 s : State} (hk : Kept fx s0 s)  : Kept fx s0 (State.closeSession s) := by
  unfold State.closeSession; simp +contextual (maxDischargeDepth := 40) only [hk, Kept.mk', Otp.noLess_refl, Kept.keep, Kept.clear, Kept.ite, Kept.ite1, Kept.foldl, Kept.foldl1, Kept.count, Kept.raise, Kept.resumeAll, Kept.withBoundary]

theorem Kept.porReset {fx : Bool} {s0 s : State} (hk : Kept fx s0 s)  : Kept fx s0 (State.porReset s) := by
  unfold State.porReset
  exact Kept.clear hk rfl rfl

theorem Kept.takeDeviceReset {fx : Bool} {s0 s : State} (hk : Kept fx s0 s) (cause : Nat) : Kept fx s0 (State.takeDeviceReset s cause) := by
  unfold State.takeDeviceReset
  extract_lets s1 trip open_ d0 dag session p0 q0 t t2 t3
  have h1 : Kept fx s0 s1 := hk.closeSession
  have ht : Kept fx s0 t := Kept.keep h1 rfl rfl
  have h3 : Kept fx s0 t3 := ((ht.setFld _ _ _ _).setBit _ _ _).setBootState _
  clear_value t3
  clear_value t2
  clear_value t
  clear_value session
  clear_value open_
  split
  · exact ((h3.raise _ _ _ _ _ _).flagLast _).drawn
  · exact h3

theorem Kept.deviceReset {fx : Bool} {s0 s : State} (hk : Kept fx s0 s) (cause : Nat) : Kept fx s0 (State.deviceReset s cause) := by
  unfold State.deviceReset; simp +contextual (maxDischargeDepth := 40) only [hk, Kept.mk', Otp.noLess_refl, Kept.keep, Kept.clear, Kept.ite, Kept.ite1, Kept.foldl, Kept.foldl1, Kept.takeDeviceReset]

theorem Kept.dueReset {fx : Bool} {s0 s : State} (hk : Kept fx s0 s)  : Kept fx s0 (State.dueReset s) := by
  grind [State.dueReset, Kept.mk', Otp.noLess_refl, Kept.keep, Kept.clear, Kept.foldl, Kept.foldl1, Kept.takeDeviceReset]

theorem Kept.clearDie {fx : Bool} {s0 s : State} (hk : Kept fx s0 s) (die : Nat) : Kept fx s0 (State.clearDie s die) := by
  unfold State.clearDie; simp +contextual (maxDischargeDepth := 40) only [hk, Kept.mk', Otp.noLess_refl, Kept.keep, Kept.clear, Kept.ite, Kept.ite1, Kept.foldl, Kept.foldl1, Kept.capture, Kept.recal]

theorem Kept.dieReset {fx : Bool} {s0 s : State} (hk : Kept fx s0 s) (die : Nat) : Kept fx s0 (State.dieReset s die) := by
  unfold State.dieReset; simp +contextual (maxDischargeDepth := 40) only [hk, Kept.mk', Otp.noLess_refl, Kept.keep, Kept.clear, Kept.ite, Kept.ite1, Kept.foldl, Kept.foldl1, Kept.cdReset, Kept.clearDie, Kept.loseDie, Kept.setDie]

theorem Kept.dieRejoin {fx : Bool} {s0 s : State} (hk : Kept fx s0 s) (die : Nat) : Kept fx s0 (State.dieRejoin s die) := by
  grind [State.dieRejoin, Kept.mk', Otp.noLess_refl, Kept.keep, Kept.clear, Kept.foldl, Kept.foldl1, Kept.clearDie, Kept.setDie, Kept.setModState]

theorem Kept.dieRelease {fx : Bool} {s0 s : State} (hk : Kept fx s0 s) (mask : Nat) : Kept fx s0 (State.dieRelease s mask).1 := by
  grind [State.dieRelease, Kept.mk', Otp.noLess_refl, Kept.keep, Kept.clear, Kept.foldl, Kept.foldl1, Kept.restartLanes, Kept.setDie, Kept.withStates]

theorem Kept.dieCmdWrite {fx : Bool} {s0 s : State} (hk : Kept fx s0 s) (w : Word) : Kept fx s0 (State.dieCmdWrite s w).1 := by
  grind [State.dieCmdWrite, Kept.mk', Otp.noLess_refl, Kept.keep, Kept.clear, Kept.foldl, Kept.foldl1, Kept.deviceReset, Kept.dieReset, Kept.flagErr]

theorem Kept.clearFacetRegs {fx : Bool} {s0 s : State} (hk : Kept fx s0 s) (die rg : Nat) : Kept fx s0 (State.clearFacetRegs s die rg) := by
  grind [State.clearFacetRegs, Kept.mk', Otp.noLess_refl, Kept.keep, Kept.clear, Kept.foldl, Kept.foldl1, Kept.setFacet]

theorem Kept.resetRegion {fx : Bool} {s0 s : State} (hk : Kept fx s0 s) (die rg : Nat) : Kept fx s0 (State.resetRegion s die rg) := by
  unfold State.resetRegion
  exact Kept.setFabric (Kept.initialise (Kept.foldl ((((hk.setRegion _ _ _).stopFacets _ _ _).emptyReady _ _).clearFacetRegs _ _) (fun _ _ h => h.setPorts _ _ _)) _ _) _

theorem Kept.regionReset {fx : Bool} {s0 s : State} (hk : Kept fx s0 s) (die : Nat) (w : Word) : Kept fx s0 (State.regionReset s die w).1 := by
  grind [State.regionReset, Kept.mk', Otp.noLess_refl, Kept.keep, Kept.clear, Kept.foldl, Kept.foldl1, Kept.resetRegion, Kept.wr]

theorem Kept.regionResetDone {fx : Bool} {s0 s : State} (hk : Kept fx s0 s) (die : Nat) : Kept fx s0 (State.regionResetDone s die) := by
  grind [State.regionResetDone, Kept.mk', Otp.noLess_refl, Kept.keep, Kept.clear, Kept.foldl, Kept.foldl1, Kept.releaseInitial, Kept.restartFacets, Kept.setBit, Kept.setRegion]

theorem Kept.clearInst {fx : Bool} {s0 s : State} (hk : Kept fx s0 s) (die unit inst : Nat) : Kept fx s0 (State.clearInst s die unit inst) := by
  unfold State.clearInst; simp +contextual (maxDischargeDepth := 40) only [hk, Kept.mk', Otp.noLess_refl, Kept.keep, Kept.clear, Kept.ite, Kept.ite1, Kept.foldl, Kept.foldl1]

theorem Kept.unitReset {fx : Bool} {s0 s : State} (hk : Kept fx s0 s) (die : Nat) (w : Word) : Kept fx s0 (State.unitReset s die w).1 := by
  grind [State.unitReset, Kept.mk', Otp.noLess_refl, Kept.keep, Kept.clear, Kept.foldl, Kept.foldl1, Kept.clearInst, Kept.facetRest, Kept.holdCore, Kept.laneOff, Kept.leaveMode, Kept.portsRetrain, Kept.setBit, Kept.setLoupe, Kept.setUnit, Kept.wr]

theorem Kept.drawKeyZero {fx : Bool} {s0 s : State} (hk : Kept fx s0 s)  : Kept fx s0 (State.drawKeyZero s) := by
  grind [State.drawKeyZero, Kept.mk', Otp.noLess_refl, Kept.keep, Kept.clear, Kept.foldl, Kept.foldl1, Kept.drawn, Kept.setBit]

theorem Kept.wipe {fx : Bool} {s0 s : State} (hk : Kept fx s0 s)  : Kept fx s0 (State.wipe s) := by
  unfold State.wipe; simp +contextual (maxDischargeDepth := 40) only [hk, Kept.mk', Otp.noLess_refl, Kept.keep, Kept.clear, Kept.ite, Kept.ite1, Kept.foldl, Kept.foldl1]

theorem Kept.configFailed {fx : Bool} {s0 s : State} (hk : Kept fx s0 s)  : Kept fx s0 (State.configFailed s) := by
  unfold State.configFailed; simp +contextual (maxDischargeDepth := 40) only [hk, Kept.mk', Otp.noLess_refl, Kept.keep, Kept.clear, Kept.ite, Kept.ite1, Kept.foldl, Kept.foldl1, Kept.cdDown, Kept.raise, Kept.setBoot, Kept.setBootState, Kept.setSafe]

theorem Kept.slotFailed {fx : Bool} {s0 s : State} (hk : Kept fx s0 s) (code sub : Nat) : Kept fx s0 (State.slotFailed s code sub) := by
  unfold State.slotFailed; simp +contextual (maxDischargeDepth := 40) only [hk, Kept.mk', Otp.noLess_refl, Kept.keep, Kept.clear, Kept.ite, Kept.ite1, Kept.foldl, Kept.foldl1, Kept.configFailed, Kept.drawKeyZero, Kept.drawn, Kept.flagLast, Kept.raise, Kept.setBoot, Kept.setBootState, Kept.setFld, Kept.wipe, Kept.wr]

theorem Kept.dieMissing {fx : Bool} {s0 s : State} (hk : Kept fx s0 s) (sub : Nat) : Kept fx s0 (State.dieMissing s sub) := by
  grind [State.dieMissing, Kept.mk', Otp.noLess_refl, Kept.keep, Kept.clear, Kept.foldl, Kept.foldl1, Kept.slotFailed]

theorem Kept.setBzOwner {fx : Bool} {s0 s : State} (hk : Kept fx s0 s) (chan : Nat) (o : Option Nat) : Kept fx s0 (State.setBzOwner s chan o) := by
  unfold State.setBzOwner; simp +contextual (maxDischargeDepth := 40) only [hk, Kept.mk', Otp.noLess_refl, Kept.keep, Kept.clear, Kept.ite, Kept.ite1, Kept.foldl, Kept.foldl1, Kept.setSec]

theorem Kept.bzInterfere {fx : Bool} {s0 s : State} (hk : Kept fx s0 s) (chan req : Nat) : Kept fx s0 (State.bzInterfere s chan req) := by
  grind [State.bzInterfere, Kept.mk', Otp.noLess_refl, Kept.keep, Kept.clear, Kept.foldl, Kept.foldl1, Kept.flag, Kept.raise, Kept.setBzOwner, Kept.setFld]

theorem Kept.bzGo {fx : Bool} {s0 s : State} (hk : Kept fx s0 s) (chan req : Nat) (w : Word) : Kept fx s0 (State.bzGo s chan req w) := by
  grind [State.bzGo, Kept.mk', Otp.noLess_refl, Kept.keep, Kept.clear, Kept.foldl, Kept.foldl1, Kept.flag, Kept.raise, Kept.setBzOwner, Kept.setFld, Kept.setSec, Kept.wr]

theorem Kept.bzWrite {fx : Bool} {s0 s : State} (hk : Kept fx s0 s) (chan req off : Nat) (w : Word) : Kept fx s0 (State.bzWrite s chan req off w).1 := by
  unfold State.bzWrite; simp +contextual (maxDischargeDepth := 40) only [hk, Kept.mk', Otp.noLess_refl, Kept.keep, Kept.clear, Kept.ite, Kept.ite1, Kept.foldl, Kept.foldl1, Kept.bzGo, Kept.bzInterfere, Kept.setBzOwner, Kept.wr]

theorem Kept.bzEnd {fx : Bool} {s0 s : State} (hk : Kept fx s0 s) (c : BzCommand) (status : Nat) (out : List Byte) (row : Nat) : Kept fx s0 (State.bzEnd s c status out row) := by
  grind [State.bzEnd, Kept.mk', Otp.noLess_refl, Kept.keep, Kept.clear, Kept.foldl, Kept.foldl1, Kept.flag, Kept.raise, Kept.setFld, Kept.setSec, Kept.wr]

theorem Kept.setVault {fx : Bool} {s0 s : State} (hk : Kept fx s0 s) (n : Nat) (k : Option VaultKey) : Kept fx s0 (State.setVault s n k) := by
  unfold State.setVault; simp +contextual (maxDischargeDepth := 40) only [hk, Kept.mk', Otp.noLess_refl, Kept.keep, Kept.clear, Kept.ite, Kept.ite1, Kept.foldl, Kept.foldl1, Kept.setSec]

theorem Kept.keyGen {fx : Bool} {s0 s : State} (hk : Kept fx s0 s)  : Kept fx s0 (State.keyGen s) := by
  grind [State.keyGen, Kept.mk', Otp.noLess_refl, Kept.keep, Kept.clear, Kept.foldl, Kept.foldl1, Kept.bzEnd, Kept.bzRun, Kept.drawn, Kept.setVault]

theorem Kept.keyImport {fx : Bool} {s0 s : State} (hk : Kept fx s0 s)  : Kept fx s0 (State.keyImport s) := by
  grind [State.keyImport, Kept.mk', Otp.noLess_refl, Kept.keep, Kept.clear, Kept.foldl, Kept.foldl1, Kept.bzEnd, Kept.bzRun, Kept.setVault]

theorem Kept.keyExport {fx : Bool} {s0 s : State} (hk : Kept fx s0 s)  : Kept fx s0 (State.keyExport s) := by
  grind [State.keyExport, Kept.mk', Otp.noLess_refl, Kept.keep, Kept.clear, Kept.foldl, Kept.foldl1, Kept.bzEnd, Kept.bzRun]

theorem Kept.keyDelete {fx : Bool} {s0 s : State} (hk : Kept fx s0 s)  : Kept fx s0 (State.keyDelete s) := by
  grind [State.keyDelete, Kept.mk', Otp.noLess_refl, Kept.keep, Kept.clear, Kept.foldl, Kept.foldl1, Kept.bzEnd, Kept.bzRun, Kept.setVault]

theorem Kept.setKid {fx : Bool} {s0 s : State} (hk : Kept fx s0 s) (lo hi k : Nat) (b : Bool) : Kept fx s0 (State.setKid s lo hi k b) := by
  unfold State.setKid; simp +contextual (maxDischargeDepth := 40) only [hk, Kept.mk', Otp.noLess_refl, Kept.keep, Kept.clear, Kept.ite, Kept.ite1, Kept.foldl, Kept.foldl1, Kept.setBit]

theorem Kept.mpeLoad {fx : Bool} {s0 s : State} (hk : Kept fx s0 s)  : Kept fx s0 (State.mpeLoad s) := by
  grind [State.mpeLoad, Kept.mk', Otp.noLess_refl, Kept.keep, Kept.clear, Kept.foldl, Kept.foldl1, Kept.bzEnd, Kept.bzRun, Kept.setKid, Kept.setSec]

theorem Kept.mpeGrant {fx : Bool} {s0 s : State} (hk : Kept fx s0 s)  : Kept fx s0 (State.mpeGrant s) := by
  grind [State.mpeGrant, Kept.mk', Otp.noLess_refl, Kept.keep, Kept.clear, Kept.foldl, Kept.foldl1, Kept.bzEnd, Kept.bzRun, Kept.setKid]

theorem Kept.signRecord {fx : Bool} {s0 s : State} (hk : Kept fx s0 s)  : Kept fx s0 (State.signRecord s) := by
  grind [State.signRecord, Kept.mk', Otp.noLess_refl, Kept.keep, Kept.clear, Kept.foldl, Kept.foldl1, Kept.bzEnd, Kept.bzRun, Kept.setSec]

theorem Kept.transferWrap {fx : Bool} {s0 s : State} (hk : Kept fx s0 s)  : Kept fx s0 (State.transferWrap s) := by
  grind [State.transferWrap, Kept.mk', Otp.noLess_refl, Kept.keep, Kept.clear, Kept.foldl, Kept.foldl1, Kept.bzEnd, Kept.bzRun, Kept.drawn]

theorem Kept.attest {fx : Bool} {s0 s : State} (hk : Kept fx s0 s)  : Kept fx s0 (State.attest s) := by
  grind [State.attest, Kept.mk', Otp.noLess_refl, Kept.keep, Kept.clear, Kept.foldl, Kept.foldl1, Kept.bzEnd, Kept.bzRun]

theorem Kept.getCert {fx : Bool} {s0 s : State} (hk : Kept fx s0 s)  : Kept fx s0 (State.getCert s) := by
  grind [State.getCert, Kept.mk', Otp.noLess_refl, Kept.keep, Kept.clear, Kept.foldl, Kept.foldl1, Kept.bzEnd, Kept.bzRun]

theorem Kept.imageLib {fx : Bool} {s0 s : State} (hk : Kept fx s0 s) (i : Image) : Kept fx s0 (State.imageLib s i) := by
  grind [State.imageLib, Kept.mk', Otp.noLess_refl, Kept.keep, Kept.clear, Kept.foldl, Kept.foldl1, Kept.bzEnd, Kept.bzLog, Kept.bzRun, Kept.setLibEntry]

theorem Kept.imageCd {fx : Bool} {s0 s : State} (hk : Kept fx s0 s) (i : Image) : Kept fx s0 (State.imageCd s i) := by
  grind [State.imageCd, Kept.mk', Otp.noLess_refl, Kept.keep, Kept.clear, Kept.foldl, Kept.foldl1, Kept.bzEnd, Kept.bzLog, Kept.bzRun, Kept.placeCd]

theorem Kept.fwActivate {fx : Bool} {s0 s : State} (hk : Kept fx s0 s) (i : Image) : Kept fx s0 (State.fwActivate s i) := by
  grind [State.fwActivate, Kept.mk', Otp.noLess_refl, Kept.keep, Kept.clear, Kept.foldl, Kept.foldl1, Kept.bzEnd, Kept.bzLog, Kept.bzRun, Kept.setSec]

theorem Kept.random {fx : Bool} {s0 s : State} (hk : Kept fx s0 s)  : Kept fx s0 (State.random s) := by
  grind [State.random, Kept.mk', Otp.noLess_refl, Kept.keep, Kept.clear, Kept.foldl, Kept.foldl1, Kept.bzEnd, Kept.bzRun]

theorem Kept.raiseArb {s0 s : State} (hk : Kept false s0 s) (src v : Nat) : Kept false s0 (State.raiseArb s src v) := by
  unfold State.raiseArb
  refine hk.secMove _ ?_
  dsimp only
  split
  · exact ⟨id, id, fun _ x => x, Nat.le_max_left _ _, Nat.le_refl _⟩
  · exact ⟨id, id, fun _ x => x, Nat.le_refl _, Nat.le_max_left _ _⟩

theorem Kept.arbAdvance {s0 s : State} (hk : Kept false s0 s)  : Kept false s0 (State.arbAdvance s) := by
  grind [State.arbAdvance, Kept.mk', Otp.noLess_refl, Kept.keep, Kept.clear, Kept.foldl, Kept.foldl1, Kept.bzEnd, Kept.bzRun, Kept.raiseArb]

theorem Kept.otpSet {s0 s : State} (hk : Kept false s0 s) (t : Token) : Kept false s0 (State.otpSet s t) := by
  unfold State.otpSet
  refine hk.bzRun _ _ (fun _ _ _ => hk.bzEnd _ _ _ _) (fun c => ?_)
  extract_lets what slot o left
  refine Kept.ite (hk.bzEnd _ _ _ _) (Kept.ite (hk.bzEnd _ _ _ _) (Kept.ite (hk.bzEnd _ _ _ _) (Kept.ite ?_ (Kept.ite (hk.bzEnd _ _ _ _) ?_))))
  · exact Kept.bzEnd (hk.secMove _ ⟨id, fun _ => rfl, fun _ x => x, Nat.le_refl _, Nat.le_refl _⟩) _ _ _ _
  · exact Kept.bzEnd (hk.secMove _ ⟨id, id, fun i x => by
      show (o.revoked ||| 2 ^ slot).testBit i = true
      rw [Nat.testBit_or, show o.revoked.testBit i = true from x, Bool.true_or], Nat.le_refl _, Nat.le_refl _⟩) _ _ _ _

theorem Kept.wipeKeys {fx : Bool} {s0 s : State} (hk : Kept fx s0 s)  : Kept fx s0 (State.wipeKeys s) := by
  unfold State.wipeKeys; simp +contextual (maxDischargeDepth := 40) only [hk, Kept.mk', Otp.noLess_refl, Kept.keep, Kept.clear, Kept.ite, Kept.ite1, Kept.foldl, Kept.foldl1, Kept.setSec, Kept.wr]

theorem Kept.lcChange {s0 s : State} (hk : Kept false s0 s) (ts : List Token) (block : Option Provisioning) : Kept false s0 (State.lcChange s ts block) := by
  unfold State.lcChange
  refine hk.bzRun _ _ (fun _ _ _ => hk.bzEnd _ _ _ _) (fun c => ?_)
  refine Kept.ite (hk.bzEnd _ _ _ _) (Kept.deviceReset (Kept.raise (Kept.secMove ?_ _ (Otp.noLess_refl _)) _ _ _ _ _ _) _)
  dsimp only
  split
  · exact Kept.ite (Kept.secMove (Kept.ite (Kept.mk' hk.wipeKeys rfl rfl) hk.wipeKeys) _ ⟨fun _ => rfl, id, fun _ x => x, Nat.le_refl _, Nat.le_refl _⟩) (Kept.ite (Kept.mk' hk.wipeKeys rfl rfl) hk.wipeKeys)
  · exact Kept.ite (Kept.mk' hk.wipeKeys rfl rfl) hk.wipeKeys

theorem Kept.abortCommands {fx : Bool} {s0 s : State} (hk : Kept fx s0 s)  : Kept fx s0 (State.abortCommands s) := by
  grind [State.abortCommands, Kept.mk', Otp.noLess_refl, Kept.keep, Kept.clear, Kept.foldl, Kept.foldl1, Kept.flag, Kept.raise, Kept.setFld, Kept.setSec]

theorem Kept.respond {fx : Bool} {s0 s : State} (hk : Kept fx s0 s) (code : Nat) : Kept fx s0 (State.respond s code) := by
  unfold State.respond; (repeat' split) <;> (first | assumption | (simp +contextual (maxDischargeDepth := 40) only [hk, Kept.mk', Otp.noLess_refl, Kept.keep, Kept.clear, Kept.ite, Kept.ite1, Kept.foldl, Kept.foldl1, Kept.abortCommands, Kept.setSafe, Kept.setSec, Kept.wipeKeys]; done) | grind [Kept.mk', Otp.noLess_refl, Kept.keep, Kept.clear, Kept.foldl, Kept.foldl1, Kept.abortCommands, Kept.setSafe, Kept.setSec, Kept.wipeKeys])

theorem Kept.sensorEvent {fx : Bool} {s0 s : State} (hk : Kept fx s0 s) (cls : Nat) : Kept fx s0 (State.sensorEvent s cls) := by
  unfold State.sensorEvent; simp +contextual (maxDischargeDepth := 40) only [hk, Kept.mk', Otp.noLess_refl, Kept.keep, Kept.clear, Kept.ite, Kept.ite1, Kept.foldl, Kept.foldl1, Kept.flag, Kept.raise, Kept.respond, Kept.setSec]

theorem Kept.bzRespWrite {fx : Bool} {s0 s : State} (hk : Kept fx s0 s) (w : Word) : Kept fx s0 (State.bzRespWrite s w) := by
  unfold State.bzRespWrite; simp +contextual (maxDischargeDepth := 40) only [hk, Kept.mk', Otp.noLess_refl, Kept.keep, Kept.clear, Kept.ite, Kept.ite1, Kept.foldl, Kept.foldl1, Kept.raise, Kept.setSec, Kept.wr]

theorem Kept.bzCertWrite {fx : Bool} {s0 s : State} (hk : Kept fx s0 s) (w : Word) : Kept fx s0 (State.bzCertWrite s w) := by
  unfold State.bzCertWrite; simp +contextual (maxDischargeDepth := 40) only [hk, Kept.mk', Otp.noLess_refl, Kept.keep, Kept.clear, Kept.ite, Kept.ite1, Kept.foldl, Kept.foldl1, Kept.raise, Kept.setBit]

theorem Kept.setClk {fx : Bool} {s0 s : State} (hk : Kept fx s0 s) (f : Clocks → Clocks) : Kept fx s0 (State.setClk s f) := by
  unfold State.setClk; simp +contextual (maxDischargeDepth := 40) only [hk, Kept.mk', Otp.noLess_refl, Kept.keep, Kept.clear, Kept.ite, Kept.ite1, Kept.foldl, Kept.foldl1]

theorem Kept.clkCtlWrite {fx : Bool} {s0 s : State} (hk : Kept fx s0 s) (w : Word) : Kept fx s0 (State.clkCtlWrite s w) := by
  unfold State.clkCtlWrite; simp +contextual (maxDischargeDepth := 40) only [hk, Kept.mk', Otp.noLess_refl, Kept.keep, Kept.clear, Kept.ite, Kept.ite1, Kept.foldl, Kept.foldl1, Kept.flagErr, Kept.setBit, Kept.setFld]

theorem Kept.fpllWrite {fx : Bool} {s0 s : State} (hk : Kept fx s0 s) (die i : Nat) (w : Word) : Kept fx s0 (State.fpllWrite s die i w).1 := by
  unfold State.fpllWrite; simp +contextual (maxDischargeDepth := 40) only [hk, Kept.mk', Otp.noLess_refl, Kept.keep, Kept.clear, Kept.ite, Kept.ite1, Kept.foldl, Kept.foldl1, Kept.flagErr, Kept.setBit, Kept.wr]

theorem Kept.fpllLock {fx : Bool} {s0 s : State} (hk : Kept fx s0 s) (die i : Nat) : Kept fx s0 (State.fpllLock s die i) := by
  unfold State.fpllLock; simp +contextual (maxDischargeDepth := 40) only [hk, Kept.mk', Otp.noLess_refl, Kept.keep, Kept.clear, Kept.ite, Kept.ite1, Kept.foldl, Kept.foldl1, Kept.setBit]

theorem Kept.fpllLoss {fx : Bool} {s0 s : State} (hk : Kept fx s0 s) (die i : Nat) : Kept fx s0 (State.fpllLoss s die i) := by
  unfold State.fpllLoss; simp +contextual (maxDischargeDepth := 40) only [hk, Kept.mk', Otp.noLess_refl, Kept.keep, Kept.clear, Kept.ite, Kept.ite1, Kept.foldl, Kept.foldl1, Kept.flagErr, Kept.setBit]

theorem Kept.localLoss {fx : Bool} {s0 s : State} (hk : Kept fx s0 s) (i : Nat) : Kept fx s0 (State.localLoss s i) := by
  grind [State.localLoss, Kept.mk', Otp.noLess_refl, Kept.keep, Kept.clear, Kept.foldl, Kept.foldl1, Kept.cxlLinkLost, Kept.fpllLoss, Kept.xrefLost]

theorem Kept.clocksStop {fx : Bool} {s0 s : State} (hk : Kept fx s0 s) (i : Nat) : Kept fx s0 (State.clocksStop s i) := by
  unfold State.clocksStop; simp +contextual (maxDischargeDepth := 40) only [hk, Kept.mk', Otp.noLess_refl, Kept.keep, Kept.clear, Kept.ite, Kept.ite1, Kept.foldl, Kept.foldl1, Kept.localLoss, Kept.pllLock, Kept.setBit, Kept.setClk, Kept.setFld]

theorem Kept.enterHold {fx : Bool} {s0 s : State} (hk : Kept fx s0 s) (i : Nat) : Kept fx s0 (State.enterHold s i) := by
  unfold State.enterHold; simp +contextual (maxDischargeDepth := 40) only [hk, Kept.mk', Otp.noLess_refl, Kept.keep, Kept.clear, Kept.ite, Kept.ite1, Kept.foldl, Kept.foldl1, Kept.clocksStop, Kept.flag, Kept.flagLast, Kept.raise, Kept.setClk, Kept.setSafe]

theorem Kept.referenceLoss {fx : Bool} {s0 s : State} (hk : Kept fx s0 s) (i : Nat) : Kept fx s0 (State.referenceLoss s i) := by
  unfold State.referenceLoss; simp +contextual (maxDischargeDepth := 40) only [hk, Kept.mk', Otp.noLess_refl, Kept.keep, Kept.clear, Kept.ite, Kept.ite1, Kept.foldl, Kept.foldl1, Kept.enterHold, Kept.flag, Kept.localLoss, Kept.setBit]

theorem Kept.frequencyCheck {fx : Bool} {s0 s : State} (hk : Kept fx s0 s) (i : Nat) : Kept fx s0 (State.frequencyCheck s i) := by
  unfold State.frequencyCheck; simp +contextual (maxDischargeDepth := 40) only [hk, Kept.mk', Otp.noLess_refl, Kept.keep, Kept.clear, Kept.ite, Kept.ite1, Kept.foldl, Kept.foldl1, Kept.flagErr]

theorem Kept.releaseHold {fx : Bool} {s0 s : State} (hk : Kept fx s0 s)  : Kept fx s0 (State.releaseHold s) := by
  unfold State.releaseHold
  exact Kept.ite hk (Kept.foldl (((((Kept.foldl ((hk.setClk _).setSafe _) (fun _ _ h => Kept.ite h (h.restartLanes _))).wr _ _).flag _ _).raise _ _ _ _ _ _).flagLast _).drawn (fun _ _ h => h.dieReset _))

theorem Kept.releaseWrite {fx : Bool} {s0 s : State} (hk : Kept fx s0 s)  : Kept fx s0 (State.releaseWrite s) := by
  unfold State.releaseWrite; simp +contextual (maxDischargeDepth := 40) only [hk, Kept.mk', Otp.noLess_refl, Kept.keep, Kept.clear, Kept.ite, Kept.ite1, Kept.foldl, Kept.foldl1, Kept.releaseHold, Kept.setClk]

theorem Kept.referenceReturn {fx : Bool} {s0 s : State} (hk : Kept fx s0 s) (i us : Nat) : Kept fx s0 (State.referenceReturn s i us) := by
  grind [State.referenceReturn, Kept.mk', Otp.noLess_refl, Kept.keep, Kept.clear, Kept.foldl, Kept.foldl1, Kept.deviceReset, Kept.dueReset, Kept.setBit, Kept.setClk]

theorem Kept.pllRelock {fx : Bool} {s0 s : State} (hk : Kept fx s0 s) (us : Nat) : Kept fx s0 (State.pllRelock s us) := by
  unfold State.pllRelock; simp +contextual (maxDischargeDepth := 40) only [hk, Kept.mk', Otp.noLess_refl, Kept.keep, Kept.clear, Kept.ite, Kept.ite1, Kept.foldl, Kept.foldl1, Kept.modulesRelock, Kept.pllLock, Kept.recal, Kept.releaseHold, Kept.setBit, Kept.setClk, Kept.setFld]

theorem Kept.amplitudeDetect {fx : Bool} {s0 s : State} (hk : Kept fx s0 s) (byp : Bool) (wait : Nat) : Kept fx s0 (State.amplitudeDetect s byp wait) := by
  unfold State.amplitudeDetect; simp +contextual (maxDischargeDepth := 40) only [hk, Kept.mk', Otp.noLess_refl, Kept.keep, Kept.clear, Kept.ite, Kept.ite1, Kept.foldl, Kept.foldl1, Kept.setBit, Kept.setClk]

theorem Kept.porRelease {fx : Bool} {s0 s : State} (hk : Kept fx s0 s) (x : Straps) : Kept fx s0 (State.porRelease s x) := by
  unfold State.porRelease; simp +contextual (maxDischargeDepth := 40) only [hk, Kept.mk', Otp.noLess_refl, Kept.keep, Kept.clear, Kept.ite, Kept.ite1, Kept.foldl, Kept.foldl1, Kept.setBootState, Kept.setClk, Kept.wr]

theorem Kept.spineLock {fx : Bool} {s0 s : State} (hk : Kept fx s0 s)  : Kept fx s0 (State.spineLock s) := by
  unfold State.spineLock; simp +contextual (maxDischargeDepth := 40) only [hk, Kept.mk', Otp.noLess_refl, Kept.keep, Kept.clear, Kept.ite, Kept.ite1, Kept.foldl, Kept.foldl1, Kept.pllLock, Kept.setBit]

theorem Kept.setRecorder {fx : Bool} {s0 s : State} (hk : Kept fx s0 s) (f : Recorder → Recorder) : Kept fx s0 (State.setRecorder s f) := by
  unfold State.setRecorder; simp +contextual (maxDischargeDepth := 40) only [hk, Kept.mk', Otp.noLess_refl, Kept.keep, Kept.clear, Kept.ite, Kept.ite1, Kept.foldl, Kept.foldl1]

theorem Kept.acceptRecord {fx : Bool} {s0 s : State} (hk : Kept fx s0 s) (r : Raised) (snap : List (Option Word)) : Kept fx s0 (State.acceptRecord s r snap) := by
  unfold State.acceptRecord; simp +contextual (maxDischargeDepth := 40) only [hk, Kept.mk', Otp.noLess_refl, Kept.keep, Kept.clear, Kept.ite, Kept.ite1, Kept.foldl, Kept.foldl1, Kept.count, Kept.flag, Kept.setRecorder]

theorem Kept.putRecord {fx : Bool} {s0 s : State} (hk : Kept fx s0 s) (slot : Nat) (r : Rec) : Kept fx s0 (State.putRecord s slot r) := by
  unfold State.putRecord; simp +contextual (maxDischargeDepth := 40) only [hk, Kept.mk', Otp.noLess_refl, Kept.keep, Kept.clear, Kept.ite, Kept.ite1, Kept.foldl, Kept.foldl1, Kept.flag, Kept.setRecorder]

theorem Kept.storeMain {fx : Bool} {s0 s : State} (hk : Kept fx s0 s) (r : Rec) : Kept fx s0 (State.storeMain s r) := by
  unfold State.storeMain; (repeat' split) <;> (first | assumption | (simp +contextual (maxDischargeDepth := 40) only [hk, Kept.mk', Otp.noLess_refl, Kept.keep, Kept.clear, Kept.ite, Kept.ite1, Kept.foldl, Kept.foldl1, Kept.count, Kept.flag, Kept.putRecord]; done) | grind [Kept.mk', Otp.noLess_refl, Kept.keep, Kept.clear, Kept.foldl, Kept.foldl1, Kept.count, Kept.flag, Kept.putRecord])

theorem Kept.storeSev7 {fx : Bool} {s0 s : State} (hk : Kept fx s0 s) (r : Rec) : Kept fx s0 (State.storeSev7 s r) := by
  grind [State.storeSev7, Kept.mk', Otp.noLess_refl, Kept.keep, Kept.clear, Kept.foldl, Kept.foldl1, Kept.count, Kept.flag, Kept.putRecord, Kept.sensorEvent]

theorem Kept.recordStore {fx : Bool} {s0 s : State} (hk : Kept fx s0 s) (sev7 : Bool) : Kept fx s0 (State.recordStore s sev7) := by
  grind [State.recordStore, Kept.mk', Otp.noLess_refl, Kept.keep, Kept.clear, Kept.foldl, Kept.foldl1, Kept.count, Kept.setRecorder, Kept.storeMain, Kept.storeSev7]

theorem Kept.recordFreeze {fx : Bool} {s0 s : State} (hk : Kept fx s0 s)  : Kept fx s0 (State.recordFreeze s) := by
  grind [State.recordFreeze, Kept.mk', Otp.noLess_refl, Kept.keep, Kept.clear, Kept.foldl, Kept.foldl1, Kept.setRecorder, Kept.wr]

theorem Kept.recordUnfreeze {fx : Bool} {s0 s : State} (hk : Kept fx s0 s)  : Kept fx s0 (State.recordUnfreeze s) := by
  unfold State.recordUnfreeze; simp +contextual (maxDischargeDepth := 40) only [hk, Kept.mk', Otp.noLess_refl, Kept.keep, Kept.clear, Kept.ite, Kept.ite1, Kept.foldl, Kept.foldl1, Kept.setRecorder, Kept.storeMain]

theorem Kept.recordClear {fx : Bool} {s0 s : State} (hk : Kept fx s0 s)  : Kept fx s0 (State.recordClear s) := by
  unfold State.recordClear; simp +contextual (maxDischargeDepth := 40) only [hk, Kept.mk', Otp.noLess_refl, Kept.keep, Kept.clear, Kept.ite, Kept.ite1, Kept.foldl, Kept.foldl1, Kept.setRecorder]

theorem Kept.recCmdWrite {fx : Bool} {s0 s : State} (hk : Kept fx s0 s) (w : Word) : Kept fx s0 (State.recCmdWrite s w) := by
  unfold State.recCmdWrite; simp +contextual (maxDischargeDepth := 40) only [hk, Kept.mk', Otp.noLess_refl, Kept.keep, Kept.clear, Kept.ite, Kept.ite1, Kept.foldl, Kept.foldl1, Kept.recordClear, Kept.recordFreeze, Kept.recordUnfreeze]

theorem Kept.freezeLimit {fx : Bool} {s0 s : State} (hk : Kept fx s0 s)  : Kept fx s0 (State.freezeLimit s) := by
  unfold State.freezeLimit; simp +contextual (maxDischargeDepth := 40) only [hk, Kept.mk', Otp.noLess_refl, Kept.keep, Kept.clear, Kept.ite, Kept.ite1, Kept.foldl, Kept.foldl1, Kept.recordUnfreeze]

theorem Kept.setSession {fx : Bool} {s0 s : State} (hk : Kept fx s0 s) (f : Session → Session) : Kept fx s0 (State.setSession s f) := by
  unfold State.setSession; simp +contextual (maxDischargeDepth := 40) only [hk, Kept.mk', Otp.noLess_refl, Kept.keep, Kept.clear, Kept.ite, Kept.ite1, Kept.foldl, Kept.foldl1]

theorem Kept.dbgDenied {fx : Bool} {s0 s : State} (hk : Kept fx s0 s)  : Kept fx s0 (State.dbgDenied s) := by
  unfold State.dbgDenied; simp +contextual (maxDischargeDepth := 40) only [hk, Kept.mk', Otp.noLess_refl, Kept.keep, Kept.clear, Kept.ite, Kept.ite1, Kept.foldl, Kept.foldl1, Kept.flag]

theorem Kept.tapInstruction {fx : Bool} {s0 s : State} (hk : Kept fx s0 s) (code : Nat) : Kept fx s0 (State.tapInstruction s code) := by
  grind [State.tapInstruction, Kept.mk', Otp.noLess_refl, Kept.keep, Kept.clear, Kept.foldl, Kept.foldl1, Kept.dbgDenied, Kept.setSession, Kept.withBoundary]

theorem Kept.tapCells {fx : Bool} {s0 s : State} (hk : Kept fx s0 s) (l : List (Nat × Bool × Bool)) : Kept fx s0 (State.tapCells s l) := by
  unfold State.tapCells; simp +contextual (maxDischargeDepth := 40) only [hk, Kept.mk', Otp.noLess_refl, Kept.keep, Kept.clear, Kept.ite, Kept.ite1, Kept.foldl, Kept.foldl1, Kept.setSession]

theorem Kept.tapReset {fx : Bool} {s0 s : State} (hk : Kept fx s0 s)  : Kept fx s0 (State.tapReset s) := by
  unfold State.tapReset; simp +contextual (maxDischargeDepth := 40) only [hk, Kept.mk', Otp.noLess_refl, Kept.keep, Kept.clear, Kept.ite, Kept.ite1, Kept.foldl, Kept.foldl1, Kept.tapInstruction]

theorem Kept.clearAbuf {fx : Bool} {s0 s : State} (hk : Kept fx s0 s)  : Kept fx s0 (State.clearAbuf s) := by
  unfold State.clearAbuf; simp +contextual (maxDischargeDepth := 40) only [hk, Kept.mk', Otp.noLess_refl, Kept.keep, Kept.clear, Kept.ite, Kept.ite1, Kept.foldl, Kept.foldl1]

theorem Kept.authFailed {fx : Bool} {s0 s : State} (hk : Kept fx s0 s)  : Kept fx s0 (State.authFailed s) := by
  unfold State.authFailed; simp +contextual (maxDischargeDepth := 40) only [hk, Kept.mk', Otp.noLess_refl, Kept.keep, Kept.clear, Kept.ite, Kept.ite1, Kept.foldl, Kept.foldl1, Kept.raise, Kept.setSession]

theorem Kept.openSession {fx : Bool} {s0 s : State} (hk : Kept fx s0 s) (mode scope key : Nat) : Kept fx s0 (State.openSession s mode scope key) := by
  unfold State.openSession; simp +contextual (maxDischargeDepth := 40) only [hk, Kept.mk', Otp.noLess_refl, Kept.keep, Kept.clear, Kept.ite, Kept.ite1, Kept.foldl, Kept.foldl1, Kept.count, Kept.drawn, Kept.flagLast, Kept.raise, Kept.setSession]

theorem Kept.password {fx : Bool} {s0 s : State} (hk : Kept fx s0 s) (scope : Nat) : Kept fx s0 (State.password s scope) := by
  unfold State.password; simp +contextual (maxDischargeDepth := 40) only [hk, Kept.mk', Otp.noLess_refl, Kept.keep, Kept.clear, Kept.ite, Kept.ite1, Kept.foldl, Kept.foldl1, Kept.authFailed, Kept.clearAbuf, Kept.dbgDenied, Kept.openSession, Kept.setSession]

theorem Kept.putAbuf {fx : Bool} {s0 s : State} (hk : Kept fx s0 s) (w : Nat) (l : List Byte) : Kept fx s0 (State.putAbuf s w l) := by
  grind [State.putAbuf, Kept.mk', Otp.noLess_refl, Kept.keep, Kept.clear, Kept.foldl, Kept.foldl1, Kept.wr]

theorem Kept.challenge {fx : Bool} {s0 s : State} (hk : Kept fx s0 s) (scope : Nat) : Kept fx s0 (State.challenge s scope) := by
  unfold State.challenge; simp +contextual (maxDischargeDepth := 40) only [hk, Kept.mk', Otp.noLess_refl, Kept.keep, Kept.clear, Kept.ite, Kept.ite1, Kept.foldl, Kept.foldl1, Kept.clearAbuf, Kept.dbgDenied, Kept.drawnN, Kept.putAbuf, Kept.setSession]

theorem Kept.sessionErase {fx : Bool} {s0 s : State} (hk : Kept fx s0 s) (scope key : Nat) (zfill : Bool) : Kept fx s0 (State.sessionErase s scope key zfill) := by
  unfold State.sessionErase; simp +contextual (maxDischargeDepth := 40) only [hk, Kept.mk', Otp.noLess_refl, Kept.keep, Kept.clear, Kept.ite, Kept.ite1, Kept.foldl, Kept.foldl1, Kept.challenge, Kept.deviceReset, Kept.raise, Kept.setSession, Kept.wipeKeys]

theorem Kept.response {fx : Bool} {s0 s : State} (hk : Kept fx s0 s) (scope : Nat) (zfill late : Bool) : Kept fx s0 (State.response s scope zfill late) := by
  grind [State.response, Kept.mk', Otp.noLess_refl, Kept.keep, Kept.clear, Kept.foldl, Kept.foldl1, Kept.authFailed, Kept.challenge, Kept.clearAbuf, Kept.dbgDenied, Kept.flag, Kept.lateArrival, Kept.openSession, Kept.sessionErase, Kept.setSession]

theorem Kept.closeCommand {fx : Bool} {s0 s : State} (hk : Kept fx s0 s)  : Kept fx s0 (State.closeCommand s) := by
  unfold State.closeCommand; simp +contextual (maxDischargeDepth := 40) only [hk, Kept.mk', Otp.noLess_refl, Kept.keep, Kept.clear, Kept.ite, Kept.ite1, Kept.foldl, Kept.foldl1, Kept.clearAbuf, Kept.closeSession, Kept.deviceReset]

theorem Kept.acmdWrite {fx : Bool} {s0 s : State} (hk : Kept fx s0 s) (w : Word) : Kept fx s0 (State.acmdWrite s w) := by
  grind [State.acmdWrite, Kept.mk', Otp.noLess_refl, Kept.keep, Kept.clear, Kept.foldl, Kept.foldl1, Kept.challenge, Kept.closeCommand, Kept.flag, Kept.password, Kept.response]

theorem Kept.challengeExpiry {fx : Bool} {s0 s : State} (hk : Kept fx s0 s)  : Kept fx s0 (State.challengeExpiry s) := by
  unfold State.challengeExpiry; simp +contextual (maxDischargeDepth := 40) only [hk, Kept.mk', Otp.noLess_refl, Kept.keep, Kept.clear, Kept.ite, Kept.ite1, Kept.foldl, Kept.foldl1, Kept.challenge, Kept.setSession]

theorem Kept.authDelayEnd {fx : Bool} {s0 s : State} (hk : Kept fx s0 s)  : Kept fx s0 (State.authDelayEnd s) := by
  unfold State.authDelayEnd; simp +contextual (maxDischargeDepth := 40) only [hk, Kept.mk', Otp.noLess_refl, Kept.keep, Kept.clear, Kept.ite, Kept.ite1, Kept.foldl, Kept.foldl1, Kept.setSession]

theorem Kept.fRefused {fx : Bool} {s0 s : State} (hk : Kept fx s0 s)  : Kept fx s0 (State.fRefused s) := by
  unfold State.fRefused; simp +contextual (maxDischargeDepth := 40) only [hk, Kept.mk', Otp.noLess_refl, Kept.keep, Kept.clear, Kept.ite, Kept.ite1, Kept.foldl, Kept.foldl1, Kept.flag]

theorem Kept.facetHalt {fx : Bool} {s0 s : State} (hk : Kept fx s0 s)  : Kept fx s0 (State.facetHalt s).1 := by
  grind [State.facetHalt, Kept.mk', Otp.noLess_refl, Kept.keep, Kept.clear, Kept.foldl, Kept.foldl1, Kept.fRefused, Kept.haltFacet]

theorem Kept.facetResume {fx : Bool} {s0 s : State} (hk : Kept fx s0 s)  : Kept fx s0 (State.facetResume s).1 := by
  grind [State.facetResume, Kept.mk', Otp.noLess_refl, Kept.keep, Kept.clear, Kept.foldl, Kept.foldl1, Kept.fRefused, Kept.haltFacet]

theorem Kept.fregWrite {fx : Bool} {s0 s : State} (hk : Kept fx s0 s) (w : Word) : Kept fx s0 (State.fregWrite s w).1 := by
  grind [State.fregWrite, Kept.mk', Otp.noLess_refl, Kept.keep, Kept.clear, Kept.foldl, Kept.foldl1, Kept.debugRead, Kept.fRefused, Kept.setFacet, Kept.wr]

theorem Kept.txPush {fx : Bool} {s0 s : State} (hk : Kept fx s0 s) (b : Byte) : Kept fx s0 (State.txPush s b) := by
  unfold State.txPush; simp +contextual (maxDischargeDepth := 40) only [hk, Kept.mk', Otp.noLess_refl, Kept.keep, Kept.clear, Kept.ite, Kept.ite1, Kept.foldl, Kept.foldl1, Kept.flag, Kept.setSession]

theorem Kept.txPop {fx : Bool} {s0 s : State} (hk : Kept fx s0 s)  : Kept fx s0 (State.txPop s) := by
  unfold State.txPop; simp +contextual (maxDischargeDepth := 40) only [hk, Kept.mk', Otp.noLess_refl, Kept.keep, Kept.clear, Kept.ite, Kept.ite1, Kept.foldl, Kept.foldl1, Kept.setSession]

theorem Kept.rxPush {fx : Bool} {s0 s : State} (hk : Kept fx s0 s) (b : Byte) : Kept fx s0 (State.rxPush s b) := by
  unfold State.rxPush; simp +contextual (maxDischargeDepth := 40) only [hk, Kept.mk', Otp.noLess_refl, Kept.keep, Kept.clear, Kept.ite, Kept.ite1, Kept.foldl, Kept.foldl1, Kept.flag, Kept.setSession]

theorem Kept.rxPop {fx : Bool} {s0 s : State} (hk : Kept fx s0 s)  : Kept fx s0 (State.rxPop s).1 := by
  grind [State.rxPop, Kept.mk', Otp.noLess_refl, Kept.keep, Kept.clear, Kept.foldl, Kept.foldl1, Kept.flag, Kept.setSession]

theorem Kept.vtTxWrite {fx : Bool} {s0 s : State} (hk : Kept fx s0 s) (req : Nat) (w : Word) : Kept fx s0 (State.vtTxWrite s req w) := by
  grind [State.vtTxWrite, Kept.mk', Otp.noLess_refl, Kept.keep, Kept.clear, Kept.foldl, Kept.foldl1, Kept.setBit, Kept.txPop, Kept.txPush]

theorem Kept.vtRxWrite {fx : Bool} {s0 s : State} (hk : Kept fx s0 s) (req : Nat) (w : Word) : Kept fx s0 (State.vtRxWrite s req w) := by
  unfold State.vtRxWrite; simp +contextual (maxDischargeDepth := 40) only [hk, Kept.mk', Otp.noLess_refl, Kept.keep, Kept.clear, Kept.ite, Kept.ite1, Kept.foldl, Kept.foldl1, Kept.rxPush, Kept.wr]

theorem Kept.wdtExpiry {fx : Bool} {s0 s : State} (hk : Kept fx s0 s) (i : Nat) : Kept fx s0 (State.wdtExpiry s i) := by
  grind [State.wdtExpiry, Kept.mk', Otp.noLess_refl, Kept.keep, Kept.clear, Kept.foldl, Kept.foldl1, Kept.deviceReset, Kept.dieReset, Kept.flag, Kept.raise, Kept.setCore, Kept.wdtReload]

theorem Kept.facetEffect {fx : Bool} {s0 s : State} (hk : Kept fx s0 s) (die p : Nat) (e : FEffect) : Kept fx s0 (State.facetEffect s die p e) := by
  unfold State.facetEffect; (repeat' split) <;> (first | assumption | (simp +contextual (maxDischargeDepth := 40) only [hk, Kept.mk', Otp.noLess_refl, Kept.keep, Kept.clear, Kept.ite, Kept.ite1, Kept.foldl, Kept.foldl1, Kept.completeTask, Kept.facetRest, Kept.flagErr, Kept.flagLast, Kept.kick, Kept.raise, Kept.raiseUrgent, Kept.requestTask, Kept.setFacet]; done) | grind [Kept.mk', Otp.noLess_refl, Kept.keep, Kept.clear, Kept.foldl, Kept.foldl1, Kept.completeTask, Kept.facetRest, Kept.flagErr, Kept.flagLast, Kept.kick, Kept.raise, Kept.raiseUrgent, Kept.requestTask, Kept.setFacet])

theorem Kept.issueCycle {fx : Bool} {s0 s : State} (hk : Kept fx s0 s) (die p : Nat) : Kept fx s0 (State.issueCycle s die p) := by
  unfold State.issueCycle; (repeat' split) <;> (first | assumption | (simp +contextual (maxDischargeDepth := 40) only [hk, Kept.mk', Otp.noLess_refl, Kept.keep, Kept.clear, Kept.ite, Kept.ite1, Kept.foldl, Kept.foldl1, Kept.facetEffect, Kept.facetFault, Kept.flag, Kept.lateArrival, Kept.setFacet, Kept.setPorts]; done) | grind [Kept.mk', Otp.noLess_refl, Kept.keep, Kept.clear, Kept.foldl, Kept.foldl1, Kept.facetEffect, Kept.facetFault, Kept.flag, Kept.lateArrival, Kept.setFacet, Kept.setPorts])

theorem Kept.issueAs {fx : Bool} {s0 s : State} (hk : Kept fx s0 s) (die p : Nat) (kind : Bundle → Bool) : Kept fx s0 (State.issueAs s die p kind) := by
  grind [State.issueAs, Kept.mk', Otp.noLess_refl, Kept.keep, Kept.clear, Kept.foldl, Kept.foldl1, Kept.issueCycle]

theorem Kept.strike {fx : Bool} {s0 s : State} (hk : Kept fx s0 s) (die p : Nat) (u : Upset) : Kept fx s0 (State.strike s die p u) := by
  unfold State.strike; (repeat' split) <;> (first | assumption | (simp +contextual (maxDischargeDepth := 40) only [hk, Kept.mk', Otp.noLess_refl, Kept.keep, Kept.clear, Kept.ite, Kept.ite1, Kept.foldl, Kept.foldl1, Kept.setFacet]; done) | grind [Kept.mk', Otp.noLess_refl, Kept.keep, Kept.clear, Kept.foldl, Kept.foldl1, Kept.setFacet])

theorem Kept.taskWatchdog {fx : Bool} {s0 s : State} (hk : Kept fx s0 s) (die p : Nat) : Kept fx s0 (State.taskWatchdog s die p) := by
  unfold State.taskWatchdog; simp +contextual (maxDischargeDepth := 40) only [hk, Kept.mk', Otp.noLess_refl, Kept.keep, Kept.clear, Kept.ite, Kept.ite1, Kept.foldl, Kept.foldl1, Kept.facetFault]

theorem Kept.stepBundles {fx : Bool} {s0 s : State} (hk : Kept fx s0 s) (die p n : Nat) : Kept fx s0 (State.stepBundles s die p n) := by
  induction n generalizing s with
  | zero => exact hk
  | succ n ih =>
    unfold State.stepBundles
    exact Kept.ite (ih (hk.issueCycle _ _)) (hk.issueCycle _ _)

theorem Kept.stepHalted {fx : Bool} {s0 s : State} (hk : Kept fx s0 s) (die p : Nat) : Kept fx s0 (State.stepHalted s die p) := by
  unfold State.stepHalted
  exact Kept.ite (Kept.setFacet ((hk.setFacet _ _ _).stepBundles _ _ _) _ _ _) ((hk.setFacet _ _ _).stepBundles _ _ _)

theorem Kept.facetStep {fx : Bool} {s0 s : State} (hk : Kept fx s0 s)  : Kept fx s0 (State.facetStep s).1 := by
  unfold State.facetStep
  split
  · exact hk.fRefused
  · refine Kept.ite1 hk.fRefused (Kept.ite1 hk ?_)
    dsimp only
    exact hk.stepHalted _ _

theorem Kept.streamIn {fx : Bool} {s0 s : State} (hk : Kept fx s0 s) (die rg l port : Nat) (v : BitVec 24) : Kept fx s0 (State.streamIn s die rg l port v) := by
  unfold State.streamIn; simp +contextual (maxDischargeDepth := 40) only [hk, Kept.mk', Otp.noLess_refl, Kept.keep, Kept.clear, Kept.ite, Kept.ite1, Kept.foldl, Kept.foldl1, Kept.setPorts]

theorem Kept.streamOut {fx : Bool} {s0 s : State} (hk : Kept fx s0 s) (die rg l port : Nat) : Kept fx s0 (State.streamOut s die rg l port) := by
  unfold State.streamOut; simp +contextual (maxDischargeDepth := 40) only [hk, Kept.mk', Otp.noLess_refl, Kept.keep, Kept.clear, Kept.ite, Kept.ite1, Kept.foldl, Kept.foldl1, Kept.setPorts]

theorem Kept.bankWrite {fx : Bool} {s0 s : State} (hk : Kept fx s0 s) (die p : Nat) (isB : Bool) (a : Nat) (w : Word) : Kept fx s0 (State.bankWrite s die p isB a w) := by
  unfold State.bankWrite; simp +contextual (maxDischargeDepth := 40) only [hk, Kept.mk', Otp.noLess_refl, Kept.keep, Kept.clear, Kept.ite, Kept.ite1, Kept.foldl, Kept.foldl1, Kept.setFacet]

theorem Kept.programWrite {fx : Bool} {s0 s : State} (hk : Kept fx s0 s) (die p : Nat) (req : Requester) (off : Nat) (w : Word) : Kept fx s0 (State.programWrite s die p req off w).1 := by
  grind [State.programWrite, Kept.mk', Otp.noLess_refl, Kept.keep, Kept.clear, Kept.foldl, Kept.foldl1, Kept.setFacet]

theorem Kept.facetViewWrite {fx : Bool} {s0 s : State} (hk : Kept fx s0 s) (die p : Nat) (req : Requester) (off : Nat) (w : Word) : Kept fx s0 (State.facetViewWrite s die p req off w).1 := by
  unfold State.facetViewWrite; simp +contextual (maxDischargeDepth := 40) only [hk, Kept.mk', Otp.noLess_refl, Kept.keep, Kept.clear, Kept.ite, Kept.ite1, Kept.foldl, Kept.foldl1, Kept.bankWrite, Kept.programWrite]

theorem Kept.setEntry {fx : Bool} {s0 s : State} (hk : Kept fx s0 s) (die i : Nat) (e : CalEntry) : Kept fx s0 (State.setEntry s die i e) := by
  unfold State.setEntry; simp +contextual (maxDischargeDepth := 40) only [hk, Kept.mk', Otp.noLess_refl, Kept.keep, Kept.clear, Kept.ite, Kept.ite1, Kept.foldl, Kept.foldl1, Kept.setSlice]

theorem Kept.calError {fx : Bool} {s0 s : State} (hk : Kept fx s0 s) (die i code : Nat) : Kept fx s0 (State.calError s die i code) := by
  unfold State.calError; simp +contextual (maxDischargeDepth := 40) only [hk, Kept.mk', Otp.noLess_refl, Kept.keep, Kept.clear, Kept.ite, Kept.ite1, Kept.foldl, Kept.foldl1, Kept.flag, Kept.raise, Kept.setSlice, Kept.wr]

theorem Kept.disarm {fx : Bool} {s0 s : State} (hk : Kept fx s0 s) (die i : Nat) : Kept fx s0 (State.disarm s die i) := by
  unfold State.disarm; simp +contextual (maxDischargeDepth := 40) only [hk, Kept.mk', Otp.noLess_refl, Kept.keep, Kept.clear, Kept.ite, Kept.ite1, Kept.foldl, Kept.foldl1, Kept.setEntry, Kept.setSlice]

theorem Kept.disarmError {fx : Bool} {s0 s : State} (hk : Kept fx s0 s) (die i : Nat) : Kept fx s0 (State.disarmError s die i) := by
  unfold State.disarmError; simp +contextual (maxDischargeDepth := 40) only [hk, Kept.mk', Otp.noLess_refl, Kept.keep, Kept.clear, Kept.ite, Kept.ite1, Kept.foldl, Kept.foldl1, Kept.calError, Kept.disarm, Kept.setEntry]

theorem Kept.arm {fx : Bool} {s0 s : State} (hk : Kept fx s0 s) (die i : Nat) (anchor : Option DWord) : Kept fx s0 (State.arm s die i anchor) := by
  unfold State.arm; simp +contextual (maxDischargeDepth := 40) only [hk, Kept.mk', Otp.noLess_refl, Kept.keep, Kept.clear, Kept.ite, Kept.ite1, Kept.foldl, Kept.foldl1, Kept.calError, Kept.setEntry]

theorem Kept.calWord {fx : Bool} {s0 s : State} (hk : Kept fx s0 s) (die i w : Nat) (v : Word) : Kept fx s0 (State.calWord s die i w v).1 := by
  unfold State.calWord; simp +contextual (maxDischargeDepth := 40) only [hk, Kept.mk', Otp.noLess_refl, Kept.keep, Kept.clear, Kept.ite, Kept.ite1, Kept.foldl, Kept.foldl1, Kept.arm, Kept.disarm, Kept.flag, Kept.setEntry]

theorem Kept.calEnable {fx : Bool} {s0 s : State} (hk : Kept fx s0 s) (die : Nat) (en : Bool) : Kept fx s0 (State.calEnable s die en) := by
  unfold State.calEnable; simp +contextual (maxDischargeDepth := 40) only [hk, Kept.mk', Otp.noLess_refl, Kept.keep, Kept.clear, Kept.ite, Kept.ite1, Kept.foldl, Kept.foldl1, Kept.setSlice]

theorem Kept.applyCalWrite {fx : Bool} {s0 s : State} (hk : Kept fx s0 s) (w : List Nat × CalWrite) : Kept fx s0 (State.applyCalWrite s w) := by
  grind [State.applyCalWrite, Kept.mk', Otp.noLess_refl, Kept.keep, Kept.clear, Kept.foldl, Kept.foldl1, Kept.calEnable, Kept.calWord, Kept.completeAccess]

theorem Kept.staged {fx : Bool} {s0 s : State} (hk : Kept fx s0 s) (die : Nat) : Kept fx s0 (State.staged s die) := by
  grind [State.staged, Kept.mk', Otp.noLess_refl, Kept.keep, Kept.clear, Kept.foldl, Kept.foldl1, Kept.arm, Kept.disarm, Kept.setEntry, Kept.setSlice, Kept.wr]

theorem Kept.shiftEntry {fx : Bool} {s0 s : State} (hk : Kept fx s0 s) (die i : Nat) (by_ : Int) : Kept fx s0 (State.shiftEntry s die i by_) := by
  unfold State.shiftEntry; simp +contextual (maxDischargeDepth := 40) only [hk, Kept.mk', Otp.noLess_refl, Kept.keep, Kept.clear, Kept.ite, Kept.ite1, Kept.foldl, Kept.foldl1, Kept.disarmError, Kept.setEntry]

theorem Kept.groupCommand {fx : Bool} {s0 s : State} (hk : Kept fx s0 s) (die : Nat) : Kept fx s0 (State.groupCommand s die) := by
  grind [State.groupCommand, Kept.mk', Otp.noLess_refl, Kept.keep, Kept.clear, Kept.foldl, Kept.foldl1, Kept.arm, Kept.disarm, Kept.flag, Kept.setSlice, Kept.shiftEntry]

theorem Kept.applyArming {fx : Bool} {s0 s : State} (hk : Kept fx s0 s) (die : Nat) (kept : List Nat) (a : Arming) : Kept fx s0 (State.applyArming s die kept a) := by
  grind [State.applyArming, Kept.mk', Otp.noLess_refl, Kept.keep, Kept.clear, Kept.foldl, Kept.foldl1, Kept.arm, Kept.disarm]

theorem Kept.armings {fx : Bool} {s0 s : State} (hk : Kept fx s0 s) (die : Nat) (kept : List Nat) : Kept fx s0 (State.armings s die kept) := by
  grind [State.armings, Kept.mk', Otp.noLess_refl, Kept.keep, Kept.clear, Kept.foldl, Kept.foldl1, Kept.applyArming, Kept.arm, Kept.disarm, Kept.setSlice]

theorem Kept.calBoundary {fx : Bool} {s0 s : State} (hk : Kept fx s0 s)  : Kept fx s0 (State.calBoundary s) := by
  grind [State.calBoundary, Kept.mk', Otp.noLess_refl, Kept.keep, Kept.clear, Kept.foldl, Kept.foldl1, Kept.applyCalWrite, Kept.arm, Kept.armings, Kept.groupCommand, Kept.staged]

theorem Kept.calCtlWrite {fx : Bool} {s0 s : State} (hk : Kept fx s0 s) (die : Nat) (w : Word) : Kept fx s0 (State.calCtlWrite s die w) := by
  unfold State.calCtlWrite; simp +contextual (maxDischargeDepth := 40) only [hk, Kept.mk', Otp.noLess_refl, Kept.keep, Kept.clear, Kept.ite, Kept.ite1, Kept.foldl, Kept.foldl1, Kept.wr]

theorem Kept.calStatWrite {fx : Bool} {s0 s : State} (hk : Kept fx s0 s) (die : Nat) (w : Word) : Kept fx s0 (State.calStatWrite s die w) := by
  unfold State.calStatWrite; simp +contextual (maxDischargeDepth := 40) only [hk, Kept.mk', Otp.noLess_refl, Kept.keep, Kept.clear, Kept.ite, Kept.ite1, Kept.foldl, Kept.foldl1, Kept.setSlice, Kept.wr]

theorem Kept.calStgWrite {fx : Bool} {s0 s : State} (hk : Kept fx s0 s) (die k : Nat) (w : Word) : Kept fx s0 (State.calStgWrite s die k w).1 := by
  unfold State.calStgWrite; simp +contextual (maxDischargeDepth := 40) only [hk, Kept.mk', Otp.noLess_refl, Kept.keep, Kept.clear, Kept.ite, Kept.ite1, Kept.foldl, Kept.foldl1, Kept.flag, Kept.wr]

theorem Kept.calStgCmdWrite {fx : Bool} {s0 s : State} (hk : Kept fx s0 s) (die : Nat) (w : Word) : Kept fx s0 (State.calStgCmdWrite s die w).1 := by
  grind [State.calStgCmdWrite, Kept.mk', Otp.noLess_refl, Kept.keep, Kept.clear, Kept.foldl, Kept.foldl1, Kept.flag, Kept.setSlice, Kept.wr]

theorem Kept.calGcmdWrite {fx : Bool} {s0 s : State} (hk : Kept fx s0 s) (die : Nat) (w : Word) : Kept fx s0 (State.calGcmdWrite s die w).1 := by
  unfold State.calGcmdWrite; simp +contextual (maxDischargeDepth := 40) only [hk, Kept.mk', Otp.noLess_refl, Kept.keep, Kept.clear, Kept.ite, Kept.ite1, Kept.foldl, Kept.foldl1, Kept.flagIf, Kept.setSlice, Kept.wr]

theorem Kept.send {fx : Bool} {s0 s : State} (hk : Kept fx s0 s) (f : Flight) : Kept fx s0 (State.send s f) := by
  unfold State.send; simp +contextual (maxDischargeDepth := 40) only [hk, Kept.mk', Otp.noLess_refl, Kept.keep, Kept.clear, Kept.ite, Kept.ite1, Kept.foldl, Kept.foldl1]

theorem Kept.sendArming {fx : Bool} {s0 s : State} (hk : Kept fx s0 s) (die slice : Nat) (a : Arming) : Kept fx s0 (State.sendArming s die slice a) := by
  unfold State.sendArming; simp +contextual (maxDischargeDepth := 40) only [hk, Kept.mk', Otp.noLess_refl, Kept.keep, Kept.clear, Kept.ite, Kept.ite1, Kept.foldl, Kept.foldl1, Kept.arm, Kept.send, Kept.setSlice]

theorem Kept.calKick {fx : Bool} {s0 s : State} (hk : Kept fx s0 s) (set : Bool) (n : Nat) : Kept fx s0 (State.calKick s set n).1 := by
  unfold State.calKick; simp +contextual (maxDischargeDepth := 40) only [hk, Kept.mk', Otp.noLess_refl, Kept.keep, Kept.clear, Kept.ite, Kept.ite1, Kept.foldl, Kept.foldl1, Kept.kick, Kept.kickSet]

theorem Kept.calRequest {fx : Bool} {s0 s : State} (hk : Kept fx s0 s) (die rg task param : Nat) (dl : Option EndAt) (cal : Bool) : Kept fx s0 (State.calRequest s die rg task param dl cal) := by
  unfold State.calRequest; simp +contextual (maxDischargeDepth := 40) only [hk, Kept.mk', Otp.noLess_refl, Kept.keep, Kept.clear, Kept.ite, Kept.ite1, Kept.foldl, Kept.foldl1, Kept.setSlice]

theorem Kept.calDispatch {fx : Bool} {s0 s : State} (hk : Kept fx s0 s) (die : Nat) (e : CalEntry) (occ x : DWord) : Kept fx s0 (State.calDispatch s die e occ x).1 := by
  unfold State.calDispatch; simp +contextual (maxDischargeDepth := 40) only [hk, Kept.mk', Otp.noLess_refl, Kept.keep, Kept.clear, Kept.ite, Kept.ite1, Kept.foldl, Kept.foldl1, Kept.calRequest]

theorem Kept.calStrobe {fx : Bool} {s0 s : State} (hk : Kept fx s0 s) (die : Nat) (e : CalEntry) (x : DWord) : Kept fx s0 (State.calStrobe s die e x).1 := by
  grind [State.calStrobe, Kept.mk', Otp.noLess_refl, Kept.keep, Kept.clear, Kept.foldl, Kept.foldl1, Kept.calRequest, Kept.setFabric]

theorem Kept.calPadSwitch {fx : Bool} {s0 s : State} (hk : Kept fx s0 s) (die : Nat) (e : CalEntry) (x : DWord) : Kept fx s0 (State.calPadSwitch s die e x).1 := by
  grind [State.calPadSwitch, Kept.mk', Otp.noLess_refl, Kept.keep, Kept.clear, Kept.foldl, Kept.foldl1, Kept.beginSwitch, Kept.raise, Kept.setFld, Kept.setPad, Kept.switchPad]

theorem Kept.calAction {fx : Bool} {s0 s : State} (hk : Kept fx s0 s) (die i : Nat) (e : CalEntry) (occ x : DWord) : Kept fx s0 (State.calAction s die i e occ x).1 := by
  grind [State.calAction, Kept.mk', Otp.noLess_refl, Kept.keep, Kept.clear, Kept.foldl, Kept.foldl1, Kept.calDispatch, Kept.calError, Kept.calKick, Kept.calPadSwitch, Kept.calStrobe, Kept.disarm, Kept.flag, Kept.flagIf, Kept.kick, Kept.kickSet, Kept.loupeCalendar, Kept.raiseUrgent, Kept.send, Kept.sendArming, Kept.setSlice]

theorem Kept.advance {fx : Bool} {s0 s : State} (hk : Kept fx s0 s) (die i : Nat) (fwd : Bool) (k : Nat) : Kept fx s0 (State.advance s die i fwd k) := by
  unfold State.advance; simp +contextual (maxDischargeDepth := 40) only [hk, Kept.mk', Otp.noLess_refl, Kept.keep, Kept.clear, Kept.ite, Kept.ite1, Kept.foldl, Kept.foldl1, Kept.disarmError, Kept.setEntry]

theorem Kept.countOff {fx : Bool} {s0 s : State} (hk : Kept fx s0 s) (die i k : Nat) : Kept fx s0 (State.countOff s die i k) := by
  unfold State.countOff; simp +contextual (maxDischargeDepth := 40) only [hk, Kept.mk', Otp.noLess_refl, Kept.keep, Kept.clear, Kept.ite, Kept.ite1, Kept.foldl, Kept.foldl1, Kept.count, Kept.disarm, Kept.setEntry]

theorem Kept.skip {fx : Bool} {s0 s : State} (hk : Kept fx s0 s) (die i : Nat) (fwd : Bool) (k : Nat) : Kept fx s0 (State.skip s die i fwd k) := by
  unfold State.skip; simp +contextual (maxDischargeDepth := 40) only [hk, Kept.mk', Otp.noLess_refl, Kept.keep, Kept.clear, Kept.ite, Kept.ite1, Kept.foldl, Kept.foldl1, Kept.advance, Kept.count, Kept.countOff, Kept.flag, Kept.setEntry]

theorem Kept.skipPast {fx : Bool} {s0 s : State} (hk : Kept fx s0 s) (die i : Nat) (fwd : Bool) (lim : DWord) : Kept fx s0 (State.skipPast s die i fwd lim) := by
  unfold State.skipPast; simp +contextual (maxDischargeDepth := 40) only [hk, Kept.mk', Otp.noLess_refl, Kept.keep, Kept.clear, Kept.ite, Kept.ite1, Kept.foldl, Kept.foldl1, Kept.count, Kept.skip]

theorem Kept.afterFiring {fx : Bool} {s0 s : State} (hk : Kept fx s0 s) (die i : Nat) (fwd : Bool) (cur : DWord) : Kept fx s0 (State.afterFiring s die i fwd cur) := by
  unfold State.afterFiring; simp +contextual (maxDischargeDepth := 40) only [hk, Kept.mk', Otp.noLess_refl, Kept.keep, Kept.clear, Kept.ite, Kept.ite1, Kept.foldl, Kept.foldl1, Kept.setEntry, Kept.skipPast]

theorem Kept.crossing83 {fx : Bool} {s0 s : State} (hk : Kept fx s0 s) (die i : Nat) (p c : DWord) (late : Bool) : Kept fx s0 (State.crossing83 s die i p c late).1 := by
  unfold State.crossing83; simp +contextual (maxDischargeDepth := 40) only [hk, Kept.mk', Otp.noLess_refl, Kept.keep, Kept.clear, Kept.ite, Kept.ite1, Kept.foldl, Kept.foldl1, Kept.advance, Kept.skip, Kept.skipPast]

theorem Kept.evaluate {fx : Bool} {s0 s : State} (hk : Kept fx s0 s) (die i : Nat) : Kept fx s0 (State.evaluate s die i).1 := by
  grind [State.evaluate, Kept.mk', Otp.noLess_refl, Kept.keep, Kept.clear, Kept.foldl, Kept.foldl1, Kept.crossing83, Kept.setEntry, Kept.skipPast]

theorem Kept.fire {fx : Bool} {s0 s : State} (hk : Kept fx s0 s) (die : Nat) (f : Due) : Kept fx s0 (State.fire s die f) := by
  unfold State.fire; simp +contextual (maxDischargeDepth := 40) only [hk, Kept.mk', Otp.noLess_refl, Kept.keep, Kept.clear, Kept.ite, Kept.ite1, Kept.foldl, Kept.foldl1, Kept.advance, Kept.afterFiring, Kept.calAction, Kept.calError, Kept.count, Kept.countOff, Kept.flag, Kept.flagIf, Kept.sendArming, Kept.setEntry, Kept.setSlice]

theorem Kept.skipDue {fx : Bool} {s0 s : State} (hk : Kept fx s0 s) (die : Nat) (f : Due) : Kept fx s0 (State.skipDue s die f) := by
  unfold State.skipDue; simp +contextual (maxDischargeDepth := 40) only [hk, Kept.mk', Otp.noLess_refl, Kept.keep, Kept.clear, Kept.ite, Kept.ite1, Kept.foldl, Kept.foldl1, Kept.skip, Kept.skipPast]

theorem Kept.fireNew {fx : Bool} {s0 s : State} (hk : Kept fx s0 s) (die cap : Nat) (l : List Due) : Kept fx s0 (State.fireNew s die cap l) := by
  induction l generalizing s cap with
  | nil => unfold State.fireNew; exact hk
  | cons f fs ih =>
    unfold State.fireNew
    dsimp only
    split
    · exact ih hk _
    · split
      · exact ih (((hk.setSlice _ _).setEntry _ _ _).flag _ _) _
      · exact ih (Kept.ite (hk.skipDue _ _) (hk.fire _ _)) _

theorem Kept.fireBacklog {fx : Bool} {s0 s : State} (hk : Kept fx s0 s) (die : Nat) (b : Waiting) : Kept fx s0 (State.fireBacklog s die b) := by
  unfold State.fireBacklog; simp +contextual (maxDischargeDepth := 40) only [hk, Kept.mk', Otp.noLess_refl, Kept.keep, Kept.clear, Kept.ite, Kept.ite1, Kept.foldl, Kept.foldl1, Kept.fire, Kept.skipDue]

theorem Kept.gatherDue {fx : Bool} {s0 s : State} (hk : Kept fx s0 s) (die : Nat) (is : List Nat) : Kept fx s0 (State.gatherDue s die is).1 := by
  unfold State.gatherDue
  exact Kept.foldl1 hk (fun x i hx => hx.evaluate _ _)

theorem Kept.calStep {fx : Bool} {s0 s : State} (hk : Kept fx s0 s) (die : Nat) : Kept fx s0 (State.calStep s die) := by
  unfold State.calStep
  refine Kept.ite (hk.setSlice _ _) (Kept.ite (Kept.ite (hk.setSlice _ _) ((hk.setSlice _ _).setSlice _ _)) ?_)
  dsimp only
  refine Kept.setFld (Kept.foldl (Kept.fireNew (Kept.foldl (Kept.flagIf (Kept.setSlice (((hk.setSlice _ _).gatherDue _ _).gatherDue _ _) _ _) _ _ _) ?_) _ _ _) ?_) _ _ _ _
  · exact fun _ _ h => h.fireBacklog _ _
  · exact fun _ _ h => Kept.ite (h.skipDue _ _) (h.fire _ _)

theorem Kept.calRequests {fx : Bool} {s0 s : State} (hk : Kept fx s0 s) (die : Nat) : Kept fx s0 (State.calRequests s die) := by
  grind [State.calRequests, Kept.mk', Otp.noLess_refl, Kept.keep, Kept.clear, Kept.foldl, Kept.foldl1, Kept.requestTask, Kept.setSlice]

theorem Kept.calLines {fx : Bool} {s0 s : State} (hk : Kept fx s0 s) (die : Nat) : Kept fx s0 (State.calLines s die) := by
  grind [State.calLines, Kept.mk', Otp.noLess_refl, Kept.keep, Kept.clear, Kept.foldl, Kept.foldl1, Kept.setSlice]

theorem Kept.deliverFlight {fx : Bool} {s0 s : State} (hk : Kept fx s0 s) (f : Flight) : Kept fx s0 (State.deliverFlight s f) := by
  unfold State.deliverFlight; (repeat' split) <;> (first | assumption | (simp +contextual (maxDischargeDepth := 40) only [hk, Kept.mk', Otp.noLess_refl, Kept.keep, Kept.clear, Kept.ite, Kept.ite1, Kept.foldl, Kept.foldl1, Kept.arm, Kept.calError, Kept.calKick, Kept.domCommand, Kept.kick, Kept.kickSet]; done) | grind [Kept.mk', Otp.noLess_refl, Kept.keep, Kept.clear, Kept.foldl, Kept.foldl1, Kept.arm, Kept.calError, Kept.calKick, Kept.domCommand, Kept.kick, Kept.kickSet])

theorem Kept.deliverFlights {fx : Bool} {s0 s : State} (hk : Kept fx s0 s)  : Kept fx s0 (State.deliverFlights s) := by
  grind [State.deliverFlights, Kept.mk', Otp.noLess_refl, Kept.keep, Kept.clear, Kept.foldl, Kept.foldl1, Kept.deliverFlight]

theorem Kept.calRead {fx : Bool} {s0 s : State} (hk : Kept fx s0 s) (dies : List Nat) (i w req : Nat) (peek : Bool) : Kept fx s0 (State.calRead s dies i w req peek).1 := by
  unfold State.calRead; simp +contextual (maxDischargeDepth := 40) only [hk, Kept.mk', Otp.noLess_refl, Kept.keep, Kept.clear, Kept.ite, Kept.ite1, Kept.foldl, Kept.foldl1]

theorem Kept.putDom {fx : Bool} {s0 s : State} (hk : Kept fx s0 s) (g st : Nat) : Kept fx s0 (State.putDom s g st) := by
  unfold State.putDom; simp +contextual (maxDischargeDepth := 40) only [hk, Kept.mk', Otp.noLess_refl, Kept.keep, Kept.clear, Kept.ite, Kept.ite1, Kept.foldl, Kept.foldl1, Kept.setPower]

theorem Kept.stopDomain {fx : Bool} {s0 s : State} (hk : Kept fx s0 s) (g st : Nat) : Kept fx s0 (State.stopDomain s g st) := by
  unfold State.stopDomain; simp +contextual (maxDischargeDepth := 40) only [hk, Kept.mk', Otp.noLess_refl, Kept.keep, Kept.clear, Kept.ite, Kept.ite1, Kept.foldl, Kept.foldl1, Kept.channelOff, Kept.cxlLinkLost, Kept.holdCore, Kept.quadStops, Kept.setChan, Kept.stopFacets]

theorem Kept.leaveOff {fx : Bool} {s0 s : State} (hk : Kept fx s0 s) (g : Nat) : Kept fx s0 (State.leaveOff s g) := by
  grind [State.leaveOff, Kept.mk', Otp.noLess_refl, Kept.keep, Kept.clear, Kept.foldl, Kept.foldl1, Kept.beginTraining, Kept.clearInst, Kept.flag, Kept.restartFacets, Kept.setBit, Kept.setFacet, Kept.setRegion, Kept.takeDown, Kept.zeroRegion]

theorem Kept.leaveSleep {fx : Bool} {s0 s : State} (hk : Kept fx s0 s) (g : Nat) : Kept fx s0 (State.leaveSleep s g) := by
  unfold State.leaveSleep; simp +contextual (maxDischargeDepth := 40) only [hk, Kept.mk', Otp.noLess_refl, Kept.keep, Kept.clear, Kept.ite, Kept.ite1, Kept.foldl, Kept.foldl1, Kept.restartFacets, Kept.setChan]

theorem Kept.enterDom {fx : Bool} {s0 s : State} (hk : Kept fx s0 s) (g st : Nat) : Kept fx s0 (State.enterDom s g st) := by
  unfold State.enterDom; simp +contextual (maxDischargeDepth := 40) only [hk, Kept.mk', Otp.noLess_refl, Kept.keep, Kept.clear, Kept.ite, Kept.ite1, Kept.foldl, Kept.foldl1, Kept.leaveOff, Kept.leaveSleep, Kept.putDom, Kept.setPower, Kept.stopDomain, Kept.withStates]

theorem Kept.riseDom {fx : Bool} {s0 s : State} (hk : Kept fx s0 s) (g : Nat) : Kept fx s0 (State.riseDom s g) := by
  unfold State.riseDom; simp +contextual (maxDischargeDepth := 40) only [hk, Kept.mk', Otp.noLess_refl, Kept.keep, Kept.clear, Kept.ite, Kept.ite1, Kept.foldl, Kept.foldl1, Kept.enterDom, Kept.setPower]

theorem Kept.domCtlWrite {fx : Bool} {s0 s : State} (hk : Kept fx s0 s) (g : Nat) (w : Word) : Kept fx s0 (State.domCtlWrite s g w).1 := by
  unfold State.domCtlWrite; simp +contextual (maxDischargeDepth := 40) only [hk, Kept.mk', Otp.noLess_refl, Kept.keep, Kept.clear, Kept.ite, Kept.ite1, Kept.foldl, Kept.foldl1, Kept.enterDom, Kept.flagErr, Kept.riseDom, Kept.wr]

theorem Kept.autoSleep {fx : Bool} {s0 s : State} (hk : Kept fx s0 s) (g : Nat) (work : Bool) : Kept fx s0 (State.autoSleep s g work) := by
  unfold State.autoSleep; simp +contextual (maxDischargeDepth := 40) only [hk, Kept.mk', Otp.noLess_refl, Kept.keep, Kept.clear, Kept.ite, Kept.ite1, Kept.foldl, Kept.foldl1, Kept.enterDom]

theorem Kept.autoDeepSleep {fx : Bool} {s0 s : State} (hk : Kept fx s0 s) (g : Nat) (work : Bool) : Kept fx s0 (State.autoDeepSleep s g work) := by
  unfold State.autoDeepSleep; simp +contextual (maxDischargeDepth := 40) only [hk, Kept.mk', Otp.noLess_refl, Kept.keep, Kept.clear, Kept.ite, Kept.ite1, Kept.foldl, Kept.foldl1, Kept.enterDom]

theorem Kept.wakeDom {fx : Bool} {s0 s : State} (hk : Kept fx s0 s) (g : Nat) (pb : Bool) : Kept fx s0 (State.wakeDom s g pb) := by
  unfold State.wakeDom; simp +contextual (maxDischargeDepth := 40) only [hk, Kept.mk', Otp.noLess_refl, Kept.keep, Kept.clear, Kept.ite, Kept.ite1, Kept.foldl, Kept.foldl1, Kept.flagIf, Kept.riseDom]

theorem Kept.islandSettled {fx : Bool} {s0 s : State} (hk : Kept fx s0 s) (j : Nat) : Kept fx s0 (State.islandSettled s j) := by
  grind [State.islandSettled, Kept.mk', Otp.noLess_refl, Kept.keep, Kept.clear, Kept.foldl, Kept.foldl1, Kept.enterDom, Kept.setPower]

theorem Kept.islCtlWrite {fx : Bool} {s0 s : State} (hk : Kept fx s0 s) (j : Nat) (w : Word) : Kept fx s0 (State.islCtlWrite s j w) := by
  unfold State.islCtlWrite; simp +contextual (maxDischargeDepth := 40) only [hk, Kept.mk', Otp.noLess_refl, Kept.keep, Kept.clear, Kept.ite, Kept.ite1, Kept.foldl, Kept.foldl1, Kept.flagErr, Kept.wr]

theorem Kept.deepSleepEnter {fx : Bool} {s0 s : State} (hk : Kept fx s0 s)  : Kept fx s0 (State.deepSleepEnter s) := by
  grind [State.deepSleepEnter, Kept.mk', Otp.noLess_refl, Kept.keep, Kept.clear, Kept.foldl, Kept.foldl1, Kept.enterDom, Kept.setPower, Kept.withStates]

theorem Kept.deviceWake {fx : Bool} {s0 s : State} (hk : Kept fx s0 s)  : Kept fx s0 (State.deviceWake s) := by
  grind [State.deviceWake, Kept.mk', Otp.noLess_refl, Kept.keep, Kept.clear, Kept.foldl, Kept.foldl1, Kept.calEnable, Kept.enterDom, Kept.flag, Kept.riseDom, Kept.setPower, Kept.withStates]

theorem Kept.govCmdWrite {fx : Bool} {s0 s : State} (hk : Kept fx s0 s) (w : Word) : Kept fx s0 (State.govCmdWrite s w) := by
  grind [State.govCmdWrite, Kept.mk', Otp.noLess_refl, Kept.keep, Kept.clear, Kept.foldl, Kept.foldl1, Kept.flagErr, Kept.setPower]

theorem Kept.resumePin {fx : Bool} {s0 s : State} (hk : Kept fx s0 s) (level : Bool) : Kept fx s0 (State.resumePin s level) := by
  unfold State.resumePin; simp +contextual (maxDischargeDepth := 40) only [hk, Kept.mk', Otp.noLess_refl, Kept.keep, Kept.clear, Kept.ite, Kept.ite1, Kept.foldl, Kept.foldl1, Kept.deviceWake, Kept.releaseHold, Kept.setClk]

theorem Kept.telemetry {fx : Bool} {s0 s : State} (hk : Kept fx s0 s) (isl : List (Nat × Nat)) (temps : List Nat) : Kept fx s0 (State.telemetry s isl temps) := by
  unfold State.telemetry
  dsimp only
  split
  · exact (Kept.foldl (Kept.foldl hk (fun _ _ h => (h.wr _ _).setFld _ _ _ _)) (fun _ _ h => h.wr _ _)).wr _ _
  · exact (Kept.foldl (Kept.foldl hk (fun _ _ h => (h.wr _ _).setFld _ _ _ _)) (fun _ _ h => h.wr _ _)).wr _ _

theorem Kept.ageWork {fx : Bool} {s0 s : State} (hk : Kept fx s0 s)  : Kept fx s0 (State.ageWork s) := by
  unfold State.ageWork; simp +contextual (maxDischargeDepth := 40) only [hk, Kept.mk', Otp.noLess_refl, Kept.keep, Kept.clear, Kept.ite, Kept.ite1, Kept.foldl, Kept.foldl1]

theorem Kept.creditWindow {fx : Bool} {s0 s : State} (hk : Kept fx s0 s) (isl : List (Nat × Nat)) (temps : List Nat) : Kept fx s0 (State.creditWindow s isl temps) := by
  unfold State.creditWindow; simp +contextual (maxDischargeDepth := 40) only [hk, Kept.mk', Otp.noLess_refl, Kept.keep, Kept.clear, Kept.ite, Kept.ite1, Kept.foldl, Kept.foldl1, Kept.ageWork, Kept.deepSleepEnter, Kept.drawn, Kept.ladderStep, Kept.openCreditWindow, Kept.telemetry]

theorem Kept.admitWork {fx : Bool} {s0 s : State} (hk : Kept fx s0 s) (w : Work) : Kept fx s0 (State.admitWork s w) := by
  unfold State.admitWork; (repeat' split) <;> (first | assumption | (simp +contextual (maxDischargeDepth := 40) only [hk, Kept.mk', Otp.noLess_refl, Kept.keep, Kept.clear, Kept.ite, Kept.ite1, Kept.foldl, Kept.foldl1, Kept.admitRequest, Kept.jobUnit]; done) | grind [Kept.mk', Otp.noLess_refl, Kept.keep, Kept.clear, Kept.foldl, Kept.foldl1, Kept.admitRequest, Kept.jobUnit])

theorem Kept.thermalTrip {fx : Bool} {s0 s : State} (hk : Kept fx s0 s)  : Kept fx s0 (State.thermalTrip s) := by
  grind [State.thermalTrip, Kept.mk', Otp.noLess_refl, Kept.keep, Kept.clear, Kept.foldl, Kept.foldl1, Kept.enterDom, Kept.quadStops, Kept.raise, Kept.setPower, Kept.setSafe]

theorem Kept.islandFault {fx : Bool} {s0 s : State} (hk : Kept fx s0 s) (j : Nat) : Kept fx s0 (State.islandFault s j) := by
  unfold State.islandFault; simp +contextual (maxDischargeDepth := 40) only [hk, Kept.mk', Otp.noLess_refl, Kept.keep, Kept.clear, Kept.ite, Kept.ite1, Kept.foldl, Kept.foldl1, Kept.cdReset, Kept.deviceReset, Kept.drawn, Kept.flag, Kept.loseDie, Kept.raise]

theorem Kept.poll {fx : Bool} {s0 s : State} (hk : Kept fx s0 s) (replies : List (Nat × Nat)) : Kept fx s0 (State.poll s replies) := by
  unfold State.poll; simp +contextual (maxDischargeDepth := 40) only [hk, Kept.mk', Otp.noLess_refl, Kept.keep, Kept.clear, Kept.ite, Kept.ite1, Kept.foldl, Kept.foldl1, Kept.pmbPoll, Kept.setPower]

theorem Kept.pmbAlert {fx : Bool} {s0 s : State} (hk : Kept fx s0 s) (replies : List (Nat × Nat)) : Kept fx s0 (State.pmbAlert s replies) := by
  unfold State.pmbAlert; simp +contextual (maxDischargeDepth := 40) only [hk, Kept.mk', Otp.noLess_refl, Kept.keep, Kept.clear, Kept.ite, Kept.ite1, Kept.foldl, Kept.foldl1, Kept.poll]

theorem Kept.pmbTimeout {fx : Bool} {s0 s : State} (hk : Kept fx s0 s) (dev : Nat) (reply : Option Nat) : Kept fx s0 (State.pmbTimeout s dev reply) := by
  unfold State.pmbTimeout; (repeat' split) <;> (first | assumption | (simp +contextual (maxDischargeDepth := 40) only [hk, Kept.mk', Otp.noLess_refl, Kept.keep, Kept.clear, Kept.ite, Kept.ite1, Kept.foldl, Kept.foldl1, Kept.flag, Kept.lateArrival, Kept.pmbFail, Kept.pmbReply]; done) | grind [Kept.mk', Otp.noLess_refl, Kept.keep, Kept.clear, Kept.foldl, Kept.foldl1, Kept.flag, Kept.lateArrival, Kept.pmbFail, Kept.pmbReply])

theorem Kept.govCapWrite {fx : Bool} {s0 s : State} (hk : Kept fx s0 s) (w : Word) : Kept fx s0 (State.govCapWrite s w) := by
  unfold State.govCapWrite; simp +contextual (maxDischargeDepth := 40) only [hk, Kept.mk', Otp.noLess_refl, Kept.keep, Kept.clear, Kept.ite, Kept.ite1, Kept.foldl, Kept.foldl1, Kept.flagErr, Kept.wr]

theorem Kept.govThWrite {fx : Bool} {s0 s : State} (hk : Kept fx s0 s) (w : Word) : Kept fx s0 (State.govThWrite s w) := by
  unfold State.govThWrite; simp +contextual (maxDischargeDepth := 40) only [hk, Kept.mk', Otp.noLess_refl, Kept.keep, Kept.clear, Kept.ite, Kept.ite1, Kept.foldl, Kept.foldl1, Kept.flagErr, Kept.wr]

theorem Kept.govBgWrite {fx : Bool} {s0 s : State} (hk : Kept fx s0 s) (w : Word) : Kept fx s0 (State.govBgWrite s w) := by
  unfold State.govBgWrite; simp +contextual (maxDischargeDepth := 40) only [hk, Kept.mk', Otp.noLess_refl, Kept.keep, Kept.clear, Kept.ite, Kept.ite1, Kept.foldl, Kept.foldl1, Kept.flagErr, Kept.wr]

theorem Kept.spinePath {fx : Bool} {s0 s : State} (hk : Kept fx s0 s) (missed : List Nat) (die : Nat) : Kept fx s0 (State.spinePath s missed die) := by
  unfold State.spinePath; simp +contextual (maxDischargeDepth := 40) only [hk, Kept.mk', Otp.noLess_refl, Kept.keep, Kept.clear, Kept.ite, Kept.ite1, Kept.foldl, Kept.foldl1]

theorem Kept.pauseStall {fx : Bool} {s0 s : State} (hk : Kept fx s0 s) (i : Nat) : Kept fx s0 (State.pauseStall s i) := by
  unfold State.pauseStall; simp +contextual (maxDischargeDepth := 40) only [hk, Kept.mk', Otp.noLess_refl, Kept.keep, Kept.clear, Kept.ite, Kept.ite1, Kept.foldl, Kept.foldl1, Kept.setDom]

theorem Kept.tickDomains {fx : Bool} {s0 s : State} (hk : Kept fx s0 s)  : Kept fx s0 (State.tickDomains s) := by
  grind [State.tickDomains, Kept.mk', Otp.noLess_refl, Kept.keep, Kept.clear, Kept.foldl, Kept.foldl1, Kept.deliverFlights, Kept.domStep2, Kept.domStep3, Kept.pauseStall]

theorem Kept.windowFlush {fx : Bool} {s0 s : State} (hk : Kept fx s0 s) (die n : Nat) : Kept fx s0 (State.windowFlush s die n) := by
  unfold State.windowFlush; simp +contextual (maxDischargeDepth := 40) only [hk, Kept.mk', Otp.noLess_refl, Kept.keep, Kept.clear, Kept.ite, Kept.ite1, Kept.foldl, Kept.foldl1, Kept.setUnit, Kept.streamFlush]

theorem Kept.tickInput {fx : Bool} {s0 s : State} (hk : Kept fx s0 s) (die n : Nat) : Kept fx s0 (State.tickInput s die n) := by
  grind [State.tickInput, Kept.mk', Otp.noLess_refl, Kept.keep, Kept.clear, Kept.foldl, Kept.foldl1, Kept.inputSilent, Kept.mirrorEdge, Kept.setUnit, Kept.unitInputs, Kept.windowFlush]

theorem Kept.tickOutput {fx : Bool} {s0 s : State} (hk : Kept fx s0 s) (die n : Nat) : Kept fx s0 (State.tickOutput s die n) := by
  unfold State.tickOutput; simp +contextual (maxDischargeDepth := 40) only [hk, Kept.mk', Otp.noLess_refl, Kept.keep, Kept.clear, Kept.ite, Kept.ite1, Kept.foldl, Kept.foldl1, Kept.unitOutputs]

theorem Kept.tickDie {fx : Bool} {s0 s : State} (hk : Kept fx s0 s) (die : Nat) : Kept fx s0 (State.tickDie s die) := by
  unfold State.tickDie
  have h1 := hk.calStep die
  refine Kept.ite h1 ?_
  have h2 : ∀ l l2 : List Nat, Kept fx s0 (((l2.foldl (fun s n => s.tickOutput die n) (l.foldl (fun s n => s.tickInput die n) (s.calStep die)))).calLines die) := fun l l2 => Kept.calLines (Kept.foldl (Kept.foldl h1 (fun _ _ h => h.tickInput _ _)) (fun _ _ h => h.tickOutput _ _)) _
  extract_lets a b c d e f
  have h3 : Kept fx s0 c := h2 _ _
  have h4 : Kept fx s0 e := Kept.foldl h3 (fun _ _ h => h.settlePad _ _)
  exact Kept.ite ((((h4.holdEntering _ _).judgeAnalog _ _).judgeXbar _ _).judgePhi _ _) h4

theorem Kept.recalTick {fx : Bool} {s0 s : State} (hk : Kept fx s0 s) (die : Nat) : Kept fx s0 (State.recalTick s die) := by
  grind [State.recalTick, Kept.mk', Otp.noLess_refl, Kept.keep, Kept.clear, Kept.foldl, Kept.foldl1, Kept.drawn, Kept.recal]

theorem Kept.seeLevel {fx : Bool} {s0 s : State} (hk : Kept fx s0 s) (die p : Nat) : Kept fx s0 (State.seeLevel s die p) := by
  unfold State.seeLevel; simp +contextual (maxDischargeDepth := 40) only [hk, Kept.mk', Otp.noLess_refl, Kept.keep, Kept.clear, Kept.ite, Kept.ite1, Kept.foldl, Kept.foldl1, Kept.setUnit]

theorem Kept.seeLevels {fx : Bool} {s0 s : State} (hk : Kept fx s0 s) (w : TioWrite) : Kept fx s0 (State.seeLevels s w) := by
  unfold State.seeLevels; (repeat' split) <;> (first | assumption | (simp +contextual (maxDischargeDepth := 40) only [hk, Kept.mk', Otp.noLess_refl, Kept.keep, Kept.clear, Kept.ite, Kept.ite1, Kept.foldl, Kept.foldl1, Kept.seeLevel]; done) | grind [Kept.mk', Otp.noLess_refl, Kept.keep, Kept.clear, Kept.foldl, Kept.foldl1, Kept.seeLevel])

theorem Kept.tickBoundary {fx : Bool} {s0 s : State} (hk : Kept fx s0 s)  : Kept fx s0 (State.tickBoundary s) := by
  unfold State.tickBoundary
  exact Kept.foldl (Kept.calBoundary (Kept.foldl (Kept.mk' (Kept.foldl hk (fun _ _ h => Kept.foldl h (fun _ _ h => h.unitBoundary _ _))) rfl rfl) (fun _ _ h => (h.seeLevels _).applyTio _))) (fun _ _ h => ((((h.regionBoundary _).calRequests _).recalTick _).loupeDue _ _))

theorem Kept.tickAdvance {fx : Bool} {s0 s : State} (hk : Kept fx s0 s)  : Kept fx s0 (State.tickAdvance s) := by
  unfold State.tickAdvance; (repeat' split) <;> (first | assumption | (simp +contextual (maxDischargeDepth := 40) only [hk, Kept.mk', Otp.noLess_refl, Kept.keep, Kept.clear, Kept.ite, Kept.ite1, Kept.foldl, Kept.foldl1, Kept.domClose, Kept.incsClose, Kept.setDom, Kept.slewTick, Kept.stepDt]; done) | grind [Kept.mk', Otp.noLess_refl, Kept.keep, Kept.clear, Kept.foldl, Kept.foldl1, Kept.domClose, Kept.incsClose, Kept.setDom, Kept.slewTick, Kept.stepDt])

theorem Kept.tickWatchdogs {fx : Bool} {s0 s : State} (hk : Kept fx s0 s)  : Kept fx s0 (State.tickWatchdogs s) := by
  grind [State.tickWatchdogs, Kept.mk', Otp.noLess_refl, Kept.keep, Kept.clear, Kept.foldl, Kept.foldl1, Kept.wdtCount]

theorem Kept.spineTick {fx : Bool} {s0 s : State} (hk : Kept fx s0 s) (missed : List Nat) : Kept fx s0 (State.spineTick s missed) := by
  unfold State.spineTick
  exact Kept.ite hk (((((((Kept.foldl (Kept.tickDomains (Kept.foldl hk (fun _ _ h => h.spinePath _ _))) (fun _ _ h => h.tickDie _)).hubTick).strobeTick).tickBoundary).tickWatchdogs).spinePresent).tickAdvance).dueReset

theorem Kept.setPlic {fx : Bool} {s0 s : State} (hk : Kept fx s0 s) (f : Plic → Plic) : Kept fx s0 (State.setPlic s f) := by
  unfold State.setPlic; simp +contextual (maxDischargeDepth := 40) only [hk, Kept.mk', Otp.noLess_refl, Kept.keep, Kept.clear, Kept.ite, Kept.ite1, Kept.foldl, Kept.foldl1, Kept.setBoot]

theorem Kept.gateways {fx : Bool} {s0 s : State} (hk : Kept fx s0 s)  : Kept fx s0 (State.gateways s) := by
  unfold State.gateways; simp +contextual (maxDischargeDepth := 40) only [hk, Kept.mk', Otp.noLess_refl, Kept.keep, Kept.clear, Kept.ite, Kept.ite1, Kept.foldl, Kept.foldl1, Kept.setPlic]

theorem Kept.interruptTick {fx : Bool} {s0 s : State} (hk : Kept fx s0 s)  : Kept fx s0 (State.interruptTick s) := by
  unfold State.interruptTick; simp +contextual (maxDischargeDepth := 40) only [hk, Kept.mk', Otp.noLess_refl, Kept.keep, Kept.clear, Kept.ite, Kept.ite1, Kept.foldl, Kept.foldl1, Kept.gateways]

theorem Kept.plicClaim {fx : Bool} {s0 s : State} (hk : Kept fx s0 s) (ctx : Nat) : Kept fx s0 (State.plicClaim s ctx).1 := by
  unfold State.plicClaim; simp +contextual (maxDischargeDepth := 40) only [hk, Kept.mk', Otp.noLess_refl, Kept.keep, Kept.clear, Kept.ite, Kept.ite1, Kept.foldl, Kept.foldl1, Kept.setPlic]

theorem Kept.plicComplete {fx : Bool} {s0 s : State} (hk : Kept fx s0 s) (ctx n : Nat) : Kept fx s0 (State.plicComplete s ctx n) := by
  unfold State.plicComplete; simp +contextual (maxDischargeDepth := 40) only [hk, Kept.mk', Otp.noLess_refl, Kept.keep, Kept.clear, Kept.ite, Kept.ite1, Kept.foldl, Kept.foldl1, Kept.setPlic]

theorem Kept.plicRead {fx : Bool} {s0 s : State} (hk : Kept fx s0 s) (off : Nat) : Kept fx s0 (State.plicRead s off).1 := by
  unfold State.plicRead; simp +contextual (maxDischargeDepth := 40) only [hk, Kept.mk', Otp.noLess_refl, Kept.keep, Kept.clear, Kept.ite, Kept.ite1, Kept.foldl, Kept.foldl1, Kept.gateways, Kept.plicClaim]

theorem Kept.plicWrite {fx : Bool} {s0 s : State} (hk : Kept fx s0 s) (off : Nat) (w : Word) : Kept fx s0 (State.plicWrite s off w).1 := by
  unfold State.plicWrite; simp +contextual (maxDischargeDepth := 40) only [hk, Kept.mk', Otp.noLess_refl, Kept.keep, Kept.clear, Kept.ite, Kept.ite1, Kept.foldl, Kept.foldl1, Kept.gateways, Kept.plicComplete, Kept.setPlic]

theorem Kept.store {fx : Bool} {s0 s : State} (hk : Kept fx s0 s) (key : Nat) (w : Word) : Kept fx s0 (State.store s key w) := by
  grind [State.store, Kept.mk', Otp.noLess_refl, Kept.keep, Kept.clear, Kept.foldl, Kept.foldl1, Kept.wr]

theorem Kept.storeFlag {fx : Bool} {s0 s : State} (hk : Kept fx s0 s) (key : Nat) (w : Word) (bad : Bool) (stat bit : Nat) : Kept fx s0 (State.storeFlag s key w bad stat bit) := by
  unfold State.storeFlag; simp +contextual (maxDischargeDepth := 40) only [hk, Kept.mk', Otp.noLess_refl, Kept.keep, Kept.clear, Kept.ite, Kept.ite1, Kept.foldl, Kept.foldl1, Kept.flagIf, Kept.store]

theorem Kept.domCtlRegWrite {fx : Bool} {s0 s : State} (hk : Kept fx s0 s) (i : Nat) (w : Word) : Kept fx s0 (State.domCtlRegWrite s i w).1 := by
  unfold State.domCtlRegWrite; simp +contextual (maxDischargeDepth := 40) only [hk, Kept.mk', Otp.noLess_refl, Kept.keep, Kept.clear, Kept.ite, Kept.ite1, Kept.foldl, Kept.foldl1, Kept.flagIf, Kept.store]

theorem Kept.spineWrite {fx : Bool} {s0 s : State} (hk : Kept fx s0 s) (die inst off key : Nat) (w : Word) : Kept fx s0 (State.spineWrite s die inst off key w).1 := by
  unfold State.spineWrite; simp +contextual (maxDischargeDepth := 40) only [hk, Kept.mk', Otp.noLess_refl, Kept.keep, Kept.clear, Kept.ite, Kept.ite1, Kept.foldl, Kept.foldl1, Kept.domCommand, Kept.domCtlRegWrite, Kept.flagIf, Kept.recal, Kept.store, Kept.syncLines]

theorem Kept.spineRecal {fx : Bool} {s0 s : State} (hk : Kept fx s0 s) (die : Nat) : Kept fx s0 (State.spineRecal s die) := by
  unfold State.spineRecal; simp +contextual (maxDischargeDepth := 40) only [hk, Kept.mk', Otp.noLess_refl, Kept.keep, Kept.clear, Kept.ite, Kept.ite1, Kept.foldl, Kept.foldl1, Kept.spineWrite]

theorem Kept.calUnitWrite {fx : Bool} {s0 s : State} (hk : Kept fx s0 s) (die off key : Nat) (w : Word) : Kept fx s0 (State.calUnitWrite s die off key w).1 := by
  unfold State.calUnitWrite; (repeat' split) <;> (first | assumption | (simp +contextual (maxDischargeDepth := 40) only [hk, Kept.mk', Otp.noLess_refl, Kept.keep, Kept.clear, Kept.ite, Kept.ite1, Kept.foldl, Kept.foldl1, Kept.calCtlWrite, Kept.calGcmdWrite, Kept.calStatWrite, Kept.calStgCmdWrite, Kept.calStgWrite, Kept.store]; done) | grind [Kept.mk', Otp.noLess_refl, Kept.keep, Kept.clear, Kept.foldl, Kept.foldl1, Kept.calCtlWrite, Kept.calGcmdWrite, Kept.calStatWrite, Kept.calStgCmdWrite, Kept.calStgWrite, Kept.store])

theorem Kept.pwmUpdate {fx : Bool} {s0 s : State} (hk : Kept fx s0 s) (die n : Nat) : Kept fx s0 (State.pwmUpdate s die n) := by
  unfold State.pwmUpdate; simp +contextual (maxDischargeDepth := 40) only [hk, Kept.mk', Otp.noLess_refl, Kept.keep, Kept.clear, Kept.ite, Kept.ite1, Kept.foldl, Kept.foldl1, Kept.setUnit]

theorem Kept.flushOutput {fx : Bool} {s0 s : State} (hk : Kept fx s0 s) (die n : Nat) : Kept fx s0 (State.flushOutput s die n) := by
  unfold State.flushOutput; simp +contextual (maxDischargeDepth := 40) only [hk, Kept.mk', Otp.noLess_refl, Kept.keep, Kept.clear, Kept.ite, Kept.ite1, Kept.foldl, Kept.foldl1, Kept.setUnit]

theorem Kept.emulationOffset {fx : Bool} {s0 s : State} (hk : Kept fx s0 s) (die n : Nat) (w : Word) : Kept fx s0 (State.emulationOffset s die n w) := by
  unfold State.emulationOffset; simp +contextual (maxDischargeDepth := 40) only [hk, Kept.mk', Otp.noLess_refl, Kept.keep, Kept.clear, Kept.ite, Kept.ite1, Kept.foldl, Kept.foldl1, Kept.store]

theorem Kept.patternWrite {fx : Bool} {s0 s : State} (hk : Kept fx s0 s) (die w : Nat) (v : Word) : Kept fx s0 (State.patternWrite s die w v) := by
  unfold State.patternWrite; simp +contextual (maxDischargeDepth := 40) only [hk, Kept.mk', Otp.noLess_refl, Kept.keep, Kept.clear, Kept.ite, Kept.ite1, Kept.foldl, Kept.foldl1]

theorem Kept.tioWrite {fx : Bool} {s0 s : State} (hk : Kept fx s0 s) (die n off key : Nat) (w : Word) : Kept fx s0 (State.tioWrite s die n off key w).1 := by
  unfold State.tioWrite; (repeat' split) <;> (first | assumption | (simp +contextual (maxDischargeDepth := 40) only [hk, Kept.mk', Otp.noLess_refl, Kept.keep, Kept.clear, Kept.ite, Kept.ite1, Kept.foldl, Kept.foldl1, Kept.emulationOffset, Kept.flagErr, Kept.flushOutput, Kept.patternWrite, Kept.pwmUpdate, Kept.store, Kept.tioCtlWrite]; done) | grind [Kept.mk', Otp.noLess_refl, Kept.keep, Kept.clear, Kept.foldl, Kept.foldl1, Kept.emulationOffset, Kept.flagErr, Kept.flushOutput, Kept.patternWrite, Kept.pwmUpdate, Kept.store, Kept.tioCtlWrite])

theorem Kept.padWrite {fx : Bool} {s0 s : State} (hk : Kept fx s0 s) (die n off key req : Nat) (w : Word) : Kept fx s0 (State.padWrite s die n off key req w).1 := by
  unfold State.padWrite; (repeat' split) <;> (first | assumption | (simp +contextual (maxDischargeDepth := 40) only [hk, Kept.mk', Otp.noLess_refl, Kept.keep, Kept.clear, Kept.ite, Kept.ite1, Kept.foldl, Kept.foldl1, Kept.judgeVccio, Kept.lockWrite, Kept.padCfgWrite, Kept.padFuncWrite, Kept.setBit, Kept.store, Kept.withStates]; done) | grind [Kept.mk', Otp.noLess_refl, Kept.keep, Kept.clear, Kept.foldl, Kept.foldl1, Kept.judgeVccio, Kept.lockWrite, Kept.padCfgWrite, Kept.padFuncWrite, Kept.setBit, Kept.store, Kept.withStates])

theorem Kept.xbarWrite {fx : Bool} {s0 s : State} (hk : Kept fx s0 s) (die n off key : Nat) (w : Word) : Kept fx s0 (State.xbarWrite s die n off key w).1 := by
  unfold State.xbarWrite; (repeat' split) <;> (first | assumption | (simp +contextual (maxDischargeDepth := 40) only [hk, Kept.mk', Otp.noLess_refl, Kept.keep, Kept.clear, Kept.ite, Kept.ite1, Kept.foldl, Kept.foldl1, Kept.flagErr, Kept.store, Kept.xbarInWrite, Kept.xbarSrcWrite]; done) | grind [Kept.mk', Otp.noLess_refl, Kept.keep, Kept.clear, Kept.foldl, Kept.foldl1, Kept.flagErr, Kept.store, Kept.xbarInWrite, Kept.xbarSrcWrite])

theorem Kept.facetCtlWrite {fx : Bool} {s0 s : State} (hk : Kept fx s0 s) (die p : Nat) (w : Word) : Kept fx s0 (State.facetCtlWrite s die p w) := by
  unfold State.facetCtlWrite; simp +contextual (maxDischargeDepth := 40) only [hk, Kept.mk', Otp.noLess_refl, Kept.keep, Kept.clear, Kept.ite, Kept.ite1, Kept.foldl, Kept.foldl1, Kept.enableFacet, Kept.freezeFollows, Kept.store]

theorem Kept.facetCmdWrite {fx : Bool} {s0 s : State} (hk : Kept fx s0 s) (die p : Nat) (w : Word) : Kept fx s0 (State.facetCmdWrite s die p w).1 := by
  grind [State.facetCmdWrite, Kept.mk', Otp.noLess_refl, Kept.keep, Kept.clear, Kept.foldl, Kept.foldl1, Kept.abortFacet, Kept.raiseUrgent, Kept.resetFacet]

theorem Kept.fdspReqWrite {fx : Bool} {s0 s : State} (hk : Kept fx s0 s) (die rg : Nat) (w : Word) : Kept fx s0 (State.fdspReqWrite s die rg w).1 := by
  unfold State.fdspReqWrite; simp +contextual (maxDischargeDepth := 40) only [hk, Kept.mk', Otp.noLess_refl, Kept.keep, Kept.clear, Kept.ite, Kept.ite1, Kept.foldl, Kept.foldl1, Kept.requestTask]

theorem Kept.qmWrite {fx : Bool} {s0 s : State} (hk : Kept fx s0 s) (die inst off key : Nat) (w : Word) : Kept fx s0 (State.qmWrite s die inst off key w).1 := by
  grind [State.qmWrite, Kept.mk', Otp.noLess_refl, Kept.keep, Kept.clear, Kept.foldl, Kept.foldl1, Kept.completionPointer, Kept.doorbell, Kept.kick, Kept.qmConfig, Kept.queueCommand, Kept.setCommand, Kept.store]

theorem Kept.hnWrite {fx : Bool} {s0 s : State} (hk : Kept fx s0 s) (die off key : Nat) (w : Word) : Kept fx s0 (State.hnWrite s die off key w) := by
  unfold State.hnWrite; simp +contextual (maxDischargeDepth := 40) only [hk, Kept.mk', Otp.noLess_refl, Kept.keep, Kept.clear, Kept.ite, Kept.ite1, Kept.foldl, Kept.foldl1, Kept.storeFlag]

theorem Kept.xcvrWrite {fx : Bool} {s0 s : State} (hk : Kept fx s0 s) (die inst off key : Nat) (w : Word) : Kept fx s0 (State.xcvrWrite s die inst off key w).1 := by
  unfold State.xcvrWrite; (repeat' split) <;> (first | assumption | (simp +contextual (maxDischargeDepth := 40) only [hk, Kept.mk', Otp.noLess_refl, Kept.keep, Kept.clear, Kept.ite, Kept.ite1, Kept.foldl, Kept.foldl1, Kept.eyeScan, Kept.lcmdWrite, Kept.lctlWrite, Kept.qpllWrite, Kept.qrefWrite, Kept.rxeqWrite, Kept.store, Kept.txeqWrite]; done) | grind [Kept.mk', Otp.noLess_refl, Kept.keep, Kept.clear, Kept.foldl, Kept.foldl1, Kept.eyeScan, Kept.lcmdWrite, Kept.lctlWrite, Kept.qpllWrite, Kept.qrefWrite, Kept.rxeqWrite, Kept.store, Kept.txeqWrite])

theorem Kept.cfgNextWrite {fx : Bool} {s0 s : State} (hk : Kept fx s0 s) (req : Nat) (w : Word) : Kept fx s0 (State.cfgNextWrite s req w).1 := by
  unfold State.cfgNextWrite; simp +contextual (maxDischargeDepth := 40) only [hk, Kept.mk', Otp.noLess_refl, Kept.keep, Kept.clear, Kept.ite, Kept.ite1, Kept.foldl, Kept.foldl1, Kept.raise, Kept.wr]

theorem Kept.nvmCommand {fx : Bool} {s0 s : State} (hk : Kept fx s0 s) (w : Word) : Kept fx s0 (State.nvmCommand s w).1 := by
  unfold State.nvmCommand; simp +contextual (maxDischargeDepth := 40) only [hk, Kept.mk', Otp.noLess_refl, Kept.keep, Kept.clear, Kept.ite, Kept.ite1, Kept.foldl, Kept.foldl1, Kept.setBoot, Kept.wr]

theorem Kept.nvmAppend {fx : Bool} {s0 s : State} (hk : Kept fx s0 s) (w : Word) : Kept fx s0 (State.nvmAppend s w) := by
  unfold State.nvmAppend; simp +contextual (maxDischargeDepth := 40) only [hk, Kept.mk', Otp.noLess_refl, Kept.keep, Kept.clear, Kept.ite, Kept.ite1, Kept.foldl, Kept.foldl1, Kept.setBoot]

theorem Kept.cfgWrite {fx : Bool} {s0 s : State} (hk : Kept fx s0 s) (die inst off key req : Nat) (w : Word) : Kept fx s0 (State.cfgWrite s die inst off key req w).1 := by
  unfold State.cfgWrite; (repeat' split) <;> (first | assumption | (simp +contextual (maxDischargeDepth := 40) only [hk, Kept.mk', Otp.noLess_refl, Kept.keep, Kept.clear, Kept.ite, Kept.ite1, Kept.foldl, Kept.foldl1, Kept.bankConfirm, Kept.cfgCmdWrite, Kept.cfgCtlWrite, Kept.cfgNextWrite, Kept.facetTest, Kept.nvmAppend, Kept.nvmCommand, Kept.scrCtlWrite, Kept.selftestResult, Kept.store]; done) | grind [Kept.mk', Otp.noLess_refl, Kept.keep, Kept.clear, Kept.foldl, Kept.foldl1, Kept.bankConfirm, Kept.cfgCmdWrite, Kept.cfgCtlWrite, Kept.cfgNextWrite, Kept.facetTest, Kept.nvmAppend, Kept.nvmCommand, Kept.scrCtlWrite, Kept.selftestResult, Kept.store])

theorem Kept.loupeWrite {fx : Bool} {s0 s : State} (hk : Kept fx s0 s) (die off key : Nat) (w : Word) : Kept fx s0 (State.loupeWrite s die off key w).1 := by
  unfold State.loupeWrite; (repeat' split) <;> (first | assumption | (simp +contextual (maxDischargeDepth := 40) only [hk, Kept.mk', Otp.noLess_refl, Kept.keep, Kept.clear, Kept.ite, Kept.ite1, Kept.foldl, Kept.foldl1, Kept.lpCmdWrite, Kept.lpCtlWrite, Kept.lpProfWrite, Kept.restoreWrite, Kept.store]; done) | grind [Kept.mk', Otp.noLess_refl, Kept.keep, Kept.clear, Kept.foldl, Kept.foldl1, Kept.lpCmdWrite, Kept.lpCtlWrite, Kept.lpProfWrite, Kept.restoreWrite, Kept.store])

theorem Kept.ddrCtlWrite {fx : Bool} {s0 s : State} (hk : Kept fx s0 s) (c : Nat) (w : Word) : Kept fx s0 (State.ddrCtlWrite s c w) := by
  grind [State.ddrCtlWrite, Kept.mk', Otp.noLess_refl, Kept.keep, Kept.clear, Kept.foldl, Kept.foldl1, Kept.beginTraining, Kept.channelOff, Kept.storeFlag]

theorem Kept.ddrWrite {fx : Bool} {s0 s : State} (hk : Kept fx s0 s) (c off key req : Nat) (w : Word) : Kept fx s0 (State.ddrWrite s c off key req w).1 := by
  unfold State.ddrWrite; (repeat' split) <;> (first | assumption | (simp +contextual (maxDischargeDepth := 40) only [hk, Kept.mk', Otp.noLess_refl, Kept.keep, Kept.clear, Kept.ite, Kept.ite1, Kept.foldl, Kept.foldl1, Kept.ddrCtlWrite, Kept.retrain, Kept.retrainAbort, Kept.store, Kept.storeFlag, Kept.testStart]; done) | grind [Kept.mk', Otp.noLess_refl, Kept.keep, Kept.clear, Kept.foldl, Kept.foldl1, Kept.ddrCtlWrite, Kept.retrain, Kept.retrainAbort, Kept.store, Kept.storeFlag, Kept.testStart])

theorem Kept.hdmWrite {fx : Bool} {s0 s : State} (hk : Kept fx s0 s) (p n : Nat) (limit : Bool) (w : Word) : Kept fx s0 (State.hdmWrite s p n limit w).1 := by
  unfold State.hdmWrite; simp +contextual (maxDischargeDepth := 40) only [hk, Kept.mk', Otp.noLess_refl, Kept.keep, Kept.clear, Kept.ite, Kept.ite1, Kept.foldl, Kept.foldl1, Kept.flag, Kept.setBit, Kept.store]

theorem Kept.hotReset {fx : Bool} {s0 s : State} (hk : Kept fx s0 s) (p : Nat) (linkB : Bool) : Kept fx s0 (State.hotReset s p linkB) := by
  unfold State.hotReset; simp +contextual (maxDischargeDepth := 40) only [hk, Kept.mk', Otp.noLess_refl, Kept.keep, Kept.clear, Kept.ite, Kept.ite1, Kept.foldl, Kept.foldl1, Kept.cxlLinkLost]

theorem Kept.ioRequest {fx : Bool} {s0 s : State} (hk : Kept fx s0 s) (p req : Nat) (write : Bool) (addr : Nat) : Kept fx s0 (State.ioRequest s p req write addr) := by
  unfold State.ioRequest; simp +contextual (maxDischargeDepth := 40) only [hk, Kept.mk', Otp.noLess_refl, Kept.keep, Kept.clear, Kept.ite, Kept.ite1, Kept.foldl, Kept.foldl1, Kept.cxlRequest, Kept.unsupported]

theorem Kept.cxlWrite {fx : Bool} {s0 s : State} (hk : Kept fx s0 s) (p off key : Nat) (w : Word) : Kept fx s0 (State.cxlWrite s p off key w).1 := by
  unfold State.cxlWrite; simp +contextual (maxDischargeDepth := 40) only [hk, Kept.mk', Otp.noLess_refl, Kept.keep, Kept.clear, Kept.ite, Kept.ite1, Kept.foldl, Kept.foldl1, Kept.hdmWrite, Kept.hotReset, Kept.raiseMsix, Kept.store, Kept.storeFlag]

theorem Kept.mpeWrite {fx : Bool} {s0 s : State} (hk : Kept fx s0 s) (inst off key req : Nat) (w : Word) : Kept fx s0 (State.mpeWrite s inst off key req w).1 := by
  unfold State.mpeWrite; (repeat' split) <;> (first | assumption | (simp +contextual (maxDischargeDepth := 40) only [hk, Kept.mk', Otp.noLess_refl, Kept.keep, Kept.clear, Kept.ite, Kept.ite1, Kept.foldl, Kept.foldl1, Kept.regionCtlWrite, Kept.reinitStart, Kept.retireStart, Kept.store]; done) | grind [Kept.mk', Otp.noLess_refl, Kept.keep, Kept.clear, Kept.foldl, Kept.foldl1, Kept.regionCtlWrite, Kept.reinitStart, Kept.retireStart, Kept.store])

theorem Kept.bezelWrite {fx : Bool} {s0 s : State} (hk : Kept fx s0 s) (inst off key req : Nat) (w : Word) : Kept fx s0 (State.bezelWrite s inst off key req w).1 := by
  unfold State.bezelWrite; (repeat' split) <;> (first | assumption | (simp +contextual (maxDischargeDepth := 40) only [hk, Kept.mk', Otp.noLess_refl, Kept.keep, Kept.clear, Kept.ite, Kept.ite1, Kept.foldl, Kept.foldl1, Kept.bzCertWrite, Kept.bzRespWrite, Kept.bzWrite, Kept.store]; done) | grind [Kept.mk', Otp.noLess_refl, Kept.keep, Kept.clear, Kept.foldl, Kept.foldl1, Kept.bzCertWrite, Kept.bzRespWrite, Kept.bzWrite, Kept.store])

theorem Kept.govWrite {fx : Bool} {s0 s : State} (hk : Kept fx s0 s) (off key : Nat) (w : Word) : Kept fx s0 (State.govWrite s off key w) := by
  unfold State.govWrite; (repeat' split) <;> (first | assumption | (simp +contextual (maxDischargeDepth := 40) only [hk, Kept.mk', Otp.noLess_refl, Kept.keep, Kept.clear, Kept.ite, Kept.ite1, Kept.foldl, Kept.foldl1, Kept.govBgWrite, Kept.govCapWrite, Kept.govCmdWrite, Kept.govThWrite, Kept.store]; done) | grind [Kept.mk', Otp.noLess_refl, Kept.keep, Kept.clear, Kept.foldl, Kept.foldl1, Kept.govBgWrite, Kept.govCapWrite, Kept.govCmdWrite, Kept.govThWrite, Kept.store])

theorem Kept.frunWrite {fx : Bool} {s0 s : State} (hk : Kept fx s0 s) (w : Word) : Kept fx s0 (State.frunWrite s w).1 := by
  grind [State.frunWrite, Kept.mk', Otp.noLess_refl, Kept.keep, Kept.clear, Kept.foldl, Kept.foldl1, Kept.facetHalt, Kept.facetResume, Kept.facetStep]

theorem Kept.dbgWrite {fx : Bool} {s0 s : State} (hk : Kept fx s0 s) (off key req : Nat) (w : Word) : Kept fx s0 (State.dbgWrite s off key req w).1 := by
  unfold State.dbgWrite; (repeat' split) <;> (first | assumption | (simp +contextual (maxDischargeDepth := 40) only [hk, Kept.mk', Otp.noLess_refl, Kept.keep, Kept.clear, Kept.ite, Kept.ite1, Kept.foldl, Kept.foldl1, Kept.acmdWrite, Kept.freezeFollows, Kept.fregWrite, Kept.frunWrite, Kept.store, Kept.storeFlag, Kept.vtRxWrite, Kept.vtTxWrite]; done) | grind [Kept.mk', Otp.noLess_refl, Kept.keep, Kept.clear, Kept.foldl, Kept.foldl1, Kept.acmdWrite, Kept.freezeFollows, Kept.fregWrite, Kept.frunWrite, Kept.store, Kept.storeFlag, Kept.vtRxWrite, Kept.vtTxWrite])

theorem Kept.plinkWrite {fx : Bool} {s0 s : State} (hk : Kept fx s0 s) (inst off key : Nat) (w : Word) : Kept fx s0 (State.plinkWrite s inst off key w).1 := by
  unfold State.plinkWrite; (repeat' split) <;> (first | assumption | (simp +contextual (maxDischargeDepth := 40) only [hk, Kept.mk', Otp.noLess_refl, Kept.keep, Kept.clear, Kept.ite, Kept.ite1, Kept.foldl, Kept.foldl1, Kept.eventSend, Kept.gctlWrite, Kept.pctlWrite, Kept.pdomWrite, Kept.store]; done) | grind [Kept.mk', Otp.noLess_refl, Kept.keep, Kept.clear, Kept.foldl, Kept.foldl1, Kept.eventSend, Kept.gctlWrite, Kept.pctlWrite, Kept.pdomWrite, Kept.store])

theorem Kept.coreUnitWrite {fx : Bool} {s0 s : State} (hk : Kept fx s0 s) (i off key : Nat) (w : Word) : Kept fx s0 (State.coreUnitWrite s i off key w).1 := by
  unfold State.coreUnitWrite; (repeat' split) <;> (first | assumption | (simp +contextual (maxDischargeDepth := 40) only [hk, Kept.mk', Otp.noLess_refl, Kept.keep, Kept.clear, Kept.ite, Kept.ite1, Kept.foldl, Kept.foldl1, Kept.abstractAccess, Kept.coreRcWrite, Kept.store, Kept.wdtCtlWrite, Kept.wdtKick]; done) | grind [Kept.mk', Otp.noLess_refl, Kept.keep, Kept.clear, Kept.foldl, Kept.foldl1, Kept.abstractAccess, Kept.coreRcWrite, Kept.store, Kept.wdtCtlWrite, Kept.wdtKick])

theorem Kept.mbxUnitWrite {fx : Bool} {s0 s : State} (hk : Kept fx s0 s) (inst off key req : Nat) (w : Word) : Kept fx s0 (State.mbxUnitWrite s inst off key req w).1 := by
  unfold State.mbxUnitWrite; (repeat' split) <;> (first | assumption | (simp +contextual (maxDischargeDepth := 40) only [hk, Kept.mk', Otp.noLess_refl, Kept.keep, Kept.clear, Kept.ite, Kept.ite1, Kept.foldl, Kept.foldl1, Kept.coreStart, Kept.mbxCtlWrite, Kept.mbxPush, Kept.store]; done) | grind [Kept.mk', Otp.noLess_refl, Kept.keep, Kept.clear, Kept.foldl, Kept.foldl1, Kept.coreStart, Kept.mbxCtlWrite, Kept.mbxPush, Kept.store])

theorem Kept.regWrite {fx : Bool} {s0 s : State} (hk : Kept fx s0 s) (key req : Nat) (w : Word) : Kept fx s0 (State.regWrite s key req w).1 := by
  grind [State.regWrite, Kept.mk', Otp.noLess_refl, Kept.keep, Kept.clear, Kept.foldl, Kept.foldl1, Kept.adcCtlWrite, Kept.bezelWrite, Kept.calUnitWrite, Kept.cfgWrite, Kept.clkCtlWrite, Kept.coreUnitWrite, Kept.cxlWrite, Kept.d2dCtlWrite, Kept.dbgWrite, Kept.ddrWrite, Kept.dieCmdWrite, Kept.dieRelease, Kept.domCtlWrite, Kept.facetCmdWrite, Kept.facetCtlWrite, Kept.fdspReqWrite, Kept.fpllWrite, Kept.govWrite, Kept.hnWrite, Kept.islCtlWrite, Kept.loupeWrite, Kept.mbxUnitWrite, Kept.mpeWrite, Kept.padWrite, Kept.plinkWrite, Kept.qmWrite, Kept.recCmdWrite, Kept.regionReset, Kept.releaseWrite, Kept.remapWrite, Kept.spineWrite, Kept.store, Kept.tioWrite, Kept.unitReset, Kept.wr, Kept.xbarWrite, Kept.xcvrWrite]

theorem Kept.phaseLoad {fx : Bool} {s0 s : State} (hk : Kept fx s0 s) (i : Nat) (d : DWord) : Kept fx s0 (State.phaseLoad s i d) := by
  unfold State.phaseLoad; simp +contextual (maxDischargeDepth := 40) only [hk, Kept.mk', Otp.noLess_refl, Kept.keep, Kept.clear, Kept.ite, Kept.ite1, Kept.foldl, Kept.foldl1, Kept.setDom]

theorem Kept.pairWrite {fx : Bool} {s0 s : State} (hk : Kept fx s0 s) (key req : Nat) (d : DWord) : Kept fx s0 (State.pairWrite s key req d).1 := by
  grind [State.pairWrite, Kept.mk', Otp.noLess_refl, Kept.keep, Kept.clear, Kept.foldl, Kept.foldl1, Kept.accelerationWrite, Kept.bzWrite, Kept.freezeFollows, Kept.phaseLoad, Kept.store, Kept.tioOutWrite, Kept.velocityWrite, Kept.wrPair]

theorem Kept.pairUnheld {fx : Bool} {s0 s : State} (hk : Kept fx s0 s) (key : Nat) : Kept fx s0 (State.pairUnheld s key) := by
  grind [State.pairUnheld, Kept.mk', Otp.noLess_refl, Kept.keep, Kept.clear, Kept.foldl, Kept.foldl1, Kept.flag, Kept.flagErr, Kept.qmConfig]

theorem Kept.touched {fx : Bool} {s0 s : State} (hk : Kept fx s0 s) (req key : Nat) : Kept fx s0 (State.touched s req key) := by
  grind [State.touched, Kept.mk', Otp.noLess_refl, Kept.keep, Kept.clear, Kept.foldl, Kept.foldl1, Kept.bzInterfere, Kept.interfere]

theorem Kept.setHeld {fx : Bool} {s0 s : State} (hk : Kept fx s0 s) (k : Nat) (w : Option Word) : Kept fx s0 (State.setHeld s k w) := by
  unfold State.setHeld; simp +contextual (maxDischargeDepth := 40) only [hk, Kept.mk', Otp.noLess_refl, Kept.keep, Kept.clear, Kept.ite, Kept.ite1, Kept.foldl, Kept.foldl1]

theorem Kept.setCapt {fx : Bool} {s0 s : State} (hk : Kept fx s0 s) (k : Nat) (d : Option DWord) : Kept fx s0 (State.setCapt s k d) := by
  unfold State.setCapt; simp +contextual (maxDischargeDepth := 40) only [hk, Kept.mk', Otp.noLess_refl, Kept.keep, Kept.clear, Kept.ite, Kept.ite1, Kept.foldl, Kept.foldl1]

theorem Kept.setWide {fx : Bool} {s0 s : State} (hk : Kept fx s0 s) (k : Nat) (l : List Word) : Kept fx s0 (State.setWide s k l) := by
  unfold State.setWide; simp +contextual (maxDischargeDepth := 40) only [hk, Kept.mk', Otp.noLess_refl, Kept.keep, Kept.clear, Kept.ite, Kept.ite1, Kept.foldl, Kept.foldl1]

theorem Kept.pairLoWrite {fx : Bool} {s0 s : State} (hk : Kept fx s0 s) (key req : Nat) (w : Word) : Kept fx s0 (State.pairLoWrite s key req w).1 := by
  unfold State.pairLoWrite; simp +contextual (maxDischargeDepth := 40) only [hk, Kept.mk', Otp.noLess_refl, Kept.keep, Kept.clear, Kept.ite, Kept.ite1, Kept.foldl, Kept.foldl1, Kept.setBzOwner, Kept.setHeld]

theorem Kept.pairHiWrite {fx : Bool} {s0 s : State} (hk : Kept fx s0 s) (key req : Nat) (w : Word) : Kept fx s0 (State.pairHiWrite s key req w).1 := by
  grind [State.pairHiWrite, Kept.mk', Otp.noLess_refl, Kept.keep, Kept.clear, Kept.foldl, Kept.foldl1, Kept.pairUnheld, Kept.pairWrite, Kept.setHeld]

theorem Kept.keyWrite {fx : Bool} {s0 s : State} (hk : Kept fx s0 s) (req key : Nat) (w : Word) : Kept fx s0 (State.keyWrite s req key w).1 := by
  grind [State.keyWrite, Kept.mk', Otp.noLess_refl, Kept.keep, Kept.clear, Kept.foldl, Kept.foldl1, Kept.pairHiWrite, Kept.pairLoWrite, Kept.regWrite, Kept.touched]

theorem Kept.cxlMember {fx : Bool} {s0 s : State} (hk : Kept fx s0 s) (req key : Nat) (w : Word) : Kept fx s0 (State.cxlMember s req key w).1 := by
  unfold State.cxlMember; simp +contextual (maxDischargeDepth := 40) only [hk, Kept.mk', Otp.noLess_refl, Kept.keep, Kept.clear, Kept.ite, Kept.ite1, Kept.foldl, Kept.foldl1, Kept.configRequest, Kept.ioRequest, Kept.store]

theorem Kept.memberWrite {fx : Bool} {s0 s : State} (hk : Kept fx s0 s) (req key : Nat) (w : Word) : Kept fx s0 (State.memberWrite s req key w).1 := by
  unfold State.memberWrite; simp +contextual (maxDischargeDepth := 40) only [hk, Kept.mk', Otp.noLess_refl, Kept.keep, Kept.clear, Kept.ite, Kept.ite1, Kept.foldl, Kept.foldl1, Kept.cxlMember, Kept.keyWrite]

theorem Kept.used {fx : Bool} {s0 s : State} (hk : Kept fx s0 s) (key : Nat) : Kept fx s0 (State.used s key) := by
  unfold State.used; simp +contextual (maxDischargeDepth := 40) only [hk, Kept.mk', Otp.noLess_refl, Kept.keep, Kept.clear, Kept.ite, Kept.ite1, Kept.foldl, Kept.foldl1, Kept.drawn]

theorem Kept.pairLoRead {fx : Bool} {s0 s : State} (hk : Kept fx s0 s) (key req : Nat) : Kept fx s0 (State.pairLoRead s key req).1 := by
  unfold State.pairLoRead; simp +contextual (maxDischargeDepth := 40) only [hk, Kept.mk', Otp.noLess_refl, Kept.keep, Kept.clear, Kept.ite, Kept.ite1, Kept.foldl, Kept.foldl1, Kept.setCapt, Kept.used]

theorem Kept.pairHiRead {fx : Bool} {s0 s : State} (hk : Kept fx s0 s) (key req : Nat) : Kept fx s0 (State.pairHiRead s key req).1 := by
  grind [State.pairHiRead, Kept.mk', Otp.noLess_refl, Kept.keep, Kept.clear, Kept.foldl, Kept.foldl1, Kept.setCapt, Kept.used]

theorem Kept.capHeadRead {fx : Bool} {s0 s : State} (hk : Kept fx s0 s) (die n req : Nat) : Kept fx s0 (State.capHeadRead s die n req).1 := by
  grind [State.capHeadRead, Kept.mk', Otp.noLess_refl, Kept.keep, Kept.clear, Kept.foldl, Kept.foldl1, Kept.setWide]

theorem Kept.capPopRead {fx : Bool} {s0 s : State} (hk : Kept fx s0 s) (die n req : Nat) : Kept fx s0 (State.capPopRead s die n req).1 := by
  grind [State.capPopRead, Kept.mk', Otp.noLess_refl, Kept.keep, Kept.clear, Kept.foldl, Kept.foldl1, Kept.flag, Kept.popCapture, Kept.setWide]

theorem Kept.snapHeadRead {fx : Bool} {s0 s : State} (hk : Kept fx s0 s) (die req : Nat) : Kept fx s0 (State.snapHeadRead s die req).1 := by
  unfold State.snapHeadRead; simp +contextual (maxDischargeDepth := 40) only [hk, Kept.mk', Otp.noLess_refl, Kept.keep, Kept.clear, Kept.ite, Kept.ite1, Kept.foldl, Kept.foldl1, Kept.setWide]

theorem Kept.alarmHeadRead {fx : Bool} {s0 s : State} (hk : Kept fx s0 s) (e req : Nat) : Kept fx s0 (State.alarmHeadRead s e req).1 := by
  grind [State.alarmHeadRead, Kept.mk', Otp.noLess_refl, Kept.keep, Kept.clear, Kept.foldl, Kept.foldl1, Kept.flag, Kept.setWide]

theorem Kept.alarmPopRead {fx : Bool} {s0 s : State} (hk : Kept fx s0 s) (e req : Nat) : Kept fx s0 (State.alarmPopRead s e req).1 := by
  grind [State.alarmPopRead, Kept.mk', Otp.noLess_refl, Kept.keep, Kept.clear, Kept.foldl, Kept.foldl1, Kept.flag, Kept.setEngine, Kept.setWide]

theorem Kept.eventHeadRead {fx : Bool} {s0 s : State} (hk : Kept fx s0 s) (req : Nat) : Kept fx s0 (State.eventHeadRead s req).1 := by
  unfold State.eventHeadRead; simp +contextual (maxDischargeDepth := 40) only [hk, Kept.mk', Otp.noLess_refl, Kept.keep, Kept.clear, Kept.ite, Kept.ite1, Kept.foldl, Kept.foldl1, Kept.setWide]

theorem Kept.eventPopRead {fx : Bool} {s0 s : State} (hk : Kept fx s0 s) (req : Nat) : Kept fx s0 (State.eventPopRead s req).1 := by
  grind [State.eventPopRead, Kept.mk', Otp.noLess_refl, Kept.keep, Kept.clear, Kept.foldl, Kept.foldl1, Kept.eventPop, Kept.setWide]

theorem Kept.nvmDataRead {fx : Bool} {s0 s : State} (hk : Kept fx s0 s)  : Kept fx s0 (State.nvmDataRead s).1 := by
  unfold State.nvmDataRead; simp +contextual (maxDischargeDepth := 40) only [hk, Kept.mk', Otp.noLess_refl, Kept.keep, Kept.clear, Kept.ite, Kept.ite1, Kept.foldl, Kept.foldl1, Kept.flag, Kept.setBoot]

theorem Kept.readClear {fx : Bool} {s0 s : State} (hk : Kept fx s0 s) (key : Nat) : Kept fx s0 (State.readClear s key).1 := by
  grind [State.readClear, Kept.mk', Otp.noLess_refl, Kept.keep, Kept.clear, Kept.foldl, Kept.foldl1, Kept.used, Kept.wr]

theorem Kept.effectRead {fx : Bool} {s0 s : State} (hk : Kept fx s0 s) (req key : Nat) : Kept fx s0 (State.effectRead s req key).1 := by
  grind [State.effectRead, Kept.mk', Otp.noLess_refl, Kept.keep, Kept.clear, Kept.foldl, Kept.foldl1, Kept.alarmHeadRead, Kept.alarmPopRead, Kept.capHeadRead, Kept.capPopRead, Kept.eventHeadRead, Kept.eventPopRead, Kept.lockRead, Kept.mbxPop, Kept.nvmDataRead, Kept.pairHiRead, Kept.pairLoRead, Kept.readClear, Kept.rxPop, Kept.snapHeadRead]

theorem Kept.peek {fx : Bool} {s0 s : State} (hk : Kept fx s0 s) (key : Nat) : Kept fx s0 (State.peek s key).1 := by
  unfold State.peek; simp +contextual (maxDischargeDepth := 40) only [hk, Kept.mk', Otp.noLess_refl, Kept.keep, Kept.clear, Kept.ite, Kept.ite1, Kept.foldl, Kept.foldl1, Kept.lockRead, Kept.used]

theorem Kept.memberRead {fx : Bool} {s0 s : State} (hk : Kept fx s0 s) (req key : Nat) : Kept fx s0 (State.memberRead s req key).1 := by
  unfold State.memberRead; simp +contextual (maxDischargeDepth := 40) only [hk, Kept.mk', Otp.noLess_refl, Kept.keep, Kept.clear, Kept.ite, Kept.ite1, Kept.foldl, Kept.foldl1, Kept.effectRead, Kept.peek, Kept.touched]

theorem Kept.aliasRead {fx : Bool} {s0 s : State} (hk : Kept fx s0 s) (req key : Nat) : Kept fx s0 (State.aliasRead s req key).1 := by
  grind [State.aliasRead, Kept.mk', Otp.noLess_refl, Kept.keep, Kept.clear, Kept.foldl, Kept.foldl1, Kept.mbxPop, Kept.pairHiRead, Kept.pairLoRead, Kept.touched, Kept.used]

theorem Kept.cxlAccess {fx : Bool} {s0 s : State} (hk : Kept fx s0 s) (req key addr : Nat) (w : Option Word) : Kept fx s0 (State.cxlAccess s req key addr w) := by
  unfold State.cxlAccess; (repeat' split) <;> (first | assumption | (simp +contextual (maxDischargeDepth := 40) only [hk, Kept.mk', Otp.noLess_refl, Kept.keep, Kept.clear, Kept.ite, Kept.ite1, Kept.foldl, Kept.foldl1, Kept.completeAccess, Kept.configRequest, Kept.drawn, Kept.ioRequest, Kept.store]; done) | grind [Kept.mk', Otp.noLess_refl, Kept.keep, Kept.clear, Kept.foldl, Kept.foldl1, Kept.completeAccess, Kept.configRequest, Kept.drawn, Kept.ioRequest, Kept.store])

theorem Kept.csrWrite {fx : Bool} {s0 s : State} (hk : Kept fx s0 s) (req addr key : Nat) (w : Word) : Kept fx s0 (State.csrWrite s req addr key w) := by
  grind [State.csrWrite, Kept.mk', Otp.noLess_refl, Kept.keep, Kept.clear, Kept.foldl, Kept.foldl1, Kept.completeAccess, Kept.cxlAccess, Kept.memberWrite]

theorem Kept.csrRead {fx : Bool} {s0 s : State} (hk : Kept fx s0 s) (req addr key : Nat) : Kept fx s0 (State.csrRead s req addr key) := by
  grind [State.csrRead, Kept.mk', Otp.noLess_refl, Kept.keep, Kept.clear, Kept.foldl, Kept.foldl1, Kept.aliasRead, Kept.completeAccess, Kept.cxlAccess, Kept.memberRead]

theorem Kept.viewMemberWrite {fx : Bool} {s0 s : State} (hk : Kept fx s0 s) (req die off size : Nat) (w : Word) : Kept fx s0 (State.viewMemberWrite s req die off size w).1 := by
  grind [State.viewMemberWrite, Kept.mk', Otp.noLess_refl, Kept.keep, Kept.clear, Kept.foldl, Kept.foldl1, Kept.facetViewWrite, Kept.setBoot]

theorem Kept.viewMemberRead {fx : Bool} {s0 s : State} (hk : Kept fx s0 s) (req die off size : Nat) : Kept fx s0 (State.viewMemberRead s req die off size).1 := by
  grind [State.viewMemberRead, Kept.mk', Otp.noLess_refl, Kept.keep, Kept.clear, Kept.foldl, Kept.foldl1, Kept.drawn]

theorem Kept.calViewWrite {fx : Bool} {s0 s : State} (hk : Kept fx s0 s) (req addr : Nat) (dies : List Nat) (off : Nat) (w : Word) : Kept fx s0 (State.calViewWrite s req addr dies off w) := by
  grind [State.calViewWrite, Kept.mk', Otp.noLess_refl, Kept.keep, Kept.clear, Kept.foldl, Kept.foldl1, Kept.completeAccess]

theorem Kept.calViewRead {fx : Bool} {s0 s : State} (hk : Kept fx s0 s) (req addr : Nat) (dies : List Nat) (off : Nat) : Kept fx s0 (State.calViewRead s req addr dies off) := by
  grind [State.calViewRead, Kept.mk', Otp.noLess_refl, Kept.keep, Kept.clear, Kept.foldl, Kept.foldl1, Kept.calRead, Kept.completeAccess]

theorem Kept.viewWrite {fx : Bool} {s0 s : State} (hk : Kept fx s0 s) (req addr die off size : Nat) (w : Word) : Kept fx s0 (State.viewWrite s req addr die off size w) := by
  grind [State.viewWrite, Kept.mk', Otp.noLess_refl, Kept.keep, Kept.clear, Kept.foldl, Kept.foldl1, Kept.calViewWrite, Kept.completeAccess, Kept.viewMemberWrite]

theorem Kept.viewRead {fx : Bool} {s0 s : State} (hk : Kept fx s0 s) (req addr die off size : Nat) : Kept fx s0 (State.viewRead s req addr die off size) := by
  grind [State.viewRead, Kept.mk', Otp.noLess_refl, Kept.keep, Kept.clear, Kept.foldl, Kept.foldl1, Kept.calViewRead, Kept.completeAccess, Kept.viewMemberRead]

theorem Kept.memoryWordRead {fx : Bool} {s0 s : State} (hk : Kept fx s0 s) (req addr size : Nat) : Kept fx s0 (State.memoryWordRead s req addr size) := by
  grind [State.memoryWordRead, Kept.mk', Otp.noLess_refl, Kept.keep, Kept.clear, Kept.foldl, Kept.foldl1, Kept.completeAccess, Kept.debugRead, Kept.protectedRead]

theorem Kept.memoryWordWrite {fx : Bool} {s0 s : State} (hk : Kept fx s0 s) (req addr size : Nat) (w : Word) : Kept fx s0 (State.memoryWordWrite s req addr size w) := by
  grind [State.memoryWordWrite, Kept.mk', Otp.noLess_refl, Kept.keep, Kept.clear, Kept.foldl, Kept.foldl1, Kept.completeAccess, Kept.protectedWrite]

theorem Kept.windowAccess {fx : Bool} {s0 s : State} (hk : Kept fx s0 s) (req addr rg : Nat) (write : Bool) : Kept fx s0 (State.windowAccess s req addr rg write) := by
  unfold State.windowAccess; simp +contextual (maxDischargeDepth := 40) only [hk, Kept.mk', Otp.noLess_refl, Kept.keep, Kept.clear, Kept.ite, Kept.ite1, Kept.foldl, Kept.foldl1, Kept.completeAccess, Kept.drawn]

theorem Kept.putLine {fx : Bool} {s0 s : State} (hk : Kept fx s0 s) (n : Nat) (l : Option CacheLine) : Kept fx s0 (State.putLine s n l) := by
  unfold State.putLine; simp +contextual (maxDischargeDepth := 40) only [hk, Kept.mk', Otp.noLess_refl, Kept.keep, Kept.clear, Kept.ite, Kept.ite1, Kept.foldl, Kept.foldl1, Kept.setBoot]

theorem Kept.cleanLine {fx : Bool} {s0 s : State} (hk : Kept fx s0 s) (req n : Nat) : Kept fx s0 (State.cleanLine s req n) := by
  grind [State.cleanLine, Kept.mk', Otp.noLess_refl, Kept.keep, Kept.clear, Kept.foldl, Kept.foldl1, Kept.protectedWrite, Kept.putLine]

theorem Kept.flushLine {fx : Bool} {s0 s : State} (hk : Kept fx s0 s) (req n : Nat) : Kept fx s0 (State.flushLine s req n) := by
  grind [State.flushLine, Kept.mk', Otp.noLess_refl, Kept.keep, Kept.clear, Kept.foldl, Kept.foldl1, Kept.cleanLine, Kept.putLine]

theorem Kept.cacheTurn {fx : Bool} {s0 s : State} (hk : Kept fx s0 s) (req : Nat) : Kept fx s0 (State.cacheTurn s req) := by
  unfold State.cacheTurn; simp +contextual (maxDischargeDepth := 40) only [hk, Kept.mk', Otp.noLess_refl, Kept.keep, Kept.clear, Kept.ite, Kept.ite1, Kept.foldl, Kept.foldl1, Kept.drawn, Kept.flushLine]

theorem Kept.fillLine {fx : Bool} {s0 s : State} (hk : Kept fx s0 s) (req addr : Nat) : Kept fx s0 (State.fillLine s req addr).1 := by
  grind [State.fillLine, Kept.mk', Otp.noLess_refl, Kept.keep, Kept.clear, Kept.foldl, Kept.foldl1, Kept.protectedRead, Kept.putLine]

theorem Kept.cachedRead {fx : Bool} {s0 s : State} (hk : Kept fx s0 s) (req addr size : Nat) : Kept fx s0 (State.cachedRead s req addr size) := by
  grind [State.cachedRead, Kept.mk', Otp.noLess_refl, Kept.keep, Kept.clear, Kept.foldl, Kept.foldl1, Kept.cacheTurn, Kept.completeAccess, Kept.drawn, Kept.memoryWordRead, Kept.putLine]

theorem Kept.cachedWrite {fx : Bool} {s0 s : State} (hk : Kept fx s0 s) (req addr size : Nat) (w : Word) : Kept fx s0 (State.cachedWrite s req addr size w) := by
  unfold State.cachedWrite
  dsimp only
  have h1 := hk.cacheTurn req
  split
  · exact (h1.putLine _ _).completeAccess _ _ _ _ _
  · refine Kept.ite ?_ ((h1.drawn).memoryWordWrite _ _ _ _)
    have h2 := (h1.drawn).fillLine req addr
    split <;> (rename_i e; rw [e] at h2)
    · exact (h2.putLine _ _).completeAccess _ _ _ _ _
    · exact h2.completeAccess _ _ _ _ _
    · exact h2

theorem Kept.cacheBlock {fx : Bool} {s0 s : State} (hk : Kept fx s0 s) (req addr op : Nat) : Kept fx s0 (State.cacheBlock s req addr op) := by
  unfold State.cacheBlock; (repeat' split) <;> (first | assumption | (simp +contextual (maxDischargeDepth := 40) only [hk, Kept.mk', Otp.noLess_refl, Kept.keep, Kept.clear, Kept.ite, Kept.ite1, Kept.foldl, Kept.foldl1, Kept.cleanLine, Kept.completeAccess, Kept.flushLine, Kept.putLine]; done) | grind [Kept.mk', Otp.noLess_refl, Kept.keep, Kept.clear, Kept.foldl, Kept.foldl1, Kept.cleanLine, Kept.completeAccess, Kept.flushLine, Kept.putLine])

theorem Kept.plicAccess {fx : Bool} {s0 s : State} (hk : Kept fx s0 s) (req addr : Nat) (w : Option Word) : Kept fx s0 (State.plicAccess s req addr w) := by
  unfold State.plicAccess
  generalize addr % 0x4000000 = off
  have h1 := fun v => hk.plicWrite off v
  have h2 := hk.plicRead off
  generalize s.plicRead off = x at h2
  split
  · rename_i v
    have h3 := h1 v
    generalize s.plicWrite off v = y at h3
    exact h3.completeAccess _ _ _ _ _
  · dsimp only
    split
    · exact h2.completeAccess _ _ _ _ _
    · exact h2.completeAccess _ _ _ _ _

theorem Kept.busWrite {fx : Bool} {s0 s : State} (hk : Kept fx s0 s) (r : Requester) (addr size : Nat) (w : Word) : Kept fx s0 (State.busWrite s r addr size w) := by
  grind [State.busWrite, Kept.mk', Otp.noLess_refl, Kept.keep, Kept.clear, Kept.foldl, Kept.foldl1, Kept.cacheBlock, Kept.cachedWrite, Kept.completeAccess, Kept.csrWrite, Kept.memoryWordWrite, Kept.plicAccess, Kept.viewWrite, Kept.windowAccess]

theorem Kept.busRead {fx : Bool} {s0 s : State} (hk : Kept fx s0 s) (r : Requester) (addr size : Nat) : Kept fx s0 (State.busRead s r addr size) := by
  grind [State.busRead, Kept.mk', Otp.noLess_refl, Kept.keep, Kept.clear, Kept.foldl, Kept.foldl1, Kept.cachedRead, Kept.completeAccess, Kept.csrRead, Kept.memoryWordRead, Kept.plicAccess, Kept.viewRead, Kept.windowAccess]

theorem Kept.regAccess {fx : Bool} {s0 s : State} (hk : Kept fx s0 s) (r : Requester) (key : Nat) (w : Word) : Kept fx s0 (State.regAccess s r key w) := by
  unfold State.regAccess; simp +contextual (maxDischargeDepth := 40) only [hk, Kept.mk', Otp.noLess_refl, Kept.keep, Kept.clear, Kept.ite, Kept.ite1, Kept.foldl, Kept.foldl1, Kept.busWrite]

theorem Kept.regFetch {fx : Bool} {s0 s : State} (hk : Kept fx s0 s) (r : Requester) (key : Nat) : Kept fx s0 (State.regFetch s r key) := by
  unfold State.regFetch; simp +contextual (maxDischargeDepth := 40) only [hk, Kept.mk', Otp.noLess_refl, Kept.keep, Kept.clear, Kept.ite, Kept.ite1, Kept.foldl, Kept.foldl1, Kept.busRead]

theorem Kept.tagMismatch {fx : Bool} {s0 s : State} (hk : Kept fx s0 s)  : Kept fx s0 (State.tagMismatch s) := by
  unfold State.tagMismatch; simp +contextual (maxDischargeDepth := 40) only [hk, Kept.mk', Otp.noLess_refl, Kept.keep, Kept.clear, Kept.ite, Kept.ite1, Kept.foldl, Kept.foldl1, Kept.closeSession, Kept.flag, Kept.raise, Kept.setSession]

theorem Kept.dagAccess {fx : Bool} {s0 s : State} (hk : Kept fx s0 s) (op addr : Nat) (data : Word) (tag : Nat) : Kept fx s0 (State.dagAccess s op addr data tag) := by
  unfold State.dagAccess; simp +contextual (maxDischargeDepth := 40) only [hk, Kept.mk', Otp.noLess_refl, Kept.keep, Kept.clear, Kept.ite, Kept.ite1, Kept.foldl, Kept.foldl1, Kept.busRead, Kept.busWrite, Kept.count, Kept.setSession, Kept.tagMismatch]

theorem Kept.recordArrive {fx : Bool} {s0 s : State} (hk : Kept fx s0 s) (r : Raised) : Kept fx s0 (State.recordArrive s r) := by
  unfold State.recordArrive; simp +contextual (maxDischargeDepth := 40) only [hk, Kept.mk', Otp.noLess_refl, Kept.keep, Kept.clear, Kept.ite, Kept.ite1, Kept.foldl, Kept.foldl1, Kept.acceptRecord]

theorem Kept.recordsArrive {fx : Bool} {s0 s : State} (hk : Kept fx s0 s) (picks : List Nat) : Kept fx s0 (State.recordsArrive s picks) := by
  grind [State.recordsArrive, Kept.mk', Otp.noLess_refl, Kept.keep, Kept.clear, Kept.foldl, Kept.foldl1, Kept.recordArrive]

theorem Kept.outsideEdge {fx : Bool} {s0 s : State} (hk : Kept fx s0 s) (die p k : Nat) (level : Bool) (width : Nat) : Kept fx s0 (State.outsideEdge s die p k level width) := by
  unfold State.outsideEdge; simp +contextual (maxDischargeDepth := 40) only [hk, Kept.mk', Otp.noLess_refl, Kept.keep, Kept.clear, Kept.ite, Kept.ite1, Kept.foldl, Kept.foldl1, Kept.drawn, Kept.setUnit]

theorem Kept.phiEdge {fx : Bool} {s0 s : State} (hk : Kept fx s0 s) (die line k : Nat) (level : Bool) (width : Nat) : Kept fx s0 (State.phiEdge s die line k level width) := by
  grind [State.phiEdge, Kept.mk', Otp.noLess_refl, Kept.keep, Kept.clear, Kept.foldl, Kept.foldl1, Kept.domLine]

theorem Kept.inputEdge {fx : Bool} {s0 s : State} (hk : Kept fx s0 s) (die p k : Nat) (level : Bool) (width : Nat) : Kept fx s0 (State.inputEdge s die p k level width) := by
  grind [State.inputEdge, Kept.mk', Otp.noLess_refl, Kept.keep, Kept.clear, Kept.foldl, Kept.foldl1, Kept.debugLineEdge, Kept.outsideEdge, Kept.phiEdge]

theorem Kept.drainRefused {fx : Bool} {s0 s : State} (hk : Kept fx s0 s) (die n : Nat) : Kept fx s0 (State.drainRefused s die n) := by
  unfold State.drainRefused; simp +contextual (maxDischargeDepth := 40) only [hk, Kept.mk', Otp.noLess_refl, Kept.keep, Kept.clear, Kept.ite, Kept.ite1, Kept.foldl, Kept.foldl1, Kept.flagErr]

theorem Kept.recordDrain {fx : Bool} {s0 s : State} (hk : Kept fx s0 s) (die n : Nat) : Kept fx s0 (State.recordDrain s die n) := by
  grind [State.recordDrain, Kept.mk', Otp.noLess_refl, Kept.keep, Kept.clear, Kept.foldl, Kept.foldl1, Kept.captureDeliver, Kept.drainRefused, Kept.popCapture, Kept.streamIn, Kept.streamPush]

theorem Kept.vccioArrival {fx : Bool} {s0 s : State} (hk : Kept fx s0 s) (die bank mv : Nat) : Kept fx s0 (State.vccioArrival s die bank mv) := by
  grind [State.vccioArrival, Kept.mk', Otp.noLess_refl, Kept.keep, Kept.clear, Kept.foldl, Kept.foldl1, Kept.judgeVccio, Kept.leaveState]

theorem Kept.vccioLoss {fx : Bool} {s0 s : State} (hk : Kept fx s0 s) (die bank : Nat) : Kept fx s0 (State.vccioLoss s die bank) := by
  unfold State.vccioLoss; simp +contextual (maxDischargeDepth := 40) only [hk, Kept.mk', Otp.noLess_refl, Kept.keep, Kept.clear, Kept.ite, Kept.ite1, Kept.foldl, Kept.foldl1]

theorem Kept.brownout {fx : Bool} {s0 s : State} (hk : Kept fx s0 s)  : Kept fx s0 (State.brownout s) := by
  unfold State.brownout; simp +contextual (maxDischargeDepth := 40) only [hk, Kept.mk', Otp.noLess_refl, Kept.keep, Kept.clear, Kept.ite, Kept.ite1, Kept.foldl, Kept.foldl1, Kept.porReset]

theorem Kept.bezelBoot {fx : Bool} {s0 s : State} (hk : Kept fx s0 s)  : Kept fx s0 (State.bezelBoot s) := by
  unfold State.bezelBoot; simp +contextual (maxDischargeDepth := 40) only [hk, Kept.mk', Otp.noLess_refl, Kept.keep, Kept.clear, Kept.ite, Kept.ite1, Kept.foldl, Kept.foldl1, Kept.drawKeyZero, Kept.setVault]

theorem Kept.nvmReads {fx : Bool} {s0 s : State} (hk : Kept fx s0 s) (l : List Nat) : Kept fx s0 (State.nvmReads s l) := by
  unfold State.nvmReads; simp +contextual (maxDischargeDepth := 40) only [hk, Kept.mk', Otp.noLess_refl, Kept.keep, Kept.clear, Kept.ite, Kept.ite1, Kept.foldl, Kept.foldl1, Kept.setBoot]

theorem Kept.directoryRead {fx : Bool} {s0 s : State} (hk : Kept fx s0 s) (c0 c1 : Option Directory) : Kept fx s0 (State.directoryRead s c0 c1) := by
  unfold State.directoryRead
  have h2 := (Kept.foldl (l := List.range 5) (f := fun s k => s.wr (Reg.CFG_LOG k) 0) hk.bezelBoot (fun _ _ h => h.wr _ _)).setBit Reg.CFG_NEXT 4 false
  refine Kept.ite hk (Kept.ite ((h2.setBootState _).setBoot _) ?_)
  have h3 := h2.nvmReads [0x0, 0x10000]
  dsimp only
  split
  · exact (h3.setBootState _).slotFailed _ _
  · exact Kept.ite (Kept.configFailed (Kept.setBoot (Kept.setBootState (Kept.ite (h3.setBit _ _ _) h3) _) _)) (Kept.setBoot (Kept.setBootState (Kept.ite (h3.setBit _ _ _) h3) _) _)

theorem Kept.applyHeader {fx : Bool} {s0 s : State} (hk : Kept fx s0 s) (h : Header) : Kept fx s0 (State.applyHeader s h) := by
  unfold State.applyHeader
  extract_lets s1 s2 s3 s4 s4b s5 s6
  have h3 : Kept fx s0 s3 := Kept.foldl ((hk.setBit _ _ _).setFld _ _ _ _) (fun _ _ h => (h.wr _ _).setBit _ _ _)
  have h4 : Kept fx s0 s4 := Kept.foldl h3 (fun _ _ h => (h.setFld _ _ _ _).setBit _ _ _)
  have h4b : Kept fx s0 s4b := Kept.foldl h4 (fun _ _ h => Kept.ite h (h.setFld _ _ _ _))
  have h5 : Kept fx s0 s5 := Kept.foldl h4b (fun _ _ h => (h.setFld _ _ _ _).setFld _ _ _ _)
  have h6 : Kept fx s0 s6 := Kept.foldl h5 (fun _ _ h => (h.setFld _ _ _ _).setFld _ _ _ _)
  exact (h6.wr _ _).wr _ _

theorem Kept.measure {fx : Bool} {s0 s : State} (hk : Kept fx s0 s) (fw : List Byte) (h : Header) : Kept fx s0 (State.measure s fw h) := by
  unfold State.measure; simp +contextual (maxDischargeDepth := 40) only [hk, Kept.mk', Otp.noLess_refl, Kept.keep, Kept.clear, Kept.ite, Kept.ite1, Kept.foldl, Kept.foldl1, Kept.setSec]

theorem Kept.phaseADone {fx : Bool} {s0 s : State} (hk : Kept fx s0 s)  : Kept fx s0 (State.phaseADone s) := by
  grind [State.phaseADone, Kept.mk', Otp.noLess_refl, Kept.keep, Kept.clear, Kept.foldl, Kept.foldl1, Kept.beginTraining, Kept.setBoot]

theorem Kept.startImage {fx : Bool} {s0 s : State} (hk : Kept fx s0 s) (h : Header) : Kept fx s0 (State.startImage s h) := by
  unfold State.startImage
  extract_lets s1 s2 s3
  have h3 : Kept fx s0 s3 := (((((hk.applyHeader _).setBit _ _ _).setFld _ _ _ _).measure _ _).setBoot _).setBootState _
  split
  · exact Kept.ite h3 h3.phaseADone
  · exact h3

theorem Kept.headerRead {fx : Bool} {s0 s : State} (hk : Kept fx s0 s) (h : Header) : Kept fx s0 (State.headerRead s h) := by
  unfold State.headerRead; (repeat' split) <;> (first | assumption | (simp +contextual (maxDischargeDepth := 40) only [hk, Kept.mk', Otp.noLess_refl, Kept.keep, Kept.clear, Kept.ite, Kept.ite1, Kept.foldl, Kept.foldl1, Kept.nvmReads, Kept.setBit, Kept.setBoot, Kept.setFld, Kept.slotFailed, Kept.startImage]; done) | grind [Kept.mk', Otp.noLess_refl, Kept.keep, Kept.clear, Kept.foldl, Kept.foldl1, Kept.nvmReads, Kept.setBit, Kept.setBoot, Kept.setFld, Kept.slotFailed, Kept.startImage])

theorem Kept.jtagImage {fx : Bool} {s0 s : State} (hk : Kept fx s0 s) (h : Header) : Kept fx s0 (State.jtagImage s h) := by
  unfold State.jtagImage; (repeat' split) <;> (first | assumption | (simp +contextual (maxDischargeDepth := 40) only [hk, Kept.mk', Otp.noLess_refl, Kept.keep, Kept.clear, Kept.ite, Kept.ite1, Kept.foldl, Kept.foldl1, Kept.raise, Kept.setBit, Kept.setBoot, Kept.setBootState, Kept.setDie, Kept.setFld, Kept.slotFailed, Kept.startImage]; done) | grind [Kept.mk', Otp.noLess_refl, Kept.keep, Kept.clear, Kept.foldl, Kept.foldl1, Kept.raise, Kept.setBit, Kept.setBoot, Kept.setBootState, Kept.setDie, Kept.setFld, Kept.slotFailed, Kept.startImage])

theorem Kept.asBezel {fx : Bool} {s0 s : State} (hk : Kept fx s0 s) (r : Nat × Word) : Kept fx s0 (State.asBezel s r).1 := by
  unfold State.asBezel; simp +contextual (maxDischargeDepth := 40) only [hk, Kept.mk', Otp.noLess_refl, Kept.keep, Kept.clear, Kept.ite, Kept.ite1, Kept.foldl, Kept.foldl1, Kept.busWrite]

theorem Kept.applyRecords {fx : Bool} {s0 s : State} (hk : Kept fx s0 s) (l : List (Nat × Word)) : Kept fx s0 (State.applyRecords s l).1 := by
  grind [State.applyRecords, Kept.mk', Otp.noLess_refl, Kept.keep, Kept.clear, Kept.foldl, Kept.foldl1, Kept.asBezel, Kept.setBoot]

theorem Kept.copyBase {fx : Bool} {s0 s : State} (hk : Kept fx s0 s) (h : Header) (e : SegEntry) (data : List Byte) : Kept fx s0 (State.copyBase s h e data) := by
  unfold State.copyBase; simp +contextual (maxDischargeDepth := 40) only [hk, Kept.mk', Otp.noLess_refl, Kept.keep, Kept.clear, Kept.ite, Kept.ite1, Kept.foldl, Kept.foldl1, Kept.setLibEntry]

theorem Kept.writeTarget {fx : Bool} {s0 s : State} (hk : Kept fx s0 s) (h : Header) (e : SegEntry) (g : SegIn) : Kept fx s0 (State.writeTarget s h e g).1 := by
  grind [State.writeTarget, Kept.mk', Otp.noLess_refl, Kept.keep, Kept.clear, Kept.foldl, Kept.foldl1, Kept.applyRecords, Kept.blockImage, Kept.facetImage, Kept.measure, Kept.placeCd, Kept.setBoot, Kept.setLibEntry, Kept.setSec]

theorem Kept.bezelRegion {fx : Bool} {s0 s : State} (hk : Kept fx s0 s) (n base mib : Nat) : Kept fx s0 (State.bezelRegion s n base mib) := by
  unfold State.bezelRegion; simp +contextual (maxDischargeDepth := 40) only [hk, Kept.mk', Otp.noLess_refl, Kept.keep, Kept.clear, Kept.ite, Kept.ite1, Kept.foldl, Kept.foldl1, Kept.regionCtlWrite, Kept.wr]

theorem Kept.memoryReady {fx : Bool} {s0 s : State} (hk : Kept fx s0 s) (h : Header) : Kept fx s0 (State.memoryReady s h) := by
  unfold State.memoryReady; simp +contextual (maxDischargeDepth := 40) only [hk, Kept.mk', Otp.noLess_refl, Kept.keep, Kept.clear, Kept.ite, Kept.ite1, Kept.foldl, Kept.foldl1, Kept.bezelRegion, Kept.setBoot, Kept.slotFailed]

theorem Kept.stepSeven {fx : Bool} {s0 s : State} (hk : Kept fx s0 s) (h : Header) : Kept fx s0 (State.stepSeven s h) := by
  unfold State.stepSeven; simp +contextual (maxDischargeDepth := 40) only [hk, Kept.mk', Otp.noLess_refl, Kept.keep, Kept.clear, Kept.ite, Kept.ite1, Kept.foldl, Kept.foldl1, Kept.handover]

theorem Kept.reportReady {fx : Bool} {s0 s : State} (hk : Kept fx s0 s) (die : Nat) : Kept fx s0 (State.reportReady s die) := by
  unfold State.reportReady; simp +contextual (maxDischargeDepth := 40) only [hk, Kept.mk', Otp.noLess_refl, Kept.keep, Kept.clear, Kept.ite, Kept.ite1, Kept.foldl, Kept.foldl1, Kept.setBoot]

theorem Kept.afterSegment {fx : Bool} {s0 s : State} (hk : Kept fx s0 s) (h : Header) (e : SegEntry) (i : Nat) : Kept fx s0 (State.afterSegment s h e i) := by
  unfold State.afterSegment; simp +contextual (maxDischargeDepth := 40) only [hk, Kept.mk', Otp.noLess_refl, Kept.keep, Kept.clear, Kept.ite, Kept.ite1, Kept.foldl, Kept.foldl1, Kept.phaseADone, Kept.reportReady, Kept.stepSeven]

theorem Kept.placeSegment {fx : Bool} {s0 s : State} (hk : Kept fx s0 s) (h : Header) (e : SegEntry) (g : SegIn) (i : Nat) : Kept fx s0 (State.placeSegment s h e g i) := by
  unfold State.placeSegment
  have hw := hk.writeTarget h e g
  split
  · rename_i heq
    rw [heq] at hw
    exact hw.slotFailed _ _
  · rename_i heq
    rw [heq] at hw
    exact Kept.ite (hw.slotFailed _ _) (Kept.ite (hw.slotFailed _ _) (Kept.afterSegment (Kept.setBoot (Kept.ite (hw.copyBase _ _ _) hw) _) _ _ _))

theorem Kept.streamSegment {fx : Bool} {s0 s : State} (hk : Kept fx s0 s) (h : Header) (e : SegEntry) (g : SegIn) : Kept fx s0 (State.streamSegment s h e g) := by
  unfold State.streamSegment
  extract_lets i s1 s2 s3
  have a1 : Kept fx s0 s1 := (hk.setFld Reg.CFG_STAT 16 11 i).setBoot _
  have a2 : Kept fx s0 s2 := Kept.ite a1 (a1.nvmReads _)
  have h2 : Kept fx s0 s3 := Kept.ite ((a2.flag _ _).lateArrival _ _ _) a2
  clear_value s3
  exact Kept.ite (h2.slotFailed _ _) (Kept.ite (h2.slotFailed _ _) (Kept.ite (h2.slotFailed _ _) (Kept.ite (Kept.slotFailed (Kept.ite ((h2.setBoot _).stepSeven _) (h2.setBoot _)) _ _) (Kept.placeSegment (Kept.ite ((h2.setBoot _).stepSeven _) (h2.setBoot _)) _ _ _ _))))

theorem Kept.segmentReceive {fx : Bool} {s0 s : State} (hk : Kept fx s0 s) (g : SegIn) : Kept fx s0 (State.segmentReceive s g) := by
  grind [State.segmentReceive, Kept.mk', Otp.noLess_refl, Kept.keep, Kept.clear, Kept.foldl, Kept.foldl1, Kept.dieMissing, Kept.memoryReady, Kept.streamSegment]

theorem Kept.segmentTimeout {fx : Bool} {s0 s : State} (hk : Kept fx s0 s)  : Kept fx s0 (State.segmentTimeout s) := by
  grind [State.segmentTimeout, Kept.mk', Otp.noLess_refl, Kept.keep, Kept.clear, Kept.foldl, Kept.foldl1, Kept.setBoot, Kept.slotFailed]

theorem Kept.doneRelease {fx : Bool} {s0 s : State} (hk : Kept fx s0 s) (fits : List Bool) : Kept fx s0 (State.doneRelease s fits) := by
  unfold State.doneRelease
  split
  · exact hk
  · refine Kept.ite hk ?_
    extract_lets s1 enabled
    have h1 : Kept fx s0 s1 := hk.memoryReady _
    refine Kept.ite h1 (Kept.ite (h1.slotFailed _ _) ?_)
    exact ((Kept.foldl (h1.stepSeven _) (fun _ _ h => h.reportReady _)).setBoot _).setBootState _

theorem Kept.lateMissing {fx : Bool} {s0 s : State} (hk : Kept fx s0 s)  : Kept fx s0 (State.lateMissing s) := by
  unfold State.lateMissing; simp +contextual (maxDischargeDepth := 40) only [hk, Kept.mk', Otp.noLess_refl, Kept.keep, Kept.clear, Kept.ite, Kept.ite1, Kept.foldl, Kept.foldl1, Kept.dieMissing]

theorem Kept.enterRegion {fx : Bool} {s0 s : State} (hk : Kept fx s0 s) (die rg : Nat) : Kept fx s0 (State.enterRegion s die rg) := by
  grind [State.enterRegion, Kept.mk', Otp.noLess_refl, Kept.keep, Kept.clear, Kept.foldl, Kept.foldl1, Kept.enableFacet, Kept.releaseInitial, Kept.setBit, Kept.setRegion, Kept.takeDown]

theorem Kept.enterRegions {fx : Bool} {s0 s : State} (hk : Kept fx s0 s)  : Kept fx s0 (State.enterRegions s) := by
  unfold State.enterRegions
  exact Kept.foldl hk (fun _ _ h => Kept.ite h (Kept.foldl h (fun _ _ h => h.enterRegion _ _)))

theorem Kept.userModeEntry {s0 s : State} (hk : Kept false s0 s) (us : Nat) : Kept false s0 (State.userModeEntry s us) := by
  unfold State.userModeEntry
  refine Kept.ite hk ?_
  apply Kept.wr
  apply Kept.setBootState
  refine Kept.secSame ?_ _ (fun _ => ⟨rfl, rfl⟩)
  apply Kept.setSafe
  apply Kept.enterRegions
  apply Kept.setBit
  apply Kept.setBit
  apply Kept.setBoot
  refine Kept.foldl ?_ ?_
  · split
    · exact Kept.ite (hk.raiseArb _ _) hk
    · exact hk
  · intro _ _ h
    exact h.asBezel _

theorem Kept.nvmComplete {fx : Bool} {s0 s : State} (hk : Kept fx s0 s) (data : List Byte) : Kept fx s0 (State.nvmComplete s data) := by
  unfold State.nvmComplete; simp +contextual (maxDischargeDepth := 40) only [hk, Kept.mk', Otp.noLess_refl, Kept.keep, Kept.clear, Kept.ite, Kept.ite1, Kept.foldl, Kept.foldl1, Kept.setBit, Kept.setBoot]

theorem Kept.reloadDie {fx : Bool} {s0 s : State} (hk : Kept fx s0 s) (die : Nat) : Kept fx s0 (State.reloadDie s die) := by
  grind [State.reloadDie, Kept.mk', Otp.noLess_refl, Kept.keep, Kept.clear, Kept.foldl, Kept.foldl1, Kept.asBezel, Kept.blockImage, Kept.enableFacet, Kept.facetImage, Kept.releaseInitial, Kept.setRegion, Kept.takeDown, Kept.writeLoad]

theorem Kept.lockedSetup {fx : Bool} {s0 s : State} (hk : Kept fx s0 s) (die : Nat) : Kept fx s0 (State.lockedSetup s die) := by
  unfold State.lockedSetup
  refine Kept.foldl hk (fun t e h => ?_)
  dsimp only
  split
  · exact ((((h.wr _ _).wr _ _).wr _ _).wr _ _).setPad _ _ _
  · exact h

theorem Kept.dieReady {fx : Bool} {s0 s : State} (hk : Kept fx s0 s) (die : Nat) : Kept fx s0 (State.dieReady s die) := by
  unfold State.dieReady; simp +contextual (maxDischargeDepth := 40) only [hk, Kept.mk', Otp.noLess_refl, Kept.keep, Kept.clear, Kept.ite, Kept.ite1, Kept.foldl, Kept.foldl1, Kept.flag, Kept.lockedSetup, Kept.raise, Kept.reloadDie, Kept.routesBack, Kept.setBoot, Kept.setDie]

theorem Kept.pairAccess {fx : Bool} {s0 s : State} (hk : Kept fx s0 s) (r : Requester) (lo hi : Nat) (d : DWord) : Kept fx s0 (State.pairAccess s r lo hi d) := by
  unfold State.pairAccess; simp +contextual (maxDischargeDepth := 40) only [hk, Kept.mk', Otp.noLess_refl, Kept.keep, Kept.clear, Kept.ite, Kept.ite1, Kept.foldl, Kept.foldl1, Kept.regAccess]

theorem Kept.dataAccess {fx : Bool} {s0 s : State} (hk : Kept fx s0 s) (r : Requester) (key : Nat) (w : Option Word) : Kept fx s0 (State.dataAccess s r key w) := by
  unfold State.dataAccess; (repeat' split) <;> (first | assumption | (simp +contextual (maxDischargeDepth := 40) only [hk, Kept.mk', Otp.noLess_refl, Kept.keep, Kept.clear, Kept.ite, Kept.ite1, Kept.foldl, Kept.foldl1, Kept.regAccess, Kept.regFetch]; done) | grind [Kept.mk', Otp.noLess_refl, Kept.keep, Kept.clear, Kept.foldl, Kept.foldl1, Kept.regAccess, Kept.regFetch])

theorem Kept.viewAccess {fx : Bool} {s0 s : State} (hk : Kept fx s0 s) (r : Requester) (addr : Nat) (w : Option Word) : Kept fx s0 (State.viewAccess s r addr w) := by
  unfold State.viewAccess; (repeat' split) <;> (first | assumption | (simp +contextual (maxDischargeDepth := 40) only [hk, Kept.mk', Otp.noLess_refl, Kept.keep, Kept.clear, Kept.ite, Kept.ite1, Kept.foldl, Kept.foldl1, Kept.busRead, Kept.busWrite]; done) | grind [Kept.mk', Otp.noLess_refl, Kept.keep, Kept.clear, Kept.foldl, Kept.foldl1, Kept.busRead, Kept.busWrite])

theorem Kept.setAccess {fx : Bool} {s0 s : State} (hk : Kept fx s0 s) (r : Requester) (set op grp : Nat) : Kept fx s0 (State.setAccess s r set op grp) := by
  unfold State.setAccess; simp +contextual (maxDischargeDepth := 40) only [hk, Kept.mk', Otp.noLess_refl, Kept.keep, Kept.clear, Kept.ite, Kept.ite1, Kept.foldl, Kept.foldl1, Kept.regAccess]

theorem Kept.presentIncrement {fx : Bool} {s0 s : State} (hk : Kept fx s0 s) (rg : Nat) (inc : Word) : Kept fx s0 (State.presentIncrement s rg inc) := by
  unfold State.presentIncrement; simp +contextual (maxDischargeDepth := 40) only [hk, Kept.mk', Otp.noLess_refl, Kept.keep, Kept.clear, Kept.ite, Kept.ite1, Kept.foldl, Kept.foldl1, Kept.fabricIncrement]

theorem Kept.pulseEnd {fx : Bool} {s0 s : State} (hk : Kept fx s0 s) (die : Nat) (direct : Bool) (n : Nat) : Kept fx s0 (State.pulseEnd s die direct n) := by
  unfold State.pulseEnd; simp +contextual (maxDischargeDepth := 40) only [hk, Kept.mk', Otp.noLess_refl, Kept.keep, Kept.clear, Kept.ite, Kept.ite1, Kept.foldl, Kept.foldl1, Kept.flagIf, Kept.setSlice, Kept.setUnit]

theorem Kept.pwmShadowMove {fx : Bool} {s0 s : State} (hk : Kept fx s0 s) (die n k : Nat) : Kept fx s0 (State.pwmShadowMove s die n k) := by
  grind [State.pwmShadowMove, Kept.mk', Otp.noLess_refl, Kept.keep, Kept.clear, Kept.foldl, Kept.foldl1, Kept.pwmGenDtu, Kept.pwmPhaseDtu]

theorem Kept.deadlineExpiry {fx : Bool} {s0 s : State} (hk : Kept fx s0 s) (die rg : Nat) (waiting : Bool) (i : Nat) : Kept fx s0 (State.deadlineExpiry s die rg waiting i) := by
  unfold State.deadlineExpiry; simp +contextual (maxDischargeDepth := 40) only [hk, Kept.mk', Otp.noLess_refl, Kept.keep, Kept.clear, Kept.ite, Kept.ite1, Kept.foldl, Kept.foldl1, Kept.lateAssigned, Kept.lateReady]

theorem Kept.storedLine {fx : Bool} {s0 s : State} (hk : Kept fx s0 s) (e l : Nat) : Kept fx s0 (State.storedLine s e l).1 := by
  unfold State.storedLine; simp +contextual (maxDischargeDepth := 40) only [hk, Kept.mk', Otp.noLess_refl, Kept.keep, Kept.clear, Kept.ite, Kept.ite1, Kept.foldl, Kept.foldl1, Kept.drawnN, Kept.rawLine]

theorem Kept.arrayRead {fx : Bool} {s0 s : State} (hk : Kept fx s0 s) (a e l out : Nat) : Kept fx s0 (State.arrayRead s a e l out).1 := by
  unfold State.arrayRead
  exact Kept.ite1 (hk.uncorrectable _ _) (Kept.storedLine (Kept.ite (hk.corrected _) hk) _ _)

theorem Kept.memoryRead {fx : Bool} {s0 s : State} (hk : Kept fx s0 s) (a bank row out : Nat) : Kept fx s0 (State.memoryRead s a bank row out) := by
  unfold State.memoryRead
  split
  · exact Kept.protectedAccess _ hk
  · refine Kept.ite hk ?_
    extract_lets r
    exact Kept.protectedAccess _ ((hk.scheduleRead _ _ _).arrayRead _ _ _ _)

theorem Kept.memoryWrite {fx : Bool} {s0 s : State} (hk : Kept fx s0 s) (a bank row prio : Nat) : Kept fx s0 (State.memoryWrite s a bank row prio) := by
  grind [State.memoryWrite, Kept.mk', Otp.noLess_refl, Kept.keep, Kept.clear, Kept.foldl, Kept.foldl1, Kept.protectedAccess, Kept.queueWrite]

theorem Kept.streamProducer {fx : Bool} {s0 s : State} (hk : Kept fx s0 s) (q : Nat) (bytes : List Byte) (flush : Bool) : Kept fx s0 (State.streamProducer s q bytes flush) := by
  unfold State.streamProducer; simp +contextual (maxDischargeDepth := 40) only [hk, Kept.mk', Otp.noLess_refl, Kept.keep, Kept.clear, Kept.ite, Kept.ite1, Kept.foldl, Kept.foldl1, Kept.answer, Kept.streamPush]

theorem Kept.boundaryScan {fx : Bool} {s0 s : State} (hk : Kept fx s0 s) (code : Nat) (cells : List (Fin 960 × Bool × Bool)) : Kept fx s0 (State.boundaryScan s code cells) := by
  unfold State.boundaryScan; simp +contextual (maxDischargeDepth := 40) only [hk, Kept.mk', Otp.noLess_refl, Kept.keep, Kept.clear, Kept.ite, Kept.ite1, Kept.foldl, Kept.foldl1, Kept.tapCells, Kept.tapInstruction]

theorem Kept.responseCommand {fx : Bool} {s0 s : State} (hk : Kept fx s0 s) (scope : Nat) (zfill late : Bool) : Kept fx s0 (State.responseCommand s scope zfill late) := by
  unfold State.responseCommand; simp +contextual (maxDischargeDepth := 40) only [hk, Kept.mk', Otp.noLess_refl, Kept.keep, Kept.clear, Kept.ite, Kept.ite1, Kept.foldl, Kept.foldl1, Kept.completeAccess, Kept.response]

theorem Kept.functionConfig {fx : Bool} {s0 s : State} (hk : Kept fx s0 s) (p : Nat) : Kept fx s0 (State.functionConfig s p) := by
  unfold State.functionConfig; simp +contextual (maxDischargeDepth := 40) only [hk, Kept.mk', Otp.noLess_refl, Kept.keep, Kept.clear, Kept.ite, Kept.ite1, Kept.foldl, Kept.foldl1, Kept.drawn]

end Sys2Proof.Machine
end

