-- ==== Sys2Proof/Laws/KeptExec.lean ====
section
/-!
SUPPORT. Every command ends in a next state that keeps what `Kept` says.
-/
set_option linter.all false

namespace Sys2Proof.Machine

theorem Kept.execBezelCommandGo (r : Requester) (chan : Fin 4) (w : BitVec 32) (s : State) :
    ∃ s2, execBezelCommandGo r chan w s = .next s2 ∧ Kept true s s2 := by
  exact ⟨_, rfl, Kept.regAccess (Kept.refl _ _) _ _ _⟩

theorem Kept.execKeyGen (s : State) :
    ∃ s2, execKeyGen s = .next s2 ∧ Kept true s s2 := by
  exact ⟨_, rfl, Kept.keyGen (Kept.refl _ _)⟩

theorem Kept.execKeyImport (s : State) :
    ∃ s2, execKeyImport s = .next s2 ∧ Kept true s s2 := by
  exact ⟨_, rfl, Kept.keyImport (Kept.refl _ _)⟩

theorem Kept.execKeyExport (s : State) :
    ∃ s2, execKeyExport s = .next s2 ∧ Kept true s s2 := by
  exact ⟨_, rfl, Kept.keyExport (Kept.refl _ _)⟩

theorem Kept.execKeyDelete (s : State) :
    ∃ s2, execKeyDelete s = .next s2 ∧ Kept true s s2 := by
  exact ⟨_, rfl, Kept.keyDelete (Kept.refl _ _)⟩

theorem Kept.execMpeLoad (s : State) :
    ∃ s2, execMpeLoad s = .next s2 ∧ Kept true s s2 := by
  exact ⟨_, rfl, Kept.mpeLoad (Kept.refl _ _)⟩

theorem Kept.execMpeGrant (s : State) :
    ∃ s2, execMpeGrant s = .next s2 ∧ Kept true s s2 := by
  exact ⟨_, rfl, Kept.mpeGrant (Kept.refl _ _)⟩

theorem Kept.execSignRecord (s : State) :
    ∃ s2, execSignRecord s = .next s2 ∧ Kept true s s2 := by
  exact ⟨_, rfl, Kept.signRecord (Kept.refl _ _)⟩

theorem Kept.execTransferWrap (s : State) :
    ∃ s2, execTransferWrap s = .next s2 ∧ Kept true s s2 := by
  exact ⟨_, rfl, Kept.transferWrap (Kept.refl _ _)⟩

theorem Kept.execAttest (s : State) :
    ∃ s2, execAttest s = .next s2 ∧ Kept true s s2 := by
  exact ⟨_, rfl, Kept.attest (Kept.refl _ _)⟩

theorem Kept.execGetCert (s : State) :
    ∃ s2, execGetCert s = .next s2 ∧ Kept true s s2 := by
  exact ⟨_, rfl, Kept.getCert (Kept.refl _ _)⟩

theorem Kept.execImageLib (img : Image) (s : State) :
    ∃ s2, execImageLib img s = .next s2 ∧ Kept true s s2 := by
  exact ⟨_, rfl, Kept.imageLib (Kept.refl _ _) _⟩

theorem Kept.execImageCd (img : Image) (s : State) :
    ∃ s2, execImageCd img s = .next s2 ∧ Kept true s s2 := by
  exact ⟨_, rfl, Kept.imageCd (Kept.refl _ _) _⟩

theorem Kept.execFwActivate (img : Image) (s : State) :
    ∃ s2, execFwActivate img s = .next s2 ∧ Kept true s s2 := by
  exact ⟨_, rfl, Kept.fwActivate (Kept.refl _ _) _⟩

theorem Kept.execRandom (s : State) :
    ∃ s2, execRandom s = .next s2 ∧ Kept true s s2 := by
  exact ⟨_, rfl, Kept.random (Kept.refl _ _)⟩

theorem Kept.execArbAdvance (s : State) :
    ∃ s2, execArbAdvance s = .next s2 ∧ Kept false s s2 := by
  exact ⟨_, rfl, Kept.arbAdvance (Kept.refl _ _)⟩

theorem Kept.execOtpSet (t : Token) (s : State) :
    ∃ s2, execOtpSet t s = .next s2 ∧ Kept false s s2 := by
  exact ⟨_, rfl, Kept.otpSet (Kept.refl _ _) _⟩

theorem Kept.execLcChange (ts : List Token) (block : Option Provisioning) (s : State) :
    ∃ s2, execLcChange ts block s = .next s2 ∧ Kept false s s2 := by
  exact ⟨_, rfl, Kept.lcChange (Kept.refl _ _) _ _⟩

theorem Kept.execSensorEvent (cls : Fin 8) (s : State) :
    ∃ s2, execSensorEvent cls s = .next s2 ∧ Kept true s s2 := by
  exact ⟨_, rfl, Kept.sensorEvent (Kept.refl _ _) _⟩

theorem Kept.execParBundle (die : Fin 4) (i : ParIssue) (s : State) :
    ∃ s2, execParBundle die i s = .next s2 ∧ Kept true s s2 := by
  exact ⟨_, rfl, Kept.issueAs (Kept.strike (Kept.refl _ _) _ _ _) _ _ _⟩

theorem Kept.execImm (die : Fin 4) (p : Fin 272) (s : State) :
    ∃ s2, execImm die p s = .next s2 ∧ Kept true s s2 := by
  exact ⟨_, rfl, Kept.issueAs (Kept.refl _ _) _ _ _⟩

theorem Kept.execBr (die : Fin 4) (p : Fin 272) (s : State) :
    ∃ s2, execBr die p s = .next s2 ∧ Kept true s s2 := by
  exact ⟨_, rfl, Kept.issueAs (Kept.refl _ _) _ _ _⟩

theorem Kept.execBri (die : Fin 4) (p : Fin 272) (s : State) :
    ∃ s2, execBri die p s = .next s2 ∧ Kept true s s2 := by
  exact ⟨_, rfl, Kept.issueAs (Kept.refl _ _) _ _ _⟩

theorem Kept.execCall (die : Fin 4) (p : Fin 272) (s : State) :
    ∃ s2, execCall die p s = .next s2 ∧ Kept true s s2 := by
  exact ⟨_, rfl, Kept.issueAs (Kept.refl _ _) _ _ _⟩

theorem Kept.execCalli (die : Fin 4) (p : Fin 272) (s : State) :
    ∃ s2, execCalli die p s = .next s2 ∧ Kept true s s2 := by
  exact ⟨_, rfl, Kept.issueAs (Kept.refl _ _) _ _ _⟩

theorem Kept.execRet (die : Fin 4) (p : Fin 272) (s : State) :
    ∃ s2, execRet die p s = .next s2 ∧ Kept true s s2 := by
  exact ⟨_, rfl, Kept.issueAs (Kept.refl _ _) _ _ _⟩

theorem Kept.execRtu (die : Fin 4) (p : Fin 272) (s : State) :
    ∃ s2, execRtu die p s = .next s2 ∧ Kept true s s2 := by
  exact ⟨_, rfl, Kept.issueAs (Kept.refl _ _) _ _ _⟩

theorem Kept.execWait (die : Fin 4) (p : Fin 272) (s : State) :
    ∃ s2, execWait die p s = .next s2 ∧ Kept true s s2 := by
  exact ⟨_, rfl, Kept.issueAs (Kept.refl _ _) _ _ _⟩

theorem Kept.execLoop (die : Fin 4) (p : Fin 272) (s : State) :
    ∃ s2, execLoop die p s = .next s2 ∧ Kept true s s2 := by
  exact ⟨_, rfl, Kept.issueAs (Kept.refl _ _) _ _ _⟩

theorem Kept.execLpop (die : Fin 4) (p : Fin 272) (s : State) :
    ∃ s2, execLpop die p s = .next s2 ∧ Kept true s s2 := by
  exact ⟨_, rfl, Kept.issueAs (Kept.refl _ _) _ _ _⟩

theorem Kept.execRep (die : Fin 4) (p : Fin 272) (s : State) :
    ∃ s2, execRep die p s = .next s2 ∧ Kept true s s2 := by
  exact ⟨_, rfl, Kept.issueAs (Kept.refl _ _) _ _ _⟩

theorem Kept.execSignal (die : Fin 4) (p : Fin 272) (s : State) :
    ∃ s2, execSignal die p s = .next s2 ∧ Kept true s s2 := by
  exact ⟨_, rfl, Kept.issueAs (Kept.refl _ _) _ _ _⟩

theorem Kept.execSnop (die : Fin 4) (p : Fin 272) (s : State) :
    ∃ s2, execSnop die p s = .next s2 ∧ Kept true s s2 := by
  exact ⟨_, rfl, Kept.issueAs (Kept.refl _ _) _ _ _⟩

theorem Kept.execMrs (die : Fin 4) (p : Fin 272) (s : State) :
    ∃ s2, execMrs die p s = .next s2 ∧ Kept true s s2 := by
  exact ⟨_, rfl, Kept.issueAs (Kept.refl _ _) _ _ _⟩

theorem Kept.execSrs (die : Fin 4) (p : Fin 272) (s : State) :
    ∃ s2, execSrs die p s = .next s2 ∧ Kept true s s2 := by
  exact ⟨_, rfl, Kept.issueAs (Kept.refl _ _) _ _ _⟩

theorem Kept.execMvx (die : Fin 4) (p : Fin 272) (s : State) :
    ∃ s2, execMvx die p s = .next s2 ∧ Kept true s s2 := by
  exact ⟨_, rfl, Kept.issueAs (Kept.refl _ _) _ _ _⟩

theorem Kept.execMxv (die : Fin 4) (p : Fin 272) (s : State) :
    ∃ s2, execMxv die p s = .next s2 ∧ Kept true s s2 := by
  exact ⟨_, rfl, Kept.issueAs (Kept.refl _ _) _ _ _⟩

theorem Kept.execPadd (die : Fin 4) (p : Fin 272) (s : State) :
    ∃ s2, execPadd die p s = .next s2 ∧ Kept true s s2 := by
  exact ⟨_, rfl, Kept.issueAs (Kept.refl _ _) _ _ _⟩

theorem Kept.execScnt (die : Fin 4) (p : Fin 272) (s : State) :
    ∃ s2, execScnt die p s = .next s2 ∧ Kept true s s2 := by
  exact ⟨_, rfl, Kept.issueAs (Kept.refl _ _) _ _ _⟩

theorem Kept.execQkick (die : Fin 4) (p : Fin 272) (s : State) :
    ∃ s2, execQkick die p s = .next s2 ∧ Kept true s s2 := by
  exact ⟨_, rfl, Kept.issueAs (Kept.refl _ _) _ _ _⟩

theorem Kept.execQkickd (die : Fin 4) (p : Fin 272) (s : State) :
    ∃ s2, execQkickd die p s = .next s2 ∧ Kept true s s2 := by
  exact ⟨_, rfl, Kept.issueAs (Kept.refl _ _) _ _ _⟩

theorem Kept.execRecord (die : Fin 4) (p : Fin 272) (s : State) :
    ∃ s2, execRecord die p s = .next s2 ∧ Kept true s s2 := by
  exact ⟨_, rfl, Kept.issueAs (Kept.refl _ _) _ _ _⟩

theorem Kept.execSpineTick (missed : List (Fin 4)) (s : State) :
    ∃ s2, execSpineTick missed s = .next s2 ∧ Kept true s s2 := by
  have hk := Kept.refl true s
  exact ⟨_, rfl, by simp +contextual (maxDischargeDepth := 40) only [hk, Kept.mk', Kept.ite, Kept.ite1, Kept.interruptTick, Kept.spineTick]⟩

theorem Kept.execRegisterWrite (r : Requester) (addr : Nat) (size : Nat) (w : BitVec 32) (s : State) :
    ∃ s2, execRegisterWrite r addr size w s = .next s2 ∧ Kept true s s2 := by
  exact ⟨_, rfl, Kept.busWrite (Kept.refl _ _) _ _ _ _⟩

theorem Kept.execPairLoWrite (r : Requester) (addr : Nat) (w : BitVec 32) (s : State) :
    ∃ s2, execPairLoWrite r addr w s = .next s2 ∧ Kept true s s2 := by
  exact ⟨_, rfl, Kept.busWrite (Kept.refl _ _) _ _ _ _⟩

theorem Kept.execPairHiWrite (r : Requester) (addr : Nat) (w : BitVec 32) (s : State) :
    ∃ s2, execPairHiWrite r addr w s = .next s2 ∧ Kept true s s2 := by
  exact ⟨_, rfl, Kept.busWrite (Kept.refl _ _) _ _ _ _⟩

theorem Kept.execPairLoRead (r : Requester) (addr : Nat) (s : State) :
    ∃ s2, execPairLoRead r addr s = .next s2 ∧ Kept true s s2 := by
  exact ⟨_, rfl, Kept.busRead (Kept.refl _ _) _ _ _⟩

theorem Kept.execPairHiRead (r : Requester) (addr : Nat) (s : State) :
    ∃ s2, execPairHiRead r addr s = .next s2 ∧ Kept true s s2 := by
  exact ⟨_, rfl, Kept.busRead (Kept.refl _ _) _ _ _⟩

theorem Kept.execReadClear (r : Requester) (addr : Nat) (size : Nat) (s : State) :
    ∃ s2, execReadClear r addr size s = .next s2 ∧ Kept true s s2 := by
  exact ⟨_, rfl, Kept.busRead (Kept.refl _ _) _ _ _⟩

theorem Kept.execReadPop (r : Requester) (addr : Nat) (s : State) :
    ∃ s2, execReadPop r addr s = .next s2 ∧ Kept true s s2 := by
  exact ⟨_, rfl, Kept.busRead (Kept.refl _ _) _ _ _⟩

theorem Kept.execCalendarActionDelivery (s : State) :
    ∃ s2, execCalendarActionDelivery s = .next s2 ∧ Kept true s s2 := by
  exact ⟨_, rfl, Kept.deliverFlights (Kept.refl _ _)⟩

theorem Kept.execPulseEnd (die : Fin 4) (direct : Bool) (n : Fin 256) (s : State) :
    ∃ s2, execPulseEnd die direct n s = .next s2 ∧ Kept true s s2 := by
  exact ⟨_, rfl, Kept.pulseEnd (Kept.refl _ _) _ _ _⟩

theorem Kept.execWindowClose (die : Fin 4) (pin : Fin 240) (s : State) :
    ∃ s2, execWindowClose die pin s = .next s2 ∧ Kept true s s2 := by
  have hk := Kept.refl true s
  exact ⟨_, rfl, by simp +contextual (maxDischargeDepth := 40) only [hk, Kept.mk', Kept.ite, Kept.ite1, Kept.windowFlush, Kept.windowUpTo]⟩

theorem Kept.execEntryWrite (r : Requester) (die : Fin 8) (entry : Fin 16448) (word : Fin 8) (w : BitVec 32) (s : State) :
    ∃ s2, execEntryWrite r die entry word w s = .next s2 ∧ Kept true s s2 := by
  exact ⟨_, rfl, Kept.busWrite (Kept.refl _ _) _ _ _ _⟩

theorem Kept.execEntryArm (r : Requester) (die : Fin 8) (entry : Fin 16448) (w : BitVec 32) (s : State) :
    ∃ s2, execEntryArm r die entry w s = .next s2 ∧ Kept true s s2 := by
  exact ⟨_, rfl, Kept.busWrite (Kept.refl _ _) _ _ _ _⟩

theorem Kept.execEntryRead (r : Requester) (die : Fin 8) (entry : Fin 16448) (s : State) :
    ∃ s2, execEntryRead r die entry s = .next s2 ∧ Kept true s s2 := by
  exact ⟨_, rfl, Kept.busRead (Kept.refl _ _) _ _ _⟩

theorem Kept.execStagedWrite (r : Requester) (die : Fin 4) (entry : Fin 16384) (s : State) :
    ∃ s2, execStagedWrite r die entry s = .next s2 ∧ Kept true s s2 := by
  exact ⟨_, rfl, Kept.regAccess (Kept.refl _ _) _ _ _⟩

theorem Kept.execStagedRead (r : Requester) (die : Fin 4) (entry : Fin 16384) (s : State) :
    ∃ s2, execStagedRead r die entry s = .next s2 ∧ Kept true s s2 := by
  exact ⟨_, rfl, Kept.regAccess (Kept.refl _ _) _ _ _⟩

theorem Kept.execGroupArm (r : Requester) (die : Fin 4) (grp : Fin 16) (timed : Bool) (s : State) :
    ∃ s2, execGroupArm r die grp timed s = .next s2 ∧ Kept true s s2 := by
  exact ⟨_, rfl, Kept.regAccess (Kept.refl _ _) _ _ _⟩

theorem Kept.execGroupDisarm (r : Requester) (die : Fin 4) (grp : Fin 16) (timed : Bool) (s : State) :
    ∃ s2, execGroupDisarm r die grp timed s = .next s2 ∧ Kept true s s2 := by
  exact ⟨_, rfl, Kept.regAccess (Kept.refl _ _) _ _ _⟩

theorem Kept.execGroupShift (r : Requester) (die : Fin 4) (grp : Fin 16) (timed : Bool) (s : State) :
    ∃ s2, execGroupShift r die grp timed s = .next s2 ∧ Kept true s s2 := by
  exact ⟨_, rfl, Kept.regAccess (Kept.refl _ _) _ _ _⟩

theorem Kept.execCalendarEnable (r : Requester) (die : Fin 4) (w : BitVec 32) (s : State) :
    ∃ s2, execCalendarEnable r die w s = .next s2 ∧ Kept true s s2 := by
  exact ⟨_, rfl, Kept.regAccess (Kept.refl _ _) _ _ _⟩

theorem Kept.execAmplitudeDetect (byp : Bool) (wait : Fin 8) (s : State) :
    ∃ s2, execAmplitudeDetect byp wait s = .next s2 ∧ Kept true s s2 := by
  exact ⟨_, rfl, Kept.amplitudeDetect (Kept.refl _ _) _ _⟩

theorem Kept.execPorRelease (x : Straps) (s : State) :
    ∃ s2, execPorRelease x s = .next s2 ∧ Kept true s s2 := by
  exact ⟨_, rfl, Kept.porRelease (Kept.refl _ _) _⟩

theorem Kept.execReferenceLoss (n : Fin 23) (s : State) :
    ∃ s2, execReferenceLoss n s = .next s2 ∧ Kept true s s2 := by
  have hk := Kept.refl true s
  exact ⟨_, rfl, by simp +contextual (maxDischargeDepth := 40) only [hk, Kept.mk', Kept.ite, Kept.ite1, Kept.referenceLoss]⟩

theorem Kept.execReferenceReturn (n : Fin 23) (us : Nat) (s : State) :
    ∃ s2, execReferenceReturn n us s = .next s2 ∧ Kept true s s2 := by
  exact ⟨_, rfl, Kept.referenceReturn (Kept.refl _ _) _ _⟩

theorem Kept.execPllRelock (us : Nat) (s : State) :
    ∃ s2, execPllRelock us s = .next s2 ∧ Kept true s s2 := by
  exact ⟨_, rfl, Kept.pllRelock (Kept.refl _ _) _⟩

theorem Kept.execHoldRelease (r : Requester) (s : State) :
    ∃ s2, execHoldRelease r s = .next s2 ∧ Kept true s s2 := by
  exact ⟨_, rfl, Kept.regAccess (Kept.refl _ _) _ _ _⟩

theorem Kept.execResumePin (level : Bool) (s : State) :
    ∃ s2, execResumePin level s = .next s2 ∧ Kept true s s2 := by
  exact ⟨_, rfl, Kept.resumePin (Kept.refl _ _) _⟩

theorem Kept.execFrequencyCheck (n : Fin 23) (s : State) :
    ∃ s2, execFrequencyCheck n s = .next s2 ∧ Kept true s s2 := by
  exact ⟨_, rfl, Kept.frequencyCheck (Kept.refl _ _) _⟩

theorem Kept.execFabricPllLoss (die : Fin 4) (n : Fin 8) (s : State) :
    ∃ s2, execFabricPllLoss die n s = .next s2 ∧ Kept true s s2 := by
  exact ⟨_, rfl, Kept.fpllLoss (Kept.refl _ _) _ _⟩

theorem Kept.execPor (s : State) :
    ∃ s2, execPor s = .next s2 ∧ Kept true s s2 := by
  exact ⟨_, rfl, Kept.porReset (Kept.refl _ _)⟩

theorem Kept.execDeviceReset (cause : Fin 16) (s : State) :
    ∃ s2, execDeviceReset cause s = .next s2 ∧ Kept true s s2 := by
  exact ⟨_, rfl, Kept.deviceReset (Kept.refl _ _) _⟩

theorem Kept.execDieReset (die : Fin 6) (s : State) :
    ∃ s2, execDieReset die s = .next s2 ∧ Kept true s s2 := by
  have hk := Kept.refl true s
  exact ⟨_, rfl, by simp +contextual (maxDischargeDepth := 40) only [hk, Kept.mk', Kept.ite, Kept.ite1, Kept.dieReset, Kept.lateMissing]⟩

theorem Kept.execRegionReset (r : Requester) (die : Fin 4) (mask : BitVec 16) (s : State) :
    ∃ s2, execRegionReset r die mask s = .next s2 ∧ Kept true s s2 := by
  exact ⟨_, rfl, Kept.regAccess (Kept.refl _ _) _ _ _⟩

theorem Kept.execRegionResetDone (die : Fin 4) (s : State) :
    ∃ s2, execRegionResetDone die s = .next s2 ∧ Kept true s s2 := by
  exact ⟨_, rfl, Kept.regionResetDone (Kept.refl _ _) _⟩

theorem Kept.execUnitReset (r : Requester) (die : Fin 6) (unit : Fin 32) (inst : Fin 4096) (s : State) :
    ∃ s2, execUnitReset r die unit inst s = .next s2 ∧ Kept true s s2 := by
  exact ⟨_, rfl, Kept.regAccess (Kept.refl _ _) _ _ _⟩

theorem Kept.execDieRelease (r : Requester) (mask : BitVec 4) (s : State) :
    ∃ s2, execDieRelease r mask s = .next s2 ∧ Kept true s s2 := by
  exact ⟨_, rfl, Kept.regAccess (Kept.refl _ _) _ _ _⟩

theorem Kept.execExtest (cells : List (Fin 960 × Bool × Bool)) (s : State) :
    ∃ s2, execExtest cells s = .next s2 ∧ Kept true s s2 := by
  exact ⟨_, rfl, Kept.boundaryScan (Kept.refl _ _) _ _⟩

theorem Kept.execIdcode (s : State) :
    ∃ s2, execIdcode s = .next s2 ∧ Kept true s s2 := by
  exact ⟨_, rfl, Kept.tapInstruction (Kept.refl _ _) _⟩

theorem Kept.execSamplePreload (cells : List (Fin 960 × Bool × Bool)) (s : State) :
    ∃ s2, execSamplePreload cells s = .next s2 ∧ Kept true s s2 := by
  exact ⟨_, rfl, Kept.boundaryScan (Kept.refl _ _) _ _⟩

theorem Kept.execClamp (s : State) :
    ∃ s2, execClamp s = .next s2 ∧ Kept true s s2 := by
  exact ⟨_, rfl, Kept.tapInstruction (Kept.refl _ _) _⟩

theorem Kept.execHighz (s : State) :
    ∃ s2, execHighz s = .next s2 ∧ Kept true s s2 := by
  exact ⟨_, rfl, Kept.tapInstruction (Kept.refl _ _) _⟩

theorem Kept.execExtestPulse (cells : List (Fin 960 × Bool × Bool)) (s : State) :
    ∃ s2, execExtestPulse cells s = .next s2 ∧ Kept true s s2 := by
  exact ⟨_, rfl, Kept.boundaryScan (Kept.refl _ _) _ _⟩

theorem Kept.execExtestTrain (cells : List (Fin 960 × Bool × Bool)) (s : State) :
    ∃ s2, execExtestTrain cells s = .next s2 ∧ Kept true s s2 := by
  exact ⟨_, rfl, Kept.boundaryScan (Kept.refl _ _) _ _⟩

theorem Kept.execDag (s : State) :
    ∃ s2, execDag s = .next s2 ∧ Kept true s s2 := by
  exact ⟨_, rfl, Kept.tapInstruction (Kept.refl _ _) _⟩

theorem Kept.execCfgData (s : State) :
    ∃ s2, execCfgData s = .next s2 ∧ Kept true s s2 := by
  exact ⟨_, rfl, Kept.tapInstruction (Kept.refl _ _) _⟩

theorem Kept.execBypass (s : State) :
    ∃ s2, execBypass s = .next s2 ∧ Kept true s s2 := by
  exact ⟨_, rfl, Kept.tapInstruction (Kept.refl _ _) _⟩

theorem Kept.execTapReset (s : State) :
    ∃ s2, execTapReset s = .next s2 ∧ Kept true s s2 := by
  exact ⟨_, rfl, Kept.tapReset (Kept.refl _ _)⟩

theorem Kept.execDagAccess (op : Fin 4) (addr : BitVec 48) (data : BitVec 32) (tag : BitVec 64) (s : State) :
    ∃ s2, execDagAccess op addr data tag s = .next s2 ∧ Kept true s s2 := by
  exact ⟨_, rfl, Kept.dagAccess (Kept.refl _ _) _ _ _ _⟩

theorem Kept.execPassword (scope : BitVec 8) (s : State) :
    ∃ s2, execPassword scope s = .next s2 ∧ Kept true s s2 := by
  exact ⟨_, rfl, Kept.regAccess (Kept.refl _ _) _ _ _⟩

theorem Kept.execChallenge (scope : BitVec 8) (s : State) :
    ∃ s2, execChallenge scope s = .next s2 ∧ Kept true s s2 := by
  exact ⟨_, rfl, Kept.regAccess (Kept.refl _ _) _ _ _⟩

theorem Kept.execResponse (scope : BitVec 8) (zfill : Bool) (late : Bool) (s : State) :
    ∃ s2, execResponse scope zfill late s = .next s2 ∧ Kept true s s2 := by
  exact ⟨_, rfl, Kept.responseCommand (Kept.refl _ _) _ _ _⟩

theorem Kept.execClose (s : State) :
    ∃ s2, execClose s = .next s2 ∧ Kept true s s2 := by
  exact ⟨_, rfl, Kept.regAccess (Kept.refl _ _) _ _ _⟩

theorem Kept.execChallengeExpiry (s : State) :
    ∃ s2, execChallengeExpiry s = .next s2 ∧ Kept true s s2 := by
  exact ⟨_, rfl, Kept.challengeExpiry (Kept.refl _ _)⟩

theorem Kept.execAuthDelayEnd (s : State) :
    ∃ s2, execAuthDelayEnd s = .next s2 ∧ Kept true s s2 := by
  exact ⟨_, rfl, Kept.authDelayEnd (Kept.refl _ _)⟩

theorem Kept.execCoreHaltRequest (r : Requester) (n : Fin 6) (s : State) :
    ∃ s2, execCoreHaltRequest r n s = .next s2 ∧ Kept true s s2 := by
  exact ⟨_, rfl, Kept.regAccess (Kept.refl _ _) _ _ _⟩

theorem Kept.execCoreHalt (n : Fin 6) (s : State) :
    ∃ s2, execCoreHalt n s = .next s2 ∧ Kept true s s2 := by
  exact ⟨_, rfl, Kept.acceptCoreHalt (Kept.refl _ _) _⟩

theorem Kept.execCoreResumeRequest (r : Requester) (n : Fin 6) (s : State) :
    ∃ s2, execCoreResumeRequest r n s = .next s2 ∧ Kept true s s2 := by
  exact ⟨_, rfl, Kept.regAccess (Kept.refl _ _) _ _ _⟩

theorem Kept.execEbreak (n : Fin 6) (pc : BitVec 64) (s : State) :
    ∃ s2, execEbreak n pc s = .next s2 ∧ Kept true s s2 := by
  exact ⟨_, rfl, Kept.ebreak (Kept.refl _ _) _ _⟩

theorem Kept.execAbstractAccess (r : Requester) (n : Fin 6) (w : BitVec 32) (s : State) :
    ∃ s2, execAbstractAccess r n w s = .next s2 ∧ Kept true s s2 := by
  exact ⟨_, rfl, Kept.regAccess (Kept.refl _ _) _ _ _⟩

theorem Kept.execFacetHalt (r : Requester) (s : State) :
    ∃ s2, execFacetHalt r s = .next s2 ∧ Kept true s s2 := by
  exact ⟨_, rfl, Kept.regAccess (Kept.refl _ _) _ _ _⟩

theorem Kept.execFacetResume (r : Requester) (s : State) :
    ∃ s2, execFacetResume r s = .next s2 ∧ Kept true s s2 := by
  exact ⟨_, rfl, Kept.regAccess (Kept.refl _ _) _ _ _⟩

theorem Kept.execFacetStep (r : Requester) (s : State) :
    ∃ s2, execFacetStep r s = .next s2 ∧ Kept true s s2 := by
  exact ⟨_, rfl, Kept.regAccess (Kept.refl _ _) _ _ _⟩

theorem Kept.execFacetRegisterAccess (r : Requester) (w : BitVec 32) (s : State) :
    ∃ s2, execFacetRegisterAccess r w s = .next s2 ∧ Kept true s s2 := by
  exact ⟨_, rfl, Kept.regAccess (Kept.refl _ _) _ _ _⟩

theorem Kept.execWatchdogKick (r : Requester) (n : Fin 6) (s : State) :
    ∃ s2, execWatchdogKick r n s = .next s2 ∧ Kept true s s2 := by
  exact ⟨_, rfl, Kept.regAccess (Kept.refl _ _) _ _ _⟩

theorem Kept.execWatchdogExpiry (n : Fin 6) (s : State) :
    ∃ s2, execWatchdogExpiry n s = .next s2 ∧ Kept true s s2 := by
  exact ⟨_, rfl, Kept.wdtExpiry (Kept.refl _ _) _⟩

theorem Kept.execDebugLineEdge (n : Fin 16) (s : State) :
    ∃ s2, execDebugLineEdge n s = .next s2 ∧ Kept true s s2 := by
  exact ⟨_, rfl, Kept.debugLineEdge (Kept.refl _ _) _⟩

theorem Kept.execTerminalTxPush (r : Requester) (b : BitVec 8) (s : State) :
    ∃ s2, execTerminalTxPush r b s = .next s2 ∧ Kept true s s2 := by
  exact ⟨_, rfl, Kept.regAccess (Kept.refl _ _) _ _ _⟩

theorem Kept.execTerminalTxPop (s : State) :
    ∃ s2, execTerminalTxPop s = .next s2 ∧ Kept true s s2 := by
  exact ⟨_, rfl, Kept.regAccess (Kept.refl _ _) _ _ _⟩

theorem Kept.execTerminalRxPush (b : BitVec 8) (s : State) :
    ∃ s2, execTerminalRxPush b s = .next s2 ∧ Kept true s s2 := by
  exact ⟨_, rfl, Kept.regAccess (Kept.refl _ _) _ _ _⟩

theorem Kept.execTerminalRxPop (r : Requester) (s : State) :
    ∃ s2, execTerminalRxPop r s = .next s2 ∧ Kept true s s2 := by
  exact ⟨_, rfl, Kept.regFetch (Kept.refl _ _) _ _⟩

theorem Kept.execRecordArrival (picks : List Nat) (s : State) :
    ∃ s2, execRecordArrival picks s = .next s2 ∧ Kept true s s2 := by
  exact ⟨_, rfl, Kept.recordsArrive (Kept.refl _ _) _⟩

theorem Kept.execRecordStore (sev7 : Bool) (s : State) :
    ∃ s2, execRecordStore sev7 s = .next s2 ∧ Kept true s s2 := by
  exact ⟨_, rfl, Kept.recordStore (Kept.refl _ _) _⟩

theorem Kept.execRecorderFreeze (r : Requester) (s : State) :
    ∃ s2, execRecorderFreeze r s = .next s2 ∧ Kept true s s2 := by
  exact ⟨_, rfl, Kept.regAccess (Kept.refl _ _) _ _ _⟩

theorem Kept.execRecorderUnfreeze (r : Requester) (s : State) :
    ∃ s2, execRecorderUnfreeze r s = .next s2 ∧ Kept true s s2 := by
  exact ⟨_, rfl, Kept.regAccess (Kept.refl _ _) _ _ _⟩

theorem Kept.execRecorderClear (r : Requester) (s : State) :
    ∃ s2, execRecorderClear r s = .next s2 ∧ Kept true s s2 := by
  exact ⟨_, rfl, Kept.regAccess (Kept.refl _ _) _ _ _⟩

theorem Kept.execFreezeLimitExpiry (s : State) :
    ∃ s2, execFreezeLimitExpiry s = .next s2 ∧ Kept true s s2 := by
  exact ⟨_, rfl, Kept.freezeLimit (Kept.refl _ _)⟩

theorem Kept.execCapabilityDescriptor (die : Fin 6) (m : Fin 15) (d : List (BitVec 8)) (s : State) :
    ∃ s2, execCapabilityDescriptor die m d s = .next s2 ∧ Kept true s s2 := by
  have hk := Kept.refl true s
  exact ⟨_, rfl, by simp +contextual (maxDischargeDepth := 40) only [hk, Kept.mk', Kept.ite, Kept.ite1, Kept.capability, Kept.cdCutOff, Kept.lateMissing]⟩

theorem Kept.execModuleUp (m : Fin 15) (late : Bool) (s : State) :
    ∃ s2, execModuleUp m late s = .next s2 ∧ Kept true s s2 := by
  have hk := Kept.refl true s
  exact ⟨_, rfl, by simp +contextual (maxDischargeDepth := 40) only [hk, Kept.mk', Kept.ite, Kept.ite1, Kept.cdReturns, Kept.moduleUp]⟩

theorem Kept.execTrainingTimeout (m : Fin 15) (s : State) :
    ∃ s2, execTrainingTimeout m s = .next s2 ∧ Kept true s s2 := by
  have hk := Kept.refl true s
  exact ⟨_, rfl, by simp +contextual (maxDischargeDepth := 40) only [hk, Kept.mk', Kept.ite, Kept.ite1, Kept.cdCutOff, Kept.lateMissing, Kept.trainingTimeout]⟩

theorem Kept.execModuleRetrain (r : Requester) (die : Fin 6) (m : Fin 15) (w : BitVec 32) (s : State) :
    ∃ s2, execModuleRetrain r die m w s = .next s2 ∧ Kept true s s2 := by
  exact ⟨_, rfl, Kept.regAccess (Kept.refl _ _) _ _ _⟩

theorem Kept.execModuleDownLost (m : Fin 15) (s : State) :
    ∃ s2, execModuleDownLost m s = .next s2 ∧ Kept true s s2 := by
  have hk := Kept.refl true s
  exact ⟨_, rfl, by simp +contextual (maxDischargeDepth := 40) only [hk, Kept.mk', Kept.ite, Kept.ite1, Kept.cdCutOff, Kept.lateMissing, Kept.moduleLost]⟩

theorem Kept.execDieLoss (die : Fin 4) (s : State) :
    ∃ s2, execDieLoss die s = .next s2 ∧ Kept true s s2 := by
  have hk := Kept.refl true s
  exact ⟨_, rfl, by simp +contextual (maxDischargeDepth := 40) only [hk, Kept.mk', Kept.ite, Kept.ite1, Kept.lateMissing, Kept.loseDie]⟩

theorem Kept.execFailoverSwitch (s : State) :
    ∃ s2, execFailoverSwitch s = .next s2 ∧ Kept true s s2 := by
  exact ⟨_, rfl, Kept.failoverSwitch (Kept.refl _ _)⟩

theorem Kept.execDieRejoin (die : Fin 4) (s : State) :
    ∃ s2, execDieRejoin die s = .next s2 ∧ Kept true s s2 := by
  exact ⟨_, rfl, Kept.dieRejoin (Kept.refl _ _) _⟩

theorem Kept.execDieReady (die : Fin 4) (s : State) :
    ∃ s2, execDieReady die s = .next s2 ∧ Kept true s s2 := by
  exact ⟨_, rfl, Kept.dieReady (Kept.refl _ _) _⟩

theorem Kept.execCdReset (s : State) :
    ∃ s2, execCdReset s = .next s2 ∧ Kept true s s2 := by
  have hk := Kept.refl true s
  exact ⟨_, rfl, by simp +contextual (maxDischargeDepth := 40) only [hk, Kept.mk', Kept.ite, Kept.ite1, Kept.cdReset, Kept.lateMissing]⟩

theorem Kept.execLockstepDisagreement (pair : Fin 2) (s : State) :
    ∃ s2, execLockstepDisagreement pair s = .next s2 ∧ Kept true s s2 := by
  exact ⟨_, rfl, Kept.lockstepFault (Kept.refl _ _) _⟩

theorem Kept.execCoreStart (r : Requester) (w : BitVec 32) (s : State) :
    ∃ s2, execCoreStart r w s = .next s2 ∧ Kept true s s2 := by
  exact ⟨_, rfl, Kept.regAccess (Kept.refl _ _) _ _ _⟩

theorem Kept.execMbxPush (r : Requester) (n : Fin 32) (msg : BitVec 32) (s : State) :
    ∃ s2, execMbxPush r n msg s = .next s2 ∧ Kept true s s2 := by
  exact ⟨_, rfl, Kept.regAccess (Kept.refl _ _) _ _ _⟩

theorem Kept.execMbxPop (r : Requester) (n : Fin 32) (s : State) :
    ∃ s2, execMbxPop r n s = .next s2 ∧ Kept true s s2 := by
  exact ⟨_, rfl, Kept.regFetch (Kept.refl _ _) _ _⟩

theorem Kept.execMailboxDisable (r : Requester) (n : Fin 32) (w : BitVec 32) (s : State) :
    ∃ s2, execMailboxDisable r n w s = .next s2 ∧ Kept true s s2 := by
  exact ⟨_, rfl, Kept.regAccess (Kept.refl _ _) _ _ _⟩

theorem Kept.execUserModeEntry (us : Nat) (s : State) :
    ∃ s2, execUserModeEntry us s = .next s2 ∧ Kept false s s2 := by
  exact ⟨_, rfl, Kept.userModeEntry (Kept.refl _ _) _⟩

theorem Kept.execBrownout (s : State) :
    ∃ s2, execBrownout s = .next s2 ∧ Kept true s s2 := by
  exact ⟨_, rfl, Kept.brownout (Kept.refl _ _)⟩

theorem Kept.execVccioArrival (die : Fin 4) (bank : Fin 10) (mv : Nat) (s : State) :
    ∃ s2, execVccioArrival die bank mv s = .next s2 ∧ Kept true s s2 := by
  exact ⟨_, rfl, Kept.vccioArrival (Kept.refl _ _) _ _ _⟩

theorem Kept.execVccioLoss (die : Fin 4) (bank : Fin 10) (s : State) :
    ∃ s2, execVccioLoss die bank s = .next s2 ∧ Kept true s s2 := by
  exact ⟨_, rfl, Kept.vccioLoss (Kept.refl _ _) _ _⟩

theorem Kept.execSpinePllLock (s : State) :
    ∃ s2, execSpinePllLock s = .next s2 ∧ Kept true s s2 := by
  exact ⟨_, rfl, Kept.spineLock (Kept.refl _ _)⟩

theorem Kept.execQuadPllLock (die : Fin 4) (q : Fin 4) (b : Bool) (s : State) :
    ∃ s2, execQuadPllLock die q b s = .next s2 ∧ Kept true s s2 := by
  exact ⟨_, rfl, Kept.pllLock (Kept.refl _ _) _ _ _⟩

theorem Kept.execFabricPllLock (die : Fin 4) (n : Fin 8) (s : State) :
    ∃ s2, execFabricPllLock die n s = .next s2 ∧ Kept true s s2 := by
  exact ⟨_, rfl, Kept.fpllLock (Kept.refl _ _) _ _⟩

theorem Kept.execBlockLock (die : Fin 4) (l : Fin 16) (s : State) :
    ∃ s2, execBlockLock die l s = .next s2 ∧ Kept true s s2 := by
  exact ⟨_, rfl, Kept.blockLock (Kept.refl _ _) _ _ _⟩

theorem Kept.execLocalReferenceLoss (n : Fin 23) (s : State) :
    ∃ s2, execLocalReferenceLoss n s = .next s2 ∧ Kept true s s2 := by
  have hk := Kept.refl true s
  exact ⟨_, rfl, by simp +contextual (maxDischargeDepth := 40) only [hk, Kept.mk', Kept.ite, Kept.ite1, Kept.referenceLoss]⟩

theorem Kept.execFabricBypassOutput (die : Fin 4) (line : Fin 128) (level : Bool) (s : State) :
    ∃ s2, execFabricBypassOutput die line level s = .next s2 ∧ Kept true s s2 := by
  exact ⟨_, rfl, Kept.bypassOutput (Kept.refl _ _) _ _ _⟩

theorem Kept.execInitialValueRestore (r : Requester) (die : Fin 4) (mask : BitVec 16) (s : State) :
    ∃ s2, execInitialValueRestore r die mask s = .next s2 ∧ Kept true s s2 := by
  exact ⟨_, rfl, Kept.regAccess (Kept.refl _ _) _ _ _⟩

theorem Kept.execRestoreComplete (die : Fin 4) (s : State) :
    ∃ s2, execRestoreComplete die s = .next s2 ∧ Kept true s s2 := by
  exact ⟨_, rfl, Kept.restoreDone (Kept.refl _ _) _⟩

theorem Kept.execCrossingFifoWrite (die : Fin 4) (rg : Fin 16) (m : Fin 288) (width : Nat) (data : Nat) (crossed : Nat) (s : State) :
    ∃ s2, execCrossingFifoWrite die rg m width data crossed s = .next s2 ∧ Kept true s s2 := by
  exact ⟨_, rfl, Kept.fifoWrite (Kept.refl _ _) _ _ _ _⟩

theorem Kept.execCrossingFifoRead (die : Fin 4) (rg : Fin 16) (m : Fin 288) (crossed : Nat) (s : State) :
    ∃ s2, execCrossingFifoRead die rg m crossed s = .next s2 ∧ Kept true s s2 := by
  exact ⟨_, rfl, Kept.fifoRead (Kept.refl _ _) _ _⟩

theorem Kept.execCrossingFifoReset (die : Fin 4) (rg : Fin 16) (m : Fin 288) (e : FifoReset) (s : State) :
    ∃ s2, execCrossingFifoReset die rg m e s = .next s2 ∧ Kept true s s2 := by
  exact ⟨_, rfl, Kept.fifoReset (Kept.refl _ _) _ _⟩

theorem Kept.execBlockMemoryAccess (die : Fin 4) (rg : Fin 16) (m : Fin 288) (ecc : Bool) (same : Bool) (a : Option PortAccess) (b : Option PortAccess) (s : State) :
    ∃ s2, execBlockMemoryAccess die rg m ecc same a b s = .next s2 ∧ Kept true s s2 := by
  have hk := Kept.refl true s
  exact ⟨_, rfl, by simp +contextual (maxDischargeDepth := 40) only [hk, Kept.mk', Kept.ite, Kept.ite1, Kept.memoryAccess]⟩

theorem Kept.execMacOperation (die : Fin 4) (rg : Fin 16) (slice : Fin 192) (o : MacOp) (s : State) :
    ∃ s2, execMacOperation die rg slice o s = .next s2 ∧ Kept true s s2 := by
  exact ⟨_, rfl, Kept.macOperation (Kept.refl _ _) _ _ _ _⟩

theorem Kept.execLoupeGo (r : Requester) (die : Fin 4) (prof : Fin 16) (s : State) :
    ∃ s2, execLoupeGo r die prof s = .next s2 ∧ Kept true s s2 := by
  exact ⟨_, rfl, Kept.regAccess (Kept.refl _ _) _ _ _⟩

theorem Kept.execLoupeCaptureEdge (die : Fin 4) (k : Nat) (late : Bool) (s : State) :
    ∃ s2, execLoupeCaptureEdge die k late s = .next s2 ∧ Kept true s s2 := by
  exact ⟨_, rfl, Kept.captureEdge (Kept.refl _ _) _ _ _⟩

theorem Kept.execLoupeCaptureTimeout (die : Fin 4) (s : State) :
    ∃ s2, execLoupeCaptureTimeout die s = .next s2 ∧ Kept true s s2 := by
  exact ⟨_, rfl, Kept.captureTimeout (Kept.refl _ _) _⟩

theorem Kept.execLoupeRelease (r : Requester) (die : Fin 4) (s : State) :
    ∃ s2, execLoupeRelease r die s = .next s2 ∧ Kept true s s2 := by
  exact ⟨_, rfl, Kept.regAccess (Kept.refl _ _) _ _ _⟩

theorem Kept.execLoupeQueueReadout (r : Requester) (die : Fin 4) (s : State) :
    ∃ s2, execLoupeQueueReadout r die s = .next s2 ∧ Kept true s s2 := by
  exact ⟨_, rfl, Kept.regAccess (Kept.refl _ _) _ _ _⟩

theorem Kept.execReadoutComplete (die : Fin 4) (s : State) :
    ∃ s2, execReadoutComplete die s = .next s2 ∧ Kept true s s2 := by
  exact ⟨_, rfl, Kept.readoutDone (Kept.refl _ _) _⟩

theorem Kept.execTaskRequest (die : Fin 4) (rg : Fin 16) (task : Fin 64) (param : BitVec 16) (s : State) :
    ∃ s2, execTaskRequest die rg task param s = .next s2 ∧ Kept true s s2 := by
  exact ⟨_, rfl, Kept.requestTask (Kept.refl _ _) _ _ _ _ _ _⟩

theorem Kept.execFdspReq (r : Requester) (die : Fin 4) (rg : Fin 16) (w : BitVec 32) (s : State) :
    ∃ s2, execFdspReq r die rg w s = .next s2 ∧ Kept true s s2 := by
  exact ⟨_, rfl, Kept.regAccess (Kept.refl _ _) _ _ _⟩

theorem Kept.execDispatchAssign (die : Fin 4) (rg : Fin 16) (s : State) :
    ∃ s2, execDispatchAssign die rg s = .next s2 ∧ Kept true s s2 := by
  exact ⟨_, rfl, Kept.assign (Kept.refl _ _) _ _ _⟩

theorem Kept.execDeadlineExpiry (die : Fin 4) (rg : Fin 16) (waiting : Bool) (n : Nat) (s : State) :
    ∃ s2, execDeadlineExpiry die rg waiting n s = .next s2 ∧ Kept true s s2 := by
  exact ⟨_, rfl, Kept.deadlineExpiry (Kept.refl _ _) _ _ _ _⟩

theorem Kept.execUrgentAccept (die : Fin 4) (p : Fin 272) (s : State) :
    ∃ s2, execUrgentAccept die p s = .next s2 ∧ Kept true s s2 := by
  exact ⟨_, rfl, Kept.acceptUrgent (Kept.refl _ _) _ _⟩

theorem Kept.execFacetHaltAccept (die : Fin 4) (p : Fin 272) (s : State) :
    ∃ s2, execFacetHaltAccept die p s = .next s2 ∧ Kept true s s2 := by
  exact ⟨_, rfl, Kept.acceptHalt (Kept.refl _ _) _ _⟩

theorem Kept.execTaskWatchdogExpiry (die : Fin 4) (p : Fin 272) (s : State) :
    ∃ s2, execTaskWatchdogExpiry die p s = .next s2 ∧ Kept true s s2 := by
  exact ⟨_, rfl, Kept.taskWatchdog (Kept.refl _ _) _ _⟩

theorem Kept.execFacetAbort (r : Requester) (die : Fin 4) (p : Fin 272) (s : State) :
    ∃ s2, execFacetAbort r die p s = .next s2 ∧ Kept true s s2 := by
  exact ⟨_, rfl, Kept.regAccess (Kept.refl _ _) _ _ _⟩

theorem Kept.execFacetReset (r : Requester) (die : Fin 4) (p : Fin 272) (s : State) :
    ∃ s2, execFacetReset r die p s = .next s2 ∧ Kept true s s2 := by
  exact ⟨_, rfl, Kept.regAccess (Kept.refl _ _) _ _ _⟩

theorem Kept.execFacetUrgent (r : Requester) (die : Fin 4) (p : Fin 272) (code : BitVec 16) (s : State) :
    ∃ s2, execFacetUrgent r die p code s = .next s2 ∧ Kept true s s2 := by
  exact ⟨_, rfl, Kept.regAccess (Kept.refl _ _) _ _ _⟩

theorem Kept.execFacetEnable (r : Requester) (die : Fin 4) (p : Fin 272) (w : BitVec 32) (s : State) :
    ∃ s2, execFacetEnable r die p w s = .next s2 ∧ Kept true s s2 := by
  exact ⟨_, rfl, Kept.regAccess (Kept.refl _ _) _ _ _⟩

theorem Kept.execFdspRemap (r : Requester) (die : Fin 4) (rg : Fin 16) (w : BitVec 32) (s : State) :
    ∃ s2, execFdspRemap r die rg w s = .next s2 ∧ Kept true s s2 := by
  exact ⟨_, rfl, Kept.regAccess (Kept.refl _ _) _ _ _⟩

theorem Kept.execRemapComplete (die : Fin 4) (rg : Fin 16) (s : State) :
    ∃ s2, execRemapComplete die rg s = .next s2 ∧ Kept true s s2 := by
  exact ⟨_, rfl, Kept.remapDone (Kept.refl _ _) _ _⟩

theorem Kept.execViewBankAccess (r : Requester) (die : Fin 4) (p : Fin 272) (bankB : Bool) (n : Fin 8192) (w : Option (BitVec 32)) (s : State) :
    ∃ s2, execViewBankAccess r die p bankB n w s = .next s2 ∧ Kept true s s2 := by
  exact ⟨_, rfl, Kept.viewAccess (Kept.refl _ _) _ _ _⟩

theorem Kept.execProgramBundleWrite (r : Requester) (die : Fin 4) (p : Fin 272) (n : Fin 8192) (w : BitVec 32) (s : State) :
    ∃ s2, execProgramBundleWrite r die p n w s = .next s2 ∧ Kept true s s2 := by
  exact ⟨_, rfl, Kept.viewAccess (Kept.refl _ _) _ _ _⟩

theorem Kept.execStreamInPush (die : Fin 4) (rg : Fin 16) (l : Fin 16) (port : Fin 2) (v : BitVec 24) (s : State) :
    ∃ s2, execStreamInPush die rg l port v s = .next s2 ∧ Kept true s s2 := by
  exact ⟨_, rfl, Kept.streamIn (Kept.refl _ _) _ _ _ _ _⟩

theorem Kept.execStreamOutPop (die : Fin 4) (rg : Fin 16) (l : Fin 16) (port : Fin 2) (s : State) :
    ∃ s2, execStreamOutPop die rg l port s = .next s2 ∧ Kept true s s2 := by
  exact ⟨_, rfl, Kept.streamOut (Kept.refl _ _) _ _ _ _⟩

theorem Kept.execRegionLoad (r : Requester) (die : Fin 4) (rg : Fin 16) (userPort : Bool) (s : State) :
    ∃ s2, execRegionLoad r die rg userPort s = .next s2 ∧ Kept true s s2 := by
  exact ⟨_, rfl, Kept.regAccess (Kept.refl _ _) _ _ _⟩

theorem Kept.execLoadComplete (die : Fin 4) (rg : Fin 16) (e : LoadEnd) (s : State) :
    ∃ s2, execLoadComplete die rg e s = .next s2 ∧ Kept true s s2 := by
  exact ⟨_, rfl, Kept.loadComplete (Kept.refl _ _) _ _ _⟩

theorem Kept.execUserPortTimeout (die : Fin 4) (arrived : Bool) (s : State) :
    ∃ s2, execUserPortTimeout die arrived s = .next s2 ∧ Kept true s s2 := by
  exact ⟨_, rfl, Kept.userPortTimeout (Kept.refl _ _) _ _⟩

theorem Kept.execRegionRelease (r : Requester) (die : Fin 4) (rg : Fin 16) (timed : Bool) (s : State) :
    ∃ s2, execRegionRelease r die rg timed s = .next s2 ∧ Kept true s s2 := by
  exact ⟨_, rfl, Kept.regAccess (Kept.refl _ _) _ _ _⟩

theorem Kept.execRegionOffline (r : Requester) (die : Fin 4) (rg : Fin 16) (timed : Bool) (s : State) :
    ∃ s2, execRegionOffline r die rg timed s = .next s2 ∧ Kept true s s2 := by
  exact ⟨_, rfl, Kept.regAccess (Kept.refl _ _) _ _ _⟩

theorem Kept.execRegionSelftest (r : Requester) (die : Fin 4) (rg : Fin 16) (s : State) :
    ∃ s2, execRegionSelftest r die rg s = .next s2 ∧ Kept true s s2 := by
  exact ⟨_, rfl, Kept.regAccess (Kept.refl _ _) _ _ _⟩

theorem Kept.execRegionAbort (r : Requester) (die : Fin 4) (rg : Fin 16) (s : State) :
    ∃ s2, execRegionAbort r die rg s = .next s2 ∧ Kept true s s2 := by
  exact ⟨_, rfl, Kept.regAccess (Kept.refl _ _) _ _ _⟩

theorem Kept.execTimedCommandDue (die : Fin 4) (rg : Fin 16) (s : State) :
    ∃ s2, execTimedCommandDue die rg s = .next s2 ∧ Kept true s s2 := by
  have hk := Kept.refl true s
  exact ⟨_, rfl, by simp +contextual (maxDischargeDepth := 40) only [hk, Kept.mk', Kept.ite, Kept.ite1, Kept.applyRegion]⟩

theorem Kept.execSelftestResult (die : Fin 4) (rg : Fin 16) (sig : Nat) (us : Nat) (pass : Bool) (s : State) :
    ∃ s2, execSelftestResult die rg sig us pass s = .next s2 ∧ Kept true s s2 := by
  exact ⟨_, rfl, Kept.selftestResult (Kept.refl _ _) _ _ _ _ _⟩

theorem Kept.execSelftestTimeout (die : Fin 4) (rg : Fin 16) (s : State) :
    ∃ s2, execSelftestTimeout die rg s = .next s2 ∧ Kept true s s2 := by
  exact ⟨_, rfl, Kept.selftestTimeout (Kept.refl _ _) _ _⟩

theorem Kept.execFacetTest (r : Requester) (die : Fin 4) (p : Fin 512) (s : State) :
    ∃ s2, execFacetTest r die p s = .next s2 ∧ Kept true s s2 := by
  exact ⟨_, rfl, Kept.regAccess (Kept.refl _ _) _ _ _⟩

theorem Kept.execFacetTestDone (die : Fin 4) (pass : Bool) (s : State) :
    ∃ s2, execFacetTestDone die pass s = .next s2 ∧ Kept true s s2 := by
  exact ⟨_, rfl, Kept.facetTestDone (Kept.refl _ _) _ _⟩

theorem Kept.execScrubPassStart (die : Fin 4) (n : Fin 2) (s : State) :
    ∃ s2, execScrubPassStart die n s = .next s2 ∧ Kept true s s2 := by
  exact ⟨_, rfl, Kept.scrubStart (Kept.refl _ _) _ _⟩

theorem Kept.execFrameScrub (die : Fin 4) (n : Fin 2) (err : Nat) (bad : List Nat) (s : State) :
    ∃ s2, execFrameScrub die n err bad s = .next s2 ∧ Kept true s s2 := by
  exact ⟨_, rfl, Kept.frameScrub (Kept.refl _ _) _ _ _ _⟩

theorem Kept.execCriticalScrub (die : Fin 4) (n : Fin 2) (rewritten : Bool) (s : State) :
    ∃ s2, execCriticalScrub die n rewritten s = .next s2 ∧ Kept true s s2 := by
  exact ⟨_, rfl, Kept.criticalScrub (Kept.refl _ _) _ _ _⟩

theorem Kept.execScrubberAudit (die : Fin 4) (n : Fin 2) (holders : List (BitVec 32)) (s : State) :
    ∃ s2, execScrubberAudit die n holders s = .next s2 ∧ Kept true s s2 := by
  exact ⟨_, rfl, Kept.auditScrubber (Kept.refl _ _) _ _ _⟩

theorem Kept.execFrameRepair (die : Fin 4) (n : Fin 2) (poison : Bool) (s : State) :
    ∃ s2, execFrameRepair die n poison s = .next s2 ∧ Kept true s s2 := by
  exact ⟨_, rfl, Kept.frameRepair (Kept.refl _ _) _ _ _⟩

theorem Kept.execRegionRepair (die : Fin 4) (n : Fin 2) (crc : Nat) (poison : Bool) (s : State) :
    ∃ s2, execRegionRepair die n crc poison s = .next s2 ∧ Kept true s s2 := by
  exact ⟨_, rfl, Kept.regionRepair (Kept.refl _ _) _ _ _ _⟩

theorem Kept.execScrubberRestart (r : Requester) (die : Fin 4) (n : Fin 2) (w : BitVec 32) (s : State) :
    ∃ s2, execScrubberRestart r die n w s = .next s2 ∧ Kept true s s2 := by
  exact ⟨_, rfl, Kept.regAccess (Kept.refl _ _) _ _ _⟩

theorem Kept.execCdBankConfirm (r : Requester) (w : BitVec 32) (s : State) :
    ∃ s2, execCdBankConfirm r w s = .next s2 ∧ Kept true s s2 := by
  exact ⟨_, rfl, Kept.regAccess (Kept.refl _ _) _ _ _⟩

theorem Kept.execTrialTimeout (s : State) :
    ∃ s2, execTrialTimeout s = .next s2 ∧ Kept true s s2 := by
  exact ⟨_, rfl, Kept.trialTimeout (Kept.refl _ _)⟩

theorem Kept.execMemoryRead (addr : Nat) (bank : Nat) (row : Nat) (out : Fin 3) (s : State) :
    ∃ s2, execMemoryRead addr bank row out s = .next s2 ∧ Kept true s s2 := by
  exact ⟨_, rfl, Kept.memoryRead (Kept.refl _ _) _ _ _ _⟩

theorem Kept.execMemoryWrite (addr : Nat) (bank : Nat) (row : Nat) (prio : Nat) (s : State) :
    ∃ s2, execMemoryWrite addr bank row prio s = .next s2 ∧ Kept true s s2 := by
  exact ⟨_, rfl, Kept.memoryWrite (Kept.refl _ _) _ _ _ _⟩

theorem Kept.execRefresh (c : Fin 4) (s : State) :
    ∃ s2, execRefresh c s = .next s2 ∧ Kept true s s2 := by
  exact ⟨_, rfl, Kept.refresh (Kept.refl _ _) _⟩

theorem Kept.execMr4Poll (c : Fin 4) (hot : Bool) (s : State) :
    ∃ s2, execMr4Poll c hot s = .next s2 ∧ Kept true s s2 := by
  exact ⟨_, rfl, Kept.setBit (Kept.refl _ _) _ _ _⟩

theorem Kept.execActivationTableClear (c : Fin 4) (s : State) :
    ∃ s2, execActivationTableClear c s = .next s2 ∧ Kept true s s2 := by
  exact ⟨_, rfl, Kept.setChan (Kept.refl _ _) _ _⟩

theorem Kept.execChannelTraining (c : Fin 4) (s : State) :
    ∃ s2, execChannelTraining c s = .next s2 ∧ Kept true s s2 := by
  have hk := Kept.refl true s
  exact ⟨_, rfl, by simp +contextual (maxDischargeDepth := 40) only [hk, Kept.mk', Kept.ite, Kept.ite1, Kept.beginTraining]⟩

theorem Kept.execChannelTrainingComplete (c : Fin 4) (eyes : List (BitVec 32)) (rfmThr : Nat) (s : State) :
    ∃ s2, execChannelTrainingComplete c eyes rfmThr s = .next s2 ∧ Kept true s s2 := by
  exact ⟨_, rfl, Kept.endTraining (Kept.refl _ _) _ _ _⟩

theorem Kept.execChannelInit (r : Requester) (c : Fin 4) (w : BitVec 32) (s : State) :
    ∃ s2, execChannelInit r c w s = .next s2 ∧ Kept true s s2 := by
  exact ⟨_, rfl, Kept.regAccess (Kept.refl _ _) _ _ _⟩

theorem Kept.execDdrRetrain (r : Requester) (c : Fin 4) (w : BitVec 32) (s : State) :
    ∃ s2, execDdrRetrain r c w s = .next s2 ∧ Kept true s s2 := by
  exact ⟨_, rfl, Kept.regAccess (Kept.refl _ _) _ _ _⟩

theorem Kept.execRetrainSlot (c : Fin 4) (eyes : List (BitVec 32)) (s : State) :
    ∃ s2, execRetrainSlot c eyes s = .next s2 ∧ Kept true s s2 := by
  exact ⟨_, rfl, Kept.retrainSlot (Kept.refl _ _) _ _⟩

theorem Kept.execRetrainAbort (r : Requester) (c : Fin 4) (w : BitVec 32) (s : State) :
    ∃ s2, execRetrainAbort r c w s = .next s2 ∧ Kept true s s2 := by
  exact ⟨_, rfl, Kept.regAccess (Kept.refl _ _) _ _ _⟩

theorem Kept.execMemoryTestWrite (r : Requester) (c : Fin 4) (pat : Fin 4) (kid : Fin 64) (s : State) :
    ∃ s2, execMemoryTestWrite r c pat kid s = .next s2 ∧ Kept true s s2 := by
  exact ⟨_, rfl, Kept.regAccess (Kept.refl _ _) _ _ _⟩

theorem Kept.execMemoryTestCheck (r : Requester) (c : Fin 4) (pat : Fin 4) (kid : Fin 64) (s : State) :
    ∃ s2, execMemoryTestCheck r c pat kid s = .next s2 ∧ Kept true s s2 := by
  exact ⟨_, rfl, Kept.regAccess (Kept.refl _ _) _ _ _⟩

theorem Kept.execMemoryTestWriteCheck (r : Requester) (c : Fin 4) (pat : Fin 4) (kid : Fin 64) (s : State) :
    ∃ s2, execMemoryTestWriteCheck r c pat kid s = .next s2 ∧ Kept true s s2 := by
  exact ⟨_, rfl, Kept.regAccess (Kept.refl _ _) _ _ _⟩

theorem Kept.execMemoryTestComplete (c : Fin 4) (s : State) :
    ∃ s2, execMemoryTestComplete c s = .next s2 ∧ Kept true s s2 := by
  exact ⟨_, rfl, Kept.testDone (Kept.refl _ _) _⟩

theorem Kept.execCxlLinkUp (p : Fin 2) (linkB : Bool) (rate : Fin 8) (width : Fin 32) (cxl : Bool) (s : State) :
    ∃ s2, execCxlLinkUp p linkB rate width cxl s = .next s2 ∧ Kept true s s2 := by
  exact ⟨_, rfl, Kept.linkTrained (Kept.refl _ _) _ _ _ _ _⟩

theorem Kept.execCxlLinkDown (p : Fin 2) (linkB : Bool) (next : Fin 2) (s : State) :
    ∃ s2, execCxlLinkDown p linkB next s = .next s2 ∧ Kept true s s2 := by
  exact ⟨_, rfl, Kept.cxlLinkLost (Kept.refl _ _) _ _ _⟩

theorem Kept.execLinkHotReset (r : Requester) (p : Fin 2) (linkB : Bool) (w : BitVec 32) (s : State) :
    ∃ s2, execLinkHotReset r p linkB w s = .next s2 ∧ Kept true s s2 := by
  exact ⟨_, rfl, Kept.regAccess (Kept.refl _ _) _ _ _⟩

theorem Kept.execConfigRequest (r : Requester) (p : Fin 2) (w : Option (BitVec 32)) (s : State) :
    ∃ s2, execConfigRequest r p w s = .next s2 ∧ Kept true s s2 := by
  have hk := Kept.refl true s
  exact ⟨_, rfl, by simp +contextual (maxDischargeDepth := 40) only [hk, Kept.mk', Kept.ite, Kept.ite1, Kept.dataAccess, Kept.functionConfig]⟩

theorem Kept.execDeviceRegisterRequest (r : Requester) (p : Fin 2) (w : Option (BitVec 32)) (s : State) :
    ∃ s2, execDeviceRegisterRequest r p w s = .next s2 ∧ Kept true s s2 := by
  exact ⟨_, rfl, Kept.dataAccess (Kept.refl _ _) _ _ _⟩

theorem Kept.execCxlCompletion (p : Fin 2) (linkB : Bool) (data : BitVec 32) (poison : Bool) (e : CxlEnd) (s : State) :
    ∃ s2, execCxlCompletion p linkB data poison e s = .next s2 ∧ Kept true s s2 := by
  have hk := Kept.refl true s
  exact ⟨_, rfl, by simp +contextual (maxDischargeDepth := 40) only [hk, Kept.mk', Kept.ite, Kept.ite1, Kept.cxlComplete, Kept.unsupported]⟩

theorem Kept.execCompletionTimeout (p : Fin 2) (linkB : Bool) (s : State) :
    ∃ s2, execCompletionTimeout p linkB s = .next s2 ∧ Kept true s s2 := by
  exact ⟨_, rfl, Kept.cxlTimeout (Kept.refl _ _) _ _⟩

theorem Kept.execEndpointInterrupt (r : Requester) (p : Fin 2) (v : Fin 64) (s : State) :
    ∃ s2, execEndpointInterrupt r p v s = .next s2 ∧ Kept true s s2 := by
  exact ⟨_, rfl, Kept.regAccess (Kept.refl _ _) _ _ _⟩

theorem Kept.execFunctionLevelReset (p : Fin 2) (s : State) :
    ∃ s2, execFunctionLevelReset p s = .next s2 ∧ Kept true s s2 := by
  have hk := Kept.refl true s
  exact ⟨_, rfl, by simp +contextual (maxDischargeDepth := 40) only [hk, Kept.mk', Kept.ite, Kept.ite1, Kept.functionReset, Kept.hostGone]⟩

theorem Kept.execPacketArrival (p : Packet) (corrected : Bool) (uncorrectable : Bool) (s : State) :
    ∃ s2, execPacketArrival p corrected uncorrectable s = .next s2 ∧ Kept true s s2 := by
  have hk := Kept.refl true s
  exact ⟨_, rfl, by simp +contextual (maxDischargeDepth := 40) only [hk, Kept.mk', Kept.ite, Kept.ite1, Kept.flowPacket, Kept.packet]⟩

theorem Kept.execCrossingFlit (die : Fin 6) (m : Fin 15) (quarter : Fin 4) (f : Flit) (s : State) :
    ∃ s2, execCrossingFlit die m quarter f s = .next s2 ∧ Kept true s s2 := by
  exact ⟨_, rfl, Kept.crossingFlit (Kept.refl _ _) _ _ _ _ _⟩

theorem Kept.execDoorbell (r : Requester) (q : Fin 8192) (w : BitVec 32) (s : State) :
    ∃ s2, execDoorbell r q w s = .next s2 ∧ Kept true s s2 := by
  exact ⟨_, rfl, Kept.regAccess (Kept.refl _ _) _ _ _⟩

theorem Kept.execQmKick (r : Requester) (q : Fin 8192) (s : State) :
    ∃ s2, execQmKick r q s = .next s2 ∧ Kept true s s2 := by
  exact ⟨_, rfl, Kept.regAccess (Kept.refl _ _) _ _ _⟩

theorem Kept.execKickArrival (q : Fin 8192) (s : State) :
    ∃ s2, execKickArrival q s = .next s2 ∧ Kept true s s2 := by
  exact ⟨_, rfl, Kept.kick (Kept.refl _ _) _⟩

theorem Kept.execDescriptorFetchComplete (q : Fin 8192) (f : Fetch) (s : State) :
    ∃ s2, execDescriptorFetchComplete q f s = .next s2 ∧ Kept true s s2 := by
  exact ⟨_, rfl, Kept.fetchDescriptor (Kept.refl _ _) _ _⟩

theorem Kept.execSourceReadReturn (q : Fin 8192) (data : List (BitVec 8)) (poison : Bool) (answered : Bool) (fs : List Fetch) (s : State) :
    ∃ s2, execSourceReadReturn q data poison answered fs s = .next s2 ∧ Kept true s s2 := by
  exact ⟨_, rfl, Kept.sourceReturn (Kept.refl _ _) _ _ _ _ _⟩

theorem Kept.execStreamPush (q : Fin 8192) (bytes : List (BitVec 8)) (flush : Bool) (s : State) :
    ∃ s2, execStreamPush q bytes flush s = .next s2 ∧ Kept true s s2 := by
  exact ⟨_, rfl, Kept.streamProducer (Kept.refl _ _) _ _ _⟩

theorem Kept.execCellTransfer (die : Fin 5) (s : State) :
    ∃ s2, execCellTransfer die s = .next s2 ∧ Kept true s s2 := by
  exact ⟨_, rfl, Kept.transferCell (Kept.refl _ _) _⟩

theorem Kept.execCreditReturn (home : Fin 5) (ep : Endpoint) (s : State) :
    ∃ s2, execCreditReturn home ep s = .next s2 ∧ Kept true s s2 := by
  exact ⟨_, rfl, Kept.creditReturn (Kept.refl _ _) _ _⟩

theorem Kept.execDescriptorComplete (d : Done) (s : State) :
    ∃ s2, execDescriptorComplete d s = .next s2 ∧ Kept true s s2 := by
  exact ⟨_, rfl, Kept.complete (Kept.refl _ _) _ _⟩

theorem Kept.execCompletionPointerWrite (r : Requester) (q : Fin 8192) (w : BitVec 32) (s : State) :
    ∃ s2, execCompletionPointerWrite r q w s = .next s2 ∧ Kept true s s2 := by
  exact ⟨_, rfl, Kept.regAccess (Kept.refl _ _) _ _ _⟩

theorem Kept.execQueueTimeout (q : Fin 8192) (s : State) :
    ∃ s2, execQueueTimeout q s = .next s2 ∧ Kept true s s2 := by
  exact ⟨_, rfl, Kept.queueTimeout (Kept.refl _ _) _⟩

theorem Kept.execStreamFlushTimeout (q : Fin 8192) (s : State) :
    ∃ s2, execStreamFlushTimeout q s = .next s2 ∧ Kept true s s2 := by
  exact ⟨_, rfl, Kept.streamFlush (Kept.refl _ _) _⟩

theorem Kept.execQueueEnable (r : Requester) (q : Fin 8192) (s : State) :
    ∃ s2, execQueueEnable r q s = .next s2 ∧ Kept true s s2 := by
  exact ⟨_, rfl, Kept.regAccess (Kept.refl _ _) _ _ _⟩

theorem Kept.execQueuePause (r : Requester) (q : Fin 8192) (s : State) :
    ∃ s2, execQueuePause r q s = .next s2 ∧ Kept true s s2 := by
  exact ⟨_, rfl, Kept.regAccess (Kept.refl _ _) _ _ _⟩

theorem Kept.execQueueResume (r : Requester) (q : Fin 8192) (s : State) :
    ∃ s2, execQueueResume r q s = .next s2 ∧ Kept true s s2 := by
  exact ⟨_, rfl, Kept.regAccess (Kept.refl _ _) _ _ _⟩

theorem Kept.execQueueSkip (r : Requester) (q : Fin 8192) (s : State) :
    ∃ s2, execQueueSkip r q s = .next s2 ∧ Kept true s s2 := by
  exact ⟨_, rfl, Kept.regAccess (Kept.refl _ _) _ _ _⟩

theorem Kept.execQueueReset (r : Requester) (q : Fin 8192) (s : State) :
    ∃ s2, execQueueReset r q s = .next s2 ∧ Kept true s s2 := by
  exact ⟨_, rfl, Kept.regAccess (Kept.refl _ _) _ _ _⟩

theorem Kept.execSetEnable (r : Requester) (set : Fin 64) (grp : Fin 16) (s : State) :
    ∃ s2, execSetEnable r set grp s = .next s2 ∧ Kept true s s2 := by
  exact ⟨_, rfl, Kept.setAccess (Kept.refl _ _) _ _ _ _⟩

theorem Kept.execSetPause (r : Requester) (set : Fin 64) (grp : Fin 16) (s : State) :
    ∃ s2, execSetPause r set grp s = .next s2 ∧ Kept true s s2 := by
  exact ⟨_, rfl, Kept.setAccess (Kept.refl _ _) _ _ _ _⟩

theorem Kept.execSetResume (r : Requester) (set : Fin 64) (grp : Fin 16) (s : State) :
    ∃ s2, execSetResume r set grp s = .next s2 ∧ Kept true s s2 := by
  exact ⟨_, rfl, Kept.setAccess (Kept.refl _ _) _ _ _ _⟩

theorem Kept.execSetReset (r : Requester) (set : Fin 64) (grp : Fin 16) (s : State) :
    ∃ s2, execSetReset r set grp s = .next s2 ∧ Kept true s s2 := by
  exact ⟨_, rfl, Kept.setAccess (Kept.refl _ _) _ _ _ _⟩

theorem Kept.execSetKick (r : Requester) (set : Fin 64) (grp : Fin 16) (s : State) :
    ∃ s2, execSetKick r set grp s = .next s2 ∧ Kept true s s2 := by
  exact ⟨_, rfl, Kept.setAccess (Kept.refl _ _) _ _ _ _⟩

theorem Kept.execPadFunctionWrite (r : Requester) (die : Fin 4) (pin : Fin 240) (w : BitVec 32) (s : State) :
    ∃ s2, execPadFunctionWrite r die pin w s = .next s2 ∧ Kept true s s2 := by
  exact ⟨_, rfl, Kept.regAccess (Kept.refl _ _) _ _ _⟩

theorem Kept.execChangeoverEnd (die : Fin 4) (pin : Fin 240) (s : State) :
    ∃ s2, execChangeoverEnd die pin s = .next s2 ∧ Kept true s s2 := by
  exact ⟨_, rfl, Kept.settlePad (Kept.refl _ _) _ _⟩

theorem Kept.execCrossbarSourceWrite (r : Requester) (die : Fin 4) (pin : Fin 240) (w : BitVec 32) (s : State) :
    ∃ s2, execCrossbarSourceWrite r die pin w s = .next s2 ∧ Kept true s s2 := by
  exact ⟨_, rfl, Kept.regAccess (Kept.refl _ _) _ _ _⟩

theorem Kept.execCrossbarInputWrite (r : Requester) (die : Fin 4) (pin : Fin 240) (w : BitVec 32) (s : State) :
    ∃ s2, execCrossbarInputWrite r die pin w s = .next s2 ∧ Kept true s s2 := by
  exact ⟨_, rfl, Kept.regAccess (Kept.refl _ _) _ _ _⟩

theorem Kept.execPadLockTag1 (r : Requester) (die : Fin 4) (pin : Fin 256) (s : State) :
    ∃ s2, execPadLockTag1 r die pin s = .next s2 ∧ Kept true s s2 := by
  exact ⟨_, rfl, Kept.regAccess (Kept.refl _ _) _ _ _⟩

theorem Kept.execPadLockTag2 (r : Requester) (die : Fin 4) (pin : Fin 256) (s : State) :
    ∃ s2, execPadLockTag2 r die pin s = .next s2 ∧ Kept true s s2 := by
  exact ⟨_, rfl, Kept.regAccess (Kept.refl _ _) _ _ _⟩

theorem Kept.execPadLockRead (r : Requester) (die : Fin 4) (s : State) :
    ∃ s2, execPadLockRead r die s = .next s2 ∧ Kept true s s2 := by
  exact ⟨_, rfl, Kept.regFetch (Kept.refl _ _) _ _⟩

theorem Kept.execPadSnapshotRead (r : Requester) (die : Fin 4) (s : State) :
    ∃ s2, execPadSnapshotRead r die s = .next s2 ∧ Kept true s s2 := by
  exact ⟨_, rfl, Kept.regFetch (Kept.refl _ _) _ _⟩

theorem Kept.execAdcConversion (die : Fin 4) (code : BitVec 12) (s : State) :
    ∃ s2, execAdcConversion die code s = .next s2 ∧ Kept true s s2 := by
  exact ⟨_, rfl, Kept.adcConvert (Kept.refl _ _) _ _⟩

theorem Kept.execDomainRunEnable (r : Requester) (g : Fin 165) (w : BitVec 32) (s : State) :
    ∃ s2, execDomainRunEnable r g w s = .next s2 ∧ Kept true s s2 := by
  exact ⟨_, rfl, Kept.regAccess (Kept.refl _ _) _ _ _⟩

theorem Kept.execDomainForce (r : Requester) (g : Fin 165) (w : BitVec 32) (s : State) :
    ∃ s2, execDomainForce r g w s = .next s2 ∧ Kept true s s2 := by
  exact ⟨_, rfl, Kept.regAccess (Kept.refl _ _) _ _ _⟩

theorem Kept.execAutoSleep (g : Fin 165) (work : Bool) (s : State) :
    ∃ s2, execAutoSleep g work s = .next s2 ∧ Kept true s s2 := by
  exact ⟨_, rfl, Kept.autoSleep (Kept.refl _ _) _ _⟩

theorem Kept.execAutoDeepSleep (g : Fin 165) (work : Bool) (s : State) :
    ∃ s2, execAutoDeepSleep g work s = .next s2 ∧ Kept true s s2 := by
  exact ⟨_, rfl, Kept.autoDeepSleep (Kept.refl _ _) _ _⟩

theorem Kept.execDomainWake (g : Fin 165) (pb : Bool) (s : State) :
    ∃ s2, execDomainWake g pb s = .next s2 ∧ Kept true s s2 := by
  exact ⟨_, rfl, Kept.wakeDom (Kept.refl _ _) _ _⟩

theorem Kept.execIslandLevelSettled (j : Fin 92) (s : State) :
    ∃ s2, execIslandLevelSettled j s = .next s2 ∧ Kept true s s2 := by
  exact ⟨_, rfl, Kept.islandSettled (Kept.refl _ _) _⟩

theorem Kept.execDeepSleep (r : Requester) (s : State) :
    ∃ s2, execDeepSleep r s = .next s2 ∧ Kept true s s2 := by
  exact ⟨_, rfl, Kept.regAccess (Kept.refl _ _) _ _ _⟩

theorem Kept.execDeviceWake (s : State) :
    ∃ s2, execDeviceWake s = .next s2 ∧ Kept true s s2 := by
  exact ⟨_, rfl, Kept.deviceWake (Kept.refl _ _)⟩

theorem Kept.execCreditWindow (isl : List (Nat × Nat)) (temps : List Nat) (s : State) :
    ∃ s2, execCreditWindow isl temps s = .next s2 ∧ Kept true s s2 := by
  exact ⟨_, rfl, Kept.creditWindow (Kept.refl _ _) _ _⟩

theorem Kept.execChunkGrant (purse : Fin 5) (s : State) :
    ∃ s2, execChunkGrant purse s = .next s2 ∧ Kept true s s2 := by
  exact ⟨_, rfl, Kept.grantChunk (Kept.refl _ _) _⟩

theorem Kept.execWorkAdmission (w : Work) (s : State) :
    ∃ s2, execWorkAdmission w s = .next s2 ∧ Kept true s s2 := by
  exact ⟨_, rfl, Kept.admitWork (Kept.refl _ _) _⟩

theorem Kept.execThermalTrip (s : State) :
    ∃ s2, execThermalTrip s = .next s2 ∧ Kept true s s2 := by
  exact ⟨_, rfl, Kept.thermalTrip (Kept.refl _ _)⟩

theorem Kept.execPmbusPoll (replies : List (Nat × Nat)) (s : State) :
    ∃ s2, execPmbusPoll replies s = .next s2 ∧ Kept true s s2 := by
  exact ⟨_, rfl, Kept.poll (Kept.refl _ _) _⟩

theorem Kept.execPmbusAlert (replies : List (Nat × Nat)) (s : State) :
    ∃ s2, execPmbusAlert replies s = .next s2 ∧ Kept true s s2 := by
  exact ⟨_, rfl, Kept.pmbAlert (Kept.refl _ _) _⟩

theorem Kept.execPmbusTimeout (dev : Fin 9) (reply : Option Nat) (s : State) :
    ∃ s2, execPmbusTimeout dev reply s = .next s2 ∧ Kept true s s2 := by
  exact ⟨_, rfl, Kept.pmbTimeout (Kept.refl _ _) _ _⟩

theorem Kept.execIslandFault (j : Fin 92) (s : State) :
    ∃ s2, execIslandFault j s = .next s2 ∧ Kept true s s2 := by
  have hk := Kept.refl true s
  exact ⟨_, rfl, by simp +contextual (maxDischargeDepth := 40) only [hk, Kept.mk', Kept.ite, Kept.ite1, Kept.islandFault, Kept.lateMissing]⟩

theorem Kept.execProtectedRead (addr : Nat) (c : Consumer) (f : Fetch) (s : State) :
    ∃ s2, execProtectedRead addr c f s = .next s2 ∧ Kept true s s2 := by
  have hk := Kept.refl true s
  exact ⟨_, rfl, by simp +contextual (maxDischargeDepth := 40) only [hk, Kept.mk', Kept.ite, Kept.ite1, Kept.protectedAccess, Kept.protectedRead]⟩

theorem Kept.execProtectedWrite (addr : Nat) (bytes : List (BitVec 8)) (poison : Bool) (c : Consumer) (f : Fetch) (s : State) :
    ∃ s2, execProtectedWrite addr bytes poison c f s = .next s2 ∧ Kept true s s2 := by
  have hk := Kept.refl true s
  exact ⟨_, rfl, by simp +contextual (maxDischargeDepth := 40) only [hk, Kept.mk', Kept.ite, Kept.ite1, Kept.protectedAccess, Kept.protectedWrite]⟩

theorem Kept.execReencryptionComplete (e : Fin 6) (s : State) :
    ∃ s2, execReencryptionComplete e s = .next s2 ∧ Kept true s s2 := by
  exact ⟨_, rfl, Kept.reencrypted (Kept.refl _ _) _⟩

theorem Kept.execSpeculativeCheck (e : Fin 6) (s : State) :
    ∃ s2, execSpeculativeCheck e s = .next s2 ∧ Kept true s s2 := by
  exact ⟨_, rfl, Kept.specCheck (Kept.refl _ _) _⟩

theorem Kept.execSubtreeReinit (r : Requester) (e : Fin 6) (n : Fin 64) (s : State) :
    ∃ s2, execSubtreeReinit r e n s = .next s2 ∧ Kept true s s2 := by
  exact ⟨_, rfl, Kept.regAccess (Kept.refl _ _) _ _ _⟩

theorem Kept.execSubtreeReinitComplete (e : Fin 6) (s : State) :
    ∃ s2, execSubtreeReinitComplete e s = .next s2 ∧ Kept true s s2 := by
  exact ⟨_, rfl, Kept.reinitDone (Kept.refl _ _) _⟩

theorem Kept.execKeyRetirement (r : Requester) (kid : Fin 64) (s : State) :
    ∃ s2, execKeyRetirement r kid s = .next s2 ∧ Kept true s s2 := by
  exact ⟨_, rfl, Kept.regAccess (Kept.refl _ _) _ _ _⟩

theorem Kept.execRetirementComplete (s : State) :
    ∃ s2, execRetirementComplete s = .next s2 ∧ Kept true s s2 := by
  exact ⟨_, rfl, Kept.retireDone (Kept.refl _ _)⟩

theorem Kept.execTreeInitialisation (e : Fin 6) (s : State) :
    ∃ s2, execTreeInitialisation e s = .next s2 ∧ Kept true s s2 := by
  exact ⟨_, rfl, Kept.treeInit (Kept.refl _ _) _⟩

theorem Kept.execTreeInitialisationComplete (e : Fin 6) (s : State) :
    ∃ s2, execTreeInitialisationComplete e s = .next s2 ∧ Kept true s s2 := by
  have hk := Kept.refl true s
  exact ⟨_, rfl, by simp +contextual (maxDischargeDepth := 40) only [hk, Kept.mk', Kept.ite, Kept.ite1, Kept.setBoot, Kept.treeInitDone]⟩

theorem Kept.execAlarmLogHeadRead (r : Requester) (e : Fin 6) (s : State) :
    ∃ s2, execAlarmLogHeadRead r e s = .next s2 ∧ Kept true s s2 := by
  exact ⟨_, rfl, Kept.regFetch (Kept.refl _ _) _ _⟩

theorem Kept.execRegionEntryWrite (r : Requester) (n : Fin 256) (w : BitVec 32) (s : State) :
    ∃ s2, execRegionEntryWrite r n w s = .next s2 ∧ Kept true s s2 := by
  exact ⟨_, rfl, Kept.regAccess (Kept.refl _ _) _ _ _⟩

theorem Kept.execLaneEnable (r : Requester) (die : Fin 4) (l : Fin 16) (w : BitVec 32) (s : State) :
    ∃ s2, execLaneEnable r die l w s = .next s2 ∧ Kept true s s2 := by
  exact ⟨_, rfl, Kept.regAccess (Kept.refl _ _) _ _ _⟩

theorem Kept.execCalibrationDone (die : Fin 4) (l : Fin 16) (s : State) :
    ∃ s2, execCalibrationDone die l s = .next s2 ∧ Kept true s s2 := by
  exact ⟨_, rfl, Kept.laneCalibrated (Kept.refl _ _) _ _⟩

theorem Kept.execCdrLock (die : Fin 4) (l : Fin 16) (late : Bool) (s : State) :
    ∃ s2, execCdrLock die l late s = .next s2 ∧ Kept true s s2 := by
  exact ⟨_, rfl, Kept.cdrLock (Kept.refl _ _) _ _ _⟩

theorem Kept.execCdrTimeout (die : Fin 4) (l : Fin 16) (s : State) :
    ∃ s2, execCdrTimeout die l s = .next s2 ∧ Kept true s s2 := by
  exact ⟨_, rfl, Kept.cdrTimeout (Kept.refl _ _) _ _⟩

theorem Kept.execAdaptationDone (die : Fin 4) (l : Fin 16) (eq : List (BitVec 32)) (late : Bool) (s : State) :
    ∃ s2, execAdaptationDone die l eq late s = .next s2 ∧ Kept true s s2 := by
  exact ⟨_, rfl, Kept.adapted (Kept.refl _ _) _ _ _ _⟩

theorem Kept.execAdaptFail (die : Fin 4) (l : Fin 16) (s : State) :
    ∃ s2, execAdaptFail die l s = .next s2 ∧ Kept true s s2 := by
  exact ⟨_, rfl, Kept.adaptFail (Kept.refl _ _) _ _⟩

theorem Kept.execLossOfLock (die : Fin 4) (l : Fin 16) (s : State) :
    ∃ s2, execLossOfLock die l s = .next s2 ∧ Kept true s s2 := by
  exact ⟨_, rfl, Kept.lossOfLock (Kept.refl _ _) _ _⟩

theorem Kept.execLanePllUnlock (die : Fin 4) (q : Fin 4) (b : Bool) (s : State) :
    ∃ s2, execLanePllUnlock die q b s = .next s2 ∧ Kept true s s2 := by
  exact ⟨_, rfl, Kept.pllUnlock (Kept.refl _ _) _ _ _⟩

theorem Kept.execBlockLockLoss (die : Fin 4) (l : Fin 16) (s : State) :
    ∃ s2, execBlockLockLoss die l s = .next s2 ∧ Kept true s s2 := by
  exact ⟨_, rfl, Kept.blockLock (Kept.refl _ _) _ _ _⟩

theorem Kept.execRecal (r : Requester) (die : Fin 4) (l : Fin 16) (s : State) :
    ∃ s2, execRecal r die l s = .next s2 ∧ Kept true s s2 := by
  exact ⟨_, rfl, Kept.regAccess (Kept.refl _ _) _ _ _⟩

theorem Kept.execSlip (r : Requester) (die : Fin 4) (l : Fin 16) (s : State) :
    ∃ s2, execSlip r die l s = .next s2 ∧ Kept true s s2 := by
  exact ⟨_, rfl, Kept.regAccess (Kept.refl _ _) _ _ _⟩

theorem Kept.execPrbsClear (r : Requester) (die : Fin 4) (l : Fin 16) (s : State) :
    ∃ s2, execPrbsClear r die l s = .next s2 ∧ Kept true s s2 := by
  exact ⟨_, rfl, Kept.regAccess (Kept.refl _ _) _ _ _⟩

theorem Kept.execLoopbackSelect (r : Requester) (die : Fin 4) (l : Fin 16) (path : Fin 8) (s : State) :
    ∃ s2, execLoopbackSelect r die l path s = .next s2 ∧ Kept true s s2 := by
  exact ⟨_, rfl, Kept.regAccess (Kept.refl _ _) _ _ _⟩

theorem Kept.execTxEqualiserWrite (r : Requester) (die : Fin 4) (l : Fin 16) (w : BitVec 32) (s : State) :
    ∃ s2, execTxEqualiserWrite r die l w s = .next s2 ∧ Kept true s s2 := by
  exact ⟨_, rfl, Kept.regAccess (Kept.refl _ _) _ _ _⟩

theorem Kept.execEyeScan (r : Requester) (die : Fin 4) (l : Fin 16) (w : BitVec 32) (s : State) :
    ∃ s2, execEyeScan r die l w s = .next s2 ∧ Kept true s s2 := by
  exact ⟨_, rfl, Kept.regAccess (Kept.refl _ _) _ _ _⟩

theorem Kept.execEyeScanDone (die : Fin 4) (l : Fin 16) (errors : Nat) (s : State) :
    ∃ s2, execEyeScanDone die l errors s = .next s2 ∧ Kept true s s2 := by
  exact ⟨_, rfl, Kept.eyeScanDone (Kept.refl _ _) _ _ _⟩

theorem Kept.execEfomMeasurement (die : Fin 4) (l : Fin 16) (efom : Nat) (eq : List (BitVec 32)) (errors : Nat) (s : State) :
    ∃ s2, execEfomMeasurement die l efom eq errors s = .next s2 ∧ Kept true s s2 := by
  exact ⟨_, rfl, Kept.efomMeasured (Kept.refl _ _) _ _ _ _ _⟩

theorem Kept.execPortEnable (r : Requester) (p : Fin 4) (w : BitVec 32) (s : State) :
    ∃ s2, execPortEnable r p w s = .next s2 ∧ Kept true s s2 := by
  exact ⟨_, rfl, Kept.regAccess (Kept.refl _ _) _ _ _⟩

theorem Kept.execPortDisable (r : Requester) (p : Fin 4) (w : BitVec 32) (s : State) :
    ∃ s2, execPortDisable r p w s = .next s2 ∧ Kept true s s2 := by
  exact ⟨_, rfl, Kept.regAccess (Kept.refl _ _) _ _ _⟩

theorem Kept.execFrameTransmit (p : Fin 4) (k : Nat) (s : State) :
    ∃ s2, execFrameTransmit p k s = .next s2 ∧ Kept true s s2 := by
  exact ⟨_, rfl, Kept.frameTransmit (Kept.refl _ _) _ _⟩

theorem Kept.execFrameReceive (p : Fin 4) (k : Nat) (f : Frame) (crcOk : Bool) (ppm : Int) (late : Bool) (s : State) :
    ∃ s2, execFrameReceive p k f crcOk ppm late s = .next s2 ∧ Kept true s s2 := by
  exact ⟨_, rfl, Kept.frameReceive (Kept.refl _ _) _ _ _ _ _ _⟩

theorem Kept.execEventMessageSend (r : Requester) (p : Fin 4) (msg : BitVec 16) (s : State) :
    ∃ s2, execEventMessageSend r p msg s = .next s2 ∧ Kept true s s2 := by
  exact ⟨_, rfl, Kept.regAccess (Kept.refl _ _) _ _ _⟩

theorem Kept.execEventHeadRead (r : Requester) (s : State) :
    ∃ s2, execEventHeadRead r s = .next s2 ∧ Kept true s s2 := by
  exact ⟨_, rfl, Kept.regFetch (Kept.refl _ _) _ _⟩

theorem Kept.execUpstreamLoss (s : State) :
    ∃ s2, execUpstreamLoss s = .next s2 ∧ Kept true s s2 := by
  exact ⟨_, rfl, Kept.upstreamLost (Kept.refl _ _)⟩

theorem Kept.execFrequencyError (s : State) :
    ∃ s2, execFrequencyError s = .next s2 ∧ Kept true s s2 := by
  exact ⟨_, rfl, Kept.frequencyError (Kept.refl _ _)⟩

theorem Kept.execQuadCount (dom : Fin 16) (k : Nat) (rev : Bool) (width : Nat) (s : State) :
    ∃ s2, execQuadCount dom k rev width s = .next s2 ∧ Kept true s s2 := by
  have hk := Kept.refl true s
  exact ⟨_, rfl, by simp +contextual (maxDischargeDepth := 40) only [hk, Kept.mk', Kept.ite, Kept.ite1, Kept.quadCount]⟩

theorem Kept.execQualifiedZ (dom : Fin 16) (k : Nat) (width : Nat) (s : State) :
    ∃ s2, execQualifiedZ dom k width s = .next s2 ∧ Kept true s s2 := by
  have hk := Kept.refl true s
  exact ⟨_, rfl, by simp +contextual (maxDischargeDepth := 40) only [hk, Kept.mk', Kept.ite, Kept.ite1, Kept.qualifiedZ]⟩

theorem Kept.execToothEdge (dom : Fin 16) (k : Nat) (width : Nat) (s : State) :
    ∃ s2, execToothEdge dom k width s = .next s2 ∧ Kept true s s2 := by
  have hk := Kept.refl true s
  exact ⟨_, rfl, by simp +contextual (maxDischargeDepth := 40) only [hk, Kept.mk', Kept.ite, Kept.ite1, Kept.toothEdge]⟩

theorem Kept.execPulseEdge (dom : Fin 16) (k : Nat) (width : Nat) (s : State) :
    ∃ s2, execPulseEdge dom k width s = .next s2 ∧ Kept true s s2 := by
  have hk := Kept.refl true s
  exact ⟨_, rfl, by simp +contextual (maxDischargeDepth := 40) only [hk, Kept.mk', Kept.ite, Kept.ite1, Kept.pulseEdge]⟩

theorem Kept.execResolverSample (dom : Fin 16) (k : Nat) (angle : BitVec 32) (err : BitVec 32) (lowAmp : Bool) (s : State) :
    ∃ s2, execResolverSample dom k angle err lowAmp s = .next s2 ∧ Kept true s s2 := by
  have hk := Kept.refl true s
  exact ⟨_, rfl, by simp +contextual (maxDischargeDepth := 40) only [hk, Kept.mk', Kept.ite, Kept.ite1, Kept.resolverSample]⟩

theorem Kept.execFabricIncrement (rg : Fin 64) (inc : BitVec 32) (s : State) :
    ∃ s2, execFabricIncrement rg inc s = .next s2 ∧ Kept true s s2 := by
  have hk := Kept.refl true s
  exact ⟨_, rfl, by simp +contextual (maxDischargeDepth := 40) only [hk, Kept.mk', Kept.ite, Kept.ite1, Kept.presentIncrement]⟩

theorem Kept.execStallTimeout (dom : Fin 16) (s : State) :
    ∃ s2, execStallTimeout dom s = .next s2 ∧ Kept true s s2 := by
  exact ⟨_, rfl, Kept.stallTimeout (Kept.refl _ _) _⟩

theorem Kept.execHoldoverTimeout (dom : Fin 16) (s : State) :
    ∃ s2, execHoldoverTimeout dom s = .next s2 ∧ Kept true s s2 := by
  exact ⟨_, rfl, Kept.holdoverTimeout (Kept.refl _ _) _⟩

theorem Kept.execLinkFrameLoss (dom : Fin 16) (s : State) :
    ∃ s2, execLinkFrameLoss dom s = .next s2 ∧ Kept true s s2 := by
  exact ⟨_, rfl, Kept.linkLoss (Kept.refl _ _) _⟩

theorem Kept.execDomainEnable (r : Requester) (dom : Fin 16) (s : State) :
    ∃ s2, execDomainEnable r dom s = .next s2 ∧ Kept true s s2 := by
  exact ⟨_, rfl, Kept.regAccess (Kept.refl _ _) _ _ _⟩

theorem Kept.execDomainDisable (r : Requester) (dom : Fin 16) (s : State) :
    ∃ s2, execDomainDisable r dom s = .next s2 ∧ Kept true s s2 := by
  exact ⟨_, rfl, Kept.regAccess (Kept.refl _ _) _ _ _⟩

theorem Kept.execDomainReacquire (r : Requester) (dom : Fin 16) (s : State) :
    ∃ s2, execDomainReacquire r dom s = .next s2 ∧ Kept true s s2 := by
  exact ⟨_, rfl, Kept.regAccess (Kept.refl _ _) _ _ _⟩

theorem Kept.execDomainFreeze (r : Requester) (dom : Fin 16) (s : State) :
    ∃ s2, execDomainFreeze r dom s = .next s2 ∧ Kept true s s2 := by
  exact ⟨_, rfl, Kept.regAccess (Kept.refl _ _) _ _ _⟩

theorem Kept.execDomainUnfreeze (r : Requester) (dom : Fin 16) (s : State) :
    ∃ s2, execDomainUnfreeze r dom s = .next s2 ∧ Kept true s s2 := by
  exact ⟨_, rfl, Kept.regAccess (Kept.refl _ _) _ _ _⟩

theorem Kept.execVelocityWrite (r : Requester) (dom : Fin 16) (d : BitVec 64) (s : State) :
    ∃ s2, execVelocityWrite r dom d s = .next s2 ∧ Kept true s s2 := by
  exact ⟨_, rfl, Kept.pairAccess (Kept.refl _ _) _ _ _ _⟩

theorem Kept.execAccelerationWrite (r : Requester) (dom : Fin 16) (d : BitVec 64) (s : State) :
    ∃ s2, execAccelerationWrite r dom d s = .next s2 ∧ Kept true s s2 := by
  exact ⟨_, rfl, Kept.pairAccess (Kept.refl _ _) _ _ _ _⟩

theorem Kept.execPhaseLoad (r : Requester) (dom : Fin 16) (d : BitVec 64) (s : State) :
    ∃ s2, execPhaseLoad r dom d s = .next s2 ∧ Kept true s s2 := by
  exact ⟨_, rfl, Kept.pairAccess (Kept.refl _ _) _ _ _ _⟩

theorem Kept.execSpineRecalibrate (r : Requester) (die : Fin 4) (s : State) :
    ∃ s2, execSpineRecalibrate r die s = .next s2 ∧ Kept true s s2 := by
  exact ⟨_, rfl, Kept.regAccess (Kept.refl _ _) _ _ _⟩

theorem Kept.execDirectoryRead (c0 : Option Directory) (c1 : Option Directory) (s : State) :
    ∃ s2, execDirectoryRead c0 c1 s = .next s2 ∧ Kept true s s2 := by
  exact ⟨_, rfl, Kept.directoryRead (Kept.refl _ _) _ _⟩

theorem Kept.execImageHeaderRead (h : Header) (s : State) :
    ∃ s2, execImageHeaderRead h s = .next s2 ∧ Kept true s s2 := by
  exact ⟨_, rfl, Kept.headerRead (Kept.refl _ _) _⟩

theorem Kept.execSegmentReceive (g : SegIn) (s : State) :
    ∃ s2, execSegmentReceive g s = .next s2 ∧ Kept true s s2 := by
  exact ⟨_, rfl, Kept.segmentReceive (Kept.refl _ _) _⟩

theorem Kept.execSegmentTimeout (s : State) :
    ∃ s2, execSegmentTimeout s = .next s2 ∧ Kept true s s2 := by
  exact ⟨_, rfl, Kept.segmentTimeout (Kept.refl _ _)⟩

theorem Kept.execDoneRelease (fits : List Bool) (s : State) :
    ∃ s2, execDoneRelease fits s = .next s2 ∧ Kept true s s2 := by
  exact ⟨_, rfl, Kept.doneRelease (Kept.refl _ _) _⟩

theorem Kept.execJtagConfiguration (h : Header) (s : State) :
    ∃ s2, execJtagConfiguration h s = .next s2 ∧ Kept true s s2 := by
  exact ⟨_, rfl, Kept.jtagImage (Kept.refl _ _) _⟩

theorem Kept.execNvmCommand (r : Requester) (w : BitVec 32) (s : State) :
    ∃ s2, execNvmCommand r w s = .next s2 ∧ Kept true s s2 := by
  exact ⟨_, rfl, Kept.regAccess (Kept.refl _ _) _ _ _⟩

theorem Kept.execNvmCommandComplete (data : List (BitVec 8)) (s : State) :
    ∃ s2, execNvmCommandComplete data s = .next s2 ∧ Kept true s s2 := by
  exact ⟨_, rfl, Kept.nvmComplete (Kept.refl _ _) _⟩

theorem Kept.execTioModeChange (r : Requester) (die : Fin 4) (pin : Fin 240) (w : BitVec 32) (s : State) :
    ∃ s2, execTioModeChange r die pin w s = .next s2 ∧ Kept true s s2 := by
  exact ⟨_, rfl, Kept.regAccess (Kept.refl _ _) _ _ _⟩

theorem Kept.execInputEdge (die : Fin 4) (pin : Fin 240) (k : Nat) (level : Bool) (width : Nat) (s : State) :
    ∃ s2, execInputEdge die pin k level width s = .next s2 ∧ Kept true s s2 := by
  exact ⟨_, rfl, Kept.inputEdge (Kept.refl _ _) _ _ _ _ _⟩

theorem Kept.execMeasurementTimeout (die : Fin 4) (pin : Fin 240) (s : State) :
    ∃ s2, execMeasurementTimeout die pin s = .next s2 ∧ Kept true s s2 := by
  exact ⟨_, rfl, Kept.measureTimeout (Kept.refl _ _) _ _ _ _⟩

theorem Kept.execOutputFifoWrite (r : Requester) (die : Fin 4) (pin : Fin 240) (d : BitVec 64) (s : State) :
    ∃ s2, execOutputFifoWrite r die pin d s = .next s2 ∧ Kept true s s2 := by
  exact ⟨_, rfl, Kept.pairAccess (Kept.refl _ _) _ _ _ _⟩

theorem Kept.execOutputFifoRelease (die : Fin 4) (pin : Fin 240) (s : State) :
    ∃ s2, execOutputFifoRelease die pin s = .next s2 ∧ Kept true s s2 := by
  have hk := Kept.refl true s
  exact ⟨_, rfl, by simp +contextual (maxDischargeDepth := 40) only [hk, Kept.mk', Kept.ite, Kept.ite1, Kept.driveTick]⟩

theorem Kept.execOutputFifoFlush (r : Requester) (die : Fin 4) (pin : Fin 240) (s : State) :
    ∃ s2, execOutputFifoFlush r die pin s = .next s2 ∧ Kept true s s2 := by
  exact ⟨_, rfl, Kept.regAccess (Kept.refl _ _) _ _ _⟩

theorem Kept.execCaptureHeadRead (r : Requester) (die : Fin 4) (pin : Fin 240) (s : State) :
    ∃ s2, execCaptureHeadRead r die pin s = .next s2 ∧ Kept true s s2 := by
  exact ⟨_, rfl, Kept.regFetch (Kept.refl _ _) _ _⟩

theorem Kept.execCapturePop (r : Requester) (die : Fin 4) (pin : Fin 240) (s : State) :
    ∃ s2, execCapturePop r die pin s = .next s2 ∧ Kept true s s2 := by
  exact ⟨_, rfl, Kept.regFetch (Kept.refl _ _) _ _⟩

theorem Kept.execRecordDrain (die : Fin 4) (pin : Fin 240) (s : State) :
    ∃ s2, execRecordDrain die pin s = .next s2 ∧ Kept true s s2 := by
  exact ⟨_, rfl, Kept.recordDrain (Kept.refl _ _) _ _⟩

theorem Kept.execPwmUpdate (r : Requester) (die : Fin 4) (pin : Fin 240) (s : State) :
    ∃ s2, execPwmUpdate r die pin s = .next s2 ∧ Kept true s s2 := by
  exact ⟨_, rfl, Kept.regAccess (Kept.refl _ _) _ _ _⟩

theorem Kept.execPwmShadowMove (die : Fin 4) (pin : Fin 240) (k : Nat) (s : State) :
    ∃ s2, execPwmShadowMove die pin k s = .next s2 ∧ Kept true s s2 := by
  exact ⟨_, rfl, Kept.pwmShadowMove (Kept.refl _ _) _ _ _⟩

theorem Kept.execEncoderCountStep (die : Fin 4) (pin : Fin 240) (k : Nat) (s : State) :
    ∃ s2, execEncoderCountStep die pin k s = .next s2 ∧ Kept true s s2 := by
  have hk := Kept.refl true s
  exact ⟨_, rfl, by simp +contextual (maxDischargeDepth := 40) only [hk, Kept.mk', Kept.ite, Kept.ite1, Kept.encStep]⟩

theorem Kept.execEmulationOffsetWrite (r : Requester) (die : Fin 4) (pin : Fin 240) (w : BitVec 32) (s : State) :
    ∃ s2, execEmulationOffsetWrite r die pin w s = .next s2 ∧ Kept true s s2 := by
  exact ⟨_, rfl, Kept.regAccess (Kept.refl _ _) _ _ _⟩

theorem Kept.execPatternWrite (r : Requester) (die : Fin 4) (n : Fin 128) (w : BitVec 32) (s : State) :
    ∃ s2, execPatternWrite r die n w s = .next s2 ∧ Kept true s s2 := by
  exact ⟨_, rfl, Kept.regAccess (Kept.refl _ _) _ _ _⟩

end Sys2Proof.Machine
end

