-- ==== Sys2Proof/Laws/Keys.lean ====
section
/-!
SUPPORT. The registers that the commands name are registers an access reaches by itself, each with its half of a pair, if any.
-/
namespace Sys2Proof.Machine

set_option linter.unusedSimpArgs false

theorem singleReg_of {d u i o : Nat} {half : PairHalf} (hd : d < 7) (hu : u < 32) (hi : i < 0xFF0) (ho : o < 0xFF8) (h4 : o % 4 = 0)
    (hx : u ≠ 0x11) (h : (regDef? (regKey d u i o)).map (·.half) = some half) :
    singleReg (regKey d u i o) = true ∧ pairHalf (regKey d u i o) = half := by
  have h1 : o < 4096 := by omega
  have h2 : i < 4096 := by omega
  obtain ⟨r, hr, rfl⟩ := Option.map_eq_some_iff.mp h
  refine ⟨?_, by simp [pairHalf, hr]⟩
  have hlt : regKey d u i o < 2 ^ 32 := by unfold regKey; omega
  have hm : regKey d u i o % 4 = 0 := by unfold regKey; omega
  have h8 : ¬4088 ≤ o := by omega
  have h7 : ¬d = 7 := by omega
  have hf : ¬4080 ≤ i := by omega
  simp [singleReg, isAlias, regDefined, cxlData, keyOff_regKey h1, keyInst_regKey h1 h2, keyUnit_regKey h1 h2 hu, keyDie_regKey h1 h2 hu,
    hr, hm, h8, h7, hf, hx, show regKey d u i o < 4294967296 from hlt]

theorem single_BZ_CMD : ∀ i < 4, singleReg (Reg.BZ_CMD i) = true ∧ pairHalf (Reg.BZ_CMD i) = .none := by
  decide

theorem single_CAL_CTL : ∀ die < 4, singleReg (Reg.CAL_CTL die) = true ∧ pairHalf (Reg.CAL_CTL die) = .none := by
  decide

theorem single_CAL_GCMD : ∀ die < 4, singleReg (Reg.CAL_GCMD die) = true ∧ pairHalf (Reg.CAL_GCMD die) = .none := by
  decide

theorem single_CAL_STG_CMD : ∀ die < 4, singleReg (Reg.CAL_STG_CMD die) = true ∧ pairHalf (Reg.CAL_STG_CMD die) = .none := by
  decide

theorem single_CC_START : singleReg Reg.CC_START = true ∧ pairHalf Reg.CC_START = .none := by
  decide

theorem single_CFGF_CMD : ∀ die < 4, singleReg (Reg.CFGF_CMD die) = true ∧ pairHalf (Reg.CFGF_CMD die) = .none := by
  decide

theorem single_CFGF_FTEST : ∀ die < 4, singleReg (Reg.CFGF_FTEST die) = true ∧ pairHalf (Reg.CFGF_FTEST die) = .none := by
  decide

theorem single_CFGH_CDBANK : singleReg Reg.CFGH_CDBANK = true ∧ pairHalf Reg.CFGH_CDBANK = .none := by
  decide

theorem single_CFG_NVMCMD : singleReg Reg.CFG_NVMCMD = true ∧ pairHalf Reg.CFG_NVMCMD = .none := by
  decide

theorem single_CLK_CMD : singleReg Reg.CLK_CMD = true ∧ pairHalf Reg.CLK_CMD = .none := by
  decide

theorem single_CORE_ACMD : ∀ i < 6, singleReg (Reg.CORE_ACMD i) = true ∧ pairHalf (Reg.CORE_ACMD i) = .none := by
  decide

theorem single_CORE_RC : ∀ i < 6, singleReg (Reg.CORE_RC i) = true ∧ pairHalf (Reg.CORE_RC i) = .none := by
  decide

theorem single_CORE_WDT_KICK : ∀ i < 6, singleReg (Reg.CORE_WDT_KICK i) = true ∧ pairHalf (Reg.CORE_WDT_KICK i) = .none := by
  decide

theorem single_CXL_CTL : ∀ i < 2, singleReg (Reg.CXL_CTL i) = true ∧ pairHalf (Reg.CXL_CTL i) = .none := by
  decide

theorem single_CXL_EPIRQ : ∀ i < 2, singleReg (Reg.CXL_EPIRQ i) = true ∧ pairHalf (Reg.CXL_EPIRQ i) = .none := by
  decide

theorem single_D2D_CTL : ∀ die < 6, ∀ i < 15, die = (moduleEnds i).1 ∨ die = (moduleEnds i).2 → singleReg (Reg.D2D_CTL die i) = true ∧ pairHalf (Reg.D2D_CTL die i) = .none := by
  decide

theorem single_DBG_ACMD : singleReg Reg.DBG_ACMD = true ∧ pairHalf Reg.DBG_ACMD = .none := by
  decide

theorem single_DBG_FREG : singleReg Reg.DBG_FREG = true ∧ pairHalf Reg.DBG_FREG = .none := by
  decide

theorem single_DBG_FRUN : singleReg Reg.DBG_FRUN = true ∧ pairHalf Reg.DBG_FRUN = .none := by
  decide

theorem single_DBG_VT_RX : singleReg Reg.DBG_VT_RX = true ∧ pairHalf Reg.DBG_VT_RX = .none := by
  decide

theorem single_DBG_VT_TX : singleReg Reg.DBG_VT_TX = true ∧ pairHalf Reg.DBG_VT_TX = .none := by
  decide

theorem single_DDR_CTL : ∀ i < 4, singleReg (Reg.DDR_CTL i) = true ∧ pairHalf (Reg.DDR_CTL i) = .none := by
  decide

theorem single_DDR_MT_CTL : ∀ i < 4, singleReg (Reg.DDR_MT_CTL i) = true ∧ pairHalf (Reg.DDR_MT_CTL i) = .none := by
  decide

theorem single_DDR_RT : ∀ i < 4, singleReg (Reg.DDR_RT i) = true ∧ pairHalf (Reg.DDR_RT i) = .none := by
  decide

theorem single_DIE_REL : singleReg Reg.DIE_REL = true ∧ pairHalf Reg.DIE_REL = .none := by
  decide

theorem single_DIE_RRST : ∀ die < 4, singleReg (Reg.DIE_RRST die) = true ∧ pairHalf (Reg.DIE_RRST die) = .none := by
  decide

theorem single_DIE_URST : ∀ die < 6, singleReg (Reg.DIE_URST die) = true ∧ pairHalf (Reg.DIE_URST die) = .none := by
  decide

theorem single_DOM_ACC_HI : ∀ i < 16, singleReg (Reg.DOM_ACC_HI i) = true ∧ pairHalf (Reg.DOM_ACC_HI i) = .hi := by
  decide

theorem single_DOM_ACC_LO : ∀ i < 16, singleReg (Reg.DOM_ACC_LO i) = true ∧ pairHalf (Reg.DOM_ACC_LO i) = .lo := by
  decide

theorem single_DOM_CMD : ∀ i < 16, singleReg (Reg.DOM_CMD i) = true ∧ pairHalf (Reg.DOM_CMD i) = .none := by
  decide

theorem single_DOM_LOAD_HI : ∀ i < 16, singleReg (Reg.DOM_LOAD_HI i) = true ∧ pairHalf (Reg.DOM_LOAD_HI i) = .hi := by
  decide

theorem single_DOM_LOAD_LO : ∀ i < 16, singleReg (Reg.DOM_LOAD_LO i) = true ∧ pairHalf (Reg.DOM_LOAD_LO i) = .lo := by
  decide

theorem single_DOM_VEL_HI : ∀ i < 16, singleReg (Reg.DOM_VEL_HI i) = true ∧ pairHalf (Reg.DOM_VEL_HI i) = .hi := by
  decide

theorem single_DOM_VEL_LO : ∀ i < 16, singleReg (Reg.DOM_VEL_LO i) = true ∧ pairHalf (Reg.DOM_VEL_LO i) = .lo := by
  decide

theorem single_FACET_CMD : ∀ die < 4, ∀ i < 272, singleReg (Reg.FACET_CMD die i) = true ∧ pairHalf (Reg.FACET_CMD die i) = .none := by
  intro die hd i hi
  have ht : Nat.testBit 15 die = true := by revert hd; revert die; decide
  have hd3 : die ≤ 3 := by omega
  have h1 : i ≤ 271 := by omega
  refine singleReg_of (by omega) (by decide) (by omega) (by decide) (by decide) (by decide) ?_
  simp [regDef?, keyOff_regKey, keyInst_regKey, keyUnit_regKey, keyDie_regKey, show i < 4096 by omega, instExists, regRows, rowsFACET, RegDef.covers, List.find?, h1, ht, hd3]

theorem single_FACET_CTL : ∀ die < 4, ∀ i < 272, singleReg (Reg.FACET_CTL die i) = true ∧ pairHalf (Reg.FACET_CTL die i) = .none := by
  intro die hd i hi
  have ht : Nat.testBit 15 die = true := by revert hd; revert die; decide
  have hd3 : die ≤ 3 := by omega
  have h1 : i ≤ 271 := by omega
  refine singleReg_of (by omega) (by decide) (by omega) (by decide) (by decide) (by decide) ?_
  simp [regDef?, keyOff_regKey, keyInst_regKey, keyUnit_regKey, keyDie_regKey, show i < 4096 by omega, instExists, regRows, rowsFACET, RegDef.covers, List.find?, h1, ht, hd3]

theorem single_FDSP_REMAP : ∀ die < 4, ∀ i < 16, singleReg (Reg.FDSP_REMAP die i) = true ∧ pairHalf (Reg.FDSP_REMAP die i) = .none := by
  decide

theorem single_FDSP_REQ : ∀ die < 4, ∀ i < 16, singleReg (Reg.FDSP_REQ die i) = true ∧ pairHalf (Reg.FDSP_REQ die i) = .none := by
  decide

theorem single_GOV_CMD : singleReg Reg.GOV_CMD = true ∧ pairHalf Reg.GOV_CMD = .none := by
  decide

theorem single_LP_CMD : ∀ die < 4, singleReg (Reg.LP_CMD die) = true ∧ pairHalf (Reg.LP_CMD die) = .none := by
  decide

theorem single_LP_RESTORE : ∀ die < 4, singleReg (Reg.LP_RESTORE die) = true ∧ pairHalf (Reg.LP_RESTORE die) = .none := by
  decide

theorem single_MBX_CTL : ∀ i < 32, singleReg (Reg.MBX_CTL i) = true ∧ pairHalf (Reg.MBX_CTL i) = .none := by
  decide

theorem single_MBX_POP : ∀ i < 32, singleReg (Reg.MBX_POP i) = true ∧ pairHalf (Reg.MBX_POP i) = .none := by
  decide

theorem single_MBX_PUSH : ∀ i < 32, singleReg (Reg.MBX_PUSH i) = true ∧ pairHalf (Reg.MBX_PUSH i) = .none := by
  decide

theorem single_MPE_ALM0 : ∀ i < 6, singleReg (Reg.MPE_ALM0 i) = true ∧ pairHalf (Reg.MPE_ALM0 i) = .none := by
  decide

theorem single_MPE_REINIT : ∀ i < 6, singleReg (Reg.MPE_REINIT i) = true ∧ pairHalf (Reg.MPE_REINIT i) = .none := by
  decide

theorem single_MPE_RETIRE : singleReg Reg.MPE_RETIRE = true ∧ pairHalf Reg.MPE_RETIRE = .none := by
  decide

theorem single_MPE_RGN_CTL : ∀ i < 512, 256 ≤ i → singleReg (Reg.MPE_RGN_CTL i) = true ∧ pairHalf (Reg.MPE_RGN_CTL i) = .none := by
  intro i hi h0
  have h1 : i ≤ 511 := by omega
  have h3 : ¬i ≤ 5 := by omega
  have h4 : ¬i ≤ 6 := by omega
  refine singleReg_of (by omega) (by decide) (by omega) (by decide) (by decide) (by decide) ?_
  simp [regDef?, keyOff_regKey, keyInst_regKey, keyUnit_regKey, keyDie_regKey, show i < 4096 by omega, instExists, regRows, rowsMPE, RegDef.covers, List.find?, h1, h0, h3, h4, show Nat.testBit 16 4 = true by decide]

theorem single_PAD_FUNC : ∀ die < 4, ∀ i < 240, singleReg (Reg.PAD_FUNC die i) = true ∧ pairHalf (Reg.PAD_FUNC die i) = .none := by
  intro die hd i hi
  have ht : Nat.testBit 15 die = true := by revert hd; revert die; decide
  have hd3 : die ≤ 3 := by omega
  have h1 : i ≤ 239 := by omega
  have h2 : i ≤ 240 := by omega
  refine singleReg_of (by omega) (by decide) (by omega) (by decide) (by decide) (by decide) ?_
  simp [regDef?, keyOff_regKey, keyInst_regKey, keyUnit_regKey, keyDie_regKey, show i < 4096 by omega, instExists, regRows, rowsPAD, RegDef.covers, List.find?, h1, h2, ht, hd3]

theorem single_PAD_LOCK : ∀ die < 4, singleReg (Reg.PAD_LOCK die) = true ∧ pairHalf (Reg.PAD_LOCK die) = .none := by
  decide

theorem single_PAD_SNAP : ∀ die < 4, ∀ k < 8, singleReg (Reg.PAD_SNAP die k) = true ∧ pairHalf (Reg.PAD_SNAP die k) = .none := by
  decide

theorem single_PL_EVRX0 : singleReg Reg.PL_EVRX0 = true ∧ pairHalf Reg.PL_EVRX0 = .none := by
  decide

theorem single_PL_EVTX : ∀ i < 4, singleReg (Reg.PL_EVTX i) = true ∧ pairHalf (Reg.PL_EVTX i) = .none := by
  decide

theorem single_PL_PCTL : ∀ i < 4, singleReg (Reg.PL_PCTL i) = true ∧ pairHalf (Reg.PL_PCTL i) = .none := by
  decide

theorem single_REC_CMD : singleReg Reg.REC_CMD = true ∧ pairHalf Reg.REC_CMD = .none := by
  decide

theorem single_SCR_CTL : ∀ die < 4, ∀ i < 3, 1 ≤ i → singleReg (Reg.SCR_CTL die i) = true ∧ pairHalf (Reg.SCR_CTL die i) = .none := by
  decide

theorem single_SRX_CTL : ∀ die < 4, singleReg (Reg.SRX_CTL die) = true ∧ pairHalf (Reg.SRX_CTL die) = .none := by
  decide

theorem single_TIO_CAP0 : ∀ die < 4, ∀ i < 240, singleReg (Reg.TIO_CAP0 die i) = true ∧ pairHalf (Reg.TIO_CAP0 die i) = .none := by
  intro die hd i hi
  have ht : Nat.testBit 15 die = true := by revert hd; revert die; decide
  have hd3 : die ≤ 3 := by omega
  have h1 : i ≤ 239 := by omega
  have h2 : i ≤ 240 := by omega
  refine singleReg_of (by omega) (by decide) (by omega) (by decide) (by decide) (by decide) ?_
  simp [regDef?, keyOff_regKey, keyInst_regKey, keyUnit_regKey, keyDie_regKey, show i < 4096 by omega, instExists, regRows, rowsTIO, RegDef.covers, List.find?, h1, h2, ht, hd3]

theorem single_TIO_CAP3 : ∀ die < 4, ∀ i < 240, singleReg (Reg.TIO_CAP3 die i) = true ∧ pairHalf (Reg.TIO_CAP3 die i) = .none := by
  intro die hd i hi
  have ht : Nat.testBit 15 die = true := by revert hd; revert die; decide
  have hd3 : die ≤ 3 := by omega
  have h1 : i ≤ 239 := by omega
  have h2 : i ≤ 240 := by omega
  refine singleReg_of (by omega) (by decide) (by omega) (by decide) (by decide) (by decide) ?_
  simp [regDef?, keyOff_regKey, keyInst_regKey, keyUnit_regKey, keyDie_regKey, show i < 4096 by omega, instExists, regRows, rowsTIO, RegDef.covers, List.find?, h1, h2, ht, hd3]

theorem single_TIO_CTL : ∀ die < 4, ∀ i < 240, singleReg (Reg.TIO_CTL die i) = true ∧ pairHalf (Reg.TIO_CTL die i) = .none := by
  intro die hd i hi
  have ht : Nat.testBit 15 die = true := by revert hd; revert die; decide
  have hd3 : die ≤ 3 := by omega
  have h1 : i ≤ 239 := by omega
  have h2 : i ≤ 240 := by omega
  refine singleReg_of (by omega) (by decide) (by omega) (by decide) (by decide) (by decide) ?_
  simp [regDef?, keyOff_regKey, keyInst_regKey, keyUnit_regKey, keyDie_regKey, show i < 4096 by omega, instExists, regRows, rowsTIO, RegDef.covers, List.find?, h1, h2, ht, hd3]

theorem single_TIO_EMU_OFS : ∀ die < 4, ∀ i < 240, singleReg (Reg.TIO_EMU_OFS die i) = true ∧ pairHalf (Reg.TIO_EMU_OFS die i) = .none := by
  intro die hd i hi
  have ht : Nat.testBit 15 die = true := by revert hd; revert die; decide
  have hd3 : die ≤ 3 := by omega
  have h1 : i ≤ 239 := by omega
  have h2 : i ≤ 240 := by omega
  refine singleReg_of (by omega) (by decide) (by omega) (by decide) (by decide) (by decide) ?_
  simp [regDef?, keyOff_regKey, keyInst_regKey, keyUnit_regKey, keyDie_regKey, show i < 4096 by omega, instExists, regRows, rowsTIO, RegDef.covers, List.find?, h1, h2, ht, hd3]

theorem single_TIO_OFLUSH : ∀ die < 4, ∀ i < 240, singleReg (Reg.TIO_OFLUSH die i) = true ∧ pairHalf (Reg.TIO_OFLUSH die i) = .none := by
  intro die hd i hi
  have ht : Nat.testBit 15 die = true := by revert hd; revert die; decide
  have hd3 : die ≤ 3 := by omega
  have h1 : i ≤ 239 := by omega
  have h2 : i ≤ 240 := by omega
  refine singleReg_of (by omega) (by decide) (by omega) (by decide) (by decide) (by decide) ?_
  simp [regDef?, keyOff_regKey, keyInst_regKey, keyUnit_regKey, keyDie_regKey, show i < 4096 by omega, instExists, regRows, rowsTIO, RegDef.covers, List.find?, h1, h2, ht, hd3]

theorem single_TIO_OUT_HI : ∀ die < 4, ∀ i < 240, singleReg (Reg.TIO_OUT_HI die i) = true ∧ pairHalf (Reg.TIO_OUT_HI die i) = .hi := by
  intro die hd i hi
  have ht : Nat.testBit 15 die = true := by revert hd; revert die; decide
  have hd3 : die ≤ 3 := by omega
  have h1 : i ≤ 239 := by omega
  have h2 : i ≤ 240 := by omega
  refine singleReg_of (by omega) (by decide) (by omega) (by decide) (by decide) (by decide) ?_
  simp [regDef?, keyOff_regKey, keyInst_regKey, keyUnit_regKey, keyDie_regKey, show i < 4096 by omega, instExists, regRows, rowsTIO, RegDef.covers, List.find?, h1, h2, ht, hd3]

theorem single_TIO_OUT_LO : ∀ die < 4, ∀ i < 240, singleReg (Reg.TIO_OUT_LO die i) = true ∧ pairHalf (Reg.TIO_OUT_LO die i) = .lo := by
  intro die hd i hi
  have ht : Nat.testBit 15 die = true := by revert hd; revert die; decide
  have hd3 : die ≤ 3 := by omega
  have h1 : i ≤ 239 := by omega
  have h2 : i ≤ 240 := by omega
  refine singleReg_of (by omega) (by decide) (by omega) (by decide) (by decide) (by decide) ?_
  simp [regDef?, keyOff_regKey, keyInst_regKey, keyUnit_regKey, keyDie_regKey, show i < 4096 by omega, instExists, regRows, rowsTIO, RegDef.covers, List.find?, h1, h2, ht, hd3]

theorem single_TIO_PAT : ∀ die < 4, ∀ k < 128, singleReg (Reg.TIO_PAT die k) = true ∧ pairHalf (Reg.TIO_PAT die k) = .none := by
  decide

theorem single_TIO_PW_UPD : ∀ die < 4, ∀ i < 240, singleReg (Reg.TIO_PW_UPD die i) = true ∧ pairHalf (Reg.TIO_PW_UPD die i) = .none := by
  intro die hd i hi
  have ht : Nat.testBit 15 die = true := by revert hd; revert die; decide
  have hd3 : die ≤ 3 := by omega
  have h1 : i ≤ 239 := by omega
  have h2 : i ≤ 240 := by omega
  refine singleReg_of (by omega) (by decide) (by omega) (by decide) (by decide) (by decide) ?_
  simp [regDef?, keyOff_regKey, keyInst_regKey, keyUnit_regKey, keyDie_regKey, show i < 4096 by omega, instExists, regRows, rowsTIO, RegDef.covers, List.find?, h1, h2, ht, hd3]

theorem single_XBAR_IN : ∀ die < 4, ∀ i < 240, singleReg (Reg.XBAR_IN die i) = true ∧ pairHalf (Reg.XBAR_IN die i) = .none := by
  intro die hd i hi
  have ht : Nat.testBit 15 die = true := by revert hd; revert die; decide
  have hd3 : die ≤ 3 := by omega
  have h1 : i ≤ 239 := by omega
  have h2 : i ≤ 240 := by omega
  refine singleReg_of (by omega) (by decide) (by omega) (by decide) (by decide) (by decide) ?_
  simp [regDef?, keyOff_regKey, keyInst_regKey, keyUnit_regKey, keyDie_regKey, show i < 4096 by omega, instExists, regRows, rowsXBAR, RegDef.covers, List.find?, h1, h2, ht, hd3]

theorem single_XBAR_SRC : ∀ die < 4, ∀ i < 240, singleReg (Reg.XBAR_SRC die i) = true ∧ pairHalf (Reg.XBAR_SRC die i) = .none := by
  intro die hd i hi
  have ht : Nat.testBit 15 die = true := by revert hd; revert die; decide
  have hd3 : die ≤ 3 := by omega
  have h1 : i ≤ 239 := by omega
  have h2 : i ≤ 240 := by omega
  refine singleReg_of (by omega) (by decide) (by omega) (by decide) (by decide) (by decide) ?_
  simp [regDef?, keyOff_regKey, keyInst_regKey, keyUnit_regKey, keyDie_regKey, show i < 4096 by omega, instExists, regRows, rowsXBAR, RegDef.covers, List.find?, h1, h2, ht, hd3]

theorem single_XCVR_ESCAN : ∀ die < 4, ∀ i < 16, singleReg (Reg.XCVR_ESCAN die i) = true ∧ pairHalf (Reg.XCVR_ESCAN die i) = .none := by
  decide

theorem single_XCVR_LCMD : ∀ die < 4, ∀ i < 16, singleReg (Reg.XCVR_LCMD die i) = true ∧ pairHalf (Reg.XCVR_LCMD die i) = .none := by
  decide

theorem single_XCVR_LCTL : ∀ die < 4, ∀ i < 16, singleReg (Reg.XCVR_LCTL die i) = true ∧ pairHalf (Reg.XCVR_LCTL die i) = .none := by
  decide

theorem single_XCVR_TXEQ : ∀ die < 4, ∀ i < 16, singleReg (Reg.XCVR_TXEQ die i) = true ∧ pairHalf (Reg.XCVR_TXEQ die i) = .none := by
  decide

theorem writes_DOM_ACC_HI : ∀ i < 16, takesWrites (Reg.DOM_ACC_HI i) = true := by
  decide

theorem writes_DOM_ACC_LO : ∀ i < 16, takesWrites (Reg.DOM_ACC_LO i) = true := by
  decide

theorem writes_DOM_LOAD_HI : ∀ i < 16, takesWrites (Reg.DOM_LOAD_HI i) = true := by
  decide

theorem writes_DOM_LOAD_LO : ∀ i < 16, takesWrites (Reg.DOM_LOAD_LO i) = true := by
  decide

theorem writes_DOM_VEL_HI : ∀ i < 16, takesWrites (Reg.DOM_VEL_HI i) = true := by
  decide

theorem writes_DOM_VEL_LO : ∀ i < 16, takesWrites (Reg.DOM_VEL_LO i) = true := by
  decide

theorem writes_TIO_OUT_HI : ∀ die < 4, ∀ i < 240, takesWrites (Reg.TIO_OUT_HI die i) = true := by
  intro die hd i hi
  have ht : Nat.testBit 15 die = true := by revert hd; revert die; decide
  have hd3 : die ≤ 3 := by omega
  have h1 : i ≤ 239 := by omega
  have h2 : i ≤ 240 := by omega
  simp [takesWrites, Reg.TIO_OUT_HI, regDef?, keyOff_regKey, keyInst_regKey, keyUnit_regKey, keyDie_regKey, show i < 4096 by omega, instExists, regRows, rowsTIO, RegDef.covers, List.find?, h1, h2, ht, hd3]

theorem writes_TIO_OUT_LO : ∀ die < 4, ∀ i < 240, takesWrites (Reg.TIO_OUT_LO die i) = true := by
  intro die hd i hi
  have ht : Nat.testBit 15 die = true := by revert hd; revert die; decide
  have hd3 : die ≤ 3 := by omega
  have h1 : i ≤ 239 := by omega
  have h2 : i ≤ 240 := by omega
  simp [takesWrites, Reg.TIO_OUT_LO, regDef?, keyOff_regKey, keyInst_regKey, keyUnit_regKey, keyDie_regKey, show i < 4096 by omega, instExists, regRows, rowsTIO, RegDef.covers, List.find?, h1, h2, ht, hd3]

end Sys2Proof.Machine
end

