-- ==== Sys2Proof/Laws/Ops.lean ====
section
/-!
SUPPORT. What the shared operations do, said once: registers, units, lines, completions.
-/
namespace Sys2Proof.Machine

theorem rd_wr_self (s : State) (k : Nat) (w : Word) : (s.wr k w).rd k = w := by simp [State.rd, State.wr]

theorem rd_wr_other {s : State} {j k : Nat} {w : Word} (h : j ≠ k) : (s.wr k w).rd j = s.rd j := by simp [State.rd, State.wr, SMap.get_set_other h]

theorem put_level (l : Line) (x : DWord) (v o : Bool) : (l.put x v o).1.level = v ∧ (l.put x v o).1.oe = o ∧ (l.put x v o).1.pulse = l.pulse := by
  unfold Line.put
  by_cases h : l.asked = some x
  · simp only [h, if_true]
    split
    · repeat' split
      all_goals exact ⟨rfl, rfl, rfl⟩
    · exact ⟨rfl, rfl, rfl⟩
  · simp only [h, if_false]
    split
    · rename_i h; exact ⟨h.1.symm, h.2.symm, rfl⟩
    · exact ⟨rfl, rfl, rfl⟩

theorem endNow_time {s : State} {x : DWord} (f : Nat) (h : x ≤ s.tickEnd) : s.endNow f (.time x) = some (later x (s.now + 1)) := by
  simp [State.endNow, h]

theorem get_setUnit (s : State) (d n : Nat) (x : Tio) : (s.setUnit d n x).unit d n = x := by simp [State.unit, State.setUnit]

theorem setUnit_setUnit (s : State) (d n : Nat) (x y : Tio) : (s.setUnit d n x).setUnit d n y = s.setUnit d n y := by simp [State.setUnit, SMap.set_set]

theorem unit_flagIf (a : State) (c : Bool) (k i d n : Nat) : (a.flagIf c k i).unit d n = a.unit d n := by unfold State.flagIf; split <;> rfl

theorem flagIf_frame (a : State) (c : Bool) (k i : Nat) : a.flagIf c k i = { a with csr := (a.flagIf c k i).csr } := by unfold State.flagIf; split <;> rfl

theorem unit_done (s : State) (k : Nat) (w) (r : Requester) (lo d n : Nat) : ((s.setHeld k w).wrote r lo).unit d n = s.unit d n := by
  unfold State.wrote; rw [completeAccess_frame]; rfl

theorem rd_done (s : State) (k : Nat) (w) (r : Requester) (lo d : Nat) : ((s.setHeld k w).wrote r lo).rd d = s.rd d := by
  unfold State.wrote; rw [completeAccess_frame]; rfl

theorem regAccess_fetched {s t : State} {r : Requester} {key : Nat} {v : Word} (hk : singleReg key = true)
    (ha : s.admits r key false = true) (hr : r.code ≠ 16) (h : (s.touched r.code key).effectRead r.code key = (t, .ok, v)) :
    s.regFetch r key = t.fetched r key v := by
  rw [regFetch_admitted hk ha hr, h]; rfl

theorem get_setDom (s : State) (d : Nat) (x : Dom) : (s.setDom d x).dom d = x := by simp [State.setDom, State.dom]

theorem setDom_setDom (s : State) (d : Nat) (x y : Dom) : (s.setDom d x).setDom d y = s.setDom d y := by simp [State.setDom, SMap.set_set]

theorem arrive_setDom (s : State) (j : Nat) (x : Dom) (i : Nat) (c : Int) (b : Bool) : (s.setDom j x).arrive i c b = s.arrive i c b := rfl

theorem add_one_one (c : Int) : c + 1 + 1 = c + 2 := by omega

theorem dom_wr (s : State) (k : Nat) (w : Word) (d : Nat) : (s.wr k w).dom d = s.dom d := rfl

theorem dom_flag (s : State) (k i : Nat) (d : Nat) : (s.flag k i).dom d = s.dom d := rfl

theorem rd_setDom (s : State) (k : Nat) (d : Nat) (x : Dom) : (s.setDom d x).rd k = s.rd k := rfl

theorem setDom_wr (s : State) (k : Nat) (w : Word) (d : Nat) (x : Dom) : (s.wr k w).setDom d x = (s.setDom d x).wr k w := rfl

theorem setDom_flag (s : State) (k i : Nat) (d : Nat) (x : Dom) : (s.flag k i).setDom d x = (s.setDom d x).flag k i := rfl

/-! ## Pins of a timed I/O unit -/

theorem putPin_frame (s : State) (die n : Nat) (x : DWord) (v o : Bool) :
    s.putPin die n x v o = { s with tio := (s.putPin die n x v o).tio, csr := (s.putPin die n x v o).csr } := by
  unfold State.putPin; dsimp only; rw [flagIf_frame, flagIf_frame]; rfl

theorem putPin_unit (s : State) (die n : Nat) (x : DWord) (v o : Bool) :
    (s.putPin die n x v o).unit die n = { s.unit die n with line := ((s.unit die n).line.put x v o).1 } := by
  unfold State.putPin; dsimp only; rw [unit_flagIf, unit_flagIf, get_setUnit]

theorem unit_setUnit_other {s : State} {die die' n m : Nat} {x : Tio} (h : die * 240 + n ≠ die' * 240 + m) :
    (s.setUnit die' m x).unit die n = s.unit die n := by simp [State.unit, State.setUnit, SMap.get_set_other h]

theorem putPin_unit_other {s : State} {die die' n m : Nat} {x : DWord} {v o : Bool} (h : die * 240 + n ≠ die' * 240 + m) :
    (s.putPin die' m x v o).unit die n = s.unit die n := by
  unfold State.putPin; dsimp only; rw [unit_flagIf, unit_flagIf, unit_setUnit_other h]

theorem raise_frame (s : State) (sev code die unit inst : Nat) (late : Bool) :
    s.raise sev code die unit inst late = { s with raised := (s.raise sev code die unit inst late).raised } := rfl

theorem flagErr_frame (s : State) (key i sev code : Nat) :
    s.flagErr key i sev code = { s with csr := (s.flagErr key i sev code).csr, raised := (s.flagErr key i sev code).raised } := by
  unfold State.flagErr; dsimp only; split <;> rfl

theorem pwmTake_frame (s : State) (die n : Nat) (org : DWord) :
    s.pwmTake die n org = { s with tio := (s.pwmTake die n org).tio, csr := (s.pwmTake die n org).csr, raised := (s.pwmTake die n org).raised } := by
  unfold State.pwmTake; dsimp only; split
  · rw [flagErr_frame]; rfl
  · rfl

theorem pwmTake_unit (s : State) (die n : Nat) (org : DWord) :
    (s.pwmTake die n org).unit die n = { s.unit die n with
      per := (s.pwmShadow die n (s.unit die n).mode).1, pa := (s.pwmShadow die n (s.unit die n).mode).2.1,
      pb := (s.pwmShadow die n (s.unit die n).mode).2.2.1, org := org, upd := none } := by
  unfold State.pwmTake; dsimp only; rw [get_setUnit]
  split
  · rw [flagErr_frame]; rfl
  · rfl

theorem encDrive_frame (s : State) (die n : Nat) (x : DWord) :
    s.encDrive die n x = { s with tio := (s.encDrive die n x).tio, csr := (s.encDrive die n x).csr, ez := (s.encDrive die n x).ez } := by
  unfold State.encDrive State.ezDrive; dsimp only; rw [putPin_frame (s.putPin die n x _ true), putPin_frame s]

theorem encDrive_unit (s : State) (die n : Nat) (x : DWord) :
    ∃ l, (s.encDrive die n x).unit die n = { s.unit die n with line := l } := by
  unfold State.encDrive
  dsimp only
  generalize ((encLevels (s.encN die n) (s.unit die n).count).1 != wbit (s.unit die n).ctl 15) = a
  generalize ((encLevels (s.encN die n) (s.unit die n).count).2.1 != wbit (s.unit die n).ctl 15) = b
  have h : ((s.putPin die n x a true).putPin die (n + 1) x b true).unit die n = { s.unit die n with line := ((s.unit die n).line.put x a true).1 } := by
    rw [putPin_unit_other (by omega), putPin_unit]
  exact ⟨_, h⟩

theorem encDrive_counts (s : State) (die n : Nat) (x : DWord) :
    ((s.encDrive die n x).unit die n).count = (s.unit die n).count ∧ ((s.encDrive die n x).unit die n).stepAt = (s.unit die n).stepAt := by
  obtain ⟨l, hl⟩ := encDrive_unit s die n x
  rw [hl]; exact ⟨rfl, rfl⟩

/-! ## Flags -/

/-- Setting a flag sets its bit. -/
theorem bit_flag_self {s : State} {k i : Nat} (h : i < 32) : (s.flag k i).bit k i = true := by
  simp only [State.flag, State.setBit, State.bit, rd_wr_self, wsetBit, wbit, if_true, BitVec.getLsbD_or, BitVec.getLsbD_ofNat, h, decide_true, Nat.testBit_two_pow_self, Bool.and_self, Bool.or_true]

/-- Setting a flag clears none. -/
theorem bit_flag_mono {s : State} {k i k' j : Nat} (h : s.bit k i = true) : (s.flag k' j).bit k i = true := by
  by_cases e : k = k'
  · subst e
    simp only [State.bit, wbit] at h
    simp [State.flag, State.setBit, State.bit, rd_wr_self, wsetBit, wbit, h]
  · simp only [State.flag, State.setBit, State.bit, rd_wr_other e]
    exact h

theorem bit_flagIf_mono {s : State} {c : Bool} {k i k' j : Nat} (h : s.bit k i = true) : (s.flagIf c k' j).bit k i = true := by
  unfold State.flagIf; split
  · exact bit_flag_mono h
  · exact h

end Sys2Proof.Machine
end

