-- ==== Sys2Proof/Laws/State.lean ====
section
/-!
SUPPORT. What each update of the state leaves unchanged, one lemma per field, and what it makes its own part read as.
-/
namespace Sys2Proof.Machine

variable (s : State)

/-! ### `wr` -/
@[simp] theorem State.wr_pending (k : Nat) (w : Word) : (s.wr k w).pending = s.pending := rfl
@[simp] theorem State.wr_bus (k : Nat) (w : Word) : (s.wr k w).bus = s.bus := rfl
@[simp] theorem State.wr_free (k : Nat) (w : Word) : (s.wr k w).free = s.free := rfl
@[simp] theorem State.wr_raised (k : Nat) (w : Word) : (s.wr k w).raised = s.raised := rfl
@[simp] theorem State.wr_spine (k : Nat) (w : Word) : (s.wr k w).spine = s.spine := rfl
@[simp] theorem State.wr_tick (k : Nat) (w : Word) : (s.wr k w).tick = s.tick := rfl
@[simp] theorem State.wr_cal (k : Nat) (w : Word) : (s.wr k w).cal = s.cal := rfl
@[simp] theorem State.wr_calWrites (k : Nat) (w : Word) : (s.wr k w).calWrites = s.calWrites := rfl
@[simp] theorem State.wr_tio (k : Nat) (w : Word) : (s.wr k w).tio = s.tio := rfl
@[simp] theorem State.wr_tioWrites (k : Nat) (w : Word) : (s.wr k w).tioWrites = s.tioWrites := rfl
@[simp] theorem State.wr_ez (k : Nat) (w : Word) : (s.wr k w).ez = s.ez := rfl
@[simp] theorem State.wr_pins (k : Nat) (w : Word) : (s.wr k w).pins = s.pins := rfl
@[simp] theorem State.wr_flights (k : Nat) (w : Word) : (s.wr k w).flights = s.flights := rfl
@[simp] theorem State.wr_fabric (k : Nat) (w : Word) : (s.wr k w).fabric = s.fabric := rfl
@[simp] theorem State.wr_facets (k : Nat) (w : Word) : (s.wr k w).facets = s.facets := rfl
@[simp] theorem State.wr_power (k : Nat) (w : Word) : (s.wr k w).power = s.power := rfl
@[simp] theorem State.wr_mem (k : Nat) (w : Word) : (s.wr k w).mem = s.mem := rfl
@[simp] theorem State.wr_net (k : Nat) (w : Word) : (s.wr k w).net = s.net := rfl
@[simp] theorem State.wr_serial (k : Nat) (w : Word) : (s.wr k w).serial = s.serial := rfl
@[simp] theorem State.wr_clk (k : Nat) (w : Word) : (s.wr k w).clk = s.clk := rfl
@[simp] theorem State.wr_boot (k : Nat) (w : Word) : (s.wr k w).boot = s.boot := rfl
@[simp] theorem State.wr_live (k : Nat) (w : Word) : (s.wr k w).live = s.live := rfl
@[simp] theorem State.wr_sec (k : Nat) (w : Word) : (s.wr k w).sec = s.sec := rfl
@[simp] theorem State.wr_session (k : Nat) (w : Word) : (s.wr k w).session = s.session := rfl
@[simp] theorem State.wr_recorder (k : Nat) (w : Word) : (s.wr k w).recorder = s.recorder := rfl
@[simp] theorem State.wr_cores (k : Nat) (w : Word) : (s.wr k w).cores = s.cores := rfl
@[simp] theorem State.wr_boxes (k : Nat) (w : Word) : (s.wr k w).boxes = s.boxes := rfl
@[simp] theorem State.wr_dies (k : Nat) (w : Word) : (s.wr k w).dies = s.dies := rfl
@[simp] theorem State.wr_grade (k : Nat) (w : Word) : (s.wr k w).grade = s.grade := rfl
@[simp] theorem State.wr_gradeI (k : Nat) (w : Word) : (s.wr k w).gradeI = s.gradeI := rfl
/-! ### `setBit` -/
@[simp] theorem State.setBit_pending (k i : Nat) (b : Bool) : (s.setBit k i b).pending = s.pending := rfl
@[simp] theorem State.setBit_bus (k i : Nat) (b : Bool) : (s.setBit k i b).bus = s.bus := rfl
@[simp] theorem State.setBit_free (k i : Nat) (b : Bool) : (s.setBit k i b).free = s.free := rfl
@[simp] theorem State.setBit_raised (k i : Nat) (b : Bool) : (s.setBit k i b).raised = s.raised := rfl
@[simp] theorem State.setBit_spine (k i : Nat) (b : Bool) : (s.setBit k i b).spine = s.spine := rfl
@[simp] theorem State.setBit_tick (k i : Nat) (b : Bool) : (s.setBit k i b).tick = s.tick := rfl
@[simp] theorem State.setBit_cal (k i : Nat) (b : Bool) : (s.setBit k i b).cal = s.cal := rfl
@[simp] theorem State.setBit_calWrites (k i : Nat) (b : Bool) : (s.setBit k i b).calWrites = s.calWrites := rfl
@[simp] theorem State.setBit_tio (k i : Nat) (b : Bool) : (s.setBit k i b).tio = s.tio := rfl
@[simp] theorem State.setBit_tioWrites (k i : Nat) (b : Bool) : (s.setBit k i b).tioWrites = s.tioWrites := rfl
@[simp] theorem State.setBit_ez (k i : Nat) (b : Bool) : (s.setBit k i b).ez = s.ez := rfl
@[simp] theorem State.setBit_pins (k i : Nat) (b : Bool) : (s.setBit k i b).pins = s.pins := rfl
@[simp] theorem State.setBit_flights (k i : Nat) (b : Bool) : (s.setBit k i b).flights = s.flights := rfl
@[simp] theorem State.setBit_fabric (k i : Nat) (b : Bool) : (s.setBit k i b).fabric = s.fabric := rfl
@[simp] theorem State.setBit_facets (k i : Nat) (b : Bool) : (s.setBit k i b).facets = s.facets := rfl
@[simp] theorem State.setBit_power (k i : Nat) (b : Bool) : (s.setBit k i b).power = s.power := rfl
@[simp] theorem State.setBit_mem (k i : Nat) (b : Bool) : (s.setBit k i b).mem = s.mem := rfl
@[simp] theorem State.setBit_net (k i : Nat) (b : Bool) : (s.setBit k i b).net = s.net := rfl
@[simp] theorem State.setBit_serial (k i : Nat) (b : Bool) : (s.setBit k i b).serial = s.serial := rfl
@[simp] theorem State.setBit_clk (k i : Nat) (b : Bool) : (s.setBit k i b).clk = s.clk := rfl
@[simp] theorem State.setBit_boot (k i : Nat) (b : Bool) : (s.setBit k i b).boot = s.boot := rfl
@[simp] theorem State.setBit_live (k i : Nat) (b : Bool) : (s.setBit k i b).live = s.live := rfl
@[simp] theorem State.setBit_sec (k i : Nat) (b : Bool) : (s.setBit k i b).sec = s.sec := rfl
@[simp] theorem State.setBit_session (k i : Nat) (b : Bool) : (s.setBit k i b).session = s.session := rfl
@[simp] theorem State.setBit_recorder (k i : Nat) (b : Bool) : (s.setBit k i b).recorder = s.recorder := rfl
@[simp] theorem State.setBit_cores (k i : Nat) (b : Bool) : (s.setBit k i b).cores = s.cores := rfl
@[simp] theorem State.setBit_boxes (k i : Nat) (b : Bool) : (s.setBit k i b).boxes = s.boxes := rfl
@[simp] theorem State.setBit_dies (k i : Nat) (b : Bool) : (s.setBit k i b).dies = s.dies := rfl
@[simp] theorem State.setBit_grade (k i : Nat) (b : Bool) : (s.setBit k i b).grade = s.grade := rfl
@[simp] theorem State.setBit_gradeI (k i : Nat) (b : Bool) : (s.setBit k i b).gradeI = s.gradeI := rfl
/-! ### `setFld` -/
@[simp] theorem State.setFld_pending (k lo n v : Nat) : (s.setFld k lo n v).pending = s.pending := rfl
@[simp] theorem State.setFld_bus (k lo n v : Nat) : (s.setFld k lo n v).bus = s.bus := rfl
@[simp] theorem State.setFld_free (k lo n v : Nat) : (s.setFld k lo n v).free = s.free := rfl
@[simp] theorem State.setFld_raised (k lo n v : Nat) : (s.setFld k lo n v).raised = s.raised := rfl
@[simp] theorem State.setFld_spine (k lo n v : Nat) : (s.setFld k lo n v).spine = s.spine := rfl
@[simp] theorem State.setFld_tick (k lo n v : Nat) : (s.setFld k lo n v).tick = s.tick := rfl
@[simp] theorem State.setFld_cal (k lo n v : Nat) : (s.setFld k lo n v).cal = s.cal := rfl
@[simp] theorem State.setFld_calWrites (k lo n v : Nat) : (s.setFld k lo n v).calWrites = s.calWrites := rfl
@[simp] theorem State.setFld_tio (k lo n v : Nat) : (s.setFld k lo n v).tio = s.tio := rfl
@[simp] theorem State.setFld_tioWrites (k lo n v : Nat) : (s.setFld k lo n v).tioWrites = s.tioWrites := rfl
@[simp] theorem State.setFld_ez (k lo n v : Nat) : (s.setFld k lo n v).ez = s.ez := rfl
@[simp] theorem State.setFld_pins (k lo n v : Nat) : (s.setFld k lo n v).pins = s.pins := rfl
@[simp] theorem State.setFld_flights (k lo n v : Nat) : (s.setFld k lo n v).flights = s.flights := rfl
@[simp] theorem State.setFld_fabric (k lo n v : Nat) : (s.setFld k lo n v).fabric = s.fabric := rfl
@[simp] theorem State.setFld_facets (k lo n v : Nat) : (s.setFld k lo n v).facets = s.facets := rfl
@[simp] theorem State.setFld_power (k lo n v : Nat) : (s.setFld k lo n v).power = s.power := rfl
@[simp] theorem State.setFld_mem (k lo n v : Nat) : (s.setFld k lo n v).mem = s.mem := rfl
@[simp] theorem State.setFld_net (k lo n v : Nat) : (s.setFld k lo n v).net = s.net := rfl
@[simp] theorem State.setFld_serial (k lo n v : Nat) : (s.setFld k lo n v).serial = s.serial := rfl
@[simp] theorem State.setFld_clk (k lo n v : Nat) : (s.setFld k lo n v).clk = s.clk := rfl
@[simp] theorem State.setFld_boot (k lo n v : Nat) : (s.setFld k lo n v).boot = s.boot := rfl
@[simp] theorem State.setFld_live (k lo n v : Nat) : (s.setFld k lo n v).live = s.live := rfl
@[simp] theorem State.setFld_sec (k lo n v : Nat) : (s.setFld k lo n v).sec = s.sec := rfl
@[simp] theorem State.setFld_session (k lo n v : Nat) : (s.setFld k lo n v).session = s.session := rfl
@[simp] theorem State.setFld_recorder (k lo n v : Nat) : (s.setFld k lo n v).recorder = s.recorder := rfl
@[simp] theorem State.setFld_cores (k lo n v : Nat) : (s.setFld k lo n v).cores = s.cores := rfl
@[simp] theorem State.setFld_boxes (k lo n v : Nat) : (s.setFld k lo n v).boxes = s.boxes := rfl
@[simp] theorem State.setFld_dies (k lo n v : Nat) : (s.setFld k lo n v).dies = s.dies := rfl
@[simp] theorem State.setFld_grade (k lo n v : Nat) : (s.setFld k lo n v).grade = s.grade := rfl
@[simp] theorem State.setFld_gradeI (k lo n v : Nat) : (s.setFld k lo n v).gradeI = s.gradeI := rfl
/-! ### `flag` -/
@[simp] theorem State.flag_pending (k i : Nat) : (s.flag k i).pending = s.pending := rfl
@[simp] theorem State.flag_bus (k i : Nat) : (s.flag k i).bus = s.bus := rfl
@[simp] theorem State.flag_free (k i : Nat) : (s.flag k i).free = s.free := rfl
@[simp] theorem State.flag_raised (k i : Nat) : (s.flag k i).raised = s.raised := rfl
@[simp] theorem State.flag_spine (k i : Nat) : (s.flag k i).spine = s.spine := rfl
@[simp] theorem State.flag_tick (k i : Nat) : (s.flag k i).tick = s.tick := rfl
@[simp] theorem State.flag_cal (k i : Nat) : (s.flag k i).cal = s.cal := rfl
@[simp] theorem State.flag_calWrites (k i : Nat) : (s.flag k i).calWrites = s.calWrites := rfl
@[simp] theorem State.flag_tio (k i : Nat) : (s.flag k i).tio = s.tio := rfl
@[simp] theorem State.flag_tioWrites (k i : Nat) : (s.flag k i).tioWrites = s.tioWrites := rfl
@[simp] theorem State.flag_ez (k i : Nat) : (s.flag k i).ez = s.ez := rfl
@[simp] theorem State.flag_pins (k i : Nat) : (s.flag k i).pins = s.pins := rfl
@[simp] theorem State.flag_flights (k i : Nat) : (s.flag k i).flights = s.flights := rfl
@[simp] theorem State.flag_fabric (k i : Nat) : (s.flag k i).fabric = s.fabric := rfl
@[simp] theorem State.flag_facets (k i : Nat) : (s.flag k i).facets = s.facets := rfl
@[simp] theorem State.flag_power (k i : Nat) : (s.flag k i).power = s.power := rfl
@[simp] theorem State.flag_mem (k i : Nat) : (s.flag k i).mem = s.mem := rfl
@[simp] theorem State.flag_net (k i : Nat) : (s.flag k i).net = s.net := rfl
@[simp] theorem State.flag_serial (k i : Nat) : (s.flag k i).serial = s.serial := rfl
@[simp] theorem State.flag_clk (k i : Nat) : (s.flag k i).clk = s.clk := rfl
@[simp] theorem State.flag_boot (k i : Nat) : (s.flag k i).boot = s.boot := rfl
@[simp] theorem State.flag_live (k i : Nat) : (s.flag k i).live = s.live := rfl
@[simp] theorem State.flag_sec (k i : Nat) : (s.flag k i).sec = s.sec := rfl
@[simp] theorem State.flag_session (k i : Nat) : (s.flag k i).session = s.session := rfl
@[simp] theorem State.flag_recorder (k i : Nat) : (s.flag k i).recorder = s.recorder := rfl
@[simp] theorem State.flag_cores (k i : Nat) : (s.flag k i).cores = s.cores := rfl
@[simp] theorem State.flag_boxes (k i : Nat) : (s.flag k i).boxes = s.boxes := rfl
@[simp] theorem State.flag_dies (k i : Nat) : (s.flag k i).dies = s.dies := rfl
@[simp] theorem State.flag_grade (k i : Nat) : (s.flag k i).grade = s.grade := rfl
@[simp] theorem State.flag_gradeI (k i : Nat) : (s.flag k i).gradeI = s.gradeI := rfl
/-! ### `answer` -/
@[simp] theorem State.answer_pending (x : Resp) (v : Word) : (s.answer x v).pending = s.pending := rfl
@[simp] theorem State.answer_csr (x : Resp) (v : Word) : (s.answer x v).csr = s.csr := rfl
@[simp] theorem State.answer_free (x : Resp) (v : Word) : (s.answer x v).free = s.free := rfl
@[simp] theorem State.answer_raised (x : Resp) (v : Word) : (s.answer x v).raised = s.raised := rfl
@[simp] theorem State.answer_spine (x : Resp) (v : Word) : (s.answer x v).spine = s.spine := rfl
@[simp] theorem State.answer_tick (x : Resp) (v : Word) : (s.answer x v).tick = s.tick := rfl
@[simp] theorem State.answer_cal (x : Resp) (v : Word) : (s.answer x v).cal = s.cal := rfl
@[simp] theorem State.answer_calWrites (x : Resp) (v : Word) : (s.answer x v).calWrites = s.calWrites := rfl
@[simp] theorem State.answer_tio (x : Resp) (v : Word) : (s.answer x v).tio = s.tio := rfl
@[simp] theorem State.answer_tioWrites (x : Resp) (v : Word) : (s.answer x v).tioWrites = s.tioWrites := rfl
@[simp] theorem State.answer_ez (x : Resp) (v : Word) : (s.answer x v).ez = s.ez := rfl
@[simp] theorem State.answer_pins (x : Resp) (v : Word) : (s.answer x v).pins = s.pins := rfl
@[simp] theorem State.answer_flights (x : Resp) (v : Word) : (s.answer x v).flights = s.flights := rfl
@[simp] theorem State.answer_fabric (x : Resp) (v : Word) : (s.answer x v).fabric = s.fabric := rfl
@[simp] theorem State.answer_facets (x : Resp) (v : Word) : (s.answer x v).facets = s.facets := rfl
@[simp] theorem State.answer_power (x : Resp) (v : Word) : (s.answer x v).power = s.power := rfl
@[simp] theorem State.answer_mem (x : Resp) (v : Word) : (s.answer x v).mem = s.mem := rfl
@[simp] theorem State.answer_net (x : Resp) (v : Word) : (s.answer x v).net = s.net := rfl
@[simp] theorem State.answer_serial (x : Resp) (v : Word) : (s.answer x v).serial = s.serial := rfl
@[simp] theorem State.answer_clk (x : Resp) (v : Word) : (s.answer x v).clk = s.clk := rfl
@[simp] theorem State.answer_boot (x : Resp) (v : Word) : (s.answer x v).boot = s.boot := rfl
@[simp] theorem State.answer_live (x : Resp) (v : Word) : (s.answer x v).live = s.live := rfl
@[simp] theorem State.answer_sec (x : Resp) (v : Word) : (s.answer x v).sec = s.sec := rfl
@[simp] theorem State.answer_session (x : Resp) (v : Word) : (s.answer x v).session = s.session := rfl
@[simp] theorem State.answer_recorder (x : Resp) (v : Word) : (s.answer x v).recorder = s.recorder := rfl
@[simp] theorem State.answer_cores (x : Resp) (v : Word) : (s.answer x v).cores = s.cores := rfl
@[simp] theorem State.answer_boxes (x : Resp) (v : Word) : (s.answer x v).boxes = s.boxes := rfl
@[simp] theorem State.answer_dies (x : Resp) (v : Word) : (s.answer x v).dies = s.dies := rfl
@[simp] theorem State.answer_grade (x : Resp) (v : Word) : (s.answer x v).grade = s.grade := rfl
@[simp] theorem State.answer_gradeI (x : Resp) (v : Word) : (s.answer x v).gradeI = s.gradeI := rfl
/-! ### `setHeld` -/
@[simp] theorem State.setHeld_pending (k : Nat) (w : Option Word) : (s.setHeld k w).pending = s.pending := rfl
@[simp] theorem State.setHeld_csr (k : Nat) (w : Option Word) : (s.setHeld k w).csr = s.csr := rfl
@[simp] theorem State.setHeld_free (k : Nat) (w : Option Word) : (s.setHeld k w).free = s.free := rfl
@[simp] theorem State.setHeld_raised (k : Nat) (w : Option Word) : (s.setHeld k w).raised = s.raised := rfl
@[simp] theorem State.setHeld_spine (k : Nat) (w : Option Word) : (s.setHeld k w).spine = s.spine := rfl
@[simp] theorem State.setHeld_tick (k : Nat) (w : Option Word) : (s.setHeld k w).tick = s.tick := rfl
@[simp] theorem State.setHeld_cal (k : Nat) (w : Option Word) : (s.setHeld k w).cal = s.cal := rfl
@[simp] theorem State.setHeld_calWrites (k : Nat) (w : Option Word) : (s.setHeld k w).calWrites = s.calWrites := rfl
@[simp] theorem State.setHeld_tio (k : Nat) (w : Option Word) : (s.setHeld k w).tio = s.tio := rfl
@[simp] theorem State.setHeld_tioWrites (k : Nat) (w : Option Word) : (s.setHeld k w).tioWrites = s.tioWrites := rfl
@[simp] theorem State.setHeld_ez (k : Nat) (w : Option Word) : (s.setHeld k w).ez = s.ez := rfl
@[simp] theorem State.setHeld_pins (k : Nat) (w : Option Word) : (s.setHeld k w).pins = s.pins := rfl
@[simp] theorem State.setHeld_flights (k : Nat) (w : Option Word) : (s.setHeld k w).flights = s.flights := rfl
@[simp] theorem State.setHeld_fabric (k : Nat) (w : Option Word) : (s.setHeld k w).fabric = s.fabric := rfl
@[simp] theorem State.setHeld_facets (k : Nat) (w : Option Word) : (s.setHeld k w).facets = s.facets := rfl
@[simp] theorem State.setHeld_power (k : Nat) (w : Option Word) : (s.setHeld k w).power = s.power := rfl
@[simp] theorem State.setHeld_mem (k : Nat) (w : Option Word) : (s.setHeld k w).mem = s.mem := rfl
@[simp] theorem State.setHeld_net (k : Nat) (w : Option Word) : (s.setHeld k w).net = s.net := rfl
@[simp] theorem State.setHeld_serial (k : Nat) (w : Option Word) : (s.setHeld k w).serial = s.serial := rfl
@[simp] theorem State.setHeld_clk (k : Nat) (w : Option Word) : (s.setHeld k w).clk = s.clk := rfl
@[simp] theorem State.setHeld_boot (k : Nat) (w : Option Word) : (s.setHeld k w).boot = s.boot := rfl
@[simp] theorem State.setHeld_live (k : Nat) (w : Option Word) : (s.setHeld k w).live = s.live := rfl
@[simp] theorem State.setHeld_sec (k : Nat) (w : Option Word) : (s.setHeld k w).sec = s.sec := rfl
@[simp] theorem State.setHeld_session (k : Nat) (w : Option Word) : (s.setHeld k w).session = s.session := rfl
@[simp] theorem State.setHeld_recorder (k : Nat) (w : Option Word) : (s.setHeld k w).recorder = s.recorder := rfl
@[simp] theorem State.setHeld_cores (k : Nat) (w : Option Word) : (s.setHeld k w).cores = s.cores := rfl
@[simp] theorem State.setHeld_boxes (k : Nat) (w : Option Word) : (s.setHeld k w).boxes = s.boxes := rfl
@[simp] theorem State.setHeld_dies (k : Nat) (w : Option Word) : (s.setHeld k w).dies = s.dies := rfl
@[simp] theorem State.setHeld_grade (k : Nat) (w : Option Word) : (s.setHeld k w).grade = s.grade := rfl
@[simp] theorem State.setHeld_gradeI (k : Nat) (w : Option Word) : (s.setHeld k w).gradeI = s.gradeI := rfl
/-! ### `setCapt` -/
@[simp] theorem State.setCapt_pending (k : Nat) (d : Option DWord) : (s.setCapt k d).pending = s.pending := rfl
@[simp] theorem State.setCapt_csr (k : Nat) (d : Option DWord) : (s.setCapt k d).csr = s.csr := rfl
@[simp] theorem State.setCapt_free (k : Nat) (d : Option DWord) : (s.setCapt k d).free = s.free := rfl
@[simp] theorem State.setCapt_raised (k : Nat) (d : Option DWord) : (s.setCapt k d).raised = s.raised := rfl
@[simp] theorem State.setCapt_spine (k : Nat) (d : Option DWord) : (s.setCapt k d).spine = s.spine := rfl
@[simp] theorem State.setCapt_tick (k : Nat) (d : Option DWord) : (s.setCapt k d).tick = s.tick := rfl
@[simp] theorem State.setCapt_cal (k : Nat) (d : Option DWord) : (s.setCapt k d).cal = s.cal := rfl
@[simp] theorem State.setCapt_calWrites (k : Nat) (d : Option DWord) : (s.setCapt k d).calWrites = s.calWrites := rfl
@[simp] theorem State.setCapt_tio (k : Nat) (d : Option DWord) : (s.setCapt k d).tio = s.tio := rfl
@[simp] theorem State.setCapt_tioWrites (k : Nat) (d : Option DWord) : (s.setCapt k d).tioWrites = s.tioWrites := rfl
@[simp] theorem State.setCapt_ez (k : Nat) (d : Option DWord) : (s.setCapt k d).ez = s.ez := rfl
@[simp] theorem State.setCapt_pins (k : Nat) (d : Option DWord) : (s.setCapt k d).pins = s.pins := rfl
@[simp] theorem State.setCapt_flights (k : Nat) (d : Option DWord) : (s.setCapt k d).flights = s.flights := rfl
@[simp] theorem State.setCapt_fabric (k : Nat) (d : Option DWord) : (s.setCapt k d).fabric = s.fabric := rfl
@[simp] theorem State.setCapt_facets (k : Nat) (d : Option DWord) : (s.setCapt k d).facets = s.facets := rfl
@[simp] theorem State.setCapt_power (k : Nat) (d : Option DWord) : (s.setCapt k d).power = s.power := rfl
@[simp] theorem State.setCapt_mem (k : Nat) (d : Option DWord) : (s.setCapt k d).mem = s.mem := rfl
@[simp] theorem State.setCapt_net (k : Nat) (d : Option DWord) : (s.setCapt k d).net = s.net := rfl
@[simp] theorem State.setCapt_serial (k : Nat) (d : Option DWord) : (s.setCapt k d).serial = s.serial := rfl
@[simp] theorem State.setCapt_clk (k : Nat) (d : Option DWord) : (s.setCapt k d).clk = s.clk := rfl
@[simp] theorem State.setCapt_boot (k : Nat) (d : Option DWord) : (s.setCapt k d).boot = s.boot := rfl
@[simp] theorem State.setCapt_live (k : Nat) (d : Option DWord) : (s.setCapt k d).live = s.live := rfl
@[simp] theorem State.setCapt_sec (k : Nat) (d : Option DWord) : (s.setCapt k d).sec = s.sec := rfl
@[simp] theorem State.setCapt_session (k : Nat) (d : Option DWord) : (s.setCapt k d).session = s.session := rfl
@[simp] theorem State.setCapt_recorder (k : Nat) (d : Option DWord) : (s.setCapt k d).recorder = s.recorder := rfl
@[simp] theorem State.setCapt_cores (k : Nat) (d : Option DWord) : (s.setCapt k d).cores = s.cores := rfl
@[simp] theorem State.setCapt_boxes (k : Nat) (d : Option DWord) : (s.setCapt k d).boxes = s.boxes := rfl
@[simp] theorem State.setCapt_dies (k : Nat) (d : Option DWord) : (s.setCapt k d).dies = s.dies := rfl
@[simp] theorem State.setCapt_grade (k : Nat) (d : Option DWord) : (s.setCapt k d).grade = s.grade := rfl
@[simp] theorem State.setCapt_gradeI (k : Nat) (d : Option DWord) : (s.setCapt k d).gradeI = s.gradeI := rfl
/-! ### `setWide` -/
@[simp] theorem State.setWide_pending (k : Nat) (l : List Word) : (s.setWide k l).pending = s.pending := rfl
@[simp] theorem State.setWide_csr (k : Nat) (l : List Word) : (s.setWide k l).csr = s.csr := rfl
@[simp] theorem State.setWide_free (k : Nat) (l : List Word) : (s.setWide k l).free = s.free := rfl
@[simp] theorem State.setWide_raised (k : Nat) (l : List Word) : (s.setWide k l).raised = s.raised := rfl
@[simp] theorem State.setWide_spine (k : Nat) (l : List Word) : (s.setWide k l).spine = s.spine := rfl
@[simp] theorem State.setWide_tick (k : Nat) (l : List Word) : (s.setWide k l).tick = s.tick := rfl
@[simp] theorem State.setWide_cal (k : Nat) (l : List Word) : (s.setWide k l).cal = s.cal := rfl
@[simp] theorem State.setWide_calWrites (k : Nat) (l : List Word) : (s.setWide k l).calWrites = s.calWrites := rfl
@[simp] theorem State.setWide_tio (k : Nat) (l : List Word) : (s.setWide k l).tio = s.tio := rfl
@[simp] theorem State.setWide_tioWrites (k : Nat) (l : List Word) : (s.setWide k l).tioWrites = s.tioWrites := rfl
@[simp] theorem State.setWide_ez (k : Nat) (l : List Word) : (s.setWide k l).ez = s.ez := rfl
@[simp] theorem State.setWide_pins (k : Nat) (l : List Word) : (s.setWide k l).pins = s.pins := rfl
@[simp] theorem State.setWide_flights (k : Nat) (l : List Word) : (s.setWide k l).flights = s.flights := rfl
@[simp] theorem State.setWide_fabric (k : Nat) (l : List Word) : (s.setWide k l).fabric = s.fabric := rfl
@[simp] theorem State.setWide_facets (k : Nat) (l : List Word) : (s.setWide k l).facets = s.facets := rfl
@[simp] theorem State.setWide_power (k : Nat) (l : List Word) : (s.setWide k l).power = s.power := rfl
@[simp] theorem State.setWide_mem (k : Nat) (l : List Word) : (s.setWide k l).mem = s.mem := rfl
@[simp] theorem State.setWide_net (k : Nat) (l : List Word) : (s.setWide k l).net = s.net := rfl
@[simp] theorem State.setWide_serial (k : Nat) (l : List Word) : (s.setWide k l).serial = s.serial := rfl
@[simp] theorem State.setWide_clk (k : Nat) (l : List Word) : (s.setWide k l).clk = s.clk := rfl
@[simp] theorem State.setWide_boot (k : Nat) (l : List Word) : (s.setWide k l).boot = s.boot := rfl
@[simp] theorem State.setWide_live (k : Nat) (l : List Word) : (s.setWide k l).live = s.live := rfl
@[simp] theorem State.setWide_sec (k : Nat) (l : List Word) : (s.setWide k l).sec = s.sec := rfl
@[simp] theorem State.setWide_session (k : Nat) (l : List Word) : (s.setWide k l).session = s.session := rfl
@[simp] theorem State.setWide_recorder (k : Nat) (l : List Word) : (s.setWide k l).recorder = s.recorder := rfl
@[simp] theorem State.setWide_cores (k : Nat) (l : List Word) : (s.setWide k l).cores = s.cores := rfl
@[simp] theorem State.setWide_boxes (k : Nat) (l : List Word) : (s.setWide k l).boxes = s.boxes := rfl
@[simp] theorem State.setWide_dies (k : Nat) (l : List Word) : (s.setWide k l).dies = s.dies := rfl
@[simp] theorem State.setWide_grade (k : Nat) (l : List Word) : (s.setWide k l).grade = s.grade := rfl
@[simp] theorem State.setWide_gradeI (k : Nat) (l : List Word) : (s.setWide k l).gradeI = s.gradeI := rfl
/-! ### `drawn` -/
@[simp] theorem State.drawn_pending  : (s.drawn).pending = s.pending := rfl
@[simp] theorem State.drawn_csr  : (s.drawn).csr = s.csr := rfl
@[simp] theorem State.drawn_bus  : (s.drawn).bus = s.bus := rfl
@[simp] theorem State.drawn_raised  : (s.drawn).raised = s.raised := rfl
@[simp] theorem State.drawn_spine  : (s.drawn).spine = s.spine := rfl
@[simp] theorem State.drawn_tick  : (s.drawn).tick = s.tick := rfl
@[simp] theorem State.drawn_cal  : (s.drawn).cal = s.cal := rfl
@[simp] theorem State.drawn_calWrites  : (s.drawn).calWrites = s.calWrites := rfl
@[simp] theorem State.drawn_tio  : (s.drawn).tio = s.tio := rfl
@[simp] theorem State.drawn_tioWrites  : (s.drawn).tioWrites = s.tioWrites := rfl
@[simp] theorem State.drawn_ez  : (s.drawn).ez = s.ez := rfl
@[simp] theorem State.drawn_pins  : (s.drawn).pins = s.pins := rfl
@[simp] theorem State.drawn_flights  : (s.drawn).flights = s.flights := rfl
@[simp] theorem State.drawn_fabric  : (s.drawn).fabric = s.fabric := rfl
@[simp] theorem State.drawn_facets  : (s.drawn).facets = s.facets := rfl
@[simp] theorem State.drawn_power  : (s.drawn).power = s.power := rfl
@[simp] theorem State.drawn_mem  : (s.drawn).mem = s.mem := rfl
@[simp] theorem State.drawn_net  : (s.drawn).net = s.net := rfl
@[simp] theorem State.drawn_serial  : (s.drawn).serial = s.serial := rfl
@[simp] theorem State.drawn_clk  : (s.drawn).clk = s.clk := rfl
@[simp] theorem State.drawn_boot  : (s.drawn).boot = s.boot := rfl
@[simp] theorem State.drawn_live  : (s.drawn).live = s.live := rfl
@[simp] theorem State.drawn_sec  : (s.drawn).sec = s.sec := rfl
@[simp] theorem State.drawn_session  : (s.drawn).session = s.session := rfl
@[simp] theorem State.drawn_recorder  : (s.drawn).recorder = s.recorder := rfl
@[simp] theorem State.drawn_cores  : (s.drawn).cores = s.cores := rfl
@[simp] theorem State.drawn_boxes  : (s.drawn).boxes = s.boxes := rfl
@[simp] theorem State.drawn_dies  : (s.drawn).dies = s.dies := rfl
@[simp] theorem State.drawn_grade  : (s.drawn).grade = s.grade := rfl
@[simp] theorem State.drawn_gradeI  : (s.drawn).gradeI = s.gradeI := rfl
/-! ### `drawnN` -/
@[simp] theorem State.drawnN_pending (n : Nat) : (s.drawnN n).pending = s.pending := rfl
@[simp] theorem State.drawnN_csr (n : Nat) : (s.drawnN n).csr = s.csr := rfl
@[simp] theorem State.drawnN_bus (n : Nat) : (s.drawnN n).bus = s.bus := rfl
@[simp] theorem State.drawnN_raised (n : Nat) : (s.drawnN n).raised = s.raised := rfl
@[simp] theorem State.drawnN_spine (n : Nat) : (s.drawnN n).spine = s.spine := rfl
@[simp] theorem State.drawnN_tick (n : Nat) : (s.drawnN n).tick = s.tick := rfl
@[simp] theorem State.drawnN_cal (n : Nat) : (s.drawnN n).cal = s.cal := rfl
@[simp] theorem State.drawnN_calWrites (n : Nat) : (s.drawnN n).calWrites = s.calWrites := rfl
@[simp] theorem State.drawnN_tio (n : Nat) : (s.drawnN n).tio = s.tio := rfl
@[simp] theorem State.drawnN_tioWrites (n : Nat) : (s.drawnN n).tioWrites = s.tioWrites := rfl
@[simp] theorem State.drawnN_ez (n : Nat) : (s.drawnN n).ez = s.ez := rfl
@[simp] theorem State.drawnN_pins (n : Nat) : (s.drawnN n).pins = s.pins := rfl
@[simp] theorem State.drawnN_flights (n : Nat) : (s.drawnN n).flights = s.flights := rfl
@[simp] theorem State.drawnN_fabric (n : Nat) : (s.drawnN n).fabric = s.fabric := rfl
@[simp] theorem State.drawnN_facets (n : Nat) : (s.drawnN n).facets = s.facets := rfl
@[simp] theorem State.drawnN_power (n : Nat) : (s.drawnN n).power = s.power := rfl
@[simp] theorem State.drawnN_mem (n : Nat) : (s.drawnN n).mem = s.mem := rfl
@[simp] theorem State.drawnN_net (n : Nat) : (s.drawnN n).net = s.net := rfl
@[simp] theorem State.drawnN_serial (n : Nat) : (s.drawnN n).serial = s.serial := rfl
@[simp] theorem State.drawnN_clk (n : Nat) : (s.drawnN n).clk = s.clk := rfl
@[simp] theorem State.drawnN_boot (n : Nat) : (s.drawnN n).boot = s.boot := rfl
@[simp] theorem State.drawnN_live (n : Nat) : (s.drawnN n).live = s.live := rfl
@[simp] theorem State.drawnN_sec (n : Nat) : (s.drawnN n).sec = s.sec := rfl
@[simp] theorem State.drawnN_session (n : Nat) : (s.drawnN n).session = s.session := rfl
@[simp] theorem State.drawnN_recorder (n : Nat) : (s.drawnN n).recorder = s.recorder := rfl
@[simp] theorem State.drawnN_cores (n : Nat) : (s.drawnN n).cores = s.cores := rfl
@[simp] theorem State.drawnN_boxes (n : Nat) : (s.drawnN n).boxes = s.boxes := rfl
@[simp] theorem State.drawnN_dies (n : Nat) : (s.drawnN n).dies = s.dies := rfl
@[simp] theorem State.drawnN_grade (n : Nat) : (s.drawnN n).grade = s.grade := rfl
@[simp] theorem State.drawnN_gradeI (n : Nat) : (s.drawnN n).gradeI = s.gradeI := rfl
/-! ### `raise` -/
@[simp] theorem State.raise_pending (sev code die unit inst : Nat) (late : Bool) : (s.raise sev code die unit inst late).pending = s.pending := rfl
@[simp] theorem State.raise_csr (sev code die unit inst : Nat) (late : Bool) : (s.raise sev code die unit inst late).csr = s.csr := rfl
@[simp] theorem State.raise_bus (sev code die unit inst : Nat) (late : Bool) : (s.raise sev code die unit inst late).bus = s.bus := rfl
@[simp] theorem State.raise_free (sev code die unit inst : Nat) (late : Bool) : (s.raise sev code die unit inst late).free = s.free := rfl
@[simp] theorem State.raise_spine (sev code die unit inst : Nat) (late : Bool) : (s.raise sev code die unit inst late).spine = s.spine := rfl
@[simp] theorem State.raise_tick (sev code die unit inst : Nat) (late : Bool) : (s.raise sev code die unit inst late).tick = s.tick := rfl
@[simp] theorem State.raise_cal (sev code die unit inst : Nat) (late : Bool) : (s.raise sev code die unit inst late).cal = s.cal := rfl
@[simp] theorem State.raise_calWrites (sev code die unit inst : Nat) (late : Bool) : (s.raise sev code die unit inst late).calWrites = s.calWrites := rfl
@[simp] theorem State.raise_tio (sev code die unit inst : Nat) (late : Bool) : (s.raise sev code die unit inst late).tio = s.tio := rfl
@[simp] theorem State.raise_tioWrites (sev code die unit inst : Nat) (late : Bool) : (s.raise sev code die unit inst late).tioWrites = s.tioWrites := rfl
@[simp] theorem State.raise_ez (sev code die unit inst : Nat) (late : Bool) : (s.raise sev code die unit inst late).ez = s.ez := rfl
@[simp] theorem State.raise_pins (sev code die unit inst : Nat) (late : Bool) : (s.raise sev code die unit inst late).pins = s.pins := rfl
@[simp] theorem State.raise_flights (sev code die unit inst : Nat) (late : Bool) : (s.raise sev code die unit inst late).flights = s.flights := rfl
@[simp] theorem State.raise_fabric (sev code die unit inst : Nat) (late : Bool) : (s.raise sev code die unit inst late).fabric = s.fabric := rfl
@[simp] theorem State.raise_facets (sev code die unit inst : Nat) (late : Bool) : (s.raise sev code die unit inst late).facets = s.facets := rfl
@[simp] theorem State.raise_power (sev code die unit inst : Nat) (late : Bool) : (s.raise sev code die unit inst late).power = s.power := rfl
@[simp] theorem State.raise_mem (sev code die unit inst : Nat) (late : Bool) : (s.raise sev code die unit inst late).mem = s.mem := rfl
@[simp] theorem State.raise_net (sev code die unit inst : Nat) (late : Bool) : (s.raise sev code die unit inst late).net = s.net := rfl
@[simp] theorem State.raise_serial (sev code die unit inst : Nat) (late : Bool) : (s.raise sev code die unit inst late).serial = s.serial := rfl
@[simp] theorem State.raise_clk (sev code die unit inst : Nat) (late : Bool) : (s.raise sev code die unit inst late).clk = s.clk := rfl
@[simp] theorem State.raise_boot (sev code die unit inst : Nat) (late : Bool) : (s.raise sev code die unit inst late).boot = s.boot := rfl
@[simp] theorem State.raise_live (sev code die unit inst : Nat) (late : Bool) : (s.raise sev code die unit inst late).live = s.live := rfl
@[simp] theorem State.raise_sec (sev code die unit inst : Nat) (late : Bool) : (s.raise sev code die unit inst late).sec = s.sec := rfl
@[simp] theorem State.raise_session (sev code die unit inst : Nat) (late : Bool) : (s.raise sev code die unit inst late).session = s.session := rfl
@[simp] theorem State.raise_recorder (sev code die unit inst : Nat) (late : Bool) : (s.raise sev code die unit inst late).recorder = s.recorder := rfl
@[simp] theorem State.raise_cores (sev code die unit inst : Nat) (late : Bool) : (s.raise sev code die unit inst late).cores = s.cores := rfl
@[simp] theorem State.raise_boxes (sev code die unit inst : Nat) (late : Bool) : (s.raise sev code die unit inst late).boxes = s.boxes := rfl
@[simp] theorem State.raise_dies (sev code die unit inst : Nat) (late : Bool) : (s.raise sev code die unit inst late).dies = s.dies := rfl
@[simp] theorem State.raise_grade (sev code die unit inst : Nat) (late : Bool) : (s.raise sev code die unit inst late).grade = s.grade := rfl
@[simp] theorem State.raise_gradeI (sev code die unit inst : Nat) (late : Bool) : (s.raise sev code die unit inst late).gradeI = s.gradeI := rfl
/-! ### `setDom` -/
@[simp] theorem State.setDom_pending (d : Nat) (x : Dom) : (s.setDom d x).pending = s.pending := rfl
@[simp] theorem State.setDom_csr (d : Nat) (x : Dom) : (s.setDom d x).csr = s.csr := rfl
@[simp] theorem State.setDom_bus (d : Nat) (x : Dom) : (s.setDom d x).bus = s.bus := rfl
@[simp] theorem State.setDom_free (d : Nat) (x : Dom) : (s.setDom d x).free = s.free := rfl
@[simp] theorem State.setDom_raised (d : Nat) (x : Dom) : (s.setDom d x).raised = s.raised := rfl
@[simp] theorem State.setDom_tick (d : Nat) (x : Dom) : (s.setDom d x).tick = s.tick := rfl
@[simp] theorem State.setDom_cal (d : Nat) (x : Dom) : (s.setDom d x).cal = s.cal := rfl
@[simp] theorem State.setDom_calWrites (d : Nat) (x : Dom) : (s.setDom d x).calWrites = s.calWrites := rfl
@[simp] theorem State.setDom_tio (d : Nat) (x : Dom) : (s.setDom d x).tio = s.tio := rfl
@[simp] theorem State.setDom_tioWrites (d : Nat) (x : Dom) : (s.setDom d x).tioWrites = s.tioWrites := rfl
@[simp] theorem State.setDom_ez (d : Nat) (x : Dom) : (s.setDom d x).ez = s.ez := rfl
@[simp] theorem State.setDom_pins (d : Nat) (x : Dom) : (s.setDom d x).pins = s.pins := rfl
@[simp] theorem State.setDom_flights (d : Nat) (x : Dom) : (s.setDom d x).flights = s.flights := rfl
@[simp] theorem State.setDom_fabric (d : Nat) (x : Dom) : (s.setDom d x).fabric = s.fabric := rfl
@[simp] theorem State.setDom_facets (d : Nat) (x : Dom) : (s.setDom d x).facets = s.facets := rfl
@[simp] theorem State.setDom_power (d : Nat) (x : Dom) : (s.setDom d x).power = s.power := rfl
@[simp] theorem State.setDom_mem (d : Nat) (x : Dom) : (s.setDom d x).mem = s.mem := rfl
@[simp] theorem State.setDom_net (d : Nat) (x : Dom) : (s.setDom d x).net = s.net := rfl
@[simp] theorem State.setDom_serial (d : Nat) (x : Dom) : (s.setDom d x).serial = s.serial := rfl
@[simp] theorem State.setDom_clk (d : Nat) (x : Dom) : (s.setDom d x).clk = s.clk := rfl
@[simp] theorem State.setDom_boot (d : Nat) (x : Dom) : (s.setDom d x).boot = s.boot := rfl
@[simp] theorem State.setDom_live (d : Nat) (x : Dom) : (s.setDom d x).live = s.live := rfl
@[simp] theorem State.setDom_sec (d : Nat) (x : Dom) : (s.setDom d x).sec = s.sec := rfl
@[simp] theorem State.setDom_session (d : Nat) (x : Dom) : (s.setDom d x).session = s.session := rfl
@[simp] theorem State.setDom_recorder (d : Nat) (x : Dom) : (s.setDom d x).recorder = s.recorder := rfl
@[simp] theorem State.setDom_cores (d : Nat) (x : Dom) : (s.setDom d x).cores = s.cores := rfl
@[simp] theorem State.setDom_boxes (d : Nat) (x : Dom) : (s.setDom d x).boxes = s.boxes := rfl
@[simp] theorem State.setDom_dies (d : Nat) (x : Dom) : (s.setDom d x).dies = s.dies := rfl
@[simp] theorem State.setDom_grade (d : Nat) (x : Dom) : (s.setDom d x).grade = s.grade := rfl
@[simp] theorem State.setDom_gradeI (d : Nat) (x : Dom) : (s.setDom d x).gradeI = s.gradeI := rfl
/-! ### `setSlice` -/
@[simp] theorem State.setSlice_self (die : Nat) (x : CalSlice) : (s.setSlice die x).slice die = x := by simp [State.setSlice, State.slice]
@[simp] theorem State.setSlice_pending (die : Nat) (x : CalSlice) : (s.setSlice die x).pending = s.pending := rfl
@[simp] theorem State.setSlice_csr (die : Nat) (x : CalSlice) : (s.setSlice die x).csr = s.csr := rfl
@[simp] theorem State.setSlice_bus (die : Nat) (x : CalSlice) : (s.setSlice die x).bus = s.bus := rfl
@[simp] theorem State.setSlice_free (die : Nat) (x : CalSlice) : (s.setSlice die x).free = s.free := rfl
@[simp] theorem State.setSlice_raised (die : Nat) (x : CalSlice) : (s.setSlice die x).raised = s.raised := rfl
@[simp] theorem State.setSlice_spine (die : Nat) (x : CalSlice) : (s.setSlice die x).spine = s.spine := rfl
@[simp] theorem State.setSlice_tick (die : Nat) (x : CalSlice) : (s.setSlice die x).tick = s.tick := rfl
@[simp] theorem State.setSlice_calWrites (die : Nat) (x : CalSlice) : (s.setSlice die x).calWrites = s.calWrites := rfl
@[simp] theorem State.setSlice_tio (die : Nat) (x : CalSlice) : (s.setSlice die x).tio = s.tio := rfl
@[simp] theorem State.setSlice_tioWrites (die : Nat) (x : CalSlice) : (s.setSlice die x).tioWrites = s.tioWrites := rfl
@[simp] theorem State.setSlice_ez (die : Nat) (x : CalSlice) : (s.setSlice die x).ez = s.ez := rfl
@[simp] theorem State.setSlice_pins (die : Nat) (x : CalSlice) : (s.setSlice die x).pins = s.pins := rfl
@[simp] theorem State.setSlice_flights (die : Nat) (x : CalSlice) : (s.setSlice die x).flights = s.flights := rfl
@[simp] theorem State.setSlice_fabric (die : Nat) (x : CalSlice) : (s.setSlice die x).fabric = s.fabric := rfl
@[simp] theorem State.setSlice_facets (die : Nat) (x : CalSlice) : (s.setSlice die x).facets = s.facets := rfl
@[simp] theorem State.setSlice_power (die : Nat) (x : CalSlice) : (s.setSlice die x).power = s.power := rfl
@[simp] theorem State.setSlice_mem (die : Nat) (x : CalSlice) : (s.setSlice die x).mem = s.mem := rfl
@[simp] theorem State.setSlice_net (die : Nat) (x : CalSlice) : (s.setSlice die x).net = s.net := rfl
@[simp] theorem State.setSlice_serial (die : Nat) (x : CalSlice) : (s.setSlice die x).serial = s.serial := rfl
@[simp] theorem State.setSlice_clk (die : Nat) (x : CalSlice) : (s.setSlice die x).clk = s.clk := rfl
@[simp] theorem State.setSlice_boot (die : Nat) (x : CalSlice) : (s.setSlice die x).boot = s.boot := rfl
@[simp] theorem State.setSlice_live (die : Nat) (x : CalSlice) : (s.setSlice die x).live = s.live := rfl
@[simp] theorem State.setSlice_sec (die : Nat) (x : CalSlice) : (s.setSlice die x).sec = s.sec := rfl
@[simp] theorem State.setSlice_session (die : Nat) (x : CalSlice) : (s.setSlice die x).session = s.session := rfl
@[simp] theorem State.setSlice_recorder (die : Nat) (x : CalSlice) : (s.setSlice die x).recorder = s.recorder := rfl
@[simp] theorem State.setSlice_cores (die : Nat) (x : CalSlice) : (s.setSlice die x).cores = s.cores := rfl
@[simp] theorem State.setSlice_boxes (die : Nat) (x : CalSlice) : (s.setSlice die x).boxes = s.boxes := rfl
@[simp] theorem State.setSlice_dies (die : Nat) (x : CalSlice) : (s.setSlice die x).dies = s.dies := rfl
@[simp] theorem State.setSlice_grade (die : Nat) (x : CalSlice) : (s.setSlice die x).grade = s.grade := rfl
@[simp] theorem State.setSlice_gradeI (die : Nat) (x : CalSlice) : (s.setSlice die x).gradeI = s.gradeI := rfl
/-! ### `setUnit` -/
@[simp] theorem State.setUnit_pending (die n : Nat) (x : Tio) : (s.setUnit die n x).pending = s.pending := rfl
@[simp] theorem State.setUnit_csr (die n : Nat) (x : Tio) : (s.setUnit die n x).csr = s.csr := rfl
@[simp] theorem State.setUnit_bus (die n : Nat) (x : Tio) : (s.setUnit die n x).bus = s.bus := rfl
@[simp] theorem State.setUnit_free (die n : Nat) (x : Tio) : (s.setUnit die n x).free = s.free := rfl
@[simp] theorem State.setUnit_raised (die n : Nat) (x : Tio) : (s.setUnit die n x).raised = s.raised := rfl
@[simp] theorem State.setUnit_spine (die n : Nat) (x : Tio) : (s.setUnit die n x).spine = s.spine := rfl
@[simp] theorem State.setUnit_tick (die n : Nat) (x : Tio) : (s.setUnit die n x).tick = s.tick := rfl
@[simp] theorem State.setUnit_cal (die n : Nat) (x : Tio) : (s.setUnit die n x).cal = s.cal := rfl
@[simp] theorem State.setUnit_calWrites (die n : Nat) (x : Tio) : (s.setUnit die n x).calWrites = s.calWrites := rfl
@[simp] theorem State.setUnit_tioWrites (die n : Nat) (x : Tio) : (s.setUnit die n x).tioWrites = s.tioWrites := rfl
@[simp] theorem State.setUnit_ez (die n : Nat) (x : Tio) : (s.setUnit die n x).ez = s.ez := rfl
@[simp] theorem State.setUnit_pins (die n : Nat) (x : Tio) : (s.setUnit die n x).pins = s.pins := rfl
@[simp] theorem State.setUnit_flights (die n : Nat) (x : Tio) : (s.setUnit die n x).flights = s.flights := rfl
@[simp] theorem State.setUnit_fabric (die n : Nat) (x : Tio) : (s.setUnit die n x).fabric = s.fabric := rfl
@[simp] theorem State.setUnit_facets (die n : Nat) (x : Tio) : (s.setUnit die n x).facets = s.facets := rfl
@[simp] theorem State.setUnit_power (die n : Nat) (x : Tio) : (s.setUnit die n x).power = s.power := rfl
@[simp] theorem State.setUnit_mem (die n : Nat) (x : Tio) : (s.setUnit die n x).mem = s.mem := rfl
@[simp] theorem State.setUnit_net (die n : Nat) (x : Tio) : (s.setUnit die n x).net = s.net := rfl
@[simp] theorem State.setUnit_serial (die n : Nat) (x : Tio) : (s.setUnit die n x).serial = s.serial := rfl
@[simp] theorem State.setUnit_clk (die n : Nat) (x : Tio) : (s.setUnit die n x).clk = s.clk := rfl
@[simp] theorem State.setUnit_boot (die n : Nat) (x : Tio) : (s.setUnit die n x).boot = s.boot := rfl
@[simp] theorem State.setUnit_live (die n : Nat) (x : Tio) : (s.setUnit die n x).live = s.live := rfl
@[simp] theorem State.setUnit_sec (die n : Nat) (x : Tio) : (s.setUnit die n x).sec = s.sec := rfl
@[simp] theorem State.setUnit_session (die n : Nat) (x : Tio) : (s.setUnit die n x).session = s.session := rfl
@[simp] theorem State.setUnit_recorder (die n : Nat) (x : Tio) : (s.setUnit die n x).recorder = s.recorder := rfl
@[simp] theorem State.setUnit_cores (die n : Nat) (x : Tio) : (s.setUnit die n x).cores = s.cores := rfl
@[simp] theorem State.setUnit_boxes (die n : Nat) (x : Tio) : (s.setUnit die n x).boxes = s.boxes := rfl
@[simp] theorem State.setUnit_dies (die n : Nat) (x : Tio) : (s.setUnit die n x).dies = s.dies := rfl
@[simp] theorem State.setUnit_grade (die n : Nat) (x : Tio) : (s.setUnit die n x).grade = s.grade := rfl
@[simp] theorem State.setUnit_gradeI (die n : Nat) (x : Tio) : (s.setUnit die n x).gradeI = s.gradeI := rfl
/-! ### `setPad` -/
@[simp] theorem State.setPad_self (die p : Nat) (x : Pad) : (s.setPad die p x).pad die p = x := by simp [State.setPad, State.pad]
@[simp] theorem State.setPad_pending (die p : Nat) (x : Pad) : (s.setPad die p x).pending = s.pending := rfl
@[simp] theorem State.setPad_csr (die p : Nat) (x : Pad) : (s.setPad die p x).csr = s.csr := rfl
@[simp] theorem State.setPad_bus (die p : Nat) (x : Pad) : (s.setPad die p x).bus = s.bus := rfl
@[simp] theorem State.setPad_free (die p : Nat) (x : Pad) : (s.setPad die p x).free = s.free := rfl
@[simp] theorem State.setPad_raised (die p : Nat) (x : Pad) : (s.setPad die p x).raised = s.raised := rfl
@[simp] theorem State.setPad_spine (die p : Nat) (x : Pad) : (s.setPad die p x).spine = s.spine := rfl
@[simp] theorem State.setPad_tick (die p : Nat) (x : Pad) : (s.setPad die p x).tick = s.tick := rfl
@[simp] theorem State.setPad_cal (die p : Nat) (x : Pad) : (s.setPad die p x).cal = s.cal := rfl
@[simp] theorem State.setPad_calWrites (die p : Nat) (x : Pad) : (s.setPad die p x).calWrites = s.calWrites := rfl
@[simp] theorem State.setPad_tio (die p : Nat) (x : Pad) : (s.setPad die p x).tio = s.tio := rfl
@[simp] theorem State.setPad_tioWrites (die p : Nat) (x : Pad) : (s.setPad die p x).tioWrites = s.tioWrites := rfl
@[simp] theorem State.setPad_ez (die p : Nat) (x : Pad) : (s.setPad die p x).ez = s.ez := rfl
@[simp] theorem State.setPad_flights (die p : Nat) (x : Pad) : (s.setPad die p x).flights = s.flights := rfl
@[simp] theorem State.setPad_fabric (die p : Nat) (x : Pad) : (s.setPad die p x).fabric = s.fabric := rfl
@[simp] theorem State.setPad_facets (die p : Nat) (x : Pad) : (s.setPad die p x).facets = s.facets := rfl
@[simp] theorem State.setPad_power (die p : Nat) (x : Pad) : (s.setPad die p x).power = s.power := rfl
@[simp] theorem State.setPad_mem (die p : Nat) (x : Pad) : (s.setPad die p x).mem = s.mem := rfl
@[simp] theorem State.setPad_net (die p : Nat) (x : Pad) : (s.setPad die p x).net = s.net := rfl
@[simp] theorem State.setPad_serial (die p : Nat) (x : Pad) : (s.setPad die p x).serial = s.serial := rfl
@[simp] theorem State.setPad_clk (die p : Nat) (x : Pad) : (s.setPad die p x).clk = s.clk := rfl
@[simp] theorem State.setPad_boot (die p : Nat) (x : Pad) : (s.setPad die p x).boot = s.boot := rfl
@[simp] theorem State.setPad_live (die p : Nat) (x : Pad) : (s.setPad die p x).live = s.live := rfl
@[simp] theorem State.setPad_sec (die p : Nat) (x : Pad) : (s.setPad die p x).sec = s.sec := rfl
@[simp] theorem State.setPad_session (die p : Nat) (x : Pad) : (s.setPad die p x).session = s.session := rfl
@[simp] theorem State.setPad_recorder (die p : Nat) (x : Pad) : (s.setPad die p x).recorder = s.recorder := rfl
@[simp] theorem State.setPad_cores (die p : Nat) (x : Pad) : (s.setPad die p x).cores = s.cores := rfl
@[simp] theorem State.setPad_boxes (die p : Nat) (x : Pad) : (s.setPad die p x).boxes = s.boxes := rfl
@[simp] theorem State.setPad_dies (die p : Nat) (x : Pad) : (s.setPad die p x).dies = s.dies := rfl
@[simp] theorem State.setPad_grade (die p : Nat) (x : Pad) : (s.setPad die p x).grade = s.grade := rfl
@[simp] theorem State.setPad_gradeI (die p : Nat) (x : Pad) : (s.setPad die p x).gradeI = s.gradeI := rfl
/-! ### `setLockSeq` -/
@[simp] theorem State.setLockSeq_self (die : Nat) (x : Option (Nat × Nat × Nat)) : (s.setLockSeq die x).lockSeq die = x := by simp [State.setLockSeq, State.lockSeq]
@[simp] theorem State.setLockSeq_pending (die : Nat) (x : Option (Nat × Nat × Nat)) : (s.setLockSeq die x).pending = s.pending := rfl
@[simp] theorem State.setLockSeq_csr (die : Nat) (x : Option (Nat × Nat × Nat)) : (s.setLockSeq die x).csr = s.csr := rfl
@[simp] theorem State.setLockSeq_bus (die : Nat) (x : Option (Nat × Nat × Nat)) : (s.setLockSeq die x).bus = s.bus := rfl
@[simp] theorem State.setLockSeq_free (die : Nat) (x : Option (Nat × Nat × Nat)) : (s.setLockSeq die x).free = s.free := rfl
@[simp] theorem State.setLockSeq_raised (die : Nat) (x : Option (Nat × Nat × Nat)) : (s.setLockSeq die x).raised = s.raised := rfl
@[simp] theorem State.setLockSeq_spine (die : Nat) (x : Option (Nat × Nat × Nat)) : (s.setLockSeq die x).spine = s.spine := rfl
@[simp] theorem State.setLockSeq_tick (die : Nat) (x : Option (Nat × Nat × Nat)) : (s.setLockSeq die x).tick = s.tick := rfl
@[simp] theorem State.setLockSeq_cal (die : Nat) (x : Option (Nat × Nat × Nat)) : (s.setLockSeq die x).cal = s.cal := rfl
@[simp] theorem State.setLockSeq_calWrites (die : Nat) (x : Option (Nat × Nat × Nat)) : (s.setLockSeq die x).calWrites = s.calWrites := rfl
@[simp] theorem State.setLockSeq_tio (die : Nat) (x : Option (Nat × Nat × Nat)) : (s.setLockSeq die x).tio = s.tio := rfl
@[simp] theorem State.setLockSeq_tioWrites (die : Nat) (x : Option (Nat × Nat × Nat)) : (s.setLockSeq die x).tioWrites = s.tioWrites := rfl
@[simp] theorem State.setLockSeq_ez (die : Nat) (x : Option (Nat × Nat × Nat)) : (s.setLockSeq die x).ez = s.ez := rfl
@[simp] theorem State.setLockSeq_flights (die : Nat) (x : Option (Nat × Nat × Nat)) : (s.setLockSeq die x).flights = s.flights := rfl
@[simp] theorem State.setLockSeq_fabric (die : Nat) (x : Option (Nat × Nat × Nat)) : (s.setLockSeq die x).fabric = s.fabric := rfl
@[simp] theorem State.setLockSeq_facets (die : Nat) (x : Option (Nat × Nat × Nat)) : (s.setLockSeq die x).facets = s.facets := rfl
@[simp] theorem State.setLockSeq_power (die : Nat) (x : Option (Nat × Nat × Nat)) : (s.setLockSeq die x).power = s.power := rfl
@[simp] theorem State.setLockSeq_mem (die : Nat) (x : Option (Nat × Nat × Nat)) : (s.setLockSeq die x).mem = s.mem := rfl
@[simp] theorem State.setLockSeq_net (die : Nat) (x : Option (Nat × Nat × Nat)) : (s.setLockSeq die x).net = s.net := rfl
@[simp] theorem State.setLockSeq_serial (die : Nat) (x : Option (Nat × Nat × Nat)) : (s.setLockSeq die x).serial = s.serial := rfl
@[simp] theorem State.setLockSeq_clk (die : Nat) (x : Option (Nat × Nat × Nat)) : (s.setLockSeq die x).clk = s.clk := rfl
@[simp] theorem State.setLockSeq_boot (die : Nat) (x : Option (Nat × Nat × Nat)) : (s.setLockSeq die x).boot = s.boot := rfl
@[simp] theorem State.setLockSeq_live (die : Nat) (x : Option (Nat × Nat × Nat)) : (s.setLockSeq die x).live = s.live := rfl
@[simp] theorem State.setLockSeq_sec (die : Nat) (x : Option (Nat × Nat × Nat)) : (s.setLockSeq die x).sec = s.sec := rfl
@[simp] theorem State.setLockSeq_session (die : Nat) (x : Option (Nat × Nat × Nat)) : (s.setLockSeq die x).session = s.session := rfl
@[simp] theorem State.setLockSeq_recorder (die : Nat) (x : Option (Nat × Nat × Nat)) : (s.setLockSeq die x).recorder = s.recorder := rfl
@[simp] theorem State.setLockSeq_cores (die : Nat) (x : Option (Nat × Nat × Nat)) : (s.setLockSeq die x).cores = s.cores := rfl
@[simp] theorem State.setLockSeq_boxes (die : Nat) (x : Option (Nat × Nat × Nat)) : (s.setLockSeq die x).boxes = s.boxes := rfl
@[simp] theorem State.setLockSeq_dies (die : Nat) (x : Option (Nat × Nat × Nat)) : (s.setLockSeq die x).dies = s.dies := rfl
@[simp] theorem State.setLockSeq_grade (die : Nat) (x : Option (Nat × Nat × Nat)) : (s.setLockSeq die x).grade = s.grade := rfl
@[simp] theorem State.setLockSeq_gradeI (die : Nat) (x : Option (Nat × Nat × Nat)) : (s.setLockSeq die x).gradeI = s.gradeI := rfl
/-! ### `setFabric` -/
@[simp] theorem State.setFabric_pending (f : Fabric → Fabric) : (s.setFabric f).pending = s.pending := rfl
@[simp] theorem State.setFabric_csr (f : Fabric → Fabric) : (s.setFabric f).csr = s.csr := rfl
@[simp] theorem State.setFabric_bus (f : Fabric → Fabric) : (s.setFabric f).bus = s.bus := rfl
@[simp] theorem State.setFabric_free (f : Fabric → Fabric) : (s.setFabric f).free = s.free := rfl
@[simp] theorem State.setFabric_raised (f : Fabric → Fabric) : (s.setFabric f).raised = s.raised := rfl
@[simp] theorem State.setFabric_spine (f : Fabric → Fabric) : (s.setFabric f).spine = s.spine := rfl
@[simp] theorem State.setFabric_tick (f : Fabric → Fabric) : (s.setFabric f).tick = s.tick := rfl
@[simp] theorem State.setFabric_cal (f : Fabric → Fabric) : (s.setFabric f).cal = s.cal := rfl
@[simp] theorem State.setFabric_calWrites (f : Fabric → Fabric) : (s.setFabric f).calWrites = s.calWrites := rfl
@[simp] theorem State.setFabric_tio (f : Fabric → Fabric) : (s.setFabric f).tio = s.tio := rfl
@[simp] theorem State.setFabric_tioWrites (f : Fabric → Fabric) : (s.setFabric f).tioWrites = s.tioWrites := rfl
@[simp] theorem State.setFabric_ez (f : Fabric → Fabric) : (s.setFabric f).ez = s.ez := rfl
@[simp] theorem State.setFabric_pins (f : Fabric → Fabric) : (s.setFabric f).pins = s.pins := rfl
@[simp] theorem State.setFabric_flights (f : Fabric → Fabric) : (s.setFabric f).flights = s.flights := rfl
@[simp] theorem State.setFabric_facets (f : Fabric → Fabric) : (s.setFabric f).facets = s.facets := rfl
@[simp] theorem State.setFabric_power (f : Fabric → Fabric) : (s.setFabric f).power = s.power := rfl
@[simp] theorem State.setFabric_mem (f : Fabric → Fabric) : (s.setFabric f).mem = s.mem := rfl
@[simp] theorem State.setFabric_net (f : Fabric → Fabric) : (s.setFabric f).net = s.net := rfl
@[simp] theorem State.setFabric_serial (f : Fabric → Fabric) : (s.setFabric f).serial = s.serial := rfl
@[simp] theorem State.setFabric_clk (f : Fabric → Fabric) : (s.setFabric f).clk = s.clk := rfl
@[simp] theorem State.setFabric_boot (f : Fabric → Fabric) : (s.setFabric f).boot = s.boot := rfl
@[simp] theorem State.setFabric_live (f : Fabric → Fabric) : (s.setFabric f).live = s.live := rfl
@[simp] theorem State.setFabric_sec (f : Fabric → Fabric) : (s.setFabric f).sec = s.sec := rfl
@[simp] theorem State.setFabric_session (f : Fabric → Fabric) : (s.setFabric f).session = s.session := rfl
@[simp] theorem State.setFabric_recorder (f : Fabric → Fabric) : (s.setFabric f).recorder = s.recorder := rfl
@[simp] theorem State.setFabric_cores (f : Fabric → Fabric) : (s.setFabric f).cores = s.cores := rfl
@[simp] theorem State.setFabric_boxes (f : Fabric → Fabric) : (s.setFabric f).boxes = s.boxes := rfl
@[simp] theorem State.setFabric_dies (f : Fabric → Fabric) : (s.setFabric f).dies = s.dies := rfl
@[simp] theorem State.setFabric_grade (f : Fabric → Fabric) : (s.setFabric f).grade = s.grade := rfl
@[simp] theorem State.setFabric_gradeI (f : Fabric → Fabric) : (s.setFabric f).gradeI = s.gradeI := rfl
/-! ### `setLoupe` -/
@[simp] theorem State.setLoupe_self (die : Nat) (x : Loupe) : (s.setLoupe die x).loupe die = x := by simp [State.setLoupe, State.loupe, State.setFabric]
@[simp] theorem State.setLoupe_pending (die : Nat) (x : Loupe) : (s.setLoupe die x).pending = s.pending := rfl
@[simp] theorem State.setLoupe_csr (die : Nat) (x : Loupe) : (s.setLoupe die x).csr = s.csr := rfl
@[simp] theorem State.setLoupe_bus (die : Nat) (x : Loupe) : (s.setLoupe die x).bus = s.bus := rfl
@[simp] theorem State.setLoupe_free (die : Nat) (x : Loupe) : (s.setLoupe die x).free = s.free := rfl
@[simp] theorem State.setLoupe_raised (die : Nat) (x : Loupe) : (s.setLoupe die x).raised = s.raised := rfl
@[simp] theorem State.setLoupe_spine (die : Nat) (x : Loupe) : (s.setLoupe die x).spine = s.spine := rfl
@[simp] theorem State.setLoupe_tick (die : Nat) (x : Loupe) : (s.setLoupe die x).tick = s.tick := rfl
@[simp] theorem State.setLoupe_cal (die : Nat) (x : Loupe) : (s.setLoupe die x).cal = s.cal := rfl
@[simp] theorem State.setLoupe_calWrites (die : Nat) (x : Loupe) : (s.setLoupe die x).calWrites = s.calWrites := rfl
@[simp] theorem State.setLoupe_tio (die : Nat) (x : Loupe) : (s.setLoupe die x).tio = s.tio := rfl
@[simp] theorem State.setLoupe_tioWrites (die : Nat) (x : Loupe) : (s.setLoupe die x).tioWrites = s.tioWrites := rfl
@[simp] theorem State.setLoupe_ez (die : Nat) (x : Loupe) : (s.setLoupe die x).ez = s.ez := rfl
@[simp] theorem State.setLoupe_pins (die : Nat) (x : Loupe) : (s.setLoupe die x).pins = s.pins := rfl
@[simp] theorem State.setLoupe_flights (die : Nat) (x : Loupe) : (s.setLoupe die x).flights = s.flights := rfl
@[simp] theorem State.setLoupe_facets (die : Nat) (x : Loupe) : (s.setLoupe die x).facets = s.facets := rfl
@[simp] theorem State.setLoupe_power (die : Nat) (x : Loupe) : (s.setLoupe die x).power = s.power := rfl
@[simp] theorem State.setLoupe_mem (die : Nat) (x : Loupe) : (s.setLoupe die x).mem = s.mem := rfl
@[simp] theorem State.setLoupe_net (die : Nat) (x : Loupe) : (s.setLoupe die x).net = s.net := rfl
@[simp] theorem State.setLoupe_serial (die : Nat) (x : Loupe) : (s.setLoupe die x).serial = s.serial := rfl
@[simp] theorem State.setLoupe_clk (die : Nat) (x : Loupe) : (s.setLoupe die x).clk = s.clk := rfl
@[simp] theorem State.setLoupe_boot (die : Nat) (x : Loupe) : (s.setLoupe die x).boot = s.boot := rfl
@[simp] theorem State.setLoupe_live (die : Nat) (x : Loupe) : (s.setLoupe die x).live = s.live := rfl
@[simp] theorem State.setLoupe_sec (die : Nat) (x : Loupe) : (s.setLoupe die x).sec = s.sec := rfl
@[simp] theorem State.setLoupe_session (die : Nat) (x : Loupe) : (s.setLoupe die x).session = s.session := rfl
@[simp] theorem State.setLoupe_recorder (die : Nat) (x : Loupe) : (s.setLoupe die x).recorder = s.recorder := rfl
@[simp] theorem State.setLoupe_cores (die : Nat) (x : Loupe) : (s.setLoupe die x).cores = s.cores := rfl
@[simp] theorem State.setLoupe_boxes (die : Nat) (x : Loupe) : (s.setLoupe die x).boxes = s.boxes := rfl
@[simp] theorem State.setLoupe_dies (die : Nat) (x : Loupe) : (s.setLoupe die x).dies = s.dies := rfl
@[simp] theorem State.setLoupe_grade (die : Nat) (x : Loupe) : (s.setLoupe die x).grade = s.grade := rfl
@[simp] theorem State.setLoupe_gradeI (die : Nat) (x : Loupe) : (s.setLoupe die x).gradeI = s.gradeI := rfl
/-! ### `setXfifo` -/
@[simp] theorem State.setXfifo_self (m : Nat) (x : XFifo) : (s.setXfifo m x).xfifo m = x := by simp [State.setXfifo, State.xfifo, State.setFabric]
@[simp] theorem State.setXfifo_pending (m : Nat) (x : XFifo) : (s.setXfifo m x).pending = s.pending := rfl
@[simp] theorem State.setXfifo_csr (m : Nat) (x : XFifo) : (s.setXfifo m x).csr = s.csr := rfl
@[simp] theorem State.setXfifo_bus (m : Nat) (x : XFifo) : (s.setXfifo m x).bus = s.bus := rfl
@[simp] theorem State.setXfifo_free (m : Nat) (x : XFifo) : (s.setXfifo m x).free = s.free := rfl
@[simp] theorem State.setXfifo_raised (m : Nat) (x : XFifo) : (s.setXfifo m x).raised = s.raised := rfl
@[simp] theorem State.setXfifo_spine (m : Nat) (x : XFifo) : (s.setXfifo m x).spine = s.spine := rfl
@[simp] theorem State.setXfifo_tick (m : Nat) (x : XFifo) : (s.setXfifo m x).tick = s.tick := rfl
@[simp] theorem State.setXfifo_cal (m : Nat) (x : XFifo) : (s.setXfifo m x).cal = s.cal := rfl
@[simp] theorem State.setXfifo_calWrites (m : Nat) (x : XFifo) : (s.setXfifo m x).calWrites = s.calWrites := rfl
@[simp] theorem State.setXfifo_tio (m : Nat) (x : XFifo) : (s.setXfifo m x).tio = s.tio := rfl
@[simp] theorem State.setXfifo_tioWrites (m : Nat) (x : XFifo) : (s.setXfifo m x).tioWrites = s.tioWrites := rfl
@[simp] theorem State.setXfifo_ez (m : Nat) (x : XFifo) : (s.setXfifo m x).ez = s.ez := rfl
@[simp] theorem State.setXfifo_pins (m : Nat) (x : XFifo) : (s.setXfifo m x).pins = s.pins := rfl
@[simp] theorem State.setXfifo_flights (m : Nat) (x : XFifo) : (s.setXfifo m x).flights = s.flights := rfl
@[simp] theorem State.setXfifo_facets (m : Nat) (x : XFifo) : (s.setXfifo m x).facets = s.facets := rfl
@[simp] theorem State.setXfifo_power (m : Nat) (x : XFifo) : (s.setXfifo m x).power = s.power := rfl
@[simp] theorem State.setXfifo_mem (m : Nat) (x : XFifo) : (s.setXfifo m x).mem = s.mem := rfl
@[simp] theorem State.setXfifo_net (m : Nat) (x : XFifo) : (s.setXfifo m x).net = s.net := rfl
@[simp] theorem State.setXfifo_serial (m : Nat) (x : XFifo) : (s.setXfifo m x).serial = s.serial := rfl
@[simp] theorem State.setXfifo_clk (m : Nat) (x : XFifo) : (s.setXfifo m x).clk = s.clk := rfl
@[simp] theorem State.setXfifo_boot (m : Nat) (x : XFifo) : (s.setXfifo m x).boot = s.boot := rfl
@[simp] theorem State.setXfifo_live (m : Nat) (x : XFifo) : (s.setXfifo m x).live = s.live := rfl
@[simp] theorem State.setXfifo_sec (m : Nat) (x : XFifo) : (s.setXfifo m x).sec = s.sec := rfl
@[simp] theorem State.setXfifo_session (m : Nat) (x : XFifo) : (s.setXfifo m x).session = s.session := rfl
@[simp] theorem State.setXfifo_recorder (m : Nat) (x : XFifo) : (s.setXfifo m x).recorder = s.recorder := rfl
@[simp] theorem State.setXfifo_cores (m : Nat) (x : XFifo) : (s.setXfifo m x).cores = s.cores := rfl
@[simp] theorem State.setXfifo_boxes (m : Nat) (x : XFifo) : (s.setXfifo m x).boxes = s.boxes := rfl
@[simp] theorem State.setXfifo_dies (m : Nat) (x : XFifo) : (s.setXfifo m x).dies = s.dies := rfl
@[simp] theorem State.setXfifo_grade (m : Nat) (x : XFifo) : (s.setXfifo m x).grade = s.grade := rfl
@[simp] theorem State.setXfifo_gradeI (m : Nat) (x : XFifo) : (s.setXfifo m x).gradeI = s.gradeI := rfl
/-! ### `setFacet` -/
@[simp] theorem State.setFacet_self (die p : Nat) (x : Facet) : (s.setFacet die p x).facet die p = x := by simp [State.setFacet, State.facet]
@[simp] theorem State.setFacet_pending (die p : Nat) (x : Facet) : (s.setFacet die p x).pending = s.pending := rfl
@[simp] theorem State.setFacet_csr (die p : Nat) (x : Facet) : (s.setFacet die p x).csr = s.csr := rfl
@[simp] theorem State.setFacet_bus (die p : Nat) (x : Facet) : (s.setFacet die p x).bus = s.bus := rfl
@[simp] theorem State.setFacet_free (die p : Nat) (x : Facet) : (s.setFacet die p x).free = s.free := rfl
@[simp] theorem State.setFacet_raised (die p : Nat) (x : Facet) : (s.setFacet die p x).raised = s.raised := rfl
@[simp] theorem State.setFacet_spine (die p : Nat) (x : Facet) : (s.setFacet die p x).spine = s.spine := rfl
@[simp] theorem State.setFacet_tick (die p : Nat) (x : Facet) : (s.setFacet die p x).tick = s.tick := rfl
@[simp] theorem State.setFacet_cal (die p : Nat) (x : Facet) : (s.setFacet die p x).cal = s.cal := rfl
@[simp] theorem State.setFacet_calWrites (die p : Nat) (x : Facet) : (s.setFacet die p x).calWrites = s.calWrites := rfl
@[simp] theorem State.setFacet_tio (die p : Nat) (x : Facet) : (s.setFacet die p x).tio = s.tio := rfl
@[simp] theorem State.setFacet_tioWrites (die p : Nat) (x : Facet) : (s.setFacet die p x).tioWrites = s.tioWrites := rfl
@[simp] theorem State.setFacet_ez (die p : Nat) (x : Facet) : (s.setFacet die p x).ez = s.ez := rfl
@[simp] theorem State.setFacet_pins (die p : Nat) (x : Facet) : (s.setFacet die p x).pins = s.pins := rfl
@[simp] theorem State.setFacet_flights (die p : Nat) (x : Facet) : (s.setFacet die p x).flights = s.flights := rfl
@[simp] theorem State.setFacet_fabric (die p : Nat) (x : Facet) : (s.setFacet die p x).fabric = s.fabric := rfl
@[simp] theorem State.setFacet_power (die p : Nat) (x : Facet) : (s.setFacet die p x).power = s.power := rfl
@[simp] theorem State.setFacet_mem (die p : Nat) (x : Facet) : (s.setFacet die p x).mem = s.mem := rfl
@[simp] theorem State.setFacet_net (die p : Nat) (x : Facet) : (s.setFacet die p x).net = s.net := rfl
@[simp] theorem State.setFacet_serial (die p : Nat) (x : Facet) : (s.setFacet die p x).serial = s.serial := rfl
@[simp] theorem State.setFacet_clk (die p : Nat) (x : Facet) : (s.setFacet die p x).clk = s.clk := rfl
@[simp] theorem State.setFacet_boot (die p : Nat) (x : Facet) : (s.setFacet die p x).boot = s.boot := rfl
@[simp] theorem State.setFacet_live (die p : Nat) (x : Facet) : (s.setFacet die p x).live = s.live := rfl
@[simp] theorem State.setFacet_sec (die p : Nat) (x : Facet) : (s.setFacet die p x).sec = s.sec := rfl
@[simp] theorem State.setFacet_session (die p : Nat) (x : Facet) : (s.setFacet die p x).session = s.session := rfl
@[simp] theorem State.setFacet_recorder (die p : Nat) (x : Facet) : (s.setFacet die p x).recorder = s.recorder := rfl
@[simp] theorem State.setFacet_cores (die p : Nat) (x : Facet) : (s.setFacet die p x).cores = s.cores := rfl
@[simp] theorem State.setFacet_boxes (die p : Nat) (x : Facet) : (s.setFacet die p x).boxes = s.boxes := rfl
@[simp] theorem State.setFacet_dies (die p : Nat) (x : Facet) : (s.setFacet die p x).dies = s.dies := rfl
@[simp] theorem State.setFacet_grade (die p : Nat) (x : Facet) : (s.setFacet die p x).grade = s.grade := rfl
@[simp] theorem State.setFacet_gradeI (die p : Nat) (x : Facet) : (s.setFacet die p x).gradeI = s.gradeI := rfl
/-! ### `setPorts` -/
@[simp] theorem State.setPorts_self (die l : Nat) (x : Ports) : (s.setPorts die l x).ports die l = x := by simp [State.setPorts, State.ports]
@[simp] theorem State.setPorts_pending (die l : Nat) (x : Ports) : (s.setPorts die l x).pending = s.pending := rfl
@[simp] theorem State.setPorts_csr (die l : Nat) (x : Ports) : (s.setPorts die l x).csr = s.csr := rfl
@[simp] theorem State.setPorts_bus (die l : Nat) (x : Ports) : (s.setPorts die l x).bus = s.bus := rfl
@[simp] theorem State.setPorts_free (die l : Nat) (x : Ports) : (s.setPorts die l x).free = s.free := rfl
@[simp] theorem State.setPorts_raised (die l : Nat) (x : Ports) : (s.setPorts die l x).raised = s.raised := rfl
@[simp] theorem State.setPorts_spine (die l : Nat) (x : Ports) : (s.setPorts die l x).spine = s.spine := rfl
@[simp] theorem State.setPorts_tick (die l : Nat) (x : Ports) : (s.setPorts die l x).tick = s.tick := rfl
@[simp] theorem State.setPorts_cal (die l : Nat) (x : Ports) : (s.setPorts die l x).cal = s.cal := rfl
@[simp] theorem State.setPorts_calWrites (die l : Nat) (x : Ports) : (s.setPorts die l x).calWrites = s.calWrites := rfl
@[simp] theorem State.setPorts_tio (die l : Nat) (x : Ports) : (s.setPorts die l x).tio = s.tio := rfl
@[simp] theorem State.setPorts_tioWrites (die l : Nat) (x : Ports) : (s.setPorts die l x).tioWrites = s.tioWrites := rfl
@[simp] theorem State.setPorts_ez (die l : Nat) (x : Ports) : (s.setPorts die l x).ez = s.ez := rfl
@[simp] theorem State.setPorts_pins (die l : Nat) (x : Ports) : (s.setPorts die l x).pins = s.pins := rfl
@[simp] theorem State.setPorts_flights (die l : Nat) (x : Ports) : (s.setPorts die l x).flights = s.flights := rfl
@[simp] theorem State.setPorts_fabric (die l : Nat) (x : Ports) : (s.setPorts die l x).fabric = s.fabric := rfl
@[simp] theorem State.setPorts_power (die l : Nat) (x : Ports) : (s.setPorts die l x).power = s.power := rfl
@[simp] theorem State.setPorts_mem (die l : Nat) (x : Ports) : (s.setPorts die l x).mem = s.mem := rfl
@[simp] theorem State.setPorts_net (die l : Nat) (x : Ports) : (s.setPorts die l x).net = s.net := rfl
@[simp] theorem State.setPorts_serial (die l : Nat) (x : Ports) : (s.setPorts die l x).serial = s.serial := rfl
@[simp] theorem State.setPorts_clk (die l : Nat) (x : Ports) : (s.setPorts die l x).clk = s.clk := rfl
@[simp] theorem State.setPorts_boot (die l : Nat) (x : Ports) : (s.setPorts die l x).boot = s.boot := rfl
@[simp] theorem State.setPorts_live (die l : Nat) (x : Ports) : (s.setPorts die l x).live = s.live := rfl
@[simp] theorem State.setPorts_sec (die l : Nat) (x : Ports) : (s.setPorts die l x).sec = s.sec := rfl
@[simp] theorem State.setPorts_session (die l : Nat) (x : Ports) : (s.setPorts die l x).session = s.session := rfl
@[simp] theorem State.setPorts_recorder (die l : Nat) (x : Ports) : (s.setPorts die l x).recorder = s.recorder := rfl
@[simp] theorem State.setPorts_cores (die l : Nat) (x : Ports) : (s.setPorts die l x).cores = s.cores := rfl
@[simp] theorem State.setPorts_boxes (die l : Nat) (x : Ports) : (s.setPorts die l x).boxes = s.boxes := rfl
@[simp] theorem State.setPorts_dies (die l : Nat) (x : Ports) : (s.setPorts die l x).dies = s.dies := rfl
@[simp] theorem State.setPorts_grade (die l : Nat) (x : Ports) : (s.setPorts die l x).grade = s.grade := rfl
@[simp] theorem State.setPorts_gradeI (die l : Nat) (x : Ports) : (s.setPorts die l x).gradeI = s.gradeI := rfl
/-! ### `setDisp` -/
@[simp] theorem State.setDisp_self (die rg : Nat) (x : Dispatcher) : (s.setDisp die rg x).disp die rg = x := by simp [State.setDisp, State.disp]
@[simp] theorem State.setDisp_pending (die rg : Nat) (x : Dispatcher) : (s.setDisp die rg x).pending = s.pending := rfl
@[simp] theorem State.setDisp_csr (die rg : Nat) (x : Dispatcher) : (s.setDisp die rg x).csr = s.csr := rfl
@[simp] theorem State.setDisp_bus (die rg : Nat) (x : Dispatcher) : (s.setDisp die rg x).bus = s.bus := rfl
@[simp] theorem State.setDisp_free (die rg : Nat) (x : Dispatcher) : (s.setDisp die rg x).free = s.free := rfl
@[simp] theorem State.setDisp_raised (die rg : Nat) (x : Dispatcher) : (s.setDisp die rg x).raised = s.raised := rfl
@[simp] theorem State.setDisp_spine (die rg : Nat) (x : Dispatcher) : (s.setDisp die rg x).spine = s.spine := rfl
@[simp] theorem State.setDisp_tick (die rg : Nat) (x : Dispatcher) : (s.setDisp die rg x).tick = s.tick := rfl
@[simp] theorem State.setDisp_cal (die rg : Nat) (x : Dispatcher) : (s.setDisp die rg x).cal = s.cal := rfl
@[simp] theorem State.setDisp_calWrites (die rg : Nat) (x : Dispatcher) : (s.setDisp die rg x).calWrites = s.calWrites := rfl
@[simp] theorem State.setDisp_tio (die rg : Nat) (x : Dispatcher) : (s.setDisp die rg x).tio = s.tio := rfl
@[simp] theorem State.setDisp_tioWrites (die rg : Nat) (x : Dispatcher) : (s.setDisp die rg x).tioWrites = s.tioWrites := rfl
@[simp] theorem State.setDisp_ez (die rg : Nat) (x : Dispatcher) : (s.setDisp die rg x).ez = s.ez := rfl
@[simp] theorem State.setDisp_pins (die rg : Nat) (x : Dispatcher) : (s.setDisp die rg x).pins = s.pins := rfl
@[simp] theorem State.setDisp_flights (die rg : Nat) (x : Dispatcher) : (s.setDisp die rg x).flights = s.flights := rfl
@[simp] theorem State.setDisp_fabric (die rg : Nat) (x : Dispatcher) : (s.setDisp die rg x).fabric = s.fabric := rfl
@[simp] theorem State.setDisp_power (die rg : Nat) (x : Dispatcher) : (s.setDisp die rg x).power = s.power := rfl
@[simp] theorem State.setDisp_mem (die rg : Nat) (x : Dispatcher) : (s.setDisp die rg x).mem = s.mem := rfl
@[simp] theorem State.setDisp_net (die rg : Nat) (x : Dispatcher) : (s.setDisp die rg x).net = s.net := rfl
@[simp] theorem State.setDisp_serial (die rg : Nat) (x : Dispatcher) : (s.setDisp die rg x).serial = s.serial := rfl
@[simp] theorem State.setDisp_clk (die rg : Nat) (x : Dispatcher) : (s.setDisp die rg x).clk = s.clk := rfl
@[simp] theorem State.setDisp_boot (die rg : Nat) (x : Dispatcher) : (s.setDisp die rg x).boot = s.boot := rfl
@[simp] theorem State.setDisp_live (die rg : Nat) (x : Dispatcher) : (s.setDisp die rg x).live = s.live := rfl
@[simp] theorem State.setDisp_sec (die rg : Nat) (x : Dispatcher) : (s.setDisp die rg x).sec = s.sec := rfl
@[simp] theorem State.setDisp_session (die rg : Nat) (x : Dispatcher) : (s.setDisp die rg x).session = s.session := rfl
@[simp] theorem State.setDisp_recorder (die rg : Nat) (x : Dispatcher) : (s.setDisp die rg x).recorder = s.recorder := rfl
@[simp] theorem State.setDisp_cores (die rg : Nat) (x : Dispatcher) : (s.setDisp die rg x).cores = s.cores := rfl
@[simp] theorem State.setDisp_boxes (die rg : Nat) (x : Dispatcher) : (s.setDisp die rg x).boxes = s.boxes := rfl
@[simp] theorem State.setDisp_dies (die rg : Nat) (x : Dispatcher) : (s.setDisp die rg x).dies = s.dies := rfl
@[simp] theorem State.setDisp_grade (die rg : Nat) (x : Dispatcher) : (s.setDisp die rg x).grade = s.grade := rfl
@[simp] theorem State.setDisp_gradeI (die rg : Nat) (x : Dispatcher) : (s.setDisp die rg x).gradeI = s.gradeI := rfl
/-! ### `setPower` -/
@[simp] theorem State.setPower_pending (f : Power → Power) : (s.setPower f).pending = s.pending := rfl
@[simp] theorem State.setPower_csr (f : Power → Power) : (s.setPower f).csr = s.csr := rfl
@[simp] theorem State.setPower_bus (f : Power → Power) : (s.setPower f).bus = s.bus := rfl
@[simp] theorem State.setPower_free (f : Power → Power) : (s.setPower f).free = s.free := rfl
@[simp] theorem State.setPower_raised (f : Power → Power) : (s.setPower f).raised = s.raised := rfl
@[simp] theorem State.setPower_spine (f : Power → Power) : (s.setPower f).spine = s.spine := rfl
@[simp] theorem State.setPower_tick (f : Power → Power) : (s.setPower f).tick = s.tick := rfl
@[simp] theorem State.setPower_cal (f : Power → Power) : (s.setPower f).cal = s.cal := rfl
@[simp] theorem State.setPower_calWrites (f : Power → Power) : (s.setPower f).calWrites = s.calWrites := rfl
@[simp] theorem State.setPower_tio (f : Power → Power) : (s.setPower f).tio = s.tio := rfl
@[simp] theorem State.setPower_tioWrites (f : Power → Power) : (s.setPower f).tioWrites = s.tioWrites := rfl
@[simp] theorem State.setPower_ez (f : Power → Power) : (s.setPower f).ez = s.ez := rfl
@[simp] theorem State.setPower_pins (f : Power → Power) : (s.setPower f).pins = s.pins := rfl
@[simp] theorem State.setPower_flights (f : Power → Power) : (s.setPower f).flights = s.flights := rfl
@[simp] theorem State.setPower_fabric (f : Power → Power) : (s.setPower f).fabric = s.fabric := rfl
@[simp] theorem State.setPower_facets (f : Power → Power) : (s.setPower f).facets = s.facets := rfl
@[simp] theorem State.setPower_mem (f : Power → Power) : (s.setPower f).mem = s.mem := rfl
@[simp] theorem State.setPower_net (f : Power → Power) : (s.setPower f).net = s.net := rfl
@[simp] theorem State.setPower_serial (f : Power → Power) : (s.setPower f).serial = s.serial := rfl
@[simp] theorem State.setPower_clk (f : Power → Power) : (s.setPower f).clk = s.clk := rfl
@[simp] theorem State.setPower_boot (f : Power → Power) : (s.setPower f).boot = s.boot := rfl
@[simp] theorem State.setPower_live (f : Power → Power) : (s.setPower f).live = s.live := rfl
@[simp] theorem State.setPower_sec (f : Power → Power) : (s.setPower f).sec = s.sec := rfl
@[simp] theorem State.setPower_session (f : Power → Power) : (s.setPower f).session = s.session := rfl
@[simp] theorem State.setPower_recorder (f : Power → Power) : (s.setPower f).recorder = s.recorder := rfl
@[simp] theorem State.setPower_cores (f : Power → Power) : (s.setPower f).cores = s.cores := rfl
@[simp] theorem State.setPower_boxes (f : Power → Power) : (s.setPower f).boxes = s.boxes := rfl
@[simp] theorem State.setPower_dies (f : Power → Power) : (s.setPower f).dies = s.dies := rfl
@[simp] theorem State.setPower_grade (f : Power → Power) : (s.setPower f).grade = s.grade := rfl
@[simp] theorem State.setPower_gradeI (f : Power → Power) : (s.setPower f).gradeI = s.gradeI := rfl
/-! ### `setEngine` -/
@[simp] theorem State.setEngine_self (e : Nat) (x : Engine) : (s.setEngine e x).engine e = x := by simp [State.setEngine, State.engine]
@[simp] theorem State.setEngine_pending (e : Nat) (x : Engine) : (s.setEngine e x).pending = s.pending := rfl
@[simp] theorem State.setEngine_csr (e : Nat) (x : Engine) : (s.setEngine e x).csr = s.csr := rfl
@[simp] theorem State.setEngine_bus (e : Nat) (x : Engine) : (s.setEngine e x).bus = s.bus := rfl
@[simp] theorem State.setEngine_free (e : Nat) (x : Engine) : (s.setEngine e x).free = s.free := rfl
@[simp] theorem State.setEngine_raised (e : Nat) (x : Engine) : (s.setEngine e x).raised = s.raised := rfl
@[simp] theorem State.setEngine_spine (e : Nat) (x : Engine) : (s.setEngine e x).spine = s.spine := rfl
@[simp] theorem State.setEngine_tick (e : Nat) (x : Engine) : (s.setEngine e x).tick = s.tick := rfl
@[simp] theorem State.setEngine_cal (e : Nat) (x : Engine) : (s.setEngine e x).cal = s.cal := rfl
@[simp] theorem State.setEngine_calWrites (e : Nat) (x : Engine) : (s.setEngine e x).calWrites = s.calWrites := rfl
@[simp] theorem State.setEngine_tio (e : Nat) (x : Engine) : (s.setEngine e x).tio = s.tio := rfl
@[simp] theorem State.setEngine_tioWrites (e : Nat) (x : Engine) : (s.setEngine e x).tioWrites = s.tioWrites := rfl
@[simp] theorem State.setEngine_ez (e : Nat) (x : Engine) : (s.setEngine e x).ez = s.ez := rfl
@[simp] theorem State.setEngine_pins (e : Nat) (x : Engine) : (s.setEngine e x).pins = s.pins := rfl
@[simp] theorem State.setEngine_flights (e : Nat) (x : Engine) : (s.setEngine e x).flights = s.flights := rfl
@[simp] theorem State.setEngine_fabric (e : Nat) (x : Engine) : (s.setEngine e x).fabric = s.fabric := rfl
@[simp] theorem State.setEngine_facets (e : Nat) (x : Engine) : (s.setEngine e x).facets = s.facets := rfl
@[simp] theorem State.setEngine_power (e : Nat) (x : Engine) : (s.setEngine e x).power = s.power := rfl
@[simp] theorem State.setEngine_net (e : Nat) (x : Engine) : (s.setEngine e x).net = s.net := rfl
@[simp] theorem State.setEngine_serial (e : Nat) (x : Engine) : (s.setEngine e x).serial = s.serial := rfl
@[simp] theorem State.setEngine_clk (e : Nat) (x : Engine) : (s.setEngine e x).clk = s.clk := rfl
@[simp] theorem State.setEngine_boot (e : Nat) (x : Engine) : (s.setEngine e x).boot = s.boot := rfl
@[simp] theorem State.setEngine_live (e : Nat) (x : Engine) : (s.setEngine e x).live = s.live := rfl
@[simp] theorem State.setEngine_sec (e : Nat) (x : Engine) : (s.setEngine e x).sec = s.sec := rfl
@[simp] theorem State.setEngine_session (e : Nat) (x : Engine) : (s.setEngine e x).session = s.session := rfl
@[simp] theorem State.setEngine_recorder (e : Nat) (x : Engine) : (s.setEngine e x).recorder = s.recorder := rfl
@[simp] theorem State.setEngine_cores (e : Nat) (x : Engine) : (s.setEngine e x).cores = s.cores := rfl
@[simp] theorem State.setEngine_boxes (e : Nat) (x : Engine) : (s.setEngine e x).boxes = s.boxes := rfl
@[simp] theorem State.setEngine_dies (e : Nat) (x : Engine) : (s.setEngine e x).dies = s.dies := rfl
@[simp] theorem State.setEngine_grade (e : Nat) (x : Engine) : (s.setEngine e x).grade = s.grade := rfl
@[simp] theorem State.setEngine_gradeI (e : Nat) (x : Engine) : (s.setEngine e x).gradeI = s.gradeI := rfl
/-! ### `setChan` -/
@[simp] theorem State.setChan_self (c : Nat) (x : Channel) : (s.setChan c x).chan c = x := by simp [State.setChan, State.chan]
@[simp] theorem State.setChan_pending (c : Nat) (x : Channel) : (s.setChan c x).pending = s.pending := rfl
@[simp] theorem State.setChan_csr (c : Nat) (x : Channel) : (s.setChan c x).csr = s.csr := rfl
@[simp] theorem State.setChan_bus (c : Nat) (x : Channel) : (s.setChan c x).bus = s.bus := rfl
@[simp] theorem State.setChan_free (c : Nat) (x : Channel) : (s.setChan c x).free = s.free := rfl
@[simp] theorem State.setChan_raised (c : Nat) (x : Channel) : (s.setChan c x).raised = s.raised := rfl
@[simp] theorem State.setChan_spine (c : Nat) (x : Channel) : (s.setChan c x).spine = s.spine := rfl
@[simp] theorem State.setChan_tick (c : Nat) (x : Channel) : (s.setChan c x).tick = s.tick := rfl
@[simp] theorem State.setChan_cal (c : Nat) (x : Channel) : (s.setChan c x).cal = s.cal := rfl
@[simp] theorem State.setChan_calWrites (c : Nat) (x : Channel) : (s.setChan c x).calWrites = s.calWrites := rfl
@[simp] theorem State.setChan_tio (c : Nat) (x : Channel) : (s.setChan c x).tio = s.tio := rfl
@[simp] theorem State.setChan_tioWrites (c : Nat) (x : Channel) : (s.setChan c x).tioWrites = s.tioWrites := rfl
@[simp] theorem State.setChan_ez (c : Nat) (x : Channel) : (s.setChan c x).ez = s.ez := rfl
@[simp] theorem State.setChan_pins (c : Nat) (x : Channel) : (s.setChan c x).pins = s.pins := rfl
@[simp] theorem State.setChan_flights (c : Nat) (x : Channel) : (s.setChan c x).flights = s.flights := rfl
@[simp] theorem State.setChan_fabric (c : Nat) (x : Channel) : (s.setChan c x).fabric = s.fabric := rfl
@[simp] theorem State.setChan_facets (c : Nat) (x : Channel) : (s.setChan c x).facets = s.facets := rfl
@[simp] theorem State.setChan_power (c : Nat) (x : Channel) : (s.setChan c x).power = s.power := rfl
@[simp] theorem State.setChan_net (c : Nat) (x : Channel) : (s.setChan c x).net = s.net := rfl
@[simp] theorem State.setChan_serial (c : Nat) (x : Channel) : (s.setChan c x).serial = s.serial := rfl
@[simp] theorem State.setChan_clk (c : Nat) (x : Channel) : (s.setChan c x).clk = s.clk := rfl
@[simp] theorem State.setChan_boot (c : Nat) (x : Channel) : (s.setChan c x).boot = s.boot := rfl
@[simp] theorem State.setChan_live (c : Nat) (x : Channel) : (s.setChan c x).live = s.live := rfl
@[simp] theorem State.setChan_sec (c : Nat) (x : Channel) : (s.setChan c x).sec = s.sec := rfl
@[simp] theorem State.setChan_session (c : Nat) (x : Channel) : (s.setChan c x).session = s.session := rfl
@[simp] theorem State.setChan_recorder (c : Nat) (x : Channel) : (s.setChan c x).recorder = s.recorder := rfl
@[simp] theorem State.setChan_cores (c : Nat) (x : Channel) : (s.setChan c x).cores = s.cores := rfl
@[simp] theorem State.setChan_boxes (c : Nat) (x : Channel) : (s.setChan c x).boxes = s.boxes := rfl
@[simp] theorem State.setChan_dies (c : Nat) (x : Channel) : (s.setChan c x).dies = s.dies := rfl
@[simp] theorem State.setChan_grade (c : Nat) (x : Channel) : (s.setChan c x).grade = s.grade := rfl
@[simp] theorem State.setChan_gradeI (c : Nat) (x : Channel) : (s.setChan c x).gradeI = s.gradeI := rfl
/-! ### `setCxl` -/
@[simp] theorem State.setCxl_self (p : Nat) (x : CxlPort) : (s.setCxl p x).cxl p = x := by simp [State.setCxl, State.cxl]
@[simp] theorem State.setCxl_pending (p : Nat) (x : CxlPort) : (s.setCxl p x).pending = s.pending := rfl
@[simp] theorem State.setCxl_csr (p : Nat) (x : CxlPort) : (s.setCxl p x).csr = s.csr := rfl
@[simp] theorem State.setCxl_bus (p : Nat) (x : CxlPort) : (s.setCxl p x).bus = s.bus := rfl
@[simp] theorem State.setCxl_free (p : Nat) (x : CxlPort) : (s.setCxl p x).free = s.free := rfl
@[simp] theorem State.setCxl_raised (p : Nat) (x : CxlPort) : (s.setCxl p x).raised = s.raised := rfl
@[simp] theorem State.setCxl_spine (p : Nat) (x : CxlPort) : (s.setCxl p x).spine = s.spine := rfl
@[simp] theorem State.setCxl_tick (p : Nat) (x : CxlPort) : (s.setCxl p x).tick = s.tick := rfl
@[simp] theorem State.setCxl_cal (p : Nat) (x : CxlPort) : (s.setCxl p x).cal = s.cal := rfl
@[simp] theorem State.setCxl_calWrites (p : Nat) (x : CxlPort) : (s.setCxl p x).calWrites = s.calWrites := rfl
@[simp] theorem State.setCxl_tio (p : Nat) (x : CxlPort) : (s.setCxl p x).tio = s.tio := rfl
@[simp] theorem State.setCxl_tioWrites (p : Nat) (x : CxlPort) : (s.setCxl p x).tioWrites = s.tioWrites := rfl
@[simp] theorem State.setCxl_ez (p : Nat) (x : CxlPort) : (s.setCxl p x).ez = s.ez := rfl
@[simp] theorem State.setCxl_pins (p : Nat) (x : CxlPort) : (s.setCxl p x).pins = s.pins := rfl
@[simp] theorem State.setCxl_flights (p : Nat) (x : CxlPort) : (s.setCxl p x).flights = s.flights := rfl
@[simp] theorem State.setCxl_fabric (p : Nat) (x : CxlPort) : (s.setCxl p x).fabric = s.fabric := rfl
@[simp] theorem State.setCxl_facets (p : Nat) (x : CxlPort) : (s.setCxl p x).facets = s.facets := rfl
@[simp] theorem State.setCxl_power (p : Nat) (x : CxlPort) : (s.setCxl p x).power = s.power := rfl
@[simp] theorem State.setCxl_net (p : Nat) (x : CxlPort) : (s.setCxl p x).net = s.net := rfl
@[simp] theorem State.setCxl_serial (p : Nat) (x : CxlPort) : (s.setCxl p x).serial = s.serial := rfl
@[simp] theorem State.setCxl_clk (p : Nat) (x : CxlPort) : (s.setCxl p x).clk = s.clk := rfl
@[simp] theorem State.setCxl_boot (p : Nat) (x : CxlPort) : (s.setCxl p x).boot = s.boot := rfl
@[simp] theorem State.setCxl_live (p : Nat) (x : CxlPort) : (s.setCxl p x).live = s.live := rfl
@[simp] theorem State.setCxl_sec (p : Nat) (x : CxlPort) : (s.setCxl p x).sec = s.sec := rfl
@[simp] theorem State.setCxl_session (p : Nat) (x : CxlPort) : (s.setCxl p x).session = s.session := rfl
@[simp] theorem State.setCxl_recorder (p : Nat) (x : CxlPort) : (s.setCxl p x).recorder = s.recorder := rfl
@[simp] theorem State.setCxl_cores (p : Nat) (x : CxlPort) : (s.setCxl p x).cores = s.cores := rfl
@[simp] theorem State.setCxl_boxes (p : Nat) (x : CxlPort) : (s.setCxl p x).boxes = s.boxes := rfl
@[simp] theorem State.setCxl_dies (p : Nat) (x : CxlPort) : (s.setCxl p x).dies = s.dies := rfl
@[simp] theorem State.setCxl_grade (p : Nat) (x : CxlPort) : (s.setCxl p x).grade = s.grade := rfl
@[simp] theorem State.setCxl_gradeI (p : Nat) (x : CxlPort) : (s.setCxl p x).gradeI = s.gradeI := rfl
/-! ### `setQueue` -/
@[simp] theorem State.setQueue_self (q : Nat) (x : Queue) : (s.setQueue q x).queue q = x := by simp [State.setQueue, State.queue]
@[simp] theorem State.setQueue_pending (q : Nat) (x : Queue) : (s.setQueue q x).pending = s.pending := rfl
@[simp] theorem State.setQueue_csr (q : Nat) (x : Queue) : (s.setQueue q x).csr = s.csr := rfl
@[simp] theorem State.setQueue_bus (q : Nat) (x : Queue) : (s.setQueue q x).bus = s.bus := rfl
@[simp] theorem State.setQueue_free (q : Nat) (x : Queue) : (s.setQueue q x).free = s.free := rfl
@[simp] theorem State.setQueue_raised (q : Nat) (x : Queue) : (s.setQueue q x).raised = s.raised := rfl
@[simp] theorem State.setQueue_spine (q : Nat) (x : Queue) : (s.setQueue q x).spine = s.spine := rfl
@[simp] theorem State.setQueue_tick (q : Nat) (x : Queue) : (s.setQueue q x).tick = s.tick := rfl
@[simp] theorem State.setQueue_cal (q : Nat) (x : Queue) : (s.setQueue q x).cal = s.cal := rfl
@[simp] theorem State.setQueue_calWrites (q : Nat) (x : Queue) : (s.setQueue q x).calWrites = s.calWrites := rfl
@[simp] theorem State.setQueue_tio (q : Nat) (x : Queue) : (s.setQueue q x).tio = s.tio := rfl
@[simp] theorem State.setQueue_tioWrites (q : Nat) (x : Queue) : (s.setQueue q x).tioWrites = s.tioWrites := rfl
@[simp] theorem State.setQueue_ez (q : Nat) (x : Queue) : (s.setQueue q x).ez = s.ez := rfl
@[simp] theorem State.setQueue_pins (q : Nat) (x : Queue) : (s.setQueue q x).pins = s.pins := rfl
@[simp] theorem State.setQueue_flights (q : Nat) (x : Queue) : (s.setQueue q x).flights = s.flights := rfl
@[simp] theorem State.setQueue_fabric (q : Nat) (x : Queue) : (s.setQueue q x).fabric = s.fabric := rfl
@[simp] theorem State.setQueue_facets (q : Nat) (x : Queue) : (s.setQueue q x).facets = s.facets := rfl
@[simp] theorem State.setQueue_power (q : Nat) (x : Queue) : (s.setQueue q x).power = s.power := rfl
@[simp] theorem State.setQueue_mem (q : Nat) (x : Queue) : (s.setQueue q x).mem = s.mem := rfl
@[simp] theorem State.setQueue_serial (q : Nat) (x : Queue) : (s.setQueue q x).serial = s.serial := rfl
@[simp] theorem State.setQueue_clk (q : Nat) (x : Queue) : (s.setQueue q x).clk = s.clk := rfl
@[simp] theorem State.setQueue_boot (q : Nat) (x : Queue) : (s.setQueue q x).boot = s.boot := rfl
@[simp] theorem State.setQueue_live (q : Nat) (x : Queue) : (s.setQueue q x).live = s.live := rfl
@[simp] theorem State.setQueue_sec (q : Nat) (x : Queue) : (s.setQueue q x).sec = s.sec := rfl
@[simp] theorem State.setQueue_session (q : Nat) (x : Queue) : (s.setQueue q x).session = s.session := rfl
@[simp] theorem State.setQueue_recorder (q : Nat) (x : Queue) : (s.setQueue q x).recorder = s.recorder := rfl
@[simp] theorem State.setQueue_cores (q : Nat) (x : Queue) : (s.setQueue q x).cores = s.cores := rfl
@[simp] theorem State.setQueue_boxes (q : Nat) (x : Queue) : (s.setQueue q x).boxes = s.boxes := rfl
@[simp] theorem State.setQueue_dies (q : Nat) (x : Queue) : (s.setQueue q x).dies = s.dies := rfl
@[simp] theorem State.setQueue_grade (q : Nat) (x : Queue) : (s.setQueue q x).grade = s.grade := rfl
@[simp] theorem State.setQueue_gradeI (q : Nat) (x : Queue) : (s.setQueue q x).gradeI = s.gradeI := rfl
/-! ### `setLane` -/
@[simp] theorem State.setLane_self (die l : Nat) (x : Lane) : (s.setLane die l x).lane die l = x := by simp [State.setLane, State.lane]
@[simp] theorem State.setLane_pending (die l : Nat) (x : Lane) : (s.setLane die l x).pending = s.pending := rfl
@[simp] theorem State.setLane_csr (die l : Nat) (x : Lane) : (s.setLane die l x).csr = s.csr := rfl
@[simp] theorem State.setLane_bus (die l : Nat) (x : Lane) : (s.setLane die l x).bus = s.bus := rfl
@[simp] theorem State.setLane_free (die l : Nat) (x : Lane) : (s.setLane die l x).free = s.free := rfl
@[simp] theorem State.setLane_raised (die l : Nat) (x : Lane) : (s.setLane die l x).raised = s.raised := rfl
@[simp] theorem State.setLane_spine (die l : Nat) (x : Lane) : (s.setLane die l x).spine = s.spine := rfl
@[simp] theorem State.setLane_tick (die l : Nat) (x : Lane) : (s.setLane die l x).tick = s.tick := rfl
@[simp] theorem State.setLane_cal (die l : Nat) (x : Lane) : (s.setLane die l x).cal = s.cal := rfl
@[simp] theorem State.setLane_calWrites (die l : Nat) (x : Lane) : (s.setLane die l x).calWrites = s.calWrites := rfl
@[simp] theorem State.setLane_tio (die l : Nat) (x : Lane) : (s.setLane die l x).tio = s.tio := rfl
@[simp] theorem State.setLane_tioWrites (die l : Nat) (x : Lane) : (s.setLane die l x).tioWrites = s.tioWrites := rfl
@[simp] theorem State.setLane_ez (die l : Nat) (x : Lane) : (s.setLane die l x).ez = s.ez := rfl
@[simp] theorem State.setLane_pins (die l : Nat) (x : Lane) : (s.setLane die l x).pins = s.pins := rfl
@[simp] theorem State.setLane_flights (die l : Nat) (x : Lane) : (s.setLane die l x).flights = s.flights := rfl
@[simp] theorem State.setLane_fabric (die l : Nat) (x : Lane) : (s.setLane die l x).fabric = s.fabric := rfl
@[simp] theorem State.setLane_facets (die l : Nat) (x : Lane) : (s.setLane die l x).facets = s.facets := rfl
@[simp] theorem State.setLane_power (die l : Nat) (x : Lane) : (s.setLane die l x).power = s.power := rfl
@[simp] theorem State.setLane_mem (die l : Nat) (x : Lane) : (s.setLane die l x).mem = s.mem := rfl
@[simp] theorem State.setLane_net (die l : Nat) (x : Lane) : (s.setLane die l x).net = s.net := rfl
@[simp] theorem State.setLane_clk (die l : Nat) (x : Lane) : (s.setLane die l x).clk = s.clk := rfl
@[simp] theorem State.setLane_boot (die l : Nat) (x : Lane) : (s.setLane die l x).boot = s.boot := rfl
@[simp] theorem State.setLane_live (die l : Nat) (x : Lane) : (s.setLane die l x).live = s.live := rfl
@[simp] theorem State.setLane_sec (die l : Nat) (x : Lane) : (s.setLane die l x).sec = s.sec := rfl
@[simp] theorem State.setLane_session (die l : Nat) (x : Lane) : (s.setLane die l x).session = s.session := rfl
@[simp] theorem State.setLane_recorder (die l : Nat) (x : Lane) : (s.setLane die l x).recorder = s.recorder := rfl
@[simp] theorem State.setLane_cores (die l : Nat) (x : Lane) : (s.setLane die l x).cores = s.cores := rfl
@[simp] theorem State.setLane_boxes (die l : Nat) (x : Lane) : (s.setLane die l x).boxes = s.boxes := rfl
@[simp] theorem State.setLane_dies (die l : Nat) (x : Lane) : (s.setLane die l x).dies = s.dies := rfl
@[simp] theorem State.setLane_grade (die l : Nat) (x : Lane) : (s.setLane die l x).grade = s.grade := rfl
@[simp] theorem State.setLane_gradeI (die l : Nat) (x : Lane) : (s.setLane die l x).gradeI = s.gradeI := rfl
/-! ### `setPort` -/
@[simp] theorem State.setPort_self (p : Nat) (x : Port) : (s.setPort p x).port p = x := by simp [State.setPort, State.port]
@[simp] theorem State.setPort_pending (p : Nat) (x : Port) : (s.setPort p x).pending = s.pending := rfl
@[simp] theorem State.setPort_csr (p : Nat) (x : Port) : (s.setPort p x).csr = s.csr := rfl
@[simp] theorem State.setPort_bus (p : Nat) (x : Port) : (s.setPort p x).bus = s.bus := rfl
@[simp] theorem State.setPort_free (p : Nat) (x : Port) : (s.setPort p x).free = s.free := rfl
@[simp] theorem State.setPort_raised (p : Nat) (x : Port) : (s.setPort p x).raised = s.raised := rfl
@[simp] theorem State.setPort_spine (p : Nat) (x : Port) : (s.setPort p x).spine = s.spine := rfl
@[simp] theorem State.setPort_tick (p : Nat) (x : Port) : (s.setPort p x).tick = s.tick := rfl
@[simp] theorem State.setPort_cal (p : Nat) (x : Port) : (s.setPort p x).cal = s.cal := rfl
@[simp] theorem State.setPort_calWrites (p : Nat) (x : Port) : (s.setPort p x).calWrites = s.calWrites := rfl
@[simp] theorem State.setPort_tio (p : Nat) (x : Port) : (s.setPort p x).tio = s.tio := rfl
@[simp] theorem State.setPort_tioWrites (p : Nat) (x : Port) : (s.setPort p x).tioWrites = s.tioWrites := rfl
@[simp] theorem State.setPort_ez (p : Nat) (x : Port) : (s.setPort p x).ez = s.ez := rfl
@[simp] theorem State.setPort_pins (p : Nat) (x : Port) : (s.setPort p x).pins = s.pins := rfl
@[simp] theorem State.setPort_flights (p : Nat) (x : Port) : (s.setPort p x).flights = s.flights := rfl
@[simp] theorem State.setPort_fabric (p : Nat) (x : Port) : (s.setPort p x).fabric = s.fabric := rfl
@[simp] theorem State.setPort_facets (p : Nat) (x : Port) : (s.setPort p x).facets = s.facets := rfl
@[simp] theorem State.setPort_power (p : Nat) (x : Port) : (s.setPort p x).power = s.power := rfl
@[simp] theorem State.setPort_mem (p : Nat) (x : Port) : (s.setPort p x).mem = s.mem := rfl
@[simp] theorem State.setPort_net (p : Nat) (x : Port) : (s.setPort p x).net = s.net := rfl
@[simp] theorem State.setPort_clk (p : Nat) (x : Port) : (s.setPort p x).clk = s.clk := rfl
@[simp] theorem State.setPort_boot (p : Nat) (x : Port) : (s.setPort p x).boot = s.boot := rfl
@[simp] theorem State.setPort_live (p : Nat) (x : Port) : (s.setPort p x).live = s.live := rfl
@[simp] theorem State.setPort_sec (p : Nat) (x : Port) : (s.setPort p x).sec = s.sec := rfl
@[simp] theorem State.setPort_session (p : Nat) (x : Port) : (s.setPort p x).session = s.session := rfl
@[simp] theorem State.setPort_recorder (p : Nat) (x : Port) : (s.setPort p x).recorder = s.recorder := rfl
@[simp] theorem State.setPort_cores (p : Nat) (x : Port) : (s.setPort p x).cores = s.cores := rfl
@[simp] theorem State.setPort_boxes (p : Nat) (x : Port) : (s.setPort p x).boxes = s.boxes := rfl
@[simp] theorem State.setPort_dies (p : Nat) (x : Port) : (s.setPort p x).dies = s.dies := rfl
@[simp] theorem State.setPort_grade (p : Nat) (x : Port) : (s.setPort p x).grade = s.grade := rfl
@[simp] theorem State.setPort_gradeI (p : Nat) (x : Port) : (s.setPort p x).gradeI = s.gradeI := rfl
/-! ### `setBoot` -/
@[simp] theorem State.setBoot_pending (f : Boot → Boot) : (s.setBoot f).pending = s.pending := rfl
@[simp] theorem State.setBoot_csr (f : Boot → Boot) : (s.setBoot f).csr = s.csr := rfl
@[simp] theorem State.setBoot_bus (f : Boot → Boot) : (s.setBoot f).bus = s.bus := rfl
@[simp] theorem State.setBoot_free (f : Boot → Boot) : (s.setBoot f).free = s.free := rfl
@[simp] theorem State.setBoot_raised (f : Boot → Boot) : (s.setBoot f).raised = s.raised := rfl
@[simp] theorem State.setBoot_spine (f : Boot → Boot) : (s.setBoot f).spine = s.spine := rfl
@[simp] theorem State.setBoot_tick (f : Boot → Boot) : (s.setBoot f).tick = s.tick := rfl
@[simp] theorem State.setBoot_cal (f : Boot → Boot) : (s.setBoot f).cal = s.cal := rfl
@[simp] theorem State.setBoot_calWrites (f : Boot → Boot) : (s.setBoot f).calWrites = s.calWrites := rfl
@[simp] theorem State.setBoot_tio (f : Boot → Boot) : (s.setBoot f).tio = s.tio := rfl
@[simp] theorem State.setBoot_tioWrites (f : Boot → Boot) : (s.setBoot f).tioWrites = s.tioWrites := rfl
@[simp] theorem State.setBoot_ez (f : Boot → Boot) : (s.setBoot f).ez = s.ez := rfl
@[simp] theorem State.setBoot_pins (f : Boot → Boot) : (s.setBoot f).pins = s.pins := rfl
@[simp] theorem State.setBoot_flights (f : Boot → Boot) : (s.setBoot f).flights = s.flights := rfl
@[simp] theorem State.setBoot_fabric (f : Boot → Boot) : (s.setBoot f).fabric = s.fabric := rfl
@[simp] theorem State.setBoot_facets (f : Boot → Boot) : (s.setBoot f).facets = s.facets := rfl
@[simp] theorem State.setBoot_power (f : Boot → Boot) : (s.setBoot f).power = s.power := rfl
@[simp] theorem State.setBoot_mem (f : Boot → Boot) : (s.setBoot f).mem = s.mem := rfl
@[simp] theorem State.setBoot_net (f : Boot → Boot) : (s.setBoot f).net = s.net := rfl
@[simp] theorem State.setBoot_serial (f : Boot → Boot) : (s.setBoot f).serial = s.serial := rfl
@[simp] theorem State.setBoot_clk (f : Boot → Boot) : (s.setBoot f).clk = s.clk := rfl
@[simp] theorem State.setBoot_live (f : Boot → Boot) : (s.setBoot f).live = s.live := rfl
@[simp] theorem State.setBoot_sec (f : Boot → Boot) : (s.setBoot f).sec = s.sec := rfl
@[simp] theorem State.setBoot_session (f : Boot → Boot) : (s.setBoot f).session = s.session := rfl
@[simp] theorem State.setBoot_recorder (f : Boot → Boot) : (s.setBoot f).recorder = s.recorder := rfl
@[simp] theorem State.setBoot_cores (f : Boot → Boot) : (s.setBoot f).cores = s.cores := rfl
@[simp] theorem State.setBoot_boxes (f : Boot → Boot) : (s.setBoot f).boxes = s.boxes := rfl
@[simp] theorem State.setBoot_dies (f : Boot → Boot) : (s.setBoot f).dies = s.dies := rfl
@[simp] theorem State.setBoot_grade (f : Boot → Boot) : (s.setBoot f).grade = s.grade := rfl
@[simp] theorem State.setBoot_gradeI (f : Boot → Boot) : (s.setBoot f).gradeI = s.gradeI := rfl
/-! ### `setLive` -/
@[simp] theorem State.setLive_pending (f : Live → Live) : (s.setLive f).pending = s.pending := rfl
@[simp] theorem State.setLive_csr (f : Live → Live) : (s.setLive f).csr = s.csr := rfl
@[simp] theorem State.setLive_bus (f : Live → Live) : (s.setLive f).bus = s.bus := rfl
@[simp] theorem State.setLive_free (f : Live → Live) : (s.setLive f).free = s.free := rfl
@[simp] theorem State.setLive_raised (f : Live → Live) : (s.setLive f).raised = s.raised := rfl
@[simp] theorem State.setLive_spine (f : Live → Live) : (s.setLive f).spine = s.spine := rfl
@[simp] theorem State.setLive_tick (f : Live → Live) : (s.setLive f).tick = s.tick := rfl
@[simp] theorem State.setLive_cal (f : Live → Live) : (s.setLive f).cal = s.cal := rfl
@[simp] theorem State.setLive_calWrites (f : Live → Live) : (s.setLive f).calWrites = s.calWrites := rfl
@[simp] theorem State.setLive_tio (f : Live → Live) : (s.setLive f).tio = s.tio := rfl
@[simp] theorem State.setLive_tioWrites (f : Live → Live) : (s.setLive f).tioWrites = s.tioWrites := rfl
@[simp] theorem State.setLive_ez (f : Live → Live) : (s.setLive f).ez = s.ez := rfl
@[simp] theorem State.setLive_pins (f : Live → Live) : (s.setLive f).pins = s.pins := rfl
@[simp] theorem State.setLive_flights (f : Live → Live) : (s.setLive f).flights = s.flights := rfl
@[simp] theorem State.setLive_fabric (f : Live → Live) : (s.setLive f).fabric = s.fabric := rfl
@[simp] theorem State.setLive_facets (f : Live → Live) : (s.setLive f).facets = s.facets := rfl
@[simp] theorem State.setLive_power (f : Live → Live) : (s.setLive f).power = s.power := rfl
@[simp] theorem State.setLive_mem (f : Live → Live) : (s.setLive f).mem = s.mem := rfl
@[simp] theorem State.setLive_net (f : Live → Live) : (s.setLive f).net = s.net := rfl
@[simp] theorem State.setLive_serial (f : Live → Live) : (s.setLive f).serial = s.serial := rfl
@[simp] theorem State.setLive_clk (f : Live → Live) : (s.setLive f).clk = s.clk := rfl
@[simp] theorem State.setLive_boot (f : Live → Live) : (s.setLive f).boot = s.boot := rfl
@[simp] theorem State.setLive_sec (f : Live → Live) : (s.setLive f).sec = s.sec := rfl
@[simp] theorem State.setLive_session (f : Live → Live) : (s.setLive f).session = s.session := rfl
@[simp] theorem State.setLive_recorder (f : Live → Live) : (s.setLive f).recorder = s.recorder := rfl
@[simp] theorem State.setLive_cores (f : Live → Live) : (s.setLive f).cores = s.cores := rfl
@[simp] theorem State.setLive_boxes (f : Live → Live) : (s.setLive f).boxes = s.boxes := rfl
@[simp] theorem State.setLive_dies (f : Live → Live) : (s.setLive f).dies = s.dies := rfl
@[simp] theorem State.setLive_grade (f : Live → Live) : (s.setLive f).grade = s.grade := rfl
@[simp] theorem State.setLive_gradeI (f : Live → Live) : (s.setLive f).gradeI = s.gradeI := rfl
/-! ### `setRegion` -/
@[simp] theorem State.setRegion_self (die rg : Nat) (x : Region) : (s.setRegion die rg x).region die rg = x := by simp [State.setRegion, State.region]
@[simp] theorem State.setRegion_pending (die rg : Nat) (x : Region) : (s.setRegion die rg x).pending = s.pending := rfl
@[simp] theorem State.setRegion_csr (die rg : Nat) (x : Region) : (s.setRegion die rg x).csr = s.csr := rfl
@[simp] theorem State.setRegion_bus (die rg : Nat) (x : Region) : (s.setRegion die rg x).bus = s.bus := rfl
@[simp] theorem State.setRegion_free (die rg : Nat) (x : Region) : (s.setRegion die rg x).free = s.free := rfl
@[simp] theorem State.setRegion_raised (die rg : Nat) (x : Region) : (s.setRegion die rg x).raised = s.raised := rfl
@[simp] theorem State.setRegion_spine (die rg : Nat) (x : Region) : (s.setRegion die rg x).spine = s.spine := rfl
@[simp] theorem State.setRegion_tick (die rg : Nat) (x : Region) : (s.setRegion die rg x).tick = s.tick := rfl
@[simp] theorem State.setRegion_cal (die rg : Nat) (x : Region) : (s.setRegion die rg x).cal = s.cal := rfl
@[simp] theorem State.setRegion_calWrites (die rg : Nat) (x : Region) : (s.setRegion die rg x).calWrites = s.calWrites := rfl
@[simp] theorem State.setRegion_tio (die rg : Nat) (x : Region) : (s.setRegion die rg x).tio = s.tio := rfl
@[simp] theorem State.setRegion_tioWrites (die rg : Nat) (x : Region) : (s.setRegion die rg x).tioWrites = s.tioWrites := rfl
@[simp] theorem State.setRegion_ez (die rg : Nat) (x : Region) : (s.setRegion die rg x).ez = s.ez := rfl
@[simp] theorem State.setRegion_pins (die rg : Nat) (x : Region) : (s.setRegion die rg x).pins = s.pins := rfl
@[simp] theorem State.setRegion_flights (die rg : Nat) (x : Region) : (s.setRegion die rg x).flights = s.flights := rfl
@[simp] theorem State.setRegion_fabric (die rg : Nat) (x : Region) : (s.setRegion die rg x).fabric = s.fabric := rfl
@[simp] theorem State.setRegion_facets (die rg : Nat) (x : Region) : (s.setRegion die rg x).facets = s.facets := rfl
@[simp] theorem State.setRegion_power (die rg : Nat) (x : Region) : (s.setRegion die rg x).power = s.power := rfl
@[simp] theorem State.setRegion_mem (die rg : Nat) (x : Region) : (s.setRegion die rg x).mem = s.mem := rfl
@[simp] theorem State.setRegion_net (die rg : Nat) (x : Region) : (s.setRegion die rg x).net = s.net := rfl
@[simp] theorem State.setRegion_serial (die rg : Nat) (x : Region) : (s.setRegion die rg x).serial = s.serial := rfl
@[simp] theorem State.setRegion_clk (die rg : Nat) (x : Region) : (s.setRegion die rg x).clk = s.clk := rfl
@[simp] theorem State.setRegion_boot (die rg : Nat) (x : Region) : (s.setRegion die rg x).boot = s.boot := rfl
@[simp] theorem State.setRegion_sec (die rg : Nat) (x : Region) : (s.setRegion die rg x).sec = s.sec := rfl
@[simp] theorem State.setRegion_session (die rg : Nat) (x : Region) : (s.setRegion die rg x).session = s.session := rfl
@[simp] theorem State.setRegion_recorder (die rg : Nat) (x : Region) : (s.setRegion die rg x).recorder = s.recorder := rfl
@[simp] theorem State.setRegion_cores (die rg : Nat) (x : Region) : (s.setRegion die rg x).cores = s.cores := rfl
@[simp] theorem State.setRegion_boxes (die rg : Nat) (x : Region) : (s.setRegion die rg x).boxes = s.boxes := rfl
@[simp] theorem State.setRegion_dies (die rg : Nat) (x : Region) : (s.setRegion die rg x).dies = s.dies := rfl
@[simp] theorem State.setRegion_grade (die rg : Nat) (x : Region) : (s.setRegion die rg x).grade = s.grade := rfl
@[simp] theorem State.setRegion_gradeI (die rg : Nat) (x : Region) : (s.setRegion die rg x).gradeI = s.gradeI := rfl
/-! ### `setSec` -/
@[simp] theorem State.setSec_pending (f : Security → Security) : (s.setSec f).pending = s.pending := rfl
@[simp] theorem State.setSec_csr (f : Security → Security) : (s.setSec f).csr = s.csr := rfl
@[simp] theorem State.setSec_bus (f : Security → Security) : (s.setSec f).bus = s.bus := rfl
@[simp] theorem State.setSec_free (f : Security → Security) : (s.setSec f).free = s.free := rfl
@[simp] theorem State.setSec_raised (f : Security → Security) : (s.setSec f).raised = s.raised := rfl
@[simp] theorem State.setSec_spine (f : Security → Security) : (s.setSec f).spine = s.spine := rfl
@[simp] theorem State.setSec_tick (f : Security → Security) : (s.setSec f).tick = s.tick := rfl
@[simp] theorem State.setSec_cal (f : Security → Security) : (s.setSec f).cal = s.cal := rfl
@[simp] theorem State.setSec_calWrites (f : Security → Security) : (s.setSec f).calWrites = s.calWrites := rfl
@[simp] theorem State.setSec_tio (f : Security → Security) : (s.setSec f).tio = s.tio := rfl
@[simp] theorem State.setSec_tioWrites (f : Security → Security) : (s.setSec f).tioWrites = s.tioWrites := rfl
@[simp] theorem State.setSec_ez (f : Security → Security) : (s.setSec f).ez = s.ez := rfl
@[simp] theorem State.setSec_pins (f : Security → Security) : (s.setSec f).pins = s.pins := rfl
@[simp] theorem State.setSec_flights (f : Security → Security) : (s.setSec f).flights = s.flights := rfl
@[simp] theorem State.setSec_fabric (f : Security → Security) : (s.setSec f).fabric = s.fabric := rfl
@[simp] theorem State.setSec_facets (f : Security → Security) : (s.setSec f).facets = s.facets := rfl
@[simp] theorem State.setSec_power (f : Security → Security) : (s.setSec f).power = s.power := rfl
@[simp] theorem State.setSec_mem (f : Security → Security) : (s.setSec f).mem = s.mem := rfl
@[simp] theorem State.setSec_net (f : Security → Security) : (s.setSec f).net = s.net := rfl
@[simp] theorem State.setSec_serial (f : Security → Security) : (s.setSec f).serial = s.serial := rfl
@[simp] theorem State.setSec_clk (f : Security → Security) : (s.setSec f).clk = s.clk := rfl
@[simp] theorem State.setSec_boot (f : Security → Security) : (s.setSec f).boot = s.boot := rfl
@[simp] theorem State.setSec_live (f : Security → Security) : (s.setSec f).live = s.live := rfl
@[simp] theorem State.setSec_session (f : Security → Security) : (s.setSec f).session = s.session := rfl
@[simp] theorem State.setSec_recorder (f : Security → Security) : (s.setSec f).recorder = s.recorder := rfl
@[simp] theorem State.setSec_cores (f : Security → Security) : (s.setSec f).cores = s.cores := rfl
@[simp] theorem State.setSec_boxes (f : Security → Security) : (s.setSec f).boxes = s.boxes := rfl
@[simp] theorem State.setSec_dies (f : Security → Security) : (s.setSec f).dies = s.dies := rfl
@[simp] theorem State.setSec_grade (f : Security → Security) : (s.setSec f).grade = s.grade := rfl
@[simp] theorem State.setSec_gradeI (f : Security → Security) : (s.setSec f).gradeI = s.gradeI := rfl
/-! ### `setVault` -/
@[simp] theorem State.setVault_self (n : Nat) (x : Option VaultKey) : (s.setVault n x).vaultKey n = x := by simp [State.setVault, State.vaultKey, State.setSec]
@[simp] theorem State.setVault_pending (n : Nat) (x : Option VaultKey) : (s.setVault n x).pending = s.pending := rfl
@[simp] theorem State.setVault_csr (n : Nat) (x : Option VaultKey) : (s.setVault n x).csr = s.csr := rfl
@[simp] theorem State.setVault_bus (n : Nat) (x : Option VaultKey) : (s.setVault n x).bus = s.bus := rfl
@[simp] theorem State.setVault_free (n : Nat) (x : Option VaultKey) : (s.setVault n x).free = s.free := rfl
@[simp] theorem State.setVault_raised (n : Nat) (x : Option VaultKey) : (s.setVault n x).raised = s.raised := rfl
@[simp] theorem State.setVault_spine (n : Nat) (x : Option VaultKey) : (s.setVault n x).spine = s.spine := rfl
@[simp] theorem State.setVault_tick (n : Nat) (x : Option VaultKey) : (s.setVault n x).tick = s.tick := rfl
@[simp] theorem State.setVault_cal (n : Nat) (x : Option VaultKey) : (s.setVault n x).cal = s.cal := rfl
@[simp] theorem State.setVault_calWrites (n : Nat) (x : Option VaultKey) : (s.setVault n x).calWrites = s.calWrites := rfl
@[simp] theorem State.setVault_tio (n : Nat) (x : Option VaultKey) : (s.setVault n x).tio = s.tio := rfl
@[simp] theorem State.setVault_tioWrites (n : Nat) (x : Option VaultKey) : (s.setVault n x).tioWrites = s.tioWrites := rfl
@[simp] theorem State.setVault_ez (n : Nat) (x : Option VaultKey) : (s.setVault n x).ez = s.ez := rfl
@[simp] theorem State.setVault_pins (n : Nat) (x : Option VaultKey) : (s.setVault n x).pins = s.pins := rfl
@[simp] theorem State.setVault_flights (n : Nat) (x : Option VaultKey) : (s.setVault n x).flights = s.flights := rfl
@[simp] theorem State.setVault_fabric (n : Nat) (x : Option VaultKey) : (s.setVault n x).fabric = s.fabric := rfl
@[simp] theorem State.setVault_facets (n : Nat) (x : Option VaultKey) : (s.setVault n x).facets = s.facets := rfl
@[simp] theorem State.setVault_power (n : Nat) (x : Option VaultKey) : (s.setVault n x).power = s.power := rfl
@[simp] theorem State.setVault_mem (n : Nat) (x : Option VaultKey) : (s.setVault n x).mem = s.mem := rfl
@[simp] theorem State.setVault_net (n : Nat) (x : Option VaultKey) : (s.setVault n x).net = s.net := rfl
@[simp] theorem State.setVault_serial (n : Nat) (x : Option VaultKey) : (s.setVault n x).serial = s.serial := rfl
@[simp] theorem State.setVault_clk (n : Nat) (x : Option VaultKey) : (s.setVault n x).clk = s.clk := rfl
@[simp] theorem State.setVault_boot (n : Nat) (x : Option VaultKey) : (s.setVault n x).boot = s.boot := rfl
@[simp] theorem State.setVault_live (n : Nat) (x : Option VaultKey) : (s.setVault n x).live = s.live := rfl
@[simp] theorem State.setVault_session (n : Nat) (x : Option VaultKey) : (s.setVault n x).session = s.session := rfl
@[simp] theorem State.setVault_recorder (n : Nat) (x : Option VaultKey) : (s.setVault n x).recorder = s.recorder := rfl
@[simp] theorem State.setVault_cores (n : Nat) (x : Option VaultKey) : (s.setVault n x).cores = s.cores := rfl
@[simp] theorem State.setVault_boxes (n : Nat) (x : Option VaultKey) : (s.setVault n x).boxes = s.boxes := rfl
@[simp] theorem State.setVault_dies (n : Nat) (x : Option VaultKey) : (s.setVault n x).dies = s.dies := rfl
@[simp] theorem State.setVault_grade (n : Nat) (x : Option VaultKey) : (s.setVault n x).grade = s.grade := rfl
@[simp] theorem State.setVault_gradeI (n : Nat) (x : Option VaultKey) : (s.setVault n x).gradeI = s.gradeI := rfl
/-! ### `setSession` -/
@[simp] theorem State.setSession_pending (f : Session → Session) : (s.setSession f).pending = s.pending := rfl
@[simp] theorem State.setSession_csr (f : Session → Session) : (s.setSession f).csr = s.csr := rfl
@[simp] theorem State.setSession_bus (f : Session → Session) : (s.setSession f).bus = s.bus := rfl
@[simp] theorem State.setSession_free (f : Session → Session) : (s.setSession f).free = s.free := rfl
@[simp] theorem State.setSession_raised (f : Session → Session) : (s.setSession f).raised = s.raised := rfl
@[simp] theorem State.setSession_spine (f : Session → Session) : (s.setSession f).spine = s.spine := rfl
@[simp] theorem State.setSession_tick (f : Session → Session) : (s.setSession f).tick = s.tick := rfl
@[simp] theorem State.setSession_cal (f : Session → Session) : (s.setSession f).cal = s.cal := rfl
@[simp] theorem State.setSession_calWrites (f : Session → Session) : (s.setSession f).calWrites = s.calWrites := rfl
@[simp] theorem State.setSession_tio (f : Session → Session) : (s.setSession f).tio = s.tio := rfl
@[simp] theorem State.setSession_tioWrites (f : Session → Session) : (s.setSession f).tioWrites = s.tioWrites := rfl
@[simp] theorem State.setSession_ez (f : Session → Session) : (s.setSession f).ez = s.ez := rfl
@[simp] theorem State.setSession_pins (f : Session → Session) : (s.setSession f).pins = s.pins := rfl
@[simp] theorem State.setSession_flights (f : Session → Session) : (s.setSession f).flights = s.flights := rfl
@[simp] theorem State.setSession_fabric (f : Session → Session) : (s.setSession f).fabric = s.fabric := rfl
@[simp] theorem State.setSession_facets (f : Session → Session) : (s.setSession f).facets = s.facets := rfl
@[simp] theorem State.setSession_power (f : Session → Session) : (s.setSession f).power = s.power := rfl
@[simp] theorem State.setSession_mem (f : Session → Session) : (s.setSession f).mem = s.mem := rfl
@[simp] theorem State.setSession_net (f : Session → Session) : (s.setSession f).net = s.net := rfl
@[simp] theorem State.setSession_serial (f : Session → Session) : (s.setSession f).serial = s.serial := rfl
@[simp] theorem State.setSession_clk (f : Session → Session) : (s.setSession f).clk = s.clk := rfl
@[simp] theorem State.setSession_boot (f : Session → Session) : (s.setSession f).boot = s.boot := rfl
@[simp] theorem State.setSession_live (f : Session → Session) : (s.setSession f).live = s.live := rfl
@[simp] theorem State.setSession_sec (f : Session → Session) : (s.setSession f).sec = s.sec := rfl
@[simp] theorem State.setSession_recorder (f : Session → Session) : (s.setSession f).recorder = s.recorder := rfl
@[simp] theorem State.setSession_cores (f : Session → Session) : (s.setSession f).cores = s.cores := rfl
@[simp] theorem State.setSession_boxes (f : Session → Session) : (s.setSession f).boxes = s.boxes := rfl
@[simp] theorem State.setSession_dies (f : Session → Session) : (s.setSession f).dies = s.dies := rfl
@[simp] theorem State.setSession_grade (f : Session → Session) : (s.setSession f).grade = s.grade := rfl
@[simp] theorem State.setSession_gradeI (f : Session → Session) : (s.setSession f).gradeI = s.gradeI := rfl
/-! ### `setRecorder` -/
@[simp] theorem State.setRecorder_pending (f : Recorder → Recorder) : (s.setRecorder f).pending = s.pending := rfl
@[simp] theorem State.setRecorder_csr (f : Recorder → Recorder) : (s.setRecorder f).csr = s.csr := rfl
@[simp] theorem State.setRecorder_bus (f : Recorder → Recorder) : (s.setRecorder f).bus = s.bus := rfl
@[simp] theorem State.setRecorder_free (f : Recorder → Recorder) : (s.setRecorder f).free = s.free := rfl
@[simp] theorem State.setRecorder_raised (f : Recorder → Recorder) : (s.setRecorder f).raised = s.raised := rfl
@[simp] theorem State.setRecorder_spine (f : Recorder → Recorder) : (s.setRecorder f).spine = s.spine := rfl
@[simp] theorem State.setRecorder_tick (f : Recorder → Recorder) : (s.setRecorder f).tick = s.tick := rfl
@[simp] theorem State.setRecorder_cal (f : Recorder → Recorder) : (s.setRecorder f).cal = s.cal := rfl
@[simp] theorem State.setRecorder_calWrites (f : Recorder → Recorder) : (s.setRecorder f).calWrites = s.calWrites := rfl
@[simp] theorem State.setRecorder_tio (f : Recorder → Recorder) : (s.setRecorder f).tio = s.tio := rfl
@[simp] theorem State.setRecorder_tioWrites (f : Recorder → Recorder) : (s.setRecorder f).tioWrites = s.tioWrites := rfl
@[simp] theorem State.setRecorder_ez (f : Recorder → Recorder) : (s.setRecorder f).ez = s.ez := rfl
@[simp] theorem State.setRecorder_pins (f : Recorder → Recorder) : (s.setRecorder f).pins = s.pins := rfl
@[simp] theorem State.setRecorder_flights (f : Recorder → Recorder) : (s.setRecorder f).flights = s.flights := rfl
@[simp] theorem State.setRecorder_fabric (f : Recorder → Recorder) : (s.setRecorder f).fabric = s.fabric := rfl
@[simp] theorem State.setRecorder_facets (f : Recorder → Recorder) : (s.setRecorder f).facets = s.facets := rfl
@[simp] theorem State.setRecorder_power (f : Recorder → Recorder) : (s.setRecorder f).power = s.power := rfl
@[simp] theorem State.setRecorder_mem (f : Recorder → Recorder) : (s.setRecorder f).mem = s.mem := rfl
@[simp] theorem State.setRecorder_net (f : Recorder → Recorder) : (s.setRecorder f).net = s.net := rfl
@[simp] theorem State.setRecorder_serial (f : Recorder → Recorder) : (s.setRecorder f).serial = s.serial := rfl
@[simp] theorem State.setRecorder_clk (f : Recorder → Recorder) : (s.setRecorder f).clk = s.clk := rfl
@[simp] theorem State.setRecorder_boot (f : Recorder → Recorder) : (s.setRecorder f).boot = s.boot := rfl
@[simp] theorem State.setRecorder_live (f : Recorder → Recorder) : (s.setRecorder f).live = s.live := rfl
@[simp] theorem State.setRecorder_sec (f : Recorder → Recorder) : (s.setRecorder f).sec = s.sec := rfl
@[simp] theorem State.setRecorder_session (f : Recorder → Recorder) : (s.setRecorder f).session = s.session := rfl
@[simp] theorem State.setRecorder_cores (f : Recorder → Recorder) : (s.setRecorder f).cores = s.cores := rfl
@[simp] theorem State.setRecorder_boxes (f : Recorder → Recorder) : (s.setRecorder f).boxes = s.boxes := rfl
@[simp] theorem State.setRecorder_dies (f : Recorder → Recorder) : (s.setRecorder f).dies = s.dies := rfl
@[simp] theorem State.setRecorder_grade (f : Recorder → Recorder) : (s.setRecorder f).grade = s.grade := rfl
@[simp] theorem State.setRecorder_gradeI (f : Recorder → Recorder) : (s.setRecorder f).gradeI = s.gradeI := rfl
/-! ### `setCore` -/
@[simp] theorem State.setCore_self (i : Nat) (x : Core) : (s.setCore i x).core i = x := by simp [State.setCore, State.core]
@[simp] theorem State.setCore_pending (i : Nat) (x : Core) : (s.setCore i x).pending = s.pending := rfl
@[simp] theorem State.setCore_csr (i : Nat) (x : Core) : (s.setCore i x).csr = s.csr := rfl
@[simp] theorem State.setCore_bus (i : Nat) (x : Core) : (s.setCore i x).bus = s.bus := rfl
@[simp] theorem State.setCore_free (i : Nat) (x : Core) : (s.setCore i x).free = s.free := rfl
@[simp] theorem State.setCore_raised (i : Nat) (x : Core) : (s.setCore i x).raised = s.raised := rfl
@[simp] theorem State.setCore_spine (i : Nat) (x : Core) : (s.setCore i x).spine = s.spine := rfl
@[simp] theorem State.setCore_tick (i : Nat) (x : Core) : (s.setCore i x).tick = s.tick := rfl
@[simp] theorem State.setCore_cal (i : Nat) (x : Core) : (s.setCore i x).cal = s.cal := rfl
@[simp] theorem State.setCore_calWrites (i : Nat) (x : Core) : (s.setCore i x).calWrites = s.calWrites := rfl
@[simp] theorem State.setCore_tio (i : Nat) (x : Core) : (s.setCore i x).tio = s.tio := rfl
@[simp] theorem State.setCore_tioWrites (i : Nat) (x : Core) : (s.setCore i x).tioWrites = s.tioWrites := rfl
@[simp] theorem State.setCore_ez (i : Nat) (x : Core) : (s.setCore i x).ez = s.ez := rfl
@[simp] theorem State.setCore_pins (i : Nat) (x : Core) : (s.setCore i x).pins = s.pins := rfl
@[simp] theorem State.setCore_flights (i : Nat) (x : Core) : (s.setCore i x).flights = s.flights := rfl
@[simp] theorem State.setCore_fabric (i : Nat) (x : Core) : (s.setCore i x).fabric = s.fabric := rfl
@[simp] theorem State.setCore_facets (i : Nat) (x : Core) : (s.setCore i x).facets = s.facets := rfl
@[simp] theorem State.setCore_power (i : Nat) (x : Core) : (s.setCore i x).power = s.power := rfl
@[simp] theorem State.setCore_mem (i : Nat) (x : Core) : (s.setCore i x).mem = s.mem := rfl
@[simp] theorem State.setCore_net (i : Nat) (x : Core) : (s.setCore i x).net = s.net := rfl
@[simp] theorem State.setCore_serial (i : Nat) (x : Core) : (s.setCore i x).serial = s.serial := rfl
@[simp] theorem State.setCore_clk (i : Nat) (x : Core) : (s.setCore i x).clk = s.clk := rfl
@[simp] theorem State.setCore_boot (i : Nat) (x : Core) : (s.setCore i x).boot = s.boot := rfl
@[simp] theorem State.setCore_live (i : Nat) (x : Core) : (s.setCore i x).live = s.live := rfl
@[simp] theorem State.setCore_sec (i : Nat) (x : Core) : (s.setCore i x).sec = s.sec := rfl
@[simp] theorem State.setCore_session (i : Nat) (x : Core) : (s.setCore i x).session = s.session := rfl
@[simp] theorem State.setCore_recorder (i : Nat) (x : Core) : (s.setCore i x).recorder = s.recorder := rfl
@[simp] theorem State.setCore_boxes (i : Nat) (x : Core) : (s.setCore i x).boxes = s.boxes := rfl
@[simp] theorem State.setCore_dies (i : Nat) (x : Core) : (s.setCore i x).dies = s.dies := rfl
@[simp] theorem State.setCore_grade (i : Nat) (x : Core) : (s.setCore i x).grade = s.grade := rfl
@[simp] theorem State.setCore_gradeI (i : Nat) (x : Core) : (s.setCore i x).gradeI = s.gradeI := rfl
/-! ### `setBox` -/
@[simp] theorem State.setBox_self (n : Nat) (x : List Word) : (s.setBox n x).box n = x := by simp [State.setBox, State.box]
@[simp] theorem State.setBox_pending (n : Nat) (x : List Word) : (s.setBox n x).pending = s.pending := rfl
@[simp] theorem State.setBox_csr (n : Nat) (x : List Word) : (s.setBox n x).csr = s.csr := rfl
@[simp] theorem State.setBox_bus (n : Nat) (x : List Word) : (s.setBox n x).bus = s.bus := rfl
@[simp] theorem State.setBox_free (n : Nat) (x : List Word) : (s.setBox n x).free = s.free := rfl
@[simp] theorem State.setBox_raised (n : Nat) (x : List Word) : (s.setBox n x).raised = s.raised := rfl
@[simp] theorem State.setBox_spine (n : Nat) (x : List Word) : (s.setBox n x).spine = s.spine := rfl
@[simp] theorem State.setBox_tick (n : Nat) (x : List Word) : (s.setBox n x).tick = s.tick := rfl
@[simp] theorem State.setBox_cal (n : Nat) (x : List Word) : (s.setBox n x).cal = s.cal := rfl
@[simp] theorem State.setBox_calWrites (n : Nat) (x : List Word) : (s.setBox n x).calWrites = s.calWrites := rfl
@[simp] theorem State.setBox_tio (n : Nat) (x : List Word) : (s.setBox n x).tio = s.tio := rfl
@[simp] theorem State.setBox_tioWrites (n : Nat) (x : List Word) : (s.setBox n x).tioWrites = s.tioWrites := rfl
@[simp] theorem State.setBox_ez (n : Nat) (x : List Word) : (s.setBox n x).ez = s.ez := rfl
@[simp] theorem State.setBox_pins (n : Nat) (x : List Word) : (s.setBox n x).pins = s.pins := rfl
@[simp] theorem State.setBox_flights (n : Nat) (x : List Word) : (s.setBox n x).flights = s.flights := rfl
@[simp] theorem State.setBox_fabric (n : Nat) (x : List Word) : (s.setBox n x).fabric = s.fabric := rfl
@[simp] theorem State.setBox_facets (n : Nat) (x : List Word) : (s.setBox n x).facets = s.facets := rfl
@[simp] theorem State.setBox_power (n : Nat) (x : List Word) : (s.setBox n x).power = s.power := rfl
@[simp] theorem State.setBox_mem (n : Nat) (x : List Word) : (s.setBox n x).mem = s.mem := rfl
@[simp] theorem State.setBox_net (n : Nat) (x : List Word) : (s.setBox n x).net = s.net := rfl
@[simp] theorem State.setBox_serial (n : Nat) (x : List Word) : (s.setBox n x).serial = s.serial := rfl
@[simp] theorem State.setBox_clk (n : Nat) (x : List Word) : (s.setBox n x).clk = s.clk := rfl
@[simp] theorem State.setBox_boot (n : Nat) (x : List Word) : (s.setBox n x).boot = s.boot := rfl
@[simp] theorem State.setBox_live (n : Nat) (x : List Word) : (s.setBox n x).live = s.live := rfl
@[simp] theorem State.setBox_sec (n : Nat) (x : List Word) : (s.setBox n x).sec = s.sec := rfl
@[simp] theorem State.setBox_session (n : Nat) (x : List Word) : (s.setBox n x).session = s.session := rfl
@[simp] theorem State.setBox_recorder (n : Nat) (x : List Word) : (s.setBox n x).recorder = s.recorder := rfl
@[simp] theorem State.setBox_cores (n : Nat) (x : List Word) : (s.setBox n x).cores = s.cores := rfl
@[simp] theorem State.setBox_dies (n : Nat) (x : List Word) : (s.setBox n x).dies = s.dies := rfl
@[simp] theorem State.setBox_grade (n : Nat) (x : List Word) : (s.setBox n x).grade = s.grade := rfl
@[simp] theorem State.setBox_gradeI (n : Nat) (x : List Word) : (s.setBox n x).gradeI = s.gradeI := rfl
/-! ### `setDie` -/
@[simp] theorem State.setDie_self (die : Nat) (x : Nat) : (s.setDie die x).dieState die = x := by simp [State.setDie, State.dieState]
@[simp] theorem State.setDie_pending (die : Nat) (x : Nat) : (s.setDie die x).pending = s.pending := rfl
@[simp] theorem State.setDie_csr (die : Nat) (x : Nat) : (s.setDie die x).csr = s.csr := rfl
@[simp] theorem State.setDie_bus (die : Nat) (x : Nat) : (s.setDie die x).bus = s.bus := rfl
@[simp] theorem State.setDie_free (die : Nat) (x : Nat) : (s.setDie die x).free = s.free := rfl
@[simp] theorem State.setDie_raised (die : Nat) (x : Nat) : (s.setDie die x).raised = s.raised := rfl
@[simp] theorem State.setDie_spine (die : Nat) (x : Nat) : (s.setDie die x).spine = s.spine := rfl
@[simp] theorem State.setDie_tick (die : Nat) (x : Nat) : (s.setDie die x).tick = s.tick := rfl
@[simp] theorem State.setDie_cal (die : Nat) (x : Nat) : (s.setDie die x).cal = s.cal := rfl
@[simp] theorem State.setDie_calWrites (die : Nat) (x : Nat) : (s.setDie die x).calWrites = s.calWrites := rfl
@[simp] theorem State.setDie_tio (die : Nat) (x : Nat) : (s.setDie die x).tio = s.tio := rfl
@[simp] theorem State.setDie_tioWrites (die : Nat) (x : Nat) : (s.setDie die x).tioWrites = s.tioWrites := rfl
@[simp] theorem State.setDie_ez (die : Nat) (x : Nat) : (s.setDie die x).ez = s.ez := rfl
@[simp] theorem State.setDie_pins (die : Nat) (x : Nat) : (s.setDie die x).pins = s.pins := rfl
@[simp] theorem State.setDie_flights (die : Nat) (x : Nat) : (s.setDie die x).flights = s.flights := rfl
@[simp] theorem State.setDie_fabric (die : Nat) (x : Nat) : (s.setDie die x).fabric = s.fabric := rfl
@[simp] theorem State.setDie_facets (die : Nat) (x : Nat) : (s.setDie die x).facets = s.facets := rfl
@[simp] theorem State.setDie_power (die : Nat) (x : Nat) : (s.setDie die x).power = s.power := rfl
@[simp] theorem State.setDie_mem (die : Nat) (x : Nat) : (s.setDie die x).mem = s.mem := rfl
@[simp] theorem State.setDie_net (die : Nat) (x : Nat) : (s.setDie die x).net = s.net := rfl
@[simp] theorem State.setDie_serial (die : Nat) (x : Nat) : (s.setDie die x).serial = s.serial := rfl
@[simp] theorem State.setDie_clk (die : Nat) (x : Nat) : (s.setDie die x).clk = s.clk := rfl
@[simp] theorem State.setDie_boot (die : Nat) (x : Nat) : (s.setDie die x).boot = s.boot := rfl
@[simp] theorem State.setDie_live (die : Nat) (x : Nat) : (s.setDie die x).live = s.live := rfl
@[simp] theorem State.setDie_sec (die : Nat) (x : Nat) : (s.setDie die x).sec = s.sec := rfl
@[simp] theorem State.setDie_session (die : Nat) (x : Nat) : (s.setDie die x).session = s.session := rfl
@[simp] theorem State.setDie_recorder (die : Nat) (x : Nat) : (s.setDie die x).recorder = s.recorder := rfl
@[simp] theorem State.setDie_cores (die : Nat) (x : Nat) : (s.setDie die x).cores = s.cores := rfl
@[simp] theorem State.setDie_boxes (die : Nat) (x : Nat) : (s.setDie die x).boxes = s.boxes := rfl
@[simp] theorem State.setDie_grade (die : Nat) (x : Nat) : (s.setDie die x).grade = s.grade := rfl
@[simp] theorem State.setDie_gradeI (die : Nat) (x : Nat) : (s.setDie die x).gradeI = s.gradeI := rfl

end Sys2Proof.Machine
end

