-- ==== Sys2Proof/Tests/Slice0.lean ====
section
/-!
SUPPORT. Tests: the well-formedness checks, and for every statement with hypotheses a state and operands that meet them.
-/
namespace Sys2Proof.Tests

open Sys2Proof Sys2Proof.Machine

set_option Elab.async false

/-! ## States -/

/-- After reset. -/
def rst : State := State.reset

/-- In user mode, with device time running. -/
def up : State :=
  ({ State.reset with clk := { State.reset.clk with por := false }, spine := { State.reset.spine with run := true } } : State).setBit Reg.CC_STATUS 0 true

/-- A debug session with every scope, in user mode. -/
def dbg : State := { up with session := { state := 2, scope := 0xFF } }

/-- A domain engine in a given state, of a given source type. -/
def domain (d : Nat) (src : Nat) (x : Dom) : State := (up.setDom d x).setFld (Reg.DOM_CTL d) 0 3 src

/-- A capture at the edge of DT 0: every source of a clock may rise there. -/
theorem mayEdge_zero (die g : Nat) : gckMayEdge die g false 0 = true := by
  unfold gckMayEdge
  split
  · unfold sckEdge; simp
  · rfl
/-- A descriptor that offers what every die needs. -/
def offer : List Byte :=
  let head := leBytes 2 0x4D4C ++ [0, 1, 1, 2, 0, 0, 7, 0, 0x3F, 0, 9, 3, 3, 0x15] ++ List.replicate 44 0
  head ++ leBytes 4 (crcBytes head)
/-- Facet 0 of FD0 about to issue a bundle word. -/
def issuing (w : Nat) (f : Facet := {}) : State := up.setFacet 0 0 { f with state := if f.state = .off then .running else f.state, prog := [(f.pc, BitVec.ofNat 64 w)] }

theorem issues_of {s : State} {die p : Nat} {b : Bundle}
    (h : s.facetIssues die p = true ∧ (s.facet die p).upcoming = some b ∧ (s.facet die p).watchdogDue = false ∧ (s.facet die p).seen.slot = none ∧
      (s.facet die p).seen.rep = 0 ∧ (s.facet die p).seen.loops = []) : s.issues die p b := ⟨h.1, h.2.1, h.2.2.1, h.2.2.2.1, h.2.2.2.2.1, h.2.2.2.2.2⟩

/-- A DDR5 channel in service with its data area. -/
def ddr : State := ((up.setChan 0 { state := .ready }).setBit (Reg.DDR_CFG 0) 0 true).setFld (Reg.MPE_DSIZE 0) 0 16 1

/-- Region entry 0 over its first pages. -/
def region (mode kid : Nat) : State := (ddr.wr (Reg.MPE_RGN_LIMIT 0x100) 0xFFF).wr (Reg.MPE_RGN_CTL 0x100) (BitVec.ofNat 32 (0x80000000 + mode + 4 * kid))

/-- That entry with its key loaded, held by agent 1. -/
def keyed : State := ((region 2 5).setBit (Reg.MPE_AGKID_LO 1) 5 true).setBit Reg.MPE_KSTAT_LO 5 true

/-- A queue that runs, its home in service. -/
def running (q : Nat) (x : Queue) : State := (up.setBit (Reg.QM_CTL (homeOf q)) 0 true).setQueue q x

/-- A memory-to-memory queue with a descriptor of `len` bytes in its ring. -/
def fetching (len : Nat) : State :=
  let s := (region 3 0).setEngine 0 { lines := [(0, { data := 0x1000 + 0x2000 * 2 ^ 64 + len * 2 ^ 128, plain := true })] }
  ((s.setBit (Reg.QM_CTL 4) 0 true).setQueue 0 { state := .run, tail := 1 }).setFld (Reg.QM_QCFG0 4 0) 0 3 3
/-- The PMBus reaches one device, at GOV_PMB. -/
def bus : State :=
  let s := (rst.setBit Reg.GOV_PMB 15 true).setBit Reg.GOV_PMB 0 true
  { s with pins := { s.pins with fed := [(0x80, some 0), (0x81, some 1)] } }
/-- A header of one segment that passes every check of an open part. -/
def hd : Header :=
  { magic := 0x51494D47, hdrVer := 1, zeros := true, nseg := 1, family := 0x4D4C, device := 0x9440, speed := 0, temp := 0, stepMin := 0,
    secure := false, commit := false, ver := 0, arb := 0, xtalKhz := 25000, spineB := false, dieReq := 0, ddrIlv := 0, ddrReq := 0,
    ddrCfg := [], cxl := 0, epId := [], mpeD := [], split := 0, cdBase := 0, cdSize := 0, libSize := 0, libBase := 0, keySrc := 0,
    keyIdx := 0, keyHash := 0, sigOk := true, k1Ok := true, imgLen := 0x459, appEntry := 0, rt0Entry := 0, rt1Entry := 0, hash := 0,
    table := [⟨57, 1, 2, 0, 0, false, true, 0⟩] }

/-- Start-up with that header taken, at its first segment. -/
def loading : State := (up.setBootState 3).setBoot (fun b => { b with header := some hd, memOk := true })

/-- A segment of one byte as it arrives. -/
def segIn (tag erased : Bool) : SegIn := ⟨erased, true, tag, true, true, [0], none, false⟩

/-- A command on channel 1. -/
def bzc (op arg : Nat) (input : List Byte) : BzCommand := ⟨1, 8, op, arg, 0, input, 0, 0⟩

/-- The security processor about to answer a command, over a set of keys. -/
def bz (c : BzCommand) (vault : SMap (Option VaultKey) := []) : State :=
  { up with sec := { up.sec with ready := true, cmds := [c], vault := vault } }

/-- An image for a library entry that the part accepts. -/
def img : Image :=
  { formOk := true, whole := true, family := 0x4D4C, device := 0x9440, speed := 0, temp := 0, stepMin := 0, secure := false, reloc := false,
    selftest := false, cert := false, cls := 0, home := 0, ver := 3, arb := 0, keySrc := 0, keyIdx := 0, keyHash := 0, sigOk := true,
    unwrapOk := true, tagsOk := true, crc := 0, hash := 0, segs := [] }

/-- A record on its way to the recorder, and in it. -/
def rz (sev : Nat) : Raised := { code := 1, sev := sev, trig := 0, die := 0, inst := 0, dt := 0, phase := 0 }
def rc (sev : Nat) : Rec := ⟨0, sev, 0, 0, 0, 1, 0, 0, [], 0, false, false⟩

/-- A recorder in a given condition. -/
def rec_ (r : Recorder) : State := { up with recorder := r }

/-- A main store full of records of severity 5. -/
def fullStore : SMap (Option (Rec × Nat)) := (List.range' 0 7936).map (fun k => (k, some (rc 5, k)))

theorem full_get (k n a : Nat) (h : a ≤ k) (h2 : k < a + n) :
    SMap.get ((List.range' a n).map (fun k => (k, some (rc 5, k)))) k none = some (rc 5, k) := by
  induction n generalizing a with
  | zero => omega
  | succ n ih =>
    simp only [List.range'_succ, List.map_cons, SMap.get]
    split
    · subst_vars; rfl
    · exact ih (a + 1) (by omega) (by omega)

theorem full_old (sev : Nat) (hs : sev ≠ 5) : oldestOf fullStore sev = none := by
  unfold oldestOf fullStore
  generalize List.range' 0 7936 = l
  induction l with
  | nil => rfl
  | cons a l ih =>
    simp only [List.map_cons, List.foldl_cons]
    rw [if_neg (by rintro ⟨_, h⟩; exact hs h.symm)]
    exact ih

theorem full_empty : emptySlot fullStore 0 sev7Base = none := by
  rw [emptySlot, List.find?_eq_none]
  intro x hx
  obtain ⟨k, hk, rfl⟩ := List.mem_map.mp hx
  have e : fullStore.get (0 + k) none = some (rc 5, 0 + k) :=
    full_get (0 + k) 7936 0 (Nat.zero_le _) (by have := List.mem_range.mp hk; rw [sev7Base] at this; omega)
  rw [e]
  exact Bool.false_ne_true

theorem main_none {store : SMap (Option (Rec × Nat))} (h : emptySlot store 0 sev7Base = none) (ho : ∀ sev < 4, oldestOf store sev = none) :
    mainSlot store 4 = none := by
  have e : (List.range 4).findSome? (oldestOf store) = none := List.findSome?_eq_none_iff.mpr (fun x hx => ho x (List.mem_range.mp hx))
  unfold mainSlot
  rw [h, e]
  exact if_neg (by decide)

theorem full_main : mainSlot fullStore 4 = none := main_none full_empty (fun sev h => full_old sev (by omega))

/-- The debugger's selected Facet, in a given condition. -/
def selected (f : Facet) : State := ((dbg.setFld Reg.DBG_FSEL 0 9 271).setFld Reg.DBG_FSEL 9 2 3).setFacet 3 271 f

/-! ## Well-formedness: one ill-formed command for each check, refused, beside a well-formed one -/

/-- A frame that carries nothing. -/
def frame0 : Frame := ⟨0, 0, 0, 0, false, false, 0, 0, 0, (0, 0), [], []⟩

/-- A memory port reading one bit, and a MAC operation of zeros. -/
def port0 : PortAccess := ⟨true, 1, 0, false, 0, 0, .readFirst, false⟩
def mac0 : MacOp := ⟨0, false, false, 0, 0, 0, 0, 0, false, 0, false, false, false⟩

theorem test_wf_dtu : (Instr.quadCount 0 34 false 1).wellFormed = false ∧ (Instr.quadCount 0 0 false 1).wellFormed = false ∧
    (Instr.quadCount 0 33 false 1).wellFormed = true := by decide
theorem test_wf_address : (Instr.registerWrite .debugger (2 ^ 48 + 2 ^ 26) 4 0).wellFormed = false ∧
    (Instr.registerWrite .debugger (2 ^ 48 + 2 ^ 26 - 4) 4 0).wellFormed = true := by decide
theorem test_wf_size : (Instr.readClear .debugger 0 3).wellFormed = false ∧ (Instr.readClear .debugger 0 4).wellFormed = true := by decide
theorem test_wf_pair_address : (Instr.pairLoWrite .debugger (2 ^ 48 + 2 ^ 26) 0).wellFormed = false := by decide
theorem test_wf_descriptor : (Instr.capabilityDescriptor 0 0 (List.replicate 63 0)).wellFormed = false ∧
    (Instr.capabilityDescriptor 0 0 (List.replicate 64 0)).wellFormed = true := by decide
theorem test_wf_frame : (Instr.frameReceive 0 1 { frame0 with nd := 1 } true 0 false).wellFormed = false ∧
    (Instr.frameReceive 0 1 { frame0 with dt := 2 ^ 48 } true 0 false).wellFormed = false ∧
    (Instr.frameReceive 0 1 { frame0 with turn := (16, 0) } true 0 false).wellFormed = false ∧
    (Instr.frameReceive 0 1 { frame0 with nd := 1, doms := [(0, 8, false, 0)] } true 0 false).wellFormed = false ∧
    (Instr.frameReceive 0 1 { frame0 with ne := 1, events := [2 ^ 16] } true 0 false).wellFormed = false ∧
    (Instr.frameReceive 0 1 frame0 true 0 false).wellFormed = true := by decide
theorem test_wf_crossing_width : (Instr.crossingFifoWrite 0 0 0 8 0 0).wellFormed = false ∧
    (Instr.crossingFifoWrite 0 0 0 9 512 0).wellFormed = false ∧ (Instr.crossingFifoWrite 0 0 0 9 511 0).wellFormed = true := by decide
theorem test_wf_block_port : (Instr.blockMemoryAccess 0 0 0 false false (some { port0 with width := 3 }) none).wellFormed = false ∧
    (Instr.blockMemoryAccess 0 0 0 false false none (some { port0 with data := 2 })).wellFormed = false ∧
    (Instr.blockMemoryAccess 0 0 0 false false (some port0) none).wellFormed = true := by decide
theorem test_wf_mac : (Instr.macOperation 0 0 0 { mac0 with sel := 5 }).wellFormed = false ∧
    (Instr.macOperation 0 0 0 mac0).wellFormed = true := by decide
theorem test_wf_window : (Instr.creditWindow (List.replicate 93 (0, 0)) []).wellFormed = false ∧
    (Instr.creditWindow [] (List.replicate 93 0)).wellFormed = false ∧ (Instr.creditWindow [] []).wellFormed = true := by decide
theorem test_wf_work : (Instr.workAdmission (.job 7 0)).wellFormed = false ∧ (Instr.workAdmission (.request 4 0 0)).wellFormed = false ∧
    (Instr.workAdmission (.job 6 4)).wellFormed = true := by decide
theorem test_wf_replies : (Instr.pmbusPoll [(9, 0)]).wellFormed = false ∧ (Instr.pmbusPoll [(8, 2 ^ 16)]).wellFormed = false ∧
    (Instr.pmbusPoll [(8, 2 ^ 16 - 1)]).wellFormed = true := by decide
theorem test_wf_endpoint : (Instr.creditReturn 0 (.regionPort 64 0)).wellFormed = false ∧ (Instr.creditReturn 0 (.facetBank 1024 0)).wellFormed = false ∧
    (Instr.creditReturn 0 (.remote 6)).wellFormed = false ∧ (Instr.creditReturn 0 (.regionPort 63 3)).wellFormed = true := by decide
theorem test_wf_consumer : (Instr.protectedRead 0 (.queue 8192) .intact).wellFormed = false ∧ (Instr.protectedRead 0 (.agent 16) .intact).wellFormed = false ∧
    (Instr.protectedRead 0 (.test 4 0) .intact).wellFormed = false ∧ (Instr.protectedRead 0 (.queue 8191) .intact).wellFormed = true := by decide
theorem test_wf_line : (Instr.protectedWrite 1 (List.replicate 64 0) false (.agent 0) .intact).wellFormed = false ∧
    (Instr.protectedWrite 0 [] false (.agent 0) .intact).wellFormed = false ∧
    (Instr.protectedWrite 0 (List.replicate 64 0) false (.agent 0) .intact).wellFormed = true := by decide
theorem test_wf_memory : (Instr.memoryRead (2 ^ 48) 0 0 0).wellFormed = false ∧ (Instr.memoryWrite 0 0 0 16).wellFormed = false ∧
    (Instr.memoryWrite 0 0 0 15).wellFormed = true := by decide
theorem test_wf_load : (Instr.loadComplete 0 0 ⟨6, 0, 0, false, 0, 0, 0, []⟩).wellFormed = false ∧ (Instr.loadComplete 0 0 ⟨5, 0, 0, false, 0, 0, 0, []⟩).wellFormed = true := by decide
theorem test_wf_flow : (Instr.packetArrival ⟨0, ⟨(0, .queues), (1, .queues), 4⟩⟩ false false).wellFormed = false ∧
    (Instr.packetArrival ⟨0, ⟨(0, .port 0 4), (1, .queues), 0⟩⟩ false false).wellFormed = false ∧
    (Instr.packetArrival ⟨0, ⟨(0, .port 15 3), (5, .queues), 3⟩⟩ false false).wellFormed = true := by decide
theorem test_wf_flit : (Instr.crossingFlit 0 0 0 ⟨0, [], false⟩).wellFormed = false ∧
    (Instr.crossingFlit 0 0 0 ⟨0, List.replicate 32 0, false⟩).wellFormed = true := by decide

/-! ## The specification's own examples -/

/-- 08_facet_instructions.md, Worked example: encoding: `MACB.2 A0,D0,D2 | A: INP D0,IN0 | B: LD D2,(P0)+1`. -/
theorem test_example_bundle_par :
    decodeBundle 0x06002020E0422420 = some (.par { op := 6, db := 2, ln := 1 } (.inp 0 0 true) (.ld 2 0 2)) := by decide +kernel

/-- The same table: `IMM D2,0 ; P0,0x000`, `REP 16`, `WAIT`. -/
theorem test_example_bundle_imm :
    decodeBundle 0x4200000090000000 = some (.imm ⟨0, 2, 0⟩ (some ⟨1, 0, 0⟩)) := by decide +kernel
theorem test_example_bundle_control :
    decodeBundle 0x920000000000F000 = some (.ctl (.rep 16)) ∧ decodeBundle 0x8C00000000000000 = some (.ctl .wait) := by decide +kernel

/-- 19_electrical.md, Worked example: finding balls: AL6, BL27, BA23. -/
theorem test_example_ball_io : ballName 29 6 = "AL6" ∧ ballAt 29 6 = .io 500 := by decide +kernel
theorem test_example_ball_ddr : ballName 48 27 = "BL27" ∧ ballAt 48 27 = .ddr 2 1 (.dq 5) := by decide +kernel
theorem test_example_ball_tck : ballName 38 23 = "BA23" ∧ ballAt 38 23 = .dedicated "TCK" := by decide +kernel

/-- 12_memory_protection.md, Worked example: one line of a QUAD channel: four populated channels of 64 GiB, QUAD, d = 223. -/
def quad : State :=
  [0, 1, 2, 3].foldl (fun s c => ((s.setChan c { state := .ready }).wr (Reg.DDR_CFG c) 0x20B).setFld (Reg.MPE_DSIZE c) 0 16 223)
    (up.setFld Reg.DDR_GCTL 0 2 2)

theorem test_example_quad_line : quad.locate 0x23456789C0 = .ok (1, 0x8D159E2C0) := by rfl

/-! ## Witnesses: for each statement with hypotheses, every set of them is met together -/

theorem test_wit_StepRunsFrontCommand :
    (∃ (s : Machine.State), s.pending = []) :=
  ⟨rst, by decide +kernel⟩

theorem test_wit_RegisterStoreStaysCanonical :
    (∃ (s : Machine.State) (t : Machine.State), s.csrWf ∧
      step s = Host.Outcome.next t) :=
  ⟨rst, rst, ⟨⟨by simp [rst, State.reset], by simp [rst, State.reset]⟩, rfl⟩⟩

theorem test_wit_OneTimeStateMovesForward :
    (∃ (s : Machine.State) (t : Machine.State), step s = Host.Outcome.next t ∧
      (∀ (rest : List Instr), s.pending ≠ Instr.arbAdvance :: rest) ∧
      (∀ (x : Token) (rest : List Instr), s.pending ≠ Instr.otpSet x :: rest) ∧
      (∀ (x : List Token) (y : Option Provisioning) (rest : List Instr), s.pending ≠ Instr.lcChange x y :: rest) ∧
      (∀ (x : Nat) (rest : List Instr), s.pending ≠ Instr.userModeEntry x :: rest)) :=
  ⟨rst, rst, ⟨rfl, (fun _ h => nomatch h), (fun _ _ h => nomatch h), (fun _ _ _ h => nomatch h), (fun _ _ h => nomatch h)⟩⟩

theorem test_wit_AccessesTurnedAway :
    (∃ (s : Machine.State) (r : Requester) (addr : Nat), r.code = 16 ∧
      s.gateCovers addr = false) ∧
    (∃ (s : Machine.State) (r : Requester) (addr : Nat) (size : Nat), (r.code = 16 → s.gateCovers addr = true) ∧
      place addr = Place.nothing ∧
      (5 < r.code ∨ isPlic addr = false ∨ size ≠ 4 ∨ addr % 4 ≠ 0)) ∧
    (∃ (s : Machine.State) (r : Requester) (key : Nat) (size : Nat), key < 2 ^ 32 ∧
      (r.code = 16 → s.gateCovers (csrAddr key) = true) ∧
      (size ≠ 4 ∨ key % 4 ≠ 0)) ∧
    (∃ (s : Machine.State) (r : Requester) (key : Nat), (r.code = 16 → s.gateCovers (csrAddr key) = true) ∧
      key < 2 ^ 32 ∧
      key % 4 = 0 ∧
      isAlias key = false ∧
      regDefined key = false) ∧
    (∃ (s : Machine.State) (r : Requester) (key : Nat), (r.code = 16 → s.gateCovers (csrAddr key) = true) ∧
      singleReg key = true ∧
      s.reachable key = false) ∧
    (∃ (s : Machine.State) (r : Requester) (key : Nat), (r.code = 16 → s.gateCovers (csrAddr key) = true) ∧
      singleReg key = true ∧
      s.reachable key = true ∧
      s.denies r.code key true = true) ∧
    (∃ (s : Machine.State) (r : Requester) (key : Nat), (r.code = 16 → s.gateCovers (csrAddr key) = true) ∧
      singleReg key = true ∧
      s.reachable key = true ∧
      s.denies r.code key true = false ∧
      s.declines r.code (keyDie key) (keyUnit key) (keyOff key) true = true) :=
  ⟨⟨rst, .debugger, 0, by decide +kernel⟩,
   ⟨rst, .agent 8, 0x50000000000, 4, by decide +kernel⟩,
   ⟨rst, .agent 8, 1, 4, by decide +kernel⟩,
   ⟨rst, .agent 8, regKey 0 0x1F 0 0, by decide +kernel⟩,
   ⟨rst.setDie 0 1, .agent 8, Reg.TIO_CTL 0 239, by decide +kernel⟩,
   ⟨rst, .agent 9, Reg.BZ_CMD 0, by decide +kernel⟩,
   ⟨rst, .agent 5, Reg.TIO_CTL 3 0, by decide +kernel⟩⟩

theorem test_wit_CompletionsReportToTheRequester :
    (∃ (req : Nat) (x : Resp) (n : Nat), req ≤ 5 ∧
      x ≠ Resp.ok ∧
      n ≠ req) ∧
    (∃ (req : Nat) (x : Resp), req ≠ 16 ∧
      (x = Resp.ok ∨ 5 < req)) :=
  ⟨⟨5, .partialOk, 4, by decide +kernel⟩,
   ⟨6, .ok, by decide +kernel⟩⟩

theorem test_wit_RegisterHalvesReadsAndGroups :
    (∃ (s : Machine.State) (r : Requester) (key : Nat), singleReg key = true ∧
      keyUnit key ≠ 6 ∧
      keyUnit key ≠ 7 ∧
      keyUnit key ≠ 19 ∧
      pairHalf key = PairHalf.lo ∧
      takesWrites key = true ∧
      s.admits r key true = true ∧
      s.pairRefused key = false) ∧
    (∃ (s : Machine.State) (r : Requester) (key : Nat) (w : BitVec 32) (lo : BitVec 32) (t : Machine.State), singleReg key = true ∧
      keyUnit key ≠ 6 ∧
      keyUnit key ≠ 7 ∧
      keyUnit key ≠ 19 ∧
      pairHalf key = PairHalf.hi ∧
      takesWrites key = true ∧
      s.admits r key true = true ∧
      s.pairRefused key = false ∧
      s.bus.held.get (slot (key - 4) r.code) none = some lo ∧
      (s.setHeld (slot (key - 4) r.code) none).pairWrite (key - 4) r.code (joinHalves w lo) = (t, Resp.ok)) ∧
    (∃ (s : Machine.State) (r : Requester) (key : Nat), singleReg key = true ∧
      keyUnit key ≠ 6 ∧
      keyUnit key ≠ 7 ∧
      keyUnit key ≠ 19 ∧
      pairHalf key = PairHalf.hi ∧
      takesWrites key = true ∧
      s.admits r key true = true ∧
      s.pairRefused key = false ∧
      s.bus.held.get (slot (key - 4) r.code) none = none) ∧
    (∃ (s : Machine.State) (r : Requester) (key : Nat), singleReg key = true ∧
      keyUnit key ≠ 6 ∧
      keyUnit key ≠ 7 ∧
      keyUnit key ≠ 19 ∧
      pairHalf key = PairHalf.lo ∧
      s.admits r key false = true ∧
      r.code ≠ 16 ∧
      s.readIsFree key = false) ∧
    (∃ (s : Machine.State) (r : Requester) (key : Nat) (d : BitVec 64), singleReg key = true ∧
      keyUnit key ≠ 6 ∧
      keyUnit key ≠ 7 ∧
      keyUnit key ≠ 19 ∧
      pairHalf key = PairHalf.hi ∧
      s.admits r key false = true ∧
      r.code ≠ 16 ∧
      s.bus.capt.get (slot (key - 4) r.code) none = some d) ∧
    (∃ (s : Machine.State) (r : Requester) (key : Nat), singleReg key = true ∧
      keyUnit key ≠ 6 ∧
      keyUnit key ≠ 7 ∧
      keyUnit key ≠ 19 ∧
      pairHalf key = PairHalf.hi ∧
      s.admits r key false = true ∧
      r.code ≠ 16 ∧
      s.readIsFree key = false ∧
      s.bus.capt.get (slot (key - 4) r.code) none = none) ∧
    (∃ (s : Machine.State) (r : Requester) (key : Nat) (reg : RegDef), singleReg key = true ∧
      pairHalf key = PairHalf.none ∧
      regDef? key = some reg ∧
      reg.rc ≠ 0 ∧
      [0, 4, 9, 11, 12, 13, 15, 16, 20, 21, 23].contains (keyUnit key) = true ∧
      s.admits r key false = true ∧
      r.code ≠ 16) ∧
    (∃ (s : Machine.State) (r : Requester), s.admits r Reg.CFG_NVMDATA false = true ∧
      r.code ≠ 16) ∧
    (∃ (s : Machine.State) (key : Nat), singleReg key = true ∧
      s.admits Requester.debugger key false = true ∧
      s.readIsFree key = false ∧
      keyUnit key ≠ 6 ∧
      keyUnit key ≠ 7 ∧
      keyUnit key ≠ 19) ∧
    (∃ (s : Machine.State) (r : Requester) (key : Nat), singleReg key = true ∧
      keyOff key = 4092 ∧
      keyUnit key ≠ 6 ∧
      keyUnit key ≠ 7 ∧
      keyUnit key ≠ 19 ∧
      s.admits r key true = true) :=
  ⟨⟨rst, .agent 8, Reg.DOM_LOAD_LO 15, by decide +kernel⟩,
   ⟨rst.setHeld (slot (Reg.DOM_LOAD_HI 15 - 4) 8) (some 5), .agent 8, Reg.DOM_LOAD_HI 15, 7, 5, ((rst.setHeld (slot (Reg.DOM_LOAD_HI 15 - 4) 8) (some 5)).setHeld (slot (Reg.DOM_LOAD_HI 15 - 4) 8) none).pairWrite (Reg.DOM_LOAD_HI 15 - 4) 8 (joinHalves 7 5) |>.1, by decide +kernel⟩,
   ⟨rst, .agent 8, Reg.DOM_LOAD_HI 15, by decide +kernel⟩,
   ⟨rst, .agent 0, Reg.DOM_LOAD_LO 15, by decide +kernel⟩,
   ⟨rst.setCapt (slot (Reg.DOM_LOAD_HI 15 - 4) 0) (some 9), .agent 0, Reg.DOM_LOAD_HI 15, 9, by decide +kernel⟩,
   ⟨rst, .agent 0, Reg.DOM_LOAD_HI 15, by decide +kernel⟩,
   ⟨rst, .agent 0, Reg.DDR_CECNT 0, (regDef? (Reg.DDR_CECNT 0)).get (by decide +kernel), by decide +kernel⟩,
   ⟨up, .agent 0, by decide +kernel⟩,
   ⟨dbg, Reg.DOM_CTL 0, by decide +kernel⟩,
   ⟨rst, .agent 8, regKey 0 5 0 0xFFC, by decide +kernel⟩⟩

theorem test_wit_SpineTickOrder :
    (∃ (s : Machine.State), (s.clk.por = true ∨ s.spine.run = false)) ∧
    (∃ (s : Machine.State), s.clk.por = false ∧
      s.spine.run = true) ∧
    (∃ (s : Machine.State), s.serial.step = none) ∧
    (∃ (s : Machine.State) (d : Int), s.serial.step = some d) :=
  ⟨⟨rst, by decide +kernel⟩,
   ⟨up, by decide +kernel⟩,
   ⟨rst, by decide +kernel⟩,
   ⟨{ up with serial := { up.serial with step := some (-1) } }, -1, by decide +kernel⟩⟩

theorem test_wit_SpineRecalibration :
    (∃ (s : Machine.State) (r : Requester) (die : Fin 4), s.admits r (Reg.SRX_CTL ↑die) true = true ∧
      s.spine.recal.get (↑die) 0 = 0) ∧
    (∃ (s : Machine.State) (die : Fin 4), s.spine.recal.get (↑die) 0 = 1) :=
  ⟨⟨rst, .agent 8, 3, by decide +kernel⟩,
   ⟨{ rst with spine := { rst.spine with recal := [(3, 1)] } }, 3, by decide +kernel⟩⟩

theorem test_wit_DomainWritesWaitOrApplyWhole :
    (∃ (s : Machine.State) (r : Requester) (d : Fin 16), s.admits r (Reg.DOM_CMD ↑d) true = true) ∧
    (∃ (s : Machine.State) (r : Requester) (d : Fin 16) (v : DWord), s.admits r (Reg.DOM_VEL_LO ↑d) true = true ∧
      s.admits r (Reg.DOM_VEL_HI ↑d) true = true ∧
      s.domSrc ↑d = 5 ∧
      BitVec.toNat v ≤ maxVelocity) ∧
    (∃ (s : Machine.State) (r : Requester) (d : Fin 16) (v : DWord), s.admits r (Reg.DOM_VEL_LO ↑d) true = true ∧
      s.admits r (Reg.DOM_VEL_HI ↑d) true = true ∧
      s.domSrc ↑d = 5 ∧
      BitVec.toInt v < 0) ∧
    (∃ (s : Machine.State) (r : Requester) (d : Fin 16), s.admits r (Reg.DOM_ACC_LO ↑d) true = true ∧
      s.admits r (Reg.DOM_ACC_HI ↑d) true = true ∧
      s.domSrc ↑d = 5) ∧
    (∃ (s : Machine.State) (r : Requester) (d : Fin 16), s.admits r (Reg.DOM_LOAD_LO ↑d) true = true ∧
      s.admits r (Reg.DOM_LOAD_HI ↑d) true = true ∧
      (s.dom ↑d).state = DomState.off) :=
  ⟨⟨rst, .agent 8, 15, by decide +kernel⟩,
   ⟨domain 15 5 {}, .agent 8, 15, BitVec.ofNat 64 maxVelocity, by decide +kernel⟩,
   ⟨domain 0 5 {}, .agent 8, 0, -1, by decide +kernel⟩,
   ⟨domain 0 5 {}, .agent 8, 0, by decide +kernel⟩,
   ⟨rst, .agent 8, 0, by decide +kernel⟩⟩

theorem test_wit_QuadratureCountsAndIndex :
    (∃ (s : Machine.State) (d : Fin 16) (k : Nat) (width : Nat), s.domTakes 0 (↑d) width = true ∧
      (s.dom ↑d).state = DomState.locked ∧
      (s.dom ↑d).posKnown = true ∧
      (s.dom ↑d).taken ≤ (s.dom ↑d).pos ∧
      (∀ (y : DWord), (s.dom ↑d).lastCount = some y → y ≤ s.stamp k ∧ 160 ≤ BitVec.toNat (s.stamp k - y))) ∧
    (∃ (s : Machine.State) (d : Fin 16) (width : Nat), s.domTakes 0 (↑d) width = true ∧
      s.bit (Reg.DOM_INPUT ↑d) 16 = true ∧
      (s.dom ↑d).state = DomState.acquire ∧
      (s.dom ↑d).lastRev = false) ∧
    (∃ (s : Machine.State) (d : Fin 16) (width : Nat), s.domTakes 0 (↑d) width = true ∧
      s.bit (Reg.DOM_INPUT ↑d) 16 = true ∧
      (s.dom ↑d).state = DomState.locked ∧
      (s.dom ↑d).lastRev = false ∧
      (s.dom ↑d).pos % ↑(s.domEdges ↑d) ≠ 0) :=
  ⟨⟨domain 0 0 { state := .locked, posKnown := true }, 0, 33, 1000, ⟨by decide +kernel, by decide +kernel, by decide +kernel, by decide +kernel, fun y h => nomatch h⟩⟩,
   ⟨(domain 15 0 { state := .acquire }).setBit (Reg.DOM_INPUT 15) 16 true, 15, 1000, by decide +kernel⟩,
   ⟨((domain 0 0 { state := .locked, pos := 1 }).setBit (Reg.DOM_INPUT 0) 16 true).setFld (Reg.DOM_SRCA 0) 0 24 3, 0, 1000, by decide +kernel⟩⟩

theorem test_wit_ToothPulseResolverAndFabricAdvance :
    (∃ (s : Machine.State) (d : Fin 16) (k : Nat) (width : Nat), (s.dom ↑d).state = DomState.locked ∧
      s.domTol ↑d = 0 ∧
      (∀ (y : DWord), (s.dom ↑d).lastTooth = some y → y ≤ s.stamp k) ∧
      s.domTakes 1 (↑d) width = true) ∧
    (∃ (s : Machine.State) (d : Fin 16) (k : Nat) (width : Nat), (s.dom ↑d).state = DomState.locked ∧
      s.domTol ↑d = 0 ∧
      (∀ (y : DWord), (s.dom ↑d).lastTooth = some y → y ≤ s.stamp k) ∧
      s.domTakes 2 (↑d) width = true) ∧
    (∃ (s : Machine.State) (d : Fin 16) (err : BitVec 32), s.ticking = true ∧
      s.domSrc ↑d = 3 ∧
      (s.dom ↑d).state = DomState.acquire ∧
      err.toNat < s.fld (Reg.DOM_SRCB ↑d) 0 16 * 2 ^ 16 ∧
      (s.dom ↑d).good = 255 ∧
      loHalf (s.dom ↑d).raw = (s.dom ↑d).angle) ∧
    (∃ (s : Machine.State) (d : Fin 16) (err : BitVec 32), s.ticking = true ∧
      s.domSrc ↑d = 3 ∧
      (s.dom ↑d).state = DomState.acquire ∧
      s.fld (Reg.DOM_SRCB ↑d) 0 16 * 2 ^ 16 ≤ err.toNat) ∧
    (∃ (s : Machine.State) (rg : Fin 64), s.ticking = true ∧
      s.isolated (↑rg / 16) (↑rg % 16) = false) :=
  ⟨⟨domain 0 1 { state := .locked }, 0, 1, 1000, ⟨by decide +kernel, by decide +kernel, (fun y h => nomatch h), by decide +kernel⟩⟩,
   ⟨domain 15 2 { state := .locked }, 15, 1, 1000, ⟨by decide +kernel, by decide +kernel, (fun y h => nomatch h), by decide +kernel⟩⟩,
   ⟨(domain 0 3 { state := .acquire, good := 255 }).setFld (Reg.DOM_SRCB 0) 0 16 1, 0, 65535, by decide +kernel⟩,
   ⟨(domain 0 3 { state := .acquire }).setFld (Reg.DOM_SRCB 0) 0 16 1, 0, 65536, by decide +kernel⟩,
   ⟨up, 63, by decide +kernel⟩⟩

theorem test_wit_DomainTimeoutsChangeState :
    (∃ (s : Machine.State) (d : Fin 16) (lim : Nat), (s.dom ↑d).state = DomState.locked ∧
      s.domSrc ↑d ≠ 4 ∧
      s.domSrc ↑d ≠ 5 ∧
      s.stallLimit ↑d = some lim ∧
      lim ≤ BitVec.toNat (s.tickEnd - (s.dom ↑d).act)) ∧
    (∃ (s : Machine.State) (d : Fin 16), (s.dom ↑d).state = DomState.holdover ∧
      (s.dom ↑d).arrived = false ∧
      s.fld (Reg.DOM_HOLDMAX ↑d) 0 24 * 512 ≤ (s.dom ↑d).holdTicks + 1) ∧
    (∃ (s : Machine.State) (d : Fin 16), (s.dom ↑d).state = DomState.locked ∧
      s.domSrc ↑d = 4 ∧
      s.fld (Reg.DOM_HOLDMAX ↑d) 0 24 ≠ 0) ∧
    (∃ (s : Machine.State) (d : Fin 16), (s.dom ↑d).state = DomState.locked ∧
      s.domSrc ↑d = 4 ∧
      s.fld (Reg.DOM_HOLDMAX ↑d) 0 24 = 0) :=
  ⟨⟨(domain 0 0 { state := .locked, act := 32 - 16384 }).setFld (Reg.DOM_TIMEOUT 0) 0 24 1, 0, 16384, by decide +kernel⟩,
   ⟨domain 0 0 { state := .holdover }, 0, by decide +kernel⟩,
   ⟨(domain 15 4 { state := .locked }).setFld (Reg.DOM_HOLDMAX 15) 0 24 1, 15, by decide +kernel⟩,
   ⟨(domain 0 4 { state := .locked }).setFld (Reg.DOM_HOLDMAX 0) 0 24 0, 0, by decide +kernel⟩⟩

theorem test_wit_CalendarTableAndCommandsWait :
    (∃ (s : Machine.State) (r : Requester) (die : Fin 8) (entry : Fin 16448) (word : Fin 8), (↑die < 4 ∨ ↑die = 7) ∧
      (∀ (d : Nat), d ∈ viewDies ↑die → s.admitsView r d 4 (some (128 + d)) (calAddr ↑die ↑entry ↑word) true = true)) ∧
    (∃ (s : Machine.State) (r : Requester) (die : Fin 8) (entry : Fin 16448), (↑die < 4 ∨ ↑die = 7) ∧
      (∀ (d : Nat), d ∈ viewDies ↑die → s.admitsView r d 4 (some (128 + d)) (calAddr (↑die) (↑entry) 7) true = true)) ∧
    (∃ (s : Machine.State) (r : Requester) (die : Fin 8) (entry : Fin 16448), ↑die < 4 ∧
      r.code ≠ 16 ∧
      s.admitsView r (↑die) 4 (some (128 + ↑die)) (calAddr (↑die) (↑entry) 0) false = true) ∧
    (∃ (s : Machine.State) (r : Requester) (die : Fin 4), s.admits r (Reg.CAL_STG_CMD ↑die) true = true ∧
      (s.slice ↑die).stage = none) ∧
    (∃ (s : Machine.State) (r : Requester) (die : Fin 4) (timed : Bool), s.admits r (Reg.CAL_GCMD ↑die) true = true ∧
      (s.slice ↑die).gcmd = none ∧
      (timed = true → s.tickEnd < s.rdPair (Reg.CAL_GCMD_AT_LO ↑die) (Reg.CAL_GCMD_AT_HI ↑die))) ∧
    (∃ (s : Machine.State) (r : Requester) (die : Fin 4), s.admits r (Reg.CAL_CTL ↑die) true = true) :=
  ⟨⟨rst, .agent 8, 7, 16447, 7, by decide +kernel⟩,
   ⟨rst, .agent 8, 3, 16384, by decide +kernel⟩,
   ⟨up, .agent 0, 3, 0, by decide +kernel⟩,
   ⟨rst, .agent 8, 3, by decide +kernel⟩,
   ⟨rst.wr (Reg.CAL_GCMD_AT_LO 0) 33, .agent 8, 0, true, by decide +kernel⟩,
   ⟨rst, .agent 8, 0, by decide +kernel⟩⟩

theorem test_wit_CalendarEndsAndDeliveries :
    (∃ (s : Machine.State) (die : Fin 4) (n : Fin 256) (x : DWord) (idle : Bool), ((s.slice ↑die).lines.get ↑n { }).pulse = some (EndAt.time x, idle) ∧
      x ≤ s.tickEnd ∧
      later x (s.now + 1) ≤ s.tickEnd) ∧
    (∃ (s : Machine.State) (die : Fin 4) (n : Fin 240) (x : DWord) (idle : Bool), (s.unit ↑die ↑n).line.pulse = some (EndAt.time x, idle) ∧
      x ≤ s.tickEnd ∧
      later x (s.now + 1) ≤ s.tickEnd) ∧
    (∃ (s : Machine.State) (die : Fin 4) (n : Fin 240) (x : DWord), (s.unit ↑die ↑n).window = some (EndAt.time x) ∧
      x ≤ s.tickEnd ∧
      later x (s.now + 1) ≤ s.tickEnd ∧
      wbit (s.unit ↑die ↑n).ctl 11 = false) ∧
    (∃ (s : Machine.State) (die : Fin 4) (n : Fin 240) (x : DWord), (s.unit ↑die ↑n).window = some (EndAt.time x) ∧
      x ≤ s.tickEnd ∧
      later x (s.now + 1) ≤ s.tickEnd ∧
      wbit (s.unit ↑die ↑n).ctl 11 = true ∧
      (s.unit ↑die ↑n).caps.length < 32) ∧
    (∃ (s : Machine.State) (k : Nat) (f : Flight) (rest : List (Nat × Flight)) (x : Raised), s.flights = (k, f) :: rest ∧
      k ≤ s.tick ∧
      (∀ (g : Nat × Flight), g ∈ rest → s.tick < g.fst) ∧
      f = Flight.record x) ∧
    (∃ (s : Machine.State) (die : Fin 4) (k : Nat) (f : Flight) (rest : List (Nat × Flight)) (e : Nat) (d : Nat), s.flights = (k, f) :: rest ∧
      k ≤ s.tick ∧
      (∀ (g : Nat × Flight), g ∈ rest → s.tick < g.fst) ∧
      f = Flight.domain (↑die) e d 1 ∧
      ({ s with flights := rest } : State).domInvalid d 1 = false) :=
  ⟨⟨rst.setSlice 3 { lines := [(255, { pulse := some (EndAt.time 32, true) })] }, 3, 255, 32, true, by decide +kernel⟩,
   ⟨rst.setUnit 3 239 { line := { pulse := some (EndAt.time 32, true) } }, 3, 239, 32, true, by decide +kernel⟩,
   ⟨rst.setUnit 0 0 { window := some (.time 0) }, 0, 0, 0, by decide +kernel⟩,
   ⟨rst.setUnit 0 0 { window := some (.time 0), ctl := 0x800, caps := List.replicate 31 ⟨0, 0, false, false, 0⟩ }, 0, 0, 0, by decide +kernel⟩,
   ⟨{ rst with tick := 1, flights := [(1, .record ⟨1, 2, 3, 4, 5, 6, 7, 0, false, false⟩), (2, .kick 0 0 0)] }, 1, .record ⟨1, 2, 3, 4, 5, 6, 7, 0, false, false⟩, [(2, .kick 0 0 0)], ⟨1, 2, 3, 4, 5, 6, 7, 0, false, false⟩, by decide +kernel⟩,
   ⟨{ domain 15 1 {} with flights := [(0, .domain 3 0 15 1)] }, 3, 0, .domain 3 0 15 1, [], 0, 15, ⟨rfl, by decide +kernel, (fun g h => nomatch h), rfl, by decide +kernel⟩⟩⟩

theorem test_wit_TimedIoWritesWaitAndCapturesLeave :
    (∃ (s : Machine.State) (r : Requester) (die : Fin 4) (pin : Fin 240), s.admits r (Reg.TIO_CTL ↑die ↑pin) true = true ∧
      s.takenOver ↑die ↑pin = false ∧
      s.fld (Reg.TIO_CTL ↑die ↑pin) 0 4 ≠ 1 ∧
      s.fld (Reg.TIO_CTL ↑die ↑pin) 0 4 ≠ 2) ∧
    (∃ (s : Machine.State) (r : Requester) (die : Fin 4) (pin : Fin 240), s.admits r (Reg.TIO_OFLUSH ↑die ↑pin) true = true) ∧
    (∃ (s : Machine.State) (r : Requester) (die : Fin 4) (pin : Fin 240), s.admits r (Reg.TIO_PW_UPD ↑die ↑pin) true = true) ∧
    (∃ (s : Machine.State) (r : Requester) (die : Fin 4) (pin : Fin 240), s.admits r (Reg.TIO_EMU_OFS ↑die ↑pin) true = true) ∧
    (∃ (s : Machine.State) (r : Requester) (die : Fin 4) (n : Fin 128), s.admits r (Reg.TIO_PAT ↑die ↑n) true = true) ∧
    (∃ (s : Machine.State) (r : Requester) (die : Fin 4) (pin : Fin 240) (v : BitVec 64) (op : OutOp), s.admits r (Reg.TIO_OUT_LO ↑die ↑pin) true = true ∧
      s.admits r (Reg.TIO_OUT_HI ↑die ↑pin) true = true ∧
      s.fld (Reg.TIO_CTL ↑die ↑pin) 0 4 = 3 ∧
      [OutOp.low, OutOp.high, OutOp.toggle, OutOp.release, OutOp.drive][v.toNat / 2 ^ 60]? = some op ∧
      (s.unit ↑die ↑pin).outq.length < 16) ∧
    (∃ (s : Machine.State) (r : Requester) (die : Fin 4) (pin : Fin 240) (c : Capture) (rest : List Capture), (s.unit ↑die ↑pin).caps = c :: rest ∧
      r.code ≠ 16 ∧
      s.admits r (Reg.TIO_CAP0 ↑die ↑pin) false = true) ∧
    (∃ (s : Machine.State) (r : Requester) (die : Fin 4) (pin : Fin 240) (c : Capture) (rest : List Capture), (s.unit ↑die ↑pin).caps = c :: rest ∧
      r.code ≠ 16 ∧
      s.admits r (Reg.TIO_CAP3 ↑die ↑pin) false = true ∧
      s.bus.wide.get (slot (Reg.TIO_CAP0 ↑die ↑pin) r.code) [] = []) ∧
    (∃ (s : Machine.State) (r : Requester) (die : Fin 4) (pin : Fin 240) (c : Capture) (rest : List Capture) (ws : List (BitVec 32)), (s.unit ↑die ↑pin).caps = c :: rest ∧
      r.code ≠ 16 ∧
      s.admits r (Reg.TIO_CAP3 ↑die ↑pin) false = true ∧
      s.bus.wide.get (slot (Reg.TIO_CAP0 ↑die ↑pin) r.code) [] = BitVec.ofNat 32 (s.unit ↑die ↑pin).popped :: ws) ∧
    (∃ (s : Machine.State) (die : Fin 4) (pin : Fin 240) (c : Capture) (rest : List Capture), (s.unit ↑die ↑pin).caps = c :: rest ∧
      wfld (s.unit ↑die ↑pin).ctl 12 2 = 1 ∧
      s.isolated (↑die) (s.fld (Reg.TIO_DRN ↑die ↑pin) 0 4) = false ∧
      s.captureTurn (↑die) (s.fld (Reg.TIO_DRN ↑die ↑pin) 0 4) = some ↑pin) :=
  ⟨⟨rst, .agent 8, 3, 239, by decide +kernel⟩,
   ⟨rst, .agent 8, 0, 0, by decide +kernel⟩,
   ⟨rst, .agent 8, 0, 0, by decide +kernel⟩,
   ⟨rst, .agent 8, 0, 0, by decide +kernel⟩,
   ⟨rst, .agent 8, 3, 127, by decide +kernel⟩,
   ⟨(rst.setUnit 0 0 { outq := List.replicate 15 (0, .low) }).setFld (Reg.TIO_CTL 0 0) 0 4 3, .agent 8, 0, 0, 0x4000000000000000, .drive, by decide +kernel⟩,
   ⟨rst.setUnit 3 239 { caps := [⟨7, 0, false, true, 0⟩] }, .agent 8, 3, 239, ⟨7, 0, false, true, 0⟩, [], by decide +kernel⟩,
   ⟨rst.setUnit 3 239 { caps := [⟨7, 0, false, true, 0⟩] }, .agent 8, 3, 239, ⟨7, 0, false, true, 0⟩, [], by decide +kernel⟩,
   ⟨(rst.setUnit 3 239 { caps := [⟨7, 0, false, true, 0⟩] }).setWide (slot (Reg.TIO_CAP0 3 239) 8) [0, 1], .agent 8, 3, 239, ⟨7, 0, false, true, 0⟩, [], [1], by decide +kernel⟩,
   ⟨up.setUnit 3 239 { caps := [⟨7, 0, false, true, 0⟩], ctl := 0x1000 }, 3, 239, ⟨7, 0, false, true, 0⟩, [], by decide +kernel⟩⟩

theorem test_wit_TimedIoEvents :
    (∃ (s : Machine.State) (die : Fin 4) (pin : Fin 240) (k : Nat) (width : Nat) (level : Bool), (s.unit ↑die ↑pin).ext ≠ some level ∧
      8 ≤ width ∧
      ((s.setUnit ↑die ↑pin ({ (s.unit ↑die ↑pin) with ext := some level, ext0 := if (s.unit ↑die ↑pin).edges = [] then (s.unit ↑die ↑pin).ext else (s.unit ↑die ↑pin).ext0, edges := (s.unit ↑die ↑pin).edges ++ [(s.stamp k, level)] } : Tio)).linesOf (↑die) (↑pin) 144 = []) ∧
      ((s.setUnit ↑die ↑pin ({ (s.unit ↑die ↑pin) with ext := some level, ext0 := if (s.unit ↑die ↑pin).edges = [] then (s.unit ↑die ↑pin).ext else (s.unit ↑die ↑pin).ext0, edges := (s.unit ↑die ↑pin).edges ++ [(s.stamp k, level)] } : Tio)).linesOf (↑die) (↑pin) 160 = [])) ∧
    (∃ (s : Machine.State) (die : Fin 4) (pin : Fin 240) (a : DWord), (s.unit ↑die ↑pin).mode = 2 ∧
      s.mto ↑die ↑pin ≠ 0 ∧
      (s.unit ↑die ↑pin).active = some a ∧
      (s.unit ↑die ↑pin).caps.length < 32 ∧
      (∀ (m : DWord × Bool), m ∈ s.padTransitions ↑die ↑pin → (s.unit ↑die ↑pin).active? m.snd = false) ∧
      a + BitVec.ofNat 64 (((s.unit ↑die ↑pin).timeouts + 1) * s.mto ↑die ↑pin) ≤ s.tickEnd) ∧
    (∃ (s : Machine.State) (die : Fin 4) (pin : Fin 240) (x : Nat) (op : OutOp), (s.unit ↑die ↑pin).mode = 3 ∧
      s.unitFrozen ↑die ↑pin = false ∧
      (s.unit ↑die ↑pin).outq = [(x, op)] ∧
      (s.unit ↑die ↑pin).line.pulse = none ∧
      (2 ^ 59 ≤ (x + 2 ^ 60 - BitVec.toNat (s.now + 1) % 2 ^ 60) % 2 ^ 60 ∨ s.now + 1 + BitVec.ofNat 64 ((x + 2 ^ 60 - BitVec.toNat (s.now + 1) % 2 ^ 60) % 2 ^ 60) ≤ s.tickEnd)) ∧
    (∃ (s : Machine.State) (die : Fin 4) (pin : Fin 240) (k : Nat) (b : DWord), (s.unit ↑die ↑pin).mode = 4 ∧
      (s.unit ↑die ↑pin).upd = some b ∧
      b < s.stamp k ∧
      (s.unit ↑die ↑pin).org ≤ s.stamp k ∧
      BitVec.toNat (s.stamp k - (s.unit ↑die ↑pin).org) % max (s.unit ↑die ↑pin).per 1 = 0) ∧
    (∃ (s : Machine.State) (die : Fin 4) (pin : Fin 240) (k : Nat), (s.unit ↑die ↑pin).mode = 6 ∧
      0 < s.encGap (↑die) (↑pin) ((s.dom (wfld (s.unit ↑die ↑pin).ctl 4 4)).ph s.now s.spine.len k) ∧
      (s.unit ↑die ↑pin).stepAt + BitVec.ofNat 64 (max (s.fld (Reg.TIO_ENC_SP ↑die ↑pin) 0 12) 64) ≤ s.now + BitVec.ofNat 64 k) :=
  ⟨⟨rst, 0, 0, 1, 8, true, by decide +kernel⟩,
   ⟨(rst.setUnit 0 0 { mode := 2, active := some (32 - 16384) }).setFld (Reg.TIO_MTO 0 0) 0 24 1, 0, 0, 32 - 16384, ⟨by decide +kernel, by decide +kernel, by decide +kernel, by decide +kernel, (by intro m h; have e : (((rst.setUnit 0 0 { mode := 2, active := some (32 - 16384) }).setFld (Reg.TIO_MTO 0 0) 0 24 1).padTransitions 0 0) = [] := (by decide +kernel); rw [show ((0 : Fin 4) : Nat) = 0 from rfl, show ((0 : Fin 240) : Nat) = 0 from rfl, e] at h; exact nomatch h), by decide +kernel⟩⟩,
   ⟨rst.setUnit 0 0 { mode := 3, outq := [(32, .drive)] }, 0, 0, 32, .drive, by decide +kernel⟩,
   ⟨rst.setUnit 0 0 { mode := 4, upd := some 0, per := 1 }, 0, 0, 1, 0, by decide +kernel⟩,
   ⟨((up.setUnit 0 0 { mode := 6, stepAt := 0 - 32, count := -1 }).setDom 0 { state := .locked }).setFld (Reg.TIO_ENC_SP 0 0) 0 12 0, 0, 0, 32, by decide +kernel⟩⟩

theorem test_wit_PadsChangeAtTheirEdgesAndAreObserved :
    (∃ (s : Machine.State) (r : Requester) (die : Fin 4) (pin : Fin 240) (w : BitVec 32), s.lockSeq ↑die = none ∧
      s.admits r (Reg.PAD_FUNC ↑die ↑pin) true = true ∧
      (s.pad ↑die ↑pin).lock = none ∧
      (s.pad ↑die ↑pin).busy s.now = false ∧
      (funcOf (↑pin) (wfld w 0 4)).snd = false ∧
      (s.pad ↑die ↑pin).newest ↑pin ≠ ((funcOf (↑pin) (wfld w 0 4)).fst, wfld w 4 4)) ∧
    (∃ (s : Machine.State) (r : Requester) (die : Fin 4) (pin : Fin 240) (w : BitVec 32), s.lockSeq ↑die = none ∧
      s.admits r (Reg.PAD_FUNC ↑die ↑pin) true = true ∧
      (s.pad ↑die ↑pin).lock.isSome = true ∧
      BitVec.ofNat 32 (w.toNat % 256) ≠ s.rd (Reg.PAD_FUNC ↑die ↑pin)) ∧
    (∃ (s : Machine.State) (r : Requester) (die : Fin 4) (pin : Fin 240) (w : BitVec 32), s.lockSeq ↑die = none ∧
      s.admits r (Reg.XBAR_SRC ↑die ↑pin) true = true ∧
      (s.pad ↑die ↑pin).lock = none ∧
      ¬(424 ≤ wfld w 0 9 ∧ wfld w 0 9 ≤ 431)) ∧
    (∃ (s : Machine.State) (r : Requester) (die : Fin 4) (pin : Fin 240) (w : BitVec 32), s.lockSeq ↑die = none ∧
      s.admits r (Reg.XBAR_IN ↑die ↑pin) true = true ∧
      (s.pad ↑die ↑pin).lock = none ∧
      wfld w 0 9 ≤ 130) ∧
    (∃ (s : Machine.State) (die : Fin 4) (pin : Fin 240) (f : Nat) (sel : Nat) (e : DWord) (ph : PadPhase) (rest : List (DWord × PadPhase)), s.lockSeq ↑die = none ∧
      (s.pad ↑die ↑pin).wait = some (f, sel) ∧
      (s.pad ↑die ↑pin).phases = (e, ph) :: rest ∧
      (s.pad ↑die ↑pin).busy s.now = false ∧
      (s.pad ↑die ↑pin).newest ↑pin ≠ (f, sel)) ∧
    (∃ (s : Machine.State) (die : Fin 4) (r : Requester), r.code ≠ 16 ∧
      s.lockSeq ↑die = none ∧
      s.admits r (Reg.PAD_SNAP (↑die) 0) false = true) ∧
    (∃ (s : Machine.State) (die : Fin 4) (n : Nat) (sum : Nat) (cnt : Nat), s.adcChannel (↑die) (s.pins.adcNext.get (↑die) 0) = some n ∧
      s.pins.adcSum.get (↑die * 10 + n) (0, 0) = (sum, cnt) ∧
      cnt + 1 < 2 ^ s.fld (Reg.ADC_CTL ↑die) 10 3) ∧
    (∃ (s : Machine.State) (die : Fin 4) (n : Nat) (sum : Nat) (cnt : Nat), s.adcChannel (↑die) (s.pins.adcNext.get (↑die) 0) = some n ∧
      s.pins.adcSum.get (↑die * 10 + n) (0, 0) = (sum, cnt) ∧
      2 ^ s.fld (Reg.ADC_CTL ↑die) 10 3 ≤ cnt + 1) :=
  ⟨⟨rst, .agent 8, 3, 239, 1, by decide +kernel⟩,
   ⟨rst.setPad 0 4 { lock := some [] }, .agent 8, 0, 4, 1, by decide +kernel⟩,
   ⟨rst, .agent 8, 0, 0, 0x1B0, by decide +kernel⟩,
   ⟨rst, .agent 8, 0, 0, 130, by decide +kernel⟩,
   ⟨rst.setPad 0 0 { wait := some (1, 0), phases := [(0, .fn 2 0)] }, 0, 0, 1, 0, 0, .fn 2 0, [], by decide +kernel⟩,
   ⟨rst, 3, .agent 8, by decide +kernel⟩,
   ⟨((rst.setPad 0 0 { phases := [(0, .fn 3 0)] }).setBit (Reg.ADC_CTL 0) 0 true).setFld (Reg.ADC_CTL 0) 10 3 1, 0, 0, 0, 0, by decide +kernel⟩,
   ⟨((rst.setPad 0 0 { phases := [(0, .fn 3 0)] }).setBit (Reg.ADC_CTL 0) 0 true).setFld (Reg.ADC_CTL 0) 10 3 0, 0, 0, 0, 0, by decide +kernel⟩⟩

theorem test_wit_PadLockSequence :
    (∃ (s : Machine.State) (r : Requester) (die : Fin 4), s.admits r (Reg.PAD_LOCK ↑die) true = true ∧
      (∀ (x : Nat × Nat × Nat), s.lockSeq ↑die = some x → x.fst = r.code)) ∧
    (∃ (s : Machine.State) (r : Requester) (die : Fin 4) (pin : Fin 240), s.admits r (Reg.PAD_LOCK ↑die) true = true ∧
      s.lockSeq ↑die = some (r.code, ↑pin, 1)) ∧
    (∃ (s : Machine.State) (r : Requester) (die : Fin 4) (pin : Fin 240), s.admits r (Reg.PAD_LOCK ↑die) false = true ∧
      s.lockSeq ↑die = some (r.code, ↑pin, 2) ∧
      (s.pad ↑die ↑pin).lock = none) :=
  ⟨⟨rst, .agent 8, 0, ⟨by decide +kernel, fun _ h => nomatch h⟩⟩,
   ⟨rst.setLockSeq 3 (some (8, 239, 1)), .agent 8, 3, 239, by decide +kernel⟩,
   ⟨rst.setLockSeq 3 (some (8, 239, 2)), .agent 8, 3, 239, by decide +kernel⟩⟩

theorem test_wit_FabricMemoriesKeepWords :
    (∃ (s : Machine.State) (die : Fin 4) (rg : Fin 16) (m : Fin 288) (p : PortAccess), s.clocked ↑die ↑rg = true ∧
      p.en = true ∧
      p.write = false ∧
      aspectOk (fabricMem ↑die ↑rg ↑m) false p = true ∧
      isDeep (fabricMem ↑die ↑rg ↑m) = false) ∧
    (∃ (s : Machine.State) (die : Fin 4) (rg : Fin 16) (m : Fin 288) (p : PortAccess), s.clocked ↑die ↑rg = true ∧
      p.en = true ∧
      p.write = true ∧
      p.width = 36 ∧
      p.addr < 1024 ∧
      isDeep (fabricMem ↑die ↑rg ↑m) = false) ∧
    (∃ (s : Machine.State) (die : Fin 4) (rg : Fin 16) (m : Fin 288) (width : Nat) (crossed : Nat), s.clocked ↑die ↑rg = true ∧
      isDeep (fabricMem ↑die ↑rg ↑m) = false ∧
      width ∈ [9, 18, 36, 72] ∧
      ((s.xfifo (fabricMem ↑die ↑rg ↑m)).width = 0 ∨ (s.xfifo (fabricMem ↑die ↑rg ↑m)).width = width) ∧
      (s.xfifo (fabricMem ↑die ↑rg ↑m)).initW = false ∧
      (s.xfifo (fabricMem ↑die ↑rg ↑m)).held.length + ((s.xfifo (fabricMem ↑die ↑rg ↑m)).owed - crossed) < fifoDepth width) ∧
    (∃ (s : Machine.State) (die : Fin 4) (rg : Fin 16) (m : Fin 288) (crossed : Nat) (v : Nat) (rest : List Nat), s.clocked ↑die ↑rg = true ∧
      isDeep (fabricMem ↑die ↑rg ↑m) = false ∧
      (s.xfifo (fabricMem ↑die ↑rg ↑m)).width ∈ [9, 18, 36, 72] ∧
      (s.xfifo (fabricMem ↑die ↑rg ↑m)).initR = false ∧
      (s.xfifo (fabricMem ↑die ↑rg ↑m)).held = v :: rest ∧
      (s.xfifo (fabricMem ↑die ↑rg ↑m)).hidden - crossed ≤ rest.length) :=
  ⟨⟨up, 3, 15, 255, ⟨true, 36, 1023, false, 0, 0, .readFirst, false⟩, by decide +kernel⟩,
   ⟨up, 0, 0, 0, ⟨true, 36, 1023, true, 15, 0, .readFirst, false⟩, by decide +kernel⟩,
   ⟨up.setXfifo (fabricMem 0 0 0) { held := List.replicate 8 0, owed := 510 }, 0, 0, 0, 72, 7, by decide +kernel⟩,
   ⟨up.setXfifo (fabricMem 0 0 0) { held := [5], width := 72 }, 0, 0, 0, 0, 5, [], by decide +kernel⟩⟩

theorem test_wit_MacSliceAccumulates :
    (∃ (s : Machine.State) (die : Fin 4) (rg : Fin 16), s.clocked ↑die ↑rg = true) :=
  ⟨up, 3, 15, by decide +kernel⟩

theorem test_wit_RestoreBeginsAndEnds :
    (∃ (s : Machine.State) (r : Requester) (die : Fin 4) (mask : BitVec 16), s.admits r (Reg.LP_RESTORE ↑die) true = true ∧
      s.bit (Reg.LP_RESTORE ↑die) 31 = false ∧
      (∀ (rg : Fin 16), mask.getLsbD ↑rg = true → s.reconfiguring ↑die ↑rg = false ∧ s.restoringRg ↑die ↑rg = false)) :=
  ⟨rst, .agent 8, 3, 0xFFFF, by decide +kernel⟩

theorem test_wit_LoupeRuns :
    (∃ (s : Machine.State) (r : Requester) (die : Fin 4) (prof : Fin 16), s.admits r (Reg.LP_CMD ↑die) true = true ∧
      wbit (s.rd (Reg.LP_PROF ↑die ↑prof)) 31 = true ∧
      s.bit (Reg.LP_CTL ↑die) 0 = true ∧
      s.loupeAllowed = true ∧
      (s.loupe ↑die).state = LpState.idle ∧
      (∀ (rg : Fin 16), s.reconfiguring ↑die ↑rg = false) ∧
      wfld (s.rd (Reg.LP_PROF ↑die ↑prof)) 0 16 ≠ 0) ∧
    (∃ (s : Machine.State) (die : Fin 4) (k : Nat) (rg : Nat), (s.loupe ↑die).state = LpState.pending ∧
      (s.loupe ↑die).waits = [rg] ∧
      (s.loupe ↑die).from_ ≤ s.stamp k ∧
      s.restoringRg (↑die) rg = false ∧
      rg < 16 ∧
      s.reconfiguring (↑die) rg = false ∧
      gckMayEdge (↑die) (wfld (s.rd (Reg.LP_PROF (↑die) (s.loupe ↑die).prof)) 16 5) (wbit (s.rd (Reg.LP_PROF (↑die) (s.loupe ↑die).prof)) 21) (s.stamp k) = true) ∧
    (∃ (s : Machine.State) (die : Fin 4) (rg : Nat), s.clk.hold = false ∧
      (s.loupe ↑die).state = LpState.pending ∧
      (s.loupe ↑die).waits = [rg]) ∧
    (∃ (s : Machine.State) (r : Requester) (die : Fin 4), s.admits r (Reg.LP_CMD ↑die) true = true ∧
      (s.loupe ↑die).state = LpState.held ∧
      s.loupeAllowed = true ∧
      (s.queue (s.fld (Reg.LP_QRD ↑die) 0 13)).state ≠ QState.disabled) ∧
    (∃ (s : Machine.State) (die : Fin 4), (s.loupe ↑die).state = LpState.readout ∧
      (s.live.ports.get ↑die []).head? = some PortJob.readout ∧
      wfld (s.rd (Reg.LP_NOCAP ↑die)) 16 16 = 0) :=
  ⟨⟨(rst.wr (Reg.LP_PROF 3 15) 0x80000001).setBit (Reg.LP_CTL 3) 0 true, .agent 8, 3, 15, by decide +kernel⟩,
   ⟨({ rst with spine := { rst.spine with dt := 0 - 32 } } : State).setLoupe 3 { state := .pending, waits := [15] }, 3, 32, 15, ⟨by decide +kernel, by decide +kernel, by decide +kernel, by decide +kernel, by decide +kernel, by decide +kernel, mayEdge_zero _ _⟩⟩,
   ⟨up.setLoupe 3 { state := .pending, waits := [15] }, 3, 15, by decide +kernel⟩,
   ⟨(rst.setLoupe 0 { state := .held }).setQueue 0 { state := .run }, .agent 8, 0, by decide +kernel⟩,
   ⟨{ rst.setLoupe 0 { state := .readout } with live := { rst.live with ports := [(0, [.readout])] } }, 0, by decide +kernel⟩⟩

theorem test_wit_ModulesTrainAndFail :
    (∃ (s : Machine.State) (m : Fin 15), s.modState (moduleEnds2 ↑m).fst ↑m = 1 ∧
      s.modState (moduleEnds2 ↑m).snd ↑m = 1) ∧
    (∃ (s : Machine.State) (m : Fin 15) (r : Requester) (die : Fin 6), s.admits r (Reg.D2D_CTL ↑die ↑m) true = true ∧
      hasModule ↑die ↑m = true) ∧
    (∃ (s : Machine.State) (m : Fin 15) (die : Fin 6) (d : List (BitVec 8)) (rate : Nat) (format : Nat), hasModule ↑die ↑m = true ∧
      s.modState ↑die ↑m = 1 ∧
      crcBytes (List.take 60 d) = dfld d 60 4 ∧
      dfld d 0 2 = 19788 ∧
      dfld d 3 1 = 1 ∧
      s.mandatoryMask ↑die ↑m &&& advertised d = s.mandatoryMask ↑die ↑m ∧
      dfld d 15 1 % 32 &&& advertised (s.descriptor ↑die ↑m) = dfld d 15 1 % 32 ∧
      topBit (dfld d 10 2 &&& dfld (s.descriptor ↑die ↑m) 10 2) 6 = some rate ∧
      topBit (dfld d 8 2 &&& dfld (s.descriptor ↑die ↑m) 8 2) 3 = some format) ∧
    (∃ (s : Machine.State) (m : Fin 15) (die : Fin 6) (d : List (BitVec 8)), hasModule ↑die ↑m = true ∧
      s.modState ↑die ↑m = 1 ∧
      crcBytes (List.take 60 d) ≠ dfld d 60 4 ∧
      s.net.descFails.get (8 * ↑m + ↑die) 0 < 3) ∧
    (∃ (s : Machine.State) (m : Fin 15) (die : Fin 6) (d : List (BitVec 8)), hasModule ↑die ↑m = true ∧
      s.modState ↑die ↑m = 1 ∧
      crcBytes (List.take 60 d) ≠ dfld d 60 4 ∧
      3 ≤ s.net.descFails.get (8 * ↑m + ↑die) 0) ∧
    (∃ (s : Machine.State) (m : Fin 15), s.clk.hold = false ∧
      s.modState (moduleEnds2 ↑m).fst ↑m = 0 ∧
      s.modState (moduleEnds2 ↑m).snd ↑m = 0 ∧
      s.dieLost (moduleEnds2 ↑m).fst = false ∧
      s.dieLost (moduleEnds2 ↑m).snd = false) :=
  ⟨⟨rst, 14, by decide +kernel⟩,
   ⟨rst, 14, .agent 8, 5, by decide +kernel⟩,
   ⟨rst, 0, 0, offer, 5, 2, by decide +kernel⟩,
   ⟨rst, 0, 0, [1], by decide +kernel⟩,
   ⟨{ up with net := { up.net with descFails := [(0, 3)] } }, 0, 0, [1], by decide +kernel⟩,
   ⟨(rst.setFld (Reg.D2D_STAT 0 0) 0 4 0).setFld (Reg.D2D_STAT 1 0) 0 4 0, 0, by decide +kernel⟩⟩

theorem test_wit_DiesLeaveAndReturn :
    (∃ (s : Machine.State) (die : Fin 4), s.boot.stream = false ∧
      s.dieLost ↑die = false) ∧
    (∃ (s : Machine.State) (die : Fin 4), (s.dieState ↑die = 1 ∨ s.dieState ↑die = 4) ∧
      (s.clk.copies.any fun c => c.fst == ↑die) = false) ∧
    (∃ (s : Machine.State) (die : Fin 4), s.dieState ↑die = 2 ∧
      s.reaches (↑die) 4 = true) :=
  ⟨⟨rst, 3, by decide +kernel⟩,
   ⟨rst.setDie 0 4, 0, by decide +kernel⟩,
   ⟨((rst.setDie 2 2).setFld (Reg.D2D_STAT 2 8) 4 4 1).setFld (Reg.D2D_STAT 4 8) 4 4 1, 2, by decide +kernel⟩⟩

theorem test_wit_ControlDieCommands :
    (∃ (s : Machine.State) (r : Requester) (n : Fin 32), s.admits r (Reg.MBX_PUSH ↑n) true = true ∧
      s.bit (Reg.MBX_CTL ↑n) 31 = true ∧
      agentMatches (s.fld (Reg.MBX_CTL ↑n) 0 4) r.code = true) ∧
    (∃ (s : Machine.State) (r : Requester) (n : Fin 32), s.admits r (Reg.MBX_PUSH ↑n) true = true ∧
      (s.bit (Reg.MBX_CTL ↑n) 31 = false ∨ agentMatches (s.fld (Reg.MBX_CTL ↑n) 0 4) r.code = false)) ∧
    (∃ (s : Machine.State) (r : Requester) (n : Fin 32) (msg : BitVec 32) (rest : List (BitVec 32)), s.admits r (Reg.MBX_POP ↑n) false = true ∧
      r.code ≠ 16 ∧
      s.bit (Reg.MBX_CTL ↑n) 31 = true ∧
      agentMatches (s.fld (Reg.MBX_CTL ↑n) 4 4) r.code = true ∧
      s.box ↑n = msg :: rest) ∧
    (∃ (s : Machine.State) (r : Requester) (n : Fin 32), s.admits r (Reg.MBX_POP ↑n) false = true ∧
      r.code ≠ 16 ∧
      s.bit (Reg.MBX_CTL ↑n) 31 = true ∧
      agentMatches (s.fld (Reg.MBX_CTL ↑n) 4 4) r.code = true ∧
      s.box ↑n = []) ∧
    (∃ (s : Machine.State) (r : Requester) (n : Fin 32), s.admits r (Reg.MBX_POP ↑n) false = true ∧
      r.code ≠ 16 ∧
      (s.bit (Reg.MBX_CTL ↑n) 31 = false ∨ agentMatches (s.fld (Reg.MBX_CTL ↑n) 4 4) r.code = false)) ∧
    (∃ (s : Machine.State) (r : Requester) (n : Fin 32), s.admits r (Reg.MBX_CTL ↑n) true = true) ∧
    (∃ (s : Machine.State) (r : Requester), s.admits r Reg.CC_START true = true ∧
      (∀ (i : Nat), i < 6 → s.bit (Reg.CORE_RC i) 4 = false)) ∧
    (∃ (s : Machine.State) (pair : Fin 2), (s.core (4 + ↑pair)).run ≠ CoreRun.reset) ∧
    (∃ (s : Machine.State), s.boot.stream = false ∧
      (s.clk.copies.any fun c => c.fst == 5) = false ∧
      s.boot.handed = false) :=
  ⟨⟨rst.wr (Reg.MBX_CTL 31) 0x800000F8, .agent 8, 31, by decide +kernel⟩,
   ⟨rst.wr (Reg.MBX_CTL 31) 0x800000F8, .agent 9, 31, by decide +kernel⟩,
   ⟨(rst.wr (Reg.MBX_CTL 0) 0x8000008F).setBox 0 [7], .agent 8, 0, 7, [], by decide +kernel⟩,
   ⟨rst.wr (Reg.MBX_CTL 0) 0x8000008F, .agent 8, 0, by decide +kernel⟩,
   ⟨rst.wr (Reg.MBX_CTL 0) 0x8000008F, .agent 9, 0, by decide +kernel⟩,
   ⟨rst, .agent 8, 0, by decide +kernel⟩,
   ⟨rst, .agent 8, by decide +kernel⟩,
   ⟨rst.setCore 5 { run := .running }, 1, by decide +kernel⟩,
   ⟨rst, by decide +kernel⟩⟩

theorem test_wit_TaskRequestsQueue :
    (∃ (s : Machine.State) (die : Fin 4) (rg : Fin 16), s.bit (Reg.FDSP_CTL ↑die ↑rg) 0 = false) ∧
    (∃ (s : Machine.State) (r : Requester) (die : Fin 4) (rg : Fin 16) (task : Fin 64) (param : BitVec 16) (w : BitVec 32), s.bit (Reg.FDSP_CTL ↑die ↑rg) 0 = true ∧
      s.taskOk ↑die ↑rg ↑task = true ∧
      (s.disp ↑die ↑rg).ready.length < 128 ∧
      s.admits r (Reg.FDSP_REQ ↑die ↑rg) true = true ∧
      wfld w 0 6 = ↑task ∧
      wfld w 16 16 = param.toNat) ∧
    (∃ (s : Machine.State) (die : Fin 4) (rg : Fin 16) (task : Fin 64), s.bit (Reg.FDSP_CTL ↑die ↑rg) 0 = true ∧
      s.taskOk ↑die ↑rg ↑task = false) ∧
    (∃ (s : Machine.State) (die : Fin 4) (rg : Fin 16) (task : Fin 64), s.bit (Reg.FDSP_CTL ↑die ↑rg) 0 = true ∧
      s.taskOk ↑die ↑rg ↑task = true ∧
      128 ≤ (s.disp ↑die ↑rg).ready.length) :=
  ⟨⟨rst, 0, 0, by decide +kernel⟩,
   ⟨(((rst.setBit (Reg.FDSP_CTL 3 15) 0 true).setFld (Reg.FDSP_TASK0 3 15 63) 31 1 1).setFld (Reg.FDSP_TASK0 3 15 63 + 4) 0 16 1).setDisp 3 15 { ready := List.replicate 127 ⟨0, 0, none, false, false, 0⟩ }, .agent 8, 3, 15, 63, 0x1234, 0x1234003F, by decide +kernel⟩,
   ⟨(rst.setBit (Reg.FDSP_CTL 3 15) 0 true), 3, 15, 0, by decide +kernel⟩,
   ⟨(((rst.setBit (Reg.FDSP_CTL 3 15) 0 true).setFld (Reg.FDSP_TASK0 3 15 63) 31 1 1).setFld (Reg.FDSP_TASK0 3 15 63 + 4) 0 16 1).setDisp 3 15 { ready := List.replicate 128 ⟨0, 0, none, false, false, 0⟩ }, 3, 15, 63, by decide +kernel⟩⟩

theorem test_wit_DispatcherStartsAndRemaps :
    (∃ (s : Machine.State) (die : Fin 4) (rg : Fin 16) (q : Request) (l : Nat), s.dispReady (↑die) (↑rg) (s.fdspFrozen ↑die ↑rg) = true ∧
      (s.disp ↑die ↑rg).ready = [q] ∧
      s.freeFacet (↑die) (↑rg) (s.taskFld (↑die) (↑rg) q.task 1 0 16) = some l ∧
      s.requestAdmitted (↑die) (↑rg) q = true) ∧
    (∃ (s : Machine.State) (die : Fin 4) (rg : Fin 16) (q : Request), (s.disp ↑die ↑rg).ready[0]? = some q ∧
      s.taskFld (↑die) (↑rg) q.task 0 12 2 = 0 ∧
      q.late = false ∧
      (∀ (e : EndAt), q.deadline = some e → s.deadlineDue e = true) ∧
      q.deadline ≠ none) ∧
    (∃ (s : Machine.State) (die : Fin 4) (rg : Fin 16) (r : Requester) (w : BitVec 32), s.admits r (Reg.FDSP_REMAP ↑die ↑rg) true = true ∧
      (s.disp ↑die ↑rg).remap = none ∧
      wbit w 31 = true ∧
      wfld w 4 5 < 17 ∧
      s.logOf (↑die) (17 * ↑rg + wfld w 4 5) = none ∧
      (s.facet (↑die) (s.physOf (↑die) (↑rg) (wfld w 0 4))).movable = true ∧
      (s.facet (↑die) (17 * ↑rg + wfld w 4 5)).movable = true ∧
      (s.facet (↑die) (17 * ↑rg + wfld w 4 5)).broken = false) ∧
    (∃ (s : Machine.State) (die : Fin 4) (rg : Fin 16) (log : Nat) (phys : Nat), log < 16 ∧
      phys < 17 ∧
      (s.disp ↑die ↑rg).remap = some (log, phys) ∧
      s.physOf (↑die) (↑rg) log ≠ 17 * ↑rg + phys) :=
  ⟨⟨(((up.setDisp 0 0 { ready := [⟨0, 0, none, false, false, 0⟩] }).setFacet 0 0 { state := .idle }).setBit (Reg.FDSP_CTL 0 0) 0 true).setFld (Reg.FDSP_TASK0 0 0 0 + 4) 0 16 1, 0, 0, ⟨0, 0, none, false, false, 0⟩, 0, by decide +kernel⟩,
   ⟨rst.setDisp 0 0 { ready := [⟨0, 0, some (.time 0), false, false, 0⟩] }, 0, 0, ⟨0, 0, some (.time 0), false, false, 0⟩, ⟨by decide +kernel, by decide +kernel, by decide +kernel, fun e h => by cases h; decide +kernel, by decide +kernel⟩⟩,
   ⟨rst, 3, 15, .agent 8, 0x80000100, by decide +kernel⟩,
   ⟨rst.setDisp 3 15 { remap := some (15, 16) }, 3, 15, 15, 16, by decide +kernel⟩⟩

theorem test_wit_FacetsObeyControl :
    (∃ (s : Machine.State) (die : Fin 4) (p : Fin 272), (s.facet ↑die ↑p).pend = true ∧
      (s.facet ↑die ↑p).haltDbg = false ∧
      (s.facet ↑die ↑p).haltFrz = false ∧
      (s.facet ↑die ↑p).settle.calls.length < 8 ∧
      ((s.facet ↑die ↑p).state = FState.idle ∨ (s.facet ↑die ↑p).state = FState.running ∧ (s.facet ↑die ↑p).land.sr.getLsbD 4 = true ∧ (s.facet ↑die ↑p).boundary = true ∧ (s.facet ↑die ↑p).wait = 0)) ∧
    (∃ (s : Machine.State) (die : Fin 4) (p : Fin 272), ((s.facet ↑die ↑p).haltDbg = true ∨ (s.facet ↑die ↑p).haltFrz = true) ∧
      ((s.facet ↑die ↑p).state = FState.idle ∨ ((s.facet ↑die ↑p).state = FState.running ∨ (s.facet ↑die ↑p).state = FState.urgent) ∧ (s.facet ↑die ↑p).boundary = true)) ∧
    (∃ (s : Machine.State) (die : Fin 4) (p : Fin 272), s.facetIssues ↑die ↑p = true ∧
      (s.facet ↑die ↑p).watchdogDue = true ∧
      (∀ (b : Bundle), (s.facet ↑die ↑p).upcoming = some b → b.isWait = false)) ∧
    (∃ (s : Machine.State) (r : Requester) (die : Fin 4) (p : Fin 272), s.admits r (Reg.FACET_CMD ↑die ↑p) true = true ∧
      ((s.facet ↑die ↑p).state = FState.running ∨ (s.facet ↑die ↑p).state = FState.urgent) ∧
      (s.facet ↑die ↑p).settle.haltDbg = false ∧
      (s.facet ↑die ↑p).settle.haltFrz = false) ∧
    (∃ (s : Machine.State) (r : Requester) (die : Fin 4) (p : Fin 272), s.admits r (Reg.FACET_CMD ↑die ↑p) true = true ∧
      ((s.facet ↑die ↑p).state = FState.faulted ∨ (s.facet ↑die ↑p).state = FState.halted)) ∧
    (∃ (s : Machine.State) (r : Requester) (die : Fin 4) (p : Fin 272), s.admits r (Reg.FACET_CMD ↑die ↑p) true = true ∧
      (s.facet ↑die ↑p).state ≠ FState.faulted ∧
      (s.facet ↑die ↑p).state ≠ FState.halted) ∧
    (∃ (s : Machine.State) (r : Requester) (die : Fin 4) (p : Fin 272), s.admits r (Reg.FACET_CMD ↑die ↑p) true = true ∧
      ((s.facet ↑die ↑p).state = FState.running ∨ (s.facet ↑die ↑p).state = FState.urgent ∨ (s.facet ↑die ↑p).state = FState.halted) ∧
      (s.facet ↑die ↑p).pend = false) ∧
    (∃ (s : Machine.State) (r : Requester) (die : Fin 4) (p : Fin 272), s.admits r (Reg.FACET_CTL ↑die ↑p) true = true ∧
      ((s.facet ↑die ↑p).state = FState.off ∨ (s.facet ↑die ↑p).state = FState.idle) ∧
      (s.facet ↑die ↑p).haltDbg = false ∧
      (s.facet ↑die ↑p).haltFrz = false ∧
      s.fld Reg.DBG_FRZSEL 9 3 = 7 ∧
      s.fld Reg.DBG_FRZSEL 18 3 = 7) :=
  ⟨⟨rst.setFacet 3 271 { state := .idle, pend := true }, 3, 271, by decide +kernel⟩,
   ⟨rst.setFacet 3 271 { state := .urgent, haltFrz := true }, 3, 271, by decide +kernel⟩,
   ⟨rst.setFacet 3 271 { state := .running, run := { wdog := 1 }, wcyc := 15 }, 3, 271, by decide +kernel⟩,
   ⟨rst.setFacet 3 271 { state := .urgent }, .agent 8, 3, 271, by decide +kernel⟩,
   ⟨rst.setFacet 3 271 { state := .faulted }, .agent 8, 3, 271, by decide +kernel⟩,
   ⟨rst.setFacet 3 271 { state := .idle }, .agent 8, 3, 271, by decide +kernel⟩,
   ⟨rst.setFacet 3 271 { state := .halted }, .agent 8, 3, 271, by decide +kernel⟩,
   ⟨(rst.setFld Reg.DBG_FRZSEL 9 3 7).setFld Reg.DBG_FRZSEL 18 3 7, .agent 8, 3, 271, by decide +kernel⟩⟩

theorem test_wit_FacetMemoriesAndStreams :
    (∃ (s : Machine.State) (r : Requester) (die : Fin 4) (p : Fin 272) (bankB : Bool) (n : Fin 8192), r.code ≠ 16 ∧
      s.admitsView r (↑die) 8 (some (64 + 16 * ↑die + ↑p / 17)) (facetAddr (↑die) (↑p) (bankOffset bankB ↑n)) false = true) ∧
    (∃ (s : Machine.State) (r : Requester) (die : Fin 4) (p : Fin 272) (bankB : Bool) (n : Fin 8192), r.code ≠ 16 ∧
      s.admitsView r (↑die) 8 (some (64 + 16 * ↑die + ↑p / 17)) (facetAddr (↑die) (↑p) (bankOffset bankB ↑n)) true = true) ∧
    (∃ (s : Machine.State) (r : Requester) (die : Fin 4) (p : Fin 272) (n : Fin 8192), r.code ≠ 16 ∧
      s.admitsView r (↑die) 8 (some (64 + 16 * ↑die + ↑p / 17)) (facetAddr (↑die) (↑p) (4 * ↑n)) true = true ∧
      (s.facet ↑die ↑p).state ≠ FState.off ∧
      (s.facet ↑die ↑p).state ≠ FState.halted) ∧
    (∃ (s : Machine.State) (r : Requester) (die : Fin 4) (p : Fin 272) (n : Fin 8192), r.code ≠ 16 ∧
      s.admitsView r (↑die) 8 (some (64 + 16 * ↑die + ↑p / 17)) (facetAddr (↑die) (↑p) (4 * ↑n)) true = true ∧
      ((s.facet ↑die ↑p).state = FState.off ∨ (s.facet ↑die ↑p).state = FState.halted) ∧
      ↑n % 2 = 0) ∧
    (∃ (s : Machine.State) (r : Requester) (die : Fin 4) (p : Fin 272) (n : Fin 8192) (lo : BitVec 32), r.code ≠ 16 ∧
      s.admitsView r (↑die) 8 (some (64 + 16 * ↑die + ↑p / 17)) (facetAddr (↑die) (↑p) (4 * ↑n)) true = true ∧
      ((s.facet ↑die ↑p).state = FState.off ∨ (s.facet ↑die ↑p).state = FState.halted) ∧
      ↑n % 2 = 1 ∧
      (s.facet ↑die ↑p).low.get (↑n / 2 * 32 + r.code) none = some lo) ∧
    (∃ (s : Machine.State) (die : Fin 4) (rg : Fin 16) (l : Fin 16), s.isolated ↑die ↑rg = false ∧
      (s.ports (↑die) (↑rg * 16 + ↑l)).in0.length < 32) ∧
    (∃ (s : Machine.State) (die : Fin 4) (rg : Fin 16) (l : Fin 16), s.isolated ↑die ↑rg = false ∧
      (s.ports (↑die) (↑rg * 16 + ↑l)).in1.length < 32) :=
  ⟨⟨up, .agent 0, 3, 271, true, 8191, by decide +kernel⟩,
   ⟨rst, .agent 8, 3, 271, false, 8191, by decide +kernel⟩,
   ⟨rst.setFacet 3 271 { state := .idle }, .agent 8, 3, 271, 0, by decide +kernel⟩,
   ⟨rst, .agent 8, 0, 0, 8190, by decide +kernel⟩,
   ⟨rst.setFacet 0 0 { low := [(8, some 5)] }, .agent 8, 0, 0, 1, 5, by decide +kernel⟩,
   ⟨up.setPorts 3 255 { in0 := List.replicate 31 0 }, 3, 15, 15, by decide +kernel⟩,
   ⟨up, 0, 0, 0, by decide +kernel⟩⟩

theorem test_wit_SystemAndImmediateBundles :
    (∃ (s : Machine.State) (die : Fin 4) (p : Fin 272) (x : ImmLoad), s.issues (↑die) (↑p) (Bundle.imm x none)) ∧
    (∃ (s : Machine.State) (die : Fin 4) (p : Fin 272) (x : ImmLoad) (y : ImmLoad), s.issues (↑die) (↑p) (Bundle.imm x (some y))) ∧
    (∃ (s : Machine.State) (die : Fin 4) (p : Fin 272), s.issues (↑die) (↑p) (Bundle.sys Sys.snop)) ∧
    (∃ (s : Machine.State) (die : Fin 4) (p : Fin 272) (m : Nat) (v : Nat), s.issues (↑die) (↑p) (Bundle.sys (Sys.mrs m v))) ∧
    (∃ (s : Machine.State) (die : Fin 4) (p : Fin 272) (m : Nat) (v : Nat), s.issues (↑die) (↑p) (Bundle.sys (Sys.srs m v))) ∧
    (∃ (s : Machine.State) (die : Fin 4) (p : Fin 272) (cls : Nat) (r : Nat) (n : Nat), s.issues (↑die) (↑p) (Bundle.sys (Sys.mvx cls r n))) ∧
    (∃ (s : Machine.State) (die : Fin 4) (p : Fin 272) (cls : Nat) (r : Nat) (n : Nat), s.issues (↑die) (↑p) (Bundle.sys (Sys.mxv cls r n))) ∧
    (∃ (s : Machine.State) (die : Fin 4) (p : Fin 272) (n : Nat) (imm : Nat), s.issues (↑die) (↑p) (Bundle.sys (Sys.padd n imm))) ∧
    (∃ (s : Machine.State) (die : Fin 4) (p : Fin 272) (r : Nat) (port : Nat), s.issues (↑die) (↑p) (Bundle.sys (Sys.scnt r port))) ∧
    (∃ (s : Machine.State) (die : Fin 4) (p : Fin 272) (n : Nat), s.issues (↑die) (↑p) (Bundle.sys (Sys.qkick n)) ∧
      s.dieLost (homeOf n) = false) ∧
    (∃ (s : Machine.State) (die : Fin 4) (p : Fin 272) (r : Nat), s.issues (↑die) (↑p) (Bundle.sys (Sys.qkickd r)) ∧
      s.dieLost (homeOf (((s.facet ↑die ↑p).seen.dreg r).toNat % 8192)) = false) ∧
    (∃ (s : Machine.State) (die : Fin 4) (p : Fin 272) (sev : Nat) (code : Nat) (r : Nat), s.issues (↑die) (↑p) (Bundle.sys (Sys.recd sev code r))) :=
  ⟨⟨issuing 0x4512345600000000, 0, 0, ⟨0, 5, 0x123456⟩, issues_of (by decide +kernel)⟩,
   ⟨issuing 0x4512345686654321, 0, 0, ⟨0, 5, 0x123456⟩, ⟨0, 6, 0x654321⟩, issues_of (by decide +kernel)⟩,
   ⟨issuing 0xC000000000000000, 0, 0, issues_of (by decide +kernel)⟩,
   ⟨issuing 0xC100000000FFFFFF, 0, 0, 0xFFF, 0xFFF, issues_of (by decide +kernel)⟩,
   ⟨issuing 0xC2000000001F001F, 0, 0, 31, 31, issues_of (by decide +kernel)⟩,
   ⟨issuing 0xC300000000000037, 0, 0, 0, 3, 7, issues_of (by decide +kernel)⟩,
   ⟨issuing 0xC400000000000037, 0, 0, 0, 3, 7, issues_of (by decide +kernel)⟩,
   ⟨issuing 0xC50000000000FFFF, 0, 0, 7, 0x1FFF, issues_of (by decide +kernel)⟩,
   ⟨issuing 0xC8000000000000F3, 0, 0, 15, 3, issues_of (by decide +kernel)⟩,
   ⟨issuing 0xD000000000001FFF, 0, 0, 8191, ⟨issues_of (by decide +kernel), by decide +kernel⟩⟩,
   ⟨issuing 0xD1000000000000F0, 0, 0, 15, ⟨issues_of (by decide +kernel), by decide +kernel⟩⟩,
   ⟨issuing 0xD800000000FF06F0, 0, 0, 6, 255, 15, issues_of (by decide +kernel)⟩⟩

theorem test_wit_ControlBundles :
    (∃ (s : Machine.State) (die : Fin 4) (p : Fin 272) (cc : Nat) (tgt : Nat), s.issues (↑die) (↑p) (Bundle.ctl (Ctl.br cc tgt))) ∧
    (∃ (s : Machine.State) (die : Fin 4) (p : Fin 272) (cc : Nat) (r : Nat), s.issues (↑die) (↑p) (Bundle.ctl (Ctl.bri cc r))) ∧
    (∃ (s : Machine.State) (die : Fin 4) (p : Fin 272) (cc : Nat) (tgt : Nat), s.issues (↑die) (↑p) (Bundle.ctl (Ctl.call cc tgt)) ∧
      (s.facet ↑die ↑p).seen.calls.length < 8) ∧
    (∃ (s : Machine.State) (die : Fin 4) (p : Fin 272) (cc : Nat) (r : Nat), s.issues (↑die) (↑p) (Bundle.ctl (Ctl.calli cc r)) ∧
      (s.facet ↑die ↑p).seen.calls.length < 8) ∧
    (∃ (s : Machine.State) (die : Fin 4) (p : Fin 272) (cc : Nat) (back : Nat) (rest : List Nat), s.issues (↑die) (↑p) (Bundle.ctl (Ctl.ret cc)) ∧
      (s.facet ↑die ↑p).seen.calls = back :: rest) ∧
    (∃ (s : Machine.State) (die : Fin 4) (p : Fin 272) (back : Nat) (rest : List Nat), s.issues (↑die) (↑p) (Bundle.ctl Ctl.rtu) ∧
      (s.facet ↑die ↑p).seen.state = FState.urgent ∧
      (s.facet ↑die ↑p).seen.calls = back :: rest) ∧
    (∃ (s : Machine.State) (die : Fin 4) (p : Fin 272), s.issues (↑die) (↑p) (Bundle.ctl Ctl.wait)) ∧
    (∃ (s : Machine.State) (die : Fin 4) (p : Fin 272) (lc : Bool) (count : Nat) (tgt : Nat), s.issues (↑die) (↑p) (Bundle.ctl (Ctl.loop lc count tgt)) ∧
      (s.facet ↑die ↑p).seen.pc + 2 ≤ tgt) ∧
    (∃ (s : Machine.State) (die : Fin 4) (p : Fin 272), s.issues (↑die) (↑p) (Bundle.ctl Ctl.lpop)) ∧
    (∃ (s : Machine.State) (die : Fin 4) (p : Fin 272) (n : Nat), s.issues (↑die) (↑p) (Bundle.ctl (Ctl.rep n))) ∧
    (∃ (s : Machine.State) (die : Fin 4) (p : Fin 272) (task : Nat) (l : Nat) (r : Nat), s.issues (↑die) (↑p) (Bundle.ctl (Ctl.signal false task l r))) ∧
    (∃ (s : Machine.State) (die : Fin 4) (p : Fin 272) (task : Nat) (l : Nat) (r : Nat), s.issues (↑die) (↑p) (Bundle.ctl (Ctl.signal true task l r))) :=
  ⟨⟨issuing 0x81c0000000000fff, 0, 0, 14, 0xFFF, issues_of (by decide +kernel)⟩,
   ⟨issuing 0x83de000000000000, 0, 0, 14, 15, issues_of (by decide +kernel)⟩,
   ⟨issuing 0x8400000000000fff { calls := List.replicate 7 0 }, 0, 0, 0, 0xFFF, ⟨issues_of (by decide +kernel), by decide +kernel⟩⟩,
   ⟨issuing 0x861e000000000000 { calls := List.replicate 7 0 }, 0, 0, 0, 15, ⟨issues_of (by decide +kernel), by decide +kernel⟩⟩,
   ⟨issuing 0x8800000000000000 { calls := [9] }, 0, 0, 0, 9, [], ⟨issues_of (by decide +kernel), by decide +kernel⟩⟩,
   ⟨issuing 0x8a00000000000000 { state := .urgent, calls := [9] }, 0, 0, 9, [], ⟨issues_of (by decide +kernel), by decide +kernel, by decide +kernel⟩⟩,
   ⟨issuing 0x8c00000000000000, 0, 0, issues_of (by decide +kernel)⟩,
   ⟨issuing 0x8e01fffe00000002, 0, 0, false, 0xFFFF, 2, ⟨issues_of (by decide +kernel), by decide +kernel⟩⟩,
   ⟨issuing 0x9000000000000000, 0, 0, issues_of (by decide +kernel)⟩,
   ⟨issuing 0x92000000003ff000, 0, 0, 1024, issues_of (by decide +kernel)⟩,
   ⟨issuing 0x941efc0000000000, 0, 0, 63, 0, 15, issues_of (by decide +kernel)⟩,
   ⟨issuing 0x941f03c000000000, 0, 0, 0, 15, 15, issues_of (by decide +kernel)⟩⟩

theorem test_wit_ParallelBundles :
    (∃ (s : Machine.State) (die : Fin 4) (p : Fin 272) (c : Compute) (a : Move) (m : Move), s.issues (↑die) (↑p) (Bundle.par c a m) ∧
      (s.portsOf ↑die ↑p).ready a m = true ∧
      (s.facet ↑die ↑p).seen.misaligned a = false ∧
      (s.facet ↑die ↑p).seen.misaligned m = false ∧
      (s.facet ↑die ↑p).seen.readsBad 0 a = false ∧
      (s.facet ↑die ↑p).seen.readsBad 8192 m = false ∧
      ((s.facet ↑die ↑p).seen.move false a ((s.facet ↑die ↑p).seen.sched 2 ((s.facet ↑die ↑p).seen.compute c)) (s.portsOf ↑die ↑p)).snd.snd = false ∧
      ((s.facet ↑die ↑p).seen.move true m ((s.facet ↑die ↑p).seen.move false a ((s.facet ↑die ↑p).seen.sched 2 ((s.facet ↑die ↑p).seen.compute c)) (s.portsOf ↑die ↑p)).fst ((s.facet ↑die ↑p).seen.move false a ((s.facet ↑die ↑p).seen.sched 2 ((s.facet ↑die ↑p).seen.compute c)) (s.portsOf ↑die ↑p)).snd.fst).snd.snd = false) ∧
    (∃ (s : Machine.State) (die : Fin 4) (p : Fin 272) (c : Compute) (a : Move) (m : Move), s.issues (↑die) (↑p) (Bundle.par c a m) ∧
      (s.portsOf ↑die ↑p).ready a m = false) ∧
    (∃ (s : Machine.State) (die : Fin 4) (p : Fin 272) (c : Compute) (a : Move) (m : Move), s.issues (↑die) (↑p) (Bundle.par c a m) ∧
      (s.portsOf ↑die ↑p).ready a m = true ∧
      ((s.facet ↑die ↑p).seen.misaligned a = true ∨ (s.facet ↑die ↑p).seen.misaligned m = true)) ∧
    (∃ (s : Machine.State) (die : Fin 4) (p : Fin 272) (c : Compute) (a : Move) (m : Move), s.issues (↑die) (↑p) (Bundle.par c a m) ∧
      (s.portsOf ↑die ↑p).ready a m = true ∧
      (s.facet ↑die ↑p).seen.misaligned a = false ∧
      (s.facet ↑die ↑p).seen.misaligned m = false ∧
      ((s.facet ↑die ↑p).seen.readsBad 0 a = true ∨ (s.facet ↑die ↑p).seen.readsBad 8192 m = true)) :=
  ⟨⟨issuing 0, 0, 0, {}, .none, .none, ⟨issues_of (by decide +kernel), by decide +kernel, by decide +kernel, by decide +kernel, by decide +kernel, by decide +kernel, by decide +kernel, by decide +kernel⟩⟩,
   ⟨issuing 3762290688, 0, 0, {}, .inp 0 0 false, .none, ⟨issues_of (by decide +kernel), by decide +kernel⟩⟩,
   ⟨issuing 1677721600 { p := [(0, 1)] }, 0, 0, {}, .ldp 2 0 0, .none, ⟨issues_of (by decide +kernel), by decide +kernel, by decide +kernel⟩⟩,
   ⟨issuing 1677721600 { badData := [(0, true)] }, 0, 0, {}, .ldp 2 0 0, .none, ⟨issues_of (by decide +kernel), by decide +kernel, by decide +kernel, by decide +kernel, by decide +kernel⟩⟩⟩

theorem test_wit_ResultsFitRoundAndWalk :
    (∃ (scl : Nat), scl < 4) ∧
    (∃ (ptr : Nat) (len : Nat), 0 < len ∧
      ptr < 8192 ∧
      ptr - ptr % len + len ≤ 8192) ∧
    (∃ (ptr : Nat) (k : Nat) (i : Nat), 1 ≤ k ∧
      k ≤ 12 ∧
      ptr < 8192 ∧
      i < k) :=
  ⟨⟨3, by decide +kernel⟩,
   ⟨8191, 8192, by decide +kernel⟩,
   ⟨8191, 12, 11, by decide +kernel⟩⟩

theorem test_wit_PowerDomainsChange :
    (∃ (g : Fin 165) (x : Machine.State), (x.domSt ↑g = 0 ∨ x.islLevel (islandOf ↑g) ≠ 0 ∧ (x.lowered (islandOf ↑g) = false ∨ x.islLevel (islandOf ↑g) = x.islTarget (islandOf ↑g)))) ∧
    (∃ (g : Fin 165) (x : Machine.State), x.domSt ↑g ≠ 0 ∧
      (x.islLevel (islandOf ↑g) = 0 ∨ x.lowered (islandOf ↑g) = true ∧ x.islLevel (islandOf ↑g) ≠ x.islTarget (islandOf ↑g))) ∧
    (∃ (s : Machine.State) (r : Requester) (g : Fin 165) (w : BitVec 32), s.admits r (domCtlKey ↑g) true = true ∧
      wfld w 4 2 = 0 ∧
      s.power.trip = false ∧
      wbit w 0 = true ∧
      (s.bit (domCtlKey ↑g) 0 = false ∨ s.fld (domCtlKey ↑g) 4 2 = 1 ∨ s.fld (domCtlKey ↑g) 4 2 = 2)) ∧
    (∃ (s : Machine.State) (r : Requester) (g : Fin 165) (w : BitVec 32), s.admits r (domCtlKey ↑g) true = true ∧
      wfld w 4 2 = 0 ∧
      s.power.trip = false ∧
      wbit w 0 = true ∧
      s.bit (domCtlKey ↑g) 0 = true ∧
      s.fld (domCtlKey ↑g) 4 2 ≠ 1 ∧
      s.fld (domCtlKey ↑g) 4 2 ≠ 2) ∧
    (∃ (s : Machine.State) (r : Requester) (g : Fin 165) (w : BitVec 32), s.admits r (domCtlKey ↑g) true = true ∧
      wfld w 4 2 = 0 ∧
      s.power.trip = false ∧
      wbit w 0 = false ∧
      domAllows (↑g) 3 = true) ∧
    (∃ (s : Machine.State) (r : Requester) (g : Fin 165) (w : BitVec 32), s.admits r (domCtlKey ↑g) true = true ∧
      wbit w 0 = false ∧
      domAllows (↑g) 3 = false) ∧
    (∃ (s : Machine.State) (r : Requester) (g : Fin 165) (w : BitVec 32), s.admits r (domCtlKey ↑g) true = true ∧
      s.power.trip = false ∧
      wbit w 0 = true ∧
      (wfld w 4 2 = 1 ∨ wfld w 4 2 = 2) ∧
      domAllows (↑g) (wfld w 4 2) = true ∧
      (wfld w 4 2 = 1 → s.domSt ↑g = 0 → s.maySleep ↑g = true)) ∧
    (∃ (s : Machine.State) (r : Requester) (g : Fin 165) (w : BitVec 32), s.admits r (domCtlKey ↑g) true = true ∧
      s.power.trip = false ∧
      wbit w 0 = true ∧
      (wfld w 4 2 = 1 ∨ wfld w 4 2 = 2) ∧
      domAllows (↑g) (wfld w 4 2) = false) ∧
    (∃ (s : Machine.State) (g : Fin 165), s.bit (domCtlKey ↑g) 1 = true ∧
      s.domSt ↑g = 0 ∧
      domAllows (↑g) 1 = true ∧
      s.domBusy ↑g = false ∧
      s.maySleep ↑g = true) ∧
    (∃ (s : Machine.State) (g : Fin 165), s.bit (domCtlKey ↑g) 2 = true ∧
      s.domSt ↑g = 1 ∧
      domAllows (↑g) 2 = true ∧
      s.islPb (islandOf ↑g) = false ∧
      s.fld (domCtlKey ↑g) 4 2 = 0) ∧
    (∃ (s : Machine.State) (g : Fin 165), (s.domSt ↑g = 1 ∨ s.domSt ↑g = 2) ∧
      s.fld (domCtlKey ↑g) 4 2 ≠ 1 ∧
      s.fld (domCtlKey ↑g) 4 2 ≠ 2 ∧
      s.power.deepSleep = false) ∧
    (∃ (s : Machine.State), (∀ (g : Nat), s.power.wakes.get g false = false)) ∧
    (∃ (s : Machine.State) (r : Requester), s.admits r Reg.GOV_CMD true = true) ∧
    (∃ (s : Machine.State), s.power.deepSleep = true ∧
      s.power.trip = false) ∧
    (∃ (j : Fin 92), (islInst ↑j).fst < 4) ∧
    (∃ (j : Fin 92), (islInst ↑j).fst = 4) ∧
    (∃ (j : Fin 92), (islInst ↑j).fst = 5) :=
  ⟨⟨0, rst, by decide +kernel⟩,
   ⟨0, { rst with power := { rst.power with dom := [(0, 1)], lvl := [(islandOf 0, 0)] } }, by decide +kernel⟩,
   ⟨rst.setBit (domCtlKey 0) 0 false, .agent 8, 0, 1, by decide +kernel⟩,
   ⟨rst.setBit (domCtlKey 0) 0 true, .agent 8, 0, 1, by decide +kernel⟩,
   ⟨rst, .agent 8, 160, 0, by decide +kernel⟩,
   ⟨rst, .agent 8, 128, 0, by decide +kernel⟩,
   ⟨rst, .agent 8, 0, 0x11, by decide +kernel⟩,
   ⟨rst, .agent 8, 164, 0x11, by decide +kernel⟩,
   ⟨rst.setBit (domCtlKey 0) 1 true, 0, by decide +kernel⟩,
   ⟨((({ rst with power := { rst.power with dom := [(0, 1)] } } : State).setBit (domCtlKey 0) 2 true).setBit (islCtlKey 0) 2 false).setFld (domCtlKey 0) 4 2 0, 0, by decide +kernel⟩,
   ⟨{ rst with power := { rst.power with dom := [(0, 1)] } }, 0, by decide +kernel⟩,
   ⟨rst, fun g => rfl⟩,
   ⟨rst, .agent 8, by decide +kernel⟩,
   ⟨{ rst with power := { rst.power with deepSleep := true } }, by decide +kernel⟩,
   ⟨0, by decide +kernel⟩,
   ⟨84, by decide +kernel⟩,
   ⟨91, by decide +kernel⟩⟩

theorem test_wit_GovernorKeepsAccounts :
    (∃ (s : Machine.State), s.power.deepReq = false) ∧
    (∃ (s : Machine.State) (kind : Nat) (die : Nat), kind < 7 ∧
      die < 5 ∧
      s.admissible 2 (jobPurse kind die) (s.jobCost kind) = true) ∧
    (∃ (s : Machine.State) (die : Nat) (rg : Nat) (i : Nat) (q : Request), die < 4 ∧
      rg < 16 ∧
      (s.disp die rg).ready[i]? = some q ∧
      q.admitted = false ∧
      s.admissible (s.taskFld die rg q.task 0 12 2) die (s.taskFld die rg q.task 1 16 16) = true) ∧
    (∃ (s : Machine.State) (die : Nat) (rg : Nat) (i : Nat) (q : Request), die < 4 ∧
      rg < 16 ∧
      (s.disp die rg).ready[i]? = some q ∧
      q.admitted = false ∧
      s.admissible (s.taskFld die rg q.task 0 12 2) die (s.taskFld die rg q.task 1 16 16) = false ∧
      s.taskFld die rg q.task 0 12 2 = 0) ∧
    (∃ (s : Machine.State) (replies : List (Nat × Nat)), s.bit Reg.GOV_PMB 0 = true ∧
      s.busRouted = true ∧
      (∀ (d : Nat), d ∈ s.pmbDevices → ∃ w, List.find? (fun r => r.fst == d) replies = some (d, w))) ∧
    (∃ (s : Machine.State) (dev : Fin 9), s.power.fails.get (↑dev) 0 < 2) ∧
    (∃ (s : Machine.State) (dev : Fin 9), s.power.fails.get (↑dev) 0 = 2) :=
  ⟨⟨rst, by decide +kernel⟩,
   ⟨rst, 6, 4, by decide +kernel⟩,
   ⟨rst.setDisp 0 0 { ready := [⟨0, 0, none, false, false, 0⟩] }, 0, 0, 0, ⟨0, 0, none, false, false, 0⟩, by decide +kernel⟩,
   ⟨((rst.setDisp 0 0 { ready := [⟨0, 0, none, false, false, 0⟩] }).setBit Reg.GOV_CTL 0 true).setFld (Reg.FDSP_TASK0 0 0 0 + 4) 16 16 1, 0, 0, 0, ⟨0, 0, none, false, false, 0⟩, by decide +kernel⟩,
   ⟨bus, [(8, 1)], ⟨by decide +kernel, by decide +kernel, (by intro d h; have e : bus.pmbDevices = [8] := (by decide +kernel); rw [e] at h; exact ⟨1, by rw [List.mem_singleton.mp h]; rfl⟩)⟩⟩,
   ⟨{ rst with power := { rst.power with fails := [(8, 1)] } }, 8, by decide +kernel⟩,
   ⟨{ rst with power := { rst.power with fails := [(0, 2)] } }, 0, by decide +kernel⟩⟩

theorem test_wit_QueueCommandsAct :
    (∃ (s : Machine.State) (r : Requester) (q : Fin 8192) (w : BitVec 32), s.admits r (s.qreg (↑q) 28) true = true ∧
      (wfld w 0 16 + 65536 - (s.queue ↑q).head) % 65536 < s.ringSize ↑q ∧
      s.qgated ↑q = false) ∧
    (∃ (s : Machine.State) (r : Requester) (q : Fin 8192) (w : BitVec 32), s.admits r (s.qreg (↑q) 28) true = true ∧
      s.ringSize ↑q ≤ (wfld w 0 16 + 65536 - (s.queue ↑q).head) % 65536) ∧
    (∃ (s : Machine.State) (r : Requester) (q : Fin 8192), s.admits r (s.qreg (↑q) 72) true = true) ∧
    (∃ (s : Machine.State) (q : Fin 8192), (s.queue ↑q).state ≠ QState.run ∧
      (s.queue ↑q).state ≠ QState.paused) ∧
    (∃ (s : Machine.State) (q : Fin 8192), ((s.queue ↑q).state = QState.run ∨ (s.queue ↑q).state = QState.paused) ∧
      s.qgated ↑q = true ∧
      (s.queue ↑q).freed < (s.queue ↑q).pending) ∧
    (∃ (s : Machine.State) (q : Fin 8192), ((s.queue ↑q).state = QState.run ∨ (s.queue ↑q).state = QState.paused) ∧
      s.qgated ↑q = true ∧
      (s.queue ↑q).pending ≤ (s.queue ↑q).freed ∧
      (s.queue ↑q).kicks < 255) ∧
    (∃ (s : Machine.State) (q : Fin 8192), ((s.queue ↑q).state = QState.run ∨ (s.queue ↑q).state = QState.paused) ∧
      s.qgated ↑q = true ∧
      (s.queue ↑q).pending ≤ (s.queue ↑q).freed ∧
      255 ≤ (s.queue ↑q).kicks) ∧
    (∃ (s : Machine.State) (r : Requester) (q : Fin 8192), s.admits r (s.qreg (↑q) 64) true = true) ∧
    (∃ (s : Machine.State) (r : Requester) (q : Fin 8192), s.admits r (s.qreg (↑q) 36) true = true ∧
      (s.queue ↑q).state = QState.disabled ∧
      s.qtype ↑q < 6 ∧
      s.qclass ↑q ≠ 3 ∧
      (s.qtype ↑q = 5 → homeOf ↑q = 4) ∧
      ↑(s.qcfg1 (↑q) 0 8) ≤ s.poolSize (homeOf ↑q)) ∧
    (∃ (s : Machine.State) (r : Requester) (q : Fin 8192), s.admits r (s.qreg (↑q) 36) true = true ∧
      (s.queue ↑q).state ≠ QState.disabled) ∧
    (∃ (s : Machine.State) (r : Requester) (q : Fin 8192), s.admits r (s.qreg (↑q) 36) true = true ∧
      (s.queue ↑q).state = QState.run) ∧
    (∃ (s : Machine.State) (r : Requester) (q : Fin 8192), s.admits r (s.qreg (↑q) 36) true = true ∧
      (s.queue ↑q).state ≠ QState.run) ∧
    (∃ (s : Machine.State) (r : Requester) (q : Fin 8192), s.admits r (s.qreg (↑q) 36) true = true ∧
      ((s.queue ↑q).state = QState.paused ∨ (s.queue ↑q).state = QState.stalled)) ∧
    (∃ (s : Machine.State) (r : Requester) (q : Fin 8192), s.admits r (s.qreg (↑q) 36) true = true ∧
      (s.queue ↑q).state ≠ QState.paused ∧
      (s.queue ↑q).state ≠ QState.stalled) ∧
    (∃ (s : Machine.State) (r : Requester) (q : Fin 8192) (d : Desc), s.admits r (s.qreg (↑q) 36) true = true ∧
      (s.queue ↑q).state = QState.error ∧
      (s.queue ↑q).failed = some d) ∧
    (∃ (s : Machine.State) (r : Requester) (q : Fin 8192), s.admits r (s.qreg (↑q) 36) true = true ∧
      (s.queue ↑q).state ≠ QState.error) :=
  ⟨⟨rst, .agent 8, 8191, 15, by decide +kernel⟩,
   ⟨rst, .agent 8, 8191, 16, by decide +kernel⟩,
   ⟨rst, .agent 8, 8191, by decide +kernel⟩,
   ⟨rst, 0, by decide +kernel⟩,
   ⟨(rst.setQueue 0 { state := .run, tail := 1 }).setBit (rst.qreg 0 0) 9 true, 0, by decide +kernel⟩,
   ⟨(rst.setQueue 0 { state := .paused, kicks := 254 }).setBit (rst.qreg 0 0) 9 true, 0, by decide +kernel⟩,
   ⟨(rst.setQueue 0 { state := .run, kicks := 255 }).setBit (rst.qreg 0 0) 9 true, 0, by decide +kernel⟩,
   ⟨rst, .agent 8, 0, by decide +kernel⟩,
   ⟨rst, .agent 8, 8191, by decide +kernel⟩,
   ⟨rst.setQueue 0 { state := .alarmed }, .agent 8, 0, by decide +kernel⟩,
   ⟨rst.setQueue 0 { state := .run }, .agent 8, 0, by decide +kernel⟩,
   ⟨rst, .agent 8, 0, by decide +kernel⟩,
   ⟨rst.setQueue 0 { state := .stalled }, .agent 8, 0, by decide +kernel⟩,
   ⟨rst, .agent 8, 0, by decide +kernel⟩,
   ⟨rst.setQueue 0 { state := .error, failed := some {} }, .agent 8, 0, {}, by decide +kernel⟩,
   ⟨rst, .agent 8, 0, by decide +kernel⟩⟩

theorem test_wit_QueuesMoveData :
    (∃ (s : Machine.State) (q : Fin 8192) (f : Fetch) (m : MemReply) (u : Machine.State), s.qruns ↑q = true ∧
      s.qstream ↑q = false ∧
      (s.queue ↑q).pending ≠ 0 ∧
      s.qgated ↑q = false ∧
      (s.queue ↑q).open_.length < 4 ∧
      s.protectedRead (s.headAddress ↑q) (Consumer.queue ↑q) f = (u, some m) ∧
      m.resp = Resp.ok ∧
      m.poison = false ∧
      u.descOk (↑q) (descOf (m.data / 256 ^ (s.headAddress ↑q % 64))).fst (descOf (m.data / 256 ^ (s.headAddress ↑q % 64))).snd = true ∧
      (descOf (m.data / 256 ^ (s.headAddress ↑q % 64))).fst.flags / 4 % 2 = 0) ∧
    (∃ (s : Machine.State) (q : Fin 8192) (f : Fetch) (m : MemReply) (u : Machine.State), s.qruns ↑q = true ∧
      s.qstream ↑q = false ∧
      (s.queue ↑q).pending ≠ 0 ∧
      s.qgated ↑q = false ∧
      (s.queue ↑q).open_.length < 4 ∧
      s.protectedRead (s.headAddress ↑q) (Consumer.queue ↑q) f = (u, some m) ∧
      m.resp = Resp.ok ∧
      m.poison = false ∧
      u.descOk (↑q) (descOf (m.data / 256 ^ (s.headAddress ↑q % 64))).fst (descOf (m.data / 256 ^ (s.headAddress ↑q % 64))).snd = false ∧
      (u.queue ↑q).state = QState.run) ∧
    (∃ (s : Machine.State) (q : Fin 8192) (data : List (BitVec 8)) (bs : List (BitVec 8)) (p : Bool) (fs : List Fetch) (o : OpenDesc) (u : Machine.State), (s.queue ↑q).reading = some o ∧
      s.qruns ↑q = true ∧
      s.qstream ↑q = false ∧
      s.mayTake ↑q = true ∧
      ((if isMemory (o.desc.src + o.read) = true then s.readBytes (s.consumerOf (↑q) o.desc.dst) (o.desc.src + o.read) (min 256 (o.desc.len - o.read)) fs else if isFacet o.desc.src = true then (s, some (s.facetBytes (o.desc.src + o.read) (min 256 (o.desc.len - o.read)), false, Resp.ok)) else (s, some (List.take (min 256 (o.desc.len - o.read)) (data ++ List.replicate 256 0), p, Resp.ok))) = (u, some (bs, p, Resp.ok)))) ∧
    (∃ (s : Machine.State) (q : Fin 8192) (bytes : List (BitVec 8)), s.streamRefused ↑q = false ∧
      s.streamKind ↑q = true ∧
      s.qruns ↑q = true ∧
      s.mayTake ↑q = true ∧
      s.streamRoom (↑q) bytes.length = true ∧
      ((s.queue ↑q).fill ++ bytes).length < 256) ∧
    (∃ (s : Machine.State) (q : Fin 8192) (bytes : List (BitVec 8)), s.streamRefused ↑q = false ∧
      s.streamKind ↑q = true ∧
      (s.qruns ↑q = false ∨ s.mayTake ↑q = false ∨ s.streamRoom (↑q) bytes.length = false)) ∧
    (∃ (s : Machine.State) (q : Fin 8192), s.streamRefused ↑q = false ∧
      s.streamKind ↑q = false) ∧
    (∃ (s : Machine.State) (q : Fin 8192), s.streamRefused ↑q = true) ∧
    (∃ (s : Machine.State) (q : Fin 8192), (s.queue ↑q).fill = []) ∧
    (∃ (s : Machine.State) (q : Fin 8192), (s.queue ↑q).fill ≠ []) ∧
    (∃ (s : Machine.State) (die : Fin 5) (k : Nat) (c : Cell) (ep : Endpoint) (u : Machine.State), s.chooseCell ↑die = some (k, c, ep) ∧
      s.deliver k c = (u, some Resp.ok)) ∧
    (∃ (s : Machine.State) (q : Fin 8192) (o : OpenDesc), (s.queue ↑q).completed = some o ∧
      s.wantsCompletion (↑q) o = false) ∧
    (∃ (s : Machine.State) (q : Fin 8192) (o : OpenDesc) (u : Machine.State), (s.queue ↑q).completed = some o ∧
      s.wantsCompletion (↑q) o = true ∧
      s.compFull ↑q = false ∧
      s.writeCompletion (↑q) o = (u, some Resp.ok) ∧
      s.fld (s.qreg (↑q) 8) 0 24 ≠ 0) ∧
    (∃ (s : Machine.State) (q : Fin 8192) (o : OpenDesc), (s.queue ↑q).completed = some o ∧
      s.wantsCompletion (↑q) o = true ∧
      s.compFull ↑q = true) ∧
    (∃ (s : Machine.State) (q : Fin 8192), (s.queue ↑q).state = QState.run ∧
      s.clk.hold = false ∧
      s.fld (s.qreg (↑q) 8) 0 24 ≠ 0 ∧
      s.homeEn ↑q = true ∧
      s.setFrozen ↑q = false ∧
      s.workPending ↑q = true ∧
      s.fld (s.qreg (↑q) 8) 0 24 * 16384 ≤ BitVec.toNat (s.tickEnd - (s.queue ↑q).last)) :=
  ⟨⟨fetching 1, 0, .intact, ((fetching 1).protectedRead ((fetching 1).headAddress 0) (.queue 0) .intact).2.getD {}, ((fetching 1).protectedRead ((fetching 1).headAddress 0) (.queue 0) .intact).1, by decide +kernel⟩,
   ⟨fetching 0, 0, .intact, ((fetching 0).protectedRead ((fetching 0).headAddress 0) (.queue 0) .intact).2.getD {}, ((fetching 0).protectedRead ((fetching 0).headAddress 0) (.queue 0) .intact).1, by decide +kernel⟩,
   ⟨(running 0 { state := .run, open_ := [⟨0, { src := 0x80000000000, len := 1 }, 0, 0, false, true⟩] }).setFld (Reg.QM_QCFG1 4 0) 0 8 1, 0, [0], [0], false, [], ⟨0, { src := 0x80000000000, len := 1 }, 0, 0, false, true⟩, (running 0 { state := .run, open_ := [⟨0, { src := 0x80000000000, len := 1 }, 0, 0, false, true⟩] }).setFld (Reg.QM_QCFG1 4 0) 0 8 1, ⟨by decide +kernel, by decide +kernel, by decide +kernel, by decide +kernel, rfl⟩⟩,
   ⟨((running 8191 { state := .run, fill := List.replicate 254 0 }).setFld (rst.qreg 8191 0) 0 4 9).setFld (rst.qreg 8191 4) 0 8 1, 8191, [0], by decide +kernel⟩,
   ⟨(rst.setQueue 0 { state := .paused }).setFld (rst.qreg 0 0) 0 4 9, 0, [0], by decide +kernel⟩,
   ⟨(rst.setQueue 0 { state := .paused }).setFld (rst.qreg 0 0) 0 4 10, 0, by decide +kernel⟩,
   ⟨rst, 0, by decide +kernel⟩,
   ⟨rst, 0, by decide +kernel⟩,
   ⟨rst.setQueue 0 { fill := [1] }, 0, by decide +kernel⟩,
   ⟨rst.setQueue 0 { state := .run, cells := [⟨2 ^ 62, [], false, 0, 0⟩] }, 4, 0, ⟨2 ^ 62, [], false, 0, 0⟩, .host 0, rst.setQueue 0 { state := .run, cells := [⟨2 ^ 62, [], false, 0, 0⟩] }, ⟨by decide +kernel, rfl⟩⟩,
   ⟨rst.setQueue 0 { open_ := [⟨0, {}, 0, 0, true, true⟩] }, 0, ⟨0, {}, 0, 0, true, true⟩, by decide +kernel⟩,
   ⟨(((rst.setQueue 0 { open_ := [⟨0, { flags := 1 }, 0, 0, true, true⟩] }).setBit (rst.qreg 0 0x38) 5 true).setFld (rst.qreg 0 8) 0 24 1), 0, ⟨0, { flags := 1 }, 0, 0, true, true⟩, ((((rst.setQueue 0 { open_ := [⟨0, { flags := 1 }, 0, 0, true, true⟩] }).setBit (rst.qreg 0 0x38) 5 true).setFld (rst.qreg 0 8) 0 24 1).writeCompletion 0 ⟨0, { flags := 1 }, 0, 0, true, true⟩).1, ⟨by decide +kernel, by decide +kernel, by decide +kernel, Prod.ext rfl (by decide +kernel), by decide +kernel⟩⟩,
   ⟨rst.setQueue 0 { open_ := [⟨0, { flags := 1 }, 0, 0, true, true⟩], cwr := 15 }, 0, ⟨0, { flags := 1 }, 0, 0, true, true⟩, by decide +kernel⟩,
   ⟨({ (running 0 { state := .run, fill := [1] }) with spine := { up.spine with dt := 65536 } } : State).setFld (rst.qreg 0 8) 0 24 1, 0, by decide +kernel⟩⟩

theorem test_wit_SetsRoutersAndCrossings :
    (∃ (s : Machine.State) (r : Requester) (set : Fin 64) (grp : Fin 16) (q : Nat), q / 128 = ↑set ∧
      s.admits r (regKey (if ↑set < 16 then 4 else (↑set - 16) / 12) 10 (3328 + (↑set - firstSet (if ↑set < 16 then 4 else (↑set - 16) / 12))) 0) true = true ∧
      s.inGroup q ↑grp = true ∧
      (∀ (k : Nat), k / 128 = ↑set → k ≠ q → s.inGroup k ↑grp = false)) ∧
    (∃ (f : Flow), f.src.fst ≠ f.dst.fst) :=
  ⟨⟨rst.wr (rst.qreg 127 0xFFC) 3, .agent 8, 0, 3, 127, ⟨by decide +kernel, by decide +kernel, by decide +kernel, by
    have h : ∀ k < 128, k ≠ 127 → (rst.wr (rst.qreg 127 0xFFC) 3).inGroup k 3 = false := by decide +kernel
    exact fun k hk hne => h k (by simp at hk; omega) hne⟩⟩,
   ⟨⟨(0, .queues), (1, .queues), 0⟩, by decide +kernel⟩⟩

theorem test_wit_ChannelsServeMemory :
    (∃ (s : Machine.State) (a : Nat) (bank : Nat) (c : Fin 4) (l : Nat), s.locate a = Except.ok (↑c, l) ∧
      ((s.chan ↑c).wq bank).length + 1 < s.wqHi ↑c ∧ ((s.chan ↑c).wq bank).length < 64) ∧
    (∃ (s : Machine.State) (a : Nat) (x : Resp), s.locate a = Except.error x) ∧
    (∃ (s : Machine.State) (c : Fin 4), s.serving ↑c = true ∧
      0 < (s.chan ↑c).pulled) ∧
    (∃ (s : Machine.State) (c : Fin 4), s.serving ↑c = true ∧
      (s.chan ↑c).pulled = 0 ∧
      s.fld (Reg.DDR_CTL ↑c) 1 2 = 2) ∧
    (∃ (s : Machine.State) (c : Fin 4), s.serving ↑c = true ∧
      (s.chan ↑c).pulled = 0 ∧
      s.fld (Reg.DDR_CTL ↑c) 1 2 ≠ 2) :=
  ⟨⟨ddr, 0, 0, 0, 0, ⟨rfl, by decide +kernel⟩⟩,
   ⟨rst, 0, .noTarget, rfl⟩,
   ⟨ddr.setChan 0 { state := .retrain, pulled := 1 }, 0, by decide +kernel⟩,
   ⟨ddr.setFld (Reg.DDR_CTL 0) 1 2 2, 0, by decide +kernel⟩,
   ⟨ddr.setFld (Reg.DDR_CTL 0) 1 2 0, 0, by decide +kernel⟩⟩

theorem test_wit_ChannelsTrainAndTest :
    (∃ (s : Machine.State) (c : Fin 4), s.mayTrain ↑c = true ∧
      (s.chan ↑c).state = ChState.off) ∧
    (∃ (s : Machine.State) (c : Fin 4), (s.chan ↑c).state = ChState.init) ∧
    (∃ (s : Machine.State) (r : Requester) (c : Fin 4) (w : BitVec 32), s.admits r (Reg.DDR_CTL ↑c) true = true ∧
      (s.chan ↑c).state = ChState.failed ∧
      wbit w 0 = true ∧
      s.power.dom.get (148 + ↑c) 0 = 0 ∧
      s.populated ↑c = true) ∧
    (∃ (s : Machine.State) (r : Requester) (c : Fin 4) (w : BitVec 32), s.admits r (Reg.DDR_RT ↑c) true = true ∧
      wbit w 1 = false ∧
      (s.chan ↑c).state = ChState.ready) ∧
    (∃ (s : Machine.State) (r : Requester) (c : Fin 4) (w : BitVec 32), s.admits r (Reg.DDR_RT ↑c) true = true ∧
      wbit w 1 = false ∧
      (s.chan ↑c).state ≠ ChState.ready ∧
      (s.chan ↑c).state ≠ ChState.retrain) ∧
    (∃ (s : Machine.State) (c : Fin 4) (n : Nat), (s.chan ↑c).state = ChState.retrain ∧
      s.gapRuns ↑c = false ∧
      s.power.jobs.get 28 0 = n + 1) ∧
    (∃ (s : Machine.State) (r : Requester) (c : Fin 4), s.admits r (Reg.DDR_RT ↑c) true = true ∧
      (s.chan ↑c).state = ChState.retrain) ∧
    (∃ (s : Machine.State) (r : Requester) (c : Fin 4), s.admits r (Reg.DDR_MT_CTL ↑c) true = true ∧
      (s.chan ↑c).test = none) ∧
    (∃ (s : Machine.State) (c : Fin 4) (op : Nat) (agent : Nat), (s.chan ↑c).test = some (op, agent) ∧
      BitVec.toNat (s.rd (Reg.DDR_MT_LEN ↑c)) ≤ s.power.jobs.get 36 0) :=
  ⟨⟨(rst.setBit (Reg.DDR_CFG 3) 0 true).setBit (Reg.DDR_CTL 3) 0 true, 3, by decide +kernel⟩,
   ⟨rst.setChan 3 { state := .init }, 3, by decide +kernel⟩,
   ⟨(rst.setChan 3 { state := .failed }).setBit (Reg.DDR_CFG 3) 0 true, .agent 8, 3, 1, by decide +kernel⟩,
   ⟨rst.setChan 3 { state := .ready }, .agent 8, 3, 0, by decide +kernel⟩,
   ⟨rst, .agent 8, 3, 0, by decide +kernel⟩,
   ⟨{ rst.setChan 3 { state := .retrain } with power := { rst.power with jobs := [(28, 1)] } }, 3, 0, by decide +kernel⟩,
   ⟨rst.setChan 3 { state := .retrain }, .agent 8, 3, by decide +kernel⟩,
   ⟨rst, .agent 8, 0, by decide +kernel⟩,
   ⟨rst.setChan 3 { test := some (3, 1) }, 3, 3, 1, by decide +kernel⟩⟩

theorem test_wit_CxlPortsServe :
    (∃ (s : Machine.State) (p : Fin 2) (linkB : Bool), s.boot.phaseA = true ∧
      s.fld (lstat (↑p) linkB) 0 2 ≠ 3) ∧
    (∃ (s : Machine.State) (p : Fin 2) (linkB : Bool), (s.boot.phaseA = false ∨ s.fld (lstat (↑p) linkB) 0 2 = 3)) ∧
    (∃ (s : Machine.State) (r : Requester) (p : Fin 2) (linkB : Bool) (w : BitVec 32), s.admits r (Reg.CXL_CTL ↑p) true = true ∧
      wbit w 4 = false ∧
      wbit w 5 = false ∧
      s.fld (lstat (↑p) linkB) 0 2 ≠ 3) ∧
    (∃ (s : Machine.State) (r : Requester) (p : Fin 2) (linkB : Bool), r.code ≠ 16 ∧
      s.reachable (Reg.CXL_CFGDATA ↑p) = true ∧
      s.rootMode ↑p = true ∧
      wbit (s.rd (Reg.CXL_CFGADDR ↑p)) 28 = linkB ∧
      s.fld (lstat (↑p) linkB) 0 2 ≠ 3 ∧
      wfld (s.rd (Reg.CXL_CFGADDR ↑p)) 20 8 = 0 ∧
      wfld (s.rd (Reg.CXL_CFGADDR ↑p)) 12 8 = 0) ∧
    (∃ (s : Machine.State) (r : Requester) (p : Fin 2) (linkB : Bool), r.code ≠ 16 ∧
      s.reachable (Reg.CXL_CFGDATA ↑p) = true ∧
      s.rootMode ↑p = true ∧
      wbit (s.rd (Reg.CXL_CFGADDR ↑p)) 28 = linkB ∧
      s.fld (lstat (↑p) linkB) 0 2 ≠ 3 ∧
      wfld (s.rd (Reg.CXL_CFGADDR ↑p)) 20 8 ≠ 0 ∧
      s.linkUp (↑p) linkB = true) ∧
    (∃ (s : Machine.State) (r : Requester) (p : Fin 2) (linkB : Bool), r.code ≠ 16 ∧
      s.reachable (Reg.CXL_IODATA ↑p) = true ∧
      s.rootMode ↑p = true ∧
      wbit (s.rd (Reg.CXL_IOADDR_HI ↑p)) 31 = linkB ∧
      s.linkUp (↑p) linkB = true) ∧
    (∃ (s : Machine.State) (r : Requester) (p : Fin 2), r.code = 6 + ↑p ∧
      s.rootMode ↑p = false ∧
      s.linkUp (↑p) false = true ∧
      s.userMode = false) ∧
    (∃ (s : Machine.State) (r : Requester) (p : Fin 2), r.code = 6 + ↑p ∧
      s.rootMode ↑p = false ∧
      s.linkUp (↑p) false = true ∧
      s.userMode = true) ∧
    (∃ (s : Machine.State) (p : Fin 2) (linkB : Bool) (x : CxlReq), List.find? (fun y => y.linkB == linkB) (s.cxl ↑p).outstanding = some x ∧
      s.clk.hold = true) ∧
    (∃ (s : Machine.State) (p : Fin 2) (linkB : Bool) (x : CxlReq), List.find? (fun y => y.linkB == linkB) (s.cxl ↑p).outstanding = some x ∧
      s.clk.hold = false) ∧
    (∃ (s : Machine.State) (r : Requester) (p : Fin 2), s.admits r (Reg.CXL_EPIRQ ↑p) true = true ∧
      s.rootMode ↑p = true) ∧
    (∃ (s : Machine.State) (r : Requester) (p : Fin 2), s.admits r (Reg.CXL_EPIRQ ↑p) true = true ∧
      s.rootMode ↑p = false) :=
  ⟨⟨rst.setBoot (fun b => { b with phaseA := true }), by decide +kernel⟩,
   ⟨rst, by decide +kernel⟩,
   ⟨rst, .agent 8, 1, true, 0, by decide +kernel⟩,
   ⟨rst, .agent 8, 0, false, by decide +kernel⟩,
   ⟨(rst.wr (Reg.CXL_CFGADDR 1) 0x10100000).wr (lstat 1 true) 2, .agent 8, 1, true, by decide +kernel⟩,
   ⟨(rst.wr (Reg.CXL_IOADDR_HI 0) 0x80000000).wr (lstat 0 true) 2, .agent 8, 0, true, by decide +kernel⟩,
   ⟨((rst.wr (Reg.CXL_CTL 0) 2).wr (lstat 0 false) 2), .agent 6, 0, by decide +kernel⟩,
   ⟨((up.wr (Reg.CXL_CTL 0) 2).wr (lstat 0 false) 2), .agent 6, 0, by decide +kernel⟩,
   ⟨({ rst with clk := { rst.clk with hold := true } } : State).setCxl 1 { outstanding := [⟨true, 1, false, 5⟩] }, 1, true, ⟨true, 1, false, 5⟩, by decide +kernel⟩,
   ⟨rst.setCxl 1 { outstanding := [⟨true, 1, false, 5⟩] }, 1, true, ⟨true, 1, false, 5⟩, by decide +kernel⟩,
   ⟨rst, .agent 8, 1, by decide +kernel⟩,
   ⟨rst.wr (Reg.CXL_CTL 1) 2, .agent 8, 1, by decide +kernel⟩⟩

theorem test_wit_ProtectedLinesKeepTheirData :
    (∃ (s : Machine.State) (a : Nat) (e : Nat) (l : Nat), s.locate a = Except.ok (e, l) ∧
      l < s.dataArea e ∧
      s.entryOf a = none) ∧
    (∃ (s : Machine.State) (a : Nat) (e : Nat) (l : Nat) (n : Nat) (k : Nat), s.locate a = Except.ok (e, l) ∧
      l < s.dataArea e ∧
      s.entryOf a = some n ∧
      s.policyDenies n (Consumer.agent k) true = false ∧
      s.entryMode n ≠ 3 ∧
      s.hasKey (Consumer.agent k) n = false) ∧
    (∃ (s : Machine.State) (a : Nat) (e : Nat) (l : Nat) (n : Nat) (k : Nat) (bytes : List (BitVec 8)), s.locate a = Except.ok (e, l) ∧
      l < s.dataArea e ∧
      s.entryOf a = some n ∧
      s.policyDenies n (Consumer.agent k) true = false ∧
      s.policyDenies n (Consumer.agent k) false = false ∧
      s.entryMode n ≠ 3 ∧
      s.hasKey (Consumer.agent k) n = true ∧
      s.kidLoaded (s.entryKid n) = true ∧
      s.locked e = false ∧
      s.pageWaits e (l / 4096) = false ∧
      s.listed e (l / 4096) = false ∧
      s.belowStuck e (l / 4096) = false ∧
      l % 64 = 0 ∧
      bytes.length = 64 ∧
      (s.page e (l / 4096)).minors.get (l / 64 % 64) 0 < 127) ∧
    (∃ (s : Machine.State) (a : Nat) (e : Nat) (l : Nat) (n : Nat) (k : Nat), s.locate a = Except.ok (e, l) ∧
      l < s.dataArea e ∧
      s.entryOf a = some n ∧
      s.policyDenies n (Consumer.agent k) true = false ∧
      s.policyDenies n (Consumer.agent k) false = false ∧
      s.entryMode n ≠ 3 ∧
      s.hasKey (Consumer.agent k) n = true ∧
      s.kidLoaded (s.entryKid n) = true ∧
      s.locked e = false ∧
      s.pageWaits e (l / 4096) = false ∧
      s.listed e (l / 4096) = false ∧
      s.belowStuck e (l / 4096) = false ∧
      l % 64 = 0 ∧
      (s.page e (l / 4096)).minors.get (l / 64 % 64) 0 ≠ 0 ∧
      s.entryMode n ≠ 0 ∧
      ((s.engine e).lines.get (l / 64) { }).kid = s.entryKid n ∧
      ((s.engine e).lines.get (l / 64) { }).poison = false) :=
  ⟨⟨ddr, 0, 0, 0, ⟨rfl, by decide +kernel⟩⟩,
   ⟨region 2 5, 0, 0, 0, 0, 1, ⟨rfl, by decide +kernel⟩⟩,
   ⟨keyed, 64, 0, 64, 0, 1, List.replicate 64 7, ⟨rfl, by decide +kernel⟩⟩,
   ⟨keyed.setEngine 0 { lines := [(1, { kid := 5 })], pages := [(0, { minors := [(1, 1)] })] }, 64, 0, 64, 0, 1, ⟨rfl, by decide +kernel⟩⟩⟩

theorem test_wit_EnginesMaintainTheTree :
    (∃ (s : Machine.State) (e : Fin 6) (p : Nat) (w : HeldWrite) (rest : List (Nat × HeldWrite)), (s.engine ↑e).reenc = (p, w) :: rest) ∧
    (∃ (s : Machine.State) (e : Fin 6) (x : SpecCheck) (rest : List SpecCheck), (s.engine ↑e).pending = x :: rest ∧
      x.cls = 0) ∧
    (∃ (s : Machine.State) (e : Fin 6) (x : SpecCheck) (rest : List SpecCheck), (s.engine ↑e).pending = x :: rest ∧
      x.cls ≠ 0) ∧
    (∃ (s : Machine.State) (r : Requester) (e : Fin 6) (n : Fin 64), s.admits r (Reg.MPE_REINIT ↑e) true = true ∧
      (s.engine ↑e).reinit = none ∧
      ((s.unverifiable ↑e).any fun x => x.fst == ↑n) = true) ∧
    (∃ (s : Machine.State) (r : Requester) (e : Fin 6) (m : Nat), s.admits r (Reg.MPE_REINIT ↑e) true = true ∧
      (s.engine ↑e).reinit = some m) ∧
    (∃ (s : Machine.State) (e : Fin 6) (m : Nat) (level : Nat) (index : Nat), (s.engine ↑e).reinit = some m ∧
      List.find? (fun x => x.fst == m) (s.unverifiable ↑e) = some (m, level, index)) ∧
    (∃ (s : Machine.State) (r : Requester) (kid : Fin 64), s.admits r Reg.MPE_RETIRE true = true ∧
      s.mem.retiring = none ∧
      (r.code = 8 ∨ ↑kid ≠ 0 ∧ s.agentHolds r.code ↑kid = true)) ∧
    (∃ (s : Machine.State) (k : Nat), k < 64 ∧
      s.mem.retiring = some k ∧
      (∀ (i : Nat), i < 6 → (s.engine i).reenc = [])) ∧
    (∃ (s : Machine.State) (r : Requester) (e : Fin 6) (x : Alarm) (rest : List Alarm), s.admits r (Reg.MPE_ALM0 ↑e) false = true ∧
      r.code ≠ 16 ∧
      (s.engine ↑e).log = x :: rest) ∧
    (∃ (s : Machine.State) (r : Requester) (e : Fin 6), s.admits r (Reg.MPE_ALM0 ↑e) false = true ∧
      r.code ≠ 16 ∧
      (s.engine ↑e).log = []) ∧
    (∃ (s : Machine.State) (r : Requester) (n : Fin 256) (w : BitVec 32), s.admits r (Reg.MPE_RGN_CTL (256 + ↑n)) true = true ∧
      s.bit (Reg.MPE_RGN_CTL (256 + ↑n)) 31 = true ∧
      wbit w 31 = true) ∧
    (∃ (s : Machine.State) (r : Requester) (n : Fin 256) (w : BitVec 32), s.admits r (Reg.MPE_RGN_CTL (256 + ↑n)) true = true ∧
      s.bit (Reg.MPE_RGN_CTL (256 + ↑n)) 31 = true ∧
      wbit w 31 = false) ∧
    (∃ (s : Machine.State) (r : Requester) (n : Fin 256) (w : BitVec 32), s.admits r (Reg.MPE_RGN_CTL (256 + ↑n)) true = true ∧
      s.bit (Reg.MPE_RGN_CTL (256 + ↑n)) 31 = false ∧
      wbit w 31 = false) ∧
    (∃ (s : Machine.State) (r : Requester) (n : Fin 256) (w : BitVec 32), s.admits r (Reg.MPE_RGN_CTL (256 + ↑n)) true = true ∧
      s.bit (Reg.MPE_RGN_CTL (256 + ↑n)) 31 = false ∧
      wbit w 31 = true ∧
      s.entryBase ↑n ≤ s.entryLimit ↑n ∧
      s.rangeAllowed (s.entryBase ↑n) (s.entryLimit ↑n) = true ∧
      (s.regionEntries.any fun m => decide (s.entryBase m ≤ s.entryLimit ↑n ∧ s.entryBase ↑n ≤ s.entryLimit m)) = false ∧
      wfld w 0 2 ≠ 3) :=
  ⟨⟨rst.setEngine 5 { reenc := [(0, ⟨0, 0, 0, false⟩)] }, 5, 0, ⟨0, 0, 0, false⟩, [], by decide +kernel⟩,
   ⟨rst.setEngine 5 { pending := [⟨.agent 1, 0, 0, 0⟩] }, 5, ⟨.agent 1, 0, 0, 0⟩, [], by decide +kernel⟩,
   ⟨rst.setEngine 0 { pending := [⟨.agent 1, 0, 0, 1⟩] }, 0, ⟨.agent 1, 0, 0, 1⟩, [], by decide +kernel⟩,
   ⟨rst.wr (regKey 4 0x12 5 0x2FC) 0x80000000, .agent 8, 5, 63, by decide +kernel⟩,
   ⟨rst.setEngine 0 { reinit := some 3 }, .agent 8, 0, 3, by decide +kernel⟩,
   ⟨(rst.wr (regKey 4 0x12 5 0x2FC) 0x80000000).setEngine 5 { reinit := some 63 }, 5, 63, 0, 0, by decide +kernel⟩,
   ⟨rst, .agent 8, 63, by decide +kernel⟩,
   ⟨{ rst with mem := { rst.mem with retiring := some 63 } }, 63, by decide +kernel⟩,
   ⟨rst.setEngine 5 { log := [⟨1, 0, 0, false, 0, 0, 0, 0, 0⟩] }, .agent 8, 5, ⟨1, 0, 0, false, 0, 0, 0, 0, 0⟩, [], by decide +kernel⟩,
   ⟨rst, .agent 8, 5, by decide +kernel⟩,
   ⟨region 2 5, .agent 8, 0, 0x80000000, by decide +kernel⟩,
   ⟨region 2 5, .agent 8, 0, 0, by decide +kernel⟩,
   ⟨rst, .agent 8, 253, 0, by decide +kernel⟩,
   ⟨ddr, .agent 8, 0, 0x80000002, by decide +kernel⟩⟩

theorem test_wit_LanesFollowTheirTable :
    (∃ (s : Machine.State) (r : Requester) (die : Fin 4) (l : Fin 16) (w : BitVec 32), s.admits r (Reg.XCVR_LCTL ↑die ↑l) true = true ∧
      s.owned ↑die ↑l = false ∧
      s.laneEn ↑die ↑l = false ∧
      w.toNat < 2 ^ 24 ∧
      wbit w 0 = true ∧
      s.laneOk (↑die) (↑l) w = true ∧
      wfld w 12 2 ≠ 3 ∧
      wfld w 15 3 < 5 ∧
      wfld w 18 3 < 6 ∧
      wfld w 21 3 < 6) ∧
    (∃ (s : Machine.State) (r : Requester) (die : Fin 4) (l : Fin 16) (w : BitVec 32), s.admits r (Reg.XCVR_LCTL ↑die ↑l) true = true ∧
      s.owned ↑die ↑l = false ∧
      s.laneEn ↑die ↑l = false ∧
      w.toNat < 2 ^ 24 ∧
      wbit w 0 = true ∧
      s.laneOk (↑die) (↑l) w = false) ∧
    (∃ (s : Machine.State) (die : Fin 4) (l : Fin 16), (s.lane ↑die ↑l).state = LaneState.cal) ∧
    (∃ (s : Machine.State) (die : Fin 4) (l : Fin 16), (s.lane ↑die ↑l).state = LaneState.acq) ∧
    (∃ (s : Machine.State) (die : Fin 4) (l : Fin 16), (s.lane ↑die ↑l).state = LaneState.adapt) ∧
    (∃ (s : Machine.State) (die : Fin 4) (l : Fin 16), (s.lane ↑die ↑l).state = LaneState.ready ∧
      s.fld (Reg.XCVR_LCTL ↑die ↑l) 5 2 = 1 ∧
      (s.lane ↑die ↑l).blk = false) ∧
    (∃ (s : Machine.State) (die : Fin 4) (l : Fin 16), (s.lane ↑die ↑l).state = LaneState.ready ∧
      s.fld (Reg.XCVR_LCTL ↑die ↑l) 5 2 = 1 ∧
      (s.lane ↑die ↑l).blk = true) ∧
    (∃ (s : Machine.State) (die : Fin 4) (l : Fin 16), (s.lane ↑die ↑l).state ≠ LaneState.acq) ∧
    (∃ (s : Machine.State) (die : Fin 4) (l : Fin 16), (s.lane ↑die ↑l).state ≠ LaneState.adapt) ∧
    (∃ (s : Machine.State) (die : Fin 4) (q : Fin 4) (b : Bool), s.bit (pllKey (↑die) (↑q) b) 31 = true ∧
      rateListed (s.fld (pllKey (↑die) (↑q) b) 0 27) (s.bit (pllKey (↑die) (↑q) b) 27) (b && s.bit (pllKey (↑die) (↑q) b) 28) = true ∧
      s.quadRuns ↑die ↑q = true ∧
      (s.bit (pllKey (↑die) (↑q) b) 28 = true ∨ s.refOk (7 + 4 * ↑die + ↑q) = true)) :=
  ⟨⟨rst, .agent 8, 3, 15, 1, by decide +kernel⟩,
   ⟨rst, .agent 8, 3, 15, 0x41, by decide +kernel⟩,
   ⟨up.setLane 3 15 { state := .cal }, 3, 15, by decide +kernel⟩,
   ⟨up.setLane 3 15 { state := .acq }, 3, 15, by decide +kernel⟩,
   ⟨up.setLane 3 15 { state := .adapt }, 3, 15, by decide +kernel⟩,
   ⟨(up.setLane 3 15 { state := .ready }).setFld (Reg.XCVR_LCTL 3 15) 5 2 1, 3, 15, by decide +kernel⟩,
   ⟨(up.setLane 3 15 { state := .ready, blk := true }).setFld (Reg.XCVR_LCTL 3 15) 5 2 1, 3, 15, by decide +kernel⟩,
   ⟨rst, 3, 15, by decide +kernel⟩,
   ⟨rst, 3, 15, by decide +kernel⟩,
   ⟨rst.wr (pllKey 3 3 true) (0x90000000 + 1250000), 3, 3, true, by decide +kernel⟩⟩

theorem test_wit_LaneCommandsAct :
    (∃ (s : Machine.State) (r : Requester) (die : Fin 4) (l : Fin 16), s.admits r (Reg.XCVR_LCMD ↑die ↑l) true = true ∧
      s.owned ↑die ↑l = false ∧
      (s.lane ↑die ↑l).state ≠ LaneState.off) ∧
    (∃ (s : Machine.State) (r : Requester) (die : Fin 4) (l : Fin 16), s.admits r (Reg.XCVR_LCMD ↑die ↑l) true = true ∧
      s.owned ↑die ↑l = false ∧
      wfld (s.rd (Reg.XCVR_LCTL ↑die ↑l)) 5 2 = 0 ∧
      (s.lane ↑die ↑l).state = LaneState.ready) ∧
    (∃ (s : Machine.State) (r : Requester) (die : Fin 4) (l : Fin 16), s.admits r (Reg.XCVR_LCMD ↑die ↑l) true = true ∧
      s.owned ↑die ↑l = false ∧
      (wfld (s.rd (Reg.XCVR_LCTL ↑die ↑l)) 5 2 ≠ 0 ∨ (s.lane ↑die ↑l).state ≠ LaneState.ready)) ∧
    (∃ (s : Machine.State) (r : Requester) (die : Fin 4) (l : Fin 16), s.admits r (Reg.XCVR_LCMD ↑die ↑l) true = true ∧
      s.owned ↑die ↑l = true) ∧
    (∃ (s : Machine.State) (r : Requester) (die : Fin 4) (l : Fin 16) (path : Fin 8), s.admits r (Reg.XCVR_LCTL ↑die ↑l) true = true ∧
      s.owned ↑die ↑l = false ∧
      wbit (s.rd (Reg.XCVR_LCTL ↑die ↑l)) 0 = true ∧
      (s.lane ↑die ↑l).state = LaneState.ready ∧
      loopback (s.rd (Reg.XCVR_LCTL ↑die ↑l)) ≠ ↑(if 5 ≤ ↑path then 0 else path)) ∧
    (∃ (s : Machine.State) (r : Requester) (die : Fin 4) (l : Fin 16) (w : BitVec 32), s.admits r (Reg.XCVR_TXEQ ↑die ↑l) true = true ∧
      wfld w 0 4 + wfld w 4 6 + wfld w 10 5 + wfld w 15 4 ≤ 63) ∧
    (∃ (s : Machine.State) (r : Requester) (die : Fin 4) (l : Fin 16) (w : BitVec 32), s.admits r (Reg.XCVR_TXEQ ↑die ↑l) true = true ∧
      63 < wfld w 0 4 + wfld w 4 6 + wfld w 10 5 + wfld w 15 4) ∧
    (∃ (s : Machine.State) (r : Requester) (die : Fin 4) (l : Fin 16), s.admits r (Reg.XCVR_ESCAN ↑die ↑l) true = true ∧
      s.owned ↑die ↑l = false ∧
      (s.lane ↑die ↑l).state = LaneState.ready) ∧
    (∃ (s : Machine.State) (r : Requester) (die : Fin 4) (l : Fin 16), s.admits r (Reg.XCVR_ESCAN ↑die ↑l) true = true ∧
      s.owned ↑die ↑l = false ∧
      (s.lane ↑die ↑l).state ≠ LaneState.ready) ∧
    (∃ (s : Machine.State) (die : Fin 4) (l : Fin 16), (s.lane ↑die ↑l).scan = true) :=
  ⟨⟨up.setLane 3 15 { state := .fault }, .agent 8, 3, 15, by decide +kernel⟩,
   ⟨up.setLane 3 15 { state := .ready }, .agent 8, 3, 15, by decide +kernel⟩,
   ⟨rst, .agent 8, 3, 15, by decide +kernel⟩,
   ⟨rst.wr (Reg.PL_PCTL 3) 127, .agent 8, 3, 15, by decide +kernel⟩,
   ⟨(up.setLane 3 15 { state := .ready }).wr (Reg.XCVR_LCTL 3 15) 0x8001, .agent 8, 3, 15, 7, by decide +kernel⟩,
   ⟨rst, .agent 8, 3, 15, 0x3F0, by decide +kernel⟩,
   ⟨rst, .agent 8, 3, 15, 0x3F1, by decide +kernel⟩,
   ⟨up.setLane 3 15 { state := .ready }, .agent 8, 3, 15, by decide +kernel⟩,
   ⟨rst, .agent 8, 3, 15, by decide +kernel⟩,
   ⟨up.setLane 3 15 { scan := true }, 3, 15, by decide +kernel⟩⟩

theorem test_wit_PhaseLinkPortsAct :
    (∃ (s : Machine.State) (r : Requester) (p : Fin 4) (w : BitVec 32), s.admits r (Reg.PL_PCTL ↑p) true = true ∧
      s.portEn ↑p = false ∧
      w.toNat < 2 ^ 16 ∧
      wbit w 0 = true ∧
      s.portOk (↑p) w = true) ∧
    (∃ (s : Machine.State) (r : Requester) (p : Fin 4) (w : BitVec 32), s.admits r (Reg.PL_PCTL ↑p) true = true ∧
      s.portEn ↑p = false ∧
      w.toNat < 2 ^ 16 ∧
      wbit w 0 = true ∧
      s.portOk (↑p) w = false) ∧
    (∃ (s : Machine.State) (r : Requester) (p : Fin 4) (w : BitVec 32), s.admits r (Reg.PL_PCTL ↑p) true = true ∧
      s.portEn ↑p = true ∧
      wfld w 1 15 = s.fld (Reg.PL_PCTL ↑p) 1 15) ∧
    (∃ (s : Machine.State) (r : Requester) (p : Fin 4) (w : BitVec 32), s.admits r (Reg.PL_PCTL ↑p) true = true ∧
      s.portEn ↑p = true ∧
      wfld w 1 15 ≠ s.fld (Reg.PL_PCTL ↑p) 1 15) ∧
    (∃ (s : Machine.State) (p : Fin 4), s.portEn ↑p = true ∧
      (s.port ↑p).state ≠ PortState.down ∧
      s.plRole = 2) ∧
    (∃ (s : Machine.State) (p : Fin 4) (k : Nat), s.portEn ↑p = true ∧
      (s.port ↑p).state ≠ PortState.down ∧
      s.plRole = 1 ∧
      BitVec.toNat (s.stamp k) % 320 = 0) ∧
    (∃ (s : Machine.State) (p : Fin 4), s.portEn ↑p = true ∧
      (s.port ↑p).state ≠ PortState.down ∧
      s.plRole ≠ 0 ∧
      s.isUpstream ↑p = false) ∧
    (∃ (s : Machine.State) (r : Requester) (p : Fin 4) (msg : BitVec 16), s.admits r (Reg.PL_EVTX ↑p) true = true ∧
      msg.toNat ≠ 65535 ∧
      (s.port ↑p).tx.length < 64) ∧
    (∃ (s : Machine.State) (r : Requester) (p : Fin 4) (msg : BitVec 16), s.admits r (Reg.PL_EVTX ↑p) true = true ∧
      msg.toNat ≠ 65535 ∧
      64 ≤ (s.port ↑p).tx.length) ∧
    (∃ (s : Machine.State) (r : Requester) (msg : Nat) (from_ : Nat) (dt : DWord) (rest : List (Nat × Nat × DWord)), r.code ≠ 16 ∧
      s.admits r Reg.PL_EVRX0 false = true ∧
      s.serial.rx = (msg, from_, dt) :: rest) ∧
    (∃ (s : Machine.State) (r : Requester), r.code ≠ 16 ∧
      s.admits r Reg.PL_EVRX0 false = true ∧
      s.serial.rx = []) ∧
    (∃ (s : Machine.State), s.plRole = 2 ∧
      (s.serial.align = AlignState.locking ∨ s.serial.align = AlignState.aligning ∨ s.serial.align = AlignState.aligned)) ∧
    (∃ (s : Machine.State), s.plRole = 2 ∧
      1024 ≤ s.serial.freq) ∧
    (∃ (s : Machine.State), s.serial.freq < 1024) :=
  ⟨⟨rst, .agent 8, 3, 1, by decide +kernel⟩,
   ⟨rst, .agent 8, 3, 0x89, by decide +kernel⟩,
   ⟨(rst.wr (Reg.PL_PCTL 3) 1), .agent 8, 3, 1, by decide +kernel⟩,
   ⟨(rst.wr (Reg.PL_PCTL 3) 1), .agent 8, 3, 3, by decide +kernel⟩,
   ⟨((rst.wr (Reg.PL_PCTL 3) 1).setPort 3 { state := .up }).setFld Reg.PL_GCTL 0 2 2, 3, by decide +kernel⟩,
   ⟨{ (((rst.wr (Reg.PL_PCTL 3) 1).setPort 3 { state := .up }).setFld Reg.PL_GCTL 0 2 1) with spine := { rst.spine with dt := 319 } }, 3, 1, by decide +kernel⟩,
   ⟨((rst.wr (Reg.PL_PCTL 3) 1).setPort 3 { state := .up }).setFld Reg.PL_GCTL 0 2 1, 3, by decide +kernel⟩,
   ⟨rst, .agent 8, 3, 0xFFFE, by decide +kernel⟩,
   ⟨rst.setPort 3 { tx := List.replicate 64 0 }, .agent 8, 3, 0, by decide +kernel⟩,
   ⟨{ rst with serial := { rst.serial with rx := [(5, 3, 7)] } }, .agent 8, 5, 3, 7, [], by decide +kernel⟩,
   ⟨rst, .agent 8, by decide +kernel⟩,
   ⟨({ rst with serial := { rst.serial with align := .locking } }).setFld Reg.PL_GCTL 0 2 2, by decide +kernel⟩,
   ⟨({ rst with serial := { rst.serial with freq := 1024 } }).setFld Reg.PL_GCTL 0 2 2, by decide +kernel⟩,
   ⟨rst, by decide +kernel⟩⟩

theorem test_wit_ClockHoldBeginsAndEnds :
    (∃ (s : Machine.State), s.clk.por = true ∧
      s.clk.amp = false) ∧
    (∃ (s : Machine.State), s.clk.por = false ∧
      s.clk.hold = false ∧
      s.spine.pllLock = false ∧
      s.refOk s.spineRef = true) ∧
    (∃ (s : Machine.State) (n : Fin 23), s.refSelected ↑n = true ∧
      s.clk.por = false ∧
      s.refOk ↑n = true) ∧
    (∃ (s : Machine.State) (n : Fin 23), s.refSelected ↑n = false ∧
      s.clk.por = false ∧
      s.refOk ↑n = true) ∧
    (∃ (s : Machine.State) (n : Fin 23), s.clk.hold = true ∧
      s.clk.lost = [↑n] ∧
      s.clk.devReq = none ∧
      s.userMode = true ∧
      s.clk.xtalLost = false) ∧
    (∃ (s : Machine.State) (n : Fin 23), s.clk.hold = true ∧
      s.clk.lost = [↑n] ∧
      s.clk.devReq = none ∧
      s.userMode = true ∧
      s.clk.xtalLost = true ∧
      s.clk.spineLost = true ∧
      s.clk.por = false ∧
      s.power.trip = false) ∧
    (∃ (s : Machine.State), s.clk.hold = true ∧
      s.clk.lost = [] ∧
      s.clk.relocked = false ∧
      s.clk.relPend = false ∧
      s.clk.resume = false ∧
      s.clk.dieReq = []) ∧
    (∃ (s : Machine.State) (r : Requester), s.admits r Reg.CLK_CMD true = true ∧
      s.clk.hold = false) ∧
    (∃ (s : Machine.State) (r : Requester), s.admits r Reg.CLK_CMD true = true ∧
      s.clk.hold = true ∧
      s.clk.relocked = false) ∧
    (∃ (s : Machine.State) (r : Requester), s.admits r Reg.CLK_CMD true = true ∧
      s.clk.hold = true ∧
      s.clk.relocked = true ∧
      s.clk.dieReq = []) ∧
    (∃ (s : Machine.State), s.clk.hold = true ∧
      s.clk.relocked = true ∧
      s.clk.dieReq = [] ∧
      s.power.deepSleep = false) ∧
    (∃ (s : Machine.State), s.power.deepSleep = true ∧
      s.clk.hold = false) ∧
    (∃ (s : Machine.State) (die : Fin 4) (k : Fin 8), s.bit (Reg.CLK_FPLL ↑die ↑k) 0 = true ∧
      (s.fpllRanges (↑die) (s.rd (Reg.CLK_FPLL ↑die ↑k))).fst = true ∧
      s.fpllRefOk ↑die ↑k = true) ∧
    (∃ (s : Machine.State) (die : Fin 4) (k : Fin 8), s.fpllRefOk ↑die ↑k = false) ∧
    (∃ (s : Machine.State) (die : Fin 4) (k : Fin 8), s.bit (Reg.CLK_FPLL_STAT ↑die ↑k) 0 = true) :=
  ⟨⟨rst, by decide +kernel⟩,
   ⟨up.setBit Reg.CLK_REFOK 1 true, by decide +kernel⟩,
   ⟨up.setBit Reg.CLK_REFOK 1 true, 1, by decide +kernel⟩,
   ⟨up.setBit Reg.CLK_REFOK 22 true, 22, by decide +kernel⟩,
   ⟨{ up with clk := { up.clk with hold := true, lost := [22] } }, 22, by decide +kernel⟩,
   ⟨{ up with clk := { up.clk with hold := true, lost := [22], xtalLost := true, spineLost := true } }, 22, by decide +kernel⟩,
   ⟨{ up with clk := { up.clk with hold := true } }, by decide +kernel⟩,
   ⟨rst, .agent 8, by decide +kernel⟩,
   ⟨({ up with clk := { up.clk with hold := true } } : State).setBit Reg.CLK_STAT 16 true, .agent 8, by decide +kernel⟩,
   ⟨({ up with clk := { up.clk with hold := true, relocked := true } } : State).setBit Reg.CLK_STAT 16 true, .agent 8, by decide +kernel⟩,
   ⟨{ up with clk := { up.clk with hold := true, relocked := true } }, by decide +kernel⟩,
   ⟨{ up with power := { up.power with deepSleep := true } }, by decide +kernel⟩,
   ⟨(rst.setBit (Reg.CLK_FPLL 3 7) 0 true).setBit Reg.CLK_REFOK 1 true, 3, 7, by decide +kernel⟩,
   ⟨rst.setBit Reg.CLK_REFOK 1 false, 3, 7, by decide +kernel⟩,
   ⟨rst.setBit (Reg.CLK_FPLL_STAT 3 7) 0 true, 3, 7, by decide +kernel⟩⟩

theorem test_wit_ResetsClearTheirScope :
    (∃ (s : Machine.State), s.clk.por = true ∧
      s.clk.amp = true) ∧
    (∃ (s : Machine.State), s.clk.por = false ∧
      s.resetReady = true) ∧
    (∃ (s : Machine.State), s.clk.por = false ∧
      s.resetReady = false) ∧
    (∃ (s : Machine.State), s.clk.hold = false ∧
      s.boot.stream = false) ∧
    (∃ (s : Machine.State) (r : Requester) (die : Fin 4) (mask : BitVec 16), s.admits r (Reg.DIE_RRST ↑die) true = true ∧
      s.bit (Reg.DIE_RRST ↑die) 31 = false ∧
      (∀ (rg : Nat), rg < 16 → mask.getLsbD rg = true → s.reconfiguring (↑die) rg = false)) ∧
    (∃ (s : Machine.State) (r : Requester) (die : Fin 4), s.admits r (Reg.DIE_RRST ↑die) true = true ∧
      s.bit (Reg.DIE_RRST ↑die) 31 = true) ∧
    (∃ (s : Machine.State) (r : Requester) (die : Fin 6) (unit : Fin 32) (inst : Fin 4096), s.admits r (Reg.DIE_URST ↑die) true = true ∧
      unit = 5 ∧
      ↑die < 4 ∧
      ↑inst < 240) ∧
    (∃ (s : Machine.State) (r : Requester) (die : Fin 6) (unit : Fin 32) (inst : Fin 4096), s.admits r (Reg.DIE_URST ↑die) true = true ∧
      unit = 13 ∧
      ↑die < 4 ∧
      ↑inst < 16) ∧
    (∃ (s : Machine.State) (r : Requester) (die : Fin 6) (unit : Fin 32) (inst : Fin 4096), s.admits r (Reg.DIE_URST ↑die) true = true ∧
      unit = 25 ∧
      die = 5 ∧
      ↑inst < 6) ∧
    (∃ (s : Machine.State) (r : Requester) (die : Fin 6) (unit : Fin 32), s.admits r (Reg.DIE_URST ↑die) true = true ∧
      ¬↑unit ∈ [5, 8, 13, 15, 23, 25]) ∧
    (∃ (s : Machine.State) (r : Requester) (mask : BitVec 4), s.admits r Reg.DIE_REL true = true ∧
      (∀ (d : Nat), d < 4 → mask.getLsbD d = true → s.dieState d = 3)) ∧
    (∃ (s : Machine.State) (r : Requester) (mask : BitVec 4), s.admits r Reg.DIE_REL true = true ∧
      (∃ d, d < 4 ∧ mask.getLsbD d = true ∧ s.dieState d ≠ 3)) ∧
    (∃ (s : Machine.State) (die : Fin 4) (bank : Fin 10), s.pins.vok.get (↑die * 10 + ↑bank) false = false) :=
  ⟨⟨{ rst with clk := { rst.clk with amp := true } }, by decide +kernel⟩,
   ⟨up, by decide +kernel⟩,
   ⟨{ up with clk := { up.clk with hold := true, lost := [0] } }, by decide +kernel⟩,
   ⟨rst, by decide +kernel⟩,
   ⟨rst, .agent 8, 3, 0xFFFF, by decide +kernel⟩,
   ⟨rst.setBit (Reg.DIE_RRST 3) 31 true, .agent 8, 3, by decide +kernel⟩,
   ⟨rst, .agent 8, 3, 5, 239, by decide +kernel⟩,
   ⟨rst, .agent 8, 3, 13, 15, by decide +kernel⟩,
   ⟨rst, .agent 8, 5, 25, 5, by decide +kernel⟩,
   ⟨rst, .agent 8, 3, 4, by decide +kernel⟩,
   ⟨rst.setDie 3 3, .agent 8, 8, by decide +kernel⟩,
   ⟨rst, .agent 8, 8, by decide +kernel⟩,
   ⟨rst, 3, 9, by decide +kernel⟩⟩

theorem test_wit_StartUpLoadsAnImage :
    (∃ (s : Machine.State), s.clk.por = false ∧
      s.bootState < 2 ∧
      s.bit Reg.CFG_NEXT 4 = true) ∧
    (∃ (s : Machine.State) (c0 : Option Directory) (c1 : Option Directory) (d : Directory), s.clk.por = false ∧
      s.bootState < 2 ∧
      s.bit Reg.CFG_NEXT 4 = false ∧
      s.bit Reg.CFG_NEXT 2 = false ∧
      chosenCopy c0 c1 = some d ∧
      slotTrials d ≠ []) ∧
    (∃ (s : Machine.State) (c0 : Option Directory) (c1 : Option Directory), s.clk.por = false ∧
      s.bootState < 2 ∧
      s.bit Reg.CFG_NEXT 4 = false ∧
      chosenCopy c0 c1 = none) ∧
    (∃ (s : Machine.State) (h : Header) (n : Nat) (rest : List Nat), s.bootState = 2 ∧
      s.boot.jtag = false ∧
      s.boot.left = n :: rest ∧
      s.bit Reg.CFG_NEXT 2 = false ∧
      (((s.setBoot fun b => ({ b with left := rest } : Boot)).setFld Reg.CFG_STAT 4 2 n).setFld Reg.CFG_STAT 8 3 (min (((s.setBoot fun b => ({ b with left := rest } : Boot)).setFld Reg.CFG_STAT 4 2 n).fld Reg.CFG_STAT 8 3 + 1) 5)).headerFault h ((Option.map (fun x => x.size) s.boot.slots[n]?).getD 0) = none) ∧
    (∃ (s : Machine.State) (h : Header) (n : Nat) (rest : List Nat) (code : Nat) (sub : Nat), s.bootState = 2 ∧
      s.boot.jtag = false ∧
      s.boot.left = n :: rest ∧
      s.bit Reg.CFG_NEXT 2 = false ∧
      (((s.setBoot fun b => ({ b with left := rest } : Boot)).setFld Reg.CFG_STAT 4 2 n).setFld Reg.CFG_STAT 8 3 (min (((s.setBoot fun b => ({ b with left := rest } : Boot)).setFld Reg.CFG_STAT 4 2 n).fld Reg.CFG_STAT 8 3 + 1) 5)).headerFault h ((Option.map (fun x => x.size) s.boot.slots[n]?).getD 0) = some (code, sub) ∧
      code < 16) ∧
    (∃ (s : Machine.State) (h : Header) (g : SegIn) (e : SegEntry), s.bootState = 3 ∧
      s.boot.header = some h ∧
      (s.boot.stream = true ∨ h.dieReq = 0) ∧
      h.table[s.boot.seg]? = some e ∧
      (segPhase e = 0 ∨ s.boot.memOk = true) ∧
      g.erased = false ∧
      g.sync = true ∧
      g.form = true ∧
      s.segmentFits e = true ∧
      (e.target = 2 ∨ e.target = 3) ∧
      g.bytes.length = e.raw ∧
      (s.boot.seg + 1 = h.table.length → g.tail0 = true) ∧
      g.tag = true) ∧
    (∃ (s : Machine.State) (h : Header) (g : SegIn) (e : SegEntry), s.bootState = 3 ∧
      s.boot.header = some h ∧
      (s.boot.stream = true ∨ h.dieReq = 0) ∧
      h.table[s.boot.seg]? = some e ∧
      (segPhase e = 0 ∨ s.boot.memOk = true) ∧
      g.erased = false ∧
      g.sync = true ∧
      g.form = true ∧
      s.segmentFits e = true ∧
      (e.target = 2 ∨ e.target = 3) ∧
      g.bytes.length = e.raw ∧
      (s.boot.seg + 1 = h.table.length → g.tail0 = true) ∧
      g.tag = false) ∧
    (∃ (s : Machine.State) (h : Header) (g : SegIn) (e : SegEntry), s.bootState = 3 ∧
      s.boot.header = some h ∧
      (s.boot.stream = true ∨ h.dieReq = 0) ∧
      h.table[s.boot.seg]? = some e ∧
      (segPhase e = 0 ∨ s.boot.memOk = true) ∧
      (g.erased = true ∨ g.sync = false)) ∧
    (∃ (s : Machine.State) (h : Header), s.bootState = 3 ∧
      s.boot.header = some h ∧
      s.boot.seg < h.table.length) ∧
    (∃ (s : Machine.State) (h : Header) (fits : List Bool), s.bootState = 3 ∧
      s.boot.header = some h ∧
      s.boot.seg = h.table.length ∧
      s.boot.memOk = true ∧
      (∀ (e : Nat), e < 6 → s.dataArea e ≠ 0 → 4 ≤ e ∨ (s.chan e).state ≠ ChState.failed → s.boot.trees.get e false = true) ∧
      (∀ (p : Nat), p < 2 → s.dataArea (4 + p) ≠ 0 → fits.getD p true = true)) ∧
    (∃ (s : Machine.State) (h : Header) (fits : List Bool), s.bootState = 3 ∧
      s.boot.header = some h ∧
      s.boot.seg = h.table.length ∧
      s.boot.memOk = true ∧
      (∀ (e : Nat), e < 6 → s.dataArea e ≠ 0 → 4 ≤ e ∨ (s.chan e).state ≠ ChState.failed → s.boot.trees.get e false = true) ∧
      (∃ p, p < 2 ∧ s.dataArea (4 + p) ≠ 0 ∧ fits.getD p true = false)) ∧
    (∃ (s : Machine.State), (s.session.ir ≠ 17 ∨ s.hasScope 4 = false)) ∧
    (∃ (s : Machine.State), s.session.ir = 17 ∧
      s.hasScope 4 = true ∧
      (s.sec.lc = 3 ∨ s.sec.lc = 5)) ∧
    (∃ (s : Machine.State) (h : Header), s.session.ir = 17 ∧
      s.hasScope 4 = true ∧
      s.sec.lc ≠ 3 ∧
      s.sec.lc ≠ 5 ∧
      s.bootState = 7 ∧
      s.dieState 5 ≠ 1 ∧
      ((((s.setBoot fun b => ({ b with jtag := true } : Boot)).setBootState 2).setBit Reg.CFG_STAT 6 true).setFld Reg.CFG_STAT 8 3 (min ((((s.setBoot fun b => ({ b with jtag := true } : Boot)).setBootState 2).setBit Reg.CFG_STAT 6 true).fld Reg.CFG_STAT 8 3 + 1) 5)).headerFault h (2 ^ 32) = none) ∧
    (∃ (s : Machine.State) (r : Requester), s.admits r Reg.CFG_NVMCMD true = true ∧
      s.bit Reg.CFG_NVMCMD 31 = false) ∧
    (∃ (s : Machine.State) (r : Requester), s.admits r Reg.CFG_NVMCMD true = true ∧
      s.bit Reg.CFG_NVMCMD 31 = true) ∧
    (∃ (s : Machine.State), s.bit Reg.CFG_NVMCMD 31 = true ∧
      s.bit Reg.CFG_NVMCMD 14 = false) ∧
    (∃ (s : Machine.State), s.bootState ≠ 5) ∧
    (∃ (s : Machine.State), s.bootState = 5) :=
  ⟨⟨up.setBit Reg.CFG_NEXT 4 true, by decide +kernel⟩,
   ⟨up, some ⟨0, [⟨0x20000, 4096, 0, true⟩]⟩, none, ⟨0, [⟨0x20000, 4096, 0, true⟩]⟩, by decide +kernel⟩,
   ⟨up, none, none, by decide +kernel⟩,
   ⟨(up.setBootState 2).setBoot (fun b => { b with left := [0], slots := [⟨0x20000, 4096, 0, true⟩] }), { hd with table := [⟨57, 1, 0, 4, 0, false, true, 0⟩] }, 0, [], by decide +kernel⟩,
   ⟨(up.setBootState 2).setBoot (fun b => { b with left := [0], slots := [⟨0x20000, 4096, 0, true⟩] }), { hd with magic := 0xFFFFFFFF }, 0, [], 9, 0, by decide +kernel⟩,
   ⟨loading, hd, segIn true false, ⟨57, 1, 2, 0, 0, false, true, 0⟩, by decide +kernel⟩,
   ⟨loading, hd, segIn false false, ⟨57, 1, 2, 0, 0, false, true, 0⟩, by decide +kernel⟩,
   ⟨loading, hd, segIn true true, ⟨57, 1, 2, 0, 0, false, true, 0⟩, by decide +kernel⟩,
   ⟨loading, hd, by decide +kernel⟩,
   ⟨((loading.setFld (Reg.MPE_DSIZE 4) 0 16 1).setBoot (fun b => { b with seg := 1, trees := [(4, true)] })), hd, [true], by decide +kernel⟩,
   ⟨((loading.setFld (Reg.MPE_DSIZE 4) 0 16 1).setBoot (fun b => { b with seg := 1, trees := [(4, true)] })), hd, [false], by decide +kernel⟩,
   ⟨up, by decide +kernel⟩,
   ⟨({ dbg with session := { dbg.session with ir := 17 }, sec := { dbg.sec with lc := 3 } } : State), by decide +kernel⟩,
   ⟨({ dbg with session := { dbg.session with ir := 17 }, sec := { dbg.sec with lc := 0 } } : State).setBootState 7, { hd with table := [⟨57, 1, 0, 4, 0, false, true, 0⟩] }, by decide +kernel⟩,
   ⟨up, .agent 8, by decide +kernel⟩,
   ⟨up.setBit Reg.CFG_NVMCMD 31 true, .agent 8, by decide +kernel⟩,
   ⟨up.setBit Reg.CFG_NVMCMD 31 true, by decide +kernel⟩,
   ⟨rst, by decide +kernel⟩,
   ⟨rst.setBootState 5, by decide +kernel⟩⟩

theorem test_wit_RegionsChangeLive :
    (∃ (s : Machine.State) (r : Requester) (die : Fin 4) (rg : Fin 16), s.admits r (Reg.CFGF_CMD ↑die) true = true ∧
      ((s.region ↑die ↑rg).state = RegionState.loading ∨ (s.region ↑die ↑rg).state = RegionState.selftest)) ∧
    (∃ (s : Machine.State) (r : Requester) (die : Fin 4) (rg : Fin 16) (up : Bool), s.admits r (Reg.CFGF_CMD ↑die) true = true ∧
      (¬((s.region ↑die ↑rg).state = RegionState.loading ∨ (s.region ↑die ↑rg).state = RegionState.selftest)) ∧
      (up = true ∨ s.entryFits (s.fld (Reg.CFGF_ENTRY ↑die) 0 8) (↑die) (↑rg) false = true)) ∧
    (∃ (s : Machine.State) (r : Requester) (die : Fin 4) (rg : Fin 16), s.admits r (Reg.CFGF_CMD ↑die) true = true ∧
      ((s.region ↑die ↑rg).state = RegionState.loaded ∨ (s.region ↑die ↑rg).state = RegionState.offline) ∧
      (s.region ↑die ↑rg).timed = false) ∧
    (∃ (s : Machine.State) (r : Requester) (die : Fin 4) (rg : Fin 16), s.admits r (Reg.CFGF_CMD ↑die) true = true ∧
      ((s.region ↑die ↑rg).state = RegionState.loaded ∨ (s.region ↑die ↑rg).state = RegionState.offline) ∧
      (s.region ↑die ↑rg).timed = true) ∧
    (∃ (s : Machine.State) (r : Requester) (die : Fin 4) (rg : Fin 16) (c : Bool × Option DWord), s.admits r (Reg.CFGF_CMD ↑die) true = true ∧
      ((s.region ↑die ↑rg).state = RegionState.loaded ∨ (s.region ↑die ↑rg).state = RegionState.offline) ∧
      (s.region ↑die ↑rg).cmd = some c ∧
      c.snd ≠ none ∧
      (s.region ↑die ↑rg).kept = none) ∧
    (∃ (s : Machine.State) (r : Requester) (die : Fin 4) (rg : Fin 16), s.admits r (Reg.CFGF_CMD ↑die) true = true ∧
      (s.region ↑die ↑rg).state ≠ RegionState.loaded ∧
      (s.region ↑die ↑rg).state ≠ RegionState.offline) ∧
    (∃ (s : Machine.State) (r : Requester) (die : Fin 4) (rg : Fin 16), s.admits r (Reg.CFGF_CMD ↑die) true = true ∧
      ((s.region ↑die ↑rg).state = RegionState.active ∨ (s.region ↑die ↑rg).state = RegionState.loaded) ∧
      (s.region ↑die ↑rg).timed = false) ∧
    (∃ (s : Machine.State) (r : Requester) (die : Fin 4) (rg : Fin 16), s.admits r (Reg.CFGF_CMD ↑die) true = true ∧
      (s.region ↑die ↑rg).state = RegionState.offline ∧
      s.entryFits (s.fld (Reg.CFGF_ENTRY ↑die) 0 8) (↑die) (↑rg) true = true) ∧
    (∃ (s : Machine.State) (die : Fin 4) (rg : Fin 16) (at_ : Option (BitVec 64)), (∀ (dt : BitVec 64), at_ = some dt → dt ≤ s.nextEnd) ∧
      (s.region ↑die ↑rg).cmd = some (true, at_) ∧
      (s.region ↑die ↑rg).state = RegionState.loaded) ∧
    (∃ (s : Machine.State) (die : Fin 4) (rg : Fin 16) (at_ : Option (BitVec 64)), (∀ (dt : BitVec 64), at_ = some dt → dt ≤ s.nextEnd) ∧
      (s.region ↑die ↑rg).cmd = some (false, at_) ∧
      (s.region ↑die ↑rg).state = RegionState.active) ∧
    (∃ (s : Machine.State) (die : Fin 4) (rg : Fin 16) (e : LoadEnd) (rest : List PortJob), s.portJobs ↑die = PortJob.load ↑rg :: rest ∧
      (s.region ↑die ↑rg).state = RegionState.loading ∧
      (s.region ↑die ↑rg).load = none ∧
      (segBytes e.segs + 4095) / 4096 ≤ s.power.jobs.get (8 + ↑die) 0 ∧
      s.dieLost ↑die = false ∧
      e.code = 0 ∧
      (e.cls = regionClass ↑rg ∧ (e.reloc = true ∨ e.home = 16 * ↑die + ↑rg)) ∧
      e.crc = e.want) ∧
    (∃ (s : Machine.State) (die : Fin 4) (rg : Fin 16) (e : LoadEnd) (rest : List PortJob), s.portJobs ↑die = PortJob.load ↑rg :: rest ∧
      (s.region ↑die ↑rg).state = RegionState.loading ∧
      (s.region ↑die ↑rg).load = none ∧
      (segBytes e.segs + 4095) / 4096 ≤ s.power.jobs.get (8 + ↑die) 0 ∧
      s.dieLost ↑die = false ∧
      (e.code = 0 ∨ e.code = 4) ∧
      (¬(e.cls = regionClass ↑rg ∧ (e.reloc = true ∨ e.home = 16 * ↑die + ↑rg)))) ∧
    (∃ (s : Machine.State) (die : Fin 4) (rg : Fin 16) (e : LoadEnd) (rest : List PortJob), s.portJobs ↑die = PortJob.load ↑rg :: rest ∧
      (s.region ↑die ↑rg).state = RegionState.loading ∧
      (s.region ↑die ↑rg).load = none ∧
      (segBytes e.segs + 4095) / 4096 ≤ s.power.jobs.get (8 + ↑die) 0 ∧
      s.dieLost ↑die = false ∧
      (e.code = 0 ∨ e.code = 4) ∧
      (e.cls = regionClass ↑rg ∧ (e.reloc = true ∨ e.home = 16 * ↑die + ↑rg)) ∧
      e.crc ≠ e.want) ∧
    (∃ (s : Machine.State) (die : Fin 4) (rg : Fin 16) (us : Nat), (s.region ↑die ↑rg).state = RegionState.selftest ∧
      (s.region ↑die ↑rg).runs = true ∧
      us ≤ s.power.jobs.get (40 + ↑die) 0) ∧
    (∃ (s : Machine.State) (r : Requester) (die : Fin 4) (p : Fin 512), s.admits r (Reg.CFGF_FTEST ↑die) true = true ∧
      ↑p < 272 ∧
      s.bit (Reg.CFGF_FTEST ↑die) 31 = false ∧
      (s.facet ↑die ↑p).state = FState.off ∧
      s.logOf ↑die ↑p = none) ∧
    (∃ (s : Machine.State) (r : Requester) (die : Fin 4) (p : Fin 512), s.admits r (Reg.CFGF_FTEST ↑die) true = true ∧
      (s.bit (Reg.CFGF_FTEST ↑die) 31 = true ∨ 272 ≤ ↑p ∨ (s.facet ↑die ↑p).state ≠ FState.off)) ∧
    (∃ (s : Machine.State) (die : Fin 4), s.bit (Reg.CFGF_FTEST ↑die) 31 = true ∧
      40 ≤ s.power.jobs.get (40 + ↑die) 0) :=
  ⟨⟨up.setRegion 3 15 { state := .loading }, .agent 8, 3, 15, by decide +kernel⟩,
   ⟨rst, .agent 8, 3, 15, true, by decide +kernel⟩,
   ⟨up.setRegion 3 15 { state := .loaded }, .agent 8, 3, 15, by decide +kernel⟩,
   ⟨up.setRegion 3 15 { state := .loaded, cmd := some (true, some 64) }, .agent 8, 3, 15, by decide +kernel⟩,
   ⟨up.setRegion 3 15 { state := .loaded, cmd := some (true, some 64) }, .agent 8, 3, 15, (true, some 64), by decide +kernel⟩,
   ⟨up, .agent 8, 3, 15, by decide +kernel⟩,
   ⟨up.setRegion 3 15 { state := .active }, .agent 8, 3, 15, by decide +kernel⟩,
   ⟨((up.setRegion 3 15 { state := .offline }).setLibEntry 0 { kind := 1, cls := 1, reloc := true, selftest := true }), .agent 8, 3, 15, by decide +kernel⟩,
   ⟨up.setRegion 3 15 { state := .loaded, cmd := some (true, some 64) }, 3, 15, some 64, ⟨fun dt h => by have e := Option.some.inj h; subst e; decide +kernel, by decide +kernel⟩⟩,
   ⟨up.setRegion 3 15 { state := .active, cmd := some (false, some 64) }, 3, 15, some 64, ⟨fun dt h => by have e := Option.some.inj h; subst e; decide +kernel, by decide +kernel⟩⟩,
   ⟨(up.setRegion 3 15 { state := .loading }).setPortJobs 3 [.load 15], 3, 15, ⟨0, 1, 63, false, 5, 5, 0, []⟩, [], by decide +kernel⟩,
   ⟨(up.setRegion 3 15 { state := .loading }).setPortJobs 3 [.load 15], 3, 15, ⟨4, 0, 63, true, 5, 5, 0, []⟩, [], by decide +kernel⟩,
   ⟨(up.setRegion 3 15 { state := .loading }).setPortJobs 3 [.load 15], 3, 15, ⟨4, 1, 0, true, 5, 6, 0, []⟩, [], by decide +kernel⟩,
   ⟨{ (up.setRegion 3 15 { state := .selftest, runs := true }) with power := { up.power with jobs := [(43, 7)] } }, 3, 15, 7, by decide +kernel⟩,
   ⟨rst, .agent 8, 3, 271, by decide +kernel⟩,
   ⟨rst, .agent 8, 3, 272, by decide +kernel⟩,
   ⟨{ (rst.setBit (Reg.CFGF_FTEST 3) 31 true) with power := { rst.power with jobs := [(43, 40)] } }, 3, by decide +kernel⟩⟩

theorem test_wit_ScrubbersRepairFrames :
    (∃ (s : Machine.State) (die : Fin 4) (n : Fin 2), (s.scrubber ↑die ↑n).lost = false ∧
      (s.scrubber ↑die ↑n).running = false ∧
      s.bit (Reg.SCR_CTL (↑die) (↑n + 1)) 0 = true ∧
      s.scrubBlocked ↑die = false) ∧
    (∃ (s : Machine.State) (die : Fin 4), s.scrubBlocked ↑die = true) ∧
    (∃ (s : Machine.State) (die : Fin 4) (n : Fin 2), (s.scrubber ↑die ↑n).lost = false ∧
      (s.scrubber ↑die ↑n).running = true ∧
      s.scrubBlocked ↑die = false ∧
      (s.scrubber ↑die ↑n).pos % 1024 ≠ 0 ∧
      (s.scrubber ↑die ↑n).pos + 1 < 131072 ∧
      (∀ (rg : Nat), rg < 16 → s.reconfiguring (↑die) rg = false) ∧
      ¬scrubFrame (↑n) (s.scrubber ↑die ↑n).pos ∈ (s.scrubber ↑die ↑n).list) ∧
    (∃ (s : Machine.State) (die : Fin 4) (n : Fin 2), (s.scrubber ↑die ↑n).lost = true) ∧
    (∃ (s : Machine.State) (die : Fin 4) (n : Fin 2) (a : BitVec 32) (b : BitVec 32) (c : BitVec 32) (d : BitVec 32), (s.scrubber ↑die ↑n).lost = false ∧
      (s.scrubber (↑die) (1 - ↑n)).lost = false ∧
      agreed [a, b, c, d] = none) ∧
    (∃ (s : Machine.State) (die : Fin 4) (n : Fin 2) (a : BitVec 32) (b : BitVec 32) (c : BitVec 32) (d : BitVec 32), (s.scrubber ↑die ↑n).lost = false ∧
      (s.scrubber (↑die) (1 - ↑n)).lost = false ∧
      a = b ∧
      b = c ∧
      c = d) ∧
    (∃ (s : Machine.State) (die : Fin 4) (n : Fin 2) (a : BitVec 32) (b : BitVec 32) (c : BitVec 32) (d : BitVec 32), (s.scrubber ↑die ↑n).lost = false ∧
      (s.scrubber (↑die) (1 - ↑n)).lost = false ∧
      a = b ∧
      b = c ∧
      c ≠ d) ∧
    (∃ (s : Machine.State) (r : Requester) (die : Fin 4) (n : Fin 2), s.admits r (Reg.SCR_CTL (↑die) (↑n + 1)) true = true) ∧
    (∃ (s : Machine.State) (die : Fin 4) (n : Fin 2) (item : Nat) (rest : List Nat) (rg : Nat), (s.scrubber ↑die ↑n).list = item :: rest ∧
      s.portJobs ↑die = [] ∧
      s.fld (Reg.CFGF_CTL ↑die) 0 2 = 1 ∧
      repairRegion item = some rg ∧
      s.reconfiguring (↑die) rg = false ∧
      s.libValid (↑die) rg = true) ∧
    (∃ (s : Machine.State) (die : Fin 4) (n : Fin 2) (item : Nat) (rest : List Nat) (rg : Nat), (s.scrubber ↑die ↑n).list = item :: rest ∧
      s.portJobs ↑die = [] ∧
      s.fld (Reg.CFGF_CTL ↑die) 0 2 = 2 ∧
      rg < 16 ∧
      repairRegion item = some rg ∧
      s.reconfiguring (↑die) rg = false ∧
      s.libValid (↑die) rg = true ∧
      (segBytes (s.libEntry (s.fld (libKey (↑die) rg) 0 8)).segs + 4095) / 4096 ≤ s.power.jobs.get (8 + ↑die) 0) ∧
    (∃ (s : Machine.State) (r : Requester), s.admits r Reg.CFGH_CDBANK true = true ∧
      s.live.trial = true ∧
      s.live.expired = false) ∧
    (∃ (s : Machine.State), s.live.trial = false) :=
  ⟨⟨rst.setBit (Reg.SCR_CTL 3 2) 0 true, 3, 1, by decide +kernel⟩,
   ⟨rst.setScrubber 3 1 { list := List.replicate 16 0 }, 3, by decide +kernel⟩,
   ⟨rst.setScrubber 3 1 { running := true, pos := 131070 }, 3, 1, by decide +kernel⟩,
   ⟨rst.setScrubber 3 1 { lost := true }, 3, 1, by decide +kernel⟩,
   ⟨rst, 3, 1, 1, 2, 3, 4, by decide +kernel⟩,
   ⟨rst, 3, 1, 5, 5, 5, 5, by decide +kernel⟩,
   ⟨rst, 3, 1, 5, 5, 5, 6, by decide +kernel⟩,
   ⟨rst, .agent 8, 3, 1, by decide +kernel⟩,
   ⟨((rst.setScrubber 3 1 { list := [2 ^ 20 + 15] }).setFld (Reg.CFGF_CTL 3) 0 2 1).setBit (libKey 3 15) 31 true, 3, 1, 2 ^ 20 + 15, [], 15, by decide +kernel⟩,
   ⟨((rst.setScrubber 3 1 { list := [2 ^ 20 + 15] }).setFld (Reg.CFGF_CTL 3) 0 2 2).setBit (libKey 3 15) 31 true, 3, 1, 2 ^ 20 + 15, [], 15, by decide +kernel⟩,
   ⟨{ up with live := { up.live with trial := true } }, .agent 8, by decide +kernel⟩,
   ⟨rst, by decide +kernel⟩⟩

theorem test_wit_BezelKeyServices :
    (∃ (s : Machine.State) (r : Requester) (chan : Fin 4), s.admits r (Reg.BZ_CMD ↑chan) true = true ∧
      s.bzBusy ↑chan = false ∧
      (s.bzOwner ↑chan = none ∨ s.bzOwner ↑chan = some r.code)) ∧
    (∃ (s : Machine.State) (r : Requester) (chan : Fin 4), s.admits r (Reg.BZ_CMD ↑chan) true = true ∧
      s.bzBusy ↑chan = true ∧
      (s.bzOwner ↑chan = none ∨ s.bzOwner ↑chan = some r.code)) ∧
    (∃ (c : BzCommand) (st : Nat), c.chan < 4 ∧
      st < 16) ∧
    (∃ (s : Machine.State), s.sec.cmds = []) ∧
    (∃ (s : Machine.State) (c : BzCommand) (rest : List BzCommand), s.sec.cmds = c :: rest ∧
      s.sec.ready = true ∧
      s.sec.wiping = false ∧
      c.chan < 2 ∧
      c.op ≠ 1) ∧
    (∃ (s : Machine.State) (c : BzCommand) (rest : List BzCommand), s.sec.cmds = c :: rest ∧
      s.sec.ready = true ∧
      s.sec.wiping = false ∧
      c.chan < 2 ∧
      c.op = 1 ∧
      BitVec.toNat (c.input.getD 0 0) = 0 ∧
      usageAllowed 0 (BitVec.toNat (c.input.getD 1 0)) = true ∧
      1 ≤ c.arg ∧
      c.arg < 32) ∧
    (∃ (s : Machine.State) (c : BzCommand) (rest : List BzCommand), s.sec.cmds = c :: rest ∧
      s.sec.ready = true ∧
      s.sec.wiping = false ∧
      c.chan < 2 ∧
      c.op = 1 ∧
      BitVec.toNat (c.input.getD 0 0) = 0 ∧
      usageAllowed 0 (BitVec.toNat (c.input.getD 1 0)) = true ∧
      (c.arg = 0 ∨ 32 ≤ c.arg)) ∧
    (∃ (s : Machine.State) (c : BzCommand) (rest : List BzCommand), s.sec.cmds = c :: rest ∧
      s.sec.ready = true ∧
      s.sec.wiping = false ∧
      c.chan < 2 ∧
      c.op = 2 ∧
      1 ≤ c.arg ∧
      c.arg < 32 ∧
      usageAllowed (BitVec.toNat (c.input.getD 0 0)) (BitVec.toNat (c.input.getD 1 0)) = true ∧
      lengthAllowed (BitVec.toNat (c.input.getD 0 0)) (BitVec.toNat (c.input.getD 2 0)) = true) ∧
    (∃ (s : Machine.State) (c : BzCommand) (rest : List BzCommand) (k : VaultKey), s.sec.cmds = c :: rest ∧
      s.sec.ready = true ∧
      s.sec.wiping = false ∧
      c.chan < 2 ∧
      c.op = 3 ∧
      c.arg < 32 ∧
      s.vaultKey c.arg = some k) ∧
    (∃ (s : Machine.State) (c : BzCommand) (rest : List BzCommand), s.sec.cmds = c :: rest ∧
      s.sec.ready = true ∧
      s.sec.wiping = false ∧
      c.chan < 2 ∧
      c.op = 3 ∧
      c.arg < 32 ∧
      s.vaultKey c.arg = none) ∧
    (∃ (s : Machine.State) (c : BzCommand) (rest : List BzCommand), s.sec.cmds = c :: rest ∧
      s.sec.ready = true ∧
      s.sec.wiping = false ∧
      c.chan < 2 ∧
      c.op = 4 ∧
      c.arg < 32) ∧
    (∃ (s : Machine.State) (c : BzCommand) (rest : List BzCommand), s.sec.cmds = c :: rest ∧
      s.sec.ready = true ∧
      s.sec.wiping = false ∧
      c.chan < 2 ∧
      s.erasedOpen = true ∧
      c.op = 5) ∧
    (∃ (s : Machine.State) (c : BzCommand) (rest : List BzCommand), s.sec.cmds = c :: rest ∧
      s.sec.ready = true ∧
      s.sec.wiping = false ∧
      c.chan < 2 ∧
      s.erasedOpen = true ∧
      c.op = 7) ∧
    (∃ (s : Machine.State) (c : BzCommand) (rest : List BzCommand), s.sec.cmds = c :: rest ∧
      s.sec.ready = true ∧
      s.sec.wiping = false ∧
      c.chan < 2 ∧
      s.erasedOpen = true ∧
      c.op = 8) ∧
    (∃ (s : Machine.State) (c : BzCommand) (rest : List BzCommand) (k : VaultKey), s.sec.cmds = c :: rest ∧
      s.sec.ready = true ∧
      s.sec.wiping = false ∧
      c.chan < 2 ∧
      c.op = 5 ∧
      s.erasedOpen = false ∧
      c.arg < 32 ∧
      1 ≤ BitVec.toNat (c.input.getD 0 0) ∧
      BitVec.toNat (c.input.getD 0 0) < 64 ∧
      s.vaultKey c.arg = some k ∧
      k.kind = 0 ∧
      k.usage.testBit 0 = true ∧
      s.slotLoaded (BitVec.toNat (c.input.getD 0 0)) = true) ∧
    (∃ (s : Machine.State) (c : BzCommand) (rest : List BzCommand) (k : VaultKey), s.sec.cmds = c :: rest ∧
      s.sec.ready = true ∧
      s.sec.wiping = false ∧
      c.chan < 2 ∧
      c.op = 5 ∧
      s.erasedOpen = false ∧
      c.arg < 32 ∧
      1 ≤ BitVec.toNat (c.input.getD 0 0) ∧
      BitVec.toNat (c.input.getD 0 0) < 64 ∧
      s.vaultKey c.arg = some k ∧
      k.kind = 0 ∧
      k.usage.testBit 0 = true ∧
      s.slotLoaded (BitVec.toNat (c.input.getD 0 0)) = false) ∧
    (∃ (s : Machine.State) (c : BzCommand) (rest : List BzCommand), s.sec.cmds = c :: rest ∧
      s.sec.ready = true ∧
      s.sec.wiping = false ∧
      c.chan < 2 ∧
      c.op = 6 ∧
      c.arg < 10 ∧
      1 ≤ BitVec.toNat (c.input.getD 0 0) ∧
      BitVec.toNat (c.input.getD 0 0) < 64) ∧
    (∃ (s : Machine.State) (c : BzCommand) (rest : List BzCommand) (k : VaultKey), s.sec.cmds = c :: rest ∧
      s.sec.ready = true ∧
      s.sec.wiping = false ∧
      c.chan < 2 ∧
      c.op = 7 ∧
      s.erasedOpen = false ∧
      s.notCert = false ∧
      c.arg < 32 ∧
      64 ≤ c.input.length ∧
      s.vaultKey c.arg = some k ∧
      k.usage.testBit 3 = true) ∧
    (∃ (s : Machine.State) (c : BzCommand) (rest : List BzCommand) (k : VaultKey) (ca : Nat), s.sec.cmds = c :: rest ∧
      s.sec.ready = true ∧
      s.sec.wiping = false ∧
      c.chan < 2 ∧
      c.op = 8 ∧
      s.erasedOpen = false ∧
      s.notCert = false ∧
      c.arg < 32 ∧
      304 ≤ c.input.length ∧
      s.vaultKey c.arg = some k ∧
      s.sec.otp.uutca = some ca ∧
      k.usage.testBit 2 = true) ∧
    (∃ (s : Machine.State) (c : BzCommand) (rest : List BzCommand), s.sec.cmds = c :: rest ∧
      s.sec.ready = true ∧
      s.sec.wiping = false ∧
      c.chan < 2 ∧
      c.op = 7 ∧
      s.erasedOpen = false ∧
      s.notCert = true) ∧
    (∃ (s : Machine.State) (c : BzCommand) (rest : List BzCommand), s.sec.cmds = c :: rest ∧
      s.sec.ready = true ∧
      s.sec.wiping = false ∧
      c.chan < 2 ∧
      c.op = 8 ∧
      s.erasedOpen = false ∧
      s.notCert = true) ∧
    (∃ (s : Machine.State) (c : BzCommand) (rest : List BzCommand), s.sec.cmds = c :: rest ∧
      s.sec.ready = true ∧
      s.sec.wiping = false ∧
      c.chan < 2 ∧
      c.op = 9 ∧
      48 ≤ c.input.length) ∧
    (∃ (s : Machine.State) (c : BzCommand) (rest : List BzCommand), s.sec.cmds = c :: rest ∧
      s.sec.ready = true ∧
      s.sec.wiping = false ∧
      c.chan < 2 ∧
      c.op = 9 ∧
      c.input.length < 48) ∧
    (∃ (s : Machine.State) (c : BzCommand) (rest : List BzCommand), s.sec.cmds = c :: rest ∧
      s.sec.ready = true ∧
      s.sec.wiping = false ∧
      c.chan < 2 ∧
      c.op = 10 ∧
      c.arg = 0) ∧
    (∃ (s : Machine.State) (c : BzCommand) (rest : List BzCommand), s.sec.cmds = c :: rest ∧
      s.sec.ready = true ∧
      s.sec.wiping = false ∧
      c.chan < 2 ∧
      c.op = 10 ∧
      2 < c.arg) ∧
    (∃ (s : Machine.State) (c : BzCommand) (rest : List BzCommand), s.sec.cmds = c :: rest ∧
      s.sec.ready = true ∧
      s.sec.wiping = false ∧
      c.chan < 2 ∧
      c.op = 14 ∧
      1 ≤ c.arg ∧
      c.arg ≤ 64) ∧
    (∃ (s : Machine.State) (c : BzCommand) (rest : List BzCommand), s.sec.cmds = c :: rest ∧
      s.sec.ready = true ∧
      s.sec.wiping = false ∧
      c.chan < 2 ∧
      c.op = 14 ∧
      (c.arg = 0 ∨ 64 < c.arg)) :=
  ⟨⟨rst, .agent 9, 3, by decide +kernel⟩,
   ⟨bz (bzc 1 0 []), .agent 4, 1, by decide +kernel⟩,
   ⟨⟨3, 8, 0, 0, 0, [], 0, 0⟩, 15, by decide +kernel⟩,
   ⟨rst, by decide +kernel⟩,
   ⟨bz (bzc 255 0 []), bzc 255 0 [], [], by decide +kernel⟩,
   ⟨bz (bzc 1 31 [0, 0x23]), bzc 1 31 [0, 0x23], [], by decide +kernel⟩,
   ⟨bz (bzc 1 0 [0, 0x23]), bzc 1 0 [0, 0x23], [], by decide +kernel⟩,
   ⟨bz (bzc 2 31 [0, 0x23, 32]), bzc 2 31 [0, 0x23, 32], [], by decide +kernel⟩,
   ⟨bz (bzc 3 31 []) [(31, some ⟨0, 0x23, 9, 32⟩)], bzc 3 31 [], [], ⟨0, 0x23, 9, 32⟩, by decide +kernel⟩,
   ⟨bz (bzc 3 31 []), bzc 3 31 [], [], by decide +kernel⟩,
   ⟨bz (bzc 4 31 []), bzc 4 31 [], [], by decide +kernel⟩,
   ⟨({ (bz (bzc 5 0 [])) with session := { state := 2, erased := true } } : State), bzc 5 0 [], [], by decide +kernel⟩,
   ⟨({ (bz (bzc 7 0 [])) with session := { state := 2, erased := true } } : State), bzc 7 0 [], [], by decide +kernel⟩,
   ⟨({ (bz (bzc 8 0 [])) with session := { state := 2, erased := true } } : State), bzc 8 0 [], [], by decide +kernel⟩,
   ⟨(bz (bzc 5 31 [63]) [(31, some ⟨0, 0x23, 9, 32⟩)]).setBit Reg.MPE_KSTAT_HI 31 true, bzc 5 31 [63], [], ⟨0, 0x23, 9, 32⟩, by decide +kernel⟩,
   ⟨bz (bzc 5 31 [63]) [(31, some ⟨0, 0x23, 9, 32⟩)], bzc 5 31 [63], [], ⟨0, 0x23, 9, 32⟩, by decide +kernel⟩,
   ⟨bz (bzc 6 9 [63]), bzc 6 9 [63], [], by decide +kernel⟩,
   ⟨bz (bzc 7 31 (List.replicate 64 0)) [(31, some ⟨1, 8, 9, 48⟩)], bzc 7 31 (List.replicate 64 0), [], ⟨1, 8, 9, 48⟩, by decide +kernel⟩,
   ⟨({ (bz (bzc 8 31 (List.replicate 304 0)) [(31, some ⟨2, 4, 9, 32⟩)]) with sec := { (bz (bzc 8 31 (List.replicate 304 0)) [(31, some ⟨2, 4, 9, 32⟩)]).sec with otp := { uutca := some 5 } } } : State), bzc 8 31 (List.replicate 304 0), [], ⟨2, 4, 9, 32⟩, 5, by decide +kernel⟩,
   ⟨({ (bz (bzc 7 0 [])) with csr := ((bz (bzc 7 0 [])).setBit Reg.BZ_CERT 31 true).csr } : State), bzc 7 0 [], [], by decide +kernel⟩,
   ⟨({ (bz (bzc 8 0 [])) with csr := ((bz (bzc 8 0 [])).setBit Reg.BZ_CERT 31 true).csr } : State), bzc 8 0 [], [], by decide +kernel⟩,
   ⟨bz (bzc 9 0 (List.replicate 48 0)), bzc 9 0 (List.replicate 48 0), [], by decide +kernel⟩,
   ⟨bz (bzc 9 0 (List.replicate 47 0)), bzc 9 0 (List.replicate 47 0), [], by decide +kernel⟩,
   ⟨bz (bzc 10 0 []), bzc 10 0 [], [], by decide +kernel⟩,
   ⟨bz (bzc 10 3 []), bzc 10 3 [], [], by decide +kernel⟩,
   ⟨bz (bzc 14 64 []), bzc 14 64 [], [], by decide +kernel⟩,
   ⟨bz (bzc 14 65 []), bzc 14 65 [], [], by decide +kernel⟩⟩

theorem test_wit_BezelDeviceServices :
    (∃ (s : Machine.State) (c : BzCommand) (rest : List BzCommand) (img : Image), s.sec.cmds = c :: rest ∧
      s.sec.ready = true ∧
      s.sec.wiping = false ∧
      c.chan < 2 ∧
      c.op = 11 ∧
      c.arg < 252 ∧
      s.callerHolds c = true ∧
      (List.any s.live.regions fun e => e.snd.load == some c.arg) = false ∧
      (∀ (rg : Nat), rg < 64 → s.bit (Reg.LIB_RG rg) 31 = true → s.fld (Reg.LIB_RG rg) 0 8 ≠ c.arg) ∧
      s.imageStatus img false = 0 ∧
      s.boot.arb ≤ img.arb) ∧
    (∃ (s : Machine.State) (c : BzCommand) (rest : List BzCommand) (img : Image) (st : Nat), s.sec.cmds = c :: rest ∧
      s.sec.ready = true ∧
      s.sec.wiping = false ∧
      c.chan < 2 ∧
      c.op = 11 ∧
      c.arg < 252 ∧
      s.callerHolds c = true ∧
      (List.any s.live.regions fun e => e.snd.load == some c.arg) = false ∧
      (∀ (rg : Nat), rg < 64 → s.bit (Reg.LIB_RG rg) 31 = true → s.fld (Reg.LIB_RG rg) 0 8 ≠ c.arg) ∧
      s.imageStatus img false = st ∧
      st ≠ 0) ∧
    (∃ (s : Machine.State) (c : BzCommand) (rest : List BzCommand) (img : Image), s.sec.cmds = c :: rest ∧
      s.sec.ready = true ∧
      s.sec.wiping = false ∧
      c.chan < 2 ∧
      c.op = 12 ∧
      s.callerHolds c = true ∧
      s.imageStatus img false = 0 ∧
      (img.segs.any fun g => g.target != 5 && g.target != 6) = false ∧
      segBytes img.segs ≤ s.boot.cdSize * 524288 ∧
      s.boot.arb ≤ img.arb) ∧
    (∃ (s : Machine.State) (c : BzCommand) (rest : List BzCommand) (img : Image), s.sec.cmds = c :: rest ∧
      s.sec.ready = true ∧
      s.sec.wiping = false ∧
      c.chan < 2 ∧
      c.op = 13 ∧
      s.callerHolds c = true ∧
      s.imageStatus img true = 0 ∧
      img.segs.length = 1 ∧
      (img.segs.any fun g => g.target != 8) = false ∧
      segBytes img.segs ≤ 98304 ∧
      s.sec.fwVer ≤ img.ver) ∧
    (∃ (s : Machine.State) (c : BzCommand) (rest : List BzCommand) (img : Image), s.sec.cmds = c :: rest ∧
      s.sec.ready = true ∧
      s.sec.wiping = false ∧
      c.chan < 2 ∧
      c.op = 13 ∧
      s.callerHolds c = true ∧
      s.imageStatus img true = 0 ∧
      img.segs.length = 1 ∧
      (img.segs.any fun g => g.target != 8) = false ∧
      segBytes img.segs ≤ 98304 ∧
      img.ver < s.sec.fwVer) ∧
    (∃ (s : Machine.State) (c : BzCommand) (rest : List BzCommand), s.sec.cmds = c :: rest ∧
      s.sec.ready = true ∧
      s.sec.wiping = false ∧
      c.chan < 2 ∧
      c.op = 15 ∧
      c.arg ≤ 1 ∧
      leNat (List.take 4 c.input) < s.storedArb c.arg) ∧
    (∃ (s : Machine.State) (c : BzCommand) (rest : List BzCommand), s.sec.cmds = c :: rest ∧
      s.sec.ready = true ∧
      s.sec.wiping = false ∧
      c.chan < 2 ∧
      c.op = 15 ∧
      c.arg ≤ 1 ∧
      s.storedArb c.arg ≤ leNat (List.take 4 c.input)) ∧
    (∃ (s : Machine.State) (c : BzCommand) (rest : List BzCommand), s.sec.cmds = c :: rest ∧
      s.sec.ready = true ∧
      s.sec.wiping = false ∧
      c.chan < 2 ∧
      c.op = 16 ∧
      (s.sec.lc = 2 ∨ s.sec.lc = 3) ∧
      (1 < BitVec.toNat (c.input.getD 0 0) ∨ BitVec.toNat (c.input.getD 0 0) = 1 ∧ 4 ≤ BitVec.toNat (c.input.getD 1 0))) ∧
    (∃ (s : Machine.State) (c : BzCommand) (rest : List BzCommand), s.sec.cmds = c :: rest ∧
      s.sec.ready = true ∧
      s.sec.wiping = false ∧
      c.chan < 2 ∧
      c.op = 16 ∧
      (s.sec.lc = 2 ∨ s.sec.lc = 3) ∧
      (BitVec.toNat (c.input.getD 0 0) = 0 ∨ BitVec.toNat (c.input.getD 0 0) = 1 ∧ BitVec.toNat (c.input.getD 1 0) < 4)) ∧
    (∃ (s : Machine.State) (c : BzCommand) (rest : List BzCommand), s.sec.cmds = c :: rest ∧
      s.sec.ready = true ∧
      s.sec.wiping = false ∧
      c.chan < 2 ∧
      c.op = 16 ∧
      s.sec.lc ≠ 2 ∧
      s.sec.lc ≠ 3) ∧
    (∃ (s : Machine.State) (c : BzCommand) (rest : List BzCommand), s.sec.cmds = c :: rest ∧
      s.sec.ready = true ∧
      s.sec.wiping = false ∧
      c.chan < 2 ∧
      c.op = 17) ∧
    (∃ (s : Machine.State) (cls : Fin 8), ↑cls < 7 ∧
      s.sec.wiping = false ∧
      s.fld Reg.BZ_RESP (2 * ↑cls) 2 = 0) ∧
    (∃ (s : Machine.State) (cls : Fin 8), ↑cls < 7 ∧
      s.sec.wiping = false ∧
      1 ≤ s.fld Reg.BZ_RESP (2 * ↑cls) 2) ∧
    (∃ (s : Machine.State) (cls : Fin 8), s.sec.wiping = true ∧
      ↑cls < 7 ∧
      cls ≠ 4) :=
  ⟨⟨(bz (bzc 11 251 [])).setBit (Reg.MPE_AGKID_LO 8) 0 true, bzc 11 251 [], [], img, by decide +kernel⟩,
   ⟨(bz (bzc 11 251 [])).setBit (Reg.MPE_AGKID_LO 8) 0 true, bzc 11 251 [], [], { img with formOk := false }, 2, by decide +kernel⟩,
   ⟨(bz (bzc 12 0 [])).setBit (Reg.MPE_AGKID_LO 8) 0 true, bzc 12 0 [], [], img, by decide +kernel⟩,
   ⟨(bz (bzc 13 0 [])).setBit (Reg.MPE_AGKID_LO 8) 0 true, bzc 13 0 [], [], { img with segs := [⟨8, 4, 0, 0, []⟩] }, by decide +kernel⟩,
   ⟨({ ((bz (bzc 13 0 [])).setBit (Reg.MPE_AGKID_LO 8) 0 true) with sec := { (bz (bzc 13 0 [])).sec with fwVer := 4 } } : State), bzc 13 0 [], [], { img with segs := [⟨8, 4, 0, 0, []⟩] }, by decide +kernel⟩,
   ⟨({ (bz (bzc 15 1 [])) with sec := { (bz (bzc 15 1 [])).sec with otp := { ownerArb := 1 } } } : State), bzc 15 1 [], [], by decide +kernel⟩,
   ⟨bz (bzc 15 1 []), bzc 15 1 [], [], by decide +kernel⟩,
   ⟨({ (bz (bzc 16 0 [1, 4])) with sec := { (bz (bzc 16 0 [1, 4])).sec with lc := 3 } } : State), bzc 16 0 [1, 4], [], by decide +kernel⟩,
   ⟨({ (bz (bzc 16 0 [1, 3])) with sec := { (bz (bzc 16 0 [1, 3])).sec with lc := 2 } } : State), bzc 16 0 [1, 3], [], by decide +kernel⟩,
   ⟨({ (bz (bzc 16 0 [])) with sec := { (bz (bzc 16 0 [])).sec with lc := 1 } } : State), bzc 16 0 [], [], by decide +kernel⟩,
   ⟨bz (bzc 17 0 []), bzc 17 0 [], [], by decide +kernel⟩,
   ⟨rst.setFld Reg.BZ_RESP 12 2 0, 6, by decide +kernel⟩,
   ⟨rst.setFld Reg.BZ_RESP 12 2 3, 6, by decide +kernel⟩,
   ⟨{ rst with sec := { rst.sec with wiping := true } }, 6, by decide +kernel⟩⟩

theorem test_wit_DebugGateGuardsAccess :
    (∃ (s : Machine.State), s.hasScope 5 = true) ∧
    (∃ (s : Machine.State), s.hasScope 5 = false) ∧
    (∃ (s : Machine.State), s.hasScope 4 = true) ∧
    (∃ (s : Machine.State), s.hasScope 4 = false) ∧
    (∃ (s : Machine.State) (op : Fin 4), (s.session.ir ≠ 16 ∨ s.session.last.run = true ∨ op = 0 ∨ op = 3)) ∧
    (∃ (s : Machine.State) (op : Fin 4) (addr : BitVec 48), s.session.ir = 16 ∧
      s.session.last.run = false ∧
      (op = 1 ∨ op = 2) ∧
      s.inToken = false ∧
      s.gateCovers (addr.toNat / 4 * 4) = false) ∧
    (∃ (s : Machine.State) (op : Fin 4) (addr : BitVec 48), s.session.ir = 16 ∧
      s.session.last.run = false ∧
      op = 1 ∧
      s.inToken = false ∧
      addr.toNat / 4 * 4 = csrAddr Reg.DBG_ASTAT ∧
      s.admits Requester.debugger Reg.DBG_ASTAT false = true) ∧
    (∃ (s : Machine.State) (op : Fin 4) (addr : BitVec 48) (data : BitVec 32) (tag : BitVec 64), s.session.ir = 16 ∧
      s.session.last.run = false ∧
      (op = 1 ∨ op = 2) ∧
      s.inToken = true ∧
      requestTag s.session.key s.session.count (↑op) (addr.toNat / 4 * 4) data ≠ tag.toNat) ∧
    (∃ (s : Machine.State) (scope : BitVec 8), s.admits Requester.debugger Reg.DBG_ACMD true = true ∧
      s.authRefused scope.toNat = false ∧
      (s.sec.lc = 1 ∨ s.sec.lc = 2) ∧
      s.sec.otp.pwdOff = false ∧
      Config.digest (s.abuf 0 48) = s.sec.otp.password) ∧
    (∃ (s : Machine.State) (scope : BitVec 8), s.admits Requester.debugger Reg.DBG_ACMD true = true ∧
      s.authRefused scope.toNat = false ∧
      (s.sec.lc = 1 ∨ s.sec.lc = 2) ∧
      s.sec.otp.pwdOff = false ∧
      Config.digest (s.abuf 0 48) ≠ s.sec.otp.password) ∧
    (∃ (s : Machine.State) (scope : BitVec 8), s.admits Requester.debugger Reg.DBG_ACMD true = true ∧
      (s.authRefused scope.toNat = true ∨ s.sec.lc ≠ 1 ∧ s.sec.lc ≠ 2 ∨ s.sec.otp.pwdOff = true)) ∧
    (∃ (s : Machine.State) (scope : BitVec 8), s.admits Requester.debugger Reg.DBG_ACMD true = true ∧
      s.authRefused scope.toNat = false ∧
      s.sec.lc ≠ 5) ∧
    (∃ (s : Machine.State) (scope : BitVec 8), s.admits Requester.debugger Reg.DBG_ACMD true = true ∧
      (s.authRefused scope.toNat = true ∨ s.sec.lc = 5)) ∧
    (∃ (s : Machine.State), s.admits Requester.debugger Reg.DBG_ACMD true = true ∧
      s.session.state = 2 ∧
      s.session.erased = false) ∧
    (∃ (s : Machine.State) (scope : BitVec 8) (n : Nat) (q : Nat), s.session.state = 1 ∧
      s.session.challenge = some (n, q) ∧
      scope.toNat < 128) ∧
    (∃ (s : Machine.State), s.session.state ≠ 1) :=
  ⟨⟨dbg, by decide +kernel⟩,
   ⟨rst, by decide +kernel⟩,
   ⟨dbg, by decide +kernel⟩,
   ⟨rst, by decide +kernel⟩,
   ⟨rst, 1, by decide +kernel⟩,
   ⟨{ rst with session := { rst.session with ir := 16 } }, 1, 0, by decide +kernel⟩,
   ⟨{ rst with session := { rst.session with ir := 16 } }, 1, BitVec.ofNat 48 (csrAddr Reg.DBG_ASTAT), by decide +kernel⟩,
   ⟨{ dbg with session := { dbg.session with ir := 16, mode := 2, key := 5 } }, 1, 0, 0, BitVec.ofNat 64 (requestTag 5 0 1 0 0 + 1), ⟨by decide +kernel, by decide +kernel, by decide +kernel, by decide +kernel, by
    show requestTag 5 0 1 0 0 ≠ (BitVec.ofNat 64 (requestTag 5 0 1 0 0 + 1)).toNat
    have h : requestTag 5 0 1 0 0 < 2 ^ 64 := Nat.mod_lt _ (by decide)
    rw [BitVec.toNat_ofNat]; omega⟩⟩,
   ⟨{ rst with sec := { rst.sec with lc := 1, otp := { password := Config.digest (rst.abuf 0 48) } } }, 127, ⟨by decide +kernel, by decide +kernel, by decide +kernel, by decide +kernel, rfl⟩⟩,
   ⟨{ rst with sec := { rst.sec with lc := 2, otp := { password := Config.digest (rst.abuf 0 48) + 1 } } }, 127, ⟨by decide +kernel, by decide +kernel, by decide +kernel, by decide +kernel, Nat.ne_of_lt (Nat.lt_succ_self _)⟩⟩,
   ⟨rst, 127, by decide +kernel⟩,
   ⟨rst, 127, by decide +kernel⟩,
   ⟨{ rst with sec := { rst.sec with lc := 5 } }, 0, by decide +kernel⟩,
   ⟨dbg, by decide +kernel⟩,
   ⟨{ rst with session := { rst.session with state := 1, challenge := some (1, 2) } }, 127, 1, 2, by decide +kernel⟩,
   ⟨rst, by decide +kernel⟩⟩

theorem test_wit_RunControlStopsAndResumes :
    (∃ (s : Machine.State) (r : Requester) (n : Fin 6), s.admits r (Reg.CORE_RC ↑n) true = true ∧
      (s.core ↑n).run = CoreRun.running) ∧
    (∃ (s : Machine.State) (r : Requester) (n : Fin 6), s.admits r (Reg.CORE_RC ↑n) true = true ∧
      (s.core ↑n).run = CoreRun.reset ∧
      s.bit (Reg.CORE_RC ↑n) 4 = false) ∧
    (∃ (s : Machine.State) (r : Requester) (n : Fin 6), s.admits r (Reg.CORE_RC ↑n) true = true ∧
      (s.core ↑n).run = CoreRun.halted) ∧
    (∃ (s : Machine.State) (n : Fin 6) (cause : Nat), (s.core ↑n).run = CoreRun.running ∧
      (s.core ↑n).want = some cause) ∧
    (∃ (s : Machine.State) (n : Fin 6), (s.core ↑n).run = CoreRun.running ∧
      s.bit (Reg.CORE_RC ↑n) 3 = true) ∧
    (∃ (s : Machine.State) (n : Fin 6), (s.core ↑n).run = CoreRun.running ∧
      s.bit (Reg.CORE_RC ↑n) 3 = false) ∧
    (∃ (s : Machine.State) (r : Requester) (n : Fin 6), s.admits r (Reg.CORE_ACMD ↑n) true = true ∧
      (s.core ↑n).run ≠ CoreRun.halted) ∧
    (∃ (s : Machine.State) (r : Requester) (n : Fin 6) (w : BitVec 32), s.admits r (Reg.CORE_ACMD ↑n) true = true ∧
      (s.core ↑n).run = CoreRun.halted ∧
      wfld w 0 16 < 4160 ∧
      wfld w 0 16 ≠ 4096 ∧
      ↑n < 4 ∧
      wbit w 17 = true ∧
      wbit w 16 = true) ∧
    (∃ (s : Machine.State) (r : Requester) (n : Fin 6) (w : BitVec 32), s.admits r (Reg.CORE_ACMD ↑n) true = true ∧
      (s.core ↑n).run = CoreRun.halted ∧
      wfld w 0 16 < 4160 ∧
      wfld w 0 16 ≠ 4096 ∧
      ↑n < 4 ∧
      wbit w 17 = true ∧
      wbit w 16 = false) ∧
    (∃ (s : Machine.State) (r : Requester), s.admits r Reg.DBG_FRUN true = true ∧
      s.fsel = none) ∧
    (∃ (s : Machine.State) (r : Requester) (d : Nat) (p : Nat), s.admits r Reg.DBG_FRUN true = true ∧
      s.fsel = some (d, p) ∧
      (s.facet d p).state = FState.idle) ∧
    (∃ (s : Machine.State) (r : Requester) (d : Nat) (p : Nat), s.admits r Reg.DBG_FRUN true = true ∧
      s.fsel = some (d, p) ∧
      (s.facet d p).state = FState.running) ∧
    (∃ (s : Machine.State) (r : Requester) (d : Nat) (p : Nat), s.admits r Reg.DBG_FRUN true = true ∧
      s.fsel = some (d, p) ∧
      (s.facet d p).state = FState.halted ∧
      (s.facet d p).haltFrz = false ∧
      (s.facet d p).haltedFrom = FState.running) ∧
    (∃ (s : Machine.State) (r : Requester) (d : Nat) (p : Nat), s.admits r Reg.DBG_FRUN true = true ∧
      s.fsel = some (d, p) ∧
      (s.facet d p).state = FState.halted ∧
      (s.facet d p).haltedFrom ≠ FState.idle) ∧
    (∃ (s : Machine.State) (r : Requester) (d : Nat) (p : Nat), s.admits r Reg.DBG_FRUN true = true ∧
      s.fsel = some (d, p) ∧
      (s.facet d p).state ≠ FState.halted) ∧
    (∃ (s : Machine.State) (r : Requester) (w : BitVec 32) (d : Nat) (p : Nat) (v : Nat), s.admits r Reg.DBG_FREG true = true ∧
      s.fsel = some (d, p) ∧
      wbit w 7 = false ∧
      (s.facet d p).state = FState.halted ∧
      (s.facet d p).settle.debugRead (wfld w 0 7) = some v) ∧
    (∃ (s : Machine.State) (r : Requester) (w : BitVec 32) (d : Nat) (p : Nat) (g : Facet), s.admits r Reg.DBG_FREG true = true ∧
      s.fsel = some (d, p) ∧
      wbit w 7 = true ∧
      (s.facet d p).state = FState.halted ∧
      (s.facet d p).settle.debugWrite (wfld w 0 7) (s.fld Reg.DBG_FDATA 0 24) = some g) ∧
    (∃ (s : Machine.State) (r : Requester) (d : Nat) (p : Nat), s.admits r Reg.DBG_FREG true = true ∧
      s.fsel = some (d, p) ∧
      (s.facet d p).state = FState.running) ∧
    (∃ (s : Machine.State) (r : Requester) (n : Fin 6), s.admits r (Reg.CORE_WDT_KICK ↑n) true = true) ∧
    (∃ (s : Machine.State) (n : Fin 6), s.bit (Reg.CORE_WDT_CTL ↑n) 0 = true ∧
      (s.core ↑n).paused = false ∧
      (s.core ↑n).second = false) ∧
    (∃ (s : Machine.State) (n : Fin 6), s.bit (Reg.CORE_WDT_CTL ↑n) 0 = true ∧
      (s.core ↑n).paused = false ∧
      (s.core ↑n).second = true ∧
      s.fld (Reg.CORE_WDT_CTL ↑n) 2 2 = 0) ∧
    (∃ (s : Machine.State) (n : Fin 6), s.bit (Reg.CORE_WDT_CTL ↑n) 0 = true ∧
      (s.core ↑n).paused = false ∧
      (s.core ↑n).second = true ∧
      s.fld (Reg.CORE_WDT_CTL ↑n) 2 2 = 2 ∧
      s.clk.por = false ∧
      s.resetReady = true) ∧
    (∃ (s : Machine.State) (n : Fin 6), (s.bit (Reg.CORE_WDT_CTL ↑n) 0 = false ∨ (s.core ↑n).paused = true)) ∧
    (∃ (s : Machine.State) (n : Fin 6) (line : Fin 16), s.bit (Reg.DBG_XTRIG ↑line) 0 = false ∧
      s.bit (Reg.DBG_XTRIG ↑line) 8 = true ∧
      s.bit (Reg.DBG_XTRIG ↑line) (9 + ↑n) = true ∧
      (s.core ↑n).run = CoreRun.running ∧
      (s.core ↑n).want = none) ∧
    (∃ (s : Machine.State) (r : Requester), s.admits r Reg.DBG_VT_TX true = true ∧
      r.code < 6 ∧
      s.session.tx.length < 64) ∧
    (∃ (s : Machine.State) (r : Requester), s.admits r Reg.DBG_VT_TX true = true ∧
      r.code < 6 ∧
      64 ≤ s.session.tx.length) ∧
    (∃ (s : Machine.State), s.admits Requester.debugger Reg.DBG_VT_RX true = true ∧
      s.session.state = 2 ∧
      s.session.rx.length < 64) ∧
    (∃ (s : Machine.State), s.admits Requester.debugger Reg.DBG_VT_TX true = true ∧
      s.session.state = 2) ∧
    (∃ (s : Machine.State) (r : Requester) (b : Byte) (rest : List Byte), s.admits r Reg.DBG_VT_RX false = true ∧
      r.code < 6 ∧
      s.session.rx = b :: rest) ∧
    (∃ (s : Machine.State) (r : Requester), s.admits r Reg.DBG_VT_RX false = true ∧
      r.code < 6 ∧
      s.session.rx = []) :=
  ⟨⟨dbg.setCore 5 { run := .running }, .debugger, 5, by decide +kernel⟩,
   ⟨(dbg.setCore 5 { run := .reset }).setBit (Reg.CORE_RC 5) 4 false, .debugger, 5, by decide +kernel⟩,
   ⟨dbg.setCore 5 { run := .halted }, .debugger, 5, by decide +kernel⟩,
   ⟨dbg.setCore 5 { run := .running, want := some 3 }, 5, 3, by decide +kernel⟩,
   ⟨(dbg.setCore 5 { run := .running }).setBit (Reg.CORE_RC 5) 3 true, 5, by decide +kernel⟩,
   ⟨dbg.setCore 5 { run := .running }, 5, by decide +kernel⟩,
   ⟨dbg, .debugger, 5, by decide +kernel⟩,
   ⟨dbg.setCore 3 { run := .halted }, .debugger, 3, 0x3103F, by decide +kernel⟩,
   ⟨dbg.setCore 3 { run := .halted }, .debugger, 3, 0x2103F, by decide +kernel⟩,
   ⟨dbg.setFld Reg.DBG_FSEL 0 9 511, .debugger, by decide +kernel⟩,
   ⟨selected { state := .idle }, .debugger, 3, 271, by decide +kernel⟩,
   ⟨selected { state := .running }, .debugger, 3, 271, by decide +kernel⟩,
   ⟨selected { state := .halted, haltedFrom := .running }, .debugger, 3, 271, by decide +kernel⟩,
   ⟨selected { state := .halted, haltedFrom := .running }, .debugger, 3, 271, by decide +kernel⟩,
   ⟨selected { state := .running }, .debugger, 3, 271, by decide +kernel⟩,
   ⟨selected { state := .halted }, .debugger, 0, 3, 271, 0, by decide +kernel⟩,
   ⟨selected { state := .halted }, .debugger, 0x80, 3, 271, (({ state := .halted } : Facet).settle.debugWrite 0 0).getD {}, by decide +kernel⟩,
   ⟨selected { state := .running }, .debugger, 3, 271, by decide +kernel⟩,
   ⟨rst, .agent 5, 5, by decide +kernel⟩,
   ⟨(up.setCore 5 {  }).wr (Reg.CORE_WDT_CTL 5) 1, 5, by decide +kernel⟩,
   ⟨(up.setCore 5 { second := true }).wr (Reg.CORE_WDT_CTL 5) 1, 5, by decide +kernel⟩,
   ⟨(up.setCore 5 { second := true }).wr (Reg.CORE_WDT_CTL 5) 9, 5, by decide +kernel⟩,
   ⟨rst, 5, by decide +kernel⟩,
   ⟨(up.setCore 5 { run := .running }).wr (Reg.DBG_XTRIG 15) 0x4100, 5, 15, by decide +kernel⟩,
   ⟨up, .agent 5, by decide +kernel⟩,
   ⟨{ up with session := { up.session with tx := List.replicate 64 0 } }, .agent 5, by decide +kernel⟩,
   ⟨dbg, by decide +kernel⟩,
   ⟨dbg, by decide +kernel⟩,
   ⟨{ up with session := { up.session with rx := [7] } }, .agent 5, 7, [], by decide +kernel⟩,
   ⟨up, .agent 5, by decide +kernel⟩⟩

theorem test_wit_RecorderKeepsRecords :
    (∃ (s : Machine.State) (a : Raised) (rest : List Raised), s.raised = a :: rest ∧
      (s.clk.hold = false ∨ s.bit Reg.CLK_STAT 16 = true) ∧
      s.recordPasses a = false) ∧
    (∃ (s : Machine.State) (a : Raised) (rest : List Raised), s.raised = a :: rest ∧
      (s.clk.hold = false ∨ s.bit Reg.CLK_STAT 16 = true) ∧
      s.recordPasses a = true ∧
      a.sev < 7 ∧
      s.recorder.fifo.length < 64) ∧
    (∃ (s : Machine.State) (a : Raised) (rest : List Raised), s.raised = a :: rest ∧
      (s.clk.hold = false ∨ s.bit Reg.CLK_STAT 16 = true) ∧
      s.recordPasses a = true ∧
      a.sev < 7 ∧
      64 ≤ s.recorder.fifo.length) ∧
    (∃ (s : Machine.State) (a : Raised) (rest : List Raised), s.raised = a :: rest ∧
      (s.clk.hold = false ∨ s.bit Reg.CLK_STAT 16 = true) ∧
      s.recordPasses a = true ∧
      a.sev = 7 ∧
      s.recorder.fifo7.length < 16) ∧
    (∃ (s : Machine.State) (x : Rec) (rest : List Rec) (k : Nat), s.recorder.fifo = x :: rest ∧
      s.recorder.frozen = false ∧
      emptySlot s.recorder.store 0 7936 = some k) ∧
    (∃ (s : Machine.State) (x : Rec) (rest : List Rec), s.recorder.fifo = x :: rest ∧
      s.recorder.frozen = true) ∧
    (∃ (s : Machine.State) (x : Rec) (rest : List Rec), s.recorder.fifo = x :: rest ∧
      s.recorder.frozen = false ∧
      mainSlot s.recorder.store x.sev = none) ∧
    (∃ (s : Machine.State) (x : Rec) (rest : List Rec) (k : Nat), s.recorder.fifo7 = x :: rest ∧
      emptySlot s.recorder.store 7936 256 = some k ∧
      (emptySlot (s.recorder.store.set k (some (x, s.recorder.age)) none) 7936 256).isSome = true) ∧
    (∃ (s : Machine.State), s.recorder.fifo = []) ∧
    (∃ (s : Machine.State), s.recorder.fifo7 = []) ∧
    (∃ (s : Machine.State) (r : Requester), s.admits r Reg.REC_CMD true = true ∧
      s.recorder.frozen = false) ∧
    (∃ (s : Machine.State) (r : Requester), s.admits r Reg.REC_CMD true = true ∧
      s.recorder.frozen = true) ∧
    (∃ (s : Machine.State), s.fld Reg.REC_CTL 0 16 = 0) ∧
    (∃ (s : Machine.State), s.fld Reg.REC_CTL 0 16 ≠ 0 ∧
      s.recorder.frozen = true) :=
  ⟨⟨({ rec_ {} with raised := [rz 4] } : State).wr (Reg.REC_TCFG 1) 0, rz 4, [], by decide +kernel⟩,
   ⟨({ rec_ {  } with raised := [rz 6] } : State), rz 6, [], by decide +kernel⟩,
   ⟨({ rec_ { fifo := List.replicate 64 (rc 1) } with raised := [rz 6] } : State), rz 6, [], by decide +kernel⟩,
   ⟨({ rec_ { fifo7 := List.replicate 15 (rc 7) } with raised := [rz 7] } : State), rz 7, [], by decide +kernel⟩,
   ⟨rec_ { fifo := [rc 6] }, rc 6, [], 0, by decide +kernel⟩,
   ⟨rec_ { fifo := [rc 6], frozen := true }, rc 6, [], by decide +kernel⟩,
   ⟨rec_ { fifo := [rc 4], store := fullStore }, rc 4, [], ⟨rfl, rfl, full_main⟩⟩,
   ⟨rec_ { fifo7 := [rc 7] }, rc 7, [], 7936, by decide +kernel⟩,
   ⟨up, by decide +kernel⟩,
   ⟨up, by decide +kernel⟩,
   ⟨up, .agent 8, by decide +kernel⟩,
   ⟨rec_ { frozen := true }, .agent 8, by decide +kernel⟩,
   ⟨up.setFld Reg.REC_CTL 0 16 0, by decide +kernel⟩,
   ⟨(rec_ { frozen := true }).setFld Reg.REC_CTL 0 16 1, by decide +kernel⟩⟩

theorem test_wit_PackageBallsAndLaneAmplitude :
    (∃ (r : Nat), r < 19) ∧
    (∃ (r : Nat) (q : Nat), r < 60 ∧
      q < 60 ∧
      rowName r = rowName q) ∧
    (∃ (c : Nat) (m : Nat), c < 4 ∧
      m < 6) ∧
    (∃ (h : Nat), h < 8) ∧
    (∃ (bc : Nat), bc ∈ [0, 1, 2, 3, 6, 7, 8, 9, 10]) ∧
    (∃ (br : Nat), br ∈ [6, 7, 8, 9]) ∧
    (∃ (pin : Nat), pin < 960) ∧
    (∃ (die : Nat) (l : Nat), die < 4 ∧
      l < 16) :=
  ⟨⟨18, by decide +kernel⟩,
   ⟨59, 59, by decide +kernel⟩,
   ⟨3, 5, by decide +kernel⟩,
   ⟨7, by decide +kernel⟩,
   ⟨10, by decide +kernel⟩,
   ⟨9, by decide +kernel⟩,
   ⟨959, by decide +kernel⟩,
   ⟨3, 15, by decide +kernel⟩⟩

end Sys2Proof.Tests
end

section
/-!
PROOF. The control die (R35, R37, R38, R46): its mailboxes, the start of its cores, a lockstep disagreement and its reset.
-/
namespace Sys2Proof.Machine

/-! ## Bits that are set or cleared -/

theorem wbit_wsetBit_self (w : Word) {i : Nat} (b : Bool) (h : i < 32) : wbit (wsetBit w i b) i = b := by
  cases b with
  | false =>
    simp only [wsetBit, wbit, Bool.false_eq_true, if_false, BitVec.getLsbD_and, BitVec.getLsbD_not, BitVec.getLsbD_ofNat, h, decide_true,
      Nat.testBit_two_pow_self, Bool.and_self, Bool.not_true, Bool.and_false]
  | true =>
    simp only [wsetBit, wbit, if_true, BitVec.getLsbD_or, BitVec.getLsbD_ofNat, h, decide_true, Nat.testBit_two_pow_self, Bool.and_self,
      Bool.or_true]

theorem bit_setBit_self (s : State) (k : Nat) {i : Nat} (b : Bool) (h : i < 32) : (s.setBit k i b).bit k i = b := by
  simp only [State.setBit, State.bit, rd_wr_self, wbit_wsetBit_self _ _ h]

/-- The mask of MBX_CTL takes the two agent codes once `en` is cleared. -/
theorem mbxCtl_mask_disabled (w : Word) : wsetBit w 31 false &&& 0x800003FF = w &&& 0x3FF := by
  rw [wsetBit, if_neg Bool.false_ne_true, BitVec.and_assoc]
  rfl

theorem agentMatches_iff (code req : Nat) : agentMatches code req = true ↔ 10 ≤ code ∨ code = req := by
  simp [agentMatches]

/-! ## Accesses of the mailbox unit -/

/-- A write in the mailbox unit reaches `mbxUnitWrite`: no sequence of another requester is touched. -/
theorem regWrite_mbxUnit (s : State) {i o : Nat} (req : Nat) (w : Word) (hi : i < 4096) (ho : o < 0xFF8) :
    (s.touched req (regKey 5 0x1A i o)).regWrite (regKey 5 0x1A i o) req w = s.mbxUnitWrite i o (regKey 5 0x1A i o) req w := by
  have h : o < 4096 := by omega
  have h1 : o ≠ 0xFFC := by omega
  have h2 : o ≠ 0xFF8 := by omega
  simp [State.touched, State.regWrite, keyUnit_regKey h hi, keyOff_regKey h, keyInst_regKey h hi, h1, h2]

theorem regWrite_MBX_PUSH (s : State) (n : Fin 32) (req : Nat) (w : Word) :
    (s.touched req (Reg.MBX_PUSH n)).regWrite (Reg.MBX_PUSH n) req w = s.mbxPush n req w := by
  have h : (n : Nat) ≠ 32 := by omega
  simp [Reg.MBX_PUSH, regWrite_mbxUnit s req w (show (n : Nat) < 4096 by omega), State.mbxUnitWrite, h]

theorem regWrite_MBX_CTL (s : State) (n : Fin 32) (req : Nat) (w : Word) :
    (s.touched req (Reg.MBX_CTL n)).regWrite (Reg.MBX_CTL n) req w = (s.mbxCtlWrite n w, .ok) := by
  have h : (n : Nat) ≠ 32 := by omega
  simp [Reg.MBX_CTL, regWrite_mbxUnit s req w (show (n : Nat) < 4096 by omega), State.mbxUnitWrite, h]

theorem regWrite_CC_START (s : State) (req : Nat) (w : Word) :
    (s.touched req Reg.CC_START).regWrite Reg.CC_START req w = (s.coreStart w, .ok) := by
  simp [Reg.CC_START, regWrite_mbxUnit s req w, State.mbxUnitWrite]

theorem effectRead_MBX_POP (s : State) (n : Fin 32) (req : Nat) :
    (s.touched req (Reg.MBX_POP n)).effectRead req (Reg.MBX_POP n) = s.mbxPop n req := by
  have hn : (n : Nat) < 4096 := by omega
  have ht : s.touched req (Reg.MBX_POP n) = s := by simp [State.touched, Reg.MBX_POP, keyUnit_regKey, hn]
  rw [ht, State.effectRead, (single_MBX_POP n n.isLt).2]
  simp [Reg.MBX_POP, keyUnit_regKey, keyOff_regKey, keyInst_regKey, hn]

/-! ## Mailboxes (R37) -/

section mailboxes
variable {s : State} {r : Requester} {n : Fin 32}

/-- The sender's push enters at the end, or is dropped with `ovf` when 16 messages are held. -/
theorem exec_mbxPush_sender (msg : Word) (ha : s.admits r (Reg.MBX_PUSH n) true = true) (he : s.bit (Reg.MBX_CTL n) 31 = true)
    (hm : agentMatches (s.fld (Reg.MBX_CTL n) 0 4) r.code = true) :
    exec (.mbxPush r n msg) s = .next (if (s.box n).length < 16 then (s.setBox n (s.box n ++ [msg])).wrote r (Reg.MBX_PUSH n)
      else (s.flag (Reg.MBX_STAT n) 8).wrote r (Reg.MBX_PUSH n)) := by
  unfold State.bit at he
  unfold State.fld at hm
  have hp : s.mbxPush n r.code msg =
      (if (s.box n).length < 16 then s.setBox n (s.box n ++ [msg]) else s.flag (Reg.MBX_STAT n) 8, .ok) := by
    by_cases h : (s.box n).length < 16
    · simp [State.mbxPush, he, hm, h, Nat.not_le.mpr h]
    · simp [State.mbxPush, he, hm, h, Nat.not_lt.mp h]
  rw [← apply_ite (fun t => State.wrote t r (Reg.MBX_PUSH n))]
  exact congrArg Host.Outcome.next (regAccess_wrote (single_MBX_PUSH n n.isLt) ha ((regWrite_MBX_PUSH ..).trans hp))

theorem exec_mbxPush_refused (msg : Word) (ha : s.admits r (Reg.MBX_PUSH n) true = true)
    (h : s.bit (Reg.MBX_CTL n) 31 = false ∨ agentMatches (s.fld (Reg.MBX_CTL n) 0 4) r.code = false) :
    exec (.mbxPush r n msg) s = .next (s.refusedWrite r (Reg.MBX_PUSH n)) := by
  unfold State.bit State.fld at h
  have hp : s.mbxPush n r.code msg = (s, .refused) := by rcases h with h | h <;> simp [State.mbxPush, h]
  exact congrArg Host.Outcome.next (regAccess_refused (single_MBX_PUSH n n.isLt) ha ((regWrite_MBX_PUSH ..).trans hp))

/-- An admitted read of MBX_POP answers what the pop answers. -/
theorem exec_mbxPop (ha : s.admits r (Reg.MBX_POP n) false = true) (hr : r.code ≠ 16) {t : State} {x : Resp} {v : Word}
    (h : s.mbxPop n r.code = (t, x, v)) :
    exec (.mbxPop r n) s = .next (t.completeAccess r.code false (csrAddr (Reg.MBX_POP n)) x v) := by
  refine congrArg Host.Outcome.next ((regFetch_admitted (single_MBX_POP n n.isLt).1 ha hr).trans ?_)
  rw [effectRead_MBX_POP, h]

theorem mbxPop_oldest {msg : Word} {rest : List Word} (he : s.bit (Reg.MBX_CTL n) 31 = true)
    (hm : agentMatches (s.fld (Reg.MBX_CTL n) 4 4) r.code = true) (hb : s.box n = msg :: rest) : s.mbxPop n r.code = (s.setBox n rest, .ok, msg) := by
  unfold State.bit at he
  unfold State.fld at hm
  simp [State.mbxPop, he, hm, hb]

theorem mbxPop_empty (he : s.bit (Reg.MBX_CTL n) 31 = true) (hm : agentMatches (s.fld (Reg.MBX_CTL n) 4 4) r.code = true)
    (hb : s.box n = []) : s.mbxPop n r.code = (s.flag (Reg.MBX_STAT n) 9, .ok, 0) := by
  unfold State.bit at he
  unfold State.fld at hm
  simp [State.mbxPop, he, hm, hb]

theorem mbxPop_refused (h : s.bit (Reg.MBX_CTL n) 31 = false ∨ agentMatches (s.fld (Reg.MBX_CTL n) 4 4) r.code = false) :
    s.mbxPop n r.code = (s, .refused, 0) := by
  unfold State.bit State.fld at h
  rcases h with h | h <;> simp [State.mbxPop, h]

/-- A write that clears `en` keeps the two agent codes and empties the mailbox. -/
theorem exec_mailboxDisable (w : Word) (ha : s.admits r (Reg.MBX_CTL n) true = true) :
    exec (.mailboxDisable r n w) s = .next (((s.wr (Reg.MBX_CTL n) (w &&& 0x3FF)).setBox n []).wrote r (Reg.MBX_CTL n)) := by
  have hw : s.mbxCtlWrite n (wsetBit w 31 false) = (s.wr (Reg.MBX_CTL n) (w &&& 0x3FF)).setBox n [] := by
    simp only [State.mbxCtlWrite, wbit_wsetBit_self _ _ (show 31 < 32 by decide), mbxCtl_mask_disabled, Bool.false_eq_true, if_false]
  exact congrArg Host.Outcome.next (regAccess_wrote (single_MBX_CTL n n.isLt) ha ((regWrite_MBX_CTL ..).trans (by rw [hw])))

end mailboxes

/-! ## Starting cores (R38) -/

/-- A core as a start without `rsthalt` leaves it: one in reset runs from its entry point, another is as it was. -/
def State.startedCore (s : State) (i : Nat) : Core :=
  if (s.core i).run = .reset then
    { s.core i with run := .running, cause := 0, want := none, priv := 3, regs := (s.core i).regs.set 0x7B1 (BitVec.ofNat 64 (s.entryOfCore i)) 0 }
  else s.core i

theorem core_setCore (s : State) (i j : Nat) (x : Core) : (s.setCore i x).core j = if j = i then x else s.core j := SMap.get_set ..

/-- `t` differs from `s` in its cores alone. -/
def OnlyCores (s t : State) : Prop := t = { s with cores := t.cores }

theorem OnlyCores.trans {s t u : State} (h : OnlyCores s t) (k : OnlyCores t u) : OnlyCores s u :=
  calc u = { t with cores := u.cores } := k
    _ = { s with cores := u.cores } := congrArg (fun x : State => { x with cores := u.cores }) h

/-- Without `rsthalt` a start changes the cores alone. -/
theorem releaseCore_onlyCores {s : State} {i : Nat} (h : s.bit (Reg.CORE_RC i) 4 = false) : OnlyCores s (s.releaseCore i) := by
  have h' : ∀ x, (s.setCore i x).bit (Reg.CORE_RC i) 4 = false := fun _ => h
  by_cases hr : (s.core i).run = .reset
  · simp only [State.releaseCore, hr, h', ne_eq, not_true_eq_false, Bool.false_eq_true, if_false]
    rfl
  · simp only [State.releaseCore, hr, ne_eq, not_false_eq_true, if_true]
    rfl

/-- Without `rsthalt` a start gives the core it names its started form and leaves the others. -/
theorem core_releaseCore {s : State} {i : Nat} (h : s.bit (Reg.CORE_RC i) 4 = false) (j : Nat) :
    (s.releaseCore i).core j = if j = i then s.startedCore i else s.core j := by
  have h' : ∀ x, (s.setCore i x).bit (Reg.CORE_RC i) 4 = false := fun _ => h
  by_cases hr : (s.core i).run = .reset
  · simp [State.releaseCore, State.startedCore, hr, h', core_setCore]
  · by_cases hj : j = i <;> simp [State.releaseCore, State.startedCore, hr, hj]

/-- The start of the first `n` cores, for those a word names; CC_START is that of all six. -/
def State.startFirst (s : State) (w : Word) (n : Nat) : State := (List.range n).foldl (fun s i => if wbit w i then s.releaseCore i else s) s

theorem startFirst_succ (s : State) (w : Word) (n : Nat) :
    s.startFirst w (n + 1) = if wbit w n then (s.startFirst w n).releaseCore n else s.startFirst w n := by
  simp [State.startFirst, List.range_succ]

/-- Starting cores without `rsthalt` changes the cores alone, and each that the word names takes its started form. -/
theorem startFirst_spec (s : State) (w : Word) (n : Nat) (h : ∀ i < n, s.bit (Reg.CORE_RC i) 4 = false) :
    OnlyCores s (s.startFirst w n) ∧
      ∀ i, (s.startFirst w n).core i = if i < n ∧ wbit w i = true then s.startedCore i else s.core i := by
  induction n with
  | zero => exact ⟨rfl, fun i => by simp [State.startFirst]⟩
  | succ n ih =>
    obtain ⟨hf, hc⟩ := ih fun i hi => h i (by omega)
    rw [startFirst_succ]
    generalize s.startFirst w n = t at hf hc
    have hn : t.core n = s.core n := by simp [hc]
    cases hw : wbit w n with
    | false =>
      refine ⟨hf, fun i => ?_⟩
      rw [if_neg Bool.false_ne_true]
      by_cases hi : i = n
      · simp [hi, hn, hw]
      · simp [hc, show i < n + 1 ↔ i < n by omega]
    | true =>
      have hrc : t.bit (Reg.CORE_RC n) 4 = false := by rw [hf]; exact h n (by omega)
      have hs : t.startedCore n = s.startedCore n := by
        have he : t.entryOfCore n = s.entryOfCore n := by rw [hf]; rfl
        rw [State.startedCore, State.startedCore, hn, he]
      refine ⟨hf.trans (releaseCore_onlyCores hrc), fun i => ?_⟩
      rw [if_pos rfl, core_releaseCore hrc, hs, hc]
      by_cases hi : i = n
      · simp [hi, hw]
      · simp [hi, show i < n + 1 ↔ i < n by omega]

theorem coreStart_spec {s : State} (w : Word) (h : ∀ i < 6, s.bit (Reg.CORE_RC i) 4 = false) :
    OnlyCores s (s.coreStart w) ∧ ∀ i < 6, (s.coreStart w).core i = if wbit w i = true then s.startedCore i else s.core i := by
  have hs : s.coreStart w = s.startFirst w 6 := rfl
  obtain ⟨hf, hc⟩ := startFirst_spec s w 6 h
  exact ⟨hs ▸ hf, fun i hi => by simp [hs, hc, hi]⟩

theorem exec_coreStart {s : State} {r : Requester} (w : Word) (ha : s.admits r Reg.CC_START true = true) :
    exec (.coreStart r w) s = .next ((s.coreStart w).wrote r Reg.CC_START) :=
  congrArg Host.Outcome.next (regAccess_wrote single_CC_START ha (regWrite_CC_START ..))

/-! ## What freezes and lost peers leave alone -/

/-- The control die and what its reset looks at are in `t` as in `s`: cores, mailboxes, CC_STATUS, boot state and clocks. -/
structure SparesCd (s t : State) : Prop where
  cores : t.cores = s.cores
  boxes : t.boxes = s.boxes
  status : t.rd Reg.CC_STATUS = s.rd Reg.CC_STATUS
  boot : t.boot = s.boot
  clk : t.clk = s.clk

theorem SparesCd.refl (s : State) : SparesCd s s := ⟨rfl, rfl, rfl, rfl, rfl⟩

theorem SparesCd.trans {s t u : State} (h : SparesCd s t) (k : SparesCd t u) : SparesCd s u :=
  ⟨k.cores.trans h.cores, k.boxes.trans h.boxes, k.status.trans h.status, k.boot.trans h.boot, k.clk.trans h.clk⟩

theorem SparesCd.foldl {α : Type} {f : State → α → State} (h : ∀ t a, SparesCd t (f t a)) (l : List α) (s : State) : SparesCd s (l.foldl f s) :=
  List.foldlRecOn l f (motive := SparesCd s) (.refl s) fun t ht a _ => ht.trans (h t a)

theorem sparesCd_wr (s : State) {k : Nat} (w : Word) (h : Reg.CC_STATUS ≠ k) : SparesCd s (s.wr k w) := ⟨rfl, rfl, rd_wr_other h, rfl, rfl⟩

theorem sparesCd_setBit (s : State) {k : Nat} (i : Nat) (b : Bool) (h : Reg.CC_STATUS ≠ k) : SparesCd s (s.setBit k i b) := sparesCd_wr s _ h

theorem sparesCd_setDie (s : State) (die x : Nat) : SparesCd s (s.setDie die x) := ⟨rfl, rfl, rfl, rfl, rfl⟩

/-- CC_STATUS lies in the mailbox unit. -/
theorem CC_STATUS_ne_regKey {d u i o : Nat} (hu : u < 32) (hi : i < 4096) (ho : o < 4096) (h : u ≠ 0x1A) : Reg.CC_STATUS ≠ regKey d u i o :=
  fun e => h ((keyUnit_regKey ho hi hu).symm.trans (congrArg keyUnit e.symm))

theorem instOf_lt (q : Nat) : instOf q < 4096 := by
  unfold instOf homeOf
  split <;> omega

theorem sparesCd_raise (s : State) (sev code die unit inst : Nat) : SparesCd s (s.raise sev code die unit inst) := ⟨rfl, rfl, rfl, rfl, rfl⟩

theorem sparesCd_haltFacet (s : State) (die p : Nat) (dbg frz : Bool) : SparesCd s (s.haltFacet die p dbg frz) := by
  unfold State.haltFacet State.facetRest
  dsimp only
  repeat' split
  all_goals exact ⟨rfl, rfl, rfl, rfl, rfl⟩

/-- A freeze that follows the halted cores reaches Facets and queue sets alone (R233, R538). -/
theorem sparesCd_freezeFollows (s : State) : SparesCd s s.freezeFollows := by
  unfold State.freezeFollows
  dsimp only
  generalize (s.csr.filter _).map _ = l
  exact (SparesCd.foldl (fun t key => sparesCd_haltFacet t ..) l s).trans ⟨rfl, rfl, rfl, rfl, rfl⟩

theorem sparesCd_firstError (s : State) (q code : Nat) : SparesCd s (s.firstError q code) := by
  unfold State.firstError
  dsimp only
  split
  · exact .refl s
  · exact sparesCd_wr s _ (CC_STATUS_ne_regKey (by decide) (by decide) (by decide) (by decide))

theorem sparesCd_peerLost (s : State) (q code : Nat) : SparesCd s (s.peerLost q code) := by
  have h (x : Queue) : SparesCd s (((s.setQueue q x).flag (s.qstat q) 27).firstError q code) :=
    have hq : SparesCd s (s.setQueue q x) := ⟨rfl, rfl, rfl, rfl, rfl⟩
    (hq.trans (sparesCd_wr _ _ (CC_STATUS_ne_regKey (by decide) (instOf_lt q) (by decide) (by decide)))).trans (sparesCd_firstError ..)
  unfold State.peerLost
  dsimp only
  split
  case h_5 => exact .refl s
  all_goals exact h _

/-- The queues of lost peers change with their records and their homes' error registers (R320, R324). -/
theorem sparesCd_peersLost (s : State) (code : Nat) (hit : Nat → Queue → Bool) : SparesCd s (s.peersLost code hit) := by
  unfold State.peersLost
  exact (SparesCd.foldl (fun t q => sparesCd_peerLost t q code) _ s).trans (SparesCd.foldl (fun t _ => sparesCd_raise t ..) _ _)

/-! ## Lockstep (R35) -/

theorem core_holdCore (s : State) (i : Nat) : ((s.holdCore i).core i).run = .reset := by
  rw [State.holdCore, State.core, (sparesCd_freezeFollows _).cores]
  exact congrArg Core.run (State.setCore_self ..)

/-- A running pair whose checker disagrees is held in reset, flagged in CC_STATUS and recorded at severity 6. -/
theorem lockstepFault_running (s : State) (pair : Fin 2) (h : (s.core (4 + pair)).run ≠ .reset) :
    s.lockstepFault pair = ((s.holdCore (4 + pair)).flag Reg.CC_STATUS (1 + pair)).raise 6 0x000B 5 0x19 (4 + pair) := by
  have hp : ¬ 2 ≤ (pair : Nat) := by omega
  simp [State.lockstepFault, hp, h]

/-! ## Reset of the control die (R46) -/

theorem SparesCd.userMode {s t : State} (h : SparesCd s t) : t.userMode = s.userMode := by
  rw [State.userMode, State.userMode, State.bit, State.bit, h.status]

theorem CC_STATUS_ne_CORE_RC (i : Nat) : Reg.CC_STATUS ≠ Reg.CORE_RC i := by
  intro e
  have h : keyOff Reg.CC_STATUS = 0 := by rw [e]; exact keyOff_regKey (by decide)
  exact absurd h (by decide)

/-- With the control die down its mailboxes and its memory are empty; user mode, the handover and the clocks are as they were. -/
theorem cdDown_spec (s : State) :
    s.cdDown.boxes = [] ∧ s.cdDown.boot = { s.boot with tcm := [], cache := [], plic := {} } ∧ s.cdDown.userMode = s.userMode ∧
      s.cdDown.clk = s.clk := by
  have hp := sparesCd_peersLost s 10 fun q _ => decide (s.qowner q < 6)
  unfold State.cdDown
  dsimp only
  generalize s.peersLost 10 (fun q _ => decide (s.qowner q < 6)) = u at hp
  generalize ((List.range 6).map fun i => u.bit (Reg.CORE_RC i) 4).zipIdx = keep
  have hk (v : State) : SparesCd v ((keep.foldl (fun s e => s.setBit (Reg.CORE_RC e.2) 4 e.1) v).setDie 5 1).freezeFollows := by
    refine SparesCd.trans ?_ ((sparesCd_setDie ..).trans (sparesCd_freezeFollows _))
    refine SparesCd.foldl (fun t e => ?_) keep v
    exact sparesCd_setBit t 4 e.1 (CC_STATUS_ne_CORE_RC e.2)
  refine ⟨(hk _).boxes.trans rfl, (hk _).boot.trans ?_, (hk _).userMode.trans ?_, (hk _).clk.trans hp.clk⟩
  · exact congrArg (fun b : Boot => { b with tcm := [], cache := [], plic := {} }) hp.boot
  · exact (bit_setBit_self _ Reg.CC_STATUS u.userMode (by decide)).trans hp.userMode

/-- Before the handover a reset of the control die, its reference present, leaves it ACTIVE and waiting for start-up. -/
theorem exec_cdReset_unhanded {s : State} (hs : s.boot.stream = false) (hc : s.clk.copies.any (fun c => c.1 == 5) = false)
    (hh : s.boot.handed = false) : exec .cdReset s = .next (s.cdDown.setDie 5 0) := by
  obtain ⟨-, hb, -, hk⟩ := cdDown_spec s
  have hr : s.cdReset = s.cdDown.setDie 5 0 := by simp [State.cdReset, State.cdBoot, hk, hb, hc, hh]
  have hl : (s.cdDown.setDie 5 0).lateMissing = s.cdDown.setDie 5 0 := by simp [State.lateMissing, hb, hs]
  exact congrArg Host.Outcome.next ((congrArg State.lateMissing hr).trans hl)

/-! ## The obligation -/

/-- Settles O27: clause by clause, the mailboxes by what their unit answers, the start of the cores by induction on how many of them have
been looked at, the lockstep fault and the reset by what the freeze and the lost peers they cause leave alone. -/
theorem controlDieCommands : Obligations.ControlDieCommands := by
  intro s r
  refine ⟨fun _ => rfl, agentMatches_iff, fun n msg ha => ⟨exec_mbxPush_sender msg ha, exec_mbxPush_refused msg ha⟩,
    fun n ha hr => ⟨fun he hm => ⟨fun msg rest hb => ?pop, fun hb => ?popEmpty⟩, fun h => ?popRefused⟩,
    fun n w ha => exec_mailboxDisable w ha, fun w ha hrc => ?start, fun pair h => ?lockstep, fun hs hc hh => ?reset⟩
  case pop => exact exec_mbxPop ha hr (mbxPop_oldest he hm hb)
  case popEmpty => exact exec_mbxPop ha hr (mbxPop_empty he hm hb)
  case popRefused => exact exec_mbxPop ha hr (mbxPop_refused h)
  case start =>
    obtain ⟨hf, hcore⟩ := coreStart_spec w hrc
    refine ⟨_, exec_coreStart w ha, hf, fun i hi => ?_⟩
    rw [hcore i hi, State.startedCore]
    by_cases hw : wbit w i = true
    · simp only [hw, true_and, if_true]
    · simp only [hw, Bool.false_eq_true, false_and, if_false]
  case lockstep =>
    refine ⟨_, congrArg Host.Outcome.next (lockstepFault_running s pair h), core_holdCore s _, bit_flag_self (by omega), ?_⟩
    simp [State.raise]
  case reset =>
    obtain ⟨hbox, hb, hu, -⟩ := cdDown_spec s
    exact ⟨_, exec_cdReset_unhanded hs hc hh, State.setDie_self .., (State.setDie_boxes ..).trans hbox, by simp [hb],
      (sparesCd_setDie ..).userMode.trans hu⟩

end Sys2Proof.Machine
end

section
/-!
PROOF. The fields of an accumulator (R224): X in [55:47], M in [46:23], R in [22:0].
-/
namespace Sys2Proof.Machine

/-! ## An accumulator as its three fields -/

/-- The fields X, M and R lie side by side and leave no bit of the accumulator out. -/
theorem accFields_append (a : BitVec 56) : a.extractLsb' 47 9 ++ a.extractLsb' 23 24 ++ a.extractLsb' 0 23 = a := by
  have hXM : a.extractLsb' 47 9 ++ a.extractLsb' 23 24 = a.extractLsb' 23 33 := BitVec.extractLsb'_append_extractLsb'_eq_extractLsb' rfl
  rw [hXM]
  exact BitVec.extractLsb'_append_extractLsb'

theorem accX_append (x : BitVec 9) (m : BitVec 24) (r : BitVec 23) : (x ++ m ++ r).extractLsb' 47 9 = x := by
  rw [BitVec.extractLsb'_append_eq_of_le (by decide)]
  exact BitVec.extractLsb'_append_eq_left

theorem accM_append (x : BitVec 9) (m : BitVec 24) (r : BitVec 23) : (x ++ m ++ r).extractLsb' 23 24 = m := by
  rw [BitVec.extractLsb'_append_eq_of_le (by decide)]
  exact BitVec.extractLsb'_append_eq_right

theorem accR_append (x : BitVec 9) (m : BitVec 24) (r : BitVec 23) : (x ++ m ++ r).extractLsb' 0 23 = r :=
  BitVec.extractLsb'_append_eq_right

/-! ## A data word moved in -/

/-- D × 2^23 is the word in M with nine copies of its sign above it and zeros below, for both have the same signed value. -/
theorem placed_eq_append (d : BitVec 24) : placed d = (if d.msb then BitVec.allOnes 9 else 0#9) ++ d ++ 0#23 := by
  have hsign : (if d.msb then BitVec.allOnes 9 else 0#9) ++ d = d.signExtend 33 := (BitVec.signExtend_eq_append_of_le (by decide)).symm
  have hval : (d.signExtend 33 ++ 0#23).toInt = d.toInt * 2 ^ 23 := by
    rw [BitVec.toInt_append_zero, BitVec.toInt_signExtend_of_le (by decide), Int.mul_comm]
  rw [hsign, placed, ← hval]
  exact BitVec.ofInt_toInt

/-! ## Raw writes -/

theorem setRawField_X (a : BitVec 56) (d : BitVec 24) : setRawField 2 a d = d.extractLsb' 0 9 ++ a.extractLsb' 0 47 := rfl

theorem setRawField_M (a : BitVec 56) (d : BitVec 24) : setRawField 1 a d = a.extractLsb' 47 9 ++ d ++ a.extractLsb' 0 23 := rfl

theorem setRawField_R (a : BitVec 56) (d : BitVec 24) : setRawField 0 a d = a.extractLsb' 23 33 ++ d.extractLsb' 0 23 := rfl

/-- Raw writes of R, M and X, in this order, leave nothing of what the accumulator held. -/
theorem setRawField_all (a : BitVec 56) (x m r : BitVec 24) :
    setRawField 2 (setRawField 1 (setRawField 0 a r) m) x = x.extractLsb' 0 9 ++ m ++ r.extractLsb' 0 23 := by
  have hR : (setRawField 0 a r).extractLsb' 0 23 = r.extractLsb' 0 23 := BitVec.extractLsb'_append_eq_right
  have hMR (y : BitVec 9) : (y ++ m ++ r.extractLsb' 0 23).extractLsb' 0 47 = m ++ r.extractLsb' 0 23 := by
    rw [BitVec.append_assoc]
    exact BitVec.extractLsb'_append_eq_right
  rw [setRawField_X, setRawField_M, hR, hMR, BitVec.append_assoc]
  rfl

/-! ## Raw reads -/

theorem rawField_X (a : BitVec 56) : rawField 2 a = (a.extractLsb' 47 9).signExtend 24 := rfl

theorem rawField_M (a : BitVec 56) : rawField 1 a = a.extractLsb' 23 24 := rfl

theorem rawField_R (a : BitVec 56) : rawField 0 a = (a.extractLsb' 0 23).setWidth 24 := rfl

theorem rawField_X_low (a : BitVec 56) : (rawField 2 a).extractLsb' 0 9 = a.extractLsb' 47 9 := by
  rw [rawField_X, BitVec.signExtend_eq_append_of_le (by decide)]
  exact BitVec.extractLsb'_append_eq_right

theorem rawField_R_low (a : BitVec 56) : (rawField 0 a).extractLsb' 0 23 = a.extractLsb' 0 23 := by
  rw [rawField_R, BitVec.extractLsb'_setWidth_of_le (by decide), BitVec.extractLsb'_eq_self]

/-- Three raw reads and three raw writes, whatever the accumulator holds before the writes. -/
theorem setRawField_all_rawField (a b : BitVec 56) :
    setRawField 2 (setRawField 1 (setRawField 0 b (rawField 0 a)) (rawField 1 a)) (rawField 2 a) = a := by
  rw [setRawField_all, rawField_X_low, rawField_M, rawField_R_low]
  exact accFields_append a

/-! ## The obligation -/

/-- Settles O35: each field is read off the concatenation that a move or a raw write makes. -/
theorem accumulatorFieldsKeepTheirBits : Obligations.AccumulatorFieldsKeepTheirBits := by
  intro a b d
  refine ⟨?placed, ⟨?writeX, BitVec.extractLsb'_append_eq_right⟩, ⟨accM_append .., accX_append .., accR_append ..⟩,
    ⟨?writeR, BitVec.extractLsb'_append_eq_left⟩, ⟨?readX, rawField_M a, ?readR⟩, setRawField_all_rawField a b⟩
  case placed =>
    rw [placed_eq_append]
    exact ⟨accM_append .., accX_append .., accR_append ..⟩
  case writeX =>
    rw [BitVec.setWidth_eq_extractLsb' (by decide)]
    exact BitVec.extractLsb'_append_eq_left
  case writeR =>
    rw [BitVec.setWidth_eq_extractLsb' (by decide)]
    exact BitVec.extractLsb'_append_eq_right
  case readX => rw [rawField_X, BitVec.toInt_signExtend_of_le (by decide)]
  case readR => rw [rawField_R, BitVec.toNat_setWidth_of_le (by decide)]

end Sys2Proof.Machine
end

section
/-!
PROOF. Start-up (R436 to R463): the directory, the image header, segments, DONE and the entry to user mode.
-/
namespace Sys2Proof

/-- A key that is kept reads as before. -/
theorem SMap.get_keep {α : Type} (m : SMap α) {p : Nat → Bool} {k : Nat} (d : α) (h : p k = true) : (m.keep p).get k d = m.get k d := by
  induction m with
  | nil => rfl
  | cons e m ih =>
    rw [SMap.keep] at ih ⊢
    by_cases hp : p e.1 = true
    · rw [List.filter_cons_of_pos (a := e) hp, SMap.get, SMap.get, ih]
    · have hk : e.1 ≠ k := fun hk => hp (hk ▸ h)
      rw [List.filter_cons_of_neg (a := e) hp, SMap.get, if_neg hk, ih]

end Sys2Proof

namespace Sys2Proof.Machine

/-! ## Fields of words -/

theorem testBit_wfld (w : Word) (lo n j : Nat) : (wfld w lo n).testBit j = (decide (j < n) && wbit w (lo + j)) := by
  rw [wfld, Nat.testBit_mod_two_pow, Nat.testBit_div_two_pow, Nat.add_comm j]
  rfl

/-- Two fields of `n` bits agree when their bits do. -/
theorem wfld_congr {v w : Word} {lo n : Nat} (h : ∀ j < n, wbit v (lo + j) = wbit w (lo + j)) : wfld v lo n = wfld w lo n := by
  refine Nat.eq_of_testBit_eq fun j => ?_
  rw [testBit_wfld, testBit_wfld]
  by_cases hj : j < n
  · rw [h j hj]
  · simp [hj]

theorem wbit_wsetBit_other (w : Word) {i j : Nat} (b : Bool) (h : j ≠ i) : wbit (wsetBit w i b) j = wbit w j := by
  have hb : (BitVec.ofNat 32 (2 ^ i)).getLsbD j = false := by
    rw [BitVec.getLsbD_ofNat, Nat.testBit_two_pow_of_ne (Ne.symm h), Bool.and_false]
  cases b with
  | false =>
    rw [wsetBit, if_neg Bool.false_ne_true, wbit, wbit, BitVec.getLsbD_and, BitVec.getLsbD_not, hb]
    by_cases hj : j < 32
    · simp [hj]
    · simp [BitVec.getLsbD_of_ge w j (by omega)]
  | true => rw [wsetBit, if_pos rfl, wbit, wbit, BitVec.getLsbD_or, hb, Bool.or_false]

/-- A word is what lies above a field, the field, and what lies below. -/
theorem toNat_fields (w : Word) (lo n : Nat) :
    w.toNat = 2 ^ lo * (2 ^ n * (w.toNat / 2 ^ lo / 2 ^ n) + wfld w lo n) + w.toNat % 2 ^ lo := by
  rw [wfld, Nat.div_add_mod, Nat.div_add_mod]

/-- The bits of a word with a field set. -/
theorem wbit_wset (w : Word) {lo n i : Nat} (v : Nat) (hi : i < 32) :
    wbit (wset w lo n v) i = if lo ≤ i ∧ i < lo + n then v.testBit (i - lo) else wbit w i := by
  have hset : w.toNat - wfld w lo n * 2 ^ lo + v % 2 ^ n * 2 ^ lo =
      2 ^ lo * (2 ^ n * (w.toNat / 2 ^ lo / 2 ^ n) + v % 2 ^ n) + w.toNat % 2 ^ lo := by
    have h := toNat_fields w lo n
    rw [Nat.mul_add] at h ⊢
    rw [Nat.mul_comm (wfld w lo n), Nat.mul_comm (v % 2 ^ n)]
    omega
  have hlow : w.toNat % 2 ^ lo < 2 ^ lo := Nat.mod_lt _ (Nat.two_pow_pos lo)
  have hfld : v % 2 ^ n < 2 ^ n := Nat.mod_lt _ (Nat.two_pow_pos n)
  rw [wset, hset, wbit, BitVec.getLsbD_ofNat, decide_eq_true hi, Bool.true_and, Nat.testBit_two_pow_mul_add _ hlow,
    Nat.testBit_two_pow_mul_add _ hfld, Nat.testBit_mod_two_pow, Nat.testBit_mod_two_pow, Nat.testBit_div_two_pow, Nat.testBit_div_two_pow]
  by_cases hlo : i < lo
  · simp [hlo, Nat.not_le.mpr hlo, wbit, BitVec.getLsbD]
  · by_cases hn : i < lo + n
    · simp [hlo, Nat.le_of_not_lt hlo, hn, show i - lo < n by omega]
    · simp [hlo, hn, show ¬ i - lo < n by omega, show i - lo - n + n + lo = i by omega, wbit, BitVec.getLsbD]

/-! ## Fields of registers -/

theorem fld_congr {s t : State} {k : Nat} (h : t.rd k = s.rd k) (lo n : Nat) : t.fld k lo n = s.fld k lo n := congrArg (wfld · lo n) h

theorem bit_congr {s t : State} {k : Nat} (h : t.rd k = s.rd k) (i : Nat) : t.bit k i = s.bit k i := congrArg (wbit · i) h

theorem fld_setFld_self (s : State) (k : Nat) {lo n : Nat} (v : Nat) (h : lo + n ≤ 32) : (s.setFld k lo n v).fld k lo n = v % 2 ^ n := by
  refine Nat.eq_of_testBit_eq fun j => ?_
  rw [State.fld, State.setFld, rd_wr_self, testBit_wfld, Nat.testBit_mod_two_pow]
  by_cases hj : j < n
  · rw [wbit_wset _ _ (by omega), if_pos ⟨by omega, by omega⟩, Nat.add_sub_cancel_left]
  · simp [hj]

theorem bit_setFld_other (s : State) (k : Nat) {lo n i : Nat} (v : Nat) (hi : i < 32) (h : i < lo ∨ lo + n ≤ i) :
    (s.setFld k lo n v).bit k i = s.bit k i := by
  rw [State.bit, State.setFld, rd_wr_self, wbit_wset _ _ hi, if_neg (by omega), State.bit]

/-- A field keeps its value when another field of its register is set. -/
theorem fld_setFld_other (s : State) (k : Nat) {lo n lo' n' : Nat} (v : Nat) (hw : lo' + n' ≤ 32) (h : lo' + n' ≤ lo ∨ lo + n ≤ lo') :
    (s.setFld k lo n v).fld k lo' n' = s.fld k lo' n' :=
  wfld_congr fun j hj => bit_setFld_other s k v (i := lo' + j) (by omega) (by omega)

theorem bit_setBit_other (s : State) (k : Nat) {i j : Nat} (b : Bool) (h : j ≠ i) : (s.setBit k i b).bit k j = s.bit k j := by
  rw [State.bit, State.setBit, rd_wr_self, wbit_wsetBit_other _ _ h, State.bit]

theorem fld_setBit_other (s : State) (k : Nat) {lo n i : Nat} (b : Bool) (h : i < lo ∨ lo + n ≤ i) : (s.setBit k i b).fld k lo n = s.fld k lo n :=
  wfld_congr fun j hj => bit_setBit_other s k b (j := lo + j) (by omega)

theorem bootState_setBootState (s : State) {n : Nat} (h : n < 16) : (s.setBootState n).bootState = n :=
  (fld_setFld_self s _ n (by decide)).trans (Nat.mod_eq_of_lt h)

theorem boot_setBoot (s : State) (f : Boot → Boot) : (s.setBoot f).boot = f s.boot := rfl

theorem setBoot_setBoot (s : State) (f g : Boot → Boot) : (s.setBoot f).setBoot g = s.setBoot (fun b => g (f b)) := rfl

theorem rd_setBoot (s : State) (f : Boot → Boot) (k : Nat) : (s.setBoot f).rd k = s.rd k := rfl

theorem boot_setBootState (s : State) (n : Nat) : (s.setBootState n).boot = s.boot := State.setFld_boot ..

theorem rd_foldl {α : Type} {f : State → α → State} {k : Nat} (l : List α) (s : State) (h : ∀ t, ∀ a ∈ l, (f t a).rd k = t.rd k) :
    (l.foldl f s).rd k = s.rd k :=
  List.foldlRecOn l f (motive := fun t => t.rd k = s.rd k) rfl fun t ht a ha => (h t a ha).trans ht

/-! ## What leaves start-up's own state alone -/

/-- Severity and code of a record. -/
def Raised.kind (x : Raised) : Nat × Nat := (x.sev, x.code)

/-- CFG_STAT, the log of slots and the other registers of HD's configuration unit are in `t` as in `s`, and every record that `s` raised
is still there, but for its flags. -/
structure SparesCfg (s t : State) : Prop where
  regs : ∀ o < 4096, t.rd (regKey 4 0x0E 0 o) = s.rd (regKey 4 0x0E 0 o)
  raised : s.raised.map Raised.kind <+: t.raised.map Raised.kind

theorem SparesCfg.refl (s : State) : SparesCfg s s := ⟨fun _ _ => rfl, List.prefix_rfl⟩

theorem SparesCfg.trans {s t u : State} (h : SparesCfg s t) (k : SparesCfg t u) : SparesCfg s u :=
  ⟨fun o ho => (k.regs o ho).trans (h.regs o ho), h.raised.trans k.raised⟩

theorem SparesCfg.foldl_mem {α : Type} {f : State → α → State} (l : List α) (s : State) (h : ∀ t, ∀ a ∈ l, SparesCfg t (f t a)) :
    SparesCfg s (l.foldl f s) :=
  List.foldlRecOn l f (motive := SparesCfg s) (.refl s) fun t ht a ha => ht.trans (h t a ha)

theorem SparesCfg.foldl {α : Type} {f : State → α → State} (h : ∀ t a, SparesCfg t (f t a)) (l : List α) (s : State) : SparesCfg s (l.foldl f s) :=
  SparesCfg.foldl_mem l s fun t a _ => h t a

theorem SparesCfg.stat {s t : State} (h : SparesCfg s t) : t.rd Reg.CFG_STAT = s.rd Reg.CFG_STAT := h.regs 0 (by decide)

theorem SparesCfg.bootState {s t : State} (h : SparesCfg s t) : t.bootState = s.bootState := fld_congr h.stat 0 4

theorem SparesCfg.mem_raised {s t : State} (h : SparesCfg s t) {x : Nat × Nat} (hx : x ∈ s.raised.map Raised.kind) : x ∈ t.raised.map Raised.kind :=
  h.raised.subset hx

/-- The registers stay as they are and nothing is raised. -/
theorem sparesCfg_of_eq {s t : State} (hc : t.csr = s.csr) (hr : t.raised = s.raised) : SparesCfg s t :=
  ⟨fun _ _ => by rw [State.rd, State.rd, hc], hr ▸ List.prefix_rfl⟩

theorem sparesCfg_setBoot (s : State) (f : Boot → Boot) : SparesCfg s (s.setBoot f) := sparesCfg_of_eq rfl rfl

theorem sparesCfg_setSec (s : State) (f : Security → Security) : SparesCfg s (s.setSec f) := sparesCfg_of_eq rfl rfl

theorem sparesCfg_raise (s : State) (sev code die unit inst : Nat) (late : Bool) : SparesCfg s (s.raise sev code die unit inst late) :=
  ⟨fun _ _ => rfl, by simp [State.raise]⟩

theorem sparesCfg_flagLast (s : State) (flags : Nat) : SparesCfg s (s.flagLast flags) := by
  refine ⟨fun _ _ => rfl, ?_⟩
  rcases List.eq_nil_or_concat s.raised with h | ⟨l, x, h⟩ <;> simp [State.flagLast, h, Raised.kind]

theorem sparesCfg_wr_of_ne (s : State) {k : Nat} (w : Word) (h : ∀ o < 4096, regKey 4 0x0E 0 o ≠ k) : SparesCfg s (s.wr k w) :=
  ⟨fun o ho => rd_wr_other (h o ho), List.prefix_rfl⟩

theorem sparesCfg_wr (s : State) {k : Nat} (w : Word) (h : keyUnit k ≠ 0x0E) : SparesCfg s (s.wr k w) :=
  sparesCfg_wr_of_ne s w fun _ ho e => h ((congrArg keyUnit e.symm).trans (keyUnit_regKey ho (by decide) (by decide)))

theorem sparesCfg_setBit (s : State) {k : Nat} (i : Nat) (b : Bool) (h : keyUnit k ≠ 0x0E) : SparesCfg s (s.setBit k i b) := sparesCfg_wr s _ h

theorem sparesCfg_setFld (s : State) {k : Nat} (lo n v : Nat) (h : keyUnit k ≠ 0x0E) : SparesCfg s (s.setFld k lo n v) := sparesCfg_wr s _ h

theorem keyUnit_ne_cfg {d u i o : Nat} (hi : i < 4096) (ho : o < 4096) (hu : u < 32) (h : u ≠ 0x0E) : keyUnit (regKey d u i o) ≠ 0x0E := by
  rwa [keyUnit_regKey ho hi hu]

/-- A write of a register keeps what two states have in common. -/
theorem SparesCfg.wr {s t : State} (h : SparesCfg s t) (k : Nat) (w : Word) : SparesCfg (s.wr k w) (t.wr k w) := by
  refine ⟨fun o ho => ?_, h.raised⟩
  by_cases e : regKey 4 0x0E 0 o = k
  · rw [e, rd_wr_self, rd_wr_self]
  · rw [rd_wr_other e, rd_wr_other e, h.regs o ho]

theorem SparesCfg.setBootState {s t : State} (h : SparesCfg s t) (n : Nat) : SparesCfg (s.setBootState n) (t.setBootState n) := by
  rw [State.setBootState, State.setBootState, State.setFld, State.setFld, h.stat]
  exact h.wr _ _

/-! ## What a failed slot leaves alone -/

theorem sparesCfg_haltFacet (s : State) (die p : Nat) (dbg frz : Bool) : SparesCfg s (s.haltFacet die p dbg frz) := by
  unfold State.haltFacet State.facetRest
  dsimp only
  repeat' split
  all_goals exact ⟨fun _ _ => rfl, by simp [State.facetRunRecord, State.raise, State.setFacet]⟩

theorem sparesCfg_freezeFollows (s : State) : SparesCfg s s.freezeFollows := by
  unfold State.freezeFollows
  dsimp only
  generalize (s.csr.filter _).map _ = l
  exact (SparesCfg.foldl (fun t key => sparesCfg_haltFacet t ..) l s).trans (sparesCfg_of_eq rfl rfl)

theorem sparesCfg_firstError (s : State) (q code : Nat) : SparesCfg s (s.firstError q code) := by
  unfold State.firstError
  dsimp only
  split
  · exact .refl s
  · exact sparesCfg_wr s _ (keyUnit_ne_cfg (by decide) (by decide) (by decide) (by decide))

theorem keyUnit_qstat (s : State) (q : Nat) : keyUnit (s.qstat q) ≠ 0x0E := keyUnit_ne_cfg (instOf_lt q) (by decide) (by decide) (by decide)

theorem sparesCfg_peerLost (s : State) (q code : Nat) : SparesCfg s (s.peerLost q code) := by
  have h (x : Queue) : SparesCfg s (((s.setQueue q x).flag (s.qstat q) 27).firstError q code) :=
    have hq : SparesCfg s (s.setQueue q x) := sparesCfg_of_eq rfl rfl
    (hq.trans (sparesCfg_setBit _ _ _ (keyUnit_qstat s q))).trans (sparesCfg_firstError ..)
  unfold State.peerLost
  dsimp only
  split
  case h_5 => exact .refl s
  all_goals exact h _

theorem sparesCfg_peersLost (s : State) (code : Nat) (hit : Nat → Queue → Bool) : SparesCfg s (s.peersLost code hit) := by
  unfold State.peersLost
  exact (SparesCfg.foldl (fun t q => sparesCfg_peerLost t q code) _ s).trans (SparesCfg.foldl (fun t _ => sparesCfg_raise t ..) _ _)

/-- A selection of registers that takes the configuration unit of HD spares it. -/
theorem sparesCfg_keep {s t : State} {p : Nat → Bool} (hp : ∀ o < 4096, p (regKey 4 0x0E 0 o) = true) (hc : t.csr = s.csr.keep p)
    (hr : t.raised = s.raised) : SparesCfg s t :=
  ⟨fun o ho => by rw [State.rd, State.rd, hc, SMap.get_keep _ _ (hp o ho)], hr ▸ List.prefix_rfl⟩

/-- The registers of CD lie past those of HD, whatever the core. -/
theorem sparesCfg_setBit_CORE_RC (s : State) (n i : Nat) (b : Bool) : SparesCfg s (s.setBit (Reg.CORE_RC n) i b) := by
  refine sparesCfg_wr_of_ne s _ fun o ho => ?_
  rw [Reg.CORE_RC, regKey, regKey]
  omega

theorem sparesCfg_cdDown (s : State) : SparesCfg s s.cdDown := by
  have hp := sparesCfg_peersLost s 10 fun q _ => decide (s.qowner q < 6)
  unfold State.cdDown
  dsimp only
  generalize s.peersLost 10 (fun q _ => decide (s.qowner q < 6)) = u at hp
  generalize ((List.range 6).map fun i => u.bit (Reg.CORE_RC i) 4).zipIdx = keep
  have hrc (v : State) : SparesCfg v (keep.foldl (fun s e => s.setBit (Reg.CORE_RC e.2) 4 e.1) v) := by
    refine SparesCfg.foldl (fun t e => ?_) keep v
    exact sparesCfg_setBit_CORE_RC t e.2 4 e.1
  have hdown (v : State) : SparesCfg v (v.setDie 5 1).freezeFollows :=
    (sparesCfg_of_eq rfl rfl : SparesCfg v (v.setDie 5 1)).trans (sparesCfg_freezeFollows _)
  have hstatus (v : State) : SparesCfg v (v.setBit Reg.CC_STATUS 0 u.userMode) := sparesCfg_setBit v 0 _ (by decide)
  have hdie : ∀ o < 4096, (keyDie (regKey 4 0x0E 0 o) != 5) = true := fun o ho => by
    rw [keyDie_regKey ho (by decide) (by decide)]
    rfl
  refine .trans (.trans (.trans (.trans ?_ (hstatus _)) (sparesCfg_setBoot _ _)) (hrc _)) (hdown _)
  exact hp.trans (sparesCfg_keep (p := fun k => keyDie k != 5) hdie rfl rfl)

/-- A change of what decides the safe state carries the pads over it and changes nothing else (R161 to R164). -/
theorem withStates_pads (s : State) (dies : List Nat) (f : State → State) :
    ∃ m, s.withStates dies f = { f s with pins := { (f s).pins with pads := m } } := by
  unfold State.withStates
  dsimp only
  generalize f s = s'
  refine List.foldlRecOn dies _ (motive := fun t : State => ∃ m, t = { s' with pins := { s'.pins with pads := m } }) ⟨s'.pins.pads, rfl⟩
    fun t ht die _ => ?_
  refine List.foldlRecOn _ _ (motive := fun t : State => ∃ m, t = { s' with pins := { s'.pins with pads := m } }) ht fun u hu p _ => ?_
  obtain ⟨m, rfl⟩ := hu
  unfold State.leaveState
  dsimp only
  repeat' split
  all_goals exact ⟨_, rfl⟩

theorem setSafe_pads (s : State) (f : SafeCauses → SafeCauses) :
    ∃ m, s.setSafe f = { s with pins := { s.pins with safe := f s.pins.safe, pads := m } } := withStates_pads s _ _

theorem sparesCfg_setSafe (s : State) (f : SafeCauses → SafeCauses) : SparesCfg s (s.setSafe f) := by
  obtain ⟨m, hm⟩ := setSafe_pads s f
  rw [hm]
  exact sparesCfg_of_eq rfl rfl

theorem sparesCfg_configFailed (s : State) : SparesCfg (s.setBootState 7) s.configFailed :=
  ((sparesCfg_setSafe _ _).trans (sparesCfg_cdDown _)).trans ((sparesCfg_setBoot _ _).trans (sparesCfg_raise ..))

theorem sparesCfg_wipe (s : State) : SparesCfg s s.wipe := by
  refine sparesCfg_keep (fun o ho => ?_) rfl rfl
  rw [keptByWipe, keyDie_regKey ho (by decide) (by decide), keyUnit_regKey ho (by decide) (by decide)]
  decide

theorem sparesCfg_drawKeyZero (s : State) : SparesCfg s s.drawKeyZero := by
  have hload (v : State) : SparesCfg v (v.setBit Reg.MPE_KSTAT_LO 0 true) := sparesCfg_setBit v 0 true (by decide)
  have hgrant (v : State) : SparesCfg v ([0, 1, 2, 3, 4, 5, 8].foldl (fun s a => s.setBit (Reg.MPE_AGKID_LO a) 0 true) v) := by
    refine SparesCfg.foldl_mem _ _ fun t a ha => sparesCfg_setBit t 0 true ?_
    have h8 : a ≤ 8 := by revert a; decide
    exact keyUnit_ne_cfg (by decide) (by omega) (by decide) (by decide)
  unfold State.drawKeyZero
  dsimp only
  generalize hv : State.drawn _ = v
  have hsec : SparesCfg s v := sparesCfg_of_eq (by rw [← hv]; rfl) (by rw [← hv]; rfl)
  exact (hsec.trans (hload v)).trans (hgrant _)

/-! ## Failed slots (R457) -/

/-- The entry of the slot log that a failure takes: 4 for an image of the TAP. -/
def State.logSlot (s : State) : Nat := if s.bit Reg.CFG_STAT 6 then 4 else min (s.fld Reg.CFG_STAT 8 3 - 1) 3

/-- The word a failure leaves in its entry. -/
def State.logWord (s : State) (code sub : Nat) : Word :=
  BitVec.ofNat 32 (code + sub * 16 + s.fld Reg.CFG_STAT 4 2 * 256 + b2n s.boot.stream * 1024 + 2048 + s.fld Reg.CFG_STAT 16 11 * 4096)

/-- The state start-up goes on in after a failure: the next slot is due, or CONFIG_FAILED. -/
def State.afterFailure (s : State) : Nat := if s.bit Reg.CFG_STAT 6 = true ∨ s.boot.left = [] then 7 else 2

/-- A failure's entry in the log and its code in CFG_STAT. -/
def State.logged (s : State) (code sub : Nat) : State := (s.wr (Reg.CFG_LOG s.logSlot) (s.logWord code sub)).setFld Reg.CFG_STAT 12 4 code

/-- The record of a failure, its flags not stated. -/
def State.failureRaised (s : State) (code : Nat) : State :=
  let t := s.raise 4 (errCode 15 (code + 1)) 4 0x0E 0
  (t.flagLast (t.freeNat 16)).drawn

/-- The image is given up, with a wipe once it streamed (R459). -/
def State.imageDropped (s : State) (wiped : Bool) : State :=
  if wiped then s.wipe.drawKeyZero else s.setBoot (fun b => { b with header := none })

theorem slotFailed_eq (s : State) (code sub : Nat) :
    s.slotFailed code sub =
      let t := ((s.logged code sub).failureRaised code).imageDropped s.boot.stream
      if s.bit Reg.CFG_STAT 6 = true ∨ t.boot.left = [] then t.configFailed else t.setBootState 2 := rfl

theorem sparesCfg_failureRaised (s : State) (code : Nat) : SparesCfg s (s.failureRaised code) :=
  ((sparesCfg_raise ..).trans (sparesCfg_flagLast ..)).trans (sparesCfg_of_eq rfl rfl)

theorem sparesCfg_imageDropped (s : State) (wiped : Bool) : SparesCfg s (s.imageDropped wiped) := by
  cases wiped with
  | false => exact sparesCfg_of_eq rfl rfl
  | true => exact (sparesCfg_wipe s).trans (sparesCfg_drawKeyZero _)

/-- The slots still to try outlive the image. -/
theorem left_imageDropped (s : State) (wiped : Bool) : (s.imageDropped wiped).boot.left = s.boot.left := by cases wiped <;> rfl

/-- Of start-up's registers a failed slot changes its entry of the log, the code and the state alone, and no record is lost. -/
theorem sparesCfg_slotFailed (s : State) (code sub : Nat) :
    SparesCfg ((s.logged code sub).setBootState s.afterFailure) (s.slotFailed code sub) := by
  have ht := (sparesCfg_failureRaised (s.logged code sub) code).trans (sparesCfg_imageDropped _ s.boot.stream)
  have hl : (((s.logged code sub).failureRaised code).imageDropped s.boot.stream).boot.left = s.boot.left := left_imageDropped ..
  rw [slotFailed_eq, State.afterFailure]
  generalize ((s.logged code sub).failureRaised code).imageDropped s.boot.stream = t at ht hl ⊢
  dsimp only
  rw [hl]
  split
  · exact (ht.setBootState 7).trans (sparesCfg_configFailed t)
  · exact ht.setBootState 2

theorem logSlot_lt (s : State) : s.logSlot < 5 := by
  unfold State.logSlot
  split <;> omega

theorem CFG_LOG_ne_CFG_STAT (n : Nat) : Reg.CFG_LOG n ≠ Reg.CFG_STAT := by
  rw [Reg.CFG_LOG, Reg.CFG_STAT, regKey, regKey]
  omega

/-- CFG_STAT as a failure leaves it, before start-up goes on. -/
theorem stat_logged (s : State) (code sub : Nat) : (s.logged code sub).rd Reg.CFG_STAT = (s.setFld Reg.CFG_STAT 12 4 code).rd Reg.CFG_STAT := by
  rw [State.logged, State.setFld, State.setFld, rd_wr_self, rd_wr_self, rd_wr_other (CFG_LOG_ne_CFG_STAT _).symm]

/-- A failed slot leaves its code in CFG_STAT. -/
theorem code_slotFailed (s : State) {code : Nat} (sub : Nat) (h : code < 16) : (s.slotFailed code sub).fld Reg.CFG_STAT 12 4 = code := by
  have hset : (s.setFld Reg.CFG_STAT 12 4 code).fld Reg.CFG_STAT 12 4 = code :=
    (fld_setFld_self s _ code (by decide)).trans (Nat.mod_eq_of_lt h)
  calc (s.slotFailed code sub).fld Reg.CFG_STAT 12 4
    _ = ((s.logged code sub).setBootState s.afterFailure).fld Reg.CFG_STAT 12 4 := fld_congr (sparesCfg_slotFailed s code sub).stat 12 4
    _ = (s.logged code sub).fld Reg.CFG_STAT 12 4 := fld_setFld_other _ _ _ (by decide) (by decide)
    _ = code := (fld_congr (stat_logged s code sub) 12 4).trans hset

/-- A failed slot leaves `late` as it was. -/
theorem late_slotFailed (s : State) (code sub : Nat) : (s.slotFailed code sub).bit Reg.CFG_STAT 7 = s.bit Reg.CFG_STAT 7 :=
  calc (s.slotFailed code sub).bit Reg.CFG_STAT 7
    _ = ((s.logged code sub).setBootState s.afterFailure).bit Reg.CFG_STAT 7 := bit_congr (sparesCfg_slotFailed s code sub).stat 7
    _ = (s.logged code sub).bit Reg.CFG_STAT 7 := bit_setFld_other _ _ _ (by decide) (by decide)
    _ = (s.setFld Reg.CFG_STAT 12 4 code).bit Reg.CFG_STAT 7 := bit_congr (stat_logged s code sub) 7
    _ = s.bit Reg.CFG_STAT 7 := bit_setFld_other _ _ _ (by decide) (by decide)

/-- With slots left an image of NVM gives way to the next. -/
theorem afterFailure_next {s : State} (h6 : s.bit Reg.CFG_STAT 6 = false) (hl : s.boot.left ≠ []) : s.afterFailure = 2 := by
  rw [State.afterFailure, h6, if_neg (by simp [hl])]

theorem bootState_slotFailed (s : State) (code sub : Nat) : (s.slotFailed code sub).bootState = s.afterFailure := by
  have h : s.afterFailure < 16 := by
    unfold State.afterFailure
    split <;> decide
  rw [(sparesCfg_slotFailed s code sub).bootState, bootState_setBootState _ h]

/-- The low byte of a log word is the code and the sub-code. -/
theorem logWord_low (s : State) {code sub : Nat} (hc : code < 16) (hs : sub < 16) : wfld (s.logWord code sub) 0 8 = code + 16 * sub := by
  rw [wfld, State.logWord, BitVec.toNat_ofNat]
  omega

/-- A failed slot leaves its code and sub-code in its entry of the log. -/
theorem log_slotFailed (s : State) {code sub : Nat} (hc : code < 16) (hs : sub < 16) :
    (s.slotFailed code sub).fld (Reg.CFG_LOG s.logSlot) 0 8 = code + 16 * sub := by
  have hn := logSlot_lt s
  have hreg : (s.slotFailed code sub).rd (Reg.CFG_LOG s.logSlot) = s.logWord code sub := by
    rw [Reg.CFG_LOG, (sparesCfg_slotFailed s code sub).regs (0x010 + 4 * s.logSlot) (by omega), ← Reg.CFG_LOG, State.setBootState, State.setFld,
      rd_wr_other (CFG_LOG_ne_CFG_STAT _), State.logged, State.setFld, rd_wr_other (CFG_LOG_ne_CFG_STAT _), rd_wr_self]
  rw [State.fld, hreg, logWord_low s hc hs]

theorem mem_raised_slotFailed (s : State) (code sub : Nat) {x : Nat × Nat} (h : x ∈ s.raised.map Raised.kind) :
    x ∈ (s.slotFailed code sub).raised.map Raised.kind := (sparesCfg_slotFailed s code sub).mem_raised h

/-! ## The directory (R440, R441, R462) -/

/-- Start-up as it comes to the directory: Bezel's first keys drawn, the log cleared, `jtag` taken. -/
def State.atDirectory (s : State) : State := ((List.range 5).foldl (fun s k => s.wr (Reg.CFG_LOG k) 0) s.bezelBoot).setBit Reg.CFG_NEXT 4 false

theorem sparesCfg_bezelBoot (s : State) : SparesCfg s s.bezelBoot := by
  unfold State.bezelBoot
  dsimp only
  split
  · exact (sparesCfg_drawKeyZero s).trans (sparesCfg_setSec _ _)
  · exact sparesCfg_drawKeyZero s

theorem CFG_NEXT_ne_CFG_LOG {k : Nat} (h : k < 5) : Reg.CFG_NEXT ≠ Reg.CFG_LOG k := by
  rw [Reg.CFG_NEXT, Reg.CFG_LOG, regKey, regKey]
  omega

/-- What CFG_NEXT asks for is still there once the log is cleared. -/
theorem next_logsCleared (s : State) :
    ((List.range 5).foldl (fun s k => s.wr (Reg.CFG_LOG k) 0) s.bezelBoot).rd Reg.CFG_NEXT = s.rd Reg.CFG_NEXT :=
  (rd_foldl _ _ fun _ _ hk => rd_wr_other (CFG_NEXT_ne_CFG_LOG (List.mem_range.mp hk))).trans ((sparesCfg_bezelBoot s).regs 0x024 (by decide))

theorem jtag_atDirectory (s : State) : s.atDirectory.bit Reg.CFG_NEXT 4 = false := bit_setBit_self _ _ _ (by decide)

theorem named_atDirectory (s : State) : s.atDirectory.bit Reg.CFG_NEXT 2 = s.bit Reg.CFG_NEXT 2 :=
  (bit_setBit_other _ _ _ (by decide)).trans (bit_congr (next_logsCleared s) 2)

theorem nvmReads_eq (s : State) (l : List Nat) :
    s.nvmReads l = s.setBoot (fun b => { b with reads := l.map (nvmPlace (s.bit Reg.CFG_STRAP 0)) }) := rfl

theorem rd_nvmReads (s : State) (l : List Nat) (k : Nat) : (s.nvmReads l).rd k = s.rd k := rfl

section directory
variable {s : State} (hp : s.clk.por = false) (hb : s.bootState < 2)
include hp hb

/-- With `jtag` set the image comes through the TAP. -/
theorem directoryRead_jtag (c0 c1 : Option Directory) (hj : s.bit Reg.CFG_NEXT 4 = true) :
    s.directoryRead c0 c1 = (s.atDirectory.setBootState 2).setBoot (fun b => { b with jtag := true }) := by
  have hj' := (bit_congr (next_logsCleared s) 4).trans hj
  simp only [State.directoryRead, hp, hj', Nat.not_le.mpr hb, decide_false, Bool.or_self, Bool.false_eq_true, if_false, if_true]
  rfl

/-- Without a valid copy the directory itself fails. -/
theorem directoryRead_none {c0 c1 : Option Directory} (hj : s.bit Reg.CFG_NEXT 4 = false) (hd : chosenCopy c0 c1 = none) :
    s.directoryRead c0 c1 = ((s.atDirectory.nvmReads [0x0, 0x10000]).setBootState 1).slotFailed 1 0 := by
  have hj' := (bit_congr (next_logsCleared s) 4).trans hj
  simp only [State.directoryRead, hp, hj', hd, Nat.not_le.mpr hb, decide_false, Bool.or_self, Bool.false_eq_true, if_false]
  rfl

/-- The slots of the copy in use are tried in their order when CFG_NEXT names none. -/
theorem directoryRead_slots {c0 c1 : Option Directory} {d : Directory} (hj : s.bit Reg.CFG_NEXT 4 = false) (hn : s.bit Reg.CFG_NEXT 2 = false)
    (hd : chosenCopy c0 c1 = some d) (hs : slotTrials d ≠ []) :
    s.directoryRead c0 c1 = ((s.atDirectory.nvmReads [0x0, 0x10000]).setBootState 2).setBoot (fun b => { b with slots := d.slots, left := slotTrials d }) := by
  have hj' := (bit_congr (next_logsCleared s) 4).trans hj
  have hn' : (s.atDirectory.nvmReads [0x0, 0x10000]).bit Reg.CFG_NEXT 2 = false :=
    (bit_congr (rd_nvmReads ..) 2).trans ((named_atDirectory s).trans hn)
  rw [State.atDirectory] at hn'
  simp only [State.directoryRead, hp, hj', hn', hd, hs, Nat.not_le.mpr hb, decide_false, Bool.or_self, Bool.false_and, Bool.false_eq_true, if_false]
  rfl

end directory

theorem next_setBootState (s : State) (n : Nat) : (s.setBootState n).rd Reg.CFG_NEXT = s.rd Reg.CFG_NEXT := rd_wr_other (by decide)

theorem bootState_setBoot (s : State) (f : Boot → Boot) : (s.setBoot f).bootState = s.bootState := (sparesCfg_setBoot s f).bootState

theorem jtag_waiting (s : State) (f : Boot → Boot) : ((s.atDirectory.setBootState 2).setBoot f).bit Reg.CFG_NEXT 4 = false :=
  (bit_congr (rd_setBoot ..) 4).trans ((bit_congr (next_setBootState ..) 4).trans (jtag_atDirectory s))

/-! ## The image header (R442 to R447, R462) -/

theorem foldl_setBoot {α : Type} {g : State → α → State} (l : List α) (s : State) (f : Boot → Boot)
    (h : ∀ t a, g (t.setBoot f) a = (g t a).setBoot f) : l.foldl g (s.setBoot f) = (l.foldl g s).setBoot f := List.foldl_hom (State.setBoot · f) h

theorem setFld_setBoot (s : State) (k lo n v : Nat) (f : Boot → Boot) : (s.setBoot f).setFld k lo n v = (s.setFld k lo n v).setBoot f := rfl

theorem setBit_setBoot (s : State) (k i : Nat) (b : Bool) (f : Boot → Boot) : (s.setBoot f).setBit k i b = (s.setBit k i b).setBoot f := rfl

theorem wr_setBoot (s : State) (k : Nat) (w : Word) (f : Boot → Boot) : (s.setBoot f).wr k w = (s.wr k w).setBoot f := rfl

theorem applyHeader_setBoot (s : State) (f : Boot → Boot) (h : Header) : (s.setBoot f).applyHeader h = (s.applyHeader h).setBoot f := by
  unfold State.applyHeader
  dsimp only
  rw [setBit_setBoot, setFld_setBoot, foldl_setBoot (h := ?ddr), foldl_setBoot (h := ?cxl), foldl_setBoot (h := ?link),
    foldl_setBoot (h := ?area), foldl_setBoot (h := ?lane), wr_setBoot, wr_setBoot]
  case link =>
    intro t p
    split
    · rfl
    · rw [setFld_setBoot]
  case ddr => exact fun t c => by rw [wr_setBoot, setBit_setBoot]
  case cxl => exact fun t p => by rw [setFld_setBoot, setBit_setBoot]
  case area => exact fun t e => by rw [setFld_setBoot, setFld_setBoot]
  case lane => exact fun t m => by rw [setFld_setBoot, setFld_setBoot]

theorem headerFieldsOk_setBoot (s : State) (f : Boot → Boot) (h : Header) : (s.setBoot f).headerFieldsOk h = s.headerFieldsOk h := rfl

/-- The checks of a header do not look at what start-up holds. -/
theorem headerFault_setBoot (s : State) (f : Boot → Boot) (h : Header) (size : Nat) : (s.setBoot f).headerFault h size = s.headerFault h size := by
  rw [State.headerFault, State.headerFault, applyHeader_setBoot, headerFieldsOk_setBoot]
  rfl

theorem boot_applyHeader (s : State) (h : Header) : (s.applyHeader h).boot = s.boot := by
  have hs : s.applyHeader h = (s.applyHeader h).setBoot (fun _ => s.boot) := applyHeader_setBoot s (fun _ => s.boot) h
  rw [hs]
  rfl

/-- The first `n` instances of a unit, each changed outside start-up's registers. -/
theorem SparesCfg.foldl_range {n : Nat} {f : State → Nat → State} (hn : n ≤ 4096) (h : ∀ t, ∀ i < 4096, SparesCfg t (f t i)) (s : State) :
    SparesCfg s ((List.range n).foldl f s) :=
  SparesCfg.foldl_mem _ _ fun t _ hi => h t _ (Nat.lt_of_lt_of_le (List.mem_range.mp hi) hn)

/-- Of start-up's registers a header sets the version and the counter alone. -/
theorem applyHeader_spares (s : State) (h : Header) :
    ∃ t, SparesCfg s t ∧ s.applyHeader h = (t.wr Reg.CFG_IMGVER (BitVec.ofNat 32 h.ver)).wr Reg.CFG_ARB (BitVec.ofNat 32 h.arb) := by
  have hddr {i o : Nat} (hi : i < 4096) (ho : o < 4096) := keyUnit_ne_cfg (d := 4) (u := 0x10) hi ho (by decide) (by decide)
  have hcxl {i o : Nat} (hi : i < 4096) (ho : o < 4096) := keyUnit_ne_cfg (d := 4) (u := 0x11) hi ho (by decide) (by decide)
  have hmpe {i o : Nat} (hi : i < 4096) (ho : o < 4096) := keyUnit_ne_cfg (d := 4) (u := 0x12) hi ho (by decide) (by decide)
  have hd2d (d : Nat) {i o : Nat} (hi : i < 4096) (ho : o < 4096) := keyUnit_ne_cfg (d := d) (u := 0x0C) hi ho (by decide) (by decide)
  refine ⟨_, ?_, rfl⟩
  dsimp only
  refine .trans (.trans (.trans (.trans (.trans ?first (SparesCfg.foldl_range (by decide) ?ddr _)) (SparesCfg.foldl_range (by decide) ?cxl _))
    (SparesCfg.foldl_range (by decide) ?link _)) (SparesCfg.foldl_range (by decide) ?area _)) (SparesCfg.foldl_range (by decide) ?lane _)
  case first => exact (sparesCfg_setBit s 3 h.spineB (by decide)).trans (sparesCfg_setFld _ 0 2 h.ddrIlv (by decide))
  case ddr => exact fun t c hc => (sparesCfg_wr t _ (hddr hc (by decide))).trans (sparesCfg_setBit _ _ _ (hddr hc (by decide)))
  case cxl => exact fun t p hp => (sparesCfg_setFld t _ _ _ (hcxl hp (by decide))).trans (sparesCfg_setBit _ _ _ (hcxl hp (by decide)))
  case link =>
    intro t p hp
    split
    · exact .refl t
    · exact sparesCfg_setFld t _ _ _ (hcxl hp (by decide))
  case area => exact fun t e he => (sparesCfg_setFld t _ _ _ (hmpe he (by decide))).trans (sparesCfg_setFld _ _ _ _ (hmpe he (by decide)))
  case lane => exact fun t m hm => (sparesCfg_setFld t _ _ _ (hd2d _ hm (by decide))).trans (sparesCfg_setFld _ _ _ _ (hd2d _ hm (by decide)))

theorem stat_applyHeader (s : State) (h : Header) : (s.applyHeader h).rd Reg.CFG_STAT = s.rd Reg.CFG_STAT := by
  obtain ⟨t, ht, he⟩ := applyHeader_spares s h
  rw [he, rd_wr_other (by decide), rd_wr_other (by decide), ht.stat]

theorem version_applyHeader (s : State) (h : Header) : (s.applyHeader h).rd Reg.CFG_IMGVER = BitVec.ofNat 32 h.ver := by
  obtain ⟨t, -, he⟩ := applyHeader_spares s h
  rw [he, rd_wr_other (by decide), rd_wr_self]

/-- The end of Phase A starts DDR5 training and changes nothing else. -/
theorem phaseADone_mem (s : State) : ∃ m, s.phaseADone = { s with mem := m, boot := { s.boot with phaseA := true } } := by
  unfold State.phaseADone
  refine List.foldlRecOn _ _ (motive := fun t : State => ∃ m, t = { s with mem := m, boot := { s.boot with phaseA := true } }) ⟨s.mem, rfl⟩
    fun t ht c _ => ?_
  obtain ⟨m, rfl⟩ := ht
  split
  · exact ⟨_, rfl⟩
  · exact ⟨_, rfl⟩

/-- The clocks of an image are set and it is measured (R452 step 5, R512). -/
def State.imageDue (s : State) (h : Header) : State :=
  ((s.setBit Reg.CLK_STAT 16 true).setFld Reg.CLK_STAT 19 4 15).measure (List.replicate 48 0) h

theorem boot_imageDue (s : State) (h : Header) : (s.imageDue h).boot = s.boot := by
  rw [State.imageDue, State.measure, State.setSec_boot, State.setFld_boot, State.setBit_boot]

theorem sparesCfg_imageDue (s : State) (h : Header) : SparesCfg s (s.imageDue h) := by
  have hclk : SparesCfg s (s.setBit Reg.CLK_STAT 16 true) := sparesCfg_setBit s 16 true (by decide)
  have hpll (t : State) : SparesCfg t (t.setFld Reg.CLK_STAT 19 4 15) := sparesCfg_setFld t 19 4 15 (by decide)
  rw [State.imageDue, State.measure]
  exact (hclk.trans (hpll _)).trans (sparesCfg_setSec _ _)

/-- What loading begins with: the first segment of the image is due, the slots that remain are kept. -/
structure Loading (s : State) (h : Header) (t : State) : Prop where
  state : t.bootState = 3
  header : t.boot.header = some h
  left : t.boot.left = s.boot.left
  seg : t.boot.seg = 0
  version : t.rd Reg.CFG_IMGVER = BitVec.ofNat 32 h.ver
  tap : t.bit Reg.CFG_STAT 6 = s.bit Reg.CFG_STAT 6

theorem Loading.phaseADone {s : State} {h : Header} {t : State} (l : Loading s h t) : Loading s h t.phaseADone := by
  obtain ⟨m, hm⟩ := phaseADone_mem t
  rw [hm]
  exact ⟨l.state, l.header, l.left, l.seg, l.version, l.tap⟩

/-- The image's state in `State.startImage`, its stream not begun. -/
def Boot.begin (b : Boot) (h : Header) : Boot :=
  { b with header := some h, secure := h.secure, arb := h.arb, keySrc := h.keySrc, cdSize := h.cdSize, stream := false, phaseA := false,
           phase := 0, order := [], seg := 0, held := [], bankA := [], bankB := [] }

theorem startImage_eq (s : State) (h : Header) :
    s.startImage h =
      let t := (((s.applyHeader h).imageDue h).setBoot (Boot.begin · h)).setBootState 3
      match h.table with
      | e :: _ => if segPhase e = 0 then t else t.phaseADone
      | [] => t := rfl

theorem loading_begun (s : State) (h : Header) : Loading s h ((((s.applyHeader h).imageDue h).setBoot (Boot.begin · h)).setBootState 3) := by
  have hbegun := (sparesCfg_imageDue (s.applyHeader h) h).trans (sparesCfg_setBoot _ (Boot.begin · h))
  have hver := (hbegun.regs 0x028 (by decide)).trans (version_applyHeader s h)
  have hstat := hbegun.stat.trans (stat_applyHeader s h)
  have hboot : (((s.applyHeader h).imageDue h).setBoot (Boot.begin · h)).boot = s.boot.begin h := by
    rw [boot_setBoot, boot_imageDue, boot_applyHeader]
  generalize ((s.applyHeader h).imageDue h).setBoot (Boot.begin · h) = t at hver hstat hboot
  refine ⟨bootState_setBootState t (by decide), ?_, ?_, ?_, (rd_wr_other (by decide)).trans hver,
    (bit_setFld_other t _ _ (by decide) (by decide)).trans (bit_congr hstat 6)⟩
  all_goals
    rw [boot_setBootState, hboot]
    rfl

theorem loading_startImage (s : State) (h : Header) : Loading s h (s.startImage h) := by
  have l := loading_begun s h
  rw [startImage_eq]
  generalize (((s.applyHeader h).imageDue h).setBoot (Boot.begin · h)).setBootState 3 = t at l ⊢
  dsimp only
  split
  · split
    · exact l
    · exact l.phaseADone
  · exact l

/-- A slot counts as tried, up to five. -/
def State.tried (s : State) : State := s.setFld Reg.CFG_STAT 8 3 (min (s.fld Reg.CFG_STAT 8 3 + 1) 5)

/-- Slot `n` is the one tried, `rest` those still to try. -/
def State.trying (s : State) (n : Nat) (rest : List Nat) : State :=
  ((s.setBoot (fun b => { b with left := rest })).setFld Reg.CFG_STAT 4 2 n).tried

theorem boot_trying (s : State) (n : Nat) (rest : List Nat) : (s.trying n rest).boot = { s.boot with left := rest } := rfl

theorem next_trying (s : State) (n : Nat) (rest : List Nat) : (s.trying n rest).rd Reg.CFG_NEXT = s.rd Reg.CFG_NEXT :=
  (rd_wr_other (by decide)).trans (rd_wr_other (by decide))

/-- A trial leaves CFG_STAT.jtag. -/
theorem tap_trying (s : State) (n : Nat) (rest : List Nat) : (s.trying n rest).bit Reg.CFG_STAT 6 = s.bit Reg.CFG_STAT 6 :=
  (bit_setFld_other _ _ _ (by decide) (by decide)).trans (bit_setFld_other _ _ _ (by decide) (by decide))

/-- Where the header of slot `n` stands, and how long the slot is. -/
def State.slotOffset (s : State) (n : Nat) : Nat := match s.boot.slots[n]? with | some e => e.offset | none => 0
def State.slotSize (s : State) (n : Nat) : Nat := match s.boot.slots[n]? with | some e => e.size | none => 0

theorem slotSize_eq (s : State) (n : Nat) : s.slotSize n = (s.boot.slots[n]?.map (·.size)).getD 0 := by
  rw [State.slotSize]
  cases s.boot.slots[n]? <;> rfl

/-- What the checks of a header come to (R443). -/
def State.headerOutcome (s : State) (h : Header) : Option (Nat × Nat) → State
  | some (code, sub) => s.slotFailed code sub
  | none => s.startImage h

/-- CFG_NEXT names slot `n` for this trial alone, which is now taken. -/
def State.nextTaken (s : State) (n : Nat) : State :=
  if s.bit Reg.CFG_NEXT 2 && s.bit Reg.CFG_NEXT 3 && s.fld Reg.CFG_NEXT 0 2 == n then s.setBit Reg.CFG_NEXT 2 false else s

theorem nextTaken_unnamed {s : State} (n : Nat) (h : s.bit Reg.CFG_NEXT 2 = false) : s.nextTaken n = s := by
  rw [State.nextTaken, h, Bool.false_and, Bool.false_and, if_neg Bool.false_ne_true]

theorem headerFault_nvmReads (s : State) (l : List Nat) (h : Header) (size : Nat) : (s.nvmReads l).headerFault h size = s.headerFault h size :=
  headerFault_setBoot s _ h size

theorem slotSize_nvmReads (s : State) (l : List Nat) (n : Nat) : (s.nvmReads l).slotSize n = s.slotSize n := rfl

theorem slotSize_trying (s : State) (m : Nat) (rest : List Nat) (n : Nat) : (s.trying m rest).slotSize n = s.slotSize n := by
  rw [State.slotSize, boot_trying, State.slotSize]

theorem slotOffset_trying (s : State) (m : Nat) (rest : List Nat) (n : Nat) : (s.trying m rest).slotOffset n = s.slotOffset n := by
  rw [State.slotOffset, boot_trying, State.slotOffset]

theorem headerRead_eq (s : State) (h : Header) :
    s.headerRead h =
      if s.bootState ≠ 2 ∨ s.boot.jtag then s
      else match s.boot.left with
        | [] => s
        | n :: rest =>
          let t := (s.trying n rest).nextTaken n
          let u := t.nvmReads [t.slotOffset n]
          u.headerOutcome h (u.headerFault h (u.slotSize n)) := rfl

section header
variable {s : State} {n : Nat} {rest : List Nat} (hb : s.bootState = 2) (hj : s.boot.jtag = false) (hl : s.boot.left = n :: rest)
  (hn : s.bit Reg.CFG_NEXT 2 = false)
include hb hj hl hn

/-- The header of the slot that is due is read and checked, when CFG_NEXT names none. -/
theorem headerRead_due (h : Header) :
    s.headerRead h =
      ((s.trying n rest).nvmReads [s.slotOffset n]).headerOutcome h ((s.trying n rest).headerFault h (s.slotSize n)) := by
  have hn' : (s.trying n rest).bit Reg.CFG_NEXT 2 = false := (bit_congr (next_trying ..) 2).trans hn
  have hgo : ¬ (s.bootState ≠ 2 ∨ s.boot.jtag = true) := by simp [hb, hj]
  rw [headerRead_eq, if_neg hgo, hl]
  dsimp only
  rw [nextTaken_unnamed n hn', headerFault_nvmReads, slotOffset_trying, slotSize_nvmReads, slotSize_trying]

/-- A header that passes is loaded. -/
theorem headerRead_good {h : Header} (hf : (s.trying n rest).headerFault h (s.slotSize n) = none) :
    Loading ((s.trying n rest).nvmReads [s.slotOffset n]) h (s.headerRead h) := by
  rw [headerRead_due hb hj hl hn, hf]
  exact loading_startImage _ h

/-- A header that fails a check fails its slot. -/
theorem headerRead_bad {h : Header} {code sub : Nat} (hf : (s.trying n rest).headerFault h (s.slotSize n) = some (code, sub)) :
    s.headerRead h = ((s.trying n rest).nvmReads [s.slotOffset n]).slotFailed code sub := by
  rw [headerRead_due hb hj hl hn, hf, State.headerOutcome]

end header

theorem left_reading (s : State) (n : Nat) (rest l : List Nat) : ((s.trying n rest).nvmReads l).boot.left = rest := by
  rw [nvmReads_eq, boot_setBoot, boot_trying]

theorem tap_reading (s : State) (n : Nat) (rest l : List Nat) : ((s.trying n rest).nvmReads l).bit Reg.CFG_STAT 6 = s.bit Reg.CFG_STAT 6 :=
  (bit_congr (rd_nvmReads ..) 6).trans (tap_trying s n rest)

/-! ## Segments (R448 to R451, R458) -/

/-- `late` is set and recorded at severity 2 where a segment's data came as its limit passed. -/
def LateShown (g : SegIn) (t : State) : Prop := g.late = true → t.bit Reg.CFG_STAT 7 = true ∧ (2, 0x0001) ∈ t.raised.map Raised.kind

theorem LateShown.spares {g : SegIn} {s t : State} (h : LateShown g s) (k : SparesCfg s t) : LateShown g t := fun hg =>
  let ⟨hbit, hrec⟩ := h hg
  ⟨(bit_congr k.stat 7).trans hbit, k.mem_raised hrec⟩

theorem LateShown.slotFailed {g : SegIn} {s : State} (h : LateShown g s) (code sub : Nat) : LateShown g (s.slotFailed code sub) := fun hg =>
  let ⟨hbit, hrec⟩ := h hg
  ⟨(late_slotFailed s code sub).trans hbit, mem_raised_slotFailed s code sub hrec⟩

/-- Data that came late is flagged and recorded. -/
def State.lateSeen (s : State) (g : SegIn) : State := if g.late then (s.flag Reg.CFG_STAT 7).lateArrival 4 0x0E 0 else s

/-- A segment's stream has begun. -/
def State.streamBegun (s : State) (h : Header) : State :=
  let t := (s.setFld Reg.CFG_STAT 16 11 s.boot.seg).setBoot (fun b => { b with stream := true })
  if t.boot.jtag then t else t.nvmReads [t.segmentAt h s.boot.seg]

/-- How far the order of segments has come with `e` (R448). -/
def Boot.orderKept (b : Boot) (e : SegEntry) : Boot :=
  { b with phase := segPhase e, order := if segPhase e = 1 then b.order.set e.die e.target 0 else b.order }
def State.orderKept (s : State) (e : SegEntry) : State := s.setBoot (Boot.orderKept · e)

theorem streamSegment_eq (s : State) (h : Header) (e : SegEntry) (g : SegIn) :
    s.streamSegment h e g =
      let t := (s.streamBegun h).lateSeen g
      if g.erased then t.slotFailed 9 0
      else if !g.sync then t.slotFailed 9 1
      else if !t.segmentFits e then t.slotFailed 10 0
      else
        let u := if segPhase e = 3 then (t.orderKept e).stepSeven h else t.orderKept e
        if !g.form ∨ (e.target < 7 ∧ g.bytes.length ≠ e.raw) then u.slotFailed 10 0 else u.placeSegment h e g s.boot.seg := rfl

theorem streamBegun_eq (s : State) (h : Header) :
    ∃ r, s.streamBegun h = (s.setFld Reg.CFG_STAT 16 11 s.boot.seg).setBoot (fun b => { b with stream := true, reads := r }) := by
  unfold State.streamBegun
  dsimp only
  generalize s.setFld Reg.CFG_STAT 16 11 s.boot.seg = t
  split
  · exact ⟨t.boot.reads, rfl⟩
  · rw [nvmReads_eq, setBoot_setBoot]
    exact ⟨_, rfl⟩

theorem boot_streamBegun (s : State) (h : Header) : ∃ r, (s.streamBegun h).boot = { s.boot with stream := true, reads := r } := by
  obtain ⟨r, hr⟩ := streamBegun_eq s h
  exact ⟨r, by rw [hr, boot_setBoot, State.setFld_boot]⟩

theorem bootState_streamBegun (s : State) (h : Header) : (s.streamBegun h).bootState = s.bootState := by
  obtain ⟨r, hr⟩ := streamBegun_eq s h
  rw [hr, (sparesCfg_setBoot _ _).bootState]
  exact fld_setFld_other s _ _ (by decide) (by decide)

theorem boot_lateSeen (s : State) (g : SegIn) : (s.lateSeen g).boot = s.boot := by
  unfold State.lateSeen
  split <;> rfl

theorem bootState_lateSeen (s : State) (g : SegIn) : (s.lateSeen g).bootState = s.bootState := by
  unfold State.lateSeen
  split
  · exact fld_setBit_other s _ _ (by decide)
  · rfl

theorem lateShown_lateSeen (s : State) (g : SegIn) : LateShown g (s.lateSeen g) := by
  intro hg
  rw [State.lateSeen, if_pos hg]
  refine ⟨bit_flag_self (s := s) (by decide), ?_⟩
  simp [State.lateArrival, State.raise, Raised.kind]

/-- What a segment's fit looks at is the order so far. -/
theorem segmentFits_congr {s t : State} (e : SegEntry) (hp : t.boot.phase = s.boot.phase) (ho : t.boot.order = s.boot.order) :
    t.segmentFits e = s.segmentFits e := by
  rw [State.segmentFits, State.segmentFits, hp, ho]

/-- A segment that begins to stream: start-up is where it was, and late data shows. -/
structure Streaming (s : State) (g : SegIn) (t : State) : Prop where
  state : t.bootState = s.bootState
  boot : ∃ r, t.boot = { s.boot with stream := true, reads := r }
  late : LateShown g t

theorem streaming_begun (s : State) (h : Header) (g : SegIn) : Streaming s g ((s.streamBegun h).lateSeen g) where
  state := (bootState_lateSeen _ g).trans (bootState_streamBegun s h)
  boot := by
    rw [boot_lateSeen]
    exact boot_streamBegun s h
  late := lateShown_lateSeen _ g

theorem Streaming.fits {s t : State} {g : SegIn} (h : Streaming s g t) (e : SegEntry) : t.segmentFits e = s.segmentFits e := by
  obtain ⟨r, hr⟩ := h.boot
  exact segmentFits_congr e (by rw [hr]) (by rw [hr])

/-- A segment of the table is due and nothing keeps it from streaming. -/
structure SegmentDue (s : State) (h : Header) (e : SegEntry) : Prop where
  state : s.bootState = 3
  header : s.boot.header = some h
  dies : s.boot.stream = true ∨ h.dieReq = 0
  entry : h.table[s.boot.seg]? = some e
  memory : segPhase e = 0 ∨ s.boot.memOk = true

/-- No die is missing that no image requires. -/
theorem dieMissing_none {s : State} {h : Header} (hh : s.boot.header = some h) (hd : h.dieReq = 0) (sub : Nat) : s.dieMissing sub = s := by
  simp [State.dieMissing, hh, hd]

theorem memoryReady_done {s : State} (h : Header) (hm : s.boot.memOk = true) : s.memoryReady h = s := by simp [State.memoryReady, hm]

theorem segmentReceive_due {s : State} {h : Header} {e : SegEntry} (d : SegmentDue s h e) (g : SegIn) :
    s.segmentReceive g = s.streamSegment h e g := by
  have hdies : (if s.boot.stream = true then s else s.dieMissing 0) = s := by
    rcases d.dies with hs | hr
    · rw [if_pos hs]
    · rw [dieMissing_none d.header hr, ite_self]
  unfold State.segmentReceive
  simp only [hdies, d.state, d.header, d.entry, ne_eq, not_true_eq_false, if_false]
  rcases d.memory with hp | hm
  · rw [if_pos hp]
  · simp [memoryReady_done h hm, d.state, hm]

/-- Nothing but erased cells, or no start of a segment, fails the slot (R458). -/
theorem streamSegment_stalled {s : State} (h : Header) (e : SegEntry) {g : SegIn} (hg : g.erased = true ∨ g.sync = false) :
    s.streamSegment h e g = ((s.streamBegun h).lateSeen g).slotFailed 9 (if g.erased then 0 else 1) := by
  rw [streamSegment_eq]
  cases he : g.erased with
  | true => rfl
  | false =>
    have hs : g.sync = false := hg.resolve_left (by simp [he])
    simp [hs]

/-! ### Facet and block memories -/

theorem facetImage8_facets (s : State) (die off : Nat) (b : List Byte) : ∃ x, s.facetImage8 die off b = { s with facets := x } := by
  unfold State.facetImage8
  dsimp only
  repeat' split
  all_goals exact ⟨_, rfl⟩

theorem facetImage_facets (s : State) (die off : Nat) (data : List Byte) : ∃ x, s.facetImage die off data = { s with facets := x } := by
  unfold State.facetImage
  refine List.foldlRecOn _ _ (motive := fun t : State => ∃ x, t = { s with facets := x }) ⟨s.facets, rfl⟩ fun t ht i _ => ?_
  obtain ⟨x, rfl⟩ := ht
  exact facetImage8_facets _ die _ _

theorem blockImages_fabric (s : State) (die addr : Nat) (data : List Byte) (l : List Nat) :
    ∃ x, l.foldl (fun s r => s.blockImage die r addr data) s = { s with fabric := x } := by
  refine List.foldlRecOn _ _ (motive := fun t : State => ∃ x, t = { s with fabric := x }) ⟨s.fabric, rfl⟩ fun t ht r _ => ?_
  obtain ⟨x, rfl⟩ := ht
  exact ⟨_, rfl⟩

/-- A segment for Facet or block memories is written there and nowhere else, and that cannot fail. -/
theorem writeTarget_memory (s : State) (h : Header) {e : SegEntry} (g : SegIn) (ht : e.target = 2 ∨ e.target = 3) :
    ∃ x y, s.writeTarget h e g = ({ s with facets := x, fabric := y }, none) := by
  unfold State.writeTarget
  rcases ht with ht | ht
  · simp only [ht]
    split
    · exact ⟨_, _, rfl⟩
    · obtain ⟨x, hx⟩ := facetImage_facets s e.die e.addr g.bytes
      exact ⟨x, _, by rw [hx]⟩
  · simp only [ht]
    split
    · exact ⟨_, _, rfl⟩
    · obtain ⟨y, hy⟩ := blockImages_fabric s e.die e.addr g.bytes (List.range 16)
      exact ⟨_, y, by rw [hy]⟩

theorem segPhase_memory {e : SegEntry} (ht : e.target = 2 ∨ e.target = 3) : segPhase e = 1 := by
  rcases ht with ht | ht <;> simp only [segPhase, ht]

/-- After a segment of Phase B at most its die reports ready. -/
theorem afterSegment_base (s : State) (h : Header) {e : SegEntry} (i : Nat) (hp : segPhase e = 1) :
    ∃ r, s.afterSegment h e i = { s with boot := { s.boot with ready := r } } := by
  unfold State.afterSegment State.reportReady
  have h2 : ¬ ((1 : Nat) = 2) := by decide
  simp only [hp, h2, false_and, true_and, if_false, Nat.one_ne_zero]
  repeat' split
  all_goals exact ⟨_, rfl⟩

/-- A verified segment of Facet or block memories, in its form and order, brings the next one (R449, R451). -/
theorem placeSegment_memory {s : State} (h : Header) {e : SegEntry} {g : SegIn} {i : Nat} (ht : e.target = 2 ∨ e.target = 3) (hg : g.tag = true)
    (hl : i + 1 = h.table.length → g.tail0 = true) :
    SparesCfg s (s.placeSegment h e g i) ∧ (s.placeSegment h e g i).boot.seg = i + 1 := by
  have hp := segPhase_memory ht
  obtain ⟨x, y, hw⟩ := writeTarget_memory s h g ht
  have hlast : ¬ (i + 1 = h.table.length ∧ (!g.tail0) = true) := by
    rintro ⟨hi, h0⟩
    simp [hl hi] at h0
  rw [State.placeSegment, hw]
  dsimp only
  rw [hg, if_neg (by decide), if_neg hlast, if_pos hp]
  generalize hc : ({ s with facets := x, fabric := y } : State).copyBase h e g.bytes = c
  have hsc : SparesCfg s c := by
    rw [← hc]
    exact sparesCfg_of_eq rfl rfl
  obtain ⟨r, hr⟩ := afterSegment_base (c.setBoot (fun b => { b with seg := i + 1 })) h i hp
  rw [hr]
  exact ⟨hsc.trans (sparesCfg_of_eq rfl rfl), rfl⟩

/-- A segment of Facet or block memories whose tag fails, fails the slot (R449). -/
theorem placeSegment_badTag {s : State} (h : Header) {e : SegEntry} {g : SegIn} (i : Nat) (ht : e.target = 2 ∨ e.target = 3) (hg : g.tag = false) :
    ∃ t, SparesCfg s t ∧ s.placeSegment h e g i = t.slotFailed 5 3 := by
  obtain ⟨x, y, hw⟩ := writeTarget_memory s h g ht
  refine ⟨{ s with facets := x, fabric := y }, sparesCfg_of_eq rfl rfl, ?_⟩
  rw [State.placeSegment, hw]
  dsimp only
  rw [hg, if_pos (by decide)]

/-- A segment of Facet or block memories that has its start, its form and its place in the order is written (R448, R449). -/
theorem streamSegment_memory {s : State} (h : Header) {e : SegEntry} {g : SegIn} (he : g.erased = false) (hs : g.sync = true) (hf : g.form = true)
    (hfit : s.segmentFits e = true) (ht : e.target = 2 ∨ e.target = 3) (hlen : g.bytes.length = e.raw) :
    s.streamSegment h e g = (((s.streamBegun h).lateSeen g).orderKept e).placeSegment h e g s.boot.seg := by
  have hfit' := ((streaming_begun s h g).fits e).trans hfit
  have hp := segPhase_memory ht
  rw [streamSegment_eq]
  simp [he, hs, hf, hfit', hp, hlen]

/-- A segment of Facet or block memories is received: verified, the next is due; with a bad tag, the slot fails. -/
theorem segmentReceive_memory {s : State} {h : Header} {e : SegEntry} (d : SegmentDue s h e) {g : SegIn} (he : g.erased = false)
    (hs : g.sync = true) (hf : g.form = true) (hfit : s.segmentFits e = true) (ht : e.target = 2 ∨ e.target = 3) (hlen : g.bytes.length = e.raw)
    (hl : s.boot.seg + 1 = h.table.length → g.tail0 = true) :
    (g.tag = true → (s.segmentReceive g).boot.seg = s.boot.seg + 1 ∧ (s.segmentReceive g).bootState = 3 ∧ LateShown g (s.segmentReceive g)) ∧
    (g.tag = false → (s.segmentReceive g).fld Reg.CFG_STAT 12 4 = 5 ∧ LateShown g (s.segmentReceive g)) := by
  obtain ⟨hstate, -, hlate⟩ := streaming_begun s h g
  have hkept := sparesCfg_setBoot ((s.streamBegun h).lateSeen g) (Boot.orderKept · e)
  rw [segmentReceive_due d, streamSegment_memory h he hs hf hfit ht hlen]
  refine ⟨fun hg => ?_, fun hg => ?_⟩
  · obtain ⟨hsp, hseg⟩ := placeSegment_memory (s := ((s.streamBegun h).lateSeen g).orderKept e) h ht hg hl
    exact ⟨hseg, (hkept.trans hsp).bootState.trans (hstate.trans d.state), hlate.spares (hkept.trans hsp)⟩
  · obtain ⟨t, hsp, hfail⟩ := placeSegment_badTag (s := ((s.streamBegun h).lateSeen g).orderKept e) h s.boot.seg ht hg
    rw [hfail]
    exact ⟨code_slotFailed t 3 (by decide), (hlate.spares (hkept.trans hsp)).slotFailed 5 3⟩

/-! ## DONE (R452) -/

theorem segmentTimeout_due {s : State} {h : Header} (hb : s.bootState = 3) (hh : s.boot.header = some h) (hs : s.boot.seg < h.table.length) :
    s.segmentTimeout = (s.setBoot (fun b => { b with stream := true })).slotFailed 9 3 := by
  simp [State.segmentTimeout, hb, hh, hs]

/-- The engines whose data areas start-up waits for have initialised. -/
def State.enginesReady (s : State) : Prop := ∀ e < 6, s.dataArea e ≠ 0 → (4 ≤ e ∨ (s.chan e).state ≠ .failed) → s.boot.trees.get e false = true

section done
variable {s : State} {h : Header} (hb : s.bootState = 3) (hh : s.boot.header = some h) (hs : s.boot.seg = h.table.length)
  (hm : s.boot.memOk = true) (he : s.enginesReady)
include hb hh hs hm he

/-- With the whole image in and the memories ready, the CXL data areas decide. -/
theorem doneRelease_due (fits : List Bool) :
    s.doneRelease fits =
      if (List.range 2).any (fun p => s.dataArea (4 + p) != 0 && !fits.getD p true) then s.slotFailed 11 1
      else (((List.range 4).foldl (fun s d => s.reportReady d) (s.stepSeven h)).setBoot (fun b => { b with done := true })).setBootState 5 := by
  have hall : ((List.range 6).filter (fun e => s.dataArea e != 0 && (decide (4 ≤ e) || (s.chan e).state != .failed))).all
      (fun e => s.boot.trees.get e false) = true := by
    rw [List.all_eq_true]
    intro e hmem
    obtain ⟨hlt, hen⟩ := List.mem_filter.mp hmem
    simp only [Bool.and_eq_true, Bool.or_eq_true, bne_iff_ne, decide_eq_true_eq] at hen
    exact he e (List.mem_range.mp hlt) hen.1 hen.2
  unfold State.doneRelease
  simp only [hh]
  rw [if_neg (by simp [hb, hs]), memoryReady_done h hm, if_neg (by simp [hb, hm, hall])]

end done

/-! ## The image of the TAP (R462) -/

/-- An image is taken from the TAP. -/
def State.tapTaken (s : State) : State :=
  ((s.setBoot (fun b => { b with jtag := true, errLow := false, done := false })).setBootState 2).setBit Reg.CFG_STAT 6 true

theorem jtagImage_eq (s : State) (h : Header) :
    s.jtagImage h =
      if s.session.ir ≠ 0x11 ∨ !s.hasScope 4 then s
      else if s.sec.lc = 3 ∨ s.sec.lc = 5 then s.raise 4 (errCode 15 13) 4 0x0E 0
      else if s.bootState = 7 ∨ (s.boot.jtag ∧ s.bootState = 2) then
        let t := (if s.dieState 5 = 1 then s.setDie 5 0 else s).tapTaken.tried
        t.headerOutcome h (t.headerFault h (2 ^ 32))
      else s := rfl

theorem jtagImage_noScope {s : State} (h : Header) (hoff : s.session.ir ≠ 0x11 ∨ s.hasScope 4 = false) : s.jtagImage h = s := by
  rw [jtagImage_eq, if_pos (hoff.imp id (by simp))]

section tap
variable {s : State} (h : Header) (hir : s.session.ir = 0x11) (hsc : s.hasScope 4 = true)
include hir hsc

/-- A device in the field or scrapped takes no image from the TAP, and records the attempt. -/
theorem jtagImage_closed (hlc : s.sec.lc = 3 ∨ s.sec.lc = 5) : s.jtagImage h = s.raise 4 (errCode 15 13) 4 0x0E 0 := by
  rw [jtagImage_eq, if_neg (by simp [hir, hsc]), if_pos hlc]

/-- After a failed start-up an image of the TAP is checked as a slot is. -/
theorem jtagImage_failed (hlc : ¬ (s.sec.lc = 3 ∨ s.sec.lc = 5)) (hb : s.bootState = 7) (hd : s.dieState 5 ≠ 1) :
    s.jtagImage h = s.tapTaken.tried.headerOutcome h (s.tapTaken.tried.headerFault h (2 ^ 32)) := by
  rw [jtagImage_eq, if_neg (by simp [hir, hsc]), if_neg hlc, if_pos (.inl hb), if_neg hd]

end tap

theorem tap_tapTaken (s : State) : s.tapTaken.tried.bit Reg.CFG_STAT 6 = true :=
  (bit_setFld_other _ _ _ (by decide) (by decide)).trans (bit_setBit_self _ _ _ (by decide))

/-! ## The NVM port (R463) -/

/-- A write of CFG_NVMCMD reaches the NVM port. -/
theorem regWrite_CFG_NVMCMD (s : State) (req : Nat) (w : Word) :
    (s.touched req Reg.CFG_NVMCMD).regWrite Reg.CFG_NVMCMD req w = s.nvmCommand w := by
  simp [Reg.CFG_NVMCMD, State.touched, State.regWrite, State.cfgWrite, keyUnit_regKey, keyOff_regKey, keyDie_regKey]

section nvm
variable {s : State} {r : Requester} (w : Word) (ha : s.admits r Reg.CFG_NVMCMD true = true)
include ha

theorem exec_nvmCommand_taken (h : s.bit Reg.CFG_NVMCMD 31 = false) :
    exec (.nvmCommand r w) s =
      .next (((s.wr Reg.CFG_NVMCMD ((w ||| 0x80000000) &&& 0x81FFFFFF)).setBoot (fun b => { b with nvm := [] })).wrote r Reg.CFG_NVMCMD) := by
  have hgo : wbit (w ||| 0x80000000) 31 = true := by simp [wbit]
  have hw : s.nvmCommand (w ||| 0x80000000) =
      ((s.wr Reg.CFG_NVMCMD ((w ||| 0x80000000) &&& 0x81FFFFFF)).setBoot (fun b => { b with nvm := [] }), .ok) := by
    simp only [State.nvmCommand, h, hgo, Bool.false_eq_true, if_false, if_true]
  exact congrArg Host.Outcome.next (regAccess_wrote single_CFG_NVMCMD ha ((regWrite_CFG_NVMCMD ..).trans hw))

theorem exec_nvmCommand_busy (h : s.bit Reg.CFG_NVMCMD 31 = true) : exec (.nvmCommand r w) s = .next (s.refusedWrite r Reg.CFG_NVMCMD) := by
  have hw : s.nvmCommand (w ||| 0x80000000) = (s, .refused) := by simp only [State.nvmCommand, h, if_true]
  exact congrArg Host.Outcome.next (regAccess_refused single_CFG_NVMCMD ha ((regWrite_CFG_NVMCMD ..).trans hw))

end nvm

/-- A read that finishes leaves its data in the FIFO. -/
theorem nvmComplete_read {s : State} (data : List Byte) (hb : s.bit Reg.CFG_NVMCMD 31 = true) (hr : s.bit Reg.CFG_NVMCMD 14 = false) :
    s.nvmComplete data = (s.setBit Reg.CFG_NVMCMD 31 false).setBoot (fun b => { b with nvm := data.take (min (s.fld Reg.CFG_NVMCMD 16 9) 256) }) := by
  have hr' : (s.setBit Reg.CFG_NVMCMD 31 false).bit Reg.CFG_NVMCMD 14 = false := (bit_setBit_other s _ _ (by decide)).trans hr
  have hlen : (s.setBit Reg.CFG_NVMCMD 31 false).fld Reg.CFG_NVMCMD 16 9 = s.fld Reg.CFG_NVMCMD 16 9 := fld_setBit_other s _ _ (by decide)
  simp only [State.nvmComplete, hb, hr', hlen, Bool.not_true, Bool.false_eq_true, if_false]

/-! ## Entry to user mode (R456) -/

theorem SparesCd.foldl_mem {α : Type} {f : State → α → State} (l : List α) (s : State) (h : ∀ t, ∀ a ∈ l, SparesCd t (f t a)) :
    SparesCd s (l.foldl f s) :=
  List.foldlRecOn l f (motive := SparesCd s) (.refl s) fun t ht a ha => ht.trans (h t a ha)

theorem sparesCd_takeDown (s : State) (die : Nat) {rg : Nat} (h : rg < 16) : SparesCd s (s.takeDown die rg) := by
  have hset (t : State) (p : Nat) (f : Facet) : SparesCd t (t.setFacet die p f) := ⟨rfl, rfl, rfl, rfl, rfl⟩
  have hstop : SparesCd s (s.stopFacets die rg true) := by
    unfold State.stopFacets
    exact SparesCd.foldl (fun t k => hset t _ _) _ s
  have hdisp (t : State) (d : Dispatcher) : SparesCd t (t.setDisp die rg d) := ⟨rfl, rfl, rfl, rfl, rfl⟩
  have hdrop (t : State) (n : Nat) : SparesCd t (t.count (Reg.FDSP_DROP die rg) n) :=
    sparesCd_wr t _ (CC_STATUS_ne_regKey (by decide) (by omega) (by decide) (by decide))
  exact hstop.trans ((hdisp _ _).trans (hdrop _ _))

theorem sparesCd_enableFacet (s : State) (die p : Nat) : SparesCd s (s.enableFacet die p) := by
  unfold State.enableFacet State.facetRest
  dsimp only
  repeat' split
  all_goals exact ⟨rfl, rfl, rfl, rfl, rfl⟩

/-- A Region that enters user mode touches its Facets, its boundary and its library record. -/
theorem sparesCd_enterRegion (s : State) {die rg : Nat} (hd : die < 4) (hr : rg < 16) : SparesCd s (s.enterRegion die rg) := by
  have hlib (t : State) (i : Nat) (b : Bool) : SparesCd t (t.setBit (libKey die rg) i b) :=
    sparesCd_setBit t i b (CC_STATUS_ne_regKey (by decide) (by decide) (by omega) (by decide))
  have hregion (t : State) (x : Region) : SparesCd t (t.setRegion die rg x) := ⟨rfl, rfl, rfl, rfl, rfl⟩
  have hrelease : SparesCd s (s.releaseInitial die rg) := ⟨rfl, rfl, rfl, rfl, rfl⟩
  unfold State.enterRegion
  split
  · exact ((sparesCd_takeDown s die hr).trans (hregion _ _)).trans (hlib _ _ _)
  · exact hrelease.trans (SparesCd.foldl (fun t j => sparesCd_enableFacet t die _) _ _)

theorem sparesCd_enterRegions (s : State) : SparesCd s s.enterRegions := by
  unfold State.enterRegions
  refine SparesCd.foldl_mem _ _ fun t die hdie => ?_
  have hd : die < 4 := by revert die; decide
  split
  · exact .refl t
  · exact SparesCd.foldl_mem _ _ fun u rg hrg => sparesCd_enterRegion u hd (List.mem_range.mp hrg)

/-- What comes before the Regions at DONE: the commit, the held records, `user_mode` and its report to the cores. -/
def State.doneSeen (s : State) : State :=
  let t := match s.boot.header with | some x => if x.commit then s.raiseArb 1 x.arb else s | none => s
  let u := (t.boot.held.foldl (fun s r => (s.asBezel r).1) t).setBoot (fun b => { b with held := [] })
  (u.setBit Reg.CC_STATUS 0 true).setBit Reg.CC_STATUS 3 true

theorem userMode_doneSeen (s : State) : s.doneSeen.userMode = true :=
  (bit_setBit_other _ _ _ (by decide)).trans (bit_setBit_self _ _ _ (by decide))

/-- The device is in user mode, `us` microseconds after start-up began. -/
def State.userEntered (s : State) (us : Nat) : State :=
  ((s.setSec (fun v => { v with ready := true })).setBootState 6).wr Reg.CFG_TIME (BitVec.ofNat 32 us)

theorem userModeEntry_eq (s : State) (us : Nat) :
    s.userModeEntry us =
      if s.bootState ≠ 5 then s
      else (s.doneSeen.enterRegions.setSafe (fun c => { c with startHold := false, failed := false })).userEntered us := rfl

theorem pins_userEntered (s : State) (us : Nat) : (s.userEntered us).pins = s.pins := by simp [State.userEntered, State.setBootState]

theorem ready_userEntered (s : State) (us : Nat) : (s.userEntered us).sec.ready = true := by
  simp [State.userEntered, State.setBootState, State.setSec]

theorem bootState_userEntered (s : State) (us : Nat) : (s.userEntered us).bootState = 6 :=
  (fld_congr (rd_wr_other (by decide)) 0 4).trans (bootState_setBootState _ (by decide))

theorem userMode_userEntered (s : State) (us : Nat) : (s.userEntered us).userMode = s.userMode :=
  bit_congr ((rd_wr_other (by decide)).trans (rd_wr_other (by decide))) 0

/-- User mode: the die reports it, Bezel takes commands, the pins are free and the time is in CFG_TIME. -/
theorem userModeEntry_done {s : State} (us : Nat) (hb : s.bootState = 5) :
    (s.userModeEntry us).bootState = 6 ∧ (s.userModeEntry us).userMode = true ∧ (s.userModeEntry us).sec.ready = true ∧
      (s.userModeEntry us).pins.safe.startHold = false ∧ (s.userModeEntry us).pins.safe.failed = false ∧
      (s.userModeEntry us).rd Reg.CFG_TIME = BitVec.ofNat 32 us := by
  have hu : s.doneSeen.enterRegions.userMode = true := (sparesCd_enterRegions _).userMode.trans (userMode_doneSeen s)
  obtain ⟨m, hm⟩ := setSafe_pads s.doneSeen.enterRegions (fun c => { c with startHold := false, failed := false })
  rw [userModeEntry_eq, if_neg (not_not_intro hb), pins_userEntered, userMode_userEntered, hm]
  generalize s.doneSeen.enterRegions = t at hu ⊢
  exact ⟨bootState_userEntered .., hu, ready_userEntered .., rfl, rfl, rd_wr_self ..⟩

/-! ## What a device accepts (R445) -/

theorem deviceOk_iff (s : State) (family device speed temp stepMin : Nat) :
    s.deviceOk family device speed temp stepMin = true ↔
      family = 0x4D4C ∧ device = 0x9440 ∧ stepMin ≤ 0xA1 ∧ speed ≤ s.grade ∧ (temp = 0 ∨ (temp = 1 ∧ s.gradeI = true)) := by
  simp only [State.deviceOk, Bool.and_eq_true, Bool.or_eq_true, beq_iff_eq, decide_eq_true_eq, and_assoc]

/-! ## The obligation -/

/-- Settles O52: clause by clause, each command by the equation of its step in the state the clause speaks of; a slot that fails by what
its log entry, the wipe and CONFIG_FAILED leave alone. -/
theorem startUpLoadsAnImage : Obligations.StartUpLoadsAnImage := by
  intro s r h
  refine ⟨fun c0 c1 hp hb => ⟨fun hj => ?tap, fun hj hn d hd hs => ?slots, fun hj hd => ?noDirectory⟩,
    fun n rest hb hj hl hn => ⟨fun hf => ?headerGood, fun code sub hf hc => ?headerBad⟩,
    fun g e hb hh hst hent hmem => ⟨fun he hsy hfm hfit htg hlen hlast => ⟨fun hg => ?verified, fun hg => ?badTag⟩, fun hg => ?stalled⟩,
    fun hb hh => ⟨fun hlt => ?timeout, fun fits hs hm he => ⟨fun hfits => ?done, fun hfits => ?tooSmall⟩⟩,
    fun hoff => ?noScope, fun hir hsc => ⟨fun hlc => ?deployed, fun h3 h5 hb hd hf => ?tapImage⟩,
    fun w ha => ⟨exec_nvmCommand_taken w ha, exec_nvmCommand_busy w ha⟩,
    fun data hb hr => congrArg Host.Outcome.next (nvmComplete_read data hb hr),
    fun us => ⟨fun hb => ?notDone, fun hb => ⟨_, rfl, userModeEntry_done us hb⟩⟩, deviceOk_iff ..⟩
  case tap =>
    refine ⟨_, congrArg Host.Outcome.next (directoryRead_jtag hp hb c0 c1 hj), ?_, rfl, jtag_waiting s _⟩
    exact (bootState_setBoot _ _).trans (bootState_setBootState _ (by decide))
  case slots =>
    refine ⟨_, congrArg Host.Outcome.next (directoryRead_slots hp hb hj hn hd hs), ?_, rfl, rfl⟩
    exact (bootState_setBoot _ _).trans (bootState_setBootState _ (by decide))
  case noDirectory => exact ⟨_, congrArg Host.Outcome.next (directoryRead_none hp hb hj hd), code_slotFailed _ 0 (by decide)⟩
  case headerGood =>
    rw [← slotSize_eq] at hf
    have l := headerRead_good hb hj hl hn hf
    exact ⟨_, rfl, l.state, l.header, l.left.trans (left_reading ..), l.seg, l.version⟩
  case headerBad =>
    rw [← slotSize_eq] at hf
    refine ⟨_, congrArg Host.Outcome.next (headerRead_bad hb hj hl hn hf), code_slotFailed _ sub hc, fun hrest _ h6 => ?_⟩
    exact (bootState_slotFailed ..).trans (afterFailure_next ((tap_reading ..).trans h6) (by rwa [left_reading]))
  case verified =>
    exact ⟨_, rfl, (segmentReceive_memory ⟨hb, hh, hst, hent, hmem⟩ he hsy hfm hfit htg hlen hlast).1 hg⟩
  case badTag =>
    exact ⟨_, rfl, (segmentReceive_memory ⟨hb, hh, hst, hent, hmem⟩ he hsy hfm hfit htg hlen hlast).2 hg⟩
  case stalled =>
    have heq := (segmentReceive_due ⟨hb, hh, hst, hent, hmem⟩ g).trans (streamSegment_stalled h e hg)
    refine ⟨_, _, congrArg Host.Outcome.next heq, code_slotFailed _ _ (by decide), logSlot_lt _, log_slotFailed _ (by decide) ?_,
      (streaming_begun s h g).late.slotFailed 9 _⟩
    split <;> decide
  case timeout =>
    exact ⟨_, _, congrArg Host.Outcome.next (segmentTimeout_due hb hh hlt), code_slotFailed _ 3 (by decide), logSlot_lt _,
      log_slotFailed _ (by decide) (by decide)⟩
  case done =>
    have hsmall : ¬ (List.range 2).any (fun p => s.dataArea (4 + p) != 0 && !fits.getD p true) = true := by
      simp only [List.any_eq_true, List.mem_range, Bool.and_eq_true, bne_iff_ne, Bool.not_eq_true', not_exists, not_and, Bool.not_eq_false]
      exact hfits
    have heq := (doneRelease_due hb hh hs hm he fits).trans (if_neg hsmall)
    exact ⟨_, congrArg Host.Outcome.next heq, bootState_setBootState _ (by decide), by rw [boot_setBootState, boot_setBoot]⟩
  case tooSmall =>
    have hsmall : (List.range 2).any (fun p => s.dataArea (4 + p) != 0 && !fits.getD p true) = true := by
      simpa only [List.any_eq_true, List.mem_range, Bool.and_eq_true, bne_iff_ne, Bool.not_eq_true'] using hfits
    have heq := (doneRelease_due hb hh hs hm he fits).trans (if_pos hsmall)
    exact ⟨_, congrArg Host.Outcome.next heq, code_slotFailed _ 1 (by decide)⟩
  case noScope => exact congrArg Host.Outcome.next (jtagImage_noScope h hoff)
  case deployed => exact congrArg Host.Outcome.next (jtagImage_closed h hir hsc hlc)
  case tapImage =>
    have heq := jtagImage_failed h hir hsc (not_or.mpr ⟨h3, h5⟩) hb hd
    have hpass : s.tapTaken.tried.headerFault h (2 ^ 32) = none := hf
    rw [hpass] at heq
    have l := loading_startImage s.tapTaken.tried h
    exact ⟨_, congrArg Host.Outcome.next heq, l.state, l.header, l.tap.trans (tap_tapTaken s)⟩
  case notDone => exact congrArg Host.Outcome.next ((userModeEntry_eq s us).trans (if_pos hb))

end Sys2Proof.Machine
end

section
/-!
PROOF. The device services of Bezel (R489, R498 to R501, R517 to R525): images, counters, OTP_SET, the life cycle and the sensors.
-/
namespace Sys2Proof.Machine

/-! ## Commands that run (R506, R510) -/

/-- `c` is the oldest command, and Bezel runs it: services are up, no wipe runs, and its channel may issue every code. -/
structure State.Serves (s : State) (c : BzCommand) : Prop where
  front : ∃ rest, s.sec.cmds = c :: rest
  ready : s.sec.ready = true
  notWiping : s.sec.wiping = false
  chan : c.chan < 2

theorem bzRun_front {s : State} {c : BzCommand} (h : s.Serves c) {op : Nat} (hop : c.op = op) (f : BzCommand → State → State) :
    s.bzRun op f = f c s := by
  obtain ⟨⟨rest, hfront⟩, hready, hwipe, hchan⟩ := h
  simp [State.bzRun, hfront, hop, hready, hwipe, Nat.not_le.mpr hchan]

/-! ## What a write to memory by an agent leaves alone -/

/-- Start-up's state and Bezel's are in `t` as in `s`. -/
structure SparesBezel (s t : State) : Prop where
  boot : t.boot = s.boot
  sec : t.sec = s.sec

theorem SparesBezel.refl (s : State) : SparesBezel s s := ⟨rfl, rfl⟩

theorem SparesBezel.trans {s t u : State} (h : SparesBezel s t) (k : SparesBezel t u) : SparesBezel s u :=
  ⟨k.boot.trans h.boot, k.sec.trans h.sec⟩

theorem SparesBezel.foldl {α : Type} {f : State → α → State} (h : ∀ t a, SparesBezel t (f t a)) (l : List α) (s : State) :
    SparesBezel s (l.foldl f s) :=
  List.foldlRecOn l f (motive := SparesBezel s) (.refl s) fun t ht a _ => ht.trans (h t a)

theorem SparesBezel.ite {s t u : State} {p : Prop} [Decidable p] (h : SparesBezel s t) (k : SparesBezel s u) : SparesBezel s (if p then t else u) := by
  split <;> assumption

/-- The same for a step that answers as well. -/
theorem SparesBezel.ite_fst {α : Type} {s : State} {x y : State × α} {p : Prop} [Decidable p] (h : SparesBezel s x.1) (k : SparesBezel s y.1) :
    SparesBezel s (if p then x else y).1 := by
  split <;> assumption

theorem sparesBezel_setEngine (s : State) (e : Nat) (x : Engine) : SparesBezel s (s.setEngine e x) := ⟨rfl, rfl⟩

theorem sparesBezel_flagErr (s : State) (key i sev code : Nat) : SparesBezel s (s.flagErr key i sev code) := by
  rw [flagErr_frame]
  exact ⟨rfl, rfl⟩

theorem sparesBezel_writeBack (s : State) (e level index : Nat) : SparesBezel s (s.writeBack e level index) := by
  rw [State.writeBack]
  refine .ite (.refl s) (.ite ?_ ?_)
  · exact (sparesBezel_setEngine s e _).trans (sparesBezel_flagErr ..)
  · exact sparesBezel_setEngine s e _

theorem sparesBezel_evict (s : State) (e : Nat) (blocks : List (Nat × Nat)) : SparesBezel s (s.evict e blocks) := by
  unfold State.evict
  refine SparesBezel.foldl (fun t b => ?_) blocks s
  exact (sparesBezel_writeBack t e b.1 b.2).trans (sparesBezel_setEngine (t.writeBack e b.1 b.2) e _)

theorem sparesBezel_makeRoom (s : State) (e : Nat) : SparesBezel s (s.makeRoom e) := by
  have hdrawn : SparesBezel s s.drawn := ⟨rfl, rfl⟩
  unfold State.makeRoom
  split
  · exact hdrawn
  · exact hdrawn.trans (sparesBezel_evict ..)

/-- Memory that answers what was written: the walk fetches the leaf block and finds no fault. -/
theorem sparesBezel_walk (s : State) (e p kid addr : Nat) (c : Consumer) : SparesBezel s (s.walk e p kid addr c .intact).1 := by
  unfold State.walk
  exact (sparesBezel_makeRoom s e).trans (sparesBezel_setEngine ..)

theorem sparesBezel_rawLine (s : State) (e i : Nat) : SparesBezel s (s.rawLine e i).1 := by
  unfold State.rawLine
  exact .ite_fst (.refl s) (.ite_fst ⟨rfl, rfl⟩ (.refl s))

theorem sparesBezel_mediaPoison (s : State) (e a : Nat) : SparesBezel s (s.mediaPoison e a false) := by
  have hcount (key : Nat) : SparesBezel s (s.count key 1) := ⟨rfl, rfl⟩
  unfold State.mediaPoison
  exact .ite ((hcount _).trans (sparesBezel_flagErr ..)) (.refl s)

/-- An alarm of an agent contains nothing. -/
theorem sparesBezel_integrityAlarm (s : State) (e cls kid addr agent : Nat) (spec : Bool) (taint : Nat) :
    SparesBezel s (s.integrityAlarm e cls kid addr (.agent agent) spec taint) := by
  have hlog (x : Engine) : SparesBezel s ((s.setEngine e x).flag (Reg.MPE_STAT e) 5) := ⟨rfl, rfl⟩
  have hcount (t : State) : SparesBezel t (t.count (Reg.MPE_ALMCNT e) 1) := ⟨rfl, rfl⟩
  unfold State.integrityAlarm
  exact ((SparesBezel.ite (sparesBezel_setEngine ..) (hlog _)).trans (hcount _)).trans (sparesBezel_flagErr ..)

theorem sparesBezel_checkedRead (s : State) (e i kid mode addr agent : Nat) (cached : Bool) :
    SparesBezel s (s.checkedRead e i kid mode addr (.agent agent) .intact cached).1 := by
  have hkey : SparesBezel s (s.keyError e) :=
    have hcount : SparesBezel s (s.count (Reg.MPE_KEYCNT e) 1) := ⟨rfl, rfl⟩
    hcount.trans (sparesBezel_flagErr ..)
  have hdrawn : SparesBezel s (s.drawnN 8) := ⟨rfl, rfl⟩
  have hpending (x : Engine) : SparesBezel s ((s.setEngine e x).drawnN 8) := ⟨rfl, rfl⟩
  unfold State.checkedRead
  refine .ite_fst (.refl s) (.ite_fst hkey (.ite_fst (sparesBezel_mediaPoison ..) (.ite_fst ?badTag (.ite_fst (sparesBezel_setEngine ..) (.refl s)))))
  case badTag => exact .ite_fst hdrawn (.ite_fst (hpending _) (sparesBezel_integrityAlarm ..))

theorem sparesBezel_storeLine (s : State) (e i kid data : Nat) (poison : Bool) : SparesBezel s (s.storeLine e i kid data poison).1 := by
  unfold State.storeLine
  dsimp only
  repeat' split
  all_goals exact ⟨rfl, rfl⟩

theorem sparesBezel_writeVerified {s w : State} (h : SparesBezel s w) (e l kid a : Nat) (bytes : List Byte) (poison : Bool) (agent : Nat) :
    SparesBezel s (s.writeVerified w e l kid a bytes poison (.agent agent) .intact).1 := by
  unfold State.writeVerified
  exact .ite_fst ((SparesBezel.ite_fst h (h.trans (sparesBezel_checkedRead ..))).trans (sparesBezel_storeLine ..)) (.refl s)

theorem sparesBezel_protectedWrite (s : State) (a : Nat) (bytes : List Byte) (poison : Bool) (agent : Nat) :
    SparesBezel s (s.protectedWrite a bytes poison (.agent agent) .intact).1 := by
  unfold State.protectedWrite
  split
  case h_1 => exact .refl s
  case h_2 e l _ =>
    refine .ite_fst (sparesBezel_flagErr ..) ?_
    split
    case h_1 => exact .refl s
    case h_2 n _ =>
      refine .ite_fst (.refl s) (.ite_fst ((SparesBezel.ite_fst (.refl s) (sparesBezel_rawLine ..)).trans (sparesBezel_setEngine ..))
        (.ite_fst (sparesBezel_flagErr ..) (.ite_fst (.refl s) (.ite_fst (.refl s) (.ite_fst (.refl s) (.ite_fst (.refl s) ?_))))))
      have hwalk := sparesBezel_walk s e (l / 4096) (s.entryKid n) a (.agent agent)
      dsimp only
      split
      · exact hwalk
      · exact sparesBezel_writeVerified hwalk ..

theorem sparesBezel_writeBytes (s : State) (a : Nat) (bytes : List Byte) (poison : Bool) (agent : Nat) :
    SparesBezel s (s.writeBytes a bytes poison (.agent agent)).1 := by
  unfold State.writeBytes
  dsimp only
  refine List.foldlRecOn _ _ (motive := fun r : State × Option Resp => SparesBezel s r.1) (.refl s) fun r hr i _ => ?_
  split
  · exact hr
  · split
    · exact .refl s
    · exact hr.trans (sparesBezel_protectedWrite ..)

theorem sparesBezel_placeCd (s : State) (bank : Nat) (g : Segment) : SparesBezel s (s.placeCd bank g) := by
  unfold State.placeCd
  dsimp only
  split
  · exact sparesBezel_writeBytes ..
  · exact .refl s

/-! ## Images (R489, R518 to R520) -/

theorem libEntry_setLibEntry (s : State) (n : Nat) (x : LibEntry) : (s.setLibEntry n x).libEntry n = x := SMap.get_set_self ..

/-- The entry of the library that an image makes. -/
def libEntryOf (i : Image) : LibEntry :=
  { kind := 1, cls := i.cls, reloc := i.reloc, selftest := i.selftest, secure := i.secure, home := i.home, ver := i.ver, arb := i.arb, crc := i.crc,
    hash := i.hash, segs := i.segs }

/-- The state with an image's segments in bank B of the control-die region. -/
def State.bankBPlaced (s : State) (i : Image) : State :=
  i.segs.foldl (fun t g => t.placeCd 1 g) { s with boot := { s.boot with bankB := i.segs } }

theorem bankBPlaced_spec (s : State) (i : Image) : (s.bankBPlaced i).boot.bankB = i.segs ∧ (s.bankBPlaced i).sec = s.sec := by
  obtain ⟨hboot, hsec⟩ := SparesBezel.foldl (fun t g => sparesBezel_placeCd t 1 g) i.segs { s with boot := { s.boot with bankB := i.segs } }
  exact ⟨congrArg Boot.bankB hboot, hsec⟩

section images
variable {s : State} {c : BzCommand} (h : s.Serves c) (i : Image) (hholds : s.callerHolds c = true)
include h hholds

section library
variable (hop : c.op = 11) (harg : c.arg < 252) (hload : s.live.regions.any (fun e => e.2.load == some c.arg) = false)
  (hheld : ∀ rg < 64, s.bit (Reg.LIB_RG rg) 31 = true → s.fld (Reg.LIB_RG rg) 0 8 ≠ c.arg)
include hop harg hload hheld

/-- An entry of the library that no Region uses takes the outcome of the image's checks. -/
theorem imageLib_unused :
    s.imageLib i =
      if s.imageStatus i false ≠ 0 then s.bzEnd c (s.imageStatus i false) [] (if s.imageStatus i false = 4 then 2 else 1)
      else if i.arb < s.boot.arb then s.bzEnd c 5 [] 1
      else ((s.setLibEntry c.arg (libEntryOf i)).bzLog 1 c.arg i.hash).bzEnd c 0 [] 1 := by
  have hused : ((List.range 64).any (fun r => s.bit (Reg.LIB_RG r) 31 && s.fld (Reg.LIB_RG r) 0 8 == c.arg) ||
      s.live.regions.any (fun e => e.2.load == some c.arg)) = false := by
    simpa [hload] using hheld
  rw [State.imageLib, bzRun_front h hop]
  dsimp only
  rw [hused, hholds, if_neg (Nat.not_le.mpr harg), if_neg (by decide), if_neg (by decide)]
  rfl

end library

/-- A control-die image that passes its checks goes to bank B. -/
theorem imageCd_passes (hop : c.op = 12) (hst : s.imageStatus i false = 0) (htarget : i.segs.any (fun g => g.target != 5 && g.target != 6) = false)
    (hsize : segBytes i.segs ≤ s.boot.cdSize * 524288) (harb : s.boot.arb ≤ i.arb) :
    s.imageCd i = ((s.bankBPlaced i).bzLog 2 1 i.hash).bzEnd c 0 [] 1 := by
  rw [State.imageCd, bzRun_front h hop]
  simp only [hholds, hst, htarget, Nat.not_lt.mpr hsize, Nat.not_lt.mpr harb, Bool.not_true, Bool.false_eq_true, if_false, decide_false, Bool.or_self,
    ne_eq, not_true_eq_false]
  rfl

/-- Firmware that passes its checks runs, unless it is older than what runs. -/
theorem fwActivate_passes (hop : c.op = 13) (hst : s.imageStatus i true = 0) (hone : i.segs.length = 1)
    (htarget : i.segs.any (fun g => g.target != 8) = false) (hsize : segBytes i.segs ≤ 98304) :
    s.fwActivate i =
      if i.ver < s.sec.fwVer then s.bzEnd c 5 [] 5
      else ((s.setSec (fun v => { v with fwVer := i.ver, fwCert := i.cert })).bzLog 3 0 i.hash).bzEnd c 0 [] 1 := by
  rw [State.fwActivate, bzRun_front h hop]
  simp only [hholds, hst, hone, htarget, Nat.not_lt.mpr hsize, Bool.not_true, Bool.false_eq_true, if_false, ne_eq, not_true_eq_false, or_self]
  rfl

end images

/-! ## Counters (R517) -/

/-- A counter takes the value asked for, up to its limit, where that is more. -/
theorem storedArb_raiseArb (s : State) {src : Nat} (v : Nat) :
    (s.raiseArb src v).storedArb src = max (s.storedArb src) (min v (if src = 0 then 256 else 768)) := by
  by_cases h : src = 0 <;> simp [State.raiseArb, State.storedArb, State.setSec, h]

/-- ARB_ADVANCE refuses a value below the counter, and holds any other to that of the running image. -/
theorem arbAdvance_eq {s : State} {c : BzCommand} (h : s.Serves c) (hop : c.op = 15) (harg : c.arg ≤ 1) :
    s.arbAdvance =
      if leNat (c.input.take 4) < s.storedArb c.arg then s.bzEnd c 5 [] 1
      else (s.raiseArb c.arg (min (leNat (c.input.take 4)) (if s.boot.keySrc = c.arg then s.boot.arb else 0))).bzEnd c 0 [] 1 := by
  rw [State.arbAdvance, bzRun_front h hop]
  dsimp only
  rw [if_neg (Nat.not_lt.mpr harg)]
  rfl

/-! ## OTP bits (R525) -/

theorem imageKeyOk_owner_iff (s : State) (idx hash : Nat) :
    s.imageKeyOk 1 idx hash = true ↔
      s.sec.otp.ownerKeys.any (fun e => e.1 == idx) = true ∧ s.sec.otp.revoked.testBit idx = false ∧ hash = s.sec.otp.ownerKeys.get idx 0 := by
  rw [State.imageKeyOk, if_neg Nat.one_ne_zero, Bool.and_eq_true, Bool.and_eq_true, beq_iff_eq, Bool.not_eq_true']
  exact ⟨fun ⟨⟨hkey, hslot⟩, hrev⟩ => ⟨hslot, hrev, hkey⟩, fun ⟨hslot, hrev, hkey⟩ => ⟨⟨hkey, hslot⟩, hrev⟩⟩

/-- The signer of an owner's token holds the image key of a slot that is not revoked. -/
theorem ownerToken_iff (s : State) (msg : List Byte) (t : Token) :
    s.ownerToken msg t = true ↔ ∃ i < 4, s.sec.otp.ownerKeys.any (fun e => e.1 == i) = true ∧ s.sec.otp.revoked.testBit i = false ∧
      Config.digest t.pub = s.sec.otp.ownerKeys.get i 0 ∧ Config.verify t.pub msg t.sig = true := by
  simp only [State.ownerToken, Bool.and_eq_true, List.any_eq_true (p := fun i => s.imageKeyOk 1 i (Config.digest t.pub)), List.mem_range,
    imageKeyOk_owner_iff]
  constructor
  · rintro ⟨⟨i, hi, hkey, hrev, hdig⟩, hsig⟩
    exact ⟨i, hi, hkey, hrev, hdig, hsig⟩
  · rintro ⟨i, hi, hkey, hrev, hdig, hsig⟩
    exact ⟨⟨i, hi, hkey, hrev, hdig⟩, hsig⟩

/-- An owner's slots that are programmed and not revoked. -/
def State.unrevoked (s : State) : List Nat :=
  (List.range 4).filter (fun i => s.sec.otp.ownerKeys.any (fun e => e.1 == i) && !s.sec.otp.revoked.testBit i)

section otp
variable {s : State} {c : BzCommand} (h : s.Serves c) (hop : c.op = 16) (t : Token)
include h hop

/-- Only an owned or deployed device takes OTP_SET. -/
theorem otpSet_closed (h2 : s.sec.lc ≠ 2) (h3 : s.sec.lc ≠ 3) : s.otpSet t = s.bzEnd c 3 [] 1 := by
  rw [State.otpSet, bzRun_front h hop]
  exact if_pos ⟨h2, h3⟩

theorem otpSet_open (hlc : s.sec.lc = 2 ∨ s.sec.lc = 3) :
    s.otpSet t =
      let what := (c.input.getD 0 0).toNat
      let slot := (c.input.getD 1 0).toNat
      if 1 < what ∨ (what = 1 ∧ 4 ≤ slot) then s.bzEnd c 2 [] 1
      else if s.ownerToken c.input t = false then s.bzEnd c 4 [] 2
      else if what = 0 then (s.setSec (fun v => { v with otp := { v.otp with pwdOff := true } })).bzEnd c 0 [] 1
      else if s.unrevoked = [slot] ∨ (List.range 4).all (fun i => i == slot || !s.imageKeyOk 1 i (Config.digest t.pub)) = true then s.bzEnd c 3 [] 1
      else (s.setSec (fun v => { v with otp := { v.otp with revoked := v.otp.revoked ||| 2 ^ slot } })).bzEnd c 0 [] 1 := by
  have hsigner (slot : Nat) : (!(List.range 4).any (fun i => i != slot && s.imageKeyOk 1 i (Config.digest t.pub))) =
      (List.range 4).all (fun i => i == slot || !s.imageKeyOk 1 i (Config.digest t.pub)) := by
    simp only [List.not_any_eq_all_not, Bool.not_and, bne, Bool.not_not]
  rw [State.otpSet, bzRun_front h hop]
  dsimp only
  rw [if_neg (by omega)]
  simp only [hsigner, Bool.not_eq_true']
  rfl

end otp

/-! ## Device reset (R427) -/

/-- Bezel has no keys, and start-up begins with the cause of the reset on record. -/
structure State.Restarted (s : State) (cause : Nat) : Prop where
  vault : s.sec.vault = []
  keys : s.sec.keys = []
  boot : s.bootState = 1
  cause : s.fld Reg.DIE_RSTCAUSE 0 4 = cause

theorem restarted_takeDeviceReset (s : State) {cause : Nat} (h : cause < 16) : (s.takeDeviceReset cause).Restarted cause := by
  unfold State.takeDeviceReset
  extract_lets s1 trip opening d0 dag session p0 q0 t t2 t3
  have hset : (t.setFld Reg.DIE_RSTCAUSE 0 4 cause).fld Reg.DIE_RSTCAUSE 0 4 = cause :=
    (fld_setFld_self t _ cause (by decide)).trans (Nat.mod_eq_of_lt h)
  have h3 : t3.Restarted cause :=
    ⟨rfl, rfl, bootState_setBootState t2 (by decide), (fld_congr ((rd_wr_other (by decide)).trans (rd_wr_other (by decide))) 0 4).trans hset⟩
  clear_value t3 t2 t session opening
  split
  · exact ⟨h3.vault, h3.keys, h3.boot, h3.cause⟩
  · exact h3

theorem lc_takeDeviceReset (s : State) (cause : Nat) : (s.takeDeviceReset cause).sec.lc = s.sec.lc :=
  ((Kept.takeDeviceReset (.refl true s) cause).same rfl).2

/-! ## The life cycle (R499, R501) -/

theorem rd_wipeKeys (s : State) {k : Nat} (hlo : k ≠ Reg.MPE_KSTAT_LO) (hhi : k ≠ Reg.MPE_KSTAT_HI) : s.wipeKeys.rd k = s.rd k :=
  calc s.wipeKeys.rd k
    _ = ((s.wr Reg.MPE_KSTAT_LO 0).wr Reg.MPE_KSTAT_HI 0).rd k := rfl
    _ = s.rd k := (rd_wr_other hhi).trans (rd_wr_other hlo)

/-- The owner's fields are programmed when a device becomes owned. -/
def State.provisioned (s : State) (target : Nat) (block : Option Provisioning) : State :=
  match s.sec.lc, block with
  | 1, some b =>
    if target = 2 then
      s.setSec (fun v => { v with otp := { v.otp with
        owner := true, ownerKeys := b.imageKeys.zipIdx.foldl (fun (m : SMap Nat) (e : Nat × Nat) => m.set e.2 e.1 0) [], debugKey := b.debugKey,
        password := b.password, uutca := b.uutca, kek := b.kek, signKey := b.signKey } })
    else s
  | _, _ => s

/-- The memory is zero-filled where the command asks for it. -/
def State.zeroFilled (s : State) (fill : Bool) : State :=
  if fill then { s with mem := { s.mem with engines := s.mem.engines.keep (fun e => decide (4 ≤ e)) } } else s

/-- A life-cycle change, up to its reset. -/
def State.lcRecorded (s : State) (c : BzCommand) (block : Option Provisioning) : State :=
  let target := (c.input.getD 0 0).toNat
  (((s.wipeKeys.zeroFilled (decide (c.arg % 2 = 1))).provisioned target block).setSec (fun v => { v with lc := target })).raise 6 (errCode 17 4) 4 0x13 4

section lc
variable {s : State} {c : BzCommand} (h : s.Serves c) (hop : c.op = 17) (ts : List Token) (block : Option Provisioning)
include h hop

/-- A transition whose tokens verify ends in a device reset of cause 4; another ends with its status. -/
theorem lcChange_eq :
    s.lcChange ts block =
      let st := s.lcStatus (c.input.getD 0 0).toNat ts block
      if st ≠ 0 then s.bzEnd c st [] (if st = 4 then 2 else 1) else (s.lcRecorded c block).deviceReset 4 := by
  rw [State.lcChange, bzRun_front h hop]
  simp only [State.lcRecorded, State.zeroFilled, decide_eq_true_eq]
  rfl

end lc

/-- What holds a device reset off is in `t` as in `s`: the clocks, the trip, the time and the temperatures of HD. -/
structure SparesTrip (s t : State) : Prop where
  clk : t.clk = s.clk
  power : t.power = s.power
  spine : t.spine = s.spine
  temps : ∀ i < 10, t.rd (Reg.GOV_TEMP (80 + i)) = s.rd (Reg.GOV_TEMP (80 + i))

theorem SparesTrip.resetReady {s t : State} (h : SparesTrip s t) : t.resetReady = s.resetReady := by
  have htemp : (List.range 10).all (fun i => decide (signed 12 (t.fld (Reg.GOV_TEMP (80 + i)) 0 12) < 400)) =
      (List.range 10).all (fun i => decide (signed 12 (s.fld (Reg.GOV_TEMP (80 + i)) 0 12) < 400)) := by
    rw [Bool.eq_iff_iff, List.all_eq_true, List.all_eq_true]
    exact forall₂_congr fun i hi => by rw [fld_congr (h.temps i (List.mem_range.mp hi))]
  rw [State.resetReady, State.resetReady, State.tripOver, State.tripOver, htemp, State.now, State.now, h.clk, h.power, h.spine]

theorem SparesTrip.trans {s t u : State} (h : SparesTrip s t) (k : SparesTrip t u) : SparesTrip s u :=
  ⟨k.clk.trans h.clk, k.power.trans h.power, k.spine.trans h.spine, fun i hi => (k.temps i hi).trans (h.temps i hi)⟩

theorem sparesTrip_wipeKeys (s : State) : SparesTrip s s.wipeKeys := by
  have hlo : ∀ i < 10, Reg.GOV_TEMP (80 + i) ≠ Reg.MPE_KSTAT_LO := by decide
  have hhi : ∀ i < 10, Reg.GOV_TEMP (80 + i) ≠ Reg.MPE_KSTAT_HI := by decide
  exact ⟨rfl, rfl, rfl, fun i hi => rd_wipeKeys s (hlo i hi) (hhi i hi)⟩

theorem sparesTrip_zeroFilled (s : State) (fill : Bool) : SparesTrip s (s.zeroFilled fill) := by
  cases fill <;> exact ⟨rfl, rfl, rfl, fun _ _ => rfl⟩

theorem sparesTrip_provisioned (s : State) (target : Nat) (block : Option Provisioning) : SparesTrip s (s.provisioned target block) := by
  unfold State.provisioned
  repeat' split
  all_goals exact ⟨rfl, rfl, rfl, fun _ _ => rfl⟩

theorem sparesTrip_lcRecorded (s : State) (c : BzCommand) (block : Option Provisioning) : SparesTrip s (s.lcRecorded c block) :=
  (((sparesTrip_wipeKeys s).trans (sparesTrip_zeroFilled ..)).trans (sparesTrip_provisioned ..)).trans ⟨rfl, rfl, rfl, fun _ _ => rfl⟩

theorem deviceReset_ready {s : State} (hpor : s.clk.por = false) (hready : s.resetReady = true) (cause : Nat) :
    s.deviceReset cause = s.takeDeviceReset cause := by
  simp [State.deviceReset, hpor, hready]

/-! ## Sensors (R521 to R523) -/

/-- A sensor event as it is flagged and recorded, before its response. -/
def State.sensorSeen (s : State) (cls : Nat) : State :=
  let t := s.flag Reg.BZ_SENS cls
  let t := if cls = 4 then t.setSec (fun v => { v with otpErr := true }) else t
  if cls = 6 then t else t.raise 7 (errCode 17 3) 4 0x13 4

/-- Commands in progress have ended and the pins are safe. -/
def State.secured (s : State) : State := s.abortCommands.setSafe (fun x => { x with security := true })

/-- During a wipe an event is flagged and no more. -/
theorem sensorEvent_wiping {s : State} {cls : Nat} (hcls : cls < 7) (h4 : cls ≠ 4) (hw : s.sec.wiping = true) :
    s.sensorEvent cls = s.flag Reg.BZ_SENS cls := by
  simp [State.sensorEvent, Nat.not_le.mpr hcls, h4, hw]

theorem rd_sensorSeen (s : State) (cls k : Nat) : (s.sensorSeen cls).rd k = (s.flag Reg.BZ_SENS cls).rd k := by
  unfold State.sensorSeen
  repeat' split
  all_goals rfl

/-- Outside a wipe an event is seen and answered with the response that BZ_RESP sets for its class. -/
theorem sensorEvent_eq {s : State} {cls : Nat} (hcls : cls < 7) (hw : s.sec.wiping = false) :
    s.sensorEvent cls = (s.sensorSeen cls).respond (s.fld Reg.BZ_RESP (2 * cls) 2) := by
  have hresp : (s.sensorSeen cls).fld Reg.BZ_RESP (2 * cls) 2 = s.fld Reg.BZ_RESP (2 * cls) 2 :=
    fld_congr ((rd_sensorSeen ..).trans (rd_wr_other (by decide))) _ _
  rw [← hresp]
  by_cases h4 : cls = 4
  · simp [State.sensorEvent, State.sensorSeen, State.setSec, h4, hw]
  · simp [State.sensorEvent, State.sensorSeen, Nat.not_le.mpr hcls, h4, hw]

theorem vault_sensorSeen (s : State) (cls : Nat) : (s.sensorSeen cls).sec.vault = s.sec.vault := by
  unfold State.sensorSeen
  repeat' split
  all_goals rfl

/-- The record of a sensor event has severity 7. -/
theorem raised_sensorSeen (s : State) {cls : Nat} (h : cls ≠ 6) :
    (s.sensorSeen cls).raised.getLast?.map (fun e => (e.sev, e.code)) = some (7, errCode 17 3) := by
  simp [State.sensorSeen, h, State.raise]

/-- The registers other than a channel's answer outlive the end of its commands. -/
theorem rd_abortCommands (s : State) {k : Nat} (h : ∀ n, k ≠ Reg.BZ_RSP n) : s.abortCommands.rd k = s.rd k :=
  rd_foldl _ _ fun _ n _ => (rd_wr_other (h n)).trans (rd_wr_other (h n))

theorem sec_abortCommands (s : State) : s.abortCommands.sec = { s.sec with cmds := [] } :=
  List.foldlRecOn _ _ (motive := fun t : State => t.sec = { s.sec with cmds := [] }) rfl fun _ ht _ _ => ht

/-- What an answer of SAFE or WIPE leaves: no command, safe pins, the sensors' flags as they were; after WIPE no key either. -/
structure Responded (code : Nat) (s t : State) : Prop where
  sens : t.rd Reg.BZ_SENS = s.rd Reg.BZ_SENS
  cmds : t.sec.cmds = []
  safe : t.pins.safe.security = true
  wiped : 2 ≤ code → t.sec.vault = [] ∧ t.sec.keys = [] ∧ t.sec.wiping = true

theorem BZ_SENS_ne_BZ_RSP (n : Nat) : Reg.BZ_SENS ≠ Reg.BZ_RSP n := by
  intro e
  have h : keyOff Reg.BZ_SENS = 4 := by rw [e]; exact keyOff_regKey (by decide)
  exact absurd h (by decide)

theorem responded_secured (s : State) : Responded 1 s s.secured := by
  obtain ⟨m, hm⟩ := setSafe_pads s.abortCommands (fun x => { x with security := true })
  rw [State.secured, hm]
  exact ⟨rd_abortCommands s BZ_SENS_ne_BZ_RSP, congrArg Security.cmds (sec_abortCommands s), rfl, fun h => absurd h (by decide)⟩

/-- No key is left until the reset that ends the wipe. -/
def State.wipeBegun (s : State) : State := s.wipeKeys.setSec (fun v => { v with wiping := true, ready := false })

theorem Responded.wipeBegun {s t : State} (h : Responded 1 s t) (code : Nat) : Responded code s t.wipeBegun := by
  have hrd : t.wipeBegun.rd Reg.BZ_SENS = t.rd Reg.BZ_SENS := rd_wipeKeys t (by decide) (by decide)
  exact ⟨hrd.trans h.sens, h.cmds, h.safe, fun _ => ⟨rfl, rfl, rfl⟩⟩

/-- WIPE, and the code 3 that acts as it, takes the keys once the pins are safe. -/
theorem respond_wipe (s : State) (n : Nat) : s.respond (n + 2) = s.secured.wipeBegun := rfl

theorem responded_respond (s : State) {code : Nat} (h : 1 ≤ code) : Responded code s (s.respond code) := by
  match code, h with
  | 1, _ => exact responded_secured s
  | n + 2, _ => exact respond_wipe s n ▸ (responded_secured s).wipeBegun (n + 2)

/-! ## The obligation -/

/-- Settles O56: clause by clause, each command by the equation of its service in the state the clause speaks of; a change of the life
cycle by what its reset keeps, a sensor event by what its response leaves. -/
theorem bezelDeviceServices : Obligations.BezelDeviceServices := by
  intro s c rest img
  refine ⟨fun hfront hready hwipe hchan => ?commands, fun cls hcls hw hr => ?logged, fun cls hcls hw hr => ?answered, fun hw cls hcls h4 => ?wiping⟩
  case commands =>
    have h : s.Serves c := ⟨⟨rest, hfront⟩, hready, hwipe, hchan⟩
    refine ⟨fun hop harg hholds hload hheld => ?lib, fun hop hholds hst htarget hsize harb => ?cd,
      fun hop hholds hst hone htarget hsize => ?fw, fun hop harg => ?arb, fun t hop hlc => ?otp, ownerToken_iff s c.input, fun t hop h2 h3 => ?closed,
      fun ts block hop => ?lc⟩
    case lib =>
      have heq := imageLib_unused h img hholds hop harg hload hheld
      refine ⟨fun hst harb => ?_, fun st hst hne => ?_⟩
      · rw [if_neg (not_not_intro hst), if_neg (Nat.not_lt.mpr harb)] at heq
        exact ⟨_, congrArg Host.Outcome.next heq, libEntry_setLibEntry .., rfl⟩
      · rw [hst, if_pos hne] at heq
        exact congrArg Host.Outcome.next heq
    case cd =>
      obtain ⟨hbank, hsec⟩ := bankBPlaced_spec s img
      exact ⟨_, congrArg Host.Outcome.next (imageCd_passes h img hholds hop hst htarget hsize harb), hbank, congrArg (·.logTotal + 1) hsec⟩
    case fw =>
      have heq := fwActivate_passes h img hholds hop hst hone htarget hsize
      refine ⟨fun hver => ?_, fun hver => congrArg Host.Outcome.next (heq.trans (if_pos hver))⟩
      exact ⟨_, congrArg Host.Outcome.next (heq.trans (if_neg (Nat.not_lt.mpr hver))), rfl, rfl⟩
    case arb =>
      have heq := arbAdvance_eq h hop harg
      refine ⟨fun hlow => congrArg Host.Outcome.next (heq.trans (if_pos hlow)), fun hlow => ?_⟩
      exact ⟨_, congrArg Host.Outcome.next (heq.trans (if_neg (Nat.not_lt.mpr hlow))), storedArb_raiseArb ..⟩
    case otp =>
      have heq := otpSet_open h hop t hlc
      refine ⟨fun hbad => congrArg Host.Outcome.next (heq.trans (if_pos hbad)), fun hgood => congrArg Host.Outcome.next (heq.trans (if_neg ?_))⟩
      omega
    case closed => exact congrArg Host.Outcome.next (otpSet_closed h hop t h2 h3)
    case lc =>
      have heq := lcChange_eq h hop ts block
      refine ⟨_, rfl, fun hst => heq.trans (if_pos hst), fun hst hpor hrr => ?_⟩
      have hspare := sparesTrip_lcRecorded s c block
      rw [heq.trans (if_neg (not_not_intro hst)), deviceReset_ready (hspare.clk ▸ hpor) (hspare.resetReady.trans hrr)]
      obtain ⟨hvault, hkeys, hboot, hcause⟩ := restarted_takeDeviceReset (s.lcRecorded c block) (cause := 4) (by decide)
      exact ⟨lc_takeDeviceReset .., hvault, hkeys, hboot, hcause⟩
  case logged =>
    refine ⟨_, congrArg Host.Outcome.next (sensorEvent_eq hcls hw), ?_⟩
    rw [hr]
    exact ⟨(bit_congr (rd_sensorSeen ..) _).trans (bit_flag_self (by omega)), vault_sensorSeen .., fun h6 => raised_sensorSeen s (by omega)⟩
  case answered =>
    obtain ⟨hsens, hcmds, hsafe, hwiped⟩ := responded_respond (s.sensorSeen cls) hr
    refine ⟨_, congrArg Host.Outcome.next (sensorEvent_eq hcls hw), ?_, hcmds, hsafe, hwiped⟩
    exact (bit_congr (hsens.trans (rd_sensorSeen ..)) _).trans (bit_flag_self (by omega))
  case wiping => exact congrArg Host.Outcome.next (sensorEvent_wiping hcls (by omega) hw)

end Sys2Proof.Machine
end

section
/-!
PROOF. The package (R573, R579 to R584): row letters, the content of a block, the one ball of a user pin, the amplitude of a lane at
reset.
-/
namespace Sys2Proof.Machine

/-! ## Row letters (R579) -/

/-- What stands before the last letter in the name of a row of the group `g`: rows are named in groups of 19. -/
def rowPrefix (g : Nat) : String := ["", "A", "B", "C"].getD g ""

theorem rowName_eq_append {r : Nat} (h : r < 60) : rowName r = rowPrefix (r / 19) ++ rowLetters.getD (r % 19) "" := by
  unfold rowName
  split
  · rw [show r / 19 = 0 by omega, show r % 19 = r by omega]
    exact String.empty_append.symm
  split
  · rw [show r / 19 = 1 by omega, show r % 19 = r - 19 by omega]
    rfl
  split
  · rw [show r / 19 = 2 by omega, show r % 19 = r - 38 by omega]
    rfl
  · rw [show r / 19 = 3 by omega, show r % 19 = r - 57 by omega]
    rfl

theorem rowPrefix_injOn : ∀ g < 4, ∀ g' < 4, rowPrefix g = rowPrefix g' → g = g' := by decide

theorem rowLetters_injOn : ∀ i < 19, ∀ j < 19, rowLetters.getD i "" = rowLetters.getD j "" → i = j := by decide

theorem length_rowLetters_getD : ∀ i < 19, (rowLetters.getD i "").toList.length = 1 := by decide

/-- The last letter of two equal names is the same, so what stands before it is as well. -/
theorem rowName_injOn {r q : Nat} (hr : r < 60) (hq : q < 60) (h : rowName r = rowName q) : r = q := by
  rw [rowName_eq_append hr, rowName_eq_append hq, ← String.toList_inj, String.toList_append, String.toList_append] at h
  have hlen := (length_rowLetters_getD (r % 19) (by omega)).trans (length_rowLetters_getD (q % 19) (by omega)).symm
  obtain ⟨hprefix, hletter⟩ := List.append_inj' h hlen
  have hgroup := rowPrefix_injOn _ (by omega) _ (by omega) (String.toList_inj.mp hprefix)
  have hindex := rowLetters_injOn _ (by omega) _ (by omega) (String.toList_inj.mp hletter)
  omega

/-! ## Blocks (R581, R582) -/

theorem blockAt_ddr {c m : Nat} (hc : c < 4) (hm : m < 6) : blockAt (9 - m / 2) (2 * c + m % 2) = .ddr c m := by
  have hfabric : ¬9 - m / 2 < 6 := by omega
  have hded : ¬9 - m / 2 = 6 := by omega
  have hcol : 2 * c + m % 2 < 8 := by omega
  rw [blockAt, if_neg hfabric, if_neg hded, if_pos hcol, Block.ddr.injEq]
  omega

theorem blockAt_hubQuad {h : Nat} (hh : h < 8) : blockAt (9 - h % 3) (8 + h / 3) = .hubQuad h := by
  have hfabric : ¬9 - h % 3 < 6 := by omega
  have hded : ¬9 - h % 3 = 6 := by omega
  have hcol : ¬8 + h / 3 < 8 := by omega
  have hded2 : ¬(8 + h / 3 = 10 ∧ 9 - h % 3 = 7) := by omega
  have hpower : ¬8 + h / 3 = 11 := by omega
  rw [blockAt, if_neg hfabric, if_neg hded, if_neg hcol, if_neg hded2, if_neg hpower, Block.hubQuad.injEq]
  omega

/-- Block row and block column of bank `n`, local bank `n % 10` of its die (R581). -/
def bankPos (n : Nat) : Nat × Nat := (dieBlocks (n / 10)).getD (4 + n % 10) (0, 0)

theorem length_dieBlocks (d : Nat) : (dieBlocks d).length = 14 := by
  unfold dieBlocks
  split <;> rfl

theorem bankPos_of_idxOf? {d p : Nat} {b : Nat × Nat} (h : (dieBlocks d).idxOf? b = some p) (h4 : 4 ≤ p) :
    bankPos (10 * d + (p - 4)) = b := by
  obtain ⟨hp, hb, -⟩ := List.idxOf?_eq_some_iff.mp h
  have h14 := length_dieBlocks d
  rw [bankPos, show (10 * d + (p - 4)) / 10 = d by omega, show 4 + (10 * d + (p - 4)) % 10 = p by omega, List.getD_eq_getElem?_getD,
    List.getElem?_eq_getElem hp]
  exact hb

/-- Whichever die lists a block last, a bank found there stands where the table puts it. -/
theorem bankPos_of_fabricBlock {b : Nat × Nat} : ∀ n, fabricBlock b = .bank n → bankPos n = b := by
  unfold fabricBlock
  refine List.foldlRecOn (motive := fun blk => ∀ n, blk = Block.bank n → bankPos n = b) (List.range 4) _ (by nofun) ?_
  intro acc hacc d _ n h
  split at h
  case h_1 p hp =>
    split at h
    case isTrue => cases h
    case isFalse h4 =>
      obtain rfl := Block.bank.inj h
      exact bankPos_of_idxOf? hp (Nat.le_of_not_lt h4)
  case h_2 => exact hacc n h

theorem fabricBlock_bankPos : ∀ n < 40, fabricBlock (bankPos n) = .bank n := by decide

theorem bankPos_bounds : ∀ n < 40, (bankPos n).1 < 6 ∧ (bankPos n).2 < 12 := by decide

theorem blockAt_bankPos {n : Nat} (h : n < 40) : blockAt (bankPos n).1 (bankPos n).2 = .bank n := by
  rw [blockAt, if_pos (bankPos_bounds n h).1]
  exact fabricBlock_bankPos n h

/-- No block of HD or CD holds a bank, and a block of a fabric die one bank at most. -/
theorem bankPos_of_blockAt {br bc n : Nat} (h : blockAt br bc = .bank n) : bankPos n = (br, bc) := by
  unfold blockAt at h
  split at h
  case isTrue => exact bankPos_of_fabricBlock n h
  case isFalse =>
    exfalso
    revert h
    repeat' split
    all_goals nofun

/-! ## User pins (R583) -/

theorem slotBlock_eq_io {k j pin : Nat} {slot : Nat → BallSignal} {supply : BallSignal} (hs : supply ≠ .io pin) :
    slotBlock k j slot supply = .io pin ↔ j < 4 ∧ slot (4 * k + j) = .io pin := by
  unfold slotBlock
  split
  case isTrue hj => simp only [hj, true_and]
  case isFalse hj =>
    refine iff_of_false ?_ (fun h => hj h.1)
    split
    · nofun
    · exact hs

theorem slotBlock_ne_io {k j pin : Nat} {slot : Nat → BallSignal} {supply : BallSignal} (hslot : ∀ n, slot n ≠ .io pin)
    (hs : supply ≠ .io pin) : slotBlock k j slot supply ≠ .io pin :=
  fun h => hslot _ ((slotBlock_eq_io hs).mp h).2

theorem ddrSlot_ne_io (c n pin : Nat) : ddrSlot c n ≠ .io pin := by
  unfold ddrSlot
  repeat' split
  all_goals nofun

theorem dedSlot_ne_io (block n pin : Nat) : dedSlot block n ≠ .io pin := by
  unfold dedSlot
  repeat' split
  all_goals nofun

theorem quadBlock_ne_io {k j pin : Nat} {tx rx : Nat → Bool → BallSignal} {ref : Bool → BallSignal} {hub : Bool}
    (htx : ∀ l p, tx l p ≠ .io pin) (hrx : ∀ l p, rx l p ≠ .io pin) (href : ∀ p, ref p ≠ .io pin) :
    quadBlock k j tx rx ref hub ≠ .io pin := by
  unfold quadBlock
  split
  case isTrue =>
    split
    · nofun
    · split
      · exact href true
      · nofun
    · split
      · exact href false
      · nofun
    · split <;> nofun
    · nofun
  case isFalse =>
    dsimp only
    split
    · nofun
    · split
      · exact htx _ _
      · exact hrx _ _

/-- A ball carries a user pin only as a signal slot of a bank block. -/
theorem ballAt_eq_io {r col pin : Nat} : ballAt r col = .io pin ↔
    ∃ n, blockAt (r / 6) ((col - 1) / 5) = .bank n ∧ (col - 1) % 5 < 4 ∧ 24 * n + (4 * (r % 6) + (col - 1) % 5) = pin := by
  unfold ballAt
  cases blockAt (r / 6) ((col - 1) / 5) with
  | bank n =>
    refine (slotBlock_eq_io (by nofun)).trans ⟨fun ⟨hj, hslot⟩ => ⟨n, rfl, hj, BallSignal.io.inj hslot⟩, ?_⟩
    rintro ⟨m, hm, hj, hslot⟩
    obtain rfl := Block.bank.inj hm
    exact ⟨hj, congrArg BallSignal.io hslot⟩
  | quad d q =>
    exact iff_of_false (quadBlock_ne_io nofun nofun nofun) (fun ⟨_, h, _⟩ => nomatch h)
  | hubQuad h =>
    refine iff_of_false (quadBlock_ne_io nofun nofun fun p => ?_) (fun ⟨_, h, _⟩ => nomatch h)
    split <;> nofun
  | ddr c m => exact iff_of_false (slotBlock_ne_io (fun _ => ddrSlot_ne_io c _ pin) nofun) (fun ⟨_, h, _⟩ => nomatch h)
  | ded n =>
    refine iff_of_false (slotBlock_ne_io (dedSlot_ne_io n · pin) ?_) (fun ⟨_, h, _⟩ => nomatch h)
    split <;> nofun
  | power =>
    refine iff_of_false ?_ (fun ⟨_, h, _⟩ => nomatch h)
    dsimp only
    split <;> nofun

/-- Row of the ball of user pin `pin`: slot `pin % 24` of bank `pin / 24`, four slots a row. -/
def ioRow (pin : Nat) : Nat := 6 * (bankPos (pin / 24)).1 + pin % 24 / 4

/-- Its column. -/
def ioCol (pin : Nat) : Nat := 5 * (bankPos (pin / 24)).2 + pin % 4 + 1

theorem ballAt_ioRow_ioCol {pin : Nat} (h : pin < 960) : ballAt (ioRow pin) (ioCol pin) = .io pin := by
  have hblock := blockAt_bankPos (n := pin / 24) (by omega)
  refine ballAt_eq_io.mpr ⟨pin / 24, ?_, ?_, ?_⟩
  · rw [show ioRow pin / 6 = (bankPos (pin / 24)).1 by unfold ioRow; omega,
      show (ioCol pin - 1) / 5 = (bankPos (pin / 24)).2 by unfold ioCol; omega]
    exact hblock
  · unfold ioCol; omega
  · unfold ioRow ioCol; omega

/-- The slot gives the place within the block, and the bank the block. -/
theorem eq_ioRow_ioCol {q k pin : Nat} (hk : 1 ≤ k) (h : ballAt q k = .io pin) : q = ioRow pin ∧ k = ioCol pin := by
  obtain ⟨n, hblock, hj, hslot⟩ := ballAt_eq_io.mp h
  have hn : n = pin / 24 := by omega
  have hpos := bankPos_of_blockAt hblock
  rw [hn] at hpos
  unfold ioRow ioCol
  rw [hpos]
  omega

theorem ioRow_lt_ioCol_le {pin : Nat} (h : pin < 960) : ioRow pin < 60 ∧ ioCol pin ≤ 60 := by
  have hb := bankPos_bounds (pin / 24) (by omega)
  unfold ioRow ioCol
  omega

/-! ## Lanes at reset (R573, R385) -/

theorem regReset_XCVR_TXEQ : ∀ die < 4, ∀ l < 16, regReset (Reg.XCVR_TXEQ die l) = 0x601F80 := by decide

/-- Swing 12, main tap 56, post1 tap 7, the other taps 0. -/
theorem fld_reset_XCVR_TXEQ {die l : Nat} (hd : die < 4) (hl : l < 16) (lo n : Nat) :
    State.reset.fld (Reg.XCVR_TXEQ die l) lo n = wfld 0x601F80 lo n :=
  congrArg (wfld · lo n) (regReset_XCVR_TXEQ die hd l hl)

theorem txSwing_reset {die l : Nat} (hd : die < 4) (hl : l < 16) : State.reset.txSwing die l = 1000 := by
  rw [State.txSwing, fld_reset_XCVR_TXEQ hd hl]
  decide

theorem txRun_reset {die l : Nat} (hd : die < 4) (hl : l < 16) : State.reset.txRun die l = 49000 := by
  simp only [State.txRun, txSwing_reset hd hl, fld_reset_XCVR_TXEQ hd hl]
  decide

theorem txPeak_reset {die l : Nat} (hd : die < 4) (hl : l < 16) : State.reset.txPeak die l = 63000 := by
  simp only [State.txPeak, txSwing_reset hd hl, fld_reset_XCVR_TXEQ hd hl]
  decide

/-! ## The obligation -/

/-- Settles O60: names by their last letter and what stands before it, blocks by the branches of the map, a user pin by its bank's block
and its slot there, a lane by the reset value of its equaliser register. -/
theorem packageBallsAndLaneAmplitude : Obligations.PackageBallsAndLaneAmplitude := by
  refine ⟨⟨fun r hr => ?names, rfl, rfl, rfl, fun _ _ => rfl, fun r hr q hq => rowName_injOn hr hq⟩,
    ⟨fun c hc m hm => blockAt_ddr hc hm, fun h hh => blockAt_hubQuad hh, rfl, rfl, rfl, by decide, by decide⟩,
    fun pin hpin => ?pins, fun die hd l hl => ⟨txRun_reset hd hl, txPeak_reset hd hl⟩⟩
  case names =>
    refine ⟨if_pos hr, ?_, ?_⟩
    · rw [rowName_eq_append (by omega), show (19 + r) / 19 = 1 by omega, show (19 + r) % 19 = r by omega]
      rfl
    · rw [rowName_eq_append (by omega), show (38 + r) / 19 = 2 by omega, show (38 + r) % 19 = r by omega]
      rfl
  case pins =>
    obtain ⟨hrow, hcol⟩ := ioRow_lt_ioCol_le hpin
    exact ⟨ioRow pin, hrow, ioCol pin, Nat.le_add_left .., hcol, ballAt_ioRow_ioCol hpin, fun q _ k hk _ => eq_ioRow_ioCol hk⟩

end Sys2Proof.Machine
end

section
/-!
PROOF. What every command keeps: it answers a next state, and the queue, the part's grades, the form of the register store and
one-time-programmable state are in it as `Kept` says.
-/
namespace Sys2Proof.Machine

/-! ## Every command -/

/-- The four commands that may move one-time-programmable state. -/
def movesOtp : Instr → Bool
  | .arbAdvance => true
  | .otpSet _ => true
  | .lcChange _ _ => true
  | .userModeEntry _ => true
  | _ => false

/-- Every command answers a next state that keeps what `Kept` says; all but four leave one-time-programmable state as it is. -/
theorem exec_kept (c : Instr) (s : State) : ∃ t, exec c s = .next t ∧ Kept (!movesOtp c) s t := by
  cases c with
  | spineTick missed => exact Kept.execSpineTick missed s
  | registerWrite r addr size w => exact Kept.execRegisterWrite r addr size w s
  | pairLoWrite r addr w => exact Kept.execPairLoWrite r addr w s
  | pairHiWrite r addr w => exact Kept.execPairHiWrite r addr w s
  | pairLoRead r addr => exact Kept.execPairLoRead r addr s
  | pairHiRead r addr => exact Kept.execPairHiRead r addr s
  | readClear r addr size => exact Kept.execReadClear r addr size s
  | readPop r addr => exact Kept.execReadPop r addr s
  | capabilityDescriptor die m d => exact Kept.execCapabilityDescriptor die m d s
  | moduleUp m late => exact Kept.execModuleUp m late s
  | trainingTimeout m => exact Kept.execTrainingTimeout m s
  | moduleRetrain r die m w => exact Kept.execModuleRetrain r die m w s
  | moduleDownLost m => exact Kept.execModuleDownLost m s
  | dieLoss die => exact Kept.execDieLoss die s
  | failoverSwitch => exact Kept.execFailoverSwitch s
  | dieRejoin die => exact Kept.execDieRejoin die s
  | dieReady die => exact Kept.execDieReady die s
  | cdReset => exact Kept.execCdReset s
  | lockstepDisagreement pair => exact Kept.execLockstepDisagreement pair s
  | coreStart r w => exact Kept.execCoreStart r w s
  | mbxPush r n msg => exact Kept.execMbxPush r n msg s
  | mbxPop r n => exact Kept.execMbxPop r n s
  | mailboxDisable r n w => exact Kept.execMailboxDisable r n w s
  | userModeEntry us => exact Kept.execUserModeEntry us s
  | quadCount dom k rev width => exact Kept.execQuadCount dom k rev width s
  | qualifiedZ dom k width => exact Kept.execQualifiedZ dom k width s
  | toothEdge dom k width => exact Kept.execToothEdge dom k width s
  | pulseEdge dom k width => exact Kept.execPulseEdge dom k width s
  | resolverSample dom k angle err lowAmp => exact Kept.execResolverSample dom k angle err lowAmp s
  | fabricIncrement rg inc => exact Kept.execFabricIncrement rg inc s
  | stallTimeout dom => exact Kept.execStallTimeout dom s
  | holdoverTimeout dom => exact Kept.execHoldoverTimeout dom s
  | linkFrameLoss dom => exact Kept.execLinkFrameLoss dom s
  | domainEnable r dom => exact Kept.execDomainEnable r dom s
  | domainDisable r dom => exact Kept.execDomainDisable r dom s
  | domainReacquire r dom => exact Kept.execDomainReacquire r dom s
  | domainFreeze r dom => exact Kept.execDomainFreeze r dom s
  | domainUnfreeze r dom => exact Kept.execDomainUnfreeze r dom s
  | velocityWrite r dom d => exact Kept.execVelocityWrite r dom d s
  | accelerationWrite r dom d => exact Kept.execAccelerationWrite r dom d s
  | phaseLoad r dom d => exact Kept.execPhaseLoad r dom d s
  | spineRecalibrate r die => exact Kept.execSpineRecalibrate r die s
  | calendarActionDelivery => exact Kept.execCalendarActionDelivery s
  | pulseEnd die direct n => exact Kept.execPulseEnd die direct n s
  | windowClose die pin => exact Kept.execWindowClose die pin s
  | entryWrite r die entry word w => exact Kept.execEntryWrite r die entry word w s
  | entryArm r die entry w => exact Kept.execEntryArm r die entry w s
  | entryRead r die entry => exact Kept.execEntryRead r die entry s
  | stagedWrite r die entry => exact Kept.execStagedWrite r die entry s
  | stagedRead r die entry => exact Kept.execStagedRead r die entry s
  | groupArm r die grp timed => exact Kept.execGroupArm r die grp timed s
  | groupDisarm r die grp timed => exact Kept.execGroupDisarm r die grp timed s
  | groupShift r die grp timed => exact Kept.execGroupShift r die grp timed s
  | calendarEnable r die w => exact Kept.execCalendarEnable r die w s
  | tioModeChange r die pin w => exact Kept.execTioModeChange r die pin w s
  | inputEdge die pin k level width => exact Kept.execInputEdge die pin k level width s
  | measurementTimeout die pin => exact Kept.execMeasurementTimeout die pin s
  | outputFifoWrite r die pin d => exact Kept.execOutputFifoWrite r die pin d s
  | outputFifoRelease die pin => exact Kept.execOutputFifoRelease die pin s
  | outputFifoFlush r die pin => exact Kept.execOutputFifoFlush r die pin s
  | captureHeadRead r die pin => exact Kept.execCaptureHeadRead r die pin s
  | capturePop r die pin => exact Kept.execCapturePop r die pin s
  | recordDrain die pin => exact Kept.execRecordDrain die pin s
  | pwmUpdate r die pin => exact Kept.execPwmUpdate r die pin s
  | pwmShadowMove die pin k => exact Kept.execPwmShadowMove die pin k s
  | encoderCountStep die pin k => exact Kept.execEncoderCountStep die pin k s
  | emulationOffsetWrite r die pin w => exact Kept.execEmulationOffsetWrite r die pin w s
  | patternWrite r die n w => exact Kept.execPatternWrite r die n w s
  | padFunctionWrite r die pin w => exact Kept.execPadFunctionWrite r die pin w s
  | changeoverEnd die pin => exact Kept.execChangeoverEnd die pin s
  | crossbarSourceWrite r die pin w => exact Kept.execCrossbarSourceWrite r die pin w s
  | crossbarInputWrite r die pin w => exact Kept.execCrossbarInputWrite r die pin w s
  | padLockTag1 r die pin => exact Kept.execPadLockTag1 r die pin s
  | padLockTag2 r die pin => exact Kept.execPadLockTag2 r die pin s
  | padLockRead r die => exact Kept.execPadLockRead r die s
  | padSnapshotRead r die => exact Kept.execPadSnapshotRead r die s
  | adcConversion die code => exact Kept.execAdcConversion die code s
  | initialValueRestore r die mask => exact Kept.execInitialValueRestore r die mask s
  | restoreComplete die => exact Kept.execRestoreComplete die s
  | crossingFifoWrite die rg m width data crossed => exact Kept.execCrossingFifoWrite die rg m width data crossed s
  | crossingFifoRead die rg m crossed => exact Kept.execCrossingFifoRead die rg m crossed s
  | crossingFifoReset die rg m e => exact Kept.execCrossingFifoReset die rg m e s
  | blockMemoryAccess die rg m ecc same a b => exact Kept.execBlockMemoryAccess die rg m ecc same a b s
  | macOperation die rg slice o => exact Kept.execMacOperation die rg slice o s
  | loupeGo r die prof => exact Kept.execLoupeGo r die prof s
  | loupeCaptureEdge die k late => exact Kept.execLoupeCaptureEdge die k late s
  | loupeCaptureTimeout die => exact Kept.execLoupeCaptureTimeout die s
  | loupeRelease r die => exact Kept.execLoupeRelease r die s
  | loupeQueueReadout r die => exact Kept.execLoupeQueueReadout r die s
  | readoutComplete die => exact Kept.execReadoutComplete die s
  | taskRequest die rg task param => exact Kept.execTaskRequest die rg task param s
  | fdspReq r die rg w => exact Kept.execFdspReq r die rg w s
  | dispatchAssign die rg => exact Kept.execDispatchAssign die rg s
  | deadlineExpiry die rg waiting n => exact Kept.execDeadlineExpiry die rg waiting n s
  | urgentAccept die p => exact Kept.execUrgentAccept die p s
  | facetHaltAccept die p => exact Kept.execFacetHaltAccept die p s
  | taskWatchdogExpiry die p => exact Kept.execTaskWatchdogExpiry die p s
  | facetAbort r die p => exact Kept.execFacetAbort r die p s
  | facetReset r die p => exact Kept.execFacetReset r die p s
  | facetUrgent r die p code => exact Kept.execFacetUrgent r die p code s
  | facetEnable r die p w => exact Kept.execFacetEnable r die p w s
  | fdspRemap r die rg w => exact Kept.execFdspRemap r die rg w s
  | remapComplete die rg => exact Kept.execRemapComplete die rg s
  | viewBankAccess r die p bankB n w => exact Kept.execViewBankAccess r die p bankB n w s
  | programBundleWrite r die p n w => exact Kept.execProgramBundleWrite r die p n w s
  | streamInPush die rg l port v => exact Kept.execStreamInPush die rg l port v s
  | streamOutPop die rg l port => exact Kept.execStreamOutPop die rg l port s
  | parBundle die x => exact Kept.execParBundle die x s
  | imm die p => exact Kept.execImm die p s
  | br die p => exact Kept.execBr die p s
  | bri die p => exact Kept.execBri die p s
  | call die p => exact Kept.execCall die p s
  | calli die p => exact Kept.execCalli die p s
  | ret die p => exact Kept.execRet die p s
  | rtu die p => exact Kept.execRtu die p s
  | wait die p => exact Kept.execWait die p s
  | loop die p => exact Kept.execLoop die p s
  | lpop die p => exact Kept.execLpop die p s
  | rep die p => exact Kept.execRep die p s
  | signal die p => exact Kept.execSignal die p s
  | snop die p => exact Kept.execSnop die p s
  | mrs die p => exact Kept.execMrs die p s
  | srs die p => exact Kept.execSrs die p s
  | mvx die p => exact Kept.execMvx die p s
  | mxv die p => exact Kept.execMxv die p s
  | padd die p => exact Kept.execPadd die p s
  | scnt die p => exact Kept.execScnt die p s
  | qkick die p => exact Kept.execQkick die p s
  | qkickd die p => exact Kept.execQkickd die p s
  | record die p => exact Kept.execRecord die p s
  | domainRunEnable r g w => exact Kept.execDomainRunEnable r g w s
  | domainForce r g w => exact Kept.execDomainForce r g w s
  | autoSleep g work => exact Kept.execAutoSleep g work s
  | autoDeepSleep g work => exact Kept.execAutoDeepSleep g work s
  | domainWake g pb => exact Kept.execDomainWake g pb s
  | islandLevelSettled j => exact Kept.execIslandLevelSettled j s
  | deepSleep r => exact Kept.execDeepSleep r s
  | deviceWake => exact Kept.execDeviceWake s
  | creditWindow isl temps => exact Kept.execCreditWindow isl temps s
  | chunkGrant purse => exact Kept.execChunkGrant purse s
  | workAdmission w => exact Kept.execWorkAdmission w s
  | thermalTrip => exact Kept.execThermalTrip s
  | pmbusPoll replies => exact Kept.execPmbusPoll replies s
  | pmbusAlert replies => exact Kept.execPmbusAlert replies s
  | pmbusTimeout dev reply => exact Kept.execPmbusTimeout dev reply s
  | islandFault j => exact Kept.execIslandFault j s
  | packetArrival p corrected uncorrectable => exact Kept.execPacketArrival p corrected uncorrectable s
  | crossingFlit die m quarter f => exact Kept.execCrossingFlit die m quarter f s
  | doorbell r q w => exact Kept.execDoorbell r q w s
  | qmKick r q => exact Kept.execQmKick r q s
  | kickArrival q => exact Kept.execKickArrival q s
  | descriptorFetchComplete q f => exact Kept.execDescriptorFetchComplete q f s
  | sourceReadReturn q data poison answered fs => exact Kept.execSourceReadReturn q data poison answered fs s
  | streamPush q bytes flush => exact Kept.execStreamPush q bytes flush s
  | cellTransfer die => exact Kept.execCellTransfer die s
  | creditReturn home ep => exact Kept.execCreditReturn home ep s
  | descriptorComplete d => exact Kept.execDescriptorComplete d s
  | completionPointerWrite r q w => exact Kept.execCompletionPointerWrite r q w s
  | queueTimeout q => exact Kept.execQueueTimeout q s
  | streamFlushTimeout q => exact Kept.execStreamFlushTimeout q s
  | queueEnable r q => exact Kept.execQueueEnable r q s
  | queuePause r q => exact Kept.execQueuePause r q s
  | queueResume r q => exact Kept.execQueueResume r q s
  | queueSkip r q => exact Kept.execQueueSkip r q s
  | queueReset r q => exact Kept.execQueueReset r q s
  | setEnable r set grp => exact Kept.execSetEnable r set grp s
  | setPause r set grp => exact Kept.execSetPause r set grp s
  | setResume r set grp => exact Kept.execSetResume r set grp s
  | setReset r set grp => exact Kept.execSetReset r set grp s
  | setKick r set grp => exact Kept.execSetKick r set grp s
  | memoryRead addr bank row out => exact Kept.execMemoryRead addr bank row out s
  | memoryWrite addr bank row prio => exact Kept.execMemoryWrite addr bank row prio s
  | refresh c => exact Kept.execRefresh c s
  | mr4Poll c hot => exact Kept.execMr4Poll c hot s
  | activationTableClear c => exact Kept.execActivationTableClear c s
  | channelTraining c => exact Kept.execChannelTraining c s
  | channelTrainingComplete c eyes rfmThr => exact Kept.execChannelTrainingComplete c eyes rfmThr s
  | channelInit r c w => exact Kept.execChannelInit r c w s
  | ddrRetrain r c w => exact Kept.execDdrRetrain r c w s
  | retrainSlot c eyes => exact Kept.execRetrainSlot c eyes s
  | retrainAbort r c w => exact Kept.execRetrainAbort r c w s
  | memoryTestWrite r c pat kid => exact Kept.execMemoryTestWrite r c pat kid s
  | memoryTestCheck r c pat kid => exact Kept.execMemoryTestCheck r c pat kid s
  | memoryTestWriteCheck r c pat kid => exact Kept.execMemoryTestWriteCheck r c pat kid s
  | memoryTestComplete c => exact Kept.execMemoryTestComplete c s
  | cxlLinkUp p linkB rate width cxl => exact Kept.execCxlLinkUp p linkB rate width cxl s
  | cxlLinkDown p linkB next => exact Kept.execCxlLinkDown p linkB next s
  | linkHotReset r p linkB w => exact Kept.execLinkHotReset r p linkB w s
  | configRequest r p w => exact Kept.execConfigRequest r p w s
  | deviceRegisterRequest r p w => exact Kept.execDeviceRegisterRequest r p w s
  | cxlCompletion p linkB data poison e => exact Kept.execCxlCompletion p linkB data poison e s
  | completionTimeout p linkB => exact Kept.execCompletionTimeout p linkB s
  | endpointInterrupt r p v => exact Kept.execEndpointInterrupt r p v s
  | functionLevelReset p => exact Kept.execFunctionLevelReset p s
  | protectedRead addr c f => exact Kept.execProtectedRead addr c f s
  | protectedWrite addr bytes poison c f => exact Kept.execProtectedWrite addr bytes poison c f s
  | reencryptionComplete e => exact Kept.execReencryptionComplete e s
  | speculativeCheck e => exact Kept.execSpeculativeCheck e s
  | subtreeReinit r e n => exact Kept.execSubtreeReinit r e n s
  | subtreeReinitComplete e => exact Kept.execSubtreeReinitComplete e s
  | keyRetirement r kid => exact Kept.execKeyRetirement r kid s
  | retirementComplete => exact Kept.execRetirementComplete s
  | treeInitialisation e => exact Kept.execTreeInitialisation e s
  | treeInitialisationComplete e => exact Kept.execTreeInitialisationComplete e s
  | alarmLogHeadRead r e => exact Kept.execAlarmLogHeadRead r e s
  | regionEntryWrite r n w => exact Kept.execRegionEntryWrite r n w s
  | laneEnable r die l w => exact Kept.execLaneEnable r die l w s
  | calibrationDone die l => exact Kept.execCalibrationDone die l s
  | cdrLock die l late => exact Kept.execCdrLock die l late s
  | cdrTimeout die l => exact Kept.execCdrTimeout die l s
  | adaptationDone die l eq late => exact Kept.execAdaptationDone die l eq late s
  | adaptFail die l => exact Kept.execAdaptFail die l s
  | lossOfLock die l => exact Kept.execLossOfLock die l s
  | lanePllUnlock die q b => exact Kept.execLanePllUnlock die q b s
  | blockLockLoss die l => exact Kept.execBlockLockLoss die l s
  | recal r die l => exact Kept.execRecal r die l s
  | slip r die l => exact Kept.execSlip r die l s
  | prbsClear r die l => exact Kept.execPrbsClear r die l s
  | loopbackSelect r die l path => exact Kept.execLoopbackSelect r die l path s
  | txEqualiserWrite r die l w => exact Kept.execTxEqualiserWrite r die l w s
  | eyeScan r die l w => exact Kept.execEyeScan r die l w s
  | eyeScanDone die l errors => exact Kept.execEyeScanDone die l errors s
  | efomMeasurement die l efom eq errors => exact Kept.execEfomMeasurement die l efom eq errors s
  | portEnable r p w => exact Kept.execPortEnable r p w s
  | portDisable r p w => exact Kept.execPortDisable r p w s
  | frameTransmit p k => exact Kept.execFrameTransmit p k s
  | frameReceive p k f crcOk ppm late => exact Kept.execFrameReceive p k f crcOk ppm late s
  | eventMessageSend r p msg => exact Kept.execEventMessageSend r p msg s
  | eventHeadRead r => exact Kept.execEventHeadRead r s
  | upstreamLoss => exact Kept.execUpstreamLoss s
  | frequencyError => exact Kept.execFrequencyError s
  | amplitudeDetect byp wait => exact Kept.execAmplitudeDetect byp wait s
  | porRelease x => exact Kept.execPorRelease x s
  | referenceLoss n => exact Kept.execReferenceLoss n s
  | referenceReturn n us => exact Kept.execReferenceReturn n us s
  | pllRelock us => exact Kept.execPllRelock us s
  | holdRelease r => exact Kept.execHoldRelease r s
  | resumePin level => exact Kept.execResumePin level s
  | frequencyCheck n => exact Kept.execFrequencyCheck n s
  | fabricPllLoss die n => exact Kept.execFabricPllLoss die n s
  | por => exact Kept.execPor s
  | deviceReset cause => exact Kept.execDeviceReset cause s
  | dieReset die => exact Kept.execDieReset die s
  | regionReset r die mask => exact Kept.execRegionReset r die mask s
  | regionResetDone die => exact Kept.execRegionResetDone die s
  | unitReset r die unit inst => exact Kept.execUnitReset r die unit inst s
  | dieRelease r mask => exact Kept.execDieRelease r mask s
  | directoryRead c0 c1 => exact Kept.execDirectoryRead c0 c1 s
  | imageHeaderRead h => exact Kept.execImageHeaderRead h s
  | segmentReceive g => exact Kept.execSegmentReceive g s
  | segmentTimeout => exact Kept.execSegmentTimeout s
  | doneRelease fits => exact Kept.execDoneRelease fits s
  | jtagConfiguration h => exact Kept.execJtagConfiguration h s
  | nvmCommand r w => exact Kept.execNvmCommand r w s
  | nvmCommandComplete data => exact Kept.execNvmCommandComplete data s
  | regionLoad r die rg userPort => exact Kept.execRegionLoad r die rg userPort s
  | loadComplete die rg e => exact Kept.execLoadComplete die rg e s
  | userPortTimeout die arrived => exact Kept.execUserPortTimeout die arrived s
  | regionRelease r die rg timed => exact Kept.execRegionRelease r die rg timed s
  | regionOffline r die rg timed => exact Kept.execRegionOffline r die rg timed s
  | regionSelftest r die rg => exact Kept.execRegionSelftest r die rg s
  | regionAbort r die rg => exact Kept.execRegionAbort r die rg s
  | timedCommandDue die rg => exact Kept.execTimedCommandDue die rg s
  | selftestResult die rg sig us pass => exact Kept.execSelftestResult die rg sig us pass s
  | selftestTimeout die rg => exact Kept.execSelftestTimeout die rg s
  | facetTest r die p => exact Kept.execFacetTest r die p s
  | facetTestDone die pass => exact Kept.execFacetTestDone die pass s
  | scrubPassStart die n => exact Kept.execScrubPassStart die n s
  | frameScrub die n err bad => exact Kept.execFrameScrub die n err bad s
  | criticalScrub die n rewritten => exact Kept.execCriticalScrub die n rewritten s
  | scrubberAudit die n holders => exact Kept.execScrubberAudit die n holders s
  | frameRepair die n poison => exact Kept.execFrameRepair die n poison s
  | regionRepair die n crc poison => exact Kept.execRegionRepair die n crc poison s
  | scrubberRestart r die n w => exact Kept.execScrubberRestart r die n w s
  | cdBankConfirm r w => exact Kept.execCdBankConfirm r w s
  | trialTimeout => exact Kept.execTrialTimeout s
  | bezelCommandGo r chan w => exact Kept.execBezelCommandGo r chan w s
  | keyGen => exact Kept.execKeyGen s
  | keyImport => exact Kept.execKeyImport s
  | keyExport => exact Kept.execKeyExport s
  | keyDelete => exact Kept.execKeyDelete s
  | mpeLoad => exact Kept.execMpeLoad s
  | mpeGrant => exact Kept.execMpeGrant s
  | signRecord => exact Kept.execSignRecord s
  | transferWrap => exact Kept.execTransferWrap s
  | attest => exact Kept.execAttest s
  | getCert => exact Kept.execGetCert s
  | imageLib img => exact Kept.execImageLib img s
  | imageCd img => exact Kept.execImageCd img s
  | fwActivate img => exact Kept.execFwActivate img s
  | random => exact Kept.execRandom s
  | arbAdvance => exact Kept.execArbAdvance s
  | otpSet t => exact Kept.execOtpSet t s
  | lcChange ts block => exact Kept.execLcChange ts block s
  | sensorEvent cls => exact Kept.execSensorEvent cls s
  | extest cells => exact Kept.execExtest cells s
  | idcode => exact Kept.execIdcode s
  | samplePreload cells => exact Kept.execSamplePreload cells s
  | clamp => exact Kept.execClamp s
  | highz => exact Kept.execHighz s
  | extestPulse cells => exact Kept.execExtestPulse cells s
  | extestTrain cells => exact Kept.execExtestTrain cells s
  | dag => exact Kept.execDag s
  | cfgData => exact Kept.execCfgData s
  | bypass => exact Kept.execBypass s
  | tapReset => exact Kept.execTapReset s
  | dagAccess op addr data tag => exact Kept.execDagAccess op addr data tag s
  | password scope => exact Kept.execPassword scope s
  | challenge scope => exact Kept.execChallenge scope s
  | response scope zfill late => exact Kept.execResponse scope zfill late s
  | close => exact Kept.execClose s
  | challengeExpiry => exact Kept.execChallengeExpiry s
  | authDelayEnd => exact Kept.execAuthDelayEnd s
  | coreHaltRequest r n => exact Kept.execCoreHaltRequest r n s
  | coreHalt n => exact Kept.execCoreHalt n s
  | coreResumeRequest r n => exact Kept.execCoreResumeRequest r n s
  | ebreak n pc => exact Kept.execEbreak n pc s
  | abstractAccess r n w => exact Kept.execAbstractAccess r n w s
  | facetHalt r => exact Kept.execFacetHalt r s
  | facetResume r => exact Kept.execFacetResume r s
  | facetStep r => exact Kept.execFacetStep r s
  | facetRegisterAccess r w => exact Kept.execFacetRegisterAccess r w s
  | watchdogKick r n => exact Kept.execWatchdogKick r n s
  | watchdogExpiry n => exact Kept.execWatchdogExpiry n s
  | debugLineEdge n => exact Kept.execDebugLineEdge n s
  | terminalTxPush r b => exact Kept.execTerminalTxPush r b s
  | terminalTxPop => exact Kept.execTerminalTxPop s
  | terminalRxPush b => exact Kept.execTerminalRxPush b s
  | terminalRxPop r => exact Kept.execTerminalRxPop r s
  | recordArrival picks => exact Kept.execRecordArrival picks s
  | recordStore sev7 => exact Kept.execRecordStore sev7 s
  | recorderFreeze r => exact Kept.execRecorderFreeze r s
  | recorderUnfreeze r => exact Kept.execRecorderUnfreeze r s
  | recorderClear r => exact Kept.execRecorderClear r s
  | freezeLimitExpiry => exact Kept.execFreezeLimitExpiry s
  | brownout => exact Kept.execBrownout s
  | vccioArrival die bank mv => exact Kept.execVccioArrival die bank mv s
  | vccioLoss die bank => exact Kept.execVccioLoss die bank s
  | spinePllLock => exact Kept.execSpinePllLock s
  | quadPllLock die q b => exact Kept.execQuadPllLock die q b s
  | fabricPllLock die n => exact Kept.execFabricPllLock die n s
  | blockLock die l => exact Kept.execBlockLock die l s
  | localReferenceLoss n => exact Kept.execLocalReferenceLoss n s
  | fabricBypassOutput die line level => exact Kept.execFabricBypassOutput die line level s

/-- A step on a queue that is not empty keeps all but the queue of the state it starts from. -/
theorem step_cons {s : State} {c : Instr} {rest : List Instr} (h : s.pending = c :: rest) :
    ∃ t, step s = .next t ∧ Kept (!movesOtp c) { s with pending := rest } t := by
  obtain ⟨t, ht, hk⟩ := exec_kept c { s with pending := rest }
  exact ⟨t, by rw [← ht, step, h], hk⟩

theorem step_nil {s : State} (h : s.pending = []) : step s = .next s := by rw [step, h]

/-- A step from `s` to `t` runs no command, or the one at the front. -/
theorem step_cases {s t : State} (h : step s = .next t) :
    (s.pending = [] ∧ t = s) ∨ ∃ c rest, s.pending = c :: rest ∧ Kept (!movesOtp c) { s with pending := rest } t := by
  cases hp : s.pending with
  | nil => exact .inl ⟨rfl, (Host.Outcome.next.inj ((step_nil hp).symm.trans h)).symm⟩
  | cons c rest =>
    obtain ⟨u, hu, hk⟩ := step_cons hp
    obtain rfl : u = t := Host.Outcome.next.inj (hu.symm.trans h)
    exact .inr ⟨c, rest, rfl, hk⟩

/-! ## The obligations -/

/-- Settles O3. -/
theorem everyCommandAnswersNext : Obligations.EveryCommandAnswersNext := by
  intro s
  cases hp : s.pending with
  | nil => exact ⟨s, step_nil hp, hp, rfl, rfl⟩
  | cons c rest =>
    obtain ⟨t, ht, hk⟩ := step_cons hp
    exact ⟨t, ht, hk.pending, hk.grade⟩

/-- Settles O4: the store stays canonical whichever command the step runs. -/
theorem registerStoreStaysCanonical : Obligations.RegisterStoreStaysCanonical := by
  intro s t hs h
  rcases step_cases h with ⟨-, rfl⟩ | ⟨c, rest, -, hk⟩
  · exact hs
  · exact hk.csr hs

/-- Settles O5: the command of a step moves one-time-programmable state forward, and one that is none of the four leaves it as it is. -/
theorem oneTimeStateMovesForward : Obligations.OneTimeStateMovesForward := by
  intro s t h
  rcases step_cases h with ⟨-, rfl⟩ | ⟨c, rest, hp, hk⟩
  · exact ⟨Otp.noLess_refl _, fun _ _ _ _ => ⟨rfl, rfl⟩⟩
  · refine ⟨hk.otp, fun harb hotp hlc hum => hk.same ?_⟩
    cases c with
    | arbAdvance => exact absurd hp (harb rest)
    | otpSet x => exact absurd hp (hotp x rest)
    | lcChange x y => exact absurd hp (hlc x y rest)
    | userModeEntry x => exact absurd hp (hum x rest)
    | _ => rfl

/-- Settles O1. -/
theorem stepRunsFrontCommand : Obligations.StepRunsFrontCommand :=
  ⟨fun _ _ _ => rfl, fun _ h => step_nil h, fun _ _ _ => ⟨rfl, rfl⟩⟩

/-- Settles O2: nothing is listed at reset, so every register reads its reset value and every unit its own. -/
theorem resetState : Obligations.ResetState := by
  refine ⟨rfl, ⟨.nil, by simp [State.reset]⟩, fun _ => rfl, rfl, by decide, by decide, fun _ => rfl, fun _ _ => rfl, fun _ _ => rfl, fun _ => rfl,
    fun _ => rfl, fun _ => rfl, fun _ => rfl, fun _ => rfl, rfl, rfl⟩

end Sys2Proof.Machine
end

section
/-!
PROOF. The spine tick (R11, R47).
-/
namespace Sys2Proof.Machine

/-- `t` has the tick count, the serial links and the tick's start and length of `s`. -/
structure SameTick (s t : State) : Prop where
  tick : t.tick = s.tick
  serial : t.serial = s.serial
  dt : t.spine.dt = s.spine.dt
  len : t.spine.len = s.spine.len

theorem SameTick.refl (s : State) : SameTick s s := ⟨rfl, rfl, rfl, rfl⟩

theorem SameTick.trans {s t u : State} (h : SameTick s t) (k : SameTick t u) : SameTick s u :=
  ⟨k.tick.trans h.tick, k.serial.trans h.serial, k.dt.trans h.dt, k.len.trans h.len⟩

theorem SameTick.foldl {α : Type} {f : State → α → State} (h : ∀ t a, SameTick t (f t a)) (l : List α) (s : State) : SameTick s (l.foldl f s) :=
  List.foldlRecOn l f (motive := SameTick s) (.refl s) fun t ht a _ => ht.trans (h t a)

theorem sameTick_domClose (s : State) (i : Nat) : SameTick s (s.domClose i) := by
  unfold State.domClose State.flagIf
  dsimp only
  split <;> exact ⟨rfl, rfl, rfl, rfl⟩

/-- HOLDOVER_MAX stands still in CLOCK_HOLD: the domains keep the counts `held`. -/
def State.holdCounts (s : State) (held : List Nat) : State :=
  if s.clk.hold then (List.range 16).foldl (fun s i => s.setDom i { s.dom i with holdTicks := min (s.dom i).holdTicks (held.getD i 0) }) s else s

theorem sameTick_holdCounts (s : State) (held : List Nat) : SameTick s (s.holdCounts held) := by
  unfold State.holdCounts
  split
  · refine SameTick.foldl ?_ (List.range 16) s
    exact fun t i => ⟨rfl, rfl, rfl, rfl⟩
  · exact .refl s

/-- What the advance does before DT moves: the domains close the tick, and so do the sums of increments. -/
def State.tickClosed (s : State) : State :=
  (((List.range 16).foldl (fun s i => s.domClose i) s).holdCounts ((List.range 16).map (fun i => (s.dom i).holdTicks))).incsClose

theorem sameTick_incsClose (s : State) : SameTick s s.incsClose := ⟨rfl, rfl, rfl, rfl⟩

theorem sameTick_tickClosed (s : State) : SameTick s s.tickClosed :=
  ((SameTick.foldl sameTick_domClose (List.range 16) s).trans (sameTick_holdCounts ..)).trans (sameTick_incsClose _)

/-- The tick counted and DT moved to its end. -/
def State.dtMoved (s : State) : State := { s with spine := { s.spine with dt := s.tickEnd }, tick := s.tick + 1 }

theorem dtMoved_tick (s : State) : s.dtMoved.tick = s.tick + 1 := rfl

theorem tickAdvance_eq (s : State) : s.tickAdvance = s.tickClosed.dtMoved.stepDt.slewTick := by
  unfold State.tickAdvance State.dtMoved State.tickClosed State.holdCounts
  rfl

theorem slewTick_time (s : State) : s.slewTick.tick = s.tick ∧ s.slewTick.spine.dt = s.spine.dt := by
  unfold State.slewTick
  dsimp only
  split <;> exact ⟨rfl, rfl⟩

theorem stepDt_tick (s : State) : s.stepDt.tick = s.tick := by
  unfold State.stepDt
  split <;> rfl

theorem stepDt_none {s : State} (h : s.serial.step = none) : s.stepDt = s := by simp [State.stepDt, h]

theorem stepDt_some {s : State} {d : Int} (h : s.serial.step = some d) : s.stepDt.spine.dt = s.spine.dt + BitVec.ofInt 64 d := by
  simp [State.stepDt, h, State.setPort]

/-- DT and the pending step of DT, once the domains have closed the tick. -/
theorem dtMoved_tickClosed (s : State) : s.tickClosed.dtMoved.spine.dt = s.tickEnd ∧ s.tickClosed.dtMoved.serial = s.serial := by
  have h := sameTick_tickClosed s
  generalize s.tickClosed = t at h
  refine ⟨?_, h.serial⟩
  simp only [State.dtMoved, State.tickEnd, h.dt, h.len]

/-- Settles O9: the order is that of the definition; the advance counts the tick after everything that keeps DT has closed. -/
theorem spineTickOrder : Obligations.SpineTickOrder := by
  intro s missed
  refine ⟨fun h => ?still, fun hp hr => ?runs, ?count, fun h => ?advance, fun d h => ?stepped⟩
  case still => rcases h with h | h <;> simp [exec, execSpineTick, State.spineTick, h]
  case runs => simp only [exec, execSpineTick, State.spineTick, hp, hr, Bool.not_true, Bool.or_self, Bool.false_eq_true, if_false, List.foldl_cons, List.foldl_nil]
  case count => rw [tickAdvance_eq, (slewTick_time _).1, stepDt_tick, dtMoved_tick, (sameTick_tickClosed s).tick]
  case advance =>
    obtain ⟨hdt, hserial⟩ := dtMoved_tickClosed s
    rw [tickAdvance_eq, (slewTick_time _).2, stepDt_none (by rw [hserial, h]), hdt]
  case stepped =>
    obtain ⟨hdt, hserial⟩ := dtMoved_tickClosed s
    rw [tickAdvance_eq, (slewTick_time _).2, stepDt_some (by rw [hserial, h]), hdt]

end Sys2Proof.Machine
end

section
/-!
PROOF. The access bus: accesses it does not perform (R5, R33, R530, R533), pairs, reads with side effects and GROUP (R6, R7, R29, R31).
-/
namespace Sys2Proof.Machine

/-! ## Accesses that are not performed -/

section turnedAway
variable {s : State} {r : Requester} {addr size key : Nat} {w : Word}

/-- The gate lets a requester's access pass: it stops the debugger's alone, outside its scopes. -/
theorem gate_passes (hg : r.code = 16 → s.gateCovers addr = true) : ¬(r.code = 16 ∧ (!s.gateCovers addr) = true) := by
  rintro ⟨h16, hc⟩
  simp [hg h16] at hc

theorem busWrite_nothing (hg : r.code = 16 → s.gateCovers addr = true) (hp : place addr = .nothing)
    (h : 5 < r.code ∨ isPlic addr = false ∨ size ≠ 4 ∨ addr % 4 ≠ 0) :
    s.busWrite r addr size w = s.completeAccess r.code true addr .noTarget 0 := by
  have hplic : ¬(r.code ≤ 5 ∧ isPlic addr = true ∧ size = 4 ∧ addr % 4 = 0) := by
    rintro ⟨hr, hi, hs, ha⟩
    rcases h with h | h | h | h
    · omega
    · simp [hi] at h
    · exact h hs
    · exact h ha
  simp only [State.busWrite, gate_passes hg, hp, hplic, if_false]

theorem busWrite_misaligned (hk : key < 2 ^ 32) (hg : r.code = 16 → s.gateCovers (csrAddr key) = true) (h : size ≠ 4 ∨ key % 4 ≠ 0) :
    s.busWrite r (csrAddr key) size w = s.completeAccess r.code true (csrAddr key) .refused 0 := by
  have hal : ¬(size = 4 ∧ csrAddr key % 4 = 0) := by unfold csrAddr; omega
  simp only [State.busWrite, gate_passes hg, place_csrAddr hk, hal, if_false]

/-- A word access of the CSR window that the gate lets pass reaches the register window. -/
theorem regAccess_csrWrite (hk : key < 2 ^ 32) (hal : key % 4 = 0) (hg : r.code = 16 → s.gateCovers (csrAddr key) = true) :
    s.busWrite r (csrAddr key) 4 w = s.csrWrite r.code (csrAddr key) key w := by
  simp only [State.busWrite, gate_passes hg, place_csrAddr hk, csrAddr_aligned hal, and_self, if_true, if_false]

theorem singleReg_iff : singleReg key = true ↔
    key < 2 ^ 32 ∧ key % 4 = 0 ∧ isAlias key = false ∧ regDefined key = true ∧ cxlData key = false := by
  simp [singleReg, and_assoc]

/-- A write of a single register that its unit does not perform is answered by the reason, and has no other effect. -/
theorem regAccess_declined {x : Resp} (hk : singleReg key = true) (hg : r.code = 16 → s.gateCovers (csrAddr key) = true)
    (h : s.memberWrite r.code key w = (s, x)) : s.busWrite r (csrAddr key) 4 w = s.completeAccess r.code true (csrAddr key) x 0 := by
  obtain ⟨hlt, hal, halias, hdef, hcxl⟩ := singleReg_iff.mp hk
  rw [regAccess_csrWrite hlt hal hg]
  simp [State.csrWrite, halias, hdef, hcxl, h]

end turnedAway

/-- Settles O6: in the order of the bus, the gate, the width, the decoder, the unit, the policy and start-up. -/
theorem accessesTurnedAway : Obligations.AccessesTurnedAway := by
  intro s r key w
  refine ⟨fun addr size h16 hg => ?gate, fun addr size hg hp h => ?nothing, fun size hk hg h => ?width, fun hg hk hal halias hdef => ?undefined,
    fun hg hk => ⟨fun hr => ?unreachable, fun hr hd => ?denied, fun hr hd hdc => ?declined⟩⟩
  case gate => simp [exec, execRegisterWrite, State.busWrite, h16, hg]
  case nothing => exact congrArg Host.Outcome.next (busWrite_nothing hg hp h)
  case width => exact congrArg Host.Outcome.next (busWrite_misaligned hk hg h)
  case undefined =>
    refine congrArg Host.Outcome.next ((regAccess_csrWrite hk hal hg).trans ?_)
    simp [State.csrWrite, halias, hdef]
  case unreachable => exact congrArg Host.Outcome.next (regAccess_declined hk hg (by simp [State.memberWrite, hr]))
  case denied => exact congrArg Host.Outcome.next (regAccess_declined hk hg (by simp [State.memberWrite, hr, hd]))
  case declined => exact congrArg Host.Outcome.next (regAccess_declined hk hg (by simp [State.memberWrite, hr, hd, hdc]))

/-! ## Units without a sequence -/

/-- The requester's access ends no running sequence: the unit has none. -/
theorem touched_plain {key : Nat} (s : State) (req : Nat) (h6 : keyUnit key ≠ 0x06) (h7 : keyUnit key ≠ 0x07) (h13 : keyUnit key ≠ 0x13) :
    s.touched req key = s := by
  unfold State.touched
  split
  · exact absurd ‹_› h6
  · exact absurd ‹_› h7
  · exact absurd ‹_› h13
  · rfl

theorem used_of_fixed {s : State} {key : Nat} (h : s.readIsFree key = false) : s.used key = s := by simp [State.used, h]

/-! ## Halves of pairs (R6) -/

section halves
variable {s : State} {r : Requester} {key : Nat}

theorem regAccess_pairLo {w : Word} (hk : singleReg key = true) (h13 : keyUnit key ≠ 0x13) (ht : s.touched r.code key = s)
    (hl : pairHalf key = .lo) (hw : takesWrites key = true) (ha : s.admits r key true = true) (hp : s.pairRefused key = false) :
    s.regAccess r key w = (s.setHeld (slot key r.code) (some w)).wrote r key := by
  rw [regAccess_admitted hk ha]
  simp [State.keyWrite, hl, ht, State.pairLoWrite, hw, hp, h13, State.wrote]

/-- A high half that its unit takes is answered as what it does with the low half held, or not held. -/
theorem regAccess_pairHi {w : Word} {t : State} (hk : singleReg key = true) (ht : s.touched r.code key = s) (hh : pairHalf key = .hi)
    (ha : s.admits r key true = true) (h : s.pairHiWrite key r.code w = (t, .ok)) : s.regAccess r key w = t.wrote r key := by
  rw [regAccess_admitted hk ha]
  simp [State.keyWrite, hh, ht, h, State.wrote]

theorem pairHiWrite_held {w lo : Word} (hw : takesWrites key = true) (hp : s.pairRefused key = false)
    (hl : s.bus.held.get (slot (key - 4) r.code) none = some lo) :
    s.pairHiWrite key r.code w = (s.setHeld (slot (key - 4) r.code) none).pairWrite (key - 4) r.code (joinHalves w lo) := by
  simp [State.pairHiWrite, hw, hp, hl]

theorem pairHiWrite_unheld {w : Word} (hw : takesWrites key = true) (hp : s.pairRefused key = false)
    (hl : s.bus.held.get (slot (key - 4) r.code) none = none) : s.pairHiWrite key r.code w = (s.pairUnheld key, .ok) := by
  simp [State.pairHiWrite, hw, hp, hl]

/-- An admitted read of a single register by an agent that ends no sequence answers what the read with its side effects answers. -/
theorem regFetch_effect {t : State} {v : Word} (hk : singleReg key = true) (ht : s.touched r.code key = s) (ha : s.admits r key false = true)
    (hr : r.code ≠ 16) (h : s.effectRead r.code key = (t, .ok, v)) : s.regFetch r key = t.fetched r key v := by
  refine regAccess_fetched hk ha hr ?_
  rw [ht, h]

end halves

/-! ## Reads with side effects (R7) -/

/-- The units none of whose registers has a read of its own. -/
theorem effectRead_plain {s : State} {key req : Nat} (hp : pairHalf key = .none)
    (hu : [0x00, 0x04, 0x09, 0x0B, 0x0C, 0x0D, 0x0F, 0x10, 0x14, 0x15, 0x17].contains (keyUnit key) = true) :
    s.effectRead req key = ((s.readClear key).1, .ok, (s.readClear key).2) := by
  simp only [List.contains_iff_mem, List.mem_cons, List.not_mem_nil, or_false] at hu
  unfold State.effectRead
  rw [hp]
  rcases hu with hu | hu | hu | hu | hu | hu | hu | hu | hu | hu | hu <;> (rw [hu]; rfl)

theorem touched_clearing {s : State} {key req : Nat}
    (hu : [0x00, 0x04, 0x09, 0x0B, 0x0C, 0x0D, 0x0F, 0x10, 0x14, 0x15, 0x17].contains (keyUnit key) = true) : s.touched req key = s := by
  refine touched_plain s req ?_ ?_ ?_ <;> (intro h; simp [h] at hu)

theorem readClear_counter {s : State} {key : Nat} {reg : RegDef} (hd : regDef? key = some reg) (hrc : reg.rc ≠ 0) :
    s.readClear key = (s.wr key (s.rd key &&& ~~~(BitVec.ofNat 32 reg.rc)), s.regRead key) := by
  simp [State.readClear, hd, hrc]

theorem effectRead_CFG_NVMDATA (s : State) (req : Nat) :
    s.effectRead req Reg.CFG_NVMDATA = (s.nvmDataRead.1, .ok, s.nvmDataRead.2) := by
  have hp : pairHalf Reg.CFG_NVMDATA = .none := by decide
  have hu : keyUnit Reg.CFG_NVMDATA = 0x0E := by decide
  have ho : keyOff Reg.CFG_NVMDATA = 0x048 := by decide
  have hd : keyDie Reg.CFG_NVMDATA = 4 := by decide
  unfold State.effectRead
  rw [hp, hu, ho, hd]
  rfl

/-- A debugger's read of a register outside the units with sequences changes nothing but the answer. -/
theorem regFetch_debugger {s : State} {key : Nat} (hk : singleReg key = true) (ha : s.admits .debugger key false = true)
    (hf : s.readIsFree key = false) (h6 : keyUnit key ≠ 0x06) (h7 : keyUnit key ≠ 0x07) (h13 : keyUnit key ≠ 0x13) :
    s.regFetch .debugger key = s.completeAccess 16 false (csrAddr key) .ok (s.regRead key) := by
  rw [regPeek_admitted hk ha rfl, touched_plain s 16 h6 h7 h13]
  simp [State.peek, h6, used_of_fixed hf]

/-! ## GROUP (R29) -/

/-- The registers of a unit lie below the common registers of R29. -/
theorem regRows_below_common (u : Nat) : ∀ reg ∈ regRows u, reg.off + reg.stride * reg.count ≤ 0xFF8 ∧ 0 < reg.stride := by
  unfold regRows
  split <;> decide

theorem pairHalf_common {key : Nat} (h : 0xFF8 ≤ keyOff key) : pairHalf key = .none := by
  have hnone : regDef? key = none := by
    unfold regDef?
    split
    · refine List.find?_eq_none.mpr fun reg hreg hc => ?_
      obtain ⟨hlt, hpos⟩ := regRows_below_common _ reg hreg
      simp only [RegDef.covers, Bool.and_eq_true, decide_eq_true_eq] at hc
      have hoff : keyOff key - reg.off < reg.stride * reg.count := by
        rw [Nat.mul_comm]
        exact (Nat.div_lt_iff_lt_mul hpos).mp hc.2
      omega
    · rfl
  simp [pairHalf, hnone]

/-- Settles O8: each half by what its requester holds or has captured, each read by its side effect, GROUP by its offset. -/
theorem registerHalvesReadsAndGroups : Obligations.RegisterHalvesReadsAndGroups := by
  refine ⟨fun s r key hk h6 h7 h13 => ?halves, fun s r key => ⟨fun reg hk hp hd hrc hu ha hr => ?clear, fun ha hr => ?pop,
    fun hk ha hf h6 h7 h13 => ?debugger⟩, fun s r key w hk ho h6 h7 h13 ha => ?group⟩
  case halves =>
    have ht : s.touched r.code key = s := touched_plain s _ h6 h7 h13
    refine ⟨fun w hl hw ha hp => ?_, fun w lo t hh hw ha hp hl hpw => ?_, fun w hh hw ha hp hl => ?_, fun hl ha hr hf => ?_,
      fun d hh ha hr hc => ?_, fun hh ha hr hf hc => ?_⟩
    · exact congrArg Host.Outcome.next (regAccess_pairLo hk h13 ht hl hw ha hp)
    · exact congrArg Host.Outcome.next (regAccess_pairHi hk ht hh ha ((pairHiWrite_held hw hp hl).trans hpw))
    · exact congrArg Host.Outcome.next (regAccess_pairHi hk ht hh ha (pairHiWrite_unheld hw hp hl))
    · refine congrArg Host.Outcome.next (regFetch_effect hk ht ha hr ?_)
      have hf' : ∀ k d, (s.setCapt k d).readIsFree key = false := fun _ _ => hf
      simp [State.effectRead, hl, State.pairLoRead, used_of_fixed (hf' _ _)]
    · refine congrArg Host.Outcome.next (regFetch_effect hk ht ha hr ?_)
      simp [State.effectRead, hh, State.pairHiRead, hc]
    · refine congrArg Host.Outcome.next (regFetch_effect hk ht ha hr ?_)
      simp [State.effectRead, hh, State.pairHiRead, hc, used_of_fixed hf]
  case clear =>
    refine congrArg Host.Outcome.next (regFetch_effect hk (touched_clearing hu) ha hr ?_)
    rw [effectRead_plain hp hu, readClear_counter hd hrc]
  case pop =>
    have hk : singleReg Reg.CFG_NVMDATA = true := by decide
    have ht : s.touched r.code Reg.CFG_NVMDATA = s := touched_plain s _ (by decide) (by decide) (by decide)
    refine congrArg Host.Outcome.next ((regFetch_effect hk ht ha hr (effectRead_CFG_NVMDATA s r.code)).trans ?_)
    unfold State.nvmDataRead
    split <;> rfl
  case debugger =>
    have h := regFetch_debugger hk ha hf h6 h7 h13
    exact ⟨congrArg Host.Outcome.next h, congrArg Host.Outcome.next h⟩
  case group =>
    refine congrArg Host.Outcome.next (regAccess_wrote ⟨hk, pairHalf_common (by omega)⟩ ha ?_)
    rw [touched_plain s _ h6 h7 h13, State.regWrite]
    simp [ho]

end Sys2Proof.Machine
end

section
/-!
PROOF. The domain engines: writes that wait or apply whole (R6, R59, R71, R73), edges of each source (R54 to R57, R60, R61), time-outs
(R12, R68, R70).
-/
namespace Sys2Proof.Machine

/-! ## Registers of a domain -/

/-- A write of a domain's register off the pairs reaches `spineWrite`. -/
theorem regWrite_domUnit (s : State) {i o : Nat} (req : Nat) (w : Word) (hi : i < 16) (ho : o < 0xFF8) :
    (s.touched req (regKey 4 0x03 i o)).regWrite (regKey 4 0x03 i o) req w = s.spineWrite 4 i o (regKey 4 0x03 i o) w := by
  have h : o < 4096 := by omega
  have hi' : i < 4096 := by omega
  have h1 : o ≠ 0xFFC := by omega
  have h2 : o ≠ 0xFF8 := by omega
  simp [State.touched, State.regWrite, keyUnit_regKey h hi', keyOff_regKey h, keyInst_regKey h hi', keyDie_regKey h hi', h1, h2]

theorem regWrite_DOM_CMD (s : State) (d : Fin 16) (req : Nat) (w : Word) :
    (s.touched req (Reg.DOM_CMD d)).regWrite (Reg.DOM_CMD d) req w = (s.domCommand d (wfld w 0 4), .ok) := by
  rw [Reg.DOM_CMD, regWrite_domUnit s req w d.isLt (by decide)]
  simp [State.spineWrite, show ¬16 ≤ (d : Nat) by omega]

/-- A command code that the engine takes waits behind those that came before it (R71). -/
theorem exec_domCommand {s : State} {r : Requester} {d : Fin 16} (ha : s.admits r (Reg.DOM_CMD d) true = true) {w : Word} {c : DomCmd}
    (h : s.domCommand d (wfld w 0 4) = s.setDom d { s.dom d with cmds := (s.dom d).cmds ++ [c] }) :
    s.regAccess r (Reg.DOM_CMD d) w = (s.setDom d { s.dom d with cmds := (s.dom d).cmds ++ [c] }).wrote r (Reg.DOM_CMD d) :=
  regAccess_wrote (single_DOM_CMD d d.isLt) ha ((regWrite_DOM_CMD ..).trans (by rw [h]))

theorem dom_done (s : State) (k : Nat) (w : Option Word) (r : Requester) (lo i : Nat) : ((s.setHeld k w).wrote r lo).dom i = s.dom i := by
  unfold State.wrote
  rw [completeAccess_frame]
  rfl

theorem touched_domUnit (s : State) (req : Nat) {i o : Nat} (hi : i < 4096) (ho : o < 4096) : s.touched req (regKey 4 0x03 i o) = s := by
  simp [State.touched, keyUnit_regKey ho hi]

section domPairs
variable {s t : State} {r : Requester} {d : Fin 16} {v : DWord}

/-- A whole pair of a domain that its engine takes (R6). -/
theorem pairAccess_dom {o : Nat} (ho : o + 4 < 4096) (hlo : singleReg (regKey 4 0x03 d o) = true ∧ pairHalf (regKey 4 0x03 d o) = .lo)
    (hhi : singleReg (regKey 4 0x03 d (o + 4)) = true ∧ pairHalf (regKey 4 0x03 d (o + 4)) = .hi)
    (wlo : takesWrites (regKey 4 0x03 d o) = true) (whi : takesWrites (regKey 4 0x03 d (o + 4)) = true)
    (ha : s.admits r (regKey 4 0x03 d o) true = true) (hb : s.admits r (regKey 4 0x03 d (o + 4)) true = true)
    (hp : ∀ u : State, u.dom d = s.dom d → u.domSrc d = s.domSrc d →
      u.pairRefused (regKey 4 0x03 d o) = false ∧ u.pairRefused (regKey 4 0x03 d (o + 4)) = false)
    (h : ((s.setHeld (slot (regKey 4 0x03 d o) r.code) none).wrote r (regKey 4 0x03 d o)).pairWrite (regKey 4 0x03 d o) r.code v = (t, .ok)) :
    s.pairAccess r (regKey 4 0x03 d o) (regKey 4 0x03 d (o + 4)) v = t.wrote r (regKey 4 0x03 d (o + 4)) := by
  have hd : (d : Nat) < 4096 := by omega
  have hu : keyUnit (regKey 4 0x03 d o) ≠ 0x13 := by rw [keyUnit_regKey (by omega) hd (by decide)]; decide
  have hsrc : ∀ k w lo, ((s.setHeld k w).wrote r lo).domSrc d = s.domSrc d := fun k w lo => by
    unfold State.domSrc State.fld
    rw [rd_done]
  exact pairAccess_wrote hlo hhi (by unfold regKey; omega) ha hb (fun x => touched_domUnit x _ hd (by omega))
    (fun x => touched_domUnit x _ hd ho) hu wlo whi (hp s rfl rfl).1 (hp _ (dom_done ..) (hsrc ..)).2 h

/-- DOM_VEL and DOM_ACC take writes for a VIRTUAL domain alone. -/
theorem pairRefused_domRate (u : State) {o : Nat} (d : Fin 16) (h : o = 0x020 ∨ o = 0x024 ∨ o = 0x028 ∨ o = 0x02C) :
    u.pairRefused (regKey 4 0x03 d o) = (u.domSrc d != 5) := by
  have hd : (d : Nat) < 4096 := by omega
  rcases h with rfl | rfl | rfl | rfl <;> simp [State.pairRefused, keyUnit_regKey, keyInst_regKey, keyOff_regKey, hd]

/-- DOM_LOAD takes writes in OFF alone (R73). -/
theorem pairRefused_domLoad (u : State) {o : Nat} (d : Fin 16) (h : o = 0x018 ∨ o = 0x01C) :
    u.pairRefused (regKey 4 0x03 d o) = ((u.dom d).state != .off) := by
  have hd : (d : Nat) < 4096 := by omega
  rcases h with rfl | rfl <;> simp [State.pairRefused, keyUnit_regKey, keyInst_regKey, keyOff_regKey, hd]

theorem pairWrite_DOM_VEL (u : State) (d : Fin 16) (req : Nat) : u.pairWrite (regKey 4 0x03 d 0x020) req v = (u.velocityWrite d v, .ok) := by
  have hd : (d : Nat) < 4096 := by omega
  simp [State.pairWrite, keyUnit_regKey, keyInst_regKey, keyOff_regKey, hd]

theorem pairWrite_DOM_ACC (u : State) (d : Fin 16) (req : Nat) : u.pairWrite (regKey 4 0x03 d 0x028) req v = (u.accelerationWrite d v, .ok) := by
  have hd : (d : Nat) < 4096 := by omega
  simp [State.pairWrite, keyUnit_regKey, keyInst_regKey, keyOff_regKey, hd]

theorem pairWrite_DOM_LOAD (u : State) (d : Fin 16) (req : Nat) : u.pairWrite (regKey 4 0x03 d 0x018) req v =
    ((u.wrPair (regKey 4 0x03 d 0x018) (regKey 4 0x03 d 0x018 + 4) v).phaseLoad d v, .ok) := by
  have hd : (d : Nat) < 4096 := by omega
  simp [State.pairWrite, keyUnit_regKey, keyInst_regKey, keyOff_regKey, hd]

theorem pairAccess_DOM_VEL (ha : s.admits r (Reg.DOM_VEL_LO d) true = true) (hb : s.admits r (Reg.DOM_VEL_HI d) true = true)
    (hsrc : s.domSrc d = 5) : s.pairAccess r (Reg.DOM_VEL_LO d) (Reg.DOM_VEL_HI d) v =
      (((s.setHeld (slot (Reg.DOM_VEL_LO d) r.code) none).wrote r (Reg.DOM_VEL_LO d)).velocityWrite d v).wrote r (Reg.DOM_VEL_HI d) := by
  refine pairAccess_dom (o := 0x020) (by decide) (single_DOM_VEL_LO d d.isLt) (single_DOM_VEL_HI d d.isLt) (writes_DOM_VEL_LO d d.isLt)
    (writes_DOM_VEL_HI d d.isLt) ha hb (fun u _ hu => ?_) (pairWrite_DOM_VEL ..)
  rw [pairRefused_domRate u d (by decide), pairRefused_domRate u d (by decide)]
  simp [hu, hsrc]

theorem pairAccess_DOM_ACC (ha : s.admits r (Reg.DOM_ACC_LO d) true = true) (hb : s.admits r (Reg.DOM_ACC_HI d) true = true)
    (hsrc : s.domSrc d = 5) : s.pairAccess r (Reg.DOM_ACC_LO d) (Reg.DOM_ACC_HI d) v =
      (((s.setHeld (slot (Reg.DOM_ACC_LO d) r.code) none).wrote r (Reg.DOM_ACC_LO d)).accelerationWrite d v).wrote r (Reg.DOM_ACC_HI d) := by
  refine pairAccess_dom (o := 0x028) (by decide) (single_DOM_ACC_LO d d.isLt) (single_DOM_ACC_HI d d.isLt) (writes_DOM_ACC_LO d d.isLt)
    (writes_DOM_ACC_HI d d.isLt) ha hb (fun u _ hu => ?_) (pairWrite_DOM_ACC ..)
  rw [pairRefused_domRate u d (by decide), pairRefused_domRate u d (by decide)]
  simp [hu, hsrc]

theorem pairAccess_DOM_LOAD (ha : s.admits r (Reg.DOM_LOAD_LO d) true = true) (hb : s.admits r (Reg.DOM_LOAD_HI d) true = true)
    (hoff : (s.dom d).state = .off) : s.pairAccess r (Reg.DOM_LOAD_LO d) (Reg.DOM_LOAD_HI d) v =
      ((((s.setHeld (slot (Reg.DOM_LOAD_LO d) r.code) none).wrote r (Reg.DOM_LOAD_LO d)).wrPair (Reg.DOM_LOAD_LO d) (Reg.DOM_LOAD_HI d) v).phaseLoad
        d v).wrote r (Reg.DOM_LOAD_HI d) := by
  refine pairAccess_dom (o := 0x018) (by decide) (single_DOM_LOAD_LO d d.isLt) (single_DOM_LOAD_HI d d.isLt) (writes_DOM_LOAD_LO d d.isLt)
    (writes_DOM_LOAD_HI d d.isLt) ha hb (fun u hu _ => ?_) (pairWrite_DOM_LOAD ..)
  rw [pairRefused_domLoad u d (by decide), pairRefused_domLoad u d (by decide)]
  simp [hu, hoff]

end domPairs

/-! ## Velocities (R59) -/

theorem velocityWrite_inRange (s : State) (i : Nat) {v : DWord} (h : v.toNat ≤ maxVelocity) :
    s.velocityWrite i v = s.setDom i { s.dom i with newVel := some v.toNat } := by
  have hm : v.getLsbD 63 = false := by
    rw [BitVec.getLsbD, Nat.testBit_lt_two_pow]
    unfold maxVelocity at h
    omega
  simp only [State.velocityWrite, hm, Nat.not_lt.mpr h, Nat.min_eq_left h, State.flagIf, decide_false, Bool.not_false, Bool.and_false, Bool.or_self,
    Bool.false_eq_true, if_false]

theorem velocityWrite_negative (s : State) (i : Nat) {v : DWord} (h : v.toInt < 0) :
    s.velocityWrite i v = (s.setDom i { s.dom i with newVel := some 0 }).flag (Reg.DOM_STAT i) 14 := by
  have hm : v.getLsbD 63 = true := by
    have hmsb : v.msb = true := by rw [BitVec.msb_eq_toInt]; exact decide_eq_true h
    rwa [BitVec.msb_eq_getLsbD_last] at hmsb
  simp only [State.velocityWrite, hm, State.flagIf, Bool.true_or, if_true]

/-- Settles O11: commands by their codes, pairs by what the engine does with the whole quantity. -/
theorem domainWritesWaitOrApplyWhole : Obligations.DomainWritesWaitOrApplyWhole := by
  refine ⟨fun s r d ha => ?commands, fun s r d v => ⟨fun ha hb hs hv => ?inRange, fun ha hb hs hv => ?negative, fun ha hb hs => ?acc,
    fun ha hb hoff => ?load⟩⟩
  case commands =>
    exact ⟨congrArg Host.Outcome.next (exec_domCommand ha rfl), congrArg Host.Outcome.next (exec_domCommand ha rfl),
      congrArg Host.Outcome.next (exec_domCommand ha rfl), congrArg Host.Outcome.next (exec_domCommand ha rfl),
      congrArg Host.Outcome.next (exec_domCommand ha rfl)⟩
  case inRange =>
    refine congrArg Host.Outcome.next ((pairAccess_DOM_VEL ha hb hs).trans ?_)
    rw [velocityWrite_inRange _ _ hv, dom_done]
  case negative =>
    refine congrArg Host.Outcome.next ((pairAccess_DOM_VEL ha hb hs).trans ?_)
    rw [velocityWrite_negative _ _ hv, dom_done]
  case acc =>
    refine congrArg Host.Outcome.next ((pairAccess_DOM_ACC ha hb hs).trans ?_)
    rw [State.accelerationWrite, dom_done]
  case load =>
    refine congrArg Host.Outcome.next ((pairAccess_DOM_LOAD ha hb hoff).trans ?_)
    have hd : ∀ u : State, ∀ lo hi, (u.wrPair lo hi v).dom d = u.dom d := fun _ _ _ => rfl
    rw [State.phaseLoad, hd, dom_done, if_pos hoff]

/-! ## Edges (R54, R55, R56, R61) -/

/-- The estimator changes its own state alone (R61). -/
theorem estimate_frame (vgain again : Nat) (accEn : Bool) (d : Dom) (e x : DWord) :
    ∃ v a vm ddt rs, estimate vgain again accEn d e x = { d with v := v, a := a, vmPrev := vm, ddtPrev := ddt, restart := rs } := by
  unfold estimate
  dsimp only
  split
  · exact ⟨_, _, _, _, _, rfl⟩
  · split
    · exact ⟨_, _, _, _, _, rfl⟩
    · exact ⟨_, _, _, _, d.restart, rfl⟩

/-- A domain that takes an edge: the edge, its stamp and the edge expected next are those given; what else moves is the estimator and the
trajectory (R61, R63). -/
theorem takeEdge_eq (s : State) (i k : Nat) (x e f : DWord) (rev : Bool) :
    ∃ v a vm ddt rs segs, s.takeEdge i k x e f rev = s.setDom i { s.dom i with
      v := v, a := a, vmPrev := vm, ddtPrev := ddt, restart := rs, segs := segs, e := e, te := x, f := f, rev := rev, act := x, arrived := true } := by
  unfold State.takeEdge
  dsimp only
  obtain ⟨v, a, vm, ddt, rs, h⟩ := estimate_frame (s.fld (Reg.DOM_CTL i) 4 3) (s.fld (Reg.DOM_CTL i) 8 3) (s.bit (Reg.DOM_CTL i) 11) (s.dom i) e x
  rw [h]
  split
  · exact ⟨v, a, vm, ddt, rs, _, rfl⟩
  · exact ⟨v, a, vm, ddt, rs, (s.dom i).segs, rfl⟩

/-- A stamp that is not before another is the later of the two. -/
theorem later_eq {y x : DWord} (h : y ≤ x) : later y x = x := if_pos h

/-- A forward count of a locked domain: the edge above the position is taken at the count's stamp (R54). -/
theorem quadCount_locked {s : State} {i k : Nat} (hl : (s.dom i).state = .locked) (hp : (s.dom i).posKnown = true)
    (ht : (s.dom i).taken ≤ (s.dom i).pos) (hx : ∀ y, (s.dom i).lastCount = some y → y ≤ s.stamp k ∧ 160 ≤ (s.stamp k - y).toNat) :
    ∃ rs, s.quadCount i k false = (s.setDom i { s.dom i with
      pos := (s.dom i).pos + 1, posKnown := true, lastCount := some (s.stamp k), lastRev := false, restart := rs }).takeCount i k (s.stamp k)
        ((s.dom i).pos + 1) false := by
  have hbehind : ¬(s.dom i).pos + 1 ≤ (s.dom i).taken := by omega
  unfold State.quadCount
  cases hc : (s.dom i).lastCount with
  | none =>
    simp only [hc, hl, hp, hbehind, State.flagIf, reduceCtorEq, if_false, if_true, Bool.false_eq_true, Bool.false_and, decide_false, Bool.and_false]
    exact ⟨_, rfl⟩
  | some y =>
    obtain ⟨hle, hslow⟩ := hx y hc
    simp only [hc, later_eq hle, Nat.not_lt.mpr hslow, hl, hp, hbehind, State.flagIf, reduceCtorEq, if_false, if_true, Bool.false_eq_true,
      Bool.false_and, decide_false, Bool.and_false]
    exact ⟨_, rfl⟩

/-- A tooth taken: the position is its index, and the edges are its own and that of the next present tooth (R55). -/
theorem takeTooth_eq (s : State) (i k : Nat) (x : DWord) (c : Int) :
    ∃ v a vm ddt rs segs f, s.takeTooth i k x c = s.setDom i { s.dom i with
      v := v, a := a, vmPrev := vm, ddtPrev := ddt, restart := rs, segs := segs, e := s.arrive i c false, te := x, f := f, rev := false, act := x,
      arrived := true, pos := c, posKnown := true, slot := (c % s.domEdges i).toNat, lastTooth := some x } := by
  unfold State.takeTooth
  dsimp only
  obtain ⟨v, a, vm, ddt, rs, segs, h⟩ := takeEdge_eq s i k x (s.arrive i c false)
    (s.arrive i (c + s.toothAfter i (s.domEdges i) (c % s.domEdges i).toNat) false) false
  rw [h, setDom_setDom, get_setDom]
  exact ⟨v, a, vm, ddt, rs, segs, _, rfl⟩

/-- A tooth of a locked domain without a tolerance check is the next present tooth (R55). -/
theorem toothEdge_locked {s : State} {i k : Nat} (hl : (s.dom i).state = .locked) (ht : s.domTol i = 0)
    (hx : ∀ y, (s.dom i).lastTooth = some y → y ≤ s.stamp k) :
    s.toothEdge i k = s.takeTooth i k (s.stamp k) ((s.dom i).pos + s.toothAfter i (s.domEdges i) (s.dom i).slot) := by
  unfold State.toothEdge
  cases hc : (s.dom i).lastTooth with
  | none => simp only [hc, hl, ht, bne_self_eq_false, Bool.false_and, Bool.false_eq_true, if_false]
  | some y => simp only [hc, later_eq (hx y hc), hl, ht, bne_self_eq_false, Bool.false_and, Bool.false_eq_true, if_false]

/-- A pulse of a locked domain without a tolerance check is the next (R56). -/
theorem pulseEdge_locked {s : State} {i k : Nat} (hl : (s.dom i).state = .locked) (ht : s.domTol i = 0)
    (hx : ∀ y, (s.dom i).lastTooth = some y → y ≤ s.stamp k) :
    ∃ gap, s.pulseEdge i k = (s.setDom i { s.dom i with lastGap := gap }).takeTooth i k (s.stamp k) ((s.dom i).pos + 1) := by
  unfold State.pulseEdge
  cases hc : (s.dom i).lastTooth with
  | none =>
    cases hg : (s.dom i).lastGap <;>
      (simp only [hc, hg, hl, ht, bne_self_eq_false, Bool.false_and, Bool.false_eq_true, if_false]; exact ⟨_, rfl⟩)
  | some y =>
    cases hg : (s.dom i).lastGap <;>
      (simp only [hc, hg, later_eq (hx y hc), hl, ht, bne_self_eq_false, Bool.false_and, Bool.false_eq_true, if_false]; exact ⟨_, rfl⟩)

/-! ## The index pulse (R54) -/

theorem quadTakes {s : State} {src d width : Nat} (h : s.domTakes src d width = true) : s.ticking = true ∧ s.domSrc d = src := by
  simp only [State.domTakes, Bool.and_eq_true, beq_iff_eq] at h
  exact h.1

/-- Z away from edge 0 of a turn in LOCKED: flagged and recorded, and nothing else. -/
theorem qualifiedZ_missed {s : State} {i k : Nat} (hz : s.bit (Reg.DOM_INPUT i) 16 = true) (hl : (s.dom i).state = .locked)
    (hr : (s.dom i).lastRev = false) (hp : (s.dom i).pos % s.domEdges i ≠ 0) :
    s.qualifiedZ i k = ((s.flag (Reg.DOM_STAT i) 10).raise 4 (s.freeNat 16) 4 0x03 i).drawn := by
  simp [State.qualifiedZ, hz, hl, hr, hp, State.freeNat]

/-- Settles O12: what a count in LOCKED comes to, and the two outcomes of the index pulse. -/
theorem quadratureCountsAndIndex : Obligations.QuadratureCountsAndIndex := by
  intro s d k width ht
  refine ⟨fun hl hp htk hx => ?count, fun hz hacq hr => ?acquire, fun hz hl hr hp => ?missed⟩
  case count =>
    obtain ⟨rs, hq⟩ := quadCount_locked hl hp htk hx
    have he : exec (.quadCount d k false width) s = .next (s.quadCount d k false) := by simp [exec, execQuadCount, ht]
    refine ⟨_, he, ?_⟩
    rw [hq]
    unfold State.takeCount
    dsimp only
    generalize hf : State.arrive _ _ (if false = true then (s.dom d).pos + 1 - 1 else (s.dom d).pos + 1 + 1) false = f
    obtain ⟨v, a, vm, ddt, rs', segs, htake⟩ := takeEdge_eq (s.setDom d { s.dom d with
      pos := (s.dom d).pos + 1, posKnown := true, lastCount := some (s.stamp k), lastRev := false, restart := rs }) d k (s.stamp k)
      (s.arrive d ((s.dom d).pos + 1) false) f false
    have hf' : f = s.arrive d ((s.dom d).pos + 2) false := by rw [← hf, if_neg Bool.false_ne_true, add_one_one]; rfl
    simp only [arrive_setDom, htake, get_setDom, setDom_setDom, true_and, and_true]
    exact ⟨hl, hf'⟩
  case acquire =>
    have he : exec (.qualifiedZ d k width) s = .next (s.qualifiedZ d k) := by simp [exec, execQualifiedZ, ht]
    refine ⟨_, he, ?_⟩
    simp only [State.qualifiedZ, hz, hacq, hr, Bool.not_true, Bool.false_eq_true, if_false, Bool.false_and, dom_flag, get_setDom, true_and, and_true]
    rw [Int.natCast_mul]
    exact Int.mul_emod_left ..
  case missed =>
    refine congrArg Host.Outcome.next ?_
    rw [if_pos ht, qualifiedZ_missed hz hl hr hp]

/-! ## Resolver samples (R57, R69) -/

theorem domGo_other {s : State} {i : Nat} {st : DomState} (h : (s.dom i).state ≠ st) :
    ∃ base segs, s.domGo i st = (s.setDom i { s.dom i with state := st, base := base, segs := segs }).flag (Reg.DOM_STAT i) 16 := by
  unfold State.domGo
  simp only [h, if_false]
  split
  · exact ⟨(s.dom i).base, (s.dom i).segs, rfl⟩
  · exact ⟨_, _, rfl⟩

theorem loHalf_add (a b : DWord) : loHalf (a + b) = loHalf a + loHalf b := BitVec.setWidth_add a b (by decide)

theorem loHalf_sub (a b : DWord) : loHalf (a - b) = loHalf a - loHalf b := by
  have h : loHalf (a - b) + loHalf b = loHalf a := by rw [← loHalf_add, BitVec.sub_add_cancel]
  rw [← h, BitVec.add_sub_cancel]

theorem loHalf_setWidth (w : Word) : loHalf (w.setWidth 64) = w := by
  unfold loHalf
  rw [BitVec.setWidth_setWidth_of_le _ (by decide), BitVec.setWidth_eq]

theorem loHalf_ofInt_toInt (w : Word) : loHalf (BitVec.ofInt 64 w.toInt) = w := by
  have h : BitVec.ofInt 64 w.toInt = w.signExtend 64 := rfl
  rw [h, loHalf]
  refine BitVec.eq_of_getLsbD_eq fun i hi => ?_
  rw [BitVec.getLsbD_setWidth, BitVec.getLsbD_signExtend]
  simp only [hi, show i < 64 by omega, decide_true, Bool.true_and, if_true]

/-- A position placed after another has the turn fraction asked for (R69). -/
theorem loHalf_placedAfter (p q : DWord) : loHalf (placedAfter p q) = loHalf q := by
  rw [placedAfter, loHalf_add, loHalf_setWidth, BitVec.add_comm, BitVec.sub_add_cancel]

/-- The raw position follows the angle: its turn fraction is the angle's. -/
theorem loHalf_follow {raw : DWord} {old : Word} (ang : Word) (h : loHalf raw = old) : loHalf (raw + BitVec.ofInt 64 (ang - old).toInt) = ang := by
  rw [loHalf_add, loHalf_ofInt_toInt, h, BitVec.add_comm, BitVec.sub_add_cancel]

/-- A sample whose error is in bounds, after 255 such: the domain locks where the angle is (R57). -/
theorem resolverSample_locks {s : State} {i k : Nat} {angle err : Word} {low : Bool} (ha : (s.dom i).state = .acquire)
    (he : err.toNat < s.fld (Reg.DOM_SRCB i) 0 16 * 2 ^ 16) (hg : (s.dom i).good = 255) (hr : loHalf (s.dom i).raw = (s.dom i).angle) :
    ∃ x : Dom, s.resolverSample i k angle err low = (s.setDom i x).flag (Reg.DOM_STAT i) 16 ∧ x.state = .locked ∧
      loHalf x.e = angle + s.domOfs i ∧ x.phase = (s.dom i).phase := by
  unfold State.resolverSample
  simp only [ha, he, hg, if_true, Nat.le_refl, Nat.reduceAdd]
  generalize interpolate _ _ = y
  generalize hs : State.setDom s i _ = t
  have hd : (t.dom i).state = .acquire ∧ loHalf (t.dom i).e = angle + s.domOfs i ∧ (t.dom i).phase = (s.dom i).phase := by
    rw [← hs, get_setDom]
    refine ⟨rfl, ?_, rfl⟩
    dsimp only
    rw [loHalf_add, loHalf_sub, loHalf_placedAfter, loHalf_follow _ hr, BitVec.sub_self, BitVec.add_zero]
  obtain ⟨hst, hangle, hphase⟩ := hd
  obtain ⟨base, segs, hgo⟩ := domGo_other (s := t) (i := i) (st := .locked) (by rw [hst]; decide)
  refine ⟨{ t.dom i with state := .locked, base := base, segs := segs }, ?_, rfl, hangle, hphase⟩
  rw [hgo, ← hs, setDom_setDom]

/-- A sample whose error is out of bounds starts the run of good ones anew (R57). -/
theorem resolverSample_bad {s : State} {i k : Nat} {angle err : Word} {low : Bool} (ha : (s.dom i).state = .acquire)
    (he : s.fld (Reg.DOM_SRCB i) 0 16 * 2 ^ 16 ≤ err.toNat) :
    ∃ x : Dom, s.resolverSample i k angle err low = s.setDom i x ∧ x.state = .acquire ∧ x.good = 0 ∧ x.phase = (s.dom i).phase := by
  unfold State.resolverSample
  simp only [ha, Nat.not_lt.mpr he, if_false, show ¬256 ≤ 0 by decide]
  exact ⟨_, rfl, rfl, rfl, rfl⟩

/-! ## Increments (R60) -/

theorem fabricIncrement_eq (s : State) (rg : Nat) (inc : Word) :
    s.fabricIncrement rg inc = { s with spine := { s.spine with
      incs := s.spine.incs.set rg ((((s.spine.incs.get rg []).headD 0 + inc.toNat) % 2 ^ 32) :: (s.spine.incs.get rg []).tail) [] } } := by
  unfold State.fabricIncrement
  cases s.spine.incs.get rg [] with
  | nil =>
    have h : (0 + inc.toNat) % 2 ^ 32 = inc.toNat := by rw [Nat.zero_add]; exact Nat.mod_eq_of_lt inc.isLt
    simp only [List.headD_nil, List.tail_nil, h]
  | cons a l => rfl

/-- Settles O13: the tooth and the pulse of a locked domain, the two samples of an acquiring one, and the sum of a tick's increments. -/
theorem toothPulseResolverAndFabricAdvance : Obligations.ToothPulseResolverAndFabricAdvance := by
  refine ⟨fun s d k width hl ht hx => ⟨fun htk => ?tooth, fun htk => ?pulse⟩,
    fun s d k angle err low htick => ⟨fun hs ha he hg hr => ?locks, fun hs ha he => ?bad, fun rg hi => ?increment⟩⟩
  case tooth =>
    have he : exec (.toothEdge d k width) s = .next (s.toothEdge d k) := congrArg Host.Outcome.next (if_pos htk)
    refine ⟨_, he, ?_⟩
    obtain ⟨v, a, vm, ddt, rs, segs, f, h⟩ := takeTooth_eq s d k (s.stamp k) ((s.dom d).pos + s.toothAfter d (s.domEdges d) (s.dom d).slot)
    rw [toothEdge_locked hl ht hx, h, get_setDom]
    exact ⟨rfl, hl, rfl, rfl, rfl, rfl, rfl⟩
  case pulse =>
    have he : exec (.pulseEdge d k width) s = .next (s.pulseEdge d k) := congrArg Host.Outcome.next (if_pos htk)
    refine ⟨_, he, ?_⟩
    obtain ⟨gap, hp⟩ := pulseEdge_locked hl ht hx
    obtain ⟨v, a, vm, ddt, rs, segs, f, h⟩ := takeTooth_eq (s.setDom d { s.dom d with lastGap := gap }) d k (s.stamp k) ((s.dom d).pos + 1)
    rw [hp, h, setDom_setDom, get_setDom, get_setDom]
    exact ⟨rfl, hl, rfl, rfl, rfl, rfl⟩
  case locks =>
    have hx : exec (.resolverSample d k angle err low) s = .next (s.resolverSample d k angle err low) := by simp [exec, execResolverSample, htick, hs]
    obtain ⟨x, h, hst, hangle, hphase⟩ := resolverSample_locks (k := k) (low := low) ha he hg hr
    refine ⟨_, hx, ?_⟩
    rw [h, dom_flag, get_setDom]
    exact ⟨rfl, hst, hangle, hphase⟩
  case bad =>
    have hx : exec (.resolverSample d k angle err low) s = .next (s.resolverSample d k angle err low) := by simp [exec, execResolverSample, htick, hs]
    obtain ⟨x, h, hst, hgood, hphase⟩ := resolverSample_bad (k := k) (angle := angle) (low := low) ha he
    refine ⟨_, hx, ?_⟩
    rw [h, get_setDom]
    exact ⟨rfl, hst, hgood, hphase⟩
  case increment =>
    refine congrArg Host.Outcome.next ?_
    rw [if_pos htick, State.presentIncrement, hi, if_neg Bool.false_ne_true, fabricIncrement_eq]

/-! ## Time-outs (R12, R68, R70) -/

/-- A domain that goes to another state: `chg` sets, its phase stands, and nothing else of the state changes. -/
theorem domGo_spec {s : State} {i : Nat} {st : DomState} (h : (s.dom i).state ≠ st) :
    s.domGo i st = (s.setDom i ((s.domGo i st).dom i)).flag (Reg.DOM_STAT i) 16 ∧ ((s.domGo i st).dom i).state = st ∧
      ((s.domGo i st).dom i).phase = (s.dom i).phase ∧ ((s.domGo i st).dom i).frames = (s.dom i).frames := by
  obtain ⟨base, segs, hgo⟩ := domGo_other h
  rw [hgo, dom_flag, get_setDom]
  exact ⟨rfl, rfl, rfl, rfl⟩

theorem stallTimeout_due {s : State} {i lim : Nat} (hl : (s.dom i).state = .locked) (h4 : s.domSrc i ≠ 4) (h5 : s.domSrc i ≠ 5)
    (hlim : s.stallLimit i = some lim) (hd : lim ≤ (s.tickEnd - (s.dom i).act).toNat) : s.stallTimeout i = s.domGo i .stalled := by
  simp only [State.stallTimeout, hl, h4, h5, hlim, hd, bne_self_eq_false, decide_false, Bool.or_self, Bool.false_eq_true, if_false, decide_true,
    if_true]

theorem holdoverTimeout_due {s : State} {i : Nat} (hh : (s.dom i).state = .holdover) (ha : (s.dom i).arrived = false)
    (hd : s.fld (Reg.DOM_HOLDMAX i) 0 24 * 512 ≤ (s.dom i).holdTicks + 1) : s.holdoverTimeout i = s.domGo i .stalled := by
  simp [State.holdoverTimeout, State.holdoverDue, hh, ha, hd]

/-- Settles O14: each time-out is a change of state, alone or after the domain's own fields. -/
theorem domainTimeoutsChangeState : Obligations.DomainTimeoutsChangeState := by
  intro s d
  refine ⟨fun lim hl h4 h5 hlim hd => ?stall, fun hh ha hd => ?holdover, fun hl h4 hm => ?loss, fun hl h4 hm => ?lossAtOnce⟩
  case stall =>
    obtain ⟨hf, hst, hph, -⟩ := domGo_spec (s := s) (i := d) (st := .stalled) (by rw [hl]; decide)
    exact ⟨_, congrArg Host.Outcome.next (stallTimeout_due hl h4 h5 hlim hd), hf, hst, hph⟩
  case holdover =>
    obtain ⟨hf, hst, hph, -⟩ := domGo_spec (s := s) (i := d) (st := .stalled) (by rw [hh]; decide)
    exact ⟨_, congrArg Host.Outcome.next (holdoverTimeout_due hh ha hd), hf, hst, hph⟩
  case loss =>
    have hsrc : ∀ x, (s.setDom d x).domSrc d = 4 := fun _ => h4
    have hfld : ∀ x, (s.setDom d x).fld (Reg.DOM_HOLDMAX d) 0 24 ≠ 0 := fun _ => hm
    obtain ⟨base, hloss⟩ : ∃ base, s.linkLoss d =
        (s.setDom d { s.dom d with frames := 0, holdTicks := 0, base := base, segs := [] }).domGo d .holdover := by
      unfold State.linkLoss
      simp only [hsrc, hl, hfld, decide_true, Bool.and_self, if_true, if_false, setDom_setDom]
      exact ⟨_, rfl⟩
    generalize hu : s.setDom d { s.dom d with frames := 0, holdTicks := 0, base := base, segs := [] } = u at hloss
    have hud : u.dom d = { s.dom d with frames := 0, holdTicks := 0, base := base, segs := [] } := by rw [← hu, get_setDom]
    obtain ⟨hf, hst, hph, hfr⟩ := domGo_spec (s := u) (i := d) (st := .holdover) (by rw [hud]; show (s.dom d).state ≠ _; rw [hl]; decide)
    refine ⟨_, congrArg Host.Outcome.next hloss, ?_, hst, ?_, ?_⟩
    · rw [← setDom_setDom s d { s.dom d with frames := 0, holdTicks := 0, base := base, segs := [] }, hu]
      exact hf
    · rw [hfr, hud]
    · rw [hph, hud]
  case lossAtOnce =>
    have hsrc : ∀ x, (s.setDom d x).domSrc d = 4 := fun _ => h4
    have hfld : ∀ x, (s.setDom d x).fld (Reg.DOM_HOLDMAX d) 0 24 = 0 := fun _ => hm
    have hloss : s.linkLoss d = (s.setDom d { s.dom d with frames := 0 }).domGo d .stalled := by
      unfold State.linkLoss
      simp only [hsrc, hl, hfld, decide_true, Bool.and_self, if_true]
    obtain ⟨hf, hst, -, -⟩ := domGo_spec (s := s.setDom d { s.dom d with frames := 0 }) (i := d) (st := .stalled)
      (by rw [get_setDom]; show (s.dom d).state ≠ _; rw [hl]; decide)
    refine ⟨_, congrArg Host.Outcome.next hloss, ?_, hst⟩
    rwa [setDom_setDom] at hf

end Sys2Proof.Machine
end

section
/-!
PROOF. The event calendar: table writes and commands that wait for their boundary (R93 to R96, R100, R101, R104), ends of pulses and
windows (R91, R118), actions that arrive (R81).
-/
namespace Sys2Proof.Machine

/-! ## Completions -/

/-- A completion OK for another requester than the debugger is the reply, and what an outside host sees of it. -/
theorem completeAccess_ok (s : State) {req : Nat} (write : Bool) (addr : Nat) (v : Word) (h : req ≠ 16) :
    s.completeAccess req write addr .ok v = s.answerTo req .ok v := by
  simp [State.completeAccess, h]

/-! ## The calendar window of the on-chip view (R25, R76) -/

/-- Offset of a word of an entry in the calendar window. -/
def calOff (entry word : Nat) : Nat := (if entry < 16384 then 0x10000 + entry * 32 else 0x8000 + (entry - 16384) * 32) + word * 4

theorem calOff_bounds {entry word : Nat} (he : entry < 16448) (hw : word < 8) : calOff entry word < 0x90000 ∧ calOff entry word % 4 = 0 := by
  unfold calOff
  split <;> omega

theorem calPlace_calOff {entry word : Nat} (he : entry < 16448) (hw : word < 8) : calPlace (calOff entry word) = .entry entry word := by
  unfold calPlace calOff
  by_cases h : entry < 16384
  · have h1 : ¬(0x8000 ≤ 0x10000 + entry * 32 + word * 4 ∧ 0x10000 + entry * 32 + word * 4 < 0x8800) := by omega
    have h2 : ¬(0xC000 ≤ 0x10000 + entry * 32 + word * 4 ∧ 0x10000 + entry * 32 + word * 4 < 0xC200) := by omega
    have h3 : 0x10000 ≤ 0x10000 + entry * 32 + word * 4 ∧ 0x10000 + entry * 32 + word * 4 < 0x90000 := by omega
    rw [if_pos h, if_neg h1, if_neg h2, if_pos h3]
    congr 1 <;> omega
  · have h1 : 0x8000 ≤ 0x8000 + (entry - 16384) * 32 + word * 4 ∧ 0x8000 + (entry - 16384) * 32 + word * 4 < 0x8800 := by omega
    rw [if_neg h, if_pos h1]
    congr 1 <;> omega

theorem calAddr_eq (die entry word : Nat) : calAddr die entry word = viewBase die + (0x04000000 + calOff entry word) := by
  unfold calAddr calOff
  omega

theorem place_view {die off : Nat} (hd : die < 8) (ho : off < 0x20000000) : place (viewBase die + off) = .view die off := by
  have h1 : (viewBase die + off) / 2 ^ 32 = 0xA00 := by unfold viewBase; omega
  have h2 : (viewBase die + off) % 2 ^ 32 = die * 0x20000000 + off := by unfold viewBase; omega
  have h3 : (die * 0x20000000 + off) / 0x20000000 = die := by omega
  have h4 : (viewBase die + off) % 0x20000000 = off := by unfold viewBase; omega
  unfold place
  dsimp only
  rw [h1, h2, h3, h4]
  rfl

theorem place_calAddr {die entry word : Nat} (hd : die < 8) (he : entry < 16448) (hw : word < 8) :
    place (calAddr die entry word) = .view die (0x04000000 + calOff entry word) := by
  obtain ⟨hlt, -⟩ := calOff_bounds he hw
  rw [calAddr_eq, place_view hd (by omega)]

theorem viewPart_calOff {die entry word : Nat} (hd : die < 4) (he : entry < 16448) (hw : word < 8) :
    viewPart die (0x04000000 + calOff entry word) = .cal (calOff entry word) := by
  obtain ⟨hlt, -⟩ := calOff_bounds he hw
  unfold viewPart
  rw [if_pos hd, if_neg (by omega), if_pos ⟨by omega, by omega⟩, Nat.add_sub_cancel_left, calPlace_calOff he hw]

theorem viewWidthOk_calAddr {die entry word : Nat} (hd : die ≠ 5) (he : entry < 16448) (hw : word < 8) :
    viewWidthOk die (calAddr die entry word) 4 = true := by
  obtain ⟨-, hal⟩ := calOff_bounds he hw
  have h : calAddr die entry word % 4 = 0 := by rw [calAddr_eq]; unfold viewBase; omega
  simp [viewWidthOk, hd, h]

theorem viewDies_fabric {die d : Nat} (hd : die < 4 ∨ die = 7) (h : d ∈ viewDies die) : d < 4 := by
  unfold viewDies at h
  split at h
  · simp only [List.mem_cons, List.not_mem_nil, or_false] at h
    omega
  · rw [List.mem_singleton] at h
    omega

theorem viewDies_first {die : Nat} (hd : die < 4 ∨ die = 7) : (viewDies die).getD 0 0 < 4 := by
  unfold viewDies
  split
  · decide
  · show die < 4
    omega

theorem viewDies_mem (die : Nat) : ∃ d, d ∈ viewDies die := by
  unfold viewDies
  split
  · exact ⟨0, by simp⟩
  · exact ⟨die, by simp⟩

/-! ## Table words (R94, R95) -/

section table
variable {s : State} {r : Requester} {die entry word : Nat}

/-- The dies that an admitted access of a part of the view names all answer, the gate lets the access pass, and none declines a write. -/
theorem admitsView_parts {d unit addr : Nat} {dom : Option Nat} {write : Bool} (h : s.admitsView r d unit dom addr write = true) :
    (r.code = 16 → s.gateCovers addr = true) ∧ s.dieReachable d unit dom = true ∧
      (write = true → s.declines r.code d unit 0 true = false) := by
  simp only [State.admitsView, Bool.and_eq_true, Bool.or_eq_true, bne_iff_ne, Bool.not_eq_true', Bool.and_eq_false_imp] at h
  obtain ⟨⟨hg, hr⟩, hd⟩ := h
  exact ⟨fun h16 => hg.resolve_left (fun hn => hn h16), hr, hd⟩

/-- A table word written through the view waits for the boundary, with the slices it names (R94). -/
theorem busWrite_calAddr (w : Word) (hd : die < 4 ∨ die = 7) (he : entry < 16448) (hw : word < 8)
    (ha : ∀ d ∈ viewDies die, s.admitsView r d 4 (some (128 + d)) (calAddr die entry word) true = true) :
    s.busWrite r (calAddr die entry word) 4 w =
      { s with calWrites := s.calWrites ++ [(viewDies die, .word entry word w r.code (calAddr die entry word))] } := by
  obtain ⟨d0, hd0⟩ := viewDies_mem die
  have hgate := gate_passes (admitsView_parts (ha d0 hd0)).1
  have hup : (viewDies die).filter (fun d => s.dieReachable d 0x04 (some (128 + d))) = viewDies die :=
    List.filter_eq_self.mpr fun d h => (admitsView_parts (ha d h)).2.1
  have hne : (viewDies die).isEmpty = false := by
    rw [List.isEmpty_eq_false_iff]
    exact List.ne_nil_of_mem hd0
  have hdecl : (viewDies die).any (fun d => s.declines r.code d 0x04 0 true) = false := by
    rw [List.any_eq_false]
    exact fun d h => by simp [(admitsView_parts (ha d h)).2.2 rfl]
  have hcal : s.calViewWrite r.code (calAddr die entry word) (viewDies die) (calOff entry word) w =
      { s with calWrites := s.calWrites ++ [(viewDies die, .word entry word w r.code (calAddr die entry word))] } := by
    unfold State.calViewWrite
    simp only [hup, hne, hdecl, Bool.false_eq_true, if_false, calPlace_calOff he hw, Nat.lt_irrefl]
  unfold State.busWrite
  simp only [hgate, if_false, place_calAddr (show die < 8 by omega) he hw, viewWidthOk_calAddr (show die ≠ 5 by omega) he hw, if_true]
  unfold State.viewWrite
  simp only [viewPart_calOff (viewDies_first hd) he hw]
  exact hcal

/-- The captures of a requester once it has read word 0 of an entry through the view of one die (R96). -/
def State.entryCaptures (s : State) (die i req : Nat) : SMap (List Word) :=
  [0, 1, 2, 3].foldl (fun m d =>
    m.set (calCapKey d req) (if [die].contains d then BitVec.ofNat 32 i :: (List.range 8).map (s.entry d i).word else []) []) s.bus.wide

theorem calCapKey_ne {d e req : Nat} (h : d ≠ e) : calCapKey d req ≠ calCapKey e req := by unfold calCapKey regKey; omega

/-- The capture that the read of word 0 forms for its requester holds the entry and its eight words. -/
theorem entryCaptures_get (hd : die < 4) (i req : Nat) :
    (s.entryCaptures die i req).get (calCapKey die req) [] = BitVec.ofNat 32 i :: (List.range 8).map (s.entry die i).word := by
  simp only [State.entryCaptures, List.foldl_cons, List.foldl_nil, SMap.get_set]
  have h (e : Nat) : calCapKey die req = calCapKey e req ↔ die = e := ⟨fun h => Decidable.byContradiction fun hne => calCapKey_ne hne h, fun h => by rw [h]⟩
  simp only [h]
  have hcase : die = 0 ∨ die = 1 ∨ die = 2 ∨ die = 3 := by omega
  rcases hcase with rfl | rfl | rfl | rfl <;> rfl

/-- An agent's read of word 0 of an entry answers the word and captures the entry for it (R96). -/
theorem busRead_calAddr (hd : die < 4) (he : entry < 16448) (hr : r.code ≠ 16)
    (ha : s.admitsView r die 4 (some (128 + die)) (calAddr die entry 0) false = true) :
    s.busRead r (calAddr die entry 0) 4 = State.answerTo { s with bus := { s.bus with wide := s.entryCaptures die entry r.code } }
      r.code .ok (loHalf (s.entry die entry).target) := by
  obtain ⟨hg, hreach, -⟩ := admitsView_parts ha
  have hv : viewDies die = [die] := if_neg (by omega)
  have hup : [die].filter (fun d => s.dieReachable d 0x04 (some (128 + d))) = [die] := by simp [hreach]
  unfold State.busRead
  simp only [hr, false_and, if_false, place_calAddr (show die < 8 by omega) he (show 0 < 8 by decide),
    viewWidthOk_calAddr (show die ≠ 5 by omega) he (show 0 < 8 by decide), if_true]
  unfold State.viewRead
  have hpart : viewPart ((viewDies die).getD 0 0) (0x04000000 + calOff entry 0) = .cal (calOff entry 0) :=
    viewPart_calOff (viewDies_first (.inl hd)) he (by decide)
  simp only [hpart]
  unfold State.calViewRead
  simp only [hv, hup, List.isEmpty_cons, Bool.false_eq_true, if_false, Nat.lt_irrefl, calPlace_calOff he (show 0 < 8 by decide)]
  have hpeek : (r.code == 16) = false := by simpa using hr
  have hword : ((0 : Word) ||| (s.entry die entry).word 0) = loHalf (s.entry die entry).target := BitVec.zero_or
  rw [completeAccess_ok _ _ _ _ hr, hpeek]
  simp only [State.calRead, if_true, Bool.false_eq_true, if_false, List.foldl_cons, List.foldl_nil, hword]
  rfl

end table

/-! ## Registers of a slice (R100, R101, R104) -/

/-- A write of a calendar register reaches `calUnitWrite`. -/
theorem regWrite_calUnit (s : State) {die o : Nat} (req : Nat) (w : Word) (ho : o < 0xFF8) :
    (s.touched req (regKey die 0x04 0 o)).regWrite (regKey die 0x04 0 o) req w = s.calUnitWrite die o (regKey die 0x04 0 o) w := by
  have h : o < 4096 := by omega
  have h1 : o ≠ 0xFFC := by omega
  have h2 : o ≠ 0xFF8 := by omega
  simp [State.touched, State.regWrite, keyUnit_regKey h, keyOff_regKey h, keyDie_regKey h, h1, h2]

/-- A word of two fields under a mask of both. -/
theorem fields_and_mask {op e : Nat} (hop : op < 4) (he : e < 2 ^ 14) : BitVec.ofNat 32 (e + op * 2 ^ 16) &&& 0x33FFF = BitVec.ofNat 32 (e + op * 2 ^ 16) := by
  have hnat : (e + op * 2 ^ 16) &&& 0x33FFF = e + op * 2 ^ 16 := by
    have hlo : ((e + op * 2 ^ 16) &&& 0x33FFF) % 2 ^ 16 = e := by
      rw [Nat.and_mod_two_pow, show (e + op * 2 ^ 16) % 2 ^ 16 = e by omega]
      exact (Nat.and_two_pow_sub_one_eq_mod e 14).trans (Nat.mod_eq_of_lt he)
    have hhi : ((e + op * 2 ^ 16) &&& 0x33FFF) / 2 ^ 16 = op := by
      rw [Nat.and_div_two_pow, show (e + op * 2 ^ 16) / 2 ^ 16 = op by omega]
      exact (Nat.and_two_pow_sub_one_eq_mod op 2).trans (Nat.mod_eq_of_lt hop)
    omega
  refine BitVec.eq_of_toNat_eq ?_
  have hlt : e + op * 2 ^ 16 < 2 ^ 32 := by omega
  rw [BitVec.toNat_and, BitVec.toNat_ofNat, Nat.mod_eq_of_lt hlt]
  exact hnat

theorem wfld_fields {op e : Nat} (hop : op < 4) (he : e < 2 ^ 14) :
    wfld (BitVec.ofNat 32 (e + op * 2 ^ 16)) 16 2 = op ∧ wfld (BitVec.ofNat 32 (e + op * 2 ^ 16)) 0 14 = e := by
  have hlt : e + op * 2 ^ 16 < 2 ^ 32 := by omega
  unfold wfld
  rw [BitVec.toNat_ofNat, Nat.mod_eq_of_lt hlt]
  omega

/-- A staged operation waits in the slice, `op` 1 a write and 2 a read (R100). -/
theorem regAccess_staged {s : State} {r : Requester} {die : Fin 4} {op e : Nat} (hop : op = 1 ∨ op = 2) (he : e < 16384)
    (ha : s.admits r (Reg.CAL_STG_CMD die) true = true) (hs : (s.slice die).stage = none) :
    s.regAccess r (Reg.CAL_STG_CMD die) (BitVec.ofNat 32 (e + op * 2 ^ 16)) =
      ((s.wr (Reg.CAL_STG_CMD die) (BitVec.ofNat 32 (e + op * 2 ^ 16))).setSlice die { s.slice die with stage := some (op == 1, e) }).wrote r
        (Reg.CAL_STG_CMD die) := by
  obtain ⟨hf, he'⟩ := wfld_fields (show op < 4 by omega) he
  refine regAccess_wrote (single_CAL_STG_CMD die die.isLt) ha ((regWrite_calUnit s _ _ (by decide)).trans ?_)
  have hn : (s.slice die).stage.isSome = false := by rw [hs]; rfl
  have hmask := fields_and_mask (show op < 4 by omega) he
  show s.calStgCmdWrite die _ = _
  rcases hop with rfl | rfl <;>
    simp only [State.calStgCmdWrite, hn, Bool.false_eq_true, if_false, hmask, hf, he']

/-- The fields of a group command's word. -/
theorem groupWord_fields : ∀ (op : Fin 3) (grp : Fin 16) (timed : Bool), wbit (groupWord op grp timed) 31 = true ∧
    wbit (groupWord op grp timed) 6 = timed ∧ wfld (groupWord op grp timed) 4 2 = op ∧ wfld (groupWord op grp timed) 0 4 = grp := by
  decide

/-- A group command that is not late waits in the slice (R101). -/
theorem regAccess_group {s : State} {r : Requester} {die : Fin 4} (op : Fin 3) (grp : Fin 16) (timed : Bool)
    (ha : s.admits r (Reg.CAL_GCMD die) true = true) (hg : (s.slice die).gcmd = none)
    (ht : timed = true → s.tickEnd < s.rdPair (Reg.CAL_GCMD_AT_LO die) (Reg.CAL_GCMD_AT_HI die)) :
    s.regAccess r (Reg.CAL_GCMD die) (groupWord op grp timed) = ((s.wr (Reg.CAL_GCMD die) (groupWord op grp timed &&& 0x7F)).setSlice die
      { s.slice die with gcmd := some (op, grp, if timed then some (s.rdPair (Reg.CAL_GCMD_AT_LO die) (Reg.CAL_GCMD_AT_HI die)) else none) }).wrote r
        (Reg.CAL_GCMD die) := by
  obtain ⟨h31, h6, hop, hgrp⟩ := groupWord_fields op grp timed
  refine regAccess_wrote (single_CAL_GCMD die die.isLt) ha ((regWrite_calUnit s _ _ (by decide)).trans ?_)
  have hn : (s.slice die).gcmd.isSome = false := by rw [hg]; rfl
  have hat : (s.wr (Reg.CAL_GCMD die) (groupWord op grp timed &&& 0x7F)).rdPair (Reg.CAL_GCMD_AT_LO die) (Reg.CAL_GCMD_AT_HI die) =
      s.rdPair (Reg.CAL_GCMD_AT_LO die) (Reg.CAL_GCMD_AT_HI die) := by
    rw [State.rdPair, rd_wr_other (by unfold Reg.CAL_GCMD Reg.CAL_GCMD_AT_HI regKey; omega),
      rd_wr_other (by unfold Reg.CAL_GCMD Reg.CAL_GCMD_AT_LO regKey; omega)]
    rfl
  have hte : ∀ w, (s.wr (Reg.CAL_GCMD die) w).tickEnd = s.tickEnd := fun _ => rfl
  have hlate : (timed && decide (s.rdPair (Reg.CAL_GCMD_AT_LO die) (Reg.CAL_GCMD_AT_HI die) ≤ s.tickEnd)) = false := by
    cases timed with
    | false => rfl
    | true => simpa using ht rfl
  show s.calGcmdWrite die _ = _
  simp only [State.calGcmdWrite, hn, h31, h6, hop, hgrp, hat, hte, hlate, State.flagIf, Bool.not_true, Bool.not_false, Bool.and_true,
    Bool.false_eq_true, if_false]

theorem regAccess_CAL_CTL {s : State} {r : Requester} {die : Fin 4} (w : Word) (ha : s.admits r (Reg.CAL_CTL die) true = true) :
    s.regAccess r (Reg.CAL_CTL die) w = State.wrote { (s.wr (Reg.CAL_CTL die) (w &&& 0x1F)) with
      calWrites := s.calWrites ++ [([(die : Nat)], .enable (wbit w 0))] } r (Reg.CAL_CTL die) :=
  regAccess_wrote (single_CAL_CTL die die.isLt) ha ((regWrite_calUnit s _ _ (by decide)).trans rfl)

/-- Settles O15: table words through the view, commands through the slice's registers. -/
theorem calendarTableAndCommandsWait : Obligations.CalendarTableAndCommandsWait := by
  refine ⟨fun s r die entry word w => ⟨fun hd ha => ?word, fun hd ha => ?arm, fun hd hr ha => ?read⟩,
    fun s r die => ⟨fun entry ha hs => ?staged, fun grp timed ha hg => ?group, fun w ha => ?enable⟩⟩
  case word => exact congrArg Host.Outcome.next (busWrite_calAddr w hd entry.isLt word.isLt ha)
  case arm => exact congrArg Host.Outcome.next (busWrite_calAddr (w ||| 1) hd entry.isLt (by decide) ha)
  case read =>
    refine ⟨_, congrArg Host.Outcome.next (busRead_calAddr hd entry.isLt hr ha), rfl, rfl, ?_⟩
    exact entryCaptures_get hd ..
  case staged =>
    exact ⟨congrArg Host.Outcome.next (regAccess_staged (op := 1) (.inl rfl) entry.isLt ha hs),
      congrArg Host.Outcome.next (regAccess_staged (op := 2) (.inr rfl) entry.isLt ha hs)⟩
  case group =>
    intro at_ ht after
    exact ⟨congrArg Host.Outcome.next (regAccess_group 0 grp timed ha hg ht), congrArg Host.Outcome.next (regAccess_group 1 grp timed ha hg ht),
      congrArg Host.Outcome.next (regAccess_group 2 grp timed ha hg ht)⟩
  case enable => exact congrArg Host.Outcome.next (regAccess_CAL_CTL w ha)

/-! ## Ends of pulses (R91) -/

/-- A pulse whose end falls in the tick is over at the tick's end: its line goes to its inactive level. -/
theorem linePulseUpTo_due {s : State} {l : Line} {x : DWord} {idle : Bool} (hp : l.pulse = some (.time x, idle)) (hx : x ≤ s.tickEnd)
    (hl : later x (s.now + 1) ≤ s.tickEnd) :
    (s.linePulseUpTo l s.tickEnd).1.pulse = none ∧ (s.linePulseUpTo l s.tickEnd).1.level = idle := by
  have h : s.linePulseUpTo l s.tickEnd = ({ l with pulse := none } : Line).put (later x (s.now + 1)) idle l.oe := by
    simp only [State.linePulseUpTo, hp, endNow_time 8 hx, hl, if_true]
  obtain ⟨hlevel, -, hpulse⟩ := put_level { l with pulse := none } (later x (s.now + 1)) idle l.oe
  rw [h]
  exact ⟨hpulse, hlevel⟩

/-! ## Ends of windows (R118) -/

/-- The end of a window is kept where the unit drains to a queue (R138). -/
def Tio.endKept (u : Tio) : Tio := if wfld u.ctl 12 2 = 3 then { u with ends := u.ends ++ [u.popped + u.caps.length] } else u

theorem endKept_caps (u : Tio) : u.endKept.caps = u.caps := by
  unfold Tio.endKept
  split <;> rfl

theorem windowUpTo_due {s : State} {die n : Nat} {x : DWord} (hw : (s.unit die n).window = some (.time x)) (hx : x ≤ s.tickEnd)
    (hl : later x (s.now + 1) ≤ s.tickEnd) : s.windowUpTo die n s.tickEnd = s.closeWindow die n (later x (s.now + 1)) := by
  simp only [State.windowUpTo, hw, endNow_time 0 hx, hl, if_true]

/-- A window that records no marks closes, and its end is kept for a queue. -/
theorem closeWindow_unmarked {s : State} {die n : Nat} (y : DWord) (hw : (s.unit die n).window.isSome = true) (hm : wbit (s.unit die n).ctl 11 = false) :
    s.closeWindow die n y = s.setUnit die n ({ s.unit die n with window := none } : Tio).endKept := by
  have hn : (s.unit die n).window.isNone = false := by simpa using hw
  unfold State.closeWindow Tio.endKept
  simp only [hn, hm, Bool.false_eq_true, if_false, get_setUnit, setUnit_setUnit]
  split <;> rfl

/-- The record of a window's end at DT `y`. -/
def State.endMark (s : State) (die n : Nat) (y : DWord) : Capture :=
  { dt := y, kind := 2, gap := (s.unit die n).gap, lvl := (s.unit die n).seen, phase := s.phaseAt (wfld (s.unit die n).ctl 4 4) y }

/-- A window that records its marks closes with its record, where the capture FIFO has room. -/
theorem closeWindow_marked {s : State} {die n : Nat} (y : DWord) (hw : (s.unit die n).window.isSome = true) (hm : wbit (s.unit die n).ctl 11 = true)
    (hc : (s.unit die n).caps.length < 32) :
    s.closeWindow die n y = s.setUnit die n
      ({ s.unit die n with window := none, gap := false, caps := (s.unit die n).caps ++ [s.endMark die n y] } : Tio).endKept := by
  have hn : (s.unit die n).window.isNone = false := by simpa using hw
  have hphase : ∀ u, (s.setUnit die n u).phaseAt (wfld (s.unit die n).ctl 4 4) y = s.phaseAt (wfld (s.unit die n).ctl 4 4) y := fun _ => rfl
  unfold State.closeWindow Tio.endKept State.capture State.pushCapture State.endMark
  simp only [hn, hm, Nat.not_le.mpr hc, hphase, Bool.false_eq_true, if_false, if_true, get_setUnit, setUnit_setUnit]
  split <;> rfl

theorem windowFlush_waiting {s : State} {die n : Nat} (h : (s.unit die n).caps ≠ []) : s.windowFlush die n = s := by
  simp [State.windowFlush, h]

/-! ## Actions that arrive (R81) -/

/-- The one action whose tick has come is delivered. -/
theorem deliverFlights_one {s : State} {k : Nat} {f : Flight} {rest : List (Nat × Flight)} (hf : s.flights = (k, f) :: rest) (hk : k ≤ s.tick)
    (hr : ∀ g ∈ rest, s.tick < g.1) : s.deliverFlights = State.deliverFlight { s with flights := rest } f := by
  have hnone : rest.filter (fun g => decide (g.1 ≤ s.tick)) = [] :=
    List.filter_eq_nil_iff.mpr fun g hg => by simpa using hr g hg
  have hall : rest.filter (fun g => !decide (g.1 ≤ s.tick)) = rest :=
    List.filter_eq_self.mpr fun g hg => by simpa using hr g hg
  simp only [State.deliverFlights, hf, List.filter_cons, hk, decide_true, Bool.not_true, Bool.false_eq_true, if_true, if_false, hnone, hall,
    List.foldl_cons, List.foldl_nil]

/-- Settles O16: the end of the line's pulse, of the unit's pulse and of its window; the two actions. -/
theorem calendarEndsAndDeliveries : Obligations.CalendarEndsAndDeliveries := by
  intro s die
  refine ⟨fun n x idle hp hx hl => ?line, fun n x idle hp hx hl => ?pulse, fun n x hw hx hl => ?window, fun k f rest hf hk hr => ?flight⟩
  case line =>
    obtain ⟨hpulse, hlevel⟩ := linePulseUpTo_due hp hx hl
    refine ⟨_, rfl, ?_⟩
    simp only [State.pulseEnd, if_true, State.setSlice_self, SMap.get_set_self]
    exact ⟨trivial, hpulse, hlevel, fun m hm => SMap.get_set_other hm⟩
  case pulse =>
    obtain ⟨hpulse, hlevel⟩ := linePulseUpTo_due hp hx hl
    have hn : ¬240 ≤ (n : Nat) := by omega
    refine ⟨_, rfl, ?_⟩
    simp only [State.pulseEnd, Bool.false_eq_true, if_false, hn]
    rw [unit_flagIf, unit_flagIf, get_setUnit]
    refine ⟨?_, hpulse, hlevel⟩
    rw [flagIf_frame (State.flagIf _ _ _ _), flagIf_frame (State.setUnit ..)]
    rfl
  case window =>
    have hs : (s.unit die n).window.isSome = true := by rw [hw]; rfl
    have he : exec (.windowClose die n) s = .next ((s.closeWindow die n (later x (s.now + 1))).windowFlush die n) :=
      congrArg (fun t : State => Host.Outcome.next (t.windowFlush die n)) (windowUpTo_due hw hx hl)
    refine ⟨fun hm => ?_, fun hm hc => ?_⟩
    · rw [he, closeWindow_unmarked _ hs hm]
      rfl
    · have hne : ((s.closeWindow die n (later x (s.now + 1))).unit die n).caps ≠ [] := by
        rw [closeWindow_marked _ hs hm hc, get_setUnit, endKept_caps]
        exact List.append_ne_nil_of_right_ne_nil _ (List.cons_ne_nil _ _)
      rw [he, windowFlush_waiting hne, closeWindow_marked _ hs hm hc]
      rfl
  case flight =>
    have he : exec .calendarActionDelivery s = .next (State.deliverFlight { s with flights := rest } f) :=
      congrArg Host.Outcome.next (deliverFlights_one hf hk hr)
    refine ⟨fun x hx => ?_, fun e d hd hv => ?_⟩
    · rw [he, hx]
      rfl
    · rw [he, hd]
      simp only [State.deliverFlight, hv, Bool.false_and, Bool.false_eq_true, if_false]
      rfl

end Sys2Proof.Machine
end

section
/-!
PROOF. Timed I/O units: writes that wait for the boundary and captures that leave in order (R111, R112, R121, R128, R132, R134, R137,
R139), and the events of a unit (R109, R117, R121, R122, R128, R130).
-/
namespace Sys2Proof.Machine

/-! ## Writes of a unit's registers -/

/-- A write of a timed I/O register off the pairs reaches `tioWrite`. -/
theorem regWrite_tioUnit (s : State) {die i o : Nat} (req : Nat) (w : Word) (hi : i < 4096) (ho : o < 0xFF8) :
    (s.touched req (regKey die 0x05 i o)).regWrite (regKey die 0x05 i o) req w = s.tioWrite die i o (regKey die 0x05 i o) w := by
  have h : o < 4096 := by omega
  have h1 : o ≠ 0xFFC := by omega
  have h2 : o ≠ 0xFF8 := by omega
  simp [State.touched, State.regWrite, keyUnit_regKey h hi, keyOff_regKey h, keyInst_regKey h hi, keyDie_regKey h hi, h1, h2]

/-- A write of a register of a unit, at an offset of the unit's own. -/
theorem regWrite_tioPin (s : State) {die o : Nat} (pin : Fin 240) (req : Nat) (w : Word) (ho : o < 0xFF8) :
    (s.touched req (regKey die 0x05 pin o)).regWrite (regKey die 0x05 pin o) req w = s.tioWrite die pin o (regKey die 0x05 pin o) w :=
  regWrite_tioUnit s req w (by omega) ho

section writes
variable {s : State} {r : Requester} {die : Fin 4} {pin : Fin 240}

/-- A TIO_CTL value waits for the boundary (R111). -/
theorem tioWrite_CTL (w : Word) (ht : s.takenOver die pin = false) (h1 : s.fld (Reg.TIO_CTL die pin) 0 4 ≠ 1)
    (h2 : s.fld (Reg.TIO_CTL die pin) 0 4 ≠ 2) (key : Nat) :
    s.tioWrite die pin 0 key w = ({ s.wr (Reg.TIO_CTL die pin) (BitVec.ofNat 32 (w.toNat % 2 ^ 18)) with
      tioWrites := s.tioWrites ++ [.ctl die pin (BitVec.ofNat 32 (w.toNat % 2 ^ 18))] }, .ok) := by
  have hn : (pin : Nat) ≠ 240 := by omega
  have hc : (decide (wfld (s.rd (Reg.TIO_CTL die pin)) 0 4 = 1) || decide (wfld (s.rd (Reg.TIO_CTL die pin)) 0 4 = 2)) = false := by
    rw [State.fld] at h1 h2
    simp [h1, h2]
  simp only [State.tioWrite, hn, if_false, State.tioCtlWrite, ht, hc, Bool.false_and, Bool.false_eq_true]

/-- The other registers whose writes act on the unit itself (R121, R128, R132). -/
theorem tioWrite_OFLUSH (key : Nat) : s.tioWrite die pin 0x018 key 1 = (s.setUnit die pin { s.unit die pin with flush := true }, .ok) := by
  have hn : (pin : Nat) ≠ 240 := by omega
  have hb : wbit 1 0 = true := by decide
  simp only [State.tioWrite, hn, hb, if_false, if_true, State.flushOutput]

theorem tioWrite_PW_UPD (key : Nat) : s.tioWrite die pin 0x058 key 1 =
    (s.setUnit die pin { s.unit die pin with upd := some ((s.unit die pin).upd.getD s.tickEnd) }, .ok) := by
  have hn : (pin : Nat) ≠ 240 := by omega
  have hb : wbit 1 0 = true := by decide
  simp only [State.tioWrite, hn, hb, if_false, if_true, State.pwmUpdate]

theorem tioWrite_EMU_OFS (key : Nat) (w : Word) : s.tioWrite die pin 0x068 key w =
    ({ s.store (Reg.TIO_EMU_OFS die pin) w with tioWrites := s.tioWrites ++ [.offset die pin w] }, .ok) := by
  have hn : (pin : Nat) ≠ 240 := by omega
  simp only [State.tioWrite, hn, if_false, State.emulationOffset]

/-- A pattern word waits for the boundary (R134). -/
theorem tioWrite_PAT (n : Fin 128) (key : Nat) (w : Word) : s.tioWrite die 240 (0x400 + 4 * n) key w =
    ({ s with tioWrites := s.tioWrites ++ [.pattern die n w] }, .ok) := by
  have h1 : 0x400 ≤ 0x400 + 4 * (n : Nat) := by omega
  have h2 : (0x400 + 4 * (n : Nat) - 0x400) / 4 = n := by omega
  simp only [State.tioWrite, if_true, h1, h2, State.patternWrite]

/-! ## The output FIFO (R121) -/

/-- An output entry of a stated operation joins a FIFO with room. -/
theorem tioOutWrite_taken {v : DWord} {op : OutOp} (hm : s.fld (Reg.TIO_CTL die pin) 0 4 = 3)
    (hop : [OutOp.low, .high, .toggle, .release, .drive][v.toNat / 2 ^ 60]? = some op) (hq : (s.unit die pin).outq.length < 16) :
    s.tioOutWrite die pin v = (s.setUnit die pin { s.unit die pin with outq := (s.unit die pin).outq ++ [(v.toNat % 2 ^ 60, op)] }, .ok) := by
  have hlt : v.toNat / 2 ^ 60 < 5 := (List.getElem?_eq_some_iff.mp hop).1
  have hcode : v.toNat / 2 ^ 60 = 0 ∨ v.toNat / 2 ^ 60 = 1 ∨ v.toNat / 2 ^ 60 = 2 ∨ v.toNat / 2 ^ 60 = 3 ∨ v.toNat / 2 ^ 60 = 4 := by omega
  rw [State.fld] at hm
  rcases hcode with h | h | h | h | h <;> rw [h] at hop <;> obtain rfl := Option.some.inj hop <;>
    simp only [State.tioOutWrite, hm, h, bne_self_eq_false, Bool.false_eq_true, if_false, Nat.not_le.mpr hq]

theorem touched_tioUnit (x : State) (req : Nat) {i o : Nat} (hi : i < 4096) (ho : o < 4096) : x.touched req (regKey die 0x05 i o) = x := by
  simp [State.touched, keyUnit_regKey ho hi]

theorem pairRefused_TIO_OUT (x : State) {o : Nat} (ho : o = 0x010 ∨ o = 0x014) :
    x.pairRefused (regKey die 0x05 pin o) = (x.fld (Reg.TIO_CTL die pin) 0 4 != 3) := by
  have hp : (pin : Nat) < 4096 := by omega
  rcases ho with rfl | rfl <;> simp [State.pairRefused, keyUnit_regKey, keyInst_regKey, keyOff_regKey, keyDie_regKey, hp]

theorem pairWrite_TIO_OUT (x : State) (req : Nat) (v : DWord) : x.pairWrite (regKey die 0x05 pin 0x010) req v = x.tioOutWrite die pin v := by
  have hp : (pin : Nat) < 4096 := by omega
  simp [State.pairWrite, keyUnit_regKey, keyInst_regKey, keyOff_regKey, keyDie_regKey, hp]

/-- A pair written to TIO_OUT by one requester reaches the FIFO as one entry (R6, R121). -/
theorem pairAccess_TIO_OUT {v : DWord} {op : OutOp} (ha : s.admits r (Reg.TIO_OUT_LO die pin) true = true)
    (hb : s.admits r (Reg.TIO_OUT_HI die pin) true = true) (hm : s.fld (Reg.TIO_CTL die pin) 0 4 = 3)
    (hop : [OutOp.low, .high, .toggle, .release, .drive][v.toNat / 2 ^ 60]? = some op) (hq : (s.unit die pin).outq.length < 16) :
    s.pairAccess r (Reg.TIO_OUT_LO die pin) (Reg.TIO_OUT_HI die pin) v =
      (((s.setHeld (slot (Reg.TIO_OUT_LO die pin) r.code) none).wrote r (Reg.TIO_OUT_LO die pin)).setUnit die pin
        { s.unit die pin with outq := (s.unit die pin).outq ++ [(v.toNat % 2 ^ 60, op)] }).wrote r (Reg.TIO_OUT_HI die pin) := by
  have hp : (pin : Nat) < 4096 := by omega
  have hfld : ∀ k w lo, ((s.setHeld k w).wrote r lo).fld (Reg.TIO_CTL die pin) 0 4 = 3 := fun k w lo => by rw [State.fld, rd_done]; exact hm
  have hu : keyUnit (Reg.TIO_OUT_LO die pin) ≠ 0x13 := by unfold Reg.TIO_OUT_LO; rw [keyUnit_regKey (by decide) hp (by decide)]; decide
  refine pairAccess_wrote (single_TIO_OUT_LO die die.isLt pin pin.isLt) (single_TIO_OUT_HI die die.isLt pin pin.isLt)
    (by unfold Reg.TIO_OUT_LO Reg.TIO_OUT_HI regKey; omega) ha hb (fun x => touched_tioUnit x _ hp (by decide))
    (fun x => touched_tioUnit x _ hp (by decide)) hu (writes_TIO_OUT_LO die die.isLt pin pin.isLt) (writes_TIO_OUT_HI die die.isLt pin pin.isLt)
    ((pairRefused_TIO_OUT s (.inl rfl)).trans (by rw [hm]; rfl)) ((pairRefused_TIO_OUT _ (.inr rfl)).trans (by rw [hfld]; rfl)) ?_
  refine (pairWrite_TIO_OUT ..).trans ?_
  have hq' : ((((s.setHeld (slot (Reg.TIO_OUT_LO die pin) r.code) none).wrote r (Reg.TIO_OUT_LO die pin))).unit die pin).outq.length < 16 := by
    rw [unit_done]; exact hq
  rw [tioOutWrite_taken (hfld ..) hop hq', unit_done]

end writes

/-! ## The capture FIFO (R112, R137, R139) -/

/-- A unit from which the oldest record left. -/
def Tio.popped1 (u : Tio) (rest : List Capture) : Tio :=
  { u with caps := rest, popped := u.popped + 1, ends := u.ends.filter (fun e => decide (u.popped + 1 < e)) }

section captures
variable {s : State} {die : Fin 4} {pin : Fin 240} {c : Capture} {rest : List Capture}

theorem popCapture_cons {die n : Nat} (h : (s.unit die n).caps = c :: rest) :
    s.popCapture die n = s.setUnit die n ((s.unit die n).popped1 rest) := by
  simp [State.popCapture, Tio.popped1, h]

theorem capHead_cons {die n : Nat} (h : (s.unit die n).caps = c :: rest) : s.capHead die n = [c.word 0, c.word 1, c.word 2, c.word 3] := by
  simp [State.capHead, h]

theorem effectRead_TIO_CAP0 (req : Nat) :
    s.effectRead req (Reg.TIO_CAP0 die pin) = ((s.capHeadRead die pin req).1, .ok, (s.capHeadRead die pin req).2) := by
  have hp : (pin : Nat) < 4096 := by omega
  unfold State.effectRead
  rw [(single_TIO_CAP0 die die.isLt pin pin.isLt).2]
  simp [Reg.TIO_CAP0, keyUnit_regKey, keyOff_regKey, keyInst_regKey, keyDie_regKey, hp]

theorem effectRead_TIO_CAP3 (req : Nat) :
    s.effectRead req (Reg.TIO_CAP3 die pin) = ((s.capPopRead die pin req).1, .ok, (s.capPopRead die pin req).2) := by
  have hp : (pin : Nat) < 4096 := by omega
  unfold State.effectRead
  rw [(single_TIO_CAP3 die die.isLt pin pin.isLt).2]
  simp [Reg.TIO_CAP3, keyUnit_regKey, keyOff_regKey, keyInst_regKey, keyDie_regKey, hp]

/-- TIO_CAP0 captures the oldest record for its requester. -/
theorem capHeadRead_cons {die n req : Nat} (h : (s.unit die n).caps = c :: rest) :
    s.capHeadRead die n req = (s.setWide (slot (Reg.TIO_CAP0 die n) req)
      [BitVec.ofNat 32 (s.unit die n).popped, c.word 0, c.word 1, c.word 2, c.word 3], c.word 0) := by
  simp [State.capHeadRead, capHead_cons h]

/-- TIO_CAP3 without a capture removes the oldest record. -/
theorem capPopRead_live {die n req : Nat} (h : (s.unit die n).caps = c :: rest) (hk : s.bus.wide.get (slot (Reg.TIO_CAP0 die n) req) [] = []) :
    s.capPopRead die n req = (s.setUnit die n ((s.unit die n).popped1 rest), c.word 3) := by
  simp [State.capPopRead, hk, capHead_cons h, popCapture_cons h]

/-- TIO_CAP3 ends the capture of the oldest record and removes it. -/
theorem capPopRead_captured {die n req : Nat} {ws : List Word} (h : (s.unit die n).caps = c :: rest)
    (hk : s.bus.wide.get (slot (Reg.TIO_CAP0 die n) req) [] = BitVec.ofNat 32 (s.unit die n).popped :: ws) :
    s.capPopRead die n req =
      ((s.setWide (slot (Reg.TIO_CAP0 die n) req) []).setUnit die n ((s.unit die n).popped1 rest), ws.getD 3 0) := by
  have hu : (s.setWide (slot (Reg.TIO_CAP0 die n) req) []).unit die n = s.unit die n := rfl
  have hpop : (s.setWide (slot (Reg.TIO_CAP0 die n) req) []).popCapture die n =
      (s.setWide (slot (Reg.TIO_CAP0 die n) req) []).setUnit die n ((s.unit die n).popped1 rest) :=
    popCapture_cons (s := s.setWide (slot (Reg.TIO_CAP0 die n) req) []) h
  simp only [State.capPopRead, hk, hu, if_true, hpop]

/-- A capture delivered to a Region leaves the units alone. -/
theorem unit_captureDeliver (s : State) (d rg n : Nat) (bytes : List Byte) (d' n' : Nat) : (s.captureDeliver d rg n bytes).unit d' n' = s.unit d' n' := rfl

/-- The turn of a unit that drains to a Region port: its oldest record is delivered and removed (R139). -/
theorem recordDrain_region {die n : Nat} (h : (s.unit die n).caps = c :: rest) (hd : wfld (s.unit die n).ctl 12 2 = 1)
    (hi : s.isolated die (s.fld (Reg.TIO_DRN die n) 0 4) = false) (ht : s.captureTurn die (s.fld (Reg.TIO_DRN die n) 0 4) = some n) :
    s.recordDrain die n =
      (s.captureDeliver die (s.fld (Reg.TIO_DRN die n) 0 4) n c.bytes).setUnit die n ((s.unit die n).popped1 rest) := by
  unfold State.fld at hi ht
  have hc : ((s.captureDeliver die (s.fld (Reg.TIO_DRN die n) 0 4) n c.bytes).unit die n).caps = c :: rest := h
  rw [← unit_captureDeliver s die (s.fld (Reg.TIO_DRN die n) 0 4) n c.bytes die n, ← popCapture_cons hc]
  simp only [State.recordDrain, h, hd, hi, ht, bne_self_eq_false, Bool.or_self, Bool.false_eq_true, if_false]
  rfl

end captures

/-- Settles O17: writes by what the unit does with them, reads and drains by what they do to the oldest record. -/
theorem timedIoWritesWaitAndCapturesLeave : Obligations.TimedIoWritesWaitAndCapturesLeave := by
  refine ⟨fun s r die pin w => ⟨fun ha ht h1 h2 => ?ctl, fun ha => ?flush, fun ha => ?pwm, fun ha => ?offset, fun n ha => ?pattern,
    fun v op ha hb hm hop hq => ?out⟩, fun s r die pin c rest hc => ⟨fun hr ha => ?head, fun hr ha hk => ?live, fun ws hr ha hk => ?captured,
      fun hd hi ht => ?drain⟩⟩
  case ctl =>
    exact congrArg Host.Outcome.next (regAccess_wrote (single_TIO_CTL die die.isLt pin pin.isLt) ha
      ((regWrite_tioPin s pin _ _ (by decide)).trans (tioWrite_CTL w ht h1 h2 _)))
  case flush =>
    exact congrArg Host.Outcome.next (regAccess_wrote (single_TIO_OFLUSH die die.isLt pin pin.isLt) ha
      ((regWrite_tioPin s pin _ _ (by decide)).trans (tioWrite_OFLUSH _)))
  case pwm =>
    exact congrArg Host.Outcome.next (regAccess_wrote (single_TIO_PW_UPD die die.isLt pin pin.isLt) ha
      ((regWrite_tioPin s pin _ _ (by decide)).trans (tioWrite_PW_UPD _)))
  case offset =>
    exact congrArg Host.Outcome.next (regAccess_wrote (single_TIO_EMU_OFS die die.isLt pin pin.isLt) ha
      ((regWrite_tioPin s pin _ _ (by decide)).trans (tioWrite_EMU_OFS _ w)))
  case pattern =>
    exact congrArg Host.Outcome.next (regAccess_wrote (single_TIO_PAT die die.isLt n n.isLt) ha
      ((regWrite_tioUnit s _ _ (by decide) (by omega)).trans (tioWrite_PAT n _ w)))
  case out => exact congrArg Host.Outcome.next (pairAccess_TIO_OUT ha hb hm hop hq)
  case head =>
    refine congrArg Host.Outcome.next (regFetch_effect (single_TIO_CAP0 die die.isLt pin pin.isLt).1 (touched_tioUnit s _ (by omega) (by decide)) ha hr ?_)
    rw [effectRead_TIO_CAP0, capHeadRead_cons hc]
  case live =>
    refine congrArg Host.Outcome.next (regFetch_effect (single_TIO_CAP3 die die.isLt pin pin.isLt).1 (touched_tioUnit s _ (by omega) (by decide)) ha hr ?_)
    rw [effectRead_TIO_CAP3, capPopRead_live hc hk]
    rfl
  case captured =>
    refine congrArg Host.Outcome.next (regFetch_effect (single_TIO_CAP3 die die.isLt pin pin.isLt).1 (touched_tioUnit s _ (by omega) (by decide)) ha hr ?_)
    rw [effectRead_TIO_CAP3, capPopRead_captured hc hk]
    rfl
  case drain => exact congrArg Host.Outcome.next (recordDrain_region hc hd hi ht)

/-! ## Events of a unit -/

section events
variable {s : State} {die n : Nat}

/-- An outside edge of 8 dtu or more, where the pin feeds no phase or debug line, reaches the unit alone (R109). -/
theorem inputEdge_plain {k width : Nat} {level : Bool} (hd : die < 4) (hn : n < 240) (he : (s.unit die n).ext ≠ some level) (hw : 8 ≤ width)
    {t : State} (ht : s.setUnit die n { s.unit die n with
      ext := some level, ext0 := if (s.unit die n).edges = [] then (s.unit die n).ext else (s.unit die n).ext0,
      edges := (s.unit die n).edges ++ [(s.stamp k, level)] } = t)
    (h90 : t.linesOf die n 0x90 = []) (hA0 : t.linesOf die n 0xA0 = []) : s.inputEdge die n k level width = t := by
  have hout : s.outsideEdge die n k level width = t := by
    rw [← ht]
    simp only [State.outsideEdge, he, Nat.not_lt.mpr hw, decide_false, Bool.false_and, Bool.false_eq_true, if_false]
  have hin : ¬(4 ≤ die ∨ 240 ≤ n ∨ (s.unit die n).ext = some level) := by
    rintro (h | h | h)
    · omega
    · omega
    · exact he h
  unfold State.inputEdge
  simp only [hin, if_false, hout, h90, hA0, List.foldl_nil, ite_self]

/-- A measurement that ran out of time leaves its record, in a FIFO with room (R117). -/
theorem measureTimeout_due {start : Bool} {moves : List (DWord × Bool)} {a : DWord} (hm : (s.unit die n).mode = 2) (hl : s.mto die n ≠ 0)
    (ha : (s.unit die n).active = some a) (hc : (s.unit die n).caps.length < 32) (hmv : ∀ m ∈ moves, (s.unit die n).active? m.2 = false)
    (hx : a + BitVec.ofNat 64 (((s.unit die n).timeouts + 1) * s.mto die n) ≤ s.tickEnd) :
    let x := a + BitVec.ofNat 64 (((s.unit die n).timeouts + 1) * s.mto die n)
    let lvl := (((moves.filter (fun m => decide (m.1 ≤ x))).getLast?.map (·.2)).getD start) != wbit (s.unit die n).ctl 14
    s.measureTimeout die n start moves = (s.setUnit die n { s.unit die n with
      timeouts := (s.unit die n).timeouts + 1, period := none, gap := false,
      caps := (s.unit die n).caps ++ [{
        dt := x, kind := 3, gap := (s.unit die n).gap, lvl := lvl,
        phase := if lvl then 0xFFFFFFFFFFFFFFFF else 0xFFFFFFFF00000000 }] }).flag (Reg.TIO_STAT die n) 23 := by
  obtain ⟨lim, hlim⟩ := Nat.exists_eq_succ_of_ne_zero hl
  have hany : moves.any (fun m => (s.unit die n).active? m.2) = false := by
    rw [List.any_eq_false]
    exact fun m h => by simp [hmv m h]
  unfold State.measureTimeout State.pushCapture
  rw [hlim] at hx ⊢
  simp only [hm, ha, hx, hany, Bool.false_eq_true, not_false_eq_true, and_self, if_true, get_setUnit, Nat.not_le.mpr hc, if_false, setUnit_setUnit]

/-! ### The output FIFO (R122) -/

/-- Where the one entry of an output FIFO acts: at its DT, or at once where that has passed. -/
def fifoAt (c : DWord) (x : Nat) : DWord :=
  if (x + 2 ^ 60 - c.toNat % 2 ^ 60) % 2 ^ 60 < 2 ^ 59 then c + BitVec.ofNat 64 ((x + 2 ^ 60 - c.toNat % 2 ^ 60) % 2 ^ 60) else c

theorem fifoDue_one {now tickEnd c : DWord} {x : Nat} (op : OutOp)
    (h : 2 ^ 59 ≤ (x + 2 ^ 60 - c.toNat % 2 ^ 60) % 2 ^ 60 ∨ c + BitVec.ofNat 64 ((x + 2 ^ 60 - c.toNat % 2 ^ 60) % 2 ^ 60) ≤ tickEnd) :
    fifoDue now tickEnd 16 c [(x, op)] =
      ([(fifoAt c x, op)], [], decide (2 ^ 59 ≤ (x + 2 ^ 60 - c.toNat % 2 ^ 60) % 2 ^ 60)) := by
  unfold fifoAt
  simp only [fifoDue]
  generalize (x + 2 ^ 60 - c.toNat % 2 ^ 60) % 2 ^ 60 = ahead at h
  by_cases hlt : ahead < 2 ^ 59
  · have hdue := h.resolve_left (Nat.not_le.mpr hlt)
    simp only [hlt, hdue, if_true, decide_eq_false (Nat.not_le.mpr hlt)]
  · simp only [hlt, if_false, decide_eq_true (Nat.not_lt.mp hlt)]

/-- A unit whose output FIFO has emptied, with its last entry `late` or in time. -/
def State.outTaken (s : State) (die n : Nat) (late : Bool) : State :=
  (s.setUnit die n { s.unit die n with outq := [] }).flagIf late (Reg.TIO_STAT die n) 14

theorem outTaken_unit (s : State) (die n : Nat) (late : Bool) : (s.outTaken die n late).unit die n = { s.unit die n with outq := [] } := by
  rw [State.outTaken, unit_flagIf, get_setUnit]

theorem outTaken_frame (s : State) (die n : Nat) (late : Bool) :
    s.outTaken die n late = { s with tio := (s.outTaken die n late).tio, csr := (s.outTaken die n late).csr } := by
  rw [State.outTaken, flagIf_frame]
  rfl

/-- A due entry leaves the FIFO of a unit that nothing holds, and is flagged where it is late (R122). -/
theorem fifoRelease_one {x : Nat} {op : OutOp} (hm : (s.unit die n).mode = 3) (hq : (s.unit die n).outq = [(x, op)])
    (h : 2 ^ 59 ≤ (x + 2 ^ 60 - (s.now + 1).toNat % 2 ^ 60) % 2 ^ 60 ∨
      s.now + 1 + BitVec.ofNat 64 ((x + 2 ^ 60 - (s.now + 1).toNat % 2 ^ 60) % 2 ^ 60) ≤ s.tickEnd) :
    s.fifoRelease die n false = (s.outTaken die n (decide (2 ^ 59 ≤ (x + 2 ^ 60 - (s.now + 1).toNat % 2 ^ 60) % 2 ^ 60)),
      [(fifoAt (s.now + 1) x, .fifo op)]) := by
  unfold State.fifoRelease State.outTaken
  simp only [hm, hq, fifoDue_one op h, bne_self_eq_false, Bool.or_self, Bool.false_eq_true, if_false, List.map_cons, List.map_nil]

/-- One action on a line without a pulse asks for its level and driver, and leaves no pulse (R121). -/
theorem lineActs_fifo {l : Line} (x : DWord) (op : OutOp) (hp : l.pulse = none) :
    ((s.lineActs l [(x, .fifo op)]).1.level, (s.lineActs l [(x, .fifo op)]).1.oe) = ((l.ask (.fifo op)).1, (l.ask (.fifo op)).2.1) := by
  have hnone (l' : Line) (y : DWord) (h : l'.pulse = none) : s.linePulseUpTo l' y = (l', false, false) := by simp [State.linePulseUpTo, h]
  have hask : (l.ask (.fifo op)).2.2 = none := by cases op <;> exact hp
  obtain ⟨hlevel, hoe, hpulse⟩ := put_level { l with pulse := none } x (l.ask (.fifo op)).1 (l.ask (.fifo op)).2.1
  unfold State.lineActs
  simp only [List.foldl_cons, List.foldl_nil, hnone l x hp, hask, hnone _ s.tickEnd hpulse, hpulse, hlevel, hoe]

/-- The tick of a DRIVE unit whose one entry is due: the line takes the entry's action (R121 to R123). -/
theorem driveTick_one {x : Nat} {op : OutOp} (hm : (s.unit die n).mode = 3) (hq : (s.unit die n).outq = [(x, op)])
    (h : 2 ^ 59 ≤ (x + 2 ^ 60 - (s.now + 1).toNat % 2 ^ 60) % 2 ^ 60 ∨
      s.now + 1 + BitVec.ofNat 64 ((x + 2 ^ 60 - (s.now + 1).toNat % 2 ^ 60) % 2 ^ 60) ≤ s.tickEnd) :
    ∃ late c1 c2, (2 ^ 59 ≤ (x + 2 ^ 60 - (s.now + 1).toNat % 2 ^ 60) % 2 ^ 60 → late = true) ∧ s.driveTick die n [] false =
      let u := s.outTaken die n late
      ((u.setUnit die n { u.unit die n with line := (u.lineActs (s.unit die n).line [(fifoAt (s.now + 1) x, .fifo op)]).1 }).flagIf c1
        (Reg.TIO_STAT die n) 15).flagIf c2 (Reg.TIO_STAT die n) 16 := by
  have hline (c : Bool) : ((s.outTaken die n c).unit die n).line = (s.unit die n).line := by rw [outTaken_unit]
  unfold State.driveTick
  simp only [fifoRelease_one hm hq h, List.map_cons, List.map_nil, List.nil_append, sortBy, List.foldl_cons, List.foldl_nil, insertBy, hline]
  exact ⟨_, _, _, fun hlate => decide_eq_true hlate, rfl⟩

/-! ### PWM_GEN (R128) -/

/-- At a period start after the update the shadows are taken into use with this origin (R128). -/
theorem pwmGenDtu_start {x b : DWord} (hu : (s.unit die n).upd = some b) (hb : b < x) (ho : (s.unit die n).org ≤ x)
    (hp : (x - (s.unit die n).org).toNat % max (s.unit die n).per 1 = 0) :
    ∃ v, s.pwmGenDtu die n x = (s.pwmTake die n x).putPin die n x v true := by
  have hlt : ¬x < (s.unit die n).org := by rw [BitVec.not_lt]; exact ho
  unfold State.pwmGenDtu
  simp only [hlt, if_false, hp, hu, hb, decide_true, BEq.rfl, Bool.and_self, if_true]
  exact ⟨_, rfl⟩

/-! ### Encoder emulation (R130) -/

/-- A count step where the gap is positive and the step time has passed (R130). -/
theorem encStep_up {k : Nat} (hm : (s.unit die n).mode = 6)
    (hg : 0 < s.encGap die n ((s.dom (wfld (s.unit die n).ctl 4 4)).ph s.now s.spine.len k))
    (ht : (s.unit die n).stepAt + BitVec.ofNat 64 (max (s.fld (Reg.TIO_ENC_SP die n) 0 12) 64) ≤ s.now + BitVec.ofNat 64 k) :
    s.encStep die n k = (s.setUnit die n { s.unit die n with count := (s.unit die n).count + 1, stepAt := s.now + BitVec.ofNat 64 k }).encDrive die n
      (s.now + BitVec.ofNat 64 k) := by
  have hne : (s.encGap die n ((s.dom (wfld (s.unit die n).ctl 4 4)).ph s.now s.spine.len k) == 0) = false := by
    rw [beq_eq_false_iff_ne]
    omega
  have hlt : ¬(s.now + BitVec.ofNat 64 k < (s.unit die n).stepAt + BitVec.ofNat 64 (max (s.fld (Reg.TIO_ENC_SP die n) 0 12) 64)) := by
    rw [BitVec.not_lt]; exact ht
  simp only [State.encStep, hm, hne, hlt, hg, bne_self_eq_false, decide_false, Bool.or_self, Bool.false_eq_true, if_false, if_true]

end events

/-- Settles O18: each event by what its unit does with it. -/
theorem timedIoEvents : Obligations.TimedIoEvents := by
  intro s die pin
  refine ⟨fun k width level he hw h90 hA0 => ?edge, fun a hm hl ha hc hmv hx => ?timeout, fun x op hm hf hq hp h => ?drive,
    fun k b hm hu hb ho hp => ?shadows, fun k hm hg ht => ?step⟩
  case edge => exact congrArg Host.Outcome.next (inputEdge_plain die.isLt pin.isLt he hw rfl h90 hA0)
  case timeout => exact congrArg Host.Outcome.next (measureTimeout_due hm hl ha hc hmv hx)
  case drive =>
    have he : exec (.outputFifoRelease die pin) s = .next (s.driveTick die pin [] false) := by
      refine congrArg Host.Outcome.next ?_
      rw [if_pos hm, hf]
    obtain ⟨late, c1, c2, hlate, hd⟩ := driveTick_one hm hq h
    refine ⟨_, he, ?_⟩
    rw [hd, unit_flagIf, unit_flagIf, get_setUnit, outTaken_unit]
    refine ⟨?_, rfl, ?_, fun hahead => bit_flagIf_mono (bit_flagIf_mono ?_)⟩
    · rw [flagIf_frame (State.flagIf _ _ _ _), flagIf_frame (State.setUnit ..), outTaken_frame]
      rfl
    · refine (lineActs_fifo _ op hp).trans ?_
      cases op <;> rfl
    · show (s.outTaken die pin late).bit (Reg.TIO_STAT die pin) 14 = true
      rw [State.outTaken, State.flagIf, if_pos (hlate hahead)]
      exact bit_flag_self (by decide)
  case shadows =>
    obtain ⟨v, hv⟩ := pwmGenDtu_start hu hb ho hp
    have he : exec (.pwmShadowMove die pin k) s = .next ((s.pwmTake die pin (s.stamp k)).putPin die pin (s.stamp k) v true) := by
      refine congrArg Host.Outcome.next ?_
      simp only [State.pwmShadowMove, hm]
      exact hv
    refine ⟨_, he, ?_⟩
    rw [putPin_unit, pwmTake_unit, hm]
    refine ⟨?_, rfl, rfl, rfl⟩
    rw [putPin_frame, pwmTake_frame]
  case step =>
    have he : exec (.encoderCountStep die pin k) s = .next ((s.setUnit die pin { s.unit die pin with
        count := (s.unit die pin).count + 1, stepAt := s.now + BitVec.ofNat 64 k }).encDrive die pin (s.now + BitVec.ofNat 64 k)) := by
      refine congrArg Host.Outcome.next ?_
      rw [if_pos hm, encStep_up hm hg ht]
    obtain ⟨hcount, hstep⟩ := encDrive_counts (s.setUnit die pin { s.unit die pin with
        count := (s.unit die pin).count + 1, stepAt := s.now + BitVec.ofNat 64 k }) die pin (s.now + BitVec.ofNat 64 k)
    rw [get_setUnit] at hcount hstep
    refine ⟨_, he, ?_, hcount, hstep⟩
    rw [encDrive_frame]
    rfl

end Sys2Proof.Machine
end

section
/-!
PROOF. Pads and crossbar (R143, R147, R149, R154, R159, R160, R166), and the lock sequence (R165, R166).
-/
namespace Sys2Proof.Machine

/-! ## Requesters and sequences (R166) -/

/-- A requester that finds no sequence, or its own, ends none. -/
theorem interfere_own {s : State} {die req : Nat} (h : ∀ x, s.lockSeq die = some x → x.1 = req) : s.interfere die req = s := by
  unfold State.interfere
  cases hs : s.lockSeq die with
  | none => rfl
  | some x =>
    obtain ⟨q, p, n⟩ := x
    exact if_pos (h _ hs)

theorem touched_pads (s : State) (req : Nat) {die u i o : Nat} (hu : u = 0x06 ∨ u = 0x07) (hi : i < 4096) (ho : o < 4096) :
    s.touched req (regKey die u i o) = s.interfere die req := by
  rcases hu with rfl | rfl <;> simp [State.touched, keyUnit_regKey ho hi, keyDie_regKey ho hi]

/-! ## Writes of a pin's registers -/

section padWrites
variable {s : State} {r : Requester} {die : Fin 4} {pin : Fin 240}

theorem regWrite_pads (s : State) {die u i o : Nat} (req : Nat) (w : Word) (hu : u = 0x06 ∨ u = 0x07) (hi : i < 4096) (ho : o < 0xFF8)
    (h : ∀ x, s.lockSeq die = some x → x.1 = req) : (s.touched req (regKey die u i o)).regWrite (regKey die u i o) req w =
      if u = 0x06 then s.padWrite die i o (regKey die u i o) req w else s.xbarWrite die i o (regKey die u i o) w := by
  have ho' : o < 4096 := by omega
  have h1 : o ≠ 0xFFC := by omega
  have h2 : o ≠ 0xFF8 := by omega
  rw [touched_pads s req hu hi ho', interfere_own h]
  rcases hu with rfl | rfl <;> simp [State.regWrite, keyUnit_regKey ho' hi, keyOff_regKey ho', keyInst_regKey ho' hi, keyDie_regKey ho' hi, h1, h2]

theorem noSequence {die req : Nat} (h : s.lockSeq die = none) : ∀ x, s.lockSeq die = some x → x.1 = req := by simp [h]

theorem regAccess_PAD_FUNC (w : Word) (hl : s.lockSeq die = none) (ha : s.admits r (Reg.PAD_FUNC die pin) true = true) :
    s.regAccess r (Reg.PAD_FUNC die pin) w = (s.padFuncWrite die pin w).wrote r (Reg.PAD_FUNC die pin) := by
  refine regAccess_wrote (single_PAD_FUNC die die.isLt pin pin.isLt) ha
    ((regWrite_pads s _ w (.inl rfl) (by omega) (by decide) (noSequence hl)).trans ?_)
  have hp : (pin : Nat) < 240 := pin.isLt
  simp only [if_true, State.padWrite, hp]

theorem regAccess_XBAR_SRC (w : Word) (hl : s.lockSeq die = none) (ha : s.admits r (Reg.XBAR_SRC die pin) true = true) :
    s.regAccess r (Reg.XBAR_SRC die pin) w = (s.xbarSrcWrite die pin w).wrote r (Reg.XBAR_SRC die pin) := by
  refine regAccess_wrote (single_XBAR_SRC die die.isLt pin pin.isLt) ha
    ((regWrite_pads s _ w (.inr rfl) (by omega) (by decide) (noSequence hl)).trans ?_)
  have hp : (pin : Nat) < 240 := pin.isLt
  simp only [show ¬(0x07 = 0x06) by decide, if_false, State.xbarWrite, hp, if_true]

theorem regAccess_XBAR_IN (w : Word) (hl : s.lockSeq die = none) (ha : s.admits r (Reg.XBAR_IN die pin) true = true) :
    s.regAccess r (Reg.XBAR_IN die pin) w = (s.xbarInWrite die pin w).wrote r (Reg.XBAR_IN die pin) := by
  refine regAccess_wrote (single_XBAR_IN die die.isLt pin pin.isLt) ha
    ((regWrite_pads s _ w (.inr rfl) (by omega) (by decide) (noSequence hl)).trans ?_)
  have hp : (pin : Nat) < 240 := pin.isLt
  simp only [show ¬(0x07 = 0x06) by decide, if_false, State.xbarWrite, hp, if_true]

end padWrites

/-! ## Changeover (R154 to R156) -/

theorem setPad_setPad (s : State) (die p : Nat) (x y : Pad) : (s.setPad die p x).setPad die p y = s.setPad die p y := by
  simp [State.setPad, SMap.set_set]

/-- A pad that begins its changeover to a function at edge `e`. -/
def State.switched (s : State) (die p func sel : Nat) (e : DWord) (q : Pad) : Pad :=
  { q with phases := (e + 128, .fn func sel) :: (e, .leave (q.newest p).1 (q.newest p).2 e (s.drives die p func sel)) :: q.live s.padHorizon }

theorem beginSwitch_eq (s : State) (die p func sel : Nat) (e : DWord) :
    s.beginSwitch die p func sel e = s.setPad die p (s.switched die p func sel e (s.pad die p)) := rfl

/-- A write of PAD_FUNC to an unlocked idle pin begins its changeover at the next pad-control edge (R155). -/
theorem padFuncWrite_idle {s : State} {die p : Nat} {w : Word} (hl : (s.pad die p).lock = none) (hb : (s.pad die p).busy s.now = false)
    (hf : (funcOf p (wfld w 0 4)).2 = false) (hn : (s.pad die p).newest p ≠ ((funcOf p (wfld w 0 4)).1, wfld w 4 4)) :
    s.padFuncWrite die p w = (s.wr (Reg.PAD_FUNC die p) (BitVec.ofNat 32 (w.toNat % 256))).setPad die p
      { s.switched die p (funcOf p (wfld w 0 4)).1 (wfld w 4 4) (edgeAfter s.now) (s.pad die p) with
        asked := if (s.pad die p).wait.isSome then none else some (edgeAfter s.now, (funcOf p (wfld w 0 4)).1, wfld w 4 4),
        phases := ((s.wr (Reg.PAD_FUNC die p) (BitVec.ofNat 32 (w.toNat % 256))).switched die p (funcOf p (wfld w 0 4)).1 (wfld w 4 4)
          (edgeAfter s.now) (s.pad die p)).phases } := by
  have hlock : (s.pad die p).lock.isSome = false := by rw [hl]; rfl
  have hpad : ∀ v : Word, (s.wr (Reg.PAD_FUNC die p) v).pad die p = s.pad die p := fun _ => rfl
  have hnow : ∀ v : Word, (s.wr (Reg.PAD_FUNC die p) v).now = s.now := fun _ => rfl
  have hswitch : (s.wr (Reg.PAD_FUNC die p) (BitVec.ofNat 32 (w.toNat % 256))).switchPad die p (wfld w 0 4) (wfld w 4 4) (edgeAfter s.now) =
      (s.wr (Reg.PAD_FUNC die p) (BitVec.ofNat 32 (w.toNat % 256))).beginSwitch die p (funcOf p (wfld w 0 4)).1 (wfld w 4 4) (edgeAfter s.now) := by
    simp only [State.switchPad, hf, hpad, hnow, hb, hn, Bool.false_eq_true, if_false]
  simp only [State.padFuncWrite, hlock, Bool.false_eq_true, if_false, hswitch, beginSwitch_eq, State.setPad_self, setPad_setPad, hpad]
  rfl

/-- A write of PAD_FUNC that would change a locked pin is recorded and changes nothing (R167). -/
theorem padFuncWrite_locked {s : State} {die : Fin 4} {p : Fin 240} {w : Word} (hl : (s.pad die p).lock.isSome = true)
    (hw : BitVec.ofNat 32 (w.toNat % 256) ≠ s.rd (Reg.PAD_FUNC die p)) : s.padFuncWrite die p w = s.raise 3 0x0002 die 0x06 p := by
  have hp : (p : Nat) < 4096 := by omega
  have hdiff : (BitVec.ofNat 32 (w.toNat % 256) != s.rd (Reg.PAD_FUNC die p)) = true := by simpa using hw
  simp only [State.padFuncWrite, hl, if_true, State.lockedWrite, hdiff]
  unfold Reg.PAD_FUNC
  rw [keyDie_regKey (by decide) hp (by decide), keyUnit_regKey (by decide) hp (by decide), keyInst_regKey (by decide) hp]

theorem xbarSrcWrite_unlocked {s : State} {die p : Nat} {w : Word} (hl : (s.pad die p).lock = none)
    (hc : ¬(0x1A8 ≤ wfld w 0 9 ∧ wfld w 0 9 ≤ 0x1AF)) :
    s.xbarSrcWrite die p w = (s.wr (Reg.XBAR_SRC die p) (BitVec.ofNat 32 (wfld w 0 9))).setPad die p
      { s.pad die p with srcs := ((edgeAfter s.now, wfld w 0 9) :: (s.pad die p).srcs.filter (fun x => x.1 != edgeAfter s.now)).take 8 } := by
  have hlock : (s.pad die p).lock.isSome = false := by rw [hl]; rfl
  simp only [State.xbarSrcWrite, hlock, Bool.false_eq_true, if_false, hc]
  rfl

theorem xbarInWrite_unlocked {s : State} {die p : Nat} {w : Word} (hl : (s.pad die p).lock = none) (hc : wfld w 0 9 ≤ 0x82) :
    s.xbarInWrite die p w = s.wr (Reg.XBAR_IN die p) (BitVec.ofNat 32 (wfld w 0 9 + b2n (wbit w 15) * 2 ^ 15)) := by
  have hlock : (s.pad die p).lock.isSome = false := by rw [hl]; rfl
  simp only [State.xbarInWrite, hlock, Bool.false_eq_true, if_false, Nat.not_lt.mpr hc]

/-- A waiting switch begins where the changeover before it has ended (R156). -/
theorem settlePad_waiting {s : State} {die p f sel : Nat} {e : DWord} {ph : PadPhase} {rest : List (DWord × PadPhase)}
    (hw : (s.pad die p).wait = some (f, sel)) (hp : (s.pad die p).phases = (e, ph) :: rest) (hb : (s.pad die p).busy s.now = false)
    (hn : (s.pad die p).newest p ≠ (f, sel)) :
    s.settlePad die p = s.setPad die p { s.switched die p f sel e (s.pad die p) with wait := none } := by
  simp only [State.settlePad, hb, Bool.false_eq_true, if_false, hw, hp, hn, beginSwitch_eq, State.setPad_self, setPad_setPad]
  rw [← hp]
  rfl

/-! ## Observation (R159, R160) -/

theorem effectRead_PAD_SNAP0 (s : State) (die : Fin 4) (req : Nat) :
    s.effectRead req (Reg.PAD_SNAP die 0) = ((s.snapHeadRead die req).1, .ok, (s.snapHeadRead die req).2) := by
  have hd : ∀ d < 4, keyUnit (Reg.PAD_SNAP d 0) = 0x06 ∧ keyOff (Reg.PAD_SNAP d 0) = 0x100 ∧ keyDie (Reg.PAD_SNAP d 0) = d := by decide
  obtain ⟨hu, ho, hdie⟩ := hd die die.isLt
  unfold State.effectRead
  rw [(single_PAD_SNAP die die.isLt 0 (by decide)).2]
  simp only [hu, ho, hdie]

theorem adcConvert_sum {s : State} {die code n sum cnt : Nat} (hc : code < 4096) (hn : s.adcChannel die (s.pins.adcNext.get die 0) = some n)
    (hs : s.pins.adcSum.get (die * 10 + n) (0, 0) = (sum, cnt)) (ht : cnt + 1 < 2 ^ s.fld (Reg.ADC_CTL die) 10 3) :
    s.adcConvert die code = { s with pins := { s.pins with
      adcNext := s.pins.adcNext.set die ((n + 1) % 10) 0
      adcSum := s.pins.adcSum.set (die * 10 + n) (sum + code, cnt + 1) (0, 0) } } := by
  simp only [State.adcConvert, hn, hs, Nat.mod_eq_of_lt hc, Nat.not_le.mpr ht, if_false]

theorem adcConvert_done {s : State} {die code n sum cnt : Nat} (hc : code < 4096) (hn : s.adcChannel die (s.pins.adcNext.get die 0) = some n)
    (hs : s.pins.adcSum.get (die * 10 + n) (0, 0) = (sum, cnt)) (ht : 2 ^ s.fld (Reg.ADC_CTL die) 10 3 ≤ cnt + 1) :
    s.adcConvert die code = State.wr { s with pins := { s.pins with
      adcNext := s.pins.adcNext.set die ((n + 1) % 10) 0
      adcSum := s.pins.adcSum.set (die * 10 + n) (0, 0) (0, 0) } } (Reg.ADC_DATA die n)
        (BitVec.ofNat 32 ((sum + code) / 2 ^ s.fld (Reg.ADC_CTL die) 10 3 + 2 ^ 16)) := by
  simp only [State.adcConvert, hn, hs, Nat.mod_eq_of_lt hc, ht, if_true]

/-- Settles O19: the writes of a pin by what they do to it, the snapshot by its capture, a conversion by its sum. -/
theorem padsChangeAtTheirEdgesAndAreObserved : Obligations.PadsChangeAtTheirEdgesAndAreObserved := by
  refine ⟨fun s r die pin w hs => ⟨fun ha hl hb hf hn => ?func, fun ha hl hw => ?locked, fun ha hl hc => ?source, fun ha hl hc => ?input,
    fun f sel e ph rest hw hp hb hn => ?changeover⟩, fun s die => ⟨fun r hr hs ha => ?snapshot, fun code n sum cnt hn hs => ⟨fun ht => ?sum, fun ht => ?done⟩⟩⟩
  case func =>
    refine congrArg Host.Outcome.next ((regAccess_PAD_FUNC w hs ha).trans ?_)
    rw [padFuncWrite_idle hl hb hf hn]
    rfl
  case locked =>
    refine congrArg Host.Outcome.next ((regAccess_PAD_FUNC w hs ha).trans ?_)
    rw [padFuncWrite_locked hl hw]
  case source =>
    refine congrArg Host.Outcome.next ((regAccess_XBAR_SRC w hs ha).trans ?_)
    rw [xbarSrcWrite_unlocked hl hc]
  case input =>
    refine congrArg Host.Outcome.next ((regAccess_XBAR_IN w hs ha).trans ?_)
    rw [xbarInWrite_unlocked hl hc]
  case changeover => exact congrArg Host.Outcome.next (settlePad_waiting hw hp hb hn)
  case snapshot =>
    have ht : s.touched r.code (Reg.PAD_SNAP die 0) = s :=
      (touched_pads s _ (.inl rfl) (by decide) (by decide)).trans (interfere_own (noSequence hs))
    exact congrArg Host.Outcome.next (regFetch_effect (single_PAD_SNAP die die.isLt 0 (by decide)).1 ht ha hr (effectRead_PAD_SNAP0 s die _))
  case sum => exact congrArg Host.Outcome.next (adcConvert_sum code.isLt hn hs ht)
  case done => exact congrArg Host.Outcome.next (adcConvert_done code.isLt hn hs ht)

/-! ## The lock sequence (R165) -/

section lockSequence
variable {s : State} {r : Requester} {die : Fin 4} {pin : Nat}

/-- The fields of a word that names a pin and a tag. -/
theorem lockWord_fields (hp : pin < 256) {tag : Nat} (ht : tag < 256) :
    wbit (BitVec.ofNat 32 (pin + tag * 2 ^ 24)) 10 = false ∧ wfld (BitVec.ofNat 32 (pin + tag * 2 ^ 24)) 0 8 = pin ∧
      wfld (BitVec.ofNat 32 (pin + tag * 2 ^ 24)) 24 8 = tag := by
  have hlt : pin + tag * 2 ^ 24 < 2 ^ 32 := by omega
  have hn : (BitVec.ofNat 32 (pin + tag * 2 ^ 24)).toNat = pin + tag * 2 ^ 24 := by rw [BitVec.toNat_ofNat, Nat.mod_eq_of_lt hlt]
  refine ⟨?_, ?_, ?_⟩
  · rw [wbit, BitVec.getLsbD, hn, Nat.testBit_eq_decide_div_mod_eq]
    simp only [decide_eq_false_iff_not]
    omega
  · unfold wfld; omega
  · unfold wfld; omega

/-- A tag written to PAD_LOCK by the requester of the sequence, or where none runs, reaches the sequence (R165). -/
theorem regAccess_PAD_LOCK (hp : pin < 256) {tag : Nat} (ht : tag < 256) (ha : s.admits r (Reg.PAD_LOCK die) true = true)
    (h : ∀ x, s.lockSeq die = some x → x.1 = r.code) :
    s.regAccess r (Reg.PAD_LOCK die) (BitVec.ofNat 32 (pin + tag * 2 ^ 24)) = (s.lockWrite die r.code pin tag).wrote r (Reg.PAD_LOCK die) := by
  obtain ⟨hb, hpin, htag⟩ := lockWord_fields hp ht
  refine regAccess_wrote (single_PAD_LOCK die die.isLt) ha ((regWrite_pads s _ _ (.inl rfl) (by decide) (by decide) h).trans ?_)
  simp only [if_true, State.padWrite, show ¬(240 < 240) by decide, if_false, hb, Bool.false_eq_true, hpin, htag]

theorem lockWrite_tag1 {req : Nat} (h : ∀ x, s.lockSeq die = some x → x.1 = req) :
    s.lockWrite die req pin 0x4C = (s.setFld (Reg.PAD_LOCK die) 0 8 pin).setLockSeq die (some (req, pin, 1)) := by
  rw [State.lockWrite, interfere_own h]
  exact if_pos rfl

theorem lockWrite_tag2 {req : Nat} (h : s.lockSeq die = some (req, pin, 1)) : s.lockWrite die req pin 0xB3 = s.setLockSeq die (some (req, pin, 2)) := by
  have hown : ∀ x, s.lockSeq die = some x → x.1 = req := by simp [h]
  rw [State.lockWrite, interfere_own hown]
  simp [h]

/-- The read of the requester that has written both tags locks the pin with its set-up (R165, R167). -/
theorem lockRead_third {req : Nat} (hp : pin < 240) (h : s.lockSeq die = some (req, pin, 2)) (hl : (s.pad die pin).lock = none) :
    (s.lockRead die req).1 = (s.setLockSeq die none).setPad die pin { s.pad die pin with
      lock := some [s.rd (Reg.PAD_FUNC die pin), s.rd (Reg.PAD_CFG die pin), s.rd (Reg.XBAR_SRC die pin), s.rd (Reg.XBAR_IN die pin)] } := by
  have hown : ∀ x, s.lockSeq die = some x → x.1 = req := by simp [h]
  have hpad : ((s.setLockSeq die none).pad die pin).lock.isSome = false := by
    show (s.pad die pin).lock.isSome = false
    rw [hl]; rfl
  unfold State.lockRead
  rw [interfere_own hown]
  simp only [h, Nat.not_le.mpr hp, hpad, if_false, Bool.false_eq_true]
  rfl

/-- A read of PAD_LOCK by any requester is the sequence's read. -/
theorem regFetch_PAD_LOCK (ha : s.admits r (Reg.PAD_LOCK die) false = true) (h : ∀ x, s.lockSeq die = some x → x.1 = r.code) :
    s.regFetch r (Reg.PAD_LOCK die) = (s.lockRead die r.code).1.fetched r (Reg.PAD_LOCK die) (s.lockRead die r.code).2 := by
  have hk : ∀ d < 4, keyUnit (Reg.PAD_LOCK d) = 0x06 ∧ keyOff (Reg.PAD_LOCK d) = 0 ∧ keyDie (Reg.PAD_LOCK d) = d ∧ keyInst (Reg.PAD_LOCK d) = 240 := by
    decide
  obtain ⟨hu, ho, hd, hi⟩ := hk die die.isLt
  have ht : s.touched r.code (Reg.PAD_LOCK die) = s := (touched_pads s _ (.inl rfl) (by decide) (by decide)).trans (interfere_own h)
  obtain ⟨hsingle, hnone⟩ := single_PAD_LOCK die die.isLt
  by_cases hr : r.code = 16
  · rw [regPeek_admitted hsingle ha hr, ← hr, ht]
    simp only [State.peek, hu, ho, hd, hi, and_self, if_true, hr]
    rw [← hr]
    rfl
  · refine regFetch_effect hsingle ht ha hr ?_
    unfold State.effectRead
    rw [hnone]
    simp only [hu, ho, hd, hi, and_self, if_true]

end lockSequence

/-- Settles O20: the two tags by what they do to the sequence, the read by the lock it takes. -/
theorem padLockSequence : Obligations.PadLockSequence := by
  intro s r die pin
  have hp : (pin : Nat) < 256 := by omega
  refine ⟨fun ha h => ?tag1, fun ha h => ?tag2, fun ha h hl => ?read⟩
  case tag1 =>
    refine ⟨_, congrArg Host.Outcome.next (regAccess_PAD_LOCK (tag := 0x4C) hp (by decide) ha h), ?_⟩
    rw [lockWrite_tag1 h]
    exact ⟨rfl, State.setLockSeq_self .., rfl⟩
  case tag2 =>
    have hown : ∀ x, s.lockSeq die = some x → x.1 = r.code := by simp [h]
    refine ⟨_, congrArg Host.Outcome.next (regAccess_PAD_LOCK (tag := 0xB3) hp (by decide) ha hown), ?_⟩
    rw [lockWrite_tag2 h]
    exact ⟨rfl, State.setLockSeq_self .., rfl⟩
  case read =>
    have hown : ∀ x, s.lockSeq die = some x → x.1 = r.code := by simp [h]
    refine ⟨(s.lockRead die r.code).2, congrArg Host.Outcome.next ((regFetch_PAD_LOCK ha hown).trans ?_)⟩
    rw [lockRead_third pin.isLt h hl]

end Sys2Proof.Machine
end

section
/-!
PROOF. Block memories, crossing FIFOs and MAC slices (R180 to R192).
-/
namespace Sys2Proof.Machine

theorem ite_of_iff {α : Type} {b c : Prop} [Decidable b] [Decidable c] {x y : α} (h : b ↔ c) : (if b then x else y) = if c then x else y :=
  ite_congr (propext h) (fun _ => rfl) fun _ => rfl

/-! ## Lanes and output stages (R180 to R182) -/

theorem laneVal_setLaneVal (s : State) (mem l v l' : Nat) : (s.setLaneVal mem l v).laneVal mem l' = if l' = l then v % 512 else s.laneVal mem l' := by
  by_cases h : l' = l
  · subst h
    simp [State.laneVal, State.setLaneVal, State.setFabric]
  · have hk : mem * 32768 + l' ≠ mem * 32768 + l := by omega
    simp only [State.laneVal, State.setLaneVal, State.setFabric, SMap.get_set_other hk, h, if_false]

/-- The lanes of a word stored under a mask, from lane `base` on. -/
def State.storeLanes (s : State) (mem base mask data n : Nat) : State :=
  (List.range n).foldl (fun s i => if mask / 2 ^ i % 2 = 1 then s.setLaneVal mem (base + i) (data / 2 ^ (9 * i) % 512) else s) s

theorem storeLanes_succ (s : State) (mem base mask data n : Nat) : s.storeLanes mem base mask data (n + 1) =
    if mask / 2 ^ n % 2 = 1 then (s.storeLanes mem base mask data n).setLaneVal mem (base + n) (data / 2 ^ (9 * n) % 512)
    else s.storeLanes mem base mask data n := by
  simp only [State.storeLanes, List.range_succ, List.foldl_append, List.foldl_cons, List.foldl_nil]

/-- A store changes the lanes alone. -/
theorem storeLanes_frame (s : State) (mem base mask data n : Nat) :
    ∃ v, s.storeLanes mem base mask data n = { s with fabric := { s.fabric with lanes := v } } := by
  induction n with
  | zero => exact ⟨_, rfl⟩
  | succ n ih =>
    obtain ⟨v, hv⟩ := ih
    rw [storeLanes_succ, hv]
    split
    · exact ⟨_, rfl⟩
    · exact ⟨v, rfl⟩

/-- A lane holds the data where its mask bit enables it, and what it held otherwise (R180). -/
theorem laneVal_storeLanes (s : State) (mem base mask data n l : Nat) : (s.storeLanes mem base mask data n).laneVal mem l =
    if base ≤ l ∧ l < base + n ∧ mask / 2 ^ (l - base) % 2 = 1 then data / 2 ^ (9 * (l - base)) % 512 else s.laneVal mem l := by
  induction n with
  | zero => exact (if_neg (by omega)).symm
  | succ n ih =>
    rw [storeLanes_succ]
    by_cases hl : l = base + n
    · subst hl
      have hold : (s.storeLanes mem base mask data n).laneVal mem (base + n) = s.laneVal mem (base + n) := by
        rw [ih]; exact if_neg (by omega)
      split
      · rw [laneVal_setLaneVal, if_pos rfl, Nat.add_sub_cancel_left, Nat.mod_mod, if_pos ⟨by omega, by omega, ‹_›⟩]
      · rw [hold, Nat.add_sub_cancel_left, if_neg (fun h => ‹¬_› h.2.2)]
    · have hiff : (base ≤ l ∧ l < base + (n + 1) ∧ mask / 2 ^ (l - base) % 2 = 1) ↔ (base ≤ l ∧ l < base + n ∧ mask / 2 ^ (l - base) % 2 = 1) := by
        omega
      rw [ite_of_iff hiff, ← ih]
      split
      · rw [laneVal_setLaneVal, if_neg hl]
      · rfl

theorem memStore_36 {p : PortAccess} (s : State) (mem : Nat) (hw : p.width = 36) :
    s.memStore mem false p = s.storeLanes mem (4 * p.addr) p.mask p.data 4 := by
  unfold State.memStore State.storeLanes
  simp only [hw, show ¬(36 < 9) by decide, if_false, Bool.false_or, decide_eq_true_eq, Bool.false_eq_true, show 36 / 9 = 4 by decide]

theorem laneVal_memClock (s : State) (mem port : Nat) (v : Option Nat) (l : Nat) : (s.memClock mem port v).laneVal mem l = s.laneVal mem l := rfl

theorem memOut_memClock {mem : Nat} (s : State) (port : Nat) (v : Nat) (h : isDeep mem = false) :
    ((s.memClock mem port (some v)).memOut mem port).latch = v ∧ ((s.memClock mem port (some v)).memOut mem port).reg = (s.memOut mem port).latch := by
  simp [State.memClock, State.memOut, State.setFabric, h]

theorem memOut_memClock_other {mem port port' : Nat} (s : State) (v : Option Nat) (h : port' ≠ port) :
    (s.memClock mem port v).memOut mem port' = s.memOut mem port' := by
  have hk : 2 * mem + port' ≠ 2 * mem + port := by omega
  simp only [State.memOut, State.memClock, State.setFabric, SMap.get_set_other hk]

/-- An access of port A alone stores its word, if it writes, and clocks what it reads into its stages. -/
theorem memoryAccess_portA {s : State} {die rg m : Nat} {p : PortAccess} (hc : s.clocked die rg = true)
    (ha : aspectOk (fabricMem die rg m) false p = true) : s.memoryAccess die rg m false false (some p) none =
      (if p.en && p.write then s.memStore (fabricMem die rg m) false p else s).memClock (fabricMem die rg m) 0
        (s.portRead (fabricMem die rg m) false p s (if p.en && p.write then s.memStore (fabricMem die rg m) false p else s)) := by
  unfold State.memoryAccess
  rw [fabricMem] at *
  simp only [hc, ha, Bool.not_true, Bool.or_self, Bool.false_eq_true, if_false, Bool.false_and, Bool.not_false, Bool.or_true, if_true]

/-! ## Crossing FIFOs (R185 to R187) -/

theorem fabricMem_die (die : Fin 4) (rg : Fin 16) (m : Fin 288) : fabricMem die rg m / 8192 = die := by unfold fabricMem; omega
theorem fabricMem_region (die : Fin 4) (rg : Fin 16) (m : Fin 288) : fabricMem die rg m / 512 % 16 = rg := by unfold fabricMem; omega

theorem fifoServes_of {s : State} {die : Fin 4} {rg : Fin 16} {m : Fin 288} {width : Nat} (hc : s.clocked die rg = true)
    (hd : isDeep (fabricMem die rg m) = false) (hw : width ∈ [9, 18, 36, 72])
    (hx : (s.xfifo (fabricMem die rg m)).width = 0 ∨ (s.xfifo (fabricMem die rg m)).width = width) : s.fifoServes (fabricMem die rg m) width = true := by
  have hmem : [9, 18, 36, 72].contains width = true := List.contains_iff_mem.mpr hw
  have hwidth : ((s.xfifo (fabricMem die rg m)).width == 0 || (s.xfifo (fabricMem die rg m)).width == width) = true := by simpa using hx
  simp only [State.fifoServes, fabricMem_die, fabricMem_region, hc, hd, hmem, hwidth, Bool.not_false, Bool.and_self]

/-- A word enters behind those held (R185). -/
theorem fifoWrite_room {s : State} {mem width : Nat} (data : Nat) {crossed : Nat} (hs : s.fifoServes mem width = true)
    (hi : (s.xfifo mem).initW = false) (hf : (s.xfifo mem).held.length + ((s.xfifo mem).owed - crossed) < fifoDepth width) :
    s.fifoWrite mem width data crossed = s.setXfifo mem { s.xfifo mem with
      owed := (s.xfifo mem).owed - crossed
      width := width
      held := (s.xfifo mem).held ++ [data % 2 ^ width]
      hidden := (s.xfifo mem).hidden + 1 } := by
  have hfull : decide (fifoDepth width ≤ (s.xfifo mem).held.length + ((s.xfifo mem).owed - crossed)) = false := by simpa using hf
  simp only [State.fifoWrite, hs, hi, XFifo.full, hfull, Bool.not_true, Bool.or_self, Bool.false_eq_true, if_false]

/-- The oldest word leaves (R185). -/
theorem fifoRead_word {s : State} {mem crossed v : Nat} {rest : List Nat} (hs : s.fifoServes mem (s.xfifo mem).width = true)
    (hw : (s.xfifo mem).width ≠ 0) (hi : (s.xfifo mem).initR = false) (hv : (s.xfifo mem).held = v :: rest)
    (hh : (s.xfifo mem).hidden - crossed ≤ rest.length) :
    s.fifoRead mem crossed = s.setXfifo mem { s.xfifo mem with
      hidden := (s.xfifo mem).hidden - crossed
      held := rest
      last := v
      owed := (s.xfifo mem).owed + 1 } := by
  have hempty : decide ((v :: rest).length ≤ (s.xfifo mem).hidden - crossed) = false := by
    simp only [List.length_cons, decide_eq_false_iff_not]; omega
  simp only [State.fifoRead, hw, if_false, hs, hi, XFifo.empty, hv, hempty, Bool.not_true, Bool.or_self, Bool.false_eq_true, List.drop_succ_cons,
    List.drop_zero, List.headD_cons]

/-- Settles O21: an access of port A by its store and its stages, the FIFO by its held words. -/
theorem fabricMemoriesKeepWords : Obligations.FabricMemoriesKeepWords := by
  intro s die rg m hc
  refine ⟨fun p he hw ha hd => ?read, fun p he hw h36 haddr hd => ?write, fun width data crossed hd hw hx hi hf => ?push,
    fun crossed v rest hd hw hi hv hh => ?pop, fun hd => ?request, fun hd => ?ackW, fun hd => ?ackR⟩
  case read =>
    have hst : (p.en && p.write) = false := by rw [hw, Bool.and_false]
    have hread : s.portRead (fabricMem die rg m) false p s s = some (s.memWord (fabricMem die rg m) p) := by
      simp only [State.portRead, he, hw, Bool.not_true, Bool.not_false, Bool.false_eq_true, if_false, if_true]
    refine ⟨s.memClock (fabricMem die rg m) 0 (some (s.memWord (fabricMem die rg m) p)), congrArg Host.Outcome.next ?_, rfl,
      (memOut_memClock s 0 _ hd).1, (memOut_memClock s 0 _ hd).2, memOut_memClock_other s _ (by decide)⟩
    rw [memoryAccess_portA hc ha, hst]
    simp only [Bool.false_eq_true, if_false, hread]
  case write =>
    have ha : aspectOk (fabricMem die rg m) false p = true := by simp [aspectOk, hd, h36, haddr]
    have hst : (p.en && p.write) = true := by rw [he, hw]; rfl
    refine ⟨_, congrArg Host.Outcome.next (memoryAccess_portA hc ha), ?_, fun i hi => ?_, fun l hl => ?_⟩
    · obtain ⟨v, hv⟩ := storeLanes_frame s (fabricMem die rg m) (4 * p.addr) p.mask p.data 4
      simp only [hst, if_true, memStore_36 s _ h36, hv]
      rfl
    · simp only [hst, if_true, memStore_36 s _ h36, laneVal_memClock, laneVal_storeLanes, Nat.add_sub_cancel_left]
      exact ite_of_iff (by omega)
    · simp only [hst, if_true, memStore_36 s _ h36, laneVal_memClock, laneVal_storeLanes]
      exact if_neg (by omega)
  case push => exact congrArg Host.Outcome.next (fifoWrite_room data (fifoServes_of hc hd hw hx) hi hf)
  case pop =>
    have hne : (s.xfifo (fabricMem die rg m)).width ≠ 0 := fun h0 => by
      have h : 0 ∈ [9, 18, 36, 72] := h0 ▸ hw
      exact absurd h (by decide)
    exact congrArg Host.Outcome.next (fifoRead_word (fifoServes_of hc hd hw (.inr rfl)) hne hi hv hh)
  case request => exact congrArg Host.Outcome.next (if_neg (by simp [hd]))
  case ackW => exact congrArg Host.Outcome.next (if_neg (by simp [hd]))
  case ackR => exact congrArg Host.Outcome.next (if_neg (by simp [hd]))

/-! ## MAC slices (R189 to R192) -/

/-- What a slice adds its product to (R190). -/
def State.macAddend (s : State) (key slice : Nat) (o : MacOp) : Int :=
  if o.src = 0 then 0 else if o.src = 1 then (s.mac key).acc.toInt else if o.src = 2 then o.w.toInt
    else if slice % 16 = 0 then 0 else (s.mac (key - 1)).acc.toInt

/-- U of a slice: its operand, or by the chain that of the slice below (R192). -/
def State.macU (s : State) (key slice : Nat) (o : MacOp) : BitVec 24 :=
  if o.chain = false then o.u else if slice % 16 = 0 then BitVec.ofNat 24 (s.freeNat 24) else (s.mac (key - 1)).u

/-- What a cycle leaves in the slice. -/
def State.macNext (s : State) (key slice : Nat) (o : MacOp) : Mac :=
  let x := s.mac key
  let p := preAdd o.sel o.shr o.rnd (s.macU key slice o) o.v
  let addend := s.macAddend key slice o
  let sum := fit o.sat (if o.neg then addend - p.1.toInt * o.k.toInt else addend + p.1.toInt * o.k.toInt)
  let out := moveOut o.scl o.rnd o.sat sum.1
  { acc := sum.1, q := out.1, lim := !o.reset && (x.lim || p.2 || out.2), v := !o.reset && (x.v || sum.2), u := s.macU key slice o }

/-- A cycle of a clocked slice changes that slice, and draws where the chain enters the lowest slice of a column. -/
theorem macOperation_eq {s : State} {die rg : Nat} (slice : Nat) (o : MacOp) (hc : s.clocked die rg = true) :
    s.macOperation die rg slice o =
      let key := 256 * (16 * die + rg) + slice
      let t := s.setFabric (fun f => { f with macs := f.macs.set key (s.macNext key slice o) {} })
      if o.chain && decide (slice % 16 = 0) then t.drawn else t := by
  obtain ⟨sel, shr, chain, u, v, k, src, w, neg, scl, rnd, sat, reset⟩ := o
  simp only [State.macOperation, hc, Bool.not_true, Bool.false_eq_true, if_false, State.macNext, State.macU, State.macAddend, decide_eq_true_eq,
    Bool.not_eq_true']
  match src with
  | 0 => rfl
  | 1 => rfl
  | 2 => rfl
  | n + 3 => rfl

/-- Settles O22: the slice by what the cycle leaves in it, the others by the key. -/
theorem macSliceAccumulates : Obligations.MacSliceAccumulates := by
  intro s die rg slice o hc
  have hmacs : ∀ key, (s.setFabric (fun f => { f with macs := f.macs.set key (s.macNext key slice o) {} })).mac key = s.macNext key slice o :=
    fun key => SMap.get_set_self ..
  have hother : ∀ key j, j ≠ key → (s.setFabric (fun f => { f with macs := f.macs.set key (s.macNext key slice o) {} })).mac j = s.mac j :=
    fun key j hj => SMap.get_set_other hj
  refine ⟨_, congrArg Host.Outcome.next (macOperation_eq (slice : Nat) o hc), ?_⟩
  split
  · exact ⟨rfl, hmacs _, hother _⟩
  · exact ⟨rfl, hmacs _, hother _⟩

end Sys2Proof.Machine
end

section
/-!
PROOF. Restore of initial values (R178, R179).
-/
namespace Sys2Proof.Machine

/-- A write of a register of the Loupe unit reaches `loupeWrite`. -/
theorem regWrite_loupeUnit (s : State) {die i o : Nat} (req : Nat) (w : Word) (hi : i < 4096) (ho : o < 0xFF8) :
    (s.touched req (regKey die 0x0F i o)).regWrite (regKey die 0x0F i o) req w = s.loupeWrite die o (regKey die 0x0F i o) w := by
  have h : o < 4096 := by omega
  have h1 : o ≠ 0xFFC := by omega
  have h2 : o ≠ 0xFF8 := by omega
  simp [State.touched, State.regWrite, keyUnit_regKey h hi, keyOff_regKey h, keyDie_regKey h hi, h1, h2]

/-! ## Restore -/

section restore
variable {die : Nat}

/-- The Regions of a list begin to restore. -/
def State.restoreBegin (s : State) (die : Nat) (l : List Nat) : State :=
  l.foldl (fun s r => s.setFabric (fun f => { f with restoring := f.restoring.set (die * 16 + r) true false })) s

theorem restoreBegin_frame (s : State) (l : List Nat) : ∃ v, s.restoreBegin die l = { s with fabric := { s.fabric with restoring := v } } := by
  induction l generalizing s with
  | nil => exact ⟨_, rfl⟩
  | cons r l ih =>
    obtain ⟨v, hv⟩ := ih (s.setFabric (fun f => { f with restoring := f.restoring.set (die * 16 + r) true false }))
    exact ⟨v, hv⟩

theorem restoringRg_restoreBegin (s : State) (l : List Nat) (rg : Nat) :
    (s.restoreBegin die l).restoringRg die rg = (l.contains rg || s.restoringRg die rg) := by
  induction l generalizing s with
  | nil => simp [State.restoreBegin]
  | cons r l ih =>
    refine (ih _).trans ?_
    by_cases h : rg = r
    · subst h
      simp [State.restoringRg, State.setFabric]
    · have hk : die * 16 + rg ≠ die * 16 + r := by omega
      simp [State.restoringRg, State.setFabric, SMap.get_set_other hk, h]

theorem restoreMask_bits (mask : BitVec 16) : wbit (mask.setWidth 32 ||| 0x80000000) 31 = true ∧ wfld (mask.setWidth 32 ||| 0x80000000) 0 16 = mask.toNat ∧
    ∀ rg < 16, wbit (mask.setWidth 32 ||| 0x80000000) rg = mask.getLsbD rg := by
  refine ⟨by simp [wbit], ?_, fun rg h => ?_⟩
  · have h := mask.isLt
    have hn : (mask.setWidth 32 ||| 0x80000000).toNat = mask.toNat + 2 ^ 31 := by
      rw [BitVec.toNat_or, BitVec.toNat_setWidth, Nat.mod_eq_of_lt (by omega)]
      exact (Nat.or_comm _ _).trans (Nat.two_pow_add_eq_or_of_lt (i := 31) (by omega) 1).symm |>.trans (Nat.add_comm _ _)
    unfold wfld
    omega
  · have h31 : ¬(31 = rg) := by omega
    have hz : (0x80000000 : Word).getLsbD rg = false := by
      rw [show (0x80000000 : Word) = BitVec.twoPow 32 31 by decide, BitVec.getLsbD_twoPow]
      simp [h31]
    rw [wbit, BitVec.getLsbD_or, hz, Bool.or_false, BitVec.getLsbD_setWidth]
    simp [show rg < 32 by omega]

/-- A write of LP_RESTORE that names Regions free to restore begins them, but for those in reset (R178, R179). -/
theorem restoreWrite_begins {s : State} {mask : BitVec 16} (hb : s.bit (Reg.LP_RESTORE die) 31 = false)
    (h : ∀ rg : Fin 16, mask.getLsbD rg = true → s.reconfiguring die rg = false ∧ s.restoringRg die rg = false) :
    s.restoreWrite die (mask.setWidth 32 ||| 0x80000000) =
      ((s.wr (Reg.LP_RESTORE die) (mask.setWidth 32 ||| 0x80000000)).restoreBegin die
        (((List.range 16).filter (fun r => wbit (mask.setWidth 32 ||| 0x80000000) r)).filter (fun r => !(s.region die r).reset)), .ok) := by
  obtain ⟨h31, hlow, hbits⟩ := restoreMask_bits mask
  have hfree : ((List.range 16).filter (fun r => wbit (mask.setWidth 32 ||| 0x80000000) r)).any
      (fun r => s.reconfiguring die r || s.restoringRg die r) = false := by
    simp only [List.any_eq_false, List.mem_filter, List.mem_range, Bool.or_eq_true, not_or, Bool.not_eq_true]
    intro r ⟨hr, hm⟩
    exact h ⟨r, hr⟩ ((hbits r hr).symm.trans hm)
  have hword : BitVec.ofNat 32 (mask.toNat + b2n true * 2 ^ 31) = mask.setWidth 32 ||| 0x80000000 := by
    have hm := mask.isLt
    apply BitVec.eq_of_toNat_eq
    rw [BitVec.toNat_or, BitVec.toNat_setWidth, Nat.mod_eq_of_lt (a := mask.toNat) (by omega), BitVec.toNat_ofNat, Nat.mod_eq_of_lt (by simp [b2n]; omega)]
    exact (Nat.add_comm _ _).trans ((Nat.two_pow_add_eq_or_of_lt (i := 31) (by omega) 1).trans (Nat.or_comm _ _))
  simp only [State.restoreWrite, hb, h31, hfree, hlow, hword, Bool.and_false, Bool.not_true, Bool.false_eq_true, if_false]
  rfl

/-- One Region's share in the end of a restore. -/
def State.restoreEnd (s : State) (die r : Nat) : State :=
  if !s.restoringRg die r then s
  else
    let s := s.initialise die r
    let s := s.setFabric (fun f => { f with restoring := f.restoring.set (die * 16 + r) false false })
    if s.isolated die r then s
    else if (s.fabric.loupe.get die {}).waits.contains r then s.setFabric (fun f => { f with loupe := f.loupe.set die { (f.loupe.get die {}) with restored := r :: (f.loupe.get die {}).restored } {} })
    else s.releaseInitial die r

theorem restoreDone_eq (s : State) (die : Nat) :
    s.restoreDone die = ((List.range 16).foldl (fun s r => s.restoreEnd die r) s).setBit (Reg.LP_RESTORE die) 31 false := rfl

/-- What the end of a restore may change. -/
def RestoreFrame (s t : State) : Prop := t = { s with fabric := { s.fabric with
  restoring := t.fabric.restoring
  outs := t.fabric.outs
  ran := t.fabric.ran
  cells := t.fabric.cells
  loupe := t.fabric.loupe } }

theorem RestoreFrame.trans {s t u : State} (h : RestoreFrame s t) (h' : RestoreFrame t u) : RestoreFrame s u := by
  unfold RestoreFrame at *
  rw [h] at h'
  exact h'

theorem restoreEnd_frame (s : State) (die r : Nat) : RestoreFrame s (s.restoreEnd die r) := by
  unfold State.restoreEnd
  split
  · rfl
  · dsimp only
    split
    · rfl
    · split <;> rfl

theorem restoringRg_restoreEnd_self (s : State) (r : Nat) : (s.restoreEnd die r).restoringRg die r = false := by
  have hset : ∀ f : Fabric, (f.restoring.set (die * 16 + r) false false).get (die * 16 + r) false = false := fun f => SMap.get_set_self ..
  unfold State.restoreEnd
  split
  · simpa using ‹(!s.restoringRg die r) = true›
  · dsimp only
    split
    · exact hset _
    · split <;> exact hset _

theorem restoringRg_restoreEnd_other {r r' : Nat} (s : State) (h : r' ≠ r) : (s.restoreEnd die r).restoringRg die r' = s.restoringRg die r' := by
  have hset : (s.fabric.restoring.set (die * 16 + r) false false).get (die * 16 + r') false = s.restoringRg die r' :=
    SMap.get_set_other (by omega)
  unfold State.restoreEnd
  split
  · rfl
  · dsimp only
    split
    · exact hset
    · split <;> exact hset

theorem restoreEnd_foldl (s : State) (l : List Nat) : RestoreFrame s (l.foldl (fun s r => s.restoreEnd die r) s) ∧
    ∀ r, (l.foldl (fun s r => s.restoreEnd die r) s).restoringRg die r = (!l.contains r && s.restoringRg die r) := by
  induction l generalizing s with
  | nil => exact ⟨rfl, fun r => by simp⟩
  | cons a l ih =>
    obtain ⟨hf, hr⟩ := ih (s.restoreEnd die a)
    refine ⟨(restoreEnd_frame s die a).trans hf, fun r => (hr r).trans ?_⟩
    by_cases h : r = a
    · subst h
      simp [restoringRg_restoreEnd_self]
    · simp [restoringRg_restoreEnd_other s h, h]

end restore

/-- Settles O23: the write by the Regions it begins, the end by what it leaves of each Region. -/
theorem restoreBeginsAndEnds : Obligations.RestoreBeginsAndEnds := by
  refine fun s r die mask => ⟨fun ha hb h => ?begins, ?ends⟩
  case begins =>
    have hw := (regWrite_loupeUnit s (die := die) (i := 0) (o := 0x020) r.code (mask.setWidth 32 ||| 0x80000000) (by decide) (by decide)).trans
      (restoreWrite_begins hb h)
    refine ⟨_, congrArg Host.Outcome.next (regAccess_wrote (single_LP_RESTORE die die.isLt) ha hw), ?_, fun rg => ?_⟩
    · obtain ⟨v, hv⟩ := restoreBegin_frame (die := die) (s.wr (Reg.LP_RESTORE die) (mask.setWidth 32 ||| 0x80000000))
        (((List.range 16).filter (fun r => wbit (mask.setWidth 32 ||| 0x80000000) r)).filter (fun r => !(s.region die r).reset))
      rw [hv]
      rfl
    · rw [restoringRg_restoreBegin]
      refine congrArg (· || s.restoringRg die rg) ?_
      rw [← (restoreMask_bits mask).2.2 rg rg.isLt, Bool.eq_iff_iff, List.contains_iff_mem]
      simp [and_comm]
  case ends =>
    obtain ⟨hf, hr⟩ := restoreEnd_foldl (die := die) s (List.range 16)
    refine ⟨s.restoreDone die, rfl, ?_⟩
    rw [restoreDone_eq]
    generalize (List.range 16).foldl (fun s r => s.restoreEnd die r) s = t at hf hr
    refine ⟨bit_setBit_self _ _ _ (by decide), fun rg => (hr rg).trans (by simp), ?_⟩
    rw [RestoreFrame] at hf
    rw [hf]
    rfl

end Sys2Proof.Machine
end

section
/-!
PROOF. Loupe: its triggers, captures, release and readout (R198 to R206).
-/
namespace Sys2Proof.Machine

/-- A field is zero exactly where each of its bits is. -/
theorem wfld_eq_zero_iff {w : Word} {lo n : Nat} : wfld w lo n = 0 ↔ ∀ j < n, wbit w (lo + j) = false := by
  constructor
  · intro h j hj
    have ht := testBit_wfld w lo n j
    rw [h, Nat.zero_testBit] at ht
    simpa [hj] using ht.symm
  · intro h
    refine Nat.eq_of_testBit_eq fun j => ?_
    rw [testBit_wfld, Nat.zero_testBit]
    by_cases hj : j < n
    · simp [h j hj]
    · simp [hj]

section loupe
variable {s : State} {die : Nat}

theorem loupe_setLoupe (s : State) (die : Nat) (x : Loupe) : (s.setLoupe die x).loupe die = x := SMap.get_set_self ..

theorem setLoupe_setLoupe (s : State) (die : Nat) (x y : Loupe) : (s.setLoupe die x).setLoupe die y = s.setLoupe die y := by
  simp [State.setLoupe, State.setFabric, SMap.set_set]

/-- A run with Regions still waiting goes on. -/
theorem loupeHeld_waiting (h : (s.loupe die).waits ≠ []) : s.loupeHeld die = s := if_neg fun h' => h h'.2

/-- A run none of whose Regions waits holds (R201). -/
theorem loupeHeld_done (h : (s.loupe die).state = .pending) (hw : (s.loupe die).waits = []) :
    s.loupeHeld die = s.setLoupe die { s.loupe die with state := .held } := if_pos ⟨h, hw⟩

/-- A trigger that finds Loupe idle arms the Regions of its profile (R199, R202). -/
theorem loupeTrigger_idle {p rank : Nat} {x : DWord} (hp : wbit (s.rd (Reg.LP_PROF die p)) 31 = true) (he : s.bit (Reg.LP_CTL die) 0 = true)
    (ha : s.loupeAllowed = true) (hi : (s.loupe die).state = .idle) (hr : ∀ rg : Fin 16, s.reconfiguring die rg = false)
    (hn : wfld (s.rd (Reg.LP_PROF die p)) 0 16 ≠ 0) :
    s.loupeTrigger die p rank x = (s.setLoupe die { s.loupe die with
      state := .pending
      prof := p
      waits := (List.range 16).filter (fun rg => wbit (s.rd (Reg.LP_PROF die p)) rg)
      from_ := x
      restored := []
      shadows := []
      rank := rank
      took := s.now }, false) := by
  have hnone : ((List.range 16).filter (fun rg => wbit (s.rd (Reg.LP_PROF die p)) rg)).filter (s.reconfiguring die) = [] := by
    simp only [List.filter_eq_nil_iff, List.mem_filter, List.mem_range, Bool.not_eq_true]
    exact fun r hr' => hr ⟨r, hr'.1⟩
  have hsome : (List.range 16).filter (fun rg => wbit (s.rd (Reg.LP_PROF die p)) rg) ≠ [] := by
    intro h
    refine hn (wfld_eq_zero_iff.mpr fun j hj => ?_)
    have hmem := List.filter_eq_nil_iff.mp h j (List.mem_range.mpr hj)
    simpa using hmem
  have hrec : ∀ y : Loupe, (s.setLoupe die y).reconfiguring die = s.reconfiguring die := fun _ => rfl
  have hbeats : (LpState.idle == LpState.pending) = false := rfl
  simp only [State.loupeTrigger, hp, he, ha, hbeats, hi, Bool.not_true, Bool.false_eq_true, if_false, ne_eq, not_true_eq_false, false_and, Bool.false_and]
  rw [hrec, hnone, List.foldl_nil, loupeHeld_waiting (by rw [loupe_setLoupe]; exact hsome)]

/-- What the capture of a Region changes. -/
theorem captureRegion_frame (s : State) (die rg : Nat) (x : DWord) : ∃ c l r d, s.captureRegion die rg x =
    { s with csr := c, fabric := { s.fabric with loupe := l, ran := r, cells := d }, free := s.free + 1 } := by
  unfold State.captureRegion State.drawn State.setBit State.wr State.setLoupe State.setFabric State.releaseInitial State.setFabric
  dsimp only
  split
  · exact ⟨_, _, _, _, rfl⟩
  · exact ⟨_, _, _, _, rfl⟩

/-- The shadow a captured Region leaves (R198). -/
def State.shadowAt (s : State) (die rg : Nat) (x : DWord) : Shadow :=
  { region := 16 * die + rg, prof := (s.loupe die).prof, dt := x, secure := s.boot.secure, flops := s.flopsNow die rg,
    outs := s.fabric.outs.keep (fun k => inRegion die rg (k / 2)), frames := s.framesOf die rg }

theorem loupe_captureRegion (s : State) (die rg : Nat) (x : DWord) : (s.captureRegion die rg x).loupe die =
    { s.loupe die with waits := (s.loupe die).waits.filter (· != rg), shadows := (s.loupe die).shadows.set rg (s.shadowAt die rg x) {} } := by
  have hset : ∀ y : Loupe, (s.fabric.loupe.set die y {}).get die {} = y := fun y => SMap.get_set_self ..
  unfold State.captureRegion
  dsimp only
  split <;> exact hset _

/-- A capture edge of the profile clock that finds one waiting Region captures it, and the run holds (R198, R201). -/
theorem captureEdge_last {k rg : Nat} (hp : (s.loupe die).state = .pending) (hw : (s.loupe die).waits = [rg]) (hx : (s.loupe die).from_ ≤ s.stamp k)
    (hr : s.restoringRg die rg = false) (hc : s.reconfiguring die rg = false)
    (hg : gckMayEdge die (wfld (s.rd (Reg.LP_PROF die (s.loupe die).prof)) 16 5) (wbit (s.rd (Reg.LP_PROF die (s.loupe die).prof)) 21) (s.stamp k) = true) :
    ∃ c, s.captureEdge die k false = State.setLoupe { s.captureRegion die rg (s.stamp k) with csr := c } die
      { (s.captureRegion die rg (s.stamp k)).loupe die with state := .held } := by
  have hgo : ¬((s.loupe die).state ≠ .pending ∨ s.stamp k < (s.loupe die).from_ ∨
      gckMayEdge die (wfld (s.rd (Reg.LP_PROF die (s.loupe die).prof)) 16 5) (wbit (s.rd (Reg.LP_PROF die (s.loupe die).prof)) 21) (s.stamp k) = false) := by
    simp only [hp, hg, ne_eq, not_true_eq_false, Bool.true_eq_false, or_false, false_or]
    exact BitVec.not_lt.mpr hx
  unfold State.captureEdge
  simp only [hgo, if_false, hw, List.filter_cons, hc, Bool.false_eq_true, List.filter_nil, List.foldl_nil, hr, Bool.not_false, if_true, List.foldl_cons]
  have hl := loupe_captureRegion s die rg (s.stamp k)
  generalize s.captureRegion die rg (s.stamp k) = t at hl
  refine ⟨_, loupeHeld_done (s := t.wrPair _ _ _) ?_ ?_⟩
  · show (t.loupe die).state = .pending
    rw [hl]; exact hp
  · show (t.loupe die).waits = []
    rw [hl, hw]; simp

/-- A Region that is not captured leaves the run, with `nocap` in its shadow (R201). -/
theorem loupe_noCapture (s : State) (die rg : Nat) : (s.noCapture die rg).loupe die =
    { s.loupe die with
      waits := (s.loupe die).waits.filter (· != rg)
      shadows := (s.loupe die).shadows.set rg { region := 16 * die + rg, prof := (s.loupe die).prof, nocap := true, secure := s.boot.secure } {} } := by
  have hset : ∀ y : Loupe, (s.fabric.loupe.set die y {}).get die {} = y := fun y => SMap.get_set_self ..
  unfold State.noCapture
  dsimp only
  split <;> split <;> exact hset _

theorem bit_noCapture (s : State) (die : Nat) {rg : Nat} (h : rg < 16) : (s.noCapture die rg).bit (Reg.LP_NOCAP die) rg = true := by
  have hcsr : (s.noCapture die rg).csr = (s.setBit (Reg.LP_NOCAP die) rg true).csr := by
    unfold State.noCapture
    dsimp only
    split <;> split <;> rfl
  rw [State.bit, State.rd, hcsr]
  exact bit_setBit_self s (Reg.LP_NOCAP die) true (by omega)

end loupe

/-! ## Commands of LP_CMD (R201, R205) -/

section commands
variable {s : State} {r : Requester} {die : Fin 4}

theorem regAccess_LP_CMD {t : State} {w : Word} (ha : s.admits r (Reg.LP_CMD die) true = true) (h : s.lpCmdWrite die w = (t, .ok)) :
    s.regAccess r (Reg.LP_CMD die) w = t.wrote r (Reg.LP_CMD die) :=
  regAccess_wrote (single_LP_CMD die die.isLt) ha ((regWrite_loupeUnit s _ w (by decide) (by decide)).trans h)

theorem lpGo_fields (prof : Fin 16) : wfld (BitVec.ofNat 32 (prof + 0x100)) 0 4 = prof ∧ wbit (BitVec.ofNat 32 (prof + 0x100)) 8 = true ∧
    wbit (BitVec.ofNat 32 (prof + 0x100)) 9 = false ∧ wbit (BitVec.ofNat 32 (prof + 0x100)) 10 = false := by
  revert prof; decide

theorem lpCmdWrite_go (s : State) (die : Nat) (prof : Fin 16) : s.lpCmdWrite die (BitVec.ofNat 32 (prof + 0x100)) =
    (((s.wr (Reg.LP_CMD die) (BitVec.ofNat 32 prof)).loupeTrigger die prof 2 s.now).1, .ok) := by
  obtain ⟨h0, h8, h9, h10⟩ := lpGo_fields prof
  simp only [State.lpCmdWrite, h0, h8, h9, h10, Bool.false_eq_true, if_false, if_true]
  rfl

theorem lpCmdWrite_release (s : State) (die : Nat) : s.lpCmdWrite die 0x200 = ((s.wr (Reg.LP_CMD die) 0).loupeRelease die, .ok) := rfl

theorem lpCmdWrite_readout (s : State) (die : Nat) : s.lpCmdWrite die 0x400 = (s.wr (Reg.LP_CMD die) 0).loupeReadout die := rfl

end commands

/-! ## Readout (R205) -/

/-- A readout of no captured Region ends as soon as it is at the front of the configuration port. -/
theorem readoutDone_none {s : State} {die : Nat} (hs : (s.loupe die).state = .readout) (hp : (s.live.ports.get die []).head? = some .readout)
    (hnil : (List.range 16).filter (fun r => s.bit (Reg.LP_NOCAP die) (16 + r)) = []) :
    ∃ p, s.readoutDone die = State.setLoupe { s with
      power := p
      live := { s.live with ports := s.live.ports.set die ((s.live.ports.get die []).drop 1) [] } } die { s.loupe die with state := .held } := by
  have hgo : ¬((s.loupe die).state ≠ .readout ∨ (s.live.ports.get die []).head? ≠ some PortJob.readout) := by simp [hs, hp]
  unfold State.readoutDone
  simp only [hgo, if_false, hnil, List.length_nil, State.takeUnits, Nat.zero_mul, Nat.zero_add, show (4095 / 4096 : Nat) = 0 by decide, Nat.zero_le,
    if_true, Bool.not_true, Bool.false_eq_true, List.foldl_nil]
  exact ⟨_, rfl⟩

/-- Settles O24: each trigger, edge and command by what it leaves of the run. -/
theorem loupeRuns : Obligations.LoupeRuns := by
  refine fun s r die => ⟨fun prof ha hp he hl hi hr hn => ?go, fun k rg hp hw hx hr h16 hc hg => ?edge, fun rg hh hp hw => ?timeout, fun ha hs => ?release,
    fun ha hs hl hq => ?readout, fun hs hp hn => ?done⟩
  case go =>
    refine congrArg Host.Outcome.next (regAccess_LP_CMD ha ((lpCmdWrite_go s die prof).trans (congrArg (·, Resp.ok) ?_)))
    have h1 : Reg.LP_PROF die prof ≠ Reg.LP_CMD die := by
      have h : ∀ d : Fin 4, ∀ p : Fin 16, Reg.LP_PROF d p ≠ Reg.LP_CMD d := by decide
      exact h die prof
    have h2 : Reg.LP_CTL die ≠ Reg.LP_CMD die := by
      have h : ∀ d : Fin 4, Reg.LP_CTL d ≠ Reg.LP_CMD d := by decide
      exact h die
    have hprof : (s.wr (Reg.LP_CMD die) (BitVec.ofNat 32 prof)).rd (Reg.LP_PROF die prof) = s.rd (Reg.LP_PROF die prof) := rd_wr_other h1
    have hctl : (s.wr (Reg.LP_CMD die) (BitVec.ofNat 32 prof)).bit (Reg.LP_CTL die) 0 = s.bit (Reg.LP_CTL die) 0 :=
      congrArg (wbit · 0) (rd_wr_other h2)
    rw [loupeTrigger_idle (s := s.wr (Reg.LP_CMD die) (BitVec.ofNat 32 prof)) (hprof.symm ▸ hp) (hctl.symm ▸ he) hl hi hr (hprof.symm ▸ hn), hprof]
    rfl
  case edge =>
    obtain ⟨c, hedge⟩ := captureEdge_last hp hw hx hr hc hg
    have hl := loupe_captureRegion s die rg (s.stamp k)
    refine ⟨_, congrArg Host.Outcome.next hedge, ?_⟩
    rw [loupe_setLoupe, hl, hw]
    refine ⟨rfl, by simp, ?_, ?_, ?_⟩
    · exact congrArg Shadow.dt (SMap.get_set_self ..)
    · exact congrArg Shadow.nocap (SMap.get_set_self ..)
    · obtain ⟨c', l, ran, cells, hf⟩ := captureRegion_frame s die rg (s.stamp k)
      rw [hf]
      rfl
  case timeout =>
    have hgo : ¬((s.loupe die).state ≠ .pending ∨ s.clk.hold = true) := by simp [hp, hh]
    have hl := loupe_noCapture s die rg
    have hend : s.captureTimeout die = (s.noCapture die rg).setLoupe die { (s.noCapture die rg).loupe die with state := .held } := by
      simp only [State.captureTimeout, hgo, if_false, hw, List.foldl_cons, List.foldl_nil]
      exact loupeHeld_done (by rw [hl]; exact hp) (by rw [hl, hw]; simp)
    refine ⟨_, congrArg Host.Outcome.next hend, ?_⟩
    rw [loupe_setLoupe, hl, hw]
    exact ⟨rfl, by simp, congrArg Shadow.nocap (SMap.get_set_self ..), fun h => bit_noCapture s die h⟩
  case release =>
    have hrel : (s.wr (Reg.LP_CMD die) 0).loupeRelease die = (State.setLoupe { s.wr (Reg.LP_CMD die) 0 with
        live := { s.live with ports := s.live.ports.set die ((s.live.ports.get die []).filter (· != PortJob.readout)) [] } } die
          { due := (s.loupe die).due }).wr (Reg.LP_NOCAP die) 0 := if_pos (.inl hs)
    exact ⟨_, congrArg Host.Outcome.next (regAccess_LP_CMD ha ((lpCmdWrite_release s die).trans (congrArg (·, Resp.ok) hrel))),
      SMap.get_set_self .., rd_wr_self ..⟩
  case readout =>
    have hkey : Reg.LP_QRD die ≠ Reg.LP_CMD die := by
      have h : ∀ d : Fin 4, Reg.LP_QRD d ≠ Reg.LP_CMD d := by decide
      exact h die
    have hq' : (s.wr (Reg.LP_CMD die) 0).fld (Reg.LP_QRD die) 0 13 = s.fld (Reg.LP_QRD die) 0 13 := congrArg (wfld · 0 13) (rd_wr_other hkey)
    have hall : (s.wr (Reg.LP_CMD die) 0).loupeAllowed = true := hl
    have hst : ((s.wr (Reg.LP_CMD die) 0).loupe die).state = .held := hs
    have hqs : ((s.wr (Reg.LP_CMD die) 0).queue (s.fld (Reg.LP_QRD die) 0 13)).state ≠ .disabled := hq
    have hread : (s.wr (Reg.LP_CMD die) 0).loupeReadout die = (State.setLoupe { s.wr (Reg.LP_CMD die) 0 with
        live := { s.live with ports := s.live.ports.set die (s.live.ports.get die [] ++ [PortJob.readout]) [] } } die
          { s.loupe die with state := .readout, queue := s.fld (Reg.LP_QRD die) 0 13 }, .ok) := by
      simp only [State.loupeReadout, hq', hall, hst, hqs, Bool.not_true, Bool.false_eq_true, if_false, ne_eq, not_true_eq_false]
      rfl
    exact ⟨_, congrArg Host.Outcome.next (regAccess_LP_CMD ha ((lpCmdWrite_readout s die).trans hread)), loupe_setLoupe ..,
      SMap.get_set_self ..⟩
  case done =>
    have hnil : (List.range 16).filter (fun r => s.bit (Reg.LP_NOCAP die) (16 + r)) = [] := by
      simp only [List.filter_eq_nil_iff, List.mem_range, Bool.not_eq_true]
      exact fun i hi => wfld_eq_zero_iff.mp hn i hi
    obtain ⟨p, hdone⟩ := readoutDone_none hs hp hnil
    refine ⟨_, congrArg Host.Outcome.next hdone, congrArg Loupe.state (loupe_setLoupe ..), ?_⟩
    exact (SMap.get_set_self ..).trans List.drop_one

end Sys2Proof.Machine
end

section
/-!
PROOF. Modules between dies and the loss and return of dies (R22, R41, R43, R44, R303).
-/
namespace Sys2Proof.Machine

/-! ## A training limit in CLOCK_HOLD (R423) -/

/-- A device in CLOCK_HOLD whose dies FD0 and FD1 were in service, with every module in training. -/
def heldInTraining : State :=
  { State.reset with
    clk := { State.reset.clk with hold := true }
    boot := { State.reset.boot with ready := [(0, true), (1, true)] } }

/-- In CLOCK_HOLD no cut of the module between FD0 and FD1 is judged: both dies were ready, and no die is lost. -/
theorem cutsJudged_held {t : State} (hh : t.clk = heldInTraining.clk) (hb : t.boot = heldInTraining.boot) (hd : t.dies = heldInTraining.dies) :
    t.cutsJudged 0 = t := by
  have h0 : t.checkIsolated 0 = t := if_pos (.inr (.inr (.inr (by rw [hb]; rfl))))
  have h1 : t.checkIsolated 1 = t := if_pos (.inr (.inr (.inr (by rw [hb]; rfl))))
  have hcut : t.loseCutOff = t := if_pos (by rw [hh]; rfl)
  have hlost : ∀ d, t.dieLost d = false := fun d => by unfold State.dieLost State.dieState; rw [hd]; rfl
  have hends : moduleEnds2 0 = (0, 1) := rfl
  simp only [State.cutsJudged, hends, h0, h1, hcut]
  exact List.foldlRecOn _ _ (motive := fun u => u = t) rfl fun u hu d _ => by rw [hu, hlost]; rfl

theorem cutOff_lateMissing_held {t : State} (hb : t.boot = heldInTraining.boot) : t.cdCutOff.lateMissing = t := by
  have hcut : t.cdCutOff = t := if_neg (by rw [hb]; exact fun h => absurd h.1 (by decide))
  rw [hcut]
  exact if_neg (by rw [hb]; decide)

/-- Refutes O25: the training limit stands still in CLOCK_HOLD (R423), so there both ends stay in training; the clause about a training
that runs out of time does not exclude a hold, as the one about lost heartbeats does. -/
theorem not_modulesTrainAndFail : ¬ Obligations.ModulesTrainAndFail := by
  intro h
  obtain ⟨-, htimeout, -⟩ := h heldInTraining 0
  obtain ⟨t, hexec, hframe, hstate, -⟩ := htimeout (by decide) (by decide)
  have hb : t.boot = heldInTraining.boot := by rw [hframe]
  have hstay : exec (.trainingTimeout 0) heldInTraining = .next heldInTraining :=
    congrArg Host.Outcome.next (cutOff_lateMissing_held (t := heldInTraining) rfl)
  have hsame : heldInTraining = t := by
    refine (Host.Outcome.next.inj (hstay.symm.trans hexec)).trans ?_
    show (t.cutsJudged 0).cdCutOff.lateMissing = t
    rw [cutsJudged_held (by rw [hframe]) hb (by rw [hframe]), cutOff_lateMissing_held hb]
  rw [← hsame] at hstate
  exact absurd hstate (by decide)

/-! ## Loss of a die (R41) -/

/-- What a lost link leaves alone. -/
structure LinkKept (s t : State) : Prop where
  dies : t.dies = s.dies
  pins : t.pins = s.pins
  boot : t.boot = s.boot

theorem LinkKept.linkLoss {s t : State} (h : LinkKept s t) (i : Nat) : LinkKept s (t.linkLoss i) := by
  have hgo : ∀ (u : State) (st : DomState), LinkKept s u → LinkKept s (u.domGo i st) := by
    intro u st hu
    unfold State.domGo
    dsimp only
    split
    · exact hu
    · exact ⟨hu.dies, hu.pins, hu.boot⟩
  unfold State.linkLoss
  dsimp only
  split
  · split
    · exact hgo _ _ ⟨h.dies, h.pins, h.boot⟩
    · exact hgo _ _ ⟨h.dies, h.pins, h.boot⟩
  · exact ⟨h.dies, h.pins, h.boot⟩

theorem LinkKept.upstreamLost {s t : State} (h : LinkKept s t) : LinkKept s t.upstreamLost := by
  have halign : LinkKept s (if t.plRole = 2 then t.setAlign .hold else t) := by
    split
    · exact ⟨h.dies, h.pins, h.boot⟩
    · exact h
  unfold State.upstreamLost
  split
  · exact halign
  · exact halign
  · exact halign
  · exact h

theorem LinkKept.portDown {s t : State} (h : LinkKept s t) (p : Nat) : LinkKept s (t.portDown p) := by
  unfold State.portDown
  dsimp only
  split
  · refine LinkKept.upstreamLost ?_
    exact List.foldlRecOn _ _ (motive := LinkKept s) ⟨h.dies, h.pins, h.boot⟩ fun u hu i _ => hu.linkLoss i
  · exact ⟨h.dies, h.pins, h.boot⟩

theorem portsOfLostDie_kept (s : State) (die : Nat) : LinkKept s (s.portsOfLostDie die) := by
  refine List.foldlRecOn _ _ (motive := LinkKept s) ⟨rfl, rfl, rfl⟩ fun u hu p _ => ?_
  split
  · exact hu.portDown p
  · exact hu

/-- A die in service that is lost: its state, its pins, and the record (R41). -/
theorem loseDie_inService {s : State} {die : Nat} (hd : die < 4) (h : s.dieLost die = false) :
    ∃ u : State, s.loseDie die = (u.flag Reg.DIE_DEVT die).raise 5 0x0003 die 0x00 0 ∧ u.dies = s.dies.set die 1 0 ∧ u.boot = s.boot ∧
      u.pins.safe.die.get die false = true := by
  have hgo : ¬(4 ≤ die ∨ s.dieState die = 1 ∨ s.dieState die = 2 ∨ s.dieState die = 4) := by
    simp only [State.dieLost, Bool.or_eq_false_iff, beq_eq_false_iff_ne, ne_eq] at h
    obtain ⟨⟨h1, h2⟩, h4⟩ := h
    omega
  obtain ⟨m, hm⟩ := withStates_pads (s.setDie die 1) [die]
    (fun s => { s with pins := { s.pins with safe := { s.pins.safe with die := s.pins.safe.die.set die true false } } })
  have hk := portsOfLostDie_kept ((s.setDie die 1).withStates [die]
    (fun s => { s with pins := { s.pins with safe := { s.pins.safe with die := s.pins.safe.die.set die true false } } })) die
  refine ⟨_, if_neg hgo, hk.dies.trans ?_, hk.boot.trans ?_, ?_⟩
  · rw [hm]; rfl
  · rw [hm]; rfl
  · refine (congrArg (fun p : Pins => p.safe.die.get die false) hk.pins).trans ?_
    rw [hm]
    exact SMap.get_set_self s.pins.safe.die die true false

/-! ## Rejoin (R44) -/

section rejoin
variable {die : Nat}

theorem setModState_frame (s : State) (d m st : Nat) : ∃ c, s.setModState d m st = { s with csr := c } := ⟨_, rfl⟩

theorem modState_setModState (s : State) {d d' m m' st : Nat} (hm : m < 4096) (hm' : m' < 4096) (h : st < 16) :
    (s.setModState d m st).modState d' m' = if d' = d ∧ m' = m then st else s.modState d' m' := by
  by_cases hk : Reg.D2D_STAT d' m' = Reg.D2D_STAT d m
  · have hd : d' = d := by
      have := congrArg keyDie hk
      rwa [Reg.D2D_STAT, Reg.D2D_STAT, keyDie_regKey (by decide) hm' (by decide), keyDie_regKey (by decide) hm (by decide)] at this
    have hi : m' = m := by
      have := congrArg keyInst hk
      rwa [Reg.D2D_STAT, Reg.D2D_STAT, keyInst_regKey (by decide) hm', keyInst_regKey (by decide) hm] at this
    subst hd hi
    rw [if_pos ⟨rfl, rfl⟩, State.modState, State.setModState]
    exact (fld_setFld_other _ _ _ (by decide) (by decide)).trans ((fld_setFld_other _ _ _ (by decide) (by decide)).trans
      ((fld_setFld_self _ _ _ (by decide)).trans (Nat.mod_eq_of_lt h)))
  · have hne : ¬(d' = d ∧ m' = m) := fun h => hk (by rw [h.1, h.2])
    rw [if_neg hne, State.modState, State.setModState, State.modState]
    simp only [State.fld, State.setFld, rd_wr_other hk]

/-- One module of a rejoining die goes back to training, at its own end and at that of a peer in service. -/
def State.rejoinModule (s : State) (die m : Nat) : State :=
  [die, peerOf m die].foldl (fun s d => if d ≠ die ∧ s.dieLost d then s else s.setModState d m 1) s

theorem rejoinModule_dies (s : State) (m : Nat) : (s.rejoinModule die m).dies = s.dies := by
  unfold State.rejoinModule
  simp only [List.foldl_cons, List.foldl_nil, ne_eq, not_true_eq_false, false_and, if_false]
  split <;> rfl

theorem modState_rejoinModule (s : State) {m m' : Nat} (hm : m < 4096) (hm' : m' < 4096) :
    (s.rejoinModule die m).modState die m' = if m' = m then 1 else s.modState die m' := by
  unfold State.rejoinModule
  simp only [List.foldl_cons, List.foldl_nil, ne_eq, not_true_eq_false, false_and, if_false]
  have hown : (s.setModState die m 1).modState die m' = if m' = m then 1 else s.modState die m' := by
    rw [modState_setModState s hm hm' (by decide)]
    simp only [true_and]
  split
  · exact hown
  · rw [modState_setModState _ hm hm' (by decide), hown]
    by_cases h : m' = m
    · simp only [h, if_true, ite_self]
    · simp only [h, and_false, if_false]

theorem rejoinModules (s : State) {l : List Nat} (hl : ∀ m ∈ l, m < 4096) :
    (l.foldl (fun s m => s.rejoinModule die m) s).dies = s.dies ∧
      ∀ m < 4096, (l.foldl (fun s m => s.rejoinModule die m) s).modState die m = if m ∈ l then 1 else s.modState die m := by
  induction l generalizing s with
  | nil => exact ⟨rfl, fun m _ => by simp⟩
  | cons a l ih =>
    obtain ⟨hd, hm⟩ := ih (s.rejoinModule die a) (fun m h => hl m (.tail _ h))
    refine ⟨hd.trans (rejoinModule_dies s a), fun m h => (hm m h).trans ?_⟩
    rw [modState_rejoinModule s (hl a (.head _)) h]
    by_cases ha : m = a <;> by_cases hb : m ∈ l <;> simp [ha, hb]

end rejoin

/-! ## The reload of a rejoining die (R44 step 5) -/

section reload
variable {die : Nat}

theorem dies_foldl {α : Type} (f : State → α → State) (hf : ∀ s a, (f s a).dies = s.dies) (l : List α) (s : State) : (l.foldl f s).dies = s.dies :=
  List.foldlRecOn l f (motive := fun t => t.dies = s.dies) rfl fun t ht a _ => (hf t a).trans ht

theorem dies_facetImage (s : State) (off : Nat) (data : List Byte) : (s.facetImage die off data).dies = s.dies := by
  refine dies_foldl _ (fun s i => ?_) _ s
  unfold State.facetImage8
  dsimp only
  repeat' split
  all_goals rfl

theorem dies_writeLoad (s : State) (rg : Nat) (segs : List Segment) (crc : Nat) : (s.writeLoad die rg segs crc).dies = s.dies := by
  have hframes : ∀ u : State, (u.newFrames die rg crc).dies = u.dies := fun _ => rfl
  refine (hframes _).trans (dies_foldl _ (fun s g => ?_) _ s)
  unfold State.loadSegment
  split
  · exact dies_facetImage s _ _
  · rfl
  · rfl

theorem dies_stopFacets (s : State) (rg : Nat) (b : Bool) : (s.stopFacets die rg b).dies = s.dies := by
  unfold State.stopFacets
  exact List.foldlRecOn _ _ (motive := fun t : State => t.dies = s.dies) rfl fun t ht k _ => ht

theorem dies_takeDown (s : State) (rg : Nat) : (s.takeDown die rg).dies = s.dies := by
  unfold State.takeDown
  have hempty : ∀ u : State, (u.emptyReady die rg).dies = u.dies := fun _ => rfl
  rw [hempty, dies_stopFacets]

theorem dies_enableFacet (s : State) (p : Nat) : (s.enableFacet die p).dies = s.dies := by
  have hrest : ∀ f, (s.facetRest die p f).dies = s.dies := fun f => by
    unfold State.facetRest
    dsimp only
    repeat' split
    all_goals rfl
  unfold State.enableFacet
  dsimp only
  split
  · exact hrest _
  · exact hrest _
  · rfl

/-- A Region takes the image its library entry names, if that is valid. -/
def State.reloadImage (s : State) (die rg : Nat) : State :=
  let n := s.fld (libKey die rg) 0 8
  let x := s.libEntry n
  if s.libValid die rg then (s.writeLoad die rg x.segs x.crc).setRegion die rg { s.region die rg with entry := n } else s

/-- The share of one Region in the reload of its die. -/
def State.reloadRegion (s : State) (die rg : Nat) : State :=
  let s := s.reloadImage die rg
  if s.libHeld die rg then (s.takeDown die rg).setRegion die rg { s.region die rg with state := .offline }
  else (List.range 17).foldl (fun s j => s.enableFacet die (17 * rg + j)) (s.releaseInitial die rg)

theorem dies_setRegion (s : State) (rg : Nat) (x : Region) : (s.setRegion die rg x).dies = s.dies := rfl

theorem dies_reloadImage (s : State) (rg : Nat) : (s.reloadImage die rg).dies = s.dies := by
  unfold State.reloadImage
  dsimp only
  split
  · rw [dies_setRegion, dies_writeLoad]
  · rfl

theorem dies_reloadRegion (s : State) (rg : Nat) : (s.reloadRegion die rg).dies = s.dies := by
  have hrelease : ∀ u : State, (u.releaseInitial die rg).dies = u.dies := fun _ => rfl
  unfold State.reloadRegion
  dsimp only
  split
  · rw [dies_setRegion, dies_takeDown, dies_reloadImage]
  · rw [dies_foldl _ (fun s j => dies_enableFacet s (17 * rg + j)), hrelease, dies_reloadImage]

/-- A reload whose base configuration holds nothing leaves the states of the dies alone. -/
theorem dies_reloadDie {s : State} (h : (s.libEntry (252 + die)).segs = []) : (s.reloadDie die).dies = s.dies := by
  have hregions : s.reloadDie die = (List.range 16).foldl (fun s rg => s.reloadRegion die rg) s := by
    unfold State.reloadDie
    simp only [h, List.filter_nil, List.flatMap_nil, List.foldl_nil]
    rfl
  rw [hregions]
  exact dies_foldl _ (fun s rg => dies_reloadRegion s rg) _ s

theorem dies_lockedSetup (s : State) : (s.lockedSetup die).dies = s.dies := by
  refine dies_foldl _ (fun s e => ?_) _ s
  dsimp only
  split <;> rfl

theorem routesBack_frame (s : State) : ∃ n, s.routesBack = { s with net := n } := by
  refine List.foldlRecOn _ _ (motive := fun t : State => ∃ n, t = { s with net := n }) ⟨_, rfl⟩ fun t ht a _ => ?_
  refine List.foldlRecOn _ _ (motive := fun t : State => ∃ n, t = { s with net := n }) ht fun u hu b _ => ?_
  obtain ⟨n, rfl⟩ := hu
  split
  · exact ⟨_, rfl⟩
  · exact ⟨n, rfl⟩

end reload

/-- A record made with a die's event flag. -/
theorem flag_raise_last (u : State) {i : Nat} (sev code die : Nat) (hi : i < 32) :
    ((u.flag Reg.DIE_DEVT i).raise sev code die 0x00 0).bit Reg.DIE_DEVT i = true ∧
      ((u.flag Reg.DIE_DEVT i).raise sev code die 0x00 0).raised.getLast?.map (fun e => (e.sev, e.code, e.die)) = some (sev, code, die) :=
  ⟨bit_setBit_self u Reg.DIE_DEVT true hi, congrArg (Option.map _) List.getLast?_concat⟩

/-- A rejoining die that reaches HD is ready: reloaded, deskewed, and recorded (R44). -/
theorem dieReady_rejoined {s : State} {die : Nat} (hd : die < 4) (hs : s.dieState die = 2) (hr : s.reaches die 4 = true) :
    ∃ u : State, s.dieReady die = (u.flag Reg.DIE_DEVT (4 + die)).raise 3 0x0004 die 0x00 0 ∧ u.boot.ready.get die false = true ∧
      u.spine.deskewed.get die false = true ∧ u.dies = (((s.setDie die 3).reloadDie die).lockedSetup die).dies := by
  have hgo : ¬(4 ≤ die ∨ s.dieState die ≠ 2 ∨ (!s.reaches die 4) = true) := by simp [hr, hs, hd]
  unfold State.dieReady
  rw [if_neg hgo]
  generalize ((s.setDie die 3).reloadDie die).lockedSetup die = v
  obtain ⟨n, hn⟩ := routesBack_frame { v.setBoot (fun b => { b with ready := b.ready.set die true false }) with
    spine := { v.spine with deskewed := v.spine.deskewed.set die true false } }
  refine ⟨_, congrArg (fun u : State => (u.flag Reg.DIE_DEVT (4 + die)).raise 3 0x0004 die 0x00 0) hn, ?_, ?_, rfl⟩
  · exact SMap.get_set_self v.boot.ready die true false
  · exact SMap.get_set_self v.spine.deskewed die true false

/-! ## Failover (R41, R303) -/

section failover
variable {s : State}

/-- Whether the routers between two dies take the failover route. -/
def State.takesFailover (s : State) (a b : Nat) : Bool :=
  a != b && ((!s.pathOk a (paths a b).1 && s.pathOk a (paths a b).2) || (s.flowsAway a b && s.onFailover a b))

/-- The routers of the pair switch. -/
def State.switchPair (s : State) (a b : Nat) : State :=
  { s with net := { s.net with failover := s.net.failover.set (8 * a + b) (s.takesFailover a b) false } }

/-- The routers of one die switch toward each other die. -/
def State.switchRow (s : State) (a : Nat) : State := (List.range 5).foldl (fun s b => s.switchPair a b) s

theorem failoverSwitch_eq (s : State) : s.failoverSwitch = ((List.range 5).foldl (fun s a => s.switchRow a) s).flowsSettle := rfl

/-- The routes in use may differ, nothing else. -/
def SameButRoutes (s t : State) : Prop := t = { s with net := { s.net with failover := t.net.failover } }

theorem SameButRoutes.trans {s t u : State} (h : SameButRoutes s t) (h' : SameButRoutes t u) : SameButRoutes s u := by
  unfold SameButRoutes at *
  rw [h] at h'
  exact h'

theorem pathOk_csr {s t : State} (h : t.csr = s.csr) (a : Nat) (l : List Nat) : t.pathOk a l = s.pathOk a l := by
  induction l generalizing a with
  | nil => rfl
  | cons b l ih =>
    simp only [State.pathOk, ih]
    refine congrArg (· && s.pathOk b l) ?_
    unfold State.linkOk State.fld State.rd
    rw [h]

theorem takesFailover_congr {s t : State} (h : SameButRoutes s t) {a b : Nat} (ho : t.onFailover a b = s.onFailover a b) :
    t.takesFailover a b = s.takesFailover a b := by
  have hcsr : t.csr = s.csr := by rw [h]
  have hflows : t.flowsAway a b = s.flowsAway a b := by unfold State.flowsAway; rw [h]
  simp only [State.takesFailover, pathOk_csr hcsr, hflows, ho]

theorem onFailover_switchPair (s : State) {a b a' b' : Nat} (hb : b < 5) (hb' : b' < 5) :
    (s.switchPair a b).onFailover a' b' = if a' = a ∧ b' = b then s.takesFailover a b else s.onFailover a' b' := by
  by_cases h : a' = a ∧ b' = b
  · rw [if_pos h, h.1, h.2]
    exact SMap.get_set_self ..
  · rw [if_neg h]
    exact SMap.get_set_other (by omega)

/-- The pairs of one die switch, each by what it found. -/
theorem switchPairs_row (s : State) (a : Nat) {l : List Nat} (hn : l.Nodup) (hl : ∀ b ∈ l, b < 5) :
    SameButRoutes s (l.foldl (fun s b => s.switchPair a b) s) ∧ ∀ a' b', b' < 5 →
      (l.foldl (fun s b => s.switchPair a b) s).onFailover a' b' = if a' = a ∧ b' ∈ l then s.takesFailover a b' else s.onFailover a' b' := by
  induction l generalizing s with
  | nil => exact ⟨rfl, fun a' b' _ => by simp⟩
  | cons b l ih =>
    obtain ⟨hnot, hn⟩ := List.nodup_cons.mp hn
    have hb := hl b (.head _)
    have hfirst : SameButRoutes s (s.switchPair a b) := rfl
    obtain ⟨hs, ho⟩ := ih (s.switchPair a b) hn (fun x h => hl x (.tail _ h))
    refine ⟨hfirst.trans hs, fun a' b' hb' => (ho a' b' hb').trans ?_⟩
    rw [onFailover_switchPair s hb hb']
    by_cases ha : a' = a
    · by_cases hm : b' ∈ l
      · have hne : b' ≠ b := fun h => hnot (h ▸ hm)
        have hkeep : (s.switchPair a b).onFailover a b' = s.onFailover a b' := by
          rw [onFailover_switchPair s hb hb']; simp [hne]
        simp [ha, hm, takesFailover_congr hfirst hkeep]
      · by_cases hbb : b' = b
        · subst hbb; simp [ha, hnot]
        · simp [hm, hbb]
    · simp [ha]

theorem switchRow_spec (s : State) (a : Nat) : SameButRoutes s (s.switchRow a) ∧ ∀ a' b, b < 5 →
    (s.switchRow a).onFailover a' b = if a' = a then s.takesFailover a b else s.onFailover a' b := by
  obtain ⟨hs, ho⟩ := switchPairs_row s a (List.nodup_range (n := 5)) (fun b h => List.mem_range.mp h)
  exact ⟨hs, fun a' b hb => (ho a' b hb).trans (ite_of_iff (by simp [hb]))⟩

/-- The pairs of several dies switch. -/
theorem switchPairs_all (s : State) {l : List Nat} (hn : l.Nodup) :
    SameButRoutes s (l.foldl (fun s a => s.switchRow a) s) ∧ ∀ a b, b < 5 →
      (l.foldl (fun s a => s.switchRow a) s).onFailover a b =
        if a ∈ l then s.takesFailover a b else s.onFailover a b := by
  induction l generalizing s with
  | nil => exact ⟨rfl, fun a b _ => by simp⟩
  | cons a l ih =>
    obtain ⟨hnot, hn⟩ := List.nodup_cons.mp hn
    obtain ⟨hrow, hro⟩ := switchRow_spec s a
    obtain ⟨hs, ho⟩ := ih (s.switchRow a) hn
    rw [List.foldl_cons]
    refine ⟨hrow.trans hs, fun a' b hb => (ho a' b hb).trans ?_⟩
    rw [hro a' b hb]
    by_cases hm : a' ∈ l
    · have hne : a' ≠ a := fun h => hnot (h ▸ hm)
      have hkeep : (s.switchRow a).onFailover a' b = s.onFailover a' b := by
        rw [hro a' b hb]; simp [hne]
      simp [hm, takesFailover_congr hrow hkeep]
    · by_cases haa : a' = a
      · subst haa; simp [hm]
      · simp [hm, haa]

end failover

/-- Settles O26: loss, rejoin and readiness by what each leaves of the die, the failover switch pair by pair. -/
theorem diesLeaveAndReturn : Obligations.DiesLeaveAndReturn := by
  intro s die
  have hd : (die : Nat) < 4 := die.isLt
  refine ⟨fun hs hl => ?loss, fun hd' hc => ?rejoin, fun hs hr => ?ready, ?failover⟩
  case loss =>
    obtain ⟨u, hu, hdies, hboot, hsafe⟩ := loseDie_inService hd hl
    have hlate : (s.loseDie die).lateMissing = s.loseDie die := if_neg (by
      rw [hu]
      show ¬(u.boot.stream = true)
      rw [hboot, hs]
      decide)
    refine ⟨_, congrArg Host.Outcome.next (hlate.trans hu), ?_, hsafe, bit_setBit_self _ _ _ (by omega), ?_⟩
    · refine (congrArg (SMap.get · die 0) hdies).trans ?_
      exact SMap.get_set_self ..
    · exact congrArg (Option.map _) List.getLast?_concat
  case rejoin =>
    have hgo : ¬(4 ≤ (die : Nat) ∨ (s.dieState die ≠ 1 ∧ s.dieState die ≠ 4) ∨ s.clk.copies.any (fun c => c.1 == (die : Nat))) := by
      rw [hc]
      simp only [Bool.false_eq_true, or_false]
      omega
    have hlt : ∀ m ∈ modulesOf die, m < 4096 := fun m hm => by
      have := List.mem_range.mp (List.mem_filter.mp hm).1
      omega
    obtain ⟨hdies, hmod⟩ := rejoinModules (die := die) ((s.clearDie die).setDie die 2) hlt
    refine ⟨_, congrArg Host.Outcome.next (if_neg hgo), (congrArg (SMap.get · die 0) hdies).trans (SMap.get_set_self (s.clearDie die).dies die 2 0), fun m hm => ?_⟩
    exact (hmod m (hlt m hm)).trans (if_pos hm)
  case ready =>
    obtain ⟨u, hready, hboot, hspine, hdies⟩ := dieReady_rejoined hd hs hr
    obtain ⟨hbit, hlast⟩ := flag_raise_last u (i := 4 + die) 3 0x0004 die (by omega)
    refine ⟨_, congrArg Host.Outcome.next hready, hboot, hspine, hbit, hlast, fun hsegs => ?_⟩
    have hset : u.dies = s.dies.set die 3 0 := hdies.trans ((dies_lockedSetup _).trans (dies_reloadDie hsegs))
    exact (congrArg (SMap.get · die 0) hset).trans (SMap.get_set_self s.dies die 3 0)
  case failover =>
    obtain ⟨hs, ho⟩ := switchPairs_all s (List.nodup_range (n := 5))
    refine ⟨s.failoverSwitch, rfl, ?_⟩
    rw [failoverSwitch_eq]
    generalize (List.range 5).foldl (fun s a => s.switchRow a) s = t at hs ho
    refine ⟨?_, fun a ha b hb => (ho a b hb).trans (if_pos (List.mem_range.mpr ha))⟩
    rw [SameButRoutes] at hs
    rw [hs]
    rfl

end Sys2Proof.Machine
end

section
/-!
PROOF. The dispatcher of a Region: its requests, assignment and remap (R229, R235 to R241).
-/
namespace Sys2Proof.Machine

/-! ## Writes of the dispatcher's registers -/

/-- A write of a dispatcher's register reaches its own function. -/
theorem regWrite_fdspUnit (s : State) {die i o : Nat} (req : Nat) (w : Word) (hi : i < 4096) (ho : o < 0xFF8) :
    (s.touched req (regKey die 0x09 i o)).regWrite (regKey die 0x09 i o) req w =
      if o = 0x008 then s.fdspReqWrite die i w else if o = 0x030 then s.remapWrite die i w else (s.store (regKey die 0x09 i o) w, .ok) := by
  have h : o < 4096 := by omega
  have h1 : o ≠ 0xFFC := by omega
  have h2 : o ≠ 0xFF8 := by omega
  simp only [State.touched, State.regWrite, keyUnit_regKey h hi, keyOff_regKey h, keyInst_regKey h hi, keyDie_regKey h hi, h1, h2, if_false,
    show (9 : Nat) < 32 by decide]
  by_cases h8 : o = 0x008
  · subst h8; rfl
  · by_cases h30 : o = 0x030
    · subst h30; rfl
    · simp only [h8, h30, if_false]

/-! ## Requests (R235 to R238) -/

section requests
variable {s : State} {die rg task : Nat}

theorem requestTask_disabled (param : Nat) (e : Option EndAt) (cal : Bool) (h : s.bit (Reg.FDSP_CTL die rg) 0 = false) :
    s.requestTask die rg task param e cal = (s, false) := if_pos (by rw [h]; rfl)

theorem requestTask_noTask (param : Nat) (e : Option EndAt) (h : s.bit (Reg.FDSP_CTL die rg) 0 = true) (ht : s.taskOk die rg task = false) :
    s.requestTask die rg task param e false = (s.dropRequest die rg 10 4, true) := by
  simp [State.requestTask, h, ht]

theorem requestTask_full (param : Nat) (e : Option EndAt) (h : s.bit (Reg.FDSP_CTL die rg) 0 = true) (ht : s.taskOk die rg task = true)
    (hf : 128 ≤ (s.disp die rg).ready.length) : s.requestTask die rg task param e false = (s.dropRequest die rg 8 5, true) := by
  simp [State.requestTask, h, ht, hf]

/-- The deadline a request takes from its task (R237). -/
def State.taskDeadline (s : State) (die rg task : Nat) : Option EndAt :=
  if s.taskFld die rg task 3 0 24 = 0 then none else some (.time (s.tickEnd + BitVec.ofNat 64 (32 * s.taskFld die rg task 3 0 24)))

theorem requestTask_queued (param : Nat) (h : s.bit (Reg.FDSP_CTL die rg) 0 = true) (ht : s.taskOk die rg task = true)
    (hf : (s.disp die rg).ready.length < 128) : s.requestTask die rg task param none false =
      (s.setDisp die rg { s.disp die rg with ready := (s.disp die rg).ready ++ [{ task := task, param := param, deadline := s.taskDeadline die rg task }] },
        false) := by
  simp only [State.requestTask, h, ht, Nat.not_le.mpr hf, Bool.not_true, Bool.false_eq_true, if_false]
  rfl

end requests

/-- Settles O28: a request by the branch of `requestTask` it takes. -/
theorem taskRequestsQueue : Obligations.TaskRequestsQueue := by
  refine fun s r die rg task param => ⟨fun h => ?disabled, fun h ht hf => ⟨?queued, fun w ha hw hp => ?byWrite⟩, fun h ht => ?noTask, fun h ht hf => ?full⟩
  case disabled => exact congrArg Host.Outcome.next (congrArg Prod.fst (requestTask_disabled _ _ _ h))
  case queued => exact congrArg Host.Outcome.next (congrArg Prod.fst (requestTask_queued _ h ht hf))
  case byWrite =>
    refine congrArg Host.Outcome.next (regAccess_wrote (single_FDSP_REQ die die.isLt rg rg.isLt) ha
      ((regWrite_fdspUnit s _ w (by omega) (by decide)).trans ?_))
    rw [if_pos rfl, State.fdspReqWrite, hw, hp, requestTask_queued _ h ht hf]
    rfl
  case noTask => exact congrArg Host.Outcome.next (congrArg Prod.fst (requestTask_noTask _ _ h ht))
  case full => exact congrArg Host.Outcome.next (congrArg Prod.fst (requestTask_full _ _ h ht hf))

/-! ## Facets and dispatchers by their numbers -/

theorem facet_setFacet (s : State) (die p : Nat) (f : Facet) : (s.setFacet die p f).facet die p = f := SMap.get_set_self ..

theorem facet_setFacet_other {s : State} {die p p' : Nat} (f : Facet) (h : p' ≠ p) : (s.setFacet die p f).facet die p' = s.facet die p' :=
  SMap.get_set_other (by omega)

/-- A write that lands leaves the queue of writes alone. -/
theorem apply_wr (f : Facet) (w : FWrite) : (f.apply w).wr = f.wr := by cases w <;> rfl

/-- No write is on its way after all have landed. -/
theorem settle_wr (f : Facet) : f.settle.wr = [] :=
  List.foldlRecOn _ _ (motive := fun g : Facet => g.wr = []) rfl fun g hg w _ => (apply_wr g w.2).trans hg

/-! ## Assignment (R229, R236) -/

section assignment
variable {s : State} {die rg : Nat}

/-- A charge changes the governor's accounts alone (R287). -/
theorem charge_frame (s : State) (cls purse cost : Nat) : ∃ p, s.charge cls purse cost = { s with power := p } := by
  have hgrant : ∀ need, ∃ p, s.grantFor purse need = { s with power := p } := fun need => by
    unfold State.grantFor
    dsimp only
    split
    · exact ⟨s.power, rfl⟩
    · exact ⟨_, rfl⟩
  unfold State.charge
  split
  · exact ⟨s.power, rfl⟩
  · split
    · obtain ⟨p, hp⟩ := hgrant (cost - min cost (s.power.share.get purse 0))
      unfold State.chargePb
      dsimp only
      rw [hp]
      exact ⟨_, rfl⟩
    · obtain ⟨p, hp⟩ := hgrant cost
      dsimp only
      rw [hp]
      exact ⟨_, rfl⟩
    · exact ⟨_, rfl⟩

theorem choose_single {q : Request} {l : Nat} (hq : (s.disp die rg).ready = [q]) (hf : s.freeFacet die rg (s.taskFld die rg q.task 1 0 16) = some l)
    (ha : s.requestAdmitted die rg q = true) : s.choose die rg = some (0, q, l) := by
  simp [State.choose, hq, hf, ha]

/-- The one admitted request that finds a free Facet starts there (R236). -/
theorem assign_single {q : Request} {l : Nat} {frozen : Bool} (hr : s.dispReady die rg frozen = true) (hq : (s.disp die rg).ready = [q])
    (hf : s.freeFacet die rg (s.taskFld die rg q.task 1 0 16) = some l) (ha : s.requestAdmitted die rg q = true) :
    ∃ p, s.assign die rg frozen = (State.setDisp { s with power := p } die rg { s.disp die rg with ready := [] }).startTask die rg q l ∧
      (q.admitted = true → p = s.power) := by
  unfold State.assign
  rw [hr, choose_single hq hf ha]
  simp only [Bool.not_true, Bool.false_eq_true, if_false]
  split
  · refine ⟨s.power, ?_, fun _ => rfl⟩
    rw [hq]
    rfl
  · obtain ⟨p, hp⟩ := charge_frame s (s.taskFld die rg q.task 0 12 2) die (s.taskFld die rg q.task 1 16 16)
    refine ⟨p, ?_, fun h => absurd h ‹_›⟩
    rw [hp]
    show (State.setDisp { s with power := p } die rg { s.disp die rg with ready := (s.disp die rg).ready.eraseIdx 0 }).startTask die rg q l = _
    rw [hq]
    rfl

end assignment

/-! ## Deadlines (R237) -/

theorem lateReady_first {s : State} {die rg : Nat} {q : Request} (hq : (s.disp die rg).ready[0]? = some q)
    (hc : s.taskFld die rg q.task 0 12 2 = 0) (hl : q.late = false) (hd : ∀ e, q.deadline = some e → s.deadlineDue e = true) (hn : q.deadline ≠ none) :
    s.lateReady die rg 0 = (s.setDisp die rg { s.disp die rg with ready := (s.disp die rg).ready.set 0 { q with late := true } }).reportLate die rg := by
  obtain ⟨e, he⟩ := Option.ne_none_iff_exists'.mp hn
  simp only [State.lateReady, hq, he, hc, hl, hd e he, Bool.not_false, and_self, if_true]

/-! ## Remap (R241) -/

section remap
variable {s : State} {die rg : Nat}

theorem remapWrite_begins {w : Word} (hd : (s.disp die rg).remap = none) (h31 : wbit w 31 = true) (hp : wfld w 4 5 < 17)
    (hl : s.logOf die (17 * rg + wfld w 4 5) = none) (hm : (s.facet die (s.physOf die rg (wfld w 0 4))).movable = true)
    (hm' : (s.facet die (17 * rg + wfld w 4 5)).movable = true) (hb : (s.facet die (17 * rg + wfld w 4 5)).broken = false) :
    s.remapWrite die rg w = ((s.wr (Reg.FDSP_REMAP die rg) (w &&& 0x3FF)).setDisp die rg
      { s.disp die rg with remap := some (wfld w 0 4, wfld w 4 5) }, .ok) := by
  simp [State.remapWrite, hd, h31, hl, hm, hm', hb, Nat.not_le.mpr hp]

theorem enableFacet_frame (s : State) (die p : Nat) : ∃ v, s.enableFacet die p = { s with facets := { s.facets with phys := v } } := by
  have hrest : ∀ f, ∃ v, s.facetRest die p f = { s with facets := { s.facets with phys := v } } := fun f => by
    unfold State.facetRest
    dsimp only
    repeat' split
    all_goals exact ⟨_, rfl⟩
  unfold State.enableFacet
  dsimp only
  split
  · exact hrest _
  · exact hrest _
  · exact ⟨s.facets.phys, rfl⟩

theorem FACET_CTL_ne {die p p' : Nat} (hp : p < 4096) (hp' : p' < 4096) (h : p ≠ p') : Reg.FACET_CTL die p ≠ Reg.FACET_CTL die p' := fun hk =>
  h ((keyInst_regKey (by decide) hp).symm.trans ((congrArg keyInst hk).trans (keyInst_regKey (by decide) hp')))

theorem FACET_CTL_ne_MAP {die p i j : Nat} (hp : p < 4096) (hi : i < 4096) (hj : j < 4) : Reg.FACET_CTL die p ≠ Reg.FDSP_MAP die i j := fun hk => by
  have hu := congrArg keyUnit hk
  rw [Reg.FACET_CTL, Reg.FDSP_MAP, keyUnit_regKey (by decide) hp (by decide), keyUnit_regKey (by omega) hi (by decide)] at hu
  exact absurd hu (by decide)

/-- What the end of a remap leaves of the registers (R241). -/
theorem remapDone_csr {log phys : Nat} (hd : (s.disp die rg).remap = some (log, phys)) :
    ∃ u : State, s.remapDone die rg = ((u.enableFacet die (17 * rg + phys)).enableFacet die (s.physOf die rg log)) ∧
      u = { s with csr := u.csr, facets := u.facets } ∧ (u.disp die rg).remap = none ∧
      u.csr = (((s.setBit (Reg.FACET_CTL die (17 * rg + phys)) 0 (s.facetEn die (s.physOf die rg log))).setBit
        (Reg.FACET_CTL die (s.physOf die rg log)) 0 false).setFld (Reg.FDSP_MAP die rg (log / 4)) (8 * (log % 4)) 5 phys).csr := by
  unfold State.remapDone
  rw [hd]
  dsimp only
  split
  · exact ⟨_, rfl, rfl, congrArg Dispatcher.remap (SMap.get_set_self s.facets.disp (die * 16 + rg) _ {}), rfl⟩
  · exact ⟨_, rfl, rfl, congrArg Dispatcher.remap (SMap.get_set_self s.facets.disp (die * 16 + rg) _ {}), rfl⟩

end remap

/-- Settles O29: assignment through the one request it chooses, the deadline by its check, a remap by what it changes. -/
theorem dispatcherStartsAndRemaps : Obligations.DispatcherStartsAndRemaps := by
  refine fun s die rg => ⟨fun q l hr hq hf ha => ?assign, fun q hq hc hl hd hn => ?deadline, fun r w ha hd h31 hp hl hm hm' hb => ?remap,
    fun log phys hlog hphys hd hne => ?done⟩
  case assign =>
    obtain ⟨p, hassign, hpower⟩ := assign_single hr hq hf ha
    refine ⟨_, congrArg Host.Outcome.next hassign, congrArg Dispatcher.ready (SMap.get_set_self s.facets.disp (die * 16 + rg) _ {}), ?_, fun hadm => ?_⟩
    · have hfacet := facet_setFacet (State.setDisp { s with power := p } die rg { s.disp die rg with ready := [] }) die (s.physOf die rg l)
      refine ⟨congrArg Facet.state (hfacet _), congrArg Facet.pc (hfacet _), congrArg Facet.task (hfacet _), congrArg Facet.param (hfacet _),
        congrArg Facet.loops (hfacet _), congrArg Facet.calls (hfacet _), congrArg Facet.rep (hfacet _), ?_⟩
      exact (congrArg Facet.wr (hfacet _)).trans (settle_wr _)
    · rw [hpower hadm]
      rfl
  case deadline => exact congrArg Host.Outcome.next (lateReady_first hq hc hl hd hn)
  case remap =>
    refine congrArg Host.Outcome.next (regAccess_wrote (single_FDSP_REMAP die die.isLt rg rg.isLt) ha
      ((regWrite_fdspUnit s _ w (by omega) (by decide)).trans ?_))
    rw [if_neg (by decide), if_pos rfl, remapWrite_begins hd h31 hp hl hm hm' hb]
  case done =>
    obtain ⟨u, hdone, hframe, hremap, hcsr⟩ := remapDone_csr hd
    obtain ⟨v, hv⟩ := enableFacet_frame u die (17 * rg + phys)
    obtain ⟨w, hw⟩ := enableFacet_frame { u with facets := { u.facets with phys := v } } die (s.physOf die rg log)
    have hlt : s.physOf die rg log < 4096 := by
      have hf : s.fld (Reg.FDSP_MAP die rg (log / 4)) (8 * (log % 4)) 5 < 2 ^ 5 := Nat.mod_lt _ (by decide)
      unfold State.physOf
      omega
    have hne' : Reg.FACET_CTL die (17 * rg + phys) ≠ Reg.FACET_CTL die (s.physOf die rg log) := FACET_CTL_ne (by omega) hlt (Ne.symm hne)
    have hmap : ∀ p < 4096, Reg.FACET_CTL die p ≠ Reg.FDSP_MAP die rg (log / 4) := fun p hp => FACET_CTL_ne_MAP hp (by omega) (by omega)
    have hrd : ∀ k, u.rd k = (((s.setBit (Reg.FACET_CTL die (17 * rg + phys)) 0 (s.facetEn die (s.physOf die rg log))).setBit
        (Reg.FACET_CTL die (s.physOf die rg log)) 0 false).setFld (Reg.FDSP_MAP die rg (log / 4)) (8 * (log % 4)) 5 phys).rd k := fun k =>
      congrArg (fun m : SMap Word => m.get k (regReset k)) hcsr
    refine ⟨_, congrArg Host.Outcome.next (hdone.trans ((congrArg (State.enableFacet · die (s.physOf die rg log)) hv).trans hw)), ?_, ?_, hremap, ?_, ?_⟩
    · rw [hframe]
    · refine congrArg (17 * (rg : Nat) + ·) ((congrArg (fun w : Word => wfld w (8 * (log % 4)) 5) (hrd _)).trans ?_)
      exact (fld_setFld_self _ _ phys (by omega)).trans (Nat.mod_eq_of_lt (by omega))
    · refine (congrArg (wbit · 0) ((hrd _).trans ((rd_wr_other (hmap _ (by omega))).trans (rd_wr_other hne')))).trans ?_
      exact bit_setBit_self s _ _ (by decide)
    · refine (congrArg (wbit · 0) ((hrd _).trans (rd_wr_other (hmap _ hlt)))).trans ?_
      exact bit_setBit_self _ _ _ (by decide)

end Sys2Proof.Machine
end

section
/-!
PROOF. Control of a Facet from outside: urgent events, HALT, watchdog, ABORT, RESET and `en` (R228, R230 to R234, R242).
-/
namespace Sys2Proof.Machine

/-- A write of a Facet's FACET_CMD or FACET_CTL. -/
theorem regWrite_FACET_CMD (s : State) {die p : Nat} (req : Nat) (w : Word) (hp : p < 4096) :
    (s.touched req (Reg.FACET_CMD die p)).regWrite (Reg.FACET_CMD die p) req w = s.facetCmdWrite die p w := by
  simp [State.touched, State.regWrite, Reg.FACET_CMD, keyUnit_regKey, keyOff_regKey, keyInst_regKey, keyDie_regKey, hp]

theorem regWrite_FACET_CTL (s : State) {die p : Nat} (req : Nat) (w : Word) (hp : p < 4096) :
    (s.touched req (Reg.FACET_CTL die p)).regWrite (Reg.FACET_CTL die p) req w = (s.facetCtlWrite die p w, .ok) := by
  simp [State.touched, State.regWrite, Reg.FACET_CTL, keyUnit_regKey, keyOff_regKey, keyInst_regKey, keyDie_regKey, hp]

section control
variable {s : State} {die p : Nat}

/-! ## Urgent events (R230, R232) -/

theorem facetUrgent_room {f : Facet} (h : f.settle.calls.length < 8) : s.facetUrgent die p f = s.setFacet die p { f.settle with
    state := .urgent
    calls := f.settle.pc :: f.settle.calls
    evt := f.settle.code
    pend := false
    sr := f.settle.sr &&& 0b01111
    pc := 8
    fromIdle := decide (f.state = .idle)
    stall := false
    cyc := f.settle.cyc + 3
    wcyc := if f.state = .idle then f.settle.wcyc else f.settle.wcyc + 3 } := if_neg (by omega)

/-- A pending event is accepted from IDLE, or at a boundary with `ie` set (R230). -/
theorem acceptUrgent_now (hp : (s.facet die p).pend = true) (hd : (s.facet die p).haltDbg = false) (hf : (s.facet die p).haltFrz = false)
    (h : (s.facet die p).state = .idle ∨ ((s.facet die p).state = .running ∧ (s.facet die p).land.sr.getLsbD 4 = true ∧
      (s.facet die p).boundary = true ∧ (s.facet die p).wait = 0)) : s.acceptUrgent die p = s.facetUrgent die p (s.facet die p) := by
  unfold State.acceptUrgent
  rcases h with h | ⟨h, hi, hb, hw⟩
  · simp only [hp, hd, hf, h, Bool.not_true, Bool.or_self, Bool.false_eq_true, if_false]
  · simp only [hp, hd, hf, h, hi, hb, hw, Bool.not_true, Bool.or_self, Bool.false_eq_true, if_false, Bool.and_self, beq_self_eq_true, if_true]

/-! ## HALT (R233) -/

/-- A HALT that waits is accepted from IDLE, or at a boundary whatever `ie`. -/
theorem acceptHalt_now (h : (s.facet die p).haltDbg = true ∨ (s.facet die p).haltFrz = true)
    (hs : (s.facet die p).state = .idle ∨ (((s.facet die p).state = .running ∨ (s.facet die p).state = .urgent) ∧ (s.facet die p).boundary = true)) :
    ∃ b, s.acceptHalt die p = s.setFacet die p { s.facet die p with state := .halted, haltedFrom := (s.facet die p).state, stall := b } := by
  have hh : ((s.facet die p).haltDbg || (s.facet die p).haltFrz) = true := by simpa using h
  unfold State.acceptHalt
  simp only [hh, Bool.not_true, Bool.false_eq_true, if_false]
  rcases hs with h | ⟨h | h, hb⟩
  · exact ⟨(s.facet die p).stall, by simp only [h]⟩
  · exact ⟨false, by simp only [h, hb, if_true]⟩
  · exact ⟨false, by simp only [h, hb, if_true]⟩

/-! ## The task watchdog (R234, R239) -/

theorem taskWatchdog_due (hi : s.facetIssues die p = true) (hd : (s.facet die p).watchdogDue = true)
    (hw : ∀ b, (s.facet die p).upcoming = some b → b.isWait = false) : s.taskWatchdog die p = s.facetFault die p (s.facet die p).land .wdog := by
  unfold State.taskWatchdog
  cases hu : (s.facet die p).upcoming with
  | none => simp only [hi, hd, hu, Bool.not_false, Bool.and_self, if_true]
  | some b => simp only [hi, hd, hu, hw b hu, Bool.not_false, Bool.and_self, if_true]

theorem FACET_FAULT_ne_STAT (die p : Nat) : Reg.FACET_FAULT die p ≠ Reg.FACET_STAT die p := fun hk => by
  have ho := congrArg keyOff hk
  rw [Reg.FACET_FAULT, Reg.FACET_STAT, keyOff_regKey (by decide), keyOff_regKey (by decide)] at ho
  exact absurd ho (by decide)

theorem csr_flagErr (s : State) (k i sev code : Nat) : (s.flagErr k i sev code).csr = (s.flag k i).csr := by
  unfold State.flagErr
  dsimp only
  split <;> rfl

theorem rd_flagErr (s : State) (k i sev code j : Nat) : (s.flagErr k i sev code).rd j = (s.flag k i).rd j :=
  congrArg (fun m : SMap Word => m.get j (regReset j)) (csr_flagErr s k i sev code)

/-- A fault stops the Facet, with its place and cause (R234). -/
theorem facetFault_spec (s : State) (die p : Nat) (f : Facet) (c : Cause) :
    ((s.facetFault die p f c).facet die p).state = .faulted ∧
      (s.facetFault die p f c).rd (Reg.FACET_FAULT die p) = BitVec.ofNat 32 (f.pc + c.code * 4096) ∧
      (s.facetFault die p f c).bit (Reg.FACET_STAT die p) 15 = true ∧
      s.facetFault die p f c = { s with csr := (s.facetFault die p f c).csr, facets := (s.facetFault die p f c).facets, raised := (s.facetFault die p f c).raised } := by
  have hset := facet_setFacet s die p { f.settle with state := .faulted, stall := false }
  unfold State.facetFault
  rw [flagErr_frame]
  refine ⟨congrArg Facet.state hset, ?_, ?_, rfl⟩
  · exact (rd_flagErr ..).trans ((rd_wr_other (FACET_FAULT_ne_STAT die p)).trans (rd_wr_self ..))
  · exact (congrArg (wbit · 15) (rd_flagErr ..)).trans (bit_flag_self (by decide))

/-! ## ABORT, RESET and `en` (R228, R242) -/

/-- Out of a task a Facet whose halt causes are clear goes IDLE or OFF by `en`. -/
theorem facetRest_free {f : Facet} (hd : f.haltDbg = false) (hf : f.haltFrz = false) : s.facetRest die p f = s.setFacet die p { f with
    slot := none
    rep := 0
    back := false
    stall := false
    state := if s.facetEn die p then .idle else .off } := by
  unfold State.facetRest
  cases he : s.facetEn die p <;> simp [hd, hf]

theorem abortFacet_busy (h : (s.facet die p).state = .running ∨ (s.facet die p).state = .urgent) :
    s.abortFacet die p = s.facetRest die p (s.facet die p).settle := by
  unfold State.abortFacet
  rcases h with h | h <;> simp only [h]

theorem resetFacet_stopped (h : (s.facet die p).state = .faulted ∨ (s.facet die p).state = .halted) :
    s.resetFacet die p = (s.facetRest die p { (s.facet die p).resetRegs with haltDbg := false, haltFrz := false }, .ok) := by
  unfold State.resetFacet
  rcases h with h | h <;> simp only [h]

theorem resetFacet_refused (h : (s.facet die p).state ≠ .faulted) (h' : (s.facet die p).state ≠ .halted) : s.resetFacet die p = (s, .refused) := by
  unfold State.resetFacet
  cases hs : (s.facet die p).state <;> simp_all

/-- An urgent event by command waits one cycle (R230, R268). -/
theorem raiseUrgent_busy {code delay : Nat} (h : (s.facet die p).state = .running ∨ (s.facet die p).state = .urgent ∨ (s.facet die p).state = .halted)
    (hp : (s.facet die p).pend = false) :
    s.raiseUrgent die p code delay = s.setFacet die p { s.facet die p with pend := true, code := code, wait := delay } := by
  unfold State.raiseUrgent
  rcases h with h | h | h <;> simp [h, hp]

theorem urgentWord_fields (code : BitVec 16) : wfld (BitVec.ofNat 32 (code.toNat * 65536 + 3)) 0 2 = 3 ∧
    wfld (BitVec.ofNat 32 (code.toNat * 65536 + 3)) 16 16 = code.toNat := by
  have h := code.isLt
  have hn : (BitVec.ofNat 32 (code.toNat * 65536 + 3)).toNat = code.toNat * 65536 + 3 := by rw [BitVec.toNat_ofNat, Nat.mod_eq_of_lt (by omega)]
  constructor <;> · unfold wfld; omega

/-- FACET_CTL keeps its two bits of a write. -/
theorem facetEn_store (s : State) (w : Word) (hd : die < 4) (hp : p < 272) : (s.store (Reg.FACET_CTL die p) w).facetEn die p = wbit w 0 := by
  have ht : Nat.testBit 15 die = true := by revert hd; revert die; decide
  have hreg : regDef? (Reg.FACET_CTL die p) = some ⟨"FACET_CTL", 0x08, 0b1111, 0, 271, 0x000, 4, 1, .none, 0x3, 0, 0, 0, 0, 0, 0, 0x1⟩ := by
    simp [Reg.FACET_CTL, regDef?, keyOff_regKey, keyInst_regKey, keyUnit_regKey, keyDie_regKey, show p < 4096 by omega, instExists, regRows, rowsFACET,
      RegDef.covers, show p ≤ 271 by omega, ht, show die ≤ 3 by omega]
  unfold State.store State.facetEn State.bit
  rw [hreg]
  simp only [rd_wr_self, RegDef.merge, wbit]
  simp

/-! ## Debug freeze (R233) -/

theorem haltFacet_frame (s : State) (d q : Nat) (dbg frz : Bool) : ∃ g l, s.haltFacet d q dbg frz = { s.setFacet d q g with raised := l } := by
  have hrest : ∀ f, ∃ g, s.facetRest d q f = s.setFacet d q g := fun f => by
    unfold State.facetRest
    dsimp only
    repeat' split
    all_goals exact ⟨_, rfl⟩
  unfold State.haltFacet
  dsimp only
  split
  · split
    · exact ⟨_, _, rfl⟩
    · exact ⟨_, s.raised, rfl⟩
  · split
    · split
      · obtain ⟨g, hg⟩ := hrest { s.facet d q with haltDbg := dbg, haltFrz := frz }
        rw [hg]
        exact ⟨_, _, rfl⟩
      · exact ⟨_, _, rfl⟩
    · exact ⟨_, s.raised, rfl⟩

/-- The Facet is in a state, with no halt of the debugger. -/
def Undebugged (s : State) (die p : Nat) (st : FState) : Prop := (s.facet die p).state = st ∧ (s.facet die p).haltDbg = false

/-- A Facet outside HALTED that neither the debugger nor freeze halts stays in its state, whichever Facet is told so. -/
theorem undebugged_haltFacet {st : FState} (d q : Nat) (hst : st ≠ .halted) (h : Undebugged s die p st) :
    Undebugged (s.haltFacet d q (s.facet d q).haltDbg false) die p st := by
  obtain ⟨hs, hd⟩ := h
  by_cases hk : die * 272 + p = d * 272 + q
  · have hsame : s.facet d q = s.facet die p := by unfold State.facet; rw [hk]
    have hne : (s.facet die p).state ≠ .halted := hs ▸ hst
    have hset : s.haltFacet d q (s.facet d q).haltDbg false = s.setFacet d q { s.facet die p with haltDbg := false, haltFrz := false } := by
      simp only [State.haltFacet, hsame, hd, Bool.or_self, Bool.false_eq_true, if_false, hne]
    have hfacet : (s.setFacet d q { s.facet die p with haltDbg := false, haltFrz := false }).facet die p =
        { s.facet die p with haltDbg := false, haltFrz := false } := by
      unfold State.facet
      rw [hk]
      exact SMap.get_set_self ..
    rw [hset, Undebugged, hfacet]
    exact ⟨hs, rfl⟩
  · obtain ⟨g, l, hframe⟩ := haltFacet_frame s d q (s.facet d q).haltDbg false
    have hfacet : (s.setFacet d q g).facet die p = s.facet die p := SMap.get_set_other hk
    rw [hframe]
    exact ⟨(congrArg Facet.state hfacet).trans hs, (congrArg Facet.haltDbg hfacet).trans hd⟩

theorem csr_haltFacet (s : State) (d q : Nat) (dbg frz : Bool) : (s.haltFacet d q dbg frz).csr = s.csr := by
  obtain ⟨g, l, hframe⟩ := haltFacet_frame s d q dbg frz
  rw [hframe]
  rfl

/-- With no class of cores selected, freeze halts no Facet (R542). -/
theorem freezeFollows_unselected {st : FState} (hst : st ≠ .halted) (h3 : s.fld Reg.DBG_FRZSEL 9 3 = 7) (h : Undebugged s die p st) :
    Undebugged s.freezeFollows die p st ∧ s.freezeFollows.csr = s.csr := by
  have hclass : ∀ u : State, u.csr = s.csr → u.classHalted 3 = false := fun u hu => by
    have h7 : u.fld Reg.DBG_FRZSEL 9 3 = 7 := (congrArg (fun m : SMap Word => wfld (m.get Reg.DBG_FRZSEL (regReset Reg.DBG_FRZSEL)) 9 3) hu).trans h3
    unfold State.classHalted
    rw [show 3 * 3 = 9 from rfl, h7]
    rfl
  refine List.foldlRecOn _ _ (motive := fun u : State => Undebugged u die p st ∧ u.csr = s.csr) ⟨h, rfl⟩ fun u ⟨hu, hcsr⟩ key _ => ?_
  dsimp only
  rw [hclass u hcsr, Bool.and_false]
  exact ⟨undebugged_haltFacet _ _ hst hu, (csr_haltFacet ..).trans hcsr⟩

theorem enableFacet_resting (h : (s.facet die p).state = .off ∨ (s.facet die p).state = .idle) :
    s.enableFacet die p = s.facetRest die p (s.facet die p) := by
  unfold State.enableFacet
  rcases h with h | h <;> simp only [h]

theorem rd_store_other (s : State) {j k : Nat} (w : Word) (h : j ≠ k) : (s.store k w).rd j = s.rd j := by
  unfold State.store
  split
  · exact rd_wr_other h
  · rfl

theorem facets_store (s : State) (k : Nat) (w : Word) : (s.store k w).facets = s.facets := by
  unfold State.store
  split <;> rfl

end control

/-- Settles O30: each way to control a Facet by the branch it takes. -/
theorem facetsObeyControl : Obligations.FacetsObeyControl := by
  intro s r die p
  have hp : (p : Nat) < 4096 := by omega
  refine ⟨fun hpend hd hf hc h => ?urgent, fun h hs => ?halt, fun hi hdue hw => ?watchdog, fun ha h hd hf => ?abort, fun ha => ⟨fun h => ?reset, fun h h' => ?refused⟩,
    fun code ha h hpend => ?byCommand, fun w ha hs hd hf h3 h6 => ?enable⟩
  case urgent =>
    refine ⟨_, congrArg Host.Outcome.next ((acceptUrgent_now hpend hd hf h).trans (facetUrgent_room hc)), rfl, ?_⟩
    rw [facet_setFacet]
    refine ⟨rfl, rfl, rfl, rfl, rfl, ?_, rfl⟩
    simp
  case halt =>
    obtain ⟨b, hb⟩ := acceptHalt_now h hs
    refine ⟨_, congrArg Host.Outcome.next hb, rfl, ?_⟩
    rw [facet_setFacet]
    exact ⟨rfl, rfl⟩
  case watchdog =>
    exact ⟨_, congrArg Host.Outcome.next (taskWatchdog_due hi hdue hw), facetFault_spec s die p _ .wdog⟩
  case abort =>
    have hcmd : s.facetCmdWrite die p 1 = (s.abortFacet die p, .ok) := rfl
    refine ⟨_, congrArg Host.Outcome.next (regAccess_wrote (single_FACET_CMD die die.isLt p p.isLt) ha ((regWrite_FACET_CMD s _ 1 hp).trans hcmd)), ?_⟩
    rw [abortFacet_busy h, facetRest_free hd hf, facet_setFacet]
    exact ⟨rfl, rfl, rfl⟩
  case reset =>
    have hcmd : s.facetCmdWrite die p 2 = s.resetFacet die p := rfl
    refine ⟨_, congrArg Host.Outcome.next (regAccess_wrote (single_FACET_CMD die die.isLt p p.isLt) ha
      ((regWrite_FACET_CMD s _ 2 hp).trans (hcmd.trans (resetFacet_stopped h)))), ?_⟩
    rw [facetRest_free rfl rfl, facet_setFacet]
    exact ⟨rfl, rfl, rfl, rfl, rfl, rfl, rfl, rfl, rfl, rfl, rfl⟩
  case refused =>
    have hcmd : s.facetCmdWrite die p 2 = s.resetFacet die p := rfl
    exact congrArg Host.Outcome.next (regAccess_refused (single_FACET_CMD die die.isLt p p.isLt) ha
      ((regWrite_FACET_CMD s _ 2 hp).trans (hcmd.trans (resetFacet_refused h h'))))
  case byCommand =>
    obtain ⟨h2, h16⟩ := urgentWord_fields code
    have hcmd : s.facetCmdWrite die p (BitVec.ofNat 32 (code.toNat * 65536 + 3)) = (s.raiseUrgent die p code.toNat 1, .ok) := by
      unfold State.facetCmdWrite
      rw [h2, h16]
      rfl
    refine congrArg Host.Outcome.next (regAccess_wrote (single_FACET_CMD die die.isLt p p.isLt) ha
      ((regWrite_FACET_CMD s _ _ hp).trans (hcmd.trans ?_)))
    rw [raiseUrgent_busy h hpend]
  case enable =>
    refine ⟨_, congrArg Host.Outcome.next (regAccess_wrote (single_FACET_CTL die die.isLt p p.isLt) ha (regWrite_FACET_CTL s _ w hp)), ?_⟩
    have hfacet : (s.store (Reg.FACET_CTL die p) w).facet die p = s.facet die p := by unfold State.facet; rw [facets_store]
    have hen := facetEn_store s w die.isLt p.isLt
    have hkey : Reg.DBG_FRZSEL ≠ Reg.FACET_CTL die p := fun hk => by
      have hu := congrArg keyUnit hk
      rw [Reg.FACET_CTL, keyUnit_regKey (by decide) hp (by decide)] at hu
      exact absurd hu (by decide)
    have hrest : (s.store (Reg.FACET_CTL die p) w).enableFacet die p = (s.store (Reg.FACET_CTL die p) w).setFacet die p { s.facet die p with
        slot := none
        rep := 0
        back := false
        stall := false
        state := if wbit w 0 then .idle else .off } := by
      rw [enableFacet_resting (hfacet.symm ▸ hs), facetRest_free (hfacet.symm ▸ hd) (hfacet.symm ▸ hf), hfacet, hen]
    have hst : (if wbit w 0 then FState.idle else FState.off) ≠ .halted := by split <;> decide
    unfold State.facetCtlWrite
    rw [hrest]
    obtain ⟨⟨hstate, -⟩, hcsr⟩ := freezeFollows_unselected (s := (s.store (Reg.FACET_CTL die p) w).setFacet die p { s.facet die p with
        slot := none
        rep := 0
        back := false
        stall := false
        state := if wbit w 0 then .idle else .off }) (die := die) (p := p) hst ((congrArg (wfld · 9 3) (rd_store_other s w hkey)).trans h3)
      ⟨congrArg Facet.state (facet_setFacet ..), (congrArg Facet.haltDbg (facet_setFacet ..)).trans hd⟩
    exact ⟨(congrArg (fun m : SMap Word => wbit (m.get (Reg.FACET_CTL die p) (regReset (Reg.FACET_CTL die p))) 0) hcsr).trans hen, hstate⟩

end Sys2Proof.Machine
end

section
/-!
PROOF. Memories and stream ports of a Facet (R211, R216).
-/
namespace Sys2Proof.Machine

/-! ## A Facet's sub-window of the view -/

theorem viewPart_facet {die p off : Nat} (hd : die < 4) (hp : p < 272) (ho : off < 0x18000) : viewPart die (p * 0x20000 + off) = .facet p off := by
  have h1 : p * 0x20000 + off < 0x02200000 := by omega
  have h2 : (p * 0x20000 + off) % 0x20000 = off := by omega
  have h3 : (p * 0x20000 + off) / 0x20000 = p := by omega
  simp only [viewPart, hd, if_true, h1, h2, h3, ho]

section view
variable {s : State} {r : Requester} {die p off : Nat}

theorem requesterOf_code (h : r.code ≠ 16) : requesterOf r.code = r := by
  cases r with
  | debugger => exact absurd rfl h
  | agent a =>
    have ha : a.toNat ≠ 16 := by omega
    show requesterOf a.toNat = .agent a
    unfold requesterOf
    rw [if_neg ha, BitVec.ofNat_toNat, BitVec.setWidth_eq]

/-- An admitted write of a Facet's sub-window reaches its memories (R25, R211). -/
theorem busWrite_facetAddr (w : Word) (hd : die < 4) (hp : p < 272) (ho : off < 0x18000) (h4 : off % 4 = 0) (hr : r.code ≠ 16)
    (ha : s.admitsView r die 0x08 (some (64 + 16 * die + p / 17)) (facetAddr die p off) true = true) :
    s.busWrite r (facetAddr die p off) 4 w =
      (s.facetViewWrite die p r off w).1.completeAccess r.code true (facetAddr die p off) (s.facetViewWrite die p r off w).2 0 := by
  obtain ⟨hg, hreach, hdecl⟩ := admitsView_parts ha
  have hgate := gate_passes hg
  have haddr : facetAddr die p off = viewBase die + (p * 0x20000 + off) := Nat.add_assoc ..
  have hplace : place (facetAddr die p off) = .view die (p * 0x20000 + off) := by
    rw [haddr]
    exact place_view (by omega) (by omega)
  have hwidth : viewWidthOk die (facetAddr die p off) 4 = true := by
    have h5 : die ≠ 5 := by omega
    have hmod : facetAddr die p off % 4 = 0 := by rw [haddr]; unfold viewBase; omega
    simp [viewWidthOk, h5, hmod]
  have hdies : viewDies die = [die] := if_neg (by omega)
  have h7 : die ≠ 7 := by omega
  simp only [State.busWrite, hgate, if_false, hplace, hwidth, if_true, State.viewWrite, hdies, List.getD_cons_zero, viewPart_facet hd hp ho,
    List.foldl_cons, List.foldl_nil, State.viewMemberWrite, viewUnit, hreach, hdecl rfl, Bool.not_true, Bool.false_eq_true, h7, List.nil_append,
    requesterOf_code hr]

/-- An admitted read of a Facet's sub-window answers what its memories hold. -/
theorem busRead_facetAddr (hd : die < 4) (hp : p < 272) (ho : off < 0x18000) (h4 : off % 4 = 0)
    (ha : s.admitsView r die 0x08 (some (64 + 16 * die + p / 17)) (facetAddr die p off) false = true) (hok : (s.facetView die p off).1 = .ok) :
    s.busRead r (facetAddr die p off) 4 = s.completeAccess r.code false (facetAddr die p off) .ok (s.facetView die p off).2 := by
  obtain ⟨hg, hreach, -⟩ := admitsView_parts ha
  have hgate := gate_passes hg
  have haddr : facetAddr die p off = viewBase die + (p * 0x20000 + off) := Nat.add_assoc ..
  have hplace : place (facetAddr die p off) = .view die (p * 0x20000 + off) := by
    rw [haddr]
    exact place_view (by omega) (by omega)
  have hwidth : viewWidthOk die (facetAddr die p off) 4 = true := by
    have h5 : die ≠ 5 := by omega
    have hmod : facetAddr die p off % 4 = 0 := by rw [haddr]; unfold viewBase; omega
    simp [viewWidthOk, h5, hmod]
  have hdies : viewDies die = [die] := if_neg (by omega)
  have h7 : die ≠ 7 := by omega
  simp only [State.busRead, hgate, if_false, hplace, hwidth, if_true, State.viewRead, hdies, List.getD_cons_zero, viewPart_facet hd hp ho,
    List.foldl_cons, List.foldl_nil, State.viewMemberRead, viewUnit, hreach, Bool.not_true, Bool.false_eq_true, h7, List.nil_append, hok]
  exact congrArg (s.completeAccess r.code false (facetAddr die p off) .ok) BitVec.zero_or

end view

/-! ## Data banks and bundles (R211) -/

section memories
variable {s : State} {r : Requester} {die p : Nat}

theorem facetView_bank (bankB : Bool) {n : Nat} (hn : n < 8192) : s.facetView die p (bankOffset bankB n) =
    (.ok, ((if bankB then (s.facet die p).bankB else (s.facet die p).bankA).get n 0).setWidth 32) := by
  cases bankB with
  | false =>
    have h1 : ¬(0x8000 + 4 * n < 0x8000) := by omega
    have h2 : 0x8000 + 4 * n < 0x10000 := by omega
    have h3 : (0x8000 + 4 * n - 0x8000) / 4 = n := by omega
    simp only [State.facetView, bankOffset, Bool.false_eq_true, if_false, h1, h2, if_true, h3]
  | true =>
    have h1 : ¬(0x10000 + 4 * n < 0x8000) := by omega
    have h2 : ¬(0x10000 + 4 * n < 0x10000) := by omega
    have h3 : 0x10000 + 4 * n < 0x18000 := by omega
    have h4 : (0x10000 + 4 * n - 0x10000) / 4 = n := by omega
    simp only [State.facetView, bankOffset, if_true, h1, h2, if_false, h3, h4]

theorem facetViewWrite_bank (bankB : Bool) {n : Nat} (w : Word) (hn : n < 8192) :
    s.facetViewWrite die p r (bankOffset bankB n) w = (s.bankWrite die p bankB n w, .ok) := by
  cases bankB with
  | false =>
    have h1 : ¬(0x8000 + 4 * n < 0x8000) := by omega
    have h2 : 0x8000 + 4 * n < 0x10000 := by omega
    have h3 : (0x8000 + 4 * n - 0x8000) / 4 = n := by omega
    simp only [State.facetViewWrite, bankOffset, Bool.false_eq_true, if_false, h1, h2, if_true, h3]
  | true =>
    have h1 : ¬(0x10000 + 4 * n < 0x8000) := by omega
    have h2 : ¬(0x10000 + 4 * n < 0x10000) := by omega
    have h3 : 0x10000 + 4 * n < 0x18000 := by omega
    have h4 : (0x10000 + 4 * n - 0x10000) / 4 = n := by omega
    simp only [State.facetViewWrite, bankOffset, if_true, h1, h2, if_false, h3, h4]

theorem facetViewWrite_program {n : Nat} (w : Word) (hn : n < 8192) : s.facetViewWrite die p r (4 * n) w = s.programWrite die p r (4 * n) w :=
  if_pos (by omega)

theorem bank_store (f : Facet) (isB : Bool) {a : Nat} (v : BitVec 24) (k : Nat) (ha : a < 8192) :
    (if isB then (f.store isB a v).bankB else (f.store isB a v).bankA).get k 0 = if k = a then v else (if isB then f.bankB else f.bankA).get k 0 := by
  have hmod : a % 8192 = a := Nat.mod_eq_of_lt ha
  cases isB with
  | false =>
    simp only [Facet.store, Bool.false_eq_true, if_false, hmod]
    exact SMap.get_set f.bankA k a v 0
  | true =>
    simp only [Facet.store, if_true, hmod]
    exact SMap.get_set f.bankB k a v 0

/-- A port of a Region that is not isolated takes a word where it has room, and gives its oldest one (R216). -/
theorem streamIn_room {rg l port : Nat} (v : BitVec 24) (hi : s.isolated die rg = false)
    (h : (if port = 0 then (s.ports die (rg * 16 + l)).in0 else (s.ports die (rg * 16 + l)).in1).length < 32) :
    s.streamIn die rg l port v = s.setPorts die (rg * 16 + l) (if port = 0 then
      { s.ports die (rg * 16 + l) with in0 := (s.ports die (rg * 16 + l)).in0 ++ [v] }
    else { s.ports die (rg * 16 + l) with in1 := (s.ports die (rg * 16 + l)).in1 ++ [v] }) :=
  if_neg (by simpa [hi] using h)

theorem streamOut_eq {rg l port : Nat} (hi : s.isolated die rg = false) :
    s.streamOut die rg l port = s.setPorts die (rg * 16 + l) (if port = 0 then
      { s.ports die (rg * 16 + l) with out0 := (s.ports die (rg * 16 + l)).out0.drop 1 }
    else { s.ports die (rg * 16 + l) with out1 := (s.ports die (rg * 16 + l)).out1.drop 1 }) :=
  if_neg (by simp [hi])

end memories

/-! ## Stream ports (R216) -/

/-- Settles O31: bank words and bundles through the view, words of the stream ports by the port they take. -/
theorem facetMemoriesAndStreams : Obligations.FacetMemoriesAndStreams := by
  intro s r die p
  have hd : (die : Nat) < 4 := die.isLt
  have hp : (p : Nat) < 272 := p.isLt
  refine ⟨fun bankB n hr => ⟨fun ha => ?readBank, fun w ha => ?writeBank⟩,
    fun n w hr ha => ⟨fun h h' => ?refused, fun h hn => ?low, fun lo h hn hl => ?high⟩,
    fun rg l v hi => ⟨fun h => ?in0, fun h => ?in1, ?out0, ?out1⟩⟩
  case readBank =>
    have hoff : bankOffset bankB n < 0x18000 ∧ bankOffset bankB n % 4 = 0 := by
      unfold bankOffset
      cases bankB <;> simp <;> omega
    have hview := facetView_bank (s := s) (die := die) (p := p) bankB n.isLt
    refine congrArg Host.Outcome.next ((busRead_facetAddr hd hp hoff.1 hoff.2 ha (by rw [hview])).trans ?_)
    rw [hview]
    cases bankB <;> rfl
  case writeBank =>
    have hoff : bankOffset bankB n < 0x18000 ∧ bankOffset bankB n % 4 = 0 := by
      unfold bankOffset
      cases bankB <;> simp <;> omega
    refine ⟨s.bankWrite die p bankB n w, congrArg Host.Outcome.next ((busWrite_facetAddr w hd hp hoff.1 hoff.2 hr ha).trans ?_), rfl, ?_, fun k hk => ?_⟩
    · rw [facetViewWrite_bank bankB w n.isLt]
    · rw [State.bankWrite, facet_setFacet, bank_store _ _ _ _ n.isLt, if_pos rfl]
    · rw [State.bankWrite, facet_setFacet, bank_store _ _ _ _ n.isLt, if_neg hk]
  case refused =>
    have hprog : s.programWrite die p r (4 * n) w = (s, .refused) := if_pos ⟨h, h'⟩
    refine congrArg Host.Outcome.next ((busWrite_facetAddr w hd hp (by omega) (by omega) hr ha).trans ?_)
    rw [facetViewWrite_program w n.isLt, hprog]
  case low =>
    have hb : 4 * (n : Nat) / 8 % 4096 = n / 2 := by omega
    have hhalf : 4 * (n : Nat) / 4 % 2 = 0 := by omega
    have hst : ¬((s.facet die p).state ≠ .off ∧ (s.facet die p).state ≠ .halted) := fun h' => h.elim h'.1 h'.2
    refine congrArg Host.Outcome.next ((busWrite_facetAddr w hd hp (by omega) (by omega) hr ha).trans ?_)
    simp only [facetViewWrite_program w n.isLt, State.programWrite, hst, if_false, hhalf, if_true, hb]
  case high =>
    have hb : 4 * (n : Nat) / 8 % 4096 = n / 2 := by omega
    have hhalf : 4 * (n : Nat) / 4 % 2 = 1 := by omega
    have hst : ¬((s.facet die p).state ≠ .off ∧ (s.facet die p).state ≠ .halted) := fun h' => h.elim h'.1 h'.2
    have hprog : s.programWrite die p r (4 * n) w = (s.setFacet die p { s.facet die p with
        prog := (s.facet die p).prog.set (n / 2) (joinHalves w lo) 0
        badProg := (s.facet die p).badProg.set (n / 2) false false
        low := (s.facet die p).low.set (n / 2 * 32 + r.code) none none }, .ok) := by
      simp only [State.programWrite, hst, if_false, hhalf, Nat.one_ne_zero, hb, hl]
    refine ⟨(s.programWrite die p r (4 * n) w).1, congrArg Host.Outcome.next ((busWrite_facetAddr w hd hp (by omega) (by omega) hr ha).trans ?_), ?_⟩
    · rw [facetViewWrite_program w n.isLt, hprog]
    · rw [hprog, facet_setFacet]
      exact ⟨rfl, SMap.get_set_self .., SMap.get_set_self (s.facet die p).badProg (n / 2) false false⟩
  case in0 => exact congrArg Host.Outcome.next (streamIn_room (port := 0) v hi h)
  case in1 => exact congrArg Host.Outcome.next (streamIn_room (port := 1) v hi h)
  case out0 => exact congrArg Host.Outcome.next (streamOut_eq (port := 0) hi)
  case out1 => exact congrArg Host.Outcome.next (streamOut_eq (port := 1) hi)

end Sys2Proof.Machine
end

section
/-!
PROOF. The bundles a Facet issues: system and immediate, control and PAR (R216, R219 to R221, R250, R253, R254, R263 to R271).
-/
namespace Sys2Proof.Machine

/-! ## Writes that land leave the program alone (R218) -/

/-- The same program at the same place. -/
structure SameProgram (f g : Facet) : Prop where
  pc : g.pc = f.pc
  prog : g.prog = f.prog
  badProg : g.badProg = f.badProg

theorem sameProgram_apply {f g : Facet} (h : SameProgram f g) (w : FWrite) : SameProgram f (g.apply w) := by
  obtain ⟨hpc, hprog, hbad⟩ := h
  cases w <;> exact ⟨hpc, hprog, hbad⟩

theorem sameProgram_land (f : Facet) : SameProgram f f.land :=
  List.foldlRecOn _ _ (motive := SameProgram f) ⟨rfl, rfl, rfl⟩ fun _ hg w _ => sameProgram_apply hg w.2

theorem sameProgram_settle (f : Facet) : SameProgram f f.settle :=
  List.foldlRecOn _ _ (motive := SameProgram f) ⟨rfl, rfl, rfl⟩ fun _ hg w _ => sameProgram_apply hg w.2

theorem sameProgram_seen (f : Facet) : SameProgram f f.seen := by
  obtain ⟨hpc, hprog, hbad⟩ := sameProgram_land
    { f with cyc := f.cyc + 1, wcyc := f.wcyc + 1, wait := f.wait - 1, stall := false, run := { f.run with started := true } }
  exact ⟨hpc, hprog, hbad⟩

/-! ## The issue cycle (R216) -/

/-- A Facet in its next cycle, before its due writes land. -/
def Facet.cycled (f : Facet) : Facet :=
  { f with cyc := f.cyc + 1, wcyc := f.wcyc + 1, wait := f.wait - 1, stall := false, run := { f.run with started := true } }

/-- What an issue cycle leaves by what its bundle comes to. -/
def State.issueEnds (s : State) (die p : Nat) : Issue → State
  | .stall => s.setFacet die p { (s.facet die p).cycled with stall := true, back := false }
  | .fault c => s.facetFault die p (s.facet die p).seen c
  | .done h q es => es.foldl (fun s e => s.facetEffect die p e) (s.issued die p h q)

section issue
variable {s : State} {die p : Nat}

theorem fetchIssue_of {f : Facet} {b : Bundle} (h : f.upcoming = some b) (q : Ports) : f.cycled.fetchIssue q = f.seen.issue q b := by
  obtain ⟨hpc, hprog, hbad⟩ := sameProgram_seen f
  have hseen : f.cycled.land = f.seen := rfl
  unfold Facet.upcoming at h
  split at h
  · contradiction
  · rename_i hb
    simp only [Facet.fetchIssue, hseen, hpc, hprog, hbad, hb, Bool.false_eq_true, if_false, h]

/-- A cycle whose task has time left ends as its bundle does. -/
theorem issueCycle_calm (hw : (s.facet die p).watchdogDue = false) :
    s.issueCycle die p = s.issueEnds die p ((s.facet die p).cycled.fetchIssue (s.portsOf die p)) := by
  have hdone : { (s.facet die p).cycled with wdone := (s.facet die p).cycled.wdone || (s.facet die p).watchdogDue } = (s.facet die p).cycled := by
    rw [hw, Bool.or_false]
  unfold State.issueCycle
  simp only [hw, Bool.false_and, Bool.false_eq_true, if_false, Bool.or_false]
  show (match (s.facet die p).cycled.fetchIssue (s.portsOf die p) with
    | .stall => _
    | .fault c => _
    | .done h q es => _) = _
  cases (s.facet die p).cycled.fetchIssue (s.portsOf die p) <;> rfl

/-- A bundle that is due issues as `Facet.issue` says. -/
theorem issueAs_issues {b : Bundle} {kind : Bundle → Bool} (h : s.issues die p b) (hk : kind b = true) :
    s.issueAs die p kind = s.issueEnds die p ((s.facet die p).seen.issue (s.portsOf die p) b) := by
  unfold State.issueAs
  simp only [h.runs, h.next, hk, Bool.not_true, Bool.false_eq_true, if_false, if_true]
  rw [issueCycle_calm h.calm, fetchIssue_of h.next]

end issue

/-! ## A Facet outside delay slots, repetitions and loops -/

/-- Outside delay slots, repetitions and loops (R219 to R221). -/
structure Facet.Steady (f : Facet) : Prop where
  slot : f.slot = none
  rep : f.rep = 0
  loops : f.loops = []

theorem State.issues.steady {s : State} {die p : Nat} {b : Bundle} (h : s.issues die p b) : (s.facet die p).seen.Steady := ⟨h.slot, h.rep, h.loops⟩

section steady
variable {f : Facet}

theorem Facet.Steady.sched (h : f.Steady) (n : Nat) (ws : List FWrite) : (f.sched n ws).Steady := ⟨h.slot, h.rep, h.loops⟩

theorem Facet.Steady.store (h : f.Steady) (isB : Bool) (a : Nat) (v : BitVec 24) : (f.store isB a v).Steady := by
  cases isB <;> exact ⟨h.slot, h.rep, h.loops⟩

theorem Facet.Steady.post (h : f.Steady) (g : Facet) (n upd : Nat) (pair : Bool) : (f.post g n upd pair).Steady := by
  unfold Facet.post
  split
  · exact h
  · exact h.sched _ _

theorem Facet.Steady.imm (h : f.Steady) (x : ImmLoad) : (f.imm x).Steady := by
  unfold Facet.imm
  split <;> exact h.sched _ _

theorem Facet.Steady.mvx (h : f.Steady) (cls n : Nat) (v : BitVec 24) : (f.mvx cls n v).Steady := by
  unfold Facet.mvx
  split <;> exact h.sched _ _

/-- A move changes memories, writes on their way and ports alone. -/
theorem Facet.Steady.move (h : f.Steady) (g : Facet) (isB : Bool) (m : Move) (q : Ports) : (g.move isB m f q).1.Steady := by
  cases m with
  | none => exact h
  | ld r p u => exact (h.sched _ _).post ..
  | st r p u => exact (h.store ..).post ..
  | ldp r p u => exact (h.sched _ _).post ..
  | stp r p u => exact ((h.store ..).store ..).post ..
  | lda r p u => exact (h.sched _ _).post ..
  | sta r p u => exact ((h.store ..).sched _ _).post ..
  | mov r s => exact h.sched _ _
  | inp r x pair => cases pair <;> exact h.sched _ _
  | out r x pair => cases pair <;> exact h
  | outa r x => exact h.sched _ _

theorem Facet.Steady.advance (h : f.Steady) : f.advance = (f.next, []) := by
  unfold Facet.advance
  simp only [Facet.next, h.slot, h.rep, h.loops, Nat.not_lt_zero, if_false, Nat.zero_ne_one]

theorem Facet.Steady.lastOfBody (h : f.Steady) : f.lastOfBody = false := by
  unfold Facet.lastOfBody
  rw [h.loops]

/-! ## What each kind of bundle comes to -/

theorem Facet.Steady.issue_sys (h : f.Steady) (q : Ports) (c : Sys) (hs : (f.system q c).1.Steady) :
    f.issue q (.sys c) = .done (f.system q c).1.next q (f.system q c).2 := by
  simp only [Facet.issue, h.slot, h.rep, Option.isSome_none, Bool.false_and, Nat.lt_irrefl, decide_false, Bool.false_eq_true, if_false, hs.advance,
    List.append_nil]

theorem Facet.Steady.issue_imm (h : f.Steady) (q : Ports) (x : ImmLoad) :
    f.issue q (.imm x none) = .done (f.imm x).next q [] := by
  simp only [Facet.issue, h.slot, h.rep, Option.isSome_none, Bool.false_and, Nat.lt_irrefl, decide_false, Bool.false_eq_true, if_false,
    (h.imm x).advance, List.append_nil]

theorem Facet.Steady.issue_imm2 (h : f.Steady) (q : Ports) (x y : ImmLoad) :
    f.issue q (.imm x (some y)) = .done ((f.imm x).imm y).next q [] := by
  simp only [Facet.issue, h.slot, h.rep, Option.isSome_none, Bool.false_and, Nat.lt_irrefl, decide_false, Bool.false_eq_true, if_false,
    ((h.imm x).imm y).advance, List.append_nil]

theorem Facet.Steady.issue_ctl (h : f.Steady) (q : Ports) (c : Ctl) : f.issue q (.ctl c) = f.control q c := by
  simp only [Facet.issue, h.slot, h.rep, Option.isSome_none, Nat.lt_irrefl, Bool.false_eq_true, if_false, h.lastOfBody]

end steady

/-- A bundle leaves the states of the dies alone. -/
theorem dieLost_issued (s : State) (die p : Nat) (h : Facet) (q : Ports) (d : Nat) : (s.issued die p h q).dieLost d = s.dieLost d := by
  unfold State.issued
  split <;> rfl

theorem facetEffect_kick {s : State} {n : Nat} (die p : Nat) (h : s.dieLost (homeOf n) = false) : s.facetEffect die p (.kick n) = s.kick n :=
  if_neg (by rw [h]; decide)

/-- Settles O32: each bundle through what it comes to on its Facet, and its one effect outside. -/
theorem systemAndImmediateBundles : Obligations.SystemAndImmediateBundles := by
  intro s die p
  have hsys : ∀ {c : Sys} {kind : Bundle → Bool}, s.issues die p (.sys c) → kind (.sys c) = true →
      (((s.facet die p).seen.system (s.portsOf die p) c).1).Steady → s.issueAs die p kind =
        s.issueEnds die p (.done ((s.facet die p).seen.system (s.portsOf die p) c).1.next (s.portsOf die p) ((s.facet die p).seen.system (s.portsOf die p) c).2) :=
    fun h hk hs => (issueAs_issues h hk).trans (congrArg _ (h.steady.issue_sys _ _ hs))
  refine ⟨fun x h => ?imm, fun x y h => ?imm2, fun h => ?snop, fun m v h => ?mrs, fun m v h => ?srs, fun cls r n h => ?mvx, fun cls r n h => ?mxv,
    fun n imm h => ?padd, fun r port h => ?scnt, fun n h hl => ?qkick, fun r h hl => ?qkickd, fun sev code r h => ?record⟩
  case imm => exact congrArg Host.Outcome.next ((issueAs_issues h rfl).trans (congrArg _ (h.steady.issue_imm _ x)))
  case imm2 => exact congrArg Host.Outcome.next ((issueAs_issues h rfl).trans (congrArg _ (h.steady.issue_imm2 _ x y)))
  case snop => exact congrArg Host.Outcome.next (hsys h rfl h.steady)
  case mrs => exact congrArg Host.Outcome.next (hsys h rfl (h.steady.sched _ _))
  case srs => exact congrArg Host.Outcome.next (hsys h rfl (h.steady.sched _ _))
  case mvx => exact congrArg Host.Outcome.next (hsys h rfl (h.steady.mvx _ _ _))
  case mxv => exact congrArg Host.Outcome.next (hsys h rfl (h.steady.sched _ _))
  case padd => exact congrArg Host.Outcome.next (hsys h rfl (h.steady.sched _ _))
  case scnt => exact congrArg Host.Outcome.next (hsys h rfl (h.steady.sched _ _))
  case qkick =>
    refine congrArg Host.Outcome.next ((hsys h rfl h.steady).trans ?_)
    exact facetEffect_kick die p ((dieLost_issued ..).trans hl)
  case qkickd =>
    refine congrArg Host.Outcome.next ((hsys h rfl h.steady).trans ?_)
    exact facetEffect_kick die p ((dieLost_issued ..).trans hl)
  case record => exact congrArg Host.Outcome.next (hsys h rfl h.steady)

end Sys2Proof.Machine
end

section
/-!
PROOF. Control bundles and PAR bundles (R219, R220, R229, R230, R250, R253, R254, R264 to R268).
-/
namespace Sys2Proof.Machine

/-! ## Control bundles -/

section control
variable {f : Facet} {q : Ports}

theorem control_call {cc tgt : Nat} (h : f.calls.length < 8) : f.control q (.call cc tgt) =
    .done (if f.cond q cc = true then { f with calls := pc12 (f.pc + 3) :: f.calls }.branch (.goto tgt) else f.branch (.goto (pc12 (f.pc + 3)))) q [] := by
  by_cases hc : f.cond q cc = true
  · simp only [Facet.control, hc, if_true, Nat.not_le.mpr h, if_false]
  · simp only [Facet.control, hc, Bool.false_eq_true, if_false]
    rfl

theorem control_calli {cc r : Nat} (h : f.calls.length < 8) : f.control q (.calli cc r) =
    .done (if f.cond q cc = true then { f with calls := pc12 (f.pc + 3) :: f.calls }.branch (.goto ((f.dreg r).toNat % 4096))
      else f.branch (.goto (pc12 (f.pc + 3)))) q [] := by
  by_cases hc : f.cond q cc = true
  · simp only [Facet.control, hc, if_true, Nat.not_le.mpr h, if_false]
  · simp only [Facet.control, hc, Bool.false_eq_true, if_false]
    rfl

theorem control_ret {cc back : Nat} {rest : List Nat} (h : f.calls = back :: rest) : f.control q (.ret cc) =
    .done (if f.cond q cc = true then { f with calls := rest }.branch (.goto back) else f.branch (.goto (pc12 (f.pc + 3)))) q [] := by
  by_cases hc : f.cond q cc = true
  · simp only [Facet.control, hc, if_true, h]
  · simp only [Facet.control, hc, Bool.false_eq_true, if_false]
    rfl

theorem control_rtu {back : Nat} {rest : List Nat} (hs : f.state = .urgent) (h : f.calls = back :: rest) : f.control q .rtu =
    .done ({ f.sched 2 [.sr 0x10 0x10] with calls := rest }.branch (.leave back)) q [] := by
  simp only [Facet.control, hs, ne_eq, not_true_eq_false, if_false, h]

theorem control_loop {lc : Bool} {count tgt : Nat} (ht : f.pc + 2 ≤ tgt) (hl : f.loops = []) : f.control q (.loop lc count tgt) =
    .done (if (if lc then f.lc.toNat else count) = 0 then { f.next with pc := pc12 (tgt + 1) }
      else { f.next with loops := [⟨pc12 (f.pc + 1), tgt, if lc then f.lc.toNat else count⟩] }) q [] := by
  by_cases hn : (if lc then f.lc.toNat else count) = 0
  · simp only [Facet.control, Nat.not_lt.mpr ht, if_false, hn, if_true]
  · simp only [Facet.control, Nat.not_lt.mpr ht, if_false, hn, hl, List.length_nil, show ¬(4 ≤ 0) by decide]

end control

/-- Settles O33: each bundle through what its control operation comes to. -/
theorem controlBundles : Obligations.ControlBundles := by
  intro s die p
  have hctl : ∀ {c : Ctl} {kind : Bundle → Bool} {h : Facet} {es : List FEffect}, s.issues die p (.ctl c) → kind (.ctl c) = true →
      (s.facet die p).seen.control (s.portsOf die p) c = .done h (s.portsOf die p) es →
        s.issueAs die p kind = s.issueEnds die p (.done h (s.portsOf die p) es) :=
    fun h hk hc => (issueAs_issues h hk).trans (congrArg _ ((h.steady.issue_ctl _ _).trans hc))
  refine ⟨fun cc tgt h => ?br, fun cc r h => ?bri, fun cc tgt h hc => ?call, fun cc r h hc => ?calli, fun cc back rest h hc => ?ret, fun back rest h hu hc => ?rtu,
    fun h => ?wait, fun lc count tgt h ht => ?loop, fun h => ?lpop, fun n h => ?rep, fun task l r h => ?request, fun task l r h => ?urgent⟩
  case br => exact congrArg Host.Outcome.next (hctl h rfl rfl)
  case bri => exact congrArg Host.Outcome.next (hctl h rfl rfl)
  case call =>
    refine congrArg Host.Outcome.next ((hctl h rfl (control_call hc)).trans ?_)
    split <;> rfl
  case calli =>
    refine congrArg Host.Outcome.next ((hctl h rfl (control_calli hc)).trans ?_)
    split <;> rfl
  case ret =>
    refine congrArg Host.Outcome.next ((hctl h rfl (control_ret hc)).trans ?_)
    split <;> rfl
  case rtu => exact congrArg Host.Outcome.next (hctl h rfl (control_rtu hu hc))
  case wait => exact congrArg Host.Outcome.next (hctl h rfl rfl)
  case loop => exact congrArg Host.Outcome.next (hctl h rfl (control_loop ht h.loops))
  case lpop =>
    refine congrArg Host.Outcome.next ((hctl h rfl rfl).trans ?_)
    rw [h.loops]
    rfl
  case rep => exact congrArg Host.Outcome.next (hctl h rfl rfl)
  case request => exact congrArg Host.Outcome.next (hctl h rfl rfl)
  case urgent => exact congrArg Host.Outcome.next (hctl h rfl rfl)

/-! ## PAR bundles (R250 to R254) -/

section par
variable {f : Facet} {q : Ports} {c : Compute} {a m : Move}

theorem issue_par_missing (h : f.Steady) (hr : q.ready a m = false) : f.issue q (.par c a m) = .stall := by
  simp only [Facet.issue, h.slot, h.rep, Option.isSome_none, Bool.false_and, Nat.lt_irrefl, decide_false, Bool.false_eq_true, if_false, hr, Bool.not_false,
    if_true]

theorem issue_par_misaligned (h : f.Steady) (hr : q.ready a m = true) (ha : f.misaligned a = true ∨ f.misaligned m = true) :
    f.issue q (.par c a m) = .fault .align := by
  have hor : (f.misaligned a || f.misaligned m) = true := by simpa using ha
  simp only [Facet.issue, h.slot, h.rep, Option.isSome_none, Bool.false_and, Nat.lt_irrefl, decide_false, Bool.false_eq_true, if_false, hr, Bool.not_true,
    hor, if_true]

theorem issue_par_bad (h : f.Steady) (hr : q.ready a m = true) (ha : f.misaligned a = false) (hm : f.misaligned m = false)
    (hb : f.readsBad 0 a = true ∨ f.readsBad 8192 m = true) : f.issue q (.par c a m) = .fault .dataUe := by
  have hor : (f.readsBad 0 a || f.readsBad 8192 m) = true := by simpa using hb
  simp only [Facet.issue, h.slot, h.rep, Option.isSome_none, Bool.false_and, Nat.lt_irrefl, decide_false, Bool.false_eq_true, if_false, hr, Bool.not_true,
    ha, hm, Bool.or_self, hor, if_true]

/-- A PAR bundle that neither stalls nor faults: compute, the move of bank A, the move of bank B (R250, R253). -/
theorem issue_par (h : f.Steady) (hr : q.ready a m = true) (ha : f.misaligned a = false) (hm : f.misaligned m = false)
    (hba : f.readsBad 0 a = false) (hbm : f.readsBad 8192 m = false)
    (hx : (f.move false a (f.sched 2 (f.compute c)) q).2.2 = false)
    (hy : (f.move true m (f.move false a (f.sched 2 (f.compute c)) q).1 (f.move false a (f.sched 2 (f.compute c)) q).2.1).2.2 = false) :
    f.issue q (.par c a m) =
      .done (f.move true m (f.move false a (f.sched 2 (f.compute c)) q).1 (f.move false a (f.sched 2 (f.compute c)) q).2.1).1.next
        (f.move true m (f.move false a (f.sched 2 (f.compute c)) q).1 (f.move false a (f.sched 2 (f.compute c)) q).2.1).2.1 [] := by
  have hsteady := ((h.sched 2 (f.compute c)).move f false a q).move f true m (f.move false a (f.sched 2 (f.compute c)) q).2.1
  simp only [Facet.issue, h.slot, h.rep, Option.isSome_none, Bool.false_and, Nat.lt_irrefl, decide_false, Bool.false_eq_true, if_false, hr, Bool.not_true,
    ha, hm, hba, hbm, Bool.or_self, hx, hy, hsteady.advance, List.append_nil]

end par

/-- Only PAR bundles decode to one, and each of them writes no register twice and stays in range (R254, R258 to R262). -/
theorem decodeBundle_par {w : BitVec 64} {c : Compute} {a m : Move} (h : decodeBundle w = some (.par c a m)) : writesOnce c a m = true ∧ c.inRange = true := by
  unfold decodeBundle at h
  split at h
  · unfold decodePar at h
    dsimp only at h
    split at h
    · split at h
      · rename_i hb
        simp only [Bool.and_eq_true] at hb
        obtain ⟨⟨-, hrange⟩, honce⟩ := hb
        cases h
        exact ⟨honce, hrange⟩
      · contradiction
    · contradiction
  · unfold decodeImm at h
    dsimp only at h
    repeat' split at h
    all_goals cases h
  · unfold decodeCtl at h
    dsimp only at h
    repeat' split at h
    all_goals cases h
  · unfold decodeSys at h
    dsimp only at h
    repeat' split at h
    all_goals cases h

theorem decode_of_upcoming {f : Facet} {b : Bundle} (h : f.upcoming = some b) : decodeBundle (f.prog.get f.pc 0) = some b := by
  unfold Facet.upcoming at h
  split at h
  · contradiction
  · exact h

/-- A parity error in the bundle at PC faults the Facet (R211, R234). -/
theorem issueAs_parity {s : State} {die p : Nat} (kind : Bundle → Bool) (hr : s.facetIssues die p = true) (hw : (s.facet die p).watchdogDue = false)
    (hb : (s.facet die p).badProg.get (s.facet die p).pc false = true) :
    s.issueAs die p kind = s.facetFault die p (s.facet die p).seen .progPar := by
  have hnone : (s.facet die p).upcoming = none := if_pos hb
  obtain ⟨hpc, -, hbad⟩ := sameProgram_seen (s.facet die p)
  have hfetch : (s.facet die p).cycled.fetchIssue (s.portsOf die p) = .fault .progPar := if_pos (by
    show (s.facet die p).seen.badProg.get (s.facet die p).seen.pc false = true
    rw [hpc, hbad, hb])
  unfold State.issueAs
  simp only [hr, hnone, Bool.not_true, Bool.false_eq_true, if_false]
  rw [issueCycle_calm hw, hfetch]
  rfl

/-- Settles O34: what the bundle comes to by the order of its checks; the range rules by its decoding. -/
theorem parallelBundles : Obligations.ParallelBundles := by
  intro s die p c a m g q h
  have hpar : ∀ {i : Issue}, g.issue q (.par c a m) = i → exec (.parBundle die ⟨p, .none⟩) s = .next (s.issueEnds die p i) :=
    fun hi => congrArg Host.Outcome.next ((issueAs_issues h rfl).trans (congrArg _ hi))
  have hpc : ∀ c : Cause, ((s.facetFault die p g c).facet die p).pc = (s.facet die p).pc := fun c => by
    have hfacet := facet_setFacet s die p { g.settle with state := .faulted, stall := false }
    unfold State.facetFault
    rw [flagErr_frame]
    exact (congrArg Facet.pc hfacet).trans ((sameProgram_settle g).pc.trans (sameProgram_seen _).pc)
  refine ⟨fun hr ha hm hba hbm hx hy => ?plain, fun hr => ?missing, fun hr hm => ?misaligned, ?parity, fun hr ha hm hb => ?uncorrectable, ?rules⟩
  case plain => exact hpar (issue_par h.steady hr ha hm hba hbm hx hy)
  case missing =>
    have hfacet := facet_setFacet s die p { (s.facet die p).cycled with stall := true, back := false }
    exact ⟨_, hpar (issue_par_missing h.steady hr), rfl, congrArg Facet.stall hfacet, (congrArg Facet.pc hfacet :), rfl⟩
  case misaligned =>
    obtain ⟨hst, hrd, -, -⟩ := facetFault_spec s die p g .align
    exact ⟨_, hpar (issue_par_misaligned h.steady hr hm), hst, hpc .align, hrd⟩
  case parity =>
    have hfacet := facet_setFacet s die p { s.facet die p with badProg := (s.facet die p).badProg.set (s.facet die p).pc true false }
    have hstrike : s.strike die p .program = s.setFacet die p { s.facet die p with badProg := (s.facet die p).badProg.set (s.facet die p).pc true false } :=
      if_pos h.runs
    have hruns : (s.strike die p .program).facetIssues die p = true := by
      rw [hstrike]
      unfold State.facetIssues
      rw [hfacet]
      exact h.runs
    have hcalm : ((s.strike die p .program).facet die p).watchdogDue = false := by
      rw [hstrike, hfacet]
      exact h.calm
    have hbad : ((s.strike die p .program).facet die p).badProg.get ((s.strike die p .program).facet die p).pc false = true := by
      rw [hstrike, hfacet]
      exact SMap.get_set_self (s.facet die p).badProg (s.facet die p).pc true false
    have hat : ((s.strike die p .program).facet die p).seen.pc = g.pc := by
      rw [(sameProgram_seen _).pc, hstrike, hfacet]
      exact (sameProgram_seen (s.facet die p)).pc.symm
    obtain ⟨hst, hrd, -, -⟩ := facetFault_spec (s.strike die p .program) die p ((s.strike die p .program).facet die p).seen .progPar
    exact ⟨_, congrArg Host.Outcome.next (issueAs_parity _ hruns hcalm hbad), hst, by rw [hrd, hat]⟩
  case uncorrectable =>
    obtain ⟨hst, hrd, -, -⟩ := facetFault_spec s die p g .dataUe
    exact ⟨_, hpar (issue_par_bad h.steady hr ha hm hb), hst, hrd⟩
  case rules => exact decodeBundle_par (decode_of_upcoming h.next)

end Sys2Proof.Machine
end

section
/-!
PROOF. The arithmetic of results and pointers (R214, R224 to R226, R256).
-/
namespace Sys2Proof.Machine

/-! ## Results (R225, R256) -/

/-- A value that fits a signed width is what the word of that width holds. -/
theorem toInt_ofInt_of_fits {n : Nat} {x : Int} (hlo : -(2 ^ (n - 1)) ≤ x) (hhi : x < 2 ^ (n - 1)) (hn : 0 < n) : (BitVec.ofInt n x).toInt = x :=
  BitVec.toInt_ofInt_eq_self hn hlo hhi

theorem fit_wraps (x : Int) : (fit false x).1.toInt = x.bmod (2 ^ 56) ∧ ((fit false x).2 = true ↔ (fit false x).1.toInt ≠ x) := by
  have hw : (fit false x).1.toInt = x.bmod (2 ^ 56) := BitVec.toInt_ofInt x
  refine ⟨hw, ?_⟩
  rw [hw]
  simp only [fit, Bool.false_eq_true, if_false, decide_eq_true_eq]
  have hb : x.bmod (2 ^ 56) = x ↔ -(2 ^ 55) ≤ x ∧ x ≤ 2 ^ 55 - 1 := by
    rw [Int.bmod_def]
    split <;> omega
  rw [ne_eq, hb]
  omega

theorem fit_saturates (x : Int) : (fit true x).1.toInt = max (-(2 ^ 47)) (min (2 ^ 47 - 1) x) ∧ ((fit true x).2 = true ↔ (fit true x).1.toInt ≠ x) := by
  by_cases h1 : x > 2 ^ 47 - 1
  · have hfit : fit true x = (BitVec.ofInt 56 (2 ^ 47 - 1), true) := by simp only [fit, if_true, h1]
    rw [hfit, toInt_ofInt_of_fits (by decide) (by decide) (by decide)]
    exact ⟨by omega, fun _ => by omega, fun _ => rfl⟩
  · by_cases h2 : x < -(2 ^ 47)
    · have hfit : fit true x = (BitVec.ofInt 56 (-(2 ^ 47)), true) := by simp only [fit, if_true, h1, h2, if_false]
      rw [hfit, toInt_ofInt_of_fits (by decide) (by decide) (by decide)]
      exact ⟨by omega, fun _ => by omega, fun _ => rfl⟩
    · have hfit : fit true x = (BitVec.ofInt 56 x, false) := by simp only [fit, if_true, h1, h2, if_false]
      rw [hfit, toInt_ofInt_of_fits (by omega) (by omega) (by decide)]
      exact ⟨by omega, fun h => absurd (show false = true from h) Bool.false_ne_true, fun h => absurd rfl h⟩

theorem limit24_spec (q : Int) : (limit24 q).1.toInt = max (-(2 ^ 23)) (min (2 ^ 23 - 1) q) ∧ ((limit24 q).2 = true ↔ q < -(2 ^ 23) ∨ 2 ^ 23 - 1 < q) := by
  by_cases h1 : q > 2 ^ 23 - 1
  · have hlim : limit24 q = (0x7FFFFF, true) := if_pos h1
    have hmax : (0x7FFFFF : BitVec 24).toInt = 2 ^ 23 - 1 := by decide
    rw [hlim, hmax]
    exact ⟨by omega, fun _ => by omega, fun _ => rfl⟩
  · by_cases h2 : q < -(2 ^ 23)
    · have hlim : limit24 q = (0x800000, true) := (if_neg h1).trans (if_pos h2)
      have hmin : (0x800000 : BitVec 24).toInt = -(2 ^ 23) := by decide
      rw [hlim, hmin]
      exact ⟨by omega, fun _ => by omega, fun _ => rfl⟩
    · have hlim : limit24 q = (BitVec.ofInt 24 q, false) := (if_neg h1).trans (if_neg h2)
      rw [hlim, toInt_ofInt_of_fits (by omega) (by omega) (by decide)]
      exact ⟨by omega, fun h => absurd (show false = true from h) Bool.false_ne_true, fun h => by omega⟩

/-- Rounding of R225 as one division: half up, or down where the quotient is even. -/
theorem roundShift_23 (rnd : Bool) (y : Int) :
    roundShift 23 rnd y = if rnd = true ∨ (y / 2 ^ 23) % 2 = 1 then (y + 2 ^ 22) / 2 ^ 23 else (y + 2 ^ 22 - 1) / 2 ^ 23 := by
  cases rnd with
  | true =>
    simp only [roundShift, if_true, true_or]
    split <;> omega
  | false =>
    simp only [roundShift, Bool.false_eq_true, if_false, false_or]
    split <;> split <;> omega

/-- The accumulator as a move out scales it (R225). -/
def scaled (scl : Nat) (a : BitVec 56) : Int :=
  if scl = 1 then a.toInt / 2 else if scl = 2 then a.toInt / 4 else if scl = 3 then 2 * a.toInt else a.toInt

theorem moveOut_unsaturated {scl : Nat} (rnd : Bool) (a : BitVec 56) (h : scl < 4) :
    moveOut scl rnd false a = limit24 (roundShift 23 rnd (scaled scl a)) := by
  match scl with
  | 0 => rfl
  | 1 => rfl
  | 2 => rfl
  | 3 =>
    have hcomm : a.toInt * 2 = 2 * a.toInt := Int.mul_comm _ _
    simp only [moveOut, scaled, Bool.false_eq_true, if_false, hcomm]
    rfl
  | n + 4 => exact absurd h (by omega)

/-- A data word placed into an accumulator moves out as it was (R224, R225). -/
theorem moveOut_placed (scl : Nat) (rnd : Bool) (d : BitVec 24) : moveOut scl rnd true (placed d) = (d, false) := by
  have hlo := BitVec.le_toInt d
  have hhi := BitVec.toInt_lt (x := d)
  have hp : (placed d).toInt = d.toInt * 2 ^ 23 := toInt_ofInt_of_fits (by omega) (by omega) (by decide)
  have hmove : moveOut scl rnd true (placed d) = limit24 (roundShift 23 rnd (placed d).toInt) := rfl
  have hround : roundShift 23 rnd (d.toInt * 2 ^ 23) = d.toInt := by
    rw [roundShift_23]
    split <;> omega
  rw [hmove, hp, hround, limit24, if_neg (by omega), if_neg (by omega), BitVec.ofInt_toInt]

/-! ## Pointers (R214) -/

theorem pointerUpdate_linear (ptr : Nat) (step : Int) : (pointerUpdate ptr 0 step : Int) = (ptr + step) % 8192 := by
  have h : pointerUpdate ptr 0 step = (((ptr : Int) + step) % 8192).toNat := if_pos rfl
  rw [h]
  omega

/-- A step within a circular buffer that lies in the bank. -/
theorem pointerUpdate_circular {ptr len : Nat} (step : Int) (hl : 0 < len) (hb : ptr - ptr % len + len ≤ 8192) :
    (pointerUpdate ptr len step : Int) = (ptr - ptr % len : Nat) + ((ptr - (ptr - ptr % len) : Nat) + step) % (len : Int) := by
  have hne : len ≠ 0 := by omega
  have hpos := Int.emod_nonneg ((ptr - (ptr - ptr % len) : Nat) + step) (b := (len : Int)) (by omega)
  have hlt := Int.emod_lt_of_pos ((ptr - (ptr - ptr % len) : Nat) + step) (b := (len : Int)) (by omega)
  unfold pointerUpdate
  rw [if_neg hne]
  dsimp only
  generalize ((ptr - (ptr - ptr % len) : Nat) + step) % (len : Int) = k at *
  omega

theorem pointerUpdate_stays {ptr len : Nat} (step : Int) (hl : 0 < len) (hb : ptr - ptr % len + len ≤ 8192) :
    (ptr - ptr % len ≤ pointerUpdate ptr len step ∧ pointerUpdate ptr len step < ptr - ptr % len + len) ∧
      ((pointerUpdate ptr len step : Int) - ptr - step) % len = 0 := by
  have h := pointerUpdate_circular step hl hb
  have hpos := Int.emod_nonneg ((ptr - (ptr - ptr % len) : Nat) + step) (b := (len : Int)) (by omega)
  have hlt := Int.emod_lt_of_pos ((ptr - (ptr - ptr % len) : Nat) + step) (b := (len : Int)) (by omega)
  refine ⟨by omega, ?_⟩
  have hle : ptr % len ≤ ptr := Nat.mod_le ..
  have hdiff : (pointerUpdate ptr len step : Int) - ptr - step =
      len * -(((ptr - (ptr - ptr % len) : Nat) + step) / (len : Int)) := by
    have hdiv := Int.emod_add_mul_ediv ((ptr - (ptr - ptr % len) : Nat) + step) (len : Int)
    rw [Int.mul_neg]
    omega
  rw [hdiff]
  exact Int.mul_emod_right ..

/-! ## Bit reversal (R214) -/

theorem revBits_lt (k x : Nat) : revBits k x < 2 ^ k := by
  induction k generalizing x with
  | zero => exact Nat.one_pos
  | succ k ih =>
    have h := ih (x / 2)
    have hx : x % 2 * 2 ^ k ≤ 1 * 2 ^ k := Nat.mul_le_mul_right _ (by omega)
    rw [revBits, Nat.pow_succ]
    omega

theorem testBit_revBits {k i : Nat} (x : Nat) (h : i < k) : (revBits k x).testBit i = x.testBit (k - 1 - i) := by
  induction k generalizing x with
  | zero => omega
  | succ k ih =>
    rw [revBits, Nat.mul_comm, Nat.testBit_two_pow_mul_add _ (revBits_lt k _)]
    by_cases hi : i < k
    · rw [if_pos hi, ih _ hi, Nat.testBit_div_two]
      congr 1
      omega
    · have hik : i = k := by omega
      subst hik
      simp

theorem revBits_revBits {k x : Nat} (h : x < 2 ^ k) : revBits k (revBits k x) = x := by
  refine Nat.eq_of_testBit_eq fun i => ?_
  by_cases hi : i < k
  · rw [testBit_revBits _ hi, testBit_revBits _ (by omega)]
    congr 1
    omega
  · have hpow : 2 ^ k ≤ 2 ^ i := Nat.pow_le_pow_right (by decide) (by omega)
    rw [Nat.testBit_lt_two_pow (Nat.lt_of_lt_of_le (revBits_lt k _) hpow), Nat.testBit_lt_two_pow (Nat.lt_of_lt_of_le h hpow)]

theorem issuedAddress_inside {ptr len : Nat} (brev : Bool) (hl : 0 < len) (hb : ptr - ptr % len + len ≤ 8192) :
    ptr - ptr % len ≤ issuedAddress ptr len brev ∧ issuedAddress ptr len brev < ptr - ptr % len + len := by
  have hmod := Nat.mod_lt ptr hl
  have hle : ptr % len ≤ ptr := Nat.mod_le ..
  unfold issuedAddress
  dsimp only
  split
  · rename_i h
    have hlen : len = 2 ^ Nat.log2 len := by simp only [Bool.and_eq_true, beq_iff_eq] at h; exact h.2
    have hrev := revBits_lt (Nat.log2 len) (ptr - (ptr - ptr % len))
    omega
  · omega

/-- The address of a reversed walk in a buffer of 2^k words: the pointer with its low `k` bits reversed. -/
theorem issuedAddress_reversed {ptr k : Nat} (h1 : 1 ≤ k) (h12 : k ≤ 12) (hp : ptr < 8192) :
    issuedAddress ptr (2 ^ k) true = 2 ^ k * (ptr / 2 ^ k) + revBits k (ptr % 2 ^ k) ∧ 2 ^ k * (ptr / 2 ^ k) + revBits k (ptr % 2 ^ k) < 8192 := by
  have hlog : Nat.log2 (2 ^ k) = k := Nat.log2_two_pow
  have hsplit := Nat.div_add_mod ptr (2 ^ k)
  have hmod := Nat.mod_lt ptr (Nat.two_pow_pos k)
  have hrev := revBits_lt k (ptr % 2 ^ k)
  have hroom : 2 ^ k * (ptr / 2 ^ k) + 2 ^ k ≤ 8192 := by
    have hpow : 8192 = 2 ^ k * 2 ^ (13 - k) := by rw [← Nat.pow_add, Nat.add_sub_cancel' (by omega)]
    have hq : ptr / 2 ^ k + 1 ≤ 2 ^ (13 - k) := Nat.div_lt_of_lt_mul (hpow ▸ hp)
    calc 2 ^ k * (ptr / 2 ^ k) + 2 ^ k = 2 ^ k * (ptr / 2 ^ k + 1) := (Nat.mul_succ ..).symm
      _ ≤ 2 ^ k * 2 ^ (13 - k) := Nat.mul_le_mul_left _ hq
      _ = 8192 := hpow.symm
  have hbase : ptr - ptr % 2 ^ k = 2 ^ k * (ptr / 2 ^ k) := by omega
  have hoff : ptr - 2 ^ k * (ptr / 2 ^ k) = ptr % 2 ^ k := by omega
  refine ⟨?_, by omega⟩
  unfold issuedAddress
  simp only [hlog, h1, h12, and_self, decide_true, Bool.true_and, beq_self_eq_true, if_true, hbase, hoff]
  exact Nat.mod_eq_of_lt (by omega)

theorem issuedAddress_involutive {ptr k : Nat} (h1 : 1 ≤ k) (h12 : k ≤ 12) (hp : ptr < 8192) :
    issuedAddress (issuedAddress ptr (2 ^ k) true) (2 ^ k) true = ptr := by
  obtain ⟨heq, hlt⟩ := issuedAddress_reversed h1 h12 hp
  have hrev := revBits_lt k (ptr % 2 ^ k)
  rw [heq, (issuedAddress_reversed h1 h12 hlt).1, Nat.mul_add_div (Nat.two_pow_pos k), Nat.div_eq_of_lt hrev, Nat.mul_add_mod, Nat.mod_eq_of_lt hrev,
    revBits_revBits (Nat.mod_lt _ (Nat.two_pow_pos k)), Nat.add_zero]
  exact Nat.div_add_mod ptr (2 ^ k)

theorem issuedAddress_testBit {ptr k i : Nat} (h1 : 1 ≤ k) (h12 : k ≤ 12) (hp : ptr < 8192) (hi : i < k) :
    (issuedAddress ptr (2 ^ k) true).testBit i = ptr.testBit (k - 1 - i) := by
  rw [(issuedAddress_reversed h1 h12 hp).1, Nat.testBit_two_pow_mul_add _ (revBits_lt k _), if_pos hi, testBit_revBits _ hi, Nat.testBit_mod_two_pow]
  simp [show k - 1 - i < k by omega]

/-- Settles O36: results by the branches of `fit` and `limit24`, pointers by their buffer, reversed addresses bit by bit. -/
theorem resultsFitRoundAndWalk : Obligations.ResultsFitRoundAndWalk := by
  refine ⟨fit_wraps, fit_saturates, fun scl rnd a => rfl, fun scl rnd a h => ?moveOut, moveOut_placed, pointerUpdate_linear,
    fun ptr len step hl hp hb => ⟨(pointerUpdate_stays step hl hb).1, (pointerUpdate_stays step hl hb).2, fun brev => issuedAddress_inside brev hl hb⟩,
    fun ptr k h1 h12 hp => ⟨issuedAddress_involutive h1 h12 hp, fun i hi => issuedAddress_testBit h1 h12 hp hi⟩⟩
  case moveOut =>
    rw [moveOut_unsaturated rnd a h]
    obtain ⟨hval, hflag⟩ := limit24_spec (roundShift 23 rnd (scaled scl a))
    rw [roundShift_23] at hval hflag ⊢
    exact ⟨hval, hflag⟩

end Sys2Proof.Machine
end

section
/-!
PROOF. Power domains: entering and leaving states, control, deep sleep, thermal trip, island faults (R273 to R279, R291, R296, R297).
-/
namespace Sys2Proof.Machine

/-! ## What stopping and starting work leaves alone -/

/-- Power state, spine and pads stay. -/
structure PowerKept (s t : State) : Prop where
  power : t.power = s.power
  spine : t.spine = s.spine
  pins : t.pins = s.pins

section kept
variable {s t : State}

theorem PowerKept.rfl : PowerKept s s := ⟨Eq.refl _, Eq.refl _, Eq.refl _⟩

theorem PowerKept.foldl {α : Type} {l : List α} {f : State → α → State} (h : PowerKept s t) (hf : ∀ u a, PowerKept s u → PowerKept s (f u a)) :
    PowerKept s (l.foldl f t) := List.foldlRecOn l f (motive := PowerKept s) h fun u hu a _ => hf u a hu

theorem PowerKept.flagErr (h : PowerKept s t) (k i sev code : Nat) : PowerKept s (t.flagErr k i sev code) := by
  rw [flagErr_frame]
  exact ⟨h.power, h.spine, h.pins⟩

theorem PowerKept.setFacet (h : PowerKept s t) (die p : Nat) (f : Facet) : PowerKept s (t.setFacet die p f) := ⟨h.power, h.spine, h.pins⟩

theorem PowerKept.wr (h : PowerKept s t) (k : Nat) (w : Word) : PowerKept s (t.wr k w) := ⟨h.power, h.spine, h.pins⟩
theorem PowerKept.flag (h : PowerKept s t) (k i : Nat) : PowerKept s (t.flag k i) := h.wr ..
theorem PowerKept.raise (h : PowerKept s t) (sev code die unit inst : Nat) : PowerKept s (t.raise sev code die unit inst) := ⟨h.power, h.spine, h.pins⟩
theorem PowerKept.setQueue (h : PowerKept s t) (q : Nat) (x : Queue) : PowerKept s (t.setQueue q x) := ⟨h.power, h.spine, h.pins⟩
theorem PowerKept.setChan (h : PowerKept s t) (c : Nat) (x : Channel) : PowerKept s (t.setChan c x) := ⟨h.power, h.spine, h.pins⟩
theorem PowerKept.setCxl (h : PowerKept s t) (p : Nat) (x : CxlPort) : PowerKept s (t.setCxl p x) := ⟨h.power, h.spine, h.pins⟩
theorem PowerKept.setLocked (h : PowerKept s t) (die q : Nat) (b v : Bool) : PowerKept s (t.setLocked die q b v) := ⟨h.power, h.spine, h.pins⟩
theorem PowerKept.laneOff (h : PowerKept s t) (die l : Nat) : PowerKept s (t.laneOff die l) := ⟨h.power, h.spine, h.pins⟩
theorem PowerKept.setRegion (h : PowerKept s t) (die rg : Nat) (x : Region) : PowerKept s (t.setRegion die rg x) := ⟨h.power, h.spine, h.pins⟩
theorem PowerKept.setFabric (h : PowerKept s t) (f : Fabric → Fabric) : PowerKept s (t.setFabric f) := ⟨h.power, h.spine, h.pins⟩
theorem PowerKept.emptyReady (h : PowerKept s t) (die rg : Nat) : PowerKept s (t.emptyReady die rg) := ⟨h.power, h.spine, h.pins⟩
theorem PowerKept.clearInst (h : PowerKept s t) (die unit inst : Nat) : PowerKept s (t.clearInst die unit inst) := ⟨h.power, h.spine, h.pins⟩
theorem PowerKept.functionReset (h : PowerKept s t) (p : Nat) : PowerKept s (t.functionReset p) := ⟨h.power, h.spine, h.pins⟩
theorem PowerKept.netFrozen (h : PowerKept s t) (l : SMap Bool) : PowerKept s { t with net := { t.net with frozen := l } } := ⟨h.power, h.spine, h.pins⟩

theorem PowerKept.facetRest (h : PowerKept s t) (die p : Nat) (f : Facet) : PowerKept s (t.facetRest die p f) := by
  unfold State.facetRest
  dsimp only
  repeat' split
  all_goals exact h.setFacet ..

theorem PowerKept.stopFacets (h : PowerKept s t) (die rg : Nat) (reset : Bool) : PowerKept s (t.stopFacets die rg reset) :=
  h.foldl fun _ _ hu => hu.setFacet ..

theorem PowerKept.restartFacets (h : PowerKept s t) (die rg : Nat) : PowerKept s (t.restartFacets die rg) := by
  unfold State.restartFacets
  split
  · exact h
  · refine h.foldl fun u k hu => ?_
    dsimp only
    split
    · exact hu.facetRest ..
    · exact hu

theorem PowerKept.portsRetrain (h : PowerKept s t) (die l : Nat) : PowerKept s (t.portsRetrain die l) := by
  refine h.foldl fun u p hu => ?_
  dsimp only
  split
  · exact ⟨hu.power, hu.spine, hu.pins⟩
  · exact hu

theorem PowerKept.quadStops (h : PowerKept s t) (die q : Nat) : PowerKept s (t.quadStops die q) := by
  unfold State.quadStops
  exact ((h.foldl fun _ _ hu => (hu.laneOff ..).portsRetrain ..).setLocked ..).setLocked ..

theorem PowerKept.linkLost (h : PowerKept s t) (p : Nat) (linkB : Bool) (next : Nat) : PowerKept s (t.linkLost p linkB next) := by
  unfold State.linkLost
  dsimp only
  split
  · exact h
  · split
    · exact h.wr ..
    · refine (((h.setCxl ..).wr ..).flagErr ..).foldl fun u r hu => ?_
      rw [completeAccess_frame]
      exact ⟨hu.power, hu.spine, hu.pins⟩

theorem PowerKept.peerLost (h : PowerKept s t) (q code : Nat) : PowerKept s (t.peerLost q code) := by
  have hfirst : ∀ u : State, PowerKept s u → PowerKept s (u.firstError q code) := fun u hu => by
    unfold State.firstError
    dsimp only
    split
    · exact hu
    · exact hu.wr ..
  unfold State.peerLost
  dsimp only
  split
  · exact hfirst _ ((h.setQueue ..).flag ..)
  · exact hfirst _ ((h.setQueue ..).flag ..)
  · exact hfirst _ ((h.setQueue ..).flag ..)
  · exact hfirst _ ((h.setQueue ..).flag ..)
  · exact h

theorem PowerKept.hostGone (h : PowerKept s t) (p : Nat) : PowerKept s (t.hostGone p) := by
  unfold State.hostGone State.peersLost
  exact (h.foldl fun _ _ hu => hu.peerLost ..).foldl fun _ _ hu => hu.raise ..

theorem PowerKept.cxlLinkLost (h : PowerKept s t) (p : Nat) (linkB : Bool) (next : Nat) : PowerKept s (t.cxlLinkLost p linkB next) := by
  unfold State.cxlLinkLost
  dsimp only
  split
  · exact ((h.linkLost ..).functionReset p).hostGone p
  · exact h.linkLost ..

theorem PowerKept.freezeFollows (h : PowerKept s t) : PowerKept s t.freezeFollows := by
  unfold State.freezeFollows
  refine PowerKept.netFrozen (h.foldl fun u key hu => ?_) _
  dsimp only
  obtain ⟨g, l, hframe⟩ := haltFacet_frame u (keyDie key) (keyInst key) (u.facet (keyDie key) (keyInst key)).haltDbg (wbit (u.rd key) 1 && u.classHalted 3)
  rw [hframe]
  exact ⟨hu.power, hu.spine, hu.pins⟩

theorem PowerKept.stopDomain (h : PowerKept s t) (g st : Nat) : PowerKept s (t.stopDomain g st) := by
  unfold State.stopDomain
  dsimp only
  split
  · exact h.stopFacets ..
  split
  · exact h.quadStops ..
  split
  · split
    · exact ⟨h.power, h.spine, h.pins⟩
    · split
      · exact ⟨h.power, h.spine, h.pins⟩
      · exact h
  split
  · exact (h.cxlLinkLost ..).cxlLinkLost ..
  split
  · exact PowerKept.freezeFollows ⟨h.power, h.spine, h.pins⟩
  · exact h

theorem PowerKept.takeDown (h : PowerKept s t) (die rg : Nat) : PowerKept s (t.takeDown die rg) := (h.stopFacets die rg true).emptyReady ..

theorem PowerKept.zeroRegion (h : PowerKept s t) (die rg : Nat) : PowerKept s (t.zeroRegion die rg) := by
  unfold State.zeroRegion State.initialise
  exact ((h.foldl fun _ _ hu => hu.setFacet ..).setFabric _).setFabric _

theorem PowerKept.leaveOff (h : PowerKept s t) (g : Nat) : PowerKept s (t.leaveOff g) := by
  have hflag := h.flag (domStatKey g) 3
  unfold State.leaveOff
  dsimp only
  split
  · exact ((hflag.takeDown ..).zeroRegion ..).setRegion ..
  split
  · exact (hflag.foldl fun _ _ hu => (hu.setFacet ..).wr ..).restartFacets ..
  split
  · exact (hflag.foldl fun _ _ hu => hu.clearInst ..).clearInst ..
  split
  · split
    · exact hflag.setChan ..
    · exact hflag
  · exact hflag

theorem PowerKept.leaveSleep (h : PowerKept s t) (g : Nat) : PowerKept s (t.leaveSleep g) := by
  unfold State.leaveSleep
  dsimp only
  split
  · exact h.restartFacets ..
  split
  · split
    · exact ⟨h.power, h.spine, h.pins⟩
    · exact h
  · exact h

theorem PowerKept.trans {u : State} (h : PowerKept s t) (h' : PowerKept t u) : PowerKept s u :=
  ⟨h'.power.trans h.power, h'.spine.trans h.spine, h'.pins.trans h.pins⟩

end kept

/-! ## Entering a state (R276 to R278) -/

/-- A domain stands at a state and wakes no more; the other domains, the spine and the safe states of the pads stay. -/
structure Entered (s t : State) (g st : Nat) : Prop where
  dom : ∀ g', t.domSt g' = if g' = g then st else s.domSt g'
  wakes : ∀ g', t.power.wakes.get g' false = if g' = g then false else s.power.wakes.get g' false
  others : t.power = { s.power with dom := t.power.dom, wakes := t.power.wakes }
  spine : t.spine = s.spine
  safe : t.pins.safe = s.pins.safe

theorem domSt_congr {s t : State} (h : t.power = s.power) (g : Nat) : t.domSt g = s.domSt g := congrArg (fun p : Power => p.dom.get g 0) h

/-- What keeps the power state after an entry keeps the entry. -/
theorem Entered.kept {s t u : State} {g st : Nat} (h : Entered s t g st) (h' : PowerKept t u) : Entered s u g st where
  dom g' := (domSt_congr h'.power g').trans (h.dom g')
  wakes g' := (congrArg (fun p : Power => p.wakes.get g' false) h'.power).trans (h.wakes g')
  others := by rw [h'.power]; exact h.others
  spine := h'.spine.trans h.spine
  safe := (congrArg Pins.safe h'.pins).trans h.safe

theorem entered_putDom (s : State) (g st : Nat) : Entered s (s.putDom g st) g st where
  dom g' := SMap.get_set s.power.dom g' g st 0
  wakes g' := SMap.get_set s.power.wakes g' g false false
  others := rfl
  spine := rfl
  safe := rfl

/-- Entering after another state of the same domain is entering. -/
theorem Entered.after {s t u : State} {g st st' : Nat} (h : Entered s t g st) (h' : Entered t u g st') : Entered s u g st' where
  dom g' := by rw [h'.dom, h.dom]; split <;> rfl
  wakes g' := by rw [h'.wakes, h.wakes]; split <;> rfl
  others := by
    have h2 := h'.others
    rw [h.others] at h2
    exact h2
  spine := h'.spine.trans h.spine
  safe := h'.safe.trans h.safe

/-- An entry of what kept the power state is an entry. -/
theorem PowerKept.entered {s t u : State} {g st : Nat} (h : PowerKept s t) (h' : Entered t u g st) : Entered s u g st where
  dom g' := by rw [h'.dom, domSt_congr h.power]
  wakes g' := by rw [h'.wakes, h.power]
  others := by rw [← h.power]; exact h'.others
  spine := h'.spine.trans h.spine
  safe := h'.safe.trans (congrArg Pins.safe h.pins)

theorem entered_withStates {s u : State} {g st : Nat} (dies : List Nat) (f : State → State) (h : Entered s (f u) g st) : Entered s (u.withStates dies f) g st := by
  obtain ⟨m, hm⟩ := withStates_pads u dies f
  rw [hm]
  exact ⟨h.dom, h.wakes, h.others, h.spine, h.safe⟩

/-- A domain that is asked for a state stands in it (R276). -/
theorem entered_enterDom (s : State) (g st : Nat) : Entered s (s.enterDom g st) g st := by
  unfold State.enterDom
  dsimp only
  split
  · rename_i hold
    refine ⟨fun g' => ?_, fun g' => SMap.get_set s.power.wakes g' g false false, rfl, rfl, rfl⟩
    by_cases hg : g' = g
    · subst hg; exact hold.trans (if_pos rfl).symm
    · exact (if_neg hg).symm
  · have hput : ∀ u, (PowerKept s u ∨ Entered s u g 0) → Entered s (u.withStates (padsOf g) (fun s => s.putDom g st)) g st := fun u hu => by
      refine entered_withStates _ _ ?_
      rcases hu with hu | hu
      · exact hu.entered (entered_putDom u g st)
      · exact hu.after (entered_putDom u g st)
    by_cases hst : st = 0
    · subst hst
      have hentered := hput s (.inl .rfl)
      simp only [ne_eq, not_true_eq_false, and_false, if_false, if_true]
      split
      · exact hentered.kept (PowerKept.rfl.leaveOff g)
      · exact hentered.kept (PowerKept.rfl.leaveSleep g)
    · simp only [hst, ne_eq, not_false_eq_true, and_true, if_true, if_false]
      refine hput _ ?_
      split
      · exact .inr (((entered_putDom s g 0).kept (PowerKept.rfl.leaveOff g)).kept (PowerKept.rfl.stopDomain g st))
      · exact .inl (PowerKept.rfl.stopDomain g st)

theorem domSt_enterDom (s : State) (g st : Nat) : (s.enterDom g st).domSt g = st := ((entered_enterDom s g st).dom g).trans (if_pos rfl)

end Sys2Proof.Machine
end

section
/-!
PROOF. The commands of the power domains (R274 to R279, R291, R296, R297).
-/
namespace Sys2Proof.Machine

/-! ## PWR_DOM_CTL (R277) -/

/-- The domains in three runs: Regions, Facets, and the rest. -/
theorem forall_domains {P : Nat → Prop} (h1 : ∀ k < 64, P k) (h2 : ∀ k < 64, P (64 + k)) (h3 : ∀ k < 37, P (128 + k)) : ∀ g < 165, P g := by
  intro g hg
  by_cases h64 : g < 64
  · exact h1 g h64
  · by_cases h128 : g < 128
    · exact (show 64 + (g - 64) = g by omega) ▸ h2 (g - 64) (by omega)
    · exact (show 128 + (g - 128) = g by omega) ▸ h3 (g - 128) (by omega)

theorem domInst_domOf : ∀ g < 165, domOf (domInst g).1 (domInst g).2 = some g ∧ (domInst g).2 < 37 :=
  forall_domains (by decide) (by decide) (by decide)

theorem single_PWR_DOM_CTL : ∀ g < 165, singleReg (domCtlKey g) = true ∧ pairHalf (domCtlKey g) = .none :=
  forall_domains (by decide) (by decide) (by decide)

section control
variable {s : State} {g : Nat} {w : Word}

theorem regWrite_domCtl (s : State) (req : Nat) (w : Word) (hg : g < 165) :
    (s.touched req (domCtlKey g)).regWrite (domCtlKey g) req w = s.domCtlWrite g w := by
  obtain ⟨hof, hi⟩ := domInst_domOf g hg
  have hi' : (domInst g).2 < 4096 := by omega
  unfold domCtlKey Reg.PWR_DOM_CTL
  simp [State.touched, State.regWrite, keyUnit_regKey, keyOff_regKey, keyInst_regKey, keyDie_regKey, hi', hof]

theorem domCtlWrite_refused_off (hw : wbit w 0 = false) (ha : domAllows g 3 = false) : s.domCtlWrite g w = (s, .refused) :=
  if_pos (by rw [hw, ha]; rfl)

theorem domCtlWrite_refused_force (hw : wbit w 0 = true) (hf : wfld w 4 2 = 1 ∨ wfld w 4 2 = 2) (ha : domAllows g (wfld w 4 2) = false) :
    s.domCtlWrite g w = (s, .refused) := by
  rcases hf with hf | hf <;> rw [hf] at ha <;> simp [State.domCtlWrite, hw, hf, ha]

/-- A write that forces nothing sends the domain to RUN, or to OFF, or leaves it. -/
theorem domCtlWrite_unforced (hf : wfld w 4 2 = 0) (ht : s.power.trip = false) (ha : wbit w 0 = true ∨ domAllows g 3 = true) :
    s.domCtlWrite g w = (if wbit w 0 = false then (s.wr (domCtlKey g) (w &&& 0xFFFFFF3F)).enterDom g 3
      else if s.bit (domCtlKey g) 0 = false ∨ s.fld (domCtlKey g) 4 2 = 1 ∨ s.fld (domCtlKey g) 4 2 = 2 then (s.wr (domCtlKey g) (w &&& 0xFFFFFF3F)).riseDom g
      else s.wr (domCtlKey g) (w &&& 0xFFFFFF3F), .ok) := by
  cases hw : wbit w 0 with
  | false =>
    have hallow : domAllows g 3 = true := ha.resolve_left (by rw [hw]; decide)
    simp [State.domCtlWrite, hw, hf, hallow, ht]
  | true =>
    by_cases hrise : s.bit (domCtlKey g) 0 = false ∨ s.fld (domCtlKey g) 4 2 = 1 ∨ s.fld (domCtlKey g) 4 2 = 2
    · have hcond : (!wbit (s.rd (domCtlKey g)) 0 || decide (wfld (s.rd (domCtlKey g)) 4 2 = 1) || decide (wfld (s.rd (domCtlKey g)) 4 2 = 2)) = true := by
        simpa [State.bit, State.fld, or_assoc] using hrise
      simp [State.domCtlWrite, hw, hf, ht, hcond, hrise]
    · have hcond : (!wbit (s.rd (domCtlKey g)) 0 || decide (wfld (s.rd (domCtlKey g)) 4 2 = 1) || decide (wfld (s.rd (domCtlKey g)) 4 2 = 2)) = false := by
        simpa [State.bit, State.fld, not_or, and_assoc] using hrise
      simp [State.domCtlWrite, hw, hf, ht, hcond, hrise]

/-- A write that forces a state the domain allows sends it there. -/
theorem domCtlWrite_forced (hw : wbit w 0 = true) (hf : wfld w 4 2 = 1 ∨ wfld w 4 2 = 2) (ht : s.power.trip = false) (ha : domAllows g (wfld w 4 2) = true)
    (hs : wfld w 4 2 = 1 → s.domSt g = 0 → s.maySleep g = true) :
    s.domCtlWrite g w = ((s.wr (domCtlKey g) (w &&& 0xFFFFFF3F)).enterDom g (wfld w 4 2), .ok) := by
  rcases hf with hf | hf
  · rw [hf] at ha
    have hsleep : (s.domSt g == 0 && !s.maySleep g) = false := by
      by_cases h0 : s.domSt g = 0
      · simp [hs hf h0]
      · simp [h0]
    simp [State.domCtlWrite, hw, hf, ha, ht, hsleep]
  · rw [hf] at ha
    simp [State.domCtlWrite, hw, hf, ha, ht]

end control

/-! ## Rising (R274, R276, R296) -/

section rise
variable {s t : State} {g : Nat}

/-- A domain moved: the others, and the rest of the power state, stay. -/
structure Moved (s t : State) (g : Nat) : Prop where
  dom : ∀ g', g' ≠ g → t.domSt g' = s.domSt g'
  wakes : ∀ g', g' ≠ g → t.power.wakes.get g' false = s.power.wakes.get g' false
  others : t.power = { s.power with dom := t.power.dom, wakes := t.power.wakes }

theorem Entered.moved {st : Nat} (h : Entered s t g st) : Moved s t g :=
  ⟨fun g' hg => (h.dom g').trans (if_neg hg), fun g' hg => (h.wakes g').trans (if_neg hg), h.others⟩

/-- A rising domain runs, or waits for its island. -/
theorem riseDom_spec (s : State) (g : Nat) : Moved s (s.riseDom g) g ∧ ((s.riseDom g).domSt g = 0 ∨ (s.riseDom g).power.wakes.get g false = true) := by
  unfold State.riseDom
  dsimp only
  split
  · exact ⟨⟨fun _ _ => rfl, fun g' hg => SMap.get_set_other (m := s.power.wakes) (v := true) (d := false) (d' := false) hg, rfl⟩, .inr (SMap.get_set_self s.power.wakes g true false)⟩
  · exact ⟨(entered_enterDom s g 0).moved, .inl (domSt_enterDom s g 0)⟩

/-- A domain returns to what it held before deep sleep (R279). -/
def State.backTo (before : SMap Nat) (s : State) (g : Nat) : State := if before.get g 0 = 0 then s.riseDom g else s.enterDom g (before.get g 0)

/-- A domain is back, or waits for its island. -/
def Back (before : SMap Nat) (g : Nat) (s : State) : Prop := s.domSt g = before.get g 0 ∨ (before.get g 0 = 0 ∧ s.power.wakes.get g false = true)

theorem backTo_spec (before : SMap Nat) (s : State) (g : Nat) : Moved s (s.backTo before g) g ∧ Back before g (s.backTo before g) := by
  unfold State.backTo
  split
  · rename_i h0
    obtain ⟨hm, h⟩ := riseDom_spec s g
    exact ⟨hm, h.imp (fun hd => hd.trans h0.symm) (fun hw => ⟨h0, hw⟩)⟩
  · exact ⟨(entered_enterDom s g _).moved, .inl (domSt_enterDom s g _)⟩

theorem Back.moved {before : SMap Nat} {g' : Nat} (h : Back before g s) (hm : Moved s t g') (hg : g ≠ g') : Back before g t := by
  unfold Back
  rw [hm.dom g hg, hm.wakes g hg]
  exact h

/-- The domains of a list return one after another. -/
theorem backTo_foldl (before : SMap Nat) (l : List Nat) (s : State) :
    (l.foldl (State.backTo before) s).power = { s.power with
      dom := (l.foldl (State.backTo before) s).power.dom
      wakes := (l.foldl (State.backTo before) s).power.wakes } ∧
    ∀ g, (g ∈ l ∨ Back before g s) → Back before g (l.foldl (State.backTo before) s) := by
  induction l generalizing s with
  | nil => exact ⟨rfl, fun g h => h.resolve_left (List.not_mem_nil)⟩
  | cons a l ih =>
    obtain ⟨hm, hb⟩ := backTo_spec before s a
    obtain ⟨hp, hback⟩ := ih (s.backTo before a)
    rw [List.foldl_cons]
    refine ⟨?_, fun g h => hback g ?_⟩
    · rw [hm.others] at hp
      exact hp
    · by_cases hg : g = a
      · exact .inr (hg ▸ hb)
      · rcases h with h | h
        · exact .inl ((List.mem_cons.mp h).resolve_left hg)
        · exact .inr (h.moved hm hg)

end rise

/-! ## Deep sleep ends (R279) -/

/-- What the slices do at a wake: those that run start anew. -/
def State.calRestart (s : State) (d : Nat) : State := if (s.slice d).en then (s.calEnable d false).calEnable d true else s

/-- The device as it leaves deep sleep, before its domains return. -/
def State.wakeStarts (s : State) : State :=
  s.withStates [0, 1, 2, 3] (fun s => s.setPower (fun p => { p with deepSleep := false, before := [] }))

theorem deviceWake_eq {s : State} (hd : s.power.deepSleep = true) (ht : s.power.trip = false) :
    s.deviceWake = ([0, 1, 2, 3].foldl State.calRestart
      ((List.range 165).foldl (State.backTo s.power.before) ([128, 129, 130, 131].foldl (State.backTo s.power.before) s.wakeStarts))).flag Reg.GOV_STAT 12 :=
  if_neg (by rw [hd, ht]; decide)

theorem PowerKept.calEnable {s t : State} (h : PowerKept s t) (die : Nat) (en : Bool) : PowerKept s (t.calEnable die en) := by
  unfold State.calEnable
  dsimp only
  split
  · exact ⟨h.power, h.spine, h.pins⟩
  · exact ⟨h.power, h.spine, h.pins⟩

theorem PowerKept.calRestart {s t : State} (h : PowerKept s t) (d : Nat) : PowerKept s (t.calRestart d) := by
  unfold State.calRestart
  split
  · exact (h.calEnable ..).calEnable ..
  · exact h

theorem wakeStarts_deepSleep (s : State) : s.wakeStarts.power.deepSleep = false := by
  obtain ⟨m, hm⟩ := withStates_pads s [0, 1, 2, 3] (fun s => s.setPower (fun p => { p with deepSleep := false, before := [] }))
  exact congrArg (fun t : State => t.power.deepSleep) hm

/-- The domains after the wake: out of deep sleep, each back or waiting. -/
theorem back_all (before : SMap Nat) (s : State) :
    ((List.range 165).foldl (State.backTo before) ([128, 129, 130, 131].foldl (State.backTo before) s)).power.deepSleep = s.power.deepSleep ∧
    ∀ g < 165, Back before g ((List.range 165).foldl (State.backTo before) ([128, 129, 130, 131].foldl (State.backTo before) s)) := by
  obtain ⟨hp1, -⟩ := backTo_foldl before [128, 129, 130, 131] s
  generalize [128, 129, 130, 131].foldl (State.backTo before) s = u at hp1 ⊢
  obtain ⟨hp2, hback⟩ := backTo_foldl before (List.range 165) u
  exact ⟨(congrArg Power.deepSleep hp2 :).trans (congrArg Power.deepSleep hp1 :), fun g hg => hback g (.inl (List.mem_range.mpr hg))⟩

/-- A wake ends deep sleep, flags it and brings every domain back (R279). -/
theorem deviceWake_spec {s : State} {g : Nat} (hd : s.power.deepSleep = true) (ht : s.power.trip = false) (hg : g < 165) :
    s.deviceWake.power.deepSleep = false ∧ s.deviceWake.bit Reg.GOV_STAT 12 = true ∧ Back s.power.before g s.deviceWake := by
  obtain ⟨hdeep, hback⟩ := back_all s.power.before s.wakeStarts
  rw [deviceWake_eq hd ht]
  generalize (List.range 165).foldl (State.backTo s.power.before) ([128, 129, 130, 131].foldl (State.backTo s.power.before) s.wakeStarts) = u at hdeep hback ⊢
  have hkept : PowerKept u (([0, 1, 2, 3].foldl State.calRestart u).flag Reg.GOV_STAT 12) := (PowerKept.rfl.foldl fun _ _ hu => hu.calRestart _).flag ..
  refine ⟨?_, bit_flag_self (by decide), ?_⟩
  · rw [hkept.power, hdeep]
    exact wakeStarts_deepSleep s
  · unfold Back
    rw [domSt_congr hkept.power, hkept.power]
    exact hback g hg

/-! ## Thermal trip (R291) -/

/-- At a thermal trip every domain but the governor's goes to OFF. -/
def State.tripDom (s : State) (g : Nat) : State := if g = 156 then s else s.enterDom g 3

/-- A trip in progress: the spine and the safe states as they were, the domains of the list OFF. -/
structure Tripping (l : List Nat) (s t : State) : Prop where
  spine : t.spine = s.spine
  safe : t.pins.safe = s.pins.safe
  off : ∀ g ∈ l, g ≠ 156 → t.domSt g = 3

theorem tripDom_foldl (l : List Nat) (s : State) : (l.foldl State.tripDom s).spine = s.spine ∧ (l.foldl State.tripDom s).pins.safe = s.pins.safe ∧
    ∀ g, g ≠ 156 → (g ∈ l ∨ s.domSt g = 3) → (l.foldl State.tripDom s).domSt g = 3 := by
  induction l generalizing s with
  | nil => exact ⟨rfl, rfl, fun g _ h => h.resolve_left List.not_mem_nil⟩
  | cons a l ih =>
    have hstep : (s.tripDom a).spine = s.spine ∧ (s.tripDom a).pins.safe = s.pins.safe ∧
        ∀ g, g ≠ 156 → (g = a ∨ s.domSt g = 3) → (s.tripDom a).domSt g = 3 := by
      unfold State.tripDom
      split
      · rename_i ha
        exact ⟨rfl, rfl, fun g hg h => h.resolve_left (ha ▸ hg)⟩
      · have he := entered_enterDom s a 3
        refine ⟨he.spine, he.safe, fun g _ h => ?_⟩
        rw [he.dom]
        split
        · rfl
        · rename_i hne
          exact h.resolve_left hne
    obtain ⟨hspine, hsafe, hoff⟩ := hstep
    obtain ⟨ihspine, ihsafe, ihoff⟩ := ih (s.tripDom a)
    rw [List.foldl_cons]
    refine ⟨ihspine.trans hspine, ihsafe.trans hsafe, fun g hg h => ihoff g hg ?_⟩
    rcases h with h | h
    · exact (List.mem_cons.mp h).elim (fun h => .inr (hoff g hg (.inl h))) .inl
    · exact .inr (hoff g hg (.inr h))

/-- The quads of the fabric dies stop. -/
def State.allQuadsStop (s : State) : State := (List.range 4).foldl (fun s d => (List.range 4).foldl (fun s q => s.quadStops d q) s) s

theorem PowerKept.allQuadsStop {s t : State} (h : PowerKept s t) : PowerKept s t.allQuadsStop :=
  h.foldl fun _ _ hu => hu.foldl fun _ _ hv => hv.quadStops ..

/-- The trip is kept with its time, and reported. -/
def State.tripKept (s : State) : State := (s.setPower (fun p => { p with trip := true, tripDt := s.now })).raise 6 (errCode 9 2) 4 0x14 0

/-- The device at a trip, its pads in their safe states. -/
def State.tripStarts (s : State) : State := s.setSafe (fun c => { c with thermal := true })

theorem thermalTrip_eq {s : State} (ht : s.power.trip = false) :
    s.thermalTrip = (((List.range 165).foldl State.tripDom s.tripStarts).allQuadsStop).tripKept :=
  if_neg (by rw [ht]; decide)

theorem tripKept_raised (s : State) : s.tripKept.raised.getLast?.map (fun e => (e.sev, e.code, e.die, e.trig)) = some (6, errCode 9 2, 4, 0x14) := by
  simp [State.tripKept, State.raise]

theorem tripKept_time (s : State) : s.tripKept.power.tripDt = s.now := rfl

theorem now_congr {s t : State} (h : t.spine = s.spine) : t.now = s.now := congrArg Spine.dt h

theorem setSafe_spec (s : State) (f : SafeCauses → SafeCauses) : (s.setSafe f).spine = s.spine ∧ (s.setSafe f).pins.safe = f s.pins.safe := by
  obtain ⟨m, hm⟩ := withStates_pads s [0, 1, 2, 3] (fun s => { s with pins := { s.pins with safe := f s.pins.safe } })
  unfold State.setSafe
  rw [hm]
  exact ⟨rfl, rfl⟩

/-- The device after a trip: the spine as it was, the pads safe, every domain but the governor's OFF. -/
structure Tripped (s t : State) : Prop where
  spine : t.spine = s.spine
  safe : t.pins.safe.thermal = true
  off : ∀ g < 165, g ≠ 156 → t.domSt g = 3

theorem tripped_domains (s : State) : Tripped s ((List.range 165).foldl State.tripDom s.tripStarts) := by
  obtain ⟨hspine0, hsafe0⟩ := setSafe_spec s (fun c => { c with thermal := true })
  obtain ⟨hspine, hsafe, hoff⟩ := tripDom_foldl (List.range 165) s.tripStarts
  exact ⟨hspine.trans hspine0, (congrArg SafeCauses.thermal hsafe).trans (congrArg SafeCauses.thermal hsafe0), fun g hg hne => hoff g hne (.inl (List.mem_range.mpr hg))⟩

theorem Tripped.kept {s t u : State} (h : Tripped s t) (h' : PowerKept t u) : Tripped s u :=
  ⟨h'.spine.trans h.spine, (congrArg (fun p : Pins => p.safe.thermal) h'.pins).trans h.safe, fun g hg hne => (domSt_congr h'.power g).trans (h.off g hg hne)⟩

/-- A thermal trip is kept with its time, the pads go to their safe states, every domain but the governor's is OFF (R291). -/
theorem thermalTrip_spec {s : State} {g : Nat} (ht : s.power.trip = false) (hg : g < 165) :
    s.thermalTrip.power.trip = true ∧ s.thermalTrip.power.tripDt = s.now ∧ s.thermalTrip.pins.safe.thermal = true ∧ (g ≠ 156 → s.thermalTrip.domSt g = 3) ∧
    s.thermalTrip.raised.getLast?.map (fun e => (e.sev, e.code, e.die, e.trig)) = some (6, errCode 9 2, 4, 0x14) := by
  have htripped := (tripped_domains s).kept PowerKept.rfl.allQuadsStop
  rw [thermalTrip_eq ht]
  generalize ((List.range 165).foldl State.tripDom s.tripStarts).allQuadsStop = v at htripped ⊢
  exact ⟨rfl, (tripKept_time v).trans (now_congr htripped.spine), htripped.safe, htripped.off g hg, tripKept_raised v⟩

/-- Where no domain waits, a settled island only has its level. -/
theorem islandSettled_calm {s : State} (hw : ∀ g : Nat, s.power.wakes.get g false = false) (j : Nat) :
    s.islandSettled j = { s with power := { s.power with lvl := s.power.lvl.set j (s.islTarget j) 2 } } := by
  have hnone : (List.range 165).filter (fun g => islandOf g == j &&
      (s.setPower (fun p => { p with lvl := p.lvl.set j (s.islTarget j) 2 })).power.wakes.get g false) = [] :=
    List.filter_eq_nil_iff.mpr fun g _ => by simp [State.setPower, hw g]
  unfold State.islandSettled
  dsimp only
  rw [hnone]
  rfl

theorem regWrite_GOV_CMD (s : State) (req : Nat) : (s.touched req Reg.GOV_CMD).regWrite Reg.GOV_CMD req 1 = ({ s with power := { s.power with deepReq := true } }, .ok) := rfl

/-- Settles O37: each change of a domain is an entry, a wait for its island, or nothing. -/
theorem powerDomainsChange : Obligations.PowerDomainsChange := by
  unfold Obligations.PowerDomainsChange
  intro s r g
  have hkey := single_PWR_DOM_CTL g g.isLt
  have hwrite := fun w => regWrite_domCtl s r.code w g.isLt
  refine ⟨fun x st => domSt_enterDom x g st, fun x => ⟨fun h => ?rises, fun h0 h => ?waits⟩, fun w ha hf ht => ⟨fun hw hrise => ?runs, fun hw he h1 h2 => ?stays, fun hw hal => ?off⟩,
    fun w ha hw hal => ?noOff, fun w ha ht hw hf => ⟨fun hal hs => ?forced, fun hal => ?noForce⟩, fun he h0 hal hb hs => ?auto, fun he h0 hal hp hf => ?deep,
    fun pb hst h1 h2 hd => ?wake, fun j hw => congrArg Host.Outcome.next (islandSettled_calm hw j), fun ha => ?request, fun hd ht => ⟨_, rfl, deviceWake_spec hd ht g.isLt⟩,
    fun hd => congrArg Host.Outcome.next (if_pos (by rw [hd]; rfl)), fun ht => ⟨_, rfl, thermalTrip_spec ht g.isLt⟩,
    fun j => ⟨fun hd => congrArg (fun t : State => Host.Outcome.next t.lateMissing) (if_pos hd),
      fun hd => congrArg (fun t : State => Host.Outcome.next t.lateMissing) ((if_neg (by omega)).trans (if_pos hd)),
      fun hd => congrArg (fun t : State => Host.Outcome.next t.lateMissing) ((if_neg (by omega)).trans (if_neg (by omega)))⟩⟩
  case rises =>
    refine if_neg fun ⟨hne, hisl⟩ => ?_
    rcases h with h | ⟨hl, h⟩
    · exact hne h
    · exact hisl.elim hl fun ⟨hlow, hmove⟩ => h.elim (fun h => absurd hlow (by rw [h]; decide)) hmove
  case waits => exact if_pos ⟨h0, h⟩
  case runs =>
    refine congrArg Host.Outcome.next (regAccess_wrote hkey ha ?_)
    rw [hwrite, domCtlWrite_unforced hf ht (.inl hw), if_neg (by rw [hw]; decide), if_pos hrise]
  case stays =>
    refine congrArg Host.Outcome.next (regAccess_wrote hkey ha ?_)
    rw [hwrite, domCtlWrite_unforced hf ht (.inl hw), if_neg (by rw [hw]; decide), if_neg (by rw [he]; exact fun h => h.elim (by decide) (fun h => h.elim h1 h2))]
  case off =>
    refine congrArg Host.Outcome.next (regAccess_wrote hkey ha ?_)
    rw [hwrite, domCtlWrite_unforced hf ht (.inr hal), if_pos hw]
  case noOff => exact congrArg Host.Outcome.next (regAccess_refused hkey ha ((hwrite w).trans (domCtlWrite_refused_off hw hal)))
  case forced => exact congrArg Host.Outcome.next (regAccess_wrote hkey ha ((hwrite w).trans (domCtlWrite_forced hw hf ht hal hs)))
  case noForce => exact congrArg Host.Outcome.next (regAccess_refused hkey ha ((hwrite w).trans (domCtlWrite_refused_force hw hf hal)))
  case auto => exact ⟨congrArg Host.Outcome.next (if_pos (by simp [he, h0, hal, hb, hs])), congrArg Host.Outcome.next (if_neg (by simp))⟩
  case deep => exact ⟨congrArg Host.Outcome.next (if_pos (by simp [he, h0, hal, hp, hf])), congrArg Host.Outcome.next (if_neg (by simp))⟩
  case wake =>
    refine congrArg Host.Outcome.next (if_neg fun h => ?_)
    rcases h with ⟨hne1, hne2⟩ | h | h | h
    · exact hst.elim hne1 hne2
    · exact h1 h
    · exact h2 h
    · exact absurd h (by rw [hd]; decide)
  case request => exact congrArg Host.Outcome.next (regAccess_wrote single_GOV_CMD ha (regWrite_GOV_CMD s r.code))

end Sys2Proof.Machine
end

section
/-!
PROOF. The governor's accounts: the credit window, work, PMBus (R280 to R287, R293 to R295).
-/
namespace Sys2Proof.Machine

/-- Folds whose steps agree on the elements of the list agree. -/
theorem foldl_congr_mem {α σ : Type} {f g : σ → α → σ} {l : List α} {t : σ} (h : ∀ u, ∀ a ∈ l, f u a = g u a) : l.foldl f t = l.foldl g t := by
  induction l generalizing t with
  | nil => rfl
  | cons a l ih =>
    rw [List.foldl_cons, List.foldl_cons, h t a List.mem_cons_self]
    exact ih fun u b hb => h u b (List.mem_cons_of_mem a hb)

/-! ## What telemetry leaves alone -/

/-- The governor's registers below GOV_TMAX, the power state and the states of the dies stay. -/
structure WindowKept (s t : State) : Prop where
  rd : ∀ o < 0xD0, t.rd (regKey 4 0x14 0 o) = s.rd (regKey 4 0x14 0 o)
  power : t.power = s.power
  dies : t.dies = s.dies

section window
variable {s t : State}

theorem WindowKept.wr (h : WindowKept s t) {key : Nat} (w : Word) (hk : ∀ o < 0xD0, regKey 4 0x14 0 o ≠ key) : WindowKept s (t.wr key w) :=
  ⟨fun o ho => (rd_wr_other (hk o ho)).trans (h.rd o ho), h.power, h.dies⟩

theorem WindowKept.foldl {l : List Nat} {f : State → Nat → State} (h : WindowKept s t) (hf : ∀ u, ∀ a ∈ l, WindowKept s u → WindowKept s (f u a)) :
    WindowKept s (l.foldl f t) := List.foldlRecOn l f (motive := WindowKept s) h fun u hu a ha => hf u a ha hu

/-- A register of the islands is none of the governor's. -/
theorem gov_ne_pwr {d i o : Nat} (hi : i < 4096) (ho : o < 4096) : ∀ o' < 0xD0, regKey 4 0x14 0 o' ≠ regKey d 0x01 i o := by
  intro o' ho'
  unfold regKey
  omega

theorem gov_ne_high {o : Nat} (ho : 0xD0 ≤ o) : ∀ o' < 0xD0, regKey 4 0x14 0 o' ≠ regKey 4 0x14 0 o := by
  intro o' ho'
  unfold regKey
  omega

theorem islInst_lt {j : Nat} (hj : j < 92) : (islInst j).2 < 4096 := by
  unfold islInst
  repeat' split
  all_goals dsimp only; omega

theorem windowKept_telemetry (s : State) (isl : List (Nat × Nat)) (temps : List Nat) : WindowKept s (s.telemetry isl temps) := by
  unfold State.telemetry
  dsimp only
  split
  all_goals
    refine WindowKept.wr (WindowKept.foldl (WindowKept.foldl ⟨fun _ _ => rfl, rfl, rfl⟩ fun u j hj hu => ?_) fun u i _ hu => ?_) _ (gov_ne_high (by decide))
    · have hlt := islInst_lt (List.mem_range.mp hj)
      exact (hu.wr _ (gov_ne_pwr hlt (by decide))).wr _ (gov_ne_pwr hlt (by decide))
    · exact hu.wr _ (gov_ne_high (by omega))

theorem windowKept_ageWork (h : WindowKept s t) : WindowKept s t.ageWork := ⟨h.rd, h.power, h.dies⟩

theorem WindowKept.fld (h : WindowKept s t) {o : Nat} (ho : o < 0xD0) (lo n : Nat) : t.fld (regKey 4 0x14 0 o) lo n = s.fld (regKey 4 0x14 0 o) lo n :=
  congrArg (wfld · lo n) (h.rd o ho)

theorem WindowKept.bit (h : WindowKept s t) {o : Nat} (ho : o < 0xD0) (i : Nat) : t.bit (regKey 4 0x14 0 o) i = s.bit (regKey 4 0x14 0 o) i :=
  congrArg (wbit · i) (h.rd o ho)

theorem WindowKept.dieLost (h : WindowKept s t) (die : Nat) : t.dieLost die = s.dieLost die := by
  unfold State.dieLost State.dieState
  rw [h.dies]

theorem WindowKept.pbReserve (h : WindowKept s t) : t.pbReserve = s.pbReserve :=
  foldl_congr_mem fun n i hi => congrArg (n + ·) (h.fld (by have := List.mem_range.mp hi; omega) 0 23)

theorem WindowKept.effectiveCap (h : WindowKept s t) : t.effectiveCap = s.effectiveCap := by
  have hcap : t.fld Reg.GOV_CAP 0 9 = s.fld Reg.GOV_CAP 0 9 := h.fld (by decide) 0 9
  have hen : t.bit Reg.GOV_PMB 15 = s.bit Reg.GOV_PMB 15 := h.bit (by decide) 15
  have hfall : t.bit Reg.GOV_STAT 8 = s.bit Reg.GOV_STAT 8 := h.bit (by decide) 8
  simp only [State.effectiveCap, hcap, hen, hfall, h.power]

theorem WindowKept.externalCredits (h : WindowKept s t) : t.externalCredits = s.externalCredits := by
  have hen : t.bit Reg.GOV_EXT 0 = s.bit Reg.GOV_EXT 0 := h.bit (by decide) 0
  have hfall : t.bit Reg.GOV_STAT 8 = s.bit Reg.GOV_STAT 8 := h.bit (by decide) 8
  have hfix : t.fld Reg.GOV_EXT 8 8 = s.fld Reg.GOV_EXT 8 8 := h.fld (by decide) 8 8
  simp only [State.externalCredits, hen, hfall, hfix, h.power]

end window

/-! ## The window opens (R283) -/

/-- Entries set one after another, each read back. -/
theorem get_foldl_set (f : Nat → Nat) (m : SMap Nat) (n i : Nat) :
    ((List.range n).foldl (fun m i => m.set i (f i) 0) m).get i 0 = if i < n then f i else m.get i 0 := by
  induction n with
  | zero => rfl
  | succ n ih =>
    rw [List.range_succ, List.foldl_append, List.foldl_cons, List.foldl_nil, SMap.get_set, ih]
    by_cases hi : i = n
    · simp [hi]
    · rw [if_neg hi]
      exact ite_of_iff (by omega)

/-- The PB shares of a window. -/
def State.openShares (s : State) : SMap Nat := (List.range 5).foldl (fun mm i => mm.set i (s.fld (Reg.GOV_PBSH i) 0 23) 0) []

theorem WindowKept.openShares {s t : State} (h : WindowKept s t) : t.openShares = s.openShares :=
  foldl_congr_mem fun m i hi => congrArg (SMap.set m i · 0) (h.fld (by have := List.mem_range.mp hi; omega) 0 23)

/-- The accounts a window opens with, of `m` credits measured. -/
def Power.opened (p : Power) (m b reserve ovd : Nat) (share : SMap Nat) : Power :=
  { p with
    share := share
    credit := []
    pool := b - (m - p.charged) - (m - p.budget) - reserve
    ovd := ovd
    charged := 0
    budget := b
    pbWaited := false }

theorem openCreditWindow_power (s : State) (m : Nat) :
    (s.openCreditWindow m).1.power = s.power.opened m (s.effectiveCap.1 * 10000) s.pbReserve (s.fld Reg.GOV_CAP 16 16 * 1000)
      s.openShares := by
  have hpool : (((s.effectiveCap.1 * 10000 : Nat) : Int) - ((m - s.power.charged : Nat) : Int) - ((m - s.power.budget : Nat) : Int) - ((s.pbReserve : Nat) : Int)).toNat =
      s.effectiveCap.1 * 10000 - (m - s.power.charged) - (m - s.power.budget) - s.pbReserve := by omega
  unfold Power.opened
  rw [← hpool]
  rfl

/-- A step of the ladder counts calm windows, no accounts. -/
theorem ladderStep_power (s : State) (short : Bool) : ∃ n, (s.ladderStep short).power = { s.power with calm := n } := by
  have hset : ∀ (u : State) (n : Nat), (u.setLadder n).power = u.power := fun u n => by
    unfold State.setLadder
    dsimp only
    split <;> rfl
  have hcount : ∀ u : State, (if u.ladder = 4 then u.count Reg.GOV_SHORT 1 else u).power = u.power := fun u => by split <;> rfl
  unfold State.ladderStep
  dsimp only
  split
  · refine ⟨0, (hcount _).trans ?_⟩
    split
    · exact hset _ _
    · rfl
  · split
    · refine ⟨0, ?_⟩
      split
      · exact hset _ _
      · rfl
    · exact ⟨s.power.calm + 1, rfl⟩

/-- What the last window drew, of the dies that are there. -/
def State.measured (s : State) (isl : List (Nat × Nat)) : Nat :=
  (List.range 92).foldl (fun n j => if s.dieLost (islInst j).1 then n else n + (isl.getD j (0, 0)).1) 0

theorem WindowKept.measured {s t : State} (h : WindowKept s t) (isl : List (Nat × Nat)) : t.measured isl = s.measured isl :=
  foldl_congr_mem fun n j _ => by rw [h.dieLost]

theorem creditWindow_eq (s : State) (isl : List (Nat × Nat)) (temps : List Nat) :
    s.creditWindow isl temps =
      (let t := (s.telemetry isl temps).ageWork
       let u := t.openCreditWindow (t.measured isl + t.externalCredits)
       let v := u.1.ladderStep u.2
       if v.power.deepReq then v.deepSleepEnter else v) := by
  unfold State.creditWindow State.measured
  rfl

/-- The accounts after a window that no request of deep sleep ends (R282, R283). -/
theorem creditWindow_power {s : State} (isl : List (Nat × Nat)) (temps : List Nat) (hd : s.power.deepReq = false) :
    ∃ n, (s.creditWindow isl temps).power =
      { s.power.opened (s.measured isl + s.externalCredits) (s.effectiveCap.1 * 10000) s.pbReserve (s.fld Reg.GOV_CAP 16 16 * 1000)
        s.openShares with calm := n } := by
  have hkept := windowKept_ageWork (windowKept_telemetry s isl temps)
  rw [creditWindow_eq]
  generalize (s.telemetry isl temps).ageWork = t at hkept ⊢
  dsimp only
  have hopen := openCreditWindow_power t (t.measured isl + t.externalCredits)
  have hovd : t.fld Reg.GOV_CAP 16 16 = s.fld Reg.GOV_CAP 16 16 := hkept.fld (by decide) 16 16
  rw [hkept.measured, hkept.externalCredits, hkept.effectiveCap, hkept.pbReserve, hovd, hkept.openShares, hkept.power] at hopen
  rw [hkept.measured, hkept.externalCredits]
  generalize t.openCreditWindow (s.measured isl + s.externalCredits) = u at hopen ⊢
  obtain ⟨n, hladder⟩ := ladderStep_power u.1 u.2
  rw [hopen] at hladder
  have hreq : (u.1.ladderStep u.2).power.deepReq = false := by rw [hladder]; exact hd
  rw [hreq, if_neg Bool.false_ne_true]
  exact ⟨n, hladder⟩

/-! ## Work (R285, R287) -/

/-- An admitted unit of a background job is charged to the pool, and waits for its job. -/
theorem jobUnit_admitted {s : State} {kind die : Nat} (h : s.admissible 2 (jobPurse kind die) (s.jobCost kind) = true) :
    (s.jobUnit kind die).1 =
      (if s.admEn then s.setPower (fun p => { p with pool := p.pool - s.jobCost kind, charged := p.charged + s.jobCost kind }) else s).setPower
        (fun p => { p with jobs := p.jobs.set (8 * kind + die) (p.jobs.get (8 * kind + die) 0 + 1) 0 }) := by
  cases he : s.admEn <;> simp [State.jobUnit, State.present, h, State.charge, he]

theorem admitRequest_waiting {s : State} {die rg i : Nat} {q : Request} (hq : (s.disp die rg).ready[i]? = some q) (ha : q.admitted = false) :
    s.admitRequest die rg i =
      (if s.admissible (s.taskFld die rg q.task 0 12 2) die (s.taskFld die rg q.task 1 16 16) then
        (s.charge (s.taskFld die rg q.task 0 12 2) die (s.taskFld die rg q.task 1 16 16)).setDisp die rg
          { s.disp die rg with ready := (s.disp die rg).ready.set i { q with admitted := true } }
      else if s.taskFld die rg q.task 0 12 2 = 0 then s.pbWaits else s) := by
  simp only [State.admitRequest, hq, ha, Bool.false_eq_true, if_false, State.present]
  split
  · rfl
  · rfl

/-! ## PMBus (R293 to R295) -/

/-- What a device said stands in the accounts. -/
def Told (reply : Nat → Option Nat) (d : Nat) (s : State) : Prop :=
  ∀ w, reply d = some w → s.power.fails.get d 0 = 0 ∧ (d < 8 → s.power.pout.get d 0 = linear11 w) ∧ (d = 8 → s.power.polled = some (linear11 w / 65536))

/-- A reply: the device's failures end, and its word is taken. -/
theorem pmbReply_power (s : State) (dev w : Nat) :
    (s.pmbReply dev w).power = (if dev = 8 then { s.power with fails := s.power.fails.set dev 0 0, polled := some (linear11 w / 65536) }
      else { s.power with fails := s.power.fails.set dev 0 0, pout := s.power.pout.set dev (linear11 w) 0 }) := by
  unfold State.pmbReply
  dsimp only
  split
  · split
    · exact congrArg State.power (flagErr_frame ..)
    · rfl
  · rfl

theorem told_pmbReply {reply : Nat → Option Nat} {d w : Nat} (h : reply d = some w) (s : State) : Told reply d (s.pmbReply d w) := by
  intro w' hw'
  obtain rfl : w = w' := Option.some.inj (h.symm.trans hw')
  rw [pmbReply_power]
  split
  · rename_i h8
    exact ⟨SMap.get_set_self s.power.fails d 0 0, fun hlt => absurd hlt (by omega), fun _ => rfl⟩
  · rename_i h8
    exact ⟨SMap.get_set_self s.power.fails d 0 0, fun _ => SMap.get_set_self s.power.pout d (linear11 w) 0, fun he => absurd he h8⟩

theorem Told.pmbReply {reply : Nat → Option Nat} {d a w : Nat} {s : State} (h : Told reply d s) (hne : d ≠ a) : Told reply d (s.pmbReply a w) := by
  intro w' hw'
  obtain ⟨hfails, hpout, hpolled⟩ := h w' hw'
  rw [pmbReply_power]
  split
  · exact ⟨(SMap.get_set_other (d := 0) (d' := 0) (v := 0) hne).trans hfails, hpout, fun h8 => absurd h8 (by omega)⟩
  · exact ⟨(SMap.get_set_other (d := 0) (d' := 0) (v := 0) hne).trans hfails, fun hlt => (SMap.get_set_other (d := 0) (d' := 0) hne).trans (hpout hlt), hpolled⟩

/-- A poll that every device answers takes every word. -/
theorem told_foldl {reply : Nat → Option Nat} (l : List Nat) (s : State) (hall : ∀ d ∈ l, ∃ w, reply d = some w) :
    ∀ d, (d ∈ l ∨ Told reply d s) → Told reply d (l.foldl (fun u d => u.pmbReply d ((reply d).getD 0)) s) := by
  induction l generalizing s with
  | nil => exact fun d h => h.resolve_left List.not_mem_nil
  | cons a l ih =>
    intro d h
    rw [List.foldl_cons]
    refine ih _ (fun d hd => hall d (List.mem_cons_of_mem a hd)) d ?_
    obtain ⟨w, hw⟩ := hall a List.mem_cons_self
    rw [hw]
    by_cases hd : d = a
    · exact .inr (hd ▸ told_pmbReply (hd ▸ hw) s)
    · exact h.elim (fun h => .inl ((List.mem_cons.mp h).resolve_left hd)) (fun h => .inr (h.pmbReply hd))

theorem pmbPoll_answered {s : State} {reply : Nat → Option Nat} (hall : ∀ d ∈ s.pmbDevices, ∃ w, reply d = some w) :
    s.pmbPoll reply = (s.pmbDevices.foldl (fun u d => u.pmbReply d ((reply d).getD 0)) s).setBit Reg.GOV_STAT 8 false := by
  have hsome : s.pmbDevices.all (fun d => (reply d).isSome) = true := List.all_eq_true.mpr fun d hd => by
    obtain ⟨w, hw⟩ := hall d hd
    rw [hw]
    rfl
  unfold State.pmbPoll
  dsimp only
  rw [hsome, if_pos rfl]
  refine congrArg (fun t : State => t.setBit Reg.GOV_STAT 8 false) (foldl_congr_mem fun u d hd => ?_)
  obtain ⟨w, hw⟩ := hall d hd
  rw [hw]
  rfl

/-- The word of a device among the replies of a poll. -/
def replyOf (replies : List (Nat × Nat)) (d : Nat) : Option Nat := (replies.find? (fun r => r.1 == d)).map (·.2)

/-- A poll of the routed bus that every device answers: the words are taken and the fallback ends. -/
theorem poll_answered {s : State} {replies : List (Nat × Nat)} (hen : s.bit Reg.GOV_PMB 0 = true) (hr : s.busRouted = true)
    (hall : ∀ d ∈ s.pmbDevices, ∃ w, replyOf replies d = some w) :
    (s.poll replies).bit Reg.GOV_STAT 8 = false ∧ ∀ d ∈ s.pmbDevices, Told (replyOf replies) d (s.poll replies) := by
  have hpoll : s.poll replies = (s.pmbPoll (replyOf replies)).setPower (fun p => { p with busActive := true }) := by
    simp only [State.poll, hen, hr, Bool.not_true, Bool.false_eq_true, if_false, if_true]
    rfl
  have htold := told_foldl s.pmbDevices s hall
  rw [hpoll, pmbPoll_answered hall]
  generalize s.pmbDevices.foldl (fun u d => u.pmbReply d ((replyOf replies d).getD 0)) s = u at htold ⊢
  exact ⟨bit_setBit_self u Reg.GOV_STAT false (by decide), fun d hd => htold d (.inl hd)⟩

/-- The third failure in a row of a device begins the fallback, with its record. -/
theorem pmbFail_third {s : State} {dev : Nat} (h : s.power.fails.get dev 0 = 2) :
    (s.pmbFail dev).power.fails.get dev 0 = 3 ∧ (s.pmbFail dev).bit Reg.GOV_STAT 6 = true ∧ (s.pmbFail dev).bit Reg.GOV_STAT 8 = true ∧
    (s.pmbFail dev).raised.getLast?.map (fun e => (e.sev, e.code, e.die, e.trig)) = some (3, errCode 9 3, 4, 0x14) := by
  have hfail : s.pmbFail dev = (((s.setPower (fun p => { p with fails := p.fails.set dev 3 0 })).flag Reg.GOV_STAT 6).flag Reg.GOV_STAT 8).raise 3 (errCode 9 3) 4 0x14 0 := by
    simp [State.pmbFail, h]
  rw [hfail]
  refine ⟨SMap.get_set_self s.power.fails dev 3 0, bit_flag_mono (bit_flag_self (by decide)), bit_flag_self (by decide), by simp [State.raise]⟩

theorem pmbFail_early {s : State} {dev : Nat} (h : s.power.fails.get dev 0 < 2) :
    s.pmbFail dev = { s with power := { s.power with fails := s.power.fails.set dev (s.power.fails.get dev 0 + 1) 0 } } := by
  have hmin : min (s.power.fails.get dev 0 + 1) 3 = s.power.fails.get dev 0 + 1 := by omega
  unfold State.pmbFail
  dsimp only
  rw [if_neg (by omega), hmin]
  rfl

theorem pmbTimeout_none {s : State} (dev : Fin 9) : s.pmbTimeout dev none = s.pmbFail dev := if_neg (by omega)

/-- Settles O38: the accounts open with each window, and every grant, charge and poll is one update of them. -/
theorem governorKeepsAccounts : Obligations.GovernorKeepsAccounts := by
  unfold Obligations.GovernorKeepsAccounts
  intro s
  refine ⟨fun isl temps hd => ?window, fun purse => rfl, fun kind die hk hdie ha => ?job, fun die rg i q hdie hrg hq hadm => ⟨fun ha => ?request, fun ha hc => ?waits⟩,
    fun replies hen hr hall => ?poll, fun dev => ⟨fun h => ?early, fun h => ?third⟩⟩
  case window =>
    obtain ⟨n, hpower⟩ := creditWindow_power isl temps hd
    refine ⟨_, rfl, fun i hi => ?_, congrArg Power.credit hpower, congrArg Power.charged hpower, congrArg Power.budget hpower, congrArg Power.ovd hpower,
      congrArg Power.pool hpower, (congrArg Power.dom hpower :)⟩
    exact (congrArg (fun p : Power => p.share.get i 0) hpower).trans ((get_foldl_set (fun i => s.fld (Reg.GOV_PBSH i) 0 23) [] 5 i).trans (if_pos hi))
  case job =>
    have hunit := jobUnit_admitted (die := die) ha
    refine ⟨_, congrArg Host.Outcome.next (if_pos ⟨hk, hdie⟩), ?_⟩
    rw [hunit]
    cases he : s.admEn with
    | false =>
      rw [if_neg Bool.false_ne_true]
      exact ⟨rfl, SMap.get_set_self s.power.jobs (8 * kind + die) (s.power.jobs.get (8 * kind + die) 0 + 1) 0, fun h => absurd h Bool.false_ne_true⟩
    | true =>
      rw [if_pos rfl]
      exact ⟨rfl, SMap.get_set_self s.power.jobs (8 * kind + die) (s.power.jobs.get (8 * kind + die) 0 + 1) 0, fun _ => ⟨rfl, rfl⟩⟩
  case request => exact congrArg Host.Outcome.next ((if_pos ⟨hdie, hrg⟩).trans ((admitRequest_waiting hq hadm).trans (if_pos ha)))
  case waits =>
    exact congrArg Host.Outcome.next ((if_pos ⟨hdie, hrg⟩).trans ((admitRequest_waiting hq hadm).trans ((if_neg (by rw [ha]; decide)).trans (if_pos hc))))
  case poll =>
    obtain ⟨hfall, htold⟩ := poll_answered hen hr fun d hd => by
      obtain ⟨w, hw⟩ := hall d hd
      exact ⟨w, by rw [replyOf, hw]; rfl⟩
    refine ⟨_, rfl, fun hpin => congrArg Host.Outcome.next (if_neg (by rw [hpin]; decide)), hfall, fun d hd w hw => htold d hd w (by rw [replyOf, hw]; rfl)⟩
  case early => exact congrArg Host.Outcome.next ((pmbTimeout_none dev).trans (pmbFail_early h))
  case third => exact ⟨_, congrArg Host.Outcome.next (pmbTimeout_none dev), pmbFail_third h⟩

end Sys2Proof.Machine
end

section
/-!
PROOF. Commands of the queues (R310, R317, R318, R320).
-/
namespace Sys2Proof.Machine

section queue
variable {s t : State} {r : Requester} {q : Nat} {w : Word}

theorem queue_home (hq : q < 8192) : queueOf (homeOf q) (instOf q) = q ∧ instOf q < 2048 ∧ (homeOf q < 4 ∧ instOf q < 1536 ∨ homeOf q = 4) := by
  unfold queueOf instOf homeOf
  split
  · rw [if_pos rfl]
    omega
  · rw [if_neg (by omega)]
    omega

/-- A register of a queue with its row is a single register of its own. -/
theorem single_qreg {o : Nat} (hq : q < 8192) (ho : o ∈ [0x01C, 0x024, 0x040, 0x048]) : singleReg (s.qreg q o) = true ∧ pairHalf (s.qreg q o) = .none := by
  obtain ⟨-, hi, hhome⟩ := queue_home hq
  have ht : Nat.testBit 31 (homeOf q) = true := by
    rcases hhome with ⟨h, -⟩ | h
    · revert h; generalize homeOf q = d; revert d; decide
    · rw [h]; decide
  have hd : homeOf q < 8 := by omega
  have hexists : instExists (homeOf q) 0x0A (instOf q) = true := by
    rcases hhome with ⟨h, h'⟩ | h
    · simp [instExists, show homeOf q ≤ 3 by omega, show instOf q ≤ 1535 by omega]
    · simp [instExists, h, show instOf q ≤ 2047 by omega]
  simp only [List.mem_cons, List.not_mem_nil, or_false] at ho
  rcases ho with rfl | rfl | rfl | rfl
  all_goals
    refine singleReg_of (by omega) (by decide) (by omega) (by decide) (by decide) (by decide) ?_
    simp [regDef?, keyOff_regKey, keyInst_regKey, keyUnit_regKey, keyDie_regKey, show instOf q < 4096 by omega, hexists, regRows, rowsQM, RegDef.covers, List.find?,
      show instOf q ≤ 2047 by omega, ht]

theorem regWrite_qreg (s : State) (req : Nat) (w : Word) {o : Nat} (hq : q < 8192) (ho : o < 4096) (h8 : o ≠ 0xFF8) (hc : o ≠ 0xFFC) :
    (s.touched req (s.qreg q o)).regWrite (s.qreg q o) req w = s.qmWrite (homeOf q) (instOf q) o (s.qreg q o) w := by
  obtain ⟨-, hi, -⟩ := queue_home hq
  have hi' : instOf q < 4096 := by omega
  unfold State.qreg
  simp [State.touched, State.regWrite, keyUnit_regKey, keyOff_regKey ho, keyInst_regKey ho hi', keyDie_regKey ho hi', hi', ho, h8, hc]

theorem qmWrite_queue (s : State) (w : Word) {o : Nat} (hq : q < 8192) :
    s.qmWrite (homeOf q) (instOf q) o (s.qreg q o) w =
      if o = 0x01C then (s.doorbell q (wfld w 0 16), .ok)
      else if o = 0x024 then s.queueCommand q (wfld w 0 3)
      else if o = 0x040 then (s.completionPointer q (wfld w 16 16), .ok)
      else if o = 0x048 then (if wbit w 31 then (s.store (s.qreg q o) w).kick q else s.store (s.qreg q o) w, .ok)
      else s.qmWrite (homeOf q) (instOf q) o (s.qreg q o) w := by
  obtain ⟨hof, hi, -⟩ := queue_home hq
  have hinst : instOf q ≠ 0xC00 := by omega
  have hset : ¬0xD00 ≤ instOf q := by omega
  split
  · rename_i ho; subst ho; simp [State.qmWrite, hof, hinst, hset]
  split
  · rename_i ho; subst ho; simp [State.qmWrite, hof, hinst, hset]
  split
  · rename_i ho; subst ho; simp [State.qmWrite, hof, hinst, hset]
  split
  · rename_i ho; subst ho; simp [State.qmWrite, hof, hinst, hset]
  · rfl

/-- An admitted command write of a queue is the command, with its response. -/
theorem regAccess_queueCommand (hq : q < 8192) (ha : s.admits r (s.qreg q 0x024) true = true) :
    ((s.queueCommand q (wfld w 0 3) = (t, .ok) → s.regAccess r (s.qreg q 0x024) w = t.wrote r (s.qreg q 0x024)) ∧
     (s.queueCommand q (wfld w 0 3) = (t, .refused) → s.regAccess r (s.qreg q 0x024) w = t.refusedWrite r (s.qreg q 0x024))) := by
  have hwrite := (regWrite_qreg s r.code w hq (o := 0x024) (by decide) (by decide) (by decide)).trans (qmWrite_queue s w hq)
  have hkey := single_qreg (s := s) hq (o := 0x024) (by decide)
  exact ⟨fun h => regAccess_wrote hkey ha (hwrite.trans h), fun h => regAccess_refused hkey ha (hwrite.trans h)⟩

theorem regAccess_queueWrite {o : Nat} (hq : q < 8192) (ha : s.admits r (s.qreg q o) true = true) (ho : o ∈ [0x01C, 0x024, 0x040, 0x048])
    (h : s.qmWrite (homeOf q) (instOf q) o (s.qreg q o) w = (t, .ok)) : s.regAccess r (s.qreg q o) w = t.wrote r (s.qreg q o) := by
  have hlt : o < 0x100 := by
    simp only [List.mem_cons, List.not_mem_nil, or_false] at ho
    omega
  exact regAccess_wrote (single_qreg hq ho) ha ((regWrite_qreg s r.code w hq (by omega) (by omega) (by omega)).trans h)

end queue

/-- Settles O39: each register write is its command, and each command acts by the state of its queue. -/
theorem queueCommandsAct : Obligations.QueueCommandsAct := by
  unfold Obligations.QueueCommandsAct
  intro s r q
  dsimp only
  have hq := q.isLt
  refine ⟨fun w ha => ⟨fun hn hg => ?tail, fun hn => ?overfill⟩, fun ha => ?kickWrite, ⟨fun h1 h2 => ?dropped, fun hst hg => ⟨fun h => ?freed, fun h hk => ?kept, fun h hk => ?lost⟩⟩,
    fun w ha => ?pointer, fun ha => ?commands⟩
  case tail =>
    refine congrArg Host.Outcome.next (regAccess_queueWrite hq ha (by decide) ((qmWrite_queue s w hq).trans (congrArg (·, Resp.ok) ?_)))
    refine (if_neg (by omega)).trans ?_
    rw [hg]
    rfl
  case overfill =>
    exact congrArg Host.Outcome.next (regAccess_queueWrite hq ha (by decide) ((qmWrite_queue s w hq).trans (congrArg (·, Resp.ok) (if_pos hn))))
  case kickWrite => exact congrArg Host.Outcome.next (regAccess_queueWrite hq ha (by decide) (qmWrite_queue s 0x80000000 hq))
  case dropped => exact congrArg Host.Outcome.next (if_pos ⟨h1, h2⟩)
  case freed => exact congrArg Host.Outcome.next ((if_neg fun ⟨h1, h2⟩ => hst.elim h1 h2).trans ((if_neg (by rw [hg]; decide)).trans (if_pos h)))
  case kept =>
    exact congrArg Host.Outcome.next ((if_neg fun ⟨h1, h2⟩ => hst.elim h1 h2).trans ((if_neg (by rw [hg]; decide)).trans ((if_neg (by omega)).trans (if_pos hk))))
  case lost =>
    exact congrArg Host.Outcome.next ((if_neg fun ⟨h1, h2⟩ => hst.elim h1 h2).trans ((if_neg (by rw [hg]; decide)).trans ((if_neg (by omega)).trans (if_neg (by omega)))))
  case pointer => exact congrArg Host.Outcome.next (regAccess_queueWrite hq ha (by decide) (qmWrite_queue s w hq))
  case commands =>
    have hok (w : Word) (t : State) (h : s.queueCommand q (wfld w 0 3) = (t, .ok)) :
        (Host.Outcome.next (s.regAccess r (s.qreg q 0x024) w) : Host.Outcome State Fault Refusal) = .next (t.wrote r (s.qreg q 0x024)) :=
      congrArg Host.Outcome.next ((regAccess_queueCommand hq ha).1 h)
    have hrefused (w : Word) (t : State) (h : s.queueCommand q (wfld w 0 3) = (t, .refused)) :
        (Host.Outcome.next (s.regAccess r (s.qreg q 0x024) w) : Host.Outcome State Fault Refusal) = .next (t.refusedWrite r (s.qreg q 0x024)) :=
      congrArg Host.Outcome.next ((regAccess_queueCommand hq ha).2 h)
    refine ⟨fun hd ht hc h5 hp => hok 1 _ ?enable, fun hd => hrefused 1 _ (if_pos hd), fun h => hok 2 _ (if_pos h), fun h => hrefused 2 _ (if_neg h),
      fun h => hok 3 _ (if_pos h), fun h1 h2 => hrefused 3 _ (if_neg fun h => h.elim h1 h2), fun d he hf => hok 4 _ ?skip, fun h => hrefused 4 _ (if_pos h), hok 5 _ rfl⟩
    case enable =>
      refine (if_neg fun h => h hd).trans ((if_neg ?_).trans (if_neg (by omega)))
      rintro (h | h | ⟨h, hne⟩)
      · omega
      · exact hc h
      · exact hne (h5 h)
    case skip =>
      refine (if_neg fun h => h he).trans ?_
      rw [hf]

end Sys2Proof.Machine
end

section
/-!
PROOF. What moves through a queue: descriptors, source data, streams, cells, completions (R310 to R316, R318, R321).
-/
namespace Sys2Proof.Machine

section moves
variable {s t u : State} {q : Nat}

theorem setQueue_setQueue (s : State) (q : Nat) (x y : Queue) : (s.setQueue q x).setQueue q y = s.setQueue q y := by
  unfold State.setQueue
  rw [SMap.set_set]

theorem queue_congr (h : t.net = s.net) (q : Nat) : t.queue q = s.queue q := congrArg (fun n : Net => n.queues.get q {}) h

theorem net_firstError (s : State) (q code : Nat) : (s.firstError q code).net = s.net := by
  unfold State.firstError
  dsimp only
  split
  · rfl
  · exact State.wr_net ..

theorem net_flagErr (s : State) (k i sev code : Nat) : (s.flagErr k i sev code).net = s.net := by
  unfold State.flagErr
  dsimp only
  split <;> rfl

/-- A queue in RUN that fails stands in ERROR, with its code and its descriptor (R320). -/
theorem queueError_run {code : Nat} {d : Option Desc} (h : (s.queue q).state = .run) :
    ((s.queueError q code d).queue q) = { s.queue q with state := .error, code := code, failed := d } := by
  simp only [State.queueError, h]
  rw [queue_congr (net_firstError ..), queue_congr (net_flagErr ..), State.setQueue_self]

/-! ## Descriptors (R310, R315) -/

/-- A descriptor that came whole to a queue that may fetch is opened where it is valid, else it puts the queue in ERROR. -/
theorem fetchDescriptor_read {f : Fetch} {m : MemReply} (hr : s.qruns q = true) (hs : s.qstream q = false) (hp : (s.queue q).pending ≠ 0) (hg : s.qgated q = false)
    (ho : (s.queue q).open_.length < 4) (hread : s.protectedRead (s.headAddress q) (.queue q) f = (u, some m)) (hresp : m.resp = .ok) (hpois : m.poison = false) :
    s.fetchDescriptor q f =
      (let d := descOf (m.data / 256 ^ (s.headAddress q % 64))
       if !(u.descOk q d.1 d.2) then u.queueError q 7 (some d.1)
       else if d.1.flags / 4 % 2 = 1 ∧ (s.queue q).open_ ≠ [] then u
       else u.setQueue q { u.queue q with
        open_ := (u.queue q).open_ ++ [{ ord := (u.queue q).next, desc := d.1 }], next := (u.queue q).next + 1, head := ((u.queue q).head + 1) % 65536, freed := (u.queue q).freed - 1 }) := by
  have hgo : (!(s.qruns q) || s.qstream q || (s.queue q).pending == 0 || (s.qgated q && (s.queue q).freed == 0) || decide (4 ≤ (s.queue q).open_.length)) = false := by
    simp [hr, hs, hp, hg]
    omega
  have hgood : ¬(m.resp ≠ .ok ∨ m.poison = true) := by simp [hresp, hpois]
  simp only [State.fetchDescriptor, hgo, hread, hgood, Bool.false_eq_true, if_false]

/-! ## Source data (R312) -/

/-- What a read for one cell brings: from memory or a Facet bank as they stand, else as given. -/
def State.sourceRead (s : State) (q : Nat) (o : OpenDesc) (data : List Byte) (p : Bool) (fs : List Fetch) : State × Option (List Byte × Bool × Resp) :=
  if isMemory (o.desc.src + o.read) then s.readBytes (s.consumerOf q o.desc.dst) (o.desc.src + o.read) (min 256 (o.desc.len - o.read)) fs
  else if isFacet o.desc.src then (s, some (s.facetBytes (o.desc.src + o.read) (min 256 (o.desc.len - o.read)), false, .ok))
  else (s, some ((data ++ List.replicate 256 0).take (min 256 (o.desc.len - o.read)), p, .ok))

/-- The queue with the cell that the read filled. -/
def Queue.filled (x : Queue) (o : OpenDesc) (bs : List Byte) (p : Bool) (age : Nat) (at_ : DWord) : Queue :=
  { x with
    open_ := x.open_.map (fun z => if z.ord = o.ord then { z with read := z.read + min 256 (o.desc.len - o.read) } else z)
    cells := x.cells ++ [{ dst := o.desc.dst + o.read, bytes := bs, poison := p, age := age, ord := o.ord }]
    last := at_ }

theorem sourceReturn_read {o : OpenDesc} {data bs : List Byte} {p p' : Bool} {fs : List Fetch} (ho : (s.queue q).reading = some o) (hr : s.qruns q = true)
    (hs : s.qstream q = false) (hm : s.mayTake q = true) (hread : s.sourceRead q o data p fs = (u, some (bs, p', .ok))) :
    s.sourceReturn q data p .ok fs =
      (let t := u.setQueue q ((u.queue q).filled o bs p' s.net.arrivals s.tickEnd)
       { t with net := { t.net with arrivals := t.net.arrivals + 1 } }) := by
  have hgo : (!(s.qruns q) || s.qstream q || !(s.mayTake q)) = false := by simp [hr, hs, hm]
  unfold State.sourceRead at hread
  simp only [State.sourceReturn, ho, hgo, hread, Bool.false_eq_true, if_false, ne_eq, not_true_eq_false]
  rfl

/-! ## Streams (R311, R313) -/

theorem streamPush_partial {bytes : List Byte} {flush : Bool} (hf : s.streamRefused q = false) (hk : s.streamKind q = true) (hr : s.qruns q = true) (hm : s.mayTake q = true)
    (hroom : s.streamRoom q bytes.length = true) (hlen : ((s.queue q).fill ++ bytes).length < 256) :
    s.streamPush q bytes flush =
      (let t := s.setQueue q { s.queue q with fill := (s.queue q).fill ++ bytes, offered := false }
       (if flush then t.streamFlush q else t, .ok)) := by
  have hfull : ((s.queue q).fill ++ bytes).length / 256 = 0 := by omega
  simp only [State.streamPush, hf, hk, hr, hm, hroom, hfull, Bool.not_true, Bool.or_self, Bool.false_eq_true, if_false, List.range_zero, List.foldl_nil, Nat.mul_zero, List.drop_zero,
    State.setQueue_self, setQueue_setQueue]

theorem streamPush_waits {bytes : List Byte} {flush : Bool} (hf : s.streamRefused q = false) (hk : s.streamKind q = true)
    (h : s.qruns q = false ∨ s.mayTake q = false ∨ s.streamRoom q bytes.length = false) :
    s.streamPush q bytes flush = (s.setQueue q { s.queue q with offered := true }, .unreachable) := by
  have hstop : (!(s.qruns q) || !(s.mayTake q) || !(s.streamRoom q bytes.length)) = true := by
    rcases h with h | h | h <;> simp [h]
  simp only [State.streamPush, hf, hk, hstop, Bool.not_true, Bool.false_eq_true, if_false, if_true]

/-- After a close every segment is closed. -/
theorem streamClose_closed (s : State) (q : Nat) : ∀ o ∈ ((s.streamClose q).queue q).open_, o.closed = true := by
  intro o ho
  unfold State.streamClose at ho
  dsimp only at ho
  rw [State.setQueue_self] at ho
  obtain ⟨z, -, rfl⟩ := List.mem_map.mp ho
  split
  · assumption
  · rfl

/-! ## Cells (R312, R316) -/

theorem transferCell_delivered {die k : Nat} {c : Cell} {ep : Endpoint} (hc : s.chooseCell die = some (k, c, ep)) (hd : s.deliver k c = (u, some .ok)) :
    s.transferCell die =
      (let v := (u.charge (s.qclass k) die (s.qcost k)).setCredits die ep (s.creditsUsed die ep + 1)
       v.setQueue k { v.queue k with
        cells := (v.queue k).cells.erase c, age := 0, last := s.tickEnd,
        open_ := (v.queue k).open_.map (fun z => if z.ord = c.ord then { z with sent := z.sent + c.bytes.length } else z) }) := by
  simp only [State.transferCell, hc, hd, if_true]

theorem creditsUsed_setCredits_self (s : State) (home : Nat) (ep : Endpoint) (n : Nat) : (s.setCredits home ep n).creditsUsed home ep = n := by
  have hrest : (s.net.used.filter (fun x => x.1 != (home, ep))).find? (fun x => x.1 == (home, ep)) = none :=
    List.find?_eq_none.mpr fun x hx => by
      have hne := (List.mem_filter.mp hx).2
      simpa using hne
  unfold State.creditsUsed State.setCredits
  dsimp only
  split
  · rename_i h0
    rw [hrest, h0]
    rfl
  · rw [List.find?_append, hrest]
    simp

theorem creditsUsed_setCredits_other {home h : Nat} {ep e : Endpoint} (hne : (h, e) ≠ (home, ep)) (s : State) (n : Nat) :
    (s.setCredits home ep n).creditsUsed h e = s.creditsUsed h e := by
  have hrest : (s.net.used.filter (fun x => x.1 != (home, ep))).find? (fun x => x.1 == (h, e)) = s.net.used.find? (fun x => x.1 == (h, e)) := by
    rw [List.find?_filter]
    refine congrArg (fun f => List.find? f s.net.used) (funext fun x => ?_)
    by_cases hx : x.1 = (h, e)
    · simp [hx, hne]
    · simp [hx]
  unfold State.creditsUsed State.setCredits
  dsimp only
  split
  · rw [hrest]
  · rw [List.find?_append, hrest]
    simp [Ne.symm hne]

/-! ## Completions (R315, R318) -/

/-- The oldest descriptor leaves the queue. -/
def State.finished (s t : State) (q : Nat) : State :=
  t.setQueue q { t.queue q with open_ := (t.queue q).open_.drop 1, fin := ((t.queue q).fin + 1) % 65536, last := s.tickEnd }

theorem complete_unwanted {o : OpenDesc} (ho : (s.queue q).completed = some o) (hw : s.wantsCompletion q o = false) (late : Bool) :
    s.complete q late = s.finished s q := by
  simp only [State.complete, ho, hw, Bool.not_false, if_true]
  rfl

theorem complete_full {o : OpenDesc} (ho : (s.queue q).completed = some o) (hw : s.wantsCompletion q o = true) (hf : s.compFull q = true) (late : Bool) :
    s.complete q late = s := by
  simp only [State.complete, ho, hw, hf, Bool.not_true, Bool.false_eq_true, if_false, if_true]

theorem complete_written {o : OpenDesc} (ho : (s.queue q).completed = some o) (hw : s.wantsCompletion q o = true) (hf : s.compFull q = false)
    (hc : s.writeCompletion q o = (u, some .ok)) (late : Bool) :
    s.complete q late =
      if late ∧ s.fld (s.qreg q 0x008) 0 24 ≠ 0 then ((s.finished u q).flag (s.qstat q) 31).lateArrival (homeOf q) 0x0A (instOf q) else s.finished u q := by
  simp only [State.complete, ho, hw, hf, hc, Bool.not_true, Bool.false_eq_true, if_false, if_true]
  rfl

/-! ## Timeouts (R321) -/

theorem queueTimeout_stalls (hst : (s.queue q).state = .run) (hh : s.clk.hold = false) (hto : s.fld (s.qreg q 0x008) 0 24 ≠ 0) (he : s.homeEn q = true)
    (hf : s.setFrozen q = false) (hw : s.workPending q = true) (hd : s.fld (s.qreg q 0x008) 0 24 * 16384 ≤ (s.tickEnd - (s.queue q).last).toNat) :
    s.queueTimeout q = ((s.setQueue q { s.queue q with state := .stalled, code := s.stallCode q }).flagErr (s.qstat q) 26 3 (errCode 10 2)).firstError q (s.stallCode q) := by
  refine if_neg ?_
  simp only [hst, hh, hto, he, hf, hw, ne_eq, not_true_eq_false, Bool.false_eq_true, Bool.not_true, false_or]
  omega

/-- The first error of a home leaves the flags of its queues. -/
theorem bit_qstat_firstError (s : State) (q code i : Nat) (hq : q < 8192) : (s.firstError q code).bit (s.qstat q) i = s.bit (s.qstat q) i := by
  have hne : s.qstat q ≠ Reg.QM_ERR (homeOf q) := by
    obtain ⟨-, hi, -⟩ := queue_home hq
    unfold State.qstat State.qreg Reg.QM_ERR regKey
    omega
  unfold State.firstError
  dsimp only
  split
  · rfl
  · exact congrArg (wbit · i) (rd_wr_other hne)

theorem bit_flagErr_self (s : State) (k sev code : Nat) {i : Nat} (h : i < 32) : (s.flagErr k i sev code).bit k i = true :=
  (congrArg (wbit · i) (rd_flagErr s k i sev code k)).trans (bit_flag_self h)

end moves

/-- Settles O40: each step of a queue's work is its update of the queue, or leaves it waiting. -/
theorem queuesMoveData : Obligations.QueuesMoveData := by
  unfold Obligations.QueuesMoveData
  intro s q
  dsimp only
  refine ⟨fun f m u hr hs hp hg ho hread hresp hpois => ?fetch, fun data bs p fs o u ho hr hs hm hread => ?source, fun bytes hf hk => ⟨fun hr hm hroom hlen => ?push, fun h flush => ?waits⟩,
    fun bytes flush hf hk => ?kind, fun bytes flush hf => ?refused, fun hfill => ?flushEmpty, fun hfill => ?flushCell, fun die k c ep u hc hd => ?cell, fun home ep => ?credit,
    fun o ho => ⟨fun late hw => ?unwanted, fun u hw hf hc => ⟨?written, fun hto => ?late⟩, fun late hw hf => ?full⟩, fun hst hh hto he hf hw hd => ?timeout⟩
  case fetch =>
    have hfetch := fetchDescriptor_read hr hs hp hg ho hread hresp hpois
    dsimp only at hfetch
    refine ⟨fun hok hfl => congrArg Host.Outcome.next (hfetch.trans ?opened), fun hok hst => ⟨u.queueError q 7 (some (descOf (m.data / 256 ^ (s.headAddress q % 64))).1), congrArg Host.Outcome.next (hfetch.trans ?failed), ?ends⟩⟩
    case opened => rw [hok, if_neg (by decide), if_neg (by omega)]
    case failed => exact if_pos (by rw [hok]; rfl)
    case ends =>
      rw [queueError_run hst]
      exact ⟨rfl, rfl, rfl⟩
  case source => exact ⟨_, congrArg Host.Outcome.next (sourceReturn_read ho hr hs hm hread), rfl⟩
  case push =>
    have hpush := fun flush => streamPush_partial (flush := flush) hf hk hr hm hroom hlen
    exact ⟨congrArg (fun r : State × Resp => Host.Outcome.next (r.1.answer r.2)) (hpush false), congrArg (fun r : State × Resp => Host.Outcome.next (r.1.answer r.2)) (hpush true)⟩
  case waits => exact congrArg (fun r : State × Resp => Host.Outcome.next (r.1.answer r.2)) (streamPush_waits hf hk h)
  case kind =>
    exact congrArg (fun r : State × Resp => Host.Outcome.next (r.1.answer r.2)) ((if_neg (by rw [hf]; decide)).trans (if_pos (by rw [hk]; rfl)))
  case refused => exact congrArg (fun r : State × Resp => Host.Outcome.next (r.1.answer r.2)) (if_pos hf)
  case flushEmpty =>
    refine ⟨s.streamClose q, congrArg (fun t : State => Host.Outcome.next (t.streamClose q)) (if_pos hfill), rfl, streamClose_closed s q, ?_⟩
    unfold State.streamClose
    dsimp only
    rw [State.setQueue_self]
  case flushCell => exact congrArg (fun t : State => Host.Outcome.next (t.streamClose q)) (if_neg hfill)
  case cell => exact congrArg Host.Outcome.next (transferCell_delivered hc hd)
  case credit =>
    exact ⟨_, rfl, rfl, creditsUsed_setCredits_self .., fun h e hne => creditsUsed_setCredits_other hne s _⟩
  case unwanted => exact congrArg Host.Outcome.next (complete_unwanted ho hw late)
  case written => exact congrArg Host.Outcome.next ((complete_written ho hw hf hc false).trans (if_neg fun h => Bool.false_ne_true h.1))
  case late => exact congrArg Host.Outcome.next ((complete_written ho hw hf hc true).trans (if_pos ⟨rfl, hto⟩))
  case full => exact congrArg Host.Outcome.next (complete_full ho hw hf late)
  case timeout =>
    refine ⟨_, congrArg Host.Outcome.next (queueTimeout_stalls hst hh hto he hf hw hd), ?_⟩
    rw [queue_congr (net_firstError ..), queue_congr (net_flagErr ..), State.setQueue_self]
    refine ⟨rfl, rfl, (bit_qstat_firstError _ q _ 26 q.isLt).trans ?_⟩
    exact bit_flagErr_self (s.setQueue q { s.queue q with state := .stalled, code := s.stallCode q }) (s.qstat q) 3 (errCode 10 2) (by decide)

end Sys2Proof.Machine
end

section
/-!
PROOF. Set commands, routers and crossing lanes (R305, R307, R317, R327).
-/
namespace Sys2Proof.Machine

/-! ## Set commands (R327) -/

theorem foldl_guarded_none {p : State → Nat → Bool} {f : State → Nat → State} {l : List Nat} {s : State} (h : ∀ i ∈ l, p s i = false) :
    l.foldl (fun t i => if p t i then f t i else t) s = s :=
  List.foldlRecOn l _ (motive := fun t => t = s) rfl fun t ht i hi => by rw [ht, h i hi]; rfl

/-- A guarded fold in which one member alone is in, before and after its turn, is that member's turn. -/
theorem foldl_guarded_one {p : State → Nat → Bool} {f : State → Nat → State} {l : List Nat} {s : State} {a : Nat} (hnd : l.Nodup) (ha : a ∈ l) (hin : p s a = true)
    (hout : ∀ i ∈ l, i ≠ a → p s i = false ∧ p (f s a) i = false) : l.foldl (fun t i => if p t i then f t i else t) s = f s a := by
  induction l generalizing s with
  | nil => exact absurd ha List.not_mem_nil
  | cons b l ih =>
    obtain ⟨hb, hnd⟩ := List.nodup_cons.mp hnd
    rw [List.foldl_cons]
    by_cases hba : b = a
    · subst hba
      rw [if_pos hin]
      exact foldl_guarded_none fun i hi => (hout i (List.mem_cons_of_mem b hi) fun he => hb (he ▸ hi)).2
    · rw [(hout b List.mem_cons_self hba).1, if_neg Bool.false_ne_true]
      exact ih hnd ((List.mem_cons.mp ha).resolve_left (Ne.symm hba)) hin fun i hi => hout i (List.mem_cons_of_mem b hi)

/-- The groups of the queues stay. -/
def GroupsKept (s t : State) : Prop := ∀ k, t.rd (s.qreg k 0xFFC) = s.rd (s.qreg k 0xFFC)

section groups
variable {s t : State}

theorem GroupsKept.wr (h : GroupsKept s t) {key : Nat} (w : Word) (hk : key % 4096 ≠ 0xFFC) : GroupsKept s (t.wr key w) := fun k =>
  (rd_wr_other (by unfold State.qreg regKey; omega)).trans (h k)

theorem GroupsKept.flagErr (h : GroupsKept s t) {key : Nat} (i sev code : Nat) (hk : key % 4096 ≠ 0xFFC) : GroupsKept s (t.flagErr key i sev code) := fun k =>
  (rd_flagErr ..).trans (h.wr _ hk k)

theorem groupsKept_qmConfig (s : State) (q : Nat) : GroupsKept s (s.qmConfig q) :=
  GroupsKept.wr (GroupsKept.wr (fun _ => rfl) _ (by unfold Reg.QM_ERR regKey; omega)) _ (by unfold State.qstat State.qreg regKey; omega)

theorem groupsKept_queueEnable (s : State) (q : Nat) : GroupsKept s (s.queueEnable q).1 := by
  unfold State.queueEnable
  dsimp only
  split
  · exact fun _ => rfl
  split
  · exact groupsKept_qmConfig s q
  split
  · exact GroupsKept.flagErr (fun _ => rfl) _ _ _ (by unfold State.qstat State.qreg regKey; omega)
  · exact fun _ => rfl

theorem groupsKept_queuePause (s : State) (q : Nat) : GroupsKept s (s.queuePause q).1 := by
  unfold State.queuePause
  dsimp only
  split
  · exact fun _ => rfl
  · exact fun _ => rfl

theorem groupsKept_queueResume (s : State) (q : Nat) : GroupsKept s (s.queueResume q).1 := by
  unfold State.queueResume
  dsimp only
  split
  · exact fun _ => rfl
  · exact fun _ => rfl

theorem GroupsKept.inGroup (h : GroupsKept s t) (k grp : Nat) : t.inGroup k grp = s.inGroup k grp := by
  have hfld : t.fld (t.qreg k 0xFFC) 0 4 = s.fld (s.qreg k 0xFFC) 0 4 := congrArg (wfld · 0 4) (h k)
  unfold State.inGroup
  rw [hfld]

/-- A set command on a group of one queue is that queue's command. -/
theorem set_fold {f : State → Nat → State} {set grp q : Nat} (hf : ∀ k, GroupsKept s (f s k)) (hq : q / 128 = set) (hin : s.inGroup q grp = true)
    (hone : ∀ k, k / 128 = set → k ≠ q → s.inGroup k grp = false) :
    (List.range 128).foldl (fun t i => if t.inGroup (128 * set + i) grp then f t (128 * set + i) else t) s = f s q := by
  have hat : 128 * set + q % 128 = q := by omega
  have hfold := foldl_guarded_one (p := fun t i => t.inGroup (128 * set + i) grp) (f := fun t i => f t (128 * set + i)) (l := List.range 128) (s := s) (a := q % 128) List.nodup_range
    (List.mem_range.mpr (by omega)) (by rw [hat]; exact hin) fun i hi hne => ?_
  · rw [hat] at hfold
    exact hfold
  · have hi' := List.mem_range.mp hi
    have hout := hone (128 * set + i) (by omega) (by omega)
    exact ⟨hout, ((hf _).inGroup ..).trans hout⟩

end groups

/-! ## The write of QM_SETCMD -/

/-- The die of a set of queues. -/
def dieOfSet (set : Nat) : Nat := if set < 16 then 4 else (set - 16) / 12

/-- The key of the command register of a set. -/
def setKey (set : Nat) : Nat := regKey (dieOfSet set) 0x0A (0xD00 + (set - firstSet (dieOfSet set))) 0

theorem set_place (set : Fin 64) : firstSet (dieOfSet set) + (set - firstSet (dieOfSet set)) = set ∧
    (dieOfSet set < 4 ∧ set - firstSet (dieOfSet set) < 12 ∨ dieOfSet set = 4 ∧ set - firstSet (dieOfSet set) < 16) := by
  revert set
  decide

theorem setCmd_word (op : Fin 8) (grp : Fin 16) :
    wfld (BitVec.ofNat 32 (op + grp * 16 + 2 ^ 31)) 0 3 = op ∧ wfld (BitVec.ofNat 32 (op + grp * 16 + 2 ^ 31)) 4 4 = grp ∧ wbit (BitVec.ofNat 32 (op + grp * 16 + 2 ^ 31)) 31 = true := by
  revert op grp
  decide

section write
variable {s : State} {r : Requester} {die j : Nat} {w : Word}

theorem single_QM_SETCMD (h : die < 4 ∧ j < 12 ∨ die = 4 ∧ j < 16) :
    singleReg (regKey die 0x0A (0xD00 + j) 0) = true ∧ pairHalf (regKey die 0x0A (0xD00 + j) 0) = .none := by
  have ht : Nat.testBit 31 die = true := by
    have hd : die < 5 := by omega
    clear h
    revert hd; revert die; decide
  have hexists : instExists die 0x0A (0xD00 + j) = true := by
    rcases h with ⟨h, h'⟩ | ⟨h, h'⟩
    · simp [instExists, show die ≤ 3 by omega]
      omega
    · simp [instExists, h]
      omega
  refine singleReg_of (by omega) (by decide) (by omega) (by decide) (by decide) (by decide) ?_
  simp [regDef?, keyOff_regKey, keyInst_regKey, keyUnit_regKey, keyDie_regKey, show 0xD00 + j < 4096 by omega, hexists, regRows, rowsQM, RegDef.covers, List.find?,
    show ¬3328 + j ≤ 2047 by omega, show ¬3328 + j ≤ 3072 by omega, show 3328 + j ≤ 3343 by omega, ht]

theorem regWrite_setCmd (s : State) (req : Nat) (hj : j < 16) (hw : wbit w 31 = true) :
    (s.touched req (regKey die 0x0A (0xD00 + j) 0)).regWrite (regKey die 0x0A (0xD00 + j) 0) req w =
      ((s.store (regKey die 0x0A (0xD00 + j) 0) w).setCommand die j (wfld w 0 3) (wfld w 4 4), .ok) := by
  have hi : 0xD00 + j < 4096 := by omega
  simp [State.touched, State.regWrite, State.qmWrite, keyUnit_regKey, keyOff_regKey, keyInst_regKey, keyDie_regKey, hi, hw, show ¬3328 + j = 3072 by omega]

/-- A set command as it is stored. -/
def State.setStored (s : State) (set op grp : Nat) : State := s.store (setKey set) (BitVec.ofNat 32 (op + grp * 16 + 2 ^ 31))

/-- An admitted set command is stored and acts on its set. -/
theorem setAccess_admitted {set : Fin 64} (op : Fin 8) (grp : Fin 16) (ha : s.admits r (setKey set) true = true) :
    s.setAccess r set op grp = ((s.setStored set op grp).setCommand (dieOfSet set) (set - firstSet (dieOfSet set)) op grp).wrote r (setKey set) := by
  obtain ⟨-, hplace⟩ := set_place set
  obtain ⟨hop, hgrp, hset31⟩ := setCmd_word op grp
  have hj : (set : Nat) - firstSet (dieOfSet set) < 16 := by omega
  have hwrite := regWrite_setCmd (die := dieOfSet set) s r.code hj hset31
  rw [hop, hgrp] at hwrite
  exact regAccess_wrote (single_QM_SETCMD hplace) ha hwrite

theorem groupsKept_setStored (s : State) (set op grp : Nat) : GroupsKept s (s.setStored set op grp) := by
  unfold State.setStored State.store
  split
  · exact GroupsKept.wr (fun _ => rfl) _ (by unfold setKey regKey; omega)
  · exact fun _ => rfl

/-- A set command on a group of one member is that member's command. -/
theorem setAccess_member {f : State → Nat → State} {set : Fin 64} {grp : Fin 16} {q : Nat} (op : Fin 8)
    (hop : ∀ (t : State) (die j : Nat), t.setCommand die j op grp =
      (List.range 128).foldl (fun t i => if t.inGroup (128 * (firstSet die + j) + i) grp then f t (128 * (firstSet die + j) + i) else t) t)
    (hf : ∀ (t : State) (k : Nat), GroupsKept t (f t k)) (hq : q / 128 = set) (ha : s.admits r (setKey set) true = true) (hin : s.inGroup q grp = true)
    (hone : ∀ k, k / 128 = (set : Nat) → k ≠ q → s.inGroup k grp = false) :
    s.setAccess r set op grp = (f (s.setStored set op grp) q).wrote r (setKey set) := by
  obtain ⟨hset, -⟩ := set_place set
  have hkept := groupsKept_setStored s set op grp
  have hfold := set_fold (s := s.setStored set op grp) (hf _) hq ((hkept.inGroup q grp).trans hin) fun k hk hkq => (hkept.inGroup k grp).trans (hone k hk hkq)
  rw [setAccess_admitted op grp ha, hop, hset, hfold]

end write

theorem setAccess_admitted_kick {s : State} {r : Requester} {set : Fin 64} {grp : Fin 16} (ha : s.admits r (setKey set) true = true) :
    s.setAccess r set 5 grp = ((s.setStored set 5 grp).kickSet set (fun k => (s.setStored set 5 grp).inGroup k grp)).wrote r (setKey set) := by
  obtain ⟨hset, -⟩ := set_place set
  have hkick : (s.setStored set 5 grp).setCommand (dieOfSet set) (set - firstSet (dieOfSet set)) 5 grp =
      (s.setStored set 5 grp).kickSet (firstSet (dieOfSet set) + (set - firstSet (dieOfSet set))) (fun k => (s.setStored set 5 grp).inGroup k grp) := rfl
  rw [hset] at hkick
  rw [← hkick]
  exact setAccess_admitted 5 grp ha

/-! ## Flows (R304) -/

theorem flowSettle_frame (s : State) (x : FlowState) : (s.flowSettle x).flow = x.flow ∧ (s.flowSettle x).held = x.held ∧ (s.flowSettle x).next = x.next := by
  unfold State.flowSettle
  dsimp only
  split
  · exact ⟨rfl, rfl, rfl⟩
  · split
    · exact ⟨rfl, rfl, rfl⟩
    · exact ⟨rfl, rfl, rfl⟩

/-- What is kept of a flow, or a new flow. -/
theorem flow_found (l : List FlowState) (f : Flow) : ((l.find? (fun y => y.flow == f)).getD { flow := f }).flow = f := by
  cases h : l.find? (fun y => y.flow == f) with
  | none => rfl
  | some y =>
    have hbeq : (y.flow == f) = true := List.find?_some (p := fun y : FlowState => y.flow == f) h
    exact eq_of_beq hbeq

/-- A flow with one more packet under way. -/
def State.flowSent (s : State) (f : Flow) : FlowState :=
  let y := s.flowSettle ((s.net.flows.find? (fun y => y.flow == f)).getD { flow := f })
  { y with
    held := y.held ++ [y.next]
    next := y.next + 1 }

/-! ## Crossing flits (R306, R307) -/

/-- The word a group carries into a flit: its source's, or its default. -/
def State.laneWord (s : State) (src m quarter : Nat) (f : Flit) (g : Nat) : BitVec 32 :=
  if (s.region src (Config.laneSource (32 * (4 * m + quarter) + g) src % 16)).reset || s.reconfiguring src (Config.laneSource (32 * (4 * m + quarter) + g) src % 16)
      || s.fabric.restoring.get (16 * src + Config.laneSource (32 * (4 * m + quarter) + g) src % 16) false
  then Config.laneDefault (32 * (4 * m + quarter) + g) src else f.words.getD g 0

/-- The flit as it is kept at the side it came to. -/
def State.laneFlit (s : State) (src m quarter : Nat) (f : Flit) : LaneFlit :=
  { at_ := f.x, words := (List.range 32).map (s.laneWord src m quarter f), failed := f.failed }

/-- The state after a flit came, its errors not counted yet. -/
def State.flitKept (s : State) (die src m quarter : Nat) (f : Flit) : State :=
  { s with net := { s.net with
    xlBad := s.net.xlBad.set ((4 * m + quarter) * 8 + die) f.failed false
    flits := s.net.flits.set ((4 * m + quarter) * 8 + die) ((s.laneFlit src m quarter f :: s.net.flits.get ((4 * m + quarter) * 8 + die) []).take 32) [] } }

theorem flits_flitKept (s : State) (die src m quarter : Nat) (f : Flit) (k : Nat) :
    (s.flitKept die src m quarter f).net.flits.get k [] =
      if k = (4 * m + quarter) * 8 + die then (s.laneFlit src m quarter f :: s.net.flits.get ((4 * m + quarter) * 8 + die) []).take 32 else s.net.flits.get k [] :=
  SMap.get_set s.net.flits k ((4 * m + quarter) * 8 + die) ((s.laneFlit src m quarter f :: s.net.flits.get ((4 * m + quarter) * 8 + die) []).take 32) []

theorem crossingFlit_eq (s : State) (die src m quarter : Nat) (f : Flit) :
    s.crossingFlit die src m quarter f =
      if f.failed then ((s.flitKept die src m quarter f).count (Reg.D2D_XLERR die m) 1).flagErr (Reg.D2D_EVT die m) 2 3 (errCode 10 9) else s.flitKept die src m quarter f := by
  unfold State.crossingFlit State.flitKept State.laneFlit State.laneWord
  rfl

theorem laneFlit_word {s : State} {src m quarter : Nat} {f : Flit} (g : Fin 32)
    (hreset : (s.region src (Config.laneSource (32 * (4 * m + quarter) + g) src % 16)).reset = false)
    (hrec : s.reconfiguring src (Config.laneSource (32 * (4 * m + quarter) + g) src % 16) = false)
    (hrest : s.restoringRg src (Config.laneSource (32 * (4 * m + quarter) + g) src % 16) = false) :
    (s.laneFlit src m quarter f).words.getD g 0 = f.words.getD g 0 := by
  have hword : s.laneWord src m quarter f g = f.words.getD g 0 := by
    have hrest' : s.fabric.restoring.get (16 * src + Config.laneSource (32 * (4 * m + quarter) + g) src % 16) false = false := by
      rw [Nat.mul_comm]
      exact hrest
    exact if_neg (by rw [hreset, hrec, hrest']; decide)
  unfold State.laneFlit
  rw [List.getD_eq_getElem?_getD, List.getElem?_map, List.getElem?_range g.isLt, Option.map_some, Option.getD_some, hword]

/-- Settles O41: a set command is its one member's, and a router's packet and a crossing flit are kept with their errors. -/
theorem setsRoutersAndCrossings : Obligations.SetsRoutersAndCrossings := by
  unfold Obligations.SetsRoutersAndCrossings
  intro s r set grp
  dsimp only
  refine ⟨fun q hq ha hin hone => ?member, fun ha => congrArg Host.Outcome.next (setAccess_admitted_kick ha), fun d f corrected => ⟨rfl, rfl, rfl⟩, fun f hne => ?flow,
    fun d m quarter x words => ⟨?good, ?bad⟩⟩
  case member =>
    exact ⟨congrArg Host.Outcome.next (setAccess_member (f := fun t q => (t.queueEnable q).1) 1 (fun _ _ _ => rfl) groupsKept_queueEnable hq ha hin hone),
      congrArg Host.Outcome.next (setAccess_member (f := fun t q => (t.queuePause q).1) 2 (fun _ _ _ => rfl) groupsKept_queuePause hq ha hin hone),
      congrArg Host.Outcome.next (setAccess_member (f := fun t q => (t.queueResume q).1) 3 (fun _ _ _ => rfl) groupsKept_queueResume hq ha hin hone),
      congrArg Host.Outcome.next (setAccess_member (f := State.queueReset) 4 (fun _ _ _ => rfl) (fun _ _ _ => rfl) hq ha hin hone)⟩
  case flow =>
    obtain ⟨hflow, hheld, hnext⟩ := flowSettle_frame s ((s.net.flows.find? (fun y => y.flow == f)).getD { flow := f })
    have hfound := flow_found s.net.flows f
    refine ⟨s.flowSent f, (if_pos rfl).trans (by rw [if_neg hne]; rfl), hflow.trans hfound, ?_, congrArg (· + 1) hnext⟩
    exact congr (congrArg (fun l n => l ++ [n]) hheld) hnext
  case good =>
    refine ⟨_, congrArg Host.Outcome.next ((crossingFlit_eq ..).trans (if_neg Bool.false_ne_true)), rfl, fun k' hk => (flits_flitKept ..).trans (if_neg hk),
      ⟨_, (flits_flitKept ..).trans (if_pos rfl), rfl, rfl, fun g hreset hrec hrest => laneFlit_word g hreset hrec hrest⟩⟩
  case bad =>
    refine ⟨_, congrArg Host.Outcome.next ((crossingFlit_eq ..).trans (if_pos rfl)), ?_, bit_flagErr_self _ _ _ _ (by decide)⟩
    rw [net_flagErr]
    exact SMap.get_set_self s.net.xlBad _ true false

end Sys2Proof.Machine
end

section
/-!
PROOF. The DDR5 channels: accesses and refresh (R330 to R337).
-/
namespace Sys2Proof.Machine

/-! ## Accesses (R332 to R337) -/

section channel
variable {s t : State} {c : Nat}

/-- A row is open in its bank. -/
def RowOpen (c bank row : Nat) (s : State) : Prop := (s.chan c).opened.get bank none = some row

theorem RowOpen.count {bank row : Nat} (h : RowOpen c bank row s) (k n : Nat) : RowOpen c bank row (s.count k n) := h

theorem RowOpen.setChan {bank row : Nat} {x : Channel} (h : x.opened.get bank none = some row) : RowOpen c bank row (s.setChan c x) := by
  unfold RowOpen
  rw [State.setChan_self]
  exact h

theorem RowOpen.acts {bank row : Nat} (h : RowOpen c bank row s) (a : SMap (List (Nat × Nat))) : RowOpen c bank row (s.setChan c { s.chan c with acts := a }) :=
  RowOpen.setChan h

theorem RowOpen.ite {bank row : Nat} {p : Prop} [Decidable p] (h : RowOpen c bank row s) (h' : RowOpen c bank row t) : RowOpen c bank row (if p then s else t) := by
  split
  · exact h
  · exact h'

/-- A row asked for is open (R336). -/
theorem rowOpen_openRow (s : State) (c bank row : Nat) : RowOpen c bank row (s.openRow c bank row) := by
  have hopen : ((s.chan c).opened.set bank (some row) none).get bank none = some row := SMap.get_set_self ..
  unfold State.openRow
  dsimp only
  split
  · assumption
  · refine .ite (.ite (.count (.acts ?_ _) _ _) (.acts ?_ _)) ?_
    all_goals exact .ite (.ite (.count (.setChan hopen) _ _) (.setChan hopen)) (.setChan hopen)

/-! ## The access commands -/

/-- An access answered: its reply stands in the memory state. -/
def State.replied (x : State × MemReply) : State := { x.1 with mem := { x.1.mem with reply := some x.2 } }

theorem memoryRead_located {a l bank row : Nat} (hl : s.locate a = .ok (c, l)) (hc : c < 4) (out : Nat) :
    s.memoryRead a bank row out = State.replied ((s.scheduleRead c bank row).arrayRead a c l out) := by
  simp only [State.memoryRead, hl, if_neg (show ¬4 ≤ c by omega)]
  rfl

theorem arrayRead_kinds (s : State) (a e l : Nat) :
    s.arrayRead a e l 0 = s.storedLine e l ∧ s.arrayRead a e l 1 = (s.corrected e).storedLine e l ∧ s.arrayRead a e l 2 = (s.uncorrectable e a, poisoned 6) := by
  unfold State.arrayRead
  exact ⟨(if_neg (by decide)).trans (congrArg (fun t : State => t.storedLine e l) (if_neg (by decide))),
    (if_neg (by decide)).trans (congrArg (fun t : State => t.storedLine e l) (if_pos (by decide))), if_pos (by decide)⟩

/-- The three outcomes of a read that is located (R331). -/
theorem memoryRead_kinds {a l bank row : Nat} (hl : s.locate a = .ok (c, l)) (hc : c < 4) :
    s.memoryRead a bank row 0 = State.replied ((s.scheduleRead c bank row).storedLine c l) ∧
    s.memoryRead a bank row 1 = State.replied (((s.scheduleRead c bank row).corrected c).storedLine c l) ∧
    s.memoryRead a bank row 2 = State.replied ((s.scheduleRead c bank row).uncorrectable c a, poisoned 6) := by
  obtain ⟨hclean, hcorrected, hpoisoned⟩ := arrayRead_kinds (s.scheduleRead c bank row) a c l
  exact ⟨(memoryRead_located hl hc 0).trans (congrArg State.replied hclean), (memoryRead_located hl hc 1).trans (congrArg State.replied hcorrected),
    (memoryRead_located hl hc 2).trans (congrArg State.replied hpoisoned)⟩

theorem memoryWrite_located {a l bank row prio : Nat} (hl : s.locate a = .ok (c, l)) (hc : c < 4) :
    s.memoryWrite a bank row prio = State.replied (s.queueWrite c { bank := bank, row := row, prio := prio, line := l / 64 }, {}) := by
  simp only [State.memoryWrite, hl, if_neg (show ¬4 ≤ c by omega)]
  rfl

theorem memoryRead_refused {a bank row out : Nat} {x : Resp} (hl : s.locate a = .error x) : s.memoryRead a bank row out = State.replied (s, { resp := x }) := by
  simp only [State.memoryRead, hl]
  rfl

theorem memoryWrite_refused {a bank row prio : Nat} {x : Resp} (hl : s.locate a = .error x) : s.memoryWrite a bank row prio = State.replied (s, { resp := x }) := by
  simp only [State.memoryWrite, hl]
  rfl

/-- A write that leaves its queue below the high mark waits there (R332, R333). -/
theorem queueWrite_waits {x : MemReq} (h : ((s.chan c).wq x.bank).length + 1 < s.wqHi c) (h64 : ((s.chan c).wq x.bank).length < 64) :
    s.queueWrite c x = s.setChan c ((s.chan c).setWq x.bank ((s.chan c).wq x.bank ++ [{ x with at_ := s.now }])) := by
  have hwq : ∀ (ch : Channel) (q : List MemReq), (ch.setWq x.bank q).wq x.bank = q := fun ch q => by
    unfold Channel.setWq Channel.wq
    split <;> rfl
  unfold State.queueWrite
  dsimp only
  rw [if_neg (by omega)]
  refine if_neg ?_
  rw [State.setChan_self, hwq, List.length_append]
  show ¬max (s.wqHi c) 1 ≤ _ + 1
  omega

end channel

/-- Settles O42: reads are scheduled and answered by the array, writes wait, refreshes close rows. -/
theorem channelsServeMemory : Obligations.ChannelsServeMemory := by
  unfold Obligations.ChannelsServeMemory
  intro s a bank row prio c replied ch
  refine ⟨fun l hl => ?located, fun x hx => ⟨fun out => congrArg Host.Outcome.next (memoryRead_refused hx), congrArg Host.Outcome.next (memoryWrite_refused hx)⟩,
    fun hs => ⟨fun h => ?skip, fun h hg => ?group, fun h hg => ?close⟩, fun hot => rfl, rfl⟩
  case located =>
    obtain ⟨hclean, hcorrected, hpoisoned⟩ := memoryRead_kinds (bank := bank) (row := row) hl c.isLt
    refine ⟨congrArg Host.Outcome.next hclean, congrArg Host.Outcome.next hcorrected, congrArg Host.Outcome.next hpoisoned, rowOpen_openRow .., fun ⟨h, h64⟩ => ?_⟩
    have hwait := queueWrite_waits (x := { bank := bank, row := row, prio := prio, line := l / 64 }) h h64
    exact congrArg Host.Outcome.next ((memoryWrite_located hl c.isLt).trans (congrArg (fun t : State => State.replied (t, {})) hwait))
  case skip => exact congrArg Host.Outcome.next ((if_neg (by rw [hs]; decide)).trans (if_pos h))
  case group => exact congrArg Host.Outcome.next ((if_neg (by rw [hs]; decide)).trans ((if_neg (h ▸ Nat.lt_irrefl 0)).trans (if_pos hg)))
  case close => exact congrArg Host.Outcome.next ((if_neg (by rw [hs]; decide)).trans ((if_neg (h ▸ Nat.lt_irrefl 0)).trans (if_neg hg)))

end Sys2Proof.Machine
end

section
/-!
PROOF. Training, retraining and tests of the DDR5 channels (R338 to R342).
-/
namespace Sys2Proof.Machine

/-! ## Stores of writable bits -/

/-- A bit that a register takes as written reads as written. -/
theorem bit_store {s : State} {key i : Nat} {w : Word} (h : (regDef? key).any (fun r => (r.rw ||| r.rwl).testBit i && !r.w1c.testBit i) = true) (hi : i < 32) :
    (s.store key w).bit key i = wbit w i := by
  cases hr : regDef? key with
  | none => rw [hr] at h; exact absurd h Bool.false_ne_true
  | some r =>
    rw [hr] at h
    simp only [Option.any_some, Bool.and_eq_true, Bool.not_eq_true'] at h
    obtain ⟨hrw, hw1c⟩ := h
    unfold State.store State.bit
    simp only [hr, rd_wr_self, RegDef.merge, wbit, BitVec.getLsbD_or, BitVec.getLsbD_and, BitVec.getLsbD_not, BitVec.getLsbD_ofNat, hrw, hw1c, hi, decide_true]
    simp

section training
variable {s t u : State} {r : Requester} {c : Nat} {w : Word}

theorem regWrite_ddr (s : State) (req : Nat) (w : Word) {o : Nat} (hc : c < 4) (ho : o < 0xF00) :
    (s.touched req (regKey 4 0x10 c o)).regWrite (regKey 4 0x10 c o) req w = s.ddrWrite c o (regKey 4 0x10 c o) req w := by
  have ho' : o < 4096 := by omega
  have hc' : c < 4096 := by omega
  simp [State.touched, State.regWrite, keyUnit_regKey ho' hc', keyOff_regKey ho', keyInst_regKey ho' hc', show o ≠ 4088 by omega, show o ≠ 4092 by omega]

theorem chan_store (s : State) (k : Nat) (w : Word) (c : Nat) : (s.store k w).chan c = s.chan c := by
  unfold State.store
  split <;> rfl

theorem chan_flagErr (s : State) (k i sev code c : Nat) : (s.flagErr k i sev code).chan c = s.chan c := by
  unfold State.flagErr
  dsimp only
  split <;> rfl

theorem chan_wr (s : State) (k : Nat) (w : Word) (c : Nat) : (s.wr k w).chan c = s.chan c := rfl

theorem chan_setFld (s : State) (k lo n v c : Nat) : (s.setFld k lo n v).chan c = s.chan c := rfl

theorem power_storeFlag (s : State) (k : Nat) (w : Word) (bad : Bool) (k' i : Nat) : (s.storeFlag k w bad k' i).power = s.power := by
  unfold State.storeFlag State.flagIf State.store
  repeat' split
  all_goals rfl

/-! ## Training (R338) -/

/-- Setting the eyes of a list of lanes, each of its own key, touches those registers alone. -/
theorem rd_setEyes_other (s : State) (c : Nat) (eyes : List Word) {k : Nat} (hk : ∀ i, k ≠ Reg.DDR_EYE c i) : (s.setEyes c eyes).rd k = s.rd k :=
  rd_foldl _ _ fun _ _ _ => rd_wr_other (hk _)

theorem setEyes_frame (s : State) (c : Nat) (eyes : List Word) : s.setEyes c eyes = { s with csr := (s.setEyes c eyes).csr } :=
  List.foldlRecOn _ _ (motive := fun t : State => t = { s with csr := t.csr }) rfl fun _ ht x _ => congrArg (fun u : State => u.wr (Reg.DDR_EYE c x.2) x.1) ht

theorem eye_ne {i j : Nat} (h : i ≠ j) : Reg.DDR_EYE c i ≠ Reg.DDR_EYE c j := by
  unfold Reg.DDR_EYE regKey
  omega

theorem rd_foldl_eyes (l : List Word) (n : Nat) (s : State) (i : Nat) {w : Word} (hw : l[i]? = some w) :
    ((l.zipIdx n).foldl (fun t x => t.wr (Reg.DDR_EYE c x.2) x.1) s).rd (Reg.DDR_EYE c (n + i)) = w := by
  induction l generalizing n s i with
  | nil => simp at hw
  | cons a l ih =>
    rw [List.zipIdx_cons, List.foldl_cons]
    cases i with
    | zero =>
      have ha : a = w := by simpa using hw
      exact (rd_foldl _ _ fun _ x hx => rd_wr_other (eye_ne (by
        have := List.le_snd_of_mem_zipIdx hx
        omega))).trans ((rd_wr_self ..).trans ha)
    | succ i =>
      have hrest := ih (n + 1) (s.wr (Reg.DDR_EYE c n) a) i (by simpa using hw)
      rw [← hrest]
      congr 2
      omega

/-- Every eye of the list reads as given. -/
theorem rd_setEyes (s : State) {eyes : List Word} {i : Nat} (hi : i < 10) (hw : eyes[i]? = some w) : (s.setEyes c eyes).rd (Reg.DDR_EYE c i) = w := by
  have hread := rd_foldl_eyes (c := c) (eyes.take 10) 0 s i (w := w) (by rw [List.getElem?_take, if_pos hi]; exact hw)
  rwa [Nat.zero_add] at hread

theorem eye_ne_low {i o : Nat} (ho : o < 0x40) : Reg.DDR_EYE c i ≠ regKey 4 0x10 c o := by
  unfold Reg.DDR_EYE regKey
  omega

/-- What training leaves: READY with the device's threshold, or FAILED with its error; every eye as measured. -/
theorem endTraining_spec {eyes : List Word} {thr : Nat} (h : (s.chan c).state = .init) :
    s.endTraining c eyes thr = { s with csr := (s.endTraining c eyes thr).csr, mem := (s.endTraining c eyes thr).mem, raised := (s.endTraining c eyes thr).raised } ∧
    (s.eyesPass c eyes = true → ((s.endTraining c eyes thr).chan c).state = .ready ∧ ((s.endTraining c eyes thr).chan c).rfmThr = thr ∧ (s.endTraining c eyes thr).raised = s.raised) ∧
    (s.eyesPass c eyes = false → ((s.endTraining c eyes thr).chan c).state = .failed ∧ (s.endTraining c eyes thr).bit (Reg.DDR_STAT c) 6 = true) ∧
    (∀ i < 10, ∀ w, eyes[i]? = some w → (s.endTraining c eyes thr).rd (Reg.DDR_EYE c i) = w) := by
  have hframe := setEyes_frame s c eyes
  have hread := fun i hi w hw => rd_setEyes (c := c) s (eyes := eyes) (i := i) (w := w) hi hw
  have hinit : ¬(s.chan c).state ≠ .init := fun hne => hne h
  unfold State.endTraining
  dsimp only
  rw [if_neg hinit]
  generalize s.setEyes c eyes = v at hframe hread ⊢
  cases hpass : s.eyesPass c eyes with
  | true =>
    rw [if_pos rfl]
    refine ⟨?_, fun _ => ?_, fun hne => absurd hne (by decide), hread⟩
    · rw [hframe]
      rfl
    · rw [State.setChan_self]
      exact ⟨rfl, rfl, (congrArg State.raised hframe :)⟩
  | false =>
    rw [if_neg Bool.false_ne_true]
    refine ⟨?_, fun hne => absurd hne (by decide), fun _ => ⟨?_, bit_flagErr_self _ _ _ _ (by decide)⟩, fun i hi w hw => ?_⟩
    · rw [flagErr_frame, hframe]
      rfl
    · rw [chan_flagErr, State.setChan_self]
    · exact (rd_flagErr ..).trans ((rd_wr_other (eye_ne_low (o := 0x008) (by decide))).trans (hread i hi w hw))

/-! ## DDR_CTL (R341) -/

theorem ddrCtl_takes_en : ∀ c < 4, (regDef? (Reg.DDR_CTL c)).any (fun r => (r.rw ||| r.rwl).testBit 0 && !r.w1c.testBit 0) = true := by decide

/-- `init` brings a failed channel, populated and powered, back to training. -/
theorem ddrCtlWrite_init (hc : c < 4) (h : (s.chan c).state = .failed) (hw : wbit w 0 = true) (hdom : s.power.dom.get (148 + c) 0 = 0) (hp : s.populated c = true) :
    ∃ t : State, s.ddrCtlWrite c (w ||| 0x40) = t.beginTraining c := by
  have hen : wbit (w ||| 0x40) 0 = true := by
    have := hw
    unfold wbit at this ⊢
    rw [BitVec.getLsbD_or, this]
    rfl
  have hinit : wbit (w ||| 0x40) 6 = true := by
    unfold wbit
    rw [BitVec.getLsbD_or]
    simp
  have hmay : ∀ bad : Bool, (s.storeFlag (Reg.DDR_CTL c) (w ||| 0x40) bad (Reg.DDR_STAT c) 11).mayTrain c = true := fun bad => by
    have hother : ∀ k, k ≠ Reg.DDR_STAT c → (s.storeFlag (Reg.DDR_CTL c) (w ||| 0x40) bad (Reg.DDR_STAT c) 11).rd k = (s.store (Reg.DDR_CTL c) (w ||| 0x40)).rd k := fun k hk => by
      unfold State.storeFlag State.flagIf
      split
      · exact rd_wr_other hk
      · rfl
    have hctl : (s.storeFlag (Reg.DDR_CTL c) (w ||| 0x40) bad (Reg.DDR_STAT c) 11).bit (Reg.DDR_CTL c) 0 = true :=
      (congrArg (wbit · 0) (hother _ (by unfold Reg.DDR_CTL Reg.DDR_STAT regKey; omega))).trans ((bit_store (ddrCtl_takes_en c hc) (by decide)).trans hen)
    have hcfg : (s.storeFlag (Reg.DDR_CTL c) (w ||| 0x40) bad (Reg.DDR_STAT c) 11).populated c = true :=
      (congrArg (wbit · 0) ((hother _ (by unfold Reg.DDR_CFG Reg.DDR_STAT regKey; omega)).trans
        (rd_store_other s _ (by unfold Reg.DDR_CFG Reg.DDR_CTL regKey; omega)))).trans hp
    have hpow : (s.storeFlag (Reg.DDR_CTL c) (w ||| 0x40) bad (Reg.DDR_STAT c) 11).power = s.power := power_storeFlag ..
    unfold State.mayTrain
    rw [hctl, hcfg, hpow, hdom]
    rfl
  simp only [State.ddrCtlWrite, h, hen, hinit, hmay, Bool.not_true, Bool.false_eq_true, if_false, Bool.and_self, if_true]
  exact ⟨_, rfl⟩

/-! ## DDR_RT (R339 to R341) -/

/-- A retraining begins with its first slot. -/
def State.retrainBegun (s : State) (c : Nat) : State := (s.setChan c { s.chan c with state := .retrain }).setFld (Reg.DDR_RT c) 16 7 0

theorem retrainBegun_spec (s : State) (c : Nat) (w : Word) :
    let t := (s.store (Reg.DDR_RT c) w).retrainBegun c
    (t.chan c).state = .retrain ∧ t.fld (Reg.DDR_RT c) 16 7 = 0 ∧ t = { s with csr := t.csr, mem := t.mem } := by
  refine ⟨?_, fld_setFld_self _ _ 0 (by decide), ?_⟩
  · unfold State.retrainBegun
    rw [chan_setFld, State.setChan_self]
  · unfold State.store
    split <;> rfl

theorem ddrWrite_retrain (hc : c < 4) (h0 : wbit w 0 = true) (h1 : wbit w 1 = false) (key req : Nat) :
    s.ddrWrite c 0x020 key req w =
      if (s.chan c).state = .retrain then (s.store key w, .ok)
      else if (s.chan c).state = .ready then
        ((s.store key w).retrainBegun c, .ok)
      else (s, .refused) := by
  have hchan : (s.store key w).chan c = s.chan c := chan_store ..
  have hne : c ≠ 4 := by omega
  simp only [State.ddrWrite, hne, if_false, h0, h1, if_true]
  by_cases hr : (s.chan c).state = .retrain
  · simp [hr]
  · by_cases hready : (s.chan c).state = .ready
    · simp [hready, State.retrain, State.retrainBegun, hchan]
    · simp [hr, hready, State.retrain, hchan]

theorem ddrWrite_abort (hc : c < 4) (h0 : wbit w 0 = false) (h1 : wbit w 1 = true) (h : (s.chan c).state = .retrain) (key req : Nat) :
    s.ddrWrite c 0x020 key req w = ((s.store key w).setChan c { s.chan c with state := .ready }, .ok) := by
  have hchan : (s.store key w).chan c = s.chan c := chan_store ..
  have hne : c ≠ 4 := by omega
  simp [State.ddrWrite, hne, h0, h1, State.retrainAbort, hchan, h]

theorem abort_word (w : Word) : wbit (w &&& 0xFFFFFFFE ||| 2) 0 = false ∧ wbit (w &&& 0xFFFFFFFE ||| 2) 1 = true := by
  unfold wbit
  simp

theorem retrain_word (w : Word) : wbit (w ||| 1) 0 = true ∧ wbit (w ||| 1) 1 = wbit w 1 := by
  unfold wbit
  simp

theorem slotsOf_le (s : State) (c : Nat) : s.slotsOf c ≤ 64 := by
  have hlt : s.fld (Reg.DDR_CFG c) 1 1 < 2 := Nat.mod_lt _ (by decide)
  unfold State.slotsOf
  omega

/-- A slot of a retraining, as it is taken. -/
def State.slotTaken (s : State) (c : Nat) : State :=
  let a := s.setPower (fun p => { p with jobs := p.jobs.set 28 (p.jobs.get 28 0 - 1) 0 })
  (a.setChan c { a.chan c with
    pulled := if a.fld (Reg.DDR_CTL c) 1 2 = 0 ∨ a.fld (Reg.DDR_CTL c) 1 2 = 3 then 4 else 7
    opened := []
    slotAt := s.now }).setFld (Reg.DDR_RT c) 16 7 (a.fld (Reg.DDR_RT c) 16 7 + 1)

theorem slotTaken_spec (s : State) (c : Nat) : (s.slotTaken c).power.jobs.get 28 0 = s.power.jobs.get 28 0 - 1 ∧ ((s.slotTaken c).chan c).opened = [] ∧
    ((s.slotTaken c).chan c).state = (s.chan c).state ∧ (s.slotTaken c).fld (Reg.DDR_RT c) 16 7 = (s.fld (Reg.DDR_RT c) 16 7 + 1) % 128 := by
  refine ⟨SMap.get_set_self s.power.jobs 28 _ 0, ?_, ?_, fld_setFld_self _ _ _ (by decide)⟩
  · unfold State.slotTaken
    rw [chan_setFld, State.setChan_self]
  · unfold State.slotTaken
    rw [chan_setFld, State.setChan_self]
    rfl

theorem retrainSlot_admitted {eyes : List Word} {n : Nat} (h : (s.chan c).state = .retrain) (hg : s.gapRuns c = false) (hj : s.power.jobs.get 28 0 = n + 1) :
    s.retrainSlot c eyes =
      if s.fld (Reg.DDR_RT c) 16 7 + 1 < s.slotsOf c then s.slotTaken c
      else
        (let u := (s.slotTaken c).setChan c { (s.slotTaken c).chan c with state := .ready }
         if (s.slotTaken c).eyesPass c eyes then u.setEyes c eyes else u.flagErr (Reg.DDR_STAT c) 7 3 (errCode 11 3)) := by
  have htake : s.takeUnit 3 4 = (s.setPower (fun p => { p with jobs := p.jobs.set 28 (p.jobs.get 28 0 - 1) 0 }), true) := if_pos (show 0 < s.power.jobs.get 28 0 by omega)
  have hgo : ¬((s.chan c).state ≠ .retrain ∨ s.gapRuns c = true) := by simp [h, hg]
  unfold State.retrainSlot
  rw [if_neg hgo, htake]
  rfl

/-- What is left after the last slot: READY, rows closed, the job's unit spent. -/
theorem retrainSlot_last {eyes : List Word} (s : State) (c : Nat) :
    let u := (s.slotTaken c).setChan c { (s.slotTaken c).chan c with state := .ready }
    let t := if (s.slotTaken c).eyesPass c eyes then u.setEyes c eyes else u.flagErr (Reg.DDR_STAT c) 7 3 (errCode 11 3)
    t.power = (s.slotTaken c).power ∧ t.chan c = { (s.slotTaken c).chan c with state := .ready } := by
  intro u t
  have hu : u.chan c = { (s.slotTaken c).chan c with state := .ready } := State.setChan_self ..
  have ht : t.power = u.power ∧ t.mem = u.mem := by
    by_cases hp : (s.slotTaken c).eyesPass c eyes = true
    · have heq : t = u.setEyes c eyes := if_pos hp
      rw [heq, setEyes_frame u c eyes]
      exact ⟨rfl, rfl⟩
    · have heq : t = u.flagErr (Reg.DDR_STAT c) 7 3 (errCode 11 3) := if_neg hp
      rw [heq, flagErr_frame u]
      exact ⟨rfl, rfl⟩
  exact ⟨ht.1, (congrArg (fun m : Mem => m.chans.get c {}) ht.2).trans hu⟩

/-! ## Memory tests (R342) -/

theorem testWord_bits (op pat : Fin 4) (kid : Fin 64) : wbit (testWord op pat kid) 31 = true ∧ wfld (testWord op pat kid) 0 2 = op := by
  revert op pat kid
  decide

theorem ddrWrite_test (op pat : Fin 4) (kid : Fin 64) (hc : c < 4) (ht : (s.chan c).test = none) (h0 : op ≠ 0) (key req : Nat) :
    s.ddrWrite c 0x08C key req (testWord op pat kid) =
      (((s.store key (testWord op pat kid)).setChan c { s.chan c with test := some ((op : Nat), req) }).wr (Reg.DDR_MT_RES c) 0, .ok) := by
  obtain ⟨hgo, hop⟩ := testWord_bits op pat kid
  have hchan : (s.store key (testWord op pat kid)).chan c = s.chan c := chan_store ..
  have hne : c ≠ 4 := by omega
  have h0' : (op : Nat) ≠ 0 := fun h => h0 (Fin.ext h)
  simp [State.ddrWrite, hne, ht, hgo, hop, State.testStart, hchan, h0']

/-- The lines of a test, written and checked as its operation asks; those that failed. -/
def State.testRun (s : State) (c op agent : Nat) : State × List Nat :=
  let u := s.setPower (fun p => { p with jobs := p.jobs.set 36 (s.power.jobs.get 36 0 - (s.rd (Reg.DDR_MT_LEN c)).toNat) 0 })
  let u := if op = 2 then u else u.testFill c agent (s.fld (Reg.DDR_MT_CTL c) 2 2) (s.testLines c)
  if op = 1 then (u, []) else u.testCheck c agent (s.fld (Reg.DDR_MT_CTL c) 2 2) (s.testLines c)

/-- The result of a test in its register. -/
def State.testResult (s : State) (c n : Nat) : State :=
  (s.setChan c { s.chan c with test := none }).wr (Reg.DDR_MT_RES c) (BitVec.ofNat 32 (min n (2 ^ 31 - 1) + 2 ^ 31))

/-- The first failing address, with its error. -/
def State.testFailed (s : State) (c a : Nat) : State :=
  (s.wrPair (Reg.DDR_MT_FAIL_LO c) (Reg.DDR_MT_FAIL_HI c) (BitVec.ofNat 64 a)).flagErr (Reg.DDR_STAT c) 10 3 (errCode 11 4)

theorem testDone_eq {op agent : Nat} (h : (s.chan c).test = some (op, agent)) (hj : (s.rd (Reg.DDR_MT_LEN c)).toNat ≤ s.power.jobs.get 36 0) :
    ((s.testRun c op agent).2 = [] → s.testDone c = (s.testRun c op agent).1.testResult c 0) ∧
    (∀ a l, (s.testRun c op agent).2 = a :: l → s.testDone c = ((s.testRun c op agent).1.testResult c (a :: l).length).testFailed c a) := by
  have htake : s.takeUnits 4 4 (s.rd (Reg.DDR_MT_LEN c)).toNat =
      (s.setPower (fun p => { p with jobs := p.jobs.set 36 (s.power.jobs.get 36 0 - (s.rd (Reg.DDR_MT_LEN c)).toNat) 0 }), true) := if_pos hj
  unfold State.testDone State.testRun
  simp only [h, htake, Bool.not_true, Bool.false_eq_true, if_false]
  exact ⟨fun hnil => by rw [hnil]; rfl, fun a l hcons => by rw [hcons]; rfl⟩

theorem testResult_spec (s : State) (c n : Nat) : ((s.testResult c n).chan c).test = none ∧ (s.testResult c n).bit (Reg.DDR_MT_RES c) 31 = true ∧
    (n = 0 → (s.testResult c n).rd (Reg.DDR_MT_RES c) = 0x80000000) := by
  have hword : (s.testResult c n).rd (Reg.DDR_MT_RES c) = BitVec.ofNat 32 (min n (2 ^ 31 - 1) + 2 ^ 31) := rd_wr_self ..
  refine ⟨?_, ?_, fun h0 => ?_⟩
  · unfold State.testResult
    rw [chan_wr, State.setChan_self]
  · unfold State.bit wbit
    rw [hword, BitVec.getLsbD_ofNat, Nat.testBit_eq_decide_div_mod_eq]
    simp
    omega
  · rw [hword, h0]
    rfl

theorem testFailed_spec (s : State) (c a : Nat) : (s.testFailed c a).chan c = s.chan c ∧ (s.testFailed c a).rd (Reg.DDR_MT_RES c) = s.rd (Reg.DDR_MT_RES c) := by
  refine ⟨(chan_flagErr ..).trans rfl, (rd_flagErr ..).trans ?_⟩
  exact (rd_wr_other (by unfold Reg.DDR_MT_RES Reg.DDR_STAT regKey; omega)).trans
    ((rd_wr_other (by unfold Reg.DDR_MT_RES Reg.DDR_MT_FAIL_HI regKey; omega)).trans (rd_wr_other (by unfold Reg.DDR_MT_RES Reg.DDR_MT_FAIL_LO regKey; omega)))

/-- A test with its units admitted ends, its result in DDR_MT_RES. -/
theorem testDone_spec {op agent : Nat} (h : (s.chan c).test = some (op, agent)) (hj : (s.rd (Reg.DDR_MT_LEN c)).toNat ≤ s.power.jobs.get 36 0) :
    ((s.testDone c).chan c).test = none ∧ (s.testDone c).bit (Reg.DDR_MT_RES c) 31 = true ∧ (op = 1 → (s.testDone c).rd (Reg.DDR_MT_RES c) = 0x80000000) := by
  obtain ⟨hnil, hcons⟩ := testDone_eq h hj
  have hop : op = 1 → (s.testRun c op agent).2 = [] := fun h1 => congrArg Prod.snd (if_pos h1)
  cases hr : (s.testRun c op agent).2 with
  | nil =>
    obtain ⟨htest, hbit, hres⟩ := testResult_spec (s.testRun c op agent).1 c 0
    rw [hnil hr]
    exact ⟨htest, hbit, fun _ => hres rfl⟩
  | cons a l =>
    obtain ⟨htest, hbit, -⟩ := testResult_spec (s.testRun c op agent).1 c (a :: l).length
    obtain ⟨hchan, hrd⟩ := testFailed_spec ((s.testRun c op agent).1.testResult c (a :: l).length) c a
    rw [hcons a l hr]
    refine ⟨(congrArg Channel.test hchan).trans htest, (congrArg (wbit · 31) hrd).trans hbit, fun h1 => ?_⟩
    rw [hop h1] at hr
    exact absurd hr (List.cons_ne_nil a l).symm

end training

/-- Settles O43: training, slots, abort and tests are updates of the channel and its registers. -/
theorem channelsTrainAndTest : Obligations.ChannelsTrainAndTest := by
  unfold Obligations.ChannelsTrainAndTest
  intro s r c
  dsimp only
  have hc := c.isLt
  refine ⟨fun hm ho => congrArg Host.Outcome.next (if_pos ⟨hm, ho⟩), fun eyes thr hi => ⟨_, rfl, endTraining_spec hi⟩, fun w ha hst hw hdom hp => ?init,
    fun w ha h1 => ⟨fun hst => ?retrain, fun hne1 hne2 => ?refused⟩, fun eyes n hst hg hj => ?slot, fun w ha hst => ?abort, fun pat kid ha ht => ?test,
    fun op agent ht hj => ⟨_, rfl, testDone_spec ht hj⟩⟩
  case init =>
    obtain ⟨t, ht⟩ := ddrCtlWrite_init hc hst hw hdom hp
    refine ⟨t.beginTraining c, congrArg Host.Outcome.next (regAccess_wrote (single_DDR_CTL c hc) ha ?_), ?_⟩
    · rw [Reg.DDR_CTL, regWrite_ddr s _ _ hc (by decide)]
      exact (if_neg (by omega)).trans (congrArg (·, Resp.ok) ht)
    · exact congrArg Channel.state (State.setChan_self t c _)
  case retrain =>
    obtain ⟨hw0, hw1⟩ := retrain_word w
    refine ⟨(s.store (Reg.DDR_RT c) (w ||| 1)).retrainBegun c, congrArg Host.Outcome.next (regAccess_wrote (single_DDR_RT c hc) ha ?_), retrainBegun_spec s c (w ||| 1)⟩
    rw [Reg.DDR_RT, regWrite_ddr s _ _ hc (by decide), ddrWrite_retrain hc hw0 (hw1.trans h1), if_neg (by rw [hst]; decide), if_pos hst]
  case refused =>
    obtain ⟨hw0, hw1⟩ := retrain_word w
    refine congrArg Host.Outcome.next (regAccess_refused (single_DDR_RT c hc) ha ?_)
    rw [Reg.DDR_RT, regWrite_ddr s _ _ hc (by decide), ddrWrite_retrain hc hw0 (hw1.trans h1), if_neg hne2, if_neg hne1]
  case slot =>
    obtain ⟨hjobs, hopened, hstate, hslot⟩ := slotTaken_spec s c
    rw [hj] at hjobs
    have hmax := slotsOf_le s c
    have hrun := retrainSlot_admitted (eyes := eyes) hst hg hj
    by_cases hlast : s.fld (Reg.DDR_RT c) 16 7 + 1 < s.slotsOf c
    · rw [if_pos hlast] at hrun
      exact ⟨_, congrArg Host.Outcome.next hrun, hjobs, hopened, fun _ => ⟨hstate.trans hst, hslot.trans (Nat.mod_eq_of_lt (by omega))⟩, fun hle => absurd hle (by omega)⟩
    · obtain ⟨hpower, hchan⟩ := retrainSlot_last (eyes := eyes) s c
      rw [if_neg hlast] at hrun
      refine ⟨_, congrArg Host.Outcome.next hrun, (congrArg (fun p : Power => p.jobs.get 28 0) hpower).trans hjobs, (congrArg Channel.opened hchan).trans hopened, fun hlt => absurd hlt hlast,
        fun _ => congrArg Channel.state hchan⟩
  case abort =>
    obtain ⟨hw0, hw1⟩ := abort_word w
    refine congrArg Host.Outcome.next (regAccess_wrote (single_DDR_RT c hc) ha ?_)
    rw [Reg.DDR_RT, regWrite_ddr s _ _ hc (by decide), ddrWrite_abort hc hw0 hw1 hst]
  case test =>
    have hbegin (op : Fin 4) (h0 : op ≠ 0) := regAccess_wrote (single_DDR_MT_CTL c hc) ha ((regWrite_ddr s r.code (testWord op pat kid) hc (by decide)).trans
      (ddrWrite_test op pat kid hc ht h0 (Reg.DDR_MT_CTL c) r.code))
    exact ⟨congrArg Host.Outcome.next (hbegin 1 (by decide)), congrArg Host.Outcome.next (hbegin 2 (by decide)), congrArg Host.Outcome.next (hbegin 3 (by decide))⟩

end Sys2Proof.Machine
end

section
/-!
PROOF. The CXL ports (R343 to R347).
-/
namespace Sys2Proof.Machine

/-! ## What a lost host leaves alone -/

/-- The registers of the CXL ports and the memory state stay. -/
structure CxlKept (s t : State) : Prop where
  rd : ∀ p < 4096, ∀ o < 4096, t.rd (regKey 4 0x11 p o) = s.rd (regKey 4 0x11 p o)
  mem : t.mem = s.mem

section kept
variable {s t u : State}

theorem CxlKept.rfl : CxlKept s s := ⟨fun _ _ _ _ => Eq.refl _, Eq.refl _⟩

theorem CxlKept.foldl {α : Type} {l : List α} {f : State → α → State} (h : CxlKept s t) (hf : ∀ u a, CxlKept s u → CxlKept s (f u a)) : CxlKept s (l.foldl f t) :=
  List.foldlRecOn l f (motive := CxlKept s) h fun u hu a _ => hf u a hu

theorem CxlKept.wrQueue (h : CxlKept s t) {d i o : Nat} (w : Word) (hi : i < 4096) (ho : o < 4096) : CxlKept s (t.wr (regKey d 0x0A i o) w) :=
  ⟨fun p hp o' ho' => (rd_wr_other (by unfold regKey; omega)).trans (h.rd p hp o' ho'), h.mem⟩

theorem CxlKept.setQueue (h : CxlKept s t) (q : Nat) (x : Queue) : CxlKept s (t.setQueue q x) := ⟨h.rd, h.mem⟩

theorem CxlKept.raise (h : CxlKept s t) (sev code die unit inst : Nat) : CxlKept s (t.raise sev code die unit inst) := ⟨h.rd, h.mem⟩

theorem CxlKept.completeAccess (h : CxlKept s t) (req : Nat) (write : Bool) (addr : Nat) (x : Resp) (v : Word) : CxlKept s (t.completeAccess req write addr x v) := by
  rw [completeAccess_frame]
  exact ⟨h.rd, h.mem⟩

theorem CxlKept.firstError (h : CxlKept s t) (q code : Nat) : CxlKept s (t.firstError q code) := by
  unfold State.firstError
  dsimp only
  split
  · exact h
  · exact h.wrQueue _ (by decide) (by decide)

theorem CxlKept.peerLost (h : CxlKept s t) (q code : Nat) : CxlKept s (t.peerLost q code) := by
  have hgone : ∀ x, CxlKept s (((t.setQueue q x).flag (t.qstat q) 27).firstError q code) := fun x => CxlKept.firstError ((h.setQueue q x).wrQueue _ (instOf_lt q) (by decide)) q code
  unfold State.peerLost
  dsimp only
  split
  · exact hgone _
  · exact hgone _
  · exact hgone _
  · exact hgone _
  · exact h

theorem CxlKept.hostGone (h : CxlKept s t) (p : Nat) : CxlKept s (t.hostGone p) := by
  unfold State.hostGone State.peersLost
  exact (h.foldl fun _ _ hu => hu.peerLost ..).foldl fun _ _ hu => hu.raise ..

theorem CxlKept.cxl (h : CxlKept s t) (p : Nat) : t.cxl p = s.cxl p := congrArg (fun m : Mem => m.ports.get p {}) h.mem

end kept

section links
variable {s t : State} {r : Requester} {p : Nat} {linkB : Bool} {w : Word}

/-- The status register of a link is none of the port's other registers. -/
theorem lstat_key (p : Nat) (linkB : Bool) : ∃ o, o < 4096 ∧ lstat p linkB = regKey 4 0x11 p o ∧ (o = 4 ∨ o = 8) := by
  cases linkB
  · exact ⟨4, by decide, rfl, .inl rfl⟩
  · exact ⟨8, by decide, rfl, .inr rfl⟩

theorem rd_lstat_kept (h : CxlKept s t) (hp : p < 4096) : t.rd (lstat p linkB) = s.rd (lstat p linkB) := by
  obtain ⟨o, ho, hkey, -⟩ := lstat_key p linkB
  rw [hkey]
  exact h.rd p hp o ho

theorem lstat_ne {o : Nat} (h4 : o ≠ 4) (h8 : o ≠ 8) : lstat p linkB ≠ regKey 4 0x11 p o := by
  obtain ⟨o', -, hkey, hval⟩ := lstat_key p linkB
  rw [hkey]
  unfold regKey
  omega

/-! ## Links go down (R346) -/

/-- A link that has left UP, its requests not answered yet. -/
def State.linkFallen (s : State) (p : Nat) (linkB : Bool) (next : Nat) : State :=
  ((s.setCxl p { s.cxl p with outstanding := (s.cxl p).outstanding.filter (fun r => r.linkB != linkB) }).setFld (lstat p linkB) 0 2 next).flagErr (lstat p linkB) 11 5 (errCode 11 7)

theorem cxl_flagErr (s : State) (k i sev code p : Nat) : (s.flagErr k i sev code).cxl p = s.cxl p := by
  unfold State.flagErr
  dsimp only
  split <;> rfl

theorem cxl_setFld (s : State) (k lo n v p : Nat) : (s.setFld k lo n v).cxl p = s.cxl p := rfl

theorem linkFallen_spec (s : State) (p : Nat) (linkB : Bool) (next : Nat) :
    (s.linkFallen p linkB next).fld (lstat p linkB) 0 2 = next % 4 ∧ (s.linkFallen p linkB next).bit (lstat p linkB) 11 = true ∧
    ((s.linkFallen p linkB next).cxl p).outstanding = (s.cxl p).outstanding.filter (fun r => r.linkB != linkB) := by
  refine ⟨?_, bit_flagErr_self _ _ _ _ (by decide), ?_⟩
  · exact (congrArg (wfld · 0 2) (rd_flagErr ..)).trans ((fld_setBit_other _ _ true (by decide)).trans (fld_setFld_self _ _ next (by decide)))
  · unfold State.linkFallen
    rw [cxl_flagErr, cxl_setFld, State.setCxl_self]

/-- What follows the loss of a link: its function reset, its host gone, or nothing. -/
theorem cxlLinkLost_up (h : s.linkUp p linkB = true) (next : Nat) :
    ∃ t, CxlKept (s.linkFallen p linkB next) t ∧ (s.cxlLinkLost p linkB next = t ∨ s.cxlLinkLost p linkB next = (t.functionReset p).hostGone p) := by
  have h2 : s.fld (lstat p linkB) 0 2 = 2 := eq_of_beq h
  have hlost : CxlKept (s.linkFallen p linkB next) (s.linkLost p linkB next) := by
    unfold State.linkLost
    dsimp only
    rw [if_neg (by omega), if_neg (by rw [h]; decide)]
    exact CxlKept.rfl.foldl fun _ _ hu => hu.completeAccess ..
  refine ⟨_, hlost, ?_⟩
  unfold State.cxlLinkLost
  dsimp only
  split
  · exact .inr rfl
  · exact .inl rfl

/-- A function-level reset leaves the links and their requests. -/
theorem functionReset_spec (s : State) (p : Nat) (linkB : Bool) : (s.functionReset p).rd (lstat p linkB) = s.rd (lstat p linkB) ∧
    ((s.functionReset p).cxl p).outstanding = (s.cxl p).outstanding ∧ ((s.functionReset p).cxl p).msix = [] ∧ (s.functionReset p).bit (Reg.CXL_ERR p) 5 = true := by
  have hcxl : (s.functionReset p).cxl p = { s.cxl p with msix := [] } := (State.setCxl_self ..)
  refine ⟨(rd_wr_other (lstat_ne (by decide) (by decide))).trans rfl, (congrArg CxlPort.outstanding hcxl :), congrArg CxlPort.msix hcxl, bit_flag_self (by decide)⟩

/-- A link that was UP is at its next state, flagged, its requests gone. -/
theorem cxlLinkLost_spec (h : s.linkUp p linkB = true) (hp : p < 4096) (next : Nat) :
    (s.cxlLinkLost p linkB next).fld (lstat p linkB) 0 2 = next % 4 ∧ (s.cxlLinkLost p linkB next).bit (lstat p linkB) 11 = true ∧
    ((s.cxlLinkLost p linkB next).cxl p).outstanding = (s.cxl p).outstanding.filter (fun r => r.linkB != linkB) := by
  obtain ⟨hfld, hbit, hout⟩ := linkFallen_spec s p linkB next
  obtain ⟨t, ht, hlost⟩ := cxlLinkLost_up h next
  have hrd := rd_lstat_kept (linkB := linkB) ht hp
  have hcxl := congrArg CxlPort.outstanding (ht.cxl p)
  rcases hlost with hlost | hlost
  · rw [hlost]
    exact ⟨(congrArg (wfld · 0 2) hrd).trans hfld, (congrArg (wbit · 11) hrd).trans hbit, hcxl.trans hout⟩
  · have hgone : CxlKept (t.functionReset p) ((t.functionReset p).hostGone p) := CxlKept.rfl.hostGone p
    obtain ⟨hrd', hout', -, -⟩ := functionReset_spec t p linkB
    have hrd'' := ((rd_lstat_kept (linkB := linkB) hgone hp).trans hrd').trans hrd
    rw [hlost]
    exact ⟨(congrArg (wfld · 0 2) hrd'').trans hfld, (congrArg (wbit · 11) hrd'').trans hbit, (congrArg CxlPort.outstanding (hgone.cxl p)).trans (hout'.trans (hcxl.trans hout))⟩

/-- A link that carries a bus goes to its next state, UP or not. -/
theorem cxlLinkLost_fld (h : s.fld (lstat p linkB) 0 2 ≠ 3) (hp : p < 4096) (next : Nat) : (s.cxlLinkLost p linkB next).fld (lstat p linkB) 0 2 = next % 4 := by
  cases hup : s.linkUp p linkB with
  | true => exact (cxlLinkLost_spec hup hp next).1
  | false =>
    have hlost : s.cxlLinkLost p linkB next = s.setFld (lstat p linkB) 0 2 next := by
      unfold State.cxlLinkLost State.linkLost
      dsimp only
      rw [hup, if_neg h]
      rfl
    rw [hlost]
    exact fld_setFld_self _ _ next (by decide)

/-! ## CXL_CTL (R346) -/

theorem regWrite_cxl (s : State) (req : Nat) (w : Word) {o : Nat} (hp : p < 4096) (ho : o < 0xF00) :
    (s.touched req (regKey 4 0x11 p o)).regWrite (regKey 4 0x11 p o) req w = s.cxlWrite p o (regKey 4 0x11 p o) w := by
  have ho' : o < 4096 := by omega
  simp [State.touched, State.regWrite, keyUnit_regKey ho' hp, keyOff_regKey ho', keyInst_regKey ho' hp, show o ≠ 4088 by omega, show o ≠ 4092 by omega]

theorem hotReset_word (w : Word) (linkB : Bool) (h4 : wbit w 4 = false) (h5 : wbit w 5 = false) :
    wbit (w ||| (if linkB then 0x20 else 0x10)) 4 = !linkB ∧ wbit (w ||| (if linkB then 0x20 else 0x10)) 5 = linkB := by
  unfold wbit at *
  rw [BitVec.getLsbD_or, BitVec.getLsbD_or, h4, h5]
  cases linkB <;> decide

/-- A hot reset brings its link to training. -/
theorem cxlWrite_hotReset (hp : p < 4096) (h4 : wbit w 4 = false) (h5 : wbit w 5 = false) (h3 : s.fld (lstat p linkB) 0 2 ≠ 3) :
    ∃ t : State, s.cxlWrite p 0x000 (Reg.CXL_CTL p) (w ||| (if linkB then 0x20 else 0x10)) = (t, .ok) ∧ t.fld (lstat p linkB) 0 2 = 1 := by
  obtain ⟨ha, hb⟩ := hotReset_word w linkB h4 h5
  have hstored : ∀ (x : Word) (bad : Bool), (s.storeFlag (Reg.CXL_CTL p) x bad (Reg.CXL_ERR p) 4).fld (lstat p linkB) 0 2 = s.fld (lstat p linkB) 0 2 := fun x bad => by
    refine congrArg (wfld · 0 2) ?_
    have hstore : (s.store (Reg.CXL_CTL p) x).rd (lstat p linkB) = s.rd (lstat p linkB) := rd_store_other s x (lstat_ne (by decide) (by decide))
    unfold State.storeFlag State.flagIf
    split
    · exact (rd_wr_other (lstat_ne (by decide) (by decide))).trans hstore
    · exact hstore
  refine ⟨(s.storeFlag (Reg.CXL_CTL p) (w ||| (if linkB then 0x20 else 0x10)) (wfld (w ||| (if linkB then 0x20 else 0x10)) 8 24 == 0) (Reg.CXL_ERR p) 4).hotReset p linkB, ?_, ?_⟩
  · unfold State.cxlWrite
    dsimp only
    rw [if_pos rfl, ha, hb]
    cases linkB <;> rfl
  · unfold State.hotReset
    rw [hstored, if_neg h3]
    exact cxlLinkLost_fld (by rw [hstored]; exact h3) hp 1

end links

/-! ## Requests to devices (R345) -/

section requests
variable {s t : State} {r : Requester} {p : Nat} {linkB : Bool} {w : Word}

theorem cxlData_keys : ∀ p < 2,
    (Reg.CXL_CFGDATA p < 2 ^ 32 ∧ Reg.CXL_CFGDATA p % 4 = 0 ∧ isAlias (Reg.CXL_CFGDATA p) = false ∧ regDefined (Reg.CXL_CFGDATA p) = true ∧ cxlData (Reg.CXL_CFGDATA p) = true) ∧
    (Reg.CXL_IODATA p < 2 ^ 32 ∧ Reg.CXL_IODATA p % 4 = 0 ∧ isAlias (Reg.CXL_IODATA p) = false ∧ regDefined (Reg.CXL_IODATA p) = true ∧ cxlData (Reg.CXL_IODATA p) = true) := by
  decide

/-- An access of a data register, by another than the debugger, goes to its device. -/
theorem dataAccess_eq {key : Nat} (hk : key < 2 ^ 32 ∧ key % 4 = 0 ∧ isAlias key = false ∧ regDefined key = true ∧ cxlData key = true) (hr : r.code ≠ 16) (w : Option Word) :
    s.dataAccess r key w = s.cxlAccess r.code key (csrAddr key) w := by
  obtain ⟨hlt, hal, halias, hdef, hcxl⟩ := hk
  cases w with
  | none => simp [State.dataAccess, State.regFetch, State.busRead, hr, place_csrAddr hlt, csrAddr_aligned hal, State.csrRead, halias, hdef, hcxl]
  | some x => simp [State.dataAccess, State.regAccess, State.busWrite, hr, place_csrAddr hlt, csrAddr_aligned hal, State.csrWrite, halias, hdef, hcxl]

/-- No reply stands on the bus. -/
def State.unanswered (s : State) : State := { s with bus := { s.bus with reply := none } }

/-- What a read of a data register asks of its port. -/
def State.asked (s : State) (key req addr : Nat) (w : Option Word) : State :=
  if keyOff key = 0x104 then s.unanswered.configRequest (keyInst key) w req addr else s.unanswered.ioRequest (keyInst key) req w.isSome addr

theorem cxlAccess_read {key req addr : Nat} (hreach : s.reachable key = true) (hr : req ≠ 16) :
    (∀ x d, (s.asked key req addr none).bus.reply = some (x, d) → s.cxlAccess req key addr none = (s.asked key req addr none).completeAccess req false addr x d) ∧
    ((s.asked key req addr none).bus.reply = none → s.cxlAccess req key addr none = s.asked key req addr none) := by
  have hgo : ¬(req = 16 ∧ (none : Option Word).isNone = true) := fun h => hr h.1
  unfold State.asked State.unanswered
  refine ⟨fun x d h => ?_, fun h => ?_⟩
  · simp only [State.cxlAccess, hreach, hgo, Bool.not_true, Bool.false_eq_true, if_false, h]
    rfl
  · simp only [State.cxlAccess, hreach, hgo, Bool.not_true, Bool.false_eq_true, if_false, h]

theorem cxlAccess_write {key req addr : Nat} (hreach : s.reachable key = true) {x : Resp} {d : Word}
    (h : ((s.store key w).asked key req addr (some w)).bus.reply = some (x, d)) :
    s.cxlAccess req key addr (some w) = ((s.store key w).asked key req addr (some w)).completeAccess req true addr x d := by
  have hgo : ¬(req = 16 ∧ (some w).isNone = true) := fun h => Bool.false_ne_true h.2
  unfold State.asked State.unanswered at *
  simp only [State.cxlAccess, hreach, hgo, Bool.not_true, Bool.false_eq_true, if_false, h]
  rfl

/-- The place of a word of the port's own function. -/
def ownWord (a : Word) (linkB : Bool) : Nat := b2n linkB * 4096 + wfld a 0 12 / 4 * 4

theorem configRequest_own {req addr : Nat} (hroot : s.rootMode p = true) (hlink : wbit (s.rd (Reg.CXL_CFGADDR p)) 28 = linkB) (h3 : s.fld (lstat p linkB) 0 2 ≠ 3)
    (hbus : wfld (s.rd (Reg.CXL_CFGADDR p)) 20 8 = 0) (hdev : wfld (s.rd (Reg.CXL_CFGADDR p)) 12 8 = 0) :
    s.configRequest p none req addr = s.answer .ok ((s.cxl p).own.get (ownWord (s.rd (Reg.CXL_CFGADDR p)) linkB) 0) ∧
    ∀ w, s.configRequest p (some w) req addr =
      (s.setCxl p { s.cxl p with own := (s.cxl p).own.set (ownWord (s.rd (Reg.CXL_CFGADDR p)) linkB) w 0 }).answer .ok 0 := by
  have hgo : ¬(s.fld (lstat p linkB) 0 2 = 3 ∨ (!s.rootMode p) = true) := by simp [h3, hroot]
  simp only [State.configRequest, hlink, hgo, hbus, hdev, if_false, if_true, ne_eq, not_true_eq_false]
  exact ⟨rfl, fun _ => rfl⟩

theorem cxlRequest_up {x : CxlReq} (h : s.linkUp p x.linkB = true) : s.cxlRequest p x = s.setCxl p { s.cxl p with outstanding := (s.cxl p).outstanding ++ [x] } := if_pos h

theorem configRequest_far {req addr : Nat} {x : Option Word} (hroot : s.rootMode p = true) (hlink : wbit (s.rd (Reg.CXL_CFGADDR p)) 28 = linkB)
    (h3 : s.fld (lstat p linkB) 0 2 ≠ 3) (hbus : wfld (s.rd (Reg.CXL_CFGADDR p)) 20 8 ≠ 0) (hup : s.linkUp p linkB = true) :
    s.configRequest p x req addr = s.setCxl p { s.cxl p with outstanding := (s.cxl p).outstanding ++ [⟨linkB, req, x.isSome, addr⟩] } := by
  have hgo : ¬(s.fld (lstat p linkB) 0 2 = 3 ∨ (!s.rootMode p) = true) := by simp [h3, hroot]
  simp only [State.configRequest, hlink, hgo, hbus, if_false]
  exact cxlRequest_up hup

theorem ioRequest_up {req addr : Nat} {write : Bool} (hroot : s.rootMode p = true) (hlink : wbit (s.rd (Reg.CXL_IOADDR_HI p)) 31 = linkB) (hup : s.linkUp p linkB = true) :
    s.ioRequest p req write addr = s.setCxl p { s.cxl p with outstanding := (s.cxl p).outstanding ++ [⟨linkB, req, write, addr⟩] } := by
  have h2 : s.fld (lstat p linkB) 0 2 = 2 := eq_of_beq hup
  have hgo : ¬(s.fld (lstat p linkB) 0 2 = 3 ∨ (!s.rootMode p) = true) := by simp [h2, hroot]
  simp only [State.ioRequest, hlink, hgo, if_false]
  exact cxlRequest_up hup

theorem data_place : ∀ p < 2, keyOff (Reg.CXL_CFGDATA p) = 0x104 ∧ keyInst (Reg.CXL_CFGDATA p) = p ∧ keyOff (Reg.CXL_IODATA p) ≠ 0x104 ∧ keyInst (Reg.CXL_IODATA p) = p := by
  decide

theorem asked_config (hp : p < 2) (s : State) (req addr : Nat) (w : Option Word) :
    s.asked (Reg.CXL_CFGDATA p) req addr w = s.unanswered.configRequest p w req addr := by
  obtain ⟨hoff, hinst, -, -⟩ := data_place p hp
  unfold State.asked
  rw [if_pos hoff, hinst]

theorem asked_io (hp : p < 2) (s : State) (req addr : Nat) (w : Option Word) :
    s.asked (Reg.CXL_IODATA p) req addr w = s.unanswered.ioRequest p req w.isSome addr := by
  obtain ⟨-, -, hoff, hinst⟩ := data_place p hp
  unfold State.asked
  rw [if_neg hoff, hinst]

end requests

section own
variable {s : State} {r : Requester} {p : Nat} {linkB : Bool} {w : Word}

/-- A read of the port's own function is answered at once. -/
theorem cxlAccess_ownRead (hp : p < 2) (hr : r.code ≠ 16) (hreach : s.reachable (Reg.CXL_CFGDATA p) = true) (hroot : s.rootMode p = true)
    (hlink : wbit (s.rd (Reg.CXL_CFGADDR p)) 28 = linkB) (h3 : s.fld (lstat p linkB) 0 2 ≠ 3) (hbus : wfld (s.rd (Reg.CXL_CFGADDR p)) 20 8 = 0)
    (hdev : wfld (s.rd (Reg.CXL_CFGADDR p)) 12 8 = 0) (addr : Nat) :
    s.cxlAccess r.code (Reg.CXL_CFGDATA p) addr none = s.completeAccess r.code false addr .ok ((s.cxl p).own.get (ownWord (s.rd (Reg.CXL_CFGADDR p)) linkB) 0) := by
  have hasked : s.asked (Reg.CXL_CFGDATA p) r.code addr none = s.unanswered.answer .ok ((s.cxl p).own.get (ownWord (s.rd (Reg.CXL_CFGADDR p)) linkB) 0) :=
    (asked_config hp s r.code addr none).trans (configRequest_own (s := s.unanswered) hroot hlink h3 hbus hdev).1
  rw [(cxlAccess_read hreach hr).1 .ok _ (by rw [hasked]; rfl), hasked, completeAccess_ok _ _ _ _ hr, completeAccess_ok _ _ _ _ hr]
  rfl

/-- A write of the port's own function is kept and acknowledged at once. -/
theorem cxlAccess_ownWrite (hp : p < 2) (hr : r.code ≠ 16) (hreach : s.reachable (Reg.CXL_CFGDATA p) = true) (hroot : s.rootMode p = true)
    (hlink : wbit (s.rd (Reg.CXL_CFGADDR p)) 28 = linkB) (h3 : s.fld (lstat p linkB) 0 2 ≠ 3) (hbus : wfld (s.rd (Reg.CXL_CFGADDR p)) 20 8 = 0)
    (hdev : wfld (s.rd (Reg.CXL_CFGADDR p)) 12 8 = 0) (addr : Nat) (w : Word) :
    ((s.cxlAccess r.code (Reg.CXL_CFGDATA p) addr (some w)).cxl p).own.get (ownWord (s.rd (Reg.CXL_CFGADDR p)) linkB) 0 = w ∧
    (s.cxlAccess r.code (Reg.CXL_CFGDATA p) addr (some w)).bus.reply = some (.ok, 0) := by
  have hrd : ∀ k, k ≠ Reg.CXL_CFGDATA p → (s.store (Reg.CXL_CFGDATA p) w).rd k = s.rd k := fun k hk => rd_store_other s w hk
  have haddr := hrd (Reg.CXL_CFGADDR p) (by unfold Reg.CXL_CFGADDR Reg.CXL_CFGDATA regKey; omega)
  have hroot' : (s.store (Reg.CXL_CFGDATA p) w).rootMode p = true :=
    (congrArg (fun x : Word => decide (wfld x 0 2 < 2)) (hrd (Reg.CXL_CTL p) (by unfold Reg.CXL_CTL Reg.CXL_CFGDATA regKey; omega))).trans hroot
  have h3' : (s.store (Reg.CXL_CFGDATA p) w).fld (lstat p linkB) 0 2 ≠ 3 := fun h => h3 ((congrArg (wfld · 0 2) (hrd _ (lstat_ne (by decide) (by decide)))).symm.trans h)
  have hasked := (asked_config hp (s.store (Reg.CXL_CFGDATA p) w) r.code addr (some w)).trans
    ((configRequest_own (s := (s.store (Reg.CXL_CFGDATA p) w).unanswered) hroot' ((congrArg (wbit · 28) haddr).trans hlink) h3' ((congrArg (wfld · 20 8) haddr).trans hbus)
      ((congrArg (wfld · 12 8) haddr).trans hdev)).2 w)
  rw [cxlAccess_write hreach (x := .ok) (d := 0) (by rw [hasked]; rfl), completeAccess_ok _ _ _ _ hr, hasked]
  refine ⟨?_, rfl⟩
  rw [← haddr]
  exact (congrArg (fun x : CxlPort => x.own.get _ 0) (State.setCxl_self (s.store (Reg.CXL_CFGDATA p) w).unanswered p _)).trans (SMap.get_set_self ..)

end own

/-! ## Completions (R346) -/

section ends
variable {s : State} {r : Requester} {p : Nat} {linkB : Bool} {x : CxlReq}

/-- The oldest outstanding request of a link leaves the port. -/
def State.requestTaken (s : State) (p : Nat) (x : CxlReq) : State := s.setCxl p { s.cxl p with outstanding := (s.cxl p).outstanding.erase x }

theorem cxlComplete_found (h : (s.cxl p).outstanding.find? (fun y => y.linkB == linkB) = some x) (data : Word) (poison ur late : Bool) :
    s.cxlComplete p linkB data poison ur late =
      (let t := if late then ((s.requestTaken p x).flag (Reg.CXL_ERR p) 3).lateArrival 4 0x11 p else s.requestTaken p x
       if ur then (t.flag (Reg.CXL_ERR p) 2).completeAccess x.req x.write x.addr .ok 0xFFFFFFFF
       else if poison then ((t.flagErr (Reg.CXL_ERR p) 0 4 (errCode 11 5)).count (Reg.CXL_POISCNT p) 1).completeAccess x.req x.write x.addr .unreachable 0
       else t.completeAccess x.req x.write x.addr .ok data) := by
  simp only [State.cxlComplete, h]
  rfl

theorem cxlTimeout_found (h : (s.cxl p).outstanding.find? (fun y => y.linkB == linkB) = some x) :
    s.cxlTimeout p linkB = if s.clk.hold then s else
      (((s.requestTaken p x).flagErr (Reg.CXL_ERR p) 1 4 (errCode 11 6)).count (Reg.CXL_CTOCNT p) 1).completeAccess x.req x.write x.addr .unreachable 0 := by
  cases hh : s.clk.hold with
  | true =>
    simp only [State.cxlTimeout, hh, if_true]
  | false =>
    simp only [State.cxlTimeout, hh, h, Bool.false_eq_true, if_false]
    rfl

theorem vector_word : ∀ v : Fin 64, wfld (BitVec.ofNat 32 v) 0 6 = v := by decide

end ends

/-- Settles O44: links, requests, completions and vectors of a port, each by its own rule. -/
theorem cxlPortsServe : Obligations.CxlPortsServe := by
  unfold Obligations.CxlPortsServe
  intro s r p linkB
  dsimp only
  have hp := p.isLt
  have hp' : (p : Nat) < 4096 := by omega
  refine ⟨fun rate width cxl => ⟨fun hA h3 => ?up, fun h => ?stays⟩, fun next hup => ?down, fun w ha h4 h5 h3 => ?hot, fun hr hreach hroot hlink h3 => ⟨fun hbus hdev => ?own, fun hbus hup => ?far⟩,
    fun hr hreach hroot hlink hup => ?io, fun hr hroot hup w => ?host, fun x hx => ⟨fun data => ?complete, fun hh => ?held, fun hh => ?timeout⟩, fun v ha => ⟨fun hroot => ?noVector, fun hroot => ?vector⟩,
    fun hroot => ?reset, fun hroot => congrArg Host.Outcome.next (if_pos hroot)⟩
  case up =>
    refine congrArg Host.Outcome.next ((if_neg (by simp [hA, h3])).trans ?_)
    rw [Nat.mod_eq_of_lt rate.isLt, Nat.mod_eq_of_lt width.isLt]
  case stays => exact congrArg Host.Outcome.next (if_pos (h.imp (fun h => by rw [h]; rfl) id))
  case down =>
    obtain ⟨hfld, hbit, hout⟩ := cxlLinkLost_spec hup hp' next
    exact ⟨_, rfl, hfld.trans (Nat.mod_eq_of_lt (by omega)), hbit, hout⟩
  case hot =>
    obtain ⟨t, ht, hfld⟩ := cxlWrite_hotReset hp' h4 h5 h3
    exact ⟨t, congrArg Host.Outcome.next (regAccess_wrote (single_CXL_CTL p hp) ha ((regWrite_cxl s r.code _ hp' (o := 0) (by decide)).trans ht)), hfld⟩
  case own =>
    have hexec (w : Option Word) : (exec (.configRequest r p w) s) = .next (s.cxlAccess r.code (Reg.CXL_CFGDATA p) (csrAddr (Reg.CXL_CFGDATA p)) w) :=
      congrArg Host.Outcome.next ((if_neg (by rw [hroot]; simp)).trans (dataAccess_eq (cxlData_keys p hp).1 hr w))
    exact ⟨(hexec none).trans (congrArg Host.Outcome.next (cxlAccess_ownRead hp hr hreach hroot hlink h3 hbus hdev _)),
      fun w => ⟨_, hexec (some w), cxlAccess_ownWrite hp hr hreach hroot hlink h3 hbus hdev _ w⟩⟩
  case far =>
    have hasked : s.asked (Reg.CXL_CFGDATA p) r.code (csrAddr (Reg.CXL_CFGDATA p)) none = s.unanswered.setCxl p { s.cxl p with
        outstanding := (s.cxl p).outstanding ++ [⟨linkB, r.code, false, csrAddr (Reg.CXL_CFGDATA p)⟩] } :=
      (asked_config hp s _ _ none).trans (configRequest_far (s := s.unanswered) hroot hlink h3 hbus hup)
    refine congrArg Host.Outcome.next ((if_neg (by rw [hroot]; simp)).trans ((dataAccess_eq (cxlData_keys p hp).1 hr none).trans ?_))
    rw [(cxlAccess_read hreach hr).2 (by rw [hasked]; rfl), hasked]
    rfl
  case io =>
    have hasked : s.asked (Reg.CXL_IODATA p) r.code (csrAddr (Reg.CXL_IODATA p)) none = s.unanswered.setCxl p { s.cxl p with
        outstanding := (s.cxl p).outstanding ++ [⟨linkB, r.code, false, csrAddr (Reg.CXL_IODATA p)⟩] } :=
      (asked_io hp s _ _ none).trans (ioRequest_up (s := s.unanswered) hroot hlink hup)
    refine congrArg Host.Outcome.next ((dataAccess_eq (cxlData_keys p hp).2 hr none).trans ?_)
    rw [(cxlAccess_read hreach hr).2 (by rw [hasked]; rfl), hasked]
    rfl
  case host =>
    have hexec : (exec (.configRequest r p w) s) = .next (s.functionConfig p) := congrArg Host.Outcome.next (if_pos ⟨hr, by rw [hroot]; rfl, hup⟩)
    exact ⟨fun hu => hexec.trans (congrArg Host.Outcome.next (if_pos (by rw [hu]; rfl))), fun hu => hexec.trans (congrArg Host.Outcome.next (if_neg (by rw [hu]; decide)))⟩
  case complete =>
    have hdone := cxlComplete_found hx data
    exact ⟨congrArg Host.Outcome.next (hdone false false false), congrArg Host.Outcome.next (hdone false false true), congrArg Host.Outcome.next (hdone false true false),
      congrArg Host.Outcome.next (hdone true false false)⟩
  case held => exact congrArg Host.Outcome.next ((cxlTimeout_found hx).trans (if_pos hh))
  case timeout => exact congrArg Host.Outcome.next ((cxlTimeout_found hx).trans (if_neg (by rw [hh]; decide)))
  case noVector =>
    refine congrArg Host.Outcome.next (regAccess_refused (single_CXL_EPIRQ p hp) ha ((regWrite_cxl s r.code _ hp' (o := 0x030) (by decide)).trans ?_))
    exact (if_neg (by decide)).trans ((if_pos rfl).trans (if_pos hroot))
  case vector =>
    refine congrArg Host.Outcome.next (regAccess_wrote (single_CXL_EPIRQ p hp) ha ((regWrite_cxl s r.code _ hp' (o := 0x030) (by decide)).trans ?_))
    refine (if_neg (by decide)).trans ((if_pos rfl).trans ((if_neg (by rw [hroot]; decide)).trans ?_))
    rw [vector_word v]
    rfl
  case reset =>
    have hgone : CxlKept (s.functionReset p) ((s.functionReset p).hostGone p) := CxlKept.rfl.hostGone p
    obtain ⟨-, -, hmsix, hflag⟩ := functionReset_spec s p false
    exact ⟨_, congrArg Host.Outcome.next (if_neg (by rw [hroot]; decide)), (congrArg CxlPort.msix (hgone.cxl p)).trans hmsix,
      (congrArg (wbit · 5) (hgone.rd p hp' 0x020 (by decide))).trans hflag⟩

end Sys2Proof.Machine
end

section
/-!
PROOF. Protected memory: what accesses see of the state, and a line written and read back (R351 to R373).
-/
namespace Sys2Proof.Machine

/-! ## Registers that a scan passes over -/

theorem filterMap_del {α β : Type} (m : SMap α) (k : Nat) (f : Nat × α → Option β) (hf : ∀ v, f (k, v) = none) : (m.del k).filterMap f = m.filterMap f := by
  induction m with
  | nil => rfl
  | cons x m ih =>
    obtain ⟨a, v⟩ := x
    by_cases ha : a = k
    · have hdel : SMap.del ((a, v) :: m) k = SMap.del m k := by simp [SMap.del, ha]
      rw [hdel, ih, List.filterMap_cons_none (ha ▸ hf v)]
    · have hdel : SMap.del ((a, v) :: m) k = (a, v) :: SMap.del m k := by simp [SMap.del, ha]
      rw [hdel, List.filterMap_cons, List.filterMap_cons, ih]

theorem filterMap_ins {α β : Type} (m : SMap α) (k : Nat) (w : α) (f : Nat × α → Option β) (hf : ∀ v, f (k, v) = none) : (m.ins k w).filterMap f = m.filterMap f := by
  induction m with
  | nil => exact List.filterMap_cons_none (hf w)
  | cons x m ih =>
    obtain ⟨a, v⟩ := x
    unfold SMap.ins
    split
    · exact List.filterMap_cons_none (hf w)
    · rw [List.filterMap_cons, List.filterMap_cons, ih]

/-- A scan that passes over a register does not see it written. -/
theorem filterMap_set {α β : Type} [DecidableEq α] (m : SMap α) (k : Nat) (w d : α) (f : Nat × α → Option β) (hf : ∀ v, f (k, v) = none) :
    (m.set k w d).filterMap f = m.filterMap f := by
  unfold SMap.set
  split
  · exact filterMap_del m k f hf
  · exact (filterMap_ins _ k w f hf).trans (filterMap_del m k f hf)

/-! ## States that an engine serves alike -/

/-- An engine meets the same set-up: every register but its status stays, and of the status its lock. -/
structure Alike (e : Nat) (s t : State) : Prop where
  rd : ∀ k, k ≠ Reg.MPE_STAT e → t.rd k = s.rd k
  lock : t.bit (Reg.MPE_STAT e) 7 = s.bit (Reg.MPE_STAT e) 7
  scan : ∀ {β : Type} (f : Nat × Word → Option β), (∀ w, f (Reg.MPE_STAT e, w) = none) → t.csr.filterMap f = s.csr.filterMap f
  chans : t.mem.chans = s.mem.chans
  retiring : t.mem.retiring = s.mem.retiring
  reenc : (t.engine e).reenc = (s.engine e).reenc
  reinit : (t.engine e).reinit = (s.engine e).reinit

/-- The data and the leaf blocks of an engine stay. -/
structure SameLeaves (e : Nat) (s t : State) : Prop where
  lines : (t.engine e).lines = (s.engine e).lines
  pages : (t.engine e).pages = (s.engine e).pages
  floors : (t.engine e).floors = (s.engine e).floors

section alike
variable {e : Nat} {s t u : State}

theorem Alike.rfl : Alike e s s := ⟨fun _ _ => Eq.refl _, Eq.refl _, fun _ _ => Eq.refl _, Eq.refl _, Eq.refl _, Eq.refl _, Eq.refl _⟩

theorem Alike.trans (h : Alike e s t) (h' : Alike e t u) : Alike e s u :=
  ⟨fun k hk => (h'.rd k hk).trans (h.rd k hk), h'.lock.trans h.lock, fun f hf => (h'.scan f hf).trans (h.scan f hf), h'.chans.trans h.chans, h'.retiring.trans h.retiring,
    h'.reenc.trans h.reenc, h'.reinit.trans h.reinit⟩

theorem SameLeaves.rfl : SameLeaves e s s := ⟨Eq.refl _, Eq.refl _, Eq.refl _⟩

theorem SameLeaves.trans (h : SameLeaves e s t) (h' : SameLeaves e t u) : SameLeaves e s u :=
  ⟨h'.lines.trans h.lines, h'.pages.trans h.pages, h'.floors.trans h.floors⟩

/-- An update of the engine that keeps its waiting work. -/
theorem alike_setEngine {g : Engine} (hc : g.reenc = (s.engine e).reenc) (hi : g.reinit = (s.engine e).reinit) : Alike e s (s.setEngine e g) where
  rd _ _ := Eq.refl _
  lock := Eq.refl _
  scan _ _ := Eq.refl _
  chans := Eq.refl _
  retiring := Eq.refl _
  reenc := (congrArg Engine.reenc (State.setEngine_self ..)).trans hc
  reinit := (congrArg Engine.reinit (State.setEngine_self ..)).trans hi

theorem sameLeaves_setEngine {g : Engine} (hl : g.lines = (s.engine e).lines) (hp : g.pages = (s.engine e).pages) (hf : g.floors = (s.engine e).floors) :
    SameLeaves e s (s.setEngine e g) :=
  ⟨(congrArg Engine.lines (State.setEngine_self ..)).trans hl, (congrArg Engine.pages (State.setEngine_self ..)).trans hp, (congrArg Engine.floors (State.setEngine_self ..)).trans hf⟩

theorem engine_congr (h : t.mem = s.mem) (e : Nat) : t.engine e = s.engine e := congrArg (fun m : Mem => m.engines.get e {}) h

theorem mem_flagErr (s : State) (k i sev code : Nat) : (s.flagErr k i sev code).mem = s.mem := by
  unfold State.flagErr
  dsimp only
  split <;> rfl

/-- A flag of the status other than its lock. -/
theorem alike_flagErr (s : State) (e : Nat) {i : Nat} (sev code : Nat) (hi : i ≠ 7) : Alike e s (s.flagErr (Reg.MPE_STAT e) i sev code) where
  rd k hk := (rd_flagErr ..).trans (rd_wr_other hk)
  lock := (congrArg (wbit · 7) (rd_flagErr ..)).trans (bit_setBit_other _ _ true (Ne.symm hi))
  scan f hf := by
    rw [csr_flagErr]
    exact filterMap_set _ _ _ _ f hf
  chans := congrArg Mem.chans (mem_flagErr ..)
  retiring := congrArg Mem.retiring (mem_flagErr ..)
  reenc := congrArg Engine.reenc (engine_congr (mem_flagErr ..) e)
  reinit := congrArg Engine.reinit (engine_congr (mem_flagErr ..) e)

theorem sameLeaves_flagErr (s : State) (e k i sev code : Nat) : SameLeaves e s (s.flagErr k i sev code) := by
  have h := engine_congr (mem_flagErr s k i sev code) e
  exact ⟨congrArg Engine.lines h, congrArg Engine.pages h, congrArg Engine.floors h⟩

/-! ## The walk (R358) -/

/-- What a walk changes: counters, node cache and flags. -/
structure Walked (e : Nat) (s t : State) : Prop where
  alike : Alike e s t
  leaves : SameLeaves e s t
  frame : t = { s with csr := t.csr, free := t.free, raised := t.raised, mem := { s.mem with engines := t.mem.engines } }

theorem Walked.rfl : Walked e s s := ⟨.rfl, .rfl, Eq.refl _⟩

theorem Walked.trans (h : Walked e s t) (h' : Walked e t u) : Walked e s u := by
  refine ⟨h.alike.trans h'.alike, h.leaves.trans h'.leaves, ?_⟩
  have hu := h'.frame
  rw [h.frame] at hu
  exact hu

theorem walked_setEngine {g : Engine} (hc : g.reenc = (s.engine e).reenc) (hi : g.reinit = (s.engine e).reinit) (hl : g.lines = (s.engine e).lines)
    (hp : g.pages = (s.engine e).pages) (hf : g.floors = (s.engine e).floors) : Walked e s (s.setEngine e g) :=
  ⟨alike_setEngine hc hi, sameLeaves_setEngine hl hp hf, Eq.refl _⟩

theorem walked_flagErr (s : State) (e : Nat) {i : Nat} (sev code : Nat) (hi : i ≠ 7) : Walked e s (s.flagErr (Reg.MPE_STAT e) i sev code) :=
  ⟨alike_flagErr s e sev code hi, sameLeaves_flagErr .., by
    unfold State.flagErr
    dsimp only
    split <;> rfl⟩

theorem walked_writeBack (s : State) (e level index : Nat) : Walked e s (s.writeBack e level index) := by
  unfold State.writeBack
  dsimp only
  split
  · exact .rfl
  split
  · refine Walked.trans ?_ (walked_flagErr _ e (i := 8) 5 _ (by decide))
    exact walked_setEngine (Eq.refl _) (Eq.refl _) (Eq.refl _) (Eq.refl _) (Eq.refl _)
  · exact walked_setEngine (Eq.refl _) (Eq.refl _) (Eq.refl _) (Eq.refl _) (Eq.refl _)

theorem walked_evict (s : State) (e : Nat) (b : Nat × Nat) : Walked e s (s.evict e [b]) :=
  (walked_writeBack s e b.1 b.2).trans (walked_setEngine (Eq.refl _) (Eq.refl _) (Eq.refl _) (Eq.refl _) (Eq.refl _))

theorem walked_drawn (s : State) (e : Nat) : Walked e s s.drawn := ⟨⟨fun _ _ => Eq.refl _, Eq.refl _, fun _ _ => Eq.refl _, Eq.refl _, Eq.refl _, Eq.refl _, Eq.refl _⟩, ⟨Eq.refl _, Eq.refl _, Eq.refl _⟩, Eq.refl _⟩

/-- A walk that finds its path good. -/
def State.pathVerified (s : State) (e p : Nat) : State :=
  (s.makeRoom e).setEngine e { (s.makeRoom e).engine e with verified := ((s.makeRoom e).engine e).verified.set (blockKey 0 p) true false }

theorem free_flagErr (s : State) (k i sev code : Nat) : (s.flagErr k i sev code).free = s.free := by
  unfold State.flagErr
  dsimp only
  split <;> rfl

theorem free_writeBack (s : State) (e level index : Nat) : (s.writeBack e level index).free = s.free := by
  unfold State.writeBack
  dsimp only
  split
  · exact Eq.refl _
  split
  · exact free_flagErr ..
  · exact Eq.refl _

theorem walked_makeRoom (s : State) (e : Nat) : Walked e s (s.makeRoom e) ∧ (s.makeRoom e).free = s.free + 1 := by
  unfold State.makeRoom
  split
  · exact ⟨walked_drawn s e, Eq.refl _⟩
  · rename_i b _
    exact ⟨(walked_drawn s e).trans (walked_evict s.drawn e b), free_writeBack s.drawn e b.1 b.2⟩

theorem walked_pathVerified (s : State) (e p : Nat) : Walked e s (s.pathVerified e p) ∧ (s.pathVerified e p).free = s.free + 1 :=
  ⟨(walked_makeRoom s e).1.trans (walked_setEngine (Eq.refl _) (Eq.refl _) (Eq.refl _) (Eq.refl _) (Eq.refl _)), (walked_makeRoom s e).2⟩

end alike

/-! ## What alike states agree on -/

section agree
variable {e : Nat} {s t : State}

theorem Alike.fld (h : Alike e s t) {k : Nat} (hk : k ≠ Reg.MPE_STAT e) (lo n : Nat) : t.fld k lo n = s.fld k lo n := congrArg (wfld · lo n) (h.rd k hk)

theorem Alike.bit (h : Alike e s t) {k : Nat} (hk : k ≠ Reg.MPE_STAT e) (i : Nat) : t.bit k i = s.bit k i := congrArg (wbit · i) (h.rd k hk)

/-- A register at another offset is not the status. -/
theorem ne_MPE_STAT {d u i o : Nat} (ho : o % 4096 ≠ 4) : regKey d u i o ≠ Reg.MPE_STAT e := by
  unfold Reg.MPE_STAT regKey
  omega

theorem Alike.crossPort (h : Alike e s t) : t.crossPort = s.crossPort := h.bit (ne_MPE_STAT (by decide)) 2

theorem Alike.populated (h : Alike e s t) (c : Nat) : t.populated c = s.populated c := h.bit (ne_MPE_STAT (by decide)) 0

theorem Alike.capacity (h : Alike e s t) (c : Nat) : t.capacity c = s.capacity c := by
  have hrd : t.rd (Reg.DDR_CFG c) = s.rd (Reg.DDR_CFG c) := h.rd _ (ne_MPE_STAT (by decide))
  unfold State.capacity
  rw [hrd]

theorem Alike.ddrDecode (h : Alike e s t) (a : Nat) : t.ddrDecode a = s.ddrDecode a := by
  have hmode : t.fld Reg.DDR_GCTL 0 2 = s.fld Reg.DDR_GCTL 0 2 := h.fld (ne_MPE_STAT (by decide)) 0 2
  have hall : (List.range 4).all t.populated = (List.range 4).all s.populated := congrArg (List.all (List.range 4)) (funext h.populated)
  simp only [State.ddrDecode, hmode, h.populated, h.capacity, hall]

theorem Alike.rootMode (h : Alike e s t) (p : Nat) : t.rootMode p = s.rootMode p := by
  have hmode : t.fld (Reg.CXL_CTL p) 0 2 = s.fld (Reg.CXL_CTL p) 0 2 := h.fld (ne_MPE_STAT (by decide)) 0 2
  unfold State.rootMode
  rw [hmode]

theorem Alike.cxlPort (h : Alike e s t) (a : Nat) : t.cxlPort a = s.cxlPort a := by
  unfold State.cxlPort
  rw [h.crossPort]

theorem cxlPort_lt (s : State) (a : Nat) : s.cxlPort a < 2 := by
  unfold State.cxlPort
  repeat' split
  all_goals omega

/-- A search whose test and answer agree along the list. -/
theorem find?_map_congr {α β : Type} {l : List α} {p q : α → Bool} {f g : α → β} (hp : ∀ x ∈ l, p x = q x) (hf : ∀ x ∈ l, f x = g x) :
    (l.find? p).map f = (l.find? q).map g := by
  induction l with
  | nil => rfl
  | cons a l ih =>
    rw [List.find?_cons, List.find?_cons, hp a List.mem_cons_self]
    cases q a with
    | true => exact congrArg some (hf a List.mem_cons_self)
    | false => exact ih (fun x hx => hp x (List.mem_cons_of_mem a hx)) fun x hx => hf x (List.mem_cons_of_mem a hx)

theorem Alike.hdm (h : Alike e s t) (p a : Nat) : t.hdm p a = s.hdm p a := by
  have hbase : ∀ n ∈ List.range 8, t.rd (Reg.CXL_HDM_BASE p n) = s.rd (Reg.CXL_HDM_BASE p n) := fun n hn => h.rd _ (ne_MPE_STAT (by have := List.mem_range.mp hn; omega))
  have hlimit : ∀ n ∈ List.range 8, t.rd (Reg.CXL_HDM_LIMIT p n) = s.rd (Reg.CXL_HDM_LIMIT p n) := fun n hn => h.rd _ (ne_MPE_STAT (by have := List.mem_range.mp hn; omega))
  unfold State.hdm
  rw [h.rootMode, h.crossPort]
  refine congrArg (ite _ none) (find?_map_congr (fun n hn => ?_) fun n hn => ?_)
  · unfold State.bit State.fld
    rw [hbase n hn, hlimit n hn]
  · unfold State.bit
    rw [hlimit n hn]

theorem lstat_ne_MPE_STAT {p : Nat} (hp : p < 2) (linkB : Bool) : lstat p linkB ≠ Reg.MPE_STAT e := by
  obtain ⟨o, ho, hkey, -⟩ := lstat_key p linkB
  rw [hkey]
  unfold Reg.MPE_STAT regKey
  omega

theorem Alike.linkCxl (h : Alike e s t) {p : Nat} (hp : p < 2) (linkB : Bool) : t.linkCxl p linkB = s.linkCxl p linkB := by
  have hrd : t.rd (lstat p linkB) = s.rd (lstat p linkB) := h.rd _ (lstat_ne_MPE_STAT hp linkB)
  simp only [State.linkCxl, State.linkUp, State.fld, State.bit, hrd]

theorem Alike.chan (h : Alike e s t) (c : Nat) : t.chan c = s.chan c := congrArg (fun m : SMap Channel => m.get c {}) h.chans

/-- Alike states place an address alike. -/
theorem Alike.locate (h : Alike e s t) (a : Nat) : t.locate a = s.locate a := by
  simp only [State.locate, h.ddrDecode, h.chan, h.cxlPort, h.hdm, h.crossPort, h.linkCxl (cxlPort_lt s a)]

/-- An address lands in one of the six engines. -/
theorem locate_engine {a e l : Nat} (h : s.locate a = .ok (e, l)) : e < 6 := by
  have hddr : ∀ {c l}, s.ddrDecode a = some (c, l) → c < 4 := fun {c l} hd => by
    unfold State.ddrDecode at hd
    dsimp only at hd
    repeat' split at hd
    all_goals simp only [Option.some.injEq, Prod.mk.injEq, reduceCtorEq] at hd
    all_goals omega
  have hport := cxlPort_lt s a
  unfold State.locate at h
  dsimp only at h
  split at h
  · split at h
    · exact absurd h (by simp)
    · rename_i c l' hd
      have hc := hddr hd
      split at h
      all_goals simp only [Except.ok.injEq, Prod.mk.injEq, reduceCtorEq] at h
      omega
  · repeat' split at h
    all_goals simp only [Except.ok.injEq, Prod.mk.injEq, reduceCtorEq] at h
    all_goals omega

theorem Alike.dataArea (h : Alike e s t) (e' : Nat) : t.dataArea e' = s.dataArea e' := congrArg (· * 2 ^ 28) (h.fld (ne_MPE_STAT (by decide)) 0 16)

theorem Alike.systemAddress (h : Alike e s t) (e' l : Nat) : t.systemAddress e' l = s.systemAddress e' l := by
  have hmode : t.fld Reg.DDR_GCTL 0 2 = s.fld Reg.DDR_GCTL 0 2 := h.fld (ne_MPE_STAT (by decide)) 0 2
  simp only [State.systemAddress, hmode, h.crossPort]

/-- The region table is not among the status registers. -/
theorem Alike.regionEntries (h : Alike e s t) (he : e < 6) : t.regionEntries = s.regionEntries :=
  h.scan _ fun w => if_neg fun hc => by
    have hinst : keyInst (Reg.MPE_STAT e) = e := keyInst_regKey (by decide) (by omega)
    rw [hinst] at hc
    omega

theorem Alike.entryOf (h : Alike e s t) (he : e < 6) (a : Nat) : t.entryOf a = s.entryOf a := by
  have hbase : ∀ n, t.entryBase n = s.entryBase n := fun n => congrArg BitVec.toNat (h.rd _ (ne_MPE_STAT (by decide)))
  have hlimit : ∀ n, t.entryLimit n = s.entryLimit n := fun n => congrArg BitVec.toNat (h.rd _ (by unfold Reg.MPE_RGN_LIMIT Reg.MPE_STAT regKey; omega))
  unfold State.entryOf
  rw [h.regionEntries he]
  simp only [hbase, hlimit]

theorem Alike.entryMode (h : Alike e s t) (n : Nat) : t.entryMode n = s.entryMode n := h.fld (ne_MPE_STAT (by decide)) 0 2

theorem Alike.entryKid (h : Alike e s t) (n : Nat) : t.entryKid n = s.entryKid n := h.fld (ne_MPE_STAT (by decide)) 2 6

theorem Alike.agentHolds (h : Alike e s t) (he : e < 6) (a k : Nat) : t.agentHolds a k = s.agentHolds a k := by
  have hlo : t.bit (Reg.MPE_AGKID_LO a) k = s.bit (Reg.MPE_AGKID_LO a) k := h.bit (by unfold Reg.MPE_AGKID_LO Reg.MPE_STAT regKey; omega) k
  have hhi : t.bit (Reg.MPE_AGKID_HI a) (k - 32) = s.bit (Reg.MPE_AGKID_HI a) (k - 32) := h.bit (by unfold Reg.MPE_AGKID_HI Reg.MPE_STAT regKey; omega) (k - 32)
  unfold State.agentHolds
  rw [hlo, hhi]

theorem Alike.kidLoaded (h : Alike e s t) (k : Nat) : t.kidLoaded k = s.kidLoaded k := by
  have hlo : t.bit Reg.MPE_KSTAT_LO k = s.bit Reg.MPE_KSTAT_LO k := h.bit (ne_MPE_STAT (by decide)) k
  have hhi : t.bit Reg.MPE_KSTAT_HI (k - 32) = s.bit Reg.MPE_KSTAT_HI (k - 32) := h.bit (ne_MPE_STAT (by decide)) (k - 32)
  unfold State.kidLoaded
  rw [hlo, hhi, h.retiring]

theorem Alike.hasKey (h : Alike e s t) (he : e < 6) (a n : Nat) : t.hasKey (.agent a) n = s.hasKey (.agent a) n := by
  simp only [State.hasKey, State.carried, h.agentHolds he, h.entryKid]

theorem Alike.unverifiable (h : Alike e s t) : t.unverifiable e = s.unverifiable e := by
  have hoff : keyOff (Reg.MPE_STAT e) = 4 := keyOff_regKey (by decide)
  unfold State.unverifiable
  refine Eq.trans ?_ (h.scan _ fun w => if_neg fun hc => by rw [hoff] at hc; omega)
  refine congrArg (fun f => List.filterMap f t.csr) (funext fun x => ?_)
  dsimp only
  by_cases hx : keyDie x.1 = 4 ∧ keyUnit x.1 = 0x12 ∧ keyInst x.1 = e ∧ 0x100 ≤ keyOff x.1 ∧ keyOff x.1 < 0x300 ∧ keyOff x.1 % 8 = 4 ∧ wbit x.2 31 = true
  · have hne : x.1 - 4 ≠ Reg.MPE_STAT e := by
      obtain ⟨-, -, -, hlo, hhi, -, -⟩ := hx
      unfold keyOff at hlo hhi
      unfold Reg.MPE_STAT regKey
      omega
    rw [if_pos hx, if_pos hx, h.rd _ hne]
  · rw [if_neg hx, if_neg hx]

theorem Alike.listed (h : Alike e s t) (p : Nat) : t.listed e p = s.listed e p := by
  unfold State.listed
  rw [h.unverifiable]

theorem Alike.pageWaits (h : Alike e s t) (p : Nat) : t.pageWaits e p = s.pageWaits e p := by
  unfold State.pageWaits
  rw [h.reenc, h.reinit, h.unverifiable]

/-- Alike states with the same leaves hold the same page. -/
theorem Alike.page (h : Alike e s t) (he : e < 6) (hl : SameLeaves e s t) (p : Nat) : t.page e p = s.page e p := by
  unfold State.page
  dsimp only
  rw [hl.pages, hl.floors, h.systemAddress, h.entryOf he]

end agree

/-! ## Accesses that an engine serves (R356, R357, R365) -/

/-- An agent's access to a line of an entry, with its key loaded and its page open. -/
structure Served (s : State) (a e l n k : Nat) : Prop where
  place : s.locate a = .ok (e, l)
  area : l < s.dataArea e
  entry : s.entryOf a = some n
  mode : s.entryMode n ≠ 3
  key : s.hasKey (.agent k) n = true
  loaded : s.kidLoaded (s.entryKid n) = true
  unlocked : s.locked e = false
  open_ : s.pageWaits e (l / 4096) = false
  free : s.listed e (l / 4096) = false

section served
variable {s t : State} {a e l n k : Nat}

theorem Alike.served (h : Alike e s t) (hs : Served s a e l n k) : Served t a e l n k := by
  have he := locate_engine hs.place
  exact ⟨(h.locate a).trans hs.place, by rw [h.dataArea]; exact hs.area, (h.entryOf he a).trans hs.entry, by rw [h.entryMode]; exact hs.mode, (h.hasKey he k n).trans hs.key,
    by rw [h.kidLoaded, h.entryKid]; exact hs.loaded, h.lock.trans hs.unlocked, (h.pageWaits _).trans hs.open_, (h.listed _).trans hs.free⟩

/-- A walk whose fetch comes as stored, or fails in the line's own tag, finds its path good. -/
theorem walk_good (s : State) (e p kid addr : Nat) (c : Consumer) : s.walk e p kid addr c .intact = (s.pathVerified e p, none) ∧ s.walk e p kid addr c .badTag = (s.pathVerified e p, none) :=
  ⟨rfl, rfl⟩

/-- A served read is checked against its line (R356, R369). -/
theorem protectedRead_served (hs : Served s a e l n k) (hp : s.policyDenies n (.agent k) false = false) {f : Fetch} (hf : f = .intact ∨ f = .badTag) :
    ∃ cached : Bool, s.protectedRead a (.agent k) f =
      (let r := (s.pathVerified e (l / 4096)).checkedRead e (l / 64) (s.entryKid n) (s.entryMode n) a (.agent k) f cached
       (r.1, some r.2)) := by
  have hwalk : s.walk e (l / 4096) (s.entryKid n) a (.agent k) f = (s.pathVerified e (l / 4096), none) := by
    obtain ⟨hi, hb⟩ := walk_good s e (l / 4096) (s.entryKid n) a (.agent k)
    rcases hf with hf | hf
    · rw [hf, hi]
    · rw [hf, hb]
  have harea : ¬s.dataArea e ≤ l := by have := hs.area; omega
  refine ⟨(s.engine e).verified.get (blockKey 0 (l / 4096)) false, ?_⟩
  simp only [State.protectedRead, hs.place, harea, hs.entry, hp, hs.mode, hs.key, hs.loaded, hs.unlocked, hs.open_, hs.free, hwalk, Bool.not_true, Bool.false_eq_true, if_false, false_and]
  rfl

/-- A line written, with its key, and not poisoned, reads as it was written. -/
theorem checkedRead_written {i kid mode addr : Nat} {cached : Bool} (hm : (s.page e (i / 64)).minors.get (i % 64) 0 ≠ 0) (hk : ((s.engine e).lines.get i {}).kid = kid)
    (hp : ((s.engine e).lines.get i {}).poison = false) (hpl : ((s.engine e).lines.get i {}).plain = false) :
    s.checkedRead e i kid mode addr (.agent k) .intact cached = (s, { data := ((s.engine e).lines.get i {}).data }) := by
  simp [State.checkedRead, hm, hk, hp, hpl, speculates]

/-- A line whose tag fails raises an alarm and answers poison (R369). -/
theorem checkedRead_badTag {i kid mode addr : Nat} {cached : Bool} (hm : (s.page e (i / 64)).minors.get (i % 64) 0 ≠ 0) (hk : ((s.engine e).lines.get i {}).kid = kid)
    (hp : ((s.engine e).lines.get i {}).poison = false) (hmode : mode ≠ 0) :
    s.checkedRead e i kid mode addr (.agent k) .badTag cached = (s.integrityAlarm e 1 kid addr (.agent k) false 0, poisoned 1) := by
  simp [State.checkedRead, hm, hk, hp, hmode, speculates]

theorem bit_integrityAlarm (s : State) (e cls kid addr : Nat) (spec : Bool) (taint : Nat) : (s.integrityAlarm e cls kid addr (.agent k) spec taint).bit (Reg.MPE_STAT e) 0 = true :=
  bit_flagErr_self _ _ _ _ (by decide)

/-! ## A line written (R356, R357) -/

/-- The leaf block of a line with its counter one up. -/
def State.pageCounted (s : State) (e i : Nat) : Page :=
  { s.page e (i / 64) with minors := (s.page e (i / 64)).minors.set (i % 64) ((s.page e (i / 64)).minors.get (i % 64) 0 + 1) 0 }

/-- The line and its counter as a write leaves them. -/
def State.lineStored (s : State) (e i kid data : Nat) : State :=
  let t := s.setPage e (i / 64) (s.pageCounted e i)
  t.setEngine e { t.engine e with lines := (t.engine e).lines.set i { data := data, kid := kid, poison := false } {} }

theorem pageCounted_minor (s : State) (e i : Nat) : (s.pageCounted e i).minors.get (i % 64) 0 = (s.page e (i / 64)).minors.get (i % 64) 0 + 1 := by
  unfold State.pageCounted
  exact SMap.get_set_self (s.page e (i / 64)).minors (i % 64) ((s.page e (i / 64)).minors.get (i % 64) 0 + 1) 0

theorem pageCounted_ne (s : State) (e i : Nat) : s.pageCounted e i ≠ {} := fun h => by
  have hminor := pageCounted_minor s e i
  rw [h] at hminor
  exact absurd hminor (by simp [SMap.get])

theorem storeLine_counted {i kid data : Nat} (h : (s.page e (i / 64)).minors.get (i % 64) 0 < 127) : s.storeLine e i kid data false = (s.lineStored e i kid data, true) := by
  unfold State.storeLine
  dsimp only
  rw [if_pos h]
  rfl

/-- A page held is found as it was put. -/
theorem page_of_pages {p : Nat} {x : Page} (h : (s.engine e).pages.get p {} = x) (hx : x ≠ {}) : s.page e p = x := by
  have hfind : ∀ m : SMap Page, m.get p {} = x → ∃ y, m.find? (fun z => z.1 == p) = some y ∧ y.2 = x := by
    intro m
    induction m with
    | nil => exact fun h => absurd h.symm hx
    | cons z m ih =>
      obtain ⟨a, v⟩ := z
      intro h
      by_cases ha : a = p
      · exact ⟨(a, v), by simp [ha], by simpa [SMap.get, ha] using h⟩
      · obtain ⟨y, hy, hval⟩ := ih (by simpa [SMap.get, ha] using h)
        exact ⟨y, by rw [List.find?_cons_of_neg (by simpa using ha)]; exact hy, hval⟩
  obtain ⟨y, hy, hval⟩ := hfind _ h
  unfold State.page
  dsimp only
  rw [hy]
  exact hval

theorem alike_setPage (s : State) (e p : Nat) (x : Page) : Alike e s (s.setPage e p x) := alike_setEngine (Eq.refl _) (Eq.refl _)

theorem setPage_engine (s : State) (e p : Nat) (x : Page) : ((s.setPage e p x).engine e).lines = (s.engine e).lines ∧ ((s.setPage e p x).engine e).pages = (s.engine e).pages.set p x {} := by
  unfold State.setPage
  dsimp only
  rw [State.setEngine_self]
  exact ⟨rfl, rfl⟩

/-- What a store leaves: the line, its counter, and everything else of the set-up. -/
theorem lineStored_spec (s : State) (e i kid data : Nat) :
    Alike e s (s.lineStored e i kid data) ∧ ((s.lineStored e i kid data).engine e).lines = (s.engine e).lines.set i { data := data, kid := kid, poison := false } {} ∧
    (s.lineStored e i kid data).page e (i / 64) = s.pageCounted e i ∧
    s.lineStored e i kid data = { s with mem := { s.mem with engines := (s.lineStored e i kid data).mem.engines } } := by
  obtain ⟨hlines, hpages⟩ := setPage_engine s e (i / 64) (s.pageCounted e i)
  refine ⟨(alike_setPage ..).trans (alike_setEngine (Eq.refl _) (Eq.refl _)), ?_, page_of_pages ?_ (pageCounted_ne s e i), rfl⟩
  · unfold State.lineStored
    dsimp only
    rw [State.setEngine_self, hlines]
  · unfold State.lineStored
    dsimp only
    rw [State.setEngine_self]
    dsimp only
    rw [hpages]
    exact SMap.get_set_self ..

/-- A served write of a whole line is stored (R356, R357). -/
theorem protectedWrite_served (hs : Served s a e l n k) (hp : s.policyDenies n (.agent k) true = false) (hstuck : s.belowStuck e (l / 4096) = false) (hal : l % 64 = 0)
    {bytes : List Byte} (hb : bytes.length = 64) (hm : (s.page e (l / 4096)).minors.get (l / 64 % 64) 0 < 127) :
    s.protectedWrite a bytes false (.agent k) .intact = ((s.pathVerified e (l / 4096)).lineStored e (l / 64) (s.entryKid n) (bytesNat bytes), some {}) := by
  have he := locate_engine hs.place
  obtain ⟨⟨halike, hleaves, -⟩, -⟩ := walked_pathVerified s e (l / 4096)
  have hpage : l / 64 / 64 = l / 4096 := Nat.div_div_eq_div_mul ..
  have hminor : ((s.pathVerified e (l / 4096)).page e (l / 64 / 64)).minors.get (l / 64 % 64) 0 < 127 := by
    rw [hpage, halike.page he hleaves]
    exact hm
  have hmerge : mergeLine 0 0 bytes = bytesNat bytes := by simp [mergeLine]
  have harea : ¬s.dataArea e ≤ l := by have := hs.area; omega
  obtain ⟨hwalk, -⟩ := walk_good s e (l / 4096) (s.entryKid n) a (.agent k)
  have hstore := storeLine_counted (kid := s.entryKid n) (data := bytesNat bytes) hminor
  simp only [State.protectedWrite, hs.place, harea, hs.entry, hp, hs.mode, hs.key, hs.unlocked, hs.loaded, hs.open_, hs.free, hstuck, hwalk, Bool.not_true, Bool.false_eq_true, if_false,
    Bool.or_self, State.writeVerified, hal, hb, and_self, decide_true, if_true, hmerge, hstore]

/-- A line that a write of its key's holder left is what a read with the key returns. -/
theorem written_reads_back {p q : State} {data : Nat} (hs : Served s a e l n k) (hp : s.policyDenies n (.agent k) false = false) (hq : Alike e s q)
    (hline : (q.engine e).lines.get (l / 64) {} = { data := data, kid := s.entryKid n, poison := false }) (hminor : (q.page e (l / 4096)).minors.get (l / 64 % 64) 0 ≠ 0) (x : Option MemReply) :
    ((p.protectedAccess (q, x)).protectedRead a (.agent k) .intact).2 = some { data := data } := by
  have he := locate_engine hs.place
  have hrep : Alike e q (p.protectedAccess (q, x)) := ⟨fun _ _ => rfl, rfl, fun _ _ => rfl, rfl, rfl, rfl, rfl⟩
  have halike := hq.trans hrep
  obtain ⟨cached, hread⟩ := protectedRead_served (halike.served hs) hp (.inl rfl)
  have hline' : ((p.protectedAccess (q, x)).engine e).lines.get (l / 64) {} = { data := data, kid := s.entryKid n, poison := false } := hline
  have hminor' : ((p.protectedAccess (q, x)).page e (l / 4096)).minors.get (l / 64 % 64) 0 ≠ 0 := hminor
  generalize p.protectedAccess (q, x) = t at hread hline' hminor' halike
  obtain ⟨⟨hv, hleaves, -⟩, -⟩ := walked_pathVerified t e (l / 4096)
  have hdiv : l / 64 / 64 = l / 4096 := Nat.div_div_eq_div_mul ..
  rw [← hleaves.lines] at hline'
  rw [← hv.page he hleaves] at hminor'
  have hplaced : ((t.pathVerified e (l / 4096)).page e (l / 64 / 64)).minors.get (l / 64 % 64) 0 ≠ 0 := by
    rw [hdiv]
    exact hminor'
  rw [hread, checkedRead_written hplaced ((congrArg MemLine.kid hline').trans (halike.entryKid n).symm) (congrArg MemLine.poison hline') (congrArg MemLine.plain hline'), hline']

end served

/-- A write answered after its walk and its store. -/
theorem protectedAccess_frame {s p q : State} {m : SMap Engine} {m' : SMap Engine} (hp : p = { s with csr := p.csr, free := p.free, raised := p.raised, mem := { s.mem with engines := m } })
    (hq : q = { p with mem := { p.mem with engines := m' } }) (hfree : p.free = s.free + 1) (x : Option MemReply) :
    p.protectedAccess (q, x) = { s with csr := (p.protectedAccess (q, x)).csr, free := s.free + 1, raised := (p.protectedAccess (q, x)).raised, mem := (p.protectedAccess (q, x)).mem } := by
  rw [hq, ← hfree]
  rw [hp]
  rfl

theorem lines_protectedAccess (p q : State) (x : Option MemReply) (e j : Nat) : ((p.protectedAccess (q, x)).engine e).lines.get j {} = (q.engine e).lines.get j {} := rfl

theorem page_protectedAccess (p q : State) (x : Option MemReply) (e j : Nat) : (p.protectedAccess (q, x)).page e j = q.page e j := rfl

/-- The line stored, and the others as they were. -/
theorem lineStored_line (s : State) (e i kid data j : Nat) :
    ((s.lineStored e i kid data).engine e).lines.get j {} = if j = i then { data := data, kid := kid, poison := false } else (s.engine e).lines.get j {} := by
  obtain ⟨-, hlines, -⟩ := lineStored_spec s e i kid data
  rw [hlines]
  split
  · rename_i h
    rw [h]
    exact SMap.get_set_self ..
  · rename_i h
    exact SMap.get_set_other h

/-- Settles O45: a walk keeps leaves and set-up, a store puts the line with its counter one up, and a read of what was stored finds both. -/
theorem protectedLinesKeepTheirData : Obligations.ProtectedLinesKeepTheirData := by
  unfold Obligations.ProtectedLinesKeepTheirData
  intro s a e l n k kid c replied hplace
  refine ⟨fun f harea hnone => ?noEntry, fun harea hentry hpolicy hmode hkey bytes p f => ?noKey,
    fun harea hentry hw hr hmode hkey hloaded hlock hopen hfree hstuck hal => ?served⟩
  case noEntry =>
    have hread : s.protectedRead a c f = (s, some { resp := .denied }) := by
      simp only [State.protectedRead, hplace, Nat.not_le.mpr harea, hnone, if_false]
      rfl
    exact congrArg (fun x => Host.Outcome.next (s.protectedAccess x)) hread
  case noKey =>
    have hwrite : s.protectedWrite a bytes p c f = (s.mpeDenied e, some { resp := .denied }) := by
      simp only [State.protectedWrite, hplace, Nat.not_le.mpr harea, hentry, hpolicy, hmode, c, hkey, Bool.not_false, Bool.false_eq_true, if_true, if_false]
      rfl
    exact congrArg (fun x => Host.Outcome.next (s.protectedAccess x)) hwrite
  have hs : Served s a e l n k := ⟨hplace, harea, hentry, hmode, hkey, hloaded, hlock, hopen, hfree⟩
  have he := locate_engine hplace
  have hdiv : l / 64 / 64 = l / 4096 := Nat.div_div_eq_div_mul ..
  obtain ⟨⟨halike, hleaves, hwalked⟩, hdrawn⟩ := walked_pathVerified s e (l / 4096)
  have hpage : (s.pathVerified e (l / 4096)).page e (l / 64 / 64) = s.page e (l / 4096) := by rw [hdiv, halike.page he hleaves]
  refine ⟨fun bytes hbytes hminor => ?written, fun hminor hcipher hline hgood => ?failed⟩
  case written =>
    obtain ⟨hstored, -, hcounted, hframe⟩ := lineStored_spec (s.pathVerified e (l / 4096)) e (l / 64) (s.entryKid n) (bytesNat bytes)
    have hcount := pageCounted_minor (s.pathVerified e (l / 4096)) e (l / 64)
    rw [← hcounted, hpage, hdiv] at hcount
    have hline := lineStored_line (s.pathVerified e (l / 4096)) e (l / 64) (s.entryKid n) (bytesNat bytes)
    refine ⟨(s.pathVerified e (l / 4096)).protectedAccess ((s.pathVerified e (l / 4096)).lineStored e (l / 64) (s.entryKid n) (bytesNat bytes), some {}),
      congrArg (fun x => Host.Outcome.next (s.protectedAccess x)) (protectedWrite_served hs hw hstuck hal hbytes hminor), ?_, rfl, ?_, ?_, fun j hj => ?_, _, rfl,
      written_reads_back hs hr (halike.trans hstored) ((hline _).trans (if_pos rfl)) (by omega) _⟩
    · exact protectedAccess_frame hwalked hframe hdrawn _
    · rw [lines_protectedAccess, hline, if_pos rfl]
    · rw [page_protectedAccess]
      exact hcount
    · rw [lines_protectedAccess, hline, if_neg hj, hleaves.lines]
  case failed =>
    obtain ⟨cached, hread⟩ := protectedRead_served hs hr (.inr rfl)
    have hlines := congrArg (fun m : SMap MemLine => m.get (l / 64) {}) hleaves.lines
    have hchecked := checkedRead_badTag (s := s.pathVerified e (l / 4096)) (e := e) (i := l / 64) (kid := s.entryKid n) (mode := s.entryMode n) (addr := a) (k := k) (cached := cached)
      (by rw [hpage]; exact hminor) ((congrArg MemLine.kid hlines).trans hline) ((congrArg MemLine.poison hlines).trans hgood) hcipher
    simp only [hchecked] at hread
    exact ⟨_, congrArg (fun x => Host.Outcome.next (s.protectedAccess x)) hread, rfl, bit_integrityAlarm ..⟩

end Sys2Proof.Machine
end

section
/-!
PROOF. The upkeep of the protection engines (R360 to R363, R368, R369, R374, R376).
-/
namespace Sys2Proof.Machine

section upkeep
variable {s : State} {e : Nat}

theorem regWrite_mpe (s : State) (req : Nat) (w : Word) {i o : Nat} (hi : i < 4096) (ho : o < 0xF00) :
    (s.touched req (regKey 4 0x12 i o)).regWrite (regKey 4 0x12 i o) req w = s.mpeWrite i o (regKey 4 0x12 i o) req w := by
  have ho' : o < 4096 := by omega
  simp [State.touched, State.regWrite, keyUnit_regKey ho' hi, keyOff_regKey ho', keyInst_regKey ho' hi, show o ≠ 4088 by omega, show o ≠ 4092 by omega]

/-! ## Re-encryption (R360, R362) -/

/-- The leaf block of a re-encrypted page: the major counter one up, the minor counters 1, that of the waiting write 2. -/
def State.pageReencrypted (s : State) (e p line : Nat) : Page :=
  { major := (s.page e p).major + 1, minors := ((s.page e p).minors.mapVals 0 (fun _ _ => 1)).set (line % 64) 2 0 }

theorem pageReencrypted_ne (p line : Nat) : s.pageReencrypted e p line ≠ {} := fun h => absurd (congrArg Page.major h) (Nat.succ_ne_zero _)

theorem pageReencrypted_minor (p line : Nat) : (s.pageReencrypted e p line).minors.get (line % 64) 0 = 2 :=
  SMap.get_set_self ((s.page e p).minors.mapVals 0 (fun _ _ => 1)) (line % 64) 2 0

theorem raiseMark_keeps (s : State) (e p major : Nat) :
    ((s.raiseMark e p major).engine e).reenc = (s.engine e).reenc ∧ ((s.raiseMark e p major).engine e).pages = (s.engine e).pages ∧
    s.raiseMark e p major = { s with mem := (s.raiseMark e p major).mem } := by
  unfold State.raiseMark
  split
  · exact ⟨rfl, rfl, rfl⟩
  · rw [State.setEngine_self]
    exact ⟨rfl, rfl, rfl⟩

/-- A page before the write of its line. -/
def State.reencryptedPage (s : State) (e p line : Nat) (rest : List (Nat × HeldWrite)) : State :=
  ((s.setEngine e { s.engine e with reenc := rest }).setPage e p (s.pageReencrypted e p line)).raiseMark e p ((s.page e p).major + 1)

theorem reencryptedPage_spec (s : State) (e p line : Nat) (rest : List (Nat × HeldWrite)) :
    ((s.reencryptedPage e p line rest).engine e).reenc = rest ∧ ((s.reencryptedPage e p line rest).engine e).pages.get p {} = s.pageReencrypted e p line ∧
    s.reencryptedPage e p line rest = { s with mem := (s.reencryptedPage e p line rest).mem } := by
  obtain ⟨hreenc, hpages, hframe⟩ := raiseMark_keeps ((s.setEngine e { s.engine e with reenc := rest }).setPage e p (s.pageReencrypted e p line)) e p ((s.page e p).major + 1)
  obtain ⟨-, hput⟩ := setPage_engine (s.setEngine e { s.engine e with reenc := rest }) e p (s.pageReencrypted e p line)
  refine ⟨hreenc.trans ?_, ?_, hframe⟩
  · unfold State.setPage
    dsimp only
    rw [State.setEngine_self, State.setEngine_self]
  · unfold State.reencryptedPage
    rw [hpages, hput]
    exact SMap.get_set_self ..

/-- The page re-encrypted and the waiting write applied. -/
def State.pageWritten (s : State) (e p : Nat) (w : HeldWrite) (rest : List (Nat × HeldWrite)) : State :=
  (s.reencryptedPage e p w.line rest).setEngine e
    { (s.reencryptedPage e p w.line rest).engine e with
      lines := ((s.reencryptedPage e p w.line rest).engine e).lines.set w.line { data := w.data, kid := w.kid, poison := w.poison } {} }

theorem reencrypted_eq {p : Nat} {w : HeldWrite} {rest : List (Nat × HeldWrite)} (h : (s.engine e).reenc = (p, w) :: rest) : s.reencrypted e = s.pageWritten e p w rest := by
  unfold State.reencrypted
  dsimp only
  rw [h]
  rfl

theorem pageWritten_spec (s : State) (e p : Nat) (w : HeldWrite) (rest : List (Nat × HeldWrite)) :
    s.pageWritten e p w rest = { s with mem := (s.pageWritten e p w rest).mem } ∧ ((s.pageWritten e p w rest).engine e).reenc = rest ∧
    (s.pageWritten e p w rest).page e p = s.pageReencrypted e p w.line ∧ (((s.pageWritten e p w rest).engine e).lines.get w.line {}).data = w.data := by
  obtain ⟨hreenc, hpage, hframe⟩ := reencryptedPage_spec s e p w.line rest
  unfold State.pageWritten
  refine ⟨?_, ?_, page_of_pages ?_ (pageReencrypted_ne p w.line), ?_⟩
  · rw [hframe]
    rfl
  · rw [State.setEngine_self]
    exact hreenc
  · rw [State.setEngine_self]
    exact hpage
  · rw [State.setEngine_self]
    exact congrArg MemLine.data (SMap.get_set_self ..)

/-! ## Rebuilds (R374) -/

theorem SMap.get_keep_out {α : Type} (m : SMap α) {p : Nat → Bool} {k : Nat} (d : α) (h : p k = false) : (m.keep p).get k d = d := by
  induction m with
  | nil => rfl
  | cons x m ih =>
    by_cases hp : p x.1 = true
    · have hne : x.1 ≠ k := fun he => absurd (he ▸ hp) (by rw [h]; exact Bool.false_ne_true)
      simpa [SMap.keep, SMap.get, hp, hne] using ih
    · simpa [SMap.keep, hp] using ih

theorem busyWord (n : Fin 64) : wbit (BitVec.ofNat 32 (n + 0x80000000)) 31 = true ∧ wfld (BitVec.ofNat 32 (n + 0x80000000)) 0 6 = n := by
  revert n
  decide

theorem engine_unlist (s : State) (e : Nat) (drop : Nat × Nat × Nat → Bool) : (s.unlist e drop).engine e = s.engine e :=
  List.foldlRecOn _ _ (motive := fun t : State => t.engine e = s.engine e) rfl fun _ ht _ _ => ht

theorem lines_writeBack (s : State) (e level index : Nat) :
    ((s.writeBack e level index).engine e).lines = (s.engine e).lines ∧ ((s.writeBack e level index).engine e).reinit = (s.engine e).reinit :=
  ⟨(walked_writeBack s e level index).leaves.lines, (walked_writeBack s e level index).alike.reinit⟩

/-- What the end of a rebuild leaves. -/
theorem reinitDone_spec {m level index : Nat} (hr : (s.engine e).reinit = some m) (hf : (s.unverifiable e).find? (fun x => x.1 == m) = some (m, level, index)) :
    ((s.reinitDone e).engine e).reinit = none ∧ (s.reinitDone e).bit (Reg.MPE_STAT e) 6 = false ∧
    ((s.reinitDone e).engine e).lines = (s.engine e).lines.keep (fun i => !(blockCovers level index 0 (i / 64))) := by
  unfold State.reinitDone
  dsimp only
  rw [hr]
  dsimp only
  rw [hf]
  dsimp only
  generalize hg : Engine.mk .. = g
  have hnone : g.reinit = none := by rw [← hg]
  have hlines : g.lines = (s.engine e).lines.keep (fun i => !(blockCovers level index 0 (i / 64))) := by rw [← hg]
  obtain ⟨hl, hi⟩ := lines_writeBack (s.setEngine e g) e level index
  rw [State.setEngine_self] at hl hi
  have hu := engine_unlist ((s.setEngine e g).writeBack e level index) e (fun x => x.1 == m)
  exact ⟨(congrArg Engine.reinit hu).trans (hi.trans hnone), bit_setBit_self _ _ _ (by decide), (congrArg Engine.lines hu).trans (hl.trans hlines)⟩

/-! ## Retirement (R376) -/

theorem kidLoaded_dropKey (s : State) {k : Nat} (hk : k < 64) (x : Option Nat) (m : Mem) : ({ s.dropKey k with mem := { m with retiring := x } } : State).kidLoaded k = false := by
  unfold State.kidLoaded State.dropKey
  by_cases h : k < 32
  · rw [if_pos h, if_pos h]
    exact (congrArg (· && _) (bit_setBit_self s _ false h)).trans (Bool.false_and _)
  · rw [if_neg h, if_neg h]
    exact (congrArg (· && _) (bit_setBit_self s _ false (by omega))).trans (Bool.false_and _)

/-! ## Tree initialisation (R361) -/

theorem treeInit_eq (s : State) (e : Nat) : s.treeInit e = (s.setEngine e { tk := (s.engine e).tk + 1 }).setBit (Reg.MPE_STAT e) 13 true := rfl

theorem bit_setBoot (s : State) (f : Boot → Boot) (k i : Nat) : (s.setBoot f).bit k i = s.bit k i := rfl

theorem setBoot_boot (s : State) (f : Boot → Boot) : (s.setBoot f).boot = f s.boot := rfl

theorem setBoot_frame {s u : State} (hu : u = { s with csr := u.csr }) (f : Boot → Boot) : u.setBoot f = { s with csr := (u.setBoot f).csr, boot := (u.setBoot f).boot } := by
  rw [hu]
  rfl

theorem treeInitialised_spec (s : State) (e : Nat) :
    let t := (s.treeInitDone e).setBoot (fun b => { b with trees := b.trees.set e true false })
    t.bit (Reg.MPE_STAT e) 13 = false ∧ t.boot.trees.get e false = true ∧ t = { s with csr := t.csr, boot := t.boot } := by
  refine ⟨(bit_setBoot ..).trans (bit_setBit_self _ _ _ (by decide)), ?_, setBoot_frame rfl _⟩
  rw [setBoot_boot]
  exact SMap.get_set_self (s.treeInitDone e).boot.trees e true false

/-! ## The alarm log (R369) -/

theorem effectRead_MPE_ALM0 (he : e < 6) (req : Nat) : s.effectRead req (Reg.MPE_ALM0 e) = ((s.alarmHeadRead e req).1, .ok, (s.alarmHeadRead e req).2) := by
  have he' : e < 4096 := by omega
  unfold State.effectRead
  rw [(single_MPE_ALM0 e he).2]
  simp [Reg.MPE_ALM0, keyUnit_regKey, keyOff_regKey, keyInst_regKey, he', he]

theorem touched_mpe (s : State) (req : Nat) {i o : Nat} (hi : i < 4096) (ho : o < 0xF00) : s.touched req (regKey 4 0x12 i o) = s := by
  have ho' : o < 4096 := by omega
  simp [State.touched, keyUnit_regKey ho' hi]

/-! ## The region table (R363) -/

/-- Every engine's high-water mark of an entry, as its enabling sets it. -/
def State.marksSet (s : State) (n : Nat) : State :=
  (List.range 6).foldl (fun u e => u.setEngine e { u.engine e with marks := (u.engine e).marks.set n ((u.engine e).marks.foldl (fun m x => max m x.2) 0) 0 }) s

theorem marksSet_spec (s : State) (n : Nat) : s.marksSet n = { s with mem := (s.marksSet n).mem } ∧ ∀ i, ((s.marksSet n).engine i).lines = (s.engine i).lines := by
  refine List.foldlRecOn _ _ (motive := fun t : State => t = { s with mem := t.mem } ∧ ∀ i, (t.engine i).lines = (s.engine i).lines) ⟨rfl, fun _ => rfl⟩ fun t ht j _ => ⟨?_, fun i => ?_⟩
  · obtain ⟨ht, -⟩ := ht
    rw [ht]
    rfl
  · obtain ⟨-, ht⟩ := ht
    by_cases h : i = j
    · rw [h, State.setEngine_self, ← ht j]
    · exact (congrArg Engine.lines (SMap.get_set_other h)).trans (ht i)

theorem rd_of_mem {s t : State} (h : t = { s with mem := t.mem }) (k : Nat) : t.rd k = s.rd k := by
  rw [h]
  rfl

theorem frame_of_mem {s u t : State} (hu : u = { s with csr := u.csr }) (ht : t = { u with mem := t.mem }) : t = { s with csr := t.csr, mem := t.mem } := by
  rw [hu] at ht
  rw [ht]

section entry
variable {n : Nat} {w : Word}

theorem regionCtlWrite_enabled (h : s.bit (Reg.MPE_RGN_CTL (0x100 + n)) 31 = true) :
    s.regionCtlWrite n w = (if wbit w 31 then (s, .refused) else (s.setBit (Reg.MPE_RGN_CTL (0x100 + n)) 31 false, .ok)) := if_pos h

theorem regionCtlWrite_disabled (h : s.bit (Reg.MPE_RGN_CTL (0x100 + n)) 31 = false) (hw : wbit w 31 = false) :
    s.regionCtlWrite n w = (s.wr (Reg.MPE_RGN_CTL (0x100 + n)) (w &&& 0x800000FF), .ok) := by
  unfold State.regionCtlWrite
  dsimp only
  rw [h, hw]
  rfl

theorem regionCtlWrite_enabling (h : s.bit (Reg.MPE_RGN_CTL (0x100 + n)) 31 = false) (hw : wbit w 31 = true) (hle : s.entryBase n ≤ s.entryLimit n)
    (hr : s.rangeAllowed (s.entryBase n) (s.entryLimit n) = true)
    (hc : (s.regionEntries.any (fun m => decide (s.entryBase m ≤ s.entryLimit n ∧ s.entryBase n ≤ s.entryLimit m))) = false) (hm : wfld w 0 2 ≠ 3) :
    s.regionCtlWrite n w = ((s.wr (Reg.MPE_RGN_CTL (0x100 + n)) (w &&& 0x800000FF)).marksSet n, .ok) := by
  unfold State.regionCtlWrite
  dsimp only
  rw [h, hw, hc, if_neg Bool.false_ne_true, if_neg (by decide), if_pos ⟨hle, hr, rfl, .inl hm⟩]
  rfl

theorem mpeWrite_region (hn : n < 256) (key req : Nat) : s.mpeWrite (0x100 + n) 0x008 key req w = s.regionCtlWrite n w := by
  unfold State.mpeWrite
  rw [if_neg (by omega), if_neg (by omega), if_pos rfl, Nat.add_sub_cancel_left]

end entry

end upkeep

/-- Settles O46: each upkeep command by the lemma that says what it leaves, a register's write by its row of the engine's writes. -/
theorem enginesMaintainTheTree : Obligations.EnginesMaintainTheTree := by
  unfold Obligations.EnginesMaintainTheTree
  intro s r e g
  have he := e.isLt
  refine ⟨fun p w rest hq => ?reencryption, fun x rest hp => ⟨fun hx => ?good, fun hx => ?bad⟩, fun n ha => ⟨fun hr hu => ?reinit, fun m hr => ?reinitBusy⟩,
    fun m level index hr hf => ?rebuilt, fun kid ha hn hc => ?retire, fun k hk hr hq => ?retired, ?treeInit, ?treeDone,
    fun ha hr => ⟨fun x rest hl => ?head, fun hl => ?empty⟩, ?entry⟩
  case reencryption =>
    obtain ⟨hframe, hreenc, hpage, hdata⟩ := pageWritten_spec s e p w rest
    exact ⟨_, congrArg Host.Outcome.next (reencrypted_eq hq), hframe, hreenc, congrArg Page.major hpage, (congrArg (fun x : Page => x.minors.get (w.line % 64) 0) hpage).trans (pageReencrypted_minor p w.line),
      hdata⟩
  case good =>
    refine congrArg Host.Outcome.next ?_
    unfold State.specCheck
    dsimp only
    rw [hp]
    exact if_pos hx
  case bad =>
    refine congrArg Host.Outcome.next ?_
    unfold State.specCheck
    dsimp only
    rw [hp]
    exact if_neg hx
  case reinit =>
    obtain ⟨hbusy, hidx⟩ := busyWord n
    refine congrArg Host.Outcome.next (regAccess_wrote (single_MPE_REINIT e he) ha ?_)
    rw [Reg.MPE_REINIT, regWrite_mpe s _ _ (by omega) (by decide)]
    unfold State.mpeWrite
    rw [if_pos he, hbusy, if_pos rfl, hidx]
    unfold State.reinitStart
    dsimp only
    rw [hr, hu]
    rfl
  case reinitBusy =>
    obtain ⟨hbusy, hidx⟩ := busyWord n
    refine congrArg Host.Outcome.next (regAccess_refused (single_MPE_REINIT e he) ha ?_)
    rw [Reg.MPE_REINIT, regWrite_mpe s _ _ (by omega) (by decide)]
    unfold State.mpeWrite
    rw [if_pos he, hbusy, if_pos rfl, hidx]
    unfold State.reinitStart
    dsimp only
    rw [hr]
    rfl
  case rebuilt =>
    obtain ⟨hnone, hbit, hlines⟩ := reinitDone_spec hr hf
    refine ⟨_, rfl, hnone, hbit, fun i hi => ?_⟩
    rw [hlines]
    exact SMap.get_keep_out _ _ (by rw [hi]; rfl)
  case retire =>
    obtain ⟨hbusy, hidx⟩ := busyWord kid
    refine congrArg Host.Outcome.next (regAccess_wrote single_MPE_RETIRE ha ?_)
    rw [Reg.MPE_RETIRE, regWrite_mpe s _ _ (by decide) (by decide)]
    unfold State.mpeWrite
    rw [if_neg (by decide), if_pos rfl]
    dsimp only
    rw [hn, if_neg (by decide), hbusy, if_pos rfl, hidx]
    unfold State.retireStart
    rw [hn, if_neg (by decide), if_pos hc]
    rfl
  case retired =>
    have hfree : (List.range 6).any (fun i => (s.engine i).reenc.any (fun x => x.2.kid == k)) = false := by
      refine List.any_eq_false.mpr fun i hi => ?_
      rw [hq i (List.mem_range.mp hi)]
      exact Bool.false_ne_true
    refine ⟨{ ((List.range 6).foldl (fun u i => u.writeBackAll i) s).dropKey k with mem := { (((List.range 6).foldl (fun u i => u.writeBackAll i) s).dropKey k).mem with retiring := none } },
      congrArg Host.Outcome.next ?_, rfl, kidLoaded_dropKey _ hk _ _⟩
    unfold State.retireDone
    rw [hr]
    dsimp only
    rw [hfree, if_neg Bool.false_ne_true]
  case treeInit => exact congrArg Host.Outcome.next (treeInit_eq s e)
  case treeDone => exact ⟨_, rfl, treeInitialised_spec s e⟩
  case head =>
    refine congrArg Host.Outcome.next (regFetch_effect (single_MPE_ALM0 e he).1 (touched_mpe s _ (by omega) (by decide)) ha hr ?_)
    rw [effectRead_MPE_ALM0 he]
    unfold State.alarmHeadRead
    dsimp only
    rw [show (s.engine e).log = x :: rest from hl]
  case empty =>
    refine congrArg Host.Outcome.next (regFetch_effect (single_MPE_ALM0 e he).1 (touched_mpe s _ (by omega) (by decide)) ha hr ?_)
    rw [effectRead_MPE_ALM0 he]
    unfold State.alarmHeadRead
    dsimp only
    rw [show (s.engine e).log = [] from hl]
  case entry =>
    intro n w key ha
    have hkey := single_MPE_RGN_CTL (0x100 + n) (by omega) (by omega)
    have hwrite : (s.touched r.code key).regWrite key r.code w = s.regionCtlWrite n w := (regWrite_mpe s _ w (by omega) (by decide)).trans (mpeWrite_region n.isLt ..)
    refine ⟨fun h1 hw => ?entryRefused, fun h1 hw => ?entryCleared, fun h1 hw => ?entrySet, fun h1 hw hle hrange hclash hmode => ?entryEnabled⟩
    case entryRefused =>
      exact congrArg Host.Outcome.next (regAccess_refused hkey ha (hwrite.trans ((regionCtlWrite_enabled h1).trans (if_pos hw))))
    case entryCleared =>
      exact congrArg Host.Outcome.next (regAccess_wrote hkey ha (hwrite.trans ((regionCtlWrite_enabled h1).trans (if_neg (Bool.not_eq_true _ ▸ hw)))))
    case entrySet => exact congrArg Host.Outcome.next (regAccess_wrote hkey ha (hwrite.trans (regionCtlWrite_disabled h1 hw)))
    case entryEnabled =>
      obtain ⟨hframe, hlines⟩ := marksSet_spec (s.wr key (w &&& 0x800000FF)) n
      refine ⟨(s.wr key (w &&& 0x800000FF)).marksSet n, congrArg Host.Outcome.next (regAccess_wrote hkey ha (hwrite.trans (regionCtlWrite_enabling h1 hw hle hrange hclash hmode))), ?_, ?_,
        fun i _ => hlines i⟩
      · exact frame_of_mem (u := s.wr key (w &&& 0x800000FF)) rfl hframe
      · exact (rd_of_mem hframe key).trans (rd_wr_self ..)

end Sys2Proof.Machine
end

section
/-!
PROOF. Transceiver lanes: the state table, commands and measurements (R383 to R396).
-/
namespace Sys2Proof.Machine

section lanes
variable {s t : State} {die l : Nat}

theorem regWrite_xcvr (s : State) (req : Nat) (w : Word) {d i o : Nat} (hi : i < 4096) (ho : o < 0xF00) :
    (s.touched req (regKey d 0x0D i o)).regWrite (regKey d 0x0D i o) req w = s.xcvrWrite d i o (regKey d 0x0D i o) w := by
  have ho' : o < 4096 := by omega
  simp [State.touched, State.regWrite, keyUnit_regKey ho' hi, keyOff_regKey ho', keyInst_regKey ho' hi, keyDie_regKey ho' hi, show o ≠ 4088 by omega, show o ≠ 4092 by omega]

theorem lane_setLane_other {k : Nat} (h : l ≠ k) (x : Lane) : (s.setLane die l x).lane die k = s.lane die k := SMap.get_set_other (by omega)

theorem lane_serial (h : t.serial = s.serial) : t.lane die l = s.lane die l := congrArg (fun x : Serial => x.lanes.get (die * 16 + l) {}) h

theorem serial_flagErr (s : State) (k i sev code : Nat) : (s.flagErr k i sev code).serial = s.serial := by
  unfold State.flagErr
  dsimp only
  split <;> rfl

/-! ## What a lane's port follows -/

/-- Only Phase Link ports changed. -/
def PortsOnly (s t : State) : Prop := ∃ p, t = { s with serial := { s.serial with ports := p } }

theorem portsRetrain_only (s : State) (die l : Nat) : PortsOnly s (s.portsRetrain die l) := by
  refine List.foldlRecOn _ _ (motive := PortsOnly s) ⟨_, rfl⟩ fun t ht p _ => ?_
  obtain ⟨m, rfl⟩ := ht
  dsimp only
  split
  · exact ⟨_, rfl⟩
  · exact ⟨_, rfl⟩

theorem PortsOnly.lane (h : PortsOnly s t) (die l : Nat) : t.lane die l = s.lane die l := by
  obtain ⟨p, rfl⟩ := h
  rfl

theorem PortsOnly.pllLocked (h : PortsOnly s t) (die q : Nat) (b : Bool) : t.pllLocked die q b = s.pllLocked die q b := by
  obtain ⟨p, rfl⟩ := h
  rfl

/-! ## The control register (R384, R391, R392) -/

theorem or_bit_of_set {w : Word} {m : Word} (h : ∀ i < 32, m.getLsbD i = true → wbit w i = true) : w ||| m = w := by
  refine BitVec.eq_of_getLsbD_eq fun i hi => ?_
  rw [BitVec.getLsbD_or]
  by_cases hm : m.getLsbD i = true
  · rw [hm, Bool.or_true]
    exact (h i hi hm).symm
  · rw [Bool.eq_false_iff.mpr hm, Bool.or_false]

theorem or_one_of_set {w : Word} (h : wbit w 0 = true) : w ||| 1 = w :=
  or_bit_of_set fun i hi hm => by
    have hi0 : i = 0 := by
      have hone : (1#32).getLsbD i = decide (i = 0) := by simp
      exact of_decide_eq_true (hone.symm.trans hm)
    rw [hi0]
    exact h

theorem word_mod {w : Word} {n : Nat} (h : w.toNat < 2 ^ n) : BitVec.ofNat 32 (w.toNat % 2 ^ n) = w := by
  rw [Nat.mod_eq_of_lt h, BitVec.ofNat_toNat, BitVec.setWidth_eq]

section enable
variable {w : Word} (ho : s.owned die l = false) (he : s.laneEn die l = false) (hw : w.toNat < 2 ^ 24) (h0 : wbit w 0 = true)
include ho he hw h0

/-- A word in order enables its lane. -/
theorem lctlWrite_enable (hok : s.laneOk die l w = true) (ha : wfld w 12 2 ≠ 3) (hb : wfld w 15 3 < 5) (hc : wfld w 18 3 < 6) (hd : wfld w 21 3 < 6) :
    s.lctlWrite die l w = ((s.wr (Reg.XCVR_LCTL die l) w).startLane die l, .ok) := by
  have he' : wbit (s.rd (Reg.XCVR_LCTL die l)) 0 = false := he
  unfold State.lctlWrite
  dsimp only
  rw [word_mod hw, ho, he', h0, hok]
  simp [ha, show ¬5 ≤ wfld w 15 3 by omega, show ¬6 ≤ wfld w 18 3 by omega, show ¬6 ≤ wfld w 21 3 by omega]

/-- A word out of order is refused and reported. -/
theorem lctlWrite_unfit (hok : s.laneOk die l w = false) : s.lctlWrite die l w = (s.laneConfig die l, .refused) := by
  have he' : wbit (s.rd (Reg.XCVR_LCTL die l)) 0 = false := he
  unfold State.lctlWrite
  dsimp only
  rw [word_mod hw, ho, he', h0, hok]
  rfl

end enable

theorem xcvrWrite_lctl {l : Nat} (hl : l < 16) (key : Nat) (w : Word) : s.xcvrWrite die l 0 key w = s.lctlWrite die l w := if_pos hl

theorem state_startLane (s : State) (die l : Nat) :
    ((s.startLane die l).lane die l).state = if s.pllLocked die (l / 4) (s.lanePll die l) && s.quadRuns die (l / 4) then .cal else .off :=
  congrArg Lane.state (State.setLane_self ..)

/-! ## PLLs (R383, R392, R393) -/

/-- Along a list, an element's step settles what it is due, and the others leave it. -/
theorem foldl_settles {α σ : Type} {f : σ → α → σ} {pre post : σ → Prop} {k : α} (hstep : ∀ t, pre t → post (f t k)) (hpre : ∀ t a, a ≠ k → pre t → pre (f t a))
    (hpost : ∀ t a, post t → post (f t a)) {as : List α} (hk : k ∈ as) {t : σ} (h : pre t) : post (as.foldl f t) := by
  induction as generalizing t with
  | nil => exact absurd hk List.not_mem_nil
  | cons a as ih =>
    by_cases ha : a = k
    · subst ha
      exact List.foldlRecOn as f (motive := post) (hstep t h) fun u hu b _ => hpost u b hu
    · exact ih ((List.mem_cons.mp hk).resolve_left (Ne.symm ha)) (hpre t a ha h)

theorem mem_pllUsers {q k : Nat} {b : Bool} (hk : k < 4) (he : s.laneEn die (4 * q + k) = true) (hb : s.lanePll die (4 * q + k) = b) : 4 * q + k ∈ s.pllUsers die q b := by
  refine List.mem_filter.mpr ⟨List.mem_map.mpr ⟨k, List.mem_range.mpr hk, rfl⟩, ?_⟩
  simp [he, hb]

theorem pllLocked_setLocked (s : State) (die q : Nat) (b v : Bool) : (s.setLocked die q b v).pllLocked die q b = v :=
  SMap.get_set_self s.serial.locks (8 * die + 2 * q + b2n b) v false

/-- A lane in FAULT with a code. -/
def Lane.faulted (x : Lane) (code : Nat) : Prop := x.state = .fault ∧ x.fault = code

/-- A lane on a PLL that unlocks. -/
def State.lanePllLost (s : State) (die l : Nat) : State := if (s.lane die l).state == .off then s else (s.laneFault die l 2).portsRetrain die l

theorem lane_laneFault (s : State) (die l code : Nat) : (s.laneFault die l code).lane die l = { s.lane die l with state := .fault, fault := code, blk := false } :=
  State.setLane_self ..

theorem lanePllLost_other {k : Nat} (h : l ≠ k) : (s.lanePllLost die l).lane die k = s.lane die k := by
  unfold State.lanePllLost
  split
  · rfl
  · exact ((portsRetrain_only ..).lane die k).trans (lane_setLane_other h _)

theorem lanePllLost_self (h : (s.lane die l).state ≠ .off) : ((s.lanePllLost die l).lane die l).faulted 2 := by
  unfold State.lanePllLost
  rw [if_neg (by simpa using h), (portsRetrain_only ..).lane, lane_laneFault]
  exact ⟨rfl, rfl⟩

theorem pllLocked_lanePllLost (s : State) (die l : Nat) (d q : Nat) (b : Bool) : (s.lanePllLost die l).pllLocked d q b = s.pllLocked d q b := by
  unfold State.lanePllLost
  split
  · rfl
  · exact (portsRetrain_only ..).pllLocked d q b

theorem pllUnlock_eq (s : State) (die q : Nat) (b : Bool) : s.pllUnlock die q b = (s.pllUsers die q b).foldl (fun t l => t.lanePllLost die l) (s.setLocked die q b false) := rfl

theorem pllUnlock_locked (s : State) (die q : Nat) (b : Bool) : (s.pllUnlock die q b).pllLocked die q b = false := by
  rw [pllUnlock_eq]
  exact List.foldlRecOn _ _ (motive := fun t : State => t.pllLocked die q b = false) (pllLocked_setLocked ..) fun t ht l _ => (pllLocked_lanePllLost t die l die q b).trans ht

theorem pllUnlock_lane {q k : Nat} {b : Bool} (hk : k < 4) (he : s.laneEn die (4 * q + k) = true) (hb : s.lanePll die (4 * q + k) = b) (hs : (s.lane die (4 * q + k)).state ≠ .off) :
    ((s.pllUnlock die q b).lane die (4 * q + k)).faulted 2 := by
  rw [pllUnlock_eq]
  refine foldl_settles (pre := fun t : State => (t.lane die (4 * q + k)).state ≠ .off) (post := fun t : State => (t.lane die (4 * q + k)).faulted 2) (fun t ht => lanePllLost_self ht)
    (fun t a ha ht => by rw [lanePllLost_other ha]; exact ht) (fun t a ht => ?_) (mem_pllUsers hk he hb) hs
  by_cases ha : a = 4 * q + k
  · rw [ha]
    exact lanePllLost_self (by rw [ht.1]; decide)
  · rw [lanePllLost_other ha]
    exact ht

/-- A lane on a PLL that locks. -/
def State.lanePllFound (s : State) (die l : Nat) : State :=
  if (s.lane die l).state == .off || ((s.lane die l).state == .fault && decide ((s.lane die l).fault ≤ 2)) then s.startLane die l else s

theorem lanePllFound_frame (s : State) (die l : Nat) : ∃ m, s.lanePllFound die l = { s with serial := { s.serial with lanes := m } } := by
  unfold State.lanePllFound
  split
  · exact ⟨_, rfl⟩
  · exact ⟨_, rfl⟩

theorem lanePllFound_other {k : Nat} (h : l ≠ k) : (s.lanePllFound die l).lane die k = s.lane die k := by
  unfold State.lanePllFound
  split
  · exact lane_setLane_other h _
  · rfl

/-- A lane that waits for its PLL, which is locked, in a quad that runs. -/
structure PllDue (s : State) (die q k : Nat) (b : Bool) : Prop where
  locked : s.pllLocked die q b = true
  pll : s.lanePll die (4 * q + k) = b
  runs : s.quadRuns die q = true
  waits : (s.lane die (4 * q + k)).state = .off ∨ (s.lane die (4 * q + k)).faulted 2

theorem lanePllFound_self {q k : Nat} {b : Bool} (hk : k < 4) (h : PllDue s die q k b) : ((s.lanePllFound die (4 * q + k)).lane die (4 * q + k)).state = .cal := by
  obtain ⟨hl, hp, hr, hw⟩ := h
  have hq : (4 * q + k) / 4 = q := by omega
  unfold State.lanePllFound
  rw [if_pos, state_startLane, hq, hp, hl, hr]
  · rfl
  · rcases hw with hw | ⟨hw, hc⟩
    · rw [hw]
      rfl
    · rw [hw, hc]
      rfl

theorem lanePllFound_cal (h : (s.lane die l).state = .cal) : s.lanePllFound die l = s := by
  unfold State.lanePllFound
  rw [h]
  rfl

theorem pllLock_eq {q : Nat} {b : Bool} (h31 : s.bit (pllKey die q b) 31 = true)
    (hrate : rateListed (s.fld (pllKey die q b) 0 27) (s.bit (pllKey die q b) 27) (b && s.bit (pllKey die q b) 28) = true) (hruns : s.quadRuns die q = true)
    (href : s.bit (pllKey die q b) 28 = true ∨ s.refOk (7 + 4 * die + q) = true) :
    s.pllLock die q b = (s.pllUsers die q b).foldl (fun t l => t.lanePllFound die l) (s.setLocked die q b true) := by
  have h31' : wbit (s.rd (pllKey die q b)) 31 = true := h31
  unfold State.bit State.fld at hrate
  have href' : (!wbit (s.rd (pllKey die q b)) 28 && !s.refOk (7 + 4 * die + q)) = false := by
    rcases href with h | h
    · rw [show wbit (s.rd (pllKey die q b)) 28 = true from h]
      rfl
    · rw [h, Bool.not_true, Bool.and_false]
  unfold State.pllLock
  dsimp only
  rw [h31', hrate, hruns, if_neg (by decide), href', if_neg Bool.false_ne_true]
  rfl

theorem pllLock_locked (s : State) (die q : Nat) (b : Bool) (as : List Nat) : (as.foldl (fun t l => t.lanePllFound die l) (s.setLocked die q b true)).pllLocked die q b = true := by
  refine List.foldlRecOn _ _ (motive := fun t : State => t.pllLocked die q b = true) (pllLocked_setLocked ..) fun t ht l _ => ?_
  obtain ⟨m, hm⟩ := lanePllFound_frame t die l
  rw [hm]
  exact ht

theorem pllLock_lane {q k : Nat} {b : Bool} (hk : k < 4) (he : s.laneEn die (4 * q + k) = true) (hb : s.lanePll die (4 * q + k) = b) (hr : s.quadRuns die q = true)
    (hs : (s.lane die (4 * q + k)).state = .off ∨ (s.lane die (4 * q + k)).faulted 2) :
    (((s.pllUsers die q b).foldl (fun t l => t.lanePllFound die l) (s.setLocked die q b true)).lane die (4 * q + k)).state = .cal := by
  refine foldl_settles (pre := fun t : State => PllDue t die q k b) (post := fun t : State => (t.lane die (4 * q + k)).state = .cal) (fun t ht => lanePllFound_self hk ht)
    (fun t a ha ht => ?_) (fun t a ht => ?_) (mem_pllUsers hk he hb) ⟨pllLocked_setLocked .., hb, hr, hs⟩
  · obtain ⟨hl, hp, hr, hw⟩ := ht
    obtain ⟨m, hm⟩ := lanePllFound_frame t die a
    refine ⟨?_, ?_, ?_, by rw [lanePllFound_other ha]; exact hw⟩
    · rw [hm]
      exact hl
    · rw [hm]
      exact hp
    · rw [hm]
      exact hr
  · by_cases ha : a = 4 * q + k
    · rw [ha, lanePllFound_cal ht]
      exact ht
    · rw [lanePllFound_other ha]
      exact ht

theorem bit_lateArrival (s : State) (d u i k b : Nat) : (s.lateArrival d u i).bit k b = s.bit k b := rfl

theorem lane_late (s : State) (k b d u i die l : Nat) : ((s.flag k b).lateArrival d u i).lane die l = s.lane die l := rfl

/-- Settles O47: each event by its rule of the lane, a PLL's lock and unlock along the list of its lanes. -/
theorem lanesFollowTheirTable : Obligations.LanesFollowTheirTable := by
  unfold Obligations.LanesFollowTheirTable
  intro s r die q l x goes
  have hkey := single_XCVR_LCTL die die.isLt l l.isLt
  refine ⟨fun w ha ho he hw h0 => ?enable, fun h => ?cal, fun h => ⟨?lock, ?timeout, ?late⟩, fun h => ⟨fun eq => ?adapted, ?adaptFail⟩, fun h => ⟨?lost, fun hpcs => ⟨fun hb => ?block, fun hb => ?blockLost⟩⟩,
    fun h late => ⟨congrArg Host.Outcome.next (if_pos h), congrArg Host.Outcome.next (if_neg h)⟩, fun h => congrArg Host.Outcome.next (if_neg h), fun b => ?unlock, fun b h31 hrate hruns href => ?pllLock⟩
  case enable =>
    have hwrite : (s.touched r.code (Reg.XCVR_LCTL die l)).regWrite (Reg.XCVR_LCTL die l) r.code (w ||| 1) = s.lctlWrite die l w := by
      rw [or_one_of_set h0]
      exact (regWrite_xcvr s _ w (by omega) (by decide)).trans (xcvrWrite_lctl l.isLt ..)
    refine ⟨fun hok ha' hb hc hd => ⟨congrArg Host.Outcome.next (regAccess_wrote hkey ha (hwrite.trans (lctlWrite_enable ho he hw h0 hok ha' hb hc hd))), ?_⟩,
      fun hok => congrArg Host.Outcome.next (regAccess_refused hkey ha (hwrite.trans (lctlWrite_unfit ho he hw h0 hok)))⟩
    rw [state_startLane]
    unfold State.lanePll State.bit
    rw [rd_wr_self]
    rfl
  case cal => exact congrArg Host.Outcome.next (if_pos h)
  case lock => exact congrArg Host.Outcome.next (if_neg (not_not_intro h))
  case timeout => exact congrArg Host.Outcome.next (if_pos h)
  case late =>
    refine ⟨_, congrArg Host.Outcome.next (if_neg (not_not_intro h)), (bit_lateArrival ..).trans (bit_flag_self (by decide)), ?_⟩
    rw [if_pos rfl, lane_late, State.setLane_self]
    dsimp only
    split <;> decide
  case adapted => exact congrArg Host.Outcome.next (if_neg (not_not_intro h))
  case adaptFail => exact congrArg Host.Outcome.next (if_pos h)
  case lost =>
    refine ⟨_, congrArg Host.Outcome.next (if_neg (not_not_intro h)), ?_, bit_flagErr_self _ _ _ _ (by decide)⟩
    rw [lane_serial (serial_flagErr ..), (portsRetrain_only ..).lane, State.setLane_self]
  case block => exact congrArg Host.Outcome.next (if_neg (by simp [hpcs, show (s.lane die l).state = .ready from h, show (s.lane die l).blk = false from hb]))
  case blockLost => exact congrArg Host.Outcome.next (if_neg (by simp [hpcs, show (s.lane die l).state = .ready from h, show (s.lane die l).blk = true from hb]))
  case unlock => exact ⟨_, rfl, pllUnlock_locked .., fun k hk he hb hs => pllUnlock_lane hk he hb hs⟩
  case pllLock =>
    exact ⟨_, congrArg Host.Outcome.next (pllLock_eq h31 hrate hruns href), pllLock_locked .., fun k hk he hb hs => pllLock_lane hk he hb hruns hs⟩

end lanes

end Sys2Proof.Machine
end

section
/-!
PROOF. Commands and measurements of a transceiver lane (R385 to R391, R394).
-/
namespace Sys2Proof.Machine

section commands
variable {s t : State} {die l : Nat}

/-! ## Lane commands (R390, R391, R394) -/

theorem lcmdWrite_owned (ho : s.owned die l = true) (w : Word) : s.lcmdWrite die l w = (s, .refused) := if_pos ho

theorem lcmdWrite_recal (ho : s.owned die l = false) : s.lcmdWrite die l 1 = (s.recal die l, .ok) := by
  unfold State.lcmdWrite
  rw [ho]
  rfl

theorem lcmdWrite_clear (ho : s.owned die l = false) : s.lcmdWrite die l 4 = (s.prbsClear die l, .ok) := by
  unfold State.lcmdWrite
  rw [ho]
  rfl

theorem lcmdWrite_slip {u : State} (ho : s.owned die l = false) (h : s.slip die l = (u, .ok)) : s.lcmdWrite die l 2 = (u, .ok) := by
  unfold State.lcmdWrite
  rw [ho, if_neg Bool.false_ne_true, if_pos (by decide), h]
  rfl

theorem lcmdWrite_noSlip {u : State} (ho : s.owned die l = false) (h : s.slip die l = (u, .refused)) : s.lcmdWrite die l 2 = (s, .refused) := by
  unfold State.lcmdWrite
  rw [ho, if_neg Bool.false_ne_true, if_pos (by decide), h]
  rfl

theorem xcvrWrite_lcmd {l : Nat} (hl : l < 16) (key : Nat) (w : Word) : s.xcvrWrite die l 0x004 key w = s.lcmdWrite die l w := if_pos hl

theorem xcvrWrite_txeq {l : Nat} (hl : l < 16) (key : Nat) (w : Word) : s.xcvrWrite die l 0x00C key w = (s.txeqWrite die l w, .ok) := if_pos hl

theorem xcvrWrite_escan {l : Nat} (hl : l < 16) (key : Nat) (w : Word) : s.xcvrWrite die l 0x024 key w = s.eyeScan die l w := if_pos hl

/-! ## Loopback (R391) -/

/-- Whether a control word holds a reserved code. -/
def lctlReserved (w : Word) : Bool := wfld w 12 2 = 3 || 5 ≤ wfld w 15 3 || 6 ≤ wfld w 18 3 || 6 ≤ wfld w 21 3

/-- The control word taken, and a reserved code reported. -/
def State.lctlTaken (s : State) (die l : Nat) (w : Word) : State := if lctlReserved w then (s.wr (Reg.XCVR_LCTL die l) w).laneConfig die l else s.wr (Reg.XCVR_LCTL die l) w

theorem lctl_ne_lstat (die l : Nat) : Reg.XCVR_LCTL die l ≠ Reg.XCVR_LSTAT die l := by
  unfold Reg.XCVR_LCTL Reg.XCVR_LSTAT regKey
  omega

theorem lctlTaken_spec (s : State) (die l : Nat) (w : Word) :
    (s.lctlTaken die l w).rd (Reg.XCVR_LCTL die l) = w ∧ (s.lctlTaken die l w).serial = s.serial ∧ (lctlReserved w = true → (s.lctlTaken die l w).bit (Reg.XCVR_LSTAT die l) 13 = true) := by
  unfold State.lctlTaken
  split
  · refine ⟨?_, serial_flagErr .., fun _ => bit_flagErr_self _ _ _ _ (by decide)⟩
    exact ((rd_flagErr ..).trans (rd_wr_other (lctl_ne_lstat die l))).trans (rd_wr_self ..)
  · exact ⟨rd_wr_self .., rfl, fun h => absurd h (by assumption)⟩

/-- A new path takes a lane in READY back to ACQ. -/
theorem lctlWrite_path {v w : Word} (hw : BitVec.ofNat 32 (v.toNat % 2 ^ 24) = w) (ho : s.owned die l = false) (he : wbit (s.rd (Reg.XCVR_LCTL die l)) 0 = true)
    (hfix : lctlFixed w = lctlFixed (s.rd (Reg.XCVR_LCTL die l))) (h0 : wbit w 0 = true) (hx : (s.lane die l).state = .ready)
    (hl : loopback (s.rd (Reg.XCVR_LCTL die l)) ≠ loopback w) :
    s.lctlWrite die l v = ((s.lctlTaken die l w).setLane die l { (s.lctlTaken die l w).lane die l with state := .acq, blk := false }, .ok) := by
  have hready : ((s.lctlTaken die l w).lane die l).state = .ready := (congrArg Lane.state (lane_serial (lctlTaken_spec s die l w).2.1)).trans hx
  unfold State.lctlWrite
  dsimp only
  rw [hw, ho, he, h0, hfix, if_neg Bool.false_ne_true, if_neg (by simp), if_neg (by simp), if_neg (by decide), if_neg (by decide)]
  exact congrArg (·, Resp.ok) (if_pos ⟨hready, hl⟩)

/-- The control word with another path, as it is taken. -/
theorem pathWord (ctl : Word) (path : Fin 8) :
    let w := BitVec.ofNat 32 ((wset ctl 15 3 path).toNat % 2 ^ 24)
    wbit w 0 = wbit ctl 0 ∧ lctlFixed w = lctlFixed ctl ∧ wfld w 15 3 = path := by
  intro w
  have hbit : ∀ i < 24, wbit w i = if 15 ≤ i ∧ i < 18 then (path : Nat).testBit (i - 15) else wbit ctl i := by
    intro i hi
    rw [← wbit_wset (lo := 15) (n := 3) ctl path (by omega)]
    show (BitVec.ofNat 32 ((wset ctl 15 3 path).toNat % 2 ^ 24)).getLsbD i = _
    rw [BitVec.getLsbD_ofNat, Nat.testBit_mod_two_pow, decide_eq_true hi, decide_eq_true (by omega : i < 32), Bool.true_and, Bool.true_and]
    rfl
  refine ⟨hbit 0 (by decide), wfld_congr fun j hj => (hbit (1 + j) (by omega)).trans (if_neg (by omega)), Nat.eq_of_testBit_eq fun j => ?_⟩
  rw [testBit_wfld]
  by_cases hj : j < 3
  · rw [hbit (15 + j) (by omega), if_pos (by omega), Nat.add_sub_cancel_left, decide_eq_true hj, Bool.true_and]
  · have hlt : (path : Nat) < 2 ^ j := Nat.lt_of_lt_of_le path.isLt (Nat.pow_le_pow_right (n := 2) (by decide) (by omega : 3 ≤ j))
    rw [decide_eq_false hj, Bool.false_and, Nat.testBit_lt_two_pow hlt]

/-! ## Measurements (R387, R388) -/

theorem scanWord (w : Word) : wbit (w ||| 0x80000000) 31 = true ∧ (∀ i < 31, wbit (w ||| 0x80000000) i = wbit w i) := by
  refine ⟨by simp [wbit], fun i hi => ?_⟩
  have h : (0x80000000 : Word).getLsbD i = false := by
    revert hi i
    decide
  exact (BitVec.getLsbD_or ..).trans (by rw [h, Bool.or_false]; rfl)

theorem eyeScan_ready (w : Word) (ho : s.owned die l = false) (hx : (s.lane die l).state = .ready) :
    s.eyeScan die l (w ||| 0x80000000) = ((s.wr (Reg.XCVR_ESCAN die l) (BitVec.ofNat 32 ((w ||| 0x80000000).toNat % 2 ^ 18))).setLane die l { s.lane die l with scan := true }, .ok) := by
  unfold State.eyeScan
  rw [ho, hx, (scanWord w).1]
  rfl

theorem eyeScan_other (w : Word) (ho : s.owned die l = false) (hx : (s.lane die l).state ≠ .ready) : s.eyeScan die l (w ||| 0x80000000) = (s, .refused) := by
  unfold State.eyeScan
  rw [ho, (scanWord w).1, if_neg Bool.false_ne_true, if_pos (by simpa using hx)]

theorem scanField (w : Word) : wfld (BitVec.ofNat 32 ((w ||| 0x80000000).toNat % 2 ^ 18)) 0 18 = wfld w 0 18 := by
  refine wfld_congr fun j hj => ?_
  rw [Nat.zero_add, ← (scanWord w).2 j (by omega)]
  show (BitVec.ofNat 32 ((w ||| 0x80000000).toNat % 2 ^ 18)).getLsbD j = _
  rw [BitVec.getLsbD_ofNat, Nat.testBit_mod_two_pow, decide_eq_true hj, decide_eq_true (by omega : j < 32), Bool.true_and, Bool.true_and]
  rfl

theorem serial_count (s : State) (k n : Nat) : (s.count k n).serial = s.serial := rfl

/-- Settles O48: each command's write by its row of the lane's writes, each measurement by its rule. -/
theorem laneCommandsAct : Obligations.LaneCommandsAct := by
  unfold Obligations.LaneCommandsAct
  intro s r die l x ctl
  have hl := l.isLt
  have hcmd (w : Word) : (s.touched r.code (Reg.XCVR_LCMD die l)).regWrite (Reg.XCVR_LCMD die l) r.code w = s.lcmdWrite die l w :=
    (regWrite_xcvr s _ w (by omega) (by decide)).trans (xcvrWrite_lcmd hl ..)
  have hscan (w : Word) : (s.touched r.code (Reg.XCVR_ESCAN die l)).regWrite (Reg.XCVR_ESCAN die l) r.code (w ||| 0x80000000) = s.eyeScan die l (w ||| 0x80000000) :=
    (regWrite_xcvr s _ _ (by omega) (by decide)).trans (xcvrWrite_escan hl ..)
  have hlcmd := single_XCVR_LCMD die die.isLt l hl
  have hescan := single_XCVR_ESCAN die die.isLt l hl
  refine ⟨fun ha ho => ⟨fun hx => ?recal, fun hpcs hx => ?slip, fun hx => ?noSlip, ?clear⟩, fun ha ho => ⟨?recalOwned, ?slipOwned, ?clearOwned⟩, fun path ha ho he hx hpath => ?loopback,
    fun w ha => ?taps, fun w ha ho => ⟨fun hx => ?scan, fun hx => ?noScan⟩, fun errors hs => ?scanDone, fun efom eq errors hx => ?measured⟩
  case recal =>
    have hrecal : s.recal die l = (s.setLane die l { x with state := .cal, fault := 0, blk := false }).portsRetrain die l := if_neg hx
    exact congrArg Host.Outcome.next (regAccess_wrote hlcmd ha ((hcmd 1).trans ((lcmdWrite_recal ho).trans (congrArg (·, Resp.ok) hrecal))))
  case slip => exact congrArg Host.Outcome.next (regAccess_wrote hlcmd ha ((hcmd 2).trans (lcmdWrite_slip ho (if_neg (not_or.mpr ⟨not_not_intro hpcs, not_not_intro hx⟩)))))
  case noSlip => exact congrArg Host.Outcome.next (regAccess_refused hlcmd ha ((hcmd 2).trans (lcmdWrite_noSlip ho (if_pos hx))))
  case clear => exact congrArg Host.Outcome.next (regAccess_wrote hlcmd ha ((hcmd 4).trans (lcmdWrite_clear ho)))
  case recalOwned => exact congrArg Host.Outcome.next (regAccess_refused hlcmd ha ((hcmd 1).trans (lcmdWrite_owned ho 1)))
  case slipOwned => exact congrArg Host.Outcome.next (regAccess_refused hlcmd ha ((hcmd 2).trans (lcmdWrite_owned ho 2)))
  case clearOwned => exact congrArg Host.Outcome.next (regAccess_refused hlcmd ha ((hcmd 4).trans (lcmdWrite_owned ho 4)))
  case loopback =>
    obtain ⟨h0, hfix, hfld⟩ := pathWord ctl path
    obtain ⟨hrd, -, hbit⟩ := lctlTaken_spec s die l (BitVec.ofNat 32 ((wset ctl 15 3 path).toNat % 2 ^ 24))
    have hl' : loopback ctl ≠ loopback (BitVec.ofNat 32 ((wset ctl 15 3 path).toNat % 2 ^ 24)) := by
      unfold loopback at hpath ⊢
      rw [hfld]
      exact fun h => hpath (h.trans (apply_ite (fun n : Fin 8 => (n : Nat)) (5 ≤ (path : Nat)) 0 path).symm)
    refine ⟨_, congrArg Host.Outcome.next (regAccess_wrote (single_XCVR_LCTL die die.isLt l hl) ha ((regWrite_xcvr s _ _ (by omega) (by decide)).trans ((xcvrWrite_lctl hl ..).trans
      (lctlWrite_path rfl ho he hfix (h0.trans he) hx hl')))), congrArg Lane.state (State.setLane_self ..), (congrArg (wfld · 15 3) hrd).trans hfld, fun h5 => hbit ?_⟩
    unfold lctlReserved
    rw [hfld]
    simp [h5]
  case taps =>
    have hwrite : (s.touched r.code (Reg.XCVR_TXEQ die l)).regWrite (Reg.XCVR_TXEQ die l) r.code w = (s.txeqWrite die l w, .ok) :=
      (regWrite_xcvr s _ w (by omega) (by decide)).trans (xcvrWrite_txeq hl ..)
    have hkey := single_XCVR_TXEQ die die.isLt l hl
    refine ⟨fun hle => congrArg Host.Outcome.next (regAccess_wrote hkey ha (hwrite.trans (congrArg (·, Resp.ok) (if_neg (by omega))))),
      fun hlt => ⟨congrArg Host.Outcome.next (regAccess_wrote hkey ha (hwrite.trans (congrArg (·, Resp.ok) (if_pos hlt)))), ?_⟩⟩
    exact (rd_flagErr ..).trans (rd_wr_other (by unfold Reg.XCVR_TXEQ Reg.XCVR_LSTAT regKey; omega))
  case scan =>
    exact ⟨_, congrArg Host.Outcome.next (regAccess_wrote hescan ha ((hscan w).trans (eyeScan_ready w ho hx))), State.setLane_self .., (congrArg (wfld · 0 18) (rd_wr_self ..)).trans (scanField w)⟩
  case noScan => exact congrArg Host.Outcome.next (regAccess_refused hescan ha ((hscan w).trans (eyeScan_other w ho hx)))
  case scanDone => exact congrArg Host.Outcome.next (if_neg (by simp [show (s.lane die l).scan = true from hs]))
  case measured =>
    refine ⟨_, congrArg Host.Outcome.next (if_neg (not_not_intro hx)), ?_, fun h => ?_⟩
    · split
      · exact State.setLane_self ..
      · exact (lane_serial (serial_count ..)).trans (State.setLane_self ..)
    · rw [if_pos (.inl h)]
      rfl

end commands

end Sys2Proof.Machine
end

section
/-!
PROOF. Phase Link ports (R399 to R409).
-/
namespace Sys2Proof.Machine

/-! ## What the work of a LINK domain leaves alone -/

/-- The ports stay, and the domain count that port `p` reports. -/
structure DomWork (p : Nat) (s t : State) : Prop where
  ports : t.serial.ports = s.serial.ports
  nd : t.fld (Reg.PL_PSTAT p) 8 5 = s.fld (Reg.PL_PSTAT p) 8 5

section work
variable {p : Nat} {s t u : State}

theorem DomWork.rfl : DomWork p s s := ⟨Eq.refl _, Eq.refl _⟩

theorem DomWork.setDom (h : DomWork p s t) (i : Nat) (x : Dom) : DomWork p s (t.setDom i x) := ⟨h.ports, h.nd⟩

theorem DomWork.raise (h : DomWork p s t) (sev code die unit inst : Nat) (late : Bool) : DomWork p s (t.raise sev code die unit inst late) := ⟨h.ports, h.nd⟩

theorem DomWork.wr (h : DomWork p s t) {k : Nat} (w : Word) (hk : Reg.PL_PSTAT p ≠ k) : DomWork p s (t.wr k w) := ⟨h.ports, (congrArg (wfld · 8 5) (rd_wr_other hk)).trans h.nd⟩

theorem DomWork.flag (h : DomWork p s t) {k i : Nat} (hk : Reg.PL_PSTAT p ≠ k) : DomWork p s (t.flag k i) := h.wr _ hk

theorem DomWork.flagErr (h : DomWork p s t) {k i : Nat} (sev code : Nat) (hk : Reg.PL_PSTAT p ≠ k) : DomWork p s (t.flagErr k i sev code) :=
  ⟨(congrArg Serial.ports (serial_flagErr ..)).trans h.ports, (fld_congr (rd_flagErr ..) 8 5).trans (h.flag hk).nd⟩

/-- A flag below the count. -/
theorem DomWork.ownFlag (h : DomWork p s t) (q : Nat) {i : Nat} (hi : i < 8) : DomWork p s (t.flag (Reg.PL_PSTAT q) i) := by
  by_cases hq : Reg.PL_PSTAT p = Reg.PL_PSTAT q
  · refine ⟨h.ports, Eq.trans ?_ h.nd⟩
    rw [hq]
    exact fld_setBit_other _ _ _ (.inl hi)
  · exact h.flag hq

theorem DomWork.ownFlagErr (h : DomWork p s t) (q sev code : Nat) {i : Nat} (hi : i < 8) : DomWork p s (t.flagErr (Reg.PL_PSTAT q) i sev code) :=
  ⟨(congrArg Serial.ports (serial_flagErr ..)).trans h.ports, (fld_congr (rd_flagErr ..) 8 5).trans (h.ownFlag q hi).nd⟩

theorem DomWork.foldl {α : Type} {l : List α} {f : State → α → State} (h : DomWork p s t) (hf : ∀ u, ∀ a ∈ l, DomWork p s u → DomWork p s (f u a)) : DomWork p s (l.foldl f t) :=
  List.foldlRecOn l f (motive := DomWork p s) h fun u hu a ha => hf u a ha hu

theorem pstat_ne {p u i o : Nat} (h : u < 0x18) (hi : i < 4096) (ho : o < 4096) : Reg.PL_PSTAT p ≠ regKey 4 u i o := by
  unfold Reg.PL_PSTAT regKey
  omega

theorem DomWork.ite {c : Prop} [Decidable c] (ht : DomWork p s t) (hu : DomWork p s u) : DomWork p s (if c then t else u) := by
  split
  · exact ht
  · exact hu

theorem DomWork.domGo (h : DomWork p s t) {i : Nat} (hi : i < 16) (st : DomState) : DomWork p s (t.domGo i st) := by
  unfold State.domGo
  dsimp only
  split
  · exact h
  · exact (h.setDom ..).flag (pstat_ne (by decide) (by omega) (by decide))

theorem DomWork.linkLoss (h : DomWork p s t) {i : Nat} (hi : i < 16) : DomWork p s (t.linkLoss i) := by
  unfold State.linkLoss
  dsimp only
  split
  · split
    · exact (h.setDom ..).domGo hi _
    · exact ((h.setDom ..).setDom ..).domGo hi _
  · exact h.setDom ..

theorem DomWork.linkEnter (h : DomWork p s t) {i : Nat} (hi : i < 16) (d : Dom) : DomWork p s (t.linkEnter i d) := (h.setDom ..).domGo hi _

theorem DomWork.linkWord (h : DomWork p s t) {i : Nat} (hi : i < 16) (x v : DWord) (aligned : Bool) : DomWork p s (t.linkWord i x v aligned) := by
  have henter (d : Dom) (n : Nat) : DomWork p s (if 4 ≤ n then t.linkEnter i d else t.setDom i d) := .ite (h.linkEnter hi d) (h.setDom i d)
  have hlate (d : Dom) (n : Nat) (c : Bool) :
      DomWork p s (if 4 ≤ n then (if c then ((t.linkEnter i d).flag (Reg.DOM_STAT i) 8).lateArrival 4 0x03 i else t.linkEnter i d) else t.setDom i d) :=
    .ite (.ite (((h.linkEnter hi d).flag (pstat_ne (by decide) (by omega) (by decide))).raise ..) (h.linkEnter hi d)) (h.setDom i d)
  unfold State.linkWord
  dsimp only
  cases (t.dom i).state with
  | acquire => exact henter _ _
  | holdover => exact hlate _ _ _
  | stalled => exact hlate _ _ _
  | locked => exact h.setDom ..
  | off => exact h.setDom ..
  | frozen => exact h.setDom ..

theorem DomWork.linkMissing (h : DomWork p s t) {i : Nat} (hi : i < 16) : DomWork p s (t.linkMissing i) := by
  have hmiss : DomWork p s { t with serial := { t.serial with missing := t.serial.missing.set i (t.serial.missing.get i 0 + 1) 0 } } := ⟨h.ports, h.nd⟩
  unfold State.linkMissing
  dsimp only
  split
  · exact (hmiss.setDom ..).linkLoss hi
  · exact hmiss.setDom ..

theorem DomWork.linkTake (h : DomWork p s t) (q : Nat) {i : Nat} (hi : i < 16) (x v : DWord) : DomWork p s (t.linkTake q i x v) := by
  unfold State.linkTake
  split
  · exact (h.ownFlagErr q 3 _ (by decide)).linkMissing hi
  · exact DomWork.linkWord (t := { t with serial := { t.serial with missing := t.serial.missing.set i 0 0 } }) ⟨h.ports, h.nd⟩ hi ..

theorem follower_lt {i : Nat} (h : i ∈ s.followers) : i < 16 := List.mem_range.mp (List.mem_filter.mp h).1

theorem linksLost_work (s : State) (p : Nat) : DomWork p s s.linksLost := DomWork.rfl.foldl fun _ _ hi hu => hu.linkLoss (follower_lt hi)

end work

/-! ## Frames received (R402 to R407) -/

/-- Port `p` keeps its state, and the domain count it reports. -/
structure PortStill (p : Nat) (s t : State) : Prop where
  state : (t.port p).state = (s.port p).state
  nd : t.fld (Reg.PL_PSTAT p) 8 5 = s.fld (Reg.PL_PSTAT p) 8 5

section still
variable {p : Nat} {s t u : State}

theorem PortStill.rfl : PortStill p s s := ⟨Eq.refl _, Eq.refl _⟩

theorem PortStill.trans (h : PortStill p s t) (h' : PortStill p t u) : PortStill p s u := ⟨h'.state.trans h.state, h'.nd.trans h.nd⟩

theorem DomWork.still (h : DomWork p s t) : PortStill p s t := ⟨congrArg (fun m : SMap Port => (m.get p {}).state) h.ports, h.nd⟩

theorem port_setPort_self (s : State) (p : Nat) (x : Port) : (s.setPort p x).port p = x := SMap.get_set_self ..

theorem still_setPort {q : Nat} {x : Port} (hx : x.state = (s.port q).state) : PortStill p s (s.setPort q x) := by
  refine ⟨?_, Eq.refl _⟩
  by_cases hq : q = p
  · rw [hq] at hx ⊢
    exact (congrArg Port.state (port_setPort_self ..)).trans hx
  · exact congrArg Port.state (SMap.get_set_other (Ne.symm hq))

theorem still_setAlign (s : State) (p : Nat) (a : AlignState) : PortStill p s (s.setAlign a) := ⟨Eq.refl _, Eq.refl _⟩

theorem still_serial {r : Serial} (h : r.ports = s.serial.ports) : PortStill p s { s with serial := r } := ⟨congrArg (fun m : SMap Port => (m.get p {}).state) h, Eq.refl _⟩

theorem PortStill.ite {c : Prop} [Decidable c] (ht : PortStill p s t) (hu : PortStill p s u) : PortStill p s (if c then t else u) := by
  split
  · exact ht
  · exact hu

theorem gstat_ne (p : Nat) : Reg.PL_PSTAT p ≠ Reg.PL_GSTAT := by
  unfold Reg.PL_PSTAT Reg.PL_GSTAT regKey
  omega

theorem still_endLocking (s : State) (p : Nat) : PortStill p s s.endLocking := by
  unfold State.endLocking
  dsimp only
  split
  · exact still_setAlign ..
  split
  · exact (still_setAlign s p .aligning).trans (DomWork.rfl.flagErr 3 _ (gstat_ne p)).still
  · exact ⟨Eq.refl _, Eq.refl _⟩

theorem PortStill.endLocking (h : PortStill p s t) : PortStill p s t.endLocking := h.trans (still_endLocking t p)

theorem still_alignFrame (s : State) (p : Nat) (took : Bool) : PortStill p s (s.alignFrame took) := by
  have hstart (x : List (Int × Int)) (n : Nat) :
      PortStill p s { (s.setPort s.upstream { s.port s.upstream with exch := x }).setAlign .locking with
        serial := { ((s.setPort s.upstream { s.port s.upstream with exch := x }).setAlign .locking).serial with taken := n } } :=
    (still_setPort (q := s.upstream) (x := { s.port s.upstream with exch := x }) (Eq.refl _)).trans ⟨Eq.refl _, Eq.refl _⟩
  unfold State.alignFrame
  dsimp only
  cases s.serial.align with
  | free => exact hstart _ _
  | hold => exact hstart _ _
  | locking =>
    exact .ite (c := 16 ≤ _) (PortStill.endLocking (still_serial rfl)) (still_serial rfl)
  | aligning => exact .ite (c := 64 ≤ _) (still_setAlign ..) (still_serial rfl)
  | aligned => exact .ite (c := 16 ≤ _) (still_setAlign ..) (still_serial rfl)

theorem still_frameDomains (s : State) (p q : Nat) (f : Frame) : PortStill p s (s.frameDomains q f) := by
  refine PortStill.trans (DomWork.still (DomWork.rfl.foldl fun u i hi hu => ?_)) (still_setPort (Eq.refl _))
  have hlt := follower_lt hi
  dsimp only
  split
  · exact hu.linkTake q hlt _ _
  · exact hu.linkMissing hlt

theorem still_frameEvents (s : State) (p q : Nat) (f : Frame) : PortStill p s (s.frameEvents q f) := by
  refine DomWork.still (DomWork.rfl.foldl fun u e _ hu => ?_)
  split
  · exact hu
  split
  · exact hu.flag (gstat_ne p)
  · exact ⟨hu.ports, hu.nd⟩

theorem still_exchange (s : State) (p q : Nat) (f : Frame) (x : DWord) : PortStill p s (s.exchange q f x).1 := by
  unfold State.exchange
  dsimp only
  split
  · exact .rfl
  · exact still_setPort (Eq.refl _)

/-- The port with the frame it got, and what it reports. -/
def State.frameTaken (s : State) (p k : Nat) (f : Frame) : State :=
  ((((s.setPort p { s.port p with state := .up, got := some (f.seq, s.stamp k) }).setBit (Reg.PL_PSTAT p) 2 f.mst).setBit (Reg.PL_PSTAT p) 3 f.aln).setFld (Reg.PL_PSTAT p) 8 5 f.nd).setFld
    (Reg.PL_PSTAT p) 13 7 f.ne

theorem frameTaken_spec (s : State) (p k : Nat) (f : Frame) : ((s.frameTaken p k f).port p).state = .up ∧ (s.frameTaken p k f).fld (Reg.PL_PSTAT p) 8 5 = f.nd % 32 :=
  ⟨congrArg Port.state (port_setPort_self ..), (fld_setFld_other _ _ _ (by decide) (by decide)).trans (fld_setFld_self _ _ _ (by decide))⟩

/-- The upstream port of a follower, once the frame is taken. -/
def State.frameFollowed (s : State) (p : Nat) (f : Frame) (took : Bool) (ppm : Int) (late : Bool) : State :=
  let s := if late then (s.flag (Reg.PL_PSTAT p) 7).lateArrival 4 0x18 p else s
  let s := s.wr Reg.PL_FREQ ((BitVec.ofInt 16 ppm).setWidth 32)
  let s := { s with serial := { s.serial with freq := if s.freqBeyond ppm then s.serial.freq + 1 else 0 } }
  (s.alignFrame took).frameDomains p f

theorem still_frameFollowed (s : State) (p : Nat) (f : Frame) (took : Bool) (ppm : Int) (late : Bool) : PortStill p s (s.frameFollowed p f took ppm late) := by
  have hlate : DomWork p s (if late then (s.flag (Reg.PL_PSTAT p) 7).lateArrival 4 0x18 p else s) := .ite ((DomWork.rfl.ownFlag p (by decide)).raise ..) .rfl
  have hfreq := hlate.wr (k := Reg.PL_FREQ) ((BitVec.ofInt 16 ppm).setWidth 32) (by unfold Reg.PL_PSTAT Reg.PL_FREQ regKey; omega)
  unfold State.frameFollowed
  refine PortStill.trans (PortStill.trans hfreq.still (PortStill.trans ?_ (still_alignFrame _ p took))) (still_frameDomains ..)
  exact ⟨Eq.refl _, Eq.refl _⟩

theorem frameReceive_good {k : Nat} {f : Frame} {ppm : Int} {late : Bool} (he : s.portEn p = true) (hs : (s.port p).state ≠ .down) (hr : s.plRole ≠ 0) :
    s.frameReceive p k f true ppm late =
      (let x := ((s.frameTaken p k f).frameEvents p f).exchange p f (s.stamp k)
       if !x.1.isUpstream p then x.1 else x.1.frameFollowed p f x.2 ppm late) := by
  unfold State.frameReceive
  dsimp only
  rw [if_neg (by simp [he, hs, hr]), if_neg (by decide)]
  rfl

/-- A good frame leaves its port UP. -/
theorem frameReceive_up {k : Nat} {f : Frame} {ppm : Int} {late : Bool} (he : s.portEn p = true) (hs : (s.port p).state ≠ .down) (hr : s.plRole ≠ 0) :
    ((s.frameReceive p k f true ppm late).port p).state = .up ∧ (s.frameReceive p k f true ppm late).fld (Reg.PL_PSTAT p) 8 5 = f.nd % 32 := by
  have hstill : PortStill p (s.frameTaken p k f) (s.frameReceive p k f true ppm late) := by
    rw [frameReceive_good he hs hr]
    have hx := (still_frameEvents (s.frameTaken p k f) p p f).trans (still_exchange ((s.frameTaken p k f).frameEvents p f) p p f (s.stamp k))
    dsimp only
    split
    · exact hx
    · exact hx.trans (still_frameFollowed _ p ..)
  obtain ⟨hup, hnd⟩ := frameTaken_spec s p k f
  exact ⟨hstill.state.trans hup, hstill.nd.trans hnd⟩

/-! ## Frames sent (R400, R401) -/

/-- The port with its frame sent. -/
def State.frameSent (s : State) (p k : Nat) : State :=
  s.setPort p { s.port p with
    tx := (s.port p).tx.drop (s.fld (Reg.PL_PCTL p) 9 7)
    seq := (s.port p).seq + 1
    sent := (((s.port p).seq, s.stamp k) :: (s.port p).sent).take 256
    frame := some (s.buildFrame p (s.stamp k)) }

theorem frameTransmit_follower {k : Nat} (he : s.portEn p = true) (hs : (s.port p).state ≠ .down) (hr : s.plRole = 2) : s.frameTransmit p k = s.frameSent p k := by
  have hrole : (s.frameSent p k).plRole ≠ 1 := by
    show s.plRole ≠ 1
    rw [hr]
    decide
  unfold State.frameTransmit
  dsimp only
  rw [if_neg (by simp [he, hs, hr])]
  exact if_pos hrole

/-- A master's frame goes out, and the domains that follow it take its words (R58). -/
theorem frameTransmit_master {k : Nat} (he : s.portEn p = true) (hs : (s.port p).state ≠ .down) (hr : s.plRole = 1) (hx : (s.stamp k).toNat % 320 = 0) :
    DomWork p (s.frameSent p k) (s.frameTransmit p k) := by
  unfold State.frameTransmit
  dsimp only
  rw [if_neg (by simp [he, hs, hr, hx])]
  refine .ite .rfl (DomWork.rfl.foldl fun u i hi hu => ?_)
  exact .ite (hu.linkWord (List.mem_range.mp hi) ..) hu

theorem DomWork.port (h : DomWork p s t) : t.port p = s.port p := congrArg (fun m : SMap Port => m.get p {}) h.ports

end still

/-! ## Ports enabled and disabled (R399, R405) -/

section enable
variable {p : Nat} {s t : State} {w : Word}

/-- A lane as its port takes it: PLL B, divider 1, 64B66B, scrambler on, enabled. -/
def takenCtl (ctl : Word) : Word := wset (wset (wset (wset ctl 0 2 3) 2 3 0) 5 2 1) 7 1 1

theorem takenCtl_pll (ctl : Word) : wbit (takenCtl ctl) 1 = true := by
  unfold takenCtl
  rw [wbit_wset _ _ (by decide), if_neg (by decide), wbit_wset _ _ (by decide), if_neg (by decide), wbit_wset _ _ (by decide), if_neg (by decide), wbit_wset _ _ (by decide), if_pos (by decide)]
  decide

def State.portLane (s : State) (die k : Nat) : State :=
  ((s.wr (Reg.XCVR_LCTL die k) (takenCtl (s.rd (Reg.XCVR_LCTL die k)))).laneOff die k).startLane die k

/-- The lanes a control word takes. -/
def portLaneList (w : Word) : List Nat := if wbit w 7 then [wfld w 3 4, wfld w 3 4 + 1] else [wfld w 3 4]

theorem rd_portLane (s : State) (die l : Nat) (k : Nat) : (s.portLane die l).rd k = (s.wr (Reg.XCVR_LCTL die l) (takenCtl (s.rd (Reg.XCVR_LCTL die l)))).rd k := rfl

/-- The set-up of PLL B for a port, on the spine reference. -/
def portPllWord (w : Word) : Word := BitVec.ofNat 32 ((if wbit w 8 then 51562500 + 2 ^ 27 else 25781250) + 2 ^ 28 + 2 ^ 31)

theorem portPllWord_reference (w : Word) : wbit (portPllWord w) 28 = true := by
  unfold portPllWord
  cases wbit w 8 with
  | true => simp [wbit]
  | false => simp [wbit]

/-- PLL B of the quad, set up for the port unless it is enabled. -/
def State.portPll (s : State) (die q : Nat) (w : Word) : State :=
  if wbit (s.rd (pllKey die q true)) 31 then s else (s.wr (pllKey die q true) (portPllWord w)).setLocked die q true false

theorem bit_wr_setLocked (s : State) (k die q i : Nat) (b : Bool) (v : Word) : ((s.wr k v).setLocked die q b false).bit k i = wbit v i := congrArg (wbit · i) (rd_wr_self s k v)

theorem setLocked_keeps (s : State) (die q : Nat) (b v : Bool) : (s.setLocked die q b v).power = s.power ∧ (s.setLocked die q b v).dies = s.dies := ⟨rfl, rfl⟩

theorem portPll_spec (hok : s.portOk p w = true) :
    (s.portPll (wfld w 1 2) (wfld w 3 4 / 4) w).bit (pllKey (wfld w 1 2) (wfld w 3 4 / 4) true) 28 = true ∧
    (s.portPll (wfld w 1 2) (wfld w 3 4 / 4) w).power = s.power ∧ (s.portPll (wfld w 1 2) (wfld w 3 4 / 4) w).dies = s.dies := by
  unfold State.portPll
  split
  · rename_i h31
    refine ⟨?_, rfl, rfl⟩
    unfold State.portOk at hok
    dsimp only at hok
    rw [h31] at hok
    simp only [Bool.and_eq_true, Bool.not_eq_true', Bool.true_and, Bool.or_eq_false_iff, Bool.not_eq_false'] at hok
    exact hok.1.2.2
  · obtain ⟨hpower, hdies⟩ := setLocked_keeps (s.wr (pllKey (wfld w 1 2) (wfld w 3 4 / 4) true) (portPllWord w)) (wfld w 1 2) (wfld w 3 4 / 4) true false
    exact ⟨(bit_wr_setLocked ..).trans (portPllWord_reference w), hpower.trans (State.wr_power ..), hdies.trans (State.wr_dies ..)⟩

/-- The lanes taken: their PLL is B, and what else the port looks at stays. -/
structure LanesTaken (s t : State) (die : Nat) (ks : List Nat) : Prop where
  pll : ∀ k ∈ ks, t.lanePll die k = true
  others : ∀ k, (∀ j ∈ ks, k ≠ Reg.XCVR_LCTL die j) → t.rd k = s.rd k
  power : t.power = s.power
  dies : t.dies = s.dies

theorem LanesTaken.snoc {die j : Nat} {ks : List Nat} (h : LanesTaken s t die ks) : LanesTaken s (t.portLane die j) die (ks ++ [j]) := by
  obtain ⟨hpll, hothers, hpower, hdies⟩ := h
  refine ⟨fun k hk => ?_, fun k hk => ?_, hpower, hdies⟩
  · by_cases hj : k = j
    · rw [hj]
      unfold State.lanePll State.bit
      rw [rd_portLane, rd_wr_self]
      exact takenCtl_pll _
    · have hmem : k ∈ ks := by simpa [hj] using hk
      have hkeys : Reg.XCVR_LCTL die k ≠ Reg.XCVR_LCTL die j := by
        unfold Reg.XCVR_LCTL regKey
        omega
      exact (bit_congr ((rd_portLane t die j _).trans (rd_wr_other hkeys)) 1).trans (hpll k hmem)
  · exact ((rd_portLane t die j k).trans (rd_wr_other (hk j (by simp)))).trans (hothers k fun i hi => hk i (by simp [hi]))

theorem lanesTaken (s : State) (die : Nat) (w : Word) : LanesTaken s ((portLaneList w).foldl (fun t k => t.portLane die k) s) die (portLaneList w) := by
  have hnil : LanesTaken s s die [] := ⟨fun _ h => absurd h List.not_mem_nil, fun _ _ => rfl, rfl, rfl⟩
  unfold portLaneList
  split
  · have htwo := (hnil.snoc (j := wfld w 3 4)).snoc (j := wfld w 3 4 + 1)
    simpa only [List.foldl_cons, List.foldl_nil, List.nil_append, List.cons_append] using htwo
  · have hone := hnil.snoc (j := wfld w 3 4)
    simpa only [List.foldl_cons, List.foldl_nil, List.nil_append] using hone

theorem mem_portLaneList (w : Word) : wfld w 3 4 ∈ portLaneList w := by
  unfold portLaneList
  split <;> simp

/-- The port's lanes and PLL, before its own register. -/
def State.portLanesTaken (s : State) (w : Word) : State := (portLaneList w).foldl (fun t k => t.portLane (wfld w 1 2) k) (s.portPll (wfld w 1 2) (wfld w 3 4 / 4) w)

theorem portEnable_eq (hw : w.toNat < 2 ^ 16) (s : State) (p : Nat) : s.portEnable p w =
    (let t := (s.portLanesTaken w).wr (Reg.PL_PCTL p) w
     t.setPort p { t.port p with
       state := if !t.dieLost (wfld w 1 2) && t.quadRuns (wfld w 1 2) (wfld w 3 4 / 4) then .training else .down
       words := []
       got := none
       sent := []
       exch := [] }) := by
  unfold State.portEnable
  dsimp only
  rw [word_mod hw]
  rfl

theorem portEnable_spec (hp : p < 4) (hw : w.toNat < 2 ^ 16) (h0 : wbit w 0 = true) (hok : s.portOk p w = true) :
    (s.portEnable p w).rd (Reg.PL_PCTL p) = w ∧
    ((s.portEnable p w).port p).state = (if !s.dieLost (wfld w 1 2) && s.quadRuns (wfld w 1 2) (wfld w 3 4 / 4) then .training else .down) ∧
    (s.portEnable p w).owned (wfld w 1 2) (wfld w 3 4) = true ∧ (s.portEnable p w).lanePll (wfld w 1 2) (wfld w 3 4) = true ∧
    (s.portEnable p w).bit (pllKey (wfld w 1 2) (wfld w 3 4 / 4) true) 28 = true := by
  obtain ⟨hbit, hpower, hdies⟩ := portPll_spec hok
  obtain ⟨hpll, hothers, hpower', hdies'⟩ := lanesTaken (s.portPll (wfld w 1 2) (wfld w 3 4 / 4) w) (wfld w 1 2) w
  have hdie : wfld w 1 2 < 4 := Nat.mod_lt _ (by decide)
  have hlane : wfld w 3 4 < 16 := Nat.mod_lt _ (by decide)
  have hctl : (s.portEnable p w).rd (Reg.PL_PCTL p) = w := by
    rw [portEnable_eq hw]
    exact rd_wr_self ..
  have hrd : ∀ k, k ≠ Reg.PL_PCTL p → (s.portEnable p w).rd k = (s.portLanesTaken w).rd k := by
    intro k hk
    rw [portEnable_eq hw]
    exact rd_wr_other hk
  refine ⟨hctl, ?_, ?_, ?_, ?_⟩
  · have hlost : ((s.portLanesTaken w).wr (Reg.PL_PCTL p) w).dieLost (wfld w 1 2) = s.dieLost (wfld w 1 2) := by
      unfold State.dieLost State.dieState
      rw [State.wr_dies, State.portLanesTaken, hdies', hdies]
    have hruns : ((s.portLanesTaken w).wr (Reg.PL_PCTL p) w).quadRuns (wfld w 1 2) (wfld w 3 4 / 4) = s.quadRuns (wfld w 1 2) (wfld w 3 4 / 4) := by
      unfold State.quadRuns
      rw [State.wr_power, State.portLanesTaken, hpower', hpower]
    rw [portEnable_eq hw]
    dsimp only
    rw [port_setPort_self, hlost, hruns]
  · unfold State.owned State.ownedBut State.portLanes State.portEn State.bit State.fld
    refine List.any_eq_true.mpr ⟨p, List.mem_range.mpr hp, ?_⟩
    dsimp only
    rw [hctl, h0]
    simp [show p ≠ 4 by omega]
  · exact (bit_congr (hrd _ (by unfold Reg.XCVR_LCTL Reg.PL_PCTL regKey; omega)) 1).trans (hpll _ (mem_portLaneList w))
  · refine (bit_congr ((hrd _ ?_).trans (hothers _ fun j hj => ?_)) 28).trans hbit
    · unfold pllKey Reg.XCVR_QPLLB Reg.PL_PCTL regKey
      rw [if_pos rfl]
      omega
    · have hj16 : j ≤ 16 := by
        unfold portLaneList at hj
        split at hj
        · rcases List.mem_cons.mp hj with h | h
          · omega
          · have := List.mem_singleton.mp h
            omega
        · have := List.mem_singleton.mp hj
          omega
      unfold pllKey Reg.XCVR_QPLLB Reg.XCVR_LCTL regKey
      rw [if_pos rfl]
      omega

theorem ports_upstreamLost (s : State) : s.upstreamLost.serial.ports = s.serial.ports := by
  have hhold : (if s.plRole = 2 then s.setAlign .hold else s).serial.ports = s.serial.ports := by
    split
    · rfl
    · rfl
  unfold State.upstreamLost
  split
  · exact hhold
  · exact hhold
  · exact hhold
  · rfl

theorem portDisable_spec (s : State) (p : Nat) : ((s.portDisable p).port p).state = .down ∧ (s.portDisable p).portEn p = false := by
  have hdown : ((s.portDown p).port p).state = .down := by
    have hput := congrArg Port.state (port_setPort_self s p { s.port p with state := .down, words := [], got := none })
    unfold State.portDown
    dsimp only
    split
    · have hports := (ports_upstreamLost _).trans (linksLost_work (s.setPort p { s.port p with state := .down, words := [], got := none }) p).ports
      exact (congrArg (fun m : SMap Port => (m.get p {}).state) hports).trans hput
    · exact hput
  have hclear : ((s.portDown p).wr (Reg.PL_PCTL p) (wsetBit ((s.portDown p).rd (Reg.PL_PCTL p)) 0 false)).portEn p = false :=
    (congrArg (wbit · 0) (rd_wr_self ..)).trans (wbit_wsetBit_self _ _ (by decide))
  unfold State.portDisable
  dsimp only
  split
  · exact ⟨hdown, hclear⟩
  · exact ⟨hdown, hclear⟩

/-! ## Writes of a port's registers -/

theorem regWrite_plink (s : State) (req : Nat) (w : Word) {i o : Nat} (hi : i < 4096) (ho : o < 0xF00) :
    (s.touched req (regKey 4 0x18 i o)).regWrite (regKey 4 0x18 i o) req w = s.plinkWrite i o (regKey 4 0x18 i o) w := by
  have ho' : o < 4096 := by omega
  simp [State.touched, State.regWrite, keyUnit_regKey ho' hi, keyOff_regKey ho', keyInst_regKey ho' hi, show o ≠ 4088 by omega, show o ≠ 4092 by omega]

theorem plinkWrite_pctl (hp : p < 4) (key : Nat) (w : Word) : s.plinkWrite p 0 key w = s.pctlWrite p w := if_neg (by omega)

theorem plinkWrite_evtx (hp : p < 4) (key : Nat) (w : Word) : s.plinkWrite p 0x018 key w = (s.eventSend p (wfld w 0 16), .ok) := if_neg (by omega)

/-- A word that leaves the port enabled as it is, or disables it. -/
theorem disableWord (w : Word) : let v := BitVec.ofNat 32 ((wsetBit w 0 false).toNat % 2 ^ 16)
    wbit v 0 = false ∧ wfld v 1 15 = wfld w 1 15 := by
  intro v
  have hbit : ∀ i < 16, wbit v i = wbit (wsetBit w 0 false) i := by
    intro i hi
    show (BitVec.ofNat 32 ((wsetBit w 0 false).toNat % 2 ^ 16)).getLsbD i = _
    rw [BitVec.getLsbD_ofNat, Nat.testBit_mod_two_pow, decide_eq_true hi, decide_eq_true (by omega : i < 32), Bool.true_and, Bool.true_and]
    rfl
  exact ⟨(hbit 0 (by decide)).trans (wbit_wsetBit_self _ _ (by decide)), wfld_congr fun j hj => (hbit (1 + j) (by omega)).trans (wbit_wsetBit_other _ _ (by omega))⟩

theorem pctlWrite_enable (he : s.portEn p = false) (hw : w.toNat < 2 ^ 16) (h0 : wbit w 0 = true) :
    s.pctlWrite p w = if s.portOk p w then (s.portEnable p w, .ok) else (s.plConfig, .refused) := by
  have he' : wbit (s.rd (Reg.PL_PCTL p)) 0 = false := he
  unfold State.pctlWrite
  dsimp only
  rw [word_mod hw, he', h0]
  rfl

theorem pctlWrite_disable (he : s.portEn p = true) (w : Word) :
    s.pctlWrite p (wsetBit w 0 false) = if wfld w 1 15 = s.fld (Reg.PL_PCTL p) 1 15 then (s.portDisable p, .ok) else (s, .refused) := by
  have he' : wbit (s.rd (Reg.PL_PCTL p)) 0 = true := he
  obtain ⟨h0, hfld⟩ := disableWord w
  unfold State.pctlWrite
  dsimp only
  rw [he', h0, hfld]
  by_cases h : wfld w 1 15 = s.fld (Reg.PL_PCTL p) 1 15
  · rw [if_pos h, if_pos rfl, if_neg (by simpa [State.fld] using h)]
    rfl
  · rw [if_neg h, if_pos rfl, if_pos (by simpa [State.fld] using h)]

theorem messageWord (msg : BitVec 16) : wfld (msg.setWidth 32) 0 16 = msg.toNat := by
  have hlt := msg.isLt
  unfold wfld
  rw [BitVec.toNat_setWidth, Nat.pow_zero, Nat.div_one]
  omega

theorem effectRead_PL_EVRX0 (s : State) (req : Nat) : s.effectRead req Reg.PL_EVRX0 = ((s.eventHeadRead req).1, .ok, (s.eventHeadRead req).2) := by
  unfold State.effectRead
  rw [single_PL_EVRX0.2]
  rfl

theorem touched_PL_EVRX0 (s : State) (req : Nat) : s.touched req Reg.PL_EVRX0 = s := by
  simp [State.touched, Reg.PL_EVRX0, keyUnit_regKey]

end enable

/-- Settles O49: what a LINK domain's work leaves of a port, a frame taken and a frame sent, and a port's write by its rules. -/
theorem phaseLinkPortsAct : Obligations.PhaseLinkPortsAct := by
  unfold Obligations.PhaseLinkPortsAct
  intro s r p x
  have hp := p.isLt
  have hpctl (w : Word) : (s.touched r.code (Reg.PL_PCTL p)).regWrite (Reg.PL_PCTL p) r.code w = s.pctlWrite p w := (regWrite_plink s _ w (by omega) (by decide)).trans (plinkWrite_pctl hp ..)
  refine ⟨fun w ha he hw h0 => ?enable, fun w ha he => ?disable, fun k he hs => ⟨fun hr => ?follower, fun hr hx => ?master⟩, fun k f ppm late he hs hr => ⟨?good, fun hup => ?bad⟩,
    fun msg ha => ?message, fun hr ha => ?head, fun hr hal => ?upstream, fun hr hf => congrArg Host.Outcome.next (if_pos ⟨hr, hf⟩), fun hf => congrArg Host.Outcome.next (if_neg fun h => by omega)⟩
  case enable =>
    have hwrite : (s.touched r.code (Reg.PL_PCTL p)).regWrite (Reg.PL_PCTL p) r.code (w ||| 1) = if s.portOk p w then (s.portEnable p w, .ok) else (s.plConfig, .refused) := by
      rw [hpctl, or_one_of_set h0, pctlWrite_enable he hw h0]
    exact ⟨fun hok => ⟨_, congrArg Host.Outcome.next (regAccess_wrote (single_PL_PCTL p hp) ha (hwrite.trans (if_pos hok))), portEnable_spec hp hw h0 hok⟩,
      fun hok => congrArg Host.Outcome.next (regAccess_refused (single_PL_PCTL p hp) ha (hwrite.trans (if_neg (Bool.eq_false_iff.mp hok))))⟩
  case disable =>
    have hwrite := (hpctl (wsetBit w 0 false)).trans (pctlWrite_disable he w)
    exact ⟨fun hf => ⟨congrArg Host.Outcome.next (regAccess_wrote (single_PL_PCTL p hp) ha (hwrite.trans (if_pos hf))), portDisable_spec s p⟩,
      fun hf => congrArg Host.Outcome.next (regAccess_refused (single_PL_PCTL p hp) ha (hwrite.trans (if_neg hf)))⟩
  case follower => exact congrArg Host.Outcome.next (frameTransmit_follower he hs hr)
  case master =>
    have hport : (s.frameTransmit p k).port p = _ := (frameTransmit_master he hs hr hx).port.trans (port_setPort_self ..)
    exact ⟨_, rfl, congrArg Port.frame hport, congrArg Port.seq hport⟩
  case good => exact ⟨_, rfl, frameReceive_up he hs hr⟩
  case bad =>
    refine congrArg Host.Outcome.next ?_
    unfold State.frameReceive
    dsimp only
    rw [if_neg (by simp [he, show (s.port p).state ≠ .down from hs, hr]), if_pos (by decide)]
    have hup' : ((s.count (Reg.PL_CRCCNT p) 1).flagErr (Reg.PL_PSTAT p) 4 3 (errCode 13 4)).isUpstream p = false := by
      have hctl : ((s.count (Reg.PL_CRCCNT p) 1).flagErr (Reg.PL_PSTAT p) 4 3 (errCode 13 4)).rd Reg.PL_GCTL = s.rd Reg.PL_GCTL :=
        (rd_flagErr ..).trans ((rd_wr_other (by unfold Reg.PL_GCTL Reg.PL_PSTAT regKey; omega)).trans (rd_wr_other (by unfold Reg.PL_GCTL Reg.PL_CRCCNT regKey; omega)))
      rw [← hup]
      unfold State.isUpstream State.plRole State.upstream State.fld
      rw [hctl]
    rw [hup', if_neg Bool.false_ne_true]
  case message =>
    have hwrite : (s.touched r.code (Reg.PL_EVTX p)).regWrite (Reg.PL_EVTX p) r.code (msg.setWidth 32) = (s.eventSend p msg.toNat, .ok) :=
      (regWrite_plink s _ _ (by omega) (by decide)).trans ((plinkWrite_evtx hp ..).trans (by rw [messageWord]))
    have hmod : msg.toNat % 65536 = msg.toNat := Nat.mod_eq_of_lt msg.isLt
    refine ⟨fun hm hlt => ?_, fun hm hle => ?_⟩
    · refine congrArg Host.Outcome.next (regAccess_wrote (single_PL_EVTX p hp) ha (hwrite.trans (congrArg (·, Resp.ok) ?_)))
      unfold State.eventSend
      rw [hmod, if_neg hm]
      exact if_neg (Nat.not_le.mpr hlt)
    · refine congrArg Host.Outcome.next (regAccess_wrote (single_PL_EVTX p hp) ha (hwrite.trans (congrArg (·, Resp.ok) ?_)))
      unfold State.eventSend
      rw [hmod, if_neg hm]
      exact if_pos hle
  case head =>
    have hfetch := regFetch_effect single_PL_EVRX0.1 (touched_PL_EVRX0 s r.code) ha hr (effectRead_PL_EVRX0 s r.code)
    refine ⟨fun msg from_ dt rest hq => ⟨(s.eventHeadRead r.code).1, congrArg Host.Outcome.next (hfetch.trans (congrArg _ ?_)), rfl⟩,
      fun hq => ⟨(s.eventHeadRead r.code).1, congrArg Host.Outcome.next (hfetch.trans (congrArg _ ?_))⟩⟩
    · unfold State.eventHeadRead State.eventHead
      rw [hq]
      rfl
    · unfold State.eventHeadRead State.eventHead
      rw [hq]
      rfl
  case upstream =>
    refine congrArg Host.Outcome.next ?_
    unfold State.upstreamLost
    rcases hal with h | h | h
    · rw [h]
      exact if_pos hr
    · rw [h]
      exact if_pos hr
    · rw [h]
      exact if_pos hr


end Sys2Proof.Machine
end

section
/-!
PROOF. CLOCK_HOLD and the RESUME pin (R47, R415 to R425, R570).
-/
namespace Sys2Proof.Machine

/-- A device in deep sleep whose thermal trip is latched. -/
def trippedInSleep : State := { State.reset with power := { State.reset.power with deepSleep := true, trip := true } }

/-- After a thermal trip nothing wakes the device. -/
theorem deviceWake_tripped {s : State} (h : s.power.trip = true) : s.deviceWake = s := if_pos (by rw [h, Bool.or_true])

theorem resumePin_tripped : exec (.resumePin true) trippedInSleep = .next { trippedInSleep with clk := { trippedInSleep.clk with resume := true } } := by
  refine congrArg Host.Outcome.next ?_
  unfold State.resumePin
  dsimp only
  rw [if_neg (by decide), deviceWake_tripped (by rfl)]
  exact if_neg (by decide)

/-- Refutes O50: a device whose thermal trip is latched stays in deep sleep whatever RESUME does (R291), and the clause about RESUME in deep
sleep does not exclude a trip, as the one about a returned reference does. -/
theorem not_clockHoldBeginsAndEnds : ¬ Obligations.ClockHoldBeginsAndEnds := by
  intro h
  obtain ⟨-, -, -, -, -, -, -, -, -, -, -, -, -, hwake, -⟩ := h trippedInSleep .debugger 0 0
  obtain ⟨t, hexec, hawake, -⟩ := hwake rfl rfl
  have hsame := Host.Outcome.next.inj (resumePin_tripped.symm.trans hexec)
  rw [← hsame] at hawake
  exact absurd hawake (by decide)

end Sys2Proof.Machine
end

section
/-!
PROOF. Supplies of the I/O banks (R563, R565).
-/
namespace Sys2Proof.Machine

/-- A device with 1.8 V at bank 0 of die 0. -/
def bankSupplied : State := { State.reset with pins := { State.reset.pins with vccio := [(0, 1800)] } }

/-- Refutes O51: a bank that loses its VCCIO loses the voltage it was found at as well, so the clause about the loss of a supply, which changes
`vok` alone, fails for a bank that had one. -/
theorem not_resetsClearTheirScope : ¬ Obligations.ResetsClearTheirScope := by
  intro h
  obtain ⟨-, -, -, -, -, -, -, -, hsupply, -⟩ := h bankSupplied .debugger
  obtain ⟨hloss, -⟩ := hsupply 0 0
  have hvccio : ([] : SMap Nat) = [(0, 1800)] := congrArg (fun t : State => t.pins.vccio) (Host.Outcome.next.inj hloss)
  exact absurd hvccio (by decide)

end Sys2Proof.Machine
end

section
/-!
PROOF. What the operations on a Region change and leave alone (R240, R448, R465, R471 to R478).
-/
namespace Sys2Proof.Machine

/-! ## Operations that leave the live-change state alone -/

/-- The live-change state stays, and every register but the dispatcher's count of dropped requests. -/
structure LiveKept (die rg : Nat) (s t : State) : Prop where
  live : t.live = s.live
  rd : ∀ k, k ≠ Reg.FDSP_DROP die rg → t.rd k = s.rd k

section kept
variable {die rg : Nat} {s t u : State}

theorem LiveKept.rfl : LiveKept die rg s s := ⟨Eq.refl _, fun _ _ => Eq.refl _⟩

theorem LiveKept.trans (h : LiveKept die rg s t) (h' : LiveKept die rg t u) : LiveKept die rg s u := ⟨h'.live.trans h.live, fun k hk => (h'.rd k hk).trans (h.rd k hk)⟩

theorem LiveKept.ite {c : Prop} [Decidable c] (ht : LiveKept die rg s t) (hu : LiveKept die rg s u) : LiveKept die rg s (if c then t else u) := by
  split
  · exact ht
  · exact hu

theorem LiveKept.foldl {α : Type} {l : List α} {f : State → α → State} (h : LiveKept die rg s t) (hf : ∀ u a, LiveKept die rg s u → LiveKept die rg s (f u a)) : LiveKept die rg s (l.foldl f t) :=
  List.foldlRecOn l f (motive := LiveKept die rg s) h fun u hu a _ => hf u a hu

theorem LiveKept.setFacet (h : LiveKept die rg s t) (d p : Nat) (f : Facet) : LiveKept die rg s (t.setFacet d p f) := ⟨h.live, h.rd⟩

theorem LiveKept.setFabric (h : LiveKept die rg s t) (f : Fabric → Fabric) : LiveKept die rg s (t.setFabric f) := ⟨h.live, h.rd⟩

theorem LiveKept.raise (h : LiveKept die rg s t) (sev code d unit inst : Nat) (late : Bool) : LiveKept die rg s (t.raise sev code d unit inst late) := ⟨h.live, h.rd⟩

theorem LiveKept.stopFacets (h : LiveKept die rg s t) (d r : Nat) (reset : Bool) : LiveKept die rg s (t.stopFacets d r reset) := h.foldl fun _ _ hu => hu.setFacet ..

theorem LiveKept.emptyReady (h : LiveKept die rg s t) : LiveKept die rg s (t.emptyReady die rg) := ⟨h.live, fun k hk => (rd_wr_other hk).trans (h.rd k hk)⟩

theorem LiveKept.takeDown (h : LiveKept die rg s t) : LiveKept die rg s (t.takeDown die rg) := (h.stopFacets die rg true).emptyReady

theorem LiveKept.facetRest (h : LiveKept die rg s t) (d p : Nat) (f : Facet) : LiveKept die rg s (t.facetRest d p f) := .ite (h.setFacet ..) (.ite (h.setFacet ..) (h.setFacet ..))

theorem LiveKept.restartFacets (h : LiveKept die rg s t) (d r : Nat) : LiveKept die rg s (t.restartFacets d r) := .ite h (h.foldl fun _ _ hu => .ite (hu.facetRest ..) hu)

theorem LiveKept.initialise (h : LiveKept die rg s t) (d r : Nat) : LiveKept die rg s (t.initialise d r) := h.setFabric _

theorem LiveKept.releaseInitial (h : LiveKept die rg s t) (d r : Nat) : LiveKept die rg s (t.releaseInitial d r) := h.setFabric _

theorem LiveKept.zeroRegion (h : LiveKept die rg s t) (d r : Nat) : LiveKept die rg s (t.zeroRegion d r) := by
  unfold State.zeroRegion
  exact ((h.foldl fun _ _ hu => hu.setFacet ..).setFabric _).initialise ..

theorem LiveKept.facetImage8 (h : LiveKept die rg s t) (d off : Nat) (b : List Byte) : LiveKept die rg s (t.facetImage8 d off b) :=
  .ite h (.ite (h.setFacet ..) (.ite (h.setFacet ..) (.ite (h.setFacet ..) h)))

theorem LiveKept.facetImage (h : LiveKept die rg s t) (d off : Nat) (data : List Byte) : LiveKept die rg s (t.facetImage d off data) := h.foldl fun _ _ hu => hu.facetImage8 ..

theorem LiveKept.loadSegment (h : LiveKept die rg s t) (d r : Nat) (g : Segment) : LiveKept die rg s (t.loadSegment d r g) := by
  unfold State.loadSegment
  split
  · exact h.facetImage ..
  · exact h.setFabric _
  · exact h

/-- An admitted job takes its units. -/
theorem takeUnits_admitted {kind n : Nat} (h : n ≤ s.power.jobs.get (8 * kind + die) 0) :
    s.takeUnits kind die n = (s.setPower (fun p => { p with jobs := p.jobs.set (8 * kind + die) (s.power.jobs.get (8 * kind + die) 0 - n) 0 }), true) := if_pos h

theorem region_live (h : t.live = s.live) (d r : Nat) : t.region d r = s.region d r := congrArg (fun v : Live => v.regions.get (d * 16 + r) {}) h

theorem portJobs_live (h : t.live = s.live) (d : Nat) : t.portJobs d = s.portJobs d := congrArg (fun v : Live => v.ports.get d []) h

theorem portJobs_setPortJobs (s : State) (d : Nat) (l : List PortJob) : (s.setPortJobs d l).portJobs d = l := SMap.get_set_self s.live.ports d l []

/-! ## Facets of a Region -/

theorem stopFacets_stopped (s : State) (die rg : Nat) (reset : Bool) {k : Nat} (hk : k < 17) : ((s.stopFacets die rg reset).facet die (17 * rg + k)).state = .stopped := by
  refine foldl_settles (pre := fun _ : State => True) (post := fun t : State => (t.facet die (17 * rg + k)).state = .stopped) (fun t _ => ?_) (fun _ _ _ _ => trivial) (fun t a ht => ?_)
    (List.mem_range.mpr hk) trivial
  · rw [facet_setFacet]
  · by_cases ha : a = k
    · rw [ha, facet_setFacet]
    · rw [facet_setFacet_other _ (by omega)]
      exact ht

theorem facet_emptyReady (s : State) (die rg d p : Nat) : (s.emptyReady die rg).facet d p = s.facet d p := rfl

theorem takeDown_stopped (s : State) (die rg : Nat) {k : Nat} (hk : k < 17) : ((s.takeDown die rg).facet die (17 * rg + k)).state = .stopped := by
  unfold State.takeDown
  rw [facet_emptyReady]
  exact stopFacets_stopped s die rg true hk

theorem facet_setFabric (s : State) (f : Fabric → Fabric) (d p : Nat) : (s.setFabric f).facet d p = s.facet d p := rfl

theorem zeroRegion_prog (s : State) (die rg : Nat) {k : Nat} (hk : k < 17) : ((s.zeroRegion die rg).facet die (17 * rg + k)).prog = [] := by
  unfold State.zeroRegion State.initialise
  dsimp only
  rw [facet_setFabric, facet_setFabric]
  refine foldl_settles (pre := fun _ : State => True) (post := fun t : State => (t.facet die (17 * rg + k)).prog = []) (fun t _ => ?_) (fun _ _ _ _ => trivial) (fun t a ht => ?_)
    (List.mem_range.mpr hk) trivial
  · rw [facet_setFacet]
  · by_cases ha : a = k
    · rw [ha, facet_setFacet]
    · rw [facet_setFacet_other _ (by omega)]
      exact ht

/-! ## Loads begin (R475, R478) -/

/-- The taking down that a load of an ACTIVE Region begins with. -/
def State.loadCleared (s : State) (die rg : Nat) : State := if (s.region die rg).state = .active then s.takeDown die rg else s

theorem loadCleared_kept (s : State) (die rg : Nat) : LiveKept die rg s (s.loadCleared die rg) := .ite LiveKept.rfl.takeDown .rfl

/-- The waiting repairs of the Region discarded; only the lists change. -/
theorem dropRepairs_frame (s : State) (die rg : Nat) : ∃ m, s.dropRepairs die rg = { s with live := { s.live with scrub := m } } := by
  refine List.foldlRecOn _ _ (motive := fun t : State => ∃ m, t = { s with live := { s.live with scrub := m } }) ⟨_, rfl⟩ fun t ht n _ => ?_
  obtain ⟨m, rfl⟩ := ht
  exact ⟨_, rfl⟩

/-- A Region as a load of it begins. -/
structure LoadBegun (s t : State) (die rg : Nat) (entry : Option Nat) (st : RegionState) : Prop where
  region : t.region die rg = { s.region die rg with state := st, load := entry, runs := false }
  port : t.portJobs die = s.portJobs die ++ [.load rg]
  lib : t.libValid die rg = false
  facets : (s.region die rg).state = .active → ∀ k < 17, (t.facet die (17 * rg + k)).state = .stopped

theorem startLoad_begun (s : State) (die rg : Nat) (entry : Option Nat) (st : RegionState) : LoadBegun s (s.startLoad die rg entry st) die rg entry st := by
  have hkept := loadCleared_kept s die rg
  obtain ⟨m, hm⟩ := dropRepairs_frame (s.loadCleared die rg) die rg
  have hdown : (s.region die rg).state = .active → ∀ k < 17, ((s.loadCleared die rg).facet die (17 * rg + k)).state = .stopped := by
    intro ha k hk
    unfold State.loadCleared
    rw [if_pos ha]
    exact takeDown_stopped s die rg hk
  have hstart : s.startLoad die rg entry st =
      (let t := (((s.loadCleared die rg).dropRepairs die rg).setBit (libKey die rg) 31 false).setBit (libKey die rg) 30 true
       let u := t.setRegion die rg { t.region die rg with state := st, load := entry, runs := false }
       u.setPortJobs die (u.portJobs die ++ [.load rg])) := rfl
  rw [hstart, hm]
  refine ⟨?_, ?_, ?_, hdown⟩
  · refine (State.setRegion_self ..).trans ?_
    exact congrArg (fun r : Region => { r with state := st, load := entry, runs := false }) (region_live hkept.live die rg)
  · exact (portJobs_setPortJobs ..).trans (congrArg (· ++ [PortJob.load rg]) (portJobs_live hkept.live die))
  · exact (bit_setBit_other _ _ true (by decide)).trans (bit_setBit_self _ _ false (by decide))

/-! ## Loads end (R465, R475, R477) -/

/-- The content of a load written, for a load that writes it: what the Region knows of it stays, and the reference CRC is the load's. -/
theorem writeLoad_spec (s : State) (die rg : Nat) (segs : List Segment) (crc : Nat) :
    (s.writeLoad die rg segs crc).live = { s.live with loads := s.live.loads + 1 } ∧ (s.writeLoad die rg segs crc).rd (Reg.CFGF_RGCRC die rg) = BitVec.ofNat 32 crc ∧
    ∀ k, k ≠ Reg.FDSP_DROP die rg → k ≠ Reg.CFGF_RGCRC die rg → (s.writeLoad die rg segs crc).rd k = s.rd k := by
  have hsegs : LiveKept die rg s (segs.foldl (fun t g => t.loadSegment die rg g) s) := LiveKept.rfl.foldl fun _ _ hu => hu.loadSegment ..
  refine ⟨?_, rd_wr_self .., fun k hd hk => (rd_wr_other hk).trans (hsegs.rd k hd)⟩
  exact congrArg (fun v : Live => { v with loads := v.loads + 1 }) hsegs.live

/-- A load that failed. -/
structure LoadFailed (t : State) (die rg code : Nat) : Prop where
  region : (t.region die rg).state = .failed
  code : t.fld (Reg.CFGF_STAT die) 6 4 = code % 16
  port : PortJob.load rg ∉ t.portJobs die

theorem cfg_ne_drop {die rg d o : Nat} (hr : rg < 4096) (ho : o < 4096) : regKey d 0x0E 0 o ≠ Reg.FDSP_DROP die rg := by
  unfold Reg.FDSP_DROP regKey
  omega

theorem live_flagErr (s : State) (k i sev code : Nat) : (s.flagErr k i sev code).live = s.live := by
  unfold State.flagErr
  dsimp only
  split <;> rfl

/-- The failure as the controller reports it. -/
def State.failReported (s : State) (die rg code : Nat) : State :=
  ((s.setFld (Reg.CFGF_STAT die) 2 4 rg).setFld (Reg.CFGF_STAT die) 6 4 code).flagErr (Reg.CFGF_STAT die) 10 (match code with | 2 => 4 | 4 => 4 | 5 => 5 | _ => 3) (errCode 16 code)

theorem failReported_code (s : State) (die rg code : Nat) : (s.failReported die rg code).fld (Reg.CFGF_STAT die) 6 4 = code % 16 :=
  (fld_congr (rd_flagErr ..) 6 4).trans ((fld_setBit_other _ _ true (.inr (by decide))).trans (fld_setFld_self _ _ _ (by decide)))

/-- A Region given up: off the port, zeroed, FAILED. -/
def State.regionGivenUp (s : State) (die rg : Nat) : State :=
  let t := s.setPortJobs die ((s.portJobs die).filter (· != PortJob.load rg))
  (t.zeroRegion die rg).setRegion die rg { (t.region die rg) with state := .failed, load := none, runs := false }

theorem loadFailed_eq (s : State) (die rg code : Nat) : s.loadFailed die rg code = (s.failReported die rg code).regionGivenUp die rg := rfl

theorem portJobs_setRegion (s : State) (die rg : Nat) (x : Region) : (s.setRegion die rg x).portJobs die = s.portJobs die := rfl

theorem rd_setRegion (s : State) (die rg : Nat) (x : Region) (k : Nat) : (s.setRegion die rg x).rd k = s.rd k := rfl

theorem facet_setRegion (s : State) (die rg : Nat) (x : Region) (d p : Nat) : (s.setRegion die rg x).facet d p = s.facet d p := rfl

theorem regionGivenUp_spec (s : State) (die rg : Nat) :
    (s.regionGivenUp die rg).region die rg = { s.region die rg with state := .failed, load := none, runs := false } ∧
    (∀ k, k ≠ Reg.FDSP_DROP die rg → (s.regionGivenUp die rg).rd k = s.rd k) ∧ PortJob.load rg ∉ (s.regionGivenUp die rg).portJobs die ∧
    ∀ k < 17, ((s.regionGivenUp die rg).facet die (17 * rg + k)).prog = [] := by
  have hzero := LiveKept.zeroRegion (die := die) (rg := rg) (t := s.setPortJobs die ((s.portJobs die).filter (· != PortJob.load rg))) .rfl die rg
  unfold State.regionGivenUp
  refine ⟨State.setRegion_self .., fun k hk => ?_, ?_, fun k hk => ?_⟩
  · rw [rd_setRegion, hzero.rd k hk]
    rfl
  · rw [portJobs_setRegion, portJobs_live hzero.live, portJobs_setPortJobs]
    simp
  · rw [facet_setRegion]
    exact zeroRegion_prog _ die rg hk

theorem loadFailed_spec (s : State) {die rg : Nat} (hr : rg < 4096) (code : Nat) : LoadFailed (s.loadFailed die rg code) die rg code := by
  obtain ⟨hregion, hrd, hport, -⟩ := regionGivenUp_spec (s.failReported die rg code) die rg
  rw [loadFailed_eq]
  exact ⟨congrArg Region.state hregion, (fld_congr (hrd _ (cfg_ne_drop hr (by decide))) 6 4).trans (failReported_code ..), hport⟩

end kept

end Sys2Proof.Machine
end

section
/-!
PROOF. Live change of a Region (R471 to R477, R485, R486).
-/
namespace Sys2Proof.Machine

section live
variable {s t : State} {die rg : Nat}

theorem regWrite_cfg (s : State) (req : Nat) (w : Word) {d i o : Nat} (hi : i < 4096) (ho : o < 0xF00) :
    (s.touched req (regKey d 0x0E i o)).regWrite (regKey d 0x0E i o) req w = s.cfgWrite d i o (regKey d 0x0E i o) req w := by
  have ho' : o < 4096 := by omega
  have hd' : keyDie (regKey d 0x0E i o) = d := keyDie_regKey ho' hi (by decide)
  simp [State.touched, State.regWrite, keyUnit_regKey ho' hi, keyOff_regKey ho', keyInst_regKey ho' hi, hd', show o ≠ 4088 by omega, show o ≠ 4092 by omega]

theorem cfgWrite_command (hd : die < 4) (key req : Nat) (w : Word) : s.cfgWrite die 0 0x000 key req w = s.cfgCmdWrite die w := if_neg (by omega)

theorem cfgWrite_facetTest (hd : die < 4) (key req : Nat) (w : Word) : s.cfgWrite die 0 0x020 key req w = s.facetTest die w := if_neg (by omega)

theorem regionWord_fields : ∀ op < 6, ∀ r < 16, ∀ src timed : Bool, wfld (regionWord op r src timed) 0 3 = op ∧ wbit (regionWord op r src timed) 3 = src ∧
    wbit (regionWord op r src timed) 4 = timed ∧ wfld (regionWord op r src timed) 8 4 = r := by
  decide

/-! ## Commands (R471, R474, R485) -/

section command
variable (hr : rg < 16)
include hr

theorem cfgCmdWrite_load (up : Bool) : s.cfgCmdWrite die (regionWord 1 rg up false) = s.loadRegion die rg up := by
  obtain ⟨hop, hsrc, -, hrg⟩ := regionWord_fields 1 (by decide) rg hr up false
  unfold State.cfgCmdWrite
  rw [hop, hrg, hsrc]
  rfl

theorem cfgCmdWrite_release (timed : Bool) : s.cfgCmdWrite die (regionWord 2 rg false timed) = s.regionCommand die rg true timed := by
  obtain ⟨hop, -, htimed, hrg⟩ := regionWord_fields 2 (by decide) rg hr false timed
  unfold State.cfgCmdWrite
  rw [hop, hrg, htimed]
  rfl

theorem cfgCmdWrite_offline (timed : Bool) : s.cfgCmdWrite die (regionWord 3 rg false timed) = s.regionCommand die rg false timed := by
  obtain ⟨hop, -, htimed, hrg⟩ := regionWord_fields 3 (by decide) rg hr false timed
  unfold State.cfgCmdWrite
  rw [hop, hrg, htimed]
  rfl

theorem cfgCmdWrite_selftest : s.cfgCmdWrite die (regionWord 4 rg false false) = s.selftestRegion die rg := by
  obtain ⟨hop, -, -, hrg⟩ := regionWord_fields 4 (by decide) rg hr false false
  unfold State.cfgCmdWrite
  rw [hop, hrg]
  rfl

theorem cfgCmdWrite_abort : s.cfgCmdWrite die (regionWord 5 rg false false) = s.abortRegion die rg := by
  obtain ⟨hop, -, -, hrg⟩ := regionWord_fields 5 (by decide) rg hr false false
  unfold State.cfgCmdWrite
  rw [hop, hrg]
  rfl

end command

theorem loadRegion_starts {up : Bool} (hb : ¬((s.region die rg).state = .loading ∨ (s.region die rg).state = .selftest))
    (hf : up = true ∨ s.entryFits (s.fld (Reg.CFGF_ENTRY die) 0 8) die rg false = true) :
    s.loadRegion die rg up = (s.startLoad die rg (if up then none else some (s.fld (Reg.CFGF_ENTRY die) 0 8)) .loading, .ok) := by
  unfold State.loadRegion
  dsimp only
  rw [if_neg hb]
  refine if_neg ?_
  rcases hf with hf | hf
  · rw [hf]
    exact Bool.false_ne_true
  · rw [hf, Bool.not_true, Bool.and_false]
    exact Bool.false_ne_true

theorem regionCommand_release (hv : (s.region die rg).state = .loaded ∨ (s.region die rg).state = .offline) (ht : (s.region die rg).timed = false) :
    s.regionCommand die rg true false = (s.setRegion die rg { s.region die rg with cmd := some (true, none) }, .ok) := by
  have hvalid : ((s.region die rg).state == .loaded || (s.region die rg).state == .offline) = true := by
    rcases hv with h | h <;> rw [h] <;> rfl
  unfold State.regionCommand
  dsimp only
  rw [if_pos rfl, hvalid, ht]
  rfl

theorem regionCommand_offline (hv : (s.region die rg).state = .active ∨ (s.region die rg).state = .loaded) (ht : (s.region die rg).timed = false) :
    s.regionCommand die rg false false = ((s.setBit (libKey die rg) 30 true).setRegion die rg { s.region die rg with cmd := some (false, none) }, .ok) := by
  have hvalid : ((s.region die rg).state == .active || (s.region die rg).state == .loaded) = true := by
    rcases hv with h | h <;> rw [h] <;> rfl
  unfold State.regionCommand
  dsimp only
  rw [if_neg Bool.false_ne_true, hvalid, ht]
  rfl

theorem regionCommand_second (hv : (s.region die rg).state = .loaded ∨ (s.region die rg).state = .offline) (ht : (s.region die rg).timed = true) :
    s.regionCommand die rg true true = (s, .refused) := by
  have hvalid : ((s.region die rg).state == .loaded || (s.region die rg).state == .offline) = true := by
    rcases hv with h | h <;> rw [h] <;> rfl
  unfold State.regionCommand
  dsimp only
  rw [if_pos rfl, hvalid, ht]
  rfl

/-- An untimed command goes before a timed one, which is kept (R474). -/
theorem regionCommand_before {c : Bool × Option DWord} (hv : (s.region die rg).state = .loaded ∨ (s.region die rg).state = .offline) (hc : (s.region die rg).cmd = some c)
    (hat : c.2 ≠ none) (hk : (s.region die rg).kept = none) :
    s.regionCommand die rg true false = (s.setRegion die rg { s.region die rg with cmd := some (true, none), kept := some c }, .ok) := by
  obtain ⟨release, x⟩ := c
  cases x with
  | none => exact absurd rfl hat
  | some dt =>
    have hvalid : ((s.region die rg).state == .loaded || (s.region die rg).state == .offline) = true := by
      rcases hv with h | h <;> rw [h] <;> rfl
    have ht : (s.region die rg).timed = true := by
      unfold Region.timed
      rw [hc]
      rfl
    unfold State.regionCommand
    dsimp only
    rw [if_pos rfl, hvalid, ht, hk, hc]
    rfl

theorem regionCommand_invalid (timed : Bool) (h1 : (s.region die rg).state ≠ .loaded) (h2 : (s.region die rg).state ≠ .offline) : s.regionCommand die rg true timed = (s, .refused) := by
  have hvalid : ((s.region die rg).state == .loaded || (s.region die rg).state == .offline) = false := by simp [h1, h2]
  unfold State.regionCommand
  dsimp only
  rw [if_pos rfl, hvalid]
  rfl

theorem abortRegion_eq (hb : (s.region die rg).state = .loading ∨ (s.region die rg).state = .selftest) : s.abortRegion die rg = (s.regionGivenUp die rg, .ok) := if_pos hb

/-! ## Commands that act (R474, R475) -/

/-- The Region with its command taken. -/
def Region.taken (x : Region) : Region := { x with cmd := x.kept, kept := none }

/-- A LOADED Region released, before its fabric and its Facets start. -/
def State.regionActive (s : State) (die rg : Nat) : State :=
  ((s.setRegion die rg (s.region die rg).taken).setRegion die rg { (s.region die rg).taken with state := .active, runs := false }).setBit (libKey die rg) 30 false

theorem applyRegion_release {at_ : Option DWord} (hc : (s.region die rg).cmd = some (true, at_)) (hs : (s.region die rg).state = .loaded) :
    s.applyRegion die rg =
      (if (s.regionActive die rg).isolated die rg then s.regionActive die rg else (s.regionActive die rg).releaseInitial die rg).restartFacets die rg := by
  have hoff : (s.region die rg).state ≠ .offline := by
    rw [hs]
    decide
  unfold State.applyRegion
  dsimp only
  rw [hc]
  dsimp only
  rw [if_pos rfl, if_pos (.inl hs), if_neg (c := (s.region die rg).state = .offline) hoff]
  rfl

theorem applyRegion_offline {at_ : Option DWord} (hc : (s.region die rg).cmd = some (false, at_)) (hs : (s.region die rg).state = .active) :
    s.applyRegion die rg = ((s.setRegion die rg (s.region die rg).taken).takeDown die rg).setRegion die rg { (s.region die rg).taken with state := .offline } := by
  unfold State.applyRegion
  dsimp only
  rw [hc]
  dsimp only
  rw [if_neg Bool.false_ne_true, if_pos (.inl hs), if_pos hs]
  rfl

theorem regionDue_of {release : Bool} {at_ : Option DWord} (hc : (s.region die rg).cmd = some (release, at_)) (hat : ∀ dt, at_ = some dt → dt ≤ s.nextEnd) :
    s.regionDue (s.region die rg) = true := by
  unfold State.regionDue
  rw [hc]
  cases at_ with
  | none => rfl
  | some dt => exact decide_eq_true (hat dt rfl)

/-! ## Loads from the user port (R475, R477) -/

/-- The units of a load taken. -/
def State.loadAdmitted (s : State) (die units : Nat) : State := s.setPower (fun p => { p with jobs := p.jobs.set (8 * 1 + die) (s.power.jobs.get (8 * 1 + die) 0 - units) 0 })

/-- A good load kept: content, port, record. -/
def State.loadKept (s : State) (die rg : Nat) (e : LoadEnd) : State :=
  let t := s.writeLoad die rg e.segs e.crc
  let u := t.setPortJobs die ((t.portJobs die).drop 1)
  let v := u.setRegion die rg { s.region die rg with state := .loaded, entry := 0, load := none }
  if v.userMode then v.bzLog 0 (16 * die + rg) e.hash else v

theorem loadComplete_user {e : LoadEnd} {rest : List PortJob} (hp : s.portJobs die = .load rg :: rest) (hs : (s.region die rg).state = .loading) (hl : (s.region die rg).load = none)
    (hu : (segBytes e.segs + 4095) / 4096 ≤ s.power.jobs.get (8 + die) 0) (hlost : s.dieLost die = false) :
    s.loadComplete die rg e =
      (let t := s.loadAdmitted die ((segBytes e.segs + 4095) / 4096)
       if e.code ≠ 0 ∧ e.code ≠ 4 then t.loadFailed die rg e.code
       else if !(e.cls == regionClass rg && (e.reloc || e.home == 16 * die + rg)) then t.loadFailed die rg 1
       else if e.crc ≠ e.want then t.loadFailed die rg 4
       else t.loadKept die rg e) := by
  have hrec : s.reconfiguring die rg = true := by
    unfold State.reconfiguring
    rw [hs]
    rfl
  unfold State.loadComplete
  dsimp only
  rw [if_neg (by rw [hlost, hp, hrec]; simp), hl]
  dsimp only [Option.map_none]
  have htake : s.takeUnits 1 die ((segBytes e.segs + 4095) / 4096) = (s.loadAdmitted die ((segBytes e.segs + 4095) / 4096), true) := if_pos hu
  simp only [htake, Bool.not_true, Bool.false_eq_true, if_false, Option.isNone_none, true_and, hs, Option.getD_none, reduceCtorEq]
  rfl

theorem bzLog_keeps (s : State) (kind index hash : Nat) : (s.bzLog kind index hash).live = s.live ∧ ∀ k, (s.bzLog kind index hash).rd k = s.rd k := ⟨rfl, fun _ => rfl⟩

theorem rd_setPortJobs (s : State) (d : Nat) (l : List PortJob) (k : Nat) : (s.setPortJobs d l).rd k = s.rd k := rfl

theorem loadKept_spec {rest : List PortJob} (s : State) (hp : s.portJobs die = PortJob.load rg :: rest) (e : LoadEnd) :
    (s.loadKept die rg e).region die rg = { s.region die rg with state := .loaded, entry := 0, load := none } ∧ (s.loadKept die rg e).portJobs die = rest ∧
    (s.loadKept die rg e).rd (Reg.CFGF_RGCRC die rg) = BitVec.ofNat 32 e.crc := by
  obtain ⟨hlive, hcrc, -⟩ := writeLoad_spec s die rg e.segs e.crc
  have hjobs : (s.writeLoad die rg e.segs e.crc).portJobs die = PortJob.load rg :: rest := (congrArg (fun v : Live => v.ports.get die []) hlive).trans hp
  unfold State.loadKept
  dsimp only
  generalize s.writeLoad die rg e.segs e.crc = w at hcrc hjobs
  rw [hjobs]
  generalize hv : (w.setPortJobs die _).setRegion die rg _ = v
  have hkept : v.region die rg = { s.region die rg with state := .loaded, entry := 0, load := none } ∧ v.portJobs die = rest ∧ v.rd (Reg.CFGF_RGCRC die rg) = BitVec.ofNat 32 e.crc := by
    rw [← hv]
    exact ⟨State.setRegion_self .., by rw [portJobs_setRegion, portJobs_setPortJobs]; rfl, by rw [rd_setRegion, rd_setPortJobs]; exact hcrc⟩
  split
  · obtain ⟨hregion, hport, hrd⟩ := hkept
    obtain ⟨hlog, hlogrd⟩ := bzLog_keeps v 0 (16 * die + rg) e.hash
    exact ⟨(region_live hlog die rg).trans hregion, (portJobs_live hlog die).trans hport, (hlogrd _).trans hrd⟩
  · exact hkept

/-! ## Tests (R485, R486) -/

/-- The result word of a self-test. -/
def resultWord (sig rg : Nat) (pass : Bool) : Word := BitVec.ofNat 32 (sig % 2 ^ 24 + rg * 2 ^ 24 + b2n pass * 2 ^ 28 + 2 ^ 31)

theorem resultWord_fields (sig : Nat) {rg : Nat} (hr : rg < 16) (pass : Bool) :
    wfld (resultWord sig rg pass) 0 24 = sig % 2 ^ 24 ∧ wbit (resultWord sig rg pass) 28 = pass ∧ wbit (resultWord sig rg pass) 31 = true := by
  have hsig : sig % 2 ^ 24 < 2 ^ 24 := Nat.mod_lt _ (by decide)
  have hpass : b2n pass < 2 := by cases pass <;> decide
  have hnat : (resultWord sig rg pass).toNat = sig % 2 ^ 24 + rg * 2 ^ 24 + b2n pass * 2 ^ 28 + 2 ^ 31 := by
    unfold resultWord
    rw [BitVec.toNat_ofNat]
    omega
  refine ⟨?_, ?_, ?_⟩
  · unfold wfld
    rw [hnat]
    omega
  · unfold wbit BitVec.getLsbD
    rw [hnat, Nat.testBit_eq_decide_div_mod_eq]
    cases pass with
    | true => exact decide_eq_true (by rw [show b2n true = 1 from rfl]; omega)
    | false => exact decide_eq_false (by rw [show b2n false = 0 from rfl]; omega)
  · unfold wbit BitVec.getLsbD
    rw [hnat, Nat.testBit_eq_decide_div_mod_eq]
    exact decide_eq_true (by omega)

theorem selftestResult_spec {sig us : Nat} {pass : Bool} (hs : (s.region die rg).state = .selftest) (hrun : (s.region die rg).runs = true)
    (hu : us ≤ s.power.jobs.get (40 + die) 0) :
    let t := s.selftestResult die rg sig us pass
    t.region die rg = { s.region die rg with state := .offline, runs := false } ∧ t.rd (Reg.CFGF_STRES die) = resultWord sig rg pass := by
  intro t
  have ht : t = (if pass then (s.setPower (fun p => { p with jobs := p.jobs.set (8 * 5 + die) (s.power.jobs.get (8 * 5 + die) 0 - us) 0 })).wr (Reg.CFGF_STRES die) (resultWord sig rg pass)
      else ((s.setPower (fun p => { p with jobs := p.jobs.set (8 * 5 + die) (s.power.jobs.get (8 * 5 + die) 0 - us) 0 })).wr (Reg.CFGF_STRES die) (resultWord sig rg pass)).raise 4 (errCode 16 6) die 0x0E 0).setRegion
      die rg { s.region die rg with state := .offline, runs := false } := by
    have htake : s.takeUnits 5 die us = (s.setPower (fun p => { p with jobs := p.jobs.set (8 * 5 + die) (s.power.jobs.get (8 * 5 + die) 0 - us) 0 }), true) := if_pos hu
    show s.selftestResult die rg sig us pass = _
    unfold State.selftestResult
    dsimp only
    rw [if_neg (by simp [hs, hrun]), htake]
    rfl
  rw [ht]
  generalize resultWord sig rg pass = v
  refine ⟨State.setRegion_self .., ?_⟩
  rw [rd_setRegion]
  split
  · exact rd_wr_self ..
  · exact rd_wr_self ..

theorem bit_setRegion (s : State) (die rg : Nat) (x : Region) (k i : Nat) : (s.setRegion die rg x).bit k i = s.bit k i := rfl

theorem fld_setRegion (s : State) (die rg : Nat) (x : Region) (k lo n : Nat) : (s.setRegion die rg x).fld k lo n = s.fld k lo n := rfl

/-- A Region whose self-test gave no result in time, as the result register names it. -/
theorem testTimedOut_spec (s : State) (k d : Nat) (hr : rg < 16) (x : Region) :
    let t := ((s.setBit k 29 true).setFld k 24 4 rg).setRegion d rg x
    t.region d rg = x ∧ t.bit k 29 = true ∧ t.fld k 24 4 = rg := by
  refine ⟨State.setRegion_self .., ?_, ?_⟩
  · rw [bit_setRegion, bit_setFld_other _ _ _ (by decide) (by decide)]
    exact bit_setBit_self _ _ true (by decide)
  · rw [fld_setRegion, fld_setFld_self _ _ _ (by decide)]
    exact Nat.mod_eq_of_lt hr

theorem facetTestWord (p : Fin 512) : wbit (BitVec.ofNat 32 (p + 0x80000000)) 31 = true ∧ wfld (BitVec.ofNat 32 (p + 0x80000000)) 0 9 = p := by
  have hp := p.isLt
  have hnat : (BitVec.ofNat 32 ((p : Nat) + 0x80000000)).toNat = p + 0x80000000 := by
    rw [BitVec.toNat_ofNat]
    omega
  refine ⟨?_, ?_⟩
  · unfold wbit BitVec.getLsbD
    rw [hnat, Nat.testBit_eq_decide_div_mod_eq]
    exact decide_eq_true (by omega)
  · unfold wfld
    rw [hnat]
    omega

/-- The outcome word of a Facet test. -/
theorem outcomeWord {p : Nat} (hp : p < 512) (pass : Bool) :
    wbit (BitVec.ofNat 32 (p + b2n (!pass) * 2 ^ 29 + 2 ^ 30)) 31 = false ∧ wbit (BitVec.ofNat 32 (p + b2n (!pass) * 2 ^ 29 + 2 ^ 30)) 29 = !pass := by
  have hpass : b2n (!pass) < 2 := by cases pass <;> decide
  have hnat : (BitVec.ofNat 32 (p + b2n (!pass) * 2 ^ 29 + 2 ^ 30)).toNat = p + b2n (!pass) * 2 ^ 29 + 2 ^ 30 := by
    rw [BitVec.toNat_ofNat]
    omega
  refine ⟨?_, ?_⟩
  · unfold wbit BitVec.getLsbD
    rw [hnat, Nat.testBit_eq_decide_div_mod_eq]
    exact decide_eq_false (by omega)
  · unfold wbit BitVec.getLsbD
    rw [hnat, Nat.testBit_eq_decide_div_mod_eq]
    cases pass with
    | true => exact decide_eq_false (by rw [show b2n (!true) = 0 from rfl]; omega)
    | false => exact decide_eq_true (by rw [show b2n (!false) = 1 from rfl]; omega)

/-- A Facet as a test leaves it. -/
def Facet.tested (f : Facet) (pass : Bool) : Facet := { f with prog := [], bankA := [], bankB := [], badProg := [], badData := [], broken := !pass }

/-- A Facet tested, with the outcome in the register. -/
def State.facetTested (s : State) (die p : Nat) (pass : Bool) (w : Word) : State :=
  let t := (s.setFacet die p ((s.facet die p).tested pass)).wr (Reg.CFGF_FTEST die) w
  if pass then t else t.raise 4 (errCode 16 7) die 0x0E 0

theorem facetTested_spec (s : State) (die p : Nat) (pass : Bool) (w : Word) :
    (s.facetTested die p pass w).rd (Reg.CFGF_FTEST die) = w ∧ (s.facetTested die p pass w).facet die p = (s.facet die p).tested pass := by
  unfold State.facetTested
  dsimp only
  split
  · exact ⟨rd_wr_self .., facet_setFacet ..⟩
  · exact ⟨rd_wr_self .., facet_setFacet ..⟩

theorem facetTestDone_eq {pass : Bool} (hb : s.bit (Reg.CFGF_FTEST die) 31 = true) (hu : 40 ≤ s.power.jobs.get (40 + die) 0) :
    ∃ u : State, s.facetTestDone die pass = u.facetTested die (s.fld (Reg.CFGF_FTEST die) 0 9) pass (BitVec.ofNat 32 (s.fld (Reg.CFGF_FTEST die) 0 9 + b2n (!pass) * 2 ^ 29 + 2 ^ 30)) := by
  have htake : s.takeUnits 5 die 40 = (s.setPower (fun q => { q with jobs := q.jobs.set (8 * 5 + die) (s.power.jobs.get (8 * 5 + die) 0 - 40) 0 }), true) := if_pos hu
  refine ⟨s.setPower (fun q => { q with jobs := q.jobs.set (8 * 5 + die) (s.power.jobs.get (8 * 5 + die) 0 - 40) 0 }), ?_⟩
  unfold State.facetTestDone
  dsimp only
  rw [hb, if_neg (by decide), htake]
  rfl

/-- Settles O53: each command by the rule of its word, each end by what the load, the give-up or the test leaves. -/
theorem regionsChangeLive : Obligations.RegionsChangeLive := by
  unfold Obligations.RegionsChangeLive
  intro s r die rg x n cmd busy
  have hdie := die.isLt
  have hrg := rg.isLt
  have hkey := single_CFGF_CMD die hdie
  have hword (w : Word) : (s.touched r.code cmd).regWrite cmd r.code w = s.cfgCmdWrite die w := (regWrite_cfg s _ w (by decide) (by decide)).trans (cfgWrite_command hdie ..)
  refine ⟨fun ha => ⟨fun up => ⟨fun hb => ?loadBusy, fun hb hf => ?load⟩, fun hv ht => ?release, fun hv ht => ?second, fun c hv hc hat hk => ?before, fun h1 h2 timed => ?invalid,
      fun hv ht => ?offline, fun hs hf => ?selftest, fun hs => ?noSelftest, fun hb => ?abort, fun hb => ?noAbort⟩,
    fun at_ hat => ⟨fun hc hs => ?released, fun hc hs => ?offlined⟩,
    ?loadEnd,
    fun rest hp hl => ?userPort, fun sig us pass hs hrun hu => ?result, fun hs => ?selftestTimeout, fun p ha => ?facetTest, fun pass hb hu => ?facetTestDone⟩
  case loadBusy => exact congrArg Host.Outcome.next (regAccess_refused hkey ha ((hword _).trans ((cfgCmdWrite_load hrg up).trans (if_pos hb))))
  case load =>
    obtain ⟨hregion, hport, hlib, hfacets⟩ := startLoad_begun s die rg (if up then none else some n) .loading
    exact ⟨_, congrArg Host.Outcome.next (regAccess_wrote hkey ha ((hword _).trans ((cfgCmdWrite_load hrg up).trans (loadRegion_starts hb hf)))), hregion, hport, hlib, hfacets⟩
  case release => exact congrArg Host.Outcome.next (regAccess_wrote hkey ha ((hword _).trans ((cfgCmdWrite_release hrg false).trans (regionCommand_release hv ht))))
  case second => exact congrArg Host.Outcome.next (regAccess_refused hkey ha ((hword _).trans ((cfgCmdWrite_release hrg true).trans (regionCommand_second hv ht))))
  case before => exact congrArg Host.Outcome.next (regAccess_wrote hkey ha ((hword _).trans ((cfgCmdWrite_release hrg false).trans (regionCommand_before hv hc hat hk))))
  case invalid => exact congrArg Host.Outcome.next (regAccess_refused hkey ha ((hword _).trans ((cfgCmdWrite_release hrg timed).trans (regionCommand_invalid timed h1 h2))))
  case offline => exact congrArg Host.Outcome.next (regAccess_wrote hkey ha ((hword _).trans ((cfgCmdWrite_offline hrg false).trans (regionCommand_offline hv ht))))
  case selftest =>
    have hstart : s.selftestRegion die rg = (s.startLoad die rg (some n) .selftest, .ok) := if_neg (by rw [hf]; simpa using hs)
    exact ⟨_, congrArg Host.Outcome.next (regAccess_wrote hkey ha ((hword _).trans ((cfgCmdWrite_selftest hrg).trans hstart))), (startLoad_begun s die rg (some n) .selftest).region⟩
  case noSelftest => exact congrArg Host.Outcome.next (regAccess_refused hkey ha ((hword _).trans ((cfgCmdWrite_selftest hrg).trans (if_pos (.inl hs)))))
  case abort =>
    obtain ⟨hregion, -, hport, hprog⟩ := regionGivenUp_spec s die rg
    exact ⟨_, congrArg Host.Outcome.next (regAccess_wrote hkey ha ((hword _).trans ((cfgCmdWrite_abort hrg).trans (abortRegion_eq hb)))), hregion, hport, hprog⟩
  case noAbort => exact congrArg Host.Outcome.next (regAccess_refused hkey ha ((hword _).trans ((cfgCmdWrite_abort hrg).trans (if_neg hb))))
  case released =>
    have hkept : LiveKept die rg (s.regionActive die rg) (s.applyRegion die rg) := by
      rw [applyRegion_release hc hs]
      exact (LiveKept.ite .rfl (LiveKept.rfl.releaseInitial ..)).restartFacets ..
    refine ⟨_, congrArg Host.Outcome.next (if_pos (regionDue_of hc hat)), (region_live hkept.live die rg).trans (State.setRegion_self ..), ?_⟩
    exact (bit_congr (hkept.rd _ (cfg_ne_drop (by omega) (by omega))) 30).trans (bit_setBit_self _ _ false (by decide))
  case offlined =>
    refine ⟨((s.setRegion die rg x.taken).takeDown die rg).setRegion die rg { x.taken with state := .offline },
      congrArg Host.Outcome.next ((if_pos (regionDue_of hc hat)).trans (applyRegion_offline hc hs)), State.setRegion_self .., fun k hk => ?_⟩
    rw [facet_setRegion]
    exact takeDown_stopped _ die rg hk
  case loadEnd =>
    intro e rest hp hs hl hu hlost fits
    refine ⟨fun hcode hfits hcrc => ?loaded, fun hcode hfits => ?unfit, fun hcode hfits hcrc => ?badCrc⟩
    case loaded =>
      obtain ⟨hclass, hhome⟩ := hfits
      have hcond : (e.cls == regionClass rg && (e.reloc || e.home == 16 * die + rg)) = true := by simpa [hclass] using hhome
      refine ⟨(s.loadAdmitted die ((segBytes e.segs + 4095) / 4096)).loadKept die rg e, congrArg Host.Outcome.next ((loadComplete_user hp hs hl hu hlost).trans ?_),
        loadKept_spec (s.loadAdmitted die ((segBytes e.segs + 4095) / 4096)) hp e⟩
      dsimp only
      rw [if_neg (by simp [hcode]), hcond, if_neg (by decide), if_neg (not_not_intro hcrc)]
    case unfit =>
      have hcond : (e.cls == regionClass rg && (e.reloc || e.home == 16 * die + rg)) = false := by
        refine Bool.eq_false_iff.mpr fun h => hfits ?_
        simpa using h
      obtain ⟨hregion, hcode', -⟩ := loadFailed_spec (s.loadAdmitted die ((segBytes e.segs + 4095) / 4096)) (die := die) (rg := rg) (by omega) 1
      refine ⟨_, congrArg Host.Outcome.next ((loadComplete_user hp hs hl hu hlost).trans ?_), hregion, hcode'⟩
      dsimp only
      rw [if_neg (fun h => hcode.elim h.1 h.2), hcond]
      rfl
    case badCrc =>
      obtain ⟨hclass, hhome⟩ := hfits
      have hcond : (e.cls == regionClass rg && (e.reloc || e.home == 16 * die + rg)) = true := by simpa [hclass] using hhome
      obtain ⟨hregion, hcode', hport⟩ := loadFailed_spec (s.loadAdmitted die ((segBytes e.segs + 4095) / 4096)) (die := die) (rg := rg) (by omega) 4
      refine ⟨_, congrArg Host.Outcome.next ((loadComplete_user hp hs hl hu hlost).trans ?_), hregion, hcode', hport⟩
      dsimp only
      rw [if_neg (fun h => hcode.elim h.1 h.2), hcond, if_neg (by decide), if_pos hcrc]
  case userPort =>
    obtain ⟨hregion, hcode, -⟩ := loadFailed_spec s (die := die) (rg := rg) (by omega) 3
    have htimeout (arrived : Bool) : s.userPortTimeout die arrived = if arrived then (s.flag (Reg.CFGF_STAT die) 12).lateArrival die 0x0E 0 else s.loadFailed die rg 3 := by
      unfold State.userPortTimeout
      rw [hp]
      exact if_neg (by rw [show (s.region die rg).load = none from hl]; decide)
    exact ⟨congrArg Host.Outcome.next (htimeout true), _, congrArg Host.Outcome.next (htimeout false), hregion, hcode⟩
  case result =>
    obtain ⟨hregion, hrd⟩ := selftestResult_spec (sig := sig) (pass := pass) hs hrun hu
    obtain ⟨hsig, hpass, hvalid⟩ := resultWord_fields sig hrg pass
    exact ⟨_, rfl, hregion, (congrArg (wfld · 0 24) hrd).trans hsig, (congrArg (wbit · 28) hrd).trans hpass, (congrArg (wbit · 31) hrd).trans hvalid⟩
  case selftestTimeout =>
    exact ⟨_, congrArg Host.Outcome.next (if_neg (not_not_intro hs)), testTimedOut_spec _ _ _ hrg _⟩
  case facetTest =>
    obtain ⟨h31, hp⟩ := facetTestWord p
    have hwrite : (s.touched r.code (Reg.CFGF_FTEST die)).regWrite (Reg.CFGF_FTEST die) r.code (BitVec.ofNat 32 (p + 0x80000000)) = s.facetTest die (BitVec.ofNat 32 (p + 0x80000000)) :=
      (regWrite_cfg s _ _ (by decide) (by decide)).trans (cfgWrite_facetTest hdie ..)
    refine ⟨fun hlt hb hs hlog => congrArg Host.Outcome.next (regAccess_wrote (single_CFGF_FTEST die hdie) ha (hwrite.trans ?_)),
      fun hc => congrArg Host.Outcome.next (regAccess_refused (single_CFGF_FTEST die hdie) ha (hwrite.trans ?_))⟩
    · unfold State.facetTest
      dsimp only
      rw [hb, if_neg Bool.false_ne_true, h31, if_neg (by decide), hp, if_neg (by simp [hs, hlog]; omega)]
    · unfold State.facetTest
      dsimp only
      rw [h31, hp, if_neg (c := (!true) = true) (by decide)]
      split
      · rfl
      · rename_i hb
        have hcond : 272 ≤ (p : Nat) ∨ (s.facet die p).state ≠ .off := hc.resolve_left hb
        exact if_pos (hcond.imp_right .inl)
  case facetTestDone =>
    obtain ⟨u, hdone⟩ := facetTestDone_eq (pass := pass) hb hu
    obtain ⟨h31, h29⟩ := outcomeWord (p := s.fld (Reg.CFGF_FTEST die) 0 9) (Nat.mod_lt _ (by decide)) pass
    generalize BitVec.ofNat 32 (s.fld (Reg.CFGF_FTEST die) 0 9 + b2n (!pass) * 2 ^ 29 + 2 ^ 30) = w at hdone h31 h29
    obtain ⟨hrd, hfacet⟩ := facetTested_spec u die (s.fld (Reg.CFGF_FTEST die) 0 9) pass w
    exact ⟨_, congrArg Host.Outcome.next hdone, (congrArg (wbit · 31) hrd).trans h31, (congrArg (wbit · 29) hrd).trans h29, congrArg Facet.prog hfacet, congrArg Facet.broken hfacet⟩

end live

end Sys2Proof.Machine
end

section
/-!
PROOF. Scrubbers, live repair and the control-die banks (R479 to R483, R489).
-/
namespace Sys2Proof.Machine

section scrub
variable {s t : State} {die n : Nat}

theorem scrubber_setScrubber (s : State) (die n : Nat) (x : Scrubber) : (s.setScrubber die n x).scrubber die n = x := SMap.get_set_self s.live.scrub (2 * die + n) x {}

theorem scrubber_live (h : t.live = s.live) (die n : Nat) : t.scrubber die n = s.scrubber die n := congrArg (fun v : Live => v.scrub.get (2 * die + n) {}) h

theorem list_short (hn : n < 2) (hb : s.scrubBlocked die = false) : (s.scrubber die n).list.length < 16 := by
  obtain rfl | rfl : n = 0 ∨ n = 1 := by omega
  · simp [State.scrubBlocked] at hb
    exact hb.1
  · simp [State.scrubBlocked] at hb
    exact hb.2

/-! ## Passes (R479 to R481) -/

theorem scrubStart_ready {c : Bool} (hl : (s.scrubber die n).lost = false) (hr : (s.scrubber die n).running = false) (he : s.bit (Reg.SCR_CTL die (n + 1)) 0 = true)
    (hb : s.scrubBlocked die = c) : s.scrubStart die n = if c then s else s.setScrubber die n { s.scrubber die n with running := true, pos := 0, seen := [] } := by
  unfold State.scrubStart scrInst
  simp [hl, hr, he, hb]

theorem scrubStart_blocked (hb : s.scrubBlocked die = true) : s.scrubStart die n = s := by
  unfold State.scrubStart
  simp [hb]

theorem scrubNext_unskipped {pos fuel : Nat} (hn : n < 2) (hpos : pos < 131072) (hfree : ∀ rg < 16, s.reconfiguring die rg = false) : s.scrubNext die n (fuel + 1) pos = pos := by
  have hskip : s.scrubSkips die n pos = false := by
    unfold State.scrubSkips
    rw [hfree _ (by omega), Bool.and_false]
  exact if_neg (by rw [hskip]; decide)

theorem live_wr (s : State) (k : Nat) (w : Word) : (s.wr k w).live = s.live := rfl

theorem live_flag (s : State) (k i : Nat) : (s.flag k i).live = s.live := rfl

theorem live_count (s : State) (k m : Nat) : (s.count k m).live = s.live := rfl

theorem live_raise (s : State) (sev code d unit inst : Nat) (late : Bool) : (s.raise sev code d unit inst late).live = s.live := rfl

/-- The address of the first uncorrectable frame, kept until it is cleared. -/
def State.frameAddressed (s : State) (die n item : Nat) : State :=
  if s.bit (Reg.SCR_UEFR die (scrInst n)) 31 then s else s.wr (Reg.SCR_UEFR die (scrInst n)) (BitVec.ofNat 32 (item + 2 ^ 31))

theorem frameAddressed_live (s : State) (die n item : Nat) : (s.frameAddressed die n item).live = s.live := by
  unfold State.frameAddressed
  split
  · exact Eq.refl _
  · exact live_wr ..

/-- An uncorrectable frame in the flags, with its record where it is new. -/
def State.frameRecorded (s : State) (die n : Nat) (known : Bool) : State :=
  let u := s.flag (Reg.SCR_STAT die (scrInst n)) 0
  if known then u else u.raise 5 (errCode 16 8) die 0x0E (scrInst n)

theorem frameRecorded_live (s : State) (die n : Nat) (known : Bool) : (s.frameRecorded die n known).live = s.live := by
  simp only [State.frameRecorded, apply_ite State.live, live_raise, live_flag, ite_self]

theorem frameRecorded_flagged (s : State) (die n : Nat) (known : Bool) : (s.frameRecorded die n known).bit (Reg.SCR_STAT die (scrInst n)) 0 = true := by
  unfold State.frameRecorded
  dsimp only
  split
  · exact bit_flag_self (by decide)
  · exact bit_flag_self (s := s) (k := Reg.SCR_STAT die (scrInst n)) (i := 0) (by decide)

/-- A reserved repair mode in the flags. -/
def State.modeChecked (s : State) (die : Nat) : State := if s.fld (Reg.CFGF_CTL die) 0 2 = 3 then s.flag (Reg.CFGF_STAT die) 13 else s

theorem modeChecked_live (s : State) (die : Nat) : (s.modeChecked die).live = s.live := by
  simp only [State.modeChecked, apply_ite State.live, live_flag, ite_self]

theorem modeChecked_mono {k i : Nat} (h : s.bit k i = true) : (s.modeChecked die).bit k i = true := by
  unfold State.modeChecked
  split
  · exact bit_flag_mono h
  · exact h

/-- What finding an uncorrectable item leaves in the registers, before the item is listed. -/
def State.repairNoted (s : State) (die n item : Nat) : State :=
  let t := s.count (Reg.SCR_UECNT die (scrInst n)) 1
  (if item < 2 ^ 20 then (t.frameAddressed die n item).frameRecorded die n ((s.scrubber die n).list.contains item) else t.scrubErr die n 1 9 5).modeChecked die

theorem repairNoted_live (s : State) (die n item : Nat) : (s.repairNoted die n item).live = s.live := by
  simp only [State.repairNoted, modeChecked_live, apply_ite State.live, frameRecorded_live, frameAddressed_live, State.scrubErr, live_flagErr, live_count, ite_self]

theorem repairNoted_flagged {item : Nat} (hitem : item < 2 ^ 20) : (s.repairNoted die n item).bit (Reg.SCR_STAT die (scrInst n)) 0 = true := by
  unfold State.repairNoted
  dsimp only
  rw [if_pos hitem]
  exact modeChecked_mono (frameRecorded_flagged ..)

theorem listRepair_eq (s : State) (die n item : Nat) :
    s.listRepair die n item = if (s.scrubber die n).list.contains item || decide (16 ≤ (s.scrubber die n).list.length) then s.repairNoted die n item
      else (s.repairNoted die n item).setScrubber die n { s.scrubber die n with list := (s.scrubber die n).list ++ [item] } := rfl

theorem listRepair_new {item : Nat} (hnew : item ∉ (s.scrubber die n).list) (hlen : (s.scrubber die n).list.length < 16) :
    s.listRepair die n item = (s.repairNoted die n item).setScrubber die n { s.scrubber die n with list := (s.scrubber die n).list ++ [item] } := by
  rw [listRepair_eq]
  exact if_neg (by simpa [hnew] using hlen)

theorem listRepair_regions (s : State) (die n item : Nat) : (s.listRepair die n item).live.regions = s.live.regions := by
  have hnoted : (s.repairNoted die n item).live.regions = s.live.regions := congrArg Live.regions (repairNoted_live s die n item)
  rw [listRepair_eq]
  split
  · exact hnoted
  · exact hnoted

/-- What a scrubber does with the frame it read. -/
def State.frameJudged (s : State) (die n err item : Nat) : State :=
  match err with
  | 0 => s
  | 1 => s.count (Reg.SCR_CECNT die (n + 1)) 1
  | _ => s.listRepair die n item

theorem frameJudged_regions (s : State) (die n err item : Nat) : (s.frameJudged die n err item).live.regions = s.live.regions := by
  unfold State.frameJudged
  split
  · rfl
  · rfl
  · exact listRepair_regions ..

/-- A scrubber past the frame it reads. -/
def Scrubber.past (x : Scrubber) (n err : Nat) : Scrubber := { x with pos := x.pos + 1, seen := if err = 2 ∧ x.pos < 131072 then (8 * n + x.pos / 16384) :: x.seen else x.seen }

theorem frameScrub_reads {err : Nat} {bad : List Nat} (hn : n < 2) (hl : (s.scrubber die n).lost = false) (hr : (s.scrubber die n).running = true) (hb : s.scrubBlocked die = false)
    (hpos : (s.scrubber die n).pos % 1024 ≠ 0) (hend : (s.scrubber die n).pos + 1 < 131072) (hfree : ∀ rg < 16, s.reconfiguring die rg = false) :
    s.frameScrub die n err bad = (s.setScrubber die n ((s.scrubber die n).past n err)).frameJudged die n err (scrubFrame n (s.scrubber die n).pos) := by
  have hregions := frameJudged_regions (s.setScrubber die n ((s.scrubber die n).past n err)) die n err (scrubFrame n (s.scrubber die n).pos)
  have hfree' : ∀ rg < 16, ((s.setScrubber die n ((s.scrubber die n).past n err)).frameJudged die n err (scrubFrame n (s.scrubber die n).pos)).reconfiguring die rg = false := by
    intro rg hrg
    refine Eq.trans ?_ (hfree rg hrg)
    exact congrArg (fun m : SMap Region => let r := (m.get (die * 16 + rg) {}).state; r == .loading || r == .selftest) hregions
  have hnext : s.scrubNext die n 8 (s.scrubber die n).pos = (s.scrubber die n).pos := scrubNext_unskipped hn (by omega) hfree
  unfold State.frameScrub
  dsimp only
  rw [if_neg (by simp [hl, hr, hb]), hnext, if_neg (by unfold scrubLength; omega), if_neg hpos]
  have hnext' := scrubNext_unskipped (fuel := 7) hn hend hfree'
  have hgo : ¬ scrubLength ≤ ((s.setScrubber die n ((s.scrubber die n).past n err)).frameJudged die n err (scrubFrame n (s.scrubber die n).pos)).scrubNext die n 8 ((s.scrubber die n).pos + 1) := by
    rw [hnext']
    unfold scrubLength
    omega
  exact (if_neg (c := (!true) = true) (by decide)).trans (if_neg hgo)

/-! ## Audits (R482) -/

section audit
variable {a d : Word} (hl : (s.scrubber die n).lost = false) (hp : (s.scrubber die (1 - n)).lost = false)
include hl hp

theorem auditScrubber_lost {holders : List Word} (h : agreed (holders.take 4) = none) :
    s.auditScrubber die n holders = (s.setScrubber die n { s.scrubber die n with lost := true, running := false }).raise 6 (errCode 16 13) die 0x0E (n + 1) := by
  unfold State.auditScrubber
  dsimp only
  rw [if_neg (by simp [hl, hp]), h]
  rfl

theorem auditScrubber_agreed {holders : List Word} (h : agreed (holders.take 4) = some a) :
    s.auditScrubber die n holders = if (holders.take 4).all (· == a) then s else (s.wr (Reg.SCR_CTL die (n + 1)) a).scrubErr die n 4 12 5 := by
  unfold State.auditScrubber
  dsimp only
  rw [if_neg (by simp [hl, hp]), h]
  rfl

end audit

theorem agreed_three (a d : Word) : agreed [a, a, a, d] = some a := by simp [agreed, List.filter_cons]

/-- The settings word of a scrubber, as it is kept. -/
theorem settingsWord_fields (w : Word) :
    wbit (BitVec.ofNat 32 (wfld w 0 1 + max (wfld w 16 16) 35 * 65536)) 0 = wbit w 0 ∧ wfld (BitVec.ofNat 32 (wfld w 0 1 + max (wfld w 16 16) 35 * 65536)) 16 16 = max (wfld w 16 16) 35 := by
  have hen : wfld w 0 1 = w.toNat % 2 := by unfold wfld; omega
  have hper : max (wfld w 16 16) 35 < 65536 := Nat.max_lt.mpr ⟨Nat.mod_lt _ (by decide), by decide⟩
  generalize max (wfld w 16 16) 35 = per at hper
  have hnat : (BitVec.ofNat 32 (wfld w 0 1 + per * 65536)).toNat = w.toNat % 2 + per * 65536 := by
    rw [BitVec.toNat_ofNat, hen]
    omega
  refine ⟨?_, ?_⟩
  · unfold wbit BitVec.getLsbD
    rw [hnat, Nat.testBit_eq_decide_div_mod_eq, Nat.testBit_eq_decide_div_mod_eq]
    exact decide_eq_decide.mpr (by omega)
  · show (BitVec.ofNat 32 (wfld w 0 1 + per * 65536)).toNat / 2 ^ 16 % 2 ^ 16 = per
    rw [hnat]
    omega

theorem cfgWrite_scrubber (hd : die < 4) (key req : Nat) (w : Word) : s.cfgWrite die (n + 1) 0x000 key req w = (s.scrCtlWrite die n w, .ok) :=
  (if_neg (by omega)).trans ((if_neg (by omega)).trans (if_pos rfl))

theorem scrCtlWrite_spec (s : State) (die n : Nat) (w : Word) :
    (s.scrCtlWrite die n w).scrubber die n = { s.scrubber die n with lost := false, running := (s.scrubber die n).running && !(s.scrubber die n).lost } ∧
    (s.scrCtlWrite die n w).fld (Reg.SCR_CTL die (n + 1)) 16 16 = max (wfld w 16 16) 35 ∧ (s.scrCtlWrite die n w).bit (Reg.SCR_CTL die (n + 1)) 0 = wbit w 0 := by
  obtain ⟨hen, hper⟩ := settingsWord_fields w
  have hw : s.scrCtlWrite die n w = (s.wr (Reg.SCR_CTL die (n + 1)) (BitVec.ofNat 32 (wfld w 0 1 + max (wfld w 16 16) 35 * 65536))).setScrubber die n
      { s.scrubber die n with lost := false, running := (s.scrubber die n).running && !(s.scrubber die n).lost } := rfl
  rw [hw]
  generalize BitVec.ofNat 32 (wfld w 0 1 + max (wfld w 16 16) 35 * 65536) = v at hen hper
  exact ⟨scrubber_setScrubber .., (congrArg (wfld · 16 16) (rd_wr_self ..)).trans hper, (congrArg (wbit · 0) (rd_wr_self ..)).trans hen⟩

/-! ## Repairs (R483) -/

section repair
variable {item rg : Nat} {rest : List Nat} (hlist : (s.scrubber die n).list = item :: rest) (hport : s.portJobs die = []) (hrg : repairRegion item = some rg)
  (hre : s.reconfiguring die rg = false)
include hlist hport hrg hre

theorem frameRepair_eq (poison : Bool) (hmode : s.fld (Reg.CFGF_CTL die) 0 2 = 1) :
    s.frameRepair die n poison = if poison || !s.libValid die rg then s.repairFailed die n else s.setScrubber die n { s.scrubber die n with list := rest } := by
  unfold State.frameRepair
  dsimp only
  rw [hlist]
  dsimp only
  rw [hrg, if_neg (by simp [hmode, hport])]
  dsimp only
  rw [if_neg (by rw [hre]; decide)]

theorem regionRepair_failed (crc : Nat) (hmode : s.fld (Reg.CFGF_CTL die) 0 2 = 2) : s.regionRepair die n crc true = s.repairFailed die n := by
  unfold State.regionRepair
  dsimp only
  rw [hlist]
  dsimp only
  rw [hrg]
  dsimp only
  rw [if_neg (by simp [hmode, hport]), if_neg (by rw [hre]; decide)]
  rfl

/-- The Region of a repair reloaded, ACTIVE again and off the list. -/
def State.regionReloaded (s : State) (die n rg : Nat) (r : Region) (segs : List Segment) (crc : Nat) (x : Scrubber) : State :=
  (((s.writeLoad die rg segs crc).setScrubber die n x).setBit (libKey die rg) 30 false).setRegion die rg r

theorem regionRepair_eq (hmode : s.fld (Reg.CFGF_CTL die) 0 2 = 2) (hlib : s.libValid die rg = true)
    (hu : (segBytes (s.libEntry (s.fld (libKey die rg) 0 8)).segs + 4095) / 4096 ≤ s.power.jobs.get (8 + die) 0) :
    s.regionRepair die n (s.libEntry (s.fld (libKey die rg) 0 8)).crc false =
      ((((s.loadAdmitted die ((segBytes (s.libEntry (s.fld (libKey die rg) 0 8)).segs + 4095) / 4096)).takeDown die rg).regionReloaded die n rg
        { s.region die rg with state := .active, entry := s.fld (libKey die rg) 0 8 } (s.libEntry (s.fld (libKey die rg) 0 8)).segs (s.libEntry (s.fld (libKey die rg) 0 8)).crc
        { s.scrubber die n with list := rest.filter (fun i => repairRegion i != some rg) }).releaseInitial die rg).restartFacets die rg := by
  have htake : s.takeUnits 1 die ((segBytes (s.libEntry (s.fld (libKey die rg) 0 8)).segs + 4095) / 4096) =
      (s.loadAdmitted die ((segBytes (s.libEntry (s.fld (libKey die rg) 0 8)).segs + 4095) / 4096), true) := if_pos hu
  unfold State.regionRepair
  dsimp only
  rw [hlist]
  dsimp only
  rw [hrg]
  dsimp only
  rw [if_neg (by simp [hmode, hport]), if_neg (by rw [hre]; decide), if_neg (by rw [hlib]; decide), htake]
  exact (if_neg (c := (!true) = true) (by decide)).trans (if_neg (not_not_intro rfl))

end repair

theorem scrubber_setRegion (s : State) (die rg : Nat) (x : Region) (n : Nat) : (s.setRegion die rg x).scrubber die n = s.scrubber die n := rfl

theorem scrubber_setBit (s : State) (k i : Nat) (b : Bool) (die n : Nat) : (s.setBit k i b).scrubber die n = s.scrubber die n := rfl

theorem regionReloaded_spec (s : State) (die n rg : Nat) (r : Region) (segs : List Segment) (crc : Nat) (x : Scrubber) :
    (((s.regionReloaded die n rg r segs crc x).releaseInitial die rg).restartFacets die rg).region die rg = r ∧
    (((s.regionReloaded die n rg r segs crc x).releaseInitial die rg).restartFacets die rg).scrubber die n = x := by
  have hkept : LiveKept die rg (s.regionReloaded die n rg r segs crc x) (((s.regionReloaded die n rg r segs crc x).releaseInitial die rg).restartFacets die rg) :=
    (LiveKept.rfl.releaseInitial ..).restartFacets ..
  rw [region_live hkept.live, scrubber_live hkept.live]
  unfold State.regionReloaded
  refine ⟨State.setRegion_self .., ?_⟩
  rw [scrubber_setRegion, scrubber_setBit, scrubber_setScrubber]

/-! ## Control-die banks (R489) -/

theorem cfgWrite_bank (key req : Nat) (w : Word) (h : wbit w 3 = true) : s.cfgWrite 4 0 0x060 key req w = ((s.store key w).bankConfirm, .ok) := by
  have hw : s.cfgWrite 4 0 0x060 key req w = (if wbit w 3 then (s.store key w).bankConfirm else s.store key w, .ok) := rfl
  rw [hw, h]
  rfl

theorem bit_setLive (s : State) (f : Live → Live) (k i : Nat) : (s.setLive f).bit k i = s.bit k i := rfl

theorem bankConfirm_spec {b : Bool} (ht : s.live.trial = true) (he : s.live.expired = false) (hb : s.bit Reg.CFGH_CDBANK 1 = b) :
    s.bankConfirm.live.trial = false ∧ s.bankConfirm.bit Reg.CFGH_CDBANK 0 = b ∧ s.bankConfirm.bit Reg.CFGH_CDBANK 2 = false := by
  have hc : s.bankConfirm = (((s.setBit Reg.CFGH_CDBANK 0 b).setBit Reg.CFGH_CDBANK 2 false).setLive (fun v => { v with trial := false, expired := false })).bzLog 2 1 0 := by
    unfold State.bankConfirm
    dsimp only
    rw [ht, he, hb]
    exact if_pos (by decide)
  rw [hc]
  generalize hu : ((s.setBit Reg.CFGH_CDBANK 0 b).setBit Reg.CFGH_CDBANK 2 false).setLive _ = u
  obtain ⟨hlive, hrd⟩ := bzLog_keeps u 2 1 0
  rw [hlive, bit_congr (hrd _), bit_congr (hrd _), ← hu]
  refine ⟨rfl, ?_, ?_⟩
  · rw [bit_setLive, bit_setBit_other _ _ false (by decide), bit_setBit_self _ _ b (by decide)]
  · rw [bit_setLive, bit_setBit_self _ _ false (by decide)]

theorem live_store (s : State) (key : Nat) (w : Word) : (s.store key w).live = s.live := by
  unfold State.store
  split <;> rfl

end scrub

/-- Settles O54: each clause by the rule of its operation; a pass reads the frame where it stands, and a repaired Region keeps what the reload made of it. -/
theorem scrubbersRepairFrames : Obligations.ScrubbersRepairFrames := by
  unfold Obligations.ScrubbersRepairFrames
  intro s r die n x stat
  have hdie := die.isLt
  have hn := n.isLt
  refine ⟨fun hl hr he hb => ?start, fun hb => congrArg Host.Outcome.next (scrubStart_blocked hb), fun bad hl hr hb hpos hend hfree => ?frame, rfl, fun hl => ?critical, fun hl => ?criticalLost,
    fun a b c d hl hp => ⟨fun h => congrArg Host.Outcome.next (auditScrubber_lost hl hp h), ?same, ?odd⟩, fun w ha => ?restart,
    fun item rest hlist hport => ⟨fun hmode rg hrg hre => ⟨fun hlib => ?repair, ?poisoned⟩, fun hmode rg hlt hrg hre => ⟨fun crc => ?regionPoisoned, fun hlib => ?region⟩⟩,
    fun w ha ht he => ?confirm, fun ht => congrArg Host.Outcome.next (if_pos ht), fun ht => congrArg Host.Outcome.next (if_neg (by rw [ht]; decide))⟩
  case start => exact congrArg Host.Outcome.next ((scrubStart_ready hl hr he hb).trans (if_neg (by decide)))
  case frame =>
    have hread (err : Nat) : s.frameScrub die n err bad = (s.setScrubber die n (x.past n err)).frameJudged die n err (scrubFrame n x.pos) := frameScrub_reads hn hl hr hb hpos hend hfree
    refine ⟨congrArg Host.Outcome.next (hread 0), congrArg Host.Outcome.next (hread 1), fun hnew => ?_⟩
    have hx := scrubber_setScrubber s die n (x.past n 2)
    have hitem : scrubFrame n x.pos < 2 ^ 20 := by
      unfold scrubFrame
      rw [if_pos (by omega)]
      omega
    have hlist := listRepair_new (s := s.setScrubber die n (x.past n 2)) (die := die) (n := n) (item := scrubFrame n x.pos) (by rw [hx]; exact hnew) (by rw [hx]; exact list_short hn hb)
    refine ⟨_, congrArg Host.Outcome.next ((hread 2).trans hlist), ?_, ?_⟩
    · rw [scrubber_setScrubber, hx]
      rfl
    · exact repairNoted_flagged hitem
  case critical => exact congrArg Host.Outcome.next (if_pos (by rw [show (s.scrubber die n).lost = false from hl]; decide))
  case criticalLost => exact congrArg Host.Outcome.next (if_neg (by rw [show (s.scrubber die n).lost = true from hl]; decide))
  case same =>
    rintro rfl rfl rfl
    refine congrArg Host.Outcome.next ((auditScrubber_agreed (a := a) (holders := [a, a, a, a]) hl hp (agreed_three a a)).trans (if_pos ?_))
    simp
  case odd =>
    rintro rfl rfl hne
    refine congrArg Host.Outcome.next ((auditScrubber_agreed (a := a) (holders := [a, a, a, d]) hl hp (agreed_three a d)).trans (if_neg ?_))
    simp [Ne.symm hne]
  case restart =>
    have hwrite : (s.touched r.code (Reg.SCR_CTL die (n + 1))).regWrite (Reg.SCR_CTL die (n + 1)) r.code w = (s.scrCtlWrite die n w, .ok) :=
      (regWrite_cfg s _ w (by omega) (by decide)).trans (cfgWrite_scrubber hdie ..)
    exact ⟨_, congrArg Host.Outcome.next (regAccess_wrote (single_SCR_CTL die hdie (n + 1) (by omega) (by omega)) ha hwrite), scrCtlWrite_spec s die n w⟩
  case repair => exact congrArg Host.Outcome.next ((frameRepair_eq hlist hport hrg hre false hmode).trans (if_neg (by rw [hlib]; decide)))
  case poisoned => exact congrArg Host.Outcome.next (frameRepair_eq hlist hport hrg hre true hmode)
  case regionPoisoned => exact congrArg Host.Outcome.next (regionRepair_failed hlist hport hrg hre crc hmode)
  case region =>
    intro e hu
    obtain ⟨hregion, hscrubber⟩ := regionReloaded_spec _ die n rg _ _ _ _
    exact ⟨_, congrArg Host.Outcome.next (regionRepair_eq hlist hport hrg hre hmode hlib hu), hregion, congrArg Scrubber.list hscrubber⟩
  case confirm =>
    have hbits : wbit (w ||| 8) 1 = wbit w 1 ∧ wbit (w ||| 8) 3 = true := by
      unfold wbit
      simp
    have hwrite := (regWrite_cfg (d := 4) (i := 0) (o := 0x060) s r.code (w ||| 8) (by decide) (by decide)).trans (cfgWrite_bank _ _ _ hbits.2)
    have hlive := live_store s Reg.CFGH_CDBANK (w ||| 8)
    refine ⟨_, congrArg Host.Outcome.next (regAccess_wrote single_CFGH_CDBANK ha hwrite), bankConfirm_spec ?_ ?_ ((bit_store (by decide) (by decide)).trans hbits.1)⟩
    · exact (congrArg Live.trial hlive).trans ht
    · exact (congrArg Live.expired hlive).trans he

end Sys2Proof.Machine
end

section
/-!
PROOF. Bezel channels and key services (R503 to R516).
-/
namespace Sys2Proof.Machine

section channel
variable {s t : State} {chan : Nat}

theorem regWrite_bezel (s : State) (req : Nat) (w : Word) {i o : Nat} (hi : i < 4) (ho : o < 0xF00) :
    (s.touched req (regKey 4 0x13 i o)).regWrite (regKey 4 0x13 i o) req w = (s.bzInterfere i req).bzWrite i req o w := by
  have ho' : o < 4096 := by omega
  have hi' : i < 4096 := by omega
  simp [State.touched, State.regWrite, State.bezelWrite, keyUnit_regKey ho' hi', keyOff_regKey ho', keyInst_regKey ho' hi', hi, show o ≠ 4088 by omega, show o ≠ 4092 by omega]

/-- A requester that owns the channel, or finds it free, disturbs nothing. -/
theorem bzInterfere_own {req : Nat} (h : s.bzOwner chan = none ∨ s.bzOwner chan = some req) : s.bzInterfere chan req = s := by
  unfold State.bzInterfere
  obtain h | h := h
  · rw [h]
  · rw [h]
    exact if_pos rfl

theorem wfld_or_go (w : Word) {lo n : Nat} (h : lo + n ≤ 31) : wfld (w ||| 0x80000000) lo n = wfld w lo n := by
  refine Nat.eq_of_testBit_eq fun i => ?_
  rw [testBit_wfld, testBit_wfld]
  by_cases hi : i < n
  · have hbit : wbit (0x80000000 : Word) (lo + i) = false := by
      show Nat.testBit (2 ^ 31) (lo + i) = false
      rw [Nat.testBit_two_pow]
      exact decide_eq_false (by omega)
    have hor : wbit (w ||| 0x80000000) (lo + i) = (wbit w (lo + i) || wbit 0x80000000 (lo + i)) := BitVec.getLsbD_or
    rw [hor, hbit, Bool.or_false]
  · rw [decide_eq_false hi, Bool.false_and, Bool.false_and]

theorem wbit_or_go (w : Word) : wbit (w ||| 0x80000000) 31 = true := by
  have hor : wbit (w ||| 0x80000000) 31 = (wbit w 31 || wbit 0x80000000 31) := BitVec.getLsbD_or
  rw [hor, show wbit (0x80000000 : Word) 31 = true from by decide, Bool.or_true]

/-- A channel with its owner let go and its buffer zeroed. -/
def State.bzEmptied (s : State) (chan : Nat) : State := (List.range 128).foldl (fun t k => t.wr (Reg.BZ_BUF chan k) 0) (s.setBzOwner chan none)

theorem bzEmptied_cmds (s : State) (chan : Nat) : (s.bzEmptied chan).sec.cmds = s.sec.cmds :=
  List.foldlRecOn (motive := fun t : State => t.sec.cmds = s.sec.cmds) _ _ rfl fun _ ht _ _ => ht

/-- Registers zeroed one after the other read 0. -/
theorem rd_foldl_zero (f : Nat → Nat) {l : List Nat} {k : Nat} (hk : k ∈ l) (s : State) : (l.foldl (fun t a => t.wr (f a) 0) s).rd (f k) = 0 := by
  refine foldl_settles (f := fun (t : State) a => t.wr (f a) 0) (k := k) (pre := fun _ => True) (post := fun t => t.rd (f k) = 0) (fun t _ => rd_wr_self t (f k) 0) (fun _ _ _ _ => trivial) (fun t a ht => ?_) hk trivial
  by_cases ha : f k = f a
  · rw [ha]
    exact rd_wr_self ..
  · exact (rd_wr_other ha).trans ht

theorem bzEmptied_zero (s : State) (chan : Nat) : (s.bzEmptied chan).rd (Reg.BZ_BUF chan 0) = 0 := rd_foldl_zero (Reg.BZ_BUF chan) (List.mem_range.mpr (by decide)) _

theorem bufferInput_length (s : State) (chan n : Nat) : ((List.range n).flatMap (fun k => leBytes 4 (s.rd (Reg.BZ_BUF chan k)).toNat)).length = 4 * n := by
  induction n with
  | zero => rfl
  | succ n ih =>
    rw [List.range_succ, List.flatMap_append, List.length_append, ih, List.flatMap_singleton]
    simp [leBytes]
    omega

/-- The response of a channel to a reserved code. -/
def State.bzReserved (s : State) (chan : Nat) : State :=
  (((s.setFld (Reg.BZ_RSP chan) 0 12 (if 2 ≤ chan then 3 else 1)).flag (Reg.BZ_RSP chan) 12)).raise 3 (errCode 17 1) 4 0x13 chan

theorem bit_raise (s : State) (sev code die unit inst : Nat) (late : Bool) (k i : Nat) : (s.raise sev code die unit inst late).bit k i = s.bit k i := rfl

theorem fld_raise (s : State) (sev code die unit inst : Nat) (late : Bool) (k lo n : Nat) : (s.raise sev code die unit inst late).fld k lo n = s.fld k lo n := rfl

theorem rd_raise (s : State) (sev code die unit inst : Nat) (late : Bool) (k : Nat) : (s.raise sev code die unit inst late).rd k = s.rd k := rfl

/-- The status field of a response word. -/
theorem fld_low (s : State) (k : Nat) : s.fld k 0 4 = s.fld k 0 12 % 16 := by
  unfold State.fld wfld
  omega

theorem rspStatus_set (s : State) (k v : Nat) : ((s.setFld k 0 12 v).flag k 12).fld k 0 4 = v % 16 := by
  rw [fld_low]
  have h : ((s.setFld k 0 12 v).flag k 12).fld k 0 12 = v % 2 ^ 12 := (fld_setBit_other _ k true (.inr (by decide))).trans (fld_setFld_self s k v (by decide))
  rw [h]
  omega

theorem rd_setFld_other (s : State) {k j : Nat} (lo n v : Nat) (h : j ≠ k) : (s.setFld k lo n v).rd j = s.rd j := rd_wr_other h

theorem rd_flag_other (s : State) {k j : Nat} (i : Nat) (h : j ≠ k) : (s.flag k i).rd j = s.rd j := rd_wr_other h

theorem sec_flag (s : State) (k i : Nat) : (s.flag k i).sec = s.sec := rfl

theorem sec_setFld (s : State) (k lo n v : Nat) : (s.setFld k lo n v).sec = s.sec := rfl

theorem sec_raise (s : State) (sev code die unit inst : Nat) (late : Bool) : (s.raise sev code die unit inst late).sec = s.sec := rfl

theorem bzReserved_spec (s : State) (chan : Nat) :
    (s.bzReserved chan).rd (Reg.BZ_BUF chan 0) = s.rd (Reg.BZ_BUF chan 0) ∧ (s.bzReserved chan).sec = s.sec ∧
    (s.bzReserved chan).fld (Reg.BZ_RSP chan) 0 4 = (if 2 ≤ chan then 3 else 1) ∧ (s.bzReserved chan).bit (Reg.BZ_RSP chan) 12 = true := by
  have hne : Reg.BZ_BUF chan 0 ≠ Reg.BZ_RSP chan := by
    unfold Reg.BZ_BUF Reg.BZ_RSP regKey
    omega
  have hst : (if 2 ≤ chan then 3 else 1) % 16 = if 2 ≤ chan then 3 else 1 := by split <;> rfl
  unfold State.bzReserved
  generalize (if 2 ≤ chan then 3 else 1) = st at hst
  rw [rd_raise, rd_flag_other _ _ hne, rd_setFld_other _ _ _ _ hne, sec_raise, sec_flag, sec_setFld, fld_raise, rspStatus_set, bit_raise]
  exact ⟨rfl, rfl, hst, bit_flag_self (by decide)⟩

/-- The command that a word asks for. -/
def State.bzCommandOf (s : State) (chan req : Nat) (w : Word) : BzCommand :=
  { chan := chan, agent := req, op := wfld w 0 8, arg := wfld w 8 8, kid := wfld w 16 6,
    input := (List.range (min (wfld w 22 8) 128)).flatMap (fun k => leBytes 4 (s.rd (Reg.BZ_BUF chan k)).toNat),
    addr := ((s.bzEmptied chan).rdPair (Reg.BZ_ADDR_LO chan) (Reg.BZ_ADDR_HI chan)).toNat, len := ((s.bzEmptied chan).rd (Reg.BZ_LEN chan)).toNat }

theorem bzGo_eq (s : State) (chan req : Nat) (w : Word) : s.bzGo chan req w =
    if wfld w 0 8 = 0 ∨ 0x11 < wfld w 0 8 then (s.bzEmptied chan).bzReserved chan
    else (s.bzEmptied chan).setSec (fun v => { v with cmds := v.cmds ++ [s.bzCommandOf chan req w] }) := rfl

theorem bzWrite_go {req : Nat} {w : Word} (ho : s.bzOwner chan = none ∨ s.bzOwner chan = some req) (hb : s.bzBusy chan = false) (hg : wbit w 31 = true) :
    s.bzWrite chan req 0 w = (((s.setBzOwner chan (some req)).wr (regKey 4 0x13 chan 0) (w &&& 0x3FFFFFFF)).bzGo chan req w, .ok) := by
  unfold State.bzWrite
  dsimp only
  rw [bzInterfere_own ho, hb, if_neg Bool.false_ne_true, if_neg (by decide), if_pos rfl, if_pos (by rw [hg]; decide)]

theorem bzWrite_busy {req : Nat} {w : Word} (ho : s.bzOwner chan = none ∨ s.bzOwner chan = some req) (hb : s.bzBusy chan = true) : s.bzWrite chan req 0 w = (s, .refused) := by
  unfold State.bzWrite
  dsimp only
  rw [bzInterfere_own ho, hb]
  rfl

theorem rd_setSec (s : State) (f : Security → Security) (k : Nat) : (s.setSec f).rd k = s.rd k := rfl

theorem cmds_queued (s : State) (c : BzCommand) : (s.setSec (fun v => { v with cmds := v.cmds ++ [c] })).sec.cmds = s.sec.cmds ++ [c] := rfl

/-- What a word of a channel makes: the buffer is zeroed, and the command waits or a reserved code is answered. -/
theorem bzGo_spec (s : State) (chan req : Nat) (w : Word) :
    (s.bzGo chan req (w ||| 0x80000000)).rd (Reg.BZ_BUF chan 0) = 0 ∧
    ((1 ≤ wfld w 0 8 ∧ wfld w 0 8 ≤ 0x11) → ∃ x : BzCommand, (s.bzGo chan req (w ||| 0x80000000)).sec.cmds = s.sec.cmds ++ [x] ∧ x.chan = chan ∧ x.agent = req ∧
      x.op = wfld w 0 8 ∧ x.arg = wfld w 8 8 ∧ x.input.length = 4 * min (wfld w 22 8) 128) ∧
    ((wfld w 0 8 = 0 ∨ 0x11 < wfld w 0 8) → (s.bzGo chan req (w ||| 0x80000000)).sec.cmds = s.sec.cmds ∧
      (s.bzGo chan req (w ||| 0x80000000)).fld (Reg.BZ_RSP chan) 0 4 = (if 2 ≤ chan then 3 else 1) ∧ (s.bzGo chan req (w ||| 0x80000000)).bit (Reg.BZ_RSP chan) 12 = true) := by
  have hop := wfld_or_go w (lo := 0) (n := 8) (by decide)
  obtain ⟨hbuf, hsec, hst, hdone⟩ := bzReserved_spec (s.bzEmptied chan) chan
  have hzero := bzEmptied_zero s chan
  have hcmds := bzEmptied_cmds s chan
  have hlen := bufferInput_length s chan (min (wfld (w ||| 0x80000000) 22 8) 128)
  rw [bzGo_eq, hop]
  by_cases hres : wfld w 0 8 = 0 ∨ 0x11 < wfld w 0 8
  · rw [if_pos hres]
    exact ⟨hbuf.trans hzero, fun h => absurd h (by omega), fun _ => ⟨(congrArg Security.cmds hsec).trans hcmds, hst, hdone⟩⟩
  · rw [if_neg hres]
    rw [rd_setSec, cmds_queued, hcmds]
    refine ⟨hzero, fun _ => ⟨_, rfl, rfl, rfl, hop, wfld_or_go w (by decide), ?_⟩, fun h => absurd h hres⟩
    rw [wfld_or_go w (by decide)] at hlen
    rw [← hlen]
    unfold State.bzCommandOf
    rw [wfld_or_go w (lo := 22) (by decide)]

end channel

/-! ## Ends (R510) -/

section outputs
variable {c : BzCommand}

theorem leBytes_length (n v : Nat) : (leBytes n v).length = n := by simp [leBytes]

/-- The record that SIGN_RECORD signs, with its signature. -/
def State.signedRecord (s : State) (k : VaultKey) (input : List Byte) : List Byte :=
  let block := leBytes 4 0x51545231 ++ leBytes 2 1 ++ leBytes 2 s.sec.lc ++ leBytes 8 s.sec.otp.serial ++ leBytes 8 s.tickEnd.toNat ++ leBytes 8 s.sec.signed ++ input.take 64 ++ leBytes 48 s.sec.bootDigest
  block ++ leBytes 96 (Config.signature k.value block)

theorem signedRecord_length (s : State) (k : VaultKey) {input : List Byte} (h : 64 ≤ input.length) : (s.signedRecord k input).length = 240 := by
  unfold State.signedRecord
  simp only [List.length_append, leBytes_length, List.length_take, Nat.min_eq_left h]

/-- What TRANSFER_WRAP puts out: a fresh public key and the key of the vault under the key agreed with it. -/
def State.transferBlob (s : State) (k : VaultKey) (input : List Byte) : List Byte :=
  let e := s.freeNat 64
  Config.publicKey e ++ Config.wrap (Config.derive (Config.derive e (leNat (input.take 96))) (leNat ((input.drop 288).take 16))) (leBytes k.length k.value)

theorem drawnBytes_length (f n : Nat) : ((List.range n).flatMap (fun i => leBytes 8 (Config.freeValue (f + i)).toNat)).length = 8 * n := by
  induction n with
  | zero => rfl
  | succ n ih =>
    rw [List.range_succ, List.flatMap_append, List.length_append, ih, List.flatMap_singleton, leBytes_length]
    omega

/-- A key identifier loaded into the engines from a key of the vault. -/
def State.slotFilled (s : State) (k : Nat) (v : VaultKey) : State :=
  (s.setSec (fun x => { x with keys := x.keys.set k (Config.derive v.value k) 0 })).setKid Reg.MPE_KSTAT_LO Reg.MPE_KSTAT_HI k true

theorem slotLoaded_setKid (s : State) {k : Nat} (hk : k < 64) : (s.setKid Reg.MPE_KSTAT_LO Reg.MPE_KSTAT_HI k true).slotLoaded k = true := by
  unfold State.setKid State.slotLoaded
  by_cases h : k < 32
  · rw [if_pos h, if_pos h]
    exact bit_setBit_self _ _ true h
  · rw [if_neg h, if_neg h]
    exact bit_setBit_self _ _ true (by omega)

theorem sec_setKid (s : State) (lo hi k : Nat) (b : Bool) : (s.setKid lo hi k b).sec = s.sec := by
  unfold State.setKid
  split
  · rfl
  · rfl

theorem slotFilled_spec (s : State) {k : Nat} (hk : k < 64) (v : VaultKey) : (s.slotFilled k v).slotLoaded k = true ∧ (s.slotFilled k v).sec.keys.get k 0 = Config.derive v.value k := by
  unfold State.slotFilled
  refine ⟨slotLoaded_setKid _ hk, ?_⟩
  rw [sec_setKid]
  exact SMap.get_set_self s.sec.keys k (Config.derive v.value k) 0

end outputs

section ends
variable {s : State} {c : BzCommand} {rest : List BzCommand}

/-- The output of a command in its channel's buffer. -/
def State.bzOutput (s : State) (chan : Nat) (words : List Word) : State := words.zipIdx.foldl (fun t e => if e.2 < 128 then t.wr (Reg.BZ_BUF chan e.2) e.1 else t) s

theorem bzOutput_sec (s : State) (chan : Nat) (words : List Word) : (s.bzOutput chan words).sec = s.sec := by
  refine List.foldlRecOn (motive := fun t : State => t.sec = s.sec) _ _ rfl fun t ht e _ => ?_
  split
  · exact ht
  · exact ht

/-- The response of a command that ends, before its record. -/
def State.bzAnswered (s : State) (chan st : Nat) (words : List Word) : State :=
  (((s.bzOutput chan words).setFld (Reg.BZ_RSP chan) 0 12 (st + min words.length 128 * 16)).flag (Reg.BZ_RSP chan) 12).setSec (fun v => { v with cmds := v.cmds.drop 1 })

theorem bzAnswered_spec (s : State) (chan : Nat) {st : Nat} (hst : st < 16) (words : List Word) :
    (s.bzAnswered chan st words).fld (Reg.BZ_RSP chan) 0 4 = st ∧ (s.bzAnswered chan st words).bit (Reg.BZ_RSP chan) 12 = true ∧
    (s.bzAnswered chan st words).sec.cmds = s.sec.cmds.drop 1 := by
  have hsec := bzOutput_sec s chan words
  unfold State.bzAnswered
  generalize s.bzOutput chan words = u at hsec
  refine ⟨(rspStatus_set u (Reg.BZ_RSP chan) _).trans (by omega), bit_flag_self (s := u.setFld ..) (by decide), ?_⟩
  exact congrArg (fun v : Security => v.cmds.drop 1) hsec

theorem bzEnd_eq (s : State) (c : BzCommand) (st : Nat) (out : List Byte) (row : Nat) :
    s.bzEnd c st out row = if st = 0 then s.bzAnswered c.chan st (bytesWords out) else (s.bzAnswered c.chan st (bytesWords out)).raise (if row = 1 then 3 else 4) (errCode 17 row) 4 0x13 c.chan := rfl

theorem bzEnd_spec (s : State) (c : BzCommand) {st : Nat} (hst : st < 16) (out : List Byte) (row : Nat) :
    (s.bzEnd c st out row).fld (Reg.BZ_RSP c.chan) 0 4 = st ∧ (s.bzEnd c st out row).bit (Reg.BZ_RSP c.chan) 12 = true ∧ (s.bzEnd c st out row).sec.cmds = s.sec.cmds.drop 1 := by
  have h := bzAnswered_spec s c.chan hst (bytesWords out)
  rw [bzEnd_eq]
  split
  · exact h
  · rw [fld_raise, bit_raise, sec_raise]
    exact h

/-! ## The oldest command (R509) -/

theorem bzRun_idle {op : Nat} {f : BzCommand → State → State} (h : s.sec.cmds = []) : s.bzRun op f = s := by
  unfold State.bzRun
  rw [h]

theorem bzRun_other {op : Nat} {f : BzCommand → State → State} (hc : s.sec.cmds = c :: rest) (h : c.op ≠ op) : s.bzRun op f = s := by
  unfold State.bzRun
  rw [hc]
  exact if_pos (by simp [h])

section running
variable (hfront : s.Serves c)
include hfront

/-! ## Keys of the vault (R503, R504) -/

theorem keyGen_derived (hop : c.op = 1) (hk : (c.input.getD 0 0).toNat = 0) (hu : usageAllowed 0 (c.input.getD 1 0).toNat = true) :
    s.keyGen = if c.arg = 0 ∨ 32 ≤ c.arg then s.bzEnd c 2 [] 1
      else (s.drawn.setVault c.arg (some { kind := 0, usage := (c.input.getD 1 0).toNat, value := Config.derive (s.freeNat 64) 0, length := 32 })).bzEnd c 0 [] 1 := by
  refine (bzRun_front hfront hop _).trans ?_
  dsimp only
  rw [hk, hu]
  refine ite_of_iff ?_
  simp [lengthAllowed]

theorem keyImport_eq (hop : c.op = 2) (h1 : 1 ≤ c.arg) (h32 : c.arg < 32) (hu : usageAllowed (c.input.getD 0 0).toNat (c.input.getD 1 0).toNat = true)
    (hl : lengthAllowed (c.input.getD 0 0).toNat (c.input.getD 2 0).toNat = true) :
    (∀ v, Config.unwrap s.deviceKey (c.input.drop 8) = some v → s.keyImport =
      (s.setVault c.arg (some { kind := (c.input.getD 0 0).toNat, usage := (c.input.getD 1 0).toNat, value := leNat v, length := (c.input.getD 2 0).toNat })).bzEnd c 0 [] 1) ∧
    (Config.unwrap s.deviceKey (c.input.drop 8) = none → s.sec.lc ≠ 2 → s.sec.lc ≠ 3 → s.keyImport = s.bzEnd c 4 [] 1) := by
  have hcond : ¬ (c.arg = 0 ∨ 32 ≤ c.arg ∨ (!usageAllowed (c.input.getD 0 0).toNat (c.input.getD 1 0).toNat) = true ∨
      (!lengthAllowed (c.input.getD 0 0).toNat (c.input.getD 2 0).toNat) = true) := by
    rw [hu, hl]
    simp
    omega
  refine ⟨fun v hv => (bzRun_front hfront hop _).trans ?_, fun hv h2 h3 => (bzRun_front hfront hop _).trans ?_⟩
  · dsimp only
    rw [if_neg hcond, hv]
    rfl
  · dsimp only
    rw [if_neg hcond, hv, if_neg (by simp [h2, h3])]
    rfl

theorem keyExport_eq {k : VaultKey} (hop : c.op = 3) (h32 : c.arg < 32) (hk : s.vaultKey c.arg = some k) :
    s.keyExport = if k.usage.testBit 1 then s.bzEnd c 0 (blobHeader k ++ Config.wrap s.deviceKey (leBytes k.length k.value)) 1 else s.bzEnd c 3 [] 1 := by
  refine (bzRun_front hfront hop _).trans ?_
  rw [if_neg (by omega), hk]
  cases hb : k.usage.testBit 1 with
  | false => exact (if_pos (by rw [hb]; rfl)).trans (if_neg Bool.false_ne_true).symm
  | true => exact (if_neg (by rw [hb]; decide)).trans (if_pos rfl).symm

theorem keyExport_empty (hop : c.op = 3) (h32 : c.arg < 32) (hk : s.vaultKey c.arg = none) : s.keyExport = s.bzEnd c 6 [] 1 := by
  refine (bzRun_front hfront hop _).trans ?_
  rw [if_neg (by omega), hk]
  rfl

theorem keyDelete_eq (hop : c.op = 4) (h32 : c.arg < 32) : s.keyDelete = (s.setVault c.arg none).bzEnd c 0 [] 1 := (bzRun_front hfront hop _).trans (if_neg (by omega))

/-! ## Keys of the engines (R505) -/

theorem mpeLoad_erased (hop : c.op = 5) (he : s.erasedOpen = true) : s.mpeLoad = s.bzEnd c 3 [] 1 := (bzRun_front hfront hop _).trans (if_pos he)

theorem mpeLoad_eq {k : VaultKey} (hop : c.op = 5) (he : s.erasedOpen = false) (h32 : c.arg < 32) (h1 : 1 ≤ (c.input.getD 0 0).toNat) (h64 : (c.input.getD 0 0).toNat < 64)
    (hk : s.vaultKey c.arg = some k) (h0 : k.kind = 0) (hu : k.usage.testBit 0 = true) :
    s.mpeLoad = if s.slotLoaded (c.input.getD 0 0).toNat then s.bzEnd c 7 [] 1 else (s.slotFilled (c.input.getD 0 0).toNat k).bzEnd c 0 [] 1 := by
  refine (bzRun_front hfront hop _).trans ?_
  dsimp only
  rw [if_neg (by rw [he]; decide), if_neg (by omega), hk]
  exact if_neg (by simp [h0, hu])

theorem mpeGrant_eq (hop : c.op = 6) (h10 : c.arg < 10) (h1 : 1 ≤ (c.input.getD 0 0).toNat) (h64 : (c.input.getD 0 0).toNat < 64) :
    s.mpeGrant = (s.setKid (Reg.MPE_AGKID_LO c.arg) (Reg.MPE_AGKID_HI c.arg) (c.input.getD 0 0).toNat ((c.input.getD 1 0).toNat == 1)).bzEnd c 0 [] 1 :=
  (bzRun_front hfront hop _).trans (if_neg (by omega))

/-! ## Signed records and transfers (R515, R516) -/

theorem signRecord_erased (hop : c.op = 7) (he : s.erasedOpen = true) : s.signRecord = s.bzEnd c 3 [] 1 := (bzRun_front hfront hop _).trans (if_pos he)

theorem signRecord_uncertified (hop : c.op = 7) (he : s.erasedOpen = false) (hn : s.notCert = true) : s.signRecord = s.bzEnd c 8 [] 1 :=
  (bzRun_front hfront hop _).trans ((if_neg (by rw [he]; decide)).trans (if_pos hn))

theorem signRecord_signs {k : VaultKey} (hop : c.op = 7) (he : s.erasedOpen = false) (hn : s.notCert = false) (h32 : c.arg < 32) (hin : 64 ≤ c.input.length)
    (hk : s.vaultKey c.arg = some k) (hu : k.usage.testBit 3 = true) :
    ∃ out, s.signRecord = (s.setSec (fun v => { v with signed := v.signed + 1 })).bzEnd c 0 out 1 ∧ out.length = 240 := by
  refine ⟨(s.setSec (fun v => { v with signed := v.signed + 1 })).signedRecord k c.input, (bzRun_front hfront hop _).trans ?_, signedRecord_length _ k hin⟩
  rw [if_neg (by rw [he]; decide), if_neg (by rw [hn]; decide), if_neg (by omega), hk]
  exact if_neg (by rw [hu]; decide)

theorem transferWrap_erased (hop : c.op = 8) (he : s.erasedOpen = true) : s.transferWrap = s.bzEnd c 3 [] 1 := (bzRun_front hfront hop _).trans (if_pos he)

theorem transferWrap_uncertified (hop : c.op = 8) (he : s.erasedOpen = false) (hn : s.notCert = true) : s.transferWrap = s.bzEnd c 8 [] 1 :=
  (bzRun_front hfront hop _).trans ((if_neg (by rw [he]; decide)).trans (if_pos hn))

theorem transferWrap_eq {k : VaultKey} {ca : Nat} (hop : c.op = 8) (he : s.erasedOpen = false) (hn : s.notCert = false) (h32 : c.arg < 32) (hin : 304 ≤ c.input.length)
    (hk : s.vaultKey c.arg = some k) (hca : s.sec.otp.uutca = some ca) (hu : k.usage.testBit 2 = true) :
    s.transferWrap = if Config.digest ((c.input.drop 96).take 96) ≠ ca ∨ (!Config.verify ((c.input.drop 96).take 96) (c.input.take 96) ((c.input.drop 192).take 96)) = true then s.bzEnd c 4 [] 1
      else s.drawn.bzEnd c 0 (s.transferBlob k c.input) 1 := by
  refine (bzRun_front hfront hop _).trans ?_
  rw [if_neg (by rw [he]; decide), if_neg (by rw [hn]; decide), if_neg (by omega), hk, hca]
  exact if_neg (by rw [hu]; decide)

/-! ## Evidence, certificates and random values (R509, R514) -/

theorem attest_answers (hop : c.op = 9) (hin : 48 ≤ c.input.length) : ∃ out, s.attest = s.bzEnd c 0 out 1 := ⟨_, (bzRun_front hfront hop _).trans (if_neg (by omega))⟩

theorem attest_short (hop : c.op = 9) (hin : c.input.length < 48) : s.attest = s.bzEnd c 2 [] 1 := (bzRun_front hfront hop _).trans (if_pos hin)

theorem getCert_identity (hop : c.op = 10) (h : c.arg = 0) : s.getCert = s.bzEnd c 0 ((s.sec.otp.cert.drop (leNat (c.input.take 4))).take 512) 1 := by
  refine (bzRun_front hfront hop _).trans ?_
  rw [h]
  rfl

theorem getCert_unknown (hop : c.op = 10) (h : 2 < c.arg) : s.getCert = s.bzEnd c 2 [] 1 := by
  refine (bzRun_front hfront hop _).trans ?_
  dsimp only
  split
  · omega
  · omega
  · omega
  · rfl

theorem random_draws (hop : c.op = 14) (h1 : 1 ≤ c.arg) (h64 : c.arg ≤ 64) :
    s.random = ({ s with free := s.free + c.arg } : State).bzEnd c 0 ((List.range c.arg).flatMap (fun i => leBytes 8 (Config.freeValue (s.free + i)).toNat)) 1 :=
  (bzRun_front hfront hop _).trans (if_neg (by omega))

theorem random_refused (hop : c.op = 14) (h : c.arg = 0 ∨ 64 < c.arg) : s.random = s.bzEnd c 2 [] 1 := (bzRun_front hfront hop _).trans (if_pos h)

end running
end ends

/-- Settles O55: the channel's word by what `bzGo` makes of it, each service by its own rule where it is the oldest command. -/
theorem bezelKeyServices : Obligations.BezelKeyServices := by
  unfold Obligations.BezelKeyServices
  intro s r chan w c rest kind usage
  have hchan := chan.isLt
  have hwrite (ho : s.bzOwner chan = none ∨ s.bzOwner chan = some r.code) (x : Word) :
      (s.touched r.code (Reg.BZ_CMD chan)).regWrite (Reg.BZ_CMD chan) r.code x = s.bzWrite chan r.code 0 x := by
    refine (regWrite_bezel s r.code x hchan (by decide)).trans ?_
    rw [bzInterfere_own ho]
  refine ⟨fun ha hb ho => ?go, fun ha hb ho => congrArg Host.Outcome.next (regAccess_refused (single_BZ_CMD chan hchan) ha ((hwrite ho _).trans (bzWrite_busy ho hb))),
    fun st out row _ hst => bzEnd_spec s c hst out row, fun h => ⟨congrArg Host.Outcome.next (bzRun_idle h), congrArg Host.Outcome.next (bzRun_idle h)⟩, fun hc hr hw hch => ?services⟩
  case go =>
    have hgo := (hwrite ho (w ||| 0x80000000)).trans (bzWrite_go ho hb (wbit_or_go w))
    refine ⟨_, congrArg Host.Outcome.next (regAccess_wrote (single_BZ_CMD chan hchan) ha hgo), ?_⟩
    exact bzGo_spec ((s.setBzOwner chan (some r.code)).wr (regKey 4 0x13 chan 0) ((w ||| 0x80000000) &&& 0x3FFFFFFF)) chan r.code w
  case services =>
    have hfront : s.Serves c := ⟨⟨rest, hc⟩, hr, hw, hch⟩
    refine ⟨fun h => congrArg Host.Outcome.next (bzRun_other hc h), fun hop hk hu => ⟨fun h1 h32 => ?gen, fun h => ?noGen⟩, fun hop h1 h32 hu hl => ?imported, fun k hop h32 hk => ?exported,
      fun hop h32 hk => congrArg Host.Outcome.next (keyExport_empty hfront hop h32 hk), fun hop h32 => congrArg Host.Outcome.next (keyDelete_eq hfront hop h32),
      fun he => ⟨fun hop => congrArg Host.Outcome.next (mpeLoad_erased hfront hop he), fun hop => congrArg Host.Outcome.next (signRecord_erased hfront hop he),
        fun hop => congrArg Host.Outcome.next (transferWrap_erased hfront hop he)⟩,
      fun k hop he h32 h1 h64 hk h0 hu => ⟨fun hs => ?slotInUse, fun hs => ?slotFree⟩,
      fun hop h10 h1 h64 => congrArg Host.Outcome.next (mpeGrant_eq hfront hop h10 h1 h64), fun k hop he hn h32 hin hk hu => ?signs, fun k ca hop he hn h32 hin hk hca hu => ?wraps,
      ⟨fun hop he hn => congrArg Host.Outcome.next (signRecord_uncertified hfront hop he hn), fun hop he hn => congrArg Host.Outcome.next (transferWrap_uncertified hfront hop he hn)⟩,
      fun hop => ⟨fun hin => ?attests, fun hin => congrArg Host.Outcome.next (attest_short hfront hop hin)⟩,
      fun hop => ⟨fun h => congrArg Host.Outcome.next (getCert_identity hfront hop h), fun h => congrArg Host.Outcome.next (getCert_unknown hfront hop h)⟩,
      fun hop => ⟨fun h1 h64 => ?draws, fun h => congrArg Host.Outcome.next (random_refused hfront hop h)⟩⟩
    case gen => exact congrArg Host.Outcome.next ((keyGen_derived hfront hop hk hu).trans (if_neg (by omega)))
    case noGen => exact congrArg Host.Outcome.next ((keyGen_derived hfront hop hk hu).trans (if_pos h))
    case imported => exact ⟨_, rfl, keyImport_eq hfront hop h1 h32 hu hl⟩
    case exported => exact congrArg Host.Outcome.next (keyExport_eq hfront hop h32 hk)
    case slotInUse => exact congrArg Host.Outcome.next ((mpeLoad_eq hfront hop he h32 h1 h64 hk h0 hu).trans (if_pos hs))
    case slotFree =>
      exact ⟨_, congrArg Host.Outcome.next ((mpeLoad_eq hfront hop he h32 h1 h64 hk h0 hu).trans (if_neg (by rw [hs]; decide))), slotFilled_spec s h64 k⟩
    case signs =>
      obtain ⟨out, hout, hlen⟩ := signRecord_signs hfront hop he hn h32 hin hk hu
      exact ⟨out, congrArg Host.Outcome.next hout, hlen⟩
    case wraps =>
      have h := transferWrap_eq hfront hop he hn h32 hin hk hca hu
      split
      case isTrue hgood => exact ⟨_, congrArg Host.Outcome.next (h.trans (if_neg (by simp [hgood.1, hgood.2])))⟩
      case isFalse hbad => exact congrArg Host.Outcome.next (h.trans (if_pos ((Decidable.not_and_iff_not_or_not.mp hbad).imp_right fun h => by simpa using h)))
    case attests =>
      obtain ⟨out, hout⟩ := attest_answers hfront hop hin
      exact ⟨out, congrArg Host.Outcome.next hout⟩
    case draws => exact ⟨_, congrArg Host.Outcome.next (random_draws hfront hop h1 h64), drawnBytes_length ..⟩

end Sys2Proof.Machine
end

section
/-!
PROOF. The end of a debug session, and what it leaves alone (R535).
-/
namespace Sys2Proof.Machine

section close
variable {s t u : State}

theorem leaveState_frame (s : State) (die p : Nat) (lv oe : Bool) (pull : Nat) : ∃ q, s.leaveState die p lv oe pull = { s with pins := q } := by
  unfold State.leaveState
  dsimp only
  split
  · exact ⟨_, rfl⟩
  · exact ⟨_, rfl⟩

/-- A change of what the boundary register drives is seen at the pins alone. -/
theorem withBoundary_frame (s : State) (f : State → State) : ∃ q, s.withBoundary f = { f s with pins := q } := by
  unfold State.withBoundary
  dsimp only
  split
  · refine List.foldlRecOn (motive := fun t : State => ∃ q, t = { f s with pins := q }) _ _ ⟨_, rfl⟩ fun t ht die _ => ?_
    refine List.foldlRecOn (motive := fun t : State => ∃ q, t = { f s with pins := q }) _ _ ht fun t ht p _ => ?_
    obtain ⟨q, rfl⟩ := ht
    obtain ⟨q', hq⟩ := leaveState_frame { f s with pins := q } die p (s.padDrive die p s.now).1 (s.padDrive die p s.now).2 (s.padPull die p s.now)
    exact ⟨q', hq⟩
  · exact ⟨_, rfl⟩

/-- The debug session stays, and every register of HD. -/
structure GateKept (s t : State) : Prop where
  session : t.session = s.session
  rd : ∀ k, keyDie k = 4 → t.rd k = s.rd k

theorem GateKept.rfl : GateKept s s := ⟨Eq.refl _, fun _ _ => Eq.refl _⟩

theorem GateKept.ite {c : Prop} [Decidable c] (ht : GateKept s t) (hu : GateKept s u) : GateKept s (if c then t else u) := by
  split
  · exact ht
  · exact hu

theorem GateKept.foldl {α : Type} {l : List α} {f : State → α → State} (h : GateKept s t) (hf : ∀ u a, GateKept s u → GateKept s (f u a)) : GateKept s (l.foldl f t) :=
  List.foldlRecOn l f (motive := GateKept s) h fun u hu a _ => hf u a hu

theorem GateKept.raise (h : GateKept s t) (sev code die unit inst : Nat) (late : Bool) : GateKept s (t.raise sev code die unit inst late) := ⟨h.session, h.rd⟩

theorem GateKept.setCore (h : GateKept s t) (i : Nat) (c : Core) : GateKept s (t.setCore i c) := ⟨h.session, h.rd⟩

theorem GateKept.haltFacet (h : GateKept s t) (die p : Nat) (dbg frz : Bool) : GateKept s (t.haltFacet die p dbg frz) := by
  obtain ⟨g, l, hframe⟩ := haltFacet_frame t die p dbg frz
  rw [hframe]
  exact ⟨h.session, h.rd⟩

/-- The frozen classes follow the cores: Facets halt or resume, with records, and queues. -/
theorem freezeFollows_frame (s : State) : ∃ f l q, s.freezeFollows = { s with facets := f, raised := l, net := q } := by
  have hfold : ∀ keys : List Nat, ∃ f l, keys.foldl (fun (t : State) key => t.haltFacet (keyDie key) (keyInst key) (t.facet (keyDie key) (keyInst key)).haltDbg (wbit (t.rd key) 1 && t.classHalted 3)) s =
      { s with facets := f, raised := l } := by
    intro keys
    refine List.foldlRecOn (motive := fun t : State => ∃ f l, t = { s with facets := f, raised := l }) _ _ ⟨_, _, rfl⟩ fun t ht key _ => ?_
    obtain ⟨f, l, rfl⟩ := ht
    obtain ⟨g, l', hg⟩ := haltFacet_frame { s with facets := f, raised := l } (keyDie key) (keyInst key)
      (State.facet { s with facets := f, raised := l } (keyDie key) (keyInst key)).haltDbg
      (wbit (State.rd { s with facets := f, raised := l } key) 1 && State.classHalted { s with facets := f, raised := l } 3)
    exact ⟨_, l', hg⟩
  obtain ⟨f, l, h⟩ := hfold ((s.csr.filter (fun e => keyUnit e.1 == 0x08 && keyOff e.1 == 0)).map (·.1))
  unfold State.freezeFollows
  dsimp only
  rw [h]
  exact ⟨_, _, _, rfl⟩

theorem GateKept.freezeFollows (h : GateKept s t) : GateKept s t.freezeFollows := by
  obtain ⟨f, l, q, hframe⟩ := freezeFollows_frame t
  rw [hframe]
  exact ⟨h.session, h.rd⟩

theorem GateKept.wdtReload (h : GateKept s t) {i : Nat} (hi : i < 6) : GateKept s (t.wdtReload i) := by
  have hdie : keyDie (Reg.CORE_WDT_STAT i) = 5 := keyDie_regKey (by decide) (by omega) (by decide)
  refine ⟨h.session, fun k hk => (rd_wr_other ?_).trans (h.rd k hk)⟩
  rintro rfl
  omega

theorem GateKept.coreResumes (h : GateKept s t) {i : Nat} (hi : i < 6) : GateKept s (t.coreResumes i) := by
  unfold State.coreResumes
  exact .ite h ((((GateKept.ite (h.wdtReload hi) h).setCore ..).raise ..).freezeFollows)

theorem GateKept.resumeAll (h : GateKept s t) : GateKept s t.resumeAll := by
  unfold State.resumeAll
  refine GateKept.foldl ?_ fun u k hu => hu.haltFacet ..
  exact List.foldlRecOn (motive := GateKept s) _ _ h fun u hu i hi => hu.coreResumes (List.mem_range.mp hi)

/-- A session as it is closed. -/
def Session.closed (x : Session) : Session :=
  { x with state := if x.state = 4 then 4 else 0, mode := 0, scope := 0, erased := false, challenge := none, key := 0, count := 0, bad := 0 }

theorem closeSession_eq (s : State) : s.closeSession =
    if s.session.state == 2 then ((s.withBoundary (fun s => { s with session := s.session.closed })).resumeAll).raise 3 0x000A 4 0x16 0
    else s.withBoundary (fun s => { s with session := s.session.closed }) := rfl

/-- The close of an open session: the gate is empty, the registers of HD stay, and the record is the last. -/
theorem closeSession_open (h : s.session.state = 2) :
    s.closeSession.session = s.session.closed ∧ (∀ k, keyDie k = 4 → s.closeSession.rd k = s.rd k) ∧
    s.closeSession.raised.getLast?.map (fun e => (e.sev, e.code)) = some (3, 0x000A) := by
  obtain ⟨q, hq⟩ := withBoundary_frame s (fun s => { s with session := s.session.closed })
  obtain ⟨hsession, hrd⟩ := GateKept.resumeAll (s := s.withBoundary (fun s => { s with session := s.session.closed })) .rfl
  rw [closeSession_eq, if_pos (by rw [h]; rfl)]
  generalize (s.withBoundary (fun s => { s with session := s.session.closed })).resumeAll = v at hsession hrd
  rw [hq] at hsession hrd
  refine ⟨hsession, hrd, ?_⟩
  simp [State.raise]

/-- A gate that is not open closes at the pins alone. -/
theorem closeSession_unopened (h : s.session.state ≠ 2) : ∃ q, s.closeSession = { s with session := s.session.closed, pins := q } := by
  rw [closeSession_eq, if_neg (by simpa using h)]
  exact withBoundary_frame s (fun s => { s with session := s.session.closed })

end close
end Sys2Proof.Machine
end

section
/-!
PROOF. The TAP and debug sessions (R528 to R535).
-/
namespace Sys2Proof.Machine

/-! ## Instructions of the TAP (R528) -/

section tap
variable {s : State} {code : Nat}

/-- An instruction in the TAP, with the constant its data register captures. -/
def State.irLoaded (s : State) (code : Nat) : State := s.withBoundary (fun s => s.setSession (fun x => { x with ir := code, dr := if code = 0x01 then idcode else 0 }))

theorem irLoaded_frame (s : State) (code : Nat) : ∃ q, s.irLoaded code = { s with pins := q, session := { s.session with ir := code, dr := if code = 0x01 then idcode else 0 } } :=
  withBoundary_frame s _

theorem irLoaded_session (s : State) (code : Nat) : (s.irLoaded code).session = { s.session with ir := code, dr := if code = 0x01 then idcode else 0 } := by
  obtain ⟨q, hq⟩ := irLoaded_frame s code
  rw [hq]

theorem irLoaded_csr (s : State) (code : Nat) : (s.irLoaded code).csr = s.csr := by
  obtain ⟨q, hq⟩ := irLoaded_frame s code
  rw [hq]

/-- Instructions that need no session. -/
theorem tapInstruction_free (h : code ∈ [0x01, 0x02, 0x10, 0xFF]) : s.tapInstruction code = s.irLoaded code := by
  simp only [List.mem_cons, List.not_mem_nil, or_false] at h
  obtain rfl | rfl | rfl | rfl := h <;> rfl

/-- Instructions that drive pins need the boundary scope. -/
theorem tapInstruction_boundary (h : code ∈ [0x00, 0x03, 0x04, 0x05, 0x06]) : s.tapInstruction code = if s.hasScope 5 then s.irLoaded code else (s.irLoaded 0xFF).dbgDenied := by
  simp only [List.mem_cons, List.not_mem_nil, or_false] at h
  obtain rfl | rfl | rfl | rfl | rfl := h <;> rfl

theorem tapInstruction_cfgData : s.tapInstruction 0x11 = if s.hasScope 4 then s.irLoaded 0x11 else (s.irLoaded 0xFF).dbgDenied := rfl

theorem session_dbgDenied (s : State) : s.dbgDenied.session = s.session := rfl

theorem bit_dbgDenied (s : State) : s.dbgDenied.bit Reg.DBG_ASTAT 9 = true := bit_flag_self (by decide)

/-- Cells shifted in under an instruction that is loaded. -/
theorem boundaryScan_loaded (h : s.tapInstruction code = s.irLoaded code) (k : Fin 960) (v : Bool × Bool) :
    (s.boundaryScan code [(k, v)]).session.ir = code ∧ (s.boundaryScan code [(k, v)]).session.cells.get k (false, false) = v := by
  have hir : (s.irLoaded code).session.ir = code := congrArg Session.ir (irLoaded_session s code)
  have hscan : s.boundaryScan code [(k, v)] = (s.irLoaded code).tapCells [(k.val, v)] := by
    unfold State.boundaryScan
    rw [h]
    exact if_pos hir
  have hcells : ((s.irLoaded code).tapCells [(k.val, v)]).session.cells = (s.irLoaded code).session.cells.set k v (false, false) := if_pos k.isLt
  rw [hscan, hcells]
  exact ⟨hir, SMap.get_set_self ..⟩

/-- An instruction that is refused takes no cells. -/
theorem boundaryScan_refused (h : s.tapInstruction code = (s.irLoaded 0xFF).dbgDenied) (hcode : code ≠ 0xFF) (cells : List (Fin 960 × Bool × Bool)) :
    s.boundaryScan code cells = (s.irLoaded 0xFF).dbgDenied := by
  have hir : (s.irLoaded 0xFF).dbgDenied.session.ir = 0xFF := congrArg Session.ir (irLoaded_session s 0xFF)
  unfold State.boundaryScan
  rw [h]
  exact if_neg fun hc => hcode (hc.symm.trans hir)

end tap

/-! ## Accesses of the access register (R534) -/

section access
variable {s t : State} {op addr : Nat} {data : Word}

/-- What the scopes of the session decide stays where its state and scopes do. -/
structure SameScopes (s t : State) : Prop where
  state : t.session.state = s.session.state
  scope : t.session.scope = s.session.scope
  rest : t = { s with session := t.session }

theorem SameScopes.hasScope (h : SameScopes s t) (b : Nat) : t.hasScope b = s.hasScope b := by
  unfold State.hasScope
  rw [h.state, h.scope]

theorem SameScopes.gateCovers (h : SameScopes s t) (a : Nat) : t.gateCovers a = s.gateCovers a := by
  unfold State.gateCovers
  simp only [h.hasScope, h.state]

theorem SameScopes.admits (h : SameScopes s t) (r : Requester) (key : Nat) (write : Bool) : t.admits r key write = s.admits r key write := by
  have hreach : t.reachable key = s.reachable key := by rw [h.rest]; rfl
  have hdecl : t.declines r.code (keyDie key) (keyUnit key) (keyOff key) write = s.declines r.code (keyDie key) (keyUnit key) (keyOff key) write := by rw [h.rest]; rfl
  have hden : t.denies r.code key write = s.denies r.code key write := by
    unfold State.denies
    simp only [h.hasScope]
  unfold State.admits
  rw [h.gateCovers, hreach, hdecl, hden]

/-- An access the TAP has asked for, as it waits for its completion. -/
def State.dagAsked (s : State) (addr : Nat) (data : Word) (own : Option (Nat × Nat)) : State :=
  s.setSession (fun x => { x with last := { x.last with addr := addr, data := data, tag := 0, run := true, own := own } })

theorem dagAccess_idle {tag : Nat} (h : s.session.ir ≠ 0x10 ∨ s.session.last.run = true ∨ (op ≠ 1 ∧ op ≠ 2)) : s.dagAccess op addr data tag = s := if_pos h

/-- An access as its tag is judged and it goes to the bus. -/
def State.dagJudged (s : State) (op addr : Nat) (data : Word) (tag : Nat) : State :=
  if s.inToken && requestTag s.session.key s.session.count op addr data != tag then s.tagMismatch
  else
    let t := s.setSession (fun x => { x with bad := 0 })
    if op = 1 then t.busRead .debugger addr 4 else t.busWrite .debugger addr 4 data

section asked
variable (ha : addr < 2 ^ 48) (hir : s.session.ir = 0x10) (hrun : s.session.last.run = false) (hop : op = 1 ∨ op = 2)
include ha hir hrun hop

theorem dagAccess_asked (tag : Nat) :
    s.dagAccess op addr data tag = (s.dagAsked (addr / 4 * 4) data (if s.inToken then some (s.session.key, s.session.count) else none)).dagJudged op (addr / 4 * 4) data tag := by
  unfold State.dagAccess
  dsimp only
  rw [Nat.mod_eq_of_lt ha]
  exact if_neg (by simp [hir, hrun]; omega)

theorem dagAccess_untagged {tag : Nat} (ht : s.inToken = false) :
    s.dagAccess op addr data tag = if op = 1 then ((s.dagAsked (addr / 4 * 4) data none).setSession (fun x => { x with bad := 0 })).busRead .debugger (addr / 4 * 4) 4
      else ((s.dagAsked (addr / 4 * 4) data none).setSession (fun x => { x with bad := 0 })).busWrite .debugger (addr / 4 * 4) 4 data := by
  have ht' : (s.dagAsked (addr / 4 * 4) data none).inToken = false := ht
  rw [dagAccess_asked ha hir hrun hop, ht, if_neg Bool.false_ne_true]
  exact if_neg (by rw [ht']; exact Bool.false_ne_true)

theorem dagAccess_mismatch {tag : Nat} (ht : s.inToken = true) (htag : requestTag s.session.key s.session.count op (addr / 4 * 4) data ≠ tag) :
    s.dagAccess op addr data tag = (s.dagAsked (addr / 4 * 4) data (some (s.session.key, s.session.count))).tagMismatch := by
  have ht' : (s.dagAsked (addr / 4 * 4) data (some (s.session.key, s.session.count))).inToken = true := ht
  rw [dagAccess_asked ha hir hrun hop, ht, if_pos rfl]
  refine if_pos ?_
  rw [ht', Bool.true_and]
  exact bne_iff_ne.mpr htag

end asked

/-- The completion of an access of the TAP. -/
theorem completeAccess_gate (hrun : s.session.last.run = true) (write : Bool) (a : Nat) (x : Resp) (v : Word) :
    (s.completeAccess 16 write a x v).csr = s.csr ∧ (s.completeAccess 16 write a x v).session.last.resp = x.code ∧ (s.completeAccess 16 write a x v).session.last.run = false ∧
    (s.completeAccess 16 write a x v).session.last.data = if write then s.session.last.data else v := by
  have h : s.completeAccess 16 write a x v = (s.answerTo 16 x v).gateDone x (if write then s.session.last.data else v) := by
    unfold State.completeAccess
    dsimp only
    rw [if_pos rfl]
    exact if_pos hrun
  rw [h]
  exact ⟨rfl, rfl, rfl, rfl⟩

theorem busRead_uncovered {a size : Nat} (h : s.gateCovers a = false) : s.busRead .debugger a size = s.completeAccess 16 false a .denied 0 := if_pos ⟨rfl, by rw [h]; rfl⟩

theorem busWrite_uncovered {a size : Nat} {w : Word} (h : s.gateCovers a = false) : s.busWrite .debugger a size w = s.completeAccess 16 true a .denied 0 := if_pos ⟨rfl, by rw [h]; rfl⟩

/-- A read of the debugger's own registers is a peek (R7). -/
theorem regFetch_peeked {key : Nat} (hk : singleReg key = true) (ha : s.admits .debugger key false = true) :
    s.regFetch .debugger key = ((s.touched 16 key).peek key).1.completeAccess 16 false (csrAddr key) .ok ((s.touched 16 key).peek key).2 := by
  simp only [singleReg, Bool.and_eq_true, decide_eq_true_eq, beq_iff_eq, Bool.not_eq_true'] at hk
  obtain ⟨⟨⟨⟨hlt, hal⟩, hia⟩, hdef⟩, hcxl⟩ := hk
  simp only [State.admits, Requester.code, bne_self_eq_false, Bool.false_or, Bool.and_eq_true, Bool.not_eq_true'] at ha
  obtain ⟨⟨⟨hg, hr⟩, hd⟩, hdc⟩ := ha
  unfold State.regFetch State.busRead
  simp only [Requester.code, hg, place_csrAddr hlt, csrAddr_aligned hal]
  simp [State.csrRead, hia, hdef, hcxl, State.memberRead, hr, hd, hdc]

theorem peek_ASTAT (s : State) : (s.touched 16 Reg.DBG_ASTAT).peek Reg.DBG_ASTAT = (s, s.astatRead) := rfl

/-! ## Tags (R534) -/

/-- A mismatch as it is counted. -/
def State.tagRefused (s : State) : State :=
  (s.setSession (fun x => { x with bad := x.bad + 1, last := { x.last with resp := Resp.denied.code, run := false, own := none } })).flag Reg.DBG_ASTAT 8

theorem tagMismatch_eq (s : State) : s.tagMismatch = if s.session.bad + 1 < 4 then s.tagRefused else s.tagRefused.closeSession.raise 4 (errCode 18 2) 4 0x16 0 := rfl

theorem tagRefused_flagged (s : State) : s.tagRefused.bit Reg.DBG_ASTAT 8 = true := bit_flag_self (by decide)

theorem tagMismatch_early (h : s.session.bad < 3) : s.tagMismatch = s.tagRefused := (tagMismatch_eq s).trans (if_pos (by omega))

theorem tagMismatch_fourth (h : 3 ≤ s.session.bad) (hstate : s.session.state = 2) :
    s.tagMismatch.session = s.tagRefused.session.closed ∧ s.tagMismatch.bit Reg.DBG_ASTAT 8 = true ∧
    s.tagMismatch.raised.getLast?.map (fun e => (e.sev, e.code)) = some (4, errCode 18 2) := by
  obtain ⟨hsession, hrd, -⟩ := closeSession_open (s := s.tagRefused) hstate
  have hbit := (bit_congr (hrd Reg.DBG_ASTAT (by decide)) 8).trans (tagRefused_flagged s)
  rw [tagMismatch_eq, if_neg (by omega)]
  generalize s.tagRefused.closeSession = v at hsession hbit
  refine ⟨hsession, hbit, ?_⟩
  simp [State.raise]

end access

/-! ## Sessions (R531 to R533) -/

section sessions
variable {s : State} {scope : Nat}

theorem regWrite_dbg (s : State) (req : Nat) (w : Word) {o : Nat} (ho : o < 0xF00) :
    (s.touched req (regKey 4 0x16 0 o)).regWrite (regKey 4 0x16 0 o) req w = s.dbgWrite o (regKey 4 0x16 0 o) req w := by
  have ho' : o < 4096 := by omega
  simp [State.touched, State.regWrite, keyUnit_regKey ho' (show 0 < 4096 by decide), keyOff_regKey ho', show o ≠ 4088 by omega, show o ≠ 4092 by omega]

/-- The word of an authorisation command. -/
theorem commandWord (scope : BitVec 8) {op : Nat} (hop : op < 8) :
    wfld (BitVec.ofNat 32 (scope.toNat * 256 + op)) 0 3 = op ∧ wfld (BitVec.ofNat 32 (scope.toNat * 256 + op)) 8 8 = scope.toNat := by
  have hs := scope.isLt
  unfold wfld
  rw [BitVec.toNat_ofNat]
  omega

theorem acmdWrite_password (scope : BitVec 8) : s.acmdWrite (BitVec.ofNat 32 (scope.toNat * 256 + 1)) = s.password scope.toNat := by
  obtain ⟨hop, hscope⟩ := commandWord scope (op := 1) (by decide)
  unfold State.acmdWrite
  rw [hop, hscope]
  rfl

theorem acmdWrite_challenge (scope : BitVec 8) : s.acmdWrite (BitVec.ofNat 32 (scope.toNat * 256 + 2)) = s.challenge scope.toNat := by
  obtain ⟨hop, hscope⟩ := commandWord scope (op := 2) (by decide)
  unfold State.acmdWrite
  rw [hop, hscope]
  rfl

/-- What a failed authorisation leaves, after `n` failures. -/
structure AuthFailed (n : Nat) (t : State) : Prop where
  fails : t.session.fails = min (n + 1) 8
  busy : t.session.busy = true
  challenge : t.session.challenge = none
  state : t.session.state = if 8 ≤ n + 1 then 4 else 0

theorem authFailed_spec (s : State) : AuthFailed s.session.fails s.authFailed := ⟨rfl, rfl, rfl, rfl⟩

theorem authFailed_recorded (s : State) : s.authFailed.raised.getLast?.map (fun e => (e.sev, e.code)) = some (4, errCode 18 1) := by simp [State.authFailed, State.raise]

theorem openSession_session (s : State) (mode scope key : Nat) : (s.openSession mode scope key).session =
    { s.session with state := 2, mode := mode, scope := scope, erased := false, fails := 0, challenge := none, key := key, count := 0, bad := 0 } := rfl

section password
variable (hr : s.authRefused scope = false) (hlc : s.sec.lc = 1 ∨ s.sec.lc = 2) (hoff : s.sec.otp.pwdOff = false)
include hr hlc hoff

theorem password_judged : s.password scope =
    if Config.digest (s.abuf 0 48) = s.sec.otp.password then (s.clearAbuf.setSession (fun x => { x with challenge := none, state := 0 })).openSession 1 (scope % 128 &&& 0x77) 0
    else (s.clearAbuf.setSession (fun x => { x with challenge := none, state := 0 })).authFailed := by
  have hl : [1, 2].contains s.sec.lc = true := by obtain h | h := hlc <;> rw [h] <;> rfl
  refine if_neg ?_
  show ¬ (s.authRefused scope || !([1, 2].contains s.sec.lc) || s.sec.otp.pwdOff) = true
  rw [hr, hl, hoff]
  decide

end password

theorem password_refused (h : s.authRefused scope = true ∨ (s.sec.lc ≠ 1 ∧ s.sec.lc ≠ 2) ∨ s.sec.otp.pwdOff = true) : s.password scope = s.clearAbuf.dbgDenied := by
  refine if_pos ?_
  show (s.authRefused scope || !([1, 2].contains s.sec.lc) || s.sec.otp.pwdOff) = true
  obtain h | h | h := h
  · rw [h]
    rfl
  · simp [h.1, h.2]
  · rw [h, Bool.or_true]

theorem scope_masked (scope : BitVec 8) : scope.toNat % 128 &&& 0x77 = scope.toNat &&& 0x77 := by
  have h : scope.toNat % 2 ^ 7 = scope.toNat &&& (2 ^ 7 - 1) := (Nat.and_two_pow_sub_one_eq_mod ..).symm
  rw [show (128 : Nat) = 2 ^ 7 from rfl, h, Nat.and_assoc]
  rfl

theorem session_putAbuf (s : State) (w : Nat) (l : List Byte) : (s.putAbuf w l).session = s.session :=
  List.foldlRecOn (motive := fun t : State => t.session = s.session) _ _ rfl fun _ ht _ _ => ht

theorem challenge_issued (hr : s.authRefused scope = false) (hlc : s.sec.lc ≠ 5) : ∃ n q, (s.challenge scope).session = { s.session with state := 1, challenge := some (n, q) } := by
  have hc : ¬ (s.clearAbuf.authRefused scope || s.clearAbuf.sec.lc == 5) = true := by
    rw [show s.clearAbuf.authRefused scope = false from hr, Bool.false_or]
    exact fun h => hlc (beq_iff_eq.mp h)
  unfold State.challenge
  dsimp only
  rw [if_neg hc, session_putAbuf, session_putAbuf, session_putAbuf]
  exact ⟨_, _, rfl⟩

theorem challenge_refused (h : s.authRefused scope = true ∨ s.sec.lc = 5) : s.challenge scope = s.clearAbuf.dbgDenied := by
  refine if_pos ?_
  show (s.authRefused scope || s.sec.lc == 5) = true
  obtain h | h := h
  · rw [h]
    rfl
  · rw [h, show (5 == 5) = true from rfl, Bool.or_true]

theorem closeCommand_open (hstate : s.session.state = 2) (he : s.session.erased = false) :
    s.closeCommand.session.state = 0 ∧ s.closeCommand.session.scope = 0 ∧ s.closeCommand.raised.getLast?.map (fun e => (e.sev, e.code)) = some (3, 0x000A) := by
  obtain ⟨hsession, -, hraised⟩ := closeSession_open hstate
  have hclose : s.closeCommand = s.closeSession.clearAbuf := if_neg (by rw [he]; decide)
  rw [hclose]
  generalize s.closeSession = v at hsession hraised
  refine ⟨(congrArg Session.state hsession).trans (if_neg (by rw [hstate]; decide)), congrArg Session.scope hsession, hraised⟩

/-! ## Responses (R532, R533) -/

/-- The message that a response signs. -/
def State.responseMessage (s : State) (n q scope : Nat) (d : List Byte) : List Byte :=
  [0x51, 0x44, 0x42, 0x47, 0x31] ++ leBytes 48 n ++ leBytes 8 s.sec.otp.serial ++ leBytes 48 (Config.digest (Config.publicKey identityKey)) ++ leBytes 1 scope ++ Config.publicKey q ++ d

/-- The buffer holds a response to the challenge. -/
def State.responseGood (s : State) (n q scope : Nat) : Prop :=
  Config.digest (s.abuf 48 96) = s.debugKeyHash ∧ Config.verify (s.abuf 48 96) (s.responseMessage n q scope (s.abuf 24 96)) (s.abuf 0 96) = true

theorem responseGood_iff {n q : Nat} : s.responseGood n q scope ↔ ¬ (Config.digest (s.abuf 48 96) ≠ s.debugKeyHash ∨
    (!Config.verify (s.abuf 48 96) (s.responseMessage n q scope (s.abuf 24 96)) (s.abuf 0 96)) = true) := by
  unfold State.responseGood
  simp

section response
variable {n q : Nat} {zfill : Bool} (hstate : s.session.state = 1) (hch : s.session.challenge = some (n, q)) (hscope : scope < 128)
include hstate hch hscope

theorem response_judged : s.response scope zfill false =
    if Config.digest (s.abuf 48 96) ≠ s.debugKeyHash ∨ (!Config.verify (s.abuf 48 96) (s.responseMessage n q scope (s.abuf 24 96)) (s.abuf 0 96)) = true then s.clearAbuf.authFailed
    else if s.sec.lc = 3 then s.clearAbuf.sessionErase scope (Config.derive (q + 2 ^ 384 * leNat (s.abuf 24 96)) n) zfill
    else s.clearAbuf.openSession 2 scope (Config.derive (q + 2 ^ 384 * leNat (s.abuf 24 96)) n) := by
  have hs : s.clearAbuf.session.state = 1 := hstate
  have hc : s.clearAbuf.session.challenge = some (n, q) := hch
  have hbit : scope.testBit 7 = false := Nat.testBit_lt_two_pow hscope
  unfold State.response
  dsimp only
  rw [hs, hc, if_neg Bool.false_ne_true]
  exact if_neg (by rw [hbit]; decide)

end response

theorem response_unasked (hstate : s.session.state ≠ 1) (scope : Nat) (zfill late : Bool) : s.response scope zfill late = s.clearAbuf.dbgDenied := by
  have hs : s.clearAbuf.session.state ≠ 1 := hstate
  unfold State.response
  dsimp only
  split
  case h_1 h _ => exact absurd h hs
  case h_2 => rfl

/-! ## A session that erases the device (R533) -/

theorem rd_clearAbuf (s : State) {k : Nat} (h : keyUnit k ≠ 0x16) : s.clearAbuf.rd k = s.rd k := by
  unfold State.rd State.clearAbuf
  dsimp only
  exact SMap.get_keep _ _ (by simp [h])

theorem sparesTrip_clearAbuf (s : State) : SparesTrip s s.clearAbuf := by
  have htemp : ∀ i < 10, keyUnit (Reg.GOV_TEMP (80 + i)) ≠ 0x16 := by decide
  exact ⟨rfl, rfl, rfl, fun i hi => rd_clearAbuf s (htemp i hi)⟩

/-- The session that waits for the release of the reset. -/
def State.eraseBegun (s : State) (scope key : Nat) (zfill : Bool) : State :=
  (((s.raise 6 (errCode 18 3) 4 0x16 0).wipeKeys).zeroFilled zfill).setSession (fun x => { x with state := 3, challenge := none, fails := 0, opening := some (scope, key) })

theorem sessionErase_eq (s : State) (scope key : Nat) (zfill : Bool) : s.sessionErase scope key zfill = (s.eraseBegun scope key zfill).deviceReset 5 := rfl

theorem sparesTrip_setSession (s : State) (f : Session → Session) : SparesTrip s (s.setSession f) := ⟨rfl, rfl, rfl, fun _ _ => rfl⟩

theorem sparesTrip_eraseBegun (s : State) (scope key : Nat) (zfill : Bool) : SparesTrip s (s.eraseBegun scope key zfill) := by
  have hraise : SparesTrip s (s.raise 6 (errCode 18 3) 4 0x16 0) := ⟨rfl, rfl, rfl, fun _ _ => rfl⟩
  unfold State.eraseBegun
  exact ((hraise.trans (sparesTrip_wipeKeys _)).trans (sparesTrip_zeroFilled _ zfill)).trans (sparesTrip_setSession ..)

/-- A device reset with a session due opens it as it is released. -/
theorem takeDeviceReset_opens {scope key : Nat} (hstate : s.session.state = 3) (ho : s.session.opening = some (scope, key)) (cause : Nat) :
    (s.takeDeviceReset cause).session.state = 2 ∧ (s.takeDeviceReset cause).session.erased = true := by
  obtain ⟨q, hq⟩ := closeSession_unopened (s := s) (by rw [hstate]; decide)
  have ho' : s.closeSession.session.opening = some (scope, key) := by rw [hq]; exact ho
  unfold State.takeDeviceReset
  dsimp only
  rw [ho']
  exact ⟨rfl, rfl⟩

end sessions

/-- Settles O57: instructions by what the TAP loads, accesses by the judgement of their tag, commands by what each makes of the session. -/
theorem debugGateGuardsAccess : Obligations.DebugGateGuardsAccess := by
  unfold Obligations.DebugGateGuardsAccess
  intro s x acmd replied failed
  have hidcode := tapInstruction_free (s := s) (code := 0x01) (by decide)
  refine ⟨⟨s.irLoaded 0x01, congrArg Host.Outcome.next hidcode, congrArg Host.Outcome.next hidcode, irLoaded_session .., irLoaded_csr ..⟩,
    ⟨s.irLoaded 0x10, congrArg Host.Outcome.next (tapInstruction_free (by decide)), irLoaded_session .., irLoaded_csr ..⟩,
    ⟨s.irLoaded 0xFF, congrArg Host.Outcome.next (tapInstruction_free (by decide)), irLoaded_session .., irLoaded_csr ..⟩,
    fun k v => ⟨_, rfl, boundaryScan_loaded (tapInstruction_free (by decide)) k v⟩, fun h5 => ?boundary, fun h5 => ?noBoundary, fun h4 => ?config, fun h4 => ?noConfig, ?access,
    fun scope ha => ⟨fun hr hlc hoff => ⟨fun hpw => ?password, fun hpw => ?wrong⟩, fun h => ?noPassword, fun hr hlc => ?challenge, fun h => ?noChallenge, fun hstate he => ?close⟩,
    ?response, fun h scope zfill late => congrArg (fun t => Host.Outcome.next (replied t)) (response_unasked h scope.toNat zfill late), fun h => congrArg Host.Outcome.next (if_pos h),
    fun h => congrArg Host.Outcome.next (if_neg h), rfl⟩
  case boundary =>
    have hload {code : Nat} (h : code ∈ [0x00, 0x03, 0x04, 0x05, 0x06]) : s.tapInstruction code = s.irLoaded code := (tapInstruction_boundary h).trans (if_pos h5)
    exact ⟨fun k v => ⟨⟨_, rfl, boundaryScan_loaded (hload (by decide)) k v⟩, ⟨_, rfl, boundaryScan_loaded (hload (by decide)) k v⟩, ⟨_, rfl, boundaryScan_loaded (hload (by decide)) k v⟩⟩,
      ⟨s.irLoaded 0x03, congrArg Host.Outcome.next (hload (by decide)), irLoaded_session ..⟩, ⟨s.irLoaded 0x04, congrArg Host.Outcome.next (hload (by decide)), irLoaded_session ..⟩⟩
  case noBoundary =>
    have hbypass {code : Nat} (h : code ∈ [0x00, 0x03, 0x04, 0x05, 0x06]) : s.tapInstruction code = (s.irLoaded 0xFF).dbgDenied :=
      (tapInstruction_boundary h).trans (if_neg (by rw [h5]; decide))
    exact ⟨(s.irLoaded 0xFF).dbgDenied, congrArg Host.Outcome.next (boundaryScan_refused (hbypass (by decide)) (by decide) []), congrArg Host.Outcome.next (hbypass (by decide)),
      congrArg Host.Outcome.next (hbypass (by decide)), irLoaded_session .., bit_dbgDenied _⟩
  case config => exact ⟨s.irLoaded 0x11, congrArg Host.Outcome.next (tapInstruction_cfgData.trans (if_pos h4)), irLoaded_session ..⟩
  case noConfig =>
    exact ⟨(s.irLoaded 0xFF).dbgDenied, congrArg Host.Outcome.next (tapInstruction_cfgData.trans (if_neg (by rw [h4]; decide))), irLoaded_session .., bit_dbgDenied _⟩
  case access =>
    intro op addr data tag a
    have haddr := addr.isLt
    refine ⟨fun h => ?idle, fun hir hrun hop ht hg => ?denied, fun hir hrun hop ht haddr' hadm => ?performed, fun hir hrun hop ht htag => ?mismatch⟩
    case idle =>
      refine congrArg Host.Outcome.next (dagAccess_idle (h.imp_right (Or.imp_right ?_)))
      rintro (rfl | rfl) <;> decide
    case denied =>
      have hop' : (op : Nat) = 1 ∨ (op : Nat) = 2 := hop.imp (congrArg Fin.val) (congrArg Fin.val)
      have hscopes : SameScopes s ((s.dagAsked a data none).setSession (fun x => { x with bad := 0 })) := ⟨rfl, rfl, rfl⟩
      have hg' := (hscopes.gateCovers a).trans hg
      have hstep := dagAccess_untagged (data := data) (tag := tag.toNat) haddr hir hrun hop' ht
      by_cases h1 : (op : Nat) = 1
      · obtain ⟨hcsr, hresp, hdone, -⟩ := completeAccess_gate (s := (s.dagAsked a data none).setSession (fun x => { x with bad := 0 })) rfl false a .denied 0
        exact ⟨_, congrArg Host.Outcome.next (hstep.trans ((if_pos h1).trans (busRead_uncovered hg'))), hcsr, hresp, hdone⟩
      · obtain ⟨hcsr, hresp, hdone, -⟩ := completeAccess_gate (s := (s.dagAsked a data none).setSession (fun x => { x with bad := 0 })) rfl true a .denied 0
        exact ⟨_, congrArg Host.Outcome.next (hstep.trans ((if_neg h1).trans (busWrite_uncovered hg'))), hcsr, hresp, hdone⟩
    case performed =>
      have hop' : (op : Nat) = 1 := congrArg Fin.val hop
      have hscopes : SameScopes s ((s.dagAsked a data none).setSession (fun x => { x with bad := 0 })) := ⟨rfl, rfl, rfl⟩
      have hstep := dagAccess_untagged (data := data) (tag := tag.toNat) haddr hir hrun (.inl hop') ht
      have hread := regFetch_peeked (by decide) ((hscopes.admits .debugger Reg.DBG_ASTAT false).trans hadm)
      rw [peek_ASTAT] at hread
      obtain ⟨-, hresp, -, hdata⟩ := completeAccess_gate (s := (s.dagAsked a data none).setSession (fun x => { x with bad := 0 })) rfl false (csrAddr Reg.DBG_ASTAT) .ok s.astatRead
      refine ⟨_, congrArg Host.Outcome.next (hstep.trans ((if_pos hop').trans ?_)), hresp, hdata⟩
      rw [show addr.toNat / 4 * 4 = csrAddr Reg.DBG_ASTAT from haddr']
      rw [show a = csrAddr Reg.DBG_ASTAT from haddr'] at hread ⊢
      exact hread
    case mismatch =>
      have hop' : (op : Nat) = 1 ∨ (op : Nat) = 2 := hop.imp (congrArg Fin.val) (congrArg Fin.val)
      have hstep := dagAccess_mismatch (data := data) (tag := tag.toNat) haddr hir hrun hop' ht htag
      have hstate : s.session.state = 2 := by
        unfold State.inToken at ht
        simp at ht
        exact ht.1
      by_cases hbad : x.bad < 3
      · refine ⟨_, congrArg Host.Outcome.next (hstep.trans (tagMismatch_early hbad)), rfl, tagRefused_flagged _, fun _ => ⟨hstate, rfl, rfl⟩, fun h => absurd h (by omega)⟩
      · obtain ⟨hsession, hflag, hraised⟩ := tagMismatch_fourth (s := s.dagAsked a data (some (s.session.key, s.session.count))) (by exact Nat.le_of_not_lt hbad) hstate
        refine ⟨_, congrArg Host.Outcome.next hstep, congrArg (fun y => y.last.resp) hsession, hflag, fun h => absurd h hbad, fun _ => ⟨(congrArg Session.state hsession).trans ?_, hraised⟩⟩
        exact if_neg fun h4 => absurd (hstate.symm.trans h4) (by decide)
  case password =>
    have hwrite := (regWrite_dbg s 16 (BitVec.ofNat 32 (scope.toNat * 256 + 1)) (o := 0) (by decide)).trans (congrArg (·, Resp.ok) (acmdWrite_password scope))
    refine ⟨_, congrArg Host.Outcome.next (regAccess_wrote single_DBG_ACMD ha (hwrite.trans (congrArg (·, Resp.ok) ((password_judged hr hlc hoff).trans (if_pos hpw))))), ?_⟩
    rw [openSession_session]
    exact ⟨rfl, rfl, scope_masked scope, rfl⟩
  case wrong =>
    have hwrite := (regWrite_dbg s 16 (BitVec.ofNat 32 (scope.toNat * 256 + 1)) (o := 0) (by decide)).trans (congrArg (·, Resp.ok) (acmdWrite_password scope))
    obtain ⟨hfails, hbusy, hch, hstate⟩ := authFailed_spec (s.clearAbuf.setSession (fun x => { x with challenge := none, state := 0 }))
    exact ⟨_, congrArg Host.Outcome.next (regAccess_wrote single_DBG_ACMD ha (hwrite.trans (congrArg (·, Resp.ok) ((password_judged hr hlc hoff).trans (if_neg hpw))))),
      ⟨hfails, hbusy, hch, hstate⟩, authFailed_recorded _⟩
  case noPassword =>
    have hwrite := (regWrite_dbg s 16 (BitVec.ofNat 32 (scope.toNat * 256 + 1)) (o := 0) (by decide)).trans (congrArg (·, Resp.ok) (acmdWrite_password scope))
    exact congrArg Host.Outcome.next (regAccess_wrote single_DBG_ACMD ha (hwrite.trans (congrArg (·, Resp.ok) (password_refused h))))
  case challenge =>
    have hwrite := (regWrite_dbg s 16 (BitVec.ofNat 32 (scope.toNat * 256 + 2)) (o := 0) (by decide)).trans (congrArg (·, Resp.ok) (acmdWrite_challenge scope))
    obtain ⟨n, q, hsession⟩ := challenge_issued hr hlc
    exact ⟨_, n, q, congrArg Host.Outcome.next (regAccess_wrote single_DBG_ACMD ha hwrite), hsession⟩
  case noChallenge =>
    have hwrite := (regWrite_dbg s 16 (BitVec.ofNat 32 (scope.toNat * 256 + 2)) (o := 0) (by decide)).trans (congrArg (·, Resp.ok) (acmdWrite_challenge scope))
    exact congrArg Host.Outcome.next (regAccess_wrote single_DBG_ACMD ha (hwrite.trans (congrArg (·, Resp.ok) (challenge_refused h))))
  case close =>
    exact ⟨s.closeCommand, congrArg Host.Outcome.next (regAccess_wrote single_DBG_ACMD ha (regWrite_dbg s 16 4 (o := 0) (by decide))), closeCommand_open hstate he⟩
  case response =>
    intro scope zfill n q hstate hch hscope d msg good
    have hjudged := response_judged (zfill := zfill) hstate hch hscope
    refine ⟨_, rfl, fun hgood hlc => ?opened, fun hgood hlc hpor hready => ?erased, fun hbad => ?failed⟩
    case opened =>
      rw [hjudged, if_neg (responseGood_iff.mp hgood), if_neg hlc, openSession_session]
      exact ⟨rfl, rfl, rfl, rfl, rfl, rfl⟩
    case erased =>
      have hbegun := sparesTrip_eraseBegun s.clearAbuf scope.toNat (Config.derive (q + 2 ^ 384 * leNat d) n) zfill
      have hreset := deviceReset_ready (s := s.clearAbuf.eraseBegun scope.toNat (Config.derive (q + 2 ^ 384 * leNat d) n) zfill) ((congrArg Clocks.por hbegun.clk).trans hpor)
        (hbegun.resetReady.trans ((sparesTrip_clearAbuf s).resetReady.trans hready)) 5
      obtain ⟨hvault, -, -, hcause⟩ := restarted_takeDeviceReset (s.clearAbuf.eraseBegun scope.toNat (Config.derive (q + 2 ^ 384 * leNat d) n) zfill) (cause := 5) (by decide)
      obtain ⟨hopen, herased⟩ := takeDeviceReset_opens (s := s.clearAbuf.eraseBegun scope.toNat (Config.derive (q + 2 ^ 384 * leNat d) n) zfill) rfl rfl 5
      rw [hjudged, if_neg (responseGood_iff.mp hgood), if_pos hlc, sessionErase_eq, hreset]
      exact ⟨hopen, herased, hvault, hcause⟩
    case failed =>
      have hcond := Decidable.not_not.mp (mt responseGood_iff.mpr (show ¬ s.responseGood n q scope.toNat from hbad))
      obtain ⟨hfails, hbusy, hnone, hgate⟩ := authFailed_spec s.clearAbuf
      rw [hjudged, if_pos hcond]
      exact ⟨hfails, hbusy, hnone, hgate⟩

end Sys2Proof.Machine
end

section
/-!
PROOF. Run control (R536): where the statement about breakpoints fails.
-/
namespace Sys2Proof.Machine

/-- Core 0 runs in user mode after reset; its `ebrk` is 0. -/
def userModeCore : State := State.reset.setCore 0 { run := .running, priv := 0 }

theorem userModeCore_core : userModeCore.core 0 = { run := .running, priv := 0 } := by decide

theorem userModeCore_ebrk : userModeCore.bit (Reg.CORE_RC 0) 3 = false := by decide

/-- A breakpoint that does not halt is an exception, taken in machine mode. -/
theorem ebreak_priv {s : State} {i : Nat} {pc : BitVec 64} (hrun : (s.core i).run = .running) (he : s.bit (Reg.CORE_RC i) 3 = false) : ((s.ebreak i pc).core i).priv = 3 := by
  have h : s.ebreak i pc = s.setCore i { s.core i with priv := 3, regs := (((s.core i).regs.set 0x341 pc 0).set 0x342 3 0) } :=
    (if_neg (not_not_intro hrun)).trans (if_neg (by rw [he]; decide))
  rw [h]
  exact congrArg Core.priv (SMap.get_set_self ..)

/-- Refutes O58: a core in user mode that meets a breakpoint with `ebrk` = 0 takes the exception in machine mode (R536), while the statement keeps its mode. -/
theorem not_runControlStopsAndResumes : ¬ Obligations.RunControlStopsAndResumes := by
  unfold Obligations.RunControlStopsAndResumes
  intro h
  obtain ⟨-, -, -, hbreak, -⟩ := h userModeCore (.agent 0) 0
  have hrun : (userModeCore.core 0).run = .running := congrArg Core.run userModeCore_core
  have hstep := (hbreak 0 hrun).2 userModeCore_ebrk
  have hstate := Host.Outcome.next.inj hstep
  have hpriv := (ebreak_priv (pc := 0) hrun userModeCore_ebrk).symm.trans (congrArg (fun t : State => (t.core 0).priv) hstate)
  have hkept := hpriv.trans (congrArg Core.priv (State.setCore_self ..))
  have huser : (userModeCore.core 0).priv = 0 := congrArg Core.priv userModeCore_core
  exact absurd (hkept.trans huser) (by decide)

end Sys2Proof.Machine
end

section
/-!
PROOF. The event recorder (R548 to R555).
-/
namespace Sys2Proof.Machine

section recorder
variable {s : State}

theorem regWrite_REC_CMD (s : State) (req : Nat) (w : Word) : (s.touched req Reg.REC_CMD).regWrite Reg.REC_CMD req w = (s.recCmdWrite w, .ok) := rfl

theorem recorder_count (s : State) (k n : Nat) : (s.count k n).recorder = s.recorder := rfl

theorem recorder_flag (s : State) (k i : Nat) : (s.flag k i).recorder = s.recorder := rfl

/-! ## Arrival (R548, R550) -/

section arrival
variable {a : Raised} {rest : List Raised} (hraised : s.raised = a :: rest) (hclock : s.clk.hold = false ∨ s.bit Reg.CLK_STAT 16 = true)

/-- The places after the first are not the first. -/
theorem places_after_first (rest : List Raised) : ((rest.zipIdx 1).filter (fun e => [0].contains e.2)).map (·.1) = [] ∧ ((rest.zipIdx 1).filter (fun e => !([0].contains e.2))).map (·.1) = rest := by
  have hplace : ∀ e ∈ rest.zipIdx 1, [0].contains e.2 = false := by
    intro e he
    have hle := List.le_snd_of_mem_zipIdx he
    simp
    omega
  rw [List.filter_eq_nil_iff.mpr fun e he => by rw [hplace e he]; decide, List.filter_eq_self.mpr fun e he => by rw [hplace e he]; decide, List.zipIdx_map_fst]
  exact ⟨rfl, rfl⟩

/-- The first record of those on their way is picked, the others stay. -/
theorem picked_first (a : Raised) (rest : List Raised) :
    ((a :: rest).zipIdx.filter (fun e => [0].contains e.2)).map (·.1) = [a] ∧ ((a :: rest).zipIdx.filter (fun e => !([0].contains e.2))).map (·.1) = rest := by
  obtain ⟨hnone, hrest⟩ := places_after_first rest
  rw [List.zipIdx_cons, List.filter_cons_of_pos (by rfl), List.filter_cons_of_neg (by simp), List.map_cons, hnone, hrest]
  exact ⟨rfl, rfl⟩

include hraised hclock in
theorem recordsArrive_first : s.recordsArrive [0] = State.recordArrive { s with raised := rest } a := by
  obtain ⟨hpicked, hrest⟩ := picked_first a rest
  have hrun : ¬ (s.clk.hold && !s.bit Reg.CLK_STAT 16) = true := by
    obtain h | h := hclock <;> simp [h]
  unfold State.recordsArrive
  dsimp only
  rw [if_neg hrun, hraised, hpicked, hrest]
  rfl

theorem recordsArrive_none (s : State) : s.recordsArrive [] = s := by
  have hkept : (s.raised.zipIdx.filter (fun e => !([] : List Nat).contains e.2)).map (·.1) = s.raised := by
    have hall : s.raised.zipIdx.filter (fun e => !([] : List Nat).contains e.2) = s.raised.zipIdx := List.filter_eq_self.mpr fun _ _ => rfl
    rw [hall, List.zipIdx_map_fst]
  have hnone : (s.raised.zipIdx.filter (fun e => ([] : List Nat).contains e.2)).map (·.1) = [] := by simp
  unfold State.recordsArrive
  dsimp only
  rw [hkept, hnone]
  split <;> rfl

/-- A record as it is accepted, with its snapshot. -/
def Raised.recorded (a : Raised) (seq sev : Nat) (snap : List (Option Word)) : Rec :=
  { seq := seq, sev := sev, trig := a.trig, die := a.die, inst := a.inst, code := a.code, dt := a.dt, phase := a.phase, snap := snap, flags := a.flags, late := a.late, held := a.held }

theorem acceptRecord_queued {snap : List (Option Word)} (h7 : a.sev < 7) (hroom : s.recorder.fifo.length < 64) :
    s.acceptRecord a snap = s.setRecorder (fun c => { c with seq := (c.seq + 1) % 4194304, pulses := c.pulses.set a.sev (some s.now) none, fifo := c.fifo ++ [a.recorded c.seq a.sev snap] }) :=
  (if_neg (by omega)).trans (if_neg (by omega))

theorem acceptRecord_dropped {snap : List (Option Word)} (h7 : a.sev < 7) (hfull : 64 ≤ s.recorder.fifo.length) :
    s.acceptRecord a snap = (s.count Reg.REC_DROP 1).flag Reg.REC_STAT 2 := (if_neg (by omega)).trans (if_pos hfull)

theorem acceptRecord_sev7 {snap : List (Option Word)} (h7 : a.sev = 7) (hroom : s.recorder.fifo7.length < 16) :
    s.acceptRecord a snap = s.setRecorder (fun c => { c with seq := (c.seq + 1) % 4194304, pulses := c.pulses.set a.sev (some s.now) none, fifo7 := c.fifo7 ++ [a.recorded c.seq 7 snap] }) :=
  (if_pos h7).trans (if_neg (by omega))

theorem recordArrive_filtered (h : s.recordPasses a = false) : s.recordArrive a = s := if_neg (by rw [h]; decide)

/-- A record that passes its filter is accepted with the snapshot taken then. -/
theorem recordArrive_passed (h : s.recordPasses a = true) : ∃ snap, s.recordArrive a = s.acceptRecord a snap := ⟨_, if_pos h⟩

end arrival

/-! ## The store (R552, R553) -/

theorem recorder_putRecord (s : State) (k : Nat) (x : Rec) :
    (s.putRecord k x).recorder = { s.recorder with store := s.recorder.store.set k (some (x, s.recorder.age)) none, age := s.recorder.age + 1 } := by
  unfold State.putRecord
  dsimp only
  split
  · rfl
  · rfl

theorem mainSlot_empty {store : SMap (Option (Rec × Nat))} {k : Nat} (sev : Nat) (h : emptySlot store 0 7936 = some k) : mainSlot store sev = some k := by
  unfold mainSlot
  rw [show emptySlot store 0 sev7Base = some k from h]

theorem storeMain_put {k : Nat} {x : Rec} (h : mainSlot s.recorder.store x.sev = some k) : s.storeMain x = s.putRecord k x := by
  unfold State.storeMain
  rw [h]

theorem storeMain_dropped {x : Rec} (h : mainSlot s.recorder.store x.sev = none) : s.storeMain x = (s.count Reg.REC_DROP 1).flag Reg.REC_STAT 1 := by
  unfold State.storeMain
  rw [h]

/-- A record of severity 7 takes the lowest empty slot of its partition, which is not the last one. -/
theorem storeSev7_put {k : Nat} {x : Rec} (h : emptySlot s.recorder.store 7936 256 = some k)
    (hroom : (emptySlot (s.recorder.store.set k (some (x, s.recorder.age)) none) 7936 256).isSome = true) : s.storeSev7 x = s.putRecord k x := by
  have hleft : (emptySlot (s.putRecord k x).recorder.store sev7Base (storeSize - sev7Base)).isNone = false := by
    rw [recorder_putRecord, Option.isNone_eq_false_iff]
    exact hroom
  unfold State.storeSev7
  rw [show emptySlot s.recorder.store sev7Base (storeSize - sev7Base) = some k from h]
  exact if_neg (by rw [hleft]; decide)

section queued
variable {x : Rec} {rest : List Rec}

theorem recordStore_main (h : s.recorder.fifo = x :: rest) : s.recordStore false =
    if s.recorder.frozen then (s.setRecorder (fun c => { c with fifo := rest })).count (Reg.REC_FRZCNT x.sev) 1 else (s.setRecorder (fun c => { c with fifo := rest })).storeMain x := by
  unfold State.recordStore
  rw [if_neg Bool.false_ne_true, h]
  rfl

theorem recordStore_sev7 (h : s.recorder.fifo7 = x :: rest) : s.recordStore true = (s.setRecorder (fun c => { c with fifo7 := rest })).storeSev7 x := by
  unfold State.recordStore
  rw [if_pos rfl, h]

end queued

theorem recordStore_idle (h : s.recorder.fifo = []) : s.recordStore false = s := by
  unfold State.recordStore
  rw [if_neg Bool.false_ne_true, h]

theorem recordStore_idle7 (h : s.recorder.fifo7 = []) : s.recordStore true = s := by
  unfold State.recordStore
  rw [if_pos rfl, h]

/-! ## Freezes (R554, R555) -/

theorem recordFreeze_begins (h : s.recorder.frozen = false) :
    s.recordFreeze = (List.range 7).foldl (fun t n => t.wr (Reg.REC_FRZCNT n) 0) (s.setRecorder (fun c => { c with frozen := true, since := s.now })) := if_neg (by rw [h]; decide)

theorem recordFreeze_kept (h : s.recorder.frozen = true) : s.recordFreeze = s := if_pos h

theorem recordUnfreeze_ends (h : s.recorder.frozen = true) :
    s.recordUnfreeze = (s.setRecorder (fun c => { c with frozen := false, seq := (c.seq + 1) % 4194304 })).storeMain s.gapRecord := if_neg (by rw [h]; decide)

theorem recordUnfreeze_idle (h : s.recorder.frozen = false) : s.recordUnfreeze = s := if_pos (by rw [h]; rfl)

theorem recorder_foldl_wr (l : List Nat) (f : Nat → Nat) (s : State) : (l.foldl (fun t n => t.wr (f n) 0) s).recorder = s.recorder :=
  List.foldlRecOn (motive := fun t : State => t.recorder = s.recorder) _ _ rfl fun _ ht _ _ => ht

theorem recCmdWrite_freeze : s.recCmdWrite 1 = s.recordFreeze := rfl

theorem recCmdWrite_unfreeze : s.recCmdWrite 2 = s.recordUnfreeze := rfl

theorem recCmdWrite_clear : s.recCmdWrite 4 = s.recordClear := rfl

end recorder
/-- Settles O59: arrival by the filter and the room of its queue, storing by the slot found, commands by the freeze they begin or end. -/
theorem recorderKeepsRecords : Obligations.RecorderKeepsRecords := by
  unfold Obligations.RecorderKeepsRecords
  intro s r c rec_
  refine ⟨fun a rest hraised hclock => ?arrival, congrArg Host.Outcome.next (recordsArrive_none s), fun x rest hfifo => ⟨fun k hf hk => ?stored, fun hf => ?counted, fun hf hk => ?dropped⟩,
    fun x rest k hfifo hk hroom => ?stored7, fun h => congrArg Host.Outcome.next (recordStore_idle h), fun h => congrArg Host.Outcome.next (recordStore_idle7 h), fun ha => ?commands,
    fun h => congrArg Host.Outcome.next (if_pos h), fun h hf => congrArg Host.Outcome.next ((if_neg h).trans (recordUnfreeze_ends hf))⟩
  case arrival =>
    have harrives := recordsArrive_first hraised hclock
    refine ⟨fun h => congrArg Host.Outcome.next (harrives.trans (recordArrive_filtered h)), fun h h7 => ?_, fun h h7 hroom => ?_⟩
    · obtain ⟨snap, hsnap⟩ := recordArrive_passed (s := { s with raised := rest }) h
      refine ⟨fun hroom => ?_, fun hfull => ?_⟩
      · exact ⟨_, a.recorded c.seq a.sev snap, congrArg Host.Outcome.next (harrives.trans (hsnap.trans (acceptRecord_queued h7 hroom))), rfl, rfl, rfl, rfl, rfl, rfl, rfl, rfl, rfl, rfl, rfl⟩
      · exact ⟨_, congrArg Host.Outcome.next (harrives.trans (hsnap.trans (acceptRecord_dropped h7 hfull))), rfl, bit_flag_self (by decide)⟩
    · obtain ⟨snap, hsnap⟩ := recordArrive_passed (s := { s with raised := rest }) h
      exact ⟨_, a.recorded c.seq 7 snap, congrArg Host.Outcome.next (harrives.trans (hsnap.trans (acceptRecord_sev7 h7 hroom))), rfl, rfl, rfl, rfl⟩
  case stored =>
    refine ⟨_, congrArg Host.Outcome.next ((recordStore_main hfifo).trans ((if_neg (by rw [show s.recorder.frozen = false from hf]; decide)).trans (storeMain_put (mainSlot_empty x.sev hk)))), ?_⟩
    exact recorder_putRecord ..
  case counted => exact congrArg Host.Outcome.next ((recordStore_main hfifo).trans (if_pos hf))
  case dropped =>
    exact congrArg Host.Outcome.next ((recordStore_main hfifo).trans ((if_neg (by rw [show s.recorder.frozen = false from hf]; decide)).trans (storeMain_dropped hk)))
  case stored7 => exact ⟨_, congrArg Host.Outcome.next ((recordStore_sev7 hfifo).trans (storeSev7_put hk hroom)), recorder_putRecord ..⟩
  case commands =>
    have hwrote {t : State} {w : Word} (h : s.recCmdWrite w = t) : s.regAccess r Reg.REC_CMD w = t.wrote r Reg.REC_CMD :=
      regAccess_wrote single_REC_CMD ha ((regWrite_REC_CMD s r.code w).trans (congrArg (·, Resp.ok) h))
    refine ⟨fun hf => ⟨_, congrArg Host.Outcome.next (hwrote (recCmdWrite_freeze.trans (recordFreeze_begins hf))), recorder_foldl_wr .., fun k hk => ?_⟩,
      fun hf => congrArg Host.Outcome.next (hwrote (recCmdWrite_freeze.trans (recordFreeze_kept hf))), fun hf => congrArg Host.Outcome.next (hwrote (recCmdWrite_unfreeze.trans (recordUnfreeze_ends hf))),
      fun hf => congrArg Host.Outcome.next (hwrote (recCmdWrite_unfreeze.trans (recordUnfreeze_idle hf))), congrArg Host.Outcome.next (hwrote recCmdWrite_clear)⟩
    exact rd_foldl_zero Reg.REC_FRZCNT (List.mem_range.mpr hk) _

end Sys2Proof.Machine
end
